-- ==== Sys2Proof/Word.lean ====
section
/-!
DEFINITION. The word types of the NX-1152 (R3, R380): a byte, a 16-bit code, a 32-bit register word.
-/

namespace Sys2Proof

/-- One byte of a memory, a cell, a barge or a frame. -/
abbrev Byte := BitVec 8

/-- A 16-bit code: a Q1.15 sample, target, coefficient or drive code. -/
abbrev Half := BitVec 16

/-- A register word: every register is 32 bits wide and little-endian. -/
abbrev Word := BitVec 32

end Sys2Proof
end

