-- ==== Sys2Proof/Syntax.lean ====
section
/-!
DEFINITION. The commands of the NX-1152, one constructor of Instr per row of spec/opcode_table.json, with the
data each command brings with it: the arguments of a host command (R289), the words of a register access (R258),
or what the outside world supplies with an event (samples, frames, measurements).
-/

namespace Sys2Proof

/-- Where a host command was taken from (R287): its queue (0xFFFF for the policy ring), TAG and priority. -/
structure Src where
  /-- Command queue 0–4095, or 0xFFFF for a policy ring (completion SOURCE, R287). -/
  queue : Nat
  /-- The command's TAG, 64 bits. -/
  tag : Nat
  /-- The priority of the command, 0–7; its completion takes the same (DEDUCED, log 12). -/
  prio : Nat
deriving DecidableEq, Repr

/-- A TB0 time as a cell or notice carries it (R91, R182, R289). -/
structure TimeField where
  sec : Nat
  ns : Nat
  frac : Nat
deriving DecidableEq, Repr

/-- The four quad-photodiode samples of one mirror on one tick (R33); mirror 0–1159 is array A, 1160–2319 array B. -/
structure Quad where
  mirror : Nat
  qa : Half
  qb : Half
  qc : Half
  qd : Half
deriving DecidableEq, Repr

/-- The windlass fields of an uplink trailer (R210). -/
structure Trailer where
  /-- WL_HOLDER: 0, 1 or 3. -/
  holder : Nat
  epoch : Nat
  last : Nat
  /-- WL_RESULT: 0 none, 1 GRANTED, 2 REFUSED_DRIVING, 3 REFUSED_OTHER. -/
  result : Nat
  token : Nat
  /-- HELD, after QUERY_HELD: the head's held drive codes, by axis. -/
  held : List (Nat × Half) := []
deriving DecidableEq, Repr

/-- A head descriptor, to the level the manual uses it (R77, R78, R65, R197, R372). -/
structure HeadDesc where
  /-- Side the head serves: 0 A, 1 B. -/
  side : Nat
  /-- Towpath port the module is cabled to. -/
  port : Nat
  /-- Velocity limit, LSB/s. -/
  vmax : Nat
  /-- Acceleration limit, LSB/s². -/
  amax : Nat
  /-- Jerk limit, LSB/s³. -/
  jmax : Nat
  /-- Park drive code. -/
  park : Half
  /-- Slew budget, 10 mA units. -/
  budget : Nat
  /-- Amplifier current per LSB/tick² of acceleration, 10 mA units. -/
  coef : Nat
deriving DecidableEq, Repr

/-- An uncorrectable error in data on the control path (R339). -/
inductive CtrlErr where
  /-- Reach stores: the loop state of one axis. -/
  | loopState (axis : Nat)
  /-- A bank or schedule record word, read from its second copy: the word's BAR0 offset. -/
  | record (off : Nat)
  /-- A trajectory sample of one axis. -/
  | trajSample (axis : Nat)
  /-- A trajectory header of one axis. -/
  | trajHeader (axis : Nat)
deriving DecidableEq, Repr

/-- A trajectory buffer (R73). -/
structure TrajBuf where
  axis : Nat
  start : Nat
  wave2 : Bool
  park : Bool
  fallback : Bool
  /-- FINAL: final target, or the park drive where PARK is set. -/
  final : Half
  model : Nat
  /-- LEN samples of target and ff, 1–128. -/
  samples : List (Half × Half)
deriving DecidableEq, Repr

/-- One axis record of a copy frame (R35, R199): 22 bytes of loop state and the repetitive-memory sample; as it stands here, that of an
axis in its reset state. -/
structure AxisRec where
  /-- Its place among the 4,640 records: 580 × reach + slot. -/
  place : Nat
  i : BitVec 40 := 0
  d : BitVec 32 := 0
  ePrev : Half := 0
  u : Half := 0
  target : Half := 0
  traj : Nat := 0
  offset : Half := 0
  /-- State, mode, region and sticky flags, packed as AXIS_FLAGS[18:16], [27:26], [23:21], [6:0]. -/
  state : Nat := 6
  mode : Nat := 1
  region : Nat := 0
  sticky : Nat := 0
  loss : Nat := 0
  rep : Half := 0
deriving DecidableEq, Repr

/-- The header of a tether frame (R199): what stands between VERSION and REACH. -/
structure FrameHeader where
  /-- Sender's pair state. -/
  state : Nat
  role : Nat := 0
  handoverReq : Bool := false
  rung : Nat := 0
  period : Nat := 20000
  /-- Tick number of the pair. -/
  seq : Nat
  /-- Windlass epoch of head A held by the sender. -/
  epoch : Nat := 0
  /-- Sender's TB2 nanosecond count at the frame's first bit. -/
  tTx : Nat := 0
  /-- Sender's TB2 nanosecond count at which the partner's last frame arrived, and that frame's SEQ. -/
  tRxPeer : Nat := 0
  seqRxPeer : Nat := 0
  /-- Last journal message sent, or in a RETURN frame applied. -/
  journalSeq : Nat := 0
  imageHash : Nat := 0
  fw : Nat := 0
  cycleId : Nat := 0
  /-- RETURN only: SEQ of the oldest copy frame to be repaired, and the mask of lost frames after it. -/
  repairSeq : Nat := 0
  repairMask : Nat := 0
deriving DecidableEq, Repr

/-- A copy frame (R199): the header, the REACH fields and the axis records. -/
structure CopyFrame extends FrameHeader where
  /-- Class index k of class c of reach r at position 16 r + c. -/
  classK : List (Nat × Nat)
  /-- LAW_BANK_SEL.ACTIVE of each reach. -/
  active : List (Nat × Nat)
  /-- The records; a place not listed has the record of an axis in its reset state. -/
  axes : List AxisRec
  /-- CHECK valid and the frame complete. -/
  ok : Bool
deriving DecidableEq, Repr

/-- A RETURN frame (R200): the header alone. -/
structure ReturnFrame extends FrameHeader where
  /-- CHECK valid and the frame complete. -/
  ok : Bool
deriving DecidableEq, Repr

/-- Entry of a plan: A mirror and its B mirror (R173); a mirror not listed has no circuit. -/
abbrev Peer := List (Nat × Nat)

/-- A pointing-map entry, 16 bytes little-endian (R60). -/
abbrev MapEntry := BitVec 128

/-- The straps (R365): ROLE, PLANE[3:0], SWITCH_ID[7:0]. -/
structure Straps where
  role : Nat
  plane : Nat
  switchId : Nat
deriving DecidableEq, Repr

/-- A structure image, to the level this manual gives it (R327–R329, R390): the verdicts of its checks, its identity,
its section table, and the values it holds for the fields, maps and plans the manual names. -/
structure Image where
  headerOk : Bool
  sigOk : Bool
  digestOk : Bool
  tableOk : Bool
  crcOk : Bool
  length : Nat
  hash : Nat
  fw : Nat
  /-- Section type, length and CRC-32C (R328). -/
  sections : List (Nat × Nat × Nat)
  /-- SIGNER, and the SHA-384 hash of the OWNER_KEY section (R327, R330); sigOk says that the signature verifies under the signer's
  key. -/
  signer : Nat := 0
  ownerKey : Nat := 0
  /-- Image value of a register word, by BAR0 offset (R390); a word not listed has its reset value as image value. -/
  vals : List (Nat × Word)
  /-- Axes whose place differs from the default map (R27): axis, 1024 × reach + slot. -/
  axisMap : List (Nat × Nat)
  /-- Compatibility list: KIND and VALUE (R329). -/
  compat : List (Nat × Nat)
  /-- Cabling plan (R242): plane, switch, refresh interval. -/
  cabPlane : Nat
  cabSwitch : Nat
  refresh : Nat
  /-- Cabling-plan entries: entry index, POD + 2^16 × UPLINK + 2^24 × FLAGS. -/
  cabling : List (Nat × Nat)
  /-- Initial settle-model parameter version (R76). -/
  settle : Nat
  /-- MEMORY section: basin system region, base and size of each part (R109, R259). -/
  system : List (Nat × Nat)
  /-- MEMORY section: the tow regions of the basin and of the stacks, base and size of each (R121). -/
  towBasin : List (Nat × Nat) := [(0, 2 ^ 34)]
  towStack : List (Nat × Nat) := [(0, 2 ^ 37)]
  /-- MEMORY section: allocations of the system space (R120): basin base and size, stack base and size. -/
  vendor : Nat × Nat × Nat × Nat := (0, 0, 0, 0)
  /-- KEEL section: basin keep regions, base and size (R335). -/
  keep : List (Nat × Nat)
  /-- Uplink orders where they differ from the default (R28): head, and its mirrors 0–1,159 in order. -/
  uplink : List (Nat × List Nat)
  /-- Base of the pointing map in the basin (R59). -/
  mapBase : Nat := 0
  /-- Base of the trajectory buffers in the basin system region, where they are placed (log 70). -/
  trajBase : Option Nat := none
  /-- Lock-notice multicast (R90): an IPv6 group, the group's octets and the UDP port where they are not the defaults. -/
  noticeV6 : Bool := false
  noticeGroup : Option (List Nat) := none
  noticeUdp : Option Nat := none
  /-- Line plan where it differs from the default (R223): tether lane n, or 8 + 4 × bus + lane: second cartridge, line. -/
  linePlan : List (Nat × Bool × Nat) := []
  /-- Heads whose beacon comes from another cartridge than the default's (R223): head, second cartridge. -/
  beaconPlan : List (Nat × Bool) := []
  /-- Law records of the rings' heater loops (R228, R36): ring, the record's 16-bit fields by index. -/
  ringLaw : List (Nat × List Half) := []
deriving DecidableEq, Repr

/-- What a journal message carries (Table: Journal contents, R204). -/
inductive JItem where
  | schedule (id rev planId tOpen : Nat) (single late joint : Bool) (jointId epoch : Nat)
  | abort (id : Nat)
  | opened (id tick tb0 : Nat) (late : Bool)
  | closed (id outcome : Nat)
  | counters (cycleId planId : Nat)
  | planEntry (slot : Nat) (planId : Nat) (state source : Nat) (approx : Bool) (score : Int) (portGen tInsert : Nat) (peer : Peer)
    (proof : List Nat)
  | traj (b : TrajBuf)
  | pathPhase (a : Nat) (phase : Nat)
  | mapEntry (index : Nat) (e : MapEntry)
  | portState (port state reason : Nat)
  | portGen (gen : Nat)
  | livePlan (entry value : Nat)
  | epoch (epoch : Nat)
  | noticeSeq (seq : Nat)
  | settle (version : Nat)
  | setting (off : Nat) (value : Word)
  | axisClass (axis cls : Nat)
  /-- Mirrored settings after a POUND_RELOAD, applied at the next boundary (R205). -/
  | reloaded (off : Nat) (value : Word)
  | reloadedClass (axis cls : Nat)
  | compat (l : List (Nat × Nat))
  | rep (axis k : Nat) (v : Half)
  | repaired (seq mask : Nat)
  | snapshotStart
  | snapRep (axis k : Nat) (v : Half)
  | snapshotEnd
deriving DecidableEq, Repr

/-- A journal message (R204). -/
structure JMsg where
  seq : Nat
  /-- TB3 tick number of its last sending. -/
  sentTick : Nat
  /-- Tick number of its first sending. -/
  firstTick : Nat
  item : JItem
deriving DecidableEq, Repr

/-- A PTP message as received (R184): its kind, domain, sequence and the times it brings, in ns of offset and delay. -/
inductive PtpKind where
  | sync
  | followUp
  | delayReq
  | delayResp
  | pdelayReq
  | pdelayResp
  | pdelayRespFollowUp
  | announce
  | management
  | signaling
  | other
deriving DecidableEq, Repr

/-- A Sync as the servo takes it (R186, R188): its port, the master's time of its departure with every correction in 2^-16 ns, the
sample interval and the path delay in ns. -/
structure SyncIn where
  port : Nat
  master : Nat
  interval : Nat
  delay : Nat
deriving DecidableEq, Repr

/-- An identity frame as received (R249). -/
structure IdentFrame where
  magic : Nat
  verMajor : Nat
  verMinor : Nat
  type : Nat
  loopCap : Bool
  nonce : Nat
  pod : Nat
  uplink : Nat
  nodeId : Nat
  /-- CHECK matches. -/
  checkOk : Bool
  /-- Time from the end of the HELLO to the frame's completion, µs × 10. -/
  delay : Nat
deriving DecidableEq, Repr

/-- One 8-byte table read of a walk (R264): the value the host returned, or none for an error, poison or time-out. -/
abbrev WalkReads := List (Option (BitVec 64))

/-- The commands: one constructor per row of spec/opcode_table.json, in the table's order. -/
inductive Instr where
  -- resets and boot
  /-- FUNCTION_LEVEL_RESET (R324): PCI Express function-level reset. -/
  | functionLevelReset
  /-- LINK_DOWN (R257): link-down event or hot reset. -/
  | linkDown
  /-- PERST_N (R363): the pin goes to this level. -/
  | perstN (level : Bool)
  /-- WARM_RESET (R320): a W reset with this cause code (R389). -/
  | warmReset (cause : Nat)
  /-- RESET_N (R362): low for at least 10 µs (true), or released (false) with the straps at these levels. -/
  | resetN (low : Bool) (straps : Straps)
  /-- POWER_ON (R313): input applied or restored (keelRail false) or the keel rail lost (true), RESET_N low or not. -/
  | powerOn (keelRail : Bool) (resetLow : Bool) (straps : Straps)
  /-- BOOT_WATCHDOG (R333): 60 s without READY. -/
  | bootWatchdog
  /-- MEMORY_TEST (R315): the rows (bank, row) and stack channels (stack, channel) that fail. -/
  | memoryTest (rows : List (Nat × Nat)) (channels : List (Nat × Nat)) (sysRowShort : Bool)
  /-- MEMORY_INITIALISATION (R313, R304, R336): with the rows and channels whose read-back fails. -/
  | memoryInitialisation (rows : List (Nat × Nat)) (channels : List (Nat × Nat))
  /-- ARRAY_SELF_TEST (R105): the failed columns (array, physical column). -/
  | arraySelfTest (columns : List (Nat × Nat))
  /-- POUND_LOAD (R313): pound n (0–14) is loaded at boot. -/
  | poundLoad (n : Nat)
  /-- TOWPATH_TRAINING (R319): head h answers with this descriptor, these lanes (0–4) up and these mirrors (0–1159) faulty. -/
  | towpathTraining (head : Nat) (lanes : List Nat) (desc : HeadDesc) (faulty : List Nat)
  /-- TOWPATH_RETRAIN (R319): the same steps after link loss. -/
  | towpathRetrain (head : Nat) (lanes : List Nat) (desc : HeadDesc) (faulty : List Nat)
  /-- LOOP_AUDIT (R317): the held codes, the token if head A granted, whether head B granted, the measured outcome (A mirrors captured
  and proved). -/
  | loopAudit (held : List (Nat × Half)) (grantA : Option Nat) (grantB : Bool) (proved : List Nat)
  /-- WARM_RESUME (R321): the held codes, the token if head A granted, and whether head B granted. -/
  | warmResume (held : List (Nat × Half)) (grantA : Option Nat) (grantB : Bool)
  /-- RESET_CYCLE_NOTICE (R322). -/
  | resetCycleNotice
  /-- BOOT_RECORD_FLASH_COPY (R316). -/
  | bootRecordFlashCopy
  /-- INPUT_LOW (R295). -/
  | inputLow
  /-- INPUT_FATAL (R295): below 36 V for 1 ms, or above 62 V for 10 µs. -/
  | inputFatal
  /-- RAIL_RELEASE (R323). -/
  | railRelease
  -- the sample tick and the control law
  /-- SAMPLE_TICK (R29): the next TB3 tick, with the frames' quad samples, the SETPT_IN conversions of the interval, and the
  control-path data errors of the tick. -/
  | sampleTick (quads : List Quad) (setpt : List Int) (errs : List CtrlErr)
  /-- UPLINK_FRAME (R31): head h's frame passes its check code in time, with this trailer. -/
  | uplinkFrame (head : Nat) (t : Trailer)
  /-- UPLINK_FRAME_LOST (R31): head h's frame fails its check (true) or is incomplete (false). -/
  | uplinkFrameLost (head : Nat) (badCheck : Bool)
  /-- CONTROL_DEADLINE (R52): the axes whose new code is not ready. -/
  | controlDeadline (late : List Nat)
  /-- BLIND_ENTRY (R47). -/
  | blindEntry (axis : Nat)
  /-- BLIND_EXIT (R47). -/
  | blindExit (axis : Nat)
  /-- FREEZE_WINDOW_END (R46). -/
  | freezeWindowEnd (axis : Nat)
  /-- OPEN_LOOP_ENTRY (R48). -/
  | openLoopEntry (axis : Nat)
  /-- REGION_FALL (R40). -/
  | regionFall (axis : Nat)
  /-- RUN_EXIT (R40). -/
  | runExit (axis : Nat)
  /-- MISS_RUN_RELIEF (R53). -/
  | missRunRelief (reach : Nat)
  /-- RELIEF_SHADOWING (R54). -/
  | reliefShadowing
  /-- RELIEF_COMMIT (R54). -/
  | reliefCommit
  /-- RELIEF_ABANDON (R54). -/
  | reliefAbandon
  /-- RELIEF_RETURN (R55). -/
  | reliefReturn
  /-- RELIEVE (R53): write of REACH_CTRL.RELIEVE. -/
  | relieve (reach : Nat)
  /-- RETURN (R55): write of REACH_CTRL.RETURN. -/
  | returnReach (reach : Nat)
  /-- SWAP (R38): write of 1s to LAW_BANK_SEL.SWAP. -/
  | swap (reach : Nat) (classes : BitVec 16)
  /-- SWAP_COMMIT (R38): the pending swaps of the reach and of its gang commit at the tick. -/
  | swapCommit (reach : Nat)
  /-- GANG_CHANGE (R56): the written GANG takes effect at the tick boundary. -/
  | gangChange (reach : Nat) (gang : Nat)
  /-- AXIS_FLAGS_WRITE (R58): a host write of the word of one slot. -/
  | axisFlagsWrite (reach slot : Nat) (value : Word)
  /-- CLEAR (R57): write of REP_CTRL.CLEAR. -/
  | clear (reach : Nat)
  /-- RECAL (R57): write of DITHER_CTRL.RECAL. -/
  | recal (reach : Nat)
  /-- REACH_EN_WRITE (R384): write of REACH_CTRL.EN. -/
  | reachEnWrite (reach : Nat) (en : Bool)
  /-- STEP (R369): a rising STEP edge with DIR at this level. -/
  | step (dir : Bool)
  /-- TEMPERATURE_BIN_CHANGE (R61): head h reports this array temperature, 0.1 °C. -/
  | temperatureBinChange (head : Nat) (temp : Int)
  -- pointing map, plans and lock cycles
  /-- MAP_WRITE (R62). -/
  | mapWrite (src : Src) (first : Nat) (entries : List MapEntry)
  /-- MAP_READ (R62). -/
  | mapRead (src : Src) (first count : Nat) (journal : Bool)
  /-- MAP_COMMIT (R62). -/
  | mapCommit (src : Src)
  /-- MAP_FLASH_WRITE (R63). -/
  | mapFlashWrite
  /-- PLAN_SUBMIT (R175): PEER and PROOF of the entry; 0xFFFF values are left out of peer, kept in proof. -/
  | planSubmit (src : Src) (peer : Peer) (proof : List Nat)
  /-- PLAN_DROP (R176). -/
  | planDrop (src : Src) (planId : Nat)
  /-- LOCK_SCHEDULE (R81). -/
  | lockSchedule (src : Src) (planId : Nat) (supersede lateProof : Bool) (superId : Nat) (tOpen : TimeField)
  /-- LOCK_ABORT (R88). -/
  | lockAbort (src : Src) (cycleId : Nat)
  /-- LOCK_JOINT (R93). -/
  | lockJoint (src : Src) (planId : Nat) (lateProof : Bool) (jointId epoch : Nat) (tOpen : TimeField) (hash : Nat)
  /-- NOTICE_REPEAT (R90). -/
  | noticeRepeat
  /-- TRAJECTORY_BUFFERS_WRITTEN (R72): the settle-model tow's buffers for a cycle, whether it ended without error, and, where it
  scaled a wave (R78 step 4), by how many ticks that delays the last arrival. -/
  | trajectoryBuffersWritten (cycleId : Nat) (bufs : List TrajBuf) (ok : Bool) (scaled : Option Nat)
  /-- TOW_DEADLINE (R74). -/
  | towDeadline (cycleId : Nat)
  /-- GANG_ARM (R69). -/
  | gangArm (cycleId : Nat)
  /-- JOINT_RECHECK (R94). -/
  | jointRecheck (cycleId : Nat)
  /-- OPEN_TICK (R65). -/
  | openTick (cycleId : Nat)
  /-- LATE_OPEN (R83). -/
  | lateOpen (cycleId : Nat)
  /-- SLEW_START (R65). -/
  | slewStart (cycleId : Nat)
  /-- WAVE2_START (R78). -/
  | wave2Start (cycleId : Nat)
  /-- SLEW_END (R66): one axis has used its last sample or reached its final target. -/
  | slewEnd (axis : Nat)
  /-- CAPTURED (R70): the path of this A mirror. -/
  | captured (a : Nat)
  /-- CAPTURE_MAX_EXPIRY (R70). -/
  | captureMaxExpiry (a : Nat)
  /-- PROVED (R71). -/
  | proved (a : Nat)
  /-- CLOSE_TICK (R71). -/
  | closeTick (cycleId : Nat)
  /-- CYCLE_DEADLINE (R69). -/
  | cycleDeadline (cycleId : Nat)
  /-- PARK_REACHED (R65): mirror 0–2319. -/
  | parkReached (mirror : Nat)
  /-- LATE_PROOF (R99): per proof path (A mirror) the errored bits counted. -/
  | lateProof (cycleId : Nat) (errored : List (Nat × Nat))
  /-- SETTLE_MODEL_UPDATE (R76). -/
  | settleModelUpdate
  /-- SETPOINT_ROUTE (R43). -/
  | setpointRoute (src : Src) (input : Nat) (clear : Bool) (axis gain shift stepSize : Nat)
  -- identity, status and ports
  /-- IDENTIFY (R289). -/
  | identify (src : Src)
  /-- STATUS_SNAPSHOT (R289). -/
  | statusSnapshot (src : Src)
  /-- PORT_STATE_GET (R252). -/
  | portStateGet (src : Src) (first count : Nat)
  /-- PORT_QUARANTINE (R252). -/
  | portQuarantine (src : Src) (port : Nat) (clear : Bool)
  /-- PORT_ACCEPT_AS_FOUND (R252). -/
  | portAcceptAsFound (src : Src) (port : Nat)
  /-- BERTH_CHECK (R252). -/
  | berthCheck (src : Src) (port : Nat)
  /-- LIGHT_GAINED (R246): the port's light bit set for 10 ms. -/
  | lightGained (port : Nat)
  /-- LIGHT_LOST (R246): the bit clear for 1 s. -/
  | lightLost (port : Nat)
  /-- ABSENT_TIMEOUT (R246). -/
  | absentTimeout (port : Nat)
  /-- BERTH_PASS_START (R248). -/
  | berthPassStart
  /-- BERTH_CYCLE (R247): the berth cycle of the next round of the pass is placed. -/
  | berthCycle
  /-- IDENTITY_REFRESH (R248). -/
  | identityRefresh (port : Nat)
  /-- HELLO (R250). -/
  | hello (port : Nat)
  /-- IDENT (R250). -/
  | ident (port : Nat) (f : IdentFrame)
  /-- IDENT_TIMEOUT (R250). -/
  | identTimeout (port : Nat)
  /-- MIRROR_FAULT (R254): a customer mirror reported faulty (true) or the fault ended (false); port entry index. -/
  | mirrorFault (port : Nat) (faulty : Bool)
  -- tow spaces, tows and arrays
  /-- SPACE_CREATE (R121). -/
  | spaceCreate (src : Src) (space maxClass : Nat) (hostEn : Bool) (saveSlots runAhead cq fq syncTimeout ptRoot seed basinBase basinSize stackBase stackSize : Nat)
  /-- SPACE_DESTROY (R121). -/
  | spaceDestroy (src : Src) (space : Nat)
  /-- TOW_SUBMIT (R122). -/
  | towSubmit (src : Src) (space cls count tag addr : Nat)
  /-- TOW_CANCEL (R127). -/
  | towCancel (src : Src) (space tag : Nat)
  /-- TOW_PLACEMENT (R123). -/
  | towPlacement
  /-- PREEMPTION (R125): the tow on this array unit (its first array) is saved. -/
  | preemption (unit : Nat)
  /-- BARGE_FETCH (R108): a tug of the unit fetches the tow's next unfetched barge. -/
  | bargeFetch (unit : Nat)
  /-- BARGE_START (R102). -/
  | bargeStart (unit : Nat)
  /-- BARGE_COMPLETE (R102): with the tiles (or vector groups) that showed a residue mismatch and the physical column of
  each, and where its recomputation mismatched too the column of that. -/
  | bargeComplete (unit : Nat) (mismatches : List (Nat × Nat × Option Nat))
  /-- BAD_BARGE (R108). -/
  | badBarge (unit : Nat)
  /-- MEMORY_REQUEST (R117): a tug of the unit requests these bytes; for a host address the walk's reads. Busy: the target cannot
  take it now (R118): its stack channel queue is full, a reach engine has the basin bank, or PCI Express credits lack. -/
  | memoryRequest (unit : Nat) (addr : Nat) (len : Nat) (walk : WalkReads) (busy : Bool)
  /-- MEMORY_DATA_RETURN (R118): data returns, poisoned or not. -/
  | memoryDataReturn (unit : Nat) (addr : Nat) (data : List Byte) (poisoned : Bool)
  /-- HOST_WRITE_DRAIN (R269). -/
  | hostWriteDrain (unit : Nat)
  /-- WAIT (R114): the unit's running SYNC WAIT. -/
  | wait (unit : Nat)
  /-- WAIT_MET (R122): tow of a space by tag. -/
  | waitMet (space tag : Nat)
  /-- SYNC_TIMEOUT (R114). -/
  | syncTimeout (space tag : Nat)
  /-- FENCE (R115). -/
  | fence (unit : Nat)
  /-- TOW_END (R128). -/
  | towEnd (space tag : Nat)
  /-- COLUMN_RETIRE (R105). -/
  | columnRetire (array column : Nat)
  /-- OUT_OF_SERVICE (R105). -/
  | outOfService (array : Nat)
  /-- TRANSLATION_FAULT (R268): a walk for an access of a tow ends in a fault. -/
  | translationFault (space tag : Nat) (addr : Nat) (write : Bool) (barge : Nat) (walk : WalkReads)
  /-- TOW_STOP (R268). -/
  | towStop (space tag : Nat)
  /-- FAULT_RESUME (R270). -/
  | faultResume (src : Src) (space : Nat) (all : Bool) (faultId : Nat)
  /-- QUEUE_FAULT (R271). -/
  | queueFault (queue : Nat) (addr : Nat) (write : Bool) (walk : WalkReads)
  /-- RESUME (R271): write of XL_FAULT.RESUME. -/
  | resume
  /-- GO (R265): write of XL_INVAL.GO with these fields. -/
  | go (space : Nat) (queue all : Bool) (size : Nat)
  -- auction units and the policy ring
  /-- AUC_FEED (R163): the AUC_FEED barge running on this unit. -/
  | aucFeed (unit : Nat)
  /-- UNIT_RESERVED (R163). -/
  | unitReserved
  /-- AUCTION_PHASE_END (R164): physical auction unit. -/
  | auctionPhaseEnd (u : Nat)
  /-- SOLVE_LIMIT_EXPIRY (R165). -/
  | solveLimitExpiry (u : Nat)
  /-- CERTIFICATE_CHECK (R166): fault: the unit's arithmetic makes the check fail. -/
  | certificateCheck (u : Nat) (fault : Bool)
  /-- AUCTION_RESULT (R168). -/
  | auctionResult (u : Nat)
  /-- AUCTION_UNIT_RETIRE (R344). -/
  | auctionUnitRetire (u : Nat) (storeError : Bool)
  /-- POLICY_CELL (R177). -/
  | policyCell
  -- time
  /-- SYNC_SAMPLE (R188): base 0 or 1 and its Sync. -/
  | syncSample (base : Nat) (sync : SyncIn)
  /-- TIME_JUMP (R188). -/
  | timeJump (base : Nat)
  /-- FIRST_STEP (R188). -/
  | firstStep (base : Nat)
  /-- ANNOUNCE_TIMEOUT (R188): time-out (false) or master lost (true). -/
  | announceTimeout (base : Nat) (masterLost : Bool)
  /-- SLEW_DONE (R189). -/
  | slewDone (base : Nat)
  /-- PTP_MESSAGE (R184): port, kind, domain, transport (0 IEEE 802.3, 1 UDP/IPv4, 2 UDP/IPv6); malformed or not. -/
  | ptpMessage (port : Nat) (kind : PtpKind) (domain transport : Nat) (malformed : Bool)
  /-- PTP_TRANSMIT (R187): port, base whose domain the message is of, kind. -/
  | ptpTransmit (port base : Nat) (kind : PtpKind)
  /-- PPS_IN_EDGE (R192): rising or falling, pulse width ns. -/
  | ppsInEdge (falling : Bool) (width : Nat)
  /-- PPS_LOST (R191). -/
  | ppsLost
  /-- PPS_OUT_PULSE (R192). -/
  | ppsOutPulse
  /-- TIME_ACCEPT_JUMP (R188). -/
  | timeAcceptJump (src : Src) (base : Nat)
  /-- TIME_SET_GM (R191). -/
  | timeSetGm (src : Src) (seconds utcOffset tsFlags clockClass clockAccuracy priority1 priority2 : Nat)
  /-- PERIOD_WRITE (R196): write of TB_TICK. -/
  | periodWrite (value : Nat)
  /-- TB_NOW_READ (R195): read of SEC_LO of base n. -/
  | tbNowRead (base : Nat)
  -- the pair
  /-- COPY_FRAME (R203): the frame, and the TB3 counts since its first bit arrived. -/
  | copyFrame (f : CopyFrame) (since : Nat)
  /-- RETURN_FRAME (R200). -/
  | returnFrame (f : ReturnFrame)
  /-- HEARTBEAT_MISSED (R201). -/
  | heartbeatMissed
  /-- HEARTBEAT_LOSS (R209). -/
  | heartbeatLoss
  /-- JOURNAL (R204): a message from the partner. -/
  | journal (seq : Nat) (item : JItem)
  /-- JOURNAL_RESEND (R204). -/
  | journalResend
  /-- REPAIR_REQUEST (R206): the standby asks (ACTIVE: the request arrives). -/
  | repairRequest (seq mask : Nat)
  /-- REPAIR_TIMEOUT (R206). -/
  | repairTimeout
  /-- SNAPSHOT_COMPLETE (R215). -/
  | snapshotComplete
  /-- INELIGIBLE_ENTRY (R207). -/
  | ineligibleEntry
  /-- INELIGIBLE_RESYNC (R209). -/
  | ineligibleResync
  /-- TETHER_UP (R209). -/
  | tetherUp
  /-- CLAIM (R211). -/
  | claim
  /-- PAIR_HANDOVER (R212, R213). -/
  | pairHandover (src : Src) (force take : Bool)
  /-- HANDOVER_CONTINUE (R214). -/
  | handoverContinue
  /-- PAIR_STATUS (R289). -/
  | pairStatus (src : Src)
  /-- TETHER_LANE_FAILOVER (R198): with locked, for errored blocks on a lane that keeps block lock. -/
  | tetherLaneFailover (lane : Nat) (locked : Bool)
  /-- TETHER_PAIR_SWITCH (R374). -/
  | tetherPairSwitch
  -- light
  /-- CARTRIDGE_INSERTED (R218): bay and the 4,096 bytes of its identity store. -/
  | cartridgeInserted (bay : Nat) (store : List Byte)
  /-- CARTRIDGE_REMOVED (R239). -/
  | cartridgeRemoved (bay : Nat)
  /-- WARMING_PROOF (R234): the 18 powers and the 60 s means, 0.01 dBm. -/
  | warmingProof (bay : Nat) (powers : List Int) (spread : List Nat)
  /-- WARMING_TIMEOUT (R218). -/
  | warmingTimeout (bay : Nat)
  /-- FADE_MEASUREMENT (R233): bay and the 18 present 60 s means, 0.01 dBm. -/
  | fadeMeasurement (bay : Nat) (powers : List Int)
  /-- HOURLY_FIT (R233): bay. -/
  | hourlyFit (bay : Nat)
  /-- INSERTION (R235): the next step of the insertion in progress. -/
  | insertion
  /-- TETHER_LANE_MOVE (R236): lane n. -/
  | tetherLaneMove (lane : Nat)
  /-- SERVICE_BUS_MOVE (R236): bus 0 or 1. -/
  | serviceBusMove (bus : Nat)
  /-- INSERTION_WITHOUT_SPARE (R237): bay. -/
  | insertionWithoutSpare (bay : Nat)
  /-- CART_SWAP (R239). -/
  | cartSwap (src : Src) (bay : Nat) (retire : Bool)
  /-- CART_QUERY (R239). -/
  | cartQuery (src : Src) (bay : Nat)
  /-- HOURS_UPDATE (R220): bay and the 18 present 60 s means. -/
  | hoursUpdate (bay : Nat) (writeOk : Bool)
  /-- STORE_WRITE_RETRY (R220). -/
  | storeWriteRetry (bay : Nat) (writeOk : Bool)
  /-- RESONANCE_SEARCH (R226): per ring the code found, none for a line out of range or poor extinction. -/
  | resonanceSearch (found : List (Nat × Option Nat))
  /-- WARM_SEARCH (R227): the same from the stored codes; rings not listed found nothing within the span. -/
  | warmSearch (found : List (Nat × Option Nat))
  /-- RING_RETRAINING (R229): ring and the code found by the short search or the sweep. -/
  | ringRetraining (ring : Nat) (found : Option Nat)
  /-- RING_LOCK_LOOP (R228): ring and the detected error. -/
  | ringLockLoop (ring : Nat) (err : Half)
  /-- BEACON_TRIM (R231): head and the sum it reports, 0.01 dBm. -/
  | beaconTrim (head : Nat) (sum : Int)
  /-- BEACON_LOSS (R231): head. -/
  | beaconLoss (head : Nat)
  /-- DAC_RECALIBRATION (R230): service port. -/
  | dacRecalibration (port : Nat)
  -- power
  /-- CART_TRIP (R297): bay. -/
  | cartTrip (bay : Nat)
  /-- POWER_MANAGER_STEP (R299): replica paces of arrays 0–3 and the slowest path, input power 0.1 W, core current mA. -/
  | powerManagerStep (paces : List Nat) (slowest fastest input current : Nat)
  /-- PHASE_ISOLATION (R297): CORE phase. -/
  | phaseIsolation (phase : Nat)
  /-- CAP_MISS (R300). -/
  | capMiss
  /-- POWER_CAP (R299). -/
  | powerCap (src : Src) (cap pace : Nat)
  /-- RUNG_SET (R302). -/
  | rungSet (src : Src) (rung : Nat)
  /-- RUNG_REQUEST_WRITE (R302): write of PWR_RUNG_REQ. -/
  | rungRequestWrite (value : Word)
  /-- RUNG_DESCENT (R302): one rung down toward the target. -/
  | rungDescent
  /-- RUNG_RISE (R304): one rung up toward the target. -/
  | rungRise
  /-- MOOR_TOUCH_UP (R306): whether an axis of a lit path reached open loop. -/
  | moorTouchUp (openLoop : Bool)
  /-- WAKE (R364): a rising edge followed by 1 µs high. -/
  | wake
  /-- WAKE_TIMER (R307). -/
  | wakeTimer
  /-- COMMAND_WAKE (R305). -/
  | commandWake
  /-- TEMPERATURE_READ (R309): the 64 readings, 1/16 °C, none where the rail is unpowered. -/
  | temperatureRead (temps : List (Nat × Int))
  /-- THERMAL_HALT (R309): array. -/
  | thermalHalt (array : Nat)
  /-- THERMAL_L1_ENTRY (R309). -/
  | thermalL1Entry
  /-- THERMAL_RECOVERY (R310). -/
  | thermalRecovery
  /-- THERMAL_FATAL (R310). -/
  | thermalFatal
  -- structure images and reloads
  /-- POUND_RELOAD (R334): with whether the section's CRC passes. -/
  | poundReload (src : Src) (pound : Nat) (crcOk : Bool)
  /-- IMAGE_STAGE (R331): the image at the host address, and whether the flash write works. -/
  | imageStage (src : Src) (slot addr length : Nat) (img : Image) (flashOk : Bool)
  /-- IMAGE_ACTIVATE (R332). -/
  | imageActivate (src : Src) (slot : Nat)
  /-- FLASH_WP (R366): the pin's level. -/
  | flashWp (level : Bool)
  /-- UNLOCK (R384): write of POUND_STATUS[n].UNLOCK. -/
  | unlock (n : Nat) (value : Bool)
  /-- KEEL_RESET (R388): write of KEEL_RESET. -/
  | keelReset (value : Word)
  -- reliability
  /-- FATAL_ERROR (R340): cause code of KEEL_CAUSE. -/
  | fatalError (cause : Nat)
  /-- CORE_REPORT_MISSED (R343): lockkeeper core 0–7. -/
  | coreReportMissed (core : Nat)
  /-- BLOCK_WATCHDOG (R340): fixed block. -/
  | blockWatchdog (block : Nat)
  /-- ROW_SPARING (R342): a basin row shows an error in this word of the basin (byte address / 8), corrected or not. -/
  | rowSparing (bank row word : Nat) (uncorrectable : Bool)
  /-- CHANNEL_MIGRATION (R342): a stack channel shows this many corrected errors in one second, or an uncorrectable error in
  this word of the stacks. -/
  | channelMigration (stack channel word errors : Nat) (uncorrectable : Bool)
  /-- TOWPATH_LANE_FAILOVER (R341): head, lane. -/
  | towpathLaneFailover (head lane : Nat)
  -- logbook and counters
  /-- LOG_FREEZE (R347). -/
  | logFreeze (src : Src)
  /-- LOG_THAW (R347). -/
  | logThaw (src : Src)
  /-- LOG_MARK (R348). -/
  | logMark (src : Src) (mark : Nat) (rewind : Bool)
  /-- DUMP (R349): write of LOG_CTRL.DUMP; whether the flash write works. -/
  | dump (flashOk : Bool)
  /-- KEEL_COPY_DUMP (R349). -/
  | keelCopyDump (flashOk : Bool)
  /-- LOAD (R349): write of LOG_CTRL.LOAD with this DUMP_SLOT. -/
  | load (slot : Nat)
  /-- COUNTER_GRANT (R353). -/
  | counterGrant (src : Src) (group : Nat) (revoke : Bool)
  /-- CNT_CLEAR (R351): write of CNT_SEL with CLEAR. -/
  | cntClear (counter : Nat)
  /-- CNT_BIND_WRITE (R353). -/
  | cntBindWrite (k space : Nat) (en : Bool)
  /-- COUNTER_WINDOW_CLOSE (R352): the bytes counted in the window, by counter number 256–303. -/
  | counterWindowClose (bytes : List (Nat × Nat))
  /-- RAS_INJECT (R356): write of RAS_INJECT with GO. -/
  | rasInject (target index : Nat)
  -- queues
  /-- DOORBELL (R285): queue and index. -/
  | doorbell (queue index : Nat)
  /-- H2D_FETCH (R283): queue, the bytes of the cells fetched (64 each) and the words that arrived poisoned. -/
  | h2dFetch (queue : Nat) (cells : List (List Byte)) (poison : List Nat)
  /-- D2H_WRITE (R284): queue. -/
  | d2hWrite (queue : Nat)
  /-- COMMAND_TAKE (R288). -/
  | commandTake
  /-- LINK_PARITY_FAIL (R276): queue. -/
  | linkParityFail (queue : Nat)
  /-- POOL_INITIALISATION (R275). -/
  | poolInitialisation
  /-- QUEUE_ENABLE (R293). -/
  | queueEnable
  /-- QUEUE_DISABLE (R293). -/
  | queueDisable
  /-- QUEUE_SCRUB (R276): queue. -/
  | queueScrub (queue : Nat)
  -- register accesses and the host link
  /-- BAR0_MALFORMED_ACCESS (R258): BAR 0 or 4, read or write. -/
  | bar0MalformedAccess (bar4 write : Bool)
  /-- BAR2_ACCESS (R259): read of n bytes, or a write of these bytes, at a BAR2 offset. -/
  | bar2Access (offset : Nat) (len : Nat) (write : Option (List Byte))
  /-- PAIR_LO_READ (R382): read of the lo word at this BAR0 offset. -/
  | pairLoRead (offset : Nat)
  /-- RC_READ (R9): read of the register at this BAR0 offset. -/
  | rcRead (offset : Nat)
  /-- CONNECTOR_UNMATED (R373): 0 HEAD_A, 1 HEAD_B, 2 TETHER, 3 SERVICE. -/
  | connectorUnmated (connector : Nat)
  /-- REGISTER_WRITE (R383): a 4-byte write at a BAR0 offset. -/
  | registerWrite (offset : Nat) (value : Word)
  /-- MAP_RELOAD (R63). -/
  | mapReload
  /-- TETHER_BLOCK_LOCK (R236): lane 0–4; at this module (false) or the partner's end (true). -/
  | tetherBlockLock (lane : Nat) (partner : Bool)
  /-- RECEIVE_RING_LOCK (R226): ring and its heater code. -/
  | receiveRingLock (ring code : Nat)
  /-- INPUT_LOW_END (R295). -/
  | inputLowEnd
  /-- CONNECTOR_MATED (R373). -/
  | connectorMated (connector : Nat)
  /-- CONFIGURATION_WRITE (R257): D3hot and Bus Master Enable as written. -/
  | configurationWrite (d3hot busMaster : Bool)
  /-- ETHERNET_LINK_CHANGE (R195): port, link and FEC alignment. -/
  | ethernetLinkChange (port : Nat) (link fec : Bool)
deriving DecidableEq, Repr

end Sys2Proof
end

