-- ==== Sys2Proof/WellFormed.lean ====
section
/-!
DEFINITION. Which commands name only objects the machine has (R6, R7, R15, R25): axis, reach, mirror, head, bay, port, ring,
queue, unit and lane numbers in range. A command that is not well formed has no meaning (log 7).
-/

namespace Sys2Proof

/-- Axes are numbered 0–4,639 (R7). -/
def okAxis (a : Nat) : Bool := decide (a < 4640)
/-- Reaches are numbered 0–8 (R15). -/
def okReach (k : Nat) : Bool := decide (k < 9)
/-- A mirrors 0–1,159 (R6). -/
def okMirrorA (m : Nat) : Bool := decide (m < 1160)
/-- Mirrors of both arrays, 0–2,319 (R7). -/
def okMirror (m : Nat) : Bool := decide (m < 2320)
/-- Customer ports as plan-entry indices, 0–2,303 (R242). -/
def okEntry (p : Nat) : Bool := decide (p < 2304)
/-- Heads A and B. -/
def okHead (h : Nat) : Bool := decide (h < 2)
/-- Cartridge bays 0–2 (R218). -/
def okBay (b : Nat) : Bool := decide (b < 3)
/-- Array units, named by their first array 0–3 (R101). -/
def okUnit (u : Nat) : Bool := decide (u < 4)
/-- Physical auction units 0–4 (R159). -/
def okAuction (u : Nat) : Bool := decide (u < 5)
/-- Queues 0–4,095 (R275). -/
def okQueue (q : Nat) : Bool := decide (q < 4096)
/-- Microrings 0–175 (R224). -/
def okRing (r : Nat) : Bool := decide (r < 176)
/-- Towpath and tether lanes 0–4. -/
def okLane (l : Nat) : Bool := decide (l < 5)
/-- Steered bases a PTP command may name: TB0 and TB1. -/
def okBase (b : Nat) : Bool := decide (b < 2)
/-- Tow spaces 0–63 (R120). -/
def okSpace (p : Nat) : Bool := decide (p < 64)

/-- A command names only objects the machine has. A host command is always well formed: what its cell says is checked by
the command itself (R288). -/
def Instr.wf : Instr → Bool
  | .poundLoad n => decide (n < 15)
  | .towpathTraining h lanes _ _ => okHead h && lanes.all okLane
  | .towpathRetrain h lanes _ _ => okHead h && lanes.all okLane
  | .uplinkFrame h _ => okHead h
  | .uplinkFrameLost h _ => okHead h
  | .controlDeadline late => late.all okAxis
  | .blindEntry a => okAxis a
  | .blindExit a => okAxis a
  | .freezeWindowEnd a => okAxis a
  | .openLoopEntry a => okAxis a
  | .regionFall a => okAxis a
  | .runExit a => okAxis a
  | .missRunRelief r => decide (r < 8)
  | .relieve r => okReach r
  | .returnReach r => okReach r
  | .swap r _ => okReach r
  | .swapCommit r => okReach r
  | .gangChange r g => okReach r && decide (g < 4)
  | .axisFlagsWrite r j _ => okReach r && decide (j < 580)
  | .clear r => okReach r
  | .recal r => okReach r
  | .reachEnWrite r _ => okReach r
  | .temperatureBinChange h _ => okHead h
  | .slewEnd a => okAxis a
  | .captured a => okMirrorA a
  | .captureMaxExpiry a => okMirrorA a
  | .proved a => okMirrorA a
  | .parkReached m => okMirror m
  | .lightGained p => okEntry p
  | .lightLost p => okEntry p
  | .absentTimeout p => okEntry p
  | .identityRefresh p => okEntry p
  | .hello p => okEntry p
  | .ident p _ => okEntry p
  | .identTimeout p => okEntry p
  | .mirrorFault p _ => okEntry p
  | .preemption u => okUnit u
  | .bargeFetch u => okUnit u
  | .bargeStart u => okUnit u
  | .bargeComplete u _ => okUnit u
  | .badBarge u => okUnit u
  | .memoryRequest u _ _ _ _ => okUnit u
  | .memoryDataReturn u _ _ _ => okUnit u
  | .hostWriteDrain u => okUnit u
  | .wait u => okUnit u
  | .waitMet p _ => okSpace p
  | .syncTimeout p _ => okSpace p
  | .fence u => okUnit u
  | .towEnd p _ => okSpace p
  | .columnRetire a c => okUnit a && decide (c < 264)
  | .outOfService a => okUnit a
  | .translationFault p _ _ _ _ _ => okSpace p
  | .towStop p _ => okSpace p
  | .queueFault q _ _ _ => okQueue q
  | .go p _ _ _ => okSpace p
  | .aucFeed u => okUnit u
  | .auctionPhaseEnd u => okAuction u
  | .solveLimitExpiry u => okAuction u
  | .certificateCheck u _ => okAuction u
  | .auctionResult u => okAuction u
  | .auctionUnitRetire u _ => okAuction u
  | .syncSample b x => okBase b && okHead x.port
  | .timeJump b => okBase b
  | .firstStep b => okBase b
  | .announceTimeout b _ => okBase b
  | .slewDone b => okBase b
  | .ptpMessage p _ _ _ _ => okHead p
  | .ptpTransmit p b _ => okHead p && okBase b
  | .tbNowRead b => decide (b < 4)
  | .tetherLaneFailover l _ => okLane l
  | .cartridgeInserted b st => okBay b && decide (st.length = 4096)
  | .cartridgeRemoved b => okBay b
  | .warmingProof b _ _ => okBay b
  | .warmingTimeout b => okBay b
  | .fadeMeasurement b _ => okBay b
  | .hourlyFit b => okBay b
  | .tetherLaneMove l => okLane l
  | .serviceBusMove b => okHead b
  | .insertionWithoutSpare b => okBay b
  | .hoursUpdate b _ => okBay b
  | .storeWriteRetry b _ => okBay b
  | .ringRetraining r _ => okRing r
  | .ringLockLoop r _ => okRing r
  | .beaconTrim h _ => okHead h
  | .beaconLoss h => okHead h
  | .dacRecalibration p => decide (p < 16)
  | .cartTrip b => okBay b
  | .phaseIsolation p => decide (p < 26)
  | .thermalHalt a => okUnit a
  | .unlock n _ => decide (n < 16)
  | .coreReportMissed c => decide (c < 8)
  | .rowSparing b r w _ => decide (b < 1024) && decide (r < 8192) && decide (w < 2 ^ 31)
  | .channelMigration st c w _ _ => okHead st && decide (c < 16) && decide (w < 2 ^ 34)
  | .towpathLaneFailover h l => okHead h && okLane l
  | .load n => decide (n < 16)
  | .cntClear c => decide (c < 512)
  | .cntBindWrite k p _ => decide (k < 8) && okSpace p
  | .doorbell q _ => okQueue q
  | .h2dFetch q cells _ => okQueue q && cells.all (fun c => decide (c.length = 64))
  | .d2hWrite q => okQueue q
  | .linkParityFail q => okQueue q
  | .queueScrub q => okQueue q
  | .connectorUnmated c => decide (c < 4)
  | .connectorMated c => decide (c < 4)
  | .tetherBlockLock l _ => okLane l
  | .receiveRingLock r _ => okRing r
  | .ethernetLinkChange p _ _ => okHead p
  | _ => true

end Sys2Proof
end

