-- ==== Sys2Proof/Decode.lean ====
section
/-!
DEFINITION. The command a word spells by the bits spec/opcode_table.json gives. No row of that table gives bits (every row's
fields are empty: the block takes commands, not words), so no word spells a command.
-/

namespace Sys2Proof

/-- The command that a word of nbits spells; no row of the table gives bits, so there is none. -/
def decodeTableWord (_nbits _w : Nat) : Option Instr := none

end Sys2Proof
end

