-- ==== Sys2Proof/Config.lean ====
section
/-!
DEFINITION. What an implementation fixes and the manual leaves open (log 3): the free values, each an opaque constant with no
body. A value drawn by an instruction is one of these applied to the State's draw counter or to the operands.
-/

namespace Sys2Proof

/-- The n-th free value drawn: any natural number; its user reduces it to the width concerned (log 3). -/
opaque Config.freeValue : Nat → Nat

/-- The 16 ASCII bytes of IDENTIFY's SERIAL (R289), little-endian; the manual gives no number (log 3). -/
opaque Config.serial : Nat

/-- The SHA-384 hash programmed in an owner slot, 1–4, at manufacture (R330); the manual gives none (log 3). -/
opaque Config.ownerSlot : Nat → Nat

/-- The bits of e^x of R140, from the input's bits; the manual bounds the error and states no bits (log 3). -/
opaque Config.expBits : Word → Word

/-- The bits of 1/x of R140, as above. -/
opaque Config.recipBits : Word → Word

/-- The bits of 1/√x of R140, as above. -/
opaque Config.rsqrtBits : Word → Word

end Sys2Proof
end

