-- ==== Sys2Proof/Machine/State.lean ====
section
/-!
DEFINITION. The state of the NX-1152 as plain data: the register words of BAR0 in one sparse file, and every store,
queue, counter, cycle, tow, cartridge, port and pin the manual names beside them. Sparse stores are lists of key and
value pairs in one canonical form: keys strictly rising, and no value equal to what an unlisted key reads as (log 2).
-/

namespace Sys2Proof.Machine

/-- A sparse store (log 2): keys strictly rising, no entry equal to the store's default. -/
abbrev Sparse (α : Type) := List (Nat × α)

/-! ## Steering (R27–R58) -/

/-- One axis: the loop state of R35, its AXIS_FLAGS word, and the counts and windows its rules keep. -/
structure Axis where
  /-- R35: integrator, Q10.30, 5 bytes; Keeps W/L2. -/
  i : BitVec 40 := 0
  /-- R35: derivative state, Q4.28; Keeps W/L2. -/
  d : BitVec 32 := 0
  /-- R35: previous error, Q1.15; Keeps W/L2. -/
  ePrev : Half := 0
  /-- R35: last drive code, Q1.15; Keeps W/L2. -/
  u : Half := 0
  /-- R35: target, Q1.15; Keeps W/L2. -/
  target : Half := 0
  /-- R35: trajectory index, ticks since the start of SLEW; Keeps W/L2. -/
  traj : Nat := 0
  /-- R35, R48: open-loop offset, Q1.15; Keeps W/L2. -/
  offset : Half := 0
  /-- R35, R48: loss timer, ticks 0–127; Keeps W/L2. -/
  loss : Nat := 0
  /-- R57: the AXIS_FLAGS word; reset 0x0406_0000. -/
  flags : Word := 0x04060000
  /-- R46: reference correlation, 32-bit signed; Keeps W/L2. -/
  cRef : Int := 0
  /-- R46: correlation sum of the window in progress. -/
  cSum : Int := 0
  /-- R46: every tick of the window so far qualifies. -/
  winOk : Bool := false
  /-- R318: every tick of the window so far had MODE RUN. -/
  winRun : Bool := false
  /-- R46: samples of the window so far. -/
  winLen : Nat := 0
  /-- R57: RECAL: 0 not asked for, 1 asked for in a window that had begun, 2 the window that has begun since stores c_ref. -/
  recal : Nat := 0
  /-- R47: consecutive samples with s >> 2 below SUM_MIN. -/
  lowRun : Nat := 0
  /-- R47: consecutive samples at or above the exit threshold. -/
  highRun : Nat := 0
  /-- R40: consecutive samples below the next lower threshold. -/
  downRun : Nat := 0
  /-- R40: consecutive samples in region 0. -/
  zeroRun : Nat := 0
  /-- R48: the held drive, without dither. -/
  heldDrive : Half := 0
  /-- R49: the next closed-loop tick is the first after BLIND, FROZEN or open loop, a park or a resume. -/
  rejoin : Bool := false
  /-- R66: trajectory feedforward of the present tick, Q1.15. -/
  ff : Half := 0
  /-- R33: quad sum of the last sample. -/
  sumLast : Nat := 0
  /-- R33: m of the last sample. -/
  mLast : Half := 0
  /-- R33: error of the last sample. -/
  eLast : Half := 0
  /-- R77: limiter position, with 16 fraction bits below the drive LSB. -/
  limPos : Int := 0
  /-- R77: limiter velocity per tick. -/
  limVel : Int := 0
  /-- R77: limiter acceleration per tick². -/
  limAcc : Int := 0
  /-- R77: the limiter has clamped this axis in the running move. -/
  limited : Bool := false
  /-- R65, R66: target commanded to the limiter: final target, park drive or service target. -/
  goal : Half := 0
  /-- R87, R88: the axis is being brought to rest before it goes on to its goal. -/
  stop : Bool := false
  /-- R66: drive at OPEN from which ff is counted, and its planned end. -/
  olStart : Half := 0
  /-- R75: planned end of the open-loop drive. -/
  olEnd : Half := 0
  /-- R75: target at which the move began. -/
  moveFrom : Half := 0
  /-- R66: the axis has used its last sample or reached its final target; the transfer of ff falls due. -/
  moveDone : Bool := false
  /-- R42–R44: base of the routed service target. -/
  svcBase : Half := 0
  /-- R58: a written MODE that takes effect at the next tick; none for none. -/
  modeReq : Option Nat := none
  /-- R384: a written CLASS that takes effect at the next tick. -/
  classReq : Option Nat := none
deriving DecidableEq, Repr

/-- The result of one slot's compute, held until the uplink frame's check code has passed (R31). -/
structure HeldResult where
  axis : Nat
  new : Axis
  /-- The repetitive-memory write of the tick: index and value (R41). -/
  rep : Option (Nat × Half)
deriving DecidableEq, Repr

/-- Who asked for a relief takeover (R53). -/
inductive ReliefTrigger where
  | misses
  | software
  | reload
deriving DecidableEq, Repr

/-- What the shadowing reach computes of a slot for itself (R54): i, d, e_prev, u, the drive without dither, and out_now. -/
structure Shadow where
  axis : Nat
  i : BitVec 40
  d : BitVec 32
  ePrev : Half
  u : Half
  heldDrive : Half
  outNow : Bool
deriving DecidableEq, Repr

/-- The relief reach's work in progress (R54, R55). -/
structure Relief where
  /-- Reach being relieved. -/
  source : Nat
  trigger : ReliefTrigger
  /-- Tick number T_r on which the trigger was accepted, or the return began. -/
  tr : Nat
  /-- Shadowing has begun. -/
  shadow : Bool
  /-- Consecutive ticks with every code within 1 LSB. -/
  agree : Nat
  /-- Copy of the repetitive memory complete. -/
  copied : Bool
  /-- Codes are taken from reach 8. -/
  committed : Bool
  /-- The roles are reversed: the relieved reach is taking its slots back (R55). -/
  returning : Bool
  /-- The command whose completion waits for this takeover, if any. -/
  cmd : Option Src
  /-- R54: the shadowing reach's own loop state of each slot, and its results of the tick, held for the head's frame. -/
  loop : List Shadow := []
  fresh : List Shadow := []
deriving DecidableEq, Repr

structure Steer where
  /-- R27, R35: axes 0–4,639; an unlisted axis is the reset axis. -/
  axes : Sparse Axis := []
  /-- R41: repetitive memory, 2,048 entries of 16 bits per axis, at 2,048 × axis + entry; Keeps W/L2. -/
  rep : Sparse Half := []
  /-- R41: class index k of class c of reach r (0–8) at 16 r + c. -/
  classK : Sparse Nat := []
  /-- R27: axes placed otherwise than by the default map: axis, 1,024 × reach + slot + 1; 0 for the default place. -/
  axisMap : Sparse Nat := []
  /-- R31: results of the tick's compute, held until each head's frame is judged. -/
  held : List HeldResult := []
  /-- R52: what the slots held before the tick's results were taken: axis, its state, its repetitive write's old value. -/
  undo : List HeldResult := []
  /-- R31: consecutive lost uplink frames of head A and of head B. -/
  lostA : Nat := 0
  lostB : Nat := 0
  /-- R31: heads whose frame of the present tick has been judged, passed or lost. -/
  judged : List Nat := [0, 1]
  /-- R57: REP_CTRL.CLEAR pending for the next tick, by reach. -/
  clearPend : List Nat := []
  /-- R56: a written GANG that takes effect at the next tick boundary: reach and gang. -/
  gangPend : List (Nat × Nat) := []
  /-- R53–R55: takeover or return in progress or standing. -/
  relief : Option Relief := none
  /-- R33: quad samples of the present tick. -/
  quads : List Quad := []
  /-- R45, R199: number of the present tick, t and SEQ. -/
  tick : Nat := 0
  /-- R43: axis SETPT_IN is routed to. -/
  ainAxis : Option Nat := none
  /-- R43: axis STEP/DIR is routed to. -/
  stepAxis : Option Nat := none
  /-- R44: STEP/DIR count, 32-bit signed. -/
  stepCount : Int := 0
  /-- R44: STEP_SIZE, and SETPT_IN gain and shift of the route. -/
  stepSize : Nat := 0
  ainGain : Half := 0
  ainShift : Nat := 0
  /-- R196: sample period in force, counts of 2 ns; the written PERIOD takes effect at the next tick. -/
  period : Nat := 20000
deriving DecidableEq, Repr

/-! ## Pointing map, plan library and lock cycles (R59–R100, R172–R176) -/

structure MapState where
  /-- R59: working copy, by index; an unlisted entry reads as 16 zero bytes (its CHECK fails, log 8); Keeps W/L2. -/
  work : Sparse MapEntry := []
  /-- R62: journal of MAP_WRITE, by index; at most 65,536; Keeps W/L2. -/
  journal : Sparse MapEntry := []
  /-- R63: indices whose master-copy write is outstanding. -/
  dirty : List Nat := []
  /-- R63, R326: master copy in module flash. -/
  master : Sparse MapEntry := []
  /-- R63, R304: working copy being reloaded; LOCK_SCHEDULE is refused with reason MAP. -/
  reloading : Bool := true
  /-- R59, R76: settle-model parameter version in force; Keeps W/L2. -/
  settle : Nat := 0
  /-- R76: capture samples recorded of the running cycle: axis and e. -/
  learned : List (Nat × Half) := []
  /-- R76: samples of the cycles that have closed, each waiting for its update tow, oldest first. -/
  learnQueue : List (List (Nat × Half)) := []
deriving DecidableEq, Repr

/-- A plan-library entry (R173). -/
structure PlanEntry where
  planId : Nat := 0
  /-- 0 FREE, 1 READY, 2 IN_USE. -/
  state : Nat := 0
  /-- 0 host, 1 auction unit, 2 policy ring. -/
  source : Nat := 0
  /-- FLAGS[0] APPROX. -/
  approx : Bool := false
  score : Int := 0
  portGen : Nat := 0
  /-- T_INSERT, TB0 in 2^-16 ns. -/
  tInsert : Nat := 0
  peer : Peer := []
  proof : List Nat := []
deriving DecidableEq, Repr

/-- Phase of a path of a cycle (R65), in order of advance; done and failed close it. -/
inductive Phase where
  | opening
  | slewing
  | capturing
  | proving
  | proved
  | failed
deriving DecidableEq, Repr

/-- A changing path of a cycle: the A mirror a gets the B mirror b (R65). -/
structure CPath where
  a : Nat
  b : Nat
  phase : Phase := .opening
  /-- R70, R71: consecutive samples that meet the criterion. -/
  run : Nat := 0
  /-- R70: samples since the end of SLEW. -/
  since : Nat := 0
  /-- Tick on which the present phase was entered; its counts begin with the next. -/
  entered : Nat := 0
deriving DecidableEq, Repr

/-- A pending or running cycle (R80–R89); Keeps F/L2. -/
structure Cycle where
  id : Nat
  rev : Nat := 0
  planId : Nat
  /-- T_open, TB0 nanosecond count. -/
  tOpen : Nat
  paths : List CPath := []
  /-- Released mirrors 0–2,319 (R65). -/
  released : List Nat := []
  /-- R64: paths whose entry was found unusable after acceptance: their mirrors are released, and they count as failed. -/
  lost : List (Nat × Nat) := []
  single : Bool := false
  joint : Bool := false
  jointId : Nat := 0
  epoch : Nat := 0
  twoWaves : Bool := false
  fallback : Bool := false
  limited : Bool := false
  extended : Bool := false
  superseded : Bool := false
  handover : Bool := false
  lateProof : Bool := false
  /-- Berth cycle: no ID, notice or library entry (R247). -/
  berth : Bool := false
  /-- R61: bins of heads A and B in force when the trajectory was computed. -/
  bins : Option (Nat × Nat) := none
  /-- R78 step 4, of a fallback plan: acceleration and jerk bounds of wave 1 on heads A and B, then of wave 2. -/
  waves : List (Int × Int) := []
  /-- R79: SLEW ticks in which the unclamped plan's last axis reaches its final target, and those it has in fact taken. -/
  planEnd : Nat := 0
  arrived : Nat := 0
  /-- Trajectory buffers written; armed; waves (R69, R78). -/
  computed : Bool := false
  armed : Bool := false
  wave2 : Bool := false
  wave2Tick : Nat := 0
  /-- OPEN tick number, and TB0 there in 2^-16 ns, once opened. -/
  opened : Option (Nat × Nat) := none
  /-- R65, R183: TB3 nanosecond count at which TB0 reached T_open, once it has; 0 before. -/
  t3Open : Nat := 0
  slewTick : Nat := 0
  /-- T_open for deadline purposes where a late opening applies (R68, R83). -/
  lateFrom : Option Nat := none
  /-- Aborted in OPEN or SLEW: the mirrors come to rest and park (R88). -/
  aborting : Bool := false
deriving DecidableEq, Repr

/-- A late proof that runs (R99): its cycle, its A mirror, the lanes in use, the TB3 count at which it began. -/
structure ProofRun where
  cycle : Nat
  a : Nat
  lanes : Nat
  since : Nat
deriving DecidableEq, Repr

/-- A lock notice (R91), with the copies still to be sent (R90). -/
structure Notice where
  type : Nat
  outcome : Nat
  flags : Nat
  plane : Nat
  switch : Nat
  role : Nat
  reason : Nat
  cycleId : Nat
  rev : Nat
  seq : Nat
  jointId : Nat
  epoch : Nat
  paths : Nat
  failed : Nat
  hash : Nat
  tOpen : Nat
  tEvent : Nat
  tOpened : Nat
  duration : Nat
  extra : Nat
  mapA : List Nat
  mapB : List Nat
deriving DecidableEq, Repr

/-- A standing path as the module holds it (R50): its state and whether its first loss has been announced. -/
structure Path where
  a : Nat
  b : Nat
  /-- Coded as the PATH event: 5 LIT, 6 DEGRADED, 7 BLIND, 8 FROZEN. -/
  state : Nat := 5
  announced : Bool := false
deriving DecidableEq, Repr

structure Lock where
  /-- R80: pending and running cycles, in order of T_open as accepted; Keeps F/L2. -/
  cycles : List Cycle := []
  /-- R80: last cycle ID issued; kept in the boot record. -/
  lastId : Nat := 0
  /-- R91: notice SEQ of the last notice. -/
  seq : Nat := 0
  /-- R50: standing paths. -/
  paths : List Path := []
  /-- R73: trajectory buffers in the basin, by axis. -/
  bufs : Sparse (List TrajBuf) := []
  /-- R90: notices with copies to send: the notice and how many copies have left. -/
  repeats : List (Notice × Nat) := []
  /-- R99: late proofs running. -/
  proofs : List ProofRun := []
  /-- R83: a cycle has closed on the present tick. -/
  closedNow : Bool := false
  /-- R322: cycles discarded by the last W or C reset, whether each had opened, and TB0 at the reset, 2^-16 ns. -/
  discarded : List (Cycle × Nat) := []
  /-- R65: released mirrors still moving to park after CLOSE. -/
  parking : List Nat := []
  /-- R172: library entries 0–255. -/
  lib : Sparse PlanEntry := []
  /-- R173: last PLAN_ID issued. -/
  lastPlan : Nat := 0
deriving DecidableEq, Repr

/-! ## Ports (R241–R254) -/

/-- A customer port (R244, R253, Table: Port record). -/
structure Port where
  /-- 0 ABSENT, 1 DARK, 2 ADMITTED, 3 LIMITED, 4 QUARANTINED, 5 FAILED, 6 SERVICE. -/
  state : Nat := 1
  reason : Nat := 0
  light : Bool := false
  unverified : Bool := false
  checking : Bool := false
  loopCap : Bool := false
  foundPod : Nat := 0
  foundUplink : Nat := 0
  farVer : Nat := 0
  nodeId : Nat := 0
  /-- The far end has answered since the port last gained light (log 23). -/
  known : Bool := false
  /-- Queued for the next pass (R248). -/
  queued : Bool := false
  /-- Berth paths that failed in a row (R251). -/
  failures : Nat := 0
  /-- HELLOs sent in the present check, and the nonce of the last (R250). -/
  hellos : Nat := 0
  nonce : Nat := 0
  /-- The head reports the mirror faulty (R254). -/
  mirrorFault : Bool := false
  /-- BERTH_CHECK commands that wait for the verdict. -/
  waiting : List Src := []
  /-- TB3 count of the last verdict or refresh (R248). -/
  checkedAt : Nat := 0
deriving DecidableEq, Repr

structure Fabric where
  /-- R244: ports by plan-entry index 0–2,303; Keeps W/L2. -/
  ports : Sparse Port := []
  /-- R243: live plan, POD + 2^16 × UPLINK + 2^24 × FLAGS by entry; Keeps W/L2. -/
  plan : Sparse Nat := []
  /-- R242: identity refresh interval of the live plan, s. -/
  refresh : Nat := 3600
  /-- R248: a pass is running, and its next round. -/
  pass : Option Nat := none
  /-- R247: berth circuits standing: customer port entry and service mirror 0–2,319. -/
  berths : List (Nat × Nat) := []
  /-- R250: nonce chosen last. -/
  nonce : Nat := 0
deriving DecidableEq, Repr

/-! ## Tow spaces, tows and arrays (R101–R152) -/

/-- A space-table entry (R120). -/
structure Space where
  maxClass : Nat
  hostEn : Bool
  saveSlots : Nat
  runAhead : Nat
  syncTimeout : Nat
  basinBase : Nat
  basinSize : Nat
  stackBase : Nat
  stackSize : Nat
  ptRoot : Nat
  seed : Nat
  cq : Nat
  fq : Nat
  /-- R114: 64 sync counters. -/
  counters : Sparse Nat := []
  /-- R267: FAULT_ID of the last fault record. -/
  lastFault : Nat := 0
  /-- R121: SPACE_DESTROY waits for the space's tows to end. -/
  destroying : Option Src := none
  /-- R109, R120: the system space, which alone has the System region. -/
  system : Bool := false
deriving DecidableEq, Repr

/-- An outstanding translation fault of a tow (R267, R268). -/
structure Fault267 where
  id : Nat
  kind : Nat
  level : Nat
  write : Bool
  runahead : Bool
  addr : Nat
  barge : Nat
deriving DecidableEq, Repr

/-- Where a tow stands (R122–R128). -/
inductive TowPhase where
  /-- Not yet started, or saved and ready to resume. -/
  | ready
  /-- On the array unit with this first array. -/
  | running (unit : Nat)
  /-- Saved at an unmet WAIT on this counter for this value since this TB3 count (R114). -/
  | waiting (counter value since : Nat)
  /-- Waiting for an auction unit (R163). -/
  | feeding
  /-- Stopped by a translation fault (R268). -/
  | stopped
  /-- Stopped by entry to L1; ready again on return to L0 (R127). -/
  | halted
  /-- Ended with this reason; its end event is due (R128). -/
  | ended (reason : Nat)
deriving DecidableEq, Repr

/-- A fetched barge (R107, R108): its index, its 64 bytes, and 0 or the end reason its unit finds on reaching it (R128). -/
structure Fetched where
  index : Nat
  bytes : List Byte
  bad : Nat
deriving DecidableEq, Repr

/-- A tow (R106, R126). -/
structure Tow where
  space : Nat
  tag : Nat
  /-- 0 URGENT, 1 PLAN, 2 BACKGROUND. -/
  cls : Nat
  addr : Nat
  count : Nat
  /-- Order of submission. -/
  order : Nat
  /-- Next barge index. -/
  next : Nat := 0
  phase : TowPhase := .ready
  started : Bool := false
  /-- TB3 order of its last start, for the choice of R123. -/
  startOrder : Nat := 0
  /-- Resumed tows go ahead of unstarted ones (R122). -/
  resumed : Bool := false
  /-- The settle-model tow goes first (R72): cycle it computes. -/
  settle : Option Nat := none
  /-- The barge at `next` has started; its settings (R148). -/
  inBarge : Bool := false
  escEn : Bool := true
  escBudget : Nat := 8
  preempted : Nat := 0
  escalated : Bool := false
  rangeShort : Bool := false
  cancel : List Src := []
  cancelled : Bool := false
  barges : Nat := 0
  fetched : List Fetched := []
  faults : List Fault267 := []
  /-- R268: writes held by a fault: host address and bytes. -/
  heldWrites : List (Nat × List Byte) := []
  /-- R117: staged host-region bytes, by tow-space address, and the ranges staged (address, length, poisoned). -/
  staged : List Host.Cell := []
  ranges : List (Nat × Nat × Bool) := []
  /-- R269: host-region writes still to drain. -/
  drain : List (Nat × List Byte) := []
  /-- R287: queue in which the end event's cell is reserved. -/
  endQueue : Nat := 0
  /-- R150: the tow ends RESIDUE at the end of the barge. -/
  unresolved : Bool := false
  /-- R108: the tow ends with this reason once the host writes of its earlier barges have drained. -/
  ending : Option Nat := none
  /-- R114, R268: the unmet WAIT of a tow that a write fault has stopped: counter, value, TB3 time it began. -/
  unmet : Option (Nat × Nat × Nat) := none
deriving DecidableEq, Repr

/-- One memory request in flight (R117). -/
structure Req where
  unit : Nat
  /-- The tug, 0–31, eight to an array. -/
  tug : Nat
  addr : Nat
  len : Nat
  host : Bool
deriving DecidableEq, Repr

/-- Tensor engine: spaces, tows, arrays, requests. -/
structure TowSys where
  spaces : Sparse (Option Space) := []
  tows : List Tow := []
  /-- Submission and start counts, for order. -/
  submitted : Nat := 0
  starts : Nat := 0
  /-- R117: memory requests in flight. -/
  reqs : List Req := []
  /-- R118: units whose tugs wait for a target: 0 basin, 1 stack 0, 2 stack 1, 3 host. -/
  waits : List (Nat × Nat) := []
  /-- R351: STARVED time of each array, in counts of 2 ns not yet a whole 10 ns. -/
  starved : Sparse Nat := []
  /-- R105: columns mapped out: array, physical column, in order of sparing; Keeps W/L4. -/
  columns : List (Nat × Nat) := []
  /-- R105: recent residue mismatches: array, column, TB3 count. -/
  strikes : List (Nat × Nat × Nat) := []
  /-- R105: arrays that must go OUT_OF_SERVICE at the next boundary. -/
  exhausted : List Nat := []
  /-- R299: arrays halted for core current, R295: by INPUT_LOW. -/
  currentHalt : List Nat := []
  inputHalt : Bool := false
  /-- R300: arrays held before a non-URGENT barge, since this TB3 count. -/
  throttled : Option Nat := none
  /-- R336: array self-test due before the first tow. -/
  selfTestDue : Bool := true
  /-- R127: space and tag of the tows that have ended since their spaces were created. -/
  past : List (Nat × Nat) := []
  /-- R351: wavefronts not yet a whole 1,024: of the module at 0, of space p at p + 1. -/
  waves : Sparse Nat := []
deriving DecidableEq, Repr

/-- Memories behind the arrays and the host windows, one byte per cell (R20, R259); the default byte is 0 (log 6). -/
structure Mem where
  /-- Basin, 16 GiB; Keeps W/L1, keep regions W/L2. -/
  basin : List Host.Cell := []
  /-- Stacks, 128 GiB interleaved; Keeps W/L2. -/
  stack : List Host.Cell := []
  /-- Words reported uncorrectable: 0 basin, 1 stack, and the word's byte address / 8. -/
  poison : List (Nat × Nat) := []
  /-- R342: corrected words of a row in the last 24 h: bank, row, word, TB3 count. -/
  rowErrs : List (Nat × Nat × Nat × Nat) := []
  /-- R341: rows spared: bank, row; Keeps W/L4. -/
  rows : List (Nat × Nat) := []
  /-- R341: stack channels replaced: stack, channel; Keeps W/L4. -/
  channels : List (Nat × Nat) := []
deriving DecidableEq, Repr

/-! ## Auction units (R159–R170) -/

/-- A feed: its tow and what the barge asks (R159). -/
structure Feed where
  space : Nat
  tag : Nat
  cls : Nat
  order : Nat
  barge : Nat
  n : Nat
  addrC : Nat
  aux : Nat
deriving DecidableEq, Repr

/-- A solve in progress on one auction unit (R162–R166). -/
structure Solve where
  feed : Feed
  /-- Scores w(a, b) row by row, clamped (R160). -/
  score : List (List Int) := []
  /-- Forbidden pairs, row by row (R161). -/
  forbid : List (List Bool) := []
  saturated : Nat := 0
  portGen : Nat := 0
  prices : List Int := []
  assign : List Nat := []
  eps : Nat := 0
  phases : Nat := 0
  /-- The last phase that completed: its ε, assignment and prices. -/
  best : Option (Nat × List Nat × List Int) := none
  /-- STATUS once the solve has ended: 0 EXACT, 1 APPROX, 2 TIMEOUT, 3 ERROR. -/
  status : Option Nat := none
  repeated : Bool := false
  certified : Bool := false
  /-- TB3 counts at which the last row was taken, and at which the solve ended (R167). -/
  since : Nat := 0
  ended : Nat := 0
  /-- The matrix has been taken whole (R163). -/
  taken : Bool := false
  /-- R166, R344: unit whose check failed before the feed was solved again. -/
  firstUnit : Option Nat := none
deriving DecidableEq, Repr

structure Auction where
  /-- R163: feed queue, in order of arrival, at most 64; a feed that lost its unit comes back to it besides. -/
  feeds : List Feed := []
  /-- R163: feeds that found the queue full and hold their place outside it, in order of arrival. -/
  outside : List Feed := []
  /-- Solve on each unit 0–4. -/
  solves : Sparse (Option Solve) := []
  orders : Nat := 0
  /-- R166, R171, R344: solves that have lost their unit and are solved anew, ahead of the queue. -/
  orphans : List Solve := []
  /-- R177: a SYNC SIGNAL or SET on counter 63 has made cells of the policy ring due. -/
  policyDue : Bool := false
  /-- R344: strikes: unit and TB3 count. -/
  strikes : List (Nat × Nat) := []
  /-- R344: units to retire at the end of their feed. -/
  retiring : List Nat := []
deriving DecidableEq, Repr

/-! ## Time (R180–R196) -/

/-- A steered time base (R180–R189): TB0, TB1 or TB2. -/
structure TimeBase where
  /-- Time in 2^-16 ns × 10^-12: SECONDS, NANOSECONDS and FRAC exactly, with the part below FRAC (log 9). -/
  t : Nat := 0
  /-- R189: servo integral f, units of 10^-12. -/
  f : Int := 0
  /-- R189: servo part of the rate, f plus the proportional term, units of 10^-12; the slew term is added while S ≠ 0. -/
  rate : Int := 0
  /-- R189: outstanding slew S, 2^-16 ns × 10^-12 (log 9). -/
  slew : Int := 0
  /-- Latest offset sample o, 2^-16 ns. -/
  last : Int := 0
  /-- TB_OFFSET: the refused, outstanding or last accepted o. -/
  offset : Int := 0
  /-- R188: consecutive samples beyond LIMIT; within LIMIT; within 100 ns. -/
  overRun : Nat := 0
  okRun : Nat := 0
  fineRun : Nat := 0
  /-- R188: the last four samples of a FREE base. -/
  firsts : List Int := []
  /-- R188: least path delays of the last 16 samples, ns. -/
  delays : List Nat := []
  /-- R189: TB3 count at which HOLDOVER began. -/
  holdSince : Nat := 0
  /-- R188: TB3 count of the last accepted sample. -/
  lastGood : Nat := 0
deriving DecidableEq, Repr

/-- Grandmaster parameters of TIME_SET_GM (R191). -/
structure GmParams where
  seconds : Nat
  utcOffset : Nat
  tsFlags : Nat
  clockClass : Nat
  clockAccuracy : Nat
  priority1 : Nat
  priority2 : Nat
deriving DecidableEq, Repr

structure Time where
  /-- R181: TB3, counts of 2 ns since the P reset; Keeps C/L5. -/
  tb3 : Nat := 0
  /-- R180: cluster time TB0, alternate TB1, pair time TB2; Keeps C/L5. -/
  tb0 : TimeBase := {}
  tb1 : TimeBase := {}
  tb2 : TimeBase := {}
  /-- R195: the words latched by the last read of a SEC_LO: times of TB0–TB3 in 2^-16 ns. -/
  latched : List Nat := []
  /-- R191: parameters of the last TIME_SET_GM. -/
  gm : Option GmParams := none
  /-- R191: TB3 count of the last PPS_IN edge. -/
  lastPps : Nat := 0
  /-- R192: TB0 in 2^-16 ns and TB3 count at the last PPS_IN edge. -/
  ppsStamp : Option (Nat × Nat) := none
  /-- R181: TB2 is FREE. -/
  tb2Free : Bool := true
  /-- R19, R186: receive stamp, in 2^-16 ns of the base of its domain, of the last event message by port, base and kind. -/
  rx : Sparse (Option Nat) := []
  /-- R196: TB3 count of the last tick. -/
  lastTick : Nat := 0
  /-- R65: TB0 nanosecond count at the last tick, and at the tick before it. -/
  tb0Tick : Nat := 0
  tb0Prev : Nat := 0
  /-- R199: TB2 nanosecond count at the last tick. -/
  tb2Tick : Nat := 0
deriving DecidableEq, Repr

/-! ## The pair (R197–R217) -/

/-- What a head last reported (R210), and its descriptor. -/
structure Head where
  desc : Option HeadDesc := none
  holder : Nat := 3
  epoch : Nat := 0
  last : Nat := 0
  /-- R209: tick on which WL_LAST or the epoch last moved: the holder drives for less than 3 ticks after it. -/
  moved : Nat := 0
  /-- R209: a trailer has arrived since the reset. -/
  heard : Bool := false
  /-- Array temperature, 0.1 °C (R61). -/
  temp : Int := 200
  trained : Bool := false
  /-- R341: lanes with block lock in use, and whether the spare serves. -/
  lanes : List Nat := []
  spareUsed : Bool := false
  /-- R28: uplink order told to the head at its last training: mirrors 0–1,159. -/
  order : List Nat := []
deriving DecidableEq, Repr

/-- A command that completes when the STANDBY partner acknowledges its journal message (R204): the message's SEQ, the tick of
its first sending, and the completion. -/
structure Wait where
  seq : Nat
  tick : Nat
  src : Src
  op : Nat
  detail : Nat
  result : List Byte
deriving DecidableEq, Repr

structure Pair where
  headA : Head := {}
  headB : Head := {}
  /-- R211: a claim waits for its answer; token to present to head B. -/
  claiming : Bool := false
  /-- Claim made after heartbeat loss, at a handover or cold (sets TOOK_OVER). -/
  takeover : Bool := false
  token : Option Nat := none
  grantA : Bool := false
  grantB : Bool := false
  /-- R212: a planned release is asked for: FORCE, and the command to complete. -/
  releasing : Option (Bool × Src) := none
  /-- R212: the present tick is the release's tick h, and the number of that tick. -/
  parting : Bool := false
  partTick : Nat := 0
  /-- R212: the claim in progress follows a planned release. -/
  planned : Bool := false
  /-- R200: TB2 nanosecond count at which the partner's last frame arrived, and its SEQ. -/
  rxAt : Nat := 0
  rxSeq : Nat := 0
  /-- R194: SEQ and T_TX of the last RETURN frames sent. -/
  sentRet : List (Nat × Nat) := []
  /-- R202: TB3 count of the active's tick of the copy frame that waits; a copy frame has set this module's tick number. -/
  tickAt : Option Nat := none
  numbered : Bool := false
  /-- R214: WL_LAST of heads A and B for the holder before this module. -/
  wlLast : Nat × Nat := (0, 0)
  /-- R203: the copy frame to load at the next tick boundary. -/
  copy : Option CopyFrame := none
  /-- SEQ of the last copy frame applied, and how many have been applied in a row. -/
  lastCopy : Nat := 0
  copyRun : Nat := 0
  /-- R207: the partner's last reported identity, and its compatibility list. -/
  partnerHash : Nat := 0
  partnerFw : Nat := 0
  compat : List (Nat × Nat) := []
  /-- R204: messages sent and not acknowledged, oldest first, and the last JOURNAL_SEQ. -/
  journal : List JMsg := []
  journalSeq : Nat := 0
  /-- R204: last message applied, and messages held for order. -/
  applied : Nat := 0
  early : List (Nat × JItem) := []
  /-- R204, R85: commands that complete when a message is acknowledged. -/
  waits : List Wait := []
  /-- R206: gap being repaired: SEQ of the oldest lost frame, mask, tick first missed. -/
  gap : Option (Nat × Nat × Nat) := none
  /-- R206: the repetitive-memory entries each of the last ticks wrote: tick, (axis, entry). -/
  written : List (Nat × List (Nat × Nat)) := []
  /-- R204: messages of the active that a STANDBY module has heard of and not applied: JOURNAL_SEQ, tick first heard of. -/
  owed : List (Nat × Nat) := []
  /-- R205: reloaded settings that wait for the boundary. -/
  due : List JItem := []
  /-- R215: mirrored settings and CLASS values off their reset values that the snapshot has not yet brought. -/
  snapSet : List Nat := []
  snapCls : List Nat := []
  /-- R215: snapshot asked for; whole snapshot applied. -/
  snapshot : Bool := false
  snapshotDone : Bool := false
  /-- R215: repetitive-memory entries copy frames have written since the snapshot began. -/
  snapKeys : List Nat := []
  /-- R209: MISSED heartbeats of a RETURN frame while ACTIVE have been announced. -/
  unknown : Bool := false
  /-- R374: fibre pair received from. -/
  fibre : Nat := 0
  /-- R198: lanes 0–3 that have lost their place and not taken it back. -/
  lostLanes : List Nat := []
  /-- R198: lanes at the partner's end with block lock. -/
  peerLanes : List Nat := []
  /-- R213: the PAIR_HANDOVER whose cold claim is in progress; its step: 1 QUERY_HELD is due, 2 it is sent, 3 the module claims; the
  held codes and the heads that have reported them. -/
  cold : Option Src := none
  coldStep : Nat := 0
  heldCodes : List (Nat × Half) := []
  heldFrom : List Nat := []
  /-- R214: the windlass was just taken: the cycles held are to be continued. -/
  continueDue : Bool := false
  /-- R201: a heartbeat of the present tick has arrived. -/
  beat : Bool := false
  /-- R384: PAIR_CFG.EN as in force until the next tick, while a change waits for it. -/
  enOld : Option Bool := none
deriving DecidableEq, Repr

/-! ## Light (R218–R240) -/

/-- A cartridge in a bay (R218–R221). -/
structure Cart where
  /-- Identity store, 4,096 bytes. -/
  store : List Byte := []
  /-- 60 s means last measured: lines 0–15, beacons 0–1, 0.01 dBm. -/
  means : List Int := []
  /-- R233: the powers of the last 60 s, one measurement a second, newest last. -/
  recent : List (List Int) := []
  /-- Hourly means of the loss, newest last, per line and beacon, 0.01 dB. -/
  hourly : List (List Int) := []
  failed : List Nat := []
  /-- Loss a second before, 0.01 dB. -/
  before : List Int := []
  /-- R233: sums of the loss of each line and beacon over the present hour, and how many measurements. -/
  hourSum : List Int := []
  hourCount : Nat := 0
  /-- R221: FLAGS bits 2 FADED and 3 HOURS_END to be written with RETIRED. -/
  endFlags : Nat := 0
  /-- A store write failed and waits for its retry: offset and bytes. -/
  retry : List (Nat × List Byte) := []
  /-- Fade or end of life, so DRAINING ends in RETIRED. -/
  retire : Bool := false
  /-- TB3 count at which WARMING began. -/
  warmSince : Nat := 0
  /-- 12 V on. -/
  powered : Bool := false
deriving DecidableEq, Repr

/-- An insertion in progress (R235): old bay, new bay, step 1–6 reached, command that waits. -/
structure Insertion where
  old : Nat
  new : Nat
  step : Nat
  cmd : Option Src := none
deriving DecidableEq, Repr

/-- Loop state of a ring's heater loop (R228): integrator, derivative, previous error, output. -/
structure RingLoop where
  i : BitVec 40 := 0
  d : BitVec 32 := 0
  ePrev : Half := 0
  u : Half := 0
deriving DecidableEq, Repr

structure Light where
  carts : Sparse Cart := []
  /-- R222, R223: source of tether lanes 0–4: bay and line. -/
  lanes : Sparse (Nat × Nat) := []
  /-- R222: lines of service bus 0 and 1, lanes 0–3: key 4 × bus + lane, bay and line. -/
  buses : Sparse (Nat × Nat) := []
  /-- Bay of the first and of the second cartridge (R218). -/
  first : Option Nat := none
  second : Option Nat := none
  insertion : Option Insertion := none
  /-- R238: bays whose trigger waits. -/
  queued : List (Nat × Bool × Option Src) := []
  /-- R231: beacon level this module supplies at head A and B, 0.01 dBm. -/
  beacon : Sparse Int := []
  /-- R228: heater-loop state of each ring. -/
  loops : Sparse RingLoop := []
  /-- R230: transmit rings whose DAC table is calibrated: the number of the table's first free value (log 3). -/
  dac : Sparse Nat := []
  /-- R224: rings in use in place of a FAILED one: lane's first ring, spare ring. -/
  spared : List (Nat × Nat) := []
  /-- R373: connectors mated: 0 HEAD_A, 1 HEAD_B, 2 TETHER, 3 SERVICE. -/
  mated : List Nat := [0, 1, 2, 3]
  /-- R236: step of the lane move in progress: lane, step 1–4, bay and line of the new source. -/
  move : Option (Nat × Nat) := none
deriving DecidableEq, Repr

/-! ## Host link, queues and commands (R255–R293) -/

/-- An item of a queue (R277, R286). -/
structure Item where
  code : Nat
  kind : Nat
  prio : Nat
  /-- FLAGS[3] PKT_POISON. -/
  pktPoison : Bool := false
  poison : Nat := 0
  len : Nat := 1
  seq : Nat := 0
  /-- R283: a fetched first cell whose LEN is 0, exceeds 4,096 or exceeds the ring size, taken alone. -/
  badLen : Bool := false
  /-- R286: a fetched first cell whose KIND is not COMMAND, or with a reserved flag set. -/
  badHead : Bool := false
  /-- Bytes from offset 8 of the first cell to the item's end. -/
  body : List Byte := []
deriving DecidableEq, Repr

/-- The gap marker of a queue (R280, R292). -/
structure Gap where
  prio : Nat
  count : Nat
  first : Nat
  last : Nat
  prioMask : Nat
  kindMask : Nat
deriving DecidableEq, Repr

/-- A queue: its descriptor words and its items (R277–R293). -/
structure Queue where
  en : Bool := false
  dir : Bool := false
  vector : Nat := 0
  ring : Nat := 0
  cq : Nat := 0
  limit : Nat := 4096
  reserve : Nat := 64
  ringAddr : Nat := 0
  wb : Nat := 0
  devIdx : Nat := 0
  hostIdx : Nat := 0
  drops : Nat := 0
  /-- Drops since the queue was enabled, for the write-back. -/
  dropsTotal : Nat := 0
  teleSrc : Nat := 0
  teleAxis : Nat := 0
  telePrio : Nat := 0
  stopped : Bool := false
  broken : Bool := false
  dbErr : Bool := false
  cfgErr : Bool := false
  /-- One list per priority, as one list: oldest first within a priority. -/
  items : List Item := []
  gap : Option Gap := none
  /-- Cells reserved for completions and tow end events (R287). -/
  reserved : Nat := 0
  pushes : Nat := 0
  /-- A message has been sent since HOST_IDX last rose (R284). -/
  sent : Bool := false
deriving DecidableEq, Repr

/-- A cached translation (R264): requester 0–63 a space, 64 the queue context; page number, page size bits, R, W, NS, ADDR. -/
structure Cached where
  ctx : Nat
  page : Nat
  bits : Nat
  r : Bool
  w : Bool
  ns : Bool
  addr : Nat
deriving DecidableEq, Repr

/-- A cached table entry above the leaf (R264): requester, level 4–2, the address bits above the level, ADDR of the next table. -/
structure CachedTable where
  ctx : Nat
  level : Nat
  page : Nat
  addr : Nat
deriving DecidableEq, Repr

structure Link where
  /-- R275: queues 0–4,095; an unlisted queue is the reset descriptor. -/
  queues : Sparse Queue := []
  /-- R288: command queue served last. -/
  served : Nat := 0
  cache : List Cached := []
  tables : List CachedTable := []
  /-- R382: hi latch of each register pair, by offset of lo; and a lo word held for a write. -/
  hi : Sparse (Option Word) := []
  lo : Sparse (Option Word) := []
  /-- R257: Bus Master Enable, D3hot. -/
  busMaster : Bool := false
  d3hot : Bool := false
  /-- R363: PERST_N level. -/
  perst : Bool := true
  /-- R268, R271: queues whose transfers a fault stopped, with the faulting page. -/
  faulted : List (Nat × Nat) := []
  /-- R261: vectors whose message waits: masked, or the module may send no request (R257). -/
  msixPend : List Nat := []
  /-- R287: completion cells reserved for each command taken and not yet completed. -/
  resv : List (Src × Nat) := []
  /-- R287: queue in which the end event's cell of a TOW_SUBMIT taken is reserved. -/
  endResv : List (Src × Nat) := []
  /-- R288: commands taken when an F reset occurred; their completions are discarded. -/
  flrDiscard : List Src := []
deriving DecidableEq, Repr

/-! ## Power and ladder (R294–R312) -/

/-- The mooring record in the keel store (R302); Keeps C/L4. -/
structure Mooring where
  axes : List (Nat × Half × Half)
  peer : Peer
  settle : Nat
  epoch : Nat
deriving DecidableEq, Repr

structure Power where
  /-- R302: target rung of the descent or rise in progress, its cause, and the command that waits. -/
  goal : Nat := 0
  moving : Bool := false
  cmd : Option Src := none
  /-- TB3 count at entry to the present rung. -/
  since : Nat := 0
  mooring : Option Mooring := none
  /-- R306: on L2 after a failed touch-up: ALERT_N. -/
  touchAlert : Bool := false
  /-- R297: CORE phases isolated. -/
  phases : List Nat := []
  /-- R309, R310: TB3 counts: since when each array's sensors are below 100 °C; since when all are halted. -/
  coolSince : Sparse Nat := []
  hotSince : Option Nat := none
  /-- R295, R323: the keel holds CORE, BASIN and STACK off, since. -/
  railsOff : Bool := false
  /-- R295: INPUT_LOW condition. -/
  inputLow : Bool := false
  /-- R300: TB3 count since when the input exceeds the cap with every non-URGENT barge held. -/
  overSince : Option Nat := none
  /-- R310: rung reached after a thermal stay. -/
  afterHeat : Option Nat := none
  /-- R299: POWER_CAP commands that complete 1 ms after their write: the command and the TB3 count. -/
  capWaits : List (Src × Nat) := []
  /-- R351: 10 µs steps cap-limited and throttled not yet a whole ms; input energy not yet a whole J, µJ. -/
  capSteps : Nat := 0
  throttleSteps : Nat := 0
  energy : Nat := 0
  /-- R309: the warning stands until below 90 °C; the photonic die is out of range. -/
  warm : Bool := false
  outOfRange : Bool := false
  /-- R309: a stack sensor has read 105 °C, and not all are below 95 °C again: stack access is held. -/
  stackHeld : Bool := false
  /-- R310: TB3 count since when sensors 0–47 have read below 85 °C. -/
  coldSince : Option Nat := none
deriving DecidableEq, Repr

/-! ## Boot, flash and structure images (R313–R337) -/

/-- The boot record (R316). -/
structure BootRecord where
  peer : Peer := []
  lastId : Nat := 0
  lastPlan : Nat := 0
  seq : Nat := 0
  cycles : List Cycle := []
  epoch : Nat := 0
deriving DecidableEq, Repr

structure Boot where
  /-- R316: keel-store copy (Keeps C/L4) and flash copy of the boot record. -/
  record : BootRecord := {}
  flash : BootRecord := {}
  /-- R326: image slots 0–2 in module flash. -/
  slots : Sparse (Option Image) := []
  /-- Slot booted from. -/
  bootSlot : Nat := 0
  /-- R320: slot whose image the pounds were loaded from before. -/
  imageChanged : Bool := false
  /-- R362: RESET_N held low. -/
  resetLow : Bool := false
  /-- R315, R333: boot has stopped; ALERT_N asserted. -/
  stopped : Bool := false
  /-- R313: straps as sampled are in KEEL_STRAPS; here the memory, search and audit steps passed. -/
  memoryDone : Bool := false
  auditDone : Bool := false
  /-- R314: lockkeeper cores have started. -/
  coresUp : Bool := false
  /-- R331: staging in progress: slot and command. -/
  staging : Option (Nat × Src) := none
  /-- R334: pound reload in progress: pound and command. -/
  reload : Option (Nat × Src) := none
  /-- R366: FLASH_WP level. -/
  wp : Bool := true
  /-- R333: TB3 count at T_rel, T_w or the release of the rails. -/
  since : Nat := 0
  /-- R320: the boot in progress is a warm boot. -/
  warm : Bool := false
  /-- R316: TB3 count of the last flash copy of the boot record, once one was made. -/
  copied : Option Nat := none
  /-- R349: the keel copy has been dumped for this entry to L5 or this reset. -/
  dumped : Bool := false
  /-- R349: dump slots written: slot, KIND, TB3 count, KEEL_CAUSE, LOG_HEAD and entries of each part. -/
  dumpNext : Nat := 0
deriving DecidableEq, Repr

/-! ## Reliability, logbook, counters (R338–R356) -/

/-- A logbook entry (R345). -/
structure Entry where
  index : Nat
  t3 : Nat
  sev : Nat
  annex : Bool := false
  injected : Bool := false
  source : Nat
  cls : Nat
  kind : Nat
  reason : Nat
  arg0 : Nat
  arg1 : Nat := 0
  arg2 : Nat := 0
deriving DecidableEq, Repr

/-- A dump slot in flash (R349). -/
structure Dump where
  /-- KIND: false full, true keel copy only. -/
  keelOnly : Bool
  t3 : Nat
  cause : Word
  head : Nat
  book : List Entry
  annex : List Entry
  keel : List Entry
deriving DecidableEq, Repr

/-- A rewind mark (R348). -/
structure Mark where
  index : Nat := 0
  lost : Nat := 0
  valid : Bool := false
  set : Bool := false
deriving DecidableEq, Repr

structure Logbook where
  /-- R345: the logbook, in order of recording; at most 1,048,576; Keeps W/L2. -/
  book : List Entry := []
  /-- R346: the keel copy; at most 4,096; Keeps C/L4. -/
  keel : List Entry := []
  /-- R347: the annex; at most 256; Keeps W/L2. -/
  annex : List Entry := []
  /-- R346: LOG_HEAD; Keeps C/L4. -/
  head : Nat := 0
  frozen : Bool := false
  marks : Sparse Mark := []
  /-- R349: dump slots 0–15 in flash, and the dump window. -/
  dumps : Sparse (Option Dump) := []
  window : Option Dump := none
deriving DecidableEq, Repr

structure Ras where
  /-- R343: lockkeeper cores retired, and spares brought in. -/
  cores : List Nat := []
  /-- R356: injection armed: target and index. -/
  inject : Option (Nat × Nat) := none
  /-- The next error is injected: its entries carry INJECTED. -/
  marking : Bool := false
  /-- R341: kinds of spares exhausted. -/
  exhausted : List Nat := []
  /-- R338: sources whose first correction of the hour was logged: source, hour. -/
  hours : List (Nat × Nat) := []
deriving DecidableEq, Repr

/-- What an Announce says of the clock (R185, R191): none where it is its master's, which the manual leaves to IEEE 1588. -/
structure Announce where
  priority1 : Nat
  priority2 : Nat
  clockClass : Nat
  clockAccuracy : Option Nat
  utcOffset : Option Nat
  tsFlags : Option Nat
deriving DecidableEq, Repr

/-- A PTP message as it leaves (R184–R187, R195). -/
structure PtpOut where
  port : Nat
  /-- Base and domain. -/
  base : Nat
  domain : Nat
  kind : PtpKind
  /-- The MAC island has written the stamp, or the turnaround, into this message itself. -/
  oneStep : Bool
  /-- Transmit stamp that the message carries or that goes with it, 2^-16 ns. -/
  stamp : Option Nat
  /-- Receive stamp of the request answered, 2^-16 ns. -/
  received : Option Nat
  /-- Turnaround added to correctionField, 2^-16 ns. -/
  correction : Int
  /-- Its logMessageInterval by the port's settings. -/
  interval : Int
  /-- 0 IEEE 802.3, 1 UDP/IPv4 with checksum 0, 2 UDP/IPv6 with the two bytes that keep the checksum valid. -/
  transport : Nat
  /-- VLAN (0 untagged) and priority. -/
  vlan : Nat
  pcp : Nat
  announce : Option Announce
deriving DecidableEq, Repr

/-- What leaves the module (log 4): messages, frames, notices, host writes and pulses. -/
inductive Sent where
  /-- MSI-X message of a vector (R261). -/
  | msix (vector : Nat)
  /-- A copy of a lock notice (R90, R91): multicast group, UDP port, the 420-byte datagram, the Ethernet ports it leaves on, each with
  its VLAN (0 untagged) and priority (R195). -/
  | notice (group : List Nat) (udp : Nat) (datagram : List Byte) (ports : List (Nat × Nat × Nat))
  /-- The uplink order told to a head at its training (R28): mirrors 0–1,159 in the order it sends them. -/
  | uplinkOrder (head : Nat) (order : List Nat)
  /-- Tick marker with the windlass header, to head h (R29, R210): WL_OP and SEQ. -/
  | marker (head : Nat) (op seq : Nat)
  /-- Drive codes of a downlink frame (R29), and its trailer WL_OP2 and token. -/
  | codes (head : Nat) (codes : List (Nat × Half)) (op2 : Nat) (token : Nat)
  /-- Copy frame (R199), the 111,824 bytes of copyBytes. -/
  | copy (f : CopyFrame)
  /-- RETURN frame (R200), the 68 bytes of returnBytes. -/
  | ret (f : ReturnFrame)
  /-- Journal message (R204), in a TYPE 2 frame behind the bytes of headerBytes. -/
  | journal (h : FrameHeader) (m : JMsg)
  /-- Bytes written to host memory at a host address of a context (R284), with or without no-snoop (R256). -/
  | hostWrite (ctx addr : Nat) (data : List Byte) (noSnoop : Bool)
  /-- A read request of a tow to a host address of its space (R117), with the relaxed-ordering and no-snoop attributes (R256). -/
  | hostRead (ctx addr len : Nat) (relaxed noSnoop : Bool)
  /-- Answer to a host read (R258, R259), with the poisoned bit set or not. -/
  | readData (data : List Byte) (poisoned : Bool)
  /-- Identity frame about a customer port (R249, R250): the port, the 48 bytes. -/
  | identFrame (port : Nat) (bytes : List Byte)
  /-- PTP message from a port (R187). -/
  | ptp (m : PtpOut)
  /-- A PPS_OUT pulse of this width, µs (R192). -/
  | pps (width : Nat)
  /-- Light of a connector turned off or on (R373). -/
  | light (connector : Nat) (on : Bool)
  /-- Identity-store bytes written to a bay (R220). -/
  | storeWrite (bay off : Nat) (data : List Byte)
deriving DecidableEq, Repr

/-! ## Test port (R370) -/

/-- An instruction of the test port (R370); the manual gives no codes. -/
inductive TestInstr where
  | bypass | idcode | samplePreload | extest | other (code : Nat)
deriving DecidableEq, Repr

/-- A module signal of Table: Module signals, or a bay's two-wire or presence contact (R361, R370, R376). -/
inductive Signal where
  | perstN | resetN | wake | ready | alertN | ppsIn | ppsOut | role | plane (bit : Nat) | switchId (bit : Nat) | flashWp | step | dir
  | sda (bay : Nat) | scl (bay : Nat) | presentN (bay : Nat)
deriving DecidableEq, Repr

/-- The test port (R370): TRST_N, the instruction shifted in last, and the boundary-scan register. -/
structure TestPort where
  trstLow : Bool := true
  instr : TestInstr := .idcode
  cells : List (Signal × Bool) := []
deriving DecidableEq, Repr

/-- The state of the block. -/
structure State where
  /-- The commands that wait, first in, first out. -/
  pending : List Instr := []
  /-- R288: host commands the lockkeeper cores have taken and not yet handled, in the order taken. -/
  taken : List Instr := []
  /-- R386: register words by BAR0 offset; an unlisted word has its reset value. -/
  regs : Sparse Word := []
  steer : Steer := {}
  map : MapState := {}
  lock : Lock := {}
  fabric : Fabric := {}
  tows : TowSys := {}
  mem : Mem := {}
  auction : Auction := {}
  time : Time := {}
  pair : Pair := {}
  light : Light := {}
  link : Link := {}
  power : Power := {}
  boot : Boot := {}
  log : Logbook := {}
  ras : Ras := {}
  test : TestPort := {}
  /-- R351: counters 0–511, saturating at 2^64 − 1; Keeps F/L2. -/
  counters : Sparse Nat := []
  /-- What has left the module since reset, oldest first (log 4). -/
  out : List Sent := []
  /-- The model's own field: how many free values have been drawn (log 3). -/
  free : Nat := 0
deriving DecidableEq, Repr

/-- Why the machine stops with a fault. -/
inductive Fault where
  /-- Raised by a command that names an object the machine does not have: axis 4,640, head 2, bay 3 (WellFormed).
  Safe: the manual gives such a command no meaning, and no state follows it. -/
  | noSuchObject
deriving DecidableEq, Repr

/-- Why a command is refused by the model. -/
inductive Refusal where
  /-- Raised by exec for a command that has no meaning yet. Safe: no state follows it. -/
  | notModelled (mnemonic : String)
deriving DecidableEq, Repr

/-- The machine right after a P reset, before anything has loaded (R313, R381): every register word at its reset
value, every store empty, slot 0 holding the factory image with no image value of its own (log 5). -/
def State.reset : State :=
  { boot :=
      { slots :=
          [(0, some { headerOk := true, sigOk := true, digestOk := true, tableOk := true, crcOk := true, length := 0,
                      hash := 0, fw := 0, sections := [], vals := [], axisMap := [], compat := [], cabPlane := 0,
                      cabSwitch := 0, refresh := 3600, cabling := [], settle := 0, system := [], keep := [], uplink := [] })] } }

end Sys2Proof.Machine
end

