-- ==== Sys2Proof/Machine/Fields.lean ====
section
/-!
DEFINITION. The register map: where every field of every register lies in BAR0 (R386 and the field tables of its home
chapters), under the manual's own register and field names, and the catalogue of access codes, Keeps codes and reset
values that R8, R13 and R381 apply.
-/

namespace Sys2Proof.Machine

/-- A field of a register word: the word's BAR0 offset, the field's lowest bit and its width. -/
structure Fld where
  off : Nat
  lo : Nat
  width : Nat
deriving DecidableEq, Repr

/-- Access codes (R8). -/
inductive Access where
  | ro
  | rw
  | w1c
  | w1s
  | wo
  | rwl
  | rc
deriving DecidableEq, Repr

/-- One row of a field table: place, access code, Keeps code (reset part 0 none, 1 F, 2 W, 3 C; rung part 0–5; whether it
carries I) and reset value (R8, R13, R381). -/
structure FieldRow where
  lo : Nat
  width : Nat
  acc : Access
  keepR : Nat
  keepL : Nat
  img : Bool
  reset : Nat
deriving DecidableEq, Repr

namespace F

/-! REACH_CTRL (02_steering.md R57). -/
def REACH_CTRL.EN (k : Nat) : Fld := ⟨0x400000 + k * 0x10000, 0, 1⟩
def REACH_CTRL.RELIEVE (k : Nat) : Fld := ⟨0x400000 + k * 0x10000, 1, 1⟩
def REACH_CTRL.RETURN (k : Nat) : Fld := ⟨0x400000 + k * 0x10000, 2, 1⟩

/-! REACH_STATUS (02_steering.md R57). -/
def REACH_STATUS.DUTY (k : Nat) : Fld := ⟨0x400004 + k * 0x10000, 0, 2⟩
def REACH_STATUS.MISS_RUN (k : Nat) : Fld := ⟨0x400004 + k * 0x10000, 2, 2⟩
def REACH_STATUS.RELIEVING (k : Nat) : Fld := ⟨0x400004 + k * 0x10000, 4, 4⟩
def REACH_STATUS.BANK_ERR (k : Nat) : Fld := ⟨0x400004 + k * 0x10000, 8, 1⟩
def REACH_STATUS.GANG_ERR (k : Nat) : Fld := ⟨0x400004 + k * 0x10000, 9, 1⟩
def REACH_STATUS.RELIEF_BUSY (k : Nat) : Fld := ⟨0x400004 + k * 0x10000, 10, 1⟩
def REACH_STATUS.RETURN_ERR (k : Nat) : Fld := ⟨0x400004 + k * 0x10000, 11, 1⟩
def REACH_STATUS.WORK_TIME (k : Nat) : Fld := ⟨0x400004 + k * 0x10000, 16, 16⟩

/-! LAW_BANK_SEL (02_steering.md R57). -/
def LAW_BANK_SEL.ACTIVE (k : Nat) : Fld := ⟨0x400008 + k * 0x10000, 0, 16⟩
def LAW_BANK_SEL.SWAP (k : Nat) : Fld := ⟨0x400008 + k * 0x10000, 16, 16⟩

/-! SCHED_CTRL (02_steering.md R57). -/
def SCHED_CTRL.EN (k : Nat) : Fld := ⟨0x40000c + k * 0x10000, 0, 1⟩
def SCHED_CTRL.DOWN_HOLD (k : Nat) : Fld := ⟨0x40000c + k * 0x10000, 1, 3⟩
def SCHED_CTRL.RUN_EXIT (k : Nat) : Fld := ⟨0x40000c + k * 0x10000, 8, 8⟩

/-! REP_CTRL (02_steering.md R57). -/
def REP_CTRL.EN (k : Nat) : Fld := ⟨0x400010 + k * 0x10000, 0, 1⟩
def REP_CTRL.FREEZE (k : Nat) : Fld := ⟨0x400010 + k * 0x10000, 1, 1⟩
def REP_CTRL.CLEAR (k : Nat) : Fld := ⟨0x400010 + k * 0x10000, 2, 1⟩

/-! DITHER_CTRL (02_steering.md R57). -/
def DITHER_CTRL.EN (k : Nat) : Fld := ⟨0x400014 + k * 0x10000, 0, 1⟩
def DITHER_CTRL.AMP (k : Nat) : Fld := ⟨0x400014 + k * 0x10000, 4, 4⟩
def DITHER_CTRL.LAG (k : Nat) : Fld := ⟨0x400014 + k * 0x10000, 8, 4⟩
def DITHER_CTRL.FRZ_FRAC (k : Nat) : Fld := ⟨0x400014 + k * 0x10000, 12, 2⟩
def DITHER_CTRL.RECAL (k : Nat) : Fld := ⟨0x400014 + k * 0x10000, 14, 1⟩

/-! GANG_CTRL (02_steering.md R57). -/
def GANG_CTRL.GANG (k : Nat) : Fld := ⟨0x400018 + k * 0x10000, 0, 2⟩

/-! SETPT_ROUTE (02_steering.md R57). -/
def SETPT_ROUTE.AIN_SLOT (k : Nat) : Fld := ⟨0x40001c + k * 0x10000, 0, 10⟩
def SETPT_ROUTE.AIN_EN (k : Nat) : Fld := ⟨0x40001c + k * 0x10000, 10, 1⟩
def SETPT_ROUTE.STEP_SLOT (k : Nat) : Fld := ⟨0x40001c + k * 0x10000, 16, 10⟩
def SETPT_ROUTE.STEP_EN (k : Nat) : Fld := ⟨0x40001c + k * 0x10000, 26, 1⟩

/-! REACH_MISS (02_steering.md R57). -/
def REACH_MISS.COUNT (k : Nat) : Fld := ⟨0x400020 + k * 0x10000, 0, 32⟩

/-! SETPT_SCALE (02_steering.md R57). -/
def SETPT_SCALE.GAIN (k : Nat) : Fld := ⟨0x400024 + k * 0x10000, 0, 16⟩
def SETPT_SCALE.SHIFT (k : Nat) : Fld := ⟨0x400024 + k * 0x10000, 16, 4⟩

/-! SETPT_STEP (02_steering.md R57). -/
def SETPT_STEP.STEP_SIZE (k : Nat) : Fld := ⟨0x400028 + k * 0x10000, 0, 16⟩

/-! AXIS_FLAGS (02_steering.md R57). -/
def AXIS_FLAGS.OUT_SAT (k j : Nat) : Fld := ⟨0x402000 + k * 0x10000 + j * 4, 0, 1⟩
def AXIS_FLAGS.INT_SAT (k j : Nat) : Fld := ⟨0x402000 + k * 0x10000 + j * 4, 1, 1⟩
def AXIS_FLAGS.ACC_SAT (k j : Nat) : Fld := ⟨0x402000 + k * 0x10000 + j * 4, 2, 1⟩
def AXIS_FLAGS.REP_SAT (k j : Nat) : Fld := ⟨0x402000 + k * 0x10000 + j * 4, 3, 1⟩
def AXIS_FLAGS.FROZEN_SEEN (k j : Nat) : Fld := ⟨0x402000 + k * 0x10000 + j * 4, 4, 1⟩
def AXIS_FLAGS.BLIND_SEEN (k j : Nat) : Fld := ⟨0x402000 + k * 0x10000 + j * 4, 5, 1⟩
def AXIS_FLAGS.MISS (k j : Nat) : Fld := ⟨0x402000 + k * 0x10000 + j * 4, 6, 1⟩
def AXIS_FLAGS.STATE (k j : Nat) : Fld := ⟨0x402000 + k * 0x10000 + j * 4, 16, 3⟩
def AXIS_FLAGS.OUT_NOW (k j : Nat) : Fld := ⟨0x402000 + k * 0x10000 + j * 4, 20, 1⟩
def AXIS_FLAGS.REGION (k j : Nat) : Fld := ⟨0x402000 + k * 0x10000 + j * 4, 21, 3⟩
def AXIS_FLAGS.SRC (k j : Nat) : Fld := ⟨0x402000 + k * 0x10000 + j * 4, 24, 2⟩
def AXIS_FLAGS.MODE (k j : Nat) : Fld := ⟨0x402000 + k * 0x10000 + j * 4, 26, 2⟩
def AXIS_FLAGS.CLASS (k j : Nat) : Fld := ⟨0x402000 + k * 0x10000 + j * 4, 28, 4⟩

/-! LOCK_STATUS (03_lock_cycles.md R100). -/
def LOCK_STATUS.PHASE : Fld := ⟨0x500000, 0, 3⟩
def LOCK_STATUS.PENDING : Fld := ⟨0x500000, 3, 4⟩
def LOCK_STATUS.WAVE2 : Fld := ⟨0x500000, 7, 1⟩
def LOCK_STATUS.FALLBACK : Fld := ⟨0x500000, 8, 1⟩
def LOCK_STATUS.LIMITED : Fld := ⟨0x500000, 9, 1⟩
def LOCK_STATUS.EXTENDED : Fld := ⟨0x500000, 10, 1⟩
def LOCK_STATUS.JOINT : Fld := ⟨0x500000, 11, 1⟩
def LOCK_STATUS.PROOF_BUSY : Fld := ⟨0x500000, 12, 1⟩
def LOCK_STATUS.BIN_A : Fld := ⟨0x500000, 16, 4⟩
def LOCK_STATUS.BIN_B : Fld := ⟨0x500000, 20, 4⟩

/-! LOCK_ACTIVE_ID (03_lock_cycles.md R100). -/
def LOCK_ACTIVE_ID.ID : Fld := ⟨0x500004, 0, 32⟩

/-! LOCK_LIMITS (03_lock_cycles.md R100). -/
def LOCK_LIMITS.V_SCALE : Fld := ⟨0x500008, 0, 8⟩
def LOCK_LIMITS.A_SCALE : Fld := ⟨0x500008, 8, 8⟩
def LOCK_LIMITS.J_SCALE : Fld := ⟨0x500008, 16, 8⟩
def LOCK_LIMITS.FORCE_FALLBACK : Fld := ⟨0x500008, 24, 1⟩
def LOCK_LIMITS.LEARN : Fld := ⟨0x500008, 25, 1⟩
def LOCK_LIMITS.LATE_PROOF_EN : Fld := ⟨0x500008, 26, 1⟩

/-! LOCK_CAPTURE (03_lock_cycles.md R100). -/
def LOCK_CAPTURE.CAPTURE_ERR : Fld := ⟨0x50000c, 0, 12⟩
def LOCK_CAPTURE.CAPTURE_RUN : Fld := ⟨0x50000c, 12, 4⟩
def LOCK_CAPTURE.CAPTURE_MAX : Fld := ⟨0x50000c, 16, 8⟩

/-! LOCK_PROVE (03_lock_cycles.md R100). -/
def LOCK_PROVE.PROVE_ERR : Fld := ⟨0x500010, 0, 8⟩
def LOCK_PROVE.PROVE_HOLD : Fld := ⟨0x500010, 8, 4⟩
def LOCK_PROVE.LO_DB : Fld := ⟨0x500010, 12, 8⟩
def LOCK_PROVE.HI_DB : Fld := ⟨0x500010, 20, 8⟩

/-! SLEW_BUDGET (03_lock_cycles.md R100). -/
def SLEW_BUDGET.LIMIT (n : Nat) : Fld := ⟨0x500014 + n * 4, 0, 16⟩
def SLEW_BUDGET.HEAD (n : Nat) : Fld := ⟨0x500014 + n * 4, 16, 16⟩

/-! LOCK_LAST (03_lock_cycles.md R100). -/
def LOCK_LAST.OUTCOME : Fld := ⟨0x50001c, 0, 3⟩
def LOCK_LAST.REASON : Fld := ⟨0x50001c, 8, 8⟩
def LOCK_LAST.FAILED : Fld := ⟨0x50001c, 16, 16⟩

/-! LOCK_TIMES (03_lock_cycles.md R100). -/
def LOCK_TIMES.DURATION : Fld := ⟨0x500020, 0, 16⟩
def LOCK_TIMES.EXTRA : Fld := ⟨0x500020, 16, 16⟩

/-! LOCK_EPOCH (03_lock_cycles.md R100). -/
def LOCK_EPOCH.EPOCH : Fld := ⟨0x500024, 0, 32⟩

/-! MAP_STATUS (03_lock_cycles.md R100). -/
def MAP_STATUS.COMMIT_BUSY : Fld := ⟨0x500028, 0, 1⟩
def MAP_STATUS.FLASH_PENDING : Fld := ⟨0x500028, 1, 1⟩
def MAP_STATUS.CHECK_ERR : Fld := ⟨0x500028, 2, 1⟩
def MAP_STATUS.JOURNAL : Fld := ⟨0x500028, 4, 17⟩

/-! ARRAY_STATUS (04_garnet_arrays.md R129). -/
def ARRAY_STATUS.STATE (n : Nat) : Fld := ⟨0x700000 + n * 4, 0, 3⟩
def ARRAY_STATUS.CLASS (n : Nat) : Fld := ⟨0x700000 + n * 4, 3, 2⟩
def ARRAY_STATUS.SPACE (n : Nat) : Fld := ⟨0x700000 + n * 4, 5, 6⟩
def ARRAY_STATUS.GANG (n : Nat) : Fld := ⟨0x700000 + n * 4, 11, 2⟩
def ARRAY_STATUS.LEAD (n : Nat) : Fld := ⟨0x700000 + n * 4, 13, 1⟩
def ARRAY_STATUS.SPARES_USED (n : Nat) : Fld := ⟨0x700000 + n * 4, 14, 4⟩
def ARRAY_STATUS.ESC (n : Nat) : Fld := ⟨0x700000 + n * 4, 18, 1⟩
def ARRAY_STATUS.STARVED (n : Nat) : Fld := ⟨0x700000 + n * 4, 19, 1⟩
def ARRAY_STATUS.BARGE (n : Nat) : Fld := ⟨0x700000 + n * 4, 20, 12⟩

/-! ARRAY_PACE (04_garnet_arrays.md R129). -/
def ARRAY_PACE.PACE0 : Fld := ⟨0x700010, 0, 8⟩
def ARRAY_PACE.PACE1 : Fld := ⟨0x700010, 8, 8⟩
def ARRAY_PACE.PACE2 : Fld := ⟨0x700010, 16, 8⟩
def ARRAY_PACE.PACE3 : Fld := ⟨0x700010, 24, 8⟩

/-! TUG_STATUS (04_garnet_arrays.md R129). -/
def TUG_STATUS.INFLIGHT : Fld := ⟨0x700014, 0, 13⟩
def TUG_STATUS.HOST_INFLIGHT : Fld := ⟨0x700014, 13, 10⟩
def TUG_STATUS.HOST_FULL : Fld := ⟨0x700014, 23, 1⟩
def TUG_STATUS.STACK0_BP : Fld := ⟨0x700014, 24, 1⟩
def TUG_STATUS.STACK1_BP : Fld := ⟨0x700014, 25, 1⟩
def TUG_STATUS.BASIN_BP : Fld := ⟨0x700014, 26, 1⟩
def TUG_STATUS.STACK_WAIT : Fld := ⟨0x700014, 27, 1⟩

/-! SPACE_TABLE_BASE (04_garnet_arrays.md R129). -/
def SPACE_TABLE_BASE.BASE : Fld := ⟨0x700018, 0, 28⟩

/-! TOW_PREEMPT (04_garnet_arrays.md R129). -/
def TOW_PREEMPT.HOLD_BG : Fld := ⟨0x70001c, 0, 1⟩
def TOW_PREEMPT.HOLD_PLAN : Fld := ⟨0x70001c, 1, 1⟩
def TOW_PREEMPT.RESERVE : Fld := ⟨0x70001c, 2, 2⟩
def TOW_PREEMPT.COUNT : Fld := ⟨0x70001c, 16, 16⟩

/-! ESCALATE_CTRL (04_garnet_arrays.md R129). -/
def ESCALATE_CTRL.EN : Fld := ⟨0x700020, 0, 1⟩
def ESCALATE_CTRL.EVENT : Fld := ⟨0x700020, 1, 1⟩
def ESCALATE_CTRL.BUDGET : Fld := ⟨0x700020, 8, 4⟩
def ESCALATE_CTRL.COUNT : Fld := ⟨0x700020, 16, 16⟩

/-! RESIDUE_STATUS (04_garnet_arrays.md R129). -/
def RESIDUE_STATUS.MISMATCH : Fld := ⟨0x700024, 0, 1⟩
def RESIDUE_STATUS.UNRESOLVED : Fld := ⟨0x700024, 1, 1⟩
def RESIDUE_STATUS.RETIRED : Fld := ⟨0x700024, 2, 1⟩
def RESIDUE_STATUS.ARRAY : Fld := ⟨0x700024, 3, 2⟩
def RESIDUE_STATUS.COLUMN : Fld := ⟨0x700024, 5, 9⟩
def RESIDUE_STATUS.COUNT : Fld := ⟨0x700024, 16, 16⟩

/-! AUC_CTRL (06_planner.md R179). -/
def AUC_CTRL.EN : Fld := ⟨0x800000, 0, 1⟩
def AUC_CTRL.RESERVE : Fld := ⟨0x800000, 1, 1⟩
def AUC_CTRL.POLICY_EN : Fld := ⟨0x800000, 2, 1⟩
def AUC_CTRL.POLICY_SPACE : Fld := ⟨0x800000, 3, 6⟩
def AUC_CTRL.SOLVE_LIMIT : Fld := ⟨0x800000, 9, 4⟩

/-! AUC_STATUS (06_planner.md R179). -/
def AUC_STATUS.IN_SERVICE : Fld := ⟨0x800004, 0, 5⟩
def AUC_STATUS.BUSY : Fld := ⟨0x800004, 5, 5⟩
def AUC_STATUS.RETIRED : Fld := ⟨0x800004, 10, 5⟩
def AUC_STATUS.QUEUED : Fld := ⟨0x800004, 15, 7⟩
def AUC_STATUS.RELOADING : Fld := ⟨0x800004, 22, 1⟩
def AUC_STATUS.CERT_FAIL : Fld := ⟨0x800004, 23, 1⟩
def AUC_STATUS.SATURATED : Fld := ⟨0x800004, 24, 1⟩

/-! AUC_SOLVES (06_planner.md R179). -/
def AUC_SOLVES.DONE : Fld := ⟨0x800008, 0, 16⟩
def AUC_SOLVES.SHORT : Fld := ⟨0x800008, 16, 16⟩

/-! PLAN_LIB (06_planner.md R179). -/
def PLAN_LIB.BASE : Fld := ⟨0x80000c, 0, 22⟩
def PLAN_LIB.USED : Fld := ⟨0x80000c, 22, 8⟩

/-! POLICY_RING (06_planner.md R179). -/
def POLICY_RING.OFFSET : Fld := ⟨0x800010, 0, 22⟩

/-! PORT_GEN (06_planner.md R179). -/
def PORT_GEN.GEN : Fld := ⟨0x800014, 0, 32⟩

/-! TB_CTRL (07_time.md R195). -/
def TB_CTRL.EN (n : Nat) : Fld := ⟨0x200000 + n * 4, 0, 1⟩
def TB_CTRL.MODE (n : Nat) : Fld := ⟨0x200000 + n * 4, 1, 2⟩
def TB_CTRL.PORTS (n : Nat) : Fld := ⟨0x200000 + n * 4, 3, 2⟩
def TB_CTRL.DOMAIN (n : Nat) : Fld := ⟨0x200000 + n * 4, 5, 8⟩
def TB_CTRL.KP_SHIFT (n : Nat) : Fld := ⟨0x200000 + n * 4, 13, 4⟩
def TB_CTRL.KI_SHIFT (n : Nat) : Fld := ⟨0x200000 + n * 4, 17, 4⟩
def TB_CTRL.TWO_STEP (n : Nat) : Fld := ⟨0x200000 + n * 4, 21, 1⟩

/-! TB_FLAGS (07_time.md R195). -/
def TB_FLAGS.STATE0 : Fld := ⟨0x200010, 0, 2⟩
def TB_FLAGS.STATE1 : Fld := ⟨0x200010, 2, 2⟩
def TB_FLAGS.JUMP0 : Fld := ⟨0x200010, 4, 1⟩
def TB_FLAGS.JUMP1 : Fld := ⟨0x200010, 5, 1⟩
def TB_FLAGS.SLEW0 : Fld := ⟨0x200010, 6, 1⟩
def TB_FLAGS.SLEW1 : Fld := ⟨0x200010, 7, 1⟩
def TB_FLAGS.STEPPED0 : Fld := ⟨0x200010, 8, 1⟩
def TB_FLAGS.STEPPED1 : Fld := ⟨0x200010, 9, 1⟩
def TB_FLAGS.TB2_SYNC : Fld := ⟨0x200010, 10, 1⟩
def TB_FLAGS.PPS_LOST : Fld := ⟨0x200010, 11, 1⟩
def TB_FLAGS.HOLD_ERR : Fld := ⟨0x200010, 16, 16⟩

/-! TB_JUMP_LIMIT (07_time.md R195). -/
def TB_JUMP_LIMIT.LIMIT : Fld := ⟨0x200014, 0, 16⟩
def TB_JUMP_LIMIT.SLEW_PPM : Fld := ⟨0x200014, 16, 7⟩

/-! TB_TICK (07_time.md R196). -/
def TB_TICK.PERIOD : Fld := ⟨0x200018, 0, 16⟩
def TB_TICK.ERR : Fld := ⟨0x200018, 16, 1⟩

/-! PPS_CTRL (07_time.md R196). -/
def PPS_CTRL.OUT_EN : Fld := ⟨0x20001c, 0, 1⟩
def PPS_CTRL.OUT_SRC : Fld := ⟨0x20001c, 1, 2⟩
def PPS_CTRL.IN_EN : Fld := ⟨0x20001c, 3, 1⟩
def PPS_CTRL.IN_POL : Fld := ⟨0x20001c, 4, 1⟩
def PPS_CTRL.WIDTH : Fld := ⟨0x20001c, 8, 8⟩
def PPS_CTRL.PPS_ERR : Fld := ⟨0x20001c, 16, 16⟩

/-! TB_NOW (07_time.md R196). -/
def TB_NOW.SEC_LO (n : Nat) : Fld := ⟨0x200020 + n * 16, 0, 32⟩
def TB_NOW.SEC_HI (n : Nat) : Fld := ⟨0x200024 + n * 16, 0, 32⟩
def TB_NOW.NS (n : Nat) : Fld := ⟨0x200028 + n * 16, 0, 30⟩
def TB_NOW.FRAC (n : Nat) : Fld := ⟨0x20002c + n * 16, 0, 16⟩

/-! TB_OFFSET (07_time.md R196). -/
def TB_OFFSET.OFFSET (n : Nat) : Fld := ⟨0x200060 + n * 8, 0, 32⟩
def TB_OFFSET.OFFSET_HI (n : Nat) : Fld := ⟨0x200064 + n * 8, 0, 32⟩

/-! TB_RATE (07_time.md R196). -/
def TB_RATE.RATE (n : Nat) : Fld := ⟨0x200078 + n * 4, 0, 32⟩

/-! PTP_PORT_CTRL (07_time.md R196). -/
def PTP_PORT_CTRL.EN (n : Nat) : Fld := ⟨0x200084 + n * 4, 0, 1⟩
def PTP_PORT_CTRL.TRANSPORT (n : Nat) : Fld := ⟨0x200084 + n * 4, 1, 2⟩
def PTP_PORT_CTRL.P2P (n : Nat) : Fld := ⟨0x200084 + n * 4, 3, 1⟩
def PTP_PORT_CTRL.LOG_SYNC (n : Nat) : Fld := ⟨0x200084 + n * 4, 4, 4⟩
def PTP_PORT_CTRL.LOG_DELAY (n : Nat) : Fld := ⟨0x200084 + n * 4, 8, 4⟩
def PTP_PORT_CTRL.LOG_ANNOUNCE (n : Nat) : Fld := ⟨0x200084 + n * 4, 12, 4⟩
def PTP_PORT_CTRL.ANNOUNCE_TO (n : Nat) : Fld := ⟨0x200084 + n * 4, 16, 4⟩

/-! PTP_ASYM (07_time.md R196). -/
def PTP_ASYM.ASYM (n : Nat) : Fld := ⟨0x20008c + n * 4, 0, 32⟩

/-! ETH_CTRL (07_time.md R196). -/
def ETH_CTRL.EN (n : Nat) : Fld := ⟨0xe00000 + n * 4, 0, 1⟩
def ETH_CTRL.FEC (n : Nat) : Fld := ⟨0xe00000 + n * 4, 1, 1⟩
def ETH_CTRL.PTP_EN (n : Nat) : Fld := ⟨0xe00000 + n * 4, 2, 1⟩
def ETH_CTRL.NOTICE_EN (n : Nat) : Fld := ⟨0xe00000 + n * 4, 3, 1⟩
def ETH_CTRL.MGMT_EN (n : Nat) : Fld := ⟨0xe00000 + n * 4, 4, 1⟩
def ETH_CTRL.VLAN (n : Nat) : Fld := ⟨0xe00000 + n * 4, 5, 12⟩
def ETH_CTRL.PCP (n : Nat) : Fld := ⟨0xe00000 + n * 4, 17, 3⟩

/-! ETH_STATUS (07_time.md R196). -/
def ETH_STATUS.LINK0 : Fld := ⟨0xe00008, 0, 1⟩
def ETH_STATUS.FEC_LOCK0 : Fld := ⟨0xe00008, 1, 1⟩
def ETH_STATUS.PTP0_TB0 : Fld := ⟨0xe00008, 2, 4⟩
def ETH_STATUS.PTP0_TB1 : Fld := ⟨0xe00008, 6, 4⟩
def ETH_STATUS.LINK1 : Fld := ⟨0xe00008, 16, 1⟩
def ETH_STATUS.FEC_LOCK1 : Fld := ⟨0xe00008, 17, 1⟩
def ETH_STATUS.PTP1_TB0 : Fld := ⟨0xe00008, 18, 4⟩
def ETH_STATUS.PTP1_TB1 : Fld := ⟨0xe00008, 22, 4⟩

/-! PAIR_STATUS (08_pair.md R217). -/
def PAIR_STATUS.STATE : Fld := ⟨0x300000, 0, 3⟩
def PAIR_STATUS.PARTNER : Fld := ⟨0x300000, 3, 3⟩
def PAIR_STATUS.REASON : Fld := ⟨0x300000, 6, 4⟩
def PAIR_STATUS.ORPHANED : Fld := ⟨0x300000, 10, 1⟩
def PAIR_STATUS.COLD : Fld := ⟨0x300000, 11, 1⟩
def PAIR_STATUS.WRITE_IGN : Fld := ⟨0x300000, 12, 1⟩
def PAIR_STATUS.TOOK_OVER : Fld := ⟨0x300000, 13, 1⟩
def PAIR_STATUS.MISSED : Fld := ⟨0x300000, 16, 8⟩
def PAIR_STATUS.COPY_AGE : Fld := ⟨0x300000, 24, 8⟩

/-! PAIR_EPOCH (08_pair.md R217). -/
def PAIR_EPOCH.EPOCH : Fld := ⟨0x300004, 0, 32⟩

/-! PAIR_CFG (08_pair.md R217). -/
def PAIR_CFG.EN : Fld := ⟨0x300008, 0, 1⟩
def PAIR_CFG.MIN_LANES : Fld := ⟨0x300008, 1, 3⟩
def PAIR_CFG.ALERT_ORPHAN : Fld := ⟨0x300008, 4, 1⟩

/-! TETHER_LANES (08_pair.md R217). -/
def TETHER_LANES.UP : Fld := ⟨0x30000c, 0, 5⟩
def TETHER_LANES.IN_USE : Fld := ⟨0x30000c, 5, 5⟩
def TETHER_LANES.SPARE_USED : Fld := ⟨0x30000c, 10, 1⟩
def TETHER_LANES.FAILOVERS : Fld := ⟨0x30000c, 16, 16⟩

/-! PAIR_SEQ (08_pair.md R217). -/
def PAIR_SEQ.SEQ : Fld := ⟨0x300010, 0, 32⟩

/-! CART_STATUS (09_light.md R240). -/
def CART_STATUS.STATE (n : Nat) : Fld := ⟨0x600000 + n * 4, 0, 3⟩
def CART_STATUS.PRESENT (n : Nat) : Fld := ⟨0x600000 + n * 4, 3, 1⟩
def CART_STATUS.BEACONS (n : Nat) : Fld := ⟨0x600000 + n * 4, 4, 2⟩
def CART_STATUS.FADE_WARN (n : Nat) : Fld := ⟨0x600000 + n * 4, 6, 1⟩
def CART_STATUS.FADE_SWAP (n : Nat) : Fld := ⟨0x600000 + n * 4, 7, 1⟩
def CART_STATUS.LINE_FAIL (n : Nat) : Fld := ⟨0x600000 + n * 4, 8, 1⟩
def CART_STATUS.MIGRATING (n : Nat) : Fld := ⟨0x600000 + n * 4, 9, 1⟩
def CART_STATUS.END_OF_LIFE (n : Nat) : Fld := ⟨0x600000 + n * 4, 10, 1⟩
def CART_STATUS.HOURS (n : Nat) : Fld := ⟨0x600000 + n * 4, 16, 16⟩

/-! BEACON_CTRL (09_light.md R240). -/
def BEACON_CTRL.TARGET_A : Fld := ⟨0x60000c, 0, 8⟩
def BEACON_CTRL.TARGET_B : Fld := ⟨0x60000c, 8, 8⟩
def BEACON_CTRL.SHARE : Fld := ⟨0x60000c, 16, 1⟩
def BEACON_CTRL.SRC_A : Fld := ⟨0x60000c, 17, 2⟩
def BEACON_CTRL.SRC_B : Fld := ⟨0x60000c, 19, 2⟩

/-! CART_POWER (09_light.md R240). -/
def CART_POWER.LOSS (n : Nat) : Fld := ⟨0x600010 + n * 4, 0, 16⟩
def CART_POWER.PREDICT (n : Nat) : Fld := ⟨0x600010 + n * 4, 16, 16⟩

/-! RING_STATUS (09_light.md R240). -/
def RING_STATUS.LOCKED : Fld := ⟨0x60001c, 0, 8⟩
def RING_STATUS.SPARES_USED : Fld := ⟨0x60001c, 8, 6⟩
def RING_STATUS.RETRAINING : Fld := ⟨0x60001c, 14, 6⟩
def RING_STATUS.SEARCH_DONE : Fld := ⟨0x60001c, 20, 1⟩
def RING_STATUS.WARM : Fld := ⟨0x60001c, 21, 1⟩

/-! FADE_THRESH (09_light.md R240). -/
def FADE_THRESH.WARN : Fld := ⟨0x600020, 0, 8⟩
def FADE_THRESH.SWAP : Fld := ⟨0x600020, 8, 8⟩
def FADE_THRESH.PREDICT : Fld := ⟨0x600020, 16, 8⟩
def FADE_THRESH.HORIZON : Fld := ⟨0x600020, 24, 7⟩
def FADE_THRESH.AUTO : Fld := ⟨0x600020, 31, 1⟩

/-! SVC_PORT_CTRL (09_light.md R240). -/
def SVC_PORT_CTRL.EN (n : Nat) : Fld := ⟨0x600040 + n * 4, 0, 1⟩
def SVC_PORT_CTRL.DAC_BITS (n : Nat) : Fld := ⟨0x600040 + n * 4, 1, 4⟩
def SVC_PORT_CTRL.LANES (n : Nat) : Fld := ⟨0x600040 + n * 4, 5, 3⟩
def SVC_PORT_CTRL.DEGRADED (n : Nat) : Fld := ⟨0x600040 + n * 4, 8, 1⟩
def SVC_PORT_CTRL.BUSY (n : Nat) : Fld := ⟨0x600040 + n * 4, 9, 1⟩
def SVC_PORT_CTRL.MOVING (n : Nat) : Fld := ⟨0x600040 + n * 4, 10, 1⟩
def SVC_PORT_CTRL.DAC_PENDING (n : Nat) : Fld := ⟨0x600040 + n * 4, 11, 1⟩

/-! RING_STATE (09_light.md R240). -/
def RING_STATE.STATE (n : Nat) : Fld := ⟨0x600100 + n * 4, 0, 3⟩
def RING_STATE.LINE (n : Nat) : Fld := ⟨0x600100 + n * 4, 4, 4⟩
def RING_STATE.BAY (n : Nat) : Fld := ⟨0x600100 + n * 4, 8, 2⟩
def RING_STATE.HEATER (n : Nat) : Fld := ⟨0x600100 + n * 4, 10, 12⟩

/-! XL_CTRL (11_host_memory.md R274). -/
def XL_CTRL.DMA_EN : Fld := ⟨0xa00000, 0, 1⟩
def XL_CTRL.NOSNOOP_EN : Fld := ⟨0xa00000, 1, 1⟩
def XL_CTRL.RELAXED_EN : Fld := ⟨0xa00000, 2, 1⟩

/-! XL_FAULT (11_host_memory.md R274). -/
def XL_FAULT.QFAULT : Fld := ⟨0xa00004, 0, 1⟩
def XL_FAULT.MORE : Fld := ⟨0xa00004, 1, 1⟩
def XL_FAULT.KIND : Fld := ⟨0xa00004, 2, 3⟩
def XL_FAULT.LEVEL : Fld := ⟨0xa00004, 5, 3⟩
def XL_FAULT.WRITE : Fld := ⟨0xa00004, 8, 1⟩
def XL_FAULT.QUEUE : Fld := ⟨0xa00004, 9, 12⟩
def XL_FAULT.RESUME : Fld := ⟨0xa00004, 21, 1⟩
def XL_FAULT.BAR2_ERR : Fld := ⟨0xa00004, 22, 1⟩
def XL_FAULT.ACCESS_ERR : Fld := ⟨0xa00004, 23, 1⟩

/-! XL_FAULT_ADDR (11_host_memory.md R274). -/
def XL_FAULT_ADDR.ADDR : Fld := ⟨0xa00008, 0, 32⟩
def XL_FAULT_ADDR.ADDR_HI : Fld := ⟨0xa0000c, 0, 32⟩

/-! XL_INVAL (11_host_memory.md R274). -/
def XL_INVAL.SPACE : Fld := ⟨0xa00010, 0, 6⟩
def XL_INVAL.QUEUE : Fld := ⟨0xa00010, 6, 1⟩
def XL_INVAL.ALL : Fld := ⟨0xa00010, 7, 1⟩
def XL_INVAL.SIZE : Fld := ⟨0xa00010, 8, 6⟩
def XL_INVAL.ERR : Fld := ⟨0xa00010, 29, 1⟩
def XL_INVAL.GO : Fld := ⟨0xa00010, 30, 1⟩

/-! XL_INVAL_ADDR (11_host_memory.md R274). -/
def XL_INVAL_ADDR.ADDR : Fld := ⟨0xa00018, 0, 32⟩
def XL_INVAL_ADDR.ADDR_HI : Fld := ⟨0xa0001c, 0, 32⟩

/-! XL_QROOT (11_host_memory.md R274). -/
def XL_QROOT.VALID : Fld := ⟨0xa00020, 0, 1⟩
def XL_QROOT.ROOT : Fld := ⟨0xa00020, 12, 20⟩
def XL_QROOT.ROOT_HI : Fld := ⟨0xa00024, 0, 20⟩

/-! BAR2_WIN (11_host_memory.md R274). -/
def BAR2_WIN.TARGET (n : Nat) : Fld := ⟨0xa00100 + n * 4, 0, 2⟩
def BAR2_WIN.WE (n : Nat) : Fld := ⟨0xa00100 + n * 4, 2, 1⟩
def BAR2_WIN.BASE (n : Nat) : Fld := ⟨0xa00100 + n * 4, 4, 16⟩

/-! QP_CTRL (12_queues_commands.md R293). -/
def QP_CTRL.READY : Fld := ⟨0x900000, 0, 1⟩
def QP_CTRL.LINK_ERR : Fld := ⟨0x900000, 1, 1⟩
def QP_CTRL.POISON : Fld := ⟨0x900000, 2, 1⟩
def QP_CTRL.LAST_BROKEN : Fld := ⟨0x900000, 3, 12⟩

/-! QP_FREE (12_queues_commands.md R293). -/
def QP_FREE.FREE : Fld := ⟨0x900004, 0, 21⟩

/-! Q_SEL (12_queues_commands.md R293). -/
def Q_SEL.QUEUE : Fld := ⟨0x900008, 0, 12⟩

/-! Q_WINDOW (12_queues_commands.md R293). -/
def Q_WINDOW.EN : Fld := ⟨0x900010, 0, 1⟩
def Q_WINDOW.DIR : Fld := ⟨0x900010, 1, 1⟩
def Q_WINDOW.VECTOR : Fld := ⟨0x900010, 2, 11⟩
def Q_WINDOW.RING : Fld := ⟨0x900010, 13, 4⟩
def Q_WINDOW.CQ : Fld := ⟨0x900010, 17, 12⟩
def Q_WINDOW.LIMIT : Fld := ⟨0x900014, 0, 20⟩
def Q_WINDOW.RESERVE : Fld := ⟨0x900018, 0, 20⟩
def Q_WINDOW.DEPTH : Fld := ⟨0x90001c, 0, 20⟩
def Q_WINDOW.OPEN : Fld := ⟨0x90001c, 20, 1⟩
def Q_WINDOW.GAP : Fld := ⟨0x90001c, 21, 1⟩
def Q_WINDOW.STOPPED : Fld := ⟨0x90001c, 22, 1⟩
def Q_WINDOW.BROKEN : Fld := ⟨0x90001c, 23, 1⟩
def Q_WINDOW.DB_ERR : Fld := ⟨0x90001c, 24, 1⟩
def Q_WINDOW.CFG_ERR : Fld := ⟨0x90001c, 25, 1⟩
def Q_WINDOW.RING_ADDR : Fld := ⟨0x900020, 0, 32⟩
def Q_WINDOW.RING_ADDR_HI : Fld := ⟨0x900024, 0, 32⟩
def Q_WINDOW.WB : Fld := ⟨0x900028, 0, 32⟩
def Q_WINDOW.WB_HI : Fld := ⟨0x90002c, 0, 32⟩
def Q_WINDOW.DEV_IDX : Fld := ⟨0x900030, 0, 32⟩
def Q_WINDOW.HOST_IDX : Fld := ⟨0x900034, 0, 32⟩
def Q_WINDOW.DROPS : Fld := ⟨0x900038, 0, 32⟩
def Q_WINDOW.TELE_SRC : Fld := ⟨0x90003c, 0, 2⟩
def Q_WINDOW.TELE_AXIS : Fld := ⟨0x90003c, 2, 13⟩
def Q_WINDOW.TELE_PRIO : Fld := ⟨0x90003c, 15, 3⟩

/-! Q_EVROUTE (12_queues_commands.md R293). -/
def Q_EVROUTE.QUEUE (n : Nat) : Fld := ⟨0x900040 + n * 4, 0, 12⟩
def Q_EVROUTE.PRIO (n : Nat) : Fld := ⟨0x900040 + n * 4, 12, 3⟩
def Q_EVROUTE.EN (n : Nat) : Fld := ⟨0x900040 + n * 4, 15, 1⟩

/-! PWR_RUNG_REQ (13_power.md R312). -/
def PWR_RUNG_REQ.RUNG : Fld := ⟨0x100000, 0, 3⟩
def PWR_RUNG_REQ.REQ_ERR : Fld := ⟨0x100000, 3, 1⟩
def PWR_RUNG_REQ.MOOR_MIN : Fld := ⟨0x100000, 8, 4⟩
def PWR_RUNG_REQ.TOUCH_TICKS : Fld := ⟨0x100000, 16, 8⟩

/-! PWR_RUNG_STATE (13_power.md R312). -/
def PWR_RUNG_STATE.RUNG : Fld := ⟨0x100004, 0, 3⟩
def PWR_RUNG_STATE.MOVING : Fld := ⟨0x100004, 3, 1⟩
def PWR_RUNG_STATE.CAUSE : Fld := ⟨0x100004, 4, 2⟩
def PWR_RUNG_STATE.TOUCH : Fld := ⟨0x100004, 6, 1⟩
def PWR_RUNG_STATE.STAY : Fld := ⟨0x100004, 16, 16⟩

/-! PWR_CAP (13_power.md R312). -/
def PWR_CAP.CAP : Fld := ⟨0x100008, 0, 10⟩
def PWR_CAP.CAP_MISS : Fld := ⟨0x100008, 10, 1⟩
def PWR_CAP.INPUT_LOW : Fld := ⟨0x100008, 11, 1⟩
def PWR_CAP.INPUT : Fld := ⟨0x100008, 16, 16⟩

/-! PWR_PACE (13_power.md R312). -/
def PWR_PACE.REQ : Fld := ⟨0x10000c, 0, 8⟩
def PWR_PACE.ACHIEVED : Fld := ⟨0x10000c, 8, 8⟩
def PWR_PACE.CORE_MV : Fld := ⟨0x10000c, 16, 10⟩
def PWR_PACE.FLOOR : Fld := ⟨0x10000c, 26, 1⟩
def PWR_PACE.CAP_LIMITED : Fld := ⟨0x10000c, 27, 1⟩
def PWR_PACE.PHASE_LIMITED : Fld := ⟨0x10000c, 28, 1⟩
def PWR_PACE.THROTTLED : Fld := ⟨0x10000c, 29, 1⟩

/-! PWR_RAILS (13_power.md R312). -/
def PWR_RAILS.CORE_PHASES : Fld := ⟨0x100010, 0, 5⟩
def PWR_RAILS.SPARES_USED : Fld := ⟨0x100010, 5, 2⟩
def PWR_RAILS.PHASE_FAIL : Fld := ⟨0x100010, 7, 1⟩
def PWR_RAILS.RAIL_OK : Fld := ⟨0x100010, 8, 8⟩
def PWR_RAILS.CART_ON : Fld := ⟨0x100010, 16, 3⟩
def PWR_RAILS.CART_TRIP : Fld := ⟨0x100010, 19, 3⟩

/-! PWR_THERM (13_power.md R312). -/
def PWR_THERM.TJ : Fld := ⟨0x100014, 0, 8⟩
def PWR_THERM.HOT : Fld := ⟨0x100014, 8, 6⟩
def PWR_THERM.HALTED : Fld := ⟨0x100014, 14, 4⟩
def PWR_THERM.WARN : Fld := ⟨0x100014, 18, 1⟩
def PWR_THERM.THERM_RUNG : Fld := ⟨0x100014, 19, 1⟩
def PWR_THERM.STACK_HOT : Fld := ⟨0x100014, 20, 1⟩
def PWR_THERM.PHOTONIC_OOR : Fld := ⟨0x100014, 21, 1⟩
def PWR_THERM.PHOTONIC : Fld := ⟨0x100014, 24, 8⟩

/-! PWR_WAKE (13_power.md R312). -/
def PWR_WAKE.PIN_EN : Fld := ⟨0x100018, 0, 1⟩
def PWR_WAKE.CMD_EN : Fld := ⟨0x100018, 1, 1⟩
def PWR_WAKE.TIMER_EN : Fld := ⟨0x100018, 2, 1⟩
def PWR_WAKE.LAST : Fld := ⟨0x100018, 8, 3⟩
def PWR_WAKE.TIMER : Fld := ⟨0x100018, 16, 16⟩

/-! PWR_TEMP (13_power.md R312). -/
def PWR_TEMP.TEMP (n : Nat) : Fld := ⟨0x100100 + n * 4, 0, 16⟩
def PWR_TEMP.VALID (n : Nat) : Fld := ⟨0x100100 + n * 4, 16, 1⟩

/-! IMG_STATUS (14_bringup_resets.md R337). -/
def IMG_STATUS.ACTIVE : Fld := ⟨0xf00000, 0, 2⟩
def IMG_STATUS.FALLBACK : Fld := ⟨0xf00000, 2, 1⟩
def IMG_STATUS.STAGING : Fld := ⟨0xf00000, 3, 1⟩
def IMG_STATUS.VALID : Fld := ⟨0xf00000, 4, 3⟩
def IMG_STATUS.FAILED : Fld := ⟨0xf00000, 7, 3⟩
def IMG_STATUS.AWAIT_RESET : Fld := ⟨0xf00000, 10, 1⟩
def IMG_STATUS.STALE : Fld := ⟨0xf00000, 11, 1⟩

/-! IMG_SLOT (14_bringup_resets.md R337). -/
def IMG_SLOT.NEXT : Fld := ⟨0xf00004, 0, 2⟩
def IMG_SLOT.PREVIOUS : Fld := ⟨0xf00004, 2, 2⟩
def IMG_SLOT.WP : Fld := ⟨0xf00004, 4, 1⟩

/-! IMG_HASH (14_bringup_resets.md R337). -/
def IMG_HASH.HASH : Fld := ⟨0xf00008, 0, 32⟩
def IMG_HASH.HASH_HI : Fld := ⟨0xf0000c, 0, 32⟩

/-! POUND_STATUS (14_bringup_resets.md R337). -/
def POUND_STATUS.STATE (n : Nat) : Fld := ⟨0xf00040 + n * 4, 0, 3⟩
def POUND_STATUS.UNLOCK (n : Nat) : Fld := ⟨0xf00040 + n * 4, 3, 1⟩
def POUND_STATUS.WRITE_LOST (n : Nat) : Fld := ⟨0xf00040 + n * 4, 4, 1⟩
def POUND_STATUS.LOADS (n : Nat) : Fld := ⟨0xf00040 + n * 4, 8, 8⟩

/-! RAS_STATUS (15_reliability.md R355). -/
def RAS_STATUS.DEGRADED : Fld := ⟨0xd00000, 0, 1⟩
def RAS_STATUS.CE : Fld := ⟨0xd00000, 1, 1⟩
def RAS_STATUS.UE : Fld := ⟨0xd00000, 2, 1⟩
def RAS_STATUS.SPARE_IN : Fld := ⟨0xd00000, 3, 1⟩
def RAS_STATUS.EXHAUSTED : Fld := ⟨0xd00000, 4, 1⟩
def RAS_STATUS.INJECTED : Fld := ⟨0xd00000, 5, 1⟩
def RAS_STATUS.LAST_CLASS : Fld := ⟨0xd00000, 8, 4⟩
def RAS_STATUS.LAST_SOURCE : Fld := ⟨0xd00000, 12, 8⟩

/-! RAS_SPARES (15_reliability.md R355). -/
def RAS_SPARES.CORES : Fld := ⟨0xd00004, 0, 2⟩
def RAS_SPARES.AUCTION : Fld := ⟨0xd00004, 2, 1⟩
def RAS_SPARES.RELIEF : Fld := ⟨0xd00004, 3, 1⟩
def RAS_SPARES.PHASES : Fld := ⟨0xd00004, 4, 2⟩
def RAS_SPARES.STACK : Fld := ⟨0xd00004, 6, 2⟩
def RAS_SPARES.TOWPATH : Fld := ⟨0xd00004, 8, 2⟩
def RAS_SPARES.TETHER : Fld := ⟨0xd00004, 10, 1⟩
def RAS_SPARES.BAY : Fld := ⟨0xd00004, 11, 1⟩
def RAS_SPARES.ROWS : Fld := ⟨0xd00004, 12, 7⟩
def RAS_SPARES.COLUMNS : Fld := ⟨0xd00004, 19, 4⟩
def RAS_SPARES.RINGS : Fld := ⟨0xd00004, 23, 6⟩

/-! RAS_INJECT (15_reliability.md R356). -/
def RAS_INJECT.TARGET : Fld := ⟨0xd00008, 0, 4⟩
def RAS_INJECT.INDEX : Fld := ⟨0xd00008, 4, 12⟩
def RAS_INJECT.ERR : Fld := ⟨0xd00008, 30, 1⟩
def RAS_INJECT.GO : Fld := ⟨0xd00008, 31, 1⟩

/-! LOG_CTRL (15_reliability.md R356). -/
def LOG_CTRL.FREEZE7 : Fld := ⟨0xb00000, 0, 1⟩
def LOG_CTRL.ALERT_SEV : Fld := ⟨0xb00000, 1, 3⟩
def LOG_CTRL.DUMP : Fld := ⟨0xb00000, 4, 1⟩
def LOG_CTRL.LOAD : Fld := ⟨0xb00000, 5, 1⟩
def LOG_CTRL.DUMP_SLOT : Fld := ⟨0xb00000, 6, 4⟩
def LOG_CTRL.DUMP_ERR : Fld := ⟨0xb00000, 10, 1⟩
def LOG_CTRL.LAST_DUMP : Fld := ⟨0xb00000, 11, 4⟩

/-! LOG_FLAGS (15_reliability.md R356). -/
def LOG_FLAGS.FROZEN : Fld := ⟨0xb00004, 0, 1⟩
def LOG_FLAGS.FULL : Fld := ⟨0xb00004, 1, 1⟩
def LOG_FLAGS.SEV5 : Fld := ⟨0xb00004, 2, 1⟩
def LOG_FLAGS.ALERT : Fld := ⟨0xb00004, 3, 1⟩
def LOG_FLAGS.ANNEX_FULL : Fld := ⟨0xb00004, 4, 1⟩
def LOG_FLAGS.KEEL_DROP : Fld := ⟨0xb00004, 5, 1⟩
def LOG_FLAGS.MARK_LOST : Fld := ⟨0xb00004, 8, 8⟩
def LOG_FLAGS.ANNEX : Fld := ⟨0xb00004, 16, 9⟩

/-! LOG_HEAD (15_reliability.md R356). -/
def LOG_HEAD.HEAD : Fld := ⟨0xb00008, 0, 32⟩
def LOG_HEAD.HEAD_HI : Fld := ⟨0xb0000c, 0, 32⟩

/-! LOG_BASE (15_reliability.md R356). -/
def LOG_BASE.BASE : Fld := ⟨0xb00010, 0, 22⟩

/-! LOG_MISSED (15_reliability.md R356). -/
def LOG_MISSED.MISSED : Fld := ⟨0xb00014, 0, 32⟩

/-! LOG_KEEL (15_reliability.md R356). -/
def LOG_KEEL.HELD : Fld := ⟨0xb00018, 0, 13⟩
def LOG_KEEL.DROPS : Fld := ⟨0xb00018, 16, 16⟩

/-! LOG_DROPS (15_reliability.md R356). -/
def LOG_DROPS.DROPS (n : Nat) : Fld := ⟨0xb00020 + n * 4, 0, 32⟩

/-! LOG_MARK (15_reliability.md R356). -/
def LOG_MARK.INDEX (n : Nat) : Fld := ⟨0xb00040 + n * 8, 0, 32⟩
def LOG_MARK.INDEX_HI (n : Nat) : Fld := ⟨0xb00044 + n * 8, 0, 16⟩
def LOG_MARK.LOST (n : Nat) : Fld := ⟨0xb00044 + n * 8, 16, 15⟩
def LOG_MARK.VALID (n : Nat) : Fld := ⟨0xb00044 + n * 8, 31, 1⟩

/-! CNT_GRANT (15_reliability.md R356). -/
def CNT_GRANT.GRANT : Fld := ⟨0xc00000, 0, 32⟩

/-! CNT_SEL (15_reliability.md R356). -/
def CNT_SEL.COUNTER : Fld := ⟨0xc00004, 0, 9⟩
def CNT_SEL.CLEAR : Fld := ⟨0xc00004, 31, 1⟩

/-! CNT_WINDOW (15_reliability.md R356). -/
def CNT_WINDOW.LEN : Fld := ⟨0xc00008, 0, 20⟩
def CNT_WINDOW.EN : Fld := ⟨0xc00008, 20, 1⟩

/-! CNT_VALUE (15_reliability.md R356). -/
def CNT_VALUE.VALUE : Fld := ⟨0xc00010, 0, 32⟩
def CNT_VALUE.VALUE_HI : Fld := ⟨0xc00014, 0, 32⟩

/-! CNT_BIND (15_reliability.md R356). -/
def CNT_BIND.SPACE (n : Nat) : Fld := ⟨0xc00020 + n * 4, 0, 6⟩
def CNT_BIND.EN (n : Nat) : Fld := ⟨0xc00020 + n * 4, 6, 1⟩

/-! KEEL_ID (17_registers.md R387). -/
def KEEL_ID.PART : Fld := ⟨0x0, 0, 16⟩
def KEEL_ID.REV : Fld := ⟨0x0, 16, 4⟩

/-! KEEL_STATUS (17_registers.md R387). -/
def KEEL_STATUS.READY : Fld := ⟨0x4, 0, 1⟩
def KEEL_STATUS.CAL_DONE : Fld := ⟨0x4, 1, 1⟩
def KEEL_STATUS.STACK_READY : Fld := ⟨0x4, 2, 1⟩
def KEEL_STATUS.ROLE : Fld := ⟨0x4, 3, 1⟩
def KEEL_STATUS.WINDLASS_A : Fld := ⟨0x4, 4, 1⟩
def KEEL_STATUS.WINDLASS_B : Fld := ⟨0x4, 5, 1⟩
def KEEL_STATUS.RUNG : Fld := ⟨0x4, 6, 3⟩

/-! KEEL_STRAPS (17_registers.md R387). -/
def KEEL_STRAPS.PLANE : Fld := ⟨0x8, 0, 4⟩
def KEEL_STRAPS.SWITCH_ID : Fld := ⟨0x8, 4, 8⟩
def KEEL_STRAPS.ROLE : Fld := ⟨0x8, 12, 1⟩

/-! KEEL_RESET (17_registers.md R388). -/
def KEEL_RESET.WARM : Fld := ⟨0xc, 0, 1⟩
def KEEL_RESET.NO_RELEASE : Fld := ⟨0xc, 1, 1⟩
def KEEL_RESET.KEY : Fld := ⟨0xc, 16, 16⟩

/-! KEEL_CAUSE (17_registers.md R389). -/
def KEEL_CAUSE.CAUSE : Fld := ⟨0x10, 0, 8⟩
def KEEL_CAUSE.KIND : Fld := ⟨0x10, 8, 2⟩
def KEEL_CAUSE.FATAL : Fld := ⟨0x10, 10, 1⟩
def KEEL_CAUSE.F_SEEN : Fld := ⟨0x10, 11, 1⟩
def KEEL_CAUSE.F_CAUSE : Fld := ⟨0x10, 12, 2⟩
def KEEL_CAUSE.PREV : Fld := ⟨0x10, 16, 8⟩
def KEEL_CAUSE.WARM_COUNT : Fld := ⟨0x10, 24, 8⟩

/-! KEEL_SCRATCH (17_registers.md R389). -/
def KEEL_SCRATCH.SCRATCH : Fld := ⟨0x14, 0, 32⟩

end F

/-- The field tables, by the word's offset (in a STEER block that of reach 0; in an array of registers that of element 0). -/
def catalogue0 : List (Nat × List FieldRow) :=
  [
    -- REACH_CTRL
    (0x400000, [⟨0, 1, .rwl, 2, 2, true, 0⟩, ⟨1, 1, .w1s, 0, 0, false, 0⟩, ⟨2, 1, .w1s, 0, 0, false, 0⟩]),
    -- REACH_STATUS
    (0x400004, [⟨0, 2, .ro, 0, 0, false, 3⟩, ⟨2, 2, .ro, 0, 0, false, 0⟩, ⟨4, 4, .ro, 0, 0, false, 15⟩, ⟨8, 1, .w1c, 0, 0, false, 0⟩, ⟨9, 1, .w1c, 0, 0, false, 0⟩, ⟨10, 1, .w1c, 0, 0, false, 0⟩, ⟨11, 1, .w1c, 0, 0, false, 0⟩, ⟨16, 16, .ro, 0, 0, false, 0⟩]),
    -- LAW_BANK_SEL
    (0x400008, [⟨0, 16, .ro, 2, 2, true, 0⟩, ⟨16, 16, .w1s, 0, 0, false, 0⟩]),
    -- SCHED_CTRL
    (0x40000c, [⟨0, 1, .rw, 2, 2, true, 1⟩, ⟨1, 3, .rw, 2, 2, true, 3⟩, ⟨8, 8, .rw, 2, 2, true, 64⟩]),
    -- REP_CTRL
    (0x400010, [⟨0, 1, .rw, 2, 2, true, 1⟩, ⟨1, 1, .rw, 2, 2, false, 0⟩, ⟨2, 1, .wo, 0, 0, false, 0⟩]),
    -- DITHER_CTRL
    (0x400014, [⟨0, 1, .rw, 2, 2, true, 1⟩, ⟨4, 4, .rw, 2, 2, true, 4⟩, ⟨8, 4, .rw, 2, 2, true, 2⟩, ⟨12, 2, .rw, 2, 2, true, 2⟩, ⟨14, 1, .wo, 0, 0, false, 0⟩]),
    -- GANG_CTRL
    (0x400018, [⟨0, 2, .rw, 2, 2, true, 0⟩]),
    -- SETPT_ROUTE
    (0x40001c, [⟨0, 10, .ro, 0, 0, false, 0⟩, ⟨10, 1, .ro, 0, 0, false, 0⟩, ⟨16, 10, .ro, 0, 0, false, 0⟩, ⟨26, 1, .ro, 0, 0, false, 0⟩]),
    -- REACH_MISS
    (0x400020, [⟨0, 32, .ro, 0, 0, false, 0⟩]),
    -- SETPT_SCALE
    (0x400024, [⟨0, 16, .ro, 0, 0, false, 0⟩, ⟨16, 4, .ro, 0, 0, false, 0⟩]),
    -- SETPT_STEP
    (0x400028, [⟨0, 16, .ro, 0, 0, false, 0⟩]),
    -- AXIS_FLAGS
    (0x402000, [⟨0, 1, .w1c, 2, 2, false, 0⟩, ⟨1, 1, .w1c, 2, 2, false, 0⟩, ⟨2, 1, .w1c, 2, 2, false, 0⟩, ⟨3, 1, .w1c, 2, 2, false, 0⟩, ⟨4, 1, .w1c, 2, 2, false, 0⟩, ⟨5, 1, .w1c, 2, 2, false, 0⟩, ⟨6, 1, .w1c, 2, 2, false, 0⟩, ⟨16, 3, .ro, 2, 2, false, 6⟩, ⟨20, 1, .ro, 0, 0, false, 0⟩, ⟨21, 3, .ro, 2, 2, false, 0⟩, ⟨24, 2, .ro, 2, 2, false, 0⟩, ⟨26, 2, .rw, 2, 2, false, 1⟩, ⟨28, 4, .rwl, 2, 2, true, 0⟩]) ]

/-- The field tables, continued. -/
def catalogue1 : List (Nat × List FieldRow) :=
  [
    -- LOCK_STATUS
    (0x500000, [⟨0, 3, .ro, 0, 0, false, 0⟩, ⟨3, 4, .ro, 0, 0, false, 0⟩, ⟨7, 1, .ro, 0, 0, false, 0⟩, ⟨8, 1, .ro, 0, 0, false, 0⟩, ⟨9, 1, .ro, 0, 0, false, 0⟩, ⟨10, 1, .ro, 0, 0, false, 0⟩, ⟨11, 1, .ro, 0, 0, false, 0⟩, ⟨12, 1, .ro, 0, 0, false, 0⟩, ⟨16, 4, .ro, 0, 0, false, 0⟩, ⟨20, 4, .ro, 0, 0, false, 0⟩]),
    -- LOCK_ACTIVE_ID
    (0x500004, [⟨0, 32, .ro, 0, 0, false, 0⟩]),
    -- LOCK_LIMITS
    (0x500008, [⟨0, 8, .rw, 2, 2, true, 255⟩, ⟨8, 8, .rw, 2, 2, true, 255⟩, ⟨16, 8, .rw, 2, 2, true, 255⟩, ⟨24, 1, .rw, 2, 2, true, 0⟩, ⟨25, 1, .rw, 2, 2, true, 1⟩, ⟨26, 1, .rw, 2, 2, true, 1⟩]),
    -- LOCK_CAPTURE
    (0x50000c, [⟨0, 12, .rw, 2, 2, true, 256⟩, ⟨12, 4, .rw, 2, 2, true, 4⟩, ⟨16, 8, .rw, 2, 2, true, 15⟩]),
    -- LOCK_PROVE
    (0x500010, [⟨0, 8, .rw, 2, 2, true, 64⟩, ⟨8, 4, .rw, 2, 2, true, 8⟩, ⟨12, 8, .rw, 2, 2, true, 15⟩, ⟨20, 8, .rw, 2, 2, true, 10⟩]),
    -- SLEW_BUDGET
    (0x500014, [⟨0, 16, .rw, 2, 2, true, 0⟩, ⟨16, 16, .ro, 0, 0, false, 0⟩]),
    -- LOCK_LAST
    (0x50001c, [⟨0, 3, .ro, 0, 0, false, 0⟩, ⟨8, 8, .ro, 0, 0, false, 0⟩, ⟨16, 16, .ro, 0, 0, false, 0⟩]),
    -- LOCK_TIMES
    (0x500020, [⟨0, 16, .ro, 0, 0, false, 0⟩, ⟨16, 16, .ro, 0, 0, false, 0⟩]),
    -- LOCK_EPOCH
    (0x500024, [⟨0, 32, .ro, 2, 2, false, 0⟩]),
    -- MAP_STATUS
    (0x500028, [⟨0, 1, .ro, 0, 0, false, 0⟩, ⟨1, 1, .ro, 0, 0, false, 0⟩, ⟨2, 1, .w1c, 2, 2, false, 0⟩, ⟨4, 17, .ro, 2, 2, false, 0⟩]),
    -- ARRAY_STATUS
    (0x700000, [⟨0, 3, .ro, 0, 0, false, 0⟩, ⟨3, 2, .ro, 0, 0, false, 3⟩, ⟨5, 6, .ro, 0, 0, false, 0⟩, ⟨11, 2, .ro, 0, 0, true, 0⟩, ⟨13, 1, .ro, 0, 0, true, 0⟩, ⟨14, 4, .ro, 2, 4, false, 0⟩, ⟨18, 1, .ro, 0, 0, false, 0⟩, ⟨19, 1, .ro, 0, 0, false, 0⟩, ⟨20, 12, .ro, 0, 0, false, 0⟩]),
    -- ARRAY_PACE
    (0x700010, [⟨0, 8, .ro, 0, 0, false, 0⟩, ⟨8, 8, .ro, 0, 0, false, 0⟩, ⟨16, 8, .ro, 0, 0, false, 0⟩, ⟨24, 8, .ro, 0, 0, false, 0⟩]) ]

/-- The field tables, continued. -/
def catalogue2 : List (Nat × List FieldRow) :=
  [
    -- TUG_STATUS
    (0x700014, [⟨0, 13, .ro, 0, 0, false, 0⟩, ⟨13, 10, .ro, 0, 0, false, 0⟩, ⟨23, 1, .ro, 0, 0, false, 0⟩, ⟨24, 1, .ro, 0, 0, false, 0⟩, ⟨25, 1, .ro, 0, 0, false, 0⟩, ⟨26, 1, .ro, 0, 0, false, 0⟩, ⟨27, 1, .ro, 0, 0, false, 0⟩]),
    -- SPACE_TABLE_BASE
    (0x700018, [⟨0, 28, .ro, 0, 0, true, 0⟩]),
    -- TOW_PREEMPT
    (0x70001c, [⟨0, 1, .rw, 2, 2, true, 0⟩, ⟨1, 1, .rw, 2, 2, true, 0⟩, ⟨2, 2, .rw, 2, 2, true, 0⟩, ⟨16, 16, .rc, 0, 0, false, 0⟩]),
    -- ESCALATE_CTRL
    (0x700020, [⟨0, 1, .rw, 2, 2, true, 1⟩, ⟨1, 1, .rw, 2, 2, true, 0⟩, ⟨8, 4, .rw, 2, 2, true, 8⟩, ⟨16, 16, .rc, 0, 0, false, 0⟩]),
    -- RESIDUE_STATUS
    (0x700024, [⟨0, 1, .w1c, 0, 0, false, 0⟩, ⟨1, 1, .w1c, 0, 0, false, 0⟩, ⟨2, 1, .w1c, 0, 0, false, 0⟩, ⟨3, 2, .ro, 0, 0, false, 0⟩, ⟨5, 9, .ro, 0, 0, false, 0⟩, ⟨16, 16, .rc, 0, 0, false, 0⟩]),
    -- AUC_CTRL
    (0x800000, [⟨0, 1, .rw, 2, 2, true, 1⟩, ⟨1, 1, .rw, 2, 2, true, 0⟩, ⟨2, 1, .rw, 0, 1, false, 0⟩, ⟨3, 6, .rw, 0, 1, false, 0⟩, ⟨9, 4, .rw, 2, 2, true, 15⟩]),
    -- AUC_STATUS
    (0x800004, [⟨0, 5, .ro, 0, 0, false, 0⟩, ⟨5, 5, .ro, 0, 0, false, 0⟩, ⟨10, 5, .ro, 2, 4, false, 0⟩, ⟨15, 7, .ro, 0, 0, false, 0⟩, ⟨22, 1, .ro, 0, 0, false, 0⟩, ⟨23, 1, .w1c, 0, 0, false, 0⟩, ⟨24, 1, .w1c, 0, 0, false, 0⟩]),
    -- AUC_SOLVES
    (0x800008, [⟨0, 16, .rc, 0, 0, false, 0⟩, ⟨16, 16, .rc, 0, 0, false, 0⟩]),
    -- PLAN_LIB
    (0x80000c, [⟨0, 22, .ro, 0, 0, true, 0⟩, ⟨22, 8, .ro, 2, 2, false, 0⟩]),
    -- POLICY_RING
    (0x800010, [⟨0, 22, .rw, 0, 1, false, 0⟩]),
    -- PORT_GEN
    (0x800014, [⟨0, 32, .ro, 2, 2, false, 0⟩]),
    -- TB_CTRL
    (0x200000, [⟨0, 1, .rw, 3, 5, true, 1⟩, ⟨1, 2, .rw, 3, 5, true, 0⟩, ⟨3, 2, .rw, 3, 5, true, 3⟩, ⟨5, 8, .rw, 3, 5, true, 0⟩, ⟨13, 4, .rw, 3, 5, true, 2⟩, ⟨17, 4, .rw, 3, 5, true, 6⟩, ⟨21, 1, .rw, 3, 5, true, 0⟩]) ]

/-- The field tables, continued. -/
def catalogue3 : List (Nat × List FieldRow) :=
  [
    -- TB_FLAGS
    (0x200010, [⟨0, 2, .ro, 3, 5, false, 0⟩, ⟨2, 2, .ro, 3, 5, false, 0⟩, ⟨4, 1, .ro, 3, 5, false, 0⟩, ⟨5, 1, .ro, 3, 5, false, 0⟩, ⟨6, 1, .ro, 3, 5, false, 0⟩, ⟨7, 1, .ro, 3, 5, false, 0⟩, ⟨8, 1, .ro, 3, 5, false, 0⟩, ⟨9, 1, .ro, 3, 5, false, 0⟩, ⟨10, 1, .ro, 0, 0, false, 0⟩, ⟨11, 1, .w1c, 3, 5, false, 0⟩, ⟨16, 16, .ro, 3, 5, false, 0⟩]),
    -- TB_JUMP_LIMIT
    (0x200014, [⟨0, 16, .rw, 3, 5, true, 2000⟩, ⟨16, 7, .rw, 3, 5, true, 50⟩]),
    -- TB_TICK
    (0x200018, [⟨0, 16, .rw, 2, 5, true, 20000⟩, ⟨16, 1, .w1c, 0, 0, false, 0⟩]),
    -- PPS_CTRL
    (0x20001c, [⟨0, 1, .rw, 3, 5, true, 1⟩, ⟨1, 2, .rw, 3, 5, true, 0⟩, ⟨3, 1, .rw, 3, 5, true, 0⟩, ⟨4, 1, .rw, 3, 5, true, 0⟩, ⟨8, 8, .rw, 3, 5, true, 100⟩, ⟨16, 16, .ro, 0, 0, false, 0⟩]),
    -- TB_NOW
    (0x200020, [⟨0, 32, .ro, 3, 5, false, 0⟩]),
    -- TB_NOW
    (0x200024, [⟨0, 32, .ro, 3, 5, false, 0⟩]),
    -- TB_NOW
    (0x200028, [⟨0, 30, .ro, 3, 5, false, 0⟩]),
    -- TB_NOW
    (0x20002c, [⟨0, 16, .ro, 3, 5, false, 0⟩]),
    -- TB_OFFSET
    (0x200060, [⟨0, 32, .ro, 3, 5, false, 0⟩]),
    -- TB_OFFSET
    (0x200064, [⟨0, 32, .ro, 3, 5, false, 0⟩]),
    -- TB_RATE
    (0x200078, [⟨0, 32, .ro, 3, 5, false, 0⟩]),
    -- PTP_PORT_CTRL
    (0x200084, [⟨0, 1, .rw, 3, 5, true, 1⟩, ⟨1, 2, .rw, 3, 5, true, 1⟩, ⟨3, 1, .rw, 3, 5, true, 0⟩, ⟨4, 4, .rw, 3, 5, true, 12⟩, ⟨8, 4, .rw, 3, 5, true, 12⟩, ⟨12, 4, .rw, 3, 5, true, 0⟩, ⟨16, 4, .rw, 3, 5, true, 3⟩]) ]

/-- The field tables, continued. -/
def catalogue4 : List (Nat × List FieldRow) :=
  [
    -- PTP_ASYM
    (0x20008c, [⟨0, 32, .rw, 3, 5, true, 0⟩]),
    -- ETH_CTRL
    (0xe00000, [⟨0, 1, .rw, 2, 5, false, 1⟩, ⟨1, 1, .rw, 2, 5, false, 1⟩, ⟨2, 1, .rw, 2, 5, false, 1⟩, ⟨3, 1, .rw, 2, 5, false, 1⟩, ⟨4, 1, .rw, 2, 5, false, 1⟩, ⟨5, 12, .rw, 2, 5, false, 0⟩, ⟨17, 3, .rw, 2, 5, false, 7⟩]),
    -- ETH_STATUS
    (0xe00008, [⟨0, 1, .ro, 0, 0, false, 0⟩, ⟨1, 1, .ro, 0, 0, false, 0⟩, ⟨2, 4, .ro, 0, 0, false, 0⟩, ⟨6, 4, .ro, 0, 0, false, 0⟩, ⟨16, 1, .ro, 0, 0, false, 0⟩, ⟨17, 1, .ro, 0, 0, false, 0⟩, ⟨18, 4, .ro, 0, 0, false, 0⟩, ⟨22, 4, .ro, 0, 0, false, 0⟩]),
    -- PAIR_STATUS
    (0x300000, [⟨0, 3, .ro, 1, 5, false, 0⟩, ⟨3, 3, .ro, 0, 0, false, 7⟩, ⟨6, 4, .ro, 1, 5, false, 1⟩, ⟨10, 1, .ro, 0, 0, false, 0⟩, ⟨11, 1, .w1c, 1, 5, false, 0⟩, ⟨12, 1, .w1c, 0, 0, false, 0⟩, ⟨13, 1, .w1c, 1, 5, false, 0⟩, ⟨16, 8, .ro, 0, 0, false, 0⟩, ⟨24, 8, .ro, 0, 0, false, 255⟩]),
    -- PAIR_EPOCH
    (0x300004, [⟨0, 32, .ro, 0, 0, false, 0⟩]),
    -- PAIR_CFG
    (0x300008, [⟨0, 1, .rwl, 2, 5, false, 1⟩, ⟨1, 3, .rw, 2, 5, false, 2⟩, ⟨4, 1, .rw, 2, 5, false, 1⟩]),
    -- TETHER_LANES
    (0x30000c, [⟨0, 5, .ro, 0, 0, false, 0⟩, ⟨5, 5, .ro, 0, 0, false, 0⟩, ⟨10, 1, .ro, 0, 0, false, 0⟩, ⟨16, 16, .rc, 0, 0, false, 0⟩]),
    -- PAIR_SEQ
    (0x300010, [⟨0, 32, .ro, 0, 0, false, 0⟩]),
    -- CART_STATUS
    (0x600000, [⟨0, 3, .ro, 0, 0, false, 0⟩, ⟨3, 1, .ro, 0, 0, false, 0⟩, ⟨4, 2, .ro, 0, 0, false, 0⟩, ⟨6, 1, .w1c, 0, 0, false, 0⟩, ⟨7, 1, .w1c, 0, 0, false, 0⟩, ⟨8, 1, .w1c, 0, 0, false, 0⟩, ⟨9, 1, .ro, 0, 0, false, 0⟩, ⟨10, 1, .ro, 0, 0, false, 0⟩, ⟨16, 16, .ro, 0, 0, false, 0⟩]),
    -- BEACON_CTRL
    (0x60000c, [⟨0, 8, .rw, 2, 2, true, 226⟩, ⟨8, 8, .rw, 2, 2, true, 226⟩, ⟨16, 1, .rw, 2, 2, true, 1⟩, ⟨17, 2, .ro, 0, 0, false, 3⟩, ⟨19, 2, .ro, 0, 0, false, 3⟩]),
    -- CART_POWER
    (0x600010, [⟨0, 16, .ro, 0, 0, false, 0⟩, ⟨16, 16, .ro, 0, 0, false, 0⟩]),
    -- RING_STATUS
    (0x60001c, [⟨0, 8, .ro, 0, 0, false, 0⟩, ⟨8, 6, .ro, 0, 0, false, 0⟩, ⟨14, 6, .ro, 0, 0, false, 0⟩, ⟨20, 1, .ro, 0, 0, false, 0⟩, ⟨21, 1, .ro, 0, 0, false, 0⟩]) ]

/-- The field tables, continued. -/
def catalogue5 : List (Nat × List FieldRow) :=
  [
    -- FADE_THRESH
    (0x600020, [⟨0, 8, .rw, 2, 2, true, 15⟩, ⟨8, 8, .rw, 2, 2, true, 30⟩, ⟨16, 8, .rw, 2, 2, true, 40⟩, ⟨24, 7, .rw, 2, 2, true, 72⟩, ⟨31, 1, .rw, 2, 2, true, 1⟩]),
    -- SVC_PORT_CTRL
    (0x600040, [⟨0, 1, .rw, 2, 2, true, 1⟩, ⟨1, 4, .rw, 2, 2, true, 6⟩, ⟨5, 3, .ro, 0, 0, false, 0⟩, ⟨8, 1, .ro, 0, 0, false, 0⟩, ⟨9, 1, .ro, 0, 0, false, 0⟩, ⟨10, 1, .ro, 0, 0, false, 0⟩, ⟨11, 1, .ro, 0, 0, false, 0⟩]),
    -- RING_STATE
    (0x600100, [⟨0, 3, .ro, 0, 0, false, 0⟩, ⟨4, 4, .ro, 2, 4, false, 0⟩, ⟨8, 2, .ro, 2, 4, false, 3⟩, ⟨10, 12, .ro, 2, 4, false, 0⟩]),
    -- XL_CTRL
    (0xa00000, [⟨0, 1, .rw, 0, 5, false, 0⟩, ⟨1, 1, .rw, 0, 5, false, 1⟩, ⟨2, 1, .rw, 0, 5, false, 1⟩]),
    -- XL_FAULT
    (0xa00004, [⟨0, 1, .w1c, 0, 0, false, 0⟩, ⟨1, 1, .w1c, 0, 0, false, 0⟩, ⟨2, 3, .ro, 0, 0, false, 0⟩, ⟨5, 3, .ro, 0, 0, false, 0⟩, ⟨8, 1, .ro, 0, 0, false, 0⟩, ⟨9, 12, .ro, 0, 0, false, 0⟩, ⟨21, 1, .w1s, 0, 0, false, 0⟩, ⟨22, 1, .w1c, 0, 0, false, 0⟩, ⟨23, 1, .w1c, 0, 0, false, 0⟩]),
    -- XL_FAULT_ADDR
    (0xa00008, [⟨0, 32, .ro, 0, 0, false, 0⟩]),
    -- XL_FAULT_ADDR
    (0xa0000c, [⟨0, 32, .ro, 0, 0, false, 0⟩]),
    -- XL_INVAL
    (0xa00010, [⟨0, 6, .rw, 0, 0, false, 0⟩, ⟨6, 1, .rw, 0, 0, false, 0⟩, ⟨7, 1, .rw, 0, 0, false, 0⟩, ⟨8, 6, .rw, 0, 0, false, 12⟩, ⟨29, 1, .w1c, 0, 0, false, 0⟩, ⟨30, 1, .w1s, 0, 0, false, 0⟩]),
    -- XL_INVAL_ADDR
    (0xa00018, [⟨0, 32, .rw, 0, 0, false, 0⟩]),
    -- XL_INVAL_ADDR
    (0xa0001c, [⟨0, 32, .rw, 0, 0, false, 0⟩]),
    -- XL_QROOT
    (0xa00020, [⟨0, 1, .rw, 0, 5, false, 0⟩, ⟨12, 20, .rw, 0, 5, false, 0⟩]),
    -- XL_QROOT
    (0xa00024, [⟨0, 20, .rw, 0, 5, false, 0⟩]) ]

/-- The field tables, continued. -/
def catalogue6 : List (Nat × List FieldRow) :=
  [
    -- BAR2_WIN
    (0xa00100, [⟨0, 2, .rw, 0, 5, false, 0⟩, ⟨2, 1, .rw, 0, 5, false, 1⟩, ⟨4, 16, .rw, 0, 5, false, 0⟩]),
    -- QP_CTRL
    (0x900000, [⟨0, 1, .ro, 0, 0, false, 0⟩, ⟨1, 1, .w1c, 0, 2, false, 0⟩, ⟨2, 1, .w1c, 0, 2, false, 0⟩, ⟨3, 12, .ro, 0, 2, false, 0⟩]),
    -- QP_FREE
    (0x900004, [⟨0, 21, .ro, 0, 0, false, 0⟩]),
    -- Q_SEL
    (0x900008, [⟨0, 12, .rw, 0, 2, false, 0⟩]),
    -- Q_WINDOW
    (0x900010, [⟨0, 1, .rw, 0, 2, false, 0⟩, ⟨1, 1, .rw, 0, 2, false, 0⟩, ⟨2, 11, .rw, 0, 2, false, 0⟩, ⟨13, 4, .rw, 0, 2, false, 0⟩, ⟨17, 12, .rw, 0, 2, false, 0⟩]),
    -- Q_WINDOW
    (0x900014, [⟨0, 20, .rw, 0, 2, false, 4096⟩]),
    -- Q_WINDOW
    (0x900018, [⟨0, 20, .rw, 0, 2, false, 64⟩]),
    -- Q_WINDOW
    (0x90001c, [⟨0, 20, .ro, 0, 2, false, 0⟩, ⟨20, 1, .ro, 0, 2, false, 0⟩, ⟨21, 1, .ro, 0, 2, false, 0⟩, ⟨22, 1, .ro, 0, 0, false, 0⟩, ⟨23, 1, .ro, 0, 2, false, 0⟩, ⟨24, 1, .w1c, 0, 0, false, 0⟩, ⟨25, 1, .w1c, 0, 0, false, 0⟩]),
    -- Q_WINDOW
    (0x900020, [⟨0, 32, .rw, 0, 2, false, 0⟩]),
    -- Q_WINDOW
    (0x900024, [⟨0, 32, .rw, 0, 2, false, 0⟩]),
    -- Q_WINDOW
    (0x900028, [⟨0, 32, .rw, 0, 2, false, 0⟩]),
    -- Q_WINDOW
    (0x90002c, [⟨0, 32, .rw, 0, 2, false, 0⟩]) ]

/-- The field tables, continued. -/
def catalogue7 : List (Nat × List FieldRow) :=
  [
    -- Q_WINDOW
    (0x900030, [⟨0, 32, .ro, 0, 2, false, 0⟩]),
    -- Q_WINDOW
    (0x900034, [⟨0, 32, .ro, 0, 2, false, 0⟩]),
    -- Q_WINDOW
    (0x900038, [⟨0, 32, .rc, 0, 2, false, 0⟩]),
    -- Q_WINDOW
    (0x90003c, [⟨0, 2, .rw, 0, 2, false, 0⟩, ⟨2, 13, .rw, 0, 2, false, 0⟩, ⟨15, 3, .rw, 0, 2, false, 0⟩]),
    -- Q_EVROUTE
    (0x900040, [⟨0, 12, .rw, 0, 2, false, 0⟩, ⟨12, 3, .rw, 0, 2, false, 4⟩, ⟨15, 1, .rw, 0, 2, false, 0⟩]),
    -- PWR_RUNG_REQ
    (0x100000, [⟨0, 3, .rw, 0, 0, false, 0⟩, ⟨3, 1, .w1c, 0, 0, false, 0⟩, ⟨8, 4, .rw, 2, 5, true, 10⟩, ⟨16, 8, .rw, 2, 5, true, 32⟩]),
    -- PWR_RUNG_STATE
    (0x100004, [⟨0, 3, .ro, 0, 0, false, 0⟩, ⟨3, 1, .ro, 0, 0, false, 0⟩, ⟨4, 2, .ro, 0, 0, false, 0⟩, ⟨6, 1, .ro, 0, 0, false, 0⟩, ⟨16, 16, .ro, 0, 0, false, 0⟩]),
    -- PWR_CAP
    (0x100008, [⟨0, 10, .rw, 2, 5, true, 0⟩, ⟨10, 1, .w1c, 2, 5, false, 0⟩, ⟨11, 1, .ro, 0, 0, false, 0⟩, ⟨16, 16, .ro, 0, 0, false, 0⟩]),
    -- PWR_PACE
    (0x10000c, [⟨0, 8, .rw, 2, 5, true, 150⟩, ⟨8, 8, .ro, 0, 0, false, 0⟩, ⟨16, 10, .ro, 0, 0, false, 0⟩, ⟨26, 1, .ro, 0, 0, false, 0⟩, ⟨27, 1, .ro, 0, 0, false, 0⟩, ⟨28, 1, .ro, 0, 0, false, 0⟩, ⟨29, 1, .ro, 0, 0, false, 0⟩]),
    -- PWR_RAILS
    (0x100010, [⟨0, 5, .ro, 0, 0, false, 26⟩, ⟨5, 2, .ro, 0, 0, false, 0⟩, ⟨7, 1, .w1c, 2, 5, false, 0⟩, ⟨8, 8, .ro, 0, 0, false, 0⟩, ⟨16, 3, .ro, 0, 0, false, 0⟩, ⟨19, 3, .w1c, 0, 0, false, 0⟩]),
    -- PWR_THERM
    (0x100014, [⟨0, 8, .ro, 0, 0, false, 0⟩, ⟨8, 6, .ro, 0, 0, false, 0⟩, ⟨14, 4, .ro, 0, 0, false, 0⟩, ⟨18, 1, .w1c, 2, 5, false, 0⟩, ⟨19, 1, .ro, 0, 0, false, 0⟩, ⟨20, 1, .ro, 0, 0, false, 0⟩, ⟨21, 1, .w1c, 2, 5, false, 0⟩, ⟨24, 8, .ro, 0, 0, false, 0⟩]),
    -- PWR_WAKE
    (0x100018, [⟨0, 1, .rw, 2, 5, true, 1⟩, ⟨1, 1, .rw, 2, 5, true, 1⟩, ⟨2, 1, .rw, 2, 5, true, 0⟩, ⟨8, 3, .ro, 2, 5, false, 0⟩, ⟨16, 16, .rw, 2, 5, true, 0⟩]) ]

/-- The field tables, continued. -/
def catalogue8 : List (Nat × List FieldRow) :=
  [
    -- PWR_TEMP
    (0x100100, [⟨0, 16, .ro, 0, 0, false, 0⟩, ⟨16, 1, .ro, 0, 0, false, 0⟩]),
    -- IMG_STATUS
    (0xf00000, [⟨0, 2, .ro, 3, 5, false, 0⟩, ⟨2, 1, .w1c, 3, 5, false, 0⟩, ⟨3, 1, .ro, 0, 0, false, 0⟩, ⟨4, 3, .ro, 3, 5, false, 1⟩, ⟨7, 3, .w1c, 3, 5, false, 0⟩, ⟨10, 1, .ro, 3, 5, false, 0⟩, ⟨11, 1, .ro, 0, 0, false, 0⟩]),
    -- IMG_SLOT
    (0xf00004, [⟨0, 2, .ro, 3, 5, false, 0⟩, ⟨2, 2, .ro, 3, 5, false, 0⟩, ⟨4, 1, .ro, 0, 0, false, 0⟩]),
    -- IMG_HASH
    (0xf00008, [⟨0, 32, .ro, 3, 5, false, 0⟩]),
    -- IMG_HASH
    (0xf0000c, [⟨0, 32, .ro, 3, 5, false, 0⟩]),
    -- POUND_STATUS
    (0xf00040, [⟨0, 3, .ro, 1, 2, false, 0⟩, ⟨3, 1, .rw, 0, 0, false, 0⟩, ⟨4, 1, .w1c, 0, 0, false, 0⟩, ⟨8, 8, .ro, 1, 2, false, 0⟩]),
    -- RAS_STATUS
    (0xd00000, [⟨0, 1, .ro, 2, 4, false, 0⟩, ⟨1, 1, .w1c, 0, 0, false, 0⟩, ⟨2, 1, .w1c, 0, 0, false, 0⟩, ⟨3, 1, .w1c, 0, 0, false, 0⟩, ⟨4, 1, .w1c, 0, 0, false, 0⟩, ⟨5, 1, .w1c, 0, 0, false, 0⟩, ⟨8, 4, .ro, 0, 0, false, 0⟩, ⟨12, 8, .ro, 0, 0, false, 0⟩]),
    -- RAS_SPARES
    (0xd00004, [⟨0, 2, .ro, 0, 0, false, 2⟩, ⟨2, 1, .ro, 0, 0, false, 1⟩, ⟨3, 1, .ro, 0, 0, false, 1⟩, ⟨4, 2, .ro, 0, 0, false, 2⟩, ⟨6, 2, .ro, 0, 0, false, 3⟩, ⟨8, 2, .ro, 0, 0, false, 3⟩, ⟨10, 1, .ro, 0, 0, false, 1⟩, ⟨11, 1, .ro, 0, 0, false, 0⟩, ⟨12, 7, .ro, 0, 0, false, 64⟩, ⟨19, 4, .ro, 0, 0, false, 8⟩, ⟨23, 6, .ro, 0, 0, false, 38⟩]),
    -- RAS_INJECT
    (0xd00008, [⟨0, 4, .rw, 0, 0, false, 0⟩, ⟨4, 12, .rw, 0, 0, false, 0⟩, ⟨30, 1, .w1c, 0, 0, false, 0⟩, ⟨31, 1, .w1s, 0, 0, false, 0⟩]),
    -- LOG_CTRL
    (0xb00000, [⟨0, 1, .rw, 2, 2, true, 1⟩, ⟨1, 3, .rw, 2, 2, true, 6⟩, ⟨4, 1, .w1s, 0, 0, false, 0⟩, ⟨5, 1, .w1s, 0, 0, false, 0⟩, ⟨6, 4, .rw, 0, 0, false, 0⟩, ⟨10, 1, .w1c, 0, 0, false, 0⟩, ⟨11, 4, .ro, 3, 5, false, 0⟩]),
    -- LOG_FLAGS
    (0xb00004, [⟨0, 1, .ro, 2, 2, false, 0⟩, ⟨1, 1, .ro, 2, 2, false, 0⟩, ⟨2, 1, .w1c, 2, 2, false, 0⟩, ⟨3, 1, .w1c, 2, 2, false, 0⟩, ⟨4, 1, .w1c, 2, 2, false, 0⟩, ⟨5, 1, .w1c, 3, 4, false, 0⟩, ⟨8, 8, .w1c, 2, 2, false, 0⟩, ⟨16, 9, .ro, 2, 2, false, 0⟩]),
    -- LOG_HEAD
    (0xb00008, [⟨0, 32, .ro, 3, 4, false, 0⟩]) ]

/-- The field tables, continued. -/
def catalogue9 : List (Nat × List FieldRow) :=
  [
    -- LOG_HEAD
    (0xb0000c, [⟨0, 32, .ro, 3, 4, false, 0⟩]),
    -- LOG_BASE
    (0xb00010, [⟨0, 22, .ro, 0, 0, true, 0⟩]),
    -- LOG_MISSED
    (0xb00014, [⟨0, 32, .ro, 2, 2, false, 0⟩]),
    -- LOG_KEEL
    (0xb00018, [⟨0, 13, .ro, 3, 4, false, 0⟩, ⟨16, 16, .rc, 0, 0, false, 0⟩]),
    -- LOG_DROPS
    (0xb00020, [⟨0, 32, .rc, 2, 2, false, 0⟩]),
    -- LOG_MARK
    (0xb00040, [⟨0, 32, .ro, 2, 2, false, 0⟩]),
    -- LOG_MARK
    (0xb00044, [⟨0, 16, .ro, 2, 2, false, 0⟩, ⟨16, 15, .ro, 2, 2, false, 0⟩, ⟨31, 1, .ro, 2, 2, false, 0⟩]),
    -- CNT_GRANT
    (0xc00000, [⟨0, 32, .rw, 0, 2, false, 0⟩]),
    -- CNT_SEL
    (0xc00004, [⟨0, 9, .rw, 0, 2, false, 0⟩, ⟨31, 1, .wo, 0, 0, false, 0⟩]),
    -- CNT_WINDOW
    (0xc00008, [⟨0, 20, .rw, 2, 2, true, 1000⟩, ⟨20, 1, .rw, 2, 2, true, 1⟩]),
    -- CNT_VALUE
    (0xc00010, [⟨0, 32, .ro, 1, 2, false, 0⟩]),
    -- CNT_VALUE
    (0xc00014, [⟨0, 32, .ro, 1, 2, false, 0⟩]) ]

/-- The field tables, continued. -/
def catalogue10 : List (Nat × List FieldRow) :=
  [
    -- CNT_BIND
    (0xc00020, [⟨0, 6, .rw, 0, 2, false, 0⟩, ⟨6, 1, .rw, 0, 2, false, 0⟩]),
    -- KEEL_ID
    (0x0, [⟨0, 16, .ro, 0, 0, false, 4434⟩, ⟨16, 4, .ro, 0, 0, false, 1⟩]),
    -- KEEL_STATUS
    (0x4, [⟨0, 1, .ro, 1, 5, false, 0⟩, ⟨1, 1, .ro, 1, 5, false, 0⟩, ⟨2, 1, .ro, 2, 2, false, 0⟩, ⟨3, 1, .ro, 2, 5, false, 0⟩, ⟨4, 1, .ro, 0, 0, false, 0⟩, ⟨5, 1, .ro, 0, 0, false, 0⟩, ⟨6, 3, .ro, 0, 0, false, 0⟩]),
    -- KEEL_STRAPS
    (0x8, [⟨0, 4, .ro, 2, 5, false, 0⟩, ⟨4, 8, .ro, 2, 5, false, 0⟩, ⟨12, 1, .ro, 2, 5, false, 0⟩]),
    -- KEEL_RESET
    (0xc, [⟨0, 1, .wo, 0, 0, false, 0⟩, ⟨1, 1, .wo, 0, 0, false, 0⟩, ⟨16, 16, .wo, 0, 0, false, 0⟩]),
    -- KEEL_CAUSE
    (0x10, [⟨0, 8, .ro, 3, 5, false, 1⟩, ⟨8, 2, .ro, 3, 5, false, 3⟩, ⟨10, 1, .ro, 3, 5, false, 0⟩, ⟨11, 1, .w1c, 3, 5, false, 0⟩, ⟨12, 2, .ro, 3, 5, false, 0⟩, ⟨16, 8, .ro, 3, 5, false, 0⟩, ⟨24, 8, .ro, 3, 5, false, 0⟩]),
    -- KEEL_SCRATCH
    (0x14, [⟨0, 32, .rw, 3, 5, false, 0⟩]) ]

/-- All field tables (R386). -/
def catalogue : List (Nat × List FieldRow) :=
  catalogue0 ++ catalogue1 ++ catalogue2 ++ catalogue3 ++ catalogue4 ++ catalogue5 ++ catalogue6 ++ catalogue7 ++ catalogue8 ++ catalogue9 ++ catalogue10

/-- Arrays of registers: first offset, number of elements, bytes from one element to the next (R386). -/
def registerArrays : List (Nat × Nat × Nat) :=
  [(0x100100, 64, 4),
   (0x200000, 4, 4),
   (0x200020, 4, 16),
   (0x200060, 3, 8),
   (0x200078, 3, 4),
   (0x200084, 2, 4),
   (0x20008c, 2, 4),
   (0x500014, 2, 4),
   (0x600000, 3, 4),
   (0x600010, 3, 4),
   (0x600040, 16, 4),
   (0x600100, 176, 4),
   (0x700000, 4, 4),
   (0x900040, 16, 4),
   (0xa00100, 32, 4),
   (0xb00020, 8, 4),
   (0xb00040, 8, 8),
   (0xc00020, 8, 4),
   (0xe00000, 2, 4),
   (0xf00040, 16, 4)]

end Sys2Proof.Machine
end

