-- ==== Sys2Proof/Machine/Operands.lean ====
section
/-!
DEFINITION. The operand forms of the commands: little-endian byte layouts of cells, barges, records and frames, signed
readings of fields, and the cyclic redundancy checks the manual names.
-/

namespace Sys2Proof.Machine

/-- The n low bytes of v, little-endian (R286). -/
def le : Nat → Nat → List Byte
  | 0, _ => []
  | n + 1, v => BitVec.ofNat 8 v :: le n (v / 256)

/-- The number that bytes spell, little-endian. -/
def ofLe : List Byte → Nat
  | [] => 0
  | b :: bs => b.toNat + 256 * ofLe bs

/-- n bytes from offset o, little-endian; bytes beyond the end read 0. -/
def leAt (bs : List Byte) (o n : Nat) : Nat := ofLe ((bs.drop o).take n)

/-- A list cut or filled with zero bytes to n bytes. -/
def padTo (n : Nat) (bs : List Byte) : List Byte := bs.take n ++ List.replicate (n - bs.length) 0

/-- Every byte of the list is zero (reserved bytes of R289). -/
def allZero (bs : List Byte) : Bool := bs.all (fun b => b == 0)

/-- v read as a signed number of w bits, two's complement. -/
def toSigned (w v : Nat) : Int :=
  let u := v % 2 ^ w
  if 2 * u < 2 ^ w then Int.ofNat u else Int.ofNat u - Int.ofNat (2 ^ w)

/-- The w-bit two's complement code of x. -/
def ofSigned (w : Nat) (x : Int) : Nat := (x % Int.ofNat (2 ^ w)).toNat

/-- x clamped to lo..hi. -/
def clampI (lo hi x : Int) : Int := if x < lo then lo else if hi < x then hi else x

/-- x clamped to the range of a signed number of w bits. -/
def satI (w : Nat) (x : Int) : Int := clampI (-(2 ^ (w - 1) : Int)) ((2 ^ (w - 1) : Int) - 1) x

/-- Division by 2^n that rounds half up: add half, then shift right arithmetically (R32). -/
def shrRound (n : Nat) (x : Int) : Int :=
  if n = 0 then x else (x + (2 ^ (n - 1) : Int)) / (2 ^ n : Int)

/-- Arithmetic shift right, rounding down. -/
def shr (n : Nat) (x : Int) : Int := x / (2 ^ n : Int)

/-- The signed value of a 16-bit code. -/
def sval (h : Half) : Int := h.toInt

/-- The 16-bit code of a value within range. -/
def hcode (x : Int) : Half := BitVec.ofInt 16 x

/-! ## Cyclic redundancy checks -/

/-- One reflected CRC bit step: state c, reflected polynomial p. -/
def crcBit (p c : Nat) : Nat := if c % 2 = 1 then (c / 2) ^^^ p else c / 2

/-- Eight bit steps. -/
def crcByte (p c : Nat) (b : Byte) : Nat :=
  let c := c ^^^ b.toNat
  crcBit p (crcBit p (crcBit p (crcBit p (crcBit p (crcBit p (crcBit p (crcBit p c)))))))

/-- A reflected CRC over bytes: polynomial, initial value, final exclusive-or. -/
def crcReflected (p init xorOut : Nat) (bs : List Byte) : Nat := (bs.foldl (crcByte p) init) ^^^ xorOut

/-- CRC-32C (Castagnoli), as R107, R249, R328 name it. -/
def crc32c (bs : List Byte) : Nat := crcReflected 0x82F63B78 0xFFFFFFFF 0xFFFFFFFF bs

/-- CRC-64/XZ (R174). -/
def crc64xz (bs : List Byte) : Nat := crcReflected 0xC96C5795D7870F42 (2 ^ 64 - 1) (2 ^ 64 - 1) bs

/-- One unreflected CRC-16 bit step, polynomial 0x1021. -/
def crc16Bit (c : Nat) : Nat := if c / 32768 % 2 = 1 then ((c * 2) % 65536) ^^^ 0x1021 else (c * 2) % 65536

/-- Eight bit steps of CRC-16, most significant bit first. -/
def crc16Byte (c : Nat) (b : Byte) : Nat :=
  crc16Bit (crc16Bit (crc16Bit (crc16Bit (crc16Bit (crc16Bit (crc16Bit (crc16Bit (c ^^^ (b.toNat * 256)))))))))

/-- v as n bytes, most significant first. -/
def be (n v : Nat) : List Byte := (le n v).reverse

/-- CRC-16/CCITT-FALSE (R60, R107, R219). -/
def crc16 (bs : List Byte) : Nat := bs.foldl crc16Byte 0xFFFF

end Sys2Proof.Machine
end

