-- ==== Sys2Proof/Machine/Numbers.lean ====
section
/-!
DEFINITION. Exact dyadic numbers and the arithmetic of the arrays over them (R133–R139): F32 with its saturation and flush,
the wide accumulator, and the counts a barge makes while it computes.
-/

namespace Sys2Proof.Machine

/-- A dyadic rational m × 2^e. -/
structure Dy where
  m : Int
  e : Int
deriving DecidableEq, Repr

/-- Zero. -/
def Dy.zero : Dy := ⟨0, 0⟩

/-- An integer. -/
def Dy.ofInt (n : Int) : Dy := ⟨n, 0⟩

/-- 2^n for n ≥ 0, as an integer. -/
def two (n : Int) : Int := 2 ^ n.toNat

/-- Exact sum. -/
def Dy.add (x y : Dy) : Dy :=
  if x.m = 0 then y
  else if y.m = 0 then x
  else
    let e := min x.e y.e
    ⟨x.m * two (x.e - e) + y.m * two (y.e - e), e⟩

/-- Negation. -/
def Dy.neg (x : Dy) : Dy := ⟨-x.m, x.e⟩

/-- Exact difference. -/
def Dy.sub (x y : Dy) : Dy := x.add y.neg

/-- Exact product. -/
def Dy.mul (x y : Dy) : Dy := ⟨x.m * y.m, x.e + y.e⟩

/-- x × 2^k. -/
def Dy.scale (x : Dy) (k : Int) : Dy := ⟨x.m, x.e + k⟩

/-- Magnitude. -/
def Dy.abs (x : Dy) : Dy := ⟨x.m.natAbs, x.e⟩

/-- x < y. -/
def Dy.lt (x y : Dy) : Bool := decide ((x.sub y).m < 0)

/-- The larger of two. -/
def Dy.max (x y : Dy) : Dy := if x.lt y then y else x

/-- The smaller of two. -/
def Dy.min (x y : Dy) : Dy := if y.lt x then y else x

/-- floor(log2 |x|) of a non-zero x. -/
def Dy.top (x : Dy) : Int := (Nat.log2 x.m.natAbs : Int) + x.e

/-- floor(x / 2^q). -/
def Dy.floorAt (x : Dy) (q : Int) : Int := if q ≤ x.e then x.m * two (x.e - q) else x.m / two (q - x.e)

/-- x / 2^q rounded to the nearest integer, ties to the even one. -/
def Dy.nearAt (x : Dy) (q : Int) : Int :=
  if q ≤ x.e then x.m * two (x.e - q)
  else
    let d := two (q - x.e)
    let k := x.m / d
    let r := x.m % d
    if 2 * r < d then k else if d < 2 * r then k + 1 else if k % 2 = 0 then k else k + 1

/-- x rounded to 24 significant bits, ties to even: the wide accumulator's rounding, whose exponent range nothing passes (R137). -/
def Dy.near24 (x : Dy) : Dy := if x.m = 0 then Dy.zero else ⟨x.nearAt (x.top - 23), x.top - 23⟩

/-- What a barge counts while it computes (group 5, R351). -/
structure Tally where
  invalid : Nat := 0
  sat : Nat := 0
  flush : Nat := 0
  sr : Nat := 0
deriving DecidableEq, Repr

/-- A computation that counts. -/
abbrev Calc (α : Type) := StateM Tally α

/-- One invalid code was read (R133). -/
def noteInvalid : Calc Unit := modify (fun t => { t with invalid := t.invalid + 1 })
/-- One result was saturated (R134). -/
def noteSat : Calc Unit := modify (fun t => { t with sat := t.sat + 1 })
/-- One F32 result was flushed to 0. -/
def noteFlush : Calc Unit := modify (fun t => { t with flush := t.flush + 1 })
/-- One conversion was stochastic. -/
def noteSr : Calc Unit := modify (fun t => { t with sr := t.sr + 1 })

/-- The largest F32 magnitude. -/
def f32Max : Dy := ⟨2 ^ 24 - 1, 104⟩

/-- A magnitude with the sign of x. -/
def Dy.signed (mag x : Dy) : Dy := if x.m < 0 then mag.neg else mag

/-- An F32 result: 24 bits to nearest even; beyond the range it saturates, below 2^−126 it becomes 0 (R134, R139). -/
def toF32 (x : Dy) : Calc Dy :=
  if x.m = 0 then pure Dy.zero
  else
    let r := x.near24
    if f32Max.lt r.abs then do noteSat; pure (f32Max.signed x)
    else if r.top < -126 then do noteFlush; pure Dy.zero
    else pure r

/-- An input widened to F32: beyond the range it saturates, below 2^−126 it becomes 0, and nothing is rounded (R139). -/
def widen (x : Dy) : Calc Dy :=
  if x.m = 0 then pure Dy.zero
  else if f32Max.lt x.abs then do noteSat; pure (f32Max.signed x)
  else if x.top < -126 then do noteFlush; pure Dy.zero
  else pure x

/-- A 32-bit integer result, saturating at the I32 bounds (R136, R139). -/
def toI32 (n : Int) : Calc Int :=
  if n < -(2 ^ 31) then do noteSat; pure (-(2 ^ 31))
  else if 2 ^ 31 - 1 < n then do noteSat; pure (2 ^ 31 - 1)
  else pure n

/-- The integer value of a dyadic number that is one. -/
def Dy.int (x : Dy) : Int := x.floorAt 0

/-- The F32 code of a value F32 holds. -/
def f32Code (x : Dy) : Nat :=
  if x.m = 0 then 0
  else
    let sig := (x.abs.floorAt (x.top - 23)).toNat
    (if x.m < 0 then 2 ^ 31 else 0) + (x.top + 127).toNat * 2 ^ 23 + (sig - 2 ^ 23)

/-! ## exp, recip and rsqrt (R139, log 3) -/

/-- floor(2^p × n / d) for n ≥ 0, d > 0. -/
def ratio (p : Nat) (n d : Nat) : Nat := 2 ^ p * n / d

/-- The Taylor sum of e^r in units of 2^−p, r in the same units, with n terms left from the k-th. -/
def taylor (p : Nat) (r term : Int) : Nat → Nat → Int
  | _, 0 => 0
  | k, n + 1 => term + taylor p r (term * r / (2 ^ p * (k + 1 : Int))) (k + 1) n

/-- A number in units of 2^−p squared k times, each square cut to 2^−p. -/
def squares (p : Nat) : Nat → Int → Int
  | 0, x => x
  | k + 1, x => squares p k (x * x / 2 ^ p)

/-- e^x in units of 2^−320, from an argument cut to |x| ≤ 128: eight halvings of the argument, and as many squarings. -/
def expAt (x : Dy) : Int := squares 320 8 (taylor 320 (x.floorAt (-320) / 256) (2 ^ 320) 0 64)

/-- One of the four F32 numbers that lie within 2 units in the last place of y, named by a free choice (R139). -/
def pickNear (y : Dy) (choice : Nat) : Dy :=
  if y.m = 0 then Dy.zero else ⟨y.floorAt (y.top - 23) + (choice % 4 : Nat) - 1, y.top - 23⟩

/-- exp of an F32 value (R139): which of the numbers within 2 units in the last place is open (log 3). -/
def calcExp (x : Dy) : Calc Dy :=
  if (Dy.ofInt 128).lt x then do noteSat; pure f32Max
  else if x.lt (Dy.ofInt (-128)) then do noteFlush; pure Dy.zero
  else toF32 (pickNear ⟨expAt x, -320⟩ (Config.expBits (BitVec.ofNat 32 (f32Code x))).toNat)

/-- recip of an F32 value (R139); of 0 the largest magnitude. -/
def calcRecip (x : Dy) : Calc Dy :=
  if x.m = 0 then pure f32Max
  else
    let y : Dy := ⟨ratio 64 1 x.m.natAbs, -64 - x.e⟩
    toF32 ((pickNear y (Config.recipBits (BitVec.ofNat 32 (f32Code x))).toNat).signed x)

/-- rsqrt of an F32 value (R139); of 0 the largest magnitude, of a negative value 0 and an invalid code. -/
def calcRsqrt (x : Dy) : Calc Dy :=
  if x.m = 0 then pure f32Max
  else if x.m < 0 then do noteInvalid; pure Dy.zero
  else
    -- x = n × 2^(2 h) with n below 2^(bits + 1)
    let odd := x.e % 2
    let n := x.m.natAbs * 2 ^ odd.toNat
    let h := (x.e - odd) / 2
    let y : Dy := ⟨Nat.sqrt (2 ^ 160 / n), -80 - h⟩
    toF32 (pickNear y (Config.rsqrtBits (BitVec.ofNat 32 (f32Code x))).toNat)

end Sys2Proof.Machine
end

