-- ==== Sys2Proof/Machine/Formats.lean ====
section
/-!
DEFINITION. The element formats of the arrays (R111, R130–R134): how operands lie in memory, what their codes mean, and the
conversion of results to a format with its block scale and its rounding (R140–R142).
-/

namespace Sys2Proof.Machine

/-- Element bits of a format code (R111). -/
def fmtBits (f : Nat) : Nat := match f with | 0 => 2 | 1 => 4 | 2 => 4 | 3 => 8 | 4 => 16 | _ => 32

/-- The format has one scale for each block of 32 elements (R110, R111). -/
def fmtBlock (f : Nat) : Bool := decide (f ≤ 2)

/-- Bytes of one block (R110). -/
def blockBytes (f : Nat) : Nat := 4 * fmtBits f

/-- r of R102 by format (R111). -/
def fmtRate (f : Nat) : Nat := if f ≤ 2 then 1 else if f = 3 then 4 else 16

/-- An operand of a barge: address, stride, format, scale offset. -/
structure Opd where
  addr : Nat
  stride : Nat
  fmt : Nat
  scl : Nat
deriving DecidableEq, Repr

/-- How the bytes of a tow space read. -/
abbrev Reader := Nat → Byte

/-- Byte address of row i. -/
def Opd.row (o : Opd) (i : Nat) : Nat := o.addr + i * o.stride

/-- Byte address of element (i, j) (R131). -/
def Opd.elem (o : Opd) (i j : Nat) : Nat := o.row i + j * fmtBits o.fmt / 8

/-- Bytes of a row of n elements. -/
def Opd.rowBytes (o : Opd) (n : Nat) : Nat := (n * fmtBits o.fmt + 7) / 8

/-- Address of the scale of the block that holds the byte at x (R110). -/
def Opd.scaleAddr (o : Opd) (x : Nat) : Nat := o.addr + o.scl * 4096 + (x - o.addr) / blockBytes o.fmt

/-- The number that n bytes from a spell. -/
def readLe (rd : Reader) (a n : Nat) : Nat := ofLe ((List.range n).map (fun k => rd (a + k)))

/-- The code of element (i, j) (R131). -/
def Opd.code (o : Opd) (rd : Reader) (i j : Nat) : Nat :=
  let b := fmtBits o.fmt
  if b < 8 then (rd (o.elem i j)).toNat / 2 ^ (j * b % 8) % 2 ^ b else readLe rd (o.elem i j) (b / 8)

/-- The value of a code, before its block scale; none for an invalid code (R130, R133). -/
def codeValue (f c : Nat) : Option Dy :=
  match f with
  | 0 => if c = 0 then some Dy.zero else if c = 1 then some ⟨1, 0⟩ else if c = 2 then some ⟨-1, 0⟩ else none
  | 1 => some ⟨toSigned 4 c, 0⟩
  | 2 =>
    let e : Nat := c / 2 % 4
    let m : Nat := c % 2
    let v : Dy := if e = 0 then ⟨m, -1⟩ else ⟨2 + m, (e : Int) - 2⟩
    some (if 8 ≤ c then v.neg else v)
  | 3 =>
    let e : Nat := c / 8 % 16
    let m : Nat := c % 8
    let v : Dy := if e = 0 then ⟨m, -9⟩ else ⟨8 + m, (e : Int) - 10⟩
    some (if 128 ≤ c then v.neg else v)
  | 4 =>
    let e : Nat := c / 128 % 256
    let m : Nat := c % 128
    let v : Dy := if e = 0 then ⟨m, -133⟩ else ⟨128 + m, (e : Int) - 134⟩
    if e = 255 then none else some (if 32768 ≤ c then v.neg else v)
  | 5 => some ⟨toSigned 32 c, 0⟩
  | 6 =>
    let e : Nat := c / 2 ^ 23 % 256
    let m : Nat := c % 2 ^ 23
    if e = 255 then none
    else if e = 0 then some Dy.zero
    else some (if 2 ^ 31 ≤ c then ⟨-(2 ^ 23 + m : Int), (e : Int) - 150⟩ else ⟨2 ^ 23 + m, (e : Int) - 150⟩)
  | _ => some ⟨c, 0⟩

/-- An element as read: its significand value, and its block's exponent; none in a zero block (R132). -/
structure Elem where
  v : Dy
  scale : Option Int
deriving DecidableEq, Repr

/-- The exponent of the block of element (i, j): 0 for formats with no block scale, none for a zero block (R132). -/
def Opd.scaleOf (o : Opd) (rd : Reader) (i j : Nat) : Option Int :=
  if fmtBlock o.fmt then
    let b := (rd (o.scaleAddr (o.elem i j))).toNat
    if b = 0x80 then none else some (toSigned 8 b)
  else some 0

/-- Read element (i, j): in a zero block it is 0 whatever its code; an invalid code reads 0 and is counted (R132, R133). -/
def Opd.read (o : Opd) (rd : Reader) (i j : Nat) : Calc Elem :=
  match o.scaleOf rd i j with
  | none => pure ⟨Dy.zero, none⟩
  | some e =>
    match codeValue o.fmt (o.code rd i j) with
    | some v => pure ⟨v, some e⟩
    | none => do noteInvalid; pure ⟨Dy.zero, some e⟩

/-- Element (i, j) is a negative zero, of a format that can express one and of a block that is not zero (R130, R139, log 69). -/
def Opd.minusZero (o : Opd) (rd : Reader) (i j : Nat) : Bool :=
  decide (o.fmt = 2 ∨ o.fmt = 3 ∨ o.fmt = 4 ∨ o.fmt = 6) && (o.scaleOf rd i j).isSome &&
  decide (o.code rd i j = 2 ^ (fmtBits o.fmt - 1))

/-- The value of an element. -/
def Elem.value (x : Elem) : Dy := match x.scale with | some e => x.v.scale e | none => Dy.zero

/-- The values of row i, n elements, widened to F32 or exact in I32 (R139). -/
def Opd.readRow (o : Opd) (rd : Reader) (i n : Nat) : Calc (List Dy) :=
  (List.range n).mapM (fun j => do
    let x ← o.read rd i j
    if o.fmt = 5 then pure x.value else widen x.value)

/-! ## Rounding to a format (R134, R141, R142) -/

/-- The key of stochastic rounding (R142): seed, low 16 bits of the tag, barge index; SR set or not. -/
structure SrKey where
  on : Bool
  seed : Nat
  tag16 : Nat
  barge : Nat
deriving DecidableEq, Repr

/-- mix of R142, modulo 2^64. -/
def mix (z : Nat) : Nat :=
  let z := (z ^^^ (z / 2 ^ 30)) * 0xBF58476D1CE4E5B9 % 2 ^ 64
  let z := (z ^^^ (z / 2 ^ 27)) * 0x94D049BB133111EB % 2 ^ 64
  z ^^^ (z / 2 ^ 31)

/-- u of R142 for the element at linear position idx, 24 bits. -/
def SrKey.u (k : SrKey) (idx : Nat) : Nat :=
  mix (mix (k.seed ^^^ k.tag16) ^^^ ((k.barge * 2 ^ 48 % 2 ^ 64) ||| idx)) / 2 ^ 40

/-- The largest value of a format (R130, R134). -/
def fmtMax (f : Nat) : Dy :=
  match f with
  | 0 => ⟨1, 0⟩ | 1 => ⟨7, 0⟩ | 2 => ⟨6, 0⟩ | 3 => ⟨480, 0⟩ | 4 => ⟨255, 120⟩ | 5 => ⟨2 ^ 31 - 1, 0⟩ | 6 => f32Max
  | _ => ⟨2 ^ 32 - 1, 0⟩

/-- The smallest value of a format. -/
def fmtMin (f : Nat) : Dy :=
  match f with
  | 1 => ⟨-8, 0⟩ | 5 => ⟨-(2 ^ 31), 0⟩ | 7 => Dy.zero | _ => (fmtMax f).neg

/-- The exponent of the step between adjacent values of a format at x ≠ 0 (R130). -/
def fmtStep (f : Nat) (x : Dy) : Int :=
  match f with
  | 2 => max (-1) (x.top - 1)
  | 3 => max (-9) (x.top - 3)
  | 4 => max (-133) (x.top - 7)
  | 6 => x.top - 23
  | _ => 0

/-- x rounded to a value of the format (R134, R141, R142); idx is the element's linear position in C. -/
def roundTo (f : Nat) (k : SrKey) (idx : Nat) (x : Dy) : Calc Dy :=
  if x.m = 0 then pure Dy.zero
  else if (fmtMax f).lt x then do noteSat; pure (fmtMax f)
  else if x.lt (fmtMin f) then do noteSat; pure (fmtMin f)
  else do
    let q := fmtStep f x
    let r : Dy ←
      if k.on then do
        let lo := x.floorAt q
        let rest := x.sub ⟨lo, q⟩
        let frac := rest.floorAt (q - 24)
        if rest.m ≠ 0 then noteSr
        pure ⟨if rest.m ≠ 0 ∧ (k.u idx : Int) < frac then lo + 1 else lo, q⟩
      else pure ⟨x.nearAt q, q⟩
    if f = 6 && decide (r.m ≠ 0) && decide (r.top < -126) then do noteFlush; pure Dy.zero else pure r

/-- The code of a value of the format (R130). -/
def valueCode (f : Nat) (x : Dy) : Nat :=
  if x.m = 0 then 0
  else
    let sgn (w : Nat) := if x.m < 0 then 2 ^ w else 0
    match f with
    | 0 => if x.m < 0 then 2 else 1
    | 1 => ofSigned 4 x.int
    | 2 => sgn 3 + (if x.top < 0 then 1 else (x.top + 1).toNat * 2 + (x.abs.floorAt (x.top - 1)).toNat - 2)
    | 3 => sgn 7 + (if x.top < -6 then (x.abs.floorAt (-9)).toNat else (x.top + 7).toNat * 8 + (x.abs.floorAt (x.top - 3)).toNat - 8)
    | 4 => sgn 15 + (if x.top < -126 then (x.abs.floorAt (-133)).toNat
                      else (x.top + 127).toNat * 128 + (x.abs.floorAt (x.top - 7)).toNat - 128)
    | 6 => f32Code x
    | _ => ofSigned 32 x.int

/-- The scale of a block (R140): none (0x80) where every element is 0. -/
def blockScale (f : Nat) (xs : List Dy) : Option Int :=
  let big := xs.foldl (fun m x => m.max x.abs) Dy.zero
  if big.m = 0 then none
  else
    let top := fmtMax f
    let s := big.top - top.top
    some (clampI (-127) 127 (if (top.scale s).lt big then s + 1 else s))

/-- Codes packed into bytes from the least significant bit (R131). -/
def packCodes (bits : Nat) (cs : List Nat) : List Byte :=
  if bits < 8 then
    let per := 8 / bits
    (List.range ((cs.length + per - 1) / per)).map (fun i =>
      BitVec.ofNat 8 (((cs.drop (i * per)).take per).foldr (fun c acc => c + 2 ^ bits * acc) 0))
  else cs.flatMap (fun c => le (bits / 8) c)

/-- Bytes at consecutive addresses. -/
def place (a : Nat) (bs : List Byte) : List (Nat × Byte) := (List.range bs.length).map (fun k => (a + k, bs.getD k 0))

/-- Round a list of values, the first at linear position idx. -/
def roundAll (f : Nat) (k : SrKey) (idx : Nat) (xs : List Dy) : Calc (List Dy) :=
  (List.range xs.length).mapM (fun j => roundTo f k (idx + j) (xs.getD j Dy.zero))

/-- One block of a row converted: its codes and its scale byte (R140). -/
def convertBlock (f : Nat) (k : SrKey) (idx : Nat) (xs : List Dy) : Calc (List Nat × Nat) :=
  match blockScale f xs with
  | none => pure (xs.map (fun _ => 0), 0x80)
  | some s => do
    let ys ← roundAll f k idx (xs.map (fun x => x.scale (-s)))
    pure (ys.map (valueCode f), ofSigned 8 s)

/-- Row i of C, converted and placed with its scales (R110, R131, R140–R142). -/
def Opd.writeRow (o : Opd) (k : SrKey) (i : Nat) (xs : List Dy) : Calc (List (Nat × Byte)) := do
  let idx := i * xs.length
  if fmtBlock o.fmt then
    let parts ← (List.range ((xs.length + 31) / 32)).mapM (fun b => do
      let p ← convertBlock o.fmt k (idx + 32 * b) ((xs.drop (32 * b)).take 32)
      let a := o.elem i (32 * b)
      pure (place a (packCodes (fmtBits o.fmt) p.1) ++ [(o.scaleAddr a, BitVec.ofNat 8 p.2)]))
    pure parts.flatten
  else
    let ys ← roundAll o.fmt k idx xs
    pure (place (o.row i) (packCodes (fmtBits o.fmt) (ys.map (valueCode o.fmt))))

/-- Every row of C. -/
def Opd.writeRows (o : Opd) (k : SrKey) (rows : List (List Dy)) : Calc (List (Nat × Byte)) := do
  let parts ← (List.range rows.length).mapM (fun i => o.writeRow k i (rows.getD i []))
  pure parts.flatten

end Sys2Proof.Machine
end

