-- ==== Sys2Proof/Machine/Barge.lean ====
section
/-!
DEFINITION. The barge (R107): its fields, the checks a tug makes (R108, R159), its cost in wavefronts (R102, R112), and the
byte ranges it reads and writes (R110, R112, R113, R116).
-/

namespace Sys2Proof.Machine

/-- A barge's fields (R107). -/
structure Barge where
  op : Nat
  flags : Nat
  fmtA : Nat
  fmtB : Nat
  fmtC : Nat
  subop : Nat
  m : Nat
  n : Nat
  k : Nat
  addrA : Nat
  addrB : Nat
  addrC : Nat
  strideA : Nat
  strideB : Nat
  strideC : Nat
  aux : Nat
  sclA : Nat
  sclB : Nat
  sclC : Nat
deriving DecidableEq, Repr

/-- The fields of 64 bytes (R107). -/
def bargeOf (bs : List Byte) : Barge :=
  { op := leAt bs 0 1, flags := leAt bs 1 1, fmtA := leAt bs 2 1 % 16, fmtB := leAt bs 2 1 / 16,
    fmtC := leAt bs 3 1 % 16, subop := leAt bs 3 1 / 16, m := leAt bs 4 4, n := leAt bs 8 4, k := leAt bs 12 4,
    addrA := leAt bs 16 8, addrB := leAt bs 24 8, addrC := leAt bs 32 8, strideA := leAt bs 40 4,
    strideB := leAt bs 44 4, strideC := leAt bs 48 4, aux := leAt bs 52 4, sclA := leAt bs 56 2, sclB := leAt bs 58 2,
    sclC := leAt bs 60 2 }

/-- CHECK matches (R107, R108). -/
def bargeCheck (bs : List Byte) : Bool := decide (leAt bs 62 2 = crc16 (bs.take 62))

/-- LONGSEQ (R107). -/
def Barge.longSeq (b : Barge) : Bool := decide (b.flags % 2 = 1)

/-- SR (R107). -/
def Barge.sr (b : Barge) : Bool := decide (b.flags / 2 % 2 = 1)

/-- Operand A. -/
def Barge.a (b : Barge) : Opd := ⟨b.addrA, b.strideA, b.fmtA, b.sclA⟩
/-- Operand B. -/
def Barge.b (b : Barge) : Opd := ⟨b.addrB, b.strideB, b.fmtB, b.sclB⟩
/-- Operand C. -/
def Barge.c (b : Barge) : Opd := ⟨b.addrC, b.strideC, b.fmtC, b.sclC⟩

/-- The barge uses operand A, B, C (R112). -/
def Barge.usesA (b : Barge) : Bool := decide (b.op ≠ 0x0A) && decide (b.op ≠ 0x0B)
def Barge.usesB (b : Barge) : Bool :=
  decide (b.op = 1 ∨ b.op = 5 ∨ b.op = 6 ∨ b.op = 8 ∨ b.op = 9 ∨ b.op = 0x0C ∨ (b.op = 2 ∧ b.subop ≤ 4) ∨ (b.op = 4 ∧ b.subop = 2))

/-- A format that holds numbers (R111, R130). -/
def numeric (f : Nat) : Bool := decide (f ≤ 6)

/-- The formats are valid for the operation (R102, R112, R130, R159). GATHER, and SCATTER that does not add, move rows and convert
nothing, so the formats of A and C must be one (DESIGN CHOICE, log 55). -/
def Barge.formats (b : Barge) : Bool :=
  match b.op with
  | 1 => numeric b.fmtA && decide (b.fmtA = b.fmtB) && numeric b.fmtC
  | 5 => numeric b.fmtA && numeric b.fmtB && numeric b.fmtC
  | 6 => numeric b.fmtA && numeric b.fmtC && decide (b.fmtB = 7)
  | 8 => numeric b.fmtA && decide (b.fmtB = 7) && decide (b.fmtA = b.fmtC)
  | 9 => numeric b.fmtA && decide (b.fmtB = 7) && numeric b.fmtC && (decide (b.subop ≠ 0) || decide (b.fmtA = b.fmtC))
  | 0x0A => true
  | 0x0B => true
  | 0x0C => decide (b.fmtA = 5 ∨ b.fmtA = 4) && decide (b.fmtB = 7) && decide (b.fmtC = 7)
  | _ => numeric b.fmtA && (!b.usesB || numeric b.fmtB) && numeric b.fmtC

/-- OP and its variant are defined (R112). R108 lists no variant among its checks; a variant that the operation table does not define
is taken as an undefined operation (DESIGN CHOICE, log 68). -/
def Barge.opOk (b : Barge) : Bool :=
  match b.op with
  | 1 => decide (b.subop ≤ 1)
  | 2 => decide (b.subop ≤ 9)
  | 3 => decide (b.subop ≤ 3)
  | 4 => decide (b.subop ≤ 2)
  | 9 => decide (b.subop ≤ 1)
  | 0x0A => decide (b.subop ≤ 3)
  | op => decide (5 ≤ op ∧ op ≤ 0x0C)

/-- Reserved bits are clear; scale fields of operands that are not block-scaled are 0 (R107, R110). -/
def Barge.reserved (b : Barge) : Bool :=
  decide (b.flags < 4) && decide (b.m < 2 ^ 24) && decide (b.n < 2 ^ 24) && decide (b.k < 2 ^ 24) &&
  (!b.usesA ||
    ((fmtBlock b.fmtA || decide (b.sclA = 0)) && (!b.usesB || fmtBlock b.fmtB || decide (b.sclB = 0)) &&
     (fmtBlock b.fmtC || decide (b.sclC = 0))))

/-- Addresses and strides in use are multiples of 16 bytes (R108): indices have no stride, nor has the record of AUC_FEED. -/
def Barge.aligned (b : Barge) : Bool :=
  !b.usesA ||
    (decide (b.addrA % 16 = 0) && decide (b.strideA % 16 = 0) && decide (b.addrC % 16 = 0) &&
     (decide (b.op = 0x0C) || decide (b.strideC % 16 = 0)) &&
     (!b.usesB || (decide (b.addrB % 16 = 0) && (decide (b.op = 8 ∨ b.op = 9) || decide (b.strideB % 16 = 0)))))

/-- Region of a tow-space address (R109). -/
def spaceRegion (a : Nat) : Nat := a / 2 ^ 62 % 4

/-- The limits of AUC_FEED (R159) and the range of k in TOPK (R112). -/
def Barge.limits (b : Barge) : Bool :=
  match b.op with
  | 6 => decide (1 ≤ b.aux % 512 ∧ b.aux % 512 ≤ 256)
  | 0x0C =>
    decide (b.m = b.n ∧ 2 ≤ b.n ∧ b.n ≤ 1160 ∧ b.k = 0) && decide (spaceRegion b.addrC ≤ 1) && decide (b.aux < 2 ^ 20) &&
    (decide (b.aux / 256 % 2 = 0) || decide (b.n = 1160))
  | _ => true

/-! ## Cost (R102, R112, R124) -/

/-- a / b rounded up. -/
def ceilDiv (a b : Nat) : Nat := (a + b - 1) / b

/-- Wavefronts of a MATMUL of m × n × k in a gang of g arrays (R102). -/
def matmulCost (fmt g m n k : Nat) : Nat :=
  let depth := if fmt = 0 then 512 else 256
  let tiles := ceilDiv n (256 * g) * ceilDiv k depth
  let full := m / 1024
  let rest := m % 1024
  512 + tiles * (full * (1024 * fmtRate fmt) + (if rest = 0 then 0 else max rest 256 * fmtRate fmt))

/-- The largest r among the operation's formats (R112). -/
def Barge.rate (b : Barge) : Nat := max (fmtRate b.fmtA) (max (fmtRate b.fmtC) (if b.usesB then fmtRate b.fmtB else 1))

/-- Wavefronts of a barge on a unit of g arrays, before escalation and recomputation (R102, R112). -/
def Barge.cost (b : Barge) (g : Nat) : Nat :=
  let area := ceilDiv (b.m * b.n) (256 * g)
  match b.op with
  | 1 => matmulCost b.fmtA g b.m b.n b.k
  | 2 => 64 + area * b.rate
  | 3 => 256 + area * b.rate
  | 4 => 256 + area * b.rate
  | 5 => matmulCost b.fmtB g b.m b.k b.n + 2 * area
  | 6 => b.m * (ceilDiv b.n (256 * g) + ceilDiv (b.aux % 512) 16)
  | 7 => 64 + area * b.rate
  | _ => 0

/-- The wavefront limit of a barge (R124). -/
def costLimit : Nat := 8192

/-! ## Ranges of bytes read and written (R110, R113) -/

/-- Byte ranges: tow-space address and length. -/
abbrev Ranges := List (Nat × Nat)

/-- The rows of an operand with the scales of each row. -/
def Opd.rows (o : Opd) (m n : Nat) : Ranges :=
  (List.range m).flatMap (fun i =>
    (o.row i, o.rowBytes n) ::
      (if fmtBlock o.fmt then [(o.scaleAddr (o.row i), ceilDiv n 32)] else []))

/-- Bytes of the auction result record of N rows (R167). -/
def resultBytes (n : Nat) : Nat := (0x40 + 2 * n + 15) / 16 * 16 + 16 * n

/-- Address of the carry record of a long sequence (R116). -/
def Barge.carryAddr (b : Barge) : Nat := b.aux % 2 ^ 24 * 4096

/-- The barge carries a long sequence: SCAN or SOFTMAX_BLOCK with LONGSEQ set (R116). -/
def Barge.isLong (b : Barge) : Bool := b.longSeq && decide (b.op = 4 ∨ b.op = 5)

/-- FIRST and FINAL of AUX (R116). -/
def Barge.first (b : Barge) : Bool := decide (b.aux / 2 ^ 31 % 2 = 1)
def Barge.final (b : Barge) : Bool := decide (b.aux / 2 ^ 30 % 2 = 1)

/-- Bytes of the carry record (R116). -/
def Barge.carryBytes (b : Barge) : Nat := if b.op = 4 then 0x10 + 4 * b.n else 0x10 + b.m * (8 + 4 * b.k)

/-- The carry record of a long sequence. -/
def Barge.carryRange (b : Barge) : Ranges := if b.isLong then [(b.carryAddr, b.carryBytes)] else []

/-- ELEMWISE applies one row of B to every row: BCAST (R112). -/
def Barge.bcast (b : Barge) : Bool := decide (b.op = 2) && decide (b.aux / 2 ^ 31 % 2 = 1)

/-- The rows of an operand from its first to the end of its last, gaps between them included, and the same of its scales (R113). -/
def Opd.extent (o : Opd) (m n : Nat) : Ranges :=
  if m = 0 then []
  else
    let last := o.row (m - 1)
    (o.addr, last + o.rowBytes n - o.addr) ::
      (if fmtBlock o.fmt then [(o.scaleAddr o.addr, o.scaleAddr last + ceilDiv n 32 - o.scaleAddr o.addr)] else [])

/-- The shape of C: rows and elements of a row (R112). TOPK with k above N writes all N values of a row, which the manual does not
say (DESIGN CHOICE, log 68). -/
def Barge.shapeC (b : Barge) : Nat × Nat :=
  match b.op with
  | 3 => if b.aux % 2 = 0 then (b.m, 1) else (1, b.n)
  | 5 => if b.isLong && !b.final then (0, 0) else (b.m, b.k)
  | 6 => (b.m, min (b.aux % 512) b.n)
  | 9 => (b.k, b.n)
  | _ => (b.m, b.n)

/-- The rows written: C with its scales, the indices of TOPK, the record of AUC_FEED, the carry record. -/
def Barge.writes (b : Barge) : Ranges :=
  if !b.usesA then []
  else if b.op = 0x0C then [(b.addrC, resultBytes b.n)]
  else
    let (m, n) := b.shapeC
    b.c.rows m n ++ (if b.op = 6 then b.b.rows m n else []) ++ b.carryRange

/-- The output extent (R113): from ADDR_C to the end of the last row of C with the scales, the indices of TOPK, the record of
AUC_FEED, the carry record. -/
def Barge.extent (b : Barge) : Ranges :=
  if !b.usesA then []
  else if b.op = 0x0C then [(b.addrC, resultBytes b.n)]
  else
    let (m, n) := b.shapeC
    b.c.extent m n ++ (if b.op = 6 then b.b.extent m n else []) ++ b.carryRange

/-- Reads of A and B whose addresses no index decides, and of what an operation adds to (R112, R116, R138). -/
def Barge.readsFixed (b : Barge) : Ranges :=
  match b.op with
  | 1 => b.a.rows b.m b.k ++ b.b.rows b.n b.k ++ (if b.subop = 1 then b.c.rows b.m b.n else [])
  | 2 => b.a.rows b.m b.n ++ (if b.usesB then b.b.rows (if b.bcast then min 1 b.m else b.m) b.n else [])
  | 3 => b.a.rows b.m b.n
  | 4 => b.a.rows b.m b.n ++ (if b.usesB then b.b.rows b.m b.n else []) ++ (if b.first then [] else b.carryRange)
  | 5 => b.a.rows b.m b.n ++ b.b.rows b.n b.k ++ (if b.first then [] else b.carryRange)
  | 6 => b.a.rows b.m b.n
  | 7 => b.a.rows b.m b.n
  | 8 => [(b.addrB, 4 * b.m)]
  | 9 => b.a.rows b.m b.n ++ [(b.addrB, 4 * b.m)]
  | 0x0C => b.a.rows b.n b.n ++ (List.range b.n).map (fun i => (b.addrB + i * b.strideB, 4 * ceilDiv b.n 32))
  | _ => []

/-- The indices of GATHER and SCATTER: M numbers in U32, one after another at ADDR_B (R112). -/
def Barge.indices (b : Barge) (rd : Reader) : List Nat := (List.range b.m).map (fun i => readLe rd (b.addrB + 4 * i) 4)

/-- Every read, the indices being known: GATHER's rows of A, and the rows SCATTER adds to (R112). -/
def Barge.reads (b : Barge) (rd : Reader) : Ranges :=
  b.readsFixed ++
  (match b.op with
   | 8 => (b.indices rd).flatMap (fun i => (b.a.rows (i + 1) b.n).drop ((if fmtBlock b.fmtA then 2 else 1) * i))
   | 9 => if b.subop = 1 then (b.indices rd).flatMap (fun i => (b.c.rows (i + 1) b.n).drop ((if fmtBlock b.fmtC then 2 else 1) * i)) else []
   | _ => [])

/-- The rows written, the indices of SCATTER being known (R112). -/
def Barge.stores (b : Barge) (rd : Reader) : Ranges :=
  if b.op = 9 then (b.indices rd).flatMap (fun i => (b.c.rows (i + 1) b.n).drop ((if fmtBlock b.fmtC then 2 else 1) * i))
  else b.writes

/-- An index of GATHER or SCATTER of K or more (R112). -/
def Barge.badIndex (b : Barge) (rd : Reader) : Bool :=
  decide (b.op = 8 ∨ b.op = 9) && (b.indices rd).any (fun i => decide (b.k ≤ i))

/-- Bytes of the ranges in the given region set. -/
def rangeBytes (p : Nat → Bool) (r : Ranges) : Nat := ((r.filter (fun x => p (spaceRegion x.1))).map (·.2)).foldl (· + ·) 0

/-- The operand traffic of a barge, each operand's bytes once: the rows of A that GATHER copies and the rows of C that SCATTER writes
are M rows wherever their indices lead (R124). -/
def Barge.moved (b : Barge) : Ranges :=
  match b.op with
  | 8 => b.readsFixed ++ b.a.rows b.m b.n ++ b.writes
  | 9 => b.readsFixed ++ b.c.rows (min b.m b.k) b.n
  | _ => b.readsFixed ++ b.writes

/-- Basin and stack at most 8 MiB, host region at most 2 MiB (R124). -/
def Barge.traffic (b : Barge) : Bool :=
  let all := b.moved
  decide (rangeBytes (fun r => decide (r ≠ 2)) all ≤ 8 * 2 ^ 20) && decide (rangeBytes (fun r => decide (r = 2)) all ≤ 2 * 2 ^ 20)

/-- The checks of a fetched barge on a unit of g arrays (R108, R124, R159). -/
def bargeOk (bs : List Byte) (g : Nat) : Bool :=
  let b := bargeOf bs
  bargeCheck bs && b.opOk && b.reserved && b.formats && b.aligned && b.limits && decide (b.cost g ≤ costLimit) && b.traffic

end Sys2Proof.Machine
end

