-- ==== Sys2Proof/Machine/Product.lean ====
section
/-!
DEFINITION. How products are summed (R135–R138): the narrow integer, float and wide paths, the tiles of an output, their
range monitor, and escalation under the barge's budget (R143–R148).
-/

namespace Sys2Proof.Machine

/-- A row of one operand along the depth of the product. -/
abbrev Lane := List Elem

/-- Lists of 32 consecutive elements. -/
def chunks32 : Nat → List Elem → List (List Elem)
  | 0, _ => []
  | n + 1, xs => if xs.isEmpty then [] else xs.take 32 :: chunks32 n (xs.drop 32)

/-- The blocks of a lane. -/
def Lane.blocks (l : Lane) : List Lane := chunks32 l.length l

/-- The combined exponent of a pair of elements; none where either lies in a zero block (R135). -/
def combined (x y : Elem) : Option Int :=
  match x.scale, y.scale with
  | some a, some b => some (a + b)
  | _, _ => none

/-- The exact sum of the products of two blocks, scaled (R135, R136). -/
def blockSum (x y : Lane) : Dy := (List.zipWith (fun a b => (a.value).mul b.value) x y).foldl Dy.add Dy.zero

/-- The block sums of two lanes in increasing K order. -/
def blockSums (x y : Lane) : List Dy := List.zipWith blockSum x.blocks y.blocks

/-- The products of two lanes in increasing K order. -/
def products (x y : Lane) : List Dy := List.zipWith (fun a b => (a.value).mul b.value) x y

/-- What the summing of one output element holds: its accumulator and whether its monitor tripped. -/
structure Acc where
  v : Dy
  trip : Bool
deriving DecidableEq, Repr

/-- The bound of the narrow accumulator (R144). -/
def narrowBound : Int := 2 ^ 31 - 1

/-- One aligned block contribution of the narrow integer path, in units of 2^eLo (R135, R144). -/
def narrowStep (eLo : Int) (a : Acc) (s : Dy) : Acc :=
  let c := s.floorAt eLo
  let n := a.v.int
  if a.trip then a
  else if narrowBound < c then ⟨⟨narrowBound, 0⟩, true⟩
  else if c < -narrowBound then ⟨⟨-narrowBound, 0⟩, true⟩
  else if narrowBound < n + c then ⟨⟨narrowBound, 0⟩, true⟩
  else if n + c < -narrowBound then ⟨⟨-narrowBound, 0⟩, true⟩
  else ⟨⟨n + c, 0⟩, false⟩

/-- One scaled block sum of the float path in Garnet4 (R136, R144). -/
def garnetStep (a : Acc) (s : Dy) : Acc :=
  let high := decide (s.m ≠ 0) && f32Max.lt s.abs
  let low := decide (s.m ≠ 0) && decide (s.top < -126)
  let s := if high then f32Max.signed s else if low then Dy.zero else s
  let sum := (a.v.add s).near24
  let big := decide (sum.m ≠ 0) && f32Max.lt sum.abs
  let v := if big then f32Max.signed sum else if decide (sum.m ≠ 0) && decide (sum.top < -126) then Dy.zero else sum
  ⟨v, a.trip || high || low || big⟩

/-- One output element on the path of its format (R135, R136); for the narrow path the result is in units of 2^eLo. -/
def dot (fmt : Nat) (eLo : Int) (x y : Lane) : Calc Acc :=
  match fmt with
  | 2 => pure ((blockSums x y).foldl garnetStep ⟨Dy.zero, false⟩)
  | 3 => do
    let v ← (blockSums x y).foldlM (fun acc s => do let p ← toF32 s; toF32 (acc.add p)) Dy.zero
    pure ⟨v, false⟩
  | 5 => do
    let v ← (products x y).foldlM (fun (acc : Int) p => toI32 (acc + p.int)) 0
    pure ⟨⟨v, 0⟩, false⟩
  | 0 => let a := (blockSums x y).foldl (narrowStep eLo) ⟨Dy.zero, false⟩; pure ⟨a.v.scale eLo, a.trip⟩
  | 1 => let a := (blockSums x y).foldl (narrowStep eLo) ⟨Dy.zero, false⟩; pure ⟨a.v.scale eLo, a.trip⟩
  | _ => do
    let v ← (products x y).foldlM (fun acc p => do let p ← toF32 p; toF32 (acc.add p)) Dy.zero
    pure ⟨v, false⟩

/-- One output element on the wide path (R137). -/
def wideDot (x y : Lane) : Dy := (blockSums x y).foldl (fun acc s => (acc.add s).near24) Dy.zero

/-- The smallest combined exponent of the non-zero block pairs of a tile (R135). -/
def lowExp (xs ys : List Lane) : Int :=
  let all := xs.flatMap (fun x => ys.flatMap (fun y => (List.zipWith combined x y).filterMap id))
  match all with
  | [] => 0
  | e :: es => es.foldl min e

/-- The position of a tile: row block and column block (R143). -/
structure TilePos where
  q : Nat
  v : Nat
deriving DecidableEq, Repr

/-- The tiles of an M × N output in the order of R143. -/
def tilesOf (m n : Nat) : List TilePos :=
  (List.range ((m + 1023) / 1024)).flatMap (fun g =>
    (List.range ((n + 31) / 32)).flatMap (fun v =>
      ((List.range 32).map (fun j => 32 * g + j)).filterMap (fun q => if 32 * q < m then some ⟨q, v⟩ else none)))

/-- What the escalations of a barge have come to (R146, R147). -/
structure EscTally where
  en : Bool
  budget : Nat
  opened : Bool
  tripped : Nat := 0
  escalated : Nat := 0
  leftSat : Nat := 0
  waves : Nat := 0
deriving DecidableEq, Repr

/-- The wavefronts that recomputing a tile costs (R147): r is 4 on the wide path. -/
def tileCost (depth r : Nat) : Nat := 128 + (depth * r + 63) / 64

/-- A tripped tile: it escalates while the budget is open and pays for it; the first that cannot be paid closes it (R146). -/
def EscTally.trip (t : EscTally) (cost : Nat) : EscTally × Bool :=
  let t := { t with tripped := t.tripped + 1 }
  if t.en && t.opened && decide (cost ≤ t.budget) then
    ({ t with budget := t.budget - cost, escalated := t.escalated + 1, waves := t.waves + cost }, true)
  else ({ t with opened := false, leftSat := t.leftSat + 1 }, false)

/-- One tile: its values, row by row, and the escalation tally after it (R143–R147). -/
def tile (fmt depth : Nat) (xs ys : List Lane) (t : EscTally) (p : TilePos) : Calc (List (List Dy) × EscTally) := do
  let rows := (xs.drop (32 * p.q)).take 32
  let cols := (ys.drop (32 * p.v)).take 32
  let eLo := if fmt ≤ 1 then lowExp rows cols else 0
  let accs ← rows.mapM (fun x => cols.mapM (fun y => dot fmt eLo x y))
  let tripped := accs.any (fun r => r.any (fun a => a.trip))
  if tripped then
    let (t, wide) := t.trip (tileCost depth 4)
    pure (if wide then rows.map (fun x => cols.map (fun y => wideDot x y)) else accs.map (fun r => r.map (fun a => a.v)), t)
  else pure (accs.map (fun r => r.map (fun a => a.v)), t)

/-- The product of an M-row and an N-row operand along their depth, tile by tile in order (R143). -/
def product (fmt depth m n : Nat) (xs ys : List Lane) (t : EscTally) : Calc (List (List Dy) × EscTally) := do
  let (tiles, t) ← (tilesOf m n).foldlM (fun (acc : List (TilePos × List (List Dy)) × EscTally) p => do
    let (v, t) ← tile fmt depth xs ys acc.2 p
    pure (acc.1 ++ [(p, v)], t)) ([], t)
  let rows := (List.range m).map (fun i => (List.range ((n + 31) / 32)).flatMap (fun v =>
    match tiles.find? (fun e => e.1 = ⟨i / 32, v⟩) with
    | some e => e.2.getD (i % 32) []
    | none => []))
  pure (rows, t)

end Sys2Proof.Machine
end

