-- ==== Sys2Proof/Machine/Compute.lean ====
section
/-!
DEFINITION. What each operation of a barge computes and writes (R112, R116, R135–R142): a list of bytes at tow-space
addresses, in the order in which they are written.
-/

namespace Sys2Proof.Machine

/-- Bytes written, in order; of two writes of one address the later stands. -/
abbrev Writes := List (Nat × Byte)

/-- Memory as it reads after some writes. -/
def after (ws : Writes) (rd : Reader) : Reader := fun a =>
  match ws.reverse.find? (fun w => w.1 = a) with
  | some w => w.2
  | none => rd a

/-- The lane of row i of an operand, n elements. -/
def Opd.lane (o : Opd) (rd : Reader) (i n : Nat) : Calc Lane := (List.range n).mapM (fun j => o.read rd i j)

/-- The lane of column c of an operand, n elements deep. -/
def Opd.column (o : Opd) (rd : Reader) (c n : Nat) : Calc Lane := (List.range n).mapM (fun j => o.read rd j c)

/-- An F32 or I32 sum, as the inputs are (R139). -/
def addAs (int : Bool) (x y : Dy) : Calc Dy :=
  if int then do let n ← toI32 (x.int + y.int); pure (Dy.ofInt n) else toF32 (x.add y)

/-- An F32 quotient, rounded to nearest even; by 0 the largest magnitude (R139, log 33). -/
def divF32 (x y : Dy) : Calc Dy :=
  if x.m = 0 then pure Dy.zero
  else if y.m = 0 then pure (f32Max.signed x)
  else
    let n := x.m.natAbs * 2 ^ 96
    let d := y.m.natAbs
    let q : Dy := ⟨2 * (n / d : Nat) + (if n % d = 0 then 0 else 1), x.e - y.e - 97⟩
    toF32 (if decide (x.m < 0) != decide (y.m < 0) then q.neg else q)

/-! ## MATMUL (R102, R138) -/

/-- An exact integer below 2^24 in magnitude. -/
def Dy.small (x : Dy) : Bool := decide (Dy.ofInt x.int = x ∨ (x.sub (Dy.ofInt x.int)).m = 0) && decide (x.int.natAbs < 2 ^ 24)

/-- The old value of an element of C and a tile's result in the wide accumulator: one rounding, and none between integers below 2^24
(R138). -/
def accumulate (old r : Dy) : Dy := if old.small && r.small then old.add r else (old.add r).near24

/-- C := A × Bᵀ, or with ACC C + A × Bᵀ. -/
def doMatmul (b : Barge) (rd : Reader) (k : SrKey) (t : EscTally) : Calc (Writes × EscTally) := do
  let xs ← (List.range b.m).mapM (fun i => b.a.lane rd i b.k)
  let ys ← (List.range b.n).mapM (fun i => b.b.lane rd i b.k)
  let (rows, t) ← product b.fmtA b.k b.m b.n xs ys t
  let rows ←
    if b.subop = 1 then
      (List.range b.m).mapM (fun i => do
        let old ← b.c.lane rd i b.n
        pure (List.zipWith (fun (o : Elem) r => accumulate o.value r) old (rows.getD i [])))
    else pure rows
  let ws ← b.c.writeRows k rows
  pure (ws, t)

/-! ## The vector stage (R112, R139) -/

/-- Every input is I32 and the operation is one that stays in I32 (R139). -/
def Barge.int (b : Barge) : Bool :=
  match b.op with
  | 2 => decide (b.fmtA = 5 ∧ b.fmtB = 5 ∧ (b.subop = 0 ∨ b.subop = 1 ∨ b.subop = 3 ∨ b.subop = 4))
  | 3 => decide (b.fmtA = 5 ∧ b.subop ≤ 2)
  | 4 => decide (b.fmtA = 5 ∧ b.subop ≤ 1)
  | 9 => decide (b.fmtA = 5 ∧ b.fmtC = 5)
  | _ => false

/-- One element of ELEMWISE (R112); minus: x is a negative zero, whose reciprocal alone shows it (R139). -/
def elemwise (b : Barge) (x y : Dy) (minus : Bool) : Calc Dy :=
  match b.subop with
  | 0 => addAs b.int x y
  | 1 => addAs b.int x y.neg
  | 2 => toF32 (x.mul y)
  | 3 => pure (x.max y)
  | 4 => pure (x.min y)
  | 5 => pure (x.max Dy.zero)
  | 6 => calcExp x
  | 7 => do let r ← calcRecip x; pure (if minus then r.neg else r)
  | 8 => calcRsqrt x
  | _ =>
    match codeValue 4 (b.aux % 65536) with
    | some c => toF32 (x.mul c)
    | none => do noteInvalid; pure Dy.zero

/-- ELEMWISE: C := f(A, B). -/
def doElemwise (b : Barge) (rd : Reader) (k : SrKey) : Calc Writes := do
  let rows ← (List.range b.m).mapM (fun i => do
    let xs ← b.a.readRow rd i b.n
    let ys ← if b.usesB then b.b.readRow rd (if b.bcast then 0 else i) b.n else pure xs
    (List.range b.n).mapM (fun j => elemwise b (xs.getD j Dy.zero) (ys.getD j Dy.zero) (b.a.minusZero rd i j)))
  b.c.writeRows k rows

/-- One step of a reduction of the values so far with the next (R112, R139). -/
def reduceStep (b : Barge) (acc : Option Dy) (x : Dy) : Calc (Option Dy) := do
  let x ← if b.subop = 3 then toF32 (x.mul x) else pure x
  match acc with
  | none => pure (some x)
  | some a =>
    match b.subop with
    | 1 => pure (some (a.max x))
    | 2 => pure (some (a.min x))
    | _ => do let r ← addAs b.int a x; pure (some r)

/-- A reduction of a list in increasing order; of no value it is 0. -/
def reduceList (b : Barge) (xs : List Dy) : Calc Dy := do
  let r ← xs.foldlM (fun acc x => reduceStep b acc x) none
  pure (r.getD Dy.zero)

/-- REDUCE: along rows M results in one column, down columns N results in one row (R112, log 31). -/
def doReduce (b : Barge) (rd : Reader) (k : SrKey) : Calc Writes := do
  let rows ← (List.range b.m).mapM (fun i => b.a.readRow rd i b.n)
  if b.aux % 2 = 0 then do
    let rs ← rows.mapM (fun r => reduceList b r)
    b.c.writeRows k (rs.map (fun r => [r]))
  else do
    let rs ← (List.range b.n).mapM (fun j => reduceList b (rows.map (fun r => r.getD j Dy.zero)))
    b.c.writeRows k [rs]

/-- A value of a carry record (R116). -/
def carryCode (int : Bool) (x : Dy) : Nat := if int then ofSigned 32 x.int else f32Code x

/-- A value read from a carry record; an infinity or NaN reads 0 and is counted (R133). -/
def carryValue (int : Bool) (c : Nat) : Calc Dy :=
  match codeValue (if int then 5 else 6) c with
  | some v => pure v
  | none => do noteInvalid; pure Dy.zero

/-- One step of SCAN in one column (R112, R139). -/
def scanStep (b : Barge) (c x y : Dy) : Calc Dy :=
  match b.subop with
  | 0 => addAs b.int c x
  | 1 => pure (c.max x)
  | _ => toF32 ((x.mul c).add y)

/-- What SCAN starts from: 0, or for max the least value (R112, log 32). -/
def scanStart (b : Barge) : Dy := if b.subop = 1 then (if b.int then fmtMin 5 else f32Max.neg) else Dy.zero

/-- The header and values of a carry record (R116). -/
def carryBytesOf (op positions n k : Nat) (vals : List Nat) : List Byte :=
  le 1 op ++ le 3 0 ++ le 4 positions ++ le 4 n ++ le 4 k ++ vals.flatMap (le 4)

/-- POSITIONS before this barge: 0 with FIRST (R116). -/
def Barge.positions (b : Barge) (rd : Reader) : Nat := if b.first then 0 else readLe rd (b.carryAddr + 4) 4

/-- The record of a chain does not fit the barge (R116). -/
def Barge.badCarry (b : Barge) (rd : Reader) : Bool :=
  b.isLong &&
    (let here := if b.op = 4 then b.m else b.n
     decide (16777216 < b.positions rd + here) ||
     (!b.first &&
       (decide (readLe rd b.carryAddr 1 ≠ b.op) ||
        decide (readLe rd (b.carryAddr + 8) 4 ≠ (if b.op = 4 then b.n else b.m)) ||
        decide (readLe rd (b.carryAddr + 12) 4 ≠ (if b.op = 4 then 0 else b.k)))))

/-- SCAN: prefixes down columns, rows being positions (R112, R116). -/
def doScan (b : Barge) (rd : Reader) (k : SrKey) : Calc Writes := do
  let start ← if b.isLong && !b.first then
      (List.range b.n).mapM (fun j => carryValue b.int (readLe rd (b.carryAddr + 0x10 + 4 * j) 4))
    else pure (List.replicate b.n (scanStart b))
  let (rows, last) ← (List.range b.m).foldlM (fun (acc : List (List Dy) × List Dy) i => do
    let xs ← b.a.readRow rd i b.n
    let ys ← if b.usesB then b.b.readRow rd i b.n else pure xs
    let cs ← (List.range b.n).mapM (fun j => scanStep b (acc.2.getD j Dy.zero) (xs.getD j Dy.zero) (ys.getD j Dy.zero))
    pure (acc.1 ++ [cs], cs)) ([], start)
  let ws ← b.c.writeRows k rows
  let carry := if b.isLong then
      place b.carryAddr (carryBytesOf 4 (b.positions rd + b.m) b.n 0 (last.map (carryCode b.int)))
    else []
  pure (ws ++ carry)

/-- A row of SOFTMAX_BLOCK as it runs: maximum (none before any score), sum, weighted sums (R112, R116). -/
structure SoftRow where
  mx : Option Dy
  sum : Dy
  w : List Dy
deriving DecidableEq, Repr

/-- The row's state before this barge (R116). -/
def softStart (b : Barge) (rd : Reader) (i : Nat) : Calc SoftRow :=
  if b.isLong && !b.first then do
    let a := b.carryAddr + 0x10 + i * (8 + 4 * b.k)
    let mx ← carryValue false (readLe rd a 4)
    let sum ← carryValue false (readLe rd (a + 4) 4)
    let w ← (List.range b.k).mapM (fun c => carryValue false (readLe rd (a + 8 + 4 * c) 4))
    pure ⟨some mx, sum, w⟩
  else pure ⟨none, Dy.zero, List.replicate b.k Dy.zero⟩

/-- The weights of a row converted to FMT_B without stochastic rounding (R139). -/
def weightLane (f : Nat) (ws : List Dy) : Calc Lane :=
  if fmtBlock f then do
    let parts ← (List.range ((ws.length + 31) / 32)).mapM (fun j => do
      let blk := (ws.drop (32 * j)).take 32
      let p ← convertBlock f ⟨false, 0, 0, 0⟩ 0 blk
      let e := if p.2 = 0x80 then none else some (toSigned 8 p.2)
      pure (p.1.map (fun c => (⟨(codeValue f c).getD Dy.zero, e⟩ : Elem))))
    pure parts.flatten
  else do
    let ys ← roundAll f ⟨false, 0, 0, 0⟩ 0 ws
    pure (ys.map (fun y => (⟨y, some 0⟩ : Elem)))

/-- One row's scores: the new maximum, the factor for what it holds, and the weights (R112, R139). -/
def softWeights (st : SoftRow) (xs : List Dy) : Calc (SoftRow × List Dy) := do
  let top := xs.foldl (fun (m : Option Dy) x => some (match m with | some y => y.max x | none => x)) st.mx
  match top with
  | none => pure (st, [])
  | some t => do
    let ws ← xs.mapM (fun x => do let d ← toF32 (x.sub t); calcExp d)
    let f ← (match st.mx with
      | some m => do let d ← toF32 (m.sub t); calcExp d
      | none => pure (Dy.ofInt 1))
    let s ← toF32 (st.sum.mul f)
    let sum ← ws.foldlM (fun acc w => toF32 (acc.add w)) s
    let w ← st.w.mapM (fun v => toF32 (v.mul f))
    pure (⟨top, sum, w⟩, ws)

/-- SOFTMAX_BLOCK (R112, R116): C is written at the end of the sequence, as the normalised weighted sums. The running maximum is F32
(R139), so a score in I32 enters rounded to it (DEDUCED, log 69). -/
def doSoftmax (b : Barge) (rd : Reader) (k : SrKey) (t : EscTally) : Calc (Writes × EscTally) := do
  let parts ← (List.range b.m).mapM (fun i => do
    let xs ← b.a.readRow rd i b.n
    let xs ← xs.mapM (fun x => if b.fmtA = 5 then toF32 x else pure x)
    let st ← softStart b rd i
    softWeights st xs)
  let lanes ← parts.mapM (fun p => weightLane b.fmtB p.2)
  let cols ← (List.range b.k).mapM (fun c => b.b.column rd c b.n)
  let (prod, t) ← product b.fmtB b.n b.m b.k lanes cols t
  let rows ← (List.range b.m).mapM (fun i => do
    let st := (parts.getD i (⟨none, Dy.zero, []⟩, [])).1
    let w ← (List.zip st.w (prod.getD i [])).mapM (fun p => do let r ← toF32 p.2; toF32 (p.1.add r))
    pure ({ st with w := w } : SoftRow))
  let carry := if b.isLong then
      place b.carryAddr (carryBytesOf 5 (b.positions rd + b.n) b.m b.k
        (rows.flatMap (fun st => f32Code (st.mx.getD Dy.zero) :: f32Code st.sum :: st.w.map f32Code)))
    else []
  if b.isLong && !b.final then pure (carry, t)
  else do
    let out ← rows.mapM (fun st => st.w.mapM (fun v => divF32 v st.sum))
    let ws ← b.c.writeRows k out
    pure (ws ++ carry, t)

/-- Insert a value and its index in the order of TOPK: largest first, ties to the lower index (R112). -/
def insertTop (p : Dy × Nat) : List (Dy × Nat) → List (Dy × Nat)
  | [] => [p]
  | q :: qs => if q.1.lt p.1 then p :: q :: qs else q :: insertTop p qs

/-- TOPK: the k largest values of each row to C and their column indices to ADDR_B (R112). -/
def doTopk (b : Barge) (rd : Reader) (k : SrKey) : Calc Writes := do
  let n := min (b.aux % 512) b.n
  let rows ← (List.range b.m).mapM (fun i => do
    let xs ← b.a.readRow rd i b.n
    pure (((List.zip xs (List.range b.n)).foldl (fun acc p => insertTop p acc) []).take n))
  let ws ← b.c.writeRows k (rows.map (fun r => r.map (·.1)))
  let is := (List.range b.m).flatMap (fun i => place (b.b.row i) (((rows.getD i []).map (·.2)).flatMap (le 4)))
  pure (ws ++ is)

/-- CONVERT: C := A converted (R112). -/
def doConvert (b : Barge) (rd : Reader) (k : SrKey) : Calc Writes := do
  let rows ← (List.range b.m).mapM (fun i => b.a.readRow rd i b.n)
  b.c.writeRows k rows

/-- Row i of one operand copied to row j of another of the same format, with its scales. -/
def copyRow (src dst : Opd) (rd : Reader) (i j n : Nat) : Writes :=
  place (dst.row j) ((List.range (src.rowBytes n)).map (fun x => rd (src.row i + x))) ++
  (if fmtBlock src.fmt then
    (List.range (ceilDiv n 32)).map (fun q => (dst.scaleAddr (dst.elem j (32 * q)), rd (src.scaleAddr (src.elem i (32 * q)))))
   else [])

/-- GATHER: row i of C := row B[i] of A (R112). -/
def doGather (b : Barge) (rd : Reader) : Writes :=
  let is := b.indices rd
  (List.range b.m).flatMap (fun i => copyRow b.a b.c rd (is.getD i 0) i b.n)

/-- SCATTER: rows in increasing i; SUBOP 1 adds to the row (R112). -/
def doScatter (b : Barge) (rd : Reader) (k : SrKey) : Calc Writes :=
  let is := b.indices rd
  if b.subop = 0 then pure ((List.range b.m).flatMap (fun i => copyRow b.a b.c rd i (is.getD i 0) b.n))
  else
    (List.range b.m).foldlM (fun (ws : Writes) i => do
      let j := is.getD i 0
      let xs ← b.a.readRow rd i b.n
      let cs ← b.c.readRow (after ws rd) j b.n
      let rs ← (List.zip cs xs).mapM (fun p => addAs b.int p.1 p.2)
      let w ← b.c.writeRow k j rs
      pure (ws ++ w)) []

/-- What a barge of an array operation writes, and how its escalations stand (R112). -/
def Barge.compute (b : Barge) (rd : Reader) (k : SrKey) (t : EscTally) : Calc (Writes × EscTally) :=
  match b.op with
  | 1 => doMatmul b rd k t
  | 2 => do let w ← doElemwise b rd k; pure (w, t)
  | 3 => do let w ← doReduce b rd k; pure (w, t)
  | 4 => do let w ← doScan b rd k; pure (w, t)
  | 5 => doSoftmax b rd k t
  | 6 => do let w ← doTopk b rd k; pure (w, t)
  | 7 => do let w ← doConvert b rd k; pure (w, t)
  | 8 => pure (doGather b rd, t)
  | 9 => do let w ← doScatter b rd k; pure (w, t)
  | _ => pure ([], t)

/-! ## Where an unresolved tile or group lies (R150) -/

/-- Rows, columns and depth of the products a barge forms; none for an operation of the vector stage. -/
def Barge.tiled (b : Barge) : Option (Nat × Nat × Nat) :=
  match b.op with
  | 1 => some (b.m, b.n, b.k)
  | 5 => some (b.m, b.k, b.n)
  | _ => none

/-- The cells of the product, or of the group of 256 elements of M × N that an operation of the vector stage takes in, that tile (or
group) number i covers. -/
def Barge.unitCells (b : Barge) (i : Nat) : List (Nat × Nat) :=
  match b.tiled with
  | some (m, n, _) =>
    (match (tilesOf m n)[i]? with
     | some p => ((List.range 32).flatMap (fun r => (List.range 32).map (fun c => (32 * p.q + r, 32 * p.v + c)))).filter
         (fun p => decide (p.1 < m) && decide (p.2 < n))
     | none => [])
  | none => ((List.range 256).map (fun x => ((256 * i + x) / max b.n 1, (256 * i + x) % max b.n 1))).filter (fun p => decide (p.1 < b.m))

/-- The cells of C that depend on those cells: in a reduction the result of their row or column, in TOPK their whole row, in SCAN what
follows in their columns. -/
def Barge.cellsOut (b : Barge) (cells : List (Nat × Nat)) : List (Nat × Nat) :=
  match b.op with
  | 3 => cells.map (fun p => if b.aux % 2 = 0 then (p.1, 0) else (0, p.2))
  | 4 => cells.flatMap (fun p => (List.range (b.m - p.1)).map (fun r => (p.1 + r, p.2)))
  | 6 => cells.flatMap (fun p => (List.range b.shapeC.2).map (fun c => (p.1, c)))
  | _ => cells

/-- The addresses of the bytes written that depend on tile (or group) number i (R150): C with its scales, the indices of TOPK, and the
values of a carry record. -/
def Barge.unitBytes (b : Barge) (i : Nat) : List Nat :=
  let cells := b.unitCells i
  let out := (b.cellsOut cells).filter (fun p => decide (p.1 < b.shapeC.1) && decide (p.2 < b.shapeC.2))
  let size := max 1 (fmtBits b.fmtC / 8)
  let word (a : Nat) : List Nat := [a, a + 1, a + 2, a + 3]
  out.flatMap (fun p =>
    (List.range size).map (fun x => b.c.elem p.1 p.2 + x) ++
    (if fmtBlock b.fmtC then [b.c.scaleAddr (b.c.elem p.1 p.2)] else []) ++
    (if b.op = 6 then word (b.b.row p.1 + 4 * p.2) else [])) ++
  (if !b.isLong then []
   else if b.op = 4 then cells.flatMap (fun p => word (b.carryAddr + 0x10 + 4 * p.2))
   else cells.flatMap (fun p => word (b.carryAddr + 0x18 + p.1 * (8 + 4 * b.k) + 4 * p.2)))

/-- The wavefronts of recomputing one tile or group on its own path (R147, R150). -/
def Barge.recompute (b : Barge) : Nat :=
  match b.tiled with
  | some (_, _, k) => tileCost k (fmtRate (if b.op = 1 then b.fmtA else b.fmtB))
  | none => tileCost 0 1

end Sys2Proof.Machine
end

