-- ==== Sys2Proof/Machine/Ops.lean ====
section
/-!
DEFINITION. The named operations over State that the commands share: sparse stores, the register file, time, counters,
MSI-X messages, logbook entries, queues, events, completions, byte memories, and free values.
-/

namespace Sys2Proof.Machine

/-- What a command answers. -/
abbrev Out := Host.Outcome State Fault Refusal

/-- A command that names only objects the machine has answers its next state; any other stops (log 7). -/
def ifOk (ok : Bool) (t : State) : Out := if ok then .next t else .fault .noSuchObject

/-! ## Sparse stores (log 2) -/

/-- The value at a key; an unlisted key reads as the default. -/
def spGet {α : Type} (d : α) : Sparse α → Nat → α
  | [], _ => d
  | (k', v) :: m, k => if k' = k then v else spGet d m k

/-- Write a value, keeping keys rising and the default unlisted. -/
def spSet {α : Type} [DecidableEq α] (d : α) : Sparse α → Nat → α → Sparse α
  | [], k, v => if v = d then [] else [(k, v)]
  | (k', v') :: m, k, v =>
    if k' < k then (k', v') :: spSet d m k v
    else if k' = k then (if v = d then m else (k, v) :: m)
    else (if v = d then (k', v') :: m else (k, v) :: (k', v') :: m)

/-- Change the value at one key. -/
def spMod {α : Type} [DecidableEq α] (d : α) (m : Sparse α) (k : Nat) (f : α → α) : Sparse α :=
  spSet d m k (f (spGet d m k))

/-- The canonical form of a sparse store: keys strictly rising from lo up, no entry equal to the default. -/
def spWf {α : Type} [DecidableEq α] (d : α) : Nat → Sparse α → Bool
  | _, [] => true
  | lo, (k, v) :: m => decide (lo ≤ k) && decide (v ≠ d) && spWf d (k + 1) m

/-! ## Register words (R380, R381) -/

/-- Registers whose value after a P reset is not zero: first offset, number of words, stride, value (R381, R386). The strap
values of KEEL_STATUS and KEEL_STRAPS are sampled at the release of the reset (R241). -/
def resetTable : List (Nat × Nat × Nat × Nat) :=
  [(0x000000, 1, 4, 0x00011152), (0x000010, 1, 4, 0x00000301),
   (0x100000, 1, 4, 0x00200A00), (0x10000C, 1, 4, 0x00000096), (0x100010, 1, 4, 0x0000001A),
   (0x100018, 1, 4, 0x00000003),
   (0x200000, 1, 4, 0x000C4019), (0x200004, 1, 4, 0x000C4039), (0x200008, 1, 4, 0x000C4019),
   (0x20000C, 1, 4, 0x00000001), (0x200014, 1, 4, 0x003207D0), (0x200018, 1, 4, 0x00004E20),
   (0x20001C, 1, 4, 0x00006401), (0x200084, 2, 4, 0x00030CC3),
   (0x300000, 1, 4, 0xFF000078), (0x300008, 1, 4, 0x00000015),
   (0x400004, 9, 0x10000, 0x000000F3), (0x40000C, 9, 0x10000, 0x00004007), (0x400010, 9, 0x10000, 0x00000001),
   (0x400014, 9, 0x10000, 0x00002241),
   (0x402000, 580, 4, 0x04060000), (0x412000, 580, 4, 0x04060000), (0x422000, 580, 4, 0x04060000),
   (0x432000, 580, 4, 0x04060000), (0x442000, 580, 4, 0x04060000), (0x452000, 580, 4, 0x04060000),
   (0x462000, 580, 4, 0x04060000), (0x472000, 580, 4, 0x04060000), (0x482000, 580, 4, 0x04060000),
   (0x500008, 1, 4, 0x06FFFFFF), (0x50000C, 1, 4, 0x000F4100), (0x500010, 1, 4, 0x00A0F840),
   (0x60000C, 1, 4, 0x001FE2E2), (0x600020, 1, 4, 0xC8281E0F), (0x600040, 16, 4, 0x0000000D),
   (0x600100, 176, 4, 0x00000300),
   (0x700000, 4, 4, 0x00000018), (0x700020, 1, 4, 0x00000801),
   (0x800000, 1, 4, 0x00001E01),
   (0x900040, 16, 4, 0x00004000),
   (0xA00000, 1, 4, 0x00000006), (0xA00010, 1, 4, 0x00000C00),
   (0xB00000, 1, 4, 0x0000000D), (0xC00008, 1, 4, 0x001003E8), (0xD00004, 1, 4, 0x134407EE),
   (0xE00000, 2, 4, 0x000E001F), (0xF00000, 1, 4, 0x00000010),
   (0x100000C, 2048, 16, 0x00000001)]

/-- BAR2_WIN[w] after reset: the basin for w < 16, the first 16 GiB of the stacks above (R274). -/
def resetBar2Win (w : Nat) : Nat := if w < 16 then 5 + w * 0x2000 else 6 + (w - 16) * 0x2000

/-- The reset value of the word at a BAR0 offset (R381); a word no rule names reads 0. -/
def resetWordIn : List (Nat × Nat × Nat × Nat) → Nat → Nat
  | [], _ => 0
  | (first, n, stride, v) :: rest, off =>
    if first ≤ off ∧ off < first + n * stride ∧ (off - first) % stride = 0 then v else resetWordIn rest off

/-- The reset value of the word at a BAR0 offset (R381). -/
def resetWord (off : Nat) : Word :=
  BitVec.ofNat 32
    (if 0xA00100 ≤ off ∧ off < 0xA00180 then resetBar2Win ((off - 0xA00100) / 4) else resetWordIn resetTable off)

/-- The register words are sparse with each word's reset value as its default. -/
def wordGet (m : Sparse Word) (off : Nat) : Word := spGet (resetWord off) m off

/-- Write a register word, keeping the canonical form. -/
def wordSet (m : Sparse Word) (off : Nat) (v : Word) : Sparse Word := spSet (resetWord off) m off v

/-- Keys strictly rising, no word listed that holds its reset value. -/
def wordsWf : Nat → Sparse Word → Bool
  | _, [] => true
  | lo, (k, v) :: m => decide (lo ≤ k) && decide (v ≠ resetWord k) && wordsWf (k + 1) m

/-- The stored word at a BAR0 offset. -/
def State.word (s : State) (off : Nat) : Word := wordGet s.regs off

/-- Store a word at a BAR0 offset. -/
def State.setWord (s : State) (off : Nat) (v : Word) : State := { s with regs := wordSet s.regs off v }

/-- A field of a word. -/
def fldOf (w : Word) (f : Fld) : Nat := w.toNat / 2 ^ f.lo % 2 ^ f.width

/-- A word with one field replaced by the low bits of v. -/
def fldPut (w : Word) (f : Fld) (v : Nat) : Word :=
  BitVec.ofNat 32 (w.toNat - fldOf w f * 2 ^ f.lo + v % 2 ^ f.width * 2 ^ f.lo)

/-- Read a field. -/
def State.fget (s : State) (f : Fld) : Nat := fldOf (s.word f.off) f

/-- Write a field. -/
def State.fset (s : State) (f : Fld) (v : Nat) : State := s.setWord f.off (fldPut (s.word f.off) f v)

/-- A one-bit field is set. -/
def State.bit (s : State) (f : Fld) : Bool := s.fget f ≠ 0

/-- Add n to a field, saturating at its width. -/
def State.fadd (s : State) (f : Fld) (n : Nat) : State := s.fset f (min (2 ^ f.width - 1) (s.fget f + n))

/-! ## What the module is -/

/-- Present rung (R12). -/
def State.rung (s : State) : Nat := s.fget F.PWR_RUNG_STATE.RUNG

/-- KEEL_STATUS.READY (R314). -/
def State.ready (s : State) : Bool := s.bit F.KEEL_STATUS.READY

/-- The pair state is ACTIVE (R209). -/
def State.active (s : State) : Bool := s.fget F.PAIR_STATUS.STATE = 3

/-- The pair state is STANDBY. -/
def State.standby (s : State) : Bool := s.fget F.PAIR_STATUS.STATE = 2

/-- The lockkeeper cores run: started (R313), powered (R296), and none of the resets holds them. -/
def State.cores (s : State) : Bool := s.boot.coresUp && decide (s.rung ≤ 2)

/-! ## Time (R180–R183) -/

/-- TB3 nanosecond count: 2 ns per count (R181). -/
def State.t3ns (s : State) : Nat := 2 * s.time.tb3

/-- One nanosecond of a steered base, in its own units of 2^-16 ns × 10^-12 (log 9). -/
def fineNs : Nat := 65536 * 10 ^ 12

/-- Nanosecond count of a steered base, modulo 2^64 (R182). -/
def TimeBase.ns (b : TimeBase) : Nat := b.t / fineNs % 2 ^ 64

/-- TB0 is FREE (R188). -/
def State.tb0Free (s : State) : Bool := s.fget F.TB_FLAGS.STATE0 = 0

/-- TB0 nanosecond count as event and fault cells carry it: 0 while TB0 is FREE (R290). -/
def State.tb0Stamp (s : State) : Nat := if s.tb0Free then 0 else s.time.tb0.ns

/-- a is at or after b in the arithmetic of R183. -/
def timeReached (a b : Nat) : Bool := (a + 2 ^ 64 - b % 2 ^ 64) % 2 ^ 64 < 2 ^ 63

/-- The part of a rate that slews S: what the clamp leaves of the slew term (R189). -/
def TimeBase.slewPart (b : TimeBase) (ppm : Nat) : Int :=
  let term : Int := if b.slew = 0 then 0 else if 0 < b.slew then ppm * 1000000 else -(ppm * 1000000 : Int)
  clampI (-100000000) 100000000 (b.rate + term) - clampI (-100000000) 100000000 b.rate

/-- The rate in force, units of 10^-12 (R189): the servo part with the slew term, clamped. -/
def TimeBase.rateNow (b : TimeBase) (ppm : Nat) : Int := clampI (-100000000) 100000000 b.rate + b.slewPart ppm

/-- n counts of 2 ns of a steered base with the given slew rate in ppm (R181, R189): the slewed part comes off S until S = 0. -/
def TimeBase.run (b : TimeBase) (ppm n : Nat) : TimeBase :=
  let part := b.slewPart ppm
  let per : Int := 131072 * part
  let full : Int := per * n
  let slewed : Int :=
    if 0 ≤ b.slew then (if full < b.slew then full else b.slew) else (if b.slew < full then full else b.slew)
  let base : Int := 131072 * (10 ^ 12 + clampI (-100000000) 100000000 b.rate) * n
  { b with t := (Int.ofNat b.t + base + slewed).toNat, slew := b.slew - slewed }

/-- SLEW_PPM in force: 0 acts as 50, above 90 as 90 (R195). -/
def State.slewPpm (s : State) : Nat :=
  let v := s.fget F.TB_JUMP_LIMIT.SLEW_PPM
  if v = 0 then 50 else min v 90

/-- A steered base in 2^-16 ns, modulo 2^64 ns. -/
def TimeBase.fine (b : TimeBase) : Nat := b.t / 10 ^ 12 % 2 ^ 80

/-- The least number in lo..hi that p accepts, p being false below and true above; hi where none is accepted. -/
def leastCount (p : Nat → Bool) : Nat → Nat → Nat → Nat
  | 0, _, hi => hi
  | n + 1, lo, hi =>
    if hi ≤ lo then hi
    else
      let mid := (lo + hi) / 2
      if p mid then leastCount p n lo mid else leastCount p n (mid + 1) hi

/-- The counts, of n, after which a base has first reached t (R183). -/
def TimeBase.reachAfter (b : TimeBase) (ppm t n : Nat) : Nat := leastCount (fun k => timeReached (b.run ppm k).ns t) 64 0 n

/-- The instants, within the next n counts, at which TB0 reaches the T_open of cycles not yet open are noted (R65, R183). -/
def State.markOpenings (s : State) (n : Nat) : State :=
  let p := s.slewPpm
  let b := s.time.tb0
  let mark := fun (c : Cycle) =>
    if c.opened.isNone && !timeReached b.ns c.tOpen && timeReached (b.run p n).ns c.tOpen then
      { c with t3Open := 2 * (s.time.tb3 + b.reachAfter p c.tOpen n) } else c
  { s with lock := { s.lock with cycles := s.lock.cycles.map mark } }


/-! ## Free values (log 3) -/

/-- A reset or a hold is in progress: nothing else begins (R388). -/
def State.held (s : State) : Bool := s.boot.resetLow || s.power.railsOff || s.boot.stopped

/-- The next free value, reduced below m, and the state that has drawn it. -/
def State.draw (s : State) (m : Nat) : Nat × State :=
  (Config.freeValue s.free % m, { s with free := s.free + 1 })

/-! ## Counters (R351) -/

/-- Add n to counter i of group g, saturating at 2^64 − 1. -/
def State.count (s : State) (g i : Nat) (n : Nat := 1) : State :=
  { s with counters := spMod 0 s.counters (16 * g + i) (fun v => min (2 ^ 64 - 1) (v + n)) }

/-- Add n to counter i of every SPACE group bound to this space (R353). -/
def State.countSpace (s : State) (space i : Nat) (n : Nat := 1) : State :=
  (List.range 8).foldl
    (fun s k => if s.bit (F.CNT_BIND.EN k) && s.fget (F.CNT_BIND.SPACE k) = space then s.count (24 + k) i n else s) s

/-- STARVED time of the arrays in units of 10 ns while n counts of 500 MHz pass; a space's time is that of its unit (R351). -/
def State.countStarved (s : State) (n : Nat) : State :=
  (List.range 4).foldl (fun s a =>
    if s.bit (F.ARRAY_STATUS.STARVED a) then
      let all := spGet 0 s.tows.starved a + n
      let s := { s with tows := { s.tows with starved := spSet 0 s.tows.starved a (all % 5) } }
      let s := s.count 6 a (all / 5)
      if a % 2 ^ s.fget (F.ARRAY_STATUS.GANG a) = 0 then s.countSpace (s.fget (F.ARRAY_STATUS.SPACE a)) 13 (all / 5) else s
    else s) s

/-- n counts of 500 MHz pass on every base (log 1). -/
def State.advance (s : State) (n : Nat) : State :=
  let p := s.slewPpm
  let s := (s.markOpenings n).countStarved n
  { s with time := { s.time with tb3 := s.time.tb3 + n, tb0 := s.time.tb0.run p n, tb1 := s.time.tb1.run p n,
                                 tb2 := s.time.tb2.run p n } }

/-! ## What leaves the module (log 4) -/

/-- Something leaves the module. -/
def State.emit (s : State) (x : Sent) : State := { s with out := s.out ++ [x] }

/-- The module may send requests to the host (R257). -/
def State.mayRequest (s : State) : Bool :=
  s.link.busMaster && !s.link.d3hot && s.bit F.XL_CTRL.DMA_EN && s.link.perst && decide (s.rung ≤ 3)

/-- A vector's Vector Control mask bit in the MSI-X table (R258, R261). -/
def State.msixMasked (s : State) (v : Nat) : Bool := (s.word (0x100000C + 16 * v)).toNat % 2 = 1

/-- Send vector v's message, or leave it pending while the vector is masked or no request may be sent (R261, R257). -/
def State.msix (s : State) (v : Nat) : State :=
  if s.msixMasked v || !s.mayRequest then
    { s with link := { s.link with msixPend := if s.link.msixPend.contains v then s.link.msixPend else s.link.msixPend ++ [v] } }
  else (s.emit (.msix v)).count 10 5

/-- Messages that wait are sent as soon as they may be (R261). -/
def State.msixFlush (s : State) : State :=
  s.link.msixPend.foldl State.msix { s with link := { s.link with msixPend := [] } }

/-- Set a sticky bit; a change from 0 to 1 sends the message of its fixed vector (R261). -/
def State.sticky (s : State) (f : Fld) (vec : Option Nat) : State :=
  if s.bit f then s
  else match vec with
    | some v => (s.fset f 1).msix v
    | none => s.fset f 1

/-! ## Logbook (R345–R350) -/

/-- Error classes, in order from 0 (R338, R345). -/
inductive Cls where
  | corrected | data | control | compute | link | component | request | environment | fatal
deriving DecidableEq, Repr

/-- The code of an error class (R345). -/
def Cls.code : Cls → Nat
  | .corrected => 0 | .data => 1 | .control => 2 | .compute => 3 | .link => 4 | .component => 5 | .request => 6
  | .environment => 7 | .fatal => 8

/-- Object kinds (R345). -/
inductive Obj where
  | module | axis | reach | port | cycle | array | space | queue | bay | ring | lane | rail | sensor | memory | auction | core
deriving DecidableEq, Repr

/-- The code of an object kind (R345). -/
def Obj.code : Obj → Nat
  | .module => 0 | .axis => 1 | .reach => 2 | .port => 3 | .cycle => 4 | .array => 5 | .space => 6 | .queue => 7
  | .bay => 8 | .ring => 9 | .lane => 10 | .rail => 11 | .sensor => 12 | .memory => 13 | .auction => 14 | .core => 15

/-- The oldest entry of severity at most sev: the one a full record overwrites (R346). -/
def victim (sev : Nat) : List Entry → Option Entry
  | [] => none
  | e :: es =>
    match victim sev es with
    | none => if e.sev ≤ sev then some e else none
    | some f => if e.sev ≤ sev ∧ e.index < f.index then some e else some f

/-- Put an entry in place of another (its slot), by index. -/
def replaceEntry (old : Nat) (e : Entry) (l : List Entry) : List Entry := l.map (fun x => if x.index = old then e else x)

/-- What a record of cap slots does with an entry (R346): its slots, the entry overwritten, whether it holds the entry. -/
def record (cap : Nat) (e : Entry) (l : List Entry) : List Entry × Option Entry × Bool :=
  if l.length < cap then (l ++ [e], none, true)
  else match victim e.sev l with
    | some v => (replaceEntry v.index e l, some v, true)
    | none => (l, none, false)

/-- Slots of the logbook, the keel copy and the annex (R345–R347). -/
def bookCap : Nat := 1048576
/-- Slots of the keel copy. -/
def keelCap : Nat := 4096
/-- Slots of the annex. -/
def annexCap : Nat := 256

/-- A mark's LOST and VALID after an entry of this index was overwritten (R348). -/
def Mark.overtake (m : Mark) (index : Nat) : Mark :=
  if m.set && decide (m.index ≤ index) then { m with valid := false, lost := min 32767 (m.lost + 1) } else m

/-- Marks and MARK_LOST after an overwrite in the logbook; the overwrite is counted by the severity lost (R348, R351). -/
def State.overwritten (s : State) (lost : Option Entry) : State :=
  match lost with
  | none => s
  | some v =>
    let hit := (List.range 8).filter (fun i => (spGet {} s.log.marks i).set && decide ((spGet {} s.log.marks i).index ≤ v.index))
    let s := hit.foldl (fun s i =>
      { s with log := { s.log with marks := spMod {} s.log.marks i (fun m => m.overtake v.index) } }) s
    let bits := hit.foldl (fun b i => b ||| 2 ^ i) (s.fget F.LOG_FLAGS.MARK_LOST)
    (s.fset F.LOG_FLAGS.MARK_LOST bits).count 14 (8 + v.sev)

/-- The running cycle, if any: the first that has opened (R65). -/
def State.running (s : State) : Option Cycle := s.lock.cycles.find? (fun c => c.opened.isSome)

/-- ARG2 of an entry: the running cycle's ID, or 0. -/
def State.runningId (s : State) : Nat := match s.running with | some c => c.id | none => 0

/-- Make a logbook entry at the one recording point (R346, R347, R350): the logbook, the annex while frozen, and the keel copy
for severity 5 and above; on L3 and L4 only the keel records; on L5 nothing does. -/
def State.logEntry (s : State) (sev source : Nat) (cls : Cls) (kind : Obj) (reason arg0 : Nat) (arg1 : Nat := 0) : State :=
  let e : Entry :=
    { index := s.log.head, t3 := s.t3ns, sev := sev, injected := s.ras.marking, source := source, cls := cls.code,
      kind := kind.code, reason := reason, arg0 := arg0, arg1 := arg1, arg2 := s.runningId }
  let frozen := s.log.frozen
  let up := decide (s.rung ≤ 2)
  let inBookTry := up && !frozen
  let rb := if inBookTry then record bookCap e s.log.book else (s.log.book, none, false)
  let inAnnex := up && frozen && decide (5 ≤ sev) && decide (s.log.annex.length < annexCap)
  let keelTry := decide (5 ≤ sev) && decide (s.rung ≤ 4)
  let rk := if keelTry then record keelCap e s.log.keel else (s.log.keel, none, false)
  let held := rb.2.2 || inAnnex || rk.2.2
  let s := { s with log := { s.log with
              book := rb.1
              annex := if inAnnex then s.log.annex ++ [{ e with annex := true }] else s.log.annex
              keel := rk.1
              head := if held then s.log.head + 1 else s.log.head } }
  let s := s.overwritten rb.2.1
  let s := if inBookTry && !rb.2.2 then s.fadd (F.LOG_DROPS.DROPS sev) 1 else s
  let s := if up && frozen && !inAnnex then s.fadd F.LOG_MISSED.MISSED 1 else s
  let s := if up && frozen && !inAnnex && decide (5 ≤ sev) then
      (s.fadd (F.LOG_DROPS.DROPS sev) 1).fset F.LOG_FLAGS.ANNEX_FULL 1 else s
  let s := if keelTry && !rk.2.2 then (s.fadd F.LOG_KEEL.DROPS 1).fset F.LOG_FLAGS.KEEL_DROP 1 else s
  let s := if held then s.count 14 sev else s
  let s := if decide (4 ≤ sev) then (s.fset F.RAS_STATUS.LAST_CLASS cls.code).fset F.RAS_STATUS.LAST_SOURCE source else s
  let s := if decide (5 ≤ sev) then s.sticky F.LOG_FLAGS.SEV5 (some 0) else s
  if s.fget F.LOG_CTRL.ALERT_SEV ≤ sev then s.fset F.LOG_FLAGS.ALERT 1 else s

/-! ## Memory errors and injections (R338, R342, R356) -/

/-- A corrected error of a SOURCE (R338): CE, and a severity 2 entry for the first in each hour of TB3. -/
def State.corrected (s : State) (source : Nat) (kind : Obj) (number : Nat) : State :=
  let hour := s.t3ns / (3600 * 10 ^ 9)
  let s := s.fset F.RAS_STATUS.CE 1
  if s.ras.hours.contains (source, hour) then s
  else
    ({ s with ras := { s.ras with hours := s.ras.hours.filter (fun (p : Nat × Nat) => decide (p.1 ≠ source)) ++ [(source, hour)] } }).logEntry 2
      source .corrected kind 0 number

/-- A word of the basin (mem 0) or of a stack (mem 1) shows an error (R338): corrected errors are counted, an uncorrectable word
is poisoned with a severity 5 entry. Counters of group 9: the basin 0 and 1, stack n 3 + 2n and 4 + 2n (R351). -/
def State.memoryError (s : State) (mem stack word errors : Nat) (uncorrectable : Bool) : State :=
  let base := if mem = 0 then 0 else 3 + 2 * stack
  if uncorrectable then
    let p := if s.mem.poison.contains (mem, word) then s.mem.poison else s.mem.poison ++ [(mem, word)]
    (((({ s with mem := { s.mem with poison := p } }).count 9 (base + 1)).fset F.RAS_STATUS.UE 1).logEntry 5 13 .data .memory 0 mem word)
  else (s.count 9 base errors).corrected 13 .memory mem

/-- An injection of this target and index is armed (R356). -/
def State.armed (s : State) (target index : Nat) : Bool := decide (s.ras.inject = some (target, index))

/-- The armed injection takes effect (R356): GO reads 0, INJECTED is set, and the entries that follow carry INJECTED. -/
def State.fire (s : State) : State :=
  (({ s with ras := { s.ras with inject := none, marking := true } }).fset F.RAS_INJECT.GO 0).fset F.RAS_STATUS.INJECTED 1

/-- The entries of an injected fault have been made. -/
def State.unmark (s : State) : State := { s with ras := { s.ras with marking := false } }

/-! ## Spares (R341) -/

/-- A spare is brought in (R341): SPARE_IN and a severity 4 entry; the last of its kind sets EXHAUSTED and DEGRADED with a
severity 6 entry. Kinds are the lines of Table: Spare inventory: 0 columns, 1 rows, 2 channels, 3 towpath lanes, 4 tether
lanes, 5 auction units, 6 rings, 7 CORE phases, 8 reaches, 9 lockkeeper cores, 10 bays. -/
def State.spareIn (s : State) (source : Nat) (kind : Obj) (number code : Nat) (last : Bool) : State :=
  let s := (s.fset F.RAS_STATUS.SPARE_IN 1).logEntry 4 source .component kind 0 number
  if last then
    let s := (s.fset F.RAS_STATUS.EXHAUSTED 1).fset F.RAS_STATUS.DEGRADED 1
    let s := { s with ras := { s.ras with exhausted := if s.ras.exhausted.contains code then s.ras.exhausted else s.ras.exhausted ++ [code] } }
    s.logEntry 6 source .component kind 1 number
  else s

/-- A spare of this kind is free again (R355): DEGRADED stands while any kind is exhausted. -/
def State.spareBack (s : State) (code : Nat) : State :=
  let left := s.ras.exhausted.filter (fun c => decide (c ≠ code))
  ({ s with ras := { s.ras with exhausted := left } }).fset F.RAS_STATUS.DEGRADED (if left = [] then 0 else 1)

/-! ## Queues (R275–R293) -/

/-- The queue with this number. -/
def State.queue (s : State) (q : Nat) : Queue := spGet {} s.link.queues q

/-- Change one queue. -/
def State.modQueue (s : State) (q : Nat) (f : Queue → Queue) : State :=
  { s with link := { s.link with queues := spMod {} s.link.queues q f } }

/-- Cells of an item that count: the gap marker lies outside every limit (R279). -/
def Item.cells (i : Item) : Nat := if i.kind = 6 then 0 else i.len

/-- Cells in use (R277, R293 DEPTH). -/
def Queue.inUse (q : Queue) : Nat := (q.items.map Item.cells).foldl (· + ·) 0

/-- LIMIT in force: 0 acts as 1 (R293). -/
def Queue.limitNow (q : Queue) : Nat := if q.limit = 0 then 1 else q.limit

/-- Cells the pool holds. -/
def poolCells : Nat := 1048576

/-- Cells an enabled queue keeps from the pool: those in use and reserved, at least its RESERVE, and its marker (R279). -/
def Queue.owned (q : Queue) : Nat := if q.en then max (q.inUse + q.reserved) q.reserve + 1 else 0

/-- Free cells outside all reservations: QP_FREE (R293). -/
def State.poolFree (s : State) : Nat := poolCells - (s.link.queues.map (fun p => p.2.owned)).foldl (· + ·) 0

/-- The queue is full for a push of c cells (R279). -/
def State.fullFor (s : State) (q : Nat) (c : Nat) : Bool :=
  let d := s.queue q
  decide (d.limitNow < d.inUse + d.reserved + c) || decide (s.poolFree < min c (d.inUse + c - d.reserve))

/-- A drop at a queue (R280): the marker is placed, or its count and masks grow. -/
def Queue.drop (q : Queue) (it : Item) (t : Nat) : Queue :=
  let q := { q with drops := q.drops + 1, dropsTotal := (q.dropsTotal + 1) % 2 ^ 32 }
  match q.gap with
  | some g =>
    { q with gap := some { g with count := min 0xFFFFFFFF (g.count + 1), last := t, prioMask := g.prioMask ||| 2 ^ it.prio,
                                  kindMask := g.kindMask ||| 2 ^ it.kind } }
  | none =>
    { q with gap := some { prio := it.prio, count := 1, first := t, last := t, prioMask := 2 ^ it.prio, kindMask := 2 ^ it.kind }
             items := q.items ++ [{ code := 0, kind := 6, prio := it.prio }] }

/-- Link an item at the tail of its priority list (R277); SEQ is the queue's push count. -/
def Queue.link (q : Queue) (it : Item) : Queue :=
  { q with items := q.items ++ [{ it with seq := if it.kind = 1 then it.seq else q.pushes % 65536 }], pushes := q.pushes + 1 }

/-- A push by a device source (R279, R280, R276): it lands, or is dropped with the marker; a disabled queue takes nothing. -/
def State.push (s : State) (q : Nat) (it : Item) : State :=
  let d := s.queue q
  if !d.en || !d.dir then s
  else if d.broken then
    (s.modQueue q (fun d => { d with drops := d.drops + 1, dropsTotal := (d.dropsTotal + 1) % 2 ^ 32 })).count 11 2
  else if s.fullFor q it.len then
    let s1 := (s.modQueue q (fun d => d.drop it s.t3ns)).count 11 2
    if d.gap.isNone then s1.count 11 3 else s1
  else (s.modQueue q (fun d => d.link it)).count 11 0

/-- The first item of the most urgent priority (R277): the items before it, it, and those after. -/
def Queue.head? (q : Queue) : Option Item :=
  let top := q.items.foldl (fun m i => max m (i.prio + 1)) 0
  q.items.find? (fun i => i.prio + 1 = top)

/-- Remove the first item of this priority. -/
def removeFirst (prio : Nat) : List Item → List Item
  | [] => []
  | i :: is => if i.prio = prio then is else i :: removeFirst prio is

/-- The gap cell of a marker (R292). -/
def Gap.item (g : Gap) : Item :=
  { code := 0, kind := 6, prio := g.prio,
    body := padTo 56 (le 8 g.first ++ le 8 g.last ++ le 4 g.count ++ le 1 g.prioMask ++ le 1 g.kindMask) }

/-- A pop (R277): the oldest item of the most urgent list, the marker read out as a gap cell; EMPTY for a broken queue. -/
def State.pop (s : State) (q : Nat) : Option Item × State :=
  let d := s.queue q
  if d.broken then (none, s)
  else match d.head? with
    | none => (none, s)
    | some i =>
      let d' := { d with items := removeFirst i.prio d.items }
      if i.kind = 6 then
        (d.gap.map Gap.item, (s.modQueue q (fun _ => { d' with gap := none })).count 11 1)
      else (some i, (s.modQueue q (fun _ => d')).count 11 1)

/-- An event, telemetry or fault item: TB3 count at offset 8; for events and faults TB0's at offset 16 (R290). -/
def State.eventItem (s : State) (code kind prio : Nat) (payload : List Byte) : Item :=
  { code := code, kind := kind, prio := prio, body := padTo 56 (le 8 s.t3ns ++ le 8 s.tb0Stamp ++ payload) }

/-- A module event of type e goes to its route's queue while the route is enabled (R290). -/
def State.event (s : State) (e : Nat) (payload : List Byte) : State :=
  if s.bit (F.Q_EVROUTE.EN e) then
    s.push (s.fget (F.Q_EVROUTE.QUEUE e)) (s.eventItem e 3 (s.fget (F.Q_EVROUTE.PRIO e)) payload)
  else s

/-- The tow space with this number. -/
def State.space (s : State) (p : Nat) : Option Space := spGet none s.tows.spaces p

/-- Change one tow space. -/
def State.modSpace (s : State) (p : Nat) (f : Space → Space) : State :=
  { s with tows := { s.tows with spaces := spMod none s.tows.spaces p (fun o => o.map f) } }

/-- A space event goes to the space's CQ at priority 4 (R290). -/
def State.spaceEvent (s : State) (p : Nat) (code : Nat) (payload : List Byte) : State :=
  match s.space p with
  | some sp => s.push sp.cq (s.eventItem code 3 4 payload)
  | none => s

/-! ## Commands and completions (R287, R288) -/

/-- Completion status (R287). -/
inductive Status where
  | done | refused | failed | already | malformed | unknownOp
deriving DecidableEq, Repr

/-- The code of a completion status (R287). -/
def Status.code : Status → Nat
  | .done => 0 | .refused => 1 | .failed => 2 | .already => 3 | .malformed => 4 | .unknownOp => 5

/-- General reasons (R287), with ROLE (R81). -/
inductive Reason where
  | none | role | unknown | state | resource | inProgress | locked | auth | range | class | poison | length | reserved
  | source | takeover | grant | proof | flash
deriving DecidableEq, Repr

/-- The code of a general reason (R287). -/
def Reason.code : Reason → Nat
  | .none => 0 | .role => 0x0C | .unknown => 0x40 | .state => 0x41 | .resource => 0x42 | .inProgress => 0x43
  | .locked => 0x44 | .auth => 0x45 | .range => 0x46 | .class => 0x47 | .poison => 0x48 | .length => 0x49
  | .reserved => 0x4A | .source => 0x4B | .takeover => 0x4C | .grant => 0x4D | .proof => 0x4E | .flash => 0x4F

/-- The completion queue of a command (R287): CQ of its queue, or for a policy ring that of the policy space. -/
def State.cqOf (s : State) (src : Src) : Nat :=
  if src.queue = 0xFFFF then
    (match s.space (s.fget F.AUC_CTRL.POLICY_SPACE) with | some sp => sp.cq | none => 0)
  else (s.queue src.queue).cq

/-- Cells reserved for a command's completion (R287). -/
def State.reservedFor (s : State) (src : Src) : Nat :=
  match s.link.resv.find? (fun p => p.1 = src) with | some p => p.2 | none => 0

/-- Give back a command's reservations: of its completion cells, and of the end event's cell of a TOW_SUBMIT refused. -/
def State.unreserve (s : State) (src : Src) : State :=
  let n := s.reservedFor src
  let ends := s.link.endResv.filter (fun p => p.1 = src)
  let s := ends.foldl (fun s p => s.modQueue p.2 (fun q => { q with reserved := q.reserved - 1 })) s
  let s := { s with link := { s.link with endResv := s.link.endResv.filter (fun p => p.1 ≠ src) } }
  let s := { s with link := { s.link with resv := s.link.resv.filter (fun p => p.1 ≠ src) } }
  if n = 0 then s else s.modQueue (s.cqOf src) (fun q => { q with reserved := q.reserved - n })

/-- The completion item of a command (R287); further cells follow the first in a packet. -/
def completionItem (op : Nat) (src : Src) (st : Status) (reason detail : Nat) (result cells : List Byte) : Item :=
  { code := op, kind := 2, prio := src.prio, len := 1 + (cells.length + 63) / 64,
    body := le 8 src.tag ++ le 1 st.code ++ le 1 reason ++ le 2 src.queue ++ le 4 detail ++ padTo 40 result ++
            padTo ((cells.length + 63) / 64 * 64) cells }

/-- Complete a command (R287, R288): its completion takes the cells reserved for it and is never dropped; that of a command
taken before an F reset is discarded (R325). -/
def State.complete (s : State) (op : Nat) (src : Src) (st : Status) (reason : Nat := 0) (detail : Nat := 0)
    (result : List Byte := []) (cells : List Byte := []) : State :=
  let cq := s.cqOf src
  let s := s.unreserve src
  let s := if st = .refused then s.count 11 8 else s
  let s := if st = .refused ∨ st = .malformed ∨ st = .unknownOp then s.logEntry 1 9 .request .queue reason src.queue detail else s
  if s.link.flrDiscard.contains src then
    { s with link := { s.link with flrDiscard := s.link.flrDiscard.erase src } }
  else
    let d := s.queue cq
    if d.en && d.dir && !d.broken then
      (s.modQueue cq (fun d => d.link (completionItem op src st reason detail result cells))).count 11 0
    else s

/-- Refuse a command for a general reason. -/
def State.refuse (s : State) (op : Nat) (src : Src) (r : Reason) (detail : Nat := 0) : State :=
  s.complete op src .refused r.code detail

/-- Where a host command was taken from. -/
def srcOf : Instr → Option Src
  | .mapWrite src _ _ => some src
  | .mapRead src _ _ _ => some src
  | .mapCommit src => some src
  | .planSubmit src _ _ => some src
  | .planDrop src _ => some src
  | .lockSchedule src _ _ _ _ _ => some src
  | .lockAbort src _ => some src
  | .lockJoint src _ _ _ _ _ _ => some src
  | .setpointRoute src _ _ _ _ _ _ => some src
  | .identify src => some src
  | .statusSnapshot src => some src
  | .portStateGet src _ _ => some src
  | .portQuarantine src _ _ => some src
  | .portAcceptAsFound src _ => some src
  | .berthCheck src _ => some src
  | .spaceCreate src _ _ _ _ _ _ _ _ _ _ _ _ _ _ => some src
  | .spaceDestroy src _ => some src
  | .towSubmit src _ _ _ _ _ => some src
  | .towCancel src _ _ => some src
  | .faultResume src _ _ _ => some src
  | .timeAcceptJump src _ => some src
  | .timeSetGm src _ _ _ _ _ _ _ => some src
  | .pairHandover src _ _ => some src
  | .pairStatus src => some src
  | .cartSwap src _ _ => some src
  | .cartQuery src _ => some src
  | .powerCap src _ _ => some src
  | .rungSet src _ => some src
  | .poundReload src _ _ => some src
  | .imageStage src _ _ _ _ _ => some src
  | .imageActivate src _ => some src
  | .logFreeze src => some src
  | .logThaw src => some src
  | .logMark src _ _ => some src
  | .counterGrant src _ _ => some src
  | _ => none

/-- The command leaves the list of those taken and not yet handled. -/
def untake (src : Src) : List Instr → List Instr
  | [] => []
  | i :: is => if srcOf i = some src then is else i :: untake src is

/-- Two lists as one, without repeats. -/
def merge {α : Type} [BEq α] (a b : List α) : List α := a ++ b.filter (fun x => !a.contains x)

/-! ## The journal (R204) -/

/-- PAIR_CFG.EN as it is in force: a change takes effect at the next tick (R384). -/
def State.pairEn (s : State) : Bool := match s.pair.enOld with | some b => b | none => s.bit F.PAIR_CFG.EN

/-- A partner is attached: it has shown a state other than unknown, and pair operation is enabled (R204, R217). -/
def State.attached (s : State) : Bool :=
  s.pairEn && decide (s.fget F.PAIR_STATUS.PARTNER = 1 ∨ s.fget F.PAIR_STATUS.PARTNER = 2 ∨ s.fget F.PAIR_STATUS.PARTNER = 4)

/-- The image of a slot. -/
def State.imageOf (s : State) (slot : Nat) : Option Image := spGet none s.boot.slots slot

/-- The active image (R326, R337). -/
def State.image (s : State) : Option Image := s.imageOf (s.fget F.IMG_STATUS.ACTIVE)

/-- IMAGE_HASH of the active image. -/
def State.imageHash (s : State) : Nat := s.fget F.IMG_HASH.HASH + 2 ^ 32 * s.fget F.IMG_HASH.HASH_HI

/-- FW_VERSION of the active image (R327). -/
def State.fwVersion (s : State) : Nat := match s.image with | some i => i.fw | none => 0

/-- ROLE of the module, as its straps were sampled (R197, R365). -/
def State.role (s : State) : Nat := s.fget F.KEEL_STRAPS.ROLE

/-- The header of a frame of the present tick (R199, R200). Its first bit leaves at the tick (DEDUCED, log 72). -/
def State.frameHead (s : State) : FrameHeader :=
  { state := s.fget F.PAIR_STATUS.STATE, role := s.role, handoverReq := s.pair.parting, rung := s.rung, period := s.steer.period
    seq := s.steer.tick, epoch := s.fget F.PAIR_EPOCH.EPOCH, tTx := s.time.tb2Tick, tRxPeer := s.pair.rxAt, seqRxPeer := s.pair.rxSeq
    journalSeq := s.pair.journalSeq, imageHash := s.imageHash, fw := s.fwVersion, cycleId := s.runningId }

/-- The ACTIVE module sends a journal message to an attached partner and keeps it until it is acknowledged (R204). -/
def State.sendJournal (s : State) (it : JItem) : State :=
  if s.active && s.attached then
    let n := (s.pair.journalSeq + 1) % 2 ^ 32
    let m : JMsg := ⟨n, s.steer.tick, s.steer.tick, it⟩
    let s := { s with pair := { s.pair with journalSeq := n, journal := s.pair.journal ++ [m] } }
    (s.emit (.journal { s.frameHead with tTx := s.time.tb2.ns } m)).count 3 3
  else s

/-- Complete a command whose effect must reach the standby first (R204): with a STANDBY partner at the acknowledgement of the
last message, otherwise at once. -/
def State.completeCopied (s : State) (op : Nat) (src : Src) (detail : Nat := 0) (result : List Byte := []) : State :=
  if s.active && s.attached && decide (s.fget F.PAIR_STATUS.PARTNER = 2) && decide (s.pair.journal ≠ []) then
    { s with pair := { s.pair with waits := s.pair.waits ++ [⟨s.pair.journalSeq, s.steer.tick, src, op, detail, result⟩] } }
  else s.complete op src .done 0 detail result

/-! ## Ports and their checks (R248, R253, R289) -/

/-- The port with a plan-entry index. -/
def State.port (s : State) (p : Nat) : Port := spGet {} s.fabric.ports p

/-- Change one port. -/
def State.modPort (s : State) (p : Nat) (f : Port → Port) : State :=
  { s with fabric := { s.fabric with ports := spMod {} s.fabric.ports p f } }

/-- Opcode of BERTH_CHECK (R289). -/
def opBerthCheck : Nat := 0x33

/-- The BERTH_CHECK commands that wait for a port complete with its state and reason (R289). -/
def State.berthDone (s : State) (p : Nat) : State :=
  let x := s.port p
  let s := s.modPort p (fun x => { x with waiting := [] })
  x.waiting.foldl (fun s src => s.complete opBerthCheck src .done 0 0 (le 1 x.state ++ le 1 x.reason)) s

/-- A module that stops being ACTIVE ends its pass and every check without a verdict (R248, R253); the commands that wait complete
with the states as they stand (log 39). -/
def State.dropChecks (s : State) : State :=
  let due := (s.fabric.ports.filter (fun p => p.2.checking || decide (p.2.waiting ≠ []))).map (·.1)
  let s := { s with fabric := { s.fabric with pass := none } }
  due.foldl (fun s p => (s.modPort p (fun x => { x with checking := false, hellos := 0 })).berthDone p) s

/-- Opcodes a policy ring may carry: PLAN_SUBMIT, PLAN_DROP, LOCK_SCHEDULE, LOCK_ABORT (R177). -/
def policyOps : List Nat := [0x20, 0x21, 0x22, 0x23]

/-- Commands marked A in Table: Commands (R288, R289): refused with ROLE on a module that is not ACTIVE. -/
def activeOps : List Nat := [0x10, 0x12, 0x20, 0x21, 0x22, 0x23, 0x24, 0x31, 0x32, 0x33, 0x60, 0xC0]

/-- Commands the lockkeeper cores accept before READY (R314). -/
def bootOps : List Nat := [0x01, 0x02, 0x51, 0x52, 0x70, 0x90, 0xA0, 0xA1, 0xA2]

/-- Commands that need hardware L1 and L2 have gated (R305). -/
def wakeOps : List Nat := [0x12, 0x22, 0x24, 0x33, 0x42, 0x50, 0x71]

/-- The checks of R288, R314 and R305 that come before a command's own: its source, the module's role, READY, the rung. -/
def State.gate (s : State) (op : Nat) (src : Src) : Option Reason :=
  if src.queue = 0xFFFF && !policyOps.contains op then some .source
  else if activeOps.contains op && !s.active then some .role
  else if !s.ready && !bootOps.contains op then some .state
  else if wakeOps.contains op && decide (1 ≤ s.rung) then some .state
  else none

/-- The command needs the module on L0 and the module is on L1 or L2 (R305). -/
def State.gated (s : State) (op : Nat) : Bool := wakeOps.contains op && decide (1 ≤ s.rung)

/-- A lock command refused before its own checks (R81, R85): LOCK_LAST shows the reason; a schedule refused counts as such. -/
def State.lockGated (s : State) (op : Nat) (r : Reason) : State :=
  if r = .role ∧ (op = 0x22 ∨ op = 0x24) then
    (((s.fset F.LOCK_LAST.OUTCOME 4).fset F.LOCK_LAST.REASON r.code).fset F.LOCK_LAST.FAILED 0).count 2 5
  else if r = .role ∧ op = 0x23 then s.fset F.LOCK_LAST.REASON r.code
  else s

/-- Handle a host command (R288): with the lockkeeper cores down nothing is taken, and a command that must wake the module
waits for COMMAND_WAKE (R305); a gate that fails refuses it; otherwise the command's own checks and effect follow. -/
def State.handle (s : State) (op : Nat) (src : Src) (k : State → State) : State :=
  if !s.cores then s
  else if s.gated op && s.bit F.PWR_WAKE.CMD_EN then s
  else
    let s := ({ s with taken := untake src s.taken }).count 11 7
    match s.gate op src with
    | some r => (s.lockGated op r).refuse op src r
    | none => k s

/-! ## Byte memories (R20, R259) -/

/-- The bytes from address a on. -/
def memBytes (m : List Host.Cell) (a : Nat) : Nat → List Byte
  | 0 => []
  | n + 1 => spGet (0 : Byte) m a :: memBytes m (a + 1) n

/-- Store bytes from address a on. -/
def memPut (m : List Host.Cell) (a : Nat) : List Byte → List Host.Cell
  | [] => m
  | b :: bs => memPut (spSet (0 : Byte) m a b) (a + 1) bs

/-- The canonical form of a memory (log 2, log 6): addresses strictly rising, no zero byte listed. -/
def Memory.wf (m : List Host.Cell) : Bool := spWf (0 : Byte) 0 m

/-! ## Axes (R27, R35) -/

/-- The state of an axis. -/
def State.axis (s : State) (a : Nat) : Axis := spGet {} s.steer.axes a

/-- Change one axis. -/
def State.modAxis (s : State) (a : Nat) (f : Axis → Axis) : State :=
  { s with steer := { s.steer with axes := spMod {} s.steer.axes a f } }

/-- A field of an axis's AXIS_FLAGS word. -/
def Axis.fget (x : Axis) (f : Fld) : Nat := fldOf x.flags f

/-- Write a field of an axis's AXIS_FLAGS word. -/
def Axis.fset (x : Axis) (f : Fld) (v : Nat) : Axis := { x with flags := fldPut x.flags f v }

/-- The sticky bits [6:0] cleared: a held result carries only those its own tick sets (R9, R31). -/
def Axis.noSticky (x : Axis) : Axis := { x with flags := x.flags &&& ~~~0x7F }

/-- The sticky bits of an axis as it stands added to those a result has set (R9). -/
def Axis.addSticky (x old : Axis) : Axis := { x with flags := x.flags ||| (old.flags &&& 0x7F) }

/-- The state an axis has on this tick: its held result, or its stored state. -/
def State.axisNow (s : State) (a : Nat) : Axis :=
  match s.steer.held.find? (fun h => h.axis = a) with | some h => h.new.addSticky (s.axis a) | none => s.axis a

/-- Change an axis's held result, or its stored state where it has none. -/
def State.modNow (s : State) (a : Nat) (f : Axis → Axis) : State :=
  if s.steer.held.any (fun h => h.axis = a) then
    { s with steer := { s.steer with held := s.steer.held.map (fun (h : HeldResult) => if h.axis = a then { h with new := f h.new } else h) } }
  else s.modAxis a f

/-- Change an axis wherever this tick holds it: stored, held and as it was before the tick. -/
def State.modAll (s : State) (a : Nat) (f : Axis → Axis) : State :=
  let g := fun (h : HeldResult) => if h.axis = a then { h with new := f h.new } else h
  let s := { s with steer := { s.steer with held := s.steer.held.map g, undo := s.steer.undo.map g } }
  s.modAxis a f

/-- Software clears sticky bits of an axis (R9, R58): those that stand; a bit the present tick sets stays to be set. -/
def State.clearSticky (s : State) (a : Nat) (mask : Word) : State :=
  let f := fun (x : Axis) => { x with flags := x.flags &&& ~~~(mask &&& 0x7F) }
  let g := fun (h : HeldResult) => if h.axis = a then { h with new := f h.new } else h
  let s := { s with steer := { s.steer with undo := s.steer.undo.map g } }
  s.modAxis a f

end Sys2Proof.Machine
end

