-- ==== Sys2Proof/Machine/Frames.lean ====
section
/-!
DEFINITION. The bytes of the tether's frames (R35, R199, R200): the header, the REACH fields, the axis records in reach and slot order,
and CHECK. The order of the packed flags of an axis record is the model's (DESIGN CHOICE, log 72).
-/

namespace Sys2Proof.Machine

/-- The header of a tether frame (Table: Copy frame), 64 bytes: TYPE 0 COPY, 1 RETURN, 2 JOURNAL. REPAIR is 0 in other frames than
RETURN. -/
def headerBytes (type : Nat) (h : FrameHeader) : List Byte :=
  le 2 0x7E7A ++ le 1 type ++ le 1 1 ++ le 1 h.state ++ le 1 (h.role % 2 + 2 * h.handoverReq.toNat + 4 * (h.rung % 8)) ++ le 2 h.period ++
  le 4 h.seq ++ le 4 h.epoch ++ le 8 h.tTx ++ le 8 h.tRxPeer ++ le 4 h.seqRxPeer ++ le 4 h.journalSeq ++ le 8 h.imageHash ++ le 4 h.fw ++
  le 4 h.cycleId ++ (if type = 1 then le 4 h.repairSeq ++ le 1 h.repairMask ++ le 3 0 else le 8 0)

/-- The REACH field of a reach, 48 bytes: 16 class indices, LAW_BANK_SEL.ACTIVE, reserved. -/
def reachBytes (f : CopyFrame) (r : Nat) : List Byte :=
  (List.range 16).flatMap (fun c => le 2 (spGet 0 f.classK (16 * r + c))) ++ le 2 (spGet 0 f.active r) ++ le 14 0

/-- State, mode, region and sticky flags of a record in 16 bits. -/
def flagBits16 (r : AxisRec) : Nat := r.state % 8 + 8 * (r.mode % 4) + 32 * (r.region % 8) + 256 * (r.sticky % 128)

/-- An axis record (R35), 24 bytes: Table: Per-axis loop state in its order, then the repetitive sample. -/
def axisBytes (r : AxisRec) : List Byte :=
  le 5 r.i.toNat ++ le 4 r.d.toNat ++ le 2 r.ePrev.toNat ++ le 2 r.u.toNat ++ le 2 r.target.toNat ++ le 2 r.traj ++ le 2 r.offset.toNat ++
  le 2 (flagBits16 r) ++ le 1 r.loss ++ le 2 r.rep.toNat

/-- The record at a place of a copy frame. -/
def recordAt (f : CopyFrame) (p : Nat) : AxisRec :=
  match f.axes.find? (fun r => decide (r.place = p)) with | some r => r | none => { place := p }

/-- A copy frame without CHECK. -/
def copyBody (f : CopyFrame) : List Byte :=
  headerBytes 0 f.toFrameHeader ++ (List.range 8).flatMap (reachBytes f) ++ (List.range 4640).flatMap (fun p => axisBytes (recordAt f p)) ++
  le 12 0

/-- A copy frame on the tether (R199), 111,824 bytes. -/
def copyBytes (f : CopyFrame) : List Byte := copyBody f ++ le 4 (crc32c (copyBody f))

/-- A RETURN frame on the tether (R200), 68 bytes. -/
def returnBytes (f : ReturnFrame) : List Byte :=
  headerBytes 1 f.toFrameHeader ++ le 4 (crc32c (headerBytes 1 f.toFrameHeader))

end Sys2Proof.Machine
end

