-- ==== Sys2Proof/Machine/Flags.lean ====
section
/-!
DEFINITION. What reading and writing a register word does to its flags and fields by their access codes (R8, R9), and what a
reset or a rung leaves of them by their Keeps codes (R13, R14).
-/

namespace Sys2Proof.Machine

/-- The offset under which a word's field table stands: reach 0 of a STEER block, element 0 of an array (R386). -/
def normIn : List (Nat × Nat × Nat) → Nat → Nat
  | [], off => off
  | (first, n, stride) :: rest, off =>
    if first ≤ off ∧ off < first + n * stride then first + (off - first) % stride else normIn rest off

/-- The offset under which a word's field table stands. -/
def normOff (off : Nat) : Nat :=
  if 0x400000 ≤ off ∧ off < 0x490000 then
    let o := off % 0x10000
    if 0x2000 ≤ o ∧ o < 0x2910 then 0x402000 else 0x400000 + o
  else normIn registerArrays off

/-- A bank or schedule record word of a reach (R36–R39, R57). -/
def isRecord (off : Nat) : Bool :=
  decide (0x400000 ≤ off) && decide (off < 0x490000) && decide (0x1000 ≤ off % 0x10000) && decide (off % 0x10000 < 0x1C00)

/-- A word of the MSI-X table (R258). -/
def isMsix (off : Nat) : Bool := decide (0x1000000 ≤ off) && decide (off < 0x1008000)

/-- Look a field table up. -/
def rowsIn : List (Nat × List FieldRow) → Nat → List FieldRow
  | [], _ => []
  | (o, rs) :: rest, off => if o = off then rs else rowsIn rest off

/-- The field rows of the word at an offset; none for a reserved offset (R380). -/
def rowsOf (off : Nat) : List FieldRow :=
  if isRecord off then [⟨0, 32, .rw, 2, 2, true, 0⟩]
  else if isMsix off then (if off % 16 = 12 then [⟨0, 1, .rw, 0, 3, false, 1⟩] else [⟨0, 32, .rw, 0, 3, false, 0⟩])
  else if off = 0xF0007C then
    (rowsIn catalogue 0xF00040).map (fun r => if r.keepR = 1 then { r with keepR := 3, keepL := 5 } else r)
  else rowsIn catalogue (normOff off)

/-- The field a row names. -/
def FieldRow.fld (r : FieldRow) : Fld := ⟨0, r.lo, r.width⟩

/-- What a write of v leaves in one field (R8); a WO field holds nothing, an RWL field takes the value while unlocked. -/
def FieldRow.write (r : FieldRow) (unlocked : Bool) (v old : Word) : Word :=
  let new := fldOf v r.fld
  let cur := fldOf old r.fld
  match r.acc with
  | .ro => old
  | .rw => fldPut old r.fld new
  | .w1c => fldPut old r.fld (cur - (cur &&& new))
  | .w1s => fldPut old r.fld (cur ||| new)
  | .wo => old
  | .rwl => if unlocked then fldPut old r.fld new else old
  | .rc => old

/-- What a write of v leaves in a word (R8). -/
def writeWord (rows : List FieldRow) (unlocked : Bool) (v old : Word) : Word :=
  rows.foldl (fun w r => r.write unlocked v w) old

/-- What a read leaves in a word: RC fields clear (R8). -/
def readLeaves (rows : List FieldRow) (old : Word) : Word :=
  rows.foldl (fun w r => if r.acc = .rc then fldPut w r.fld 0 else w) old

/-- A field survives a reset of this kind taken at this rung (R13, R14): kind 1 F, 2 W, 3 C, 4 P. -/
def FieldRow.survives (r : FieldRow) (kind rung : Nat) : Bool :=
  (decide (kind ≤ r.keepR)) && decide (rung ≤ r.keepL)

/-- What a reset of a kind at a rung leaves of a word: each field that does not survive takes its reset value (R14). -/
def resetLeaves (rows : List FieldRow) (kind rung : Nat) (rst old : Word) : Word :=
  rows.foldl (fun w r => if r.survives kind rung then w else fldPut w r.fld (fldOf rst r.fld)) old

/-- What entry to a rung leaves of a word (R13). -/
def rungLeaves (rows : List FieldRow) (rung : Nat) (rst old : Word) : Word :=
  rows.foldl (fun w r => if rung ≤ r.keepL then w else fldPut w r.fld (fldOf rst r.fld)) old

/-- Apply a change to every listed register word, keeping the canonical form; words with no field table stay. -/
def mapWords (f : Nat → Word → Word) : Sparse Word → Sparse Word
  | [] => []
  | (k, v) :: m =>
    let w := f k v
    if w = resetWord k then mapWords f m else (k, w) :: mapWords f m

/-- The register words after a reset of a kind at a rung (R14). -/
def regsAfterReset (kind rung : Nat) (m : Sparse Word) : Sparse Word :=
  mapWords (fun k v => resetLeaves (rowsOf k) kind rung (resetWord k) v) m

/-- The register words after entry to a rung (R13). -/
def regsAfterRung (rung : Nat) (m : Sparse Word) : Sparse Word :=
  mapWords (fun k v => rungLeaves (rowsOf k) rung (resetWord k) v) m

/-- A word with the image values of its fields coded I that satisfy p (R14, R390). -/
def imageInto (rows : List FieldRow) (p : FieldRow → Bool) (img old : Word) : Word :=
  rows.foldl (fun w r => if r.img && p r then fldPut w r.fld (fldOf img r.fld) else w) old

end Sys2Proof.Machine
end

