-- ==== Sys2Proof/Machine/Retain.lean ====
section
/-!
DEFINITION. What survives a reset or a rung (R13, R14, R335): the register words by their Keeps codes, every other store by
the master table, the image values of lost fields (R390), and the choice of the boot slot (R333).
-/

namespace Sys2Proof.Machine

/-! ## Owners of image values (R390) -/

/-- Owner of the fields coded I of the word at an offset: pounds 0–14, 15 the keel, 16 the fixed blocks. -/
def ownerOf (off : Nat) : Nat :=
  let blk := off / 0x100000
  if blk = 4 then (off - 0x400000) / 0x10000
  else if blk = 7 ∧ off < 0x700010 then 9 + (off - 0x700000) / 4
  else if off = 0x800000 then 13
  else if blk = 6 then 14
  else if blk = 1 ∨ blk = 2 then 15
  else 16

/-- An AXIS_FLAGS word, held with its axis and not in the register file. -/
def isAxisFlags (off : Nat) : Bool :=
  decide (0x400000 ≤ off) && decide (off < 0x490000) && decide (0x2000 ≤ off % 0x10000) && decide (off % 0x10000 < 0x2910)

/-- Image values of the words this owner-test accepts, put into the register file for the fields p accepts. -/
def putImage (vals : List (Nat × Word)) (own : Nat → Bool) (p : FieldRow → Bool) (m : Sparse Word) : Sparse Word :=
  vals.foldl
    (fun m v => if own v.1 && !isAxisFlags v.1 then wordSet m v.1 (imageInto (rowsOf v.1) p v.2 (wordGet m v.1)) else m) m

/-- Register words that hold a record of the past, not a present condition: lost by the letter of their code — (log 15). -/
def pastWords : List Nat :=
  [0x400020, 0x50001C, 0x500020, 0x20001C, 0x700024, 0xD00000, 0xA00004, 0xA00008, 0xA0000C]

/-- A field that reports a present condition of something the event lets continue: read-only, coded — (log 15). What the keel
measures goes on through a W reset; a C or P reset begins it afresh. -/
def liveRow (kind off : Nat) (r : FieldRow) : Bool :=
  decide (r.acc = .ro) && decide (r.keepR = 0) && decide (r.keepL = 0) && !r.img && !pastWords.contains (normOff off) &&
  (decide (kind ≤ 1) ||
   (decide (kind = 2) && (decide (off / 0x100000 = 1) || (decide (0x600000 ≤ off) && decide (off < 0x60001C)))))

/-- A word after an event: a field that neither survives nor reports a present condition takes its reset value. Kind 0 is
entry to a rung, 1 F, 2 W, 3 C, 4 P. -/
def wordAfter (kind rung off : Nat) (old : Word) : Word :=
  (rowsOf off).foldl
    (fun w r => if r.survives kind rung || liveRow kind off r then w else fldPut w r.fld (fldOf (resetWord off) r.fld)) old

/-- The register file after an event (R14). -/
def regsAfter (kind rung : Nat) (m : Sparse Word) : Sparse Word := mapWords (wordAfter kind rung) m

/-! ## Stores (R335) -/

/-- A store coded with this reset part and rung part survives the event. -/
def keeps (kr kl kind rung : Nat) : Bool := decide (kind ≤ kr) && decide (rung ≤ kl)

/-- A store, kept or taken back to its reset value. -/
def keepOr {α : Type} (k : Bool) (x d : α) : α := if k then x else d

/-- An address lies in one of the regions. -/
def inRegions (rs : List (Nat × Nat)) (a : Nat) : Bool := rs.any (fun r => decide (r.1 ≤ a) && decide (a < r.1 + r.2))

/-- OUT_NOW, coded —, is lost with a W reset (R57). -/
def dropOutNow (m : Sparse Axis) : Sparse Axis :=
  m.filterMap (fun p =>
    let x := p.2.fset (F.AXIS_FLAGS.OUT_NOW 0 0) 0
    if x = {} then none else some (p.1, x))

/-- Steering state after an event: loop state, repetitive memory, class indices W/L2; work in progress only across F and L0–L2. -/
def Steer.after (x : Steer) (kind rung : Nat) : Steer :=
  let ctl := keeps 1 2 kind rung
  { axes := keepOr (keeps 2 2 kind rung) (if kind ≤ 1 then x.axes else dropOutNow x.axes) []
    rep := keepOr (keeps 2 2 kind rung) x.rep []
    classK := keepOr (keeps 2 2 kind rung) x.classK []
    axisMap := keepOr (keeps 2 2 kind rung) x.axisMap []
    held := keepOr ctl x.held []
    undo := keepOr ctl x.undo []
    lostA := keepOr ctl x.lostA 0
    lostB := keepOr ctl x.lostB 0
    judged := keepOr ctl x.judged [0, 1]
    clearPend := keepOr ctl x.clearPend []
    gangPend := keepOr ctl x.gangPend []
    relief := keepOr ctl x.relief none
    quads := keepOr ctl x.quads []
    tick := keepOr ctl x.tick 0
    ainAxis := keepOr ctl x.ainAxis none
    stepAxis := keepOr ctl x.stepAxis none
    stepCount := keepOr ctl x.stepCount 0
    stepSize := keepOr ctl x.stepSize 0
    ainGain := keepOr ctl x.ainGain 0
    ainShift := keepOr ctl x.ainShift 0
    period := x.period }

/-- Map state: working copy, journal and settle-model parameters W/L2; the master copy is flash. -/
def MapState.after (x : MapState) (kind rung : Nat) : MapState :=
  let k := keeps 2 2 kind rung
  { work := keepOr k x.work []
    journal := keepOr k x.journal []
    dirty := keepOr k x.dirty []
    master := x.master
    reloading := if k then x.reloading else true
    settle := keepOr k x.settle 0
    learned := keepOr (keeps 1 2 kind rung) x.learned []
    learnQueue := keepOr (keeps 1 2 kind rung) x.learnQueue [] }

/-- Lock state: cycles F/L2; library and standing paths W/L2. The cycles lost to a W or C reset are kept for R322. -/
def Lock.after (x : Lock) (kind rung tb0 : Nat) : Lock :=
  let f := keeps 1 2 kind rung
  let w := keeps 2 2 kind rung
  { cycles := keepOr f x.cycles []
    lastId := keepOr (keeps 3 4 kind rung) x.lastId 0
    seq := keepOr (keeps 3 4 kind rung) x.seq 0
    paths := keepOr w x.paths []
    bufs := keepOr f x.bufs []
    repeats := keepOr f x.repeats []
    proofs := keepOr f x.proofs []
    closedNow := keepOr f x.closedNow false
    discarded := if kind = 2 ∨ kind = 3 then (x.cycles.filter (fun c => !c.berth)).map (fun c => (c, tb0)) else
      keepOr (decide (kind ≤ 1)) x.discarded []
    parking := keepOr f x.parking []
    lib := if w then (if f then x.lib else
        x.lib.map (fun p => (p.1, if p.2.state = 2 then { p.2 with state := 1 } else p.2))) else []
    lastPlan := keepOr (keeps 3 4 kind rung) x.lastPlan 0 }

/-- Fabric state: ports and live plan W/L2. -/
def Fabric.after (x : Fabric) (kind rung : Nat) : Fabric :=
  let w := keeps 2 2 kind rung
  { ports := keepOr w x.ports []
    plan := keepOr w x.plan []
    refresh := keepOr w x.refresh 3600
    pass := keepOr (keeps 1 2 kind rung) x.pass none
    berths := keepOr (keeps 1 2 kind rung) x.berths []
    nonce := x.nonce }

/-- Tow state: spaces, tows and sync counters —/L1; column repairs W/L4. -/
def TowSys.after (x : TowSys) (kind rung : Nat) : TowSys :=
  let t := keeps 0 1 kind rung
  { spaces := keepOr t x.spaces []
    tows := keepOr t x.tows []
    submitted := x.submitted
    starts := x.starts
    reqs := keepOr t x.reqs []
    waits := keepOr t x.waits []
    starved := keepOr (keeps 1 2 kind rung) x.starved []
    columns := keepOr (keeps 2 4 kind rung) x.columns []
    strikes := keepOr (keeps 1 2 kind rung) x.strikes []
    exhausted := keepOr (keeps 1 2 kind rung) x.exhausted []
    currentHalt := keepOr (keeps 1 2 kind rung) x.currentHalt []
    inputHalt := x.inputHalt
    throttled := keepOr (keeps 1 2 kind rung) x.throttled none
    selfTestDue := if keeps 2 4 kind rung then x.selfTestDue else true
    past := keepOr t x.past []
    waves := keepOr (keeps 1 2 kind rung) x.waves [] }

/-- Memories: stacks and basin keep regions W/L2, the rest of the basin W/L1, repairs W/L4. -/
def Mem.after (x : Mem) (kind rung : Nat) (keep : List (Nat × Nat)) : Mem :=
  { basin := if keeps 2 1 kind rung then x.basin
             else if keeps 2 2 kind rung then x.basin.filter (fun c => inRegions keep c.1) else []
    stack := keepOr (keeps 2 2 kind rung) x.stack []
    poison := x.poison.filter (fun p =>
      if p.1 = 1 then keeps 2 2 kind rung else keeps 2 1 kind rung || (keeps 2 2 kind rung && inRegions keep (8 * p.2)))
    rowErrs := keepOr (keeps 2 4 kind rung) x.rowErrs []
    rows := keepOr (keeps 2 4 kind rung) x.rows []
    channels := keepOr (keeps 2 4 kind rung) x.channels [] }

/-- A solve begun anew (R166, R171): no phase run, the matrix kept. -/
def Solve.anew (v : Solve) : Solve :=
  { v with prices := [], assign := [], eps := 0, phases := 0, best := none, status := none, certified := false }

/-- Auction units: feeds end with the tows' spaces (R121); entry to L1 abandons running solves, whose feeds come first again
(R171); strikes stay while powered. -/
def Auction.after (x : Auction) (kind rung : Nat) : Auction :=
  let on := x.solves.filterMap (fun p => p.2)
  let l1 := decide (kind = 0) && decide (rung = 1)
  let t := keeps 0 1 kind rung
  { feeds := if t then (if l1 then (on.filter (fun v => !v.taken)).map (fun v => v.feed) ++ x.feeds else x.feeds) else []
    outside := keepOr t x.outside []
    solves := keepOr (keeps 0 0 kind rung) x.solves []
    orders := x.orders
    orphans := if t then (if l1 then (on.filter (fun v => v.taken)).map Solve.anew ++ x.orphans else x.orphans) else []
    policyDue := keepOr t x.policyDue false
    strikes := keepOr (keeps 2 4 kind rung) x.strikes []
    retiring := keepOr (keeps 1 2 kind rung) x.retiring [] }

/-- Time: C/L5; a W or C reset restarts the PTP protocol state (R193). -/
def Time.after (x : Time) (kind : Nat) : Time :=
  if kind = 4 then {} else if kind = 2 ∨ kind = 3 then { x with rx := [] } else x

/-- The host link: queues and the pool —/L2; an F reset ends requests and empties the translation cache (R257, R324). -/
def Link.after (x : Link) (kind rung : Nat) (taken : List Src) : Link :=
  let q := keeps 0 2 kind rung
  let f := decide (kind = 0)
  { queues := keepOr q x.queues []
    served := keepOr q x.served 0
    cache := keepOr q x.cache []
    tables := keepOr q x.tables []
    hi := if f then x.hi else []
    lo := if f then x.lo else []
    busMaster := if f then x.busMaster else false
    d3hot := if f then x.d3hot else false
    perst := x.perst
    faulted := keepOr q x.faulted []
    msixPend := if f then x.msixPend else []
    resv := keepOr q x.resv []
    endResv := keepOr q x.endResv []
    flrDiscard := if kind = 1 then (x.flrDiscard ++ taken ++ x.resv.map (·.1)).dedup else keepOr f x.flrDiscard [] }

/-- Light: cartridges and mated connectors stay; ring sources W/L4; work in progress ends at W and below L2, but a migration that
has begun starts again from step 3 on the return (R238). -/
def Light.after (x : Light) (kind rung : Nat) : Light :=
  let w := keeps 2 4 kind rung
  let g := keeps 1 2 kind rung
  { carts := x.carts
    lanes := keepOr w x.lanes []
    buses := keepOr w x.buses []
    first := keepOr w x.first none
    second := keepOr w x.second none
    insertion :=
      if decide (kind = 0) && decide (3 ≤ rung) && decide (rung ≤ 4) then
        (match x.insertion with | some i => if 2 ≤ i.step then some { i with step := 2, cmd := none } else none | none => none)
      else keepOr g x.insertion none
    queued := keepOr g x.queued []
    beacon := keepOr (keeps 2 2 kind rung) x.beacon []
    loops := keepOr g x.loops []
    dac := keepOr g x.dac []
    spared := keepOr w x.spared []
    mated := x.mated
    move := keepOr g x.move none }

/-- Power: the keel goes on through W and C; the mooring record C/L4. -/
def Power.after (x : Power) (kind rung : Nat) : Power :=
  if kind = 4 then {}
  else
    let w := decide (kind ≤ 1)
    { goal := keepOr w x.goal 0
      moving := keepOr w x.moving false
      cmd := keepOr w x.cmd none
      since := x.since
      mooring := keepOr (keeps 3 4 kind rung) x.mooring none
      touchAlert := keepOr w x.touchAlert false
      phases := if kind ≤ 2 then x.phases else []
      coolSince := x.coolSince
      hotSince := keepOr w x.hotSince none
      railsOff := x.railsOff
      inputLow := x.inputLow
      overSince := keepOr w x.overSince none
      afterHeat := keepOr w x.afterHeat none
      capWaits := keepOr (keeps 1 2 kind rung) x.capWaits []
      capSteps := keepOr (keeps 1 2 kind rung) x.capSteps 0
      throttleSteps := keepOr (keeps 1 2 kind rung) x.throttleSteps 0
      energy := keepOr (keeps 1 2 kind rung) x.energy 0
      warm := x.warm
      outOfRange := x.outOfRange
      stackHeld := x.stackHeld
      coldSince := x.coldSince }

/-- The boot record as it comes back (R316): the keel-store copy after W and C; after P, or when the keel store was lost, the
flash copy without its cycles, its counters 65,536 on, skipping 0. -/
def BootRecord.fromFlash (r : BootRecord) : BootRecord :=
  let bump := fun n => let m := (n + 65536) % 2 ^ 32; if m < 65536 then m + 1 else m
  { r with cycles := [], lastId := bump r.lastId, lastPlan := bump r.lastPlan }

/-- Boot state: flash stays; the keel-store copy of the boot record C/L4. -/
def Boot.after (x : Boot) (kind rung : Nat) : Boot :=
  { record := if keeps 3 4 kind rung then x.record else x.flash.fromFlash
    flash := x.flash
    slots := x.slots
    bootSlot := x.bootSlot
    imageChanged := x.imageChanged
    resetLow := x.resetLow
    stopped := keepOr (decide (kind ≤ 1)) x.stopped false
    memoryDone := keepOr (keeps 2 2 kind rung) x.memoryDone false
    auditDone := keepOr (decide (kind ≤ 1)) x.auditDone false
    coresUp := keepOr (decide (kind ≤ 1)) x.coresUp false
    staging := keepOr (decide (kind ≤ 1)) x.staging none
    reload := keepOr (decide (kind ≤ 1)) x.reload none
    wp := x.wp
    since := x.since
    warm := keepOr (decide (kind ≤ 1)) x.warm false
    copied := keepOr (keeps 3 4 kind rung) x.copied none
    dumped := keepOr (decide (kind ≤ 1)) x.dumped false
    dumpNext := x.dumpNext }

/-- Logbook: W/L2; keel copy and LOG_HEAD C/L4; dump slots are flash. -/
def Logbook.after (x : Logbook) (kind rung : Nat) : Logbook :=
  let w := keeps 2 2 kind rung
  let c := keeps 3 4 kind rung
  { book := keepOr w x.book []
    keel := keepOr c x.keel []
    annex := keepOr w x.annex []
    head := keepOr c x.head 0
    frozen := keepOr w x.frozen false
    marks := keepOr w x.marks []
    dumps := x.dumps
    window := keepOr w x.window none }

/-- Reliability state: retired cores come back only at C and P (log 16). -/
def Ras.after (x : Ras) (kind rung : Nat) : Ras :=
  { cores := if kind ≤ 2 then x.cores else []
    inject := keepOr (keeps 0 0 kind rung) x.inject none
    marking := false
    exhausted := keepOr (keeps 2 4 kind rung) x.exhausted []
    hours := if kind ≤ 3 then x.hours else [] }

/-- The whole state after a reset of this kind taken at this rung, or with kind 0 after entry to this rung (R14, R335): each
piece survives or takes its reset value. Image values come after (R14). -/
def State.after (s : State) (kind rung : Nat) : State :=
  let keep := match s.image with | some i => i.keep | none => []
  { pending := s.pending
    taken := if kind ≤ 1 ∧ rung ≤ 2 then s.taken else []
    regs := regsAfter kind rung s.regs
    steer := s.steer.after kind rung
    map := s.map.after kind rung
    lock := s.lock.after kind rung s.time.tb0.fine
    fabric := s.fabric.after kind rung
    tows := s.tows.after kind rung
    mem := s.mem.after kind rung keep
    auction := s.auction.after kind rung
    time := s.time.after kind
    pair := if kind ≤ 1 then s.pair else {}
    light := s.light.after kind rung
    link := s.link.after kind rung (s.taken.filterMap srcOf)
    power := s.power.after kind rung
    boot := s.boot.after kind rung
    log := s.log.after kind rung
    ras := s.ras.after kind rung
    test := if kind = 4 then {} else s.test
    counters := keepOr (keeps 1 2 kind rung) s.counters []
    out := s.out
    free := s.free }

/-- The fields coded I that the event lost take their image values, where the owner is one the test accepts (R14, R390). -/
def State.reimage (s : State) (own : Nat → Bool) (p : FieldRow → Bool) : State :=
  match s.image with
  | some i => { s with regs := putImage i.vals (fun off => own (ownerOf off)) p s.regs }
  | none => s

/-- Image values of AXIS_FLAGS.CLASS of a reach (R57, R390), by axis slot; axes are found with the reach's placing. -/
def classImage (vals : List (Nat × Word)) (reach : Nat) : List (Nat × Nat) :=
  vals.filterMap (fun v =>
    if isAxisFlags v.1 && decide ((v.1 - 0x400000) / 0x10000 = reach) then
      some ((v.1 % 0x10000 - 0x2000) / 4, v.2.toNat / 2 ^ 28)
    else none)

/-- A mirrored setting (R205): of every reach the records, LAW_BANK_SEL, SCHED_CTRL, REP_CTRL, DITHER_CTRL, GANG_CTRL and
AXIS_FLAGS; LOCK_LIMITS, LOCK_CAPTURE, LOCK_PROVE, SLEW_BUDGET and TB_TICK. -/
def mirrored (off : Nat) : Bool :=
  isRecord off || isAxisFlags off ||
  (decide (0x400000 ≤ off) && decide (off < 0x490000) && [0x08, 0x0C, 0x10, 0x14, 0x18].contains (off % 0x10000)) ||
  [0x500008, 0x50000C, 0x500010, 0x500014, 0x500018, 0x200018].contains off

/-! ## Where an axis lies (R27) -/

/-- Reach and slot of an axis: 1,024 × reach + slot; by default axis a lies in reach a / 580 at slot a mod 580. -/
def State.placeOf (s : State) (a : Nat) : Nat :=
  match spGet 0 s.steer.axisMap a with | 0 => 1024 * (a / 580) + a % 580 | v + 1 => v

/-- The reach an axis belongs to. -/
def State.reachOf (s : State) (a : Nat) : Nat := s.placeOf a / 1024

/-- The slot an axis belongs to. -/
def State.slotOf (s : State) (a : Nat) : Nat := s.placeOf a % 1024

/-- The axis in a slot of reach 0–7. -/
def State.axisAt (s : State) (reach slot : Nat) : Option Nat :=
  match s.steer.axisMap.find? (fun p => p.2 = 1024 * reach + slot + 1) with
  | some p => some p.1
  | none =>
    let a := 580 * reach + slot
    if a < 4640 ∧ slot < 580 ∧ s.placeOf a = 1024 * reach + slot then some a else none

/-! ## Boot slot (R333) -/

/-- The keel accepts an image's signer (R330): Aethac's key for SIGNER 0; for 1–4 a key whose hash the owner slot holds. -/
def signerOk (i : Image) : Bool :=
  i.sigOk && (decide (i.signer = 0) || (decide (i.signer ≤ 4) && decide (i.ownerKey = Config.ownerSlot i.signer)))

/-- A slot whose image verifies: signature and digest (R330, R333). -/
def State.slotGood (s : State) (slot : Nat) : Bool :=
  match s.imageOf slot with | some i => i.headerOk && signerOk i && i.digestOk | none => false

/-- The slots tried at a reset, in order (R333). -/
def State.bootCandidates (s : State) : List Nat :=
  (if s.bit F.IMG_STATUS.AWAIT_RESET then [s.fget F.IMG_SLOT.NEXT] else []) ++
  [s.fget F.IMG_STATUS.ACTIVE, s.fget F.IMG_SLOT.PREVIOUS, 0]

/-- A slot is marked FAILED. -/
def State.slotFailed (s : State) (slot : Nat) : Bool := s.fget F.IMG_STATUS.FAILED / 2 ^ slot % 2 = 1

/-- Mark a slot FAILED; FALLBACK is set and a severity 6 entry is made (R333). -/
def State.failSlot (s : State) (slot : Nat) : State :=
  let s := s.fset F.IMG_STATUS.FAILED (s.fget F.IMG_STATUS.FAILED ||| 2 ^ slot)
  (s.sticky F.IMG_STATUS.FALLBACK (some 6)).logEntry 6 15 .component .module 0 slot

/-- The slot becomes active: PREVIOUS, IMAGE_HASH (R327, R332). -/
def State.activate (s : State) (slot : Nat) : State :=
  let old := s.fget F.IMG_STATUS.ACTIVE
  let hash := match s.imageOf slot with | some i => i.hash | none => 0
  let s := if slot = old then s else (s.fset F.IMG_SLOT.PREVIOUS old).fset F.IMG_STATUS.ACTIVE slot
  (s.fset F.IMG_HASH.HASH hash).fset F.IMG_HASH.HASH_HI (hash / 2 ^ 32)

/-- Try the candidates in turn (R333). -/
def tryBoot (s : State) : List Nat → State
  | [] => { s with boot := { s.boot with stopped := true } }
  | c :: cs =>
    if s.slotFailed c then tryBoot s cs
    else if s.slotGood c then
      let changed := decide (c ≠ s.fget F.IMG_STATUS.ACTIVE)
      let s := s.activate c
      { s with boot := { s.boot with bootSlot := c, imageChanged := changed } }
    else tryBoot (s.failSlot c) cs

/-- BOOT_SLOT_CHOICE (R333). -/
def State.chooseSlot (s : State) : State :=
  (tryBoot s s.bootCandidates).fset F.IMG_STATUS.AWAIT_RESET 0

end Sys2Proof.Machine
end

