-- ==== Sys2Proof/Machine/Map.lean ====
section
/-!
DEFINITION. The pointing map (R59–R64): entries and their check, temperature bins, reading with repair, and the commands that
write, read, commit, store and reload it.
-/

namespace Sys2Proof.Machine

/-! ## Entries (R59, R60) -/

/-- Index of the entry of A mirror a and B mirror b in bin t (R59). -/
def mapIndex (t a b : Nat) : Nat := t * 1345600 + a * 1160 + b

/-- Indices at or above this are reserved (R59). -/
def mapLimit : Nat := 16147200

/-- The 16 bytes of an entry. -/
def entryBytes (e : MapEntry) : List Byte := le 16 e.toNat

/-- OL field of an entry (R60): 0 AX, 1 AY, 2 BX, 3 BY. -/
def entryOl (e : MapEntry) (c : Nat) : Half := BitVec.ofNat 16 (e.toNat / 2 ^ (16 * c))

/-- TRIM of an entry in target LSBs: signed 8-bit × 64 (R60). -/
def entryTrim (e : MapEntry) (c : Nat) : Half := hcode (64 * toSigned 8 (e.toNat / 2 ^ (64 + 8 * c)))

/-- PROVE_REF (R60). -/
def entryProve (e : MapEntry) : Nat := e.toNat / 2 ^ 96 % 256

/-- VALID (R60). -/
def entryValid (e : MapEntry) : Bool := e.toNat / 2 ^ 104 % 2 = 1

/-- CHECK is the CRC-16/CCITT-FALSE of bytes 0x0–0xD (R60). -/
def entryCheck (e : MapEntry) : Bool := e.toNat / 2 ^ 112 = crc16 ((entryBytes e).take 14)

/-! ## Reading (R64) -/

/-- The committed entry at an index. -/
def State.mapWork (s : State) (i : Nat) : MapEntry := spGet 0 s.map.work i

/-- Read a committed entry (R64): a failing entry is replaced from the master copy, CHECK_ERR is set and a severity 5 entry is
made. The second part is whether the entry is usable: its check passes and VALID is set. -/
def State.mapRead (s : State) (i : Nat) : MapEntry × Bool × State :=
  let e := s.mapWork i
  if entryCheck e then (e, entryValid e, s)
  else
    let m := spGet 0 s.map.master i
    let s := ((s.sticky F.MAP_STATUS.CHECK_ERR none).logEntry 5 5 .data .memory 0 i).count 2 14
    if entryCheck m then (m, entryValid m, { s with map := { s.map with work := spSet 0 s.map.work i m } })
    else (e, false, s)

/-- Usable without the repair's side effects: what mapRead would find. -/
def State.mapUsable (s : State) (i : Nat) : Bool :=
  let e := s.mapWork i
  if entryCheck e then entryValid e
  else entryCheck (spGet 0 s.map.master i) && entryValid (spGet 0 s.map.master i)

/-- The entry mapRead would deliver. -/
def State.mapEntry (s : State) (i : Nat) : MapEntry :=
  if entryCheck (s.mapWork i) then s.mapWork i
  else if entryCheck (spGet 0 s.map.master i) then spGet 0 s.map.master i else s.mapWork i

/-- Temperature bin of a head (R61), as LOCK_STATUS shows it. -/
def State.bin (s : State) (head : Nat) : Nat :=
  if head = 0 then s.fget F.LOCK_STATUS.BIN_A else s.fget F.LOCK_STATUS.BIN_B

/-- Side, mirror and coordinate of an axis (R7). -/
def axisSide (a : Nat) : Nat := a / 2320
/-- Mirror 0–1,159 of an axis (R7). -/
def axisMirror (a : Nat) : Nat := a % 2320 / 2
/-- Coordinate of an axis: 0 x, 1 y (R7). -/
def axisCoord (a : Nat) : Nat := a % 2
/-- Axis of a mirror's coordinate (R7). -/
def axisOf (side m c : Nat) : Nat := side * 2320 + m * 2 + c

/-- The four axes of a path (R50): AX, AY, BX, BY. -/
def pathAxes (a b : Nat) : List Nat := [axisOf 0 a 0, axisOf 0 a 1, axisOf 1 b 0, axisOf 1 b 1]

/-- The index of the entry a head's axes read for a pair: in that head's bin (R61). -/
def State.pairIndex (s : State) (side a b : Nat) : Nat := mapIndex (s.bin side) a b

/-- Open-loop drive of an axis in the entry at an index (R48). -/
def State.olAt (s : State) (axis i : Nat) : Half := entryOl (s.mapEntry i) (2 * axisSide axis + axisCoord axis)

/-- TRIM of an axis in the entry at an index. -/
def State.trimAt (s : State) (axis i : Nat) : Half := entryTrim (s.mapEntry i) (2 * axisSide axis + axisCoord axis)

/-- Open-loop drive of an axis for a pair in the present bin (R48, R61). -/
def State.olDrive (s : State) (axis a b : Nat) : Half := s.olAt axis (s.pairIndex (axisSide axis) a b)

/-- Both bins' entries of a pair are usable. -/
def State.pairUsable (s : State) (a b : Nat) : Bool := s.mapUsable (s.pairIndex 0 a b) && s.mapUsable (s.pairIndex 1 a b)

/-- The entries a pair needs are read, with their repairs (R64). -/
def State.pairRead (s : State) (a b : Nat) : State :=
  (((s.mapRead (s.pairIndex 0 a b)).2.2).mapRead (s.pairIndex 1 a b)).2.2

/-- The index of the entry a cycle uses for a pair on a side: in the bin in force when its trajectory was computed (R61). -/
def State.cycleIndex (s : State) (c : Cycle) (side a b : Nat) : Nat :=
  match c.bins with
  | some p => mapIndex (if side = 0 then p.1 else p.2) a b
  | none => s.pairIndex side a b

/-- The entries a cycle uses for these pairs are read, with their repairs (R64). -/
def State.cycleRead (s : State) (c : Cycle) (l : List (Nat × Nat)) : State :=
  l.foldl (fun s p => (((s.mapRead (s.cycleIndex c 0 p.1 p.2)).2.2).mapRead (s.cycleIndex c 1 p.1 p.2)).2.2) s

/-- The standing path an axis's mirror belongs to (R50). -/
def State.pathOf (s : State) (axis : Nat) : Option Path :=
  s.lock.paths.find? (fun p => if axisSide axis = 0 then p.a = axisMirror axis else p.b = axisMirror axis)

/-- Mirror number 0–2,319 of an axis. -/
def mirrorOf (a : Nat) : Nat := axisSide a * 1160 + axisMirror a

/-- The path of a cycle an axis lies on. -/
def Cycle.pathOf (c : Cycle) (a : Nat) : Option CPath :=
  c.paths.find? (fun p => if axisSide a = 0 then p.a = axisMirror a else p.b = axisMirror a)

/-- The present pair of an axis's mirror: its path in the running cycle, or its standing path. -/
def State.pairOf (s : State) (a : Nat) : Option (Nat × Nat) :=
  match s.running.bind (fun c => c.pathOf a) with
  | some p => some (p.a, p.b)
  | none => (s.pathOf a).map (fun q => (q.a, q.b))

/-- An axis in open loop reads the entry of its present pair in the present bin again (R48); an unusable one leaves the drive as it
is (R64). -/
def State.rereadAxis (s : State) (a : Nat) : State :=
  let st := (s.axisNow a).fget (F.AXIS_FLAGS.STATE 0 0)
  if st = 4 ∨ st = 5 then
    match s.pairOf a with
    | some q =>
      let r := s.mapRead (s.pairIndex (axisSide a) q.1 q.2)
      if r.2.1 then
        let ol := entryOl r.1 (2 * axisSide a + axisCoord a)
        r.2.2.modAll a (fun x => { x with heldDrive := hcode (satI 16 (sval ol + sval x.offset)) })
      else r.2.2
    | none => s
  else s

/-! ## Bins (R61) -/

/-- The bin a temperature lies in, 0.1 °C. -/
def binOf (t : Int) : Nat := if t < 200 then 0 else if 700 ≤ t then 11 else ((t - 150) / 50).toNat

/-- The bin after a temperature report: it changes only past a boundary by more than 0.5 °C (R61). -/
def binNext (old : Nat) (t : Int) : Nat :=
  let up := binOf (t - 6)
  let dn := binOf (t + 5)
  if old < up then up else if dn < old then (if t + 5 = 150 + 50 * (old : Int) then old else dn) else old

/-- TEMPERATURE_BIN_CHANGE (R61): the head's telemetry moves its bin; open-loop axes of that head read their entry again
(R48). -/
def tempReport (head : Nat) (temp : Int) (s : State) : State :=
  let old := s.bin head
  let new := binNext old temp
  let s := if head = 0 then { s with pair := { s.pair with headA := { s.pair.headA with temp := temp } } }
           else { s with pair := { s.pair with headB := { s.pair.headB with temp := temp } } }
  if new = old then s
  else
    let s := if head = 0 then s.fset F.LOCK_STATUS.BIN_A new else s.fset F.LOCK_STATUS.BIN_B new
    s.steer.axes.foldl (fun s p => if axisSide p.1 = head then s.rereadAxis p.1 else s) s

/-- TEMPERATURE_BIN_CHANGE. -/
def execTemperatureBinChange (head : Nat) (temp : Int) (s : State) : Out := ifOk (okHead head) (tempReport head temp s)

/-! ## Commands (R62, R289) -/

/-- Entries of the journal. -/
def State.journalLen (s : State) : Nat := s.map.journal.length

/-- Indices a MAP_WRITE names. -/
def writeIndices (first : Nat) (entries : List MapEntry) : List (Nat × MapEntry) :=
  (List.range entries.length).zip entries |>.map (fun p => (first + p.1, p.2))

/-- The first entry whose CHECK fails. -/
def badEntry (l : List (Nat × MapEntry)) : Option Nat := (l.find? (fun p => !entryCheck p.2)).map (·.1)

/-- MAP_WRITE's own checks and effect (R62, R289). A journal entry of 16 zero bytes never occurs, since its CHECK fails. -/
def mapWriteBody (src : Src) (first : Nat) (entries : List MapEntry) (s : State) : State :=
  let l := writeIndices first entries
  if mapLimit < first + entries.length ∨ entries = [] ∨ 16380 < entries.length then s.refuse 0x10 src .range
  else match badEntry l with
  | some i => s.refuse 0x10 src .range i
  | none =>
    let j := l.foldl (fun j p => spSet 0 j p.1 p.2) s.map.journal
    if 65536 < j.length then s.refuse 0x10 src .resource
    else ({ s with map := { s.map with journal := j } }).complete 0x10 src .done 0 j.length

/-- MAP_WRITE. -/
def execMapWrite (src : Src) (first : Nat) (entries : List MapEntry) (s : State) : Out :=
  .next (s.handle 0x10 src (mapWriteBody src first entries))

/-- Read entries first, first + 1, … of the map, repairing as R64 says; journal entries where asked and present. -/
def readEntries (journal : Bool) (first : Nat) : Nat → State → List Byte × State
  | 0, s => ([], s)
  | n + 1, s =>
    let j := spGet 0 s.map.journal first
    let (e, s) := if journal && decide (j ≠ 0) then (j, s) else
      let (e, _, s) := s.mapRead first
      (e, s)
    let (bs, s) := readEntries journal (first + 1) n s
    (entryBytes e ++ bs, s)

/-- MAP_READ's own checks and effect (R62, R64). -/
def mapReadBody (src : Src) (first count : Nat) (journal : Bool) (s : State) : State :=
  if mapLimit < first + count ∨ count = 0 ∨ 1024 < count then s.refuse 0x11 src .range
  else
    let (bs, s) := readEntries journal first count s
    s.complete 0x11 src .done 0 0 [] bs

/-- MAP_READ. -/
def execMapRead (src : Src) (first count : Nat) (journal : Bool) (s : State) : Out :=
  .next (s.handle 0x11 src (mapReadBody src first count journal))

/-- Open-loop axes read their entry again at the first tick after a commit (R62): that tick sends the drive changed here. -/
def State.rereadOpenLoop (s : State) : State := s.steer.axes.foldl (fun s p => s.rereadAxis p.1) s

/-- MAP_COMMIT's own checks and effect (R62): every journal entry is applied whole, the journal empties, the entries wait for
module flash (R63) and are journalled to the standby (R204). COMMIT_BUSY stands while the command waits for the standby. -/
def mapCommitBody (src : Src) (s : State) : State :=
  if s.bit F.MAP_STATUS.COMMIT_BUSY then s.refuse 0x12 src .inProgress
  else
    let j := s.map.journal
    let work := j.foldl (fun w p => spSet 0 w p.1 p.2) s.map.work
    let dirty := j.foldl (fun d p => if d.contains p.1 then d else d ++ [p.1]) s.map.dirty
    let s := { s with map := { s.map with work := work, journal := [], dirty := dirty } }
    let s := j.foldl (fun s p => s.sendJournal (.mapEntry p.1 p.2)) s
    let s := (s.rereadOpenLoop).completeCopied 0x12 src j.length
    s.fset F.MAP_STATUS.COMMIT_BUSY (s.pair.waits.any (fun w => decide (w.op = 0x12))).toNat

/-- MAP_COMMIT; a module on L1 or L2 has been raised to L0 first (R305, COMMAND_WAKE). -/
def execMapCommit (src : Src) (s : State) : Out := .next (s.handle 0x12 src (mapCommitBody src))

/-- MAP_FLASH_WRITE (R63): the changed entries reach the master copy, and none is outstanding. -/
def mapFlash (s : State) : State :=
  let m := s.map.dirty.foldl (fun m i => spSet 0 m i (s.mapWork i)) s.map.master
  { s with map := { s.map with master := m, dirty := [] } }

/-- MAP_FLASH_WRITE. -/
def execMapFlashWrite (s : State) : Out := .next (mapFlash s)

/-- MAP_RELOAD (R63, R304): the working copy takes the master copy and LOCK_SCHEDULE is no longer refused with MAP for it. -/
def mapReload (s : State) : State := { s with map := { s.map with work := s.map.master, reloading := false } }

/-- MAP_RELOAD. -/
def execMapReload (s : State) : Out := .next (mapReload s)

end Sys2Proof.Machine
end

