-- ==== Sys2Proof/Machine/Motion.lean ====
section
/-!
DEFINITION. The trajectory limiter (R77), the fallback profile (R75) and the forming of waves (R78).
-/

namespace Sys2Proof.Machine

/-! ## The limiter (R77) -/

/-- Bounds of the limiter per tick, in 2^-16 LSB: velocity, acceleration, jerk. -/
structure Bounds where
  v : Int
  a : Int
  j : Int
deriving DecidableEq, Repr

/-- A limiter's position, velocity and acceleration, in 2^-16 LSB per tick. -/
structure Motion where
  pos : Int
  vel : Int
  acc : Int
deriving DecidableEq, Repr

/-- A bound that would round to 0 acts as 2^-16 LSB (R77). -/
def atLeastOne (n : Nat) : Int := if n = 0 then 1 else Int.ofNat n

/-- vmax, amax and jmax of R77 from a head descriptor, the sample period in counts of 2 ns and the scales of LOCK_LIMITS. -/
def boundsOf (d : HeadDesc) (period vs as js : Nat) : Bounds :=
  let ns := 2 * period
  { v := atLeastOne (d.vmax * ns * (vs + 1) * 65536 / (256 * 10 ^ 9))
    a := atLeastOne (d.amax * ns ^ 2 * (as + 1) * 65536 / (256 * 10 ^ 18))
    j := atLeastOne (d.jmax * ns ^ 3 * (js + 1) * 65536 / (256 * 10 ^ 27)) }

/-- Velocity lost while a deceleration of magnitude x is ramped back to 0 at jerk j. -/
def rampLoss (j x : Int) : Int :=
  let m := x / j
  m * x - j * (m * (m + 1)) / 2

/-- The velocity stays non-negative if this acceleration is taken now and ramped back to 0. -/
def noReverse (b : Bounds) (v a : Int) : Bool :=
  let v' := v + a
  decide (0 ≤ (if a < 0 then v' - rampLoss b.j (-a) else v'))

/-- The least value in lo..hi that p accepts, p being false below and true above; hi where none is accepted. -/
def leastTrue (p : Int → Bool) : Nat → Int → Int → Int
  | 0, _, hi => hi
  | n + 1, lo, hi =>
    if hi ≤ lo then hi
    else
      let mid := (lo + hi) / 2
      if p mid then leastTrue p n lo mid else leastTrue p n (mid + 1) hi

/-- The hardest braking acceleration from velocity v > 0 and acceleration a that does not reverse the motion. -/
def brakeAcc (b : Bounds) (v a : Int) : Int :=
  let lo := max (a - b.j) (-b.a)
  let hi := a + b.j
  if noReverse b v lo then lo else leastTrue (noReverse b v) 64 lo hi

/-- Where a motion forward comes to rest under the hardest braking, within a number of ticks. -/
def brakeEnd (b : Bounds) : Nat → Int → Int → Int → Int
  | 0, p, _, _ => p
  | n + 1, p, v, a =>
    if v < 0 ∨ (v = 0 ∧ a ≤ 0) then p
    else
      let a' := brakeAcc b v a
      brakeEnd b n (p + v + a') (v + a') a'

/-- The acceleration of the fastest stop from a velocity and an acceleration of either sign; 0 at rest. -/
def stopAcc (b : Bounds) (v a : Int) : Int :=
  if 0 < v ∨ (v = 0 ∧ 0 < a) then brakeAcc b v a
  else if v < 0 ∨ a < 0 then -(brakeAcc b (-v) (-a))
  else 0

/-- Taking acceleration a now keeps the velocity within its bound, on this tick and while a is ramped back to 0 (R77). -/
def speedOk (b : Bounds) (v a : Int) : Bool :=
  decide ((v + a).natAbs ≤ b.v.natAbs) &&
  decide ((if 0 ≤ a then v + a + rampLoss b.j a else v + a - rampLoss b.j (-a)).natAbs ≤ b.v.natAbs)

/-- Taking acceleration a now still lets the motion come to rest without passing the final target F (R77). -/
def canRest (b : Bounds) (m : Motion) (F a : Int) : Bool :=
  let v := m.vel + a
  let p := m.pos + v
  if v = 0 ∧ a.natAbs ≤ b.j.natAbs then true
  else if 0 < v ∨ (v = 0 ∧ 0 < a) then decide (brakeEnd b 4096 p v a ≤ F)
  else decide (F ≤ -(brakeEnd b 4096 (-p) (-v) (-a)))

/-- The value nearest bad that p accepts, between good, which it accepts, and bad, which it does not. -/
def nearest (p : Int → Bool) : Nat → Int → Int → Int
  | 0, good, _ => good
  | n + 1, good, bad =>
    if (good - bad).natAbs ≤ 1 then good
    else
      let mid := (good + bad) / 2
      if p mid then nearest p n mid bad else nearest p n good mid

/-- One tick of the limiter toward the commanded position C with final target F (R77): the acceleration that reaches C, cut to the
bounds, and moved toward that of the fastest stop as little as it needs so that the motion stays within its limits and can still rest
at F (log 10). -/
def limStep (b : Bounds) (m : Motion) (C F : Int) : Motion :=
  let a0 := clampI (max (m.acc - b.j) (-b.a)) (min (m.acc + b.j) b.a) (C - m.pos - m.vel)
  let ok := fun a => speedOk b m.vel a && canRest b m F a
  let a := if ok a0 then a0 else nearest ok 64 (stopAcc b m.vel m.acc) a0
  ⟨m.pos + m.vel + a, m.vel + a, a⟩

/-- Output code of a limiter position: rounded half up to the drive LSB (R77). -/
def Motion.code (m : Motion) : Int := (m.pos + 32768) / 65536

/-- Motion at rest on a code. -/
def Motion.rest (c : Int) : Motion := ⟨c * 65536, 0, 0⟩

/-- At rest on a code: no velocity, and an acceleration that the jerk bound lets end on the next tick. -/
def Motion.at (m : Motion) (b : Bounds) (c : Int) : Bool :=
  decide (m.code = c) && decide (m.vel = 0) && decide (m.acc.natAbs ≤ b.j.natAbs)

/-- ff of R75: the planned change of drive times the fraction of the move completed, rounded half up. -/
def ffOf (olStart olEnd start final pos : Int) : Int :=
  let d := final * 65536 - start * 65536
  let n := (olEnd - olStart) * (pos - start * 65536)
  if d = 0 then olEnd - olStart
  else if 0 < d then (2 * n + d) / (2 * d) else (-2 * n - d) / (-2 * d)

/-! ## Profiles (R75) -/

/-- Codes of a rest-to-rest move under the bounds, tick by tick, until it rests on the end or the ticks run out (R75). -/
def profile (b : Bounds) (final : Int) : Nat → Motion → List Int
  | 0, _ => []
  | n + 1, m =>
    let m' := limStep b m (final * 65536) (final * 65536)
    if m'.at b final then [m'.code] else m'.code :: profile b final n m'

/-- Largest second difference of a sequence of codes that begins and ends at rest. -/
def peakAcc (start : Int) (codes : List Int) : Nat :=
  let cs := start :: start :: codes
  ((cs.zip (cs.drop 1)).zip (cs.drop 2)).foldl (fun m t => max m (t.2 - 2 * t.1.2 + t.1.1).natAbs) 0

/-- A moving axis as the trajectory computation sees it. -/
structure Mover where
  axis : Nat
  start : Int
  final : Int
  olStart : Int
  olEnd : Int
  park : Bool
  /-- Planned codes, tick by tick, before any scaling of R78 step 4; at most 128 (R73). -/
  plan : List Int
deriving DecidableEq, Repr

/-- An item of R78: a changing path or a released mirror, its A and B port numbers for ties, and its moving axes. -/
structure WaveItem where
  portA : Nat
  portB : Nat
  movers : List Mover
deriving DecidableEq, Repr

/-- Longest axis move of an item. -/
def WaveItem.longest (w : WaveItem) : Nat := w.movers.foldl (fun m x => max m (x.final - x.start).natAbs) 0

/-- The order of R78 step 2: longest move first, ties by A port number, then B port number. -/
def WaveItem.before (x y : WaveItem) : Bool :=
  decide (y.longest < x.longest) ||
  (decide (y.longest = x.longest) && (decide (x.portA < y.portA) || (decide (x.portA = y.portA) && decide (x.portB < y.portB))))

/-- Insert an item in order. -/
def insertItem (w : WaveItem) : List WaveItem → List WaveItem
  | [] => [w]
  | x :: xs => if w.before x then w :: x :: xs else x :: insertItem w xs

/-- Sort items in the order of R78. -/
def sortItems (l : List WaveItem) : List WaveItem := l.foldl (fun acc w => insertItem w acc) []

/-- What the computation needs of each head: bounds, current coefficient and slew budget (R77, R78). -/
structure HeadPlan where
  b : Bounds
  coef : Nat
  budget : Nat
deriving DecidableEq, Repr

/-- Peak amplifier current of a mover (R78 step 1). -/
def Mover.peak (m : Mover) (h : HeadPlan) : Nat := peakAcc m.start m.plan * h.coef

/-- Peak sum of an item on a head. -/
def WaveItem.peakOn (w : WaveItem) (side : Nat) (h : HeadPlan) : Nat :=
  (w.movers.filter (fun m => axisSide m.axis = side)).foldl (fun n m => n + m.peak h) 0

/-- Place the items in wave 1 or wave 2 (R78 step 3): sums so far on heads A and B, the two waves. -/
def placeItems (hA hB : HeadPlan) : List WaveItem → Nat → Nat → Bool → List WaveItem × List WaveItem
  | [], _, _, _ => ([], [])
  | w :: ws, sA, sB, first =>
    let pA := w.peakOn 0 hA
    let pB := w.peakOn 1 hB
    let okA := decide (pA = 0) || decide (sA + pA ≤ hA.budget)
    let okB := decide (pB = 0) || decide (sB + pB ≤ hB.budget)
    if first || (okA && okB) then
      let r := placeItems hA hB ws (sA + pA) (sB + pB) false
      (w :: r.1, r.2)
    else
      let r := placeItems hA hB ws sA sB false
      (r.1, w :: r.2)

/-- Bounds of a wave on a head after R78 step 4: acceleration and jerk scaled by budget ÷ sum where the sum exceeds it. -/
def scaleFor (h : HeadPlan) (sum : Nat) : Bounds :=
  if sum ≤ h.budget ∨ sum = 0 then h.b
  else { h.b with a := atLeastOne (h.b.a.toNat * h.budget / sum), j := atLeastOne (h.b.j.toNat * h.budget / sum) }

/-- Peak sum of a wave on a head. -/
def wavePeak (ws : List WaveItem) (side : Nat) (h : HeadPlan) : Nat := ws.foldl (fun n w => n + w.peakOn side h) 0

/-- The trajectory buffer of a mover in a wave (R73, R75). -/
def Mover.buffer (m : Mover) (b : Bounds) (start : Nat) (wave2 : Bool) (model : Nat) : TrajBuf :=
  let cs := profile b m.final 128 (Motion.rest m.start)
  { axis := m.axis, start := start, wave2 := wave2, park := m.park, fallback := true, final := hcode m.final, model := model,
    samples := cs.map (fun c => (hcode c, hcode (satI 16 (ffOf m.olStart m.olEnd m.start m.final (c * 65536))))) }

/-- Instantaneous current of a set of code sequences at a tick, on one head: each a start tick, a start code and codes. -/
def currentAt (coef : Nat) (l : List (Nat × Int × List Int)) (t : Nat) : Nat :=
  l.foldl (fun n x =>
    let cs := x.2.1 :: x.2.1 :: x.2.2
    if t < x.1 then n
    else match cs.drop (t - x.1) with
      | c0 :: c1 :: c2 :: _ => n + (c2 - 2 * c1 + c0).natAbs * coef
      | _ => n) 0

/-- A wave's moves on one head: the tick from the wave's start at which each begins, its start code, its codes. -/
abbrev WaveSeqs := List (Nat × Int × List Int)

/-- A wave's moves when it starts at a tick. -/
def startAt (t : Nat) (l : WaveSeqs) : WaveSeqs := l.map (fun p => (t + p.1, p.2))

/-- Ticks from a wave's start to its last sample. -/
def lastTickOf (l : WaveSeqs) : Nat := l.foldl (fun n x => max n (x.1 + x.2.2.length)) 0

/-- The earliest start of wave 2 from which both waves fit the budgets at every later tick (R78 step 5); no later than the tick
after wave 1's last sample. -/
def wave2Start (hA hB : HeadPlan) (w1A w1B w2A w2B : WaveSeqs) (last : Nat) : Nat → Nat
  | 0 => last
  | n + 1 =>
    let t0 := last - (n + 1)
    let fits := fun (h : HeadPlan) (x y : WaveSeqs) =>
      (List.range (last + max (lastTickOf w2A) (lastTickOf w2B) - t0)).all (fun k =>
        decide (currentAt h.coef x (t0 + k) + currentAt h.coef (startAt t0 y) (t0 + k) ≤ h.budget))
    if fits hA w1A w2A && fits hB w1B w2B then t0 else wave2Start hA hB w1A w1B w2A w2B last n

/-- The moves of a wave's items on a head, all from the wave's start. -/
def seqsOf (codes : Mover → List Int) (ws : List WaveItem) (side : Nat) : WaveSeqs :=
  (ws.flatMap (·.movers)).filterMap (fun m => if axisSide m.axis = side then some (0, m.start, codes m) else none)

/-- What a fallback computation yields: the buffers, whether there are two waves, the start tick of wave 2, whether a wave was scaled
or a move does not fit in 128 samples (R79), the bounds of each wave on each head, and the ticks the plan takes unscaled. -/
structure FallbackPlan where
  bufs : List TrajBuf
  two : Bool
  start2 : Nat
  limited : Bool
  waves : List (Int × Int)
  planEnd : Nat
deriving DecidableEq, Repr

/-- The fallback profile of a cycle (R75, R78). -/
def fallbackPlan (hA hB : HeadPlan) (items : List WaveItem) (model : Nat) : FallbackPlan :=
  let (w1, w2) := placeItems hA hB (sortItems items) 0 0 true
  let bAt := fun (ws : List WaveItem) (side : Nat) =>
    if side = 0 then scaleFor hA (wavePeak ws 0 hA) else scaleFor hB (wavePeak ws 1 hB)
  let seqs := fun (ws : List WaveItem) (side : Nat) =>
    seqsOf (fun m => profile (bAt ws side) m.final 128 (Motion.rest m.start)) ws side
  let plain := fun (ws : List WaveItem) => max (lastTickOf (seqsOf (·.plan) ws 0)) (lastTickOf (seqsOf (·.plan) ws 1))
  let w1A := seqs w1 0
  let w1B := seqs w1 1
  let last := lastTickOf (w1A ++ w1B)
  let t2 := if w2 = [] then 0 else wave2Start hA hB w1A w1B (seqs w2 0) (seqs w2 1) last last
  let bufs :=
    (w1.flatMap (·.movers)).map (fun m => m.buffer (bAt w1 (axisSide m.axis)) 0 false model) ++
    (w2.flatMap (·.movers)).map (fun m => m.buffer (bAt w2 (axisSide m.axis)) t2 true model)
  { bufs := bufs, two := decide (w2 ≠ []), start2 := t2
    limited := decide (bAt w1 0 ≠ hA.b) || decide (bAt w1 1 ≠ hB.b) || (decide (w2 ≠ []) && (decide (bAt w2 0 ≠ hA.b) || decide (bAt w2 1 ≠ hB.b))) ||
      bufs.any (fun t => decide ((t.samples.getLast?.map (·.1)) ≠ some t.final))
    waves := [bAt w1 0, bAt w1 1, bAt w2 0, bAt w2 1].map (fun b => (b.a, b.j))
    planEnd := max (plain w1) (if w2 = [] then 0 else t2 + plain w2) }

/-! ## The settle-model tow's waves (R72, R73, R78) -/

/-- The buffer a tow has written for a mover. -/
def Mover.buf (m : Mover) (bufs : List TrajBuf) : Option TrajBuf := bufs.find? (fun t => decide (t.axis = m.axis))

/-- An item as the tow has planned it: the codes of its axes' buffers. -/
def WaveItem.asWritten (bufs : List TrajBuf) (w : WaveItem) : WaveItem :=
  { w with movers := w.movers.map (fun m => { m with plan := match m.buf bufs with | some t => t.samples.map (fun p => sval p.1) | none => [] }) }

/-- A buffer is whole (R73): 1–128 samples, FINAL as the cycle has it, and the last target is FINAL where the move fits. -/
def bufWhole (t : TrajBuf) (m : Mover) : Bool :=
  decide (t.samples ≠ []) && decide (t.samples.length ≤ 128) && decide (sval t.final = m.final) &&
  (decide (t.samples.length = 128) || decide (t.samples.getLast?.map (·.1) = some t.final))

/-- Every axis of an item has a whole buffer in this wave. -/
def WaveItem.inWave (bufs : List TrajBuf) (two : Bool) (w : WaveItem) : Bool :=
  w.movers.all (fun m => match m.buf bufs with | some t => bufWhole t m && decide (t.wave2 = two) | none => false)

/-- The moves of a wave on a head as a tow has written them, from this tick of SLEW on. -/
def writtenSeqs (bufs : List TrajBuf) (from_ : Nat) (ws : List WaveItem) (side : Nat) : WaveSeqs :=
  (ws.flatMap (·.movers)).filterMap (fun m =>
    if axisSide m.axis = side then (m.buf bufs).map (fun t => (t.start - from_, m.start, m.plan)) else none)

/-- First tick of wave 2 of a tow's buffers. -/
def firstOf2 (bufs : List TrajBuf) : Nat :=
  let l := bufs.filter (fun t => t.wave2)
  l.foldl (fun n t => min n t.start) ((l.head?.map (·.start)).getD 0)

/-- The rules that bind any trajectory computation hold of a tow's buffers (R72, R73, R78): every moving axis has one, items are placed
in the order and by the sums of step 3 (where no wave was scaled, the placement is exact), each wave fits the budgets, and wave 2 starts
at the earliest tick. -/
def towWaves (hA hB : HeadPlan) (items : List WaveItem) (bufs : List TrajBuf) (scaled : Bool) : Bool :=
  let ws := sortItems (items.map (WaveItem.asWritten bufs))
  let w1 := ws.filter (WaveItem.inWave bufs false)
  let w2 := ws.filter (WaveItem.inWave bufs true)
  let t2 := firstOf2 bufs
  let s1 := writtenSeqs bufs 0 w1
  let s2 := writtenSeqs bufs t2 w2
  let last := max (lastTickOf (s1 0)) (lastTickOf (s1 1))
  let fits := fun (l : List WaveItem) => decide (wavePeak l 0 hA ≤ hA.budget) && decide (wavePeak l 1 hB ≤ hB.budget)
  decide (w1.length + w2.length = ws.length) && fits w1 && fits w2 &&
  (scaled || decide (placeItems hA hB ws 0 0 true = (w1, w2))) &&
  (decide (w2 = []) || decide (wave2Start hA hB (s1 0) (s1 1) (s2 0) (s2 1) last last = t2))

/-! ## An axis's bounds -/

/-- The descriptor of the head an axis lies on. -/
def State.descOf (s : State) (side : Nat) : HeadDesc :=
  match (if side = 0 then s.pair.headA.desc else s.pair.headB.desc) with
  | some d => d
  | none => ⟨side, 0, 0, 0, 0, 0, 0, 0⟩

/-- Limiter bounds of an axis (R77). -/
def State.bounds (s : State) (side : Nat) : Bounds :=
  boundsOf (s.descOf side) s.steer.period (s.fget F.LOCK_LIMITS.V_SCALE) (s.fget F.LOCK_LIMITS.A_SCALE)
    (s.fget F.LOCK_LIMITS.J_SCALE)

/-- Slew budget of a head (R78): the smaller of the descriptor's value and LIMIT, where LIMIT is not 0. -/
def State.budget (s : State) (side : Nat) : Nat :=
  let l := s.fget (F.SLEW_BUDGET.LIMIT side)
  let h := s.fget (F.SLEW_BUDGET.HEAD side)
  if l = 0 then h else min h l

/-- What the trajectory computation needs of a head. -/
def State.headPlan (s : State) (side : Nat) : HeadPlan := ⟨s.bounds side, (s.descOf side).coef, s.budget side⟩

/-- Park drive of a side (R65). -/
def State.park (s : State) (side : Nat) : Half := (s.descOf side).park

end Sys2Proof.Machine
end

