-- ==== Sys2Proof/Machine/Law.lean ====
section
/-!
DEFINITION. The control law of a slot (R27–R49): bank and schedule records, the gain schedule, dither, the computation of R33,
the repetitive update, and the drive of an axis in loss.
-/

namespace Sys2Proof.Machine

/-! ## Records (R36, R40) -/

/-- The 16-bit field at byte o of a record that starts at this BAR0 offset. -/
def State.recHalf (s : State) (base o : Nat) : Half :=
  BitVec.ofNat 16 ((s.word (base + o / 4 * 4)).toNat / 2 ^ (8 * (o % 4)))

/-- BAR0 offset of a bank record (R57). -/
def bankOff (r c b : Nat) : Nat := 0x401000 + r * 0x10000 + c * 0x80 + b * 0x40

/-- BAR0 offset of a schedule record (R57). -/
def schedOff (r c : Nat) : Nat := 0x401800 + r * 0x10000 + c * 0x40

/-- A bank record as the engine uses it (R36). -/
structure Bank where
  kp : Int
  ki : Int
  a : Int
  b : Int
  krep : Int
  skp : Nat
  ski : Nat
  sb : Nat
  srep : Nat
  ilim : Int
  umin : Int
  umax : Int
  n : Nat
  repL : Int
  repF : Int
  lead : Nat
  sumMin : Nat
deriving DecidableEq, Repr

/-- A bank record from its 16-bit fields by byte offset (R36). -/
def Bank.ofFields (h : Nat → Half) : Bank :=
  let sh := (h 0x0A).toNat
  { kp := sval (h 0), ki := sval (h 2), a := sval (h 4), b := sval (h 6), krep := sval (h 8)
    skp := sh % 16, ski := sh / 16 % 16, sb := sh / 256 % 16, srep := sh / 4096
    ilim := sval (h 0x0C), umin := sval (h 0x0E), umax := sval (h 0x10), n := (h 0x12).toNat
    repL := sval (h 0x14), repF := sval (h 0x16), lead := (h 0x18).toNat % 16, sumMin := (h 0x1A).toNat }

/-- Read a bank record (R36). -/
def State.bank (s : State) (r c b : Nat) : Bank := Bank.ofFields (fun o => s.recHalf (bankOff r c b) o)

/-- REP_PERIOD and ILIM of a record are valid (R36). -/
def Bank.valid (b : Bank) : Bool := decide (2 ≤ b.n) && decide (b.n ≤ 2048) && decide (0 ≤ b.ilim)

/-- Bank active for a class (R57): 0 A, 1 B. -/
def State.activeBank (s : State) (r c : Nat) : Nat := s.fget (F.LAW_BANK_SEL.ACTIVE r) / 2 ^ c % 2

/-- The active record of a class. -/
def State.lawBank (s : State) (r c : Nat) : Bank := s.bank r c (s.activeBank r c)

/-- Thresholds E1–E7 of a schedule record (R40). -/
def State.thresholds (s : State) (r c : Nat) : List Int := (List.range 7).map (fun i => sval (s.recHalf (schedOff r c) (2 * i)))

/-- KP, KI and B of a region of a schedule record (R40). -/
def State.regionGains (s : State) (r c q : Nat) : Int × Int × Int :=
  let o := 0x10 + 6 * q
  (sval (s.recHalf (schedOff r c) o), sval (s.recHalf (schedOff r c) (o + 2)), sval (s.recHalf (schedOff r c) (o + 4)))

/-- The number of thresholds that |e| equals or exceeds (R40). -/
def regionOf (ts : List Int) (e : Int) : Nat := (ts.filter (fun t => decide (t ≤ (e.natAbs : Int)))).length

/-! ## Which reach's law a slot runs (R27, R54) -/

/-- RELIEVING of reach 8 (R57): the reach served, 0xF for none. -/
def State.relieving (s : State) : Nat := match s.steer.relief with | some q => q.source | none => 0xF

/-- Set the relief in progress. -/
def State.setRelief (s : State) (q : Option Relief) : State := { s with steer := { s.steer with relief := q } }

/-- The block whose records a reach's slots run: reach 8 while it has taken over that reach (R54). -/
def State.lawReach (s : State) (r : Nat) : Nat :=
  match s.steer.relief with
  | some q => if q.source = r ∧ q.committed then 8 else r
  | none => r

/-- The reaches compute: the module is ACTIVE or computes the tick of its claim (R203, R212), on L2 or above (R301). -/
def State.computing (s : State) : Bool := (s.active || s.pair.claiming) && decide (s.rung ≤ 2)

/-- DUTY of a reach (R57): 0 DRIVING, 1 SHADOWING, 2 RELIEVED, 3 IDLE. -/
def State.duty (s : State) (r : Nat) : Nat :=
  let runs := if s.computing && s.bit (F.REACH_CTRL.EN r) then 0 else 3
  match s.steer.relief with
  | some q =>
    if r = 8 then (if q.committed then 0 else if q.shadow then 1 else 3)
    else if r = q.source ∧ q.committed then (if q.returning ∧ q.shadow then 1 else 2)
    else runs
  | none => if r = 8 then 3 else runs

/-- A reach's slots are computed on a tick: by the reach, or by reach 8 in its place. -/
def State.reachRuns (s : State) (r : Nat) : Bool :=
  s.computing && (s.lawReach r = 8 || s.bit (F.REACH_CTRL.EN r))

/-- Class of an axis. -/
def Axis.cls (x : Axis) : Nat := x.fget (F.AXIS_FLAGS.CLASS 0 0)
/-- STATE of an axis: 0 NORMAL, 1 LOCK, 2 BLIND, 3 FROZEN, 4 BLIND_OL, 5 FROZEN_OL, 6 PARKED. -/
def Axis.st (x : Axis) : Nat := x.fget (F.AXIS_FLAGS.STATE 0 0)
/-- MODE of an axis: 0 RUN, 1 CAPTURE_START, 2 TEST, 3 RECOVERY. -/
def Axis.mode (x : Axis) : Nat := x.fget (F.AXIS_FLAGS.MODE 0 0)
/-- SRC of an axis: 0 HOLD, 1 LOCK, 2 SERVICE. -/
def Axis.src (x : Axis) : Nat := x.fget (F.AXIS_FLAGS.SRC 0 0)
/-- REGION of an axis. -/
def Axis.region (x : Axis) : Nat := x.fget (F.AXIS_FLAGS.REGION 0 0)
/-- OUT_NOW of an axis. -/
def Axis.outNow (x : Axis) : Bool := x.fget (F.AXIS_FLAGS.OUT_NOW 0 0) ≠ 0
/-- The loop is held: BLIND, FROZEN, BLIND_OL, FROZEN_OL (R33). -/
def Axis.held (x : Axis) : Bool := decide (2 ≤ x.st) && decide (x.st ≤ 5)
/-- Open loop: states 4 and 5 (R48). -/
def Axis.openLoop (x : Axis) : Bool := decide (x.st = 4) || decide (x.st = 5)

/-- Set STATE. -/
def Axis.setSt (x : Axis) (v : Nat) : Axis := x.fset (F.AXIS_FLAGS.STATE 0 0) v
/-- Set MODE. -/
def Axis.setMode (x : Axis) (v : Nat) : Axis := x.fset (F.AXIS_FLAGS.MODE 0 0) v
/-- Set SRC. -/
def Axis.setSrc (x : Axis) (v : Nat) : Axis := x.fset (F.AXIS_FLAGS.SRC 0 0) v
/-- Set a sticky flag where the condition holds (R34). -/
def Axis.flag (x : Axis) (f : Fld) (c : Bool) : Axis := if c then x.fset f 1 else x

/-- The active record an axis runs. -/
def State.axisBank (s : State) (a : Nat) (x : Axis) : Bank := s.lawBank (s.lawReach (s.reachOf a)) x.cls

/-! ## Dither (R45) -/

/-- (−1)^popcount of the low n bits. -/
def paritySign : Nat → Nat → Int
  | 0, _ => 1
  | n + 1, v => if v % 2 = 1 then -(paritySign n (v / 2)) else paritySign n (v / 2)

/-- Element j, t of the 1,024 × 1,024 Sylvester Hadamard matrix. -/
def hadamard (j t : Nat) : Int := paritySign 10 (Nat.land j t)

/-- One step of the generator of p: x^10 + x^3 + 1. -/
def lfsrStep (st : Nat) : Nat :=
  let fb := (Nat.xor st (st / 8)) % 2
  st / 2 + fb * 512

/-- The generator's state after n steps. -/
def lfsrAt : Nat → Nat → Nat
  | 0, st => st
  | n + 1, st => lfsrAt n (lfsrStep st)

/-- p[n] of reach k. -/
def pSeq (k n : Nat) : Int := if n = 1023 then 1 else 1 - 2 * ((lfsrAt n (0x155 + k) % 2 : Nat) : Int)

/-- dseq for slot j of reach k at tick count t. -/
def dseq (k j t : Nat) : Int := hadamard j (t % 1024) * pSeq k (t % 1024)

/-- The axis gets dither on this tick (R45): EN, MODE RUN or RECOVERY, STATE NORMAL, FROZEN or FROZEN_OL. -/
def dithered (en : Bool) (x : Axis) : Bool :=
  en && (decide (x.mode = 0) || decide (x.mode = 3)) && (decide (x.st = 0) || decide (x.st = 3) || decide (x.st = 5))

/-! ## Arithmetic (R32, R33) -/

/-- A product shifted and clamped to 40 bits, and whether it was clamped (R32). -/
def prod40 (k x : Int) (sh : Nat) : Int × Bool :=
  let v := k * x * (2 ^ sh : Int)
  (satI 40 v, decide (satI 40 v ≠ v))

/-- The quad sum (R33). -/
def quadSum (q : Quad) : Nat := q.qa.toNat + q.qb.toNat + q.qc.toNat + q.qd.toNat

/-- num for an x (0) or y (1) axis (R33). -/
def quadNum (q : Quad) (coord : Nat) : Int :=
  if coord = 0 then (q.qa.toNat + q.qd.toNat : Int) - (q.qb.toNat + q.qc.toNat : Int)
  else (q.qa.toNat + q.qb.toNat : Int) - (q.qc.toNat + q.qd.toNat : Int)

/-- m of R33: floored quotient, rounded half up, clamped; 0 if s = 0. -/
def measure (num : Int) (s : Nat) : Int := if s = 0 then 0 else satI 16 (shrRound 1 ((num * 65536) / (s : Int)))

/-- What one tick's compute of a slot reads beside its loop state. -/
structure SlotIn where
  bank : Bank
  kp : Int
  ki : Int
  b : Int
  /-- rep[(k + lead) mod n], 0 where REP_CTRL.EN is clear (R41). -/
  repLead : Int
  ff : Int
  /-- amp × dseq; 0 on a tick without dither. -/
  dith : Int
  target : Int
  m : Int
deriving DecidableEq, Repr

/-- The terms of acc other than i, d and the dither (R33), and whether a shift overflowed. -/
def SlotIn.rest (p : SlotIn) (e : Int) : Int × Bool :=
  let t1 := prod40 p.kp e p.bank.skp
  let t2 := prod40 p.bank.krep p.repLead p.bank.srep
  (t1.1 + t2.1 + p.ff * 32768, t1.2 || t2.2)

/-- The error of the tick and whether sat16 clamped it. -/
def SlotIn.err (p : SlotIn) : Int × Bool := (satI 16 (p.target - p.m), decide (satI 16 (p.target - p.m) ≠ p.target - p.m))

/-- One closed-loop tick of a slot (R33, R34), with R49 on the first tick after loss: d = 0, e_prev = e, and i such that acc
less its dither equals the drive last sent. d is stored in 32 bits (log 17). -/
def slotCompute (p : SlotIn) (x : Axis) : Axis :=
  let (e, eSat) := p.err
  let (rest, restSat) := p.rest e
  let (ti, tiSat) := prod40 p.ki e p.bank.ski
  let bound := p.bank.ilim * 32768
  let iOld := x.i.toInt
  let iSum := iOld + ti
  let iNew := if x.rejoin then satI 40 (sval x.heldDrive * 32768 - rest)
              else if x.outNow then iOld else clampI (-bound) bound iSum
  let intSat := !x.rejoin && !x.outNow && decide (iNew ≠ iSum)
  let (tb, tbSat) := prod40 p.b (e - sval x.ePrev) p.bank.sb
  let dSum := shrRound 15 (p.bank.a * (x.d.toInt * 4)) + tb
  let eight : Int := 8 * 2 ^ 30
  let dNew := if x.rejoin then 0 else clampI (-eight) eight dSum
  let dSat := !x.rejoin && (decide (dNew ≠ dSum) || tbSat)
  let acc0 := rest + iNew + dNew
  let acc := acc0 + p.dith * 32768
  let accC := satI 40 acc
  let r := shrRound 15 accC
  let u := clampI p.bank.umin p.bank.umax r
  let out := decide (u ≠ r)
  let kiUsed := !x.rejoin && !x.outNow
  let plain := clampI p.bank.umin p.bank.umax (shrRound 15 (satI 40 acc0))
  let x := { x with
    i := BitVec.ofInt 40 iNew
    d := BitVec.ofInt 32 (satI 32 (shrRound 2 dNew))
    ePrev := hcode e
    u := hcode u
    heldDrive := hcode plain
    target := hcode p.target
    ff := hcode p.ff
    rejoin := false
    mLast := hcode p.m
    eLast := hcode e }
  let x := x.fset (F.AXIS_FLAGS.OUT_NOW 0 0) (if out then 1 else 0)
  let x := x.flag (F.AXIS_FLAGS.OUT_SAT 0 0) out
  let x := x.flag (F.AXIS_FLAGS.INT_SAT 0 0) intSat
  x.flag (F.AXIS_FLAGS.ACC_SAT 0 0)
    (eSat || restSat || (kiUsed && tiSat) || dSat || decide (accC ≠ acc))

/-- One tick of a held axis (R48): the held drive is sent, with the dither in FROZEN and FROZEN_OL; the loop state is frozen,
m is formed, and the loss timer counts in BLIND and FROZEN. The sum of held drive and dither saturates to 16 bits, which the manual
does not say (DESIGN CHOICE, log 66). -/
def heldCompute (m dith : Int) (x : Axis) : Axis :=
  { x with
    u := hcode (satI 16 (sval x.heldDrive + dith))
    loss := if x.st = 2 ∨ x.st = 3 then min 127 (x.loss + 1) else x.loss
    mLast := hcode m }

/-! ## Repetitive memory (R41) -/

/-- Entry of an axis's repetitive memory. -/
def State.repAt (s : State) (a k : Nat) : Half := spGet 0 s.steer.rep (2048 * a + k)

/-- Class index k of a class of a reach. -/
def State.classK (s : State) (r c : Nat) : Nat := spGet 0 s.steer.classK (16 * r + c)

/-- The update of rep[k] and whether it clamped (R41). -/
def repUpdate (b : Bank) (old e : Int) : Int × Bool :=
  let v := shrRound 15 (b.repF * old + b.repL * e)
  (satI 16 v, decide (satI 16 v ≠ v))

/-- The index after one tick (R41); with no valid period it stays 0. -/
def nextK (n k : Nat) : Nat := if n = 0 then 0 else (k + 1) % n

/-- Clear the repetitive memory of one axis. -/
def clearRep (a : Nat) (m : Sparse Half) : Sparse Half := m.filter (fun p => decide (p.1 / 2048 ≠ a))

/-! ## Windows and runs (R40, R46, R47) -/

/-- The correlation window after a tick (R46): a window starts at t mod 256 = 0; ok says the tick qualifies. A window that has
missed a tick is discarded: its next sample does not follow the last. A RECAL asked for counts from the next window on (R57). -/
def Axis.window (x : Axis) (t : Nat) (term : Int) (ok : Bool) : Axis :=
  let first := decide (t % 256 = 0)
  let next := first || (x.winOk && decide (x.winLen = t % 256))
  { x with
    cSum := if first then term else x.cSum + term
    winOk := next && ok
    winRun := (first || x.winRun) && next && ok && decide (x.mode = 0) && decide (x.st = 0)
    winLen := t % 256 + 1
    recal := if first ∧ x.recal = 1 then 2 else x.recal }

/-- Runs of R47 after a sample. -/
def Axis.sumRuns (x : Axis) (sum sumMin : Nat) : Axis :=
  { x with
    sumLast := sum
    lowRun := if sum / 4 < sumMin then x.lowRun + 1 else 0
    highRun := if sumMin + sumMin / 4 ≤ sum / 4 then x.highRun + 1 else 0 }

/-- Region and runs of R40 after a sample, in a mode that uses the schedule: the region rises at once. -/
def Axis.regionRuns (x : Axis) (ts : List Int) (e : Int) : Axis :=
  let q := max x.region (regionOf ts e)
  let x := x.fset (F.AXIS_FLAGS.REGION 0 0) q
  let below := match ts[q - 1]? with | some t => decide (0 < q) && decide ((e.natAbs : Int) < t) | none => false
  { x with downRun := if below then x.downRun + 1 else 0, zeroRun := if q = 0 then x.zeroRun + 1 else 0 }

/-- The open-loop offset after a qualifying tick (R48): average of u − map with weight 1/256, saturated to its 16 bits, which the
manual does not say (DESIGN CHOICE, log 66). -/
def offsetNext (offset u map : Int) : Int := satI 16 (offset + shrRound 23 ((u - map) * 32768 - offset * 32768))

end Sys2Proof.Machine
end

