-- ==== Sys2Proof/Machine/Slot.lean ====
section
/-!
DEFINITION. What one tick gives each axis (R33, R42–R49, R66, R67, R73, R77): the target and feedforward its source commands,
its compute, and the result held for the head's frame (R31).
-/

namespace Sys2Proof.Machine

/-! ## Where an axis stands in a cycle (R65) -/


/-- The phase of an axis in the running cycle: that of its path; a released mirror's is SLEW, before and after the CLOSE (R65). -/
def State.phaseOf (s : State) (a : Nat) : Option Phase :=
  if s.lock.parking.contains (mirrorOf a) then some .slewing
  else match s.running with
    | some c =>
      (match c.pathOf a with
       | some p => some p.phase
       | none => if c.released.contains (mirrorOf a) then some (if c.slewTick = 0 then .opening else .slewing) else none)
    | none => none

/-- The axis is in SLEW. -/
def State.inSlew (s : State) (a : Nat) : Bool := s.phaseOf a = some .slewing

/-- The axis is in SLEW or CAPTURE, where it enters neither BLIND nor FROZEN (R51) and does not learn (R41). -/
def State.inMove (s : State) (a : Nat) : Bool := s.inSlew a || s.phaseOf a = some .capturing

/-- The trajectory buffer of an axis (R73). -/
def State.bufOf (s : State) (a : Nat) : Option TrajBuf := (spGet [] s.lock.bufs a).head?

/-- Trajectory buffers of these axes are discarded. -/
def State.dropBufs (s : State) (axes : List Nat) : State :=
  { s with lock := { s.lock with bufs := s.lock.bufs.filter (fun p => !axes.contains p.1) } }

/-- Bounds of the wave an axis moves in, after step 4 of R78, as the fallback profile was computed. -/
def State.waveBounds (s : State) (side : Nat) (t : TrajBuf) : Bounds :=
  let b := s.bounds side
  match s.running.bind (fun c => c.waves[2 * t.wave2.toNat + side]?) with
  | some p => { b with a := p.1, j := p.2 }
  | none => b

/-! ## The commanded target of a tick (R42, R66, R73, R77) -/

/-- The limiter's state of an axis. -/
def Axis.motion (x : Axis) : Motion := ⟨x.limPos, x.limVel, x.limAcc⟩

/-- Store a limiter state. -/
def Axis.setMotion (x : Axis) (m : Motion) : Axis := { x with limPos := m.pos, limVel := m.vel, limAcc := m.acc }

/-- One tick of bringing a motion to rest within its limits (R87, R88). -/
def stopStep (b : Bounds) (m : Motion) : Motion :=
  let a := stopAcc b m.vel m.acc
  ⟨m.pos + m.vel + a, m.vel + a, a⟩

/-- A commanded code obeys the limits from this motion (R77). -/
def obeys (b : Bounds) (m : Motion) (c : Int) : Bool :=
  let v := c * 65536 - m.pos
  let a := v - m.vel
  let j := a - m.acc
  decide (v.natAbs ≤ b.v.natAbs) && decide (a.natAbs ≤ b.a.natAbs) && decide (j.natAbs ≤ b.j.natAbs)

/-- The motion that has just taken this code. -/
def Motion.follow (m : Motion) (c : Int) : Motion := ⟨c * 65536, c * 65536 - m.pos, c * 65536 - m.pos - m.vel⟩

/-- ff of an axis from its limiter's progress (R75, R77). -/
def Axis.ffNow (x : Axis) (pos : Int) : Int :=
  satI 16 (ffOf (sval x.olStart) (sval x.olEnd) (sval x.moveFrom) (sval x.goal) pos)

/-- One limiter step of an axis toward its goal, with its new target and ff; done once it rests there. -/
def Axis.limitTick (x : Axis) (b : Bounds) : Axis :=
  let g := sval x.goal
  let m := limStep b x.motion (g * 65536) (g * 65536)
  if m.at b g then
    { x with limPos := g * 65536, limVel := 0, limAcc := 0, target := x.goal, ff := hcode (x.ffNow (g * 65536)),
             moveDone := true, limited := true }
  else { x.setMotion m with target := hcode (satI 16 m.code), ff := hcode (x.ffNow m.pos), limited := true }

/-- The motion with which the limiter passes a sample unchanged, if it does (R77): a code that obeys the limits; of a fallback buffer,
the next step of the profile itself, whose fraction the limiter keeps, where it lies within the bounds in force. -/
def passes (b w : Bounds) (t : TrajBuf) (m : Motion) (c : Int) : Option Motion :=
  let f := limStep w m (sval t.final * 65536) (sval t.final * 65536)
  if t.fallback && decide (f.code = c) && decide (f.vel.natAbs ≤ b.v.natAbs) && decide (f.acc.natAbs ≤ b.a.natAbs) &&
      decide ((f.acc - m.acc).natAbs ≤ b.j.natAbs) then some f
  else if obeys b m c then some (m.follow c)
  else none

/-- One tick of an axis in SLEW (R66, R73, R77): its buffer's sample through the limiter, whose progress gives ff once it has clamped;
the limiter alone once the buffer is used up; or the stop that a supersede or abort asks for. w are the bounds a fallback buffer was
computed with. err says that the sample could not be read, so the previous one is used again (R339). -/
def slewTick (b w : Bounds) (buf : Option TrajBuf) (err : Bool) (x : Axis) : Axis :=
  let x1 := { x with traj := x.traj + 1 }
  if x.moveDone || err then x1
  else if x.stop then
    let m := stopStep b x.motion
    { x1.setMotion m with target := hcode (satI 16 m.code), ff := hcode (x.ffNow m.pos),
                          stop := decide (m.vel ≠ 0) || decide (m.acc ≠ 0), limited := true }
  else match buf with
    | none => x1.limitTick b
    | some t =>
      if x.traj < t.start then x1
      else match t.samples[x.traj - t.start]? with
        | none => x1.limitTick b
        | some (c, f) =>
          let last := decide (x.traj - t.start + 1 = t.samples.length) && decide (c = t.final)
          match (if x.limited then none else passes b w t x.motion (sval c)) with
          | some m => { x1.setMotion m with target := c, ff := f, moveDone := last }
          | none =>
            let m := limStep b x.motion (sval c * 65536) (sval t.final * 65536)
            { x1.setMotion m with target := hcode (satI 16 m.code), ff := hcode (x.ffNow m.pos), limited := true
                                  moveDone := last && m.at b (sval t.final) }

/-- Mean of the conversions of the interval, rounded half up (R44, log 18). -/
def meanOf (l : List Int) : Int := (2 * l.foldl (· + ·) 0 + l.length) / (2 * (l.length : Int))

/-- The target a service input asks for (R44) and whether a clamp of the STEP/DIR target sets ACC_SAT. An axis whose SRC SERVICE has
outlived its route, as after a W reset, follows its base with the count at 0 (DESIGN CHOICE, log 66). -/
def State.serviceGoal (s : State) (a : Nat) (setpt : List Int) (x : Axis) : Int × Bool :=
  if s.steer.ainAxis = some a then
    if setpt = [] then (sval x.goal, false)
    else (satI 16 (sval x.svcBase + shrRound 15 (sval s.steer.ainGain * meanOf setpt * 2 ^ s.steer.ainShift)), false)
  else
    let v := sval x.svcBase + s.steer.stepCount
    (satI 16 v, decide (satI 16 v ≠ v))

/-- One tick of a SERVICE axis (R44, R77): its goal passes unchanged while the limiter stands on the last goal and the step to this one
obeys the limits; else the limiter goes toward it (log 10). -/
def serviceTick (b : Bounds) (g : Int × Bool) (x : Axis) : Axis :=
  let m := if decide (x.limPos = sval x.goal * 65536) && obeys b x.motion g.1 then x.motion.follow g.1
           else limStep b x.motion (g.1 * 65536) (g.1 * 65536)
  ({ x.setMotion m with goal := hcode g.1, target := hcode (satI 16 m.code), ff := 0 }).flag (F.AXIS_FLAGS.ACC_SAT 0 0) g.2

/-- The axis with the target and feedforward of this tick (R42, R66): HOLD and the phases after SLEW keep the target. -/
def State.commanded (s : State) (a : Nat) (setpt : List Int) (sampErr : Bool) (x : Axis) : Axis :=
  let b := s.bounds (axisSide a)
  if x.src = 2 then serviceTick b (s.serviceGoal a setpt x) x
  else if x.src = 1 && s.inSlew a then
    slewTick b (match s.bufOf a with | some t => s.waveBounds (axisSide a) t | none => b) (s.bufOf a) sampErr x
  else { x with ff := 0 }

/-! ## The compute of one axis -/

/-- The quad samples of a mirror on this tick; a mirror with no samples reads 0. -/
def quadOf (quads : List Quad) (mirror : Nat) : Quad :=
  match quads.find? (fun q => q.mirror = mirror) with | some q => q | none => ⟨mirror, 0, 0, 0, 0⟩

/-- The schedule is used for an axis (R40): SCHED_CTRL.EN and MODE CAPTURE_START, TEST or RECOVERY. -/
def State.scheduled (s : State) (law : Nat) (x : Axis) : Bool := s.bit (F.SCHED_CTRL.EN law) && decide (x.mode ≠ 0)

/-- The gains of a tick (R40). -/
def State.gains (s : State) (law : Nat) (x : Axis) (b : Bank) : Int × Int × Int :=
  if s.scheduled law x then s.regionGains law x.cls x.region else (b.kp, b.ki, b.b)

/-- The open-loop offset tracks on this tick (R48): MODE RUN, STATE NORMAL, SRC HOLD, mirror in a standing path with a usable
entry. -/
def State.tracks (s : State) (a : Nat) (x : Axis) : Option Half :=
  if x.mode = 0 ∧ x.st = 0 ∧ x.src = 0 then
    match s.pathOf a with
    | some q => if s.mapUsable (s.pairIndex (axisSide a) q.a q.b) then some (s.olDrive a q.a q.b) else none
    | none => none
  else none

/-- Learning is on for an axis this tick (R41). -/
def State.learns (s : State) (law a : Nat) (x : Axis) : Bool :=
  s.bit (F.REP_CTRL.EN law) && !s.bit (F.REP_CTRL.FREEZE law) && !x.held && !s.inMove a

/-- The tick's compute of one axis that is not PARKED under the records of a block (R33, R41, R46–R48): its new loop state and
repetitive write, with the sticky bits this tick sets. No low sample of SLEW or CAPTURE counts toward the 2 of R47 that end a later
phase (DESIGN CHOICE, log 66). -/
def State.computeLaw (s : State) (law a : Nat) (x : Axis) (q : Quad) (setpt : List Int) (sampErr : Bool) : HeldResult :=
  let r := s.reachOf a
  let x0 := x.noSticky
  let t := s.steer.tick
  let b := s.lawBank law x0.cls
  let sum := quadSum q
  let raw := measure (quadNum q (axisCoord a)) sum
  let dOn := dithered (s.bit (F.DITHER_CTRL.EN law)) x0
  let amp := s.fget (F.DITHER_CTRL.AMP law)
  let lag := s.fget (F.DITHER_CTRL.LAG law)
  let dith : Int := if dOn then (amp : Int) * dseq r (s.slotOf a) t else 0
  let term : Int := if dOn then dseq r (s.slotOf a) (t + 1024 - lag) * raw else 0
  let move := s.inMove a
  let runs := fun (x : Axis) =>
    let x := (x.sumRuns sum b.sumMin).window t term dOn
    if move then { x with lowRun := 0 } else x
  if x0.held then ⟨a, runs (heldCompute raw dith x0), none⟩
  else
    let x := s.commanded a setpt sampErr x0
    let m := if x.src = 1 && s.inSlew a && decide (sum / 4 < b.sumMin) then sval x.target else raw
    let e := satI 16 (sval x.target - m)
    let x := if x.mode ≠ 0 then x.regionRuns (s.thresholds law x.cls) e else x
    let g := s.gains law x b
    let k := s.classK r x.cls
    let lead := if s.bit (F.REP_CTRL.EN law) ∧ b.n ≠ 0 then sval (s.repAt a ((k + b.lead) % b.n)) else 0
    let p : SlotIn := { bank := b, kp := g.1, ki := g.2.1, b := g.2.2, repLead := lead, ff := sval x.ff, dith := dith,
                        target := sval x.target, m := m }
    let y := runs (slotCompute p x)
    let y := match s.tracks a x with
      | some map => { y with offset := hcode (offsetNext (sval y.offset) (sval y.u) (sval map)) }
      | none => y
    if s.learns law a x then
      let w := repUpdate b (sval (s.repAt a k)) e
      ⟨a, y.flag (F.AXIS_FLAGS.REP_SAT 0 0) w.2, some (k, hcode w.1)⟩
    else ⟨a, y, none⟩

/-- The tick's compute of one axis under the block that drives it. -/
def State.computeAxis (s : State) (a : Nat) (x : Axis) (q : Quad) (setpt : List Int) (sampErr : Bool) : HeldResult :=
  s.computeLaw (s.lawReach (s.reachOf a)) a x q setpt sampErr

/-! ## The shadowing reach (R54, R55) -/

/-- The shadowing reach's own state of a slot, taken from an axis. -/
def shadowOf (a : Nat) (x : Axis) : Shadow := ⟨a, x.i, x.d, x.ePrev, x.u, x.heldDrive, x.outNow⟩

/-- An axis with the shadowing reach's own loop state; in loss, and on the first tick after it, both run from the held drive. -/
def Shadow.put (q : Shadow) (x : Axis) : Axis :=
  if x.held || x.rejoin then x
  else { x with i := q.i, d := q.d, ePrev := q.ePrev, u := q.u, heldDrive := q.heldDrive }.fset (F.AXIS_FLAGS.OUT_NOW 0 0) q.outNow.toNat

/-- The block the shadowing reach runs: reach 8's, or on the way back the relieved reach's own (R55). -/
def Relief.law (q : Relief) : Nat := if q.committed then q.source else 8

/-- The shadowing reach computes each slot from the live samples (R54); its results wait for the heads' frames as the others do. -/
def State.computeShadow (s : State) (quads : List Quad) (setpt : List Int) (errs : List CtrlErr) : State :=
  match s.steer.relief with
  | some q =>
    if q.shadow then
      let one := fun (p : Shadow) =>
        let x := p.put (s.axis p.axis)
        if x.st = 6 then p
        else shadowOf p.axis
          (s.computeLaw q.law p.axis x (quadOf quads (mirrorOf p.axis)) setpt (errs.contains (.trajSample p.axis))).new
      s.setRelief (some { q with fresh := q.loop.map one })
    else s
  | none => s

/-- Every code the shadowing reach has formed this tick lies within 1 LSB of the source's (R54). -/
def State.shadowAgrees (s : State) (q : Relief) : Bool :=
  q.fresh.all (fun p => decide ((sval p.u - sval (s.axisNow p.axis).u).natAbs ≤ 1))

/-- The shadowing reach's results of a head are taken when its frame passes, and dropped when it is lost (R31). -/
def State.shadowFrame (s : State) (h : Nat) (good : Bool) : State :=
  match s.steer.relief with
  | some q =>
    let mine := q.fresh.filter (fun p => decide (axisSide p.axis = h))
    let loop := if good then q.loop.map (fun p => (mine.find? (fun f => decide (f.axis = p.axis))).getD p) else q.loop
    s.setRelief (some { q with loop := loop, fresh := q.fresh.filter (fun p => decide (axisSide p.axis ≠ h)) })
  | none => s

/-- At its commit the shadowing reach's own loop state is that of the slots (R54, R55). -/
def State.takeShadow (s : State) (q : Relief) : State :=
  let new := fun (h : HeldResult) => match q.fresh.find? (fun f => decide (f.axis = h.axis)) with
    | some f => { h with new := f.put h.new }
    | none => h
  let s := { s with steer := { s.steer with held := s.steer.held.map new } }
  q.loop.foldl (fun s p => s.modAxis p.axis p.put) s

/-! ## Held results (R31) -/

/-- The state an axis had before the present tick's compute. -/
def State.axisBefore (s : State) (a : Nat) : Axis :=
  match s.steer.undo.find? (fun h => h.axis = a) with | some h => h.new | none => s.axis a

/-- The repetitive write of an axis's tick is taken back: one still held is dropped, one made is undone. -/
def State.dropRep (s : State) (a : Nat) : State :=
  let s := { s with steer := { s.steer with held := s.steer.held.map (fun (h : HeldResult) => if h.axis = a then { h with rep := none } else h) } }
  match s.steer.undo.find? (fun h => h.axis = a) with
  | some ⟨_, _, some (k, v)⟩ => { s with steer := { s.steer with rep := spSet 0 s.steer.rep (2048 * a + k) v } }
  | _ => s

/-- Take a result: the axis and its repetitive memory change, and what they were is kept until the control deadline (R52). -/
def State.takeResult (s : State) (h : HeldResult) : State :=
  let old : HeldResult := ⟨h.axis, s.axis h.axis, h.rep.map (fun p => (p.1, s.repAt h.axis p.1))⟩
  let s := { s with steer := { s.steer with undo := s.steer.undo ++ [old] } }
  let s := s.modAxis h.axis (fun x => h.new.addSticky x)
  match h.rep with
  | some (k, v) => { s with steer := { s.steer with rep := spSet 0 s.steer.rep (2048 * h.axis + k) v } }
  | none => s

/-- A path's axes whose results this tick has delivered. -/
def State.fresh (s : State) (a : Nat) : Bool := s.steer.undo.any (fun h => h.axis = a)

end Sys2Proof.Machine
end

