-- ==== Sys2Proof/Machine/Tick.lean ====
section
/-!
DEFINITION. The sample tick (R29): what it commits, computes, counts and sends, the judging of the heads' frames (R31), and the
control deadline (R52).
-/

namespace Sys2Proof.Machine

/-! ## Path state (R50) -/

/-- The four axes of a standing path in loss, as bits AX, AY, BX, BY, with the axes as they now are. -/
def State.lossBits (s : State) (q : Path) : Nat :=
  ((pathAxes q.a q.b).zip [1, 2, 4, 8]).foldl (fun n p => if (s.axisNow p.1).held then n + p.2 else n) 0

/-- A path's state, coded as the PATH event: the first of DEGRADED, FROZEN and BLIND that applies, otherwise LIT (R50). -/
def State.pathStateOf (s : State) (q : Path) : Nat :=
  let xs := (pathAxes q.a q.b).map s.axisNow
  if xs.any Axis.openLoop then 6 else if xs.any (fun x => x.st = 3) then 8 else if xs.any (fun x => x.st = 2) then 7 else 5

/-- Replace a standing path. -/
def State.setPath (s : State) (q : Path) : State :=
  { s with lock := { s.lock with paths := s.lock.paths.map (fun p => if p.a = q.a ∧ p.b = q.b then q else p) } }

/-- PATH event (R290): kind 0 REROUTE_RECOMMENDED, 1 RECOVERED. -/
def State.pathEvent (s : State) (q : Path) (kind state bits : Nat) : State :=
  s.event 1 (le 2 q.a ++ le 2 q.b ++ le 1 kind ++ le 1 state ++ le 1 bits)

/-- Bring a standing path's state up to date (R50): the first time it leaves LIT one event is queued and a severity 4 entry
made; when all four axes are closed loop again it returns to LIT with a recovery event. -/
def State.refreshPath (s : State) (q : Path) : State :=
  let n := s.pathStateOf q
  let bits := s.lossBits q
  let s1 := s.setPath { q with state := n, announced := decide (n ≠ 5) }
  if n ≠ 5 ∧ q.announced = false then
    ((s1.pathEvent q 0 n bits).logEntry 4 4 .environment .axis 0 (axisOf 0 q.a 0) q.b).count 0 14
  else if n = 5 ∧ q.announced = true then s1.pathEvent q 1 5 bits
  else s1

/-- The standing path of an axis, if any, brought up to date. -/
def State.refreshAxisPath (s : State) (a : Nat) : State :=
  match s.pathOf a with | some q => s.refreshPath q | none => s

/-! ## Gangs and class indices (R41, R56) -/

/-- The gang a reach commits with (R56): its GANG; reach 8 joins that of the reach it serves (R54). -/
def State.gangNo (s : State) (r : Nat) : Nat :=
  s.fget (F.GANG_CTRL.GANG (if r = 8 ∧ s.relieving < 8 then s.relieving else r))

/-- The reaches that commit with a reach, itself among them (R56): its gang, and reach 8 with the reach it serves (R54). -/
def State.gangOf (s : State) (r : Nat) : List Nat :=
  let g := s.gangNo r
  (List.range 9).filter (fun k =>
    decide (k = r) || (decide (g ≠ 0) && decide (s.gangNo k = g)) ||
    (decide (s.relieving < 8) && (decide (k = 8 ∧ r = s.relieving) || decide (r = 8 ∧ k = s.relieving))))

/-- Set the class index of a class of a reach. -/
def State.setClassK (s : State) (r c k : Nat) : State :=
  { s with steer := { s.steer with classK := spSet 0 s.steer.classK (16 * r + c) k } }

/-- Class indices advance by 1, modulo REP_PERIOD, at every tick, in every reach (R41). -/
def State.advanceK (s : State) : State :=
  (List.range 9).foldl
    (fun s r => (List.range 16).foldl (fun s c => s.setClassK r c (nextK (s.lawBank (s.lawReach r) c).n (s.classK r c))) s) s

/-- Clear the repetitive memory of every axis of a reach that p accepts. -/
def State.clearReachRep (s : State) (r : Nat) (p : Axis → Bool) : State :=
  let rep := s.steer.rep.filter (fun e => !(decide (s.reachOf (e.1 / 2048) = r) && p (s.axis (e.1 / 2048))))
  { s with steer := { s.steer with rep := rep } }

/-- REP_CTRL.CLEAR at the tick (R57): all memories of the reach are cleared and the indices of its classes restart, which
every reach of its gang shares (R41, log 19). -/
def State.clearReach (s : State) (r : Nat) : State :=
  let s := s.clearReachRep r (fun _ => true)
  (s.gangOf r).foldl (fun s k => (List.range 16).foldl (fun s c => s.setClassK k c 0) s) s

/-! ## What a tick boundary commits -/

/-- An axis of the reach is between OPEN and CLOSE. -/
def State.reachInCycle (s : State) (r : Nat) : Bool :=
  s.steer.axes.any (fun p => decide (s.reachOf p.1 = r) && decide (p.2.src = 1))

/-- A reach that joins a gang takes the class indices of the lowest-numbered other member, and clears the memories of every
class whose index changes (R56). -/
def State.joinGang (s : State) (r : Nat) : State :=
  match (s.gangOf r).find? (fun k => k ≠ r) with
  | none => s
  | some m =>
    (List.range 16).foldl
      (fun s c =>
        if s.classK m c = s.classK r c then s
        else (s.clearReachRep r (fun x => decide (x.cls = c))).setClassK r c (s.classK m c)) s

/-- A written GANG takes effect at the tick boundary (R56), unless an axis of the reach is between OPEN and CLOSE by then. -/
def State.commitGang (s : State) (r g : Nat) : State :=
  if s.reachInCycle r then s.fset (F.REACH_STATUS.GANG_ERR r) 1
  else
    let s := s.fset (F.GANG_CTRL.GANG r) g
    (s.sendJournal (.setting (0x400018 + r * 0x10000) (s.word (0x400018 + r * 0x10000)))).joinGang r

/-- A written MODE takes effect (R58): ignored in LOCK and in loss; TEST, where the axis is not in it, starts its region afresh. -/
def Axis.commitMode (x : Axis) : Axis :=
  match x.modeReq with
  | none => x
  | some v =>
    let x := { x with modeReq := none }
    if x.src = 1 ∨ x.held then x
    else if v = 2 ∧ x.mode = 2 then x
    else if v = 2 then { (x.setMode 2).fset (F.AXIS_FLAGS.REGION 0 0) 0 with downRun := 0, zeroRun := 0 }
    else x.setMode 0

/-- A written CLASS takes effect (R384). -/
def Axis.commitClass (x : Axis) : Axis :=
  match x.classReq with
  | none => x
  | some v => { x.fset (F.AXIS_FLAGS.CLASS 0 0) v with classReq := none }

/-- The writes that wait for the tick take effect: GANG (R56), PERIOD (R196), CLEAR (R57), MODE (R58), CLASS (R384). -/
def State.tickCommits (s : State) : State :=
  let s := s.steer.gangPend.foldl (fun s p => s.commitGang p.1 p.2) s
  let s := s.steer.clearPend.foldl State.clearReach s
  let asked := s.steer.axes.filter (fun p => p.2.modeReq.isSome || p.2.classReq.isSome)
  let s := asked.foldl (fun s p => s.modAxis p.1 (fun x => x.commitClass.commitMode)) s
  { s with steer := { s.steer with clearPend := [], gangPend := [], period := s.fget F.TB_TICK.PERIOD } }

/-! ## Capture and proof counts (R70, R71) -/

/-- Active SUM_MIN of an axis. -/
def State.sumMin (s : State) (a : Nat) : Nat := (s.axisBank a (s.axis a)).sumMin

/-- The last samples of a path's axes meet the capture criterion (R70). -/
def State.captureOk (s : State) (p : CPath) : Bool :=
  (pathAxes p.a p.b).all (fun a => !(s.axis a).held &&
    decide ((sval (s.axis a).eLast).natAbs ≤ s.fget F.LOCK_CAPTURE.CAPTURE_ERR) && decide (s.sumMin a ≤ (s.axis a).sumLast / 4))

/-- A power q lies between ref lowered by lo and raised by hi, in 0.1 dB (R71), compared exactly. -/
def inWindow (q ref lo hi : Nat) : Bool :=
  decide (ref ^ 100 ≤ q ^ 100 * 10 ^ lo) && decide (q ^ 100 ≤ ref ^ 100 * 10 ^ hi)

/-- The last samples of a path's axes meet the proof criterion (R71); PROVE_REF is that of head A's bin (log 20). -/
def State.proveOk (s : State) (c : Cycle) (p : CPath) : Bool :=
  let axes := pathAxes p.a p.b
  let ref := entryProve (s.mapEntry (s.cycleIndex c 0 p.a p.b))
  let sums := axes.map (fun a => (s.axis a).sumLast)
  let least := sums.foldl min ((sums.head?).getD 0) / 1024
  axes.all (fun a => !(s.axis a).held && decide ((sval (s.axis a).eLast).natAbs ≤ s.fget F.LOCK_PROVE.PROVE_ERR)) &&
  (if ref = 0 then axes.all (fun a => decide (s.sumMin a ≤ (s.axis a).sumLast / 4))
   else inWindow least ref (s.fget F.LOCK_PROVE.LO_DB) (s.fget F.LOCK_PROVE.HI_DB))

/-- All four axes of a path have delivered the sample of the present tick. -/
def State.pathFresh (s : State) (p : CPath) : Bool := (pathAxes p.a p.b).all s.fresh

/-- A path's count with the sample of the present tick. -/
def State.pathCount (s : State) (c : Cycle) (p : CPath) : CPath :=
  if !s.pathFresh p || decide (p.entered = s.steer.tick) then p
  else if p.phase = .capturing then { p with since := p.since + 1, run := if s.captureOk p then p.run + 1 else 0 }
  else if p.phase = .proving then { p with run := if s.proveOk c p then p.run + 1 else 0 }
  else p

/-- Change the running cycle. -/
def State.modRunning (s : State) (f : Cycle → Cycle) : State :=
  match s.running with
  | some c => { s with lock := { s.lock with cycles := s.lock.cycles.map (fun d => if d.id = c.id ∧ d.berth = c.berth then f d else d) } }
  | none => s

/-- The first 16 CAPTURE samples of e of a path's axes, while LEARN is set (R76). -/
def State.learnSamples (s : State) (p : CPath) : List (Nat × Half) :=
  if p.phase = .capturing ∧ p.since < 16 ∧ s.pathFresh p ∧ p.entered ≠ s.steer.tick ∧ s.bit F.LOCK_LIMITS.LEARN then
    (pathAxes p.a p.b).map (fun a => (a, (s.axis a).eLast))
  else []

/-- Axes a cycle moves. -/
def Cycle.moved (c : Cycle) : List Nat :=
  (c.paths.flatMap (fun p => pathAxes p.a p.b)) ++ c.released.flatMap (fun m => [2 * m, 2 * m + 1])

/-- SLEW ticks of a running cycle, the present one among them. -/
def State.slewTicks (s : State) (c : Cycle) : Nat := if c.slewTick = 0 then 0 else s.steer.tick + 1 - c.slewTick

/-- An axis still on its way to its final target as the tick ends (R79). -/
def State.underWay (s : State) (a : Nat) : Bool := s.inSlew a && !(s.axis a).moveDone && decide ((s.axis a).st ≠ 6)

/-- Entries whose PROVE_REF the tick's proofs use are read, with their repairs (R64). -/
def State.readProofs (s : State) : State :=
  match s.running with
  | some c => s.cycleRead c ((c.paths.filter (fun p => decide (p.phase = .proving))).map (fun p => (p.a, p.b)))
  | none => s

/-- The counts of every path in CAPTURE or PROVE take the sample of the tick that ends; an axis the limiter has clamped makes
its cycle LIMITED, and one still under way arrives no earlier than the next tick (R79). -/
def State.settleCounts (s : State) : State :=
  let s := s.readProofs
  let new := match s.running with | some c => c.paths.flatMap s.learnSamples | none => []
  let s := { s with map := { s.map with learned := s.map.learned ++ new } }
  s.modRunning (fun c =>
    { c with paths := c.paths.map (s.pathCount c), limited := c.limited || c.moved.any (fun a => (s.axis a).limited)
             arrived := if c.moved.any s.underWay then s.slewTicks c + 1 else c.arrived })

/-! ## Frames of the pair (R199, R200) -/

/-- Fewest lanes that carry a copy frame per tick (R198). -/
def copyFloor (period : Nat) : Nat := if period < 25000 then 2 else 1

/-- Number of set bits among the low five. -/
def bits5 (v : Nat) : Nat := v % 2 + v / 2 % 2 + v / 4 % 2 + v / 8 % 2 + v / 16 % 2

/-- MIN_LANES in force (R198, R217). -/
def State.minLanes (s : State) : Nat :=
  let v := s.fget F.PAIR_CFG.MIN_LANES
  max (if v = 0 then 1 else min v 4) (copyFloor s.steer.period)

/-- The tether carries frames (R198): lanes in use, pair operation enabled, rung L2 or above (R216). -/
def State.tetherOn (s : State) : Bool :=
  s.pairEn && decide (s.minLanes ≤ bits5 (s.fget F.TETHER_LANES.IN_USE)) && decide (s.rung ≤ 2)

/-- Where an axis's record stands in a copy frame (R199): by its own reach, a relieved one too. -/
def State.framePlace (s : State) (a : Nat) : Nat := 580 * s.reachOf a + s.slotOf a

/-- The record of an axis (R35, R199): the repetitive sample written on the tick, or 0. -/
def State.axisRec (s : State) (a : Nat) (x : Axis) : AxisRec :=
  let rep := match s.steer.undo.find? (fun h => h.axis = a) with
    | some ⟨_, _, some (k, _)⟩ => s.repAt a k
    | _ => 0
  { place := s.framePlace a, i := x.i, d := x.d, ePrev := x.ePrev, u := x.u, target := x.target, traj := x.traj, offset := x.offset
    state := x.st, mode := x.mode, region := x.region, sticky := x.flags.toNat % 128, loss := x.loss, rep := rep }

/-- The copy frame of the tick that ends (R199). -/
def State.copyFrameNow (s : State) : CopyFrame :=
  { toFrameHeader := s.frameHead, classK := s.steer.classK
    active := (List.range 8).map (fun r => (r, s.fget (F.LAW_BANK_SEL.ACTIVE r)))
    axes := s.steer.axes.map (fun p => s.axisRec p.1 p.2), ok := true }

/-- The ACTIVE module sends the copy frame of the tick that ends, whatever the partner's state (R199). -/
def State.sendCopy (s : State) : State :=
  if s.active && s.tetherOn then
    ((s.emit (.copy s.copyFrameNow)).fset F.PAIR_SEQ.SEQ s.steer.tick).count 3 0
  else s

/-- The attached partner sends one RETURN frame per tick (R200), with any repair request (R206). -/
def State.sendReturn (s : State) : State :=
  let st := s.fget F.PAIR_STATUS.STATE
  if s.tetherOn && (decide (st = 1) || decide (st = 2) || decide (st = 4)) then
    let g := s.pair.gap.getD (0, 0, 0)
    let s := { s with pair := { s.pair with sentRet := (s.pair.sentRet ++ [(s.steer.tick, s.time.tb2Tick)]).drop (s.pair.sentRet.length - 7) } }
    (s.emit (.ret { toFrameHeader := { s.frameHead with journalSeq := s.pair.applied, repairSeq := g.1, repairMask := g.2.1 }
                    ok := true })).count 3 15
  else s

/-- The entries the tick wrote are noted for a repair (R206); those of the last 16 ticks are kept. -/
def State.noteWritten (s : State) : State :=
  let es := s.steer.undo.filterMap (fun h => h.rep.map (fun p => (h.axis, p.1)))
  { s with pair := { s.pair with written := (s.pair.written ++ [(s.steer.tick, es)]).drop (s.pair.written.length - 15) } }

/-- Load an axis record (R203): loop state, and the flags it carries. -/
def loadAxis (r : AxisRec) (x : Axis) : Axis :=
  let f := (x.flags.toNat / 128 * 128 + r.sticky % 128)
  ((({ x with i := r.i, d := r.d, ePrev := r.ePrev, u := r.u, target := r.target, traj := r.traj, offset := r.offset
              loss := r.loss, flags := BitVec.ofNat 32 f } : Axis).setSt r.state).setMode r.mode).fset (F.AXIS_FLAGS.REGION 0 0) r.region

/-- The banks of a reach as a copy frame has them (R203, R205): the swap of a class whose REP_PERIOD changes clears its memories, as it
did on the active (R39). -/
def State.copyBanks (s : State) (r act : Nat) : State :=
  let was := s.fget (F.LAW_BANK_SEL.ACTIVE r)
  let n := fun (c v : Nat) => (s.bank r c (v / 2 ^ c % 2)).n
  let new := (List.range 16).filter (fun c => decide (n c was ≠ n c act))
  (if new = [] then s else s.clearReachRep r (fun x => new.contains x.cls)).fset (F.LAW_BANK_SEL.ACTIVE r) act

/-- Load one record, with the repetitive sample its axis wrote, which lies one index before the frame's (R199, R203). -/
def State.copyAxis (s : State) (a : Nat) (r : AxisRec) : State :=
  let s := s.modAxis a (loadAxis r)
  let x := s.axis a
  let reach := s.reachOf a
  let n := (s.lawBank reach x.cls).n
  if s.learns reach a x && decide (x.st ≠ 6) && decide (0 < n) then
    let key := 2048 * a + (s.classK reach x.cls + n - 1) % n
    let keys := if s.fget F.PAIR_STATUS.STATE = 1 ∧ !s.pair.snapKeys.contains key then key :: s.pair.snapKeys else s.pair.snapKeys
    { s with steer := { s.steer with rep := spSet 0 s.steer.rep key r.rep }, pair := { s.pair with snapKeys := keys } }
  else s

/-- Apply a copy frame at the tick boundary (R203): REACH fields, then axis records; an axis whose record is that of the reset state
takes it. -/
def State.applyCopy (s : State) (f : CopyFrame) : State :=
  let s := f.active.foldl (fun s p => s.copyBanks p.1 p.2) s
  let ks := f.classK.foldl (fun (m : Sparse Nat) p => spSet 0 m p.1 p.2) s.steer.classK
  let s := { s with steer := { s.steer with classK := ks } }
  let rest := s.steer.axes.filter (fun p => !f.axes.any (fun r => decide (r.place = s.framePlace p.1)))
  let s := rest.foldl (fun s p => s.modAxis p.1 (loadAxis { place := 0 })) s
  let s := f.axes.foldl (fun s r => match s.axisAt (r.place / 580) (r.place % 580) with | some a => s.copyAxis a r | none => s) s
  let run := if f.seq = (s.pair.lastCopy + 1) % 2 ^ 32 then s.pair.copyRun + 1 else 1
  let s := { s with pair := { s.pair with lastCopy := f.seq, copyRun := run, copy := none, tickAt := none, numbered := true } }
  ((s.fset F.PAIR_SEQ.SEQ f.seq).fset F.PAIR_STATUS.COPY_AGE 0).count 3 1

/-! ## Telemetry (R291) -/

/-- The axis trace cell of a tick (R291). -/
def State.traceItem (s : State) (a prio : Nat) (quads : List Quad) : Item :=
  let x := s.axisNow a
  let q := quadOf quads (mirrorOf a)
  let h := fun (v : Half) => le 2 v.toNat
  { code := 1, kind := 4, prio := prio
    body := padTo 56 (le 8 s.t3ns ++ le 4 s.steer.tick ++ le 2 a ++ le 2 (x.flags.toNat / 65536) ++ h q.qa ++ h q.qb ++ h q.qc ++
                      h q.qd ++ h x.target ++ h x.mLast ++ h x.eLast ++ h x.u ++ h x.ff ++ le 2 0 ++
                      le 8 (ofSigned 64 x.i.toInt) ++ le 4 x.d.toNat) }

/-- Every enabled D2H queue that traces an axis takes its cell (R291). -/
def State.traces (s : State) (quads : List Quad) : State :=
  (s.link.queues.filter (fun p => p.2.en && p.2.dir && decide (p.2.teleSrc = 1) && decide (p.2.teleAxis < 4640))).foldl
    (fun s p => s.push p.1 (s.traceItem p.2.teleAxis p.2.telePrio quads)) s

/-! ## Judging a head's frame (R31) -/

/-- The held results of a head. -/
def State.heldOf (s : State) (h : Nat) : List HeldResult := s.steer.held.filter (fun r => axisSide r.axis = h)

/-- The drive codes the framer sends a head: those of the listed axes; an unlisted axis rests on its park drive (R65). -/
def State.codesOf (s : State) (h : Nat) : List (Nat × Half) :=
  (s.steer.axes.filter (fun p => axisSide p.1 = h)).map (fun p => (p.1, p.2.u))

/-- The drive codes leave with the frame's trailer (R29, R210); a module that does not compute sends none (R203). -/
def State.sendCodes (s : State) (h : Nat) : State :=
  if s.computing then
    let op := if s.pair.parting && s.active then 4 else if h = 1 && s.pair.grantA && !s.pair.grantB then 3 else 0
    let tok := if op = 3 then s.pair.token.getD 0 else 0
    (s.emit (.codes h (s.codesOf h) op tok)).count 1 (8 * h + 5)
  else s

/-- A frame that passes releases the head's held results (R31). -/
def State.frameGood (s : State) (h : Nat) : State :=
  let rs := s.heldOf h
  let s := { s with steer := { s.steer with held := s.steer.held.filter (fun r => axisSide r.axis ≠ h)
                                            lostA := if h = 0 then 0 else s.steer.lostA
                                            lostB := if h = 1 then 0 else s.steer.lostB
                                            judged := merge s.steer.judged [h] } }
  let s := (rs.foldl State.takeResult s).shadowFrame h true
  (s.count 0 15 (rs.filter (fun r => r.new.outNow)).length).sendCodes h

/-- A slot keeps what it held before the tick, except that its trajectory index goes on with the tick count (R52). -/
def Axis.keepTraj (old new : Axis) : Axis := { old with traj := new.traj }

/-- From the fourth loss in a row a lost frame counts as a sample with s = 0 for the test of R47 and the loss timer (R31). -/
def Axis.zeroSample (x : Axis) : Axis :=
  { x with lowRun := x.lowRun + 1, highRun := 0, loss := if x.st = 2 ∨ x.st = 3 then min 127 (x.loss + 1) else x.loss }

/-- A lost frame (R31): the head's held results are discarded and its previous codes repeated. -/
def State.frameLost (s : State) (h : Nat) (badCheck : Bool) : State :=
  let rs := s.heldOf h
  let n := (if h = 0 then s.steer.lostA else s.steer.lostB) + 1
  let s := { s with steer := { s.steer with held := s.steer.held.filter (fun r => axisSide r.axis ≠ h)
                                            lostA := if h = 0 then n else s.steer.lostA
                                            lostB := if h = 1 then n else s.steer.lostB
                                            judged := merge s.steer.judged [h] } }
  let s := (rs.foldl (fun s r => s.modAxis r.axis (fun x => x.keepTraj r.new)) s).shadowFrame h false
  let s := if 4 ≤ n then
      (s.steer.axes.filter (fun p => axisSide p.1 = h && decide (p.2.st ≠ 6))).foldl
        (fun s p => s.modAxis p.1 (fun x => if s.inMove p.1 then x else x.zeroSample)) s
    else s
  let s := s.count 1 (8 * h)
  let s := if badCheck then s.count 1 (8 * h + 1) else s
  (if n = 3 then s.count 1 (8 * h + 2) else s).sendCodes h

/-! ## Control-path data errors (R339) -/

/-- One uncorrectable error of the tick (R339); each makes a severity 5 entry. -/
def State.ctrlErr (s : State) (e : CtrlErr) : State :=
  match e with
  | .loopState a =>
    let x := s.axis a
    let y := { x.noSticky.setMode 3 with rejoin := true }
    let s := { s with steer := { s.steer with held := s.steer.held.map (fun (r : HeldResult) =>
                if r.axis = a then { r with new := y.keepTraj r.new, rep := none } else r) } }
    s.logEntry 5 4 .control .axis 0 a
  | .record off => s.logEntry 5 4 .control .reach 0 ((off - 0x400000) / 0x10000) off
  | .trajSample a => s.logEntry 5 4 .control .axis 0 a
  | .trajHeader a => s.logEntry 5 4 .control .axis 0 a

/-- An axis of a move goes on from its measured position under the limiter, at rest, to a goal (R96, R214, R339). -/
def Axis.fromHere (goal : Half) (x : Axis) : Axis :=
  { x.setSrc 1 with limited := true, moveDone := false, goal := goal, limPos := sval x.mLast * 65536, limVel := 0, limAcc := 0
                    moveFrom := x.mLast, olStart := x.u }

/-- An axis whose trajectory header is lost continues as a stale axis (R96, R339): from its measured position under the limiter
to the target of its pointing-map entry. -/
def State.staleHeader (s : State) (a : Nat) : State :=
  let goal := match s.running with
    | some c => (match c.pathOf a with | some p => s.trimAt a (s.cycleIndex c (axisSide a) p.a p.b) | none => s.park (axisSide a))
    | none => s.park (axisSide a)
  (s.dropBufs [a]).modAxis a (Axis.fromHere goal)

/-! ## SAMPLE_TICK (R29) -/

/-- Counts of 2 ns in a tick: the sample period, ten times that on L2 (R216, R301). -/
def State.tickLen (s : State) : Nat := if s.rung = 2 then 10 * s.steer.period else s.steer.period

/-- Time runs on to the next tick, unless it has already passed it. A module that is not ACTIVE places it after the active's tick of the
copy frame it has (R202). -/
def State.toTick (s : State) : State :=
  let last := if s.active then s.time.lastTick else s.pair.tickAt.getD s.time.lastTick
  let due := last + s.tickLen
  let s := s.advance (due - s.time.tb3)
  { s with time := { s.time with lastTick := s.time.tb3, tb0Prev := s.time.tb0Tick, tb0Tick := s.time.tb0.ns, tb2Tick := s.time.tb2.ns } }

/-- A frame of the tick that ends which was never complete is lost (R31). -/
def State.lateFrame (s : State) (h : Nat) : State :=
  let trained := if h = 0 then s.pair.headA.trained else s.pair.headB.trained
  if s.steer.judged.contains h || (!trained && decide (s.heldOf h = [])) then s else s.frameLost h false

/-- Both heads' frames of the tick that ends. -/
def State.lateFrames (s : State) : State := (s.lateFrame 0).lateFrame 1

/-- Marker of the tick to a head with its windlass header (R29, R210): CLAIM to head A and QUERY to head B in a claim, QUERY_HELD
before a cold one (R213), QUERY from a module that is not ACTIVE. -/
def State.sendMarker (s : State) (h : Nat) : State :=
  let op := if s.pair.coldStep = 1 then 5 else if s.pair.claiming && !s.pair.grantA then (if h = 0 then 2 else 1)
    else if s.active then 0 else 1
  (s.emit (.marker h op s.steer.tick)).count 1 (8 * h + 6) (if op = 1 then 1 else 0)

/-- The tick's markers, and with QUERY_HELD the wait for the heads' held codes (R213). -/
def State.sendMarkers (s : State) : State :=
  let s := (s.sendMarker 0).sendMarker 1
  if s.pair.coldStep = 1 then { s with pair := { s.pair with coldStep := 2, heldCodes := [], heldFrom := [] } } else s

/-- The held code a head reported for an axis (R210). -/
def heldCode (held : List (Nat × Half)) (a : Nat) (d : Half) : Half :=
  match held.find? (fun p => p.1 = a) with | some p => p.2 | none => d

/-- An axis of a cold claim (R213): u is the held code, d is 0, i such that acc equals u, target the measured position. -/
def coldAxis (u m : Half) (x : Axis) : Axis :=
  let x : Axis := if x.st = 1 then x.setSt 0 else x
  { (if x.src = 1 then x.setSrc 0 else x) with u := u, heldDrive := u, d := 0, rejoin := true, stop := false, moveDone := false, target := m }

/-- Every axis of a cold claim, from the held codes and the samples of the claim's tick (R213). -/
def State.coldAxes (s : State) (quads : List Quad) : State :=
  let one := fun (a : Nat) =>
    let q := quadOf quads (mirrorOf a)
    let m := hcode (measure (quadNum q (axisCoord a)) (quadSum q))
    let x := coldAxis (heldCode s.pair.heldCodes a (s.axis a).u) m (s.axis a)
    if x = {} then none else some (a, x)
  { s with steer := { s.steer with rep := [], axes := (List.range 4640).filterMap one } }

/-- A cold claim at the tick (R213): with the held codes of both heads the module claims; without them it asks again. -/
def State.coldTick (s : State) (quads : List Quad) : State :=
  if s.pair.coldStep = 2 then
    if s.pair.heldFrom.contains 0 && s.pair.heldFrom.contains 1 then
      let s := { s with pair := { s.pair with coldStep := 3, claiming := true, takeover := true, planned := false, grantA := false
                                              grantB := false } }
      (s.coldAxes quads).count 3 6
    else { s with pair := { s.pair with coldStep := 1 } }
  else if s.pair.coldStep = 3 && s.pair.claiming && !s.pair.grantA then s.coldAxes quads
  else s

/-- The tick's compute: every axis that is not PARKED in a reach that runs (R33). -/
def State.compute (s : State) (quads : List Quad) (setpt : List Int) (errs : List CtrlErr) : State :=
  let live := s.steer.axes.filter (fun p => decide (p.2.st ≠ 6) && s.reachRuns (s.reachOf p.1))
  let held := live.map (fun p =>
    s.computeAxis p.1 p.2 (quadOf quads (mirrorOf p.1)) setpt (errs.contains (.trajSample p.1)))
  { s with steer := { s.steer with held := held, quads := quads } }

/-- Compute times of the tick (R57 WORK_TIME), which the manual does not fix: one free value for each reach that ran (log 3). -/
def State.workTimes (s : State) : State :=
  ((List.range 9).filter (fun k => decide (s.duty k ≤ 1))).foldl
    (fun s k => let (v, s) := s.draw 65536; s.fset (F.REACH_STATUS.WORK_TIME k) v) s

/-- Comparison of reach 8's codes with the source's (R54): from T_r + 3 ticks on. -/
def State.reliefTick (s : State) : State :=
  match s.steer.relief with
  | some q =>
    if q.shadow && !q.committed && decide (q.tr + 3 ≤ s.steer.tick) then
      s.setRelief (some { q with agree := if s.shadowAgrees q then q.agree + 1 else 0 })
    else s
  | none => s

/-- Entries of standing paths that fail their check are repaired when the tick reads them (R64). -/
def State.readPaths (s : State) : State := s.lock.paths.foldl (fun s q => s.pairRead q.a q.b) s

/-- FLAGS of a PAIR event (R290). -/
def State.pairFlags (s : State) : Nat :=
  s.fget F.PAIR_STATUS.ORPHANED + 2 * s.fget F.PAIR_STATUS.COLD + 4 * s.fget F.PAIR_STATUS.TOOK_OVER

/-- A PAIR event (R209, R290). -/
def State.pairEvent (s : State) (old : Nat) : State :=
  s.event 5 (le 1 old ++ le 1 (s.fget F.PAIR_STATUS.STATE) ++ le 1 (s.fget F.PAIR_STATUS.REASON) ++
             le 1 (s.fget F.PAIR_STATUS.PARTNER) ++ le 4 (s.fget F.PAIR_EPOCH.EPOCH) ++ le 4 (s.fget F.PAIR_SEQ.SEQ) ++ le 1 s.pairFlags)

/-- The pair state and its reason change; a change of state queues a PAIR event (R209) and sends vector 2 (R261). -/
def State.setPair (s : State) (new reason : Nat) : State :=
  let old := s.fget F.PAIR_STATUS.STATE
  let s := (s.fset F.PAIR_STATUS.STATE new).fset F.PAIR_STATUS.REASON reason
  let s : State := if new = 3 then { s with time := { s.time with tb2Free := false } } else s
  let s := if old = 3 ∧ new ≠ 3 then s.dropChecks else s
  if new = old then s else (s.pairEvent old).msix 2

/-- A planned release completes with the codes of its frame (R209, R212): the module becomes STANDBY. -/
def State.releaseDone (s : State) : State :=
  if s.pair.parting && s.active then { s with pair := { s.pair with parting := false } }.setPair 2 0 else s

/-- The end of the tick before: frames never completed, counts, the copy frame, a release that has completed. -/
def State.endTick (s : State) : State := ((((s.lateFrames).settleCounts).noteWritten).sendCopy).releaseDone

/-- The tick's number: a module that has received a copy frame numbers its ticks with the active's SEQ (R45, R202). -/
def State.nextTick (s : State) : Nat :=
  match s.pair.copy with | some f => if s.active then (s.steer.tick + 1) % 2 ^ 32 else (f.seq + 1) % 2 ^ 32
                         | none => (s.steer.tick + 1) % 2 ^ 32

/-- CLEAR pends for the next tick, for the memories a register block serves (R57). -/
def State.pendClear (s : State) (r : Nat) : State :=
  let k := if r = 8 then s.relieving else r
  { s with steer := { s.steer with clearPend := if s.steer.clearPend.contains k ∨ 8 ≤ k then s.steer.clearPend else s.steer.clearPend ++ [k] } }

/-- Axes of the reach in RUN remeasure c_ref over the next full window, not the one in progress (R57). -/
def State.pendRecal (s : State) (r : Nat) : State :=
  let k := if r = 8 then s.relieving else r
  (s.steer.axes.filter (fun p => decide (s.reachOf p.1 = k) && decide (p.2.mode = 0))).foldl
    (fun s p => s.modAll p.1 (fun x => { x with recal := 1 })) s

/-- A mirrored setting comes from the journal (R205), with the CLEAR and RECAL it may carry. -/
def State.takeSetting (s : State) (off : Nat) (v : Word) : State :=
  if !mirrored off || isAxisFlags off then s
  else
    let r := (off - 0x400000) / 0x10000
    let steer := decide (0x400000 ≤ off) && decide (off < 0x490000)
    if steer && decide (off % 0x10000 = 0x10) && decide (v.toNat / 4 % 2 = 1) then s.pendClear r
    else if steer && decide (off % 0x10000 = 0x14) && decide (v.toNat / 2 ^ 14 % 2 = 1) then s.pendRecal r
    else s.setWord off v

/-- CLASS of an axis comes from the journal (R205). -/
def State.takeClass (s : State) (a cls : Nat) : State := s.modAxis a (fun x => x.fset (F.AXIS_FLAGS.CLASS 0 0) cls)

/-- A journalled setting takes effect. -/
def State.applySetting (s : State) (it : JItem) : State :=
  match it with
  | .setting off v | .reloaded off v => s.takeSetting off v
  | .axisClass a c | .reloadedClass a c => s.takeClass a c
  | _ => s

/-- A journalled setting: a reloaded one waits for the boundary, and what comes after it waits behind it (R205). -/
def State.queueSetting (s : State) (it : JItem) : State :=
  let reload := match it with | .reloaded _ _ => true | .reloadedClass _ _ => true | _ => false
  if reload || decide (s.pair.due ≠ []) then { s with pair := { s.pair with due := s.pair.due ++ [it] } } else s.applySetting it

/-- Reloaded settings take effect at the boundary (R205). -/
def State.applyDue (s : State) : State :=
  let items := s.pair.due
  items.foldl State.applySetting { s with pair := { s.pair with due := [] } }

/-- A planned release that waits takes the tick that begins (R212). -/
def State.beginRelease (s : State) : State :=
  if s.pair.releasing.isSome && s.active then { s with pair := { s.pair with parting := true, partTick := s.steer.tick } } else s

/-- The rings this test accepts unlock and keep their heater codes (R232). -/
def State.unlockRings (s : State) (p : Nat → Bool) : State :=
  (List.range 176).foldl (fun s r =>
    if p r && [1, 2, 3].contains (s.fget (F.RING_STATE.STATE r)) then s.fset (F.RING_STATE.STATE r) 0 else s) s

/-- A change of PAIR_CFG.EN takes effect (R384). On L2, cleared, the comb goes dark and the rings unlock; set, the comb is lit and the
tether's rings wait for their search (R232). -/
def State.enFollows (s : State) : State :=
  let s' := { s with pair := { s.pair with enOld := none } }
  if s.rung = 2 ∧ s.pairEn ∧ !s'.pairEn then s'.unlockRings (fun _ => true) else s'

/-- The boundary: the tick's number, the copy frame received (R203), and the writes that wait for it. -/
def State.boundary (s : State) : State :=
  let t := s.nextTick
  let s := if s.active then { s.fset F.PAIR_STATUS.COPY_AGE 0 with pair := { s.pair with copy := none } }
    else match s.pair.copy with
      | some f => s.applyCopy f
      | none => s.fadd F.PAIR_STATUS.COPY_AGE 1
  let s := (s.applyDue).tickCommits
  ({ s with steer := { s.steer with tick := t, undo := [], held := [], judged := [] }, lock := { s.lock with closedNow := false }
            pair := { s.pair with beat := false } }).enFollows.beginRelease

/-- SAMPLE_TICK on a module whose control runs. -/
def tickBody (quads : List Quad) (setpt : List Int) (errs : List CtrlErr) (s : State) : State :=
  let s := (((s.endTick).toTick).boundary).coldTick quads
  let s := errs.foldl (fun s e => match e with | .trajHeader a => s.staleHeader a | _ => s) s
  let s := ((s.readPaths).compute quads setpt errs).computeShadow quads setpt errs
  let s := errs.foldl State.ctrlErr s
  let s := (((s.reliefTick).advanceK).workTimes).traces quads
  (s.sendMarkers).sendReturn

/-- SAMPLE_TICK (R29): on L3 and deeper control is off (R301), and only time goes on (R181). -/
def execSampleTick (quads : List Quad) (setpt : List Int) (errs : List CtrlErr) (s : State) : Out :=
  .next (if s.rung ≤ 2 then tickBody quads setpt errs s else s.toTick)

/-! ## UPLINK_FRAME_LOST and CONTROL_DEADLINE (R31, R52) -/

/-- UPLINK_FRAME_LOST. -/
def execUplinkFrameLost (head : Nat) (badCheck : Bool) (s : State) : Out :=
  ifOk (okHead head) (if s.rung ≤ 2 then s.frameLost head badCheck else s)

/-- A late slot (R52): its state and repetitive memory stay as they were before the tick, and MISS is set. -/
def State.missSlot (s : State) (a : Nat) : State :=
  match s.steer.undo.find? (fun h => h.axis = a) with
  | some h =>
    let new := s.axis a
    let s := s.dropRep a
    let s := { s with steer := { s.steer with undo := s.steer.undo.filter (fun r => r.axis ≠ a) } }
    s.modAxis a (fun _ => (h.new.keepTraj new).fset (F.AXIS_FLAGS.MISS 0 0) 1)
  | none =>
    let s := match s.steer.held.find? (fun h => h.axis = a) with
      | some h => s.modAxis a (fun x => x.keepTraj h.new)
      | none => s
    let s := { s with steer := { s.steer with held := s.steer.held.filter (fun r => r.axis ≠ a) } }
    s.modAxis a (fun x => x.fset (F.AXIS_FLAGS.MISS 0 0) 1)

/-- The reach whose slot is late: reach 8 where it drives the slot (R53). -/
def State.driverOf (s : State) (a : Nat) : Nat := s.lawReach (s.reachOf a)

/-- What a tick with or without late slots leaves in a reach (R52, R53): the first miss of a run is logged, and the relief reach
that misses a third time in a row makes a severity 6 entry. -/
def State.reachDeadline (s : State) (k : Nat) (late : Bool) : State :=
  let run := s.fget (F.REACH_STATUS.MISS_RUN k)
  if late then
    let s := (s.fset (F.REACH_MISS.COUNT k) (s.fget (F.REACH_MISS.COUNT k) + 1)).count 0 k
    let s := s.fset (F.REACH_STATUS.MISS_RUN k) (min 3 (run + 1))
    let s := if run = 0 then s.logEntry 5 4 .control .reach 0 k else s
    if k = 8 ∧ run = 2 then s.logEntry 6 4 .control .reach 0 k else s
  else if run = 0 then s else s.fset (F.REACH_STATUS.MISS_RUN k) 0

/-- A late slot of the source has no new code for the shadowing reach to agree with (R52, R54). -/
def State.shadowLate (s : State) (slots : List Nat) : State :=
  match s.steer.relief with
  | some q => if !q.committed && slots.any (fun a => decide (s.reachOf a = q.source)) then s.setRelief (some { q with agree := 0 }) else s
  | none => s

/-- CONTROL_DEADLINE (R52): late slots keep what they held, and their previous codes are sent in place of the new ones. -/
def deadline (late : List Nat) (s : State) : State :=
  let slots := late.filter (fun a => decide ((s.axis a).st ≠ 6) && s.reachRuns (s.reachOf a))
  let s := (slots.foldl State.missSlot s).shadowLate slots
  let s := if slots = [] then s else
    [0, 1].foldl (fun s h =>
      let cs := (slots.filter (fun a => axisSide a = h)).map (fun a => (a, (s.axis a).u))
      if cs = [] then s else s.emit (.codes h cs 0 0)) s
  (List.range 9).foldl (fun s k => if s.duty k = 0 then s.reachDeadline k (slots.any (fun a => s.driverOf a = k)) else s) s

/-- CONTROL_DEADLINE. -/
def execControlDeadline (late : List Nat) (s : State) : Out :=
  ifOk (late.all okAxis) (if s.rung ≤ 2 then deadline late s else s)

end Sys2Proof.Machine
end

