-- ==== Sys2Proof/Machine/Loss.lean ====
section
/-!
DEFINITION. The transitions of an axis that the counts of the sample tick bring about (R40, R46–R49): each is an event of its
own whose stated condition is checked on the axis as it stands, held result or stored state, and which otherwise does nothing
(log 7).
-/

namespace Sys2Proof.Machine

/-- ⌈2 ms / P⌉ (R48), with P the interval between ticks. -/
def State.lossTicks (s : State) : Nat := if s.tickLen = 0 then 0 else (1000000 + s.tickLen - 1) / s.tickLen

/-- A frozen axis that loses its light as well (R47): it is BLIND on the drive it holds, without dither, its loss timer going on;
one already in open loop is BLIND_OL (log 66). -/
def frozenBlind (x : Axis) : Axis :=
  let y := { x with u := x.heldDrive, lowRun := 0, highRun := 0, winOk := false }
  (y.setSt (if x.st = 5 then 4 else 2)).fset (F.AXIS_FLAGS.BLIND_SEEN 0 0) 1

/-- An axis enters BLIND (R47, R48): the tick's compute is taken back, the held drive is sent, the loss timer starts. -/
def enterBlind (old x : Axis) : Axis :=
  if x.held then frozenBlind x
  else
    let y := { x with
      i := old.i, d := old.d, ePrev := old.ePrev, offset := old.offset, heldDrive := old.heldDrive, u := old.heldDrive
      target := old.target, ff := old.ff, rejoin := false, loss := 1, lowRun := 0, highRun := 0, winOk := false }
    ((y.setSt 2).fset (F.AXIS_FLAGS.BLIND_SEEN 0 0) 1).fset (F.AXIS_FLAGS.OUT_NOW 0 0) (if old.outNow then 1 else 0)

/-- The held drive of an axis about to enter loss is that of the tick before: the stored state where this tick's result is still
held or was lost, else what the tick replaced. -/
def State.axisPrev (s : State) (a : Nat) : Axis :=
  if s.steer.held.any (fun h => h.axis = a) then s.axis a else s.axisBefore a

/-- BLIND_ENTRY (R47): 2 consecutive samples with s >> 2 below SUM_MIN, outside SLEW and CAPTURE (R51), of an axis that is not
PARKED and not already BLIND. -/
def blindEntry (a : Nat) (s : State) : State :=
  let x := s.axisNow a
  if 2 ≤ x.lowRun ∧ (x.st = 0 ∨ x.st = 1 ∨ x.st = 3 ∨ x.st = 5) ∧ s.inMove a = false then
    let old := s.axisPrev a
    ((((s.dropRep a).modNow a (enterBlind old)).count 0 11)).refreshAxisPath a
  else s

/-- BLIND_ENTRY. -/
def execBlindEntry (axis : Nat) (s : State) : Out := ifOk (okAxis axis) (blindEntry axis s)

/-- An axis leaves loss into RECOVERY (R49); its first closed-loop tick follows. REGION starts from the value it last had in a mode
that uses the schedule: the manual does not say where it starts (DESIGN CHOICE, log 66). -/
def leaveLoss (x : Axis) : Axis :=
  { (x.setSt (if x.src = 1 then 1 else 0)).setMode 3 with
    rejoin := true, loss := 0, lowRun := 0, highRun := 0, downRun := 0, zeroRun := 0 }

/-- BLIND_EXIT (R47): 16 consecutive samples at or above SUM_MIN + (SUM_MIN >> 2). -/
def blindExit (a : Nat) (s : State) : State :=
  let x := s.axisNow a
  if 16 ≤ x.highRun ∧ (x.st = 2 ∨ x.st = 4) then (s.modNow a leaveLoss).refreshAxisPath a else s

/-- BLIND_EXIT. -/
def execBlindExit (axis : Nat) (s : State) : Out := ifOk (okAxis axis) (blindExit axis s)

/-- The judgement of a full window (R46, R318, R57): a reference still to be measured is stored; an axis whose c lies below
c_ref >> FRZ_FRAC enters FROZEN, unless its c_ref is 0; a frozen one whose c reaches twice that leaves. -/
def judgeWindow (frac : Nat) (active : Bool) (x : Axis) : Axis :=
  let thr := shr frac x.cRef
  let x1 := { x with winLen := 0 }
  if x.winRun && active && (decide (x.recal = 2) || decide (x.cRef = 0)) then
    { x1 with cRef := x.cSum, recal := if x.recal = 2 then 0 else x.recal }
  else if x.st = 0 then
    if x.cRef ≠ 0 ∧ x.cSum < thr then { (x1.setSt 3).fset (F.AXIS_FLAGS.FROZEN_SEEN 0 0) 1 with loss := 0 } else x1
  else if 2 * thr ≤ x.cSum then leaveLoss x1
  else x1

/-- FREEZE_WINDOW_END (R46): the aligned 256-sample window has ended; only a window that qualifies throughout is judged. -/
def freezeWindowEnd (a : Nat) (s : State) : State :=
  let x := s.axisNow a
  if x.winLen = 256 then
    if x.winOk then
      let frac := s.fget (F.DITHER_CTRL.FRZ_FRAC (s.lawReach (s.reachOf a)))
      let y := judgeWindow frac s.active x
      let s := s.modNow a (judgeWindow frac s.active)
      (if x.st = 0 ∧ y.st = 3 then s.count 0 12 else s).refreshAxisPath a
    else s.modNow a (fun x => { x with winLen := 0 })
  else s

/-- FREEZE_WINDOW_END. -/
def execFreezeWindowEnd (axis : Nat) (s : State) : Out := ifOk (okAxis axis) (freezeWindowEnd axis s)


/-- The open-loop drive of an axis in its present pair and bin with its offset, where the entry is usable (R48, R64). -/
def State.openDrive (s : State) (a : Nat) (x : Axis) : Option Half :=
  match s.pairOf a with
  | some (pa, pb) =>
    if s.mapUsable (s.pairIndex (axisSide a) pa pb) then
      some (hcode (satI 16 (sval (s.olDrive a pa pb) + sval x.offset)))
    else none
  | none => none

/-- An axis changes to open loop (R48): state 4 or 5, on the drive given; with none it holds its last drive (R64). -/
def goOpenLoop (drive : Option Half) (x : Axis) : Axis :=
  let dith := sval x.u - sval x.heldDrive
  let y := x.setSt (x.st + 2)
  match drive with
  | some v => { y with heldDrive := v, u := hcode (satI 16 (sval v + dith)) }
  | none => y

/-- OPEN_LOOP_ENTRY (R48): the loss timer of a BLIND or FROZEN axis has reached ⌈2 ms / P⌉ ticks. -/
def openLoopEntry (a : Nat) (s : State) : State :=
  let x := s.axisNow a
  if (x.st = 2 ∨ x.st = 3) ∧ s.lossTicks ≤ x.loss then
    let s := match s.pairOf a with
      | some (pa, pb) => (s.mapRead (s.pairIndex (axisSide a) pa pb)).2.2
      | none => s
    ((s.modNow a (goOpenLoop (s.openDrive a x))).count 0 13).refreshAxisPath a
  else s

/-- OPEN_LOOP_ENTRY. -/
def execOpenLoopEntry (axis : Nat) (s : State) : Out := ifOk (okAxis axis) (openLoopEntry axis s)

/-- REGION_FALL (R40): |e| has stayed below the next lower threshold for 2^DOWN_HOLD samples. -/
def regionFall (a : Nat) (s : State) : State :=
  let x := s.axisNow a
  let law := s.lawReach (s.reachOf a)
  if decide (x.mode ≠ 0) && decide (0 < x.region) && decide (2 ^ s.fget (F.SCHED_CTRL.DOWN_HOLD law) ≤ x.downRun) then
    s.modNow a (fun x => { x.fset (F.AXIS_FLAGS.REGION 0 0) (x.region - 1) with downRun := 0, zeroRun := 0 })
  else s

/-- REGION_FALL. -/
def execRegionFall (axis : Nat) (s : State) : Out := ifOk (okAxis axis) (regionFall axis s)

/-- RUN_EXIT in force: 0 acts as 1 (R57). -/
def State.runExitLen (s : State) (law : Nat) : Nat := max 1 (s.fget (F.SCHED_CTRL.RUN_EXIT law))

/-- RUN_EXIT (R40): an axis in CAPTURE_START or RECOVERY with RUN_EXIT consecutive samples in region 0 returns to RUN. -/
def runExit (a : Nat) (s : State) : State :=
  let x := s.axisNow a
  let law := s.lawReach (s.reachOf a)
  if (x.mode = 1 ∨ x.mode = 3) ∧ x.held = false ∧ s.runExitLen law ≤ x.zeroRun then
    s.modNow a (fun x => { x.setMode 0 with zeroRun := 0 })
  else s

/-- RUN_EXIT. -/
def execRunExit (axis : Nat) (s : State) : Out := ifOk (okAxis axis) (runExit axis s)

end Sys2Proof.Machine
end

