-- ==== Sys2Proof/Machine/Pound.lean ====
section
/-!
DEFINITION. Pounds (R334, R337, R390): taking the image values of a pound's fields, its POUND_STATUS, and the mirrored settings
(R205).
-/

namespace Sys2Proof.Machine

/-- Every field coded I of the words that own accepts takes its image value: its reset value where the image gives none. -/
def State.imageAll (s : State) (own : Nat → Bool) : State :=
  let vals := match s.image with | some i => i.vals | none => []
  let regs := mapWords (fun k v => if own k then imageInto (rowsOf k) (fun _ => true) (resetWord k) v else v) s.regs
  { s with regs := putImage vals own (fun _ => true) regs }

/-- The axis map of a reach is loaded (R27, R328): the axes the image places in it lie there, and an axis of its own that the image
leaves unnamed is in its default place again. -/
def State.imageMap (s : State) (reach : Nat) : State :=
  let named := match s.image with | some i => i.axisMap | none => []
  let home := s.steer.axisMap.filter (fun p => decide (p.1 / 580 = reach) && !named.any (fun q => decide (q.1 = p.1)))
  let m := home.foldl (fun m p => spSet 0 m p.1 0) s.steer.axisMap
  let mine := named.filter (fun q => decide (q.2 / 1024 = reach))
  { s with steer := { s.steer with axisMap := mine.foldl (fun m q => spSet 0 m q.1 (q.2 + 1)) m } }

/-- CLASS of every slot of a reach takes its image value (R390). -/
def State.imageClasses (s : State) (reach : Nat) : State :=
  let cls := match s.image with | some i => classImage i.vals reach | none => []
  let listed := (s.steer.axes.filter (fun p => s.reachOf p.1 = reach)).map (·.1)
  let named := cls.filterMap (fun c => s.axisAt reach c.1)
  (listed ++ named).foldl
    (fun s a =>
      let v := match cls.find? (fun c => c.1 = s.slotOf a) with | some c => c.2 | none => 0
      s.modAxis a (fun x => x.fset (F.AXIS_FLAGS.CLASS 0 0) v)) s

/-- State and load count of a pound (R337). -/
def State.poundState (s : State) (n : Nat) : Nat := s.fget (F.POUND_STATUS.STATE n)

/-- A pound's state changes: vector 6 (R261). -/
def State.setPound (s : State) (n v : Nat) : State :=
  if s.poundState n = v then s else (s.fset (F.POUND_STATUS.STATE n) v).msix 6

/-- A pound is loaded: IN_SERVICE, with LOADS one higher (R337). -/
def State.poundUp (s : State) (n : Nat) : State := (s.setPound n 2).fadd (F.POUND_STATUS.LOADS n) 1

/-- The contents of pound n are loaded from the active image at boot: all its fields coded I (R313, R381). -/
def State.bootPound (s : State) (n : Nat) : State :=
  let s := s.imageAll (fun off => ownerOf off = n)
  (if n < 9 then (s.imageMap n).imageClasses n else s).poundUp n

/-- The ACTIVE module journals the new values of every mirrored setting of a reloaded pound (R205), those that returned to their reset
values among them; old are the words and axes that had other values before. -/
def State.journalPound (s : State) (old : List Nat) (axes : List Nat) (n : Nat) : State :=
  let words := (merge old (s.regs.map (·.1))).filter (fun off => ownerOf off = n && mirrored off && !isAxisFlags off)
  let s := words.foldl (fun s off => s.sendJournal (.reloaded off (s.word off))) s
  if n < 9 then
    ((merge axes (s.steer.axes.map (·.1))).filter (fun a => s.reachOf a = n)).foldl
      (fun s a => s.sendJournal (.reloadedClass a (s.axis a).cls)) s
  else s

/-- A live reload of pound n (R334): its fields coded I take their image values, on a module that is not ACTIVE with the
mirrored settings left as journalled; STALE clears. -/
def State.reloadPound (s : State) (n : Nat) : State :=
  if s.active then
    let old := s.regs.map (·.1)
    let axes := s.steer.axes.map (·.1)
    let s := s.imageAll (fun off => ownerOf off = n)
    let s := if n < 9 then (s.imageMap n).imageClasses n else s
    (s.journalPound old axes n).poundUp n
  else
    let s := s.imageAll (fun off => ownerOf off = n && !mirrored off)
    (if n < 9 then s.imageMap n else s).poundUp n

/-- A reload of a pound begins: RELOADING, and its unlock clears (R384). -/
def State.reloadBegin (s : State) (n : Nat) : State :=
  (s.setPound n 3).fset (F.POUND_STATUS.UNLOCK n) 0

/-- A pound's RWL fields are writable (R384). -/
def State.unlocked (s : State) (n : Nat) : Bool := s.bit (F.POUND_STATUS.UNLOCK n)

/-! ## Host writes of registers (R314, R334, R385, R205) -/

/-- A write of a register of a pound that is RELOADING is lost (R334). -/
def State.reloading (s : State) (off : Nat) : Option Nat :=
  let n := ownerOf off
  if n < 15 ∧ s.poundState n = 3 then some n else none

/-- A write reaches its register: the lockkeeper cores have started, or the block is KEEL or STRUCT (R314); on L3 only KEEL,
POWER, TIME and STRUCT; below that the link is down (R385). The MSI-X table answers like them (log 22). -/
def State.reaches (s : State) (off : Nat) : Bool :=
  let blk := off / 0x100000
  (s.boot.coresUp || blk = 0 || decide (15 ≤ blk)) &&
  (decide (s.rung ≤ 2) || (s.rung = 3 && (decide (blk ≤ 2) || decide (15 ≤ blk))))

/-- A host write of the word at an offset, with k its effect where it takes effect (R314, R334, R385). -/
def State.hostWrite (s : State) (off : Nat) (k : State → State) : State :=
  if s.reaches off then
    match s.reloading off with
    | some n => s.sticky (F.POUND_STATUS.WRITE_LOST n) (some 6)
    | none => k s
  else s

/-- A host write of a mirrored setting (R205): on a module that is not ACTIVE it has no effect, and sets WRITE_IGN where it
would have changed something. -/
def State.mirrorWrite (s : State) (changes : Bool) (k : State → State) : State :=
  if s.active then k s else if changes then s.fset F.PAIR_STATUS.WRITE_IGN 1 else s

end Sys2Proof.Machine
end

