-- ==== Sys2Proof/Machine/Relief.lean ====
section
/-!
DEFINITION. The relief reach (R53–R55): requests, shadowing, commit, abandonment and return.
-/

namespace Sys2Proof.Machine

/-- Offsets of a reach's block that reach 8 loads at T_r (R54), with SCHED_CTRL, REP_CTRL and DITHER_CTRL (log 21). -/
def reliefWord (r off : Nat) : Bool :=
  decide (0x400000 + r * 0x10000 ≤ off) && decide (off < 0x400000 + (r + 1) * 0x10000) &&
  (isRecord off || [0x08, 0x0C, 0x10, 0x14].contains (off % 0x10000))

/-- Reach 8 loads the records and settings of a reach (R54). -/
def State.loadRelief (s : State) (r : Nat) : State :=
  let base := s.regs.filter (fun p => !reliefWord 8 p.1)
  let src := s.regs.filter (fun p => reliefWord r p.1)
  { s with regs := src.foldl (fun m p => wordSet m (p.1 - r * 0x10000 + 8 * 0x10000) p.2) base }


/-- Reach 8 is free to take over: it serves no reach and is not being reloaded (R23, R334). -/
def State.reliefFree (s : State) : Bool := s.steer.relief.isNone && decide (s.poundState 8 ≠ 3)

/-- A takeover or return is in progress: from T_r to its commit or failure (R55, R302). -/
def State.reliefBusy (s : State) : Bool :=
  match s.steer.relief with | some q => !q.committed || q.returning | none => false


/-- Accept a request for a takeover at T_r (R54). -/
def State.startRelief (s : State) (r : Nat) (t : ReliefTrigger) (cmd : Option Src) : State :=
  (s.loadRelief r).setRelief
    (some { source := r, trigger := t, tr := s.steer.tick, shadow := false, agree := 0, copied := false, committed := false,
            returning := false, cmd := cmd })

/-- POUND_RELOAD of a reach asks for its takeover (R53, R334); one that reach 8 already serves is reloaded under the takeover it has
(log 66). -/
def State.reloadRelief (s : State) (n : Nat) (src : Src) : State :=
  match s.steer.relief with
  | some q =>
    if q.source = n ∧ q.committed then
      (s.setRelief (some { q with trigger := .reload, cmd := some src, returning := false, shadow := false, loop := [], fresh := [] })).reloadBegin n
    else s.setRelief (some { q with trigger := .reload, cmd := some src })
  | none => s.startRelief n .reload (some src)

/-- MISS_RUN_RELIEF (R53): a reach whose MISS_RUN is 3 takes the relief reach, or, where that serves another, stays on its own
engine with a severity 6 entry (R23); a takeover of the same reach in progress goes on. -/
def missRunRelief (r : Nat) (s : State) : State :=
  if s.fget (F.REACH_STATUS.MISS_RUN r) = 3 ∧ s.duty r = 0 ∧ s.relieving ≠ r then
    if s.reliefFree then s.startRelief r .misses none
    else (s.fset (F.REACH_STATUS.RELIEF_BUSY r) 1).logEntry 6 4 .control .reach 0 r
  else s

/-- MISS_RUN_RELIEF. -/
def execMissRunRelief (reach : Nat) (s : State) : Out := ifOk (decide (reach < 8)) (missRunRelief reach s)

/-- RELIEVE (R53): a host request by REACH_CTRL.RELIEVE; one made while reach 8 serves another reach sets RELIEF_BUSY, and one
for a reach already served or for reach 8 itself changes nothing. -/
def relieve (r : Nat) (s : State) : State :=
  if r = 8 ∨ s.relieving = r then s
  else if s.reliefFree then s.startRelief r .software none
  else s.fset (F.REACH_STATUS.RELIEF_BUSY r) 1

/-- RELIEVE. -/
def execRelieve (reach : Nat) (s : State) : Out := 
  ifOk (okReach reach) (s.hostWrite (0x400000 + reach * 0x10000) (relieve reach))

/-- RELIEF_SHADOWING (R54, R55): two ticks after T_r, the loop state of every slot is copied, with what its head's frame is still
to release, and the shadowing reach computes from it. -/
def reliefShadowing (s : State) : State :=
  match s.steer.relief with
  | some q =>
    if !q.shadow && (!q.committed || q.returning) && decide (q.tr + 2 ≤ s.steer.tick) then
      let mine := fun (a : Nat) => decide (s.reachOf a = q.source)
      s.setRelief (some { q with
        shadow := true, agree := 0
        loop := (s.steer.axes.filter (fun p => mine p.1)).map (fun p => shadowOf p.1 p.2)
        fresh := (s.steer.held.filter (fun h => mine h.axis)).map (fun h => shadowOf h.axis h.new) })
    else s
  | none => s

/-- RELIEF_SHADOWING. -/
def execReliefShadowing (s : State) : Out := .next (reliefShadowing s)

/-- RELIEF_COMMIT (R54): the copy is complete and, for software or reload, every code agreed on 2 consecutive ticks, within 10
ticks of T_r. The framer takes the slots' codes from reach 8; a reload then begins on the source pound (R334). -/
def reliefCommit (s : State) : State :=
  match s.steer.relief with
  | some q =>
    if q.shadow && !q.committed && (decide (q.trigger = .misses) || decide (2 ≤ q.agree)) && decide (s.steer.tick ≤ q.tr + 10) then
      let s := ((s.takeShadow q).setRelief
        (some { q with committed := true, copied := true, shadow := false, loop := [], fresh := [] })).count 0 9
      let s := (s.fset (F.REACH_STATUS.MISS_RUN q.source) 0).spareIn 4 .reach q.source 8 true
      if q.trigger = .reload then s.reloadBegin q.source else s
    else s
  | none => s

/-- RELIEF_COMMIT. -/
def execReliefCommit (s : State) : Out := .next (reliefCommit s)

/-- RELIEF_ABANDON (R54): at T_r + 10 ticks the comparison has not passed; the source keeps driving and the request fails with a
severity 5 entry. -/
def reliefAbandon (s : State) : State :=
  match s.steer.relief with
  | some q =>
    if !q.committed && decide (q.trigger ≠ .misses) && decide (q.tr + 10 ≤ s.steer.tick) then
      let s := ((s.setRelief none).logEntry 5 4 .control .reach 0x4C q.source).count 0 10
      match q.cmd with
      | some src => ({ s with boot := { s.boot with reload := none } }).complete 0x50 src .failed Reason.takeover.code
      | none => s
    else s
  | none => s

/-- RELIEF_ABANDON. -/
def execReliefAbandon (s : State) : Out := .next (reliefAbandon s)

/-- RETURN (R55): acts only while DUTY reads RELIEVED, the relief was for misses or by software, and no takeover or return is in
progress; otherwise RETURN_ERR is set. -/
def returnReach (r : Nat) (s : State) : State :=
  match s.steer.relief with
  | some q =>
    if q.source = r ∧ q.committed ∧ q.trigger ≠ .reload ∧ q.returning = false then
      s.setRelief (some { q with returning := true, shadow := false, tr := s.steer.tick, loop := [], fresh := [] })
    else s.fset (F.REACH_STATUS.RETURN_ERR r) 1
  | none => s.fset (F.REACH_STATUS.RETURN_ERR r) 1

/-- RETURN. -/
def execReturnReach (reach : Nat) (s : State) : Out := 
  ifOk (okReach reach) (s.hostWrite (0x400000 + reach * 0x10000) (returnReach reach))

/-- The load of a relieved reach's pound is over (R55, R334): its records and LAW_BANK_SEL come from the image, and its return
begins. -/
def State.reloadRelieved (s : State) (q : Relief) : State :=
  (s.reloadPound q.source).setRelief
    (some { q with returning := true, shadow := false, tr := s.steer.tick, loop := [], fresh := [] })

/-- RELIEF_RETURN (R55): the copy back is complete and the shadowing reach takes its slots again, without comparison. A return
from a reload completes its command. -/
def reliefReturn (s : State) : State :=
  match s.steer.relief with
  | some q =>
    if q.committed ∧ q.returning ∧ q.shadow then
      let s := ((s.takeShadow q).setRelief none).spareBack 8
      if q.trigger = .reload then
        let s := { s with boot := { s.boot with reload := none } }
        match q.cmd with
        | some src => s.complete 0x50 src .done
        | none => s
      else s
    else s
  | none => s

/-- RELIEF_RETURN. -/
def execReliefReturn (s : State) : Out := .next (reliefReturn s)

end Sys2Proof.Machine
end

