-- ==== Sys2Proof/Machine/PortOps.lean ====
section
/-!
DEFINITION. Customer ports (R241–R254): numbering, the live plan, changes of state, light, and the verdicts of berth checks.
-/

namespace Sys2Proof.Machine

/-! ## Numbering (R6, R242, R249) -/

/-- The plan-entry index of mirror 0–2,319; service mirrors have none (R242). -/
def entryOf (m : Nat) : Option Nat := if m % 1160 < 1152 then some (m / 1160 * 1152 + m % 1160) else none

/-- The mirror of a port. -/
def mirrorOfEntry (p : Nat) : Nat := p / 1152 * 1160 + p % 1152

/-- PORT as identity frames and events code it (R249): [15] side, [10:0] mirror. -/
def portCode (p : Nat) : Nat := p / 1152 * 32768 + p % 1152

/-- The 48 bytes of an identity frame the module sends about port p (Table: Identity frame, R249). -/
def State.identBytes (s : State) (type nonce p : Nat) : List Byte :=
  let b := be 2 0xB3E7 ++ be 1 1 ++ be 1 0 ++ be 1 type ++ be 1 0 ++ be 2 nonce ++ be 1 (s.fget F.KEEL_STRAPS.PLANE) ++
    be 1 (s.fget F.KEEL_STRAPS.SWITCH_ID) ++ be 2 (portCode p) ++ List.replicate 32 0
  b ++ be 4 (crc32c b)

/-- An identity frame goes out on lane 0 of the service port that reaches port p (R249). -/
def State.sendIdent (s : State) (type nonce p : Nat) : State := s.emit (.identFrame p (s.identBytes type nonce p))

/-! ## The live plan (R242, R243) -/

/-- Live-plan entry: POD + 2^16 × UPLINK + 2^24 × FLAGS. -/
def State.planOf (s : State) (p : Nat) : Nat := spGet 0 s.fabric.plan p

/-- The entry is PLANNED. -/
def State.planned (s : State) (p : Nat) : Bool := s.planOf p / 2 ^ 24 % 2 = 1

/-- The entry plans this identity, POD + 2^16 × UPLINK. -/
def State.plans (s : State) (p f : Nat) : Bool := s.planned p && decide (s.planOf p % 2 ^ 24 = f)

/-- Change a live-plan entry; the change travels to the standby (R243). -/
def State.setPlan (s : State) (p v : Nat) : State :=
  ({ s with fabric := { s.fabric with plan := spSet 0 s.fabric.plan p v } }).sendJournal (.livePlan p v)

/-- The live plan is taken from the active structure image (R243): one built for another plane or switch makes a severity 6
entry, and every entry of it counts as not PLANNED. -/
def State.takePlan (s : State) : State :=
  match s.image with
  | none => s
  | some i =>
    let wrong := decide (i.cabPlane ≠ s.fget F.KEEL_STRAPS.PLANE) || decide (i.cabSwitch ≠ s.fget F.KEEL_STRAPS.SWITCH_ID)
    let plan := i.cabling.foldl (fun m e => if e.1 < 2304 then spSet 0 m e.1 (if wrong then e.2 % 2 ^ 24 else e.2) else m) []
    let s := { s with fabric := { s.fabric with plan := plan, refresh := i.refresh } }
    if wrong then s.logEntry 6 5 .component .module 0 (i.cabPlane + 256 * i.cabSwitch) else s

/-! ## Changes of state (R245) -/

/-- Two circuits: a standing path that is no berth circuit, or a path of the running cycle, holds the port's mirror. -/
def State.circuit (s : State) (p : Nat) : Bool :=
  let m := mirrorOfEntry p
  let on := fun (a b : Nat) => decide (m = a) || decide (m = 1160 + b)
  let berth := s.fabric.berths.any (fun q => decide (q.1 = p))
  (s.lock.paths.any (fun q => on q.a q.b) && !berth) ||
  (match s.running with | some c => !c.berth && c.paths.any (fun q => on q.a q.b) | none => false)

/-- FLAGS of a port record (R253). -/
def State.portFlags (s : State) (p : Nat) : Nat :=
  let x := s.port p
  x.light.toNat + 2 * x.unverified.toNat + 4 * x.checking.toNat + 8 * (s.circuit p).toNat + 16 * x.loopCap.toNat

/-- A port takes a state and a reason (R245): a change of either raises PORT_GEN, queues a PORT event, makes a logbook entry,
and is journalled with PORT_GEN (R204). -/
def State.setPort (s : State) (p st reason : Nat) : State :=
  let x := s.port p
  if x.state = st ∧ x.reason = reason then s
  else
    let s := s.modPort p (fun x => { x with state := st, reason := reason })
    let g := (s.fget F.PORT_GEN.GEN + 1) % 2 ^ 32
    let s := s.fset F.PORT_GEN.GEN g
    let s := (s.sendJournal (.portState p st reason)).sendJournal (.portGen g)
    let s := s.event 4 (le 2 (portCode p) ++ le 1 x.state ++ le 1 st ++ le 1 reason ++ le 1 0 ++ le 2 (s.portFlags p) ++ le 4 g)
    let grave := decide (x.state ≠ st) && (decide (st = 0) || decide (st = 4) || decide (st = 5))
    s.logEntry (if grave then 4 else 3) 5 .environment .port reason p

/-- A port in which new circuits are refused (R244, R81): ABSENT, QUARANTINED, FAILED or SERVICE. -/
def State.portRefuses (s : State) (p : Nat) : Bool := [0, 4, 5, 6].contains (s.port p).state


/-- A check ends without a verdict (R253); again says that it is repeated in a later pass. -/
def State.endCheck (s : State) (p : Nat) (again : Bool) : State :=
  let s := s.modPort p (fun x => { x with checking := false, hellos := 0, queued := again })
  if again then s else s.berthDone p

/-! ## Verdicts (R251) -/

/-- The identity a port's far end has given since it last gained light: POD + 2^16 × UPLINK (log 23). -/
def Port.found (x : Port) : Option Nat := if x.known && x.light then some (x.foundPod + 2 ^ 16 * x.foundUplink) else none

/-- A port another port's check may quarantine (R251, log 24): not FAILED, in SERVICE, or in a HOST quarantine. -/
def Port.judged (x : Port) : Bool := !(x.state = 5 || x.state = 6 || (x.state = 4 && x.reason = 4))

/-- Ports other than p that p2 accepts. -/
def others (p : Nat) (p2 : Nat → Bool) : List Nat := (List.range 2304).filter (fun y => decide (y ≠ p) && p2 y)

/-- The state and reason the first applicable row of Table: Check verdicts gives port p, with what it does to other ports. -/
def State.applyVerdict (s : State) (p : Nat) : State :=
  let x := s.port p
  match x.found with
  | none =>
    if s.planned p then (s.modPort p (fun x => { x with unverified := true })).setPort p 2 0 else s.setPort p 4 1
  | some f =>
    let twins := (s.fabric.ports.filter (fun q => decide (q.1 ≠ p) && q.2.found = some f)).map (·.1)
    if twins ≠ [] then
      twins.foldl (fun s y => if (s.port y).judged then s.setPort y 4 3 else s) (s.setPort p 4 3)
    else if s.plans p f then
      if x.farVer / 16 ≠ 1 then s.setPort p 3 0
      else (s.modPort p (fun x => { x with unverified := false })).setPort p 2 0
    else
      let owners := (s.fabric.plan.filter (fun q => decide (q.1 ≠ p) && s.plans q.1 f)).map (·.1)
      if owners ≠ [] then
        owners.foldl (fun s y => if (s.port y).judged && (s.port y).light then s.setPort y 4 2 else s) (s.setPort p 4 2)
      else s.setPort p 4 1

/-- A check of port p ends with a verdict (R251, R252). -/
def State.verdict (s : State) (p : Nat) : State :=
  let now := s.time.tb3
  let s := s.modPort p (fun x => { x with checking := false, hellos := 0, queued := false, failures := 0, checkedAt := now })
  (s.applyVerdict p).berthDone p

/-- A berth path of port p failed its cycle (R251): the state is unchanged, and the third failure in a row makes it FAILED with
reason CAPTURE. -/
def State.berthFailed (s : State) (p : Nat) : State :=
  let n := (s.port p).failures + 1
  let s := s.modPort p (fun x => { x with checking := false, hellos := 0, failures := n, queued := decide (n < 3) })
  if n < 3 then s else (s.setPort p 5 5).berthDone p

/-- A port whose entry stopped being PLANNED is judged again (R246, R252). -/
def State.rejudge (s : State) (p : Nat) : State :=
  let x := s.port p
  if x.state = 0 then s.setPort p 1 0
  else if x.state = 2 ∨ x.state = 3 ∨ (x.state = 4 ∧ x.reason ≠ 4) then s.applyVerdict p
  else s

end Sys2Proof.Machine
end

