-- ==== Sys2Proof/Machine/SteerRegs.lean ====
section
/-!
DEFINITION. Host writes of the steering registers (R36–R39, R56–R58, R205, R384), STEP/DIR (R44, R369) and SETPOINT_ROUTE (R43).
-/

namespace Sys2Proof.Machine

/-- BAR0 offset of a register of a reach's block (R57). -/
def reachReg (r o : Nat) : Nat := 0x400000 + r * 0x10000 + o

/-- BAR0 offset of the AXIS_FLAGS word of a slot (R57). -/
def flagsOff (r j : Nat) : Nat := 0x402000 + r * 0x10000 + 4 * j

/-! ## SWAP (R36, R38, R39, R56) -/

/-- The requested swaps pend in every block that commits with this one. -/
def requestSwap (r : Nat) (classes : Nat) (s : State) : State :=
  (s.gangOf r).foldl (fun s k => s.fset (F.LAW_BANK_SEL.SWAP k) (s.fget (F.LAW_BANK_SEL.SWAP k) ||| classes)) s

/-- SWAP (R38): a write of 1s to LAW_BANK_SEL.SWAP. -/
def execSwap (reach : Nat) (classes : BitVec 16) (s : State) : Out :=
  ifOk (okReach reach)
    (s.hostWrite (reachReg reach 8) (fun s => s.mirrorWrite (decide (classes ≠ 0)) (requestSwap reach classes.toNat)))

/-- One class's pending swap commits in one block (R36, R38, R39): an invalid record leaves the bank and sets BANK_ERR; a changed
REP_PERIOD clears the class's memories and restarts its index. -/
def swapClass (k c : Nat) (s : State) : State :=
  let old := s.activeBank k c
  let b := s.bank k c (1 - old)
  if b.valid then
    let act := s.fget (F.LAW_BANK_SEL.ACTIVE k)
    let n := (s.bank k c old).n
    let s := s.fset (F.LAW_BANK_SEL.ACTIVE k) (Nat.xor act (2 ^ c))
    let axes := if k = 8 ∧ s.relieving < 8 then s.relieving else k
    if b.n = n then s else (s.clearReachRep axes (fun x => decide (x.cls = c))).setClassK axes c 0
  else s.fset (F.REACH_STATUS.BANK_ERR k) 1

/-- Every pending swap of one block commits. -/
def swapBlock (k : Nat) (s : State) : State :=
  let pend := s.fget (F.LAW_BANK_SEL.SWAP k)
  let s := ((List.range 16).filter (fun c => pend / 2 ^ c % 2 = 1)).foldl (fun s c => swapClass k c s) s
  s.fset (F.LAW_BANK_SEL.SWAP k) 0

/-- SWAP_COMMIT (R38): the pending swaps of a reach commit at the tick, with those of its gang. -/
def execSwapCommit (reach : Nat) (s : State) : Out :=
  ifOk (okReach reach) ((s.gangOf reach).foldl (fun s k => swapBlock k s) s)

/-! ## GANG_CHANGE (R56) -/

/-- GANG as a read shows it: the value written, before it takes effect (R383). -/
def State.gangShown (s : State) (r : Nat) : Nat :=
  match s.steer.gangPend.find? (fun p => p.1 = r) with | some p => p.2 | none => s.fget (F.GANG_CTRL.GANG r)

/-- A written GANG waits for the next tick boundary (R56); while an axis of the reach is between OPEN and CLOSE a change is ignored,
with GANG_ERR. -/
def gangChange (r g : Nat) (s : State) : State :=
  if s.gangShown r = g then s
  else if s.reachInCycle r then s.fset (F.REACH_STATUS.GANG_ERR r) 1
  else
    let rest := s.steer.gangPend.filter (fun p => p.1 ≠ r)
    { s with steer := { s.steer with gangPend := if s.fget (F.GANG_CTRL.GANG r) = g then rest else rest ++ [(r, g)] } }

/-- GANG_CHANGE. -/
def execGangChange (reach gang : Nat) (s : State) : Out :=
  ifOk (okReach reach && decide (gang < 4))
    (s.hostWrite (reachReg reach 0x18)
      (fun s => s.mirrorWrite (decide (s.gangShown reach ≠ gang)) (gangChange reach gang)))

/-! ## AXIS_FLAGS (R58, R384) -/

/-- The axis whose word stands in a slot of a register block: that of the relieved reach in block 8. -/
def State.slotAxis (s : State) (r j : Nat) : Option Nat := s.axisAt (if r = 8 then s.relieving else r) j


/-- A write of v would change something in a flags word (R205). -/
def flagsChange (x : Axis) (v : Word) : Bool :=
  let cls := v.toNat / 2 ^ 28
  let mode := v.toNat / 2 ^ 26 % 4
  decide (cls ≠ x.cls) || (decide (mode = 0 ∨ mode = 2) && decide (mode ≠ x.mode)) || decide (x.flags &&& v &&& 0x7F ≠ 0)

/-- A write of an AXIS_FLAGS word on an ACTIVE module (R9, R58, R384): bits [6:0] W1C; MODE 0 or 2 and, while unlocked, CLASS at
the next tick. -/
def flagsWrite (r a : Nat) (v : Word) (s : State) : State :=
  let cls := v.toNat / 2 ^ 28
  let mode := v.toNat / 2 ^ 26 % 4
  let free := s.unlocked r
  let s := (s.clearSticky a v).modAll a (fun x => { x with
    modeReq := if mode = 0 ∨ mode = 2 then some mode else x.modeReq
    classReq := if free then some cls else x.classReq })
  if free then s.sendJournal (.axisClass a cls) else s

/-- AXIS_FLAGS_WRITE; a slot no axis has holds nothing. -/
def axisFlagsWrite (r j : Nat) (v : Word) (s : State) : State :=
  match s.slotAxis r j with
  | none => s
  | some a => s.mirrorWrite (flagsChange (s.axis a) v) (flagsWrite r a v)

/-- AXIS_FLAGS_WRITE. -/
def execAxisFlagsWrite (reach slot : Nat) (value : Word) (s : State) : Out :=
  ifOk (okReach reach && decide (slot < 580)) (s.hostWrite (flagsOff reach slot) (axisFlagsWrite reach slot value))

/-! ## CLEAR, RECAL, REACH_CTRL.EN (R57, R384) -/

/-- CLEAR pends for the next tick, and is journalled as a write of a mirrored setting (R205). -/
def clearReq (r : Nat) (s : State) : State := (s.pendClear r).sendJournal (.setting (reachReg r 0x10) 4)

/-- CLEAR (R57): WO field of a mirrored setting. -/
def execClear (reach : Nat) (s : State) : Out :=
  ifOk (okReach reach) (s.hostWrite (reachReg reach 0x10) (fun s => s.mirrorWrite false (clearReq reach)))

/-- RECAL, journalled as a write of a mirrored setting (R205). -/
def recalReq (r : Nat) (s : State) : State := (s.pendRecal r).sendJournal (.setting (reachReg r 0x14) 0x4000)

/-- RECAL (R57). -/
def execRecal (reach : Nat) (s : State) : Out :=
  ifOk (okReach reach) (s.hostWrite (reachReg reach 0x14) (fun s => s.mirrorWrite false (recalReq reach)))

/-- A write of REACH_CTRL.EN (R384): ignored while locked; one that would stop a reach on duty sets BANK_ERR. -/
def reachEnWrite (r : Nat) (en : Bool) (s : State) : State :=
  if !s.unlocked r then s
  else if en then s.fset (F.REACH_CTRL.EN r) 1
  else if s.duty r ≤ 1 then s.fset (F.REACH_STATUS.BANK_ERR r) 1
  else s.fset (F.REACH_CTRL.EN r) 0

/-- REACH_EN_WRITE. -/
def execReachEnWrite (reach : Nat) (en : Bool) (s : State) : Out :=
  ifOk (okReach reach) (s.hostWrite (reachReg reach 0) (reachEnWrite reach en))

/-! ## STEP/DIR and SETPOINT_ROUTE (R43, R44, R369) -/

/-- A STEP edge adds STEP_SIZE with DIR high and subtracts it with DIR low, in a 32-bit count. -/
def stepEdge (dir : Bool) (s : State) : State :=
  let n := s.steer.stepCount + (if dir then (s.steer.stepSize : Int) else -(s.steer.stepSize : Int))
  { s with steer := { s.steer with stepCount := (BitVec.ofInt 32 n).toInt } }

/-- STEP (R44). -/
def execStep (dir : Bool) (s : State) : Out := .next (if s.rung ≤ 2 then stepEdge dir s else s)

/-- The axis routed to an input. -/
def State.routed (s : State) (input : Nat) : Option Nat := if input = 0 then s.steer.ainAxis else s.steer.stepAxis

/-- Set an input's route. -/
def State.setRoute (s : State) (input : Nat) (a : Option Nat) : State :=
  if input = 0 then { s with steer := { s.steer with ainAxis := a } } else { s with steer := { s.steer with stepAxis := a } }

/-- An input's route ends (R43): its axis returns to HOLD at its present target; its port returns to DARK unless the other input
still serves an axis of it. -/
def State.unroute (s : State) (input : Nat) : State :=
  match s.routed input with
  | none => s
  | some a =>
    let s := (s.setRoute input none).modAll a (fun x => x.setSrc 0)
    match entryOf (mirrorOf a) with
    | none => s
    | some p =>
      let still := [s.steer.ainAxis, s.steer.stepAxis].any (fun o => match o with | some b => decide (mirrorOf b = mirrorOf a) | none => false)
      if still then s else s.setPort p 1 0

/-- The axis is in a pending or running cycle (R43). -/
def State.inCycle (s : State) (a : Nat) : Bool :=
  s.lock.cycles.any (fun c => (c.pathOf a).isSome || c.released.contains (mirrorOf a))

/-- SETPOINT_ROUTE's refusals (R43, R289): field ranges, then the port's state and the axis's cycle. -/
def State.routeRefusal (s : State) (input : Nat) (clear : Bool) (axis shift : Nat) : Option Reason :=
  if 1 < input then some .range
  else if clear then none
  else if 4640 ≤ axis ∨ 15 < shift then some .range
  else match entryOf (mirrorOf axis) with
    | none => some .state
    | some p =>
      let st := (s.port p).state
      if (st ≠ 1 ∧ st ≠ 6) ∨ s.inCycle axis then some .state else none

/-- The axis takes its service source (R43, R44): its target at that tick is the base, and the limiter starts at rest there; a
PARKED axis starts its loop from its park drive (log 25). -/
def serviceStart (x0 : Axis) : Axis :=
  let x := if x0.st = 6 then { x0.setSt 0 with rejoin := true, heldDrive := x0.u } else x0
  { x.setSrc 2 with svcBase := x.target, goal := x.target, limPos := sval x.target * 65536, limVel := 0, limAcc := 0, stop := false }

/-- A route is made (R43). A new STEP/DIR route begins its count at 0, which the manual does not say (DESIGN CHOICE, log 66). -/
def State.route (s : State) (input axis gain shift stepSize : Nat) : State :=
  let s := (s.unroute input).setRoute input (some axis)
  let s := if input = 0 then { s with steer := { s.steer with ainGain := BitVec.ofNat 16 gain, ainShift := shift } }
           else { s with steer := { s.steer with stepSize := stepSize, stepCount := 0 } }
  let s := s.modAll axis serviceStart
  match entryOf (mirrorOf axis) with | some p => s.setPort p 6 0 | none => s

/-- SETPOINT_ROUTE's own checks and effect (R43). An axis that serves the other input leaves
that route first (log 25). -/
def setpointRoute (src : Src) (input : Nat) (clear : Bool) (axis gain shift stepSize : Nat) (s : State) : State :=
  match s.routeRefusal input clear axis shift with
  | some r => s.refuse 0xC0 src r
  | none =>
    if clear then (s.unroute input).complete 0xC0 src .done
    else
      let s := if s.routed (1 - input) = some axis then s.unroute (1 - input) else s
      (s.route input axis gain shift stepSize).complete 0xC0 src .done

/-- SETPOINT_ROUTE. -/
def execSetpointRoute (src : Src) (input : Nat) (clear : Bool) (axis gain shift stepSize : Nat) (s : State) : Out :=
  .next (s.handle 0xC0 src (setpointRoute src input clear axis gain shift stepSize))

end Sys2Proof.Machine
end

