-- ==== Sys2Proof/Machine/Plan.lean ====
section
/-!
DEFINITION. The plan library (R172–R176): entries, their hash, insertion, use and release, and the commands PLAN_SUBMIT and
PLAN_DROP.
-/

namespace Sys2Proof.Machine

/-! ## Entries (R173, R174) -/

/-- The library entry with an index 0–255. -/
def State.plan (s : State) (i : Nat) : PlanEntry := spGet {} s.lock.lib i

/-- The journal item of a library entry, whole (R172, R204). -/
def PlanEntry.item (e : PlanEntry) (i : Nat) : JItem :=
  .planEntry i e.planId e.state e.source e.approx e.score e.portGen e.tInsert e.peer e.proof

/-- Store a library entry; the ACTIVE module copies it to the standby (R172, R204). -/
def State.putPlan (s : State) (i : Nat) (e : PlanEntry) : State :=
  let s := { s with lock := { s.lock with lib := spSet {} s.lock.lib i e } }
  s.sendJournal (e.item i)

/-- The index 1–255 of the entry with a PLAN_ID that is not FREE. -/
def State.planIndex (s : State) (id : Nat) : Option Nat :=
  (s.lock.lib.find? (fun p => decide (0 < p.1) && decide (p.2.planId = id) && decide (p.2.state ≠ 0))).map (·.1)

/-- The B mirror of an A mirror in a PEER array, 0xFFFF for no circuit. -/
def peerOf (peer : Peer) (a : Nat) : Nat := match peer.find? (fun p => p.1 = a) with | some p => p.2 | none => 0xFFFF

/-- Bytes 0x040–0x95F of an entry (R173): PEER and PROOF. -/
def planBytes (peer : Peer) (proof : List Nat) : List Byte :=
  (List.range 1160).flatMap (fun a => le 2 (peerOf peer a)) ++
  (List.range 8).flatMap (fun i => le 2 (proof.getD i 0xFFFF))

/-- HASH of a plan (R174). -/
def planHash (peer : Peer) (proof : List Nat) : Nat := crc64xz (planBytes peer proof)

/-- The next value of a 32-bit counter that is never 0 (R80, R173). -/
def nextId (n : Nat) : Nat := let m := (n + 1) % 2 ^ 32; if m = 0 then 1 else m

/-! ## Insertion, use and release (R175, R176) -/

/-- Insertions made since the plan with an ID was inserted (R173). -/
def State.planAge (s : State) (id : Nat) : Nat := (s.lock.lastPlan + 2 ^ 32 - id) % 2 ^ 32

/-- The lowest FREE entry, or else the oldest READY entry that came from an auction unit, in order of PLAN_ID (R173, R175). -/
def State.planSlot (s : State) : Option Nat :=
  match (List.range 256).find? (fun i => decide (0 < i) && decide ((s.plan i).state = 0)) with
  | some i => some i
  | none =>
    let old := s.lock.lib.filter (fun p => decide (0 < p.1) && decide (p.2.state = 1) && decide (p.2.source = 1))
    match old with
    | [] => none
    | p :: ps => some (ps.foldl (fun (m : Nat × PlanEntry) q => if s.planAge m.2.planId < s.planAge q.2.planId then q else m) p).1

/-- Insert a plan: its index, its PLAN_ID and the library that holds it; none where there is no place. -/
def State.insertPlan (s : State) (source : Nat) (approx : Bool) (score : Int) (portGen : Nat) (peer : Peer) (proof : List Nat) :
    Option (Nat × State) :=
  match s.planSlot with
  | none => none
  | some i =>
    let id := nextId s.lock.lastPlan
    let s := { s with lock := { s.lock with lastPlan := id } }
    let s := s.putPlan i { planId := id, state := 1, source := source, approx := approx, score := score, portGen := portGen,
                           tInsert := s.time.tb0.t / 10 ^ 12, peer := peer, proof := proof }
    some (id, s.sendJournal (.counters s.lock.lastId id))

/-- A plan is named by a cycle: IN_USE (R176). -/
def State.usePlan (s : State) (id : Nat) : State :=
  match s.planIndex id with | some i => s.putPlan i { s.plan i with state := 2 } | none => s

/-- A plan that no pending or running cycle names any more is READY again (R176). -/
def State.releasePlan (s : State) (id : Nat) : State :=
  if s.lock.cycles.any (fun c => decide (c.planId = id) && !c.berth) then s
  else match s.planIndex id with
    | some i => if (s.plan i).state = 2 then s.putPlan i { s.plan i with state := 1 } else s
    | none => s

/-! ## PLAN_SUBMIT and PLAN_DROP (R175, R176) -/

/-- The A mirror of the first PEER value that is neither 0–1,159 nor 0xFFFF. -/
def badPeer (peer : Peer) : Option Nat := (peer.find? (fun p => decide (1160 ≤ p.2) || decide (1160 ≤ p.1))).map (·.1)

/-- The A mirror of the first B mirror that appears a second time. -/
def twicePeer : List Nat → Peer → Option Nat
  | _, [] => none
  | seen, p :: ps => if seen.contains p.2 then some p.1 else twicePeer (p.2 :: seen) ps

/-- The first PROOF value at fault (R175): named twice, without a circuit, or with no service port at either end. -/
def badProof (peer : Peer) : List Nat → List Nat → Option Nat
  | _, [] => none
  | seen, a :: as =>
    if a = 0xFFFF then badProof peer seen as
    else
      let b := peerOf peer a
      if seen.contains a || decide (b = 0xFFFF) || (decide (a < 1152) && decide (b < 1152)) then some a
      else badProof peer (a :: seen) as

/-- The A mirror at fault in a submitted plan (R175). -/
def planFault (peer : Peer) (proof : List Nat) : Option Nat :=
  match badPeer peer with
  | some a => some a
  | none =>
    match twicePeer [] peer with
    | some a => some a
    | none => if 8 < proof.length then some (proof.getD 8 0) else badProof peer [] proof

/-- PLAN_SUBMIT's own checks and effect (R175, R289). -/
def planSubmit (src : Src) (peer : Peer) (proof : List Nat) (s : State) : State :=
  match planFault peer proof with
  | some a => s.refuse 0x20 src .range a
  | none =>
    match s.insertPlan (if src.queue = 0xFFFF then 2 else 0) false 0 0 peer proof with
    | none => s.refuse 0x20 src .resource
    | some (id, s) => s.completeCopied 0x20 src 0 (le 8 id ++ le 8 (planHash peer proof))

/-- PLAN_SUBMIT. -/
def execPlanSubmit (src : Src) (peer : Peer) (proof : List Nat) (s : State) : Out :=
  .next (s.handle 0x20 src (planSubmit src peer proof))

/-- PLAN_DROP's own checks and effect (R176). -/
def planDrop (src : Src) (id : Nat) (s : State) : State :=
  match s.planIndex id with
  | none => s.refuse 0x21 src .unknown
  | some i => if (s.plan i).state = 2 then s.refuse 0x21 src .state else (s.putPlan i {}).completeCopied 0x21 src

/-- PLAN_DROP. -/
def execPlanDrop (src : Src) (planId : Nat) (s : State) : Out := .next (s.handle 0x21 src (planDrop src planId))

end Sys2Proof.Machine
end

