-- ==== Sys2Proof/Machine/Units.lean ====
section
/-!
DEFINITION. Array units and the tows on them (R101, R123, R126–R129): which arrays a unit has, which tow runs on it, and what
ARRAY_STATUS shows.
-/

namespace Sys2Proof.Machine

/-- The arrays of the unit that array u belongs to (R101, ARRAY_STATUS.GANG). -/
def State.unitArrays (s : State) (u : Nat) : List Nat :=
  match s.fget (F.ARRAY_STATUS.GANG u) with
  | 1 => [u / 2 * 2, u / 2 * 2 + 1]
  | 2 => [0, 1, 2, 3]
  | _ => [u]

/-- Array u is the first of its unit, by which the unit is named. -/
def State.unitLead (s : State) (u : Nat) : Bool := decide ((s.unitArrays u).head? = some u)

/-- Arrays of the unit: its gang width g (R102). -/
def State.unitWidth (s : State) (u : Nat) : Nat := (s.unitArrays u).length

/-- ARRAY_STATUS.STATE of array n. -/
def State.arrayState (s : State) (n : Nat) : Nat := s.fget (F.ARRAY_STATUS.STATE n)

/-- PACEn of ARRAY_PACE. -/
def paceField (n : Nat) : Fld := ⟨0x700010, 8 * n, 8⟩

/-- Array n takes a state; its pace reads 0 while it is GATED, HALTED, RELOADING or OUT_OF_SERVICE (R104). -/
def State.setArray (s : State) (n state : Nat) : State :=
  let s := s.fset (F.ARRAY_STATUS.STATE n) state
  if 1 ≤ state ∧ state ≤ 3 then s else s.fset (paceField n) 0

/-- Every array of the unit is in service and not halted (R101): IDLE, RUNNING or SAVING. -/
def State.unitUp (s : State) (u : Nat) : Bool := (s.unitArrays u).all (fun n => decide (1 ≤ s.arrayState n ∧ s.arrayState n ≤ 3))

/-- A phase is running on this unit. -/
def TowPhase.onUnit (p : TowPhase) (u : Nat) : Bool := match p with | .running v => decide (v = u) | _ => false

/-- A phase is running. -/
def TowPhase.isRunning (p : TowPhase) : Bool := match p with | .running _ => true | _ => false

/-- A phase has ended. -/
def TowPhase.isEnded (p : TowPhase) : Bool := match p with | .ended _ => true | _ => false

/-- The tow on a unit. -/
def State.runner (s : State) (u : Nat) : Option Tow := s.tows.tows.find? (fun t => t.phase.onUnit u)

/-- Show a tow on a unit (R129). -/
def State.showUnit (s : State) (u state cls space : Nat) : State :=
  (s.unitArrays u).foldl (fun s n =>
    ((s.fset (F.ARRAY_STATUS.STATE n) state).fset (F.ARRAY_STATUS.CLASS n) cls).fset (F.ARRAY_STATUS.SPACE n) space) s

/-- A tow has left a unit: the arrays that ran or saved it are IDLE and show none (R129); the requests of the unit and its waits are
dropped. -/
def State.leaveUnit (s : State) (u : Nat) : State :=
  let s := (s.unitArrays u).foldl (fun s n =>
    let s := if s.arrayState n = 2 ∨ s.arrayState n = 3 then s.fset (F.ARRAY_STATUS.STATE n) 1 else s
    ((((s.fset (F.ARRAY_STATUS.CLASS n) 3).fset (F.ARRAY_STATUS.SPACE n) 0).fset (F.ARRAY_STATUS.ESC n) 0).fset
      (F.ARRAY_STATUS.STARVED n) 0).fset (F.ARRAY_STATUS.BARGE n) 0) s
  { s with tows := { s.tows with reqs := s.tows.reqs.filter (fun r => decide (r.unit ≠ u))
                                 waits := s.tows.waits.filter (fun w => decide (w.1 ≠ u)) } }

/-- The units of the running tows that satisfy p are left. -/
def State.freeUnits (s : State) (p : Tow → Bool) : State :=
  s.tows.tows.foldl (fun s t =>
    match t.phase with
    | .running u => if p t then s.leaveUnit u else s
    | _ => s) s

/-- Change the tow of a space by tag. -/
def State.modTow (s : State) (space tag : Nat) (f : Tow → Tow) : State :=
  { s with tows := { s.tows with tows := s.tows.tows.map (fun t => if t.space = space ∧ t.tag = tag then f t else t) } }

/-- The tow of a space by tag. -/
def State.tow (s : State) (space tag : Nat) : Option Tow := s.tows.tows.find? (fun t => decide (t.space = space ∧ t.tag = tag))

/-- What the unit held for the tow is dropped as it leaves: fetched barges and staged reads; its run-ahead starts again (R126). -/
def Tow.unstage (t : Tow) : Tow := { t with fetched := [], staged := [], ranges := [], inBarge := false }

/-- The tow ends with a reason; its end event is due (R128). A running tow leaves its unit. -/
def State.endTow (s : State) (t : Tow) (reason : Nat) : State :=
  let s := match t.phase with | .running u => s.leaveUnit u | _ => s
  s.modTow t.space t.tag (fun t => { t.unstage with phase := .ended reason, faults := [], heldWrites := [], drain := [] })

/-- Host writes of the tow are still to leave (R269). -/
def Tow.drains (t : Tow) : Bool := decide (t.drain ≠ []) || decide (t.heldWrites ≠ [])

/-- The unit has reached a barge that ends the tow with this reason: every earlier barge completes, its host writes drained, before
it ends (R108). -/
def State.endAfter (s : State) (t : Tow) (reason : Nat) : State :=
  if t.drains then s.modTow t.space t.tag (fun t => { t with ending := some reason, inBarge := false })
  else s.endTow t reason

/-- A write fault is outstanding: host writes are held (R268). -/
def Tow.held (t : Tow) : Bool := t.faults.any (fun f => f.write)

/-- The unmet WAIT of a phase: counter, value, TB3 time it began. -/
def TowPhase.wait (p : TowPhase) : Option (Nat × Nat × Nat) := match p with | .waiting c v since => some (c, v, since) | _ => none

/-- The tow is saved at a barge boundary and leaves its unit (R126): ready to resume, or stopped while a write fault is held (R272),
then with its unmet WAIT. -/
def State.saveTow (s : State) (t : Tow) (phase : TowPhase) : State :=
  let s := match t.phase with | .running u => s.leaveUnit u | _ => s
  s.modTow t.space t.tag (fun t =>
    if t.held then
      { t.unstage with phase := .stopped, resumed := true, heldWrites := t.heldWrites ++ t.drain, drain := [], unmet := phase.wait }
    else { t.unstage with phase := phase, resumed := true })

/-- The tow on a unit stops at a boundary because of a halt, a reload or a loss of the unit (R127); a running barge ends first. -/
def State.haltUnit (s : State) (u : Nat) : State :=
  match s.runner u with
  | some t => if t.inBarge then s else (s.saveTow t .ready).count 7 12
  | none => s

/-- Array n is powered and loaded: IDLE, unless it is out of service (R129). -/
def State.arrayUp (s : State) (n : Nat) : State :=
  if s.arrayState n = 6 then s else s.setArray n 1

/-- The arrays whose unit runs no barge are gated (R104, R129). -/
def State.gateArrays (s : State) : State :=
  (List.range 4).foldl (fun s n =>
    if s.arrayState n = 6 then s
    else match (s.unitArrays n).head?.bind s.runner with
      | some t => if t.inBarge then s else s.setArray n 0
      | none => s.setArray n 0) s

end Sys2Proof.Machine
end

