-- ==== Sys2Proof/Machine/Cycle.lean ====
section
/-!
DEFINITION. Lock cycles: what a plan changes (R80), windows and deadlines (R68, R69, R82, R89), the refusal checks (R81), notices
(R90–R92), and how a cycle opens, fails a path and ends.
-/

namespace Sys2Proof.Machine

/-! ## What a plan changes (R65, R68, R80) -/

/-- Mirrors 0–2,319 of a list of pairs. -/
def pairMirrors (l : List (Nat × Nat)) : List Nat := l.flatMap (fun p => [p.1, 1160 + p.2])

/-- A pair touches one of these mirrors. -/
def touches (ms : List Nat) (p : Nat × Nat) : Bool := ms.contains p.1 || ms.contains (1160 + p.2)

/-- Pairs of a cycle's paths. -/
def Cycle.pairs (c : Cycle) : List (Nat × Nat) := c.paths.map (fun p => (p.a, p.b))

/-- Every mirror a cycle moves: those of its paths, its released ones, and those of paths whose entry became unusable. -/
def Cycle.mirrors (c : Cycle) : List Nat := pairMirrors c.pairs ++ c.released

/-- Connections standing now, berth circuits apart (R247). -/
def State.standing (s : State) : List (Nat × Nat) :=
  (s.lock.paths.map (fun q => (q.a, q.b))).filter
    (fun q => !s.fabric.berths.any (fun b => decide (mirrorOfEntry b.1 = q.1) || decide (mirrorOfEntry b.1 = 1160 + q.2)))

/-- Connections as they will stand once a cycle has closed (R80); the paths of one that is aborted end without circuits (R88). -/
def Cycle.after (c : Cycle) (l : List (Nat × Nat)) : List (Nat × Nat) :=
  l.filter (fun p => !touches c.mirrors p) ++ (if c.aborting then [] else c.pairs)

/-- A cycle's T_open lies before another instant (R183). -/
def Cycle.before (c : Cycle) (t : Nat) : Bool := c.opened.isSome || !timeReached c.tOpen t

/-- Cycles in order of T_open, the running one first. -/
def insertCycle (c : Cycle) : List Cycle → List Cycle
  | [] => [c]
  | d :: ds => if d.before c.tOpen then d :: insertCycle c ds else c :: d :: ds

/-- Connections that will stand when a cycle of this T_open opens: every earlier cycle but the named one has closed (R80). -/
def State.standingAt (s : State) (t : Nat) (but : Nat) : List (Nat × Nat) :=
  ((s.lock.cycles.filter (fun c => !c.berth && decide (c.id ≠ but) && c.before t)).foldl (fun l c => insertCycle c l) []).foldl
    (fun l c => c.after l) s.standing

/-- New pairs of a plan against standing connections. -/
def newPairs (standing : List (Nat × Nat)) (peer : Peer) : List (Nat × Nat) := peer.filter (fun p => !standing.contains p)

/-- Mirrors a plan releases: they lose their path and gain no new one (R65). -/
def releasedBy (standing : List (Nat × Nat)) (peer : Peer) : List Nat :=
  (pairMirrors (standing.filter (fun p => !peer.contains p))).filter (fun m => !(pairMirrors peer).contains m)

/-- The cycle is of kind SINGLE (R68). -/
def isSingle (new : List (Nat × Nat)) (released : List Nat) : Bool :=
  decide (new.length = 1) && decide ((released.filter (fun m => m < 1160)).length ≤ 1) &&
  decide ((released.filter (fun m => 1160 ≤ m)).length ≤ 1)

/-! ## Windows and deadlines (R68, R69, R82, R89) -/

/-- Deadline of a kind, ns (R68, R69). -/
def kindDeadline (period : Nat) (single fallback : Bool) : Nat :=
  if period ≤ 20000 then (if fallback then 4500000 else if single then 1600000 else 3000000)
  else (if fallback then 6000000 else if single then 2400000 else 4500000)

/-- Width of a cycle's window (R82). -/
def State.windowOf (s : State) (c : Cycle) : Nat := kindDeadline s.steer.period c.single false

/-- Two closed windows meet (R82). -/
def meets (t1 w1 t2 w2 : Nat) : Bool := timeReached (t1 + w1) t2 && timeReached (t2 + w2) t1

/-- Deadline of a running cycle, ns after T_open or after a late OPEN tick (R69, R89). Below 25 kHz a LIMITED fallback cycle keeps
R69's 6.0 ms: R89's 4.5 ms for a LIMITED cycle would be earlier, and the manual does not say which holds (DESIGN CHOICE, log 67). -/
def State.deadlineOf (s : State) (c : Cycle) : Nat :=
  let k := kindDeadline s.steer.period c.single c.fallback
  max k (max (if c.limited then 4500000 else 0) (if c.extended then kindDeadline s.steer.period c.single false + 1000000 else 0))

/-- The instant a running cycle's deadline counts from, TB3 ns (R65, R68). -/
def Cycle.deadlineBase (c : Cycle) : Nat := match c.lateFrom with | some t => t | none => c.t3Open

/-- The sample period in ns. -/
def State.periodNs (s : State) : Nat := 2 * s.tickLen

/-- TB3 ns of the present tick. -/
def State.tickNs (s : State) : Nat := 2 * s.time.lastTick

/-- TB0 has been within x ns before T_open, or past it. -/
def State.within (s : State) (x tOpen : Nat) : Bool := timeReached (s.time.tb0.ns + x) tOpen

/-- TB0 is locked (R190): LOCKED, or HOLDOVER with an error estimate of 1 µs or less; never while JUMP is set. -/
def State.tb0Locked (s : State) : Bool :=
  let st := s.fget F.TB_FLAGS.STATE0
  !s.bit F.TB_FLAGS.JUMP0 &&
  (decide (st = 2) || (decide (st = 3) && decide (50 * (s.time.tb3 - s.time.tb0.holdSince) ≤ 900 * 500000000)))

/-- The time check of a joint cycle (R93, R94): locked, and an outstanding slew of at most 1 µs. -/
def State.jointTime (s : State) : Bool := s.tb0Locked && decide (s.time.tb0.slew.natAbs ≤ 1000 * fineNs)

/-! ## Refusal and abort reasons (R81) -/

/-- What LOCK_SCHEDULE or LOCK_JOINT asks. -/
structure Ask where
  planId : Nat
  tOpen : Nat
  supersede : Bool := false
  superId : Nat := 0
  lateProof : Bool := false
  joint : Bool := false
  jointId : Nat := 0
  epoch : Nat := 0
  hash : Nat := 0
deriving DecidableEq, Repr

/-- The cycle a supersede names. -/
def State.namedCycle (s : State) (q : Ask) : Option Cycle :=
  if q.supersede then s.lock.cycles.find? (fun c => decide (c.id = q.superId) && !c.berth) else none

/-- The plan asked for. -/
def State.askedPlan (s : State) (q : Ask) : PlanEntry :=
  match s.planIndex q.planId with | some i => s.plan i | none => {}

/-- New pairs and released mirrors of an ask: against what will stand at T_open, or for a cycle that has opened against what
stands beside it (R80, R87). -/
def State.askedChange (s : State) (q : Ask) : List (Nat × Nat) × List Nat :=
  let peer := (s.askedPlan q).peer
  match s.namedCycle q with
  | some c =>
    if c.opened.isSome then
      let new := newPairs s.standing peer
      (new, c.mirrors.filter (fun m => !(pairMirrors new).contains m))
    else
      let st := s.standingAt q.tOpen c.id
      (newPairs st peer, releasedBy st peer)
  | none =>
    let st := s.standingAt q.tOpen 0
    (newPairs st peer, releasedBy st peer)

/-- Pointing-map entries of the new pairs are read, with their repairs (R64). -/
def State.readPairs (s : State) (l : List (Nat × Nat)) : State := l.foldl (fun s p => s.pairRead p.1 p.2) s

/-- A path of the cycle has left SLEW (R81, R87, R88). -/
def Cycle.leftSlew (c : Cycle) : Bool := c.paths.any (fun p => p.phase ≠ .opening && p.phase ≠ .slewing)

/-- The PORT check (R81): a new path would circuit a port in ABSENT, QUARANTINED, FAILED or SERVICE. -/
def State.portCheck (s : State) (new : List (Nat × Nat)) : Bool :=
  (pairMirrors new).any (fun m => match entryOf m with | some p => s.portRefuses p | none => false)

/-- The BUSY check (R81): a changing port is in another cycle, or its released mirror still moves to park. -/
def State.busyCheck (s : State) (ms : List Nat) (but : Nat) : Bool :=
  ms.any (fun m => s.lock.parking.contains m) ||
  s.lock.cycles.any (fun c => !c.berth && decide (c.id ≠ but) && ms.any (fun m => c.mirrors.contains m))

/-- The OVERLAP check (R81, R82, R247): another cycle's window, or that of a berth cycle that has opened. -/
def State.overlapCheck (s : State) (tOpen width but : Nat) : Bool :=
  s.lock.cycles.any (fun c =>
    (if c.berth then c.opened.isSome else decide (c.id ≠ but)) && meets tOpen width c.tOpen (s.windowOf c))

/-- A supersede of an opened cycle that changes a port not dark in it (R87). -/
def State.scopeCheck (c : Cycle) (new : List (Nat × Nat)) (st : List (Nat × Nat)) (peer : Peer) : Bool :=
  (pairMirrors new).any (fun m => !c.mirrors.contains m) || st.any (fun p => !touches c.mirrors p && !peer.contains p)

/-- The first reason of Table: Refusal and abort reasons that refuses an ask, or 0 (R81, R87, R93). -/
def State.refusalOf (s : State) (q : Ask) : Nat :=
  let named := s.namedCycle q
  let open_ := match named with | some c => c.opened.isSome | none => false
  let (new, rel) := s.askedChange q
  let ms := pairMirrors new ++ rel
  let lead : Int := toSigned 64 ((q.tOpen + 2 ^ 64 - s.time.tb0.ns) % 2 ^ 64)
  let but := match named with | some c => c.id | none => 0
  if !open_ && decide (lead < 500000) then 0x01
  else if !open_ && decide (60000000000 < lead) then 0x02
  else if !s.tb0Locked || (q.joint && !s.jointTime) then 0x03
  else if (s.planIndex q.planId).isNone then 0x04
  else if s.portCheck new then 0x05
  else if s.map.reloading || new.any (fun p => !s.pairUsable p.1 p.2) then 0x06
  else if s.busyCheck ms but then 0x07
  else if !open_ && s.overlapCheck q.tOpen (kindDeadline s.steer.period (isSingle new rel) false) but then 0x08
  else if named.isNone && decide (8 ≤ (s.lock.cycles.filter (fun c => !c.berth && c.opened.isNone)).length) then 0x09
  else if q.supersede && named.isNone && decide (q.superId ≠ 0) && decide (q.superId ≤ s.lock.lastId) then 0x0A
  else if (match named with | some c => c.opened.isSome && (c.leftSlew || c.aborting) | none => false) then 0x0A
  else if (match named with | some c => c.opened.isSome && State.scopeCheck c new s.standing (s.askedPlan q).peer | none => false)
    then 0x0B
  else if q.supersede && named.isNone then 0x0D
  else if q.joint && decide (q.epoch < s.fget F.LOCK_EPOCH.EPOCH) then 0x10
  else if q.joint && decide (q.hash ≠ planHash (s.askedPlan q).peer (s.askedPlan q).proof) then 0x11
  else 0

/-! ## Notices (R90–R92) -/

/-- FLAGS of a cycle's notices and LOCK event (R91), REPEAT apart. -/
def Cycle.flags (c : Cycle) : Nat :=
  c.joint.toNat + 2 * c.single.toNat + 4 * c.twoWaves.toNat + 8 * c.fallback.toNat + 16 * c.limited.toNat +
  32 * c.extended.toNat + 64 * c.superseded.toNat + 128 * c.handover.toNat + 256 * c.lateProof.toNat

/-- 16-byte time field of a time in 2^-16 ns (R91). -/
def timeField (t : Nat) : List Byte := be 8 (t / 65536 / 10 ^ 9) ++ be 4 (t / 65536 % 10 ^ 9) ++ be 2 (t % 65536) ++ [0, 0]

/-- 152-byte bitmap (R92): port n is bit n mod 8 of byte n / 8. -/
def bitmap (l : List Nat) : List Byte :=
  (List.range 152).map (fun k => BitVec.ofNat 8 (((List.range 8).filter (fun j => l.contains (8 * k + j))).foldl (fun v j => v + 2 ^ j) 0))

/-- Bytes 0–415 of a notice (R91), sent at tx, 2^-16 ns. -/
def Notice.head (n : Notice) (again : Bool) (tx : Nat) : List Byte :=
  be 2 0xA17C ++ be 1 1 ++ be 1 0 ++ be 1 n.type ++ be 1 n.outcome ++ be 2 (n.flags + 512 * again.toNat) ++ be 1 n.plane ++
  be 1 n.switch ++ be 1 n.role ++ be 1 n.reason ++ be 4 n.cycleId ++ be 2 n.rev ++ be 2 n.seq ++ be 4 n.jointId ++ be 4 n.epoch ++
  be 2 n.paths ++ be 2 n.failed ++ be 8 n.hash ++ timeField (n.tOpen * 65536) ++ timeField n.tEvent ++ timeField n.tOpened ++
  timeField tx ++ be 4 n.duration ++ be 4 n.extra ++ bitmap n.mapA ++ bitmap n.mapB

/-- The 420-byte datagram of a notice (R91); CHECK is made after T_TX is inserted. -/
def Notice.datagram (n : Notice) (again : Bool) (tx : Nat) : List Byte :=
  let b := n.head again tx
  b ++ be 4 (crc32c b)

/-- The lock-notice multicast group: the active image's, or the default of its IP version (R90). -/
def State.noticeGroup (s : State) : List Nat :=
  let v6 := match s.image with | some i => i.noticeV6 | none => false
  (s.image.bind (fun i => i.noticeGroup)).getD
    (if v6 then [0xFF, 0x18, 0, 0, 0, 0, 0, 0, 0, 0, 0, 0, 0, 0x4E, 0, 1] else [239, 192, 28, 1])

/-- The lock-notice UDP port (R90). -/
def State.noticeUdp (s : State) : Nat := (s.image.bind (fun i => i.noticeUdp)).getD 40152

/-- A notice of a cycle with the next SEQ (R91); tEvent is in 2^-16 ns. -/
def State.noticeOf (s : State) (c : Cycle) (type outcome reason : Nat) (tEvent : Nat) (marked : List Nat) : Notice :=
  let e := match s.planIndex c.planId with | some i => s.plan i | none => {}
  { type := type, outcome := outcome, flags := c.flags, plane := s.fget F.KEEL_STRAPS.PLANE,
    switch := s.fget F.KEEL_STRAPS.SWITCH_ID, role := s.fget F.KEEL_STRAPS.ROLE, reason := reason, cycleId := c.id, rev := c.rev,
    seq := (s.lock.seq + 1) % 65536, jointId := c.jointId, epoch := c.epoch, paths := c.paths.length + c.lost.length, failed := 0,
    hash := planHash e.peer e.proof, tOpen := c.tOpen, tEvent := tEvent, tOpened := 0, duration := 0, extra := 0,
    mapA := marked.filter (fun m => m < 1160), mapB := (marked.filter (fun m => 1160 ≤ m)).map (fun m => m - 1160) }

/-- Ethernet ports that carry notices (R90, R195): link up, EN and NOTICE_EN set. -/
def State.noticePorts (s : State) : List Nat :=
  [0, 1].filter (fun p => s.bit (F.ETH_CTRL.EN p) && s.bit (F.ETH_CTRL.NOTICE_EN p) &&
    (if p = 0 then s.bit F.ETH_STATUS.LINK0 else s.bit F.ETH_STATUS.LINK1))

/-- One copy of a notice leaves (R90). -/
def State.noticeCopy (s : State) (n : Notice) (copy : Nat) : State :=
  let ports := s.noticePorts
  let s := ports.foldl (fun s p => s.count 15 (8 * p)) s
  (s.emit (.notice s.noticeGroup s.noticeUdp (n.datagram (decide (copy ≠ 0)) s.time.tb0.fine)
      (ports.map (fun p => (p, s.fget (F.ETH_CTRL.VLAN p), s.fget (F.ETH_CTRL.PCP p)))))).count 2 15

/-- The ACTIVE module sends a notice: its first copy, with two to follow (R90). -/
def State.sendNotice (s : State) (n : Notice) : State :=
  if s.active then
    let s := { s with lock := { s.lock with seq := n.seq, repeats := s.lock.repeats ++ [(n, 1)] } }
    (s.noticeCopy n 0).sendJournal (.noticeSeq n.seq)
  else s

/-- The next copy of the notice whose turn it is (R90): three in all, by the ACTIVE module only. -/
def noticeRepeat (s : State) : State :=
  match s.lock.repeats with
  | [] => s
  | (n, k) :: rest =>
    let s := { s with lock := { s.lock with repeats := if k + 1 < 3 then rest ++ [(n, k + 1)] else rest } }
    if s.active then s.noticeCopy n k else s

/-- The boot record is written to the keel store (R316). -/
def State.recordBoot (s : State) : State :=
  { s with boot := { s.boot with record :=
      { peer := s.standing, lastId := s.lock.lastId, lastPlan := s.lock.lastPlan, seq := s.lock.seq
        cycles := s.lock.cycles.filter (fun c => !c.berth), epoch := s.fget F.LOCK_EPOCH.EPOCH } } }

/-! ## The settle-model tow (R72) -/

/-- The space of the sequencer's own tows: the system space (R120, R158). The barges of its vendor tows are the firmware's, and the
manual gives none (log 26). -/
def sequencerSpace : Nat := 0

/-- The tag of the tow that updates the settle model (R76): no cycle has this ID (log 26). -/
def learnTag : Nat := 2 ^ 32

/-- The settle-model tow of a cycle is submitted at URGENT, ahead of every other (R72). -/
def State.submitSettle (s : State) (id : Nat) : State :=
  let t : Tow := { space := sequencerSpace, tag := id, cls := 0, addr := 0, count := 1, order := s.tows.submitted, settle := some id }
  { s with tows := { s.tows with tows := s.tows.tows ++ [t], submitted := s.tows.submitted + 1 } }

/-- The settle-model tow of a cycle is gone. -/
def State.dropSettle (s : State) (id : Nat) : State :=
  let s := s.freeUnits (fun t => decide (t.settle = some id))
  { s with tows := { s.tows with tows := s.tows.tows.filter (fun t => decide (t.settle ≠ some id)) } }

/-! ## Changing a cycle -/

/-- Change the cycle with an ID. -/
def State.modCycle (s : State) (id : Nat) (f : Cycle → Cycle) : State :=
  { s with lock := { s.lock with cycles := s.lock.cycles.map (fun c => if c.id = id then f c else c) } }

/-- The cycle with an ID; the berth cycle has ID 0 (R247). -/
def State.cycle (s : State) (id : Nat) : Option Cycle := s.lock.cycles.find? (fun c => decide (c.id = id))

/-- A cycle leaves the list. -/
def State.dropCycle (s : State) (id : Nat) : State :=
  { s with lock := { s.lock with cycles := s.lock.cycles.filter (fun c => decide (c.id ≠ id)) } }

/-- Axes of a mirror 0–2,319. -/
def mirrorAxes (m : Nat) : List Nat := [2 * m, 2 * m + 1]

/-- Axes a cycle moves. -/
def Cycle.axes (c : Cycle) : List Nat := c.mirrors.flatMap mirrorAxes

/-- The entry a cycle uses for an axis on one of its paths (R61). -/
def State.cycleEntry (s : State) (c : Cycle) (a : Nat) (p : CPath) : Nat := s.cycleIndex c (axisSide a) p.a p.b

/-- Final target of an axis in a cycle (R65, R61): the trim of its new pair's entry, or the park drive of a released mirror. -/
def State.finalOf (s : State) (c : Cycle) (a : Nat) : Half :=
  match c.pathOf a with | some p => s.trimAt a (s.cycleEntry c a p) | none => s.park (axisSide a)

/-- Planned end of an axis's open-loop drive (R75): the entry's drive, or the park drive. -/
def State.olEndOf (s : State) (c : Cycle) (a : Nat) : Half :=
  match c.pathOf a with | some p => s.olAt a (s.cycleEntry c a p) | none => s.park (axisSide a)

/-- Extra ticks of a cycle (R79): those by which its last axis reached its final target later than the unclamped plan. -/
def Cycle.extra (c : Cycle) : Nat := if c.limited then c.arrived - c.planEnd else 0

/-! ## Opening (R65, R83, R99, R247) -/

/-- What the start of a PARKED axis's loop reads (R65): target and drive are the park drive, with the samples of the tick. -/
def State.parkIn (s : State) (a : Nat) (x : Axis) : SlotIn :=
  let law := s.lawReach (s.reachOf a)
  let b := s.lawBank law x.cls
  let q := quadOf s.steer.quads (mirrorOf a)
  let g := s.gains law x b
  let k := s.classK (s.reachOf a) x.cls
  let lead := if s.bit (F.REP_CTRL.EN law) ∧ b.n ≠ 0 then sval (s.repAt a ((k + b.lead) % b.n)) else 0
  { bank := b, kp := g.1, ki := g.2.1, b := g.2.2, repLead := lead, ff := 0, dith := 0, target := sval (s.park (axisSide a)),
    m := measure (quadNum q (axisCoord a)) (quadSum q) }

/-- The loop state a PARKED axis starts from at OPEN (R65): u and target at park, d = 0, e_prev = e, i such that acc equals u. -/
def State.parkStart (s : State) (a : Nat) (x : Axis) : Axis :=
  let p := s.park (axisSide a)
  slotCompute (s.parkIn a x) { x with u := p, heldDrive := p, target := p, rejoin := true }

/-- An axis taken by a cycle (R42, R65): source LOCK, at rest on its target, with its final target and the ends of its open-loop
drive. -/
def State.lockAxis (s : State) (c : Cycle) (a : Nat) (x : Axis) : Axis :=
  let goal := match s.bufOf a with | some t => t.final | none => s.finalOf c a
  { x.setSrc 1 with
    ff := 0, moveDone := false, stop := false, limited := false, goal := goal, moveFrom := x.target
    olStart := x.u, olEnd := s.olEndOf c a, limPos := sval x.target * 65536, limVel := 0, limAcc := 0 }

/-- An axis of a changing path or released mirror at the OPEN tick (R65, R42): source LOCK; its target does not change. -/
def State.openAxis (s : State) (c : Cycle) (a : Nat) : State :=
  let x0 := s.axisNow a
  let x1 := if x0.st = 6 then s.parkStart a x0 else if x0.held then leaveLoss (x0.setSrc 1) else x0
  let y := s.lockAxis c a { x1.setSt 1 with traj := 0 }
  s.modNow a (fun _ => y)

/-- LATE_PROOF event (R99): result 0 DONE, 1 SKIPPED, 2 CUT. -/
def State.proofEvent (s : State) (id a b result errored bits : Nat) : State :=
  s.event 3 (le 4 id ++ le 2 a ++ le 2 b ++ le 8 result ++ le 8 errored ++ le 8 bits)

/-- The service-port numbers 0–15 at the ends of a path: A1152–A1159 are 0–7, B1152–B1159 are 8–15 (log 27). -/
def servicePorts (a b : Nat) : List Nat :=
  (if 1152 ≤ a then [a - 1152] else []) ++ (if 1152 ≤ b then [8 + b - 1152] else [])

/-- Bits a proof has sent (R99): 50 Gb/s per lane for at most 10 ms. -/
def State.proofBits (s : State) (q : ProofRun) : Nat := q.lanes * (100 * min 5000000 (s.time.tb3 - q.since))

/-- A proof is over: its service ports are free again. -/
def State.freeProof (s : State) (q : ProofRun) : State :=
  let s := (servicePorts q.a (peerOf s.standing q.a)).foldl (fun s n => s.fset (F.SVC_PORT_CTRL.BUSY n) 0) s
  { s with lock := { s.lock with proofs := s.lock.proofs.filter (fun p => decide (p ≠ q)) } }

/-- The proofs a cycle's opening cuts (R99), with the bits sent so far; how many of them were errored the manual does not fix (log 3). -/
def State.cutProofs (s : State) (ms : List Nat) : State :=
  let hit := s.lock.proofs.filter (fun q => touches (ms.filter (fun m => 1152 ≤ m % 1160)) (q.a, peerOf s.standing q.a))
  hit.foldl (fun s q =>
    let n := s.proofBits q
    let (e, s) := s.draw (n + 1)
    (s.freeProof q).proofEvent q.cycle q.a (peerOf s.standing q.a) 2 e n) s

/-- Berth circuits that stand when a cycle opens are released in it; checks cut off run again later (R247). -/
def State.releaseBerths (s : State) (c : Cycle) : State :=
  let ms := s.fabric.berths.flatMap (fun b => [mirrorOfEntry b.1, b.2])
  let more := ms.filter (fun m => !c.mirrors.contains m)
  let s := s.fabric.berths.foldl (fun s b => if (s.port b.1).checking then s.endCheck b.1 true else s) s
  ({ s with fabric := { s.fabric with berths := [] } }).modCycle c.id (fun c => { c with released := c.released ++ more })

/-- TB3 ns at which TB0 reached a cycle's T_open (R65, R183); the present tick where a step of TB0 has passed it. -/
def State.t3Of (s : State) (c : Cycle) : Nat := if c.t3Open = 0 then s.tickNs else c.t3Open

/-- A cycle opens at the present tick (R65): its paths go dark, its axes take source LOCK with a gang commit, the boot record is
written. late is the instant a late opening counts its deadline from (R83). -/
def State.openCycle (s : State) (id : Nat) (late : Bool) : State :=
  match s.cycle id with
  | none => s
  | some c0 =>
    let s := s.releaseBerths c0
    let c := match s.cycle id with | some c => c | none => c0
    let s := s.cutProofs c.mirrors
    let s := s.cycleRead c c.pairs
    let s := { s with lock := { s.lock with paths := s.lock.paths.filter (fun q => !touches c.mirrors (q.a, q.b)) } }
    let s := c.axes.foldl (fun s a => s.openAxis c a) s
    let tb0 := s.time.tb0.fine
    let t3 := s.t3Of c
    let s := s.modCycle id (fun c =>
      { c with opened := some (s.steer.tick, tb0), t3Open := t3, extended := c.extended || late
               lateFrom := if late then some s.tickNs else none
               paths := c.paths.map (fun p => { p with phase := .opening, entered := s.steer.tick }) })
    (s.recordBoot).sendJournal (.opened id s.steer.tick tb0 late)

/-! ## Failure of a path (R69, R70) -/

/-- An axis of a failed path (R69): BLIND_OL with the drive of its new pair's entry and an offset of 0; an unusable entry leaves
the drive (R64). -/
def failAxis (drive : Option Half) (x : Axis) : Axis :=
  let d := match drive with | some v => v | none => x.heldDrive
  { x.setSt 4 with offset := 0, target := x.goal, ff := 0, heldDrive := d, u := d, lowRun := 0, highRun := 0, loss := 0
                   stop := false, rejoin := false }

/-- A path of the running cycle fails (R69): its axes enter BLIND_OL, it is DEGRADED, and the reroute event is queued. -/
def State.failPath (s : State) (id : Nat) (p : CPath) : State :=
  let c := match s.cycle id with | some c => c | none => { id := id, planId := 0, tOpen := 0 }
  let s := s.cycleRead c [(p.a, p.b)]
  let s := (pathAxes p.a p.b).foldl (fun s a =>
    let i := s.cycleEntry c a p
    (s.dropRep a).modNow a (failAxis (if s.mapUsable i then some (s.olAt a i) else none))) s
  let q : Path := { a := p.a, b := p.b, state := 6, announced := true }
  let s := { s with lock := { s.lock with paths := s.lock.paths ++ [q] } }
  let s := ((s.pathEvent q 0 6 15).logEntry 4 4 .environment .axis 0 (axisOf 0 p.a 0) p.b).count 0 14
  let s := s.modCycle id (fun c =>
    { c with paths := c.paths.map (fun r => if r.a = p.a then { r with phase := .failed, entered := s.steer.tick } else r) })
  s.sendJournal (.pathPhase p.a 5)

/-! ## The end of a cycle (R69, R71, R88, R89, R91) -/

/-- Outcome code of a cycle that ends (R89, R91). -/
def Cycle.outcome (c : Cycle) (aborted : Bool) : Nat :=
  if aborted then 3 else if c.extended then 2 else if c.limited then 1 else 0

/-- The LOCK event of a cycle's end (R290). -/
def State.lockEvent (s : State) (c : Cycle) (outcome reason failed duration extra : Nat) : State :=
  s.event 2 (le 4 c.id ++ le 2 c.rev ++ le 1 outcome ++ le 1 reason ++ le 2 c.flags ++ le 2 failed ++
             le 4 (c.paths.length + c.lost.length) ++ le 4 duration ++ le 4 extra ++ le 8 c.planId ++ le 8 c.tOpen)

/-- LOCK_LAST and LOCK_TIMES of a finished cycle (R100). -/
def State.lockLast (s : State) (outcome reason failed duration extra : Nat) : State :=
  ((((s.fset F.LOCK_LAST.OUTCOME outcome).fset F.LOCK_LAST.REASON reason).fset F.LOCK_LAST.FAILED failed).fset
    F.LOCK_TIMES.DURATION (min 65535 (duration / 1000))).fset F.LOCK_TIMES.EXTRA (min 65535 (extra / 1000))

/-- Entry 0 of the library shows the connections standing at the end of the cycle (R172). -/
def State.writeStanding (s : State) : State := s.putPlan 0 { s.plan 0 with peer := s.standing, planId := 0, state := 0, tInsert := s.time.tb0.t / 10 ^ 12 }

/-- A cycle that has not opened ends ABORTED (R88, R92, R94): its paths stay as they were, and its CLOSED notice has zero
bitmaps. -/
def State.abortPending (s : State) (c : Cycle) (reason : Nat) : State :=
  let n := s.noticeOf c 3 3 reason s.time.tb0.fine []
  let s := ((s.dropCycle c.id).dropSettle c.id).dropBufs c.axes
  let s := s.sendJournal (.abort c.id)
  let s := if c.berth then s else
    ((((s.releasePlan c.planId).lockLast 3 reason 0 0 0).lockEvent c 3 reason 0 0 0).sendNotice n).count 2 4
  s.writeStanding.recordBoot

/-- An axis at the CLOSE tick (R42, R48, R65): source HOLD; an axis of a new path starts with an offset of 0; LOCK becomes NORMAL. -/
def closeAxis (x : Axis) : Axis :=
  { (if x.st = 1 then x.setSt 0 else x).setSrc 0 with offset := if x.st = 6 then x.offset else 0, stop := false, winOk := false, winLen := 0 }

/-- The mirror has reached park: both axes are PARKED. -/
def State.parked (s : State) (m : Nat) : Bool := (mirrorAxes m).all (fun a => (s.axisNow a).st = 6)

/-- A released mirror at the CLOSE tick (R65): PARKED with HOLD, or still moving under the limiter. -/
def State.closeMirror (s : State) (m : Nat) : State :=
  if s.parked m then (mirrorAxes m).foldl (fun s a => s.modNow a (fun x => x.setSrc 0)) s
  else { s with lock := { s.lock with parking := s.lock.parking ++ [m] } }

/-- Lanes in use on a proof path: the fewest of its service ports (R99, R225). -/
def State.proofLanes (s : State) (a b : Nat) : Nat :=
  match servicePorts a b with
  | [] => 0
  | n :: ns => ns.foldl (fun m k => min m (s.fget (F.SVC_PORT_CTRL.LANES k))) (s.fget (F.SVC_PORT_CTRL.LANES n))

/-- The customer port at the end of a FAR path (R98). -/
def farPort (a b : Nat) : Option Nat := if a < 1152 then some a else if b < 1152 then some (1152 + b) else none

/-- Pound V is being reloaded: heater and modulator drives hold, and no ring, port or check works on (R15). -/
def State.lightHeld (s : State) : Bool := decide (s.poundState 14 = 3)

/-- The far end of a customer port answers the identity exchange and supports its loopback (R98). -/
def Port.loops (x : Port) : Bool := x.known && x.light && x.loopCap

/-- A proof is SKIPPED (R99): pound V is being reloaded, the FAR port is LIMITED, LATE_PROOF_EN is clear, or no lane is in use. So is
that of a port which is no end of a FAR path, since it does not answer or has no loopback (R98; DESIGN CHOICE, log 67). -/
def State.proofSkipped (s : State) (a b : Nat) : Bool :=
  s.lightHeld || !s.bit F.LOCK_LIMITS.LATE_PROOF_EN || decide (s.proofLanes a b = 0) ||
  (match farPort a b with | some p => decide ((s.port p).state = 3) || !(s.port p).loops | none => false)

/-- The late proof of one path begins, or is reported SKIPPED (R98, R99, R250). -/
def State.startProof (s : State) (id a : Nat) : State :=
  let b := peerOf s.standing a
  if s.proofSkipped a b then s.proofEvent id a b 1 0 0
  else
    let s := (servicePorts a b).foldl (fun s n => s.fset (F.SVC_PORT_CTRL.BUSY n) 1) s
    let s := match farPort a b with | some p => s.sendIdent 3 (s.port p).nonce p | none => s
    { s with lock := { s.lock with proofs := s.lock.proofs ++ [⟨id, a, s.proofLanes a b, s.time.tb3⟩] } }

/-- The late proofs of a cycle begin after CLOSE (R98, R99): those of its proof paths that are LIT. -/
def State.startProofs (s : State) (c : Cycle) (lit : List CPath) : State :=
  let e := match s.planIndex c.planId with | some i => s.plan i | none => {}
  let ps := if c.lateProof then e.proof.filter (fun a => lit.any (fun p => decide (p.a = a)) || s.standing.any (fun p => decide (p.1 = a))) else []
  ps.foldl (fun s a => s.startProof c.id a) s

/-- The settle model learns from each cycle that closes (R76): a BACKGROUND tow that updates the parameters is submitted. -/
def State.submitLearn (s : State) : State :=
  let l := s.map.learned
  let s := { s with map := { s.map with learned := [] } }
  if s.bit F.LOCK_LIMITS.LEARN && decide (l ≠ []) then
    let t : Tow := { space := sequencerSpace, tag := learnTag, cls := 2, addr := 0, count := 1, order := s.tows.submitted, settle := some learnTag }
    { s with map := { s.map with learnQueue := s.map.learnQueue ++ [l] }
             tows := { s.tows with tows := s.tows.tows ++ [t], submitted := s.tows.submitted + 1 } }
  else s

/-- The berth circuits a berth cycle leaves: the customer port and the service mirror of each proved path (R247). -/
def berthOf (p : CPath) : Option (Nat × Nat) :=
  match entryOf p.a, entryOf (1160 + p.b) with
  | some e, none => some (e, 1160 + p.b)
  | none, some e => some (e, p.a)
  | _, _ => none

/-- The end of a berth cycle (R247, R251): the ports it circuits are checked; a berth path that failed leaves its port unchecked. -/
def State.closeBerth (s : State) (lit failed : List CPath) : State :=
  let s := { s with fabric := { s.fabric with berths := lit.filterMap berthOf } }
  let s := (lit.filterMap berthOf).foldl (fun s b => s.modPort b.1 (fun x => { x with checking := true, hellos := 0 })) s
  let s := (failed.filterMap berthOf).foldl (fun s b => s.berthFailed b.1) s
  s.writeStanding.count 2 10

/-- The running cycle closes at the present tick (R71, R88, R89): paths not proved fail; proved paths become LIT; notices,
completion and records follow. -/
def State.closeCycle (s : State) (id : Nat) : State :=
  match s.cycle id with
  | none => s
  | some c0 =>
    let undone := if c0.aborting then [] else c0.paths.filter (fun p => p.phase ≠ .proved && p.phase ≠ .failed)
    let s := undone.foldl (fun s p => s.failPath id p) s
    let c := match s.cycle id with | some c => c | none => c0
    let lit := if c.aborting then [] else c.paths.filter (fun p => p.phase = .proved)
    let bad := if c.aborting then [] else c.paths.filter (fun p => p.phase ≠ .proved)
    let away := if c.aborting then c.mirrors else c.released
    let held := if c.aborting then [] else c.paths.flatMap (fun p => pathAxes p.a p.b)
    let s := held.foldl (fun s a => s.modNow a closeAxis) s
    let s := away.foldl State.closeMirror s
    let s := { s with lock := { s.lock with paths := s.lock.paths ++ lit.map (fun (p : CPath) => ({ a := p.a, b := p.b } : Path)) } }
    let s := lit.foldl (fun s p => s.refreshAxisPath (axisOf 0 p.a 0)) s
    let s := (s.dropCycle id).dropBufs c.axes
    let s := { s with lock := { s.lock with closedNow := true } }
    if c.berth then s.submitLearn.closeBerth lit bad
    else
      let outcome := c.outcome c.aborting
      let reason := if c.aborting then 0x21 else 0
      let failed := bad.length + c.lost.length
      let now := s.time.tb0.ns
      let duration := (now + 2 ^ 64 - c.tOpen) % 2 ^ 64
      let extra := c.extra * s.periodNs
      let marked := pairMirrors (bad.map (fun p => (p.a, p.b))) ++ away
      let n := { s.noticeOf c 3 outcome reason s.time.tb0.fine marked with
                 failed := failed, tOpened := (match c.opened with | some o => o.2 | none => 0), duration := duration, extra := extra }
      let s := s.releasePlan c.planId
      let s := s.lockLast outcome reason failed duration extra
      let s := ((s.count 2 (1 + outcome)).count 2 8 lit.length).count 2 9 failed
      let s := if c.twoWaves then s.count 2 7 else s
      let s := s.lockEvent c outcome reason failed duration extra
      let s := (s.sendNotice n).sendJournal (.closed id outcome)
      let s := (s.writeStanding).startProofs c lit
      (s.submitLearn).recordBoot

end Sys2Proof.Machine
end

