-- ==== Sys2Proof/Machine/Translate.lean ====
section
/-!
DEFINITION. Translation of host addresses (R262–R266): page-table entries, the walk, the cache of leaves, fault records, and the
commands on translation and queue-engine faults (R265, R267–R271).
-/

namespace Sys2Proof.Machine

/-- The queue engine's context in the translation cache (R262). -/
def queueCtx : Nat := 64

/-- How a walk ends (R266): a leaf, a fault with its kind and level, or more table reads to come. -/
inductive WalkEnd where
  | leaf (c : Cached)
  | fault (kind level : Nat)
  | pending
deriving DecidableEq, Repr

/-- Page size of a leaf at a level: 2^bits bytes (R262). -/
def levelBits (level : Nat) : Nat := 12 + 9 * (level - 1)

/-- What an entry read at a level comes to (R263, R266): a fault, a leaf, or the next table. -/
def entryEnd (ctx addr : Nat) (write : Bool) (level : Nat) (e : BitVec 64) : Option WalkEnd :=
  let w := e.toNat
  let v := w % 2
  let r := w / 2 % 2
  let wr := w / 4 % 2
  let leaf := w / 8 % 2
  let base := w / 2 ^ 12 % 2 ^ 40 * 2 ^ 12
  if v = 0 then some (.fault 1 level)
  else if w / 32 % 2 ^ 7 ≠ 0 ∨ w / 2 ^ 62 ≠ 0 ∨ (level = 4 ∧ leaf = 1) ∨ (level = 1 ∧ leaf = 0) then some (.fault 4 level)
  else if leaf = 0 then none
  else if base % 2 ^ levelBits level ≠ 0 then some (.fault 4 level)
  else if !write && decide (r = 0) then some (.fault 2 level)
  else if write && decide (wr = 0) then some (.fault 3 level)
  else some (.leaf ⟨ctx, addr / 2 ^ levelBits level, levelBits level, decide (r = 1), decide (wr = 1), decide (w / 16 % 2 = 1), base⟩)

/-- Walk the levels from this one down with the entries the host returns (R262, R264); none is an error, poison or time-out. -/
def walkLevels (ctx addr : Nat) (write : Bool) : Nat → WalkReads → WalkEnd
  | 0, _ => .fault 5 1
  | _ + 1, [] => .pending
  | level + 1, none :: _ => .fault 5 (level + 1)
  | level + 1, some e :: es =>
    match entryEnd ctx addr write (level + 1) e with
    | some x => x
    | none => walkLevels ctx addr write level es

/-- The table entries a walk from this level down has read, above the leaf (R264). -/
def walkTables (ctx addr : Nat) : Nat → WalkReads → List CachedTable
  | level + 1, some e :: es =>
    match entryEnd ctx addr false (level + 1) e with
    | some _ => []
    | none => ⟨ctx, level + 1, addr / 2 ^ levelBits (level + 1), e.toNat / 2 ^ 12 % 2 ^ 40 * 2 ^ 12⟩ :: walkTables ctx addr level es
  | _, _ => []

/-- The cached leaf of a context that maps an address. -/
def State.cached (s : State) (ctx addr : Nat) : Option Cached :=
  s.link.cache.find? (fun c => decide (c.ctx = ctx ∧ c.page = addr / 2 ^ c.bits))

/-- The level of a cached leaf. -/
def Cached.level (c : Cached) : Nat := (c.bits - 12) / 9 + 1

/-- The root of a context is valid (R262, R274): the queue context's VALID; a space's root a 4 KiB-aligned bus address. -/
def State.rootOk (s : State) (ctx : Nat) : Bool :=
  if ctx = queueCtx then s.bit F.XL_QROOT.VALID
  else match s.space ctx with
    | some sp => decide (sp.ptRoot % 4096 = 0) && decide (sp.ptRoot < 2 ^ 52)
    | none => false

/-- The level a walk starts at (R264): below the deepest cached table entry for the address, else 4. -/
def State.walkFrom (s : State) (ctx addr : Nat) : Nat :=
  let has := fun (l : Nat) => s.link.tables.any (fun t => decide (t.ctx = ctx ∧ t.level = l ∧ t.page = addr / 2 ^ levelBits l))
  if has 2 then 1 else if has 3 then 2 else if has 4 then 3 else 4

/-- Translate an address of a context (R262–R266), from the cache or by a walk of the levels it does not hold. -/
def State.translate (s : State) (ctx addr : Nat) (write : Bool) (reads : WalkReads) : WalkEnd :=
  match s.cached ctx addr with
  | some c =>
    if write && !c.w then .fault 3 c.level
    else if !write && !c.r then .fault 2 c.level
    else .leaf c
  | none => if s.rootOk ctx then walkLevels ctx addr write (s.walkFrom ctx addr) reads else .fault 5 4

/-- A walk that ended in this leaf is cached, its table entries with it (R264). -/
def State.cacheWalk (s : State) (addr : Nat) (reads : WalkReads) (c : Cached) : State :=
  if s.link.cache.contains c then s
  else { s with link := { s.link with cache := s.link.cache ++ [c]
                                      tables := merge s.link.tables (walkTables c.ctx addr (s.walkFrom c.ctx addr) reads) } }

/-- The no-snoop attribute of an access (R256): NOSNOOP_EN and NS of the leaf that maps the address are both set; a leaf not held in
the cache counts as clear (log 74). -/
def State.noSnoop (s : State) (ctx addr : Nat) : Bool :=
  s.bit F.XL_CTRL.NOSNOOP_EN && (match s.cached ctx addr with | some c => c.ns | none => false)

/-- The cached translations of a context, of every level, that lie in a range of 2^size bytes, or all of them, are removed (R265). -/
def State.uncache (s : State) (ctx : Nat) (all : Bool) (addr size : Nat) : State :=
  let stays := fun (c page bits : Nat) =>
    decide (c ≠ ctx) ||
    (!all && (decide (page * 2 ^ bits + 2 ^ bits ≤ addr / 2 ^ size * 2 ^ size) ||
              decide (addr / 2 ^ size * 2 ^ size + 2 ^ size ≤ page * 2 ^ bits)))
  { s with link := { s.link with cache := s.link.cache.filter (fun c => stays c.ctx c.page c.bits)
                                 tables := s.link.tables.filter (fun t => stays t.ctx t.page (levelBits t.level)) } }

/-- The cached leaves of a context that map one 4 KiB page are removed (R270, R271). -/
def State.uncachePage (s : State) (ctx addr : Nat) : State := s.uncache ctx false addr 12

/-! ## Faults of tows (R267–R270) -/

/-- The next FAULT_ID of a space, from 1, skipping 0 (R267). -/
def nextFaultId (n : Nat) : Nat := if (n + 1) % 65536 = 0 then 1 else (n + 1) % 65536

/-- A fault record (R267). -/
def faultRecord (space tag : Nat) (f : Fault267) : List Byte :=
  le 1 f.kind ++ le 1 f.level ++ le 1 ((if f.write then 1 else 0) + (if f.runahead then 2 else 0)) ++ le 1 0 ++ le 2 space ++
  le 2 f.id ++ le 8 f.addr ++ le 8 tag ++ le 4 f.barge ++ le 4 0

/-- A walk for an access of a tow ends in a fault (R267, R268): one record for a page with no outstanding fault in the tow. -/
def State.takeFault (s : State) (t : Tow) (kind level addr : Nat) (write : Bool) (barge : Nat) : State :=
  match s.space t.space with
  | none => s
  | some sp =>
    if t.faults.any (fun f => decide (f.addr / 4096 = addr / 4096)) then s
    else
      let id := nextFaultId sp.lastFault
      let f : Fault267 := ⟨id, kind, level, write, !write && (decide (t.next < barge) || (decide (t.next = barge) && !t.inBarge)), addr, barge⟩
      let s := s.modSpace t.space (fun sp => { sp with lastFault := id })
      let s := s.modTow t.space t.tag (fun t =>
        let t := { t with faults := t.faults ++ [f] }
        if write then { t with heldWrites := t.heldWrites ++ t.drain, drain := [] } else t)
      let s := (s.count 7 5).countSpace t.space 7
      s.push sp.fq (s.eventItem 0 5 6 (faultRecord t.space t.tag f))

/-- TRANSLATION_FAULT (R268): a walk for an access of a tow, addr a host address, ends in a fault. -/
def execTranslationFault (space tag addr : Nat) (write : Bool) (barge : Nat) (walk : WalkReads) (s : State) : Out :=
  ifOk (Instr.wf (.translationFault space tag addr write barge walk))
    (match s.tow space tag, s.space space with
     | some t, some sp =>
       if t.phase.isEnded || !sp.hostEn then s
       else match s.translate space addr write walk with
         | .fault kind level => s.takeFault t kind level addr write barge
         | .leaf c => s.cacheWalk addr walk c
         | .pending => s
     | _, _ => s)

/-- A stopped tow whose faults are all resumed (R270): ready, or waiting still where a WAIT was unmet. -/
def Tow.afterFault (t : Tow) : TowPhase := match t.unmet with | some (c, v, since) => .waiting c v since | none => .ready

/-- TOW_STOP (R268): a faulted tow stops at the boundary before the first barge that needs a parked read, or after a held write. -/
def execTowStop (space tag : Nat) (s : State) : Out :=
  ifOk (Instr.wf (.towStop space tag))
    (match s.tow space tag with
     | some t =>
       if t.phase.isRunning && !t.inBarge && (t.held || t.faults.any (fun f => decide (f.barge = t.next))) then
         match t.phase with
         | .running u =>
           (s.leaveUnit u).modTow space tag (fun t =>
             { t.unstage with phase := .stopped, heldWrites := t.heldWrites ++ t.drain, drain := [] })
         | _ => s
       else s
     | none => s)

/-- One outstanding fault of a tow is resumed (R270): its page's translations go, and the tow becomes ready once none is left. -/
def State.resumeFault (s : State) (t : Tow) (f : Fault267) : State :=
  let s := (s.uncachePage t.space f.addr).count 7 6
  s.modTow t.space t.tag (fun t =>
    let left := t.faults.filter (fun g => decide (g.id ≠ f.id))
    { t with faults := left
             phase := if t.phase = .stopped ∧ left = [] then t.afterFault else t.phase
             unmet := if t.phase = .stopped ∧ left = [] then none else t.unmet
             resumed := t.resumed || decide (t.phase = .stopped ∧ left = []) })

/-- FAULT_RESUME (R270): one fault of a space, or with ALL every outstanding one. -/
def execFaultResume (src : Src) (space : Nat) (all : Bool) (faultId : Nat) (s : State) : Out :=
  .next (s.handle 0x44 src (fun s =>
    match s.space space with
    | none => s.refuse 0x44 src .unknown
    | some _ =>
      let hits := (s.tows.tows.filter (fun t => decide (t.space = space))).flatMap (fun t =>
        (t.faults.filter (fun f => all || decide (f.id = faultId))).map (fun f => (t, f)))
      if !all && hits.isEmpty then s.refuse 0x44 src .unknown
      else (hits.foldl (fun s p => s.resumeFault p.1 p.2) s).complete 0x44 src .done 0 hits.length))

/-! ## Faults of the queue engine (R271), and invalidation (R265) -/

/-- The host transfers of a queue stop at a fault (R271). -/
def State.stopQueue (s : State) (q addr : Nat) : State :=
  { s.modQueue q (fun d => { d with stopped := true }) with link :=
      { (s.modQueue q (fun d => { d with stopped := true })).link with faulted := s.link.faulted ++ [(q, addr / 4096)] } }

/-- A fault of the queue engine (R271): it stops the queue; the first is recorded, later ones set MORE. -/
def State.queueFault (s : State) (q addr : Nat) (write : Bool) (kind level : Nat) : State :=
  let s := (s.stopQueue q addr).count 11 10
  if s.bit F.XL_FAULT.QFAULT then s.fset F.XL_FAULT.MORE 1
  else
    let s := ((s.fset F.XL_FAULT.KIND kind).fset F.XL_FAULT.LEVEL level).fset F.XL_FAULT.WRITE (if write then 1 else 0)
    let s := s.fset F.XL_FAULT.QUEUE q
    let s := (s.setWord 0xA00008 (BitVec.ofNat 32 addr)).setWord 0xA0000C (BitVec.ofNat 32 (addr / 2 ^ 32))
    s.sticky F.XL_FAULT.QFAULT (some 4)

/-- QUEUE_FAULT (R271): a walk for a host transfer of an enabled queue ends in a fault. -/
def execQueueFault (queue addr : Nat) (write : Bool) (walk : WalkReads) (s : State) : Out :=
  ifOk (Instr.wf (.queueFault queue addr write walk))
    (if (s.queue queue).en && !(s.queue queue).stopped && s.mayRequest then
       match s.translate queueCtx addr write walk with
       | .fault kind level => s.queueFault queue addr write kind level
       | .leaf c => s.cacheWalk addr walk c
       | .pending => s
     else s)

/-- XL_FAULT.RESUME (R271): the faulting pages' translations go, and every stopped queue's transfers go on. -/
def State.resumeQueues (s : State) : State :=
  let s := s.link.faulted.foldl (fun s p => s.uncachePage queueCtx (p.2 * 4096)) s
  let s := s.link.faulted.foldl (fun s p => s.modQueue p.1 (fun d => { d with stopped := false })) s
  { s with link := { s.link with faulted := [] } }


end Sys2Proof.Machine
end

