-- ==== Sys2Proof/Machine/Spaces.lean ====
section
/-!
DEFINITION. Tow spaces and the life of a tow as commands see it (R106, R114, R120–R122, R127, R128, R171): create, destroy,
submit, cancel, waits, and the end event.
-/

namespace Sys2Proof.Machine

/-- Bytes of one save slot (R121). -/
def saveSlot : Nat := 2052 * 1024

/-- Bytes of a space's save area (R121). -/
def Space.saveArea (sp : Space) : Nat := sp.saveSlots * saveSlot

/-- Two ranges overlap. -/
def overlaps (a n b m : Nat) : Bool := decide (a < b + m) && decide (b < a + n) && decide (0 < n) && decide (0 < m)

/-- The system space (R120): its allocations are the image's, it has no host region (R273), and nothing of the host changes it. Its
save slots and run-ahead distance are the most and the default (log 26). -/
def State.systemSpace (s : State) : Option Space :=
  s.image.map (fun i =>
    { maxClass := 0, hostEn := false, saveSlots := 16, runAhead := 0, syncTimeout := 0, basinBase := i.vendor.1,
      basinSize := i.vendor.2.1, stackBase := i.vendor.2.2.1, stackSize := i.vendor.2.2.2, ptRoot := 0, seed := 0, cq := 0, fq := 0,
      system := true })

/-- A tow space, the system space among them. -/
def State.spaceOf (s : State) (p : Nat) : Option Space := if p = 0 then s.systemSpace else s.space p

/-- The allocations of a new space are free and lie in the image's tow regions, clear of its system region (R121). -/
def State.allocOk (s : State) (sp : Space) : Bool :=
  let sys := match s.image with | some i => i.system | none => []
  let within (l : List (Nat × Nat)) (a n : Nat) : Bool := decide (n = 0) || l.any (fun r => decide (r.1 ≤ a) && decide (a + n ≤ r.1 + r.2))
  decide (sp.basinBase + sp.basinSize ≤ 2 ^ 34) && decide (sp.stackBase + sp.stackSize ≤ 2 ^ 37) &&
  (match s.image with
   | some i => within i.towBasin sp.basinBase sp.basinSize && within i.towStack sp.stackBase sp.stackSize
   | none => true) &&
  (match s.systemSpace with
   | some o => !overlaps sp.basinBase sp.basinSize o.basinBase o.basinSize && !overlaps sp.stackBase sp.stackSize o.stackBase o.stackSize
   | none => true) &&
  decide (sp.saveArea ≤ sp.basinSize) &&
  sys.all (fun r => !overlaps sp.basinBase sp.basinSize r.1 r.2) &&
  s.tows.spaces.all (fun p => match p.2 with
    | some o => !overlaps sp.basinBase sp.basinSize o.basinBase o.basinSize && !overlaps sp.stackBase sp.stackSize o.stackBase o.stackSize
    | none => true)

/-- Fields of SPACE_CREATE within their ranges (R120, R289). -/
def Space.rangeOk (sp : Space) (space : Nat) : Bool :=
  decide (1 ≤ space ∧ space ≤ 63) && decide (sp.maxClass ≤ 2) && decide (1 ≤ sp.saveSlots ∧ sp.saveSlots ≤ 16) &&
  decide (sp.runAhead ≤ 63) && decide (sp.cq < 4096) && decide (sp.fq < 4096) && decide (sp.basinBase % 4096 = 0) &&
  decide (sp.basinSize % 4096 = 0) && decide (sp.stackBase % 4096 = 0)

/-- The counter groups bound to a space are zeroed (R353). -/
def State.zeroBound (s : State) (space : Nat) : State :=
  (List.range 8).foldl (fun s k =>
    if s.bit (F.CNT_BIND.EN k) && decide (s.fget (F.CNT_BIND.SPACE k) = space) then
      { s with counters := s.counters.filter (fun c => decide (c.1 / 16 ≠ 24 + k)) }
    else s) s

/-- SPACE_CREATE (R121): the space with its allocations, its sync counters 0. -/
def execSpaceCreate (src : Src) (space maxClass : Nat) (hostEn : Bool) (saveSlots runAhead cq fq syncTimeout ptRoot seed
    basinBase basinSize stackBase stackSize : Nat) (s : State) : Out :=
  .next (s.handle 0x40 src (fun s =>
    let sp : Space := { maxClass := maxClass, hostEn := hostEn, saveSlots := saveSlots, runAhead := runAhead,
                        syncTimeout := syncTimeout, basinBase := basinBase, basinSize := basinSize, stackBase := stackBase,
                        stackSize := stackSize, ptRoot := ptRoot, seed := seed, cq := cq, fq := fq }
    if !sp.rangeOk space then s.refuse 0x40 src .range
    else if (s.space space).isSome then s.refuse 0x40 src .state
    else if !s.allocOk sp then s.refuse 0x40 src .resource
    else
      let s := { s with tows := { s.tows with spaces := spSet none s.tows.spaces space (some sp) } }
      (s.zeroBound space).complete 0x40 src .done))

/-! ## The end of a tow (R127, R128) -/

/-- Feeds that hold their place outside the queue join it as far as its 64 entries go (R163). -/
def State.fillQueue (s : State) : State :=
  let room := 64 - s.auction.feeds.length
  { s with auction := { s.auction with feeds := s.auction.feeds ++ s.auction.outside.take room, outside := s.auction.outside.drop room } }

/-- The queued feeds that satisfy a test are removed, and running solves of such feeds are abandoned and write nothing (R171). -/
def State.dropFeeds (s : State) (mine : Feed → Bool) : State :=
  let gone := s.auction.solves.filter (fun p => match p.2 with | some v => mine v.feed | none => false)
  let s := gone.foldl (fun s p => s.fset F.AUC_STATUS.BUSY (s.fget F.AUC_STATUS.BUSY &&& (31 ^^^ 2 ^ p.1))) s
  let lost := gone.length + (s.auction.orphans.filter (fun v => mine v.feed)).length
  let s := if lost = 0 then s else s.count 8 10 lost
  ({ s with auction := { s.auction with
      feeds := s.auction.feeds.filter (fun f => !mine f)
      outside := s.auction.outside.filter (fun f => !mine f)
      orphans := s.auction.orphans.filter (fun v => !mine v.feed)
      solves := s.auction.solves.filter (fun p => match p.2 with | some v => !mine v.feed | none => true) } }).fillQueue

/-- A feed of this tow. -/
def Tow.owns (t : Tow) (f : Feed) : Bool := decide (f.space = t.space ∧ f.tag = t.tag)

/-- A tow is cancelled (R127): at its next barge boundary, or at once if none of its barges runs. -/
def State.cancelTow (s : State) (t : Tow) : State :=
  let s := s.dropFeeds t.owns
  if t.phase.isEnded then s
  else if t.phase.isRunning && t.inBarge then s.modTow t.space t.tag (fun t => { t with cancelled := true })
  else s.endTow t 1

/-- The payload of a tow end event from offset 24 (R290). -/
def Tow.endPayload (t : Tow) (reason : Nat) : List Byte :=
  le 8 t.tag ++ le 1 t.space ++ le 1 reason ++ le 1 ((if t.escalated then 1 else 0) + (if t.rangeShort then 2 else 0)) ++ le 1 0 ++
  le 4 t.preempted ++ le 4 t.barges

/-- A tow end event takes the cell reserved for it (R287). -/
def State.pushEnd (s : State) (t : Tow) (reason : Nat) : State :=
  let it := s.eventItem 0x20 3 4 (t.endPayload reason)
  let s := s.modQueue t.endQueue (fun q => { q with reserved := q.reserved - 1 })
  let d := s.queue t.endQueue
  if d.en && d.dir && !d.broken then (s.modQueue t.endQueue (fun d => d.link it)).count 11 0 else s

/-- The destruction of a space whose tows have all ended completes (R121). -/
def State.settleSpace (s : State) (space : Nat) : State :=
  match s.space space with
  | some sp =>
    (match sp.destroying with
     | some src =>
       if s.tows.tows.any (fun t => decide (t.space = space)) then s
       else
         let s := s.uncache space true 0 12
         let s := { s with tows := { s.tows with spaces := spSet none s.tows.spaces space none,
                                                 past := s.tows.past.filter (fun p => decide (p.1 ≠ space)) } }
         s.complete 0x41 src .done
     | none => s)
  | none => s

/-- The end of a tow with this reason (R128): its event, its counts, the commands that wait for it. The feeds of a tow that is cancelled
or that a rung change ends go with it; a solve whose matrix a completed barge has handed over goes on (R112, R171). -/
def State.finishTow (s : State) (t : Tow) (reason : Nat) : State :=
  let s := if reason = 1 ∨ reason = 7 then s.dropFeeds t.owns else s
  let s := s.pushEnd t reason
  let s := (s.count 7 (if reason = 0 then 1 else 2)).countSpace t.space 1
  let s := { s with tows := { s.tows with
              tows := s.tows.tows.filter (fun x => !decide (x.space = t.space ∧ x.tag = t.tag))
              past := s.tows.past ++ [(t.space, t.tag)] } }
  let s := t.cancel.foldl (fun s src => s.complete 0x43 src .done) s
  s.settleSpace t.space

/-- TOW_END (R128): a tow that has ended queues its end event. -/
def execTowEnd (space tag : Nat) (s : State) : Out :=
  ifOk (Instr.wf (.towEnd space tag))
    (match s.tow space tag with
     | some t => (match t.phase with | .ended r => s.finishTow t r | _ => s)
     | none => s)

/-- SPACE_DESTROY (R121): every tow of the space is cancelled; it completes when they have all ended. -/
def execSpaceDestroy (src : Src) (space : Nat) (s : State) : Out :=
  .next (s.handle 0x41 src (fun s =>
    if !decide (1 ≤ space ∧ space ≤ 63) then s.refuse 0x41 src .range
    else match s.space space with
      | none => s.refuse 0x41 src .unknown
      | some sp =>
        if sp.destroying.isSome then s.refuse 0x41 src .inProgress
        else
          let s := (s.modSpace space (fun sp => { sp with destroying := some src })).dropFeeds (fun f => decide (f.space = space))
          let s := (s.tows.tows.filter (fun t => decide (t.space = space))).foldl (fun s t => s.cancelTow t) s
          s.settleSpace space))

/-! ## Submit and cancel (R122, R127, R287) -/

/-- The queue in which an end event's cell was reserved when the command was taken. -/
def State.endReserved (s : State) (src : Src) : Option Nat := (s.link.endResv.find? (fun p => decide (p.1 = src))).map (·.2)

/-- The reservation for an end event passes from the command to its tow. -/
def State.keepEnd (s : State) (src : Src) : State :=
  { s with link := { s.link with endResv := s.link.endResv.filter (fun p => decide (p.1 ≠ src)) } }

/-- Why a TOW_SUBMIT is refused (R122, R289). -/
def State.submitRefusal (s : State) (space cls count tag : Nat) : Option Reason :=
  match s.space space with
  | none => some .unknown
  | some sp =>
    let live := s.tows.tows.filter (fun t => decide (t.space = space))
    if count = 0 ∨ 2 < cls then some .range
    else if cls < sp.maxClass then some .class
    else if 256 ≤ (live.filter (fun t => !t.phase.isEnded)).length ∨
        1024 ≤ (s.tows.tows.filter (fun t => !t.phase.isEnded)).length then some .resource
    else if sp.destroying.isSome || live.any (fun t => decide (t.tag = tag)) then some .state
    else none

/-- TOW_SUBMIT (R106, R122): a tow of a class joins the queue of its class; its end event's cell stays reserved (R287). -/
def execTowSubmit (src : Src) (space cls count tag addr : Nat) (s : State) : Out :=
  .next (s.handle 0x42 src (fun s =>
    match s.submitRefusal space cls count tag with
    | some r => s.refuse 0x42 src r
    | none =>
      let q := match s.space space with | some sp => sp.cq | none => 0
      let s := if (s.endReserved src).isSome then s.keepEnd src
        else s.modQueue q (fun d => { d with reserved := d.reserved + 1 })
      let t : Tow := { space := space, tag := tag, cls := cls, addr := addr, count := count, order := s.tows.submitted, endQueue := q }
      let s := { s with tows := { s.tows with tows := s.tows.tows ++ [t], submitted := s.tows.submitted + 1,
                                              past := s.tows.past.filter (fun p => decide (p ≠ (space, tag))) } }
      s.complete 0x42 src .done))

/-- TOW_CANCEL (R127): completes when the tow has ended; a tow that ended first is reported ALREADY. -/
def execTowCancel (src : Src) (space tag : Nat) (s : State) : Out :=
  .next (s.handle 0x43 src (fun s =>
    match s.space space with
    | none => s.refuse 0x43 src .unknown
    | some _ =>
      match s.tow space tag with
      | some t =>
        if t.phase.isEnded then s.complete 0x43 src .already
        else s.cancelTow t |>.modTow space tag (fun t => { t with cancel := t.cancel ++ [src] })
      | none => if s.tows.past.contains (space, tag) then s.complete 0x43 src .already else s.refuse 0x43 src .unknown))

/-! ## Sync counters (R114) -/

/-- A sync counter of a space. -/
def State.sync (s : State) (space c : Nat) : Nat := match s.space space with | some sp => spGet 0 sp.counters c | none => 0

/-- Change a sync counter, 32 bits. -/
def State.setSync (s : State) (space c v : Nat) : State :=
  s.modSpace space (fun sp => { sp with counters := spSet 0 sp.counters c (v % 2 ^ 32) })

/-- WAIT_MET (R122): the WAIT completes and the tow is ready ahead of the tows of its class not yet started; where it was the last
barge the tow has ended, once its host writes have drained (R126). -/
def execWaitMet (space tag : Nat) (s : State) : Out :=
  ifOk (Instr.wf (.waitMet space tag))
    (match s.tow space tag with
     | some t =>
       (match t.phase with
        | .waiting c v _ =>
          if v ≤ s.sync space c then
            let s := (s.count 7 9).countSpace space 2
            s.modTow space tag (fun t =>
              { t with phase := if t.next + 1 = t.count ∧ !t.drains then .ended 0 else .ready, resumed := true, next := t.next + 1,
                       barges := t.barges + 1 })
          else s
        | _ => s)
     | none => s)

/-- The unmet WAIT of a tow, waiting or stopped by a write fault (R114, R268). -/
def Tow.waits (t : Tow) : Option (Nat × Nat × Nat) := match t.phase with | .stopped => t.unmet | p => p.wait

/-- SYNC_TIMEOUT (R114): a WAIT still unmet SYNC_TIMEOUT ms after it began ends its tow. -/
def execSyncTimeout (space tag : Nat) (s : State) : Out :=
  ifOk (Instr.wf (.syncTimeout space tag))
    (match s.tow space tag, s.space space with
     | some t, some sp =>
       (match t.waits with
        | some (c, v, since) =>
          if 0 < sp.syncTimeout ∧ sp.syncTimeout * 1000000 ≤ s.t3ns - since ∧ s.sync space c < v then (s.endTow t 6).count 7 8 else s
        | none => s)
     | _, _ => s)

end Sys2Proof.Machine
end

