-- ==== Sys2Proof/Machine/SystemData.lean ====
section
/-!
DEFINITION. What the basin system region holds for the control path, as bytes (R21, R59, R60, R73, R109, R172, R173): the pointing
map, the trajectory buffers and the plan library.
-/

namespace Sys2Proof.Machine

/-- The bytes of a trajectory buffer (R73): the header and LEN samples. -/
def trajBytes (b : TrajBuf) : List Byte :=
  le 2 b.axis ++ le 2 b.start ++ le 2 b.samples.length ++ le 2 (b.wave2.toNat + 2 * b.park.toNat + 4 * b.fallback.toNat) ++
  le 2 b.final.toNat ++ le 2 b.model ++ le 4 0 ++ b.samples.flatMap (fun x => le 2 x.1.toNat ++ le 2 x.2.toNat)

/-- Bytes that the region of the trajectory buffers keeps for one axis: a header and 128 samples for each of two waves (log 70). -/
def trajStride : Nat := 2 * 528

/-- A byte of the trajectory buffers. -/
def State.trajByte (s : State) (a : Nat) : Byte :=
  match (spGet [] s.lock.bufs (a / trajStride))[a % trajStride / 528]? with
  | some b => (trajBytes b).getD (a % 528) 0
  | none => 0

/-- The bytes of a plan-library entry (R173). -/
def PlanEntry.bytes (e : PlanEntry) : List Byte :=
  let ns := e.tInsert / 65536
  padTo 4096
    (le 4 e.planId ++ le 1 e.state ++ le 1 e.source ++ le 2 e.approx.toNat ++ le 8 (planHash e.peer e.proof) ++
     le 4 (ofSigned 32 e.score) ++ le 4 e.portGen ++ le 8 0 ++ le 8 (ns / 10 ^ 9) ++ le 4 (ns % 10 ^ 9) ++ le 2 (e.tInsert % 65536) ++
     le 2 0 ++ le 16 0 ++ planBytes e.peer e.proof)

/-- A byte of the plan library, the pointing map or the trajectory buffers, by basin offset; none for any other (R59, R73, R172). -/
def State.controlByte (s : State) (a : Nat) : Option Byte :=
  let lib := 4096 * s.fget F.PLAN_LIB.BASE
  let map := match s.image with | some i => i.mapBase | none => 0
  if lib ≤ a ∧ a < lib + 0x100000 then some ((s.plan ((a - lib) / 4096)).bytes.getD ((a - lib) % 4096) 0)
  else if map ≤ a ∧ a < map + 16 * 16777216 then some ((entryBytes (s.mapWork ((a - map) / 16))).getD ((a - map) % 16) 0)
  else match s.image.bind (fun i => i.trajBase) with
    | some t => if t ≤ a ∧ a < t + trajStride * 4640 then some (s.trajByte (a - t)) else none
    | none => none

/-- A byte of the System region of the system space (R109). -/
def State.storedByte (s : State) (a : Nat) : Byte := (s.controlByte a).getD (spGet 0 s.mem.basin a)

end Sys2Proof.Machine
end

