-- ==== Sys2Proof/Machine/TowRun.lean ====
section
/-!
DEFINITION. Tows on the array units (R105, R108, R114–R119, R122–R126, R268, R269): placement, pre-emption, fetching and starting
barges, memory requests and data, drains, waits and fences.
-/

namespace Sys2Proof.Machine

/-! ## Placement and pre-emption (R122, R123, R125) -/

/-- A class is held: HOLD_PLAN, HOLD_BG (R123). -/
def State.classHeld (s : State) (cls : Nat) : Bool :=
  (decide (cls = 1) && s.bit F.TOW_PREEMPT.HOLD_PLAN) || (decide (cls = 2) && s.bit F.TOW_PREEMPT.HOLD_BG)

/-- Tows of a space started and not ended (R120 STARTED). -/
def State.startedIn (s : State) (space : Nat) : Nat :=
  (s.tows.tows.filter (fun t => decide (t.space = space) && t.started && !t.phase.isEnded)).length

/-- A tow may take a unit: ready, its class not held, and for a tow not yet started a free save slot (R122). -/
def State.mayPlace (s : State) (t : Tow) : Bool :=
  decide (t.phase = .ready) && !s.classHeld t.cls &&
  (t.started || (match s.spaceOf t.space with | some sp => decide (s.startedIn t.space < sp.saveSlots) | none => true))

/-- t goes ahead of u (R122): class, among URGENT tows the settle-model tow, resumed tows, order of submission. -/
def Tow.ahead (t u : Tow) : Bool :=
  if t.cls ≠ u.cls then decide (t.cls < u.cls)
  else if t.cls = 0 ∧ t.settle.isSome ≠ u.settle.isSome then t.settle.isSome
  else if t.resumed ≠ u.resumed then t.resumed
  else decide (t.order < u.order)

/-- The tow that goes first among those that may be placed. -/
def State.nextTow (s : State) : Option Tow :=
  (s.tows.tows.filter (fun t => s.mayPlace t)).foldl (fun (best : Option Tow) t =>
    match best with
    | none => some t
    | some b => if t.ahead b then some t else some b) none

/-- The tow with exactly k others ahead of it among those that may be placed. -/
def State.towAfter (s : State) (k : Nat) : Option Tow :=
  let all := s.tows.tows.filter (fun t => s.mayPlace t)
  all.find? (fun t => decide ((all.filter (fun u => u.ahead t)).length = k))

/-- The free units in service, lowest first array first (R123). -/
def State.freeUnitList (s : State) : List Nat :=
  (List.range 4).filter (fun u => s.unitLead u && s.unitUp u && (s.runner u).isNone)

/-- Units kept free for URGENT while a cycle is pending or running (R123, TOW_PREEMPT.RESERVE). -/
def State.reservedUnits (s : State) : Nat := if s.lock.cycles = [] then 0 else min 2 (s.fget F.TOW_PREEMPT.RESERVE)

/-- A tow is placed on a unit (R123): it starts, or resumes in the place of its start. -/
def State.placeTow (s : State) (t : Tow) (u : Nat) : State :=
  let s := s.showUnit u 2 t.cls t.space
  let s := if t.started then s.count 7 4 else (s.count 7 0).countSpace t.space 0
  let n := s.tows.starts + 1
  let s := s.modTow t.space t.tag (fun t =>
    { t with phase := .running u, started := true, startOrder := if t.started then t.startOrder else n })
  { s with tows := { s.tows with starts := n } }

/-- u is chosen for pre-emption before the tow of v (R123): less urgent, started later, higher first array. -/
def Tow.victimBefore (t : Tow) (u : Nat) (t' : Tow) (v : Nat) : Bool :=
  if t.cls ≠ t'.cls then decide (t'.cls < t.cls)
  else if t.startOrder ≠ t'.startOrder then decide (t'.startOrder < t.startOrder)
  else decide (v < u)

/-- A unit is saving its tow: a pre-emption is pending there. -/
def State.saving (s : State) (u : Nat) : Bool := decide (s.arrayState u = 3)

/-- The units on which a pre-emption is pending. -/
def State.savingUnits (s : State) : List Nat := (List.range 4).filter (fun u => s.saving u && s.unitLead u)

/-- The running tow to pre-empt for a class (R123), of those not pre-empted already. -/
def State.victimFor (s : State) (cls : Nat) : Option Nat :=
  ((List.range 4).filter (fun u => s.unitLead u && s.unitUp u && !s.saving u)).foldl (fun (best : Option Nat) u =>
    match s.runner u with
    | some t =>
      if cls < t.cls then
        (match best with
         | none => some u
         | some v => (match s.runner v with | some t' => if t.victimBefore u t' v then some u else some v | none => some u))
      else best
    | none => best) none

/-- A pre-emption is chosen: the unit shows SAVING (R125, R129). -/
def State.choosePreempt (s : State) (u : Nat) : State :=
  (s.unitArrays u).foldl (fun s n => s.fset (F.ARRAY_STATUS.STATE n) 3) s

/-- Running tows of a held class are pre-empted as if by an URGENT tow (R123). -/
def State.preemptHeld (s : State) : State :=
  (List.range 4).foldl (fun s u =>
    match s.runner u with
    | some t => if s.classHeld t.cls && s.unitUp u && !s.saving u then s.choosePreempt u else s
    | none => s) s

/-- TOW_PLACEMENT (R123): the first ready tow takes the lowest free unit in service. With none free, the first ready tow for which no
unit is being saved yet chooses a less urgent running tow. -/
def execTowPlacement (s : State) : Out :=
  let s := s.preemptHeld
  .next (match s.nextTow with
    | none => s
    | some t =>
      let free := s.freeUnitList
      let keep := if t.cls = 0 then 0 else s.reservedUnits
      match free with
      | u :: _ => if keep < free.length then s.placeTow t u else s
      | [] =>
        match s.towAfter s.savingUnits.length with
        | none => s
        | some t =>
          match s.victimFor t.cls with
          | some u => s.choosePreempt u
          | none => s)

/-- PREEMPTION (R125, R126): at the barge boundary the tow's state goes to a save slot and the unit is free. -/
def execPreemption (unit : Nat) (s : State) : Out :=
  ifOk (Instr.wf (.preemption unit))
    (match s.runner unit with
     | some t =>
       if s.saving unit && !t.inBarge then
         let s := ((s.saveTow t .ready).count 7 3).countSpace t.space 6
         let s := s.modTow t.space t.tag (fun t => { t with preempted := t.preempted + 1 })
         s.fadd F.TOW_PREEMPT.COUNT 1
       else s
     | none => s)

/-! ## How a tow reads its space (R109, R119) -/

/-- Offset of a tow-space address in its region (R109). -/
def offsetOf (a : Nat) : Nat := a % 2 ^ 62

/-- A range lies in the space's allocation of its region (R109, R262). -/
def Space.inBounds (sp : Space) (r : Nat × Nat) : Bool :=
  decide (r.1 < 2 ^ 64) &&
  (match spaceRegion r.1 with
   | 0 => decide (offsetOf r.1 < 2 ^ 34) && decide (offsetOf r.1 + r.2 ≤ sp.basinSize - sp.saveArea)
   | 1 => decide (offsetOf r.1 < 2 ^ 37) && decide (offsetOf r.1 + r.2 ≤ sp.stackSize)
   | 2 => sp.hostEn && decide (offsetOf r.1 < 2 ^ 48) && decide (offsetOf r.1 + r.2 ≤ 2 ^ 48)
   | _ => sp.system && decide (offsetOf r.1 + r.2 ≤ 2 ^ 34))

/-- The byte at a tow-space address of the basin, the stacks or the System region as memory holds it now. -/
def State.memoryByte (s : State) (sp : Space) (a : Nat) : Byte :=
  match spaceRegion a with
  | 0 => spGet 0 s.mem.basin (sp.basinBase + offsetOf a)
  | 1 => spGet 0 s.mem.stack (sp.stackBase + offsetOf a)
  | 2 => 0
  | _ => if sp.system then s.storedByte (offsetOf a) else 0

/-- The byte at a tow-space address as the tow's barges see it: what its tugs have staged, else what memory holds (R117). -/
def State.towByte (s : State) (t : Tow) (sp : Space) (a : Nat) : Byte :=
  if t.ranges.any (fun x => decide (x.1 ≤ a) && decide (a < x.1 + x.2.1)) then spGet 0 t.staged a else s.memoryByte sp a

/-- The range is staged whole (R117). -/
def Tow.isStaged (t : Tow) (r : Nat × Nat) : Bool :=
  t.ranges.any (fun x => decide (x.1 ≤ r.1) && decide (r.1 + r.2 ≤ x.1 + x.2.1)) ||
  (List.range r.2).all (fun k => t.ranges.any (fun x => decide (x.1 ≤ r.1 + k) && decide (r.1 + k < x.1 + x.2.1)))

/-- A word of basin or stack that the range touches is uncorrectable (R119). -/
def State.memoryPoisoned (s : State) (sp : Space) (r : Nat × Nat) : Bool :=
  match spaceRegion r.1 with
  | 0 => s.mem.poison.any (fun p => decide (p.1 = 0) && overlaps (8 * p.2) 8 (sp.basinBase + offsetOf r.1) r.2)
  | 1 => s.mem.poison.any (fun p => decide (p.1 = 1) && overlaps (8 * p.2) 8 (sp.stackBase + offsetOf r.1) r.2)
  | _ => false

/-- Data of the range is poisoned (R119): data that arrived poisoned, or an uncorrectable word of a range not staged whole. -/
def State.rangePoisoned (s : State) (t : Tow) (sp : Space) (r : Nat × Nat) : Bool :=
  decide (0 < r.2) &&
  (t.ranges.any (fun x => x.2.2 && overlaps x.1 x.2.1 r.1 r.2) || (s.memoryPoisoned sp r && !t.isStaged r))

/-- The host ranges of a list. -/
def hostRanges (r : Ranges) : Ranges := r.filter (fun x => decide (spaceRegion x.1 = 2))

/-- A barge is a SYNC WAIT (R114). -/
def Barge.isWait (b : Barge) : Bool := decide (b.op = 0x0A ∧ b.subop = 1)

/-- A fetched barge's WAIT is unmet. -/
def State.unmetWait (s : State) (t : Tow) (f : Fetched) : Bool :=
  let b := bargeOf f.bytes
  decide (f.bad = 0) && b.isWait && decide (s.sync t.space (b.aux % 64) < b.n)

/-- The run-ahead distance of a space: 0 means 8 (R120). -/
def Space.ahead (sp : Space) : Nat := if sp.runAhead = 0 then 8 else sp.runAhead

/-! ## Fetching and starting barges (R108, R113, R117, R269) -/

/-- BARGE_FETCH (R108): the next unfetched barge is read and checked; what its unit finds on reaching it stands with it. Barges lie in
the basin or the host region (R106); that one in the stack region ends its tow with BOUNDS is the model's (DESIGN CHOICE, log 68). -/
def execBargeFetch (unit : Nat) (s : State) : Out :=
  ifOk (Instr.wf (.bargeFetch unit))
    (match s.runner unit with
     | none => s
     | some t =>
       match s.spaceOf t.space with
       | none => s
       | some sp =>
         let idx := t.next + t.fetched.length
         let a := t.addr + 64 * idx
         if t.count ≤ idx ∨ sp.ahead < idx - t.next ∨ t.heldWrites ≠ [] ∨ t.ending.isSome ∨ t.fetched.any (fun f => s.unmetWait t f) then s
         else if !sp.inBounds (a, 64) || decide (spaceRegion a = 1) then
           s.modTow t.space t.tag (fun t => { t with fetched := t.fetched ++ [⟨idx, [], 3⟩] })
         else if decide (spaceRegion a = 2) && !t.isStaged (a, 64) then s
         else
           let bytes := (List.range 64).map (fun k => s.towByte t sp (a + k))
           let bad := if s.rangePoisoned t sp (a, 64) then 4 else if bargeOk bytes (s.unitWidth unit) then 0 else 2
           s.modTow t.space t.tag (fun t => { t with fetched := t.fetched ++ [⟨idx, bytes, bad⟩] }))

/-- The barge at a tow's next index, once fetched. -/
def Tow.head (t : Tow) : Option Fetched :=
  match t.fetched with
  | f :: _ => if f.index = t.next then some f else none
  | [] => none

/-- A sensor of array n reads 110 °C or more (R308, R309). -/
def State.hotArray (s : State) (n : Nat) : Bool :=
  (List.range 10).any (fun k => s.bit (F.PWR_TEMP.VALID (10 * n + k)) && decide (1760 ≤ toSigned 16 (s.fget (F.PWR_TEMP.TEMP (10 * n + k)))))

/-- Array n must halt at its next barge boundary: for low input (R295), core current (R299) or heat (R309). -/
def State.haltDue (s : State) (n : Nat) : Bool := s.tows.inputHalt || s.tows.currentHalt.contains n || s.hotArray n

/-- The unit is held at a barge boundary: saving, a halt, a throttle (R125, R127, R300), a fault (R268), a cancel. -/
def State.boundaryHeld (s : State) (u : Nat) (t : Tow) : Bool :=
  s.saving u || !s.unitUp u || decide (1 ≤ s.rung) || (s.unitArrays u).any s.haltDue || t.cancelled || t.ending.isSome || t.held ||
  t.faults.any (fun f => decide (f.barge = t.next)) ||
  decide (t.heldWrites ≠ []) || (s.tows.throttled.isSome && decide (t.cls ≠ 0))

/-- BAD_BARGE (R108): the unit reaches a barge that failed its checks, and the tow ends when every earlier barge has completed, its
host writes drained. -/
def execBadBarge (unit : Nat) (s : State) : Out :=
  ifOk (Instr.wf (.badBarge unit))
    (match s.runner unit with
     | some t =>
       (match t.head with
        | some f =>
          if f.bad = 2 && !t.inBarge && !t.ending.isSome then (s.endAfter t 2).logEntry 1 7 .request .space 2 t.space t.next else s
        | none => s)
     | none => s)

/-- A barge begins under the escalation settings in force (R148). -/
def State.beginBarge (s : State) (u : Nat) (t : Tow) : State :=
  let s := (s.unitArrays u).foldl (fun s n =>
    ((s.fset (F.ARRAY_STATUS.BARGE n) t.next).fset (F.ARRAY_STATUS.ESC n) 0).fset (F.ARRAY_STATUS.STARVED n) 0) s
  let en := s.bit F.ESCALATE_CTRL.EN
  let budget := min 8 (s.fget F.ESCALATE_CTRL.BUDGET)
  s.modTow t.space t.tag (fun t => { t with inBarge := true, escEn := en, escBudget := budget })

/-- BARGE_START (R102, R269): its host reads staged, and for a barge with host outputs the earlier host writes drained. -/
def execBargeStart (unit : Nat) (s : State) : Out :=
  ifOk (Instr.wf (.bargeStart unit))
    (match s.runner unit with
     | none => s
     | some t =>
       match t.head, s.spaceOf t.space with
       | some f, some sp =>
         let b := bargeOf f.bytes
         if t.inBarge then s
         else if s.boundaryHeld unit t then
           (if s.tows.throttled.isSome && decide (t.cls ≠ 0) then s.count 7 11 else s)
         else if f.bad = 3 ∨ f.bad = 4 then s.endAfter t f.bad
         else if f.bad ≠ 0 then s
         else if !(b.readsFixed ++ (if b.op = 9 then [] else b.writes)).all (fun r => sp.inBounds r) then s.endAfter t 3
         else if b.badIndex (s.towByte t sp) && (hostRanges b.readsFixed).all (fun r => t.isStaged r) then s.endAfter t 3
         else if !(hostRanges (b.reads (s.towByte t sp))).all (fun r => t.isStaged r) then
           (s.unitArrays unit).foldl (fun s n => s.fset (F.ARRAY_STATUS.STARVED n) 1) s
         else if decide (hostRanges b.writes ≠ []) && decide (t.drain ≠ []) then s
         else s.beginBarge unit t
       | _, _ => s)

/-! ## Memory requests (R113, R117, R118) -/

/-- A range overlaps one of a list. -/
def touchesAny (r : Nat × Nat) (l : Ranges) : Bool := l.any (fun x => overlaps x.1 x.2 r.1 r.2)

/-- The first fetched barge that reads the range; none for a range no fetched barge reads. -/
def State.neededBy (s : State) (t : Tow) (sp : Space) (r : Nat × Nat) : Option Nat :=
  (t.fetched.find? (fun f => decide (f.bad = 0) && touchesAny r ((bargeOf f.bytes).reads (s.towByte t sp)))).map (·.index)

/-- A read is held (R113, R114, R117): it overlaps the output of an earlier unfinished barge, or lies beyond an unmet WAIT. A read that
no fetched barge needs is for a later one, and every fetched barge is earlier. -/
def State.readHeld (s : State) (t : Tow) (sp : Space) (r : Nat × Nat) : Bool :=
  touchesAny r (t.drain.map (fun d => (2 ^ 63 + d.1, d.2.length))) ||
  t.fetched.any (fun f =>
    (match s.neededBy t sp r with | some b => decide (f.index < b) | none => true) &&
    decide (f.bad = 0) && (touchesAny r (bargeOf f.bytes).extent || s.unmetWait t f))

/-! The eight tugs of an array share its unit's reads in chunks of 4 KiB, round-robin (R117): chunk k of the tow space is read by tug
k of the unit's tugs in turn (DEDUCED, log 68), and the stage of the tug's array holds it. -/

/-- The tug, 0–31, that reads an address for a unit (R117). -/
def State.tugOf (s : State) (u addr : Nat) : Nat :=
  let k := addr / 4096 % (8 * s.unitWidth u)
  8 * (s.unitArrays u).getD (k / 8) u + k % 8

/-- Bytes in the stage of the array of a tug for a tow, or on their way to it (R117). -/
def State.stageFill (s : State) (t : Tow) (u tug : Nat) : Nat :=
  ((t.ranges.filter (fun r => decide (s.tugOf u r.1 / 8 = tug / 8))).map (fun r => r.2.1)).foldl (· + ·) 0 +
  ((s.tows.reqs.filter (fun r => decide (r.tug / 8 = tug / 8))).map (·.len)).foldl (· + ·) 0

/-- The limits on requests allow one more (R117). -/
def State.requestRoom (s : State) (t : Tow) (u addr : Nat) (host : Bool) (len : Nat) : Bool :=
  let tug := s.tugOf u addr
  decide ((s.tows.reqs.filter (fun r => decide (r.tug = tug))).length < 128) &&
  (!host || decide ((s.tows.reqs.filter (fun r => r.host)).length < 768)) &&
  decide (s.stageFill t u tug + len ≤ 4 * 2 ^ 20)

/-- The controller a request goes to (R118): 0 basin, 1 stack 0, 2 stack 1, 3 the host link. -/
def Space.target (sp : Space) (addr : Nat) : Nat :=
  match spaceRegion addr with
  | 1 => 1 + (sp.stackBase + offsetOf addr) / 4096 % 2
  | 2 => 3
  | _ => 0

/-- The tugs of a unit go ahead of all other tow traffic (R118): a pre-emption is pending there, or it runs an URGENT tow. -/
def State.unitUrgent (s : State) (u : Nat) : Bool :=
  s.saving u || (match s.runner u with | some t => decide (t.cls = 0) | none => false)

/-- A unit that goes ahead waits for the same basin or stack controller (R118). -/
def State.yieldsTo (s : State) (u target : Nat) : Bool :=
  decide (target < 3) && !s.unitUrgent u && s.tows.waits.any (fun w => decide (w.2 = target) && s.unitUrgent w.1)

/-- A tug waits for its target (R118): the wait is counted, and an array whose barge in execution lacks the data is STARVED. -/
def State.tugWaits (s : State) (u target : Nat) (starves : Bool) : State :=
  let s := s.count 6 (match target with | 0 => 6 | 1 => 4 | 2 => 5 | _ => 7)
  let s := { s with tows := { s.tows with waits := if s.tows.waits.contains (u, target) then s.tows.waits else s.tows.waits ++ [(u, target)] } }
  if starves then (s.unitArrays u).foldl (fun s n => s.fset (F.ARRAY_STATUS.STARVED n) 1) s else s

/-- A request goes out to its target (R117). -/
def State.issueRequest (s : State) (u : Nat) (sp : Space) (addr len : Nat) : State :=
  let host := decide (spaceRegion addr = 2)
  let s := { s with tows := { s.tows with
              reqs := s.tows.reqs ++ [({ unit := u, tug := s.tugOf u addr, addr := addr, len := len, host := host } : Req)]
              waits := s.tows.waits.filter (fun w => decide (w ≠ (u, sp.target addr))) } }
  let s := s.count 6 9
  if host then s.count 6 10 else s

/-- An injected memory error takes effect on the word that a tug reads (R356): targets 1 and 2 in the basin, 3 and 4 in a stack. -/
def State.injectWord (s : State) (sp : Space) (addr : Nat) : State :=
  match s.ras.inject, spaceRegion addr with
  | some (1, _), 0 => (s.fire.memoryError 0 0 ((sp.basinBase + offsetOf addr) / 8) 1 false).unmark
  | some (2, _), 0 => (s.fire.memoryError 0 0 ((sp.basinBase + offsetOf addr) / 8) 1 true).unmark
  | some (3, _), 1 =>
    let a := sp.stackBase + offsetOf addr
    (s.fire.memoryError 1 (a / 4096 % 2) (a / 8) 1 false).unmark
  | some (4, _), 1 =>
    let a := sp.stackBase + offsetOf addr
    (s.fire.memoryError 1 (a / 4096 % 2) (a / 8) 1 true).unmark
  | _, _ => s

/-- MEMORY_REQUEST (R117, R118): a request of at most 512 bytes goes out, unless a limit, an interlock or its target holds it;
a host address is translated first (R262). -/
def execMemoryRequest (unit addr len : Nat) (walk : WalkReads) (busy : Bool) (s : State) : Out :=
  ifOk (Instr.wf (.memoryRequest unit addr len walk busy))
    (match s.runner unit with
     | none => s
     | some t =>
       match s.spaceOf t.space with
       | none => s
       | some sp =>
         let host := decide (spaceRegion addr = 2)
         let target := sp.target addr
         let starves := t.inBarge && decide (s.neededBy t sp (addr, len) = some t.next)
         if len = 0 ∨ 512 < len ∨ t.heldWrites ≠ [] ∨ t.ending.isSome then s
         else if !sp.inBounds (addr, len) then s
         else if !s.requestRoom t unit addr host len || s.readHeld t sp (addr, len) then s
         else if spaceRegion addr = 1 ∧ (!s.bit F.KEEL_STATUS.STACK_READY || s.power.stackHeld) then
           let s := (s.fset F.TUG_STATUS.STACK_WAIT 1).count 6 8
           if starves then (s.unitArrays unit).foldl (fun s n => s.fset (F.ARRAY_STATUS.STARVED n) 1) s else s
         else if busy then s.tugWaits unit target starves
         else if s.yieldsTo unit target then (if target = 0 then s else s.count 6 (3 + target))
         else if host then
           if !s.mayRequest then s.tugWaits unit target starves
           else match s.translate t.space (offsetOf addr) false walk with
             | .leaf c =>
               let s := s.cacheWalk (offsetOf addr) walk c
               let s := s.emit (.hostRead t.space (offsetOf addr) len (s.bit F.XL_CTRL.RELAXED_EN) (s.noSnoop t.space (offsetOf addr)))
               s.issueRequest unit sp addr len
             | .fault kind level =>
               s.takeFault t kind level (offsetOf addr) false ((s.neededBy t sp (addr, len)).getD (t.next + t.fetched.length))
             | .pending => s
         else ((if spaceRegion addr = 1 then s.fset F.TUG_STATUS.STACK_WAIT 0 else s).injectWord sp addr).issueRequest unit sp addr len)

/-- A read request of a tow is answered (R119, R122, R270): its bytes, and whether they are poisoned, are staged for the unit; an
uncorrected error is counted, and logged and shown in RAS where the host sent it. -/
def State.takeReturn (s : State) (t : Tow) (sp : Space) (r : Req) (data : List Byte) (poisoned : Bool) : State :=
  let unit := r.unit
  let addr := r.addr
  let bad := poisoned || (!r.host && s.memoryPoisoned sp (addr, r.len))
  let data := if r.host then data else (List.range r.len).map (fun k => s.memoryByte sp (addr + k))
  let s : State := { s with tows := { s.tows with reqs := s.tows.reqs.erase r } }
  let s := if bad then s.count 6 13 else s
  let s := if poisoned then s.logEntry 5 3 .data .space (if r.host then 1 else 0) t.space addr else s
  let s := if poisoned then s.fset F.RAS_STATUS.UE 1 else s
  let s := if poisoned && r.host then s.count 10 7 else s
  let s := (s.unitArrays unit).foldl (fun s n => s.fset (F.ARRAY_STATUS.STARVED n) 0) s
  let s := if r.host then s.countSpace t.space 8 data.length else s
  s.modTow t.space t.tag (fun t => { t with staged := memPut t.staged addr data, ranges := t.ranges ++ [(addr, data.length, bad)] })

/-- MEMORY_DATA_RETURN (R118, R119): data of a request arrives and is staged, of the basin and the stacks as memory holds it now;
poisoned data is marked. -/
def execMemoryDataReturn (unit addr : Nat) (data : List Byte) (poisoned : Bool) (s : State) : Out :=
  ifOk (Instr.wf (.memoryDataReturn unit addr data poisoned))
    (match (s.runner unit).bind (fun t => (s.spaceOf t.space).map (fun sp => (t, sp))),
           s.tows.reqs.find? (fun r => decide (r.unit = unit ∧ r.addr = addr ∧ r.len = data.length)) with
     | some (t, sp), some r => s.takeReturn t sp r data poisoned
     | _, _ => s)

/-! ## Barge ends (R113, R119, R127, R269) -/

/-- n wavefronts have run for a space (R351): the counters count whole 1,024. -/
def State.countWaves (s : State) (space n : Nat) : State :=
  let all := spGet 0 s.tows.waves 0 + n
  let own := spGet 0 s.tows.waves (space + 1) + n
  let s := (s.count 7 10 (all / 1024)).countSpace space 3 (own / 1024)
  { s with tows := { s.tows with waves := spSet 0 (spSet 0 s.tows.waves 0 (all % 1024)) (space + 1) (own % 1024) } }

/-- The barge in progress has ended: what its unit staged for it is consumed, its unit shows no ESC (R147), and the next index is due
(R126). -/
def State.endBarge (s : State) (t : Tow) (used : Ranges) : State :=
  let s := (s.count 7 9).countSpace t.space 2
  let s : State := match t.phase with
    | .running u => (s.unitArrays u).foldl (fun s n => s.fset (F.ARRAY_STATUS.ESC n) 0) s
    | _ => s
  let used : Ranges := (t.addr + 64 * t.next, 64) :: used
  s.modTow t.space t.tag (fun t =>
    let rs := t.ranges.filter (fun r => !touchesAny (r.1, r.2.1) used)
    { t with inBarge := false, next := t.next + 1, barges := t.barges + 1, fetched := t.fetched.drop 1, ranges := rs,
             staged := t.staged.filter (fun c => rs.any (fun r => decide (r.1 ≤ c.1) && decide (c.1 < r.1 + r.2.1))) })

/-- The arrays of a unit that must halt do so at its boundary (R127): its tow is saved, they show HALTED, and heat sets their
HALTED bits (R309). -/
def State.haltArrays (s : State) (u : Nat) : State :=
  let due := (s.unitArrays u).filter (fun n => s.haltDue n && decide (1 ≤ s.arrayState n ∧ s.arrayState n ≤ 3))
  if due = [] then s
  else
    let s := s.haltUnit u
    due.foldl (fun s n =>
      let s := s.setArray n 4
      if s.hotArray n then
        (s.fset F.PWR_THERM.HALTED (s.fget F.PWR_THERM.HALTED ||| 2 ^ n)).count 13 6
      else s) s

/-- What a tow comes to at the boundary after a barge: its end (R127, R150), DONE once its host writes have drained, or a save
where its unit was lost meanwhile or the module has entered L1, which then gates the unit (R127, R302). -/
def State.atBoundary (s : State) (u : Nat) : State :=
  match s.runner u with
  | none => s
  | some t =>
    if t.inBarge then s
    else if t.cancelled then s.endTow t 1
    else if t.unresolved then s.endAfter t 5
    else if t.ending.isSome then (if t.drains then s else s.endTow t (t.ending.getD 0))
    else if t.next = t.count ∧ t.drain = [] ∧ t.heldWrites = [] then s.endTow t 0
    else if 1 ≤ s.rung then ((s.saveTow t .halted).count 7 12).gateArrays
    else if !s.unitUp u then s.haltUnit u
    else s.haltArrays u

/-- HOST_WRITE_DRAIN (R269): a barge's host-region writes leave for the host, held ones first (R270). -/
def execHostWriteDrain (unit : Nat) (s : State) : Out :=
  ifOk (Instr.wf (.hostWriteDrain unit))
    (match s.runner unit with
     | none => s
     | some t =>
       let all := t.heldWrites ++ t.drain
       if all = [] ∨ t.held ∨ !s.mayRequest then s
       else
         let s := all.foldl
           (fun s d => (s.emit (.hostWrite t.space d.1 d.2 (s.noSnoop t.space d.1))).countSpace t.space 9 d.2.length) s
         let s := s.modTow t.space t.tag (fun t => { t with heldWrites := [], drain := [] })
         s.atBoundary unit)

/-! ## Invalidation (R265) -/

/-- What the barge in execution has already consumed of its tow's stage: its own bytes and reads. -/
def State.consuming (s : State) (t : Tow) : Ranges :=
  match t.head, s.spaceOf t.space with
  | some f, some sp => if t.inBarge then (t.addr + 64 * t.next, 64) :: (bargeOf f.bytes).reads (s.towByte t sp) else []
  | _, _ => []

/-- Host reads of a space that lie in a range, staged or on their way and not yet consumed, are discarded, to be issued again under new
walks (R265, R272). -/
def State.discardStaged (s : State) (space : Nat) (all : Bool) (addr size : Nat) : State :=
  let lo := addr / 2 ^ size * 2 ^ size
  let hit (a len : Nat) : Bool := decide (spaceRegion a = 2) && (all || overlaps (offsetOf a) len lo (2 ^ size))
  let runs := fun (u : Nat) => match s.runner u with | some t => decide (t.space = space) | none => false
  let one := fun (t : Tow) =>
    if t.space = space then
      let own := s.consuming t
      let gone := fun (a len : Nat) => hit a len && !touchesAny (a, len) own
      { t with staged := t.staged.filter (fun c => !gone c.1 1), ranges := t.ranges.filter (fun r => !gone r.1 r.2.1) }
    else t
  { s with tows := { s.tows with tows := s.tows.tows.map one
                                 reqs := s.tows.reqs.filter (fun r => !(runs r.unit && hit r.addr r.len)) } }

/-- XL_INVAL.GO (R265): the named context's cached translations in the range are removed; GO reads 0 once it is complete. -/
def State.invalidate (s : State) (space : Nat) (queue all : Bool) (size : Nat) : State :=
  let s := (((s.fset F.XL_INVAL.SPACE space).fset F.XL_INVAL.QUEUE (if queue then 1 else 0)).fset F.XL_INVAL.ALL
    (if all then 1 else 0)).fset F.XL_INVAL.SIZE size
  let addr := (s.word 0xA00018).toNat + 2 ^ 32 * (s.word 0xA0001C).toNat
  let bits := min 47 (max 12 (size % 64))
  let s := s.uncache (if queue then queueCtx else space) all addr bits
  if queue then s else s.discardStaged space all addr bits

/-- WAIT (R114): met, the barge completes; unmet, the tow yields its unit until the counter reaches N. -/
def execWait (unit : Nat) (s : State) : Out :=
  ifOk (Instr.wf (.wait unit))
    (match s.runner unit with
     | none => s
     | some t =>
       match t.head with
       | none => s
       | some f =>
         let b := bargeOf f.bytes
         if f.bad ≠ 0 || !b.isWait then s
         else if s.boundaryHeld unit t && !t.inBarge then s
         else if b.n ≤ s.sync t.space (b.aux % 64) then (s.endBarge t []).atBoundary unit
         else
           let s := (s.count 7 7).countSpace t.space 14
           s.saveTow t (.waiting (b.aux % 64) b.n s.t3ns))

/-- FENCE (R115): with every earlier write visible, the reads run-ahead has issued for later barges are discarded. -/
def execFence (unit : Nat) (s : State) : Out :=
  ifOk (Instr.wf (.fence unit))
    (match s.runner unit with
     | none => s
     | some t =>
       match t.head with
       | none => s
       | some f =>
         let b := bargeOf f.bytes
         if f.bad ≠ 0 ∨ b.op ≠ 0x0B ∨ t.drain ≠ [] ∨ t.heldWrites ≠ [] then s
         else if s.boundaryHeld unit t && !t.inBarge then s
         else
           let gone := t.ranges.length + (s.tows.reqs.filter (fun r => decide (r.unit = unit))).length
           let s := (s.count 6 11 gone).endBarge t []
           let s := s.modTow t.space t.tag (fun t => { t with fetched := [], staged := [], ranges := [] })
           let s := { s with tows := { s.tows with reqs := s.tows.reqs.filter (fun r => decide (r.unit ≠ unit)) } }
           s.atBoundary unit)

/-! ## Spare columns (R105, R341) -/

/-- The unit of an array is at a barge boundary. -/
def State.atRest (s : State) (n : Nat) : Bool :=
  match (s.unitArrays n).head? with
  | some u => (match s.runner u with | some t => !t.inBarge | none => true)
  | none => true

/-- Residue mismatches of a column within the last second of TB3 (R105). -/
def State.columnStrikes (s : State) (array column : Nat) : Nat :=
  (s.tows.strikes.filter (fun x => decide (x.1 = array ∧ x.2.1 = column) && decide (s.time.tb3 - x.2.2 ≤ 500000000))).length

/-- A column is mapped out in favour of the lowest-numbered spare (R105). -/
def State.mapColumn (s : State) (array column : Nat) : State :=
  let s := { s with tows := { s.tows with columns := s.tows.columns ++ [(array, column)],
                                          strikes := s.tows.strikes.filter (fun x => !decide (x.1 = array ∧ x.2.1 = column)) } }
  let used := s.fget (F.ARRAY_STATUS.SPARES_USED array) + 1
  ((s.fset (F.ARRAY_STATUS.SPARES_USED array) used).fset F.RAS_SPARES.COLUMNS
    ((List.range 4).foldl (fun m n => min m (8 - (if n = array then used else s.fget (F.ARRAY_STATUS.SPARES_USED n)))) 8))

/-- COLUMN_RETIRE (R105): 3 mismatches of one physical column within 1 s, at the boundary of its unit. A ninth puts the array out
of service. -/
def execColumnRetire (array column : Nat) (s : State) : Out :=
  ifOk (Instr.wf (.columnRetire array column))
    (if s.columnStrikes array column < 3 || !s.atRest array || s.tows.columns.contains (array, column) then s
     else if s.fget (F.ARRAY_STATUS.SPARES_USED array) < 8 then
       let s := ((s.mapColumn array column).fset F.RESIDUE_STATUS.RETIRED 1).count 5 9
       s.spareIn 7 .array array 0 (decide (s.fget (F.ARRAY_STATUS.SPARES_USED array) = 8))
     else { s with tows := { s.tows with exhausted := if s.tows.exhausted.contains array then s.tows.exhausted else s.tows.exhausted ++ [array] } })

/-- OUT_OF_SERVICE (R105): an array that needs a ninth spare leaves service at its boundary; its tow is saved (R126). -/
def execOutOfService (array : Nat) (s : State) : Out :=
  ifOk (Instr.wf (.outOfService array))
    (if s.tows.exhausted.contains array && s.atRest array then
       let s := match (s.unitArrays array).head? with | some u => s.haltUnit u | none => s
       let s := s.setArray array 6
       let s := { s with tows := { s.tows with exhausted := s.tows.exhausted.erase array } }
       s.logEntry 6 7 .component .array 1 array
     else s)

end Sys2Proof.Machine
end

