-- ==== Sys2Proof/Machine/BargeDone.lean ====
section
/-!
DEFINITION. BARGE_COMPLETE (R102, R112, R114, R116, R119, R146, R147, R150, R151): a barge computes, escalates, is recomputed where
a residue mismatch showed, and writes its outputs; and the SYNC operations that complete at once.
-/

namespace Sys2Proof.Machine

/-- Words of a memory all of whose bytes a list of absolute addresses covers lose their poison. -/
def clearPoison (which : Nat) (addrs : List Nat) (p : List (Nat × Nat)) : List (Nat × Nat) :=
  p.filter (fun x => !(decide (x.1 = which) && (List.range 8).all (fun k => addrs.contains (8 * x.2 + k))))

/-- Host writes as runs of consecutive bytes: host address and data, in order (R269). -/
def hostRuns : List (Nat × Byte) → List (Nat × List Byte)
  | [] => []
  | w :: ws =>
    match hostRuns ws with
    | (a, bs) :: rest => if a = offsetOf w.1 + 1 then (offsetOf w.1, w.2 :: bs) :: rest else (offsetOf w.1, [w.2]) :: (a, bs) :: rest
    | [] => [(offsetOf w.1, [w.2])]

/-- Single bytes written in order, keeping the canonical form. -/
def putBytes (m : List Host.Cell) (ws : List (Nat × Byte)) : List Host.Cell :=
  ws.foldl (fun (m : List Host.Cell) (w : Nat × Byte) => spSet (0 : Byte) m w.1 w.2) m

/-- A barge's writes reach the basin and the stacks; those to the host region wait to drain (R117, R269). -/
def State.applyWrites (s : State) (t : Tow) (sp : Space) (ws : Writes) : State :=
  let basin : List (Nat × Byte) := (ws.filter (fun w => decide (spaceRegion w.1 = 0))).map (fun w => (sp.basinBase + offsetOf w.1, w.2))
  let stack : List (Nat × Byte) := (ws.filter (fun w => decide (spaceRegion w.1 = 1))).map (fun w => (sp.stackBase + offsetOf w.1, w.2))
  let host := hostRuns (ws.filter (fun w => decide (spaceRegion w.1 = 2)))
  let s := { s with mem := { s.mem with
      basin := putBytes s.mem.basin basin
      stack := putBytes s.mem.stack stack
      poison := clearPoison 1 (stack.map Prod.fst) (clearPoison 0 (basin.map Prod.fst) s.mem.poison) } }
  s.modTow t.space t.tag (fun t => if t.held then { t with heldWrites := t.heldWrites ++ host } else { t with drain := t.drain ++ host })

/-- The counts of a computation (R133, R134, R351). -/
def State.countTally (s : State) (c : Tally) : State :=
  (((s.count 5 0 c.invalid).count 5 1 c.sat).count 5 10 c.sr).count 5 11 c.flush

/-- What the escalations of a barge leave (R146, R147). -/
def State.countEsc (s : State) (u : Nat) (t : Tow) (e : EscTally) : State :=
  let s := (((s.count 5 2 e.tripped).count 5 3 e.escalated).count 5 4 e.leftSat).count 5 5 e.waves
  let s := s.countSpace t.space 4 e.escalated
  let s := s.fadd F.ESCALATE_CTRL.COUNT e.escalated
  let s := if 0 < e.escalated then (s.unitArrays u).foldl (fun s n => s.fset (F.ARRAY_STATUS.ESC n) 1) s else s
  let s := s.modTow t.space t.tag (fun t =>
    { t with escalated := t.escalated || decide (0 < e.escalated), rangeShort := t.rangeShort || decide (0 < e.leftSat) })
  if s.bit F.ESCALATE_CTRL.EVENT && decide (0 < e.escalated) then
    s.spaceEvent t.space 0x22 (le 8 t.tag ++ le 1 t.space ++ le 1 (if 0 < e.leftSat then 1 else 0) ++ le 2 e.escalated ++ le 4 t.next)
  else s

/-- What the residue mismatches of a barge come to: allowance left, wavefronts, the tiles recomputed, the tiles unresolved, and the
columns of all mismatches, those of recomputations among them (R150). -/
structure ResTally where
  left : Nat := 640
  waves : Nat := 0
  done : List Nat := []
  bad : List Nat := []
  columns : List Nat := []
deriving DecidableEq, Repr

/-- A tile is unresolved. -/
def ResTally.fail (r : ResTally) (tile : Nat) : ResTally := if r.bad.contains tile then r else { r with bad := r.bad ++ [tile] }

/-- One mismatch in the order of the mismatches (R150): tile, column, and where the tile's recomputation mismatched the column of that.
A tile is recomputed, and paid for, once. -/
def ResTally.step (cost : Nat) (r : ResTally) (m : Nat × Nat × Option Nat) : ResTally :=
  let r := { r with columns := r.columns ++ [m.2.1] }
  let known := r.done.contains m.1
  if !known && (r.bad.contains m.1 || decide (r.left < cost)) then r.fail m.1
  else
    let r := if known then r else { r with left := r.left - cost, waves := r.waves + cost, done := r.done ++ [m.1] }
    match m.2.2 with
    | some c => ({ r with columns := r.columns ++ [c] } : ResTally).fail m.1
    | none => r

/-- One mismatch is reported (R151): a physical column 264 a + c lies in the a-th array of the unit. -/
def State.noteMismatch (s : State) (u column : Nat) : State :=
  let array := (s.unitArrays u).getD (column / 264) u
  let s := ((s.fset F.RESIDUE_STATUS.MISMATCH 1).fset F.RESIDUE_STATUS.ARRAY array).fset F.RESIDUE_STATUS.COLUMN (column % 264)
  let s := (s.fadd F.RESIDUE_STATUS.COUNT 1).count 5 6
  let s := { s with tows := { s.tows with strikes := s.tows.strikes ++ [(array, column % 264, s.time.tb3)] } }
  s.logEntry 3 7 .compute .array 0 array (column % 264)

/-- One unresolved tile is reported (R151). -/
def State.noteUnresolved (s : State) (u : Nat) : State :=
  ((s.fset F.RESIDUE_STATUS.UNRESOLVED 1).count 5 8).logEntry 5 7 .compute .array 1 u

/-- The outputs of an unresolved tile are undefined (R150): each byte is a free value (log 3). -/
def State.freeBytes (s : State) (undef : List Nat) (ws : Writes) : Writes × State :=
  if undef = [] then (ws, s)
  else
    ((List.range ws.length).map (fun n =>
      let w := ws.getD n (0, 0)
      if undef.contains w.1 then (w.1, BitVec.ofNat 8 (Config.freeValue (s.free + n))) else w),
     { s with free := s.free + ws.length })

/-- Bytes of basin, stack and host traffic of a barge, counted for the space (R351). -/
def State.countTraffic (s : State) (space : Nat) (r : Ranges) : State :=
  (s.countSpace space 10 (rangeBytes (fun x => decide (x = 0)) r)).countSpace space 11 (rangeBytes (fun x => decide (x = 1)) r)

/-- An array barge completes: it ends its tow with MEMORY where it consumed poisoned data, with BAD_BARGE where it does not
continue its chain, with BOUNDS for an index of K or more, and otherwise writes its outputs. -/
def State.completeArray (s : State) (u : Nat) (t : Tow) (sp : Space) (b : Barge) (mism : List (Nat × Nat × Option Nat)) : State :=
  let rd := s.towByte t sp
  if b.badIndex rd || !(b.reads rd ++ b.stores rd).all (fun r => sp.inBounds r) then s.endAfter t 3
  else if (b.reads rd).any (fun r => s.rangePoisoned t sp r) then s.endAfter t 4
  else if b.badCarry rd then s.endAfter t 2
  else
    let key : SrKey := ⟨b.sr, sp.seed, t.tag % 65536, t.next⟩
    let esc : EscTally := { en := t.escEn, budget := 256 * t.escBudget, opened := true }
    let r := (b.compute rd key esc).run {}
    let ws := r.1.1
    let e := r.1.2
    let res := mism.foldl (ResTally.step b.recompute) {}
    let s := s.countTally r.2
    let s := s.countEsc u t e
    let s := res.columns.foldl (fun s c => s.noteMismatch u c) s
    let s := ((s.count 5 7 res.done.length).countSpace t.space 5 res.done.length)
    let s := res.bad.foldl (fun s _ => s.noteUnresolved u) s
    let p := s.freeBytes (res.bad.flatMap (fun i => b.unitBytes i)) ws
    let s := p.2.applyWrites t sp p.1
    let s := s.modTow t.space t.tag (fun t => { t with unresolved := t.unresolved || decide (res.bad ≠ []) })
    let s := s.countWaves t.space (b.cost (s.unitWidth u) + e.waves + res.waves)
    let s := s.countTraffic t.space (b.reads rd ++ b.stores rd)
    (s.endBarge t (b.reads rd ++ b.stores rd)).atBoundary u

/-- The column of a residue mismatch injected into an array of this unit, 264 a + c (R356: INDEX[1:0] array, [10:2] column). -/
def State.injectedColumn (s : State) (u : Nat) : Option Nat :=
  match s.ras.inject with
  | some (5, i) => if (s.unitArrays u).contains (i % 4) then some (264 * (s.unitArrays u).idxOf (i % 4) + i / 4) else none
  | _ => none

/-- An array barge completes, with a mismatch of its first tile where one is injected (R356). -/
def State.completeInjected (s : State) (u : Nat) (t : Tow) (sp : Space) (b : Barge) (mism : List (Nat × Nat × Option Nat)) : State :=
  match s.injectedColumn u with
  | some c => (s.fire.completeArray u t sp b ((0, c, none) :: mism)).unmark
  | none => s.completeArray u t sp b mism

/-- A SYNC SIGNAL or SET on counter 63 of the policy space makes the cells of the policy ring due (R177). -/
def State.policySignal (s : State) (space c : Nat) : State :=
  if c = 63 ∧ s.bit F.AUC_CTRL.POLICY_EN ∧ s.fget F.AUC_CTRL.POLICY_SPACE = space then
    { s with auction := { s.auction with policyDue := true } }
  else s

/-- SIGNAL, SET and HOST of SYNC (R114), once every earlier write of the tow is visible. -/
def State.completeSync (s : State) (u : Nat) (t : Tow) (b : Barge) : State :=
  if t.drain ≠ [] ∨ t.heldWrites ≠ [] then s
  else
    let c := b.aux % 64
    let s := match b.subop with
      | 0 => (s.setSync t.space c (s.sync t.space c + 1)).policySignal t.space c
      | 2 => (s.setSync t.space c b.n).policySignal t.space c
      | _ => s.spaceEvent t.space 0x21 (le 8 t.tag ++ le 1 t.space ++ le 1 c ++ le 2 (b.aux / 65536))
    (s.endBarge t []).atBoundary u

/-- BARGE_COMPLETE (R102): the barge that runs on the unit completes. WAIT, FENCE and AUC_FEED complete by their own rules
(R114, R115, R163). -/
def execBargeComplete (unit : Nat) (mismatches : List (Nat × Nat × Option Nat)) (s : State) : Out :=
  ifOk (Instr.wf (.bargeComplete unit mismatches))
    (match s.runner unit with
     | none => s
     | some t =>
       match t.head, s.spaceOf t.space with
       | some f, some sp =>
         let b := bargeOf f.bytes
         if !t.inBarge || f.bad ≠ 0 then s
         else if b.op ≤ 9 then s.completeInjected unit t sp b mismatches
         else if b.op = 0x0A && !b.isWait then s.completeSync unit t b
         else s
       | _, _ => s)

end Sys2Proof.Machine
end

