-- ==== Sys2Proof/Machine/Auctions.lean ====
section
/-!
DEFINITION. The auction units (R159–R171, R344): feeds and reservation, the ε-scaling phases, the certificate, the result record
and its insertion into the plan library, and retirement of a unit.
-/

namespace Sys2Proof.Machine

/-! ## Units and the feed queue (R163) -/

/-- Auction unit u takes feeds (AUC_STATUS.IN_SERVICE). -/
def State.unitActive (s : State) (u : Nat) : Bool := decide (s.fget F.AUC_STATUS.IN_SERVICE / 2 ^ u % 2 = 1)

/-- The solve on a unit. -/
def State.solve (s : State) (u : Nat) : Option Solve := spGet none s.auction.solves u

/-- Put a solve on a unit, or clear it; BUSY follows (R179). -/
def State.setSolve (s : State) (u : Nat) (v : Option Solve) : State :=
  let s := { s with auction := { s.auction with solves := spSet none s.auction.solves u v } }
  let busy := s.fget F.AUC_STATUS.BUSY
  let without := busy - busy / 2 ^ u % 2 * 2 ^ u
  s.fset F.AUC_STATUS.BUSY (if v.isSome then without + 2 ^ u else without)

/-- Pound A may start no new feed: its reload is pending or running (R171), or EN is clear (R179). -/
def State.feedsHeld (s : State) : Bool := s.bit F.AUC_STATUS.RELOADING || !s.bit F.AUC_CTRL.EN

/-- Free active units. -/
def State.freeAuction (s : State) : List Nat := (List.range 5).filter (fun u => s.unitActive u && (s.solve u).isNone)

/-- The unit kept for URGENT feeds while RESERVE is set: the highest-numbered active one (R163, log 34). -/
def State.urgentUnit (s : State) : Option Nat :=
  if s.bit F.AUC_CTRL.RESERVE then ((List.range 5).filter (fun u => s.unitActive u)).getLast? else none

/-- The lowest free unit that may take a feed of a class, other than one excluded. -/
def State.unitFor (s : State) (cls : Nat) (but : Option Nat) : Option Nat :=
  s.freeAuction.find? (fun u => decide (some u ≠ but) && (decide (cls = 0) || decide (s.urgentUnit ≠ some u)))

/-- f goes before g in the feed queue (R163). -/
def Feed.before (f g : Feed) : Bool := if f.cls ≠ g.cls then decide (f.cls < g.cls) else decide (f.order < g.order)

/-- The head of the feed queue. -/
def State.headFeed (s : State) : Option Feed :=
  s.auction.feeds.foldl (fun (best : Option Feed) f =>
    match best with
    | none => some f
    | some g => if f.before g then some f else some g) none

/-- A solve that lost its unit is begun anew on another (R166, R344). -/
def State.placeOrphans (s : State) : State :=
  s.auction.orphans.foldl (fun s v =>
    match s.unitFor v.feed.cls v.firstUnit with
    | some u =>
      let s := { s with auction := { s.auction with orphans := s.auction.orphans.erase v } }
      s.setSolve u (some { v.anew with since := s.time.tb3 })
    | none => s) s

/-- A free unit is reserved for the head of the queue, whose tow becomes ready (R163). -/
def State.reserveHead (s : State) : State :=
  let s := s.fillQueue
  if s.feedsHeld then s
  else
    let s := s.placeOrphans
    if s.auction.orphans ≠ [] then s
    else match s.headFeed with
      | none => s
      | some f =>
        match s.unitFor f.cls none with
        | none => s
        | some u =>
          let s := ({ s with auction := { s.auction with feeds := s.auction.feeds.erase f } } : State).fillQueue
          let s := s.setSolve u (some { feed := f })
          s.modTow f.space f.tag (fun t => if t.phase = .feeding then { t with phase := .ready, resumed := true } else t)

/-- UNIT_RESERVED (R163). -/
def execUnitReserved (s : State) : Out := .next s.reserveHead

/-! ## Taking the matrix (R159–R162) -/

/-- A score of A (R160): I32 as it stands, Topaz16 times 2^SHIFT to nearest even; clamped to 0–1,048,575, with whether it was. -/
def scoreOf (b : Barge) (v : Dy) : Int × Bool :=
  let n := if b.fmtA = 5 then v.int else (v.scale (b.aux / 2 ^ 10 % 16)).nearAt 0
  let c := clampI 0 1048575 n
  (c, decide (c ≠ n))

/-- The state of the port at a mirror forbids its pairs: ABSENT, QUARANTINED, FAILED or SERVICE; a service mirror is SERVICE (R161). -/
def State.portForbids (s : State) (mirror : Nat) : Bool :=
  match entryOf mirror with
  | some p => let st := (s.port p).state; decide (st = 0 ∨ st = 4 ∨ st = 5 ∨ st = 6)
  | none => true

/-- PORTS, LIBRARY, SIG and EVENT of AUX (R159). -/
def auxBit (aux i : Nat) : Bool := decide (aux / 2 ^ i % 2 = 1)

/-- The matrix is taken whole (R160–R162). -/
def State.takeMatrix (s : State) (u : Nat) (v : Solve) (t : Tow) (sp : Space) (b : Barge) : State :=
  let rd := s.towByte t sp
  let ports := auxBit b.aux 8
  let raw := (List.range b.n).map (fun a => (List.range b.n).map (fun c => b.a.code rd a c))
  let bad := ((raw.flatten).filter (fun c => (codeValue b.fmtA c).isNone)).length
  let cells := raw.map (fun r => r.map (fun c => scoreOf b ((codeValue b.fmtA c).getD Dy.zero)))
  let sat := ((cells.flatten).filter (fun p => p.2)).length
  let score := cells.map (fun r => r.map (fun p => p.1))
  let forbid := (List.range b.n).map (fun a => (List.range b.n).map (fun c =>
    decide (readLe rd (b.addrB + a * b.strideB + 4 * (c / 32)) 4 / 2 ^ (c % 32) % 2 = 1) ||
    (ports && (s.portForbids a || s.portForbids (1160 + c)))))
  let s := if 0 < sat then s.fset F.AUC_STATUS.SATURATED 1 else s
  let s := ((s.count 8 6 sat).count 5 0 bad)
  s.setSolve u (some { v with score := score, forbid := forbid, saturated := sat
                              portGen := if ports then s.fget F.PORT_GEN.GEN else 0
                              since := s.time.tb3, taken := true })

/-- The unit reserved for a tow's feed. -/
def State.feedUnit (s : State) (t : Tow) : Option (Nat × Solve) :=
  s.auction.solves.findSome? (fun p => match p.2 with
    | some v => if v.feed.space = t.space ∧ v.feed.tag = t.tag ∧ v.feed.barge = t.next ∧ !v.taken then some (p.1, v) else none
    | none => none)

/-- The barge streams to its reserved unit and completes (R112, R163); poisoned operands end the tow (R119). -/
def State.streamFeed (s : State) (unit : Nat) (t : Tow) (sp : Space) (b : Barge) (u : Nat) (v : Solve) : State :=
  if b.readsFixed.any (fun r => s.rangePoisoned t sp r) then (s.setSolve u none).endAfter t 4
  else
    let s := s.takeMatrix u v t sp b
    let s := ((s.count 8 0).countSpace t.space 12).countTraffic t.space b.readsFixed
    (s.endBarge t b.readsFixed).atBoundary unit

/-- A feed is to be queued: it joins the queue, or where that is full it holds its place outside (R163). -/
def State.queueFeed (s : State) (f : Feed) : State :=
  ({ s with auction := { s.auction with outside := s.auction.outside ++ [f], orders := s.auction.orders + 1 } }).fillQueue

/-- AUC_FEED (R163): a feed with no reserved unit joins the queue and, where none is free for it at once, yields its array. -/
def execAucFeed (unit : Nat) (s : State) : Out :=
  ifOk (Instr.wf (.aucFeed unit))
    (match s.runner unit with
     | none => s
     | some t =>
       match t.head, s.spaceOf t.space with
       | some f, some sp =>
         let b := bargeOf f.bytes
         if f.bad ≠ 0 ∨ b.op ≠ 0x0C ∨ !t.inBarge then s
         else match s.feedUnit t with
           | some (u, v) => s.streamFeed unit t sp b u v
           | none =>
             let fd : Feed := ⟨t.space, t.tag, t.cls, s.auction.orders, t.next, b.n, b.addrC, b.aux⟩
             let s := if (s.auction.feeds ++ s.auction.outside).any t.owns then s else s.queueFeed fd
             let s := s.reserveHead
             match s.feedUnit t with
             | some (u, v) => s.streamFeed unit t sp b u v
             | none => s.saveTow t .feeding
       | _, _ => s)

/-! ## The ε-scaling phases (R162, R164) -/

/-- The weight of a forbidden pair (R162). -/
def forbiddenWeight : Int := -(2 ^ 41)

/-- Scaled weight of a pair (R162). -/
def Solve.weight (v : Solve) (a b : Nat) : Int :=
  if (v.forbid.getD a []).getD b false then forbiddenWeight else (v.score.getD a []).getD b 0 * (v.feed.n + 1)

/-- Scaled weights row by row. -/
def Solve.weights (v : Solve) : List (List Int) :=
  (List.range v.feed.n).map (fun a => (List.range v.feed.n).map (fun b => v.weight a b))

/-- C′ of R164: the largest scaled weight of a pair that is not forbidden; 0 for none. -/
def Solve.top (v : Solve) : Int := (v.weights.flatten).foldl max 0

/-- EPS0 and EPS_STEP in force (R159). -/
def eps0Of (aux : Nat) : Nat := let e := aux / 2 ^ 16 % 16; if e = 0 then 6 else e
def epsStepOf (aux : Nat) : Nat := let e := aux / 2 ^ 14 % 4; if e = 0 then 2 else e

/-- ε of the phase that runs next (R164). -/
def Solve.nextEps (v : Solve) : Nat :=
  if v.phases = 0 then max 1 (v.top.toNat / 2 ^ eps0Of v.feed.aux) else max 1 (v.eps / 2 ^ epsStepOf v.feed.aux)

/-- The best column of a row, its value, and the second-best value (R164). -/
def bestOf : List Int → Nat → Option (Nat × Int) → Option Int → Option (Nat × Int) × Option Int
  | [], _, b, s => (b, s)
  | x :: xs, i, none, s => bestOf xs (i + 1) (some (i, x)) s
  | x :: xs, i, some (j, y), s =>
    if y < x then bestOf xs (i + 1) (some (i, x)) (some y)
    else bestOf xs (i + 1) (some (j, y)) (some (match s with | some z => max z x | none => x))

/-- The bid of a row: column and price (R164). -/
def bidOf (row prices : List Int) (eps : Nat) : Nat × Int :=
  match bestOf (List.zipWith (· - ·) row prices) 0 none none with
  | (some (j, v1), s) => (j, prices.getD j 0 + v1 - s.getD v1 + eps)
  | (none, _) => (0, 0)

/-- The highest bid for a column, the lowest row winning among equals: row and price (R164). -/
def winner (bids : List (Nat × Nat × Int)) (c : Nat) : Option (Nat × Int) :=
  bids.foldl (fun (best : Option (Nat × Int)) b =>
    if b.2.1 = c then
      (match best with
       | none => some (b.1, b.2.2)
       | some w => if w.2 < b.2.2 then some (b.1, b.2.2) else some w)
    else best) none

/-- One synchronous round: the owner of each column (none for none) and the prices (R164). -/
def bidRound (ws : List (List Int)) (eps n : Nat) (owners : List (Option Nat)) (prices : List Int) :
    List (Option Nat) × List Int :=
  let bids := ((List.range n).filter (fun a => !owners.contains (some a))).map (fun a =>
    let b := bidOf (ws.getD a []) prices eps
    (a, b.1, b.2))
  let won := (List.range n).map (fun c => winner bids c)
  ((List.range n).map (fun c => match won.getD c none with | some w => some w.1 | none => owners.getD c none),
   (List.range n).map (fun c => match won.getD c none with | some w => w.2 | none => prices.getD c 0))

/-- A phase: rounds until every row is assigned (R164), within a bound no phase reaches. -/
def phaseRounds (ws : List (List Int)) (eps n : Nat) : Nat → List (Option Nat) → List Int → List (Option Nat) × List Int
  | 0, owners, prices => (owners, prices)
  | k + 1, owners, prices =>
    if owners.all (fun o => o.isSome) then (owners, prices)
    else
      let r := bidRound ws eps n owners prices
      phaseRounds ws eps n k r.1 r.2

/-- The column of each row from the owner of each column. -/
def assignOf (n : Nat) (owners : List (Option Nat)) : List Nat := (List.range n).map (fun a => owners.findIdx (fun o => o = some a))

/-- AUCTION_PHASE_END (R164): a phase has assigned every row; with ε = 1 the solve is EXACT (R165). -/
def execAuctionPhaseEnd (u : Nat) (s : State) : Out :=
  ifOk (Instr.wf (.auctionPhaseEnd u))
    (match s.solve u with
     | none => s
     | some v =>
       if !v.taken || v.status.isSome then s
       else
         let n := v.feed.n
         let eps := v.nextEps
         let start := if v.phases = 0 then List.replicate n (0 : Int) else v.prices
         let r := phaseRounds v.weights eps n (2 ^ 64) (List.replicate n none) start
         let assign := assignOf n r.1
         s.setSolve u (some { v with prices := r.2, assign := assign, eps := eps, phases := v.phases + 1
                                     best := some (eps, assign, r.2), ended := s.time.tb3
                                     status := if eps = 1 then some 0 else none }))

/-- SOLVE_LIMIT in counts of 2 ns: 0 acts as 15 (R179). -/
def State.solveLimit (s : State) : Nat := (let n := s.fget F.AUC_CTRL.SOLVE_LIMIT; if n = 0 then 15 else n) * 50000

/-- SOLVE_LIMIT_EXPIRY (R165): APPROX with the last phase that completed, or TIMEOUT. -/
def execSolveLimitExpiry (u : Nat) (s : State) : Out :=
  ifOk (Instr.wf (.solveLimitExpiry u))
    (match s.solve u with
     | some v =>
       if v.taken && v.status.isNone && decide (s.solveLimit ≤ s.time.tb3 - v.since) then
         s.setSolve u (some { v with status := some (if v.best.isSome then 1 else 2), ended := s.time.tb3 })
       else s
     | none => s)

/-! ## Certificate and result (R166–R168) -/

/-- PROFIT of each row (R166). -/
def Solve.profits (v : Solve) : List Int :=
  match v.best with
  | some (_, assign, prices) => (List.range v.feed.n).map (fun a => v.weight a (assign.getD a 0) - prices.getD (assign.getD a 0) 0)
  | none => []

/-- The certificate holds (R166): every pair is within EPS_FINAL. -/
def Solve.certificate (v : Solve) : Bool :=
  match v.best with
  | some (eps, assign, prices) =>
    let ps := v.profits
    (List.range v.feed.n).all (fun a =>
      decide (ps.getD a 0 + prices.getD (assign.getD a 0) 0 = v.weight a (assign.getD a 0)) &&
      (List.range v.feed.n).all (fun b => decide (v.weight a b - eps ≤ ps.getD a 0 + prices.getD b 0)))
  | none => false

/-- A strike against a unit (R344). -/
def State.strike (s : State) (u : Nat) : State :=
  { s with auction := { s.auction with strikes := s.auction.strikes ++ [(u, s.time.tb3)] } }

/-- A unit's solve is to be done once more on another unit in service (R166, R344). -/
def State.solveAgain (s : State) (u : Nat) (v : Solve) : State :=
  let s := s.setSolve u none
  let s := { s with auction := { s.auction with orphans := s.auction.orphans ++ [{ v.anew with repeated := true, firstUnit := some u }] } }
  if s.feedsHeld then s else s.placeOrphans

/-- A solve on a unit has ended without its certificate being judged. -/
def Solve.due (v : Solve) : Bool := (decide (v.status = some 0) || decide (v.status = some 1)) && !v.certified

/-- The certificate of a unit's solve is judged (R166): a failed check has the feed solved once more; a second failure ends it
ERROR. -/
def certificateCheck (u : Nat) (fault : Bool) (v : Solve) (s : State) : State :=
  if v.certificate && !fault then
    let s := s.setSolve u (some { v with certified := true })
    (match v.firstUnit with | some w => s.strike w | none => s)
  else if v.repeated then
    let s := s.setSolve u (some { v with status := some 3, certified := true })
    (s.fset F.AUC_STATUS.CERT_FAIL 1).logEntry 5 8 .compute .auction 1 u
  else s.solveAgain u v

/-- CERTIFICATE_CHECK (R166); an armed injection makes it fail (R356). -/
def execCertificateCheck (u : Nat) (fault : Bool) (s : State) : Out :=
  ifOk (Instr.wf (.certificateCheck u fault))
    (match s.solve u with
     | none => s
     | some v =>
       if !v.due then s
       else if s.armed 9 u then (certificateCheck u true v s.fire).unmark
       else certificateCheck u fault v s)

/-- A signed number of n bytes, little-endian. -/
def leI (n : Nat) (x : Int) : List Byte := le n (ofSigned (8 * n) x)

/-- PRIMAL and FORBIDDEN_USED of an assignment (R167). -/
def Solve.primal (v : Solve) : Int :=
  match v.best with
  | some (_, assign, _) =>
    ((List.range v.feed.n).map (fun a =>
      if (v.forbid.getD a []).getD (assign.getD a 0) false then 0 else (v.score.getD a []).getD (assign.getD a 0) 0)).foldl (· + ·) 0
  | none => 0

def Solve.forbiddenUsed (v : Solve) : Nat :=
  match v.best with
  | some (_, assign, _) => ((List.range v.feed.n).filter (fun a => (v.forbid.getD a []).getD (assign.getD a 0) false)).length
  | none => 0

/-- GAP_SCALED (R166). -/
def Solve.gap (v : Solve) : Int :=
  match v.best with
  | some (_, assign, prices) =>
    v.profits.foldl (· + ·) 0 + prices.foldl (· + ·) 0 - ((List.range v.feed.n).map (fun a => v.weight a (assign.getD a 0))).foldl (· + ·) 0
  | none => 0

/-- A result that reports a phase: EXACT or APPROX. -/
def Solve.good (v : Solve) : Bool := decide (v.status = some 0 ∨ v.status = some 1)

/-- SOLVE_NS (R167): from the last row taken to the end of the solve. -/
def Solve.solveNs (v : Solve) : Nat := 2 * (v.ended - v.since)

/-- ASSIGN entries (R167). -/
def Solve.assignWords (v : Solve) : List Nat :=
  (List.range v.feed.n).map (fun a =>
    match v.best with
    | some (_, assign, _) =>
      let j := assign.getD a 0
      if !v.good then 0xFFFF else if (v.forbid.getD a []).getD j false then 0x8000 + j else j
    | none => 0xFFFF)

/-- n free bytes (log 3). -/
def State.freeList (s : State) (n : Nat) : List Byte × State :=
  ((List.range n).map (fun i => BitVec.ofNat 8 (Config.freeValue (s.free + i))), { s with free := s.free + n })

/-- The result record (R167); GAP_SCALED, EPS_FINAL, PRICE and PROFIT of a TIMEOUT or ERROR are free values (log 3). -/
def State.resultRecord (s : State) (u : Nat) (v : Solve) (planId : Nat) (skipped : Bool) : List Byte × State :=
  let n := v.feed.n
  let flags := (if skipped then 1 else 0) + (if v.repeated then 2 else 0) + (if auxBit v.feed.aux 8 then 4 else 0)
  let head := le 2 (v.status.getD 2) ++ le 2 n ++ le 1 u ++ le 1 v.phases ++ le 2 flags ++
    le 4 (if v.good then v.forbiddenUsed else 0) ++ le 4 v.saturated ++ leI 4 (if v.good then v.primal else 0) ++ le 4 v.solveNs
  let mid := le 4 v.portGen ++ le 4 0 ++ le 4 planId ++ le 12 0
  let assign := padTo ((0x40 + 2 * n + 15) / 16 * 16 - 0x40) (v.assignWords.flatMap (le 2))
  if v.good then
    match v.best with
    | some (eps, _, prices) => (head ++ leI 8 v.gap ++ le 8 eps ++ mid ++ assign ++ prices.flatMap (leI 8) ++ v.profits.flatMap (leI 8), s)
    | none => (head, s)
  else
    let f1 := s.freeList 16
    let f2 := f1.2.freeList (16 * n)
    (head ++ f1.1 ++ mid ++ assign ++ f2.1, f2.2)

/-- The plan of a result (R175): j(a) for each pair that is not forbidden. -/
def Solve.peer (v : Solve) : Peer := ((List.range v.feed.n).zip v.assignWords).filter (fun p => decide (p.2 < 0x8000))

/-- A unit goes out of service, and the spare takes feeds (R344, R341). -/
def State.retireAuction (s : State) (u : Nat) : State :=
  let on := s.fget F.AUC_STATUS.IN_SERVICE
  let out := on - on / 2 ^ u % 2 * 2 ^ u
  let gone := s.fget F.AUC_STATUS.RETIRED ||| 2 ^ u
  let s := ((s.fset F.AUC_STATUS.IN_SERVICE out).fset F.AUC_STATUS.RETIRED gone).count 8 11
  let s := { s with auction := { s.auction with retiring := s.auction.retiring.filter (fun x => decide (x ≠ u))
                                                strikes := s.auction.strikes.filter (fun x => decide (x.1 ≠ u)) } }
  match (List.range 5).find? (fun w => decide (out / 2 ^ w % 2 = 0) && decide (gone / 2 ^ w % 2 = 0)) with
  | some w =>
    let s := (s.fset F.AUC_STATUS.IN_SERVICE (out + 2 ^ w)).fset F.RAS_SPARES.AUCTION 0
    s.spareIn 8 .auction u 5 true
  | none => s.logEntry 6 8 .component .auction 1 u

/-- AUCTION_RESULT (R167, R168): the record is visible, then the plan, the count and the event; the unit is free. -/
def execAuctionResult (u : Nat) (s : State) : Out :=
  ifOk (Instr.wf (.auctionResult u))
    (match s.solve u with
     | none => s
     | some v =>
       match v.status, s.space v.feed.space with
       | some st, some sp =>
         if st ≠ 2 ∧ !v.certified then s
         else
           let f := v.feed
           let library := auxBit f.aux 9 && v.good
           let ins := if library && s.active then s.insertPlan 1 (decide (st = 1)) v.primal v.portGen v.peer [] else none
           let planId := match ins with | some p => p.1 | none => 0
           let skipped := library && ins.isNone
           let s := match ins with | some p => p.2.count 8 7 | none => s
           let s := if skipped then s.count 8 8 else s
           let r := s.resultRecord u v planId skipped
           let s := r.2
           let at0 := (if spaceRegion f.addrC = 0 then sp.basinBase else sp.stackBase) + offsetOf f.addrC
           let s := { s with mem := { s.mem with
               basin := if spaceRegion f.addrC = 0 then memPut s.mem.basin at0 r.1 else s.mem.basin
               stack := if spaceRegion f.addrC = 0 then s.mem.stack else memPut s.mem.stack at0 r.1 } }
           let s := (s.count 8 (1 + st))
           let s := if v.repeated then s.count 8 5 else s
           let s := if st ≤ 1 then s.fadd F.AUC_SOLVES.DONE 1 else s
           let s := if st = 1 ∨ st = 2 then s.fadd F.AUC_SOLVES.SHORT 1 else s
           let s := if auxBit f.aux 6 then s.setSync f.space (f.aux % 64) (s.sync f.space (f.aux % 64) + 1) else s
           let s := if auxBit f.aux 7 then
               s.spaceEvent f.space 0x23 (le 8 f.tag ++ le 1 f.space ++ le 1 0 ++ le 2 st ++ le 4 planId ++ le 8 f.addrC ++
                 leI 4 (if v.good then v.primal else 0) ++ le 4 v.solveNs)
             else s
           let s := s.setSolve u none
           if s.auction.retiring.contains u then s.retireAuction u else s
       | _, _ => s)

/-- AUCTION_UNIT_RETIRE (R344): 2 strikes within 24 h, at the end of the feed; an uncorrectable store error, at once. -/
def execAuctionUnitRetire (u : Nat) (storeError : Bool) (s : State) : Out :=
  ifOk (Instr.wf (.auctionUnitRetire u storeError))
    (if !s.unitActive u then s
     else if storeError then
       let s := (s.fset F.RAS_STATUS.UE 1).logEntry 5 8 .data .auction 2 u
       let s := match s.solve u with
         | some v => if v.taken then s.solveAgain u v
           else
             let s := s.setSolve u none
             { s with auction := { s.auction with feeds := v.feed :: s.auction.feeds } }
         | none => s
       (s.retireAuction u).reserveHead
     else
       let recent := (s.auction.strikes.filter (fun x => decide (x.1 = u) && decide (s.time.tb3 - x.2 ≤ 86400 * 500000000))).length
       if recent < 2 then s
       else if (s.solve u).isNone then s.retireAuction u
       else { s with auction := { s.auction with retiring := if s.auction.retiring.contains u then s.auction.retiring else s.auction.retiring ++ [u] } })

/-- The auction units start: four take feeds, retired ones left out (R159, R341). -/
def State.auctionUp (s : State) : State :=
  let gone := s.fget F.AUC_STATUS.RETIRED
  let on := ((List.range 5).filter (fun u => decide (gone / 2 ^ u % 2 = 0))).take 4
  s.fset F.AUC_STATUS.IN_SERVICE (on.foldl (fun m u => m + 2 ^ u) 0)

end Sys2Proof.Machine
end

