-- ==== Sys2Proof/Machine/Light.lean ====
section
/-!
DEFINITION. Light (R218–R240): identity stores, losses and fits, the allocation of lines to the tether and the service buses,
rings and spare rings, tether lanes in use, beacons, and the states of the bays.
-/

namespace Sys2Proof.Machine

/-! ## Cartridges and their stores (R218–R221) -/

/-- The cartridge bays. -/
def bays : List Nat := [0, 1, 2]

/-- The cartridge in a bay. -/
def State.cart (s : State) (b : Nat) : Cart := spGet {} s.light.carts b

/-- Change the cartridge in a bay. -/
def State.modCart (s : State) (b : Nat) (f : Cart → Cart) : State :=
  { s with light := { s.light with carts := spMod {} s.light.carts b f } }

/-- CART_STATUS.STATE of a bay. -/
def State.bayState (s : State) (b : Nat) : Nat := s.fget (F.CART_STATUS.STATE b)

/-- A bay takes a state. -/
def State.setBay (s : State) (b v : Nat) : State := s.fset (F.CART_STATUS.STATE b) v

/-- Bays in a state, lowest first. -/
def State.baysIn (s : State) (v : Nat) : List Nat := bays.filter (fun b => decide (s.bayState b = v))

/-- A little-endian field of the identity store (R219). -/
def Cart.field (c : Cart) (off n : Nat) : Nat := leAt c.store off n

/-- Bytes put into a list in place of those at an offset. -/
def putAt (off : Nat) (data bs : List Byte) : List Byte := bs.take off ++ data ++ bs.drop (off + data.length)

/-- A store with data put in and UCHECK made anew over 0x100–0x13D (R219). -/
def storeWith (off : Nat) (data bs : List Byte) : List Byte :=
  let bs := putAt off data bs
  if off < 0x140 then putAt 0x13E (le 2 (crc16 ((bs.drop 0x100).take 62))) bs else bs

/-- 32-byte pages a write of n bytes touches; UCHECK's page is rewritten after each write (R219). -/
def storePages (off n : Nat) : List Nat :=
  ((List.range (n / 32 + 2)).map (fun i => off / 32 + i)).filter (fun p => decide (32 * p < off + n) && decide (p ≠ 9)) ++ [9]

/-- The module writes bytes to a bay's store, in pages. -/
def State.storePut (s : State) (b off : Nat) (data : List Byte) : State :=
  let s := s.modCart b (fun c => { c with store := storeWith off data c.store })
  (storePages off data.length).foldl (fun s p => s.emit (.storeWrite b (32 * p) (((s.cart b).store.drop (32 * p)).take 32))) s

/-- Writes that failed before, put in: the store as the module means it to be (R220). -/
def Cart.meant (c : Cart) : List Byte := c.retry.foldl (fun bs w => storeWith w.1 w.2 bs) c.store

/-- MAGIC, FORMAT and CHECK are right (R219). -/
def Cart.valid (c : Cart) : Bool :=
  decide (c.field 0 4 = 0x4C433136) && decide (c.field 4 2 = 1) && decide (c.field 0xFE 2 = crc16 (c.store.take 0xFE))

/-- FLAGS bit n of the identity store. -/
def Cart.flagBit (c : Cart) (n : Nat) : Bool := c.field 0x106 2 / 2 ^ n % 2 = 1

/-- HOURS has reached RATED_HOURS. -/
def Cart.worn (c : Cart) : Bool := decide (c.field 0x44 4 ≤ c.field 0x100 4)

/-- Rated power of line 0–15 or beacon 16–17, 0.01 dBm. -/
def Cart.rated (c : Cart) (i : Nat) : Int := toSigned 16 (c.field (0x20 + 2 * i) 2)

/-- COMMISSION power of line 0–15 or beacon 16–17, 0.01 dBm. -/
def Cart.ref (c : Cart) (i : Nat) : Int := toSigned 16 (c.field (0x108 + 2 * i) 2)

/-- Loss of a line or beacon (R233), 0.01 dB; 0 before the first measurement. -/
def Cart.loss (c : Cart) (i : Nat) : Int := match c.means[i]? with | some m => c.ref i - m | none => 0

/-- A 16-bit register field of a loss: 0 below 0, all ones above. -/
def clampLoss (x : Int) : Nat := (clampI 0 65535 x).toNat

/-- 12 V of a bay is turned on or off (R218, R296). -/
def State.powerBay (s : State) (b : Nat) (on : Bool) : State :=
  let v := s.fget F.PWR_RAILS.CART_ON
  let s := s.fset F.PWR_RAILS.CART_ON (v - v / 2 ^ b % 2 * 2 ^ b + (if on then 2 ^ b else 0))
  let s := if on then s else s.fset (F.CART_STATUS.BEACONS b) 0
  s.modCart b (fun c => { c with powered := on })

/-- A LIGHT event (R290). -/
def State.lightEvent (s : State) (bay kind newBay line loss predict : Nat) : State :=
  let onBus := fun (j : Nat) => (s.light.buses.filter (fun p => decide (p.1 / 4 = j))).length
  s.event 6 (le 1 bay ++ le 1 kind ++ le 1 newBay ++ le 1 line ++ le 2 loss ++ le 2 predict ++ le 1 s.light.lanes.length ++
             le 1 (onBus 0) ++ le 1 (onBus 1))

/-- IDENT of a bay (R218): a wrong store is a FAULT, one retired or at its rated hours RETIRED, any other SPARE. -/
def State.identify (s : State) (b : Nat) : State :=
  let c := s.cart b
  let s := (s.fset (F.CART_STATUS.PRESENT b) 1).setBay b 1
  if !c.valid then (s.setBay b 7).logEntry 5 6 .component .bay 0 b
  else
    let s := s.fset (F.CART_STATUS.HOURS b) (min 65535 (c.field 0x100 4))
    let s := s.fset (F.CART_STATUS.END_OF_LIFE b) c.worn.toNat
    if c.flagBit 1 || c.worn then (s.setBay b 6).logEntry 4 6 .component .bay 1 b else s.setBay b 2

/-- The identity of a cartridge with 12 V is read again (R218): its bay goes on. -/
def State.reread (s : State) (b : Nat) : State :=
  let c := s.cart b
  let s := (s.fset (F.CART_STATUS.PRESENT b) 1).fset (F.CART_STATUS.HOURS b) (min 65535 (c.field 0x100 4))
  s.fset (F.CART_STATUS.END_OF_LIFE b) c.worn.toNat

/-- A SPARE bay is chosen for service: WARMING, 12 V on. -/
def State.warm (s : State) (b : Nat) : State :=
  ((s.setBay b 3).powerBay b true).modCart b (fun c => { c with warmSince := s.time.tb3 })

/-- Bays in SERVICE or on their way there, an insertion's new bay left out. -/
def State.serviceComing (s : State) : Nat :=
  (s.baysIn 4).length +
  ((s.baysIn 3).filter (fun b => match s.light.insertion with | some i => decide (i.new ≠ b) | none => true)).length

/-- Whenever fewer than two bays are in SERVICE, the lowest SPARE is brought in (R218). -/
def State.ensureTwo (s : State) : State :=
  (List.range 2).foldl
    (fun s _ => if s.serviceComing < 2 then (match s.baysIn 2 with | b :: _ => s.warm b | [] => s) else s) s

/-- Every bay is identified again (R218): after a reset, and on return from L3 or deeper, where a bay that was DRAINING takes up
its migration again (R238). -/
def State.identifyBays (s : State) : State :=
  let held := bays.filter (fun b => (s.cart b).store ≠ [])
  let s := held.foldl (fun s b => s.identify b) s
  let s := match s.light.insertion with
    | some i => if s.bayState i.old = 2 then (s.setBay i.old 5).powerBay i.old true else s
    | none => { s with light := { s.light with first := none, second := none } }
  s.ensureTwo

/-- Every bay is identified again after a reset that leaves 12 V on (R218, R320, R324): lit bays go on (log 73). -/
def State.identifyOn (s : State) : State :=
  let held := bays.filter (fun b => (s.cart b).store ≠ [])
  (held.foldl (fun s b => if (s.cart b).powered then s.reread b else s.identify b) s).ensureTwo

/-! ## Rings (R224, R226–R229) -/

/-- First ring of the group of a lane: transmit ring of service port p lane k, or of tether lane n. -/
def svcRing (p k : Nat) : Nat := 5 * p + k
/-- Transmit ring of a tether lane. -/
def tetherRing (n : Nat) : Nat := 160 + n

/-- Spare rings of the group a ring belongs to (R224). -/
def spareRings (r : Nat) : List Nat :=
  if r < 160 then [5 * (r / 5) + 4] else if r < 168 then [165, 166, 167] else [173, 174, 175]

/-- The ring is a spare of its group. -/
def isSpareRing (r : Nat) : Bool := (spareRings r).contains r

/-- The ring in use in a lane's place: its own, or the spare that has taken it over. -/
def State.ringOf (s : State) (r : Nat) : Nat := match s.light.spared.find? (fun p => p.1 = r) with | some p => p.2 | none => r

/-- The lane's ring for which a ring works. -/
def State.ringFor (s : State) (r : Nat) : Nat := match s.light.spared.find? (fun p => p.2 = r) with | some p => p.1 | none => r

/-- RING_STATE.STATE of a ring. -/
def State.ringState (s : State) (r : Nat) : Nat := s.fget (F.RING_STATE.STATE r)

/-- The source of the line a transmit ring must resonate on: bay and line. -/
def State.lineOf (s : State) (r : Nat) : Option (Nat × Nat) :=
  let r := s.ringFor r
  if r < 80 then
    if r % 5 = 4 then none
    else (s.light.buses.find? (fun p => p.1 = 4 * (r / 40) + r % 5)).map (·.2)
  else if 160 ≤ r ∧ r < 165 then (s.light.lanes.find? (fun p => p.1 = r - 160)).map (·.2)
  else none

/-- A ring receives (R224). -/
def isReceive (r : Nat) : Bool := (decide (80 ≤ r) && decide (r < 160)) || decide (168 ≤ r)

/-- The lanes whose rings are in use: those with a line, and their receive rings. -/
def State.ringInUse (s : State) (r : Nat) : Bool :=
  let f := s.ringFor r
  if isSpareRing r then s.light.spared.any (fun p => p.2 = r)
  else if isReceive f then (s.lineOf (if f < 160 then f - 80 else f - 8)).isSome
  else (s.lineOf f).isSome

/-- A transmit ring's DAC table is calibrated (R230): 16 entries, whose values the manual does not give (log 3). -/
def State.calibrate (s : State) (r : Nat) : State :=
  if isReceive r then s
  else { s with light := { s.light with dac := spSet 0 s.light.dac r s.free }, free := s.free + 16 }

/-- Width of a transmit ring's DAC (R230): 6 bits for the tether, DAC_BITS for a service port, where other values than 4–8 act as 6. -/
def State.dacWidth (s : State) (r : Nat) : Nat :=
  let n := s.fget (F.SVC_PORT_CTRL.DAC_BITS (r / 5))
  if 160 ≤ r ∨ n < 4 ∨ 8 < n then 6 else n

/-- Entry of a ring's DAC table for the previous and the present PAM4 symbol (R230); NRZ uses symbols 0 and 3. -/
def State.dacEntry (s : State) (r prev now : Nat) : Nat :=
  Config.freeValue (spGet 0 s.light.dac r + 4 * prev + now) % 2 ^ s.dacWidth r

/-- A ring locks on its line at a heater code (R226, R227), and a transmit ring's table is calibrated (R230). -/
def State.lockRing (s : State) (r code : Nat) : State :=
  let s := ((s.fset (F.RING_STATE.STATE r) 2).fset (F.RING_STATE.HEATER r) code).calibrate r
  match s.lineOf r with
  | some (b, l) => (s.fset (F.RING_STATE.LINE r) l).fset (F.RING_STATE.BAY r) b
  | none => s

/-- A ring retunes to its lane's present line and locks there; the manual gives no code (log 3). While pound V is reloaded its
heater holds (R15), and the ring follows after the reload. -/
def State.retuneRing (s : State) (r : Nat) : State :=
  let r := s.ringOf r
  if s.ringState r = 2 ∧ s.lightHeld = false then
    let d := s.draw 4096
    d.2.lockRing r d.1
  else s

/-- A locked ring whose line is no longer its lane's. -/
def State.ringBehind (s : State) (r : Nat) : Bool :=
  decide (s.ringState r = 2) &&
  (match s.lineOf r with
   | some (b, l) => decide (s.fget (F.RING_STATE.BAY r) ≠ b) || decide (s.fget (F.RING_STATE.LINE r) ≠ l)
   | none => false)

/-- Pound V works again (R15): rings whose line changed meanwhile retune, those of BUSY ports later (R236). -/
def State.retuneBehind (s : State) : State :=
  (List.range 176).foldl
    (fun s r => if s.ringBehind r && !(decide (r < 80) && s.bit (F.SVC_PORT_CTRL.BUSY (r / 5))) then s.retuneRing (s.ringFor r) else s) s


/-- Rings in a state. -/
def State.ringsIn (s : State) (v : Nat) : Nat := ((List.range 176).filter (fun r => decide (s.ringState r = v))).length

/-- A spare ring may take a lane: not in use, not FAILED. -/
def State.spareFree (s : State) (r : Nat) : Bool := decide (s.ringState r ≠ 4) && !s.light.spared.any (fun p => p.2 = r)

/-- Spare rings left (R355). -/
def State.ringsLeft (s : State) : Nat := ((List.range 176).filter (fun r => isSpareRing r && s.spareFree r)).length

/-! ## Tether lanes in use (R198) -/

/-- A bit of TETHER_LANES.UP or IN_USE. -/
def laneBit (v n : Nat) : Bool := v / 2 ^ n % 2 = 1

/-- v with bit n set or clear. -/
def withBit (v n : Nat) (on : Bool) : Nat := v - v / 2 ^ n % 2 * 2 ^ n + (if on then 2 ^ n else 0)

/-- Lane n carries frames. -/
def State.laneUsed (s : State) (n : Nat) : Bool := laneBit (s.fget F.TETHER_LANES.IN_USE) n

/-- Lane n has block lock at both ends. -/
def State.laneLocked (s : State) (n : Nat) : Bool := laneBit (s.fget F.TETHER_LANES.UP) n && s.pair.peerLanes.contains n

/-- Lane n begins or stops carrying frames. -/
def State.useLane (s : State) (n : Nat) (on : Bool) : State :=
  s.fset F.TETHER_LANES.IN_USE (withBit (s.fget F.TETHER_LANES.IN_USE) n on)

/-- Lane 4 carries the stripe of a lane that moves (R236). -/
def State.laneMoving (s : State) : Bool := match s.light.move with | some (_, step) => decide (2 ≤ step) | none => false

/-- Lane 4, when it is free and locked, takes the place of the lowest lost lane (R198, R238). -/
def State.spareTakes (s : State) : State :=
  if s.pair.lostLanes ≠ [] ∧ s.laneLocked 4 ∧ !s.laneUsed 4 ∧ !s.laneMoving then
    let s := ((s.useLane 4 true).fset F.TETHER_LANES.SPARE_USED 1).fadd F.TETHER_LANES.FAILOVERS 1
    (s.count 3 10).spareIn 3 .lane (s.pair.lostLanes.headD 0) 4 true
  else s

/-- A lane stops carrying frames; a service lane's place is taken by the spare at the next frame boundary (R198). -/
def State.laneDown (s : State) (n : Nat) : State :=
  if s.laneUsed n then
    let s := s.useLane n false
    if n = 4 then (s.fset F.TETHER_LANES.SPARE_USED 0).spareBack 4
    else ({ s with pair := { s.pair with lostLanes := s.pair.lostLanes.filter (fun m => decide (m ≠ n)) ++ [n] } }).spareTakes
  else s

/-- Lane n loses block lock at this end (R198, R229). -/
def State.laneUnlocked (s : State) (n : Nat) : State :=
  (s.fset F.TETHER_LANES.UP (withBit (s.fget F.TETHER_LANES.UP) n false)).laneDown n

/-- A lane locked at both ends takes its stripe: lane 4 goes free when no other lane is lost (R229, R236). -/
def State.laneBack (s : State) (n : Nat) : State :=
  if n = 4 then s.spareTakes
  else if s.laneLocked n && !s.laneUsed n then
    let s := s.useLane n true
    let left := s.pair.lostLanes.filter (fun m => decide (m ≠ n))
    let s := { s with pair := { s.pair with lostLanes := left } }
    if s.fget F.TETHER_LANES.SPARE_USED = 1 ∧ left = [] then ((s.useLane 4 false).fset F.TETHER_LANES.SPARE_USED 0).spareBack 4 else s
  else s

/-- Lane n's transmit light is lost or leaves its line: the partner loses block lock on it. -/
def State.laneDark (s : State) (n : Nat) : State :=
  ({ s with pair := { s.pair with peerLanes := s.pair.peerLanes.filter (fun m => decide (m ≠ n)) } }).laneDown n

/-! ## Lines and lanes (R222, R223, R225) -/

/-- A line is usable (R225): rated, not failed, its loss below SWAP. -/
def State.usable (s : State) (b l : Nat) : Bool :=
  let c := s.cart b
  decide (c.field 0x1E 2 / 2 ^ l % 2 = 1) && !c.failed.contains l && decide (c.loss l < 10 * s.fget F.FADE_THRESH.SWAP)

/-- The lines of the tether set and of the service set (R222). -/
def tetherSet : List Nat := [8, 9, 10, 11, 12, 13, 14, 15]
/-- Lines 0–7. -/
def serviceSet : List Nat := [0, 1, 2, 3, 4, 5, 6, 7]

/-- Bay of the first (false) or the second cartridge, or the other where there is one only. -/
def State.roleBay (s : State) (second : Bool) : Option Nat :=
  if second then s.light.second <|> s.light.first else s.light.first <|> s.light.second

/-- The line plan (R223): cartridge and line of tether lane n, or of lane k of bus j as consumer 8 + 4 j + k; the image's, or the
default plan. -/
def State.planLine (s : State) (c : Nat) : Bool × Nat :=
  let own : Option (Bool × Nat) := match s.image with
    | some i => (i.linePlan.find? (fun (p : Nat × Bool × Nat) => decide (p.1 = c))).map (fun p => p.2)
    | none => none
  match own with
  | some p => p
  | none =>
    if c < 5 then [(false, 8), (false, 9), (true, 11), (true, 12), (true, 10)].getD c (false, 8)
    else (decide ((c - 8) / 4 = 1), c % 4)

/-- Planned source of a consumer (R223). -/
def State.linePlanned (s : State) (c : Nat) : List (Nat × Nat) :=
  let p := s.planLine c
  match s.roleBay p.1 with | some b => [(b, p.2)] | none => []

/-- Planned source of a tether lane (R223). -/
def State.defaultLane (s : State) (n : Nat) : List (Nat × Nat) := s.linePlanned n

/-- Planned source of a lane of a service bus (R223). -/
def State.defaultBus (s : State) (key : Nat) : List (Nat × Nat) := s.linePlanned (8 + key)

/-- The first line that serves: one preferred, else the lowest usable line of the sets in order, from the bays in order; taken
lines and line numbers already on the bus are left out (R222, R225). -/
def State.chooseLine (s : State) (bs : List Nat) (sets : List (List Nat)) (taken : List (Nat × Nat)) (bus : List Nat)
    (prefer : List (Nat × Nat)) : Option (Nat × Nat) :=
  let ok := fun (p : Nat × Nat) => bs.contains p.1 && s.usable p.1 p.2 && !taken.contains p && !bus.contains p.2
  (prefer ++ sets.flatMap (fun ls => bs.flatMap (fun b => ls.map (fun l => (b, l))))).find? ok

/-- Lines for these consumers in order of need: those that keep a good line of a bay not to be avoided keep it. -/
def State.fillLines (s : State) (bs avoid : List Nat) (sets : List (List Nat)) (taken : List (Nat × Nat))
    (now : Sparse (Nat × Nat)) (want : List (Nat × List (Nat × Nat))) : Sparse (Nat × Nat) :=
  let kept := now.filter (fun p => want.any (fun w => w.1 = p.1) && bs.contains p.2.1 && !avoid.contains p.2.1 &&
    s.usable p.2.1 p.2.2 && !taken.contains p.2)
  want.foldl
    (fun (m : Sparse (Nat × Nat)) (w : Nat × List (Nat × Nat)) =>
      if m.any (fun p => p.1 = w.1) then m
      else
        let own := m.filter (fun p => p.1 / 4 = w.1 / 4 || decide (want.length = 5))
        match s.chooseLine bs sets (taken ++ m.map (·.2)) (own.map (·.2.2)) (w.2.filter (fun p => !avoid.contains p.1)) with
        | some p => spSet (99, 99) m w.1 p
        | none => m)
    kept

/-- Lanes per port on bus 0 and 1 for the usable lines left (R225). -/
def lanesPerPort (left : Nat) : Nat × Nat :=
  if 8 ≤ left then (4, 4) else if 4 ≤ left then (2, 2) else if 2 ≤ left then (1, 1) else if left = 1 then (1, 0) else (0, 0)

/-- The allocation of R225 over these bays in order: tether lanes and bus lanes. -/
def State.allocation (s : State) (bs avoid : List Nat) : Sparse (Nat × Nat) × Sparse (Nat × Nat) :=
  let lanes := s.fillLines bs avoid [tetherSet, serviceSet] [] s.light.lanes ((List.range 5).map (fun n => (n, s.defaultLane n)))
  let used := lanes.map (·.2)
  let all := bs.flatMap (fun b => (List.range 16).filterMap (fun l => if s.usable b l then some (b, l) else none))
  let k := lanesPerPort (all.filter (fun p => !used.contains p)).length
  let keys := (List.range k.1) ++ (List.range k.2).map (fun l => 4 + l)
  (lanes, s.fillLines bs avoid [serviceSet, tetherSet] used s.light.buses (keys.map (fun q => (q, s.defaultBus q))))

/-- Lanes of port p that work: lanes of its bus whose rings have not FAILED for want of a spare, taken down to 0, 1, 2 or 4. -/
def State.svcLanes (s : State) (p : Nat) : Nat :=
  let ok := fun (p k : Nat) => decide (s.ringState (s.ringOf (svcRing p k)) ≠ 4) && decide (s.ringState (s.ringOf (80 + svcRing p k)) ≠ 4)
  let n := ((s.light.buses.filter (fun q => decide (q.1 / 4 = p / 8) && ok p (q.1 % 4))).map (·.1)).length
  let n := if n = 3 then 2 else n
  if s.bit (F.SVC_PORT_CTRL.EN p) && decide (s.rung ≤ 1) then n else 0

/-- LANES and DEGRADED of every service port (R225, R240); on L2 the service ports are off (R232). -/
def State.showPorts (s : State) : State :=
  (List.range 16).foldl
    (fun s p =>
      let n := s.svcLanes p
      (s.fset (F.SVC_PORT_CTRL.LANES p) n).fset (F.SVC_PORT_CTRL.DEGRADED p) (decide (n < 4)).toNat) s

/-- The rings of a bus take its present lines, the ports this test accepts. -/
def State.retuneBus (s : State) (j : Nat) (p : Nat → Bool) : State :=
  ((List.range 8).map (fun i => 8 * j + i)).foldl
    (fun s q => if p q then (List.range 4).foldl (fun s k => s.retuneRing (svcRing q k)) s else s) s

/-- Each fall in lane counts makes a severity 5 entry and a LIGHT event (R237). -/
def State.lanesReduced (s : State) (bay tether bus : Nat) : State :=
  if s.light.lanes.length < tether ∨ s.light.buses.length < bus then
    ((s.lightEvent bay 4 bay 0xFF 0 0).logEntry 5 6 .component .bay 4 bay).count 12 9
  else s

/-- A new source for tether lane n; its ring retunes and the partner finds it again. -/
def State.setLane (s : State) (n : Nat) (src : Option (Nat × Nat)) : State :=
  let lanes := s.light.lanes.filter (fun p => decide (p.1 ≠ n))
  let s := { s with light := { s.light with lanes := match src with | some x => spSet (99, 99) lanes n x | none => lanes } }
  (s.laneDark n).retuneRing (tetherRing n)

/-- The lanes take this allocation: only those that change retune. -/
def State.applyAllocation (s : State) (bay : Nat) (a : Sparse (Nat × Nat) × Sparse (Nat × Nat)) : State :=
  let tether := s.light.lanes.length
  let bus := s.light.buses.length
  let find := fun (m : Sparse (Nat × Nat)) (n : Nat) => (m.find? (fun p => p.1 = n)).map (·.2)
  let s := (List.range 5).foldl
    (fun (s : State) (n : Nat) => if find s.light.lanes n = find a.1 n then s else s.setLane n (find a.1 n)) s
  let old := s.light.buses
  let s := { s with light := { s.light with buses := a.2 } }
  let s := [0, 1].foldl
    (fun (s : State) (j : Nat) => if old.filter (fun p => decide (p.1 / 4 = j)) = a.2.filter (fun p => decide (p.1 / 4 = j)) then s
      else s.retuneBus j (fun _ => true)) s
  (s.showPorts).lanesReduced bay tether bus

/-- Bays whose light may be used: SERVICE and DRAINING, the first and the second before others (R225). -/
def State.litBays (s : State) : List Nat := bays.filter (fun b => decide (s.bayState b = 4) || decide (s.bayState b = 5))

/-! ## Beacons (R231) -/

/-- SRC_A or SRC_B. -/
def srcFld (h : Nat) : Fld := if h = 0 then F.BEACON_CTRL.SRC_A else F.BEACON_CTRL.SRC_B

/-- The beacon of a bay that feeds head h is lit or dark: head A takes beacon 0, head B beacon 1. -/
def State.lightBeacon (s : State) (b h : Nat) (on : Bool) : State :=
  if b < 3 then s.fset (F.CART_STATUS.BEACONS b) (withBit (s.fget (F.CART_STATUS.BEACONS b)) h on) else s

/-- Head h takes its beacon from this bay, 3 for none; light leaves only by a mated connector (R373). -/
def State.setBeacon (s : State) (h b : Nat) : State :=
  let s := s.lightBeacon (s.fget (srcFld h)) h false
  (s.fset (srcFld h) b).lightBeacon b h (s.light.mated.contains h)

/-- A bay whose beacon may serve head h: a SERVICE bay, the planned one first (R223, R231). -/
def State.beaconBay (s : State) (h : Nat) : Nat :=
  let own : Option Bool := match s.image with
    | some i => (i.beaconPlan.find? (fun (p : Nat × Bool) => decide (p.1 = h))).map (fun p => p.2)
    | none => none
  let plan := (s.roleBay (own.getD (decide (h = 1)))).toList.filter (fun b => decide (s.bayState b = 4))
  (plan ++ s.baysIn 4).headD 3

/-- A sudden loss of the source of head h (R231): the same beacon of another cartridge in SERVICE or SPARE is lit. -/
def State.beaconLost (s : State) (h : Nat) : State :=
  let old := s.fget (srcFld h)
  let new := ((s.baysIn 4 ++ s.baysIn 2).filter (fun b => decide (b ≠ old))).headD 3
  let s := s.setBeacon h new
  let s := if new < 3 ∧ s.bayState new = 2 then s.powerBay new true else s
  let s := if new < 3 ∧ s.light.mated.contains h then s.lightBeacon new h true else s
  let s := if new < 3 then (s.lightEvent old 5 new 0xFF 0 0).count 12 6 else s
  (s.logEntry 5 6 .component .bay 5 old).count 12 7

/-- Lines and beacons of a bay in use: lines admitted to a bus, lit beacons (R233). On L2 the service lines are released, and those of
the tether with PAIR_CFG.EN clear (R232). -/
def State.inUseOf (s : State) (b : Nat) : List Nat :=
  let lanes := if s.rung ≤ 1 ∨ (s.rung = 2 ∧ s.pairEn = true) then s.light.lanes else []
  let buses := if s.rung ≤ 1 then s.light.buses else []
  (((lanes ++ buses).filter (fun p => decide (p.2.1 = b))).map (·.2.2)).dedup ++
  ([0, 1].filter (fun h => laneBit (s.fget (F.CART_STATUS.BEACONS b)) h)).map (fun h => 16 + h)

end Sys2Proof.Machine
end

