-- ==== Sys2Proof/Machine/LightRun.lean ====
section
/-!
DEFINITION. What happens to the light: cartridges inserted, proved, measured, fading and removed (R218–R221, R233, R234, R239),
insertions and moves of lanes (R235–R238), rings (R226–R230), beacons (R231) and tether lanes (R198, R374).
-/

namespace Sys2Proof.Machine

/-! ## Bays (R218, R234) -/

/-- Roles of the cartridges (R218): the lower number is the first until the first search; later the vacant role is filled. -/
def State.takeRole (s : State) (b : Nat) : State :=
  let l := s.light
  let early := !s.bit F.RING_STATUS.SEARCH_DONE
  match l.first, l.second with
  | none, none => { s with light := { l with first := some b } }
  | some a, none =>
    if a = b then s
    else if early && decide (b < a) then { s with light := { l with first := some b, second := some a } }
    else { s with light := { l with second := some b } }
  | none, some _ => { s with light := { l with first := some b } }
  | some _, some _ => s

/-- Beacons and lanes by the plan of R223: before the first search anew, later what is missing (R225, R231). -/
def State.planLight (s : State) (b : Nat) : State :=
  let early := !s.bit F.RING_STATUS.SEARCH_DONE
  let s := [0, 1].foldl
    (fun s h => if early || decide (s.fget (srcFld h) = 3) then s.setBeacon h (s.beaconBay h) else s) s
  let s := if early then { s with light := { s.light with lanes := [], buses := [] } } else s
  s.applyAllocation b (s.allocation s.litBays [])

/-- A bay enters SERVICE (R218, R220): SWAPS, and COMMISSION at the first entry in any module. -/
def State.enterService (s : State) (b : Nat) (means : List Int) : State :=
  let s := s.setBay b 4
  let c := s.cart b
  let s := s.storePut b 0x104 (le 2 (c.field 0x104 2 + 1))
  let s := if c.flagBit 0 then s
    else
      let s := s.storePut b 0x108 ((List.range 18).flatMap (fun i => le 2 (ofSigned 16 (means.getD i 0))))
      s.storePut b 0x106 (le 2 (c.field 0x106 2 + 1))
  s.modCart b (fun c => { c with means := means, recent := [], before := [], failed := [], hourSum := [], hourCount := 0 })

/-- An insertion begins (R235): the spare warms. -/
def State.startInsertion (s : State) (old new : Nat) (cmd : Option Src) : State :=
  ({ s with light := { s.light with insertion := some { old := old, new := new, step := 1, cmd := cmd } } }).warm new

/-- A trigger or the end of life of a bay's cartridge (R221, R234, R238): with a spare the insertion begins; one that runs makes
it wait; with none R237 applies. -/
def State.replaceBay (s : State) (b flags : Nat) : State :=
  let s := s.modCart b (fun c => { c with retire := true, endFlags := c.endFlags ||| flags })
  if s.light.insertion.isSome then
    if s.light.queued.any (fun q => q.1 = b) then s
    else { s with light := { s.light with queued := s.light.queued ++ [(b, true, none)] } }
  else match s.baysIn 2 with
    | n :: _ => s.startInsertion b n none
    | [] => s

/-- The insertion in progress is abandoned (R238): its CART_SWAP fails with PROOF. -/
def State.abandonInsertion (s : State) : State :=
  match s.light.insertion with
  | some i =>
    let s := bays.foldl (fun s b => s.fset (F.CART_STATUS.MIGRATING b) 0) s
    let s := ({ s with light := { s.light with insertion := none, move := none } }).count 12 5
    match i.cmd with
    | some src => s.complete 0x71 src .failed Reason.proof.code
    | none => s
  | none => s

/-- CARTRIDGE_INSERTED (R218): IDENT, and the bay's state by its identity store; while a reset or a stay in L3 or deeper lasts the
bay waits in IDENT for the identification at its end (log 73). -/
def execCartridgeInserted (bay : Nat) (store : List Byte) (s : State) : Out :=
  ifOk (Instr.wf (.cartridgeInserted bay store))
    (if s.bayState bay = 0 ∧ (s.cart bay).store = [] then
       let s := s.modCart bay (fun _ => { store := store })
       if s.rung ≤ 2 ∧ !s.held then (s.identify bay).ensureTwo else (s.fset (F.CART_STATUS.PRESENT bay) 1).setBay bay 1
     else s)

/-- A bay's cartridge is gone or without 12 V (R239): its light is lost at once, and what it fed is replaced. -/
def State.loseBay (s : State) (b : Nat) : State :=
  let was := s.bayState b
  let s := ((s.setBay b 0).powerBay b false).fset (F.CART_STATUS.MIGRATING b) 0
  let s := if was = 3 then s.logEntry 5 6 .component .bay 3 b else s
  let s := match s.light.insertion with
    | some i =>
      if i.new = b then s.abandonInsertion
      else if i.old = b then
        let s := { s with light := { s.light with insertion := none, move := none } }
        let s := s.fset (F.CART_STATUS.MIGRATING i.new) 0
        match i.cmd with | some src => s.complete 0x71 src .done | none => s
      else s
    | none => s
  let out := fun (r : Option Nat) => if r = some b then none else r
  let s := { s with light := { s.light with first := out s.light.first, second := out s.light.second } }
  if was = 4 ∨ was = 5 then
    let s := s.lightEvent b 6 b 0xFF 0 0
    let s := [0, 1].foldl (fun s h => if s.fget (srcFld h) = b then s.beaconLost h else s) s
    let s := s.applyAllocation b (s.allocation s.litBays [])
    s.ensureTwo
  else if s.rung ≤ 2 ∧ !s.held then s.ensureTwo else s

/-- CARTRIDGE_REMOVED (R218, R239). -/
def execCartridgeRemoved (bay : Nat) (s : State) : Out :=
  ifOk (Instr.wf (.cartridgeRemoved bay))
    (let s := s.loseBay bay
     let s := s.modCart bay (fun _ => {})
     let s := ((s.fset (F.CART_STATUS.PRESENT bay) 0).fset (F.CART_STATUS.HOURS bay) 0).fset (F.CART_STATUS.END_OF_LIFE bay) 0
     (s.fset (F.CART_POWER.LOSS bay) 0).fset (F.CART_POWER.PREDICT bay) 0)

/-- A spare is proved (R234): each line in LINES_OK and both beacons within ±1.0 dB of rated, varying by at most 0.2 dB. -/
def Cart.proved (c : Cart) (powers : List Int) (spread : List Nat) : Bool :=
  (List.range 18).all (fun i =>
    (decide (i < 16) && decide (c.field 0x1E 2 / 2 ^ i % 2 = 0)) ||
    (match powers[i]?, spread[i]? with
     | some p, some v => decide ((p - c.rated i).natAbs ≤ 100) && decide (v ≤ 20)
     | _, _ => false))

/-- WARMING_PROOF (R234): the bay enters SERVICE. In an insertion its step 1 is done; otherwise the bay takes a role and the
consumers that lack light. -/
def execWarmingProof (bay : Nat) (powers : List Int) (spread : List Nat) (s : State) : Out :=
  ifOk (Instr.wf (.warmingProof bay powers spread))
    (if s.bayState bay = 3 && (s.cart bay).proved powers spread then
       let ins := match s.light.insertion with | some i => decide (i.new = bay) | none => false
       let s := s.enterService bay powers
       if ins then s.spareIn 6 .bay bay 10 (decide (s.baysIn 2 = []))
       else
         let late := s.bit F.RING_STATUS.SEARCH_DONE
         let other := (s.baysIn 4).find? (fun b => decide (b ≠ bay))
         let s := (s.takeRole bay).planLight bay
         match other with
         | some o =>
           if late && s.light.insertion.isNone then
             { s with light := { s.light with insertion := some { old := o, new := bay, step := 2 } } }
           else s
         | none => s
     else s)

/-- WARMING_TIMEOUT (R218): no proof within 5 s. -/
def execWarmingTimeout (bay : Nat) (s : State) : Out :=
  ifOk (Instr.wf (.warmingTimeout bay))
    (if s.bayState bay = 3 ∧ (s.cart bay).warmSince + 2500000000 ≤ s.time.tb3 then
       let s := ((s.setBay bay 7).powerBay bay false).logEntry 5 6 .component .bay 2 bay
       let s := match s.light.insertion with | some i => if i.new = bay then s.abandonInsertion else s | none => s
       s.ensureTwo
     else s)

/-! ## Fade (R233, R234) -/

/-- A bay's trigger fires (R234): FADE_SWAP, an event, and the insertion, or with AUTO clear a severity 4 entry. -/
def State.trigger (s : State) (b : Nat) : State :=
  if s.bit (F.CART_STATUS.FADE_SWAP b) then s
  else
    let s := s.sticky (F.CART_STATUS.FADE_SWAP b) (some 3)
    let s := s.lightEvent b 1 b 0xFF (s.fget (F.CART_POWER.LOSS b)) (s.fget (F.CART_POWER.PREDICT b))
    if s.bit F.FADE_THRESH.AUTO then s.replaceBay b 4 else s.logEntry 4 6 .component .bay 6 b

/-- The trigger's conditions (R234). -/
def State.faded (s : State) (b : Nat) : Bool :=
  decide (10 * s.fget F.FADE_THRESH.SWAP ≤ s.fget (F.CART_POWER.LOSS b)) ||
  (decide (s.fget F.FADE_THRESH.HORIZON ≠ 0) && decide (12 ≤ ((s.cart b).hourly.headD []).length) &&
   decide (10 * s.fget F.FADE_THRESH.PREDICT ≤ s.fget (F.CART_POWER.PREDICT b))) ||
  decide (3 ≤ (s.cart b).failed.length)

/-- The sums of the hour with one measurement more. -/
def addLoss (sums losses : List Int) : List Int := (List.range 18).map (fun i => sums.getD i 0 + losses.getD i 0)

/-- Means of each line and beacon over these measurements, rounded half up (R233). -/
def meansOf (ms : List (List Int)) : List Int :=
  let n : Int := ms.length
  (List.range 18).map (fun i => (2 * (ms.map (fun m => m.getD i 0)).foldl (· + ·) 0 + n) / (2 * n))

/-- A measurement joins those of the last 60 s (R233). -/
def Cart.measured (c : Cart) (powers : List Int) : Cart :=
  let r := (c.recent ++ [powers]).drop (c.recent.length + 1 - 60)
  { c with recent := r, means := meansOf r }

/-- FADE_MEASUREMENT (R233, R234): the powers of a bay in SERVICE, its losses, failed lines, the warning and the trigger. -/
def execFadeMeasurement (bay : Nat) (powers : List Int) (s : State) : Out :=
  ifOk (Instr.wf (.fadeMeasurement bay powers))
    (if s.bayState bay = 4 then
       let s := s.modCart bay (fun c => c.measured powers)
       let c := s.cart bay
       let losses := (List.range 18).map c.loss
       let used := s.inUseOf bay
       let bad := used.filter (fun i => decide (i < 16) && !c.failed.contains i &&
         (decide (600 ≤ losses.getD i 0) || (c.before != [] && decide (300 ≤ losses.getD i 0 - c.before.getD i 0))))
       let s := s.modCart bay (fun c => { c with before := losses, failed := c.failed ++ bad, hourSum := addLoss c.hourSum losses,
                                                 hourCount := c.hourCount + 1 })
       let s := s.fset (F.CART_POWER.LOSS bay) (clampLoss ((used.map (fun i => losses.getD i 0)).foldl max 0))
       let s := bad.foldl
         (fun s i => ((s.sticky (F.CART_STATUS.LINE_FAIL bay) (some 3)).lightEvent bay 2 bay i (clampLoss (losses.getD i 0)) 0).count 12 3) s
       let s := if bad = [] then s else s.applyAllocation bay (s.allocation s.litBays [])
       let s :=
         if 10 * s.fget F.FADE_THRESH.WARN ≤ s.fget (F.CART_POWER.LOSS bay) ∧ s.bit (F.CART_STATUS.FADE_WARN bay) = false then
           ((s.sticky (F.CART_STATUS.FADE_WARN bay) (some 3)).lightEvent bay 0 bay 0xFF (s.fget (F.CART_POWER.LOSS bay)) 0).logEntry
             4 6 .component .bay 7 bay
         else s
       if s.faded bay then s.trigger bay else s
     else s)

/-- Numerators of the least-squares fit of hourly means (R233): slope over n(n² − 1), value h hours ahead over 2n(n² − 1). -/
def fit (ys : List Int) (h : Nat) : Int × Int :=
  let n : Int := ys.length
  let sy := ys.foldl (· + ·) 0
  let sxy := ((List.range ys.length).zip ys).foldl (fun (a : Int) (p : Nat × Int) => a + p.1 * p.2) 0
  let k := 12 * sxy - 6 * (n - 1) * sy
  (k, 2 * sy * (n * n - 1) + k * (n - 1 + 2 * h))

/-- The fitted slope, 0.001 dB/h, and the predicted loss, 0.01 dB; none with fewer than 12 hourly means. -/
def fitOf (ys : List Int) (h : Nat) : Option (Int × Int) :=
  if ys.length < 12 then none
  else
    let n : Int := ys.length
    let den := n * (n * n - 1)
    let f := fit ys h
    some ((20 * f.1 + den) / (2 * den), (f.2 + den) / (2 * den))

/-- HOURLY_FIT (R233): the hour's mean joins the last 168, and the predicted loss follows. -/
def execHourlyFit (bay : Nat) (s : State) : Out :=
  ifOk (Instr.wf (.hourlyFit bay))
    (if s.bayState bay = 4 ∧ (s.cart bay).hourCount ≠ 0 then
       let s := s.modCart bay (fun c =>
         let n : Int := c.hourCount
         let rows := (List.range 18).map (fun i =>
           let l := c.hourly.getD i [] ++ [(2 * c.hourSum.getD i 0 + n) / (2 * n)]
           l.drop (l.length - 168))
         { c with hourly := rows, hourSum := [], hourCount := 0 })
       let c := s.cart bay
       let h := s.fget F.FADE_THRESH.HORIZON
       let pred := (s.inUseOf bay).filterMap (fun i => (fitOf (c.hourly.getD i []) h).map (·.2))
       let s := s.fset (F.CART_POWER.PREDICT bay) (clampLoss (pred.foldl max 0))
       if s.faded bay then s.trigger bay else s
     else s)

/-! ## Insertions and moves (R235–R238) -/

/-- How the insertion moves consumers: the old bay drains; a plan is rebuilt; or a fading bay is relieved without a spare. -/
def State.draining (s : State) (i : Insertion) : Bool := decide (s.bayState i.old = 5)

/-- A fading bay without a spare (R237). -/
def State.relieved (s : State) (i : Insertion) : Bool := (s.cart i.old).retire && !s.draining i

/-- A tether lane or a line of a bus that the insertion moves. -/
def State.moves (s : State) (i : Insertion) (src : Nat × Nat) (planned : List (Nat × Nat)) : Bool :=
  decide (src.1 = i.old) && (s.draining i || s.relieved i || planned.any (fun p => p.1 = i.new))

/-- The line of the new cartridge a lane of the tether takes: the lowest that no bay supplies to the tether bus (R236). -/
def State.tetherLine (s : State) (new : Nat) : Option (Nat × Nat) :=
  s.chooseLine [new] [tetherSet, serviceSet] (s.light.buses.map (·.2)) (s.light.lanes.map (·.2.2)) []

/-- Tether lanes the insertion has still to move, lowest first; without a spare only those a line can be found for. -/
def State.lanesToMove (s : State) (i : Insertion) : List Nat :=
  if s.relieved i && (s.tetherLine i.new).isNone then []
  else (s.light.lanes.filter (fun p => s.moves i p.2 (s.defaultLane p.1))).map (·.1)

/-- Bus lanes of bus j after its move (R236, R237): as many of the lowest free lines of the new cartridge as it had. -/
def State.busAfter (s : State) (i : Insertion) (j : Nat) : Sparse (Nat × Nat) :=
  let now := s.light.buses
  if s.relieved i then
    let bs := s.litBays.filter (fun b => decide (b ≠ i.old)) ++ [i.old]
    now.filter (fun p => decide (p.1 / 4 ≠ j)) ++ ((s.allocation bs [i.old]).2.filter (fun p => decide (p.1 / 4 = j)))
  else
    let stay := now.filter (fun p => !(decide (p.1 / 4 = j) && s.moves i p.2 (s.defaultBus p.1)))
    let go := now.filter (fun p => decide (p.1 / 4 = j) && s.moves i p.2 (s.defaultBus p.1))
    go.foldl
      (fun (m : Sparse (Nat × Nat)) (p : Nat × (Nat × Nat)) =>
        let bus := (now ++ m).filter (fun q => decide (q.1 / 4 = j))
        match s.chooseLine [i.new] [serviceSet, tetherSet] ((now ++ m).map (·.2) ++ s.light.lanes.map (·.2)) (bus.map (·.2.2)) [] with
        | some x => spSet (99, 99) m p.1 x
        | none => m) stay

/-- Bus j still has to move. -/
def State.busToMove (s : State) (i : Insertion) (j : Nat) : Bool :=
  if s.relieved i then (s.busAfter i j).filter (fun p => decide (p.1 / 4 = j)) ≠ s.light.buses.filter (fun p => decide (p.1 / 4 = j))
  else s.light.buses.any (fun p => decide (p.1 / 4 = j) && s.moves i p.2 (s.defaultBus p.1))

/-- A service port whose locked transmit rings are not on its bus's present lines (R236). -/
def State.portBehind (s : State) (p : Nat) : Bool :=
  (List.range 4).any (fun k => s.ringBehind (s.ringOf (svcRing p k)))

/-- Ports of bus j. -/
def busPorts (j : Nat) : List Nat := (List.range 8).map (fun i => 8 * j + i)

/-- A port is still moving, or waits to move. -/
def State.portsMoving (s : State) : Bool :=
  (List.range 16).any (fun p => s.bit (F.SVC_PORT_CTRL.MOVING p) || s.portBehind p)

/-- Set the insertion's step. -/
def State.insStep (s : State) (i : Insertion) (n : Nat) : State :=
  { s with light := { s.light with insertion := some { i with step := n } } }

/-- Step 2 (R235): the fading cartridge enters DRAINING, and the new one takes over its role (R218). -/
def State.drainOld (s : State) (i : Insertion) : State :=
  let s := (((s.setBay i.old 5).fset (F.CART_STATUS.MIGRATING i.old) 1).fset (F.CART_STATUS.MIGRATING i.new) 1).insStep i 2
  let role := fun (r : Option Nat) => if r = some i.old then some i.new else r
  { s with light := { s.light with first := role s.light.first, second := role s.light.second } }

/-- Step 3 (R235): each beacon the old cartridge feeds, and the insertion moves, goes to the new one. -/
def State.moveBeacons (s : State) (i : Insertion) : State :=
  let s := [0, 1].foldl
    (fun s h =>
      if s.fget (srcFld h) = i.old && (s.draining i || s.relieved i || decide (s.beaconBay h = i.new)) then
        ((s.setBeacon h i.new).lightEvent i.old 5 i.new 0xFF 0 0).count 12 6
      else s) s
  s.insStep i 3

/-- Flags of a cartridge that ends its life are written (R221). -/
def State.retireStore (s : State) (b : Nat) : State :=
  s.storePut b 0x106 (le 2 ((s.cart b).field 0x106 2 ||| 2 ||| (s.cart b).endFlags))

/-- Step 6 (R235): the old cartridge's lines are released and it leaves DRAINING; a fading one without a spare leaves only once
nothing of it is needed (R237). The trigger that waits comes next (R238). -/
def State.endInsertion (s : State) (i : Insertion) : State :=
  let leaves := s.draining i || (s.relieved i && decide (s.inUseOf i.old = []))
  let s := [i.old, i.new].foldl (fun s b => s.fset (F.CART_STATUS.MIGRATING b) 0) s
  let c := s.cart i.old
  let s := { s with light := { s.light with insertion := none, move := none } }
  let s := if c.retire then s.retireStore i.old else s
  let s := if leaves then (s.setBay i.old (if c.retire then 6 else 2)).powerBay i.old false else s
  let s := ((s.lightEvent i.old 3 i.new 0xFF 0 0).logEntry 3 6 .component .bay 3 i.old).count 12 4
  let s := match i.cmd with | some src => s.complete 0x71 src .done | none => s
  match s.light.queued with
  | (b, _, _) :: rest =>
    let s := { s with light := { s.light with queued := rest } }
    if s.bayState b = 4 then s.replaceBay b 0 else s
  | [] => s

/-- INSERTION (R235, R238): the next step of the insertion, once no ring is RETRAINING and pound V is not being reloaded. -/
def execInsertion (s : State) : Out :=
  .next (match s.light.insertion with
    | none => s
    | some i =>
      if s.ringsIn 3 ≠ 0 ∨ s.lightHeld = true ∨ s.light.move.isSome then s
      else if i.step = 1 then (if s.bayState i.new = 4 then s.drainOld i else s)
      else if i.step = 2 then (if s.bayState i.new = 4 then s.moveBeacons i else s)
      else if i.step = 3 then s.insStep i 4
      else if i.step = 4 then (if s.lanesToMove i = [] then s.insStep i 5 else s)
      else if s.busToMove i 0 || s.busToMove i 1 || s.portsMoving then s
      else s.endInsertion i)

/-- The next step of a move of lane n to a new cartridge (R236). -/
def State.laneStep (s : State) (n new : Nat) : State :=
  let setMove := fun (m : Option (Nat × Nat)) (s : State) => { s with light := { s.light with move := m } }
  match s.light.move with
  | none =>
    if n = 4 ∨ !s.laneUsed n then
      (if n = 4 ∧ s.laneUsed 4 then s else match s.tetherLine new with | some x => s.setLane n (some x) | none => s)
    else if s.laneUsed 4 then s
    else if s.light.lanes.any (fun p => p.1 = 4 && p.2.1 = new) then setMove (some (n, 1)) s
    else match s.tetherLine new with
      | some x => setMove (some (n, 1)) (s.setLane 4 (some x))
      | none => s
  | some (m, 1) =>
    if m = n && s.pair.peerLanes.contains 4 then setMove (some (n, 2)) ((s.useLane n false).useLane 4 true) else s
  | some (m, 2) =>
    if m = n then (match s.tetherLine new with | some x => setMove (some (n, 3)) (s.setLane n (some x)) | none => s) else s
  | some (m, _) =>
    if m = n && s.pair.peerLanes.contains n then (setMove none ((s.useLane n true).useLane 4 false)).spareTakes else s

/-- TETHER_LANE_MOVE (R236): one step of the move of the lowest lane the insertion has still to move. -/
def execTetherLaneMove (lane : Nat) (s : State) : Out :=
  ifOk (Instr.wf (.tetherLaneMove lane))
    (match s.light.insertion with
     | some i =>
       if i.step = 4 ∧ s.ringsIn 3 = 0 ∧ s.lightHeld = false ∧
          (s.light.move.isSome ∨ (s.lanesToMove i).head? = some lane) then s.laneStep lane i.new
       else s
     | none => s)

/-- Ports of bus j retune: those not BUSY show MOVING until the next step, BUSY ones wait (R236). -/
def State.movePorts (s : State) (j : Nat) : State :=
  (busPorts j).foldl
    (fun s p =>
      if s.bit (F.SVC_PORT_CTRL.MOVING p) then s.fset (F.SVC_PORT_CTRL.MOVING p) 0
      else if s.portBehind p && !s.bit (F.SVC_PORT_CTRL.BUSY p) then
        ((List.range 4).foldl (fun s k => s.retuneRing (svcRing p k)) s).fset (F.SVC_PORT_CTRL.MOVING p) 1
      else s) s

/-- SERVICE_BUS_MOVE (R236): the bus admits lines of the new cartridge, and its ports retune. -/
def execServiceBusMove (bus : Nat) (s : State) : Out :=
  ifOk (Instr.wf (.serviceBusMove bus))
    (match s.light.insertion with
     | some i =>
       if i.step = 5 ∧ s.ringsIn 3 = 0 ∧ s.lightHeld = false then
         if s.busToMove i bus then
           let had := s.light.buses.length
           let s := { s with light := { s.light with buses := s.busAfter i bus } }
           ((s.movePorts bus).showPorts).lanesReduced i.old s.light.lanes.length had
         else s.movePorts bus
       else s
     | none => s)

/-- INSERTION_WITHOUT_SPARE (R237): the fading bay's consumers go to the other cartridge in SERVICE by the steps of R235. -/
def execInsertionWithoutSpare (bay : Nat) (s : State) : Out :=
  ifOk (Instr.wf (.insertionWithoutSpare bay))
    (if s.bayState bay = 4 ∧ (s.cart bay).retire = true ∧ s.baysIn 2 = [] ∧ s.light.insertion = none then
       match (s.baysIn 4).find? (fun b => decide (b ≠ bay)) with
       | some o => { s with light := { s.light with insertion := some { old := bay, new := o, step := 2 } } }
       | none => s
     else s)

/-! ## Host commands (R239, R289) -/

/-- CART_SWAP (R239, R289). -/
def execCartSwap (src : Src) (bay : Nat) (retire : Bool) (s : State) : Out :=
  .next (s.handle 0x71 src (fun s =>
    if 3 ≤ bay then s.refuse 0x71 src .range
    else if s.light.insertion.isSome then s.refuse 0x71 src .inProgress
    else match s.baysIn 2 with
      | [] => s.refuse 0x71 src .resource
      | n :: _ =>
        if s.bayState bay ≠ 4 then s.refuse 0x71 src .state
        else (s.modCart bay (fun c => { c with retire := retire || c.retire })).startInsertion bay n (some src)))

/-- LOSS, SLOPE and PREDICT of each line and beacon (R289). -/
def State.cartFade (s : State) (b : Nat) : List Byte :=
  let c := s.cart b
  let h := s.fget F.FADE_THRESH.HORIZON
  (List.range 18).flatMap (fun i =>
    let f := (fitOf (c.hourly.getD i []) h).getD (0, 0)
    le 2 (ofSigned 16 (satI 16 (c.loss i))) ++ le 2 (ofSigned 16 (satI 16 f.1)) ++ le 2 (ofSigned 16 (satI 16 f.2)))

/-- CART_QUERY (R239, R289). -/
def execCartQuery (src : Src) (bay : Nat) (s : State) : Out :=
  .next (s.handle 0x70 src (fun s =>
    if 3 ≤ bay then s.refuse 0x70 src .range
    else if (s.cart bay).store = [] then s.refuse 0x70 src .unknown
    else s.complete 0x70 src .done 0 0 [] (padTo 4096 (s.cart bay).store ++ padTo 128 (s.cartFade bay))))

/-! ## Hours (R220, R221) -/

/-- HOURS_UPDATE (R220): an hour of TB3 with 12 V; a history record at multiples of 500; the end of life at RATED_HOURS. A write
that fails is kept for its retry. -/
def execHoursUpdate (bay : Nat) (writeOk : Bool) (s : State) : Out :=
  ifOk (Instr.wf (.hoursUpdate bay writeOk))
    (if (s.cart bay).powered && (s.cart bay).store != [] then
       let h := leAt (s.cart bay).meant 0x100 4 + 1
       let record := le 4 h ++ (List.range 18).flatMap (fun i => le 2 (ofSigned 16 ((s.cart bay).means.getD i 0)))
       let writes := [(0x100, le 4 h)] ++ (if h % 500 = 0 then [(0x140 + 40 * (h / 500 % 80), record)] else [])
       let s :=
         if writeOk then writes.foldl (fun s w => s.storePut bay w.1 w.2) s
         else s.modCart bay (fun c => { c with retry := c.retry ++ writes })
       let s := s.fset (F.CART_STATUS.HOURS bay) (min 65535 h)
       if leAt (s.cart bay).store 0x44 4 ≤ h then
         let s := s.fset (F.CART_STATUS.END_OF_LIFE bay) 1
         if s.bayState bay = 4 ∧ (s.cart bay).endFlags / 8 % 2 = 0 then
           (if s.bit F.FADE_THRESH.AUTO then s.replaceBay bay 8
            else (s.modCart bay (fun c => { c with retire := true, endFlags := c.endFlags ||| 8 })).logEntry 4 6 .component .bay 6 bay)
         else s
       else s
     else s)

/-- STORE_WRITE_RETRY (R220): once a minute, and counted. -/
def execStoreWriteRetry (bay : Nat) (writeOk : Bool) (s : State) : Out :=
  ifOk (Instr.wf (.storeWriteRetry bay writeOk))
    (let ws := (s.cart bay).retry
     if ws = [] then s
     else
       let s := s.count 12 8
       if writeOk then
         (ws.foldl (fun s w => s.storePut bay w.1 w.2) s).modCart bay (fun c => { c with retry := [] })
       else s)

/-! ## Rings (R226–R229) -/

/-- A ring that cannot lock becomes FAILED; the lowest spare of its group takes its lane, or the lane is lost (R224, R341). -/
def State.failRing (s : State) (r : Nat) (code : Nat → Option Nat) : State :=
  let lane := s.ringFor r
  let s := (s.fset (F.RING_STATE.STATE r) 4).count 12 1
  let s := { s with light := { s.light with spared := s.light.spared.filter (fun p => decide (p.2 ≠ r)) } }
  match (spareRings r).find? s.spareFree with
  | some sp =>
    let s := { s with light := { s.light with spared := s.light.spared ++ [(lane, sp)] } }
    let s := (s.count 12 2).spareIn 6 .ring r 6 (decide (s.ringsLeft = 0))
    if isReceive r then s.fset (F.RING_STATE.STATE sp) 1
    else match code sp with
      | some c => s.lockRing sp c
      | none =>
        let d := s.draw 4096
        d.2.lockRing sp d.1
  | none =>
    let s := s.logEntry 6 6 .component .ring 1 r
    if 160 ≤ lane ∧ lane < 165 then s.laneDark (lane - 160) else s.showPorts

/-- The comb is lit (R232): on L0–L1, and on L2 while pair operation is enabled. -/
def State.combOn (s : State) : Bool :=
  decide (s.baysIn 4 ≠ [] ∨ s.baysIn 5 ≠ []) && (decide (s.rung ≤ 1) || (s.rung = 2 && s.pairEn))

/-- A ring takes part in a search: in use, and on L2 of the tether. -/
def State.searches (s : State) (r : Nat) : Bool := s.ringInUse r && (decide (s.rung ≤ 1) || decide (160 ≤ r))

/-- What a search found for a ring: none where it is not listed. -/
def foundOf (found : List (Nat × Option Nat)) (r : Nat) : Option (Option Nat) := (found.find? (fun p => p.1 = r)).map (·.2)

/-- RESONANCE_SEARCH (R226): every ring in use that is not locked sweeps its heater; SEARCH_DONE. -/
def execResonanceSearch (found : List (Nat × Option Nat)) (s : State) : Out :=
  .next (if s.combOn && !s.lightHeld then
      let warm := decide (s.ringsIn 2 ≠ 0)
      let due := (List.range 176).filter (fun r => s.searches r && decide (s.ringState r ≠ 2) && decide (s.ringState r ≠ 4))
      let s := ((List.range 176).filter isSpareRing).foldl
        (fun s r => if s.ringState r = 0 ∧ s.spareFree r then s.fset (F.RING_STATE.STATE r) 5 else s) s
      let s := due.foldl
        (fun s r =>
          match foundOf found r with
          | some (some c) => s.lockRing r c
          | some none => s.failRing r (fun sp => (foundOf found sp).getD none)
          | none => if isReceive r then s.fset (F.RING_STATE.STATE r) 1 else s.failRing r (fun sp => (foundOf found sp).getD none)) s
      ((s.fset F.RING_STATUS.SEARCH_DONE 1).fset F.RING_STATUS.WARM (if warm then s.fget F.RING_STATUS.WARM else 0)).showPorts
    else s)

/-- WARM_SEARCH (R227): each ring in use searches ±64 codes around its stored one; one that finds nothing goes on to the full
sweep. WARM is set. -/
def execWarmSearch (found : List (Nat × Option Nat)) (s : State) : Out :=
  .next (if s.combOn && !s.lightHeld then
      let due := (List.range 176).filter (fun r => s.searches r && decide (s.ringState r ≠ 2) && decide (s.ringState r ≠ 4))
      let near := fun (r c : Nat) => decide ((c : Int) - s.fget (F.RING_STATE.HEATER r) ≤ 64) &&
        decide ((s.fget (F.RING_STATE.HEATER r) : Int) - c ≤ 64)
      let s := due.foldl
        (fun s r =>
          match foundOf found r with
          | some (some c) => if near r c then s.lockRing r c else s.fset (F.RING_STATE.STATE r) 1
          | _ => s.fset (F.RING_STATE.STATE r) 1) s
      let open_ := due.any (fun r => !isReceive r && decide (s.ringState r = 1))
      ((s.fset F.RING_STATUS.WARM 1).fset F.RING_STATUS.SEARCH_DONE (!open_).toNat).showPorts
    else s)

/-- RING_RETRAINING (R229): a locked ring leaves LOCKED, its tether lane's stripe goes to the spare, and it searches around its
code; one the short search does not find stays RETRAINING for the sweep, and one the sweep does not find has FAILED. No ring
searches while pound V is reloaded (R15). -/
def execRingRetraining (ring : Nat) (found : Option Nat) (s : State) : Out :=
  ifOk (Instr.wf (.ringRetraining ring found))
    (let st := s.ringState ring
     let lane := s.ringFor ring
     let tether := decide (160 ≤ lane) && decide (lane < 165)
     let receive := decide (168 ≤ lane) && decide (lane < 173)
     if s.lightHeld then s
     else if st = 2 then
       let s := (s.fset (F.RING_STATE.STATE ring) 3).count 12 0
       let s := if tether then s.laneDark (lane - 160) else s
       let s := if receive then s.laneUnlocked (lane - 168) else s
       match found with | some c => s.lockRing ring c | none => s
     else if st = 3 then
       match found with | some c => s.lockRing ring c | none => s.failRing ring (fun _ => none)
     else s)

/-- One tick of a heater loop (R228): the law of R33 without the repetitive term, on the error of the synchronous detection. -/
def RingLoop.tick (x : RingLoop) (b : Bank) (err : Half) : RingLoop :=
  let p : SlotIn := { bank := { b with krep := 0 }, kp := b.kp, ki := b.ki, b := b.b, repLead := 0, ff := 0, dith := 0
                      target := sval err, m := 0 }
  let y := slotCompute p { i := x.i, d := x.d, ePrev := x.ePrev, u := x.u }
  { i := y.i, d := y.d, ePrev := y.ePrev, u := y.u }

/-- The law record of a ring's heater loop, where the image gives it (R228). -/
def State.ringBank (s : State) (ring : Nat) : Option Bank :=
  match s.image with
  | some i => (i.ringLaw.find? (fun p => decide (p.1 = ring))).map (fun p => Bank.ofFields (fun o => p.2.getD (o / 2) 0))
  | none => none

/-- The next state of a ring's loop: by its law record; where the image gives none, the values are not stated (log 3). -/
def State.ringLoop (s : State) (ring : Nat) (err : Half) : RingLoop × State :=
  match s.ringBank ring with
  | some b => ((spGet {} s.light.loops ring).tick b err, s)
  | none =>
    let a := s.draw (2 ^ 40)
    let d := a.2.draw (2 ^ 32)
    let u := d.2.draw (2 ^ 16)
    ({ i := BitVec.ofNat 40 a.1, d := BitVec.ofNat 32 d.1, ePrev := err, u := BitVec.ofNat 16 u.1 }, u.2)

/-- RING_LOCK_LOOP (R228): the heater loop of a locked ring takes its next state. Heater drives hold while pound V is reloaded
(R15). -/
def execRingLockLoop (ring : Nat) (err : Half) (s : State) : Out :=
  ifOk (Instr.wf (.ringLockLoop ring err))
    (if s.ringState ring = 2 ∧ s.lightHeld = false then
       let l := s.ringLoop ring err
       { l.2 with light := { l.2.light with loops := spSet {} l.2.light.loops ring l.1 } }
     else s)

/-- RECEIVE_RING_LOCK (R226): a receive ring that was SEARCHING locks to its far end's light. -/
def execReceiveRingLock (ring code : Nat) (s : State) : Out :=
  ifOk (Instr.wf (.receiveRingLock ring code))
    (if isReceive ring && decide (s.ringState ring = 1) && !s.lightHeld then s.lockRing ring code else s)

/-- DAC_RECALIBRATION (R230): a DAC_BITS change takes effect once the port is not BUSY, and its rings' tables are calibrated anew; not
while pound V is reloaded (R15). -/
def execDacRecalibration (port : Nat) (s : State) : Out :=
  ifOk (Instr.wf (.dacRecalibration port))
    (if s.bit (F.SVC_PORT_CTRL.DAC_PENDING port) && !s.bit (F.SVC_PORT_CTRL.BUSY port) && !s.lightHeld then
       let s := (List.range 4).foldl (fun s k => s.calibrate (s.ringOf (svcRing port k))) s
       (s.fset (F.SVC_PORT_CTRL.DAC_PENDING port) 0).count 12 10
     else s)

/-! ## Beacons (R231) -/

/-- TARGET of head h, 0.01 dBm. -/
def State.beaconTarget (s : State) (h : Nat) : Int :=
  10 * toSigned 8 (s.fget (if h = 0 then F.BEACON_CTRL.TARGET_A else F.BEACON_CTRL.TARGET_B))

/-- This module holds head h's windlass (R210). -/
def State.holds (s : State) (h : Nat) : Bool := s.bit (if h = 0 then F.KEEL_STATUS.WINDLASS_A else F.KEEL_STATUS.WINDLASS_B)

/-- BEACON_TRIM (R231): the holder trims its beacon by at most 0.25 dB toward TARGET of the sum; with light shared, a module that
does not hold keeps TARGET − 3.0 dB. -/
def execBeaconTrim (head : Nat) (sum : Int) (s : State) : Out :=
  ifOk (Instr.wf (.beaconTrim head sum))
    (if 3 ≤ s.fget (srcFld head) ∨ 2 < s.rung then s
     else
       let share := s.bit F.BEACON_CTRL.SHARE && s.pairEn
       let now := spGet 0 s.light.beacon head
       let level := if s.holds head then now + clampI (-25) 25 (s.beaconTarget head - sum)
         else if share then s.beaconTarget head - 300 else now
       let s := { s with light := { s.light with beacon := spSet 0 s.light.beacon head level } }
       s.lightBeacon (s.fget (srcFld head)) head ((s.holds head || share) && s.light.mated.contains head))

/-- BEACON_LOSS (R231). -/
def execBeaconLoss (head : Nat) (s : State) : Out :=
  ifOk (Instr.wf (.beaconLoss head)) (if s.fget (srcFld head) < 3 then s.beaconLost head else s)

/-! ## Tether lanes and connectors (R198, R373, R374) -/

/-- TETHER_LANE_FAILOVER (R198): the lane loses block lock here, or keeps it and shows errored blocks; the spare takes its stripe. -/
def execTetherLaneFailover (lane : Nat) (locked : Bool) (s : State) : Out :=
  ifOk (Instr.wf (.tetherLaneFailover lane locked))
    (if laneBit (s.fget F.TETHER_LANES.UP) lane then
       let used := s.laneUsed lane
       let before := s.fget F.TETHER_LANES.FAILOVERS
       let s := if locked then s.laneDown lane else s.laneUnlocked lane
       if used && s.fget F.TETHER_LANES.FAILOVERS = before then s.logEntry 4 3 .link .lane 0 lane else s
     else s)

/-- TETHER_BLOCK_LOCK (R236, R198): a lane gains block lock here or at the partner's end. -/
def execTetherBlockLock (lane : Nat) (partner : Bool) (s : State) : Out :=
  ifOk (Instr.wf (.tetherBlockLock lane partner))
    (if 3 ≤ s.rung then s
     else
       let s := if partner then
           { s with pair := { s.pair with peerLanes := s.pair.peerLanes.filter (fun m => decide (m ≠ lane)) ++ [lane] } }
         else s.fset F.TETHER_LANES.UP (withBit (s.fget F.TETHER_LANES.UP) lane true)
       let moving := match s.light.move with | some (m, _) => decide (m = lane) | none => false
       if moving then s else s.laneBack lane)

/-- TETHER_PAIR_SWITCH (R374): the receive bus takes the other fibre pair. -/
def execTetherPairSwitch (s : State) : Out :=
  .next (({ s with pair := { s.pair with fibre := 1 - s.pair.fibre } }).logEntry 4 3 .link .module 1 (1 - s.pair.fibre))

/-- CONNECTOR_UNMATED (R373): the connector's transmit light goes off. -/
def execConnectorUnmated (connector : Nat) (s : State) : Out :=
  ifOk (Instr.wf (.connectorUnmated connector))
    (if s.light.mated.contains connector then
       let s := { s with light := { s.light with mated := s.light.mated.filter (fun c => decide (c ≠ connector)) } }
       let s := s.emit (.light connector false)
       if connector < 2 then s.lightBeacon (s.fget (srcFld connector)) connector false
       else if connector = 2 then (List.range 5).foldl State.laneDark s
       else s
     else s)

/-- CONNECTOR_MATED (R373): the connector's light may be turned on again. -/
def execConnectorMated (connector : Nat) (s : State) : Out :=
  ifOk (Instr.wf (.connectorMated connector))
    (if s.light.mated.contains connector then s
     else
       let s := { s with light := { s.light with mated := s.light.mated ++ [connector] } }
       let s := s.emit (.light connector true)
       if connector < 2 ∧ s.rung ≤ 2 then s.lightBeacon (s.fget (srcFld connector)) connector true else s)


/-- CART_TRIP (R297): a bay's supply at its current limit switches off, and the bay is handled as a removal (R239). -/
def execCartTrip (bay : Nat) (s : State) : Out :=
  ifOk (Instr.wf (.cartTrip bay))
    (if (s.cart bay).powered then
       let s := s.fset F.PWR_RAILS.CART_TRIP (s.fget F.PWR_RAILS.CART_TRIP ||| 2 ^ bay)
       ((s.logEntry 5 1 .environment .bay 0 bay).count 13 11).loseBay bay
     else s)

end Sys2Proof.Machine
end

