-- ==== Sys2Proof/Machine/LockCmd.lean ====
section
/-!
DEFINITION. LOCK_SCHEDULE, LOCK_JOINT and LOCK_ABORT (R80–R88, R93), with supersedes and the moving of berth cycles (R247).
-/

namespace Sys2Proof.Machine

/-- T_OPEN of a command as a TB0 nanosecond count (R182); from the policy ring a seconds field of 0 makes it a lead (R178). -/
def State.openOf (s : State) (src : Src) (t : TimeField) : Nat :=
  if src.queue = 0xFFFF ∧ t.sec = 0 then (s.time.tb0.ns + t.ns) % 2 ^ 64 else (t.sec * 10 ^ 9 + t.ns) % 2 ^ 64

/-- The next instant from t on at which a window of width w meets no window of these cycles (R247). -/
def nextGap (l : List (Nat × Nat)) (w : Nat) : Nat → Nat → Nat
  | 0, t => t
  | n + 1, t =>
    match l.find? (fun p => meets t w p.1 p.2) with
    | some p => nextGap l w n (p.1 + p.2 + 1)
    | none => t

/-- Windows of the lock cycles, berth cycles apart. -/
def State.windows (s : State) : List (Nat × Nat) :=
  (s.lock.cycles.filter (fun c => !c.berth)).map (fun c => (c.tOpen, s.windowOf c))

/-- A berth cycle that has not opened moves to the next gap (R247). -/
def State.moveBerths (s : State) : State :=
  s.modCycle 0 (fun c =>
    if c.berth && c.opened.isNone then { c with tOpen := nextGap s.windows (s.windowOf c) 16 c.tOpen } else c)

/-- The notice and completion of an accepted ask, after it has reached the journal and the boot record (R81, R85, R90). -/
def State.accepted (s : State) (op : Nat) (src : Src) (c : Cycle) (lead type : Nat) : State :=
  let s := s.sendJournal (.schedule c.id c.rev c.planId c.tOpen c.single c.lateProof c.joint c.jointId c.epoch)
  let s := s.sendJournal (.counters s.lock.lastId s.lock.lastPlan)
  let s := s.sendNotice (s.noticeOf c type 0xFF 0 s.time.tb0.fine c.mirrors)
  (s.recordBoot).completeCopied op src 0 (le 4 c.id ++ le 4 c.rev ++ le 8 lead)

/-- A new cycle (R80). -/
def State.newCycle (s : State) (op : Nat) (src : Src) (q : Ask) (lead : Nat) : State :=
  let (new, rel) := s.askedChange q
  let id := nextId s.lock.lastId
  let c : Cycle :=
    { id := id, planId := q.planId, tOpen := q.tOpen, paths := new.map (fun p => { a := p.1, b := p.2 }), released := rel
      single := isSingle new rel, joint := q.joint, jointId := q.jointId, epoch := q.epoch, lateProof := q.lateProof }
  let s := { s with lock := { s.lock with cycles := s.lock.cycles ++ [c], lastId := id } }
  let s := (s.usePlan q.planId).submitSettle id
  let s := if q.joint then (s.fset F.LOCK_EPOCH.EPOCH q.epoch).sendJournal (.epoch q.epoch) else s
  ((s.moveBerths).count 2 0).accepted op src c lead 1

/-- A supersede before OPEN (R86): plan and T_open are replaced and the trajectory is computed again. -/
def State.superseded (s : State) (op : Nat) (src : Src) (q : Ask) (c : Cycle) (lead : Nat) : State :=
  let (new, rel) := s.askedChange q
  let d := { c with
    planId := q.planId, tOpen := q.tOpen, rev := (c.rev + 1) % 65536, superseded := true, lateProof := q.lateProof
    paths := new.map (fun p => { a := p.1, b := p.2 }), released := rel, lost := [], single := isSingle new rel
    computed := false, armed := false, twoWaves := false, wave2Tick := 0, fallback := false, limited := false
    bins := none, waves := [], planEnd := 0, t3Open := 0 }
  let s := (((s.dropBufs c.axes).dropSettle c.id).modCycle c.id (fun _ => d))
  let s := ((s.releasePlan c.planId).usePlan q.planId).submitSettle c.id
  (s.moveBerths).accepted op src d lead 2

/-- An axis whose final target a supersede or abort changes (R87, R88): it comes to rest and goes on under the limiter. -/
def redirectAxis (goal olEnd : Half) (x : Axis) : Axis :=
  let y := if x.moveDone && decide (x.ff = 0) then
      { x with moveFrom := x.target, olStart := x.u, limPos := sval x.target * 65536, limVel := 0, limAcc := 0 } else x
  { y with goal := goal, olEnd := olEnd, stop := true, limited := true, moveDone := false }

/-- Axes of a running cycle whose final target differs from the one they move to are redirected; a mirror already PARKED that gets a
path starts from park as at OPEN (R65, R87). -/
def State.redirect (s : State) (c : Cycle) : State :=
  let s := s.cycleRead c c.pairs
  c.axes.foldl (fun s a =>
    let g := s.finalOf c a
    let x := s.axisNow a
    if x.st = 6 then
      (if (c.pathOf a).isNone then s
       else (s.dropBufs [a]).modNow a (fun _ => redirectAxis g (s.olEndOf c a) { ((s.parkStart a x).setSt 1).setSrc 1 with ff := 0, moveDone := true }))
    else if x.goal = g then s
    else (s.dropBufs [a]).modNow a (redirectAxis g (s.olEndOf c a))) s

/-- A supersede in OPEN or SLEW (R87). -/
def State.supersededInSlew (s : State) (op : Nat) (src : Src) (q : Ask) (c : Cycle) (lead : Nat) : State :=
  let (new, rel) := s.askedChange q
  let ph : Phase := if c.slewTick = 0 then .opening else .slewing
  let d := { c with
    planId := q.planId, rev := (c.rev + 1) % 65536, superseded := true, limited := true, lost := [], lateProof := q.lateProof
    single := isSingle new rel
    paths := new.map (fun p => { a := p.1, b := p.2, phase := ph, entered := s.steer.tick }), released := rel }
  let s := s.modCycle c.id (fun _ => d)
  let s := (s.releasePlan c.planId).usePlan q.planId
  (s.redirect d).accepted op src d lead 2

/-- A refused ask (R81, R89, R93): LOCK_LAST shows it, and a joint one sends a REFUSED notice. -/
def State.refusedAsk (s : State) (op : Nat) (src : Src) (q : Ask) (reason : Nat) : State :=
  let s := (((s.fset F.LOCK_LAST.OUTCOME 4).fset F.LOCK_LAST.REASON reason).fset F.LOCK_LAST.FAILED 0).count 2 5
  let c : Cycle := { id := 0, planId := q.planId, tOpen := q.tOpen, joint := q.joint, jointId := q.jointId, epoch := q.epoch,
                     lateProof := q.lateProof }
  let s := if q.joint then s.sendNotice (s.noticeOf c 4 4 reason s.time.tb0.fine []) else s
  s.complete op src .refused reason

/-- LOCK_SCHEDULE and LOCK_JOINT (R81, R86, R87, R93): the entries a path needs are read, the checks are made in the order of the
table, and the ask is accepted or refused. -/
def State.ask (s : State) (op : Nat) (src : Src) (q : Ask) : State :=
  let s := if (s.planIndex q.planId).isSome then s.readPairs (s.askedChange q).1 else s
  let r := s.refusalOf q
  let lead := (q.tOpen + 2 ^ 64 - s.time.tb0.ns) % 2 ^ 64
  if r ≠ 0 then s.refusedAsk op src q r
  else match s.namedCycle q with
    | none => s.newCycle op src q lead
    | some c => if c.opened.isSome then s.supersededInSlew op src q c lead else s.superseded op src q c lead

/-- LOCK_SCHEDULE's own checks and effect. -/
def lockSchedule (src : Src) (planId : Nat) (supersede lateProof : Bool) (superId : Nat) (tOpen : TimeField) (s : State) : State :=
  s.ask 0x22 src { planId := planId, tOpen := s.openOf src tOpen, supersede := supersede, superId := superId, lateProof := lateProof }

/-- LOCK_SCHEDULE. -/
def execLockSchedule (src : Src) (planId : Nat) (supersede lateProof : Bool) (superId : Nat) (tOpen : TimeField) (s : State) : Out :=
  .next (s.handle 0x22 src (lockSchedule src planId supersede lateProof superId tOpen))

/-- LOCK_JOINT's own checks and effect. -/
def lockJoint (src : Src) (planId : Nat) (lateProof : Bool) (jointId epoch : Nat) (tOpen : TimeField) (hash : Nat) (s : State) : State :=
  s.ask 0x24 src { planId := planId, tOpen := (tOpen.sec * 10 ^ 9 + tOpen.ns) % 2 ^ 64, lateProof := lateProof, joint := true,
                   jointId := jointId, epoch := epoch, hash := hash }

/-- LOCK_JOINT. -/
def execLockJoint (src : Src) (planId : Nat) (lateProof : Bool) (jointId epoch : Nat) (tOpen : TimeField) (hash : Nat) (s : State) : Out :=
  .next (s.handle 0x24 src (lockJoint src planId lateProof jointId epoch tOpen hash))

/-- LOCK_ABORT in OPEN or SLEW (R88): every moving axis comes to rest and goes on to park. -/
def State.abortRunning (s : State) (c : Cycle) : State :=
  let s := (s.dropBufs c.axes).modCycle c.id (fun c => { c with aborting := true, limited := true })
  let s := c.axes.foldl (fun s a =>
    if (s.axisNow a).st = 6 then s
    else s.modNow a (redirectAxis (s.park (axisSide a)) (s.park (axisSide a)))) s
  (s.sendJournal (.abort c.id)).recordBoot

/-- A LOCK_ABORT is refused for a reason, which LOCK_LAST.REASON shows (R81). -/
def State.abortRefused (s : State) (src : Src) (reason : Nat) : State :=
  (s.fset F.LOCK_LAST.REASON reason).complete 0x23 src .refused reason

/-- LOCK_ABORT's own checks and effect (R81, R88): an ID that was issued and is no longer held is that of a closed cycle. A cycle already
being aborted in SLEW refuses a further LOCK_ABORT, and a supersede, with PHASE: the manual does not say (DESIGN CHOICE, log 67). -/
def lockAbort (src : Src) (id : Nat) (s : State) : State :=
  match s.lock.cycles.find? (fun c => decide (c.id = id) && !c.berth) with
  | none => s.abortRefused src (if 0 < id ∧ id ≤ s.lock.lastId then 0x0A else 0x0D)
  | some c =>
    if c.opened.isNone then (s.abortPending c 0x21).completeCopied 0x23 src
    else if c.leftSlew || c.aborting then s.abortRefused src 0x0A
    else (s.abortRunning c).completeCopied 0x23 src

/-- LOCK_ABORT. -/
def execLockAbort (src : Src) (cycleId : Nat) (s : State) : Out := .next (s.handle 0x23 src (lockAbort src cycleId))

end Sys2Proof.Machine
end

