-- ==== Sys2Proof/Machine/LockRun.lean ====
section
/-!
DEFINITION. The events of a lock cycle's run (R65–R79, R83, R90, R94, R99): each acts where its stated condition holds and
otherwise does nothing (log 7).
-/

namespace Sys2Proof.Machine

/-- NOTICE_REPEAT (R90). -/
def execNoticeRepeat (s : State) : Out := .next (noticeRepeat s)

/-! ## Trajectories (R64, R72–R75, R78) -/

/-- Paths whose entry has become unusable lose their circuit when the trajectory is computed (R64): their mirrors are released. -/
def State.releaseUnusable (s : State) (c : Cycle) : State :=
  let s := s.readPairs c.pairs
  let bad := c.pairs.filter (fun p => !s.pairUsable p.1 p.2)
  if bad = [] then s
  else s.modCycle c.id (fun c =>
    { c with paths := c.paths.filter (fun p => !bad.contains (p.a, p.b)), released := c.released ++ pairMirrors bad, lost := c.lost ++ bad })

/-- Store trajectory buffers; each is sent to the standby as it is written (R73, R96). -/
def State.putBufs (s : State) (l : List TrajBuf) : State :=
  l.foldl (fun s b => ({ s with lock := { s.lock with bufs := spSet [] s.lock.bufs b.axis [b] } }).sendJournal (.traj b)) s

/-- The settle-model tow of a cycle is running. -/
def State.settleRunning (s : State) (id : Nat) : Bool :=
  s.tows.tows.any (fun t => decide (t.settle = some id) && (match t.phase with | .running _ => true | _ => false))

/-- A mover of a trajectory computation (R75, R78): from its target to its final target, or for a PARKED axis from its park drive, with
the plan of the fallback profile. -/
def State.moverOf (s : State) (c : Cycle) (a : Nat) : Mover :=
  let x := s.axisNow a
  let start := if x.st = 6 then s.park (axisSide a) else x.target
  let drive := if x.st = 6 then s.park (axisSide a) else x.u
  let final := sval (s.finalOf c a)
  { axis := a, start := sval start, final := final, olStart := sval drive, olEnd := sval (s.olEndOf c a), park := (c.pathOf a).isNone
    plan := profile (s.bounds (axisSide a)) final 128 (Motion.rest (sval start)) }

/-- Items of R78: the changing paths and the released mirrors; a released mirror has no port on the other side. -/
def State.waveItems (s : State) (c : Cycle) : List WaveItem :=
  c.paths.map (fun p => { portA := p.a, portB := p.b, movers := (pathAxes p.a p.b).map (s.moverOf c) }) ++
  c.released.map (fun m =>
    { portA := if m < 1160 then m else 1160, portB := if m < 1160 then 1160 else m - 1160, movers := (mirrorAxes m).map (s.moverOf c) })

/-- The bins in force are those of the cycle from now on (R61). -/
def State.takeBins (s : State) (id : Nat) : State := s.modCycle id (fun c => { c with bins := some (s.bin 0, s.bin 1) })

/-- TRAJECTORY_BUFFERS_WRITTEN (R72): the tow of a cycle that has not opened ends; ok says that it ended without error. A tow whose
buffers break a rule that binds any trajectory computation has ended in error (R72, R74; DESIGN CHOICE, log 67). -/
def buffersWritten (id : Nat) (bufs : List TrajBuf) (ok : Bool) (scaled : Option Nat) (s : State) : State :=
  match s.cycle id with
  | none => s
  | some c0 =>
    if c0.opened.isSome || c0.fallback || !s.settleRunning id then s
    else
      let s := s.dropSettle id
      if !ok then s
      else
        let s := (s.releaseUnusable c0).takeBins id
        let c := match s.cycle id with | some c => c | none => c0
        let mine := bufs.filter (fun b => c.axes.contains b.axis)
        if !towWaves (s.headPlan 0) (s.headPlan 1) (s.waveItems c) mine scaled.isSome then s
        else (s.putBufs mine).modCycle id (fun c =>
          { c with computed := true, twoWaves := mine.any (fun b => b.wave2), wave2Tick := firstOf2 mine
                   limited := c.limited || scaled.isSome
                   planEnd := mine.foldl (fun n b => max n (b.start + b.samples.length)) 0 - scaled.getD 0 })

/-- TRAJECTORY_BUFFERS_WRITTEN. -/
def execTrajectoryBuffersWritten (cycleId : Nat) (bufs : List TrajBuf) (ok : Bool) (scaled : Option Nat) (s : State) : Out :=
  .next (buffersWritten cycleId bufs ok scaled s)

/-- The fallback profile replaces the tow's trajectories (R74, R75). -/
def State.useFallback (s : State) (c0 : Cycle) : State :=
  let s := ((s.dropSettle c0.id).releaseUnusable c0).takeBins c0.id
  let c := match s.cycle c0.id with | some c => c | none => c0
  let f := fallbackPlan (s.headPlan 0) (s.headPlan 1) (s.waveItems c) s.map.settle
  ((s.putBufs f.bufs).modCycle c.id (fun c =>
    { c with computed := true, fallback := true, twoWaves := f.two, wave2Tick := f.start2, limited := c.limited || f.limited
             waves := f.waves, planEnd := f.planEnd })).count 2 6

/-- TOW_DEADLINE (R74): at T_open − 110 µs. -/
def towDeadline (id : Nat) (s : State) : State :=
  match s.cycle id with
  | none => s
  | some c =>
    if c.opened.isNone && s.within 110000 c.tOpen && !c.armed && !c.fallback && (!c.computed || s.bit F.LOCK_LIMITS.FORCE_FALLBACK) then
      s.useFallback c
    else s

/-- TOW_DEADLINE. -/
def execTowDeadline (cycleId : Nat) (s : State) : Out := .next (towDeadline cycleId s)

/-- GANG_ARM (R69): at T_open − 50 µs the reaches are armed. -/
def gangArm (id : Nat) (s : State) : State :=
  match s.cycle id with
  | none => s
  | some c =>
    if c.opened.isNone && s.within 50000 c.tOpen && c.computed then s.modCycle id (fun c => { c with armed := true }) else s

/-- GANG_ARM. -/
def execGangArm (cycleId : Nat) (s : State) : Out := .next (gangArm cycleId s)

/-- JOINT_RECHECK (R94): at T_open − 100 µs; TIME_LOST where the time check fails. -/
def jointRecheck (id : Nat) (s : State) : State :=
  match s.cycle id with
  | none => s
  | some c => if c.joint && c.opened.isNone && s.within 100000 c.tOpen && !s.jointTime then s.abortPending c 0x22 else s

/-- JOINT_RECHECK. -/
def execJointRecheck (cycleId : Nat) (s : State) : Out := .next (jointRecheck cycleId s)

/-! ## Opening (R65, R83, R94) -/

/-- The present tick is the first at or after T_open (R65): TB0 had reached it at this tick and not at the tick before. -/
def State.firstTick (s : State) (tOpen : Nat) : Bool := timeReached s.time.tb0Tick tOpen && !timeReached s.time.tb0Prev tOpen

/-- The previous cycle holds the next one back: it runs, or has closed on this very tick (R83). -/
def State.heldBack (s : State) : Bool := s.running.isSome || s.lock.closedNow

/-- A berth cycle needs a service port whose late proof runs (R99). -/
def State.berthWaits (s : State) (c : Cycle) : Bool :=
  c.berth && c.mirrors.any (fun m =>
    decide (1152 ≤ m % 1160) && s.bit (F.SVC_PORT_CTRL.BUSY ((if m < 1160 then 0 else 8) + (m % 1160 - 1152))))

/-- A berth cycle that must wait is placed in the next gap (R99, R247). -/
def State.delayBerth (s : State) (c : Cycle) : State :=
  s.modCycle c.id (fun c =>
    { c with tOpen := nextGap s.windows (s.windowOf c) 16 ((s.time.tb0.ns + 500000) % 2 ^ 64), t3Open := 0, armed := false })

/-- OPEN_TICK (R65): not on the tick on which the previous cycle closes (R83); a berth cycle waits for a late proof (R99). -/
def openTick (id : Nat) (s : State) : State :=
  match s.cycle id with
  | none => s
  | some c =>
    if s.active && c.opened.isNone && c.armed && !s.heldBack && s.firstTick c.tOpen then
      (if s.berthWaits c then s.delayBerth c else s.openCycle id false)
    else s

/-- OPEN_TICK. -/
def execOpenTick (cycleId : Nat) (s : State) : Out := .next (openTick cycleId s)

/-- LATE_OPEN (R83, R94): a cycle the previous one has held past its OPEN tick opens on the first tick after that close, within 1.0 ms
of T_open; otherwise, and if it is joint, it ends ABORTED with LATE. -/
def lateOpen (id : Nat) (s : State) : State :=
  match s.cycle id with
  | none => s
  | some c =>
    let past := s.active && c.opened.isNone && timeReached s.time.tb0Tick c.tOpen
    let inTime := decide (s.tickNs ≤ s.t3Of c + 1000000)
    if !past then s
    else if s.heldBack then (if c.joint || !inTime then s.abortPending c 0x20 else s)
    else if s.firstTick c.tOpen then s
    else if c.joint || !inTime then s.abortPending c 0x20
    else if s.berthWaits c then s.delayBerth c
    else if c.armed then s.openCycle id true
    else s

/-- LATE_OPEN. -/
def execLateOpen (cycleId : Nat) (s : State) : Out := .next (lateOpen cycleId s)

/-! ## SLEW (R65, R66, R78) -/

/-- SLEW_START (R65): from the tick after the OPEN tick each moving axis takes its trajectory. -/
def slewStart (id : Nat) (s : State) : State :=
  match s.cycle id with
  | none => s
  | some c =>
    if c.opened.isSome ∧ c.slewTick = 0 then
      let s := s.modCycle id (fun c =>
        { c with slewTick := s.steer.tick + 1, paths := c.paths.map (fun p => { p with phase := .slewing, entered := s.steer.tick }) })
      c.paths.foldl (fun s p => s.sendJournal (.pathPhase p.a 1)) s
    else s

/-- SLEW_START. -/
def execSlewStart (cycleId : Nat) (s : State) : Out := .next (slewStart cycleId s)

/-- WAVE2_START (R78): at its computed tick. -/
def wave2Begin (id : Nat) (s : State) : State :=
  match s.cycle id with
  | none => s
  | some c =>
    if c.slewTick ≠ 0 ∧ c.twoWaves ∧ c.slewTick + c.wave2Tick ≤ s.steer.tick + 1 then
      s.modCycle id (fun c => { c with wave2 := true })
    else s

/-- WAVE2_START. -/
def execWave2Start (cycleId : Nat) (s : State) : Out := .next (wave2Begin cycleId s)

/-- The planned change of drive moves into the integrator and ff becomes 0 (R66). -/
def transferFf (ilim : Int) (x : Axis) : Axis :=
  let v := x.i.toInt + sval x.ff * 32768
  let c := clampI (-(ilim * 32768)) (ilim * 32768) v
  ({ x with i := BitVec.ofInt 40 c, ff := 0 }).flag (F.AXIS_FLAGS.INT_SAT 0 0) (decide (c ≠ v))

/-- An axis rests on its park drive (R65): PARKED, its loop no longer run. -/
def parkAxis (park : Half) (x : Axis) : Axis :=
  { x.setSt 6 with u := park, target := park, heldDrive := park, ff := 0, limPos := sval park * 65536, limVel := 0, limAcc := 0
                   stop := false, rejoin := false, lowRun := 0, highRun := 0, winOk := false, winLen := 0 }


/-- A path of the running cycle enters a phase; its counts begin with the next tick. -/
def State.enterPhase (s : State) (id a : Nat) (ph : Phase) (code : Nat) : State :=
  (s.modCycle id (fun c =>
    { c with paths := c.paths.map (fun p => if p.a = a then { p with phase := ph, run := 0, since := 0, entered := s.steer.tick } else p) })).sendJournal
      (.pathPhase a code)

/-- Every axis of a path has ended its SLEW: its move is done and its ff has moved into the integrator. -/
def State.slewDone (s : State) (p : CPath) : Bool :=
  (pathAxes p.a p.b).all (fun a => (s.axisNow a).moveDone && decide ((s.axisNow a).ff = 0))

/-- SLEW_END (R66): after an axis's last sample or its arrival; the path goes on to CAPTURE once all four axes are there, and an
axis on its way to park shows PARKED. -/
def slewEnd (a : Nat) (s : State) : State :=
  match s.running with
  | none => s
  | some c =>
    let x := s.axisNow a
    if !s.inSlew a || !x.moveDone || c.slewTick = 0 then s
    else
      let s := if x.limited then s.modCycle c.id (fun d => { d with limited := true }) else s
      match c.pathOf a with
      | some p =>
        if c.aborting then s.modNow a (parkAxis (s.park (axisSide a)))
        else
          let s := s.modNow a (transferFf (s.axisBank a x).ilim)
          if s.slewDone p then s.enterPhase c.id p.a .capturing 2 else s
      | none => if c.released.contains (mirrorOf a) then s.modNow a (parkAxis (s.park (axisSide a))) else s

/-- SLEW_END. -/
def execSlewEnd (axis : Nat) (s : State) : Out := ifOk (okAxis axis) (slewEnd axis s)

/-! ## CAPTURE and PROVE (R70, R71) -/

/-- The path of an A mirror in the running cycle. -/
def State.runningPath (s : State) (a : Nat) : Option (Cycle × CPath) :=
  match s.running with
  | some c => (c.paths.find? (fun p => p.a = a)).map (fun p => (c, p))
  | none => none

/-- CAPTURE_RUN in force: 0 acts as 1 (R100). -/
def State.captureRun (s : State) : Nat := max 1 (s.fget F.LOCK_CAPTURE.CAPTURE_RUN)

/-- PROVE_HOLD in force: 0 acts as 1 (R100). -/
def State.proveHold (s : State) : Nat := max 1 (s.fget F.LOCK_PROVE.PROVE_HOLD)

/-- CAPTURED (R70). -/
def capture (a : Nat) (s : State) : State :=
  match s.runningPath a with
  | some (c, p) =>
    if p.phase = .capturing ∧ s.captureRun ≤ (s.pathCount c p).run then s.enterPhase c.id a .proving 3 else s
  | none => s

/-- CAPTURED. -/
def execCaptured (a : Nat) (s : State) : Out := ifOk (okMirrorA a) (capture a s)

/-- CAPTURE_MAX_EXPIRY (R70): a path not captured within CAPTURE_MAX samples fails at once. -/
def captureExpiry (a : Nat) (s : State) : State :=
  match s.runningPath a with
  | some (c, p) =>
    let q := s.pathCount c p
    if p.phase = .capturing ∧ q.run < s.captureRun ∧ s.fget F.LOCK_CAPTURE.CAPTURE_MAX ≤ q.since then s.failPath c.id p else s
  | none => s

/-- CAPTURE_MAX_EXPIRY. -/
def execCaptureMaxExpiry (a : Nat) (s : State) : Out := ifOk (okMirrorA a) (captureExpiry a s)

/-- PROVED (R71). -/
def prove (a : Nat) (s : State) : State :=
  let s := s.readProofs
  match s.runningPath a with
  | some (c, p) =>
    if p.phase = .proving ∧ s.proveHold ≤ (s.pathCount c p).run then s.enterPhase c.id a .proved 4 else s
  | none => s

/-- PROVED. -/
def execProved (a : Nat) (s : State) : Out := ifOk (okMirrorA a) (prove a s)

/-! ## The end (R65, R69, R71, R76, R99) -/

/-- Every path of a running cycle has been proved or has failed; an aborted cycle's mirrors are all PARKED (R71, R88). -/
def State.settled (s : State) (c : Cycle) : Bool :=
  if c.aborting then c.mirrors.all s.parked else c.paths.all (fun p => decide (p.phase = .proved) || decide (p.phase = .failed))

/-- CLOSE_TICK (R71). -/
def closeTick (id : Nat) (s : State) : State :=
  match s.cycle id with
  | some c => if c.opened.isSome && decide (c.slewTick ≠ 0) && s.settled c then s.closeCycle id else s
  | none => s

/-- CLOSE_TICK. -/
def execCloseTick (cycleId : Nat) (s : State) : Out := .next (closeTick cycleId s)

/-- CYCLE_DEADLINE (R69): the present tick is the last at or before the deadline. -/
def cycleDeadline (id : Nat) (s : State) : State :=
  match s.cycle id with
  | some c =>
    if c.opened.isSome && decide (c.deadlineBase + s.deadlineOf c < s.tickNs + s.periodNs) then s.closeCycle id else s
  | none => s

/-- CYCLE_DEADLINE. -/
def execCycleDeadline (cycleId : Nat) (s : State) : Out := .next (cycleDeadline cycleId s)

/-- PARK_REACHED (R65): a released mirror that moved on after CLOSE shows PARKED with source HOLD. -/
def parkReached (m : Nat) (s : State) : State :=
  if s.lock.parking.contains m && (mirrorAxes m).all (fun a => (s.axisNow a).moveDone || decide ((s.axisNow a).st = 6)) then
    let s := (mirrorAxes m).foldl (fun s a => s.modNow a (fun x => (parkAxis (s.park (axisSide a)) x).setSrc 0)) s
    { s with lock := { s.lock with parking := s.lock.parking.erase m } }
  else s

/-- PARK_REACHED. -/
def execParkReached (mirror : Nat) (s : State) : Out := ifOk (okMirror mirror) (parkReached mirror s)

/-- One late proof ends (R99): its event, with at most as many errored bits as were sent, and LOOP_OFF to a FAR end. -/
def State.endProof (s : State) (q : ProofRun) (errored : Nat) : State :=
  let b := peerOf s.standing q.a
  let n := s.proofBits q
  let e := min n errored
  let s : State := match farPort q.a b with | some p => s.sendIdent 5 (s.port p).nonce p | none => s
  let s := s.freeProof q
  if s.lightHeld then s.proofEvent q.cycle q.a b 1 0 0
  else ((s.proofEvent q.cycle q.a b 0 e n).count 2 11).count 2 12 e

/-- LATE_PROOF (R99): the proofs of a cycle whose 10 ms are over end. -/
def lateProof (id : Nat) (errored : List (Nat × Nat)) (s : State) : State :=
  let due := s.lock.proofs.filter (fun q => decide (q.cycle = id) && decide (q.since + 5000000 ≤ s.time.tb3))
  due.foldl (fun s q => s.endProof q (match errored.find? (fun e => e.1 = q.a) with | some e => e.2 | none => 0)) s

/-- LATE_PROOF. -/
def execLateProof (cycleId : Nat) (errored : List (Nat × Nat)) (s : State) : Out := .next (lateProof cycleId errored s)

/-- The running update tow of the settle model. -/
def State.learnTow (s : State) : Option Tow :=
  s.tows.tows.find? (fun t => decide (t.settle = some learnTag) && (match t.phase with | .running _ => true | _ => false))

/-- SETTLE_MODEL_UPDATE (R76): the update tow of the oldest cycle that waits completes; with LEARN clear the parameters do not change. -/
def settleUpdate (s : State) : State :=
  match s.learnTow with
  | some w =>
    let v := if s.bit F.LOCK_LIMITS.LEARN then (s.map.settle + 1) % 65536 else s.map.settle
    let s := s.freeUnits (fun t => decide (t = w))
    let s := { s with tows := { s.tows with tows := s.tows.tows.erase w }
                      map := { s.map with settle := v, learnQueue := s.map.learnQueue.drop 1 } }
    (s.sendJournal (.settle v)).count 2 13
  | none => s

/-- SETTLE_MODEL_UPDATE. -/
def execSettleModelUpdate (s : State) : Out := .next (settleUpdate s)

end Sys2Proof.Machine
end

