-- ==== Sys2Proof/Machine/TimeCmd.lean ====
section
/-!
DEFINITION. The time bases as commands and events change them (R184–R196): the servo, first lock, jumps, holdover, the pulse
connectors, PTP messages, and the TIME registers a read or write acts on.
-/

namespace Sys2Proof.Machine

/-! ## Bases by number -/

/-- A steered base 0–2. -/
def State.base (s : State) (n : Nat) : TimeBase := match n with | 0 => s.time.tb0 | 1 => s.time.tb1 | _ => s.time.tb2

/-- Change a steered base. -/
def State.modBase (s : State) (n : Nat) (f : TimeBase → TimeBase) : State :=
  match n with
  | 0 => { s with time := { s.time with tb0 := f s.time.tb0 } }
  | 1 => { s with time := { s.time with tb1 := f s.time.tb1 } }
  | _ => { s with time := { s.time with tb2 := f s.time.tb2 } }

/-- TB_FLAGS fields of TB0 and TB1 (R195). -/
def stateFld (n : Nat) : Fld := if n = 0 then F.TB_FLAGS.STATE0 else F.TB_FLAGS.STATE1
def jumpFld (n : Nat) : Fld := if n = 0 then F.TB_FLAGS.JUMP0 else F.TB_FLAGS.JUMP1
def slewFld (n : Nat) : Fld := if n = 0 then F.TB_FLAGS.SLEW0 else F.TB_FLAGS.SLEW1
def steppedFld (n : Nat) : Fld := if n = 0 then F.TB_FLAGS.STEPPED0 else F.TB_FLAGS.STEPPED1

/-- Offset S in 2^−16 ns (log 9). -/
def TimeBase.slewUnits (b : TimeBase) : Int := b.slew / 10 ^ 12

/-- TB_OFFSET[n] (R195): the refused o while JUMP is set, S while SLEW is set, otherwise the last accepted o; for TB2 the offset
to the partner, 0 when ACTIVE. -/
def State.tbOffset (s : State) (n : Nat) : Int :=
  if n = 2 then (if s.active then 0 else s.time.tb2.offset)
  else if s.bit (jumpFld n) then (s.base n).offset
  else if s.bit (slewFld n) then (s.base n).slewUnits
  else (s.base n).offset

/-- A time event (R290): kind 0 JUMP, 1 STATE, 2 SLEW_DONE, 3 PPS_LOST. -/
def State.timeEvent (s : State) (n kind : Nat) : State :=
  s.event 7 (le 1 n ++ le 1 kind ++ le 1 (s.fget (stateFld n)) ++ le 1 0 ++ le 8 (ofSigned 64 (s.tbOffset n)))

/-- A base's servo state changes (R188): a state event, and vector 1 (R261). -/
def State.setTbState (s : State) (n st : Nat) : State :=
  if s.fget (stateFld n) = st then s
  else
    let s := (s.fset (stateFld n) st).msix 1
    let s := if st = 3 then (s.modBase n (fun b => { b with holdSince := s.time.tb3 })).count 4 14 else s
    let s := s.modBase n (fun b => { b with overRun := 0, okRun := 0, fineRun := 0 })
    s.timeEvent n 1

/-- A base holds over, its servo part frozen and an outstanding slew going on (R188, R193). -/
def State.holdBase (s : State) (n : Nat) : State :=
  if s.fget (stateFld n) = 1 ∨ s.fget (stateFld n) = 2 then s.setTbState n 3 else s

/-- TB0 and TB1 hold over: entry to L3 or deeper (R193). -/
def State.holdTime (s : State) : State := (s.holdBase 0).holdBase 1

/-- LIMIT in force, ns: values below 100 act as 100 (R195). -/
def State.jumpLimit (s : State) : Nat := max 100 (s.fget F.TB_JUMP_LIMIT.LIMIT)

/-- o′ of R188 in 2^−16 ns × 10^−12: the part of o beyond the outstanding slew. -/
def TimeBase.beyond (b : TimeBase) (o : Int) : Int := o * 10 ^ 12 - b.slew

/-- The servo on an accepted sample (R189): t the interval in ns. -/
def TimeBase.servo (b : TimeBase) (kp ki : Nat) (o : Int) (t : Nat) : TimeBase :=
  let q := b.beyond o / (65536 * (t : Int))
  let f := b.f + shr ki q
  { b with f := f, rate := f + shr kp q }

/-- The last n of a list. -/
def lastN {α : Type} (n : Nat) (l : List α) : List α := l.drop (l.length - n)

/-- Four samples that agree within 1 µs (R188). -/
def agreeing (l : List Int) : Bool :=
  match l with
  | [] => false
  | o :: _ => decide (l.length = 4) && decide (l.foldl max o - l.foldl min o ≤ 65536000)

/-- A sample within LIMIT on a base that is ACQUIRING, LOCKED or in HOLDOVER (R188). -/
def State.goodSample (s : State) (n : Nat) (o : Int) (t : Nat) : State :=
  let st := s.fget (stateFld n)
  let fine := decide (((s.base n).beyond o).natAbs ≤ 100 * fineNs)
  let kp := s.fget (F.TB_CTRL.KP_SHIFT n)
  let ki := s.fget (F.TB_CTRL.KI_SHIFT n)
  let jump := s.bit (jumpFld n)
  let s := s.modBase n (fun b =>
    { b with last := o, overRun := 0, okRun := b.okRun + 1, fineRun := if fine then b.fineRun + 1 else 0
             offset := if jump then b.offset else o, lastGood := s.time.tb3 })
  if st = 3 then
    if 4 ≤ (s.base n).okRun then
      let s := (s.fset (jumpFld n) 0).modBase n (fun b => { b.servo kp ki o t with offset := o })
      s.setTbState n 2
    else s
  else
    let s := s.modBase n (fun b => { b.servo kp ki o t with offset := o })
    if st = 1 ∧ 8 ≤ (s.base n).fineRun then s.setTbState n 2 else s

/-- A sample beyond LIMIT is never applied (R188). -/
def State.overSample (s : State) (n : Nat) (o : Int) : State :=
  let jump := s.bit (jumpFld n)
  (s.modBase n (fun b => { b with last := o, overRun := b.overRun + 1, okRun := 0, fineRun := 0
                                  offset := if jump then o else b.offset })).count 4 3

/-- An offset sample reaches the servo (R188). -/
def State.takeSample (s : State) (n : Nat) (o : Int) (t : Nat) : State :=
  if s.fget (stateFld n) = 0 then
    s.modBase n (fun b => { b with last := o, offset := o, firsts := lastN 4 (b.firsts ++ [o]), lastGood := s.time.tb3 })
  else if s.jumpLimit * fineNs < ((s.base n).beyond o).natAbs then s.overSample n o
  else s.goodSample n o t

/-! Receive stamps of event messages (R19, R186). -/

/-- The key of a stamp: port, base, kind. -/
def rxKey (port base : Nat) (kind : PtpKind) : Nat :=
  8 * port + 4 * base + (match kind with | .delayReq => 1 | .pdelayReq => 2 | .pdelayResp => 3 | _ => 0)

/-- The receive stamp of the last event message of a kind. -/
def State.rxStamp (s : State) (port base : Nat) (kind : PtpKind) : Option Nat := spGet none s.time.rx (rxKey port base kind)

/-- PTP_ASYM of a port as delayAsymmetry, in 2^−16 ns (R186, R195). -/
def State.asymmetry (s : State) (port : Nat) : Int := toSigned 32 (s.fget (F.PTP_ASYM.ASYM port)) * 65536 / 1000

/-- The offset sample of a Sync (R186, R188): the master's time less the base's at its arrival, by the path delay and the
delayAsymmetry; none where no stamp of it is held. -/
def State.syncOffset (s : State) (base : Nat) (x : SyncIn) : Option Int :=
  (s.rxStamp x.port base .sync).map (fun t => (x.master : Int) + x.delay * 65536 + s.asymmetry x.port - t)

/-- SYNC_SAMPLE (R188): a sample of a base, unless its path delay exceeds the least of the last 16 by more than 200 ns. -/
def execSyncSample (base : Nat) (sync : SyncIn) (s : State) : Out :=
  ifOk (Instr.wf (.syncSample base sync))
    (match s.syncOffset base sync with
     | none => s
     | some offset =>
       if !s.bit (F.TB_CTRL.EN base) || decide (3 ≤ s.rung) then s
       else
         let past := (s.base base).delays
         let s := (s.count 4 base).modBase base (fun b => { b with delays := lastN 16 (b.delays ++ [sync.delay]) })
         match past with
         | [] => s.takeSample base offset sync.interval
         | d :: ds => if ds.foldl min d + 200 < sync.delay then s.count 4 2 else s.takeSample base offset sync.interval)

/-- TIME_JUMP (R188): 4 consecutive samples beyond LIMIT. -/
def execTimeJump (base : Nat) (s : State) : Out :=
  ifOk (Instr.wf (.timeJump base))
    (if (s.base base).overRun < 4 ∨ s.fget (stateFld base) = 0 || s.bit (jumpFld base) then s
     else
       let o := (s.base base).last
       let s := (s.fset (jumpFld base) 1).fset (slewFld base) 0
       let s := (s.modBase base (fun b => { b with slew := 0, offset := o })).count 4 4
       let s := (s.setTbState base 3).msix 1
       let s := s.modBase base (fun b => { b with overRun := 0 })
       (s.timeEvent base 0).logEntry 4 2 .environment .module 0 base)

/-- FIRST_STEP (R188): 4 consecutive samples of a FREE base agree; it steps by their mean. -/
def execFirstStep (base : Nat) (s : State) : Out :=
  ifOk (Instr.wf (.firstStep base))
    (if s.fget (stateFld base) = 0 ∧ agreeing (s.base base).firsts then
       let sum := (s.base base).firsts.foldl (· + ·) 0
       let s := s.modBase base (fun b => { b with t := ((b.t : Int) + sum * 10 ^ 12 / 4).toNat, firsts := [] })
       (s.fset (steppedFld base) 1).setTbState base 1
     else s)

/-- portState of a port in the domain of a base. -/
def portStateFld (p n : Nat) : Fld :=
  match p, n with
  | 0, 0 => F.ETH_STATUS.PTP0_TB0
  | 0, _ => F.ETH_STATUS.PTP0_TB1
  | _, 0 => F.ETH_STATUS.PTP1_TB0
  | _, _ => F.ETH_STATUS.PTP1_TB1

/-- The port that times a base's master: the one that is SLAVE or UNCALIBRATED in its domain, else the lowest it uses (log 71). -/
def State.slavePort (s : State) (n : Nat) : Nat :=
  match [0, 1].find? (fun p => decide (8 ≤ s.fget (portStateFld p n))) with
  | some p => p
  | none => if s.fget (F.TB_CTRL.PORTS n) = 2 then 1 else 0

/-- An interval setting in force: signed, values outside its range act as the nearest in it (R184, R195, log 71). -/
def logInterval (lo hi : Int) (v : Nat) : Int := clampI lo hi (toSigned 4 v)

/-- ANNOUNCE_TO announce intervals of a port, in counts of TB3 (R188, R195). -/
def State.announceWait (s : State) (p : Nat) : Nat :=
  max 2 (s.fget (F.PTP_PORT_CTRL.ANNOUNCE_TO p)) * 62500000 * 2 ^ (logInterval (-3) 3 (s.fget (F.PTP_PORT_CTRL.LOG_ANNOUNCE p)) + 3).toNat

/-- ANNOUNCE_TIMEOUT (R188): no accepted sample for ANNOUNCE_TO announce intervals, or the master is lost. -/
def execAnnounceTimeout (base : Nat) (masterLost : Bool) (s : State) : Out :=
  ifOk (Instr.wf (.announceTimeout base masterLost))
    (if (s.fget (stateFld base) = 1 ∨ s.fget (stateFld base) = 2) ∧
        (masterLost || decide (s.announceWait (s.slavePort base) ≤ s.time.tb3 - (s.base base).lastGood)) then
       (if masterLost then s else s.count 4 6).holdBase base
     else s)

/-- SLEW_DONE (R189): S has reached 0. -/
def execSlewDone (base : Nat) (s : State) : Out :=
  ifOk (Instr.wf (.slewDone base))
    (if s.bit (slewFld base) && decide ((s.base base).slew = 0) then (s.fset (slewFld base) 0).timeEvent base 2 else s)

/-- TB_CTRL[n].EN is cleared (R188): HOLDOVER, or FREE if never stepped. -/
def State.servoOff (s : State) (n : Nat) : State :=
  if n ≤ 1 then (if s.bit (steppedFld n) then s.holdBase n else s) else s

/-! ## TIME_ACCEPT_JUMP and TIME_SET_GM (R188, R190, R191) -/

/-- TIME_ACCEPT_JUMP: the refused offset becomes the outstanding slew. -/
def execTimeAcceptJump (src : Src) (base : Nat) (s : State) : Out :=
  .next (s.handle 0x80 src (fun s =>
    if 1 < base then s.refuse 0x80 src .range
    else if !s.bit (jumpFld base) then s.refuse 0x80 src .state
    else
      let o := (s.base base).last
      let s := (s.fset (jumpFld base) 0).fset (slewFld base) (if o = 0 then 0 else 1)
      let s := (s.modBase base (fun b => { b with slew := o * 10 ^ 12, offset := o })).count 4 5
      let s := s.setTbState base 2
      s.complete 0x80 src .done 0 0 (le 8 (ofSigned 64 o))))

/-- TIME_SET_GM: the grandmaster's parameters; the next PPS_IN edge marks SECONDS. -/
def execTimeSetGm (src : Src) (seconds utcOffset tsFlags clockClass clockAccuracy priority1 priority2 : Nat) (s : State) : Out :=
  .next (s.handle 0x81 src (fun s =>
    if s.fget (F.TB_CTRL.MODE 0) ≠ 2 then s.refuse 0x81 src .state
    else
      let s := { s with time := { s.time with
          gm := some ⟨seconds, utcOffset, tsFlags, clockClass, clockAccuracy, priority1, priority2⟩
          lastPps := if s.time.gm.isSome then s.time.lastPps else s.time.tb3 } }
      s.complete 0x81 src .done))

/-! ## PPS_IN and PPS_OUT (R191, R192) -/

/-- Distance of TB0 from the nearest second boundary, 2 ns units, saturating at 16 bits (R192). -/
def State.ppsErr (s : State) : Int :=
  let x : Int := (s.time.tb0.ns % 10 ^ 9 : Nat)
  satI 16 ((if 500000000 ≤ x then x - 10 ^ 9 else x) / 2)

/-- The second an edge marks is SECONDS of TIME_SET_GM, one more at each later edge (R191). -/
def State.gmEdge (s : State) (g : GmParams) : State :=
  let s := { s with time := { s.time with gm := some { g with seconds := g.seconds + 1 }, lastPps := s.time.tb3 } }
  if s.tb0Free then
    ((s.modBase 0 (fun b => { b with t := g.seconds * 10 ^ 9 * fineNs })).fset F.TB_FLAGS.STEPPED0 1).setTbState 0 1
  else s.takeSample 0 ((g.seconds * 10 ^ 9 * 65536 : Nat) - (s.time.tb0.t / 10 ^ 12 : Nat)) (10 ^ 9)

/-- PPS_IN_EDGE (R192): an edge of the polarity IN_POL, of a pulse of at least 100 ns, stamped in TB0 and TB3. -/
def execPpsInEdge (falling : Bool) (width : Nat) (s : State) : Out :=
  .next (if s.bit F.PPS_CTRL.IN_EN && decide (s.bit F.PPS_CTRL.IN_POL = falling) && decide (100 ≤ width) then
      let s := s.count 4 8
      let s := { s with time := { s.time with ppsStamp := some (s.time.tb0.fine, s.time.tb3) } }
      if s.fget (F.TB_CTRL.MODE 0) = 2 then
        match s.time.gm with
        | some g => if s.rung ≤ 2 ∧ s.bit (F.TB_CTRL.EN 0) then s.gmEdge g else s
        | none => s
      else s.fset F.PPS_CTRL.PPS_ERR (ofSigned 16 s.ppsErr)
    else s)

/-- PPS_LOST (R191): in grandmaster mode no edge for 2.5 s. -/
def execPpsLost (s : State) : Out :=
  .next (if s.fget (F.TB_CTRL.MODE 0) = 2 ∧ s.time.gm.isSome ∧ 1250000000 ≤ s.time.tb3 - s.time.lastPps then
      let s := (s.count 4 9).holdBase 0
      (s.sticky F.TB_FLAGS.PPS_LOST (some 1)).timeEvent 0 3
    else s)

/-- Nanosecond count of the base PPS_OUT names, TB3 for 3. -/
def State.nsOf (s : State) (n : Nat) : Nat := if n = 3 then s.t3ns else (s.base n).ns

/-- PPS_OUT_PULSE (R192): at a second boundary of OUT_SRC, unless the base is FREE. -/
def execPpsOutPulse (s : State) : Out :=
  let n := s.fget F.PPS_CTRL.OUT_SRC
  let free := if n ≤ 1 then decide (s.fget (stateFld n) = 0) else decide (n = 2) && s.time.tb2Free
  .next (if s.bit F.PPS_CTRL.OUT_EN && !free && decide (s.nsOf n % 10 ^ 9 < 3) then s.emit (.pps (max 1 (s.fget F.PPS_CTRL.WIDTH))) else s)

/-! ## PTP messages and the Ethernet ports (R184–R187, R195) -/

/-- A PTP port handles messages: link up, enabled in ETH_CTRL and PTP_PORT_CTRL, on L0–L2 (R193, R195). -/
def State.ptpOn (s : State) (p : Nat) : Bool :=
  s.bit (F.ETH_CTRL.EN p) && s.bit (F.ETH_CTRL.PTP_EN p) && s.bit (F.PTP_PORT_CTRL.EN p) && decide (s.rung ≤ 2) &&
  s.bit (if p = 0 then F.ETH_STATUS.LINK0 else F.ETH_STATUS.LINK1)

/-- The base whose domain a message names on a port (R184). -/
def State.baseOfDomain (s : State) (p domain : Nat) : Option Nat :=
  [0, 1].find? (fun n => decide (s.fget (F.TB_CTRL.DOMAIN n) = domain) && decide (s.fget (F.TB_CTRL.PORTS n) / 2 ^ p % 2 = 1))

/-- A message kind the module supports (R184). -/
def ptpSupported : PtpKind → Bool
  | .management => false
  | .signaling => false
  | .other => false
  | _ => true

/-- A message whose passing the MAC island stamps (R186). -/
def ptpEvent : PtpKind → Bool
  | .sync => true
  | .delayReq => true
  | .pdelayReq => true
  | .pdelayResp => true
  | _ => false

/-- The message is of the other delay mechanism than the port's (R184, P2P). -/
def State.otherMechanism (s : State) (port : Nat) (kind : PtpKind) : Bool :=
  match kind with
  | .delayReq => s.bit (F.PTP_PORT_CTRL.P2P port)
  | .delayResp => s.bit (F.PTP_PORT_CTRL.P2P port)
  | .pdelayReq => !s.bit (F.PTP_PORT_CTRL.P2P port)
  | .pdelayResp => !s.bit (F.PTP_PORT_CTRL.P2P port)
  | .pdelayRespFollowUp => !s.bit (F.PTP_PORT_CTRL.P2P port)
  | _ => false

/-- TRANSPORT in force: 3 acts as 0 (R195). -/
def State.transport (s : State) (port : Nat) : Nat := let t := s.fget (F.PTP_PORT_CTRL.TRANSPORT port); if t = 3 then 0 else t

/-- A stamp of a base at the cage interface (R186): resolved to 0.25 ns, and a free value within 4 ns of the instant (log 3). -/
def State.ptpStamp (s : State) (n : Nat) : Nat × State :=
  let d := s.draw 33
  (((s.base n).fine + 2 ^ 14 * d.1 - 2 ^ 18) / 2 ^ 14 * 2 ^ 14, d.2)

/-- A port takes a state in the domain of a base. As a boundary clock TB0 is master on the other port of the one on which it is slave;
as an ordinary clock it is slave on one port at most (R185, log 71). -/
def State.ptpRole (s : State) (port n st : Nat) : State :=
  let s := if s.fget (portStateFld port n) = st then s else (s.fset (portStateFld port n) st).count 4 7
  let other := 1 - port
  let now := s.fget (portStateFld other n)
  if st < 8 ∨ now = 0 ∨ now = 2 then s
  else if n = 0 ∧ s.fget (F.TB_CTRL.MODE 0) = 1 then s.fset (portStateFld other n) 6
  else if 8 ≤ now then s.fset (portStateFld other n) 7 else s

/-- PTP_MESSAGE (R184): a malformed message, one not supported, one of another transport or delay mechanism than the port's, and one of
no domain of the module are ignored and counted. An event message is stamped against the base of its domain (R19). An Announce lets
the best-master algorithm of IEEE 1588 choose the port's state, which this manual leaves to it (log 3). -/
def execPtpMessage (port : Nat) (kind : PtpKind) (domain transport : Nat) (malformed : Bool) (s : State) : Out :=
  ifOk (Instr.wf (.ptpMessage port kind domain transport malformed))
    (if !s.ptpOn port then s
     else
       let s := s.count 15 (8 * port + 6)
       if malformed then (s.count 4 11).logEntry 1 14 .request .module 0 port
       else if !ptpSupported kind || decide (transport ≠ s.transport port) || s.otherMechanism port kind then s.count 4 10
       else match s.baseOfDomain port domain with
         | none => s.count 4 10
         | some n =>
           match kind with
           | .announce =>
             if n = 0 ∧ s.fget (F.TB_CTRL.MODE 0) = 2 then s
             else
               let d := s.draw (if n = 0 then 6 else 3)
               let st := if n = 0 then 4 + d.1 else (if d.1 = 0 then 4 else 7 + d.1)
               d.2.ptpRole port n st
           | k =>
             if ptpEvent k then
               let r := s.ptpStamp n
               let s := r.2
               { s with time := { s.time with rx := spSet none s.time.rx (rxKey port n k) (some r.1) } }
             else s)

/-- A message that a master port sends of its own accord. -/
def ptpFromMaster : PtpKind → Bool
  | .sync => true
  | .followUp => true
  | .announce => true
  | .delayResp => true
  | _ => false

/-- TB0's error estimate in HOLDOVER, ns (R189). -/
def State.holdErrNs (s : State) : Nat := 100 + 50 * (2 * (s.time.tb3 - s.time.tb0.holdSince)) / 10 ^ 9

/-- What TB0 announces (R185, R191). A grandmaster's clockClass before it is LOCKED is a free value (log 3). -/
def State.announced (s : State) : Announce × State :=
  match s.time.gm with
  | some g =>
    if s.fget (F.TB_CTRL.MODE 0) = 2 then
      let d := s.draw 256
      let c := match s.fget F.TB_FLAGS.STATE0 with
        | 2 => (g.clockClass, s)
        | 3 => (if s.holdErrNs ≤ 1000 then 7 else 187, s)
        | _ => d
      (⟨g.priority1, g.priority2, c.1, some g.clockAccuracy, some g.utcOffset, some g.tsFlags⟩, c.2)
    else (⟨128, 128, 248, none, none, none⟩, s)
  | none => (⟨128, 128, 248, none, none, none⟩, s)

/-- logMessageInterval of a message by the port's settings (R184, R195). -/
def State.messageInterval (s : State) (port : Nat) (kind : PtpKind) : Int :=
  match kind with
  | .sync => logInterval (-7) 0 (s.fget (F.PTP_PORT_CTRL.LOG_SYNC port))
  | .followUp => logInterval (-7) 0 (s.fget (F.PTP_PORT_CTRL.LOG_SYNC port))
  | .announce => logInterval (-3) 3 (s.fget (F.PTP_PORT_CTRL.LOG_ANNOUNCE port))
  | _ => logInterval (-7) 0 (s.fget (F.PTP_PORT_CTRL.LOG_DELAY port))

/-- A message of a base's domain as the port sends it, without its stamp and its Announce (R184, R187, R195). -/
def State.ptpOut (s : State) (port n : Nat) (kind : PtpKind) : PtpOut :=
  { port := port, base := n, domain := s.fget (F.TB_CTRL.DOMAIN n), kind := kind, oneStep := false, stamp := none
    received := match kind with
      | .delayResp => s.rxStamp port n .delayReq
      | .pdelayResp => s.rxStamp port n .pdelayReq
      | .pdelayRespFollowUp => s.rxStamp port n .pdelayReq
      | _ => none
    correction := 0, interval := s.messageInterval port kind, transport := s.transport port
    vlan := s.fget (F.ETH_CTRL.VLAN port), pcp := s.fget (F.ETH_CTRL.PCP port), announce := none }

/-- A message leaves a port, counted (R351). -/
def State.sendPtp (s : State) (m : PtpOut) : State := (s.emit (.ptp m)).count 15 (8 * m.port + 5)

/-- An event message leaves with its stamp (R186, R187): one-step, its originTimestamp or its turnaround written into it, or with a
Follow_Up after it; requests are stamped for the module alone. -/
def State.sendEvent (s : State) (m : PtpOut) : State :=
  let r := s.ptpStamp m.base
  let s := r.2
  let answers := decide (m.kind = .sync ∨ m.kind = .pdelayResp)
  let one := answers && !s.bit (F.TB_CTRL.TWO_STEP m.base)
  let turn : Int := match m.received with | some t => r.1 - t | none => 0
  let m := { m with stamp := some r.1, oneStep := one, correction := if one && decide (m.kind = .pdelayResp) then turn else 0 }
  let s := s.sendPtp m
  if one then s.count 4 12
  else if answers then
    (s.sendPtp { m with kind := if m.kind = .sync then .followUp else .pdelayRespFollowUp }).count 4 13
  else s

/-- PTP_TRANSMIT (R187): a port sends a message of a base's domain. Only TB0 is ever master (R185), and a grandmaster sends nothing as
master before the first TIME_SET_GM (R191). -/
def execPtpTransmit (port base : Nat) (kind : PtpKind) (s : State) : Out :=
  ifOk (Instr.wf (.ptpTransmit port base kind))
    (let master := decide (base = 0) && decide (s.fget (portStateFld port 0) = 6) &&
       (decide (s.fget (F.TB_CTRL.MODE 0) ≠ 2) || s.time.gm.isSome)
     if !s.ptpOn port || !ptpSupported kind || s.otherMechanism port kind || (ptpFromMaster kind && !master) ||
        decide (s.fget (F.TB_CTRL.PORTS base) / 2 ^ port % 2 = 0) then s
     else
       let m := s.ptpOut port base kind
       if ptpEvent kind then s.sendEvent m
       else if kind = .announce then
         let a := s.announced
         a.2.sendPtp { m with announce := some a.1 }
       else s.sendPtp m)

/-- A port's states in both domains after its link or its settings change: grandmaster MASTER, otherwise LISTENING; FAULTY
without a link; 0 where it is not used (R185, R191, log 35). -/
def State.portStates (s : State) (p : Nat) : State :=
  let up := s.bit (if p = 0 then F.ETH_STATUS.LINK0 else F.ETH_STATUS.LINK1)
  let used (n : Nat) : Bool := s.bit (F.ETH_CTRL.EN p) && s.bit (F.PTP_PORT_CTRL.EN p) && decide (s.fget (F.TB_CTRL.PORTS n) / 2 ^ p % 2 = 1)
  let st (n : Nat) : Nat := if !used n then 0 else if !up then 2 else if n = 0 ∧ s.fget (F.TB_CTRL.MODE 0) = 2 then 6 else 4
  (s.fset (portStateFld p 0) (st 0)).fset (portStateFld p 1) (st 1)

/-- ETHERNET_LINK_CHANGE (R195). -/
def execEthernetLinkChange (port : Nat) (link fec : Bool) (s : State) : Out :=
  ifOk (Instr.wf (.ethernetLinkChange port link fec))
    (let lf := if port = 0 then F.ETH_STATUS.LINK0 else F.ETH_STATUS.LINK1
     let ff := if port = 0 then F.ETH_STATUS.FEC_LOCK0 else F.ETH_STATUS.FEC_LOCK1
     let lost := s.bit lf && !link
     let on := link && s.bit (F.ETH_CTRL.EN port) && decide (s.rung ≤ 2)
     let s := (s.fset lf (if on then 1 else 0)).fset ff (if on && fec && s.bit (F.ETH_CTRL.FEC port) then 1 else 0)
     let s := if lost then s.count 15 (8 * port + 7) else s
     s.portStates port)

/-! ## TIME registers (R195, R196) -/

/-- A relief takeover is in progress: from T_r to its commit or failure (R196). -/
def State.takeover (s : State) : Bool := match s.steer.relief with | some r => !r.committed && !r.returning | none => false

/-- What a write of TB_TICK.PERIOD does (R196); a berth cycle is no lock cycle (R247). -/
def periodWrite (value : Nat) (s : State) : State :=
  if value < 15625 ∨ 50000 < value ∨ s.lock.cycles.any (fun c => !c.berth) || s.takeover then s.fset F.TB_TICK.ERR 1
  else s.fset F.TB_TICK.PERIOD value

/-- PERIOD_WRITE (R196): a host write of TB_TICK.PERIOD, a mirrored setting (R205). -/
def execPeriodWrite (value : Nat) (s : State) : Out :=
  .next (s.hostWrite 0x200018 (fun s =>
    s.mirrorWrite (decide (value % 65536 ≠ s.fget F.TB_TICK.PERIOD)) (fun s =>
      let t := periodWrite value s
      if t.word 0x200018 = s.word 0x200018 then t else t.sendJournal (.setting 0x200018 (t.word 0x200018)))))

/-- The times of TB0–TB3 in 2^−16 ns (R182). -/
def State.times (s : State) : List Nat :=
  [s.time.tb0.t / 10 ^ 12, s.time.tb1.t / 10 ^ 12, s.time.tb2.t / 10 ^ 12, s.t3ns * 65536]

/-- A word of TB_NOW from a time (R195): SEC_LO, SEC_HI, NS, FRAC. -/
def nowWord (t i : Nat) : Nat :=
  let ns := t / 65536
  match i with
  | 0 => ns / 10 ^ 9 % 2 ^ 32
  | 1 => ns / 10 ^ 9 / 2 ^ 32 % 2 ^ 32
  | 2 => ns % 10 ^ 9
  | _ => t % 65536

/-- TB_NOW_READ (R195): a read of SEC_LO latches all words of all four bases at one count. -/
def execTbNowRead (base : Nat) (s : State) : Out :=
  ifOk (Instr.wf (.tbNowRead base))
    (let s := { s with time := { s.time with latched := s.times } }
     s.emit (.readData (le 4 (nowWord (s.times.getD base 0) 0)) false))

/-- HOLD_ERR in 16 ns units (R189): 100 ns and 50 ns a second of holdover; 0 outside HOLDOVER. -/
def State.holdErr (s : State) : Nat :=
  if s.fget F.TB_FLAGS.STATE0 = 3 then min 65535 (s.holdErrNs / 16) else 0

end Sys2Proof.Machine
end

