-- ==== Sys2Proof/Machine/Reset.lean ====
section
/-!
DEFINITION. Resets (R10–R14, R320–R325, R362, R363, R388, R389) and what follows them up to READY (R313–R321, R333, R336):
straps, rails, memory, pounds, towpath training, the loop audit and the warm resume.
-/

namespace Sys2Proof.Machine

/-! ## What the resets share -/

/-- The present rung is set, and its stay begins (R301, R387). -/
def State.setRung (s : State) (r : Nat) : State :=
  { s.fset F.PWR_RUNG_STATE.RUNG r with power := { s.power with since := s.time.tb3 } }

/-- RAIL_OK by rung and by what the keel holds off (R296, R295). -/
def State.showRails (s : State) : State :=
  let v := if s.rung ≤ 2 then 255 else if s.rung = 3 then 0x22 else 0x02
  let v := if s.power.railsOff then v - v % 2 - v / 4 % 4 * 4 else v
  s.fset F.PWR_RAILS.RAIL_OK v

/-- Fields coded I that an event has lost take their image values where their owner is loaded (R14, R390). -/
def State.regain (s : State) (kind rung : Nat) : State :=
  s.reimage (fun n => decide (n = 15) || (decide (rung ≤ 2) && (decide (n = 16) || decide (s.poundState n = 2 ∨ s.poundState n = 4))))
    (fun r => !r.survives kind rung)

/-- KEEL_CAUSE after a W, C or P reset (R389). -/
def State.recordCause (s : State) (kind cause : Nat) (fatal : Bool) : State :=
  let prev := s.fget F.KEEL_CAUSE.CAUSE
  let s := ((s.fset F.KEEL_CAUSE.CAUSE cause).fset F.KEEL_CAUSE.KIND kind).fset F.KEEL_CAUSE.FATAL fatal.toNat
  let s := s.fset F.KEEL_CAUSE.PREV (if kind = 3 then 0 else prev)
  if kind = 1 then s.fadd F.KEEL_CAUSE.WARM_COUNT 1 else s.fset F.KEEL_CAUSE.WARM_COUNT 0

/-- The keel section is applied once the boot slot is chosen (R313, R320, R390): the keel's fields that were lost, or all of them
where the image changed. -/
def State.keelImage (s : State) (kind rung : Nat) : State :=
  s.reimage (fun n => decide (n = 15)) (fun r => s.boot.imageChanged || !r.survives kind rung)

/-- The module begins a reset of this kind (2 W, 3 C, 4 P) judged at this rung: everything is kept or lost, the module is on L0,
and the time of the reset starts the watchdog. -/
def State.beginReset (s : State) (kind rung : Nat) : State :=
  let s := (s.after kind rung).setRung 0
  let s := ((s.fset F.PWR_RUNG_STATE.MOVING 0).fset F.PWR_RUNG_STATE.TOUCH 0).fset F.PWR_THERM.THERM_RUNG 0
  let s := (List.range 4).foldl (fun s n => s.fset (F.ARRAY_STATUS.CLASS n) 3) s
  let s := (s.spareBack 8).spareBack 4
  { s with boot := { s.boot with since := s.time.tb3 } }

/-- Before a W reset for a fatal error or by KEEL_RESET, an ACTIVE module with a STANDBY partner makes a planned release in the
current tick if it can (R216, R388). -/
def State.releaseNow (s : State) : State :=
  if s.active && decide (s.fget F.PAIR_STATUS.PARTNER = 2) && s.tetherOn then
    let s := s.emit (.copy { s.copyFrameNow with handoverReq := true })
    ((s.emit (.codes 0 (s.codesOf 0) 4 0)).emit (.codes 1 (s.codesOf 1) 4 0)).count 3 9
  else s

/-- Pounds and firmware are loaded again in a warm boot after a reset taken at this rung (R14, R320): image values for lost
fields, or for every field coded I where the image changed. -/
def State.reloadWarm (s : State) (rung : Nat) : State :=
  let all := s.boot.imageChanged
  let s := (List.range 15).foldl (fun s n => s.poundUp n) s
  let s := (List.range 9).foldl (fun s n => s.imageMap n) s
  let s := if all then
      let s := s.imageAll (fun off => ownerOf off ≠ 15)
      (List.range 9).foldl (fun s n => s.imageClasses n) s
    else s.reimage (fun n => decide (n ≠ 15)) (fun r => !r.survives 2 rung)
  let s := ((List.range 4).foldl (fun s n => s.arrayUp n) s).auctionUp
  { s with boot := { s.boot with coresUp := true } }


/-- A W reset with the rails held (R320): the boot slot, the keel section, firmware and pounds. The searches, training and the
warm resume follow on their own. -/
def State.warmBoot (s : State) (cause : Nat) (fatal : Bool) : State :=
  let r := s.rung
  let s := ((s.beginReset 2 r).recordCause 1 cause fatal).chooseSlot
  if s.boot.stopped then s
  else
    let s := (s.keelImage 2 r).reloadWarm r
    let s := if r ≤ 2 then s.identifyOn else s.identifyBays
    let s := { s with boot := { s.boot with warm := decide (r ≤ 2) } }
    ((s.fset F.LOCK_EPOCH.EPOCH (max s.boot.record.epoch (s.fget F.LOCK_EPOCH.EPOCH))).holdTime).showRails

/-- A W reset with the keel holding CORE, BASIN and STACK off (R323): it acts on retained state as one taken at L5. -/
def State.railsReset (s : State) (cause : Nat) : State :=
  let s := (s.beginReset 2 5).recordCause 1 cause true
  let s := bays.foldl (fun s b => s.powerBay b false) s
  let s := { s with power := { s.power with railsOff := true } }
  (s.holdTime).showRails

/-- The logbook freezes (R347): LOG_MISSED starts again from 0. -/
def State.freezeLog (s : State) : State := ({ s with log := { s.log with frozen := true } }).fset F.LOG_MISSED.MISSED 0

/-- A fatal error (R340): a severity 7 entry, the freeze, the release, the cause, and a W reset. -/
def State.fatal (s : State) (cause arg : Nat) (off : Bool) : State :=
  let s := s.logEntry 7 1 .fatal .module cause arg
  let s := if s.bit F.LOG_CTRL.FREEZE7 && !s.log.frozen then s.freezeLog else s
  let s := s.releaseNow
  if off then s.railsReset cause else s.warmBoot cause true


/-! ## F resets (R324, R257, R363) -/

/-- An F reset (R324, R325): host requests, queues and tow spaces end; control, light, time and the pair go on. -/
def State.fReset (s : State) (cause : Nat) : State :=
  let r := s.rung
  let s := s.freeUnits (fun _ => true)
  let s := (((s.after 1 r).regain 1 r).fset F.QP_CTRL.READY 0).fset F.AUC_STATUS.BUSY 0
  let s := if r ≤ 2 ∧ !s.held then s.identifyOn else s
  (s.fset F.KEEL_CAUSE.F_SEEN 1).fset F.KEEL_CAUSE.F_CAUSE cause

/-- FUNCTION_LEVEL_RESET (R324): the link is down on L4 and L5. -/
def execFunctionLevelReset (s : State) : Out := .next (if s.rung ≤ 3 ∧ !s.boot.resetLow then s.fReset 1 else s)

/-- LINK_DOWN (R257): on L4 and L5 an intended loss of the link is no event. -/
def execLinkDown (s : State) : Out := .next (if s.rung ≤ 3 ∧ !s.boot.resetLow then s.fReset 2 else s)

/-- PERST_N (R363): an assertion on L0–L3 acts as an F reset; its release lets the link train. -/
def execPerstN (level : Bool) (s : State) : Out :=
  .next
    (let was := s.link.perst
     let s := { s with link := { s.link with perst := level } }
     if was && !level && decide (s.rung ≤ 3) && !s.boot.resetLow then s.fReset 3 else s)

/-! ## W, C and P resets (R320, R362, R313) -/

/-- A cause code of Table: Reset cause codes that is fatal (R340, R295, R310). -/
def fatalCause (c : Nat) : Bool := [0x05, 0x06, 0x08, 0x09, 0x0A, 0x0B].contains c

/-- WARM_RESET (R320, R323): the fatal input and thermal causes hold the rails off. -/
def execWarmReset (cause : Nat) (s : State) : Out :=
  .next (if s.held ∨ cause < 4 ∨ 0x0B < cause then s
    else if cause = 5 ∨ cause = 6 then (s.releaseNow).railsReset cause
    else (s.releaseNow).warmBoot cause (fatalCause cause))

/-- The straps are sampled (R241, R365). -/
def State.sampleStraps (s : State) (t : Straps) : State :=
  let s := (s.fset F.KEEL_STRAPS.PLANE t.plane).fset F.KEEL_STRAPS.SWITCH_ID t.switchId
  (s.fset F.KEEL_STRAPS.ROLE t.role).fset F.KEEL_STATUS.ROLE t.role

/-- A cold boot begins at T_rel (R313): the boot slot, the keel section, the rails, the bays. -/
def State.coldBoot (s : State) (kind rung : Nat) : State :=
  let s := { s with boot := { s.boot with since := s.time.tb3, warm := false } }
  let s := s.chooseSlot
  if s.boot.stopped then s
  else
    let s := (s.keelImage kind rung).poundUp 15
    (s.showRails).identifyBays

/-- RESET_N (R362): low holds the module in a C reset, on every rung; its release samples the straps and begins the boot. -/
def execResetN (low : Bool) (straps : Straps) (s : State) : Out :=
  .next
    (if low then
       if s.boot.resetLow then s
       else
         let r := s.rung
         let s := ((s.beginReset 3 r).recordCause 2 3 false).holdTime
         let s := bays.foldl (fun s b => s.powerBay b false) s
         { s with boot := { s.boot with resetLow := true }, power := { s.power with railsOff := false } }
     else if s.boot.resetLow then
       let kind := s.fget F.KEEL_CAUSE.KIND + 1
       let s := { s with boot := { s.boot with resetLow := false } }
       (s.sampleStraps straps).coldBoot kind 5
     else s)

/-- POWER_ON (R313, R10): a P reset; with RESET_N low the module waits for its release (R362). -/
def execPowerOn (keelRail resetLow : Bool) (straps : Straps) (s : State) : Out :=
  .next
    (let s := (s.beginReset 4 0).recordCause 3 (if keelRail then 2 else 1) false
     let s := bays.foldl (fun s b => s.powerBay b false) s
     if resetLow then { s with boot := { s.boot with resetLow := true } }
     else (({ s with boot := { s.boot with resetLow := false } }).sampleStraps straps).coldBoot 4 0)

/-- Sensors 0–47 have read below 85 °C for 10 s (R310). -/
def State.railsCooled (s : State) : Bool :=
  match s.power.coldSince with | some t => decide (t + 5000000000 ≤ s.time.tb3) | none => false

/-- RAIL_RELEASE (R323): the input or the temperature has recovered, and a cold boot begins; the straps are not sampled again. -/
def execRailRelease (s : State) : Out :=
  .next (if s.power.railsOff then
      (if s.fget F.KEEL_CAUSE.CAUSE = 6 ∧ s.railsCooled = false then s
       else ({ s with power := { s.power with railsOff := false } }).coldBoot 2 5)
    else s)

/-- BOOT_WATCHDOG (R333): 60 s without READY mark the boot slot FAILED and take a W reset. -/
def execBootWatchdog (s : State) : Out :=
  .next (if s.ready || s.held || decide (s.time.tb3 < s.boot.since + 30000000000) then s
    else
      let slot := s.boot.bootSlot
      let s := (s.fset F.IMG_STATUS.FAILED (s.fget F.IMG_STATUS.FAILED ||| 2 ^ slot)).msix 6
      s.warmBoot 7 false)

/-- KEEL_RESET (R388): with the key, a planned release unless NO_RELEASE, then the W reset; any other write sets ACCESS_ERR. -/
def execKeelReset (value : Word) (s : State) : Out :=
  .next (s.hostWrite 0x00000C (fun s =>
    if value.toNat / 65536 ≠ 0x4B52 ∨ value.toNat % 2 ≠ 1 then s.sticky F.XL_FAULT.ACCESS_ERR (some 7)
    else if s.held then s
    else
      let s := if value.toNat / 2 % 2 = 1 then s else s.releaseNow
      s.warmBoot 4 false))

/-- FATAL_ERROR (R340): the causes that are no input or thermal condition. -/
def execFatalError (cause : Nat) (s : State) : Out :=
  .next (if s.held ∨ cause < 8 ∨ 0x0B < cause then s else s.fatal cause 0 false)

/-! ## Memory (R315, R336, R105) -/

/-- Spare rows of a bank in use. -/
def State.rowsUsed (s : State) (bank : Nat) : Nat := (s.mem.rows.filter (fun r => decide (r.1 = bank))).length

/-- A basin row is replaced by a spare row of its bank (R315, R341); with none left it stays in use. -/
def State.spareRow (s : State) (bank row : Nat) : State :=
  if s.mem.rows.contains (bank, row) then s
  else if s.rowsUsed bank < 64 then
    let s := ({ s with mem := { s.mem with rows := s.mem.rows ++ [(bank, row)] } }).count 9 2
    s.spareIn 13 .memory bank 1 (decide (s.rowsUsed bank = 64))
  else s.logEntry 6 13 .component .memory 1 bank row

/-- A stack channel is replaced by its stack's spare (R315, R341): true where there was one. -/
def State.spareChannel (s : State) (stack channel : Nat) : State × Bool :=
  if s.mem.channels.contains (stack, channel) then (s, true)
  else if s.mem.channels.any (fun c => decide (c.1 = stack)) then (s.logEntry 6 13 .component .memory 3 stack channel, false)
  else
    let s := ({ s with mem := { s.mem with channels := s.mem.channels ++ [(stack, channel)] } }).count 9 7
    (s.spareIn 13 .memory (1024 + stack) 2 (decide (2 ≤ s.mem.channels.length)), true)

/-- Repairs of rows and channels; true where a channel found no spare. -/
def State.repairMemory (s : State) (rows channels : List (Nat × Nat)) : State × Bool :=
  let s := rows.foldl (fun s r => if r.1 < 1024 then s.spareRow r.1 r.2 else s) s
  channels.foldl (fun (p : State × Bool) c => if c.1 < 2 then (let q := p.1.spareChannel c.1 c.2; (q.1, p.2 || !q.2)) else p) (s, false)

/-- The module is in a cold boot, before the lockkeeper cores start (R313). -/
def State.booting (s : State) : Bool := !s.held && !s.ready && !s.boot.coresUp

/-- MEMORY_TEST (R315): repairs, or a shortfall that stops the boot. -/
def execMemoryTest (rows channels : List (Nat × Nat)) (sysRowShort : Bool) (s : State) : Out :=
  .next (if s.booting && !s.boot.memoryDone then
      let q := s.repairMemory rows channels
      if q.2 || sysRowShort then
        let s := q.1.logEntry 7 13 .fatal .memory 4 0
        { s with boot := { s.boot with stopped := true } }
      else q.1
    else s)

/-- MEMORY_INITIALISATION (R313, R304, R336): the stacks, and at a boot the basin, hold no data and no poison; STACK_READY. Words
read back wrongly are repaired. -/
def execMemoryInitialisation (rows channels : List (Nat × Nat)) (s : State) : Out :=
  .next (if s.held || s.bit F.KEEL_STATUS.STACK_READY || decide (3 ≤ s.rung) then s
    else
      let q := s.repairMemory rows channels
      if s.booting && q.2 then
        let s := q.1.logEntry 7 13 .fatal .memory 4 0
        { s with boot := { s.boot with stopped := true } }
      else
        let s := q.1
        let all := s.booting
        let s := { s with mem := { s.mem with stack := [], basin := if all then [] else s.mem.basin
                                              poison := if all then [] else s.mem.poison.filter (fun p => decide (p.1 = 0)) } }
        ({ s with boot := { s.boot with memoryDone := true } }).fset F.KEEL_STATUS.STACK_READY 1)

/-- A column that fails the self-test takes a spare, or its array leaves service (R105). -/
def State.testColumn (s : State) (array column : Nat) : State :=
  if s.tows.columns.contains (array, column) then s
  else if s.fget (F.ARRAY_STATUS.SPARES_USED array) < 8 then
    let s := (s.mapColumn array column).count 5 9
    s.spareIn 7 .array array 0 (decide (s.fget (F.ARRAY_STATUS.SPARES_USED array) = 8))
  else (s.setArray array 6).logEntry 6 7 .component .array 1 array

/-- ARRAY_SELF_TEST (R105, R315, R336). -/
def execArraySelfTest (columns : List (Nat × Nat)) (s : State) : Out :=
  .next (if s.tows.selfTestDue && !s.held then
      let s := columns.foldl (fun s c => if c.1 < 4 then s.testColumn c.1 c.2 else s) s
      { s with tows := { s.tows with selfTestDue := false } }
    else s)

/-! ## Pounds and cores (R313, R316, R335) -/

/-- Pounds in the order a boot loads them (R313). -/
def bootOrder : List Nat := [14, 0, 1, 2, 3, 4, 5, 6, 7, 8, 9, 10, 11, 12, 13]

/-- The lockkeeper cores start (R313, R316): the counters of the boot record go on, the standing entry is rebuilt, and the live
plan is taken (R243). -/
def State.startCores (s : State) : State :=
  let r := s.boot.record
  let s := { s with boot := { s.boot with coresUp := true }
                    lock := { s.lock with lastId := max s.lock.lastId r.lastId, lastPlan := max s.lock.lastPlan r.lastPlan
                                          seq := max s.lock.seq r.seq
                                          lib := spSet {} s.lock.lib 0 { s.plan 0 with peer := r.peer } } }
  let s := s.fset F.LOCK_EPOCH.EPOCH r.epoch
  let s := match s.image with | some i => { s with map := { s.map with settle := i.settle } } | none => s
  s.takePlan

/-- POUND_LOAD (R313): pound n is loaded from the boot slot in its order; with pound V the fixed blocks, with the last the cores
start. -/
def execPoundLoad (n : Nat) (s : State) : Out :=
  ifOk (Instr.wf (.poundLoad n))
    (let before := bootOrder.takeWhile (fun m => decide (m ≠ n))
     if s.booting && s.boot.memoryDone && decide (s.poundState n = 0) && before.all (fun m => decide (s.poundState m = 2)) then
       let s := if n = 14 then s.imageAll (fun off => decide (ownerOf off = 16)) else s
       let s := s.bootPound n
       let s := if 9 ≤ n ∧ n ≤ 12 then s.arrayUp (n - 9) else s
       if n = 13 then (s.auctionUp).startCores else s
     else s)

/-! ## READY (R314, R318) -/

/-- The holder a head last named is driving (R209). -/
def State.holderDrives (s : State) (h : Head) : Bool := decide (h.holder ≠ 3) && decide (s.steer.tick - h.moved < 3)

/-- A head names a holder other than this module (R318). -/
def State.otherHolder (s : State) (h : Head) : Bool := h.heard && decide (h.holder ≠ 3) && decide (h.holder ≠ s.role)

/-- A module with pair operation disabled claims only a windlass with no holder (R217). -/
def State.claimBarred (s : State) : Bool := !s.pairEn && decide (s.pair.headA.holder ≠ 3)

/-- The path of R318: a head names another module that drives, or the module is ORPHANED; and that of a module that may not claim
(R217, log 72). -/
def State.noAudit (s : State) : Bool :=
  (s.otherHolder s.pair.headA && s.holderDrives s.pair.headA) || (s.otherHolder s.pair.headB && s.holderDrives s.pair.headB) ||
  s.bit F.PAIR_STATUS.ORPHANED || s.claimBarred

/-- READY is set once every pound is loaded, the search and the training are done, and the audit is finished or not run (R314);
after a fatal reset the keel copy is dumped first (R349). -/
def State.readyCheck (s : State) : State :=
  let loaded := (List.range 15).all (fun n => decide (s.poundState n = 2) || decide (s.poundState n = 4))
  let dumped := !s.bit F.KEEL_CAUSE.FATAL || s.boot.dumped
  if loaded && s.boot.coresUp && s.bit F.RING_STATUS.SEARCH_DONE && s.bit F.KEEL_STATUS.CAL_DONE && dumped &&
     (s.boot.auditDone || s.noAudit) then s.fset F.KEEL_STATUS.READY 1
  else s

/-! ## Towpath training (R197, R319, R372) -/

/-- A head. -/
def State.head (s : State) (h : Nat) : Head := if h = 0 then s.pair.headA else s.pair.headB

/-- Change a head. -/
def State.modHead (s : State) (h : Nat) (f : Head → Head) : State :=
  if h = 0 then { s with pair := { s.pair with headA := f s.pair.headA } }
  else { s with pair := { s.pair with headB := f s.pair.headB } }

/-- A faulty mirror makes its port FAILED with reason MIRROR (R254). -/
def State.mirrorFails (s : State) (p : Nat) : State :=
  ((s.modPort p (fun x => { x with mirrorFault := true, checking := false, queued := false })).setPort p 5 6).berthDone p

/-- Mirrors of a reach in slot order. -/
def State.reachMirrors (s : State) (r : Nat) : List Nat :=
  (List.range 580).filterMap (fun j =>
    match s.axisAt r j with | some a => if axisCoord a = 0 then some (axisMirror a) else none | none => none)

/-- The uplink order of a head (R28): as the image gives it; where it gives none, one mirror of each of the head's four reaches in
turn, each reach's in slot order. -/
def State.uplinkOrder (s : State) (h : Nat) : List Nat :=
  let own := match s.image with | some i => (i.uplink.find? (fun p => decide (p.1 = h))).map (·.2) | none => none
  match own with
  | some l => l
  | none =>
    let lists := (List.range 4).map (fun k => s.reachMirrors (4 * h + k))
    (List.range 580).flatMap (fun j => lists.filterMap (fun l => l[j]?))

/-- The head is told its uplink order (R28, R319 step 4). -/
def State.tellOrder (s : State) (h : Nat) : State :=
  let l := s.uplinkOrder h
  (s.modHead h (fun x => { x with order := l })).emit (.uplinkOrder h l)

/-- The steps of a training (R319): lanes, port and side, the descriptor, faulty mirrors, the uplink order. A wrong port or side
fails it. -/
def State.train (s : State) (h : Nat) (lanes : List Nat) (desc : HeadDesc) (faulty : List Nat) : State × Bool :=
  if desc.port ≠ s.role ∨ desc.side ≠ h then (s.logEntry 6 3 .component .lane 2 h desc.port, false)
  else
    let service := lanes.filter (fun l => decide (l < 4))
    let spare := decide (service.length < 4) && lanes.contains 4
    let s := s.modHead h (fun x =>
      { x with desc := some desc, trained := decide (lanes ≠ []), lanes := service ++ (if spare then [4] else []), spareUsed := spare })
    let s := s.fset (F.SLEW_BUDGET.HEAD h) desc.budget
    let s := faulty.foldl (fun s m => if m < 1152 then s.mirrorFails (h * 1152 + m) else s) s
    (if lanes = [] then s else s.tellOrder h, decide (lanes ≠ []))

/-- TOWPATH_TRAINING (R319): at a boot, once the cores run. With both heads trained CAL_DONE is set. -/
def execTowpathTraining (head : Nat) (lanes : List Nat) (desc : HeadDesc) (faulty : List Nat) (s : State) : Out :=
  ifOk (Instr.wf (.towpathTraining head lanes desc faulty))
    (if s.held || !s.boot.coresUp || decide (3 ≤ s.rung) then s
     else
       let s := (s.train head lanes desc faulty).1
       let s := if s.pair.headA.trained && s.pair.headB.trained then s.fset F.KEEL_STATUS.CAL_DONE 1 else s
       s.readyCheck)

/-- TOWPATH_RETRAIN (R319): the same steps after link loss, while the head holds its codes. -/
def execTowpathRetrain (head : Nat) (lanes : List Nat) (desc : HeadDesc) (faulty : List Nat) (s : State) : Out :=
  ifOk (Instr.wf (.towpathRetrain head lanes desc faulty))
    (if s.bit F.KEEL_STATUS.CAL_DONE && decide (s.rung ≤ 2) then (s.train head lanes desc faulty).1.count 1 (8 * head + 4) else s)

/-! ## The loop audit and the warm resume (R317, R321, R322) -/

/-- The windlass fields of a claim at boot (R317, R321): QUERY_HELD to both heads; in the next frame CLAIM to head A and QUERY to head
B, and where head A grants the token to head B in its trailer (R211). -/
def State.claimFields (s : State) (grant : Option Nat) : State :=
  let n := (s.steer.tick + 1) % 2 ^ 32
  let s := ((((s.emit (.marker 0 5 s.steer.tick)).emit (.marker 1 5 s.steer.tick)).emit (.marker 0 2 n)).emit (.marker 1 1 n)).count 1 14
  match grant with | some tok => s.emit (.codes 1 (s.codesOf 1) 3 tok) | none => s

/-- A claim at boot, granted or not by the heads (R209, R211): a module that head B has not granted presents again in every following
frame. -/
def State.bootClaim (s : State) (grant : Option Nat) (grantB : Bool) : State :=
  let s := (s.claimFields grant).count 3 6
  match grant with
  | some tok =>
    let s := { s with pair := { s.pair with claiming := !grantB, takeover := false, grantA := true, grantB := grantB
                                            token := if grantB then none else some tok } }
    let s := ((s.setPair 3 0).fset F.PAIR_STATUS.COPY_AGE 0).count 1 7
    let s := if grantB then s.count 1 15 else s
    (s.fset F.KEEL_STATUS.WINDLASS_A 1).fset F.KEEL_STATUS.WINDLASS_B grantB.toNat
  | none => (s.setPair 0 2).count 3 7

/-- The module waits for its audit or resume: trained, searched, DETACHED, with no other module driving (R317, R318). -/
def State.auditDue (s : State) : Bool :=
  s.boot.coresUp && !s.held && !s.ready && s.bit F.KEEL_STATUS.CAL_DONE && s.bit F.RING_STATUS.SEARCH_DONE &&
  decide (s.fget F.PAIR_STATUS.STATE = 0) && !s.noAudit && !s.boot.auditDone


/-- An axis of a path that is audited and found lit: u is the held code, d is 0, and acc takes u at the next tick (R317). -/
def auditAxis (u target : Half) (x : Axis) : Axis :=
  { (((x.setSt 0).setSrc 0).setMode 1) with u := u, heldDrive := u, target := target, d := 0, rejoin := true }

/-- Every other mirror goes to its park drive (R317, R322). -/
def State.parkOthers (s : State) (ms : List Nat) : State :=
  let due := (s.steer.axes.map (fun p => p.1)).filter (fun a => !ms.contains (mirrorOf a))
  due.foldl (fun s a => s.modAxis a (fun x => (parkAxis (s.park (axisSide a)) x).setSrc 0)) s

/-- The paths of the boot record that are audited (R317): ports not FAILED, a usable entry. -/
def State.auditPaths (s : State) : Peer :=
  s.boot.record.peer.filter (fun p =>
    let failed := fun (m : Nat) => match entryOf m with | some e => decide ((s.port e).state = 5) | none => false
    !failed p.1 && !failed (1160 + p.2) && s.pairUsable p.1 p.2)

/-- An audited path: LIT where it was captured and proved; any other fails as in R69. -/
def State.auditPath (s : State) (held : List (Nat × Half)) (lit : Bool) (p : Nat × Nat) : State :=
  let s := (pathAxes p.1 p.2).foldl
    (fun s a => s.modAxis a (fun x =>
      let x := auditAxis (heldCode held a x.u) (s.trimAt a (s.pairIndex (axisSide a) p.1 p.2)) x
      if lit then x else failAxis (some (s.olDrive a p.1 p.2)) x)) s
  let q : Path := { a := p.1, b := p.2, state := if lit then 5 else 6, announced := !lit }
  let s := { s with lock := { s.lock with paths := s.lock.paths ++ [q] } }
  if lit then s
  else ((s.pathEvent q 0 6 15).logEntry 4 4 .environment .axis 0 (axisOf 0 p.1 0) p.2).count 0 14

/-- LOOP_AUDIT (R317): the claim, the audit of the boot record's paths, every other mirror parked, the standing entry; then
READY. -/
def execLoopAudit (held : List (Nat × Half)) (grantA : Option Nat) (grantB : Bool) (proved : List Nat) (s : State) : Out :=
  .next (if s.auditDue && !s.boot.warm then
      let s := s.bootClaim grantA grantB
      if grantA.isSome then
        let ps := s.auditPaths
        let s := { s with lock := { s.lock with paths := [] } }
        let s := ps.foldl (fun s p => s.auditPath held (proved.contains p.1) p) s
        let s := s.parkOthers (ps.flatMap (fun p => [p.1, 1160 + p.2]))
        let s := (s.writeStanding).recordBoot
        ({ s with boot := { s.boot with auditDone := true } }).readyCheck
      else s
    else s)

/-- An axis restarts from its retained loop state (R321): u is the held code, d is 0, MODE RECOVERY; a held axis goes on as
R47–R49 say. -/
def resumeAxis (u : Half) (x : Axis) : Axis :=
  if x.st = 6 then x else { x.setMode 3 with u := u, d := 0, rejoin := true }

/-- WARM_RESUME (R321, R322): every axis from its retained state; the changing paths and released mirrors of the running cycle
that was discarded go to park. -/
def execWarmResume (held : List (Nat × Half)) (grantA : Option Nat) (grantB : Bool) (s : State) : Out :=
  .next (if s.auditDue && s.boot.warm then
      let s := s.bootClaim grantA grantB
      if grantA.isSome then
        let s := s.steer.axes.foldl (fun s p => s.modAxis p.1 (fun x => resumeAxis (heldCode held p.1 x.u) x)) s
        let gone := (s.lock.discarded.filter (fun c => c.1.opened.isSome)).flatMap (fun c => c.1.mirrors)
        let s := (gone.flatMap mirrorAxes).foldl (fun s a => s.modAxis a (fun x => (parkAxis (s.park (axisSide a)) x).setSrc 0)) s
        let s := (s.writeStanding).recordBoot
        ({ s with boot := { s.boot with auditDone := true } }).readyCheck
      else s
    else s)

/-- The CLOSED notice and the LOCK event of a cycle that a W or C reset discarded (R322). -/
def State.resetNotice (s : State) (c : Cycle) (tb0 : Nat) : State :=
  let marked := if c.opened.isSome then c.mirrors else []
  let s := s.lockEvent c 3 0x23 0 0 0
  let n := s.noticeOf c 3 3 0x23 tb0 marked
  s.sendNotice { n with duration := 0, extra := 0 }

/-- RESET_CYCLE_NOTICE (R322): after READY, the ACTIVE module reports each discarded cycle; another leaves them to the partner. -/
def execResetCycleNotice (s : State) : Out :=
  .next (if s.ready && s.active then
      let cs := s.lock.discarded
      let s := { s with lock := { s.lock with discarded := [] } }
      cs.foldl (fun s c => s.resetNotice c.1 c.2) s
    else s)

/-- BOOT_RECORD_FLASH_COPY (R316): when it has changed, at most once every 10 s, and at once when LOCK_EPOCH has changed. -/
def execBootRecordFlashCopy (s : State) : Out :=
  .next
    (let r := s.boot.record
     let due := decide (r.epoch ≠ s.boot.flash.epoch) ||
       (match s.boot.copied with | some t => decide (t + 5000000000 ≤ s.time.tb3) | none => true)
     if r ≠ s.boot.flash ∧ due ∧ s.rung ≤ 4 ∧ !s.held then
       { s with boot := { s.boot with flash := r, copied := some s.time.tb3 } }
     else s)

end Sys2Proof.Machine
end

