-- ==== Sys2Proof/Machine/Power.lean ====
section
/-!
DEFINITION. The 48 V input (R295), the CORE phases (R297), the power manager (R298–R300), temperatures (R308, R309) and the
fatal conditions (R295, R310).
-/

namespace Sys2Proof.Machine

/-! ## Array halts (R127, R295, R299, R309) -/

/-- Every unit at a barge boundary halts the arrays that must. -/
def State.haltResting (s : State) : State :=
  (List.range 4).foldl (fun s u => if s.unitLead u && s.atRest u then s.haltArrays u else s) s

/-- Bit n of HALTED. -/
def State.heatHalted (s : State) (n : Nat) : Bool := s.fget F.PWR_THERM.HALTED / 2 ^ n % 2 = 1

/-- A halted array that nothing halts any more is IDLE again, on L0. -/
def State.unhalt (s : State) (n : Nat) : State :=
  if s.arrayState n = 4 ∧ s.rung = 0 ∧ !s.haltDue n ∧ !s.heatHalted n then s.fset (F.ARRAY_STATUS.STATE n) 1 else s

/-- Every halted array that may run does. -/
def State.unhaltAll (s : State) : State := (List.range 4).foldl State.unhalt s

/-! ## The input (R295) -/

/-- INPUT_LOW (R295). -/
def execInputLow (s : State) : Out :=
  .next (if s.power.inputLow || s.held then s
    else
      let s := { s with power := { s.power with inputLow := true }, tows := { s.tows with inputHalt := true } }
      let s := ((s.fset F.PWR_CAP.INPUT_LOW 1).logEntry 5 1 .environment .rail 0 0).count 13 4
      s.haltResting)

/-- INPUT_LOW_END (R295): the halted arrays resume. -/
def execInputLowEnd (s : State) : Out :=
  .next (if s.power.inputLow then
      let s := { s with power := { s.power with inputLow := false }, tows := { s.tows with inputHalt := false } }
      (s.fset F.PWR_CAP.INPUT_LOW 0).unhaltAll
    else s)

/-- INPUT_FATAL (R295). -/
def execInputFatal (s : State) : Out := .next (if s.held then s else s.fatal 5 0 true)

/-! ## CORE phases (R297) -/

/-- Spare phases that work, and how many of them serve (R296, R297): phases 24 and 25 are the spares. -/
def State.phaseSpares (s : State) : Nat × Nat :=
  let lost := (s.power.phases.filter (fun p => decide (p < 24))).length
  let good := 2 - (s.power.phases.filter (fun p => decide (24 ≤ p))).length
  (good, min lost good)

/-- Core current limit, mA: 16 A × the phases that carry, at most 24 (R296, R297). -/
def State.coreLimit (s : State) : Nat := 16000 * min 24 (26 - s.power.phases.length)

/-- PHASE_ISOLATION (R297, R340): PHASE_FAIL, a spare or a lower limit, a step of at most 15 mV; fewer than three working phases
are fatal. -/
def execPhaseIsolation (phase : Nat) (s : State) : Out :=
  ifOk (Instr.wf (.phaseIsolation phase))
    (if s.power.phases.contains phase || s.held || decide (3 ≤ s.rung) then s
     else
       let was := s.phaseSpares
       let s := { s with power := { s.power with phases := s.power.phases ++ [phase] } }
       let now := s.phaseSpares
       let s := (s.fset F.PWR_RAILS.CORE_PHASES (26 - s.power.phases.length)).fset F.PWR_RAILS.SPARES_USED now.2
       let s := (s.fset F.PWR_RAILS.PHASE_FAIL 1).fset F.RAS_SPARES.PHASES (now.1 - now.2)
       let s := s.count 13 0
       let s := if was.2 < now.2 ∨ now.1 < was.1 then s.spareIn 1 .rail phase 7 (decide (now.1 = now.2))
         else s.logEntry 4 1 .component .rail 0 phase
       let (d, s) := s.draw 31
       let s := s.fset F.PWR_PACE.CORE_MV (min 850 (max 550 (s.fget F.PWR_PACE.CORE_MV + d - 15)))
       if 26 < s.power.phases.length + 3 then s.fatal 0x0B phase false else s)

/-! ## The power manager (R298–R300) -/

/-- The pace floor in units of 10 M wavefronts/s (R298). -/
def State.paceFloor (s : State) : Nat := if s.rung = 2 then 50 else 114

/-- CAP in force, 0.1 W; 0 none (R312). -/
def State.capNow (s : State) : Nat :=
  let v := s.fget F.PWR_CAP.CAP
  if v = 0 then 0 else 10 * min 400 (max 100 v)

/-- REQ in force (R312). -/
def State.paceReq (s : State) : Nat :=
  let v := s.fget F.PWR_PACE.REQ
  if v = 0 then 150 else min 190 (max 114 v)

/-- What bounds the core voltage: the floor, the core current, the cap, in the order of R299. -/
structure PaceBound where
  floor : Bool
  phase : Bool
  cap : Bool
deriving DecidableEq, Repr

/-- The item that bounds the voltage (R299). -/
def State.paceBound (s : State) (slowest input current : Nat) : PaceBound :=
  let fl := decide (slowest ≤ s.paceFloor)
  let ph := !fl && decide (s.coreLimit ≤ current)
  { floor := fl, phase := ph, cap := !fl && !ph && decide (s.capNow ≠ 0) && decide (s.capNow ≤ input) }

/-- The voltage must rise, or must fall, for the readings of a step (R298, R299). -/
def State.paceMove (s : State) (slowest fastest input current : Nat) : Bool × Bool :=
  let b := s.paceBound slowest input current
  (decide (slowest < s.paceFloor) ||
     (!b.phase && !b.cap && decide (s.paceFloor < slowest) && decide (slowest < s.paceReq) && decide (fastest < 190)),
   decide (s.paceFloor < slowest) &&
     (decide (s.coreLimit < current) || (decide (s.capNow ≠ 0) && decide (s.capNow < input)) ||
      decide (s.paceReq < slowest) || decide (190 < fastest)))

/-- CORE_MV after a step of at most 10 mV toward where it must go; how far is not fixed by the manual (log 3). -/
def State.stepVoltage (s : State) (slowest fastest input current : Nat) : State :=
  let mv := s.fget F.PWR_PACE.CORE_MV
  if mv = 0 then
    let (d, s) := s.draw 301
    s.fset F.PWR_PACE.CORE_MV (550 + d)
  else
    let (d, s) := s.draw 11
    let m := s.paceMove slowest fastest input current
    s.fset F.PWR_PACE.CORE_MV (if m.1 then min 850 (mv + d) else if m.2 then max 550 (mv - d) else mv)

/-- Units of array n that work and are not halted for core current. -/
def State.haltable (s : State) : List Nat :=
  (List.range 4).filter (fun u => s.unitLead u && (s.unitArrays u).all (fun n => !s.tows.currentHalt.contains n) &&
    (s.unitArrays u).all (fun n => decide (1 ≤ s.arrayState n) && decide (s.arrayState n ≤ 4)))

/-- At the floor voltage and beyond the core current the highest unit halts; within it the lowest may be released, when is not
fixed by the manual (R299, log 3). -/
def State.currentHalts (s : State) (slowest current : Nat) : State :=
  if slowest ≤ s.paceFloor ∧ s.coreLimit < current then
    match s.haltable.reverse with
    | u :: _ => ({ s with tows := { s.tows with currentHalt := s.tows.currentHalt ++ s.unitArrays u } }).haltResting
    | [] => s
  else if s.tows.currentHalt ≠ [] ∧ current < s.coreLimit then
    let (d, s) := s.draw 2
    if d = 0 then s
    else match (List.range 4).find? (fun n => s.tows.currentHalt.contains n) with
      | some n =>
        ({ s with tows := { s.tows with currentHalt := s.tows.currentHalt.filter (fun m => !(s.unitArrays n).contains m) } }).unhaltAll
      | none => s
  else s

/-- A non-URGENT barge is running on some unit. -/
def State.backgroundRuns (s : State) : Bool :=
  s.tows.tows.any (fun t => t.phase.isRunning && t.inBarge && decide (t.cls ≠ 0))

/-- THROTTLED while the floor or the core current holds the voltage and the input exceeds the cap (R300). -/
def State.throttle (s : State) (slowest input current : Nat) : State :=
  let b := s.paceBound slowest input current
  let on := (b.floor || b.phase) && decide (s.capNow ≠ 0) && decide (s.capNow < input)
  let s := s.fset F.PWR_PACE.THROTTLED on.toNat
  let since := if on then some (s.tows.throttled.getD s.time.tb3) else none
  let miss := if on && !s.backgroundRuns then some (s.power.overSince.getD s.time.tb3) else none
  { s with tows := { s.tows with throttled := since }, power := { s.power with overSince := miss } }

/-- The counters of 10 µs steps (R351): whole ms cap-limited and throttled, whole J of input energy. -/
def State.powerCounts (s : State) (cap throttled : Bool) (input : Nat) : State :=
  let c := s.power.capSteps + cap.toNat
  let t := s.power.throttleSteps + throttled.toNat
  let e := s.power.energy + input
  let s := ((s.count 13 1 (c / 100)).count 13 2 (t / 100)).count 13 13 (e / 1000000)
  { s with power := { s.power with capSteps := c % 100, throttleSteps := t % 100, energy := e % 1000000 } }

/-- POWER_CAP commands complete 1 ms after their write with the pace achieved (R299). -/
def State.capDone (s : State) : State :=
  let due := s.power.capWaits.filter (fun w => decide (w.2 + 500000 ≤ s.time.tb3))
  let left := s.power.capWaits.filter (fun w => !decide (w.2 + 500000 ≤ s.time.tb3))
  let s := { s with power := { s.power with capWaits := left } }
  due.foldl (fun s w => s.complete 0x61 w.1 .done 0 0 (le 2 (s.fget F.PWR_PACE.ACHIEVED))) s

/-- The pace of an array reads 0 while it is GATED, HALTED, RELOADING or OUT_OF_SERVICE (R104). -/
def State.showPaces (s : State) (paces : List Nat) : State :=
  (List.range 4).foldl
    (fun s n => s.fset (paceField n) (if 1 ≤ s.arrayState n ∧ s.arrayState n ≤ 3 then min 255 (paces.getD n 0) else 0)) s

/-- POWER_MANAGER_STEP (R299): readings, the voltage, what bounds it, halts for current, the throttle, and what waits on it. -/
def execPowerManagerStep (paces : List Nat) (slowest fastest input current : Nat) (s : State) : Out :=
  .next (if 3 ≤ s.rung ∨ s.power.railsOff ∨ s.boot.resetLow then s
    else
      let s := ((s.showPaces paces).fset F.PWR_PACE.ACHIEVED (min 255 slowest)).fset F.PWR_CAP.INPUT (min 65535 input)
      let b := s.paceBound slowest input current
      let s := s.stepVoltage slowest fastest input current
      let s := ((s.fset F.PWR_PACE.FLOOR b.floor.toNat).fset F.PWR_PACE.PHASE_LIMITED b.phase.toNat).fset
        F.PWR_PACE.CAP_LIMITED b.cap.toNat
      let s := (s.currentHalts slowest current).throttle slowest input current
      (s.powerCounts b.cap (s.bit F.PWR_PACE.THROTTLED) input).capDone)

/-- CAP_MISS (R300): above the cap for 10 ms with every non-URGENT barge held. -/
def execCapMiss (s : State) : Out :=
  .next (match s.power.overSince with
    | some t =>
      if t + 5000000 ≤ s.time.tb3 then
        let s := { s with power := { s.power with overSince := some s.time.tb3 } }
        ((s.sticky F.PWR_CAP.CAP_MISS (some 5)).logEntry 4 1 .environment .rail 1 0).count 13 3
      else s
    | none => s)

/-- POWER_CAP (R299): CAP and REQ, each where it is not 0; a value its field does not hold is RANGE. -/
def execPowerCap (src : Src) (cap pace : Nat) (s : State) : Out :=
  .next (s.handle 0x61 src (fun s =>
    if 1023 < cap ∨ 255 < pace then s.refuse 0x61 src .range
    else
      let s := if cap = 0 then s else s.fset F.PWR_CAP.CAP cap
      let s := if pace = 0 then s else s.fset F.PWR_PACE.REQ pace
      { s with power := { s.power with capWaits := s.power.capWaits ++ [(src, s.time.tb3)] } }))

/-! ## Temperatures (R308, R309) -/

/-- The reading of a sensor, 1/16 °C. -/
def State.tempOf (s : State) (n : Nat) : Option Int :=
  if s.bit (F.PWR_TEMP.VALID n) then some (toSigned 16 (s.fget (F.PWR_TEMP.TEMP n))) else none

/-- Valid readings of the sensors from a to below b. -/
def State.tempsOf (s : State) (a b : Nat) : List (Nat × Int) :=
  (List.range (b - a)).filterMap (fun k => (s.tempOf (a + k)).map (fun t => (a + k, t)))

/-- The highest reading, the lowest sensor first. -/
def highest : List (Nat × Int) → Option (Nat × Int)
  | [] => none
  | p :: ps => some (ps.foldl (fun m q => if m.2 < q.2 then q else m) p)

/-- Sensors 48–51 lie outside 15–85 °C (R309). -/
def State.photonicOut (s : State) : Bool := (s.tempsOf 48 52).any (fun p => decide (1360 < p.2) || decide (p.2 < 240))

/-- The warning and its end below 90 °C (R309). -/
def State.judgeWarn (s : State) (tj : Int) (n : Nat) : State :=
  if 1520 ≤ tj ∧ !s.power.warm then
    let s := { s with power := { s.power with warm := true } }
    ((s.sticky F.PWR_THERM.WARN (some 5)).logEntry 4 1 .environment .sensor 0 n).count 13 5
  else if tj < 1440 then { s with power := { s.power with warm := false } }
  else s

/-- TJ, HOT and the warning (R309): TJ drops the fraction of a degree (log 36). -/
def State.judgeJunction (s : State) : State :=
  match highest (s.tempsOf 0 48) with
  | some (n, t) => ((s.fset F.PWR_THERM.TJ (ofSigned 8 (t / 16))).fset F.PWR_THERM.HOT n).judgeWarn t n
  | none => s

/-- PHOTONIC and PHOTONIC_OOR (R309). -/
def State.judgePhotonic (s : State) : State :=
  let s := match highest (s.tempsOf 48 52) with
    | some (_, t) => s.fset F.PWR_THERM.PHOTONIC (ofSigned 8 (t / 16))
    | none => s
  let bad := s.photonicOut
  let new := bad && !s.power.outOfRange
  let s := { s with power := { s.power with outOfRange := bad } }
  if new then ((s.fset F.PWR_THERM.PHOTONIC_OOR 1).logEntry 4 1 .environment .sensor 1 48).count 13 12 else s

/-- STACK_HOT at 95 °C, and the hold of stack access from 105 °C until below 95 °C (R309). -/
def State.judgeStacks (s : State) : State :=
  let ts := s.tempsOf 52 56
  let hot := ts.any (fun p => decide (1520 ≤ p.2))
  let hold := ts.any (fun p => decide (1680 ≤ p.2)) || (s.power.stackHeld && hot)
  (({ s with power := { s.power with stackHeld := hold } }).fset F.PWR_THERM.STACK_HOT hot.toNat)

/-- Since when every sensor of an array has been below 100 °C, kept as the TB3 count and 1, and 0 for not (R309, R310). -/
def State.judgeCool (s : State) (n : Nat) : State :=
  let cool := (s.tempsOf (10 * n) (10 * n + 10)).all (fun p => decide (p.2 < 1600))
  let was := spGet 0 s.power.coolSince n
  let now := if cool then (if was = 0 then s.time.tb3 + 1 else was) else 0
  let s := { s with power := { s.power with coolSince := spSet 0 s.power.coolSince n now } }
  if s.heatHalted n && decide (now ≠ 0) && decide (now - 1 + 50000000 ≤ s.time.tb3) then
    (s.fset F.PWR_THERM.HALTED (s.fget F.PWR_THERM.HALTED - 2 ^ n)).unhalt n
  else s

/-- Since when sensors 0–47 have read below 85 °C (R310); no reading at all is none. -/
def State.judgeCold (s : State) : State :=
  let ts := s.tempsOf 0 48
  let cold := !ts.isEmpty && ts.all (fun p => decide (p.2 < 85 * 16))
  { s with power := { s.power with coldSince := if cold then some (s.power.coldSince.getD s.time.tb3) else none } }

/-- Since when all four arrays have been halted for heat. -/
def State.judgeAllHalted (s : State) : State :=
  let since := if s.fget F.PWR_THERM.HALTED = 15 then some (s.power.hotSince.getD s.time.tb3) else none
  { s with power := { s.power with hotSince := since } }

/-- TEMPERATURE_READ (R308, R309): a sensor not listed reads invalid. -/
def execTemperatureRead (temps : List (Nat × Int)) (s : State) : Out :=
  .next
    (let s := (List.range 64).foldl (fun s n =>
       match temps.find? (fun p => p.1 = n) with
       | some p => (s.fset (F.PWR_TEMP.TEMP n) (ofSigned 16 p.2)).fset (F.PWR_TEMP.VALID n) 1
       | none => s.fset (F.PWR_TEMP.VALID n) 0) s
     let s := (((s.judgeJunction).judgePhotonic).judgeStacks).judgeCold
     ((List.range 4).foldl State.judgeCool s).judgeAllHalted)

/-- THERMAL_HALT (R309): an array with a sensor at 110 °C halts at its barge boundary. -/
def execThermalHalt (array : Nat) (s : State) : Out :=
  ifOk (Instr.wf (.thermalHalt array))
    (if s.hotArray array && s.atRest array then
       let s := match (s.unitArrays array).head? with | some u => s.haltArrays u | none => s
       s.judgeAllHalted
     else s)

/-- THERMAL_FATAL (R310): any of sensors 0–47 at 120 °C. -/
def execThermalFatal (s : State) : Out :=
  .next (match (s.tempsOf 0 48).find? (fun p => decide (1920 ≤ p.2)) with
    | some p => if s.held then s else s.fatal 6 p.1 true
    | none => s)

end Sys2Proof.Machine
end

