-- ==== Sys2Proof/Machine/Ladder.lean ====
section
/-!
DEFINITION. The ladder (R301–R307, R310): asking for a rung, the entry actions of a descent one rung at a time, what a rise
restores, the Moor touch-up and the wake sources.
-/

namespace Sys2Proof.Machine

/-! ## Asking for a rung (R302, R307) -/

/-- What refuses a deeper rung (R302): a lock cycle pending or running, a reload, a relief takeover. -/
def State.descentBlocked (s : State) : Bool :=
  s.lock.cycles.any (fun c => !c.berth) || s.boot.reload.isSome || s.takeover

/-- A descent or rise to a rung begins, with its cause (R302, R307). -/
def State.startMove (s : State) (goal cause : Nat) : State :=
  let s := { s with power := { s.power with goal := goal, moving := true } }
  (s.fset F.PWR_RUNG_STATE.MOVING 1).fset F.PWR_RUNG_STATE.CAUSE cause

/-- A wake source raises the module (R307): its code, the count, and the rise. -/
def State.wakeBy (s : State) (source goal : Nat) : State :=
  ((s.fset F.PWR_WAKE.LAST source).count 13 10).startMove goal 1

/-- The move has arrived: MOVING clears, and a RUNG_SET that waits completes with the rung reached (R289). -/
def State.arrive (s : State) : State :=
  if s.power.moving ∧ s.rung = s.power.goal then
    let cmd := s.power.cmd
    let s := ({ s with power := { s.power with moving := false, cmd := none } }).fset F.PWR_RUNG_STATE.MOVING 0
    match cmd with
    | some src => s.complete 0x60 src .done 0 0 (le 1 s.rung)
    | none => s
  else s

/-- The own checks and the effect of RUNG_SET (R302, R310): during a thermal stay in L1 it sets the rung reached afterwards. -/
def rungSet (src : Src) (rung : Nat) (s : State) : State :=
  if 5 < rung then s.refuse 0x60 src .range
  else if s.power.moving ∨ s.power.cmd.isSome then s.refuse 0x60 src .inProgress
  else if s.rung < rung ∧ s.descentBlocked then s.refuse 0x60 src .state
  else if s.bit F.PWR_THERM.THERM_RUNG then
    { s with power := { s.power with afterHeat := some rung, cmd := some src } }
  else if rung = s.rung then s.complete 0x60 src .done 0 0 (le 1 rung)
  else ({ s with power := { s.power with cmd := some src } }).startMove rung 0

/-- RUNG_SET (R302). -/
def execRungSet (src : Src) (rung : Nat) (s : State) : Out := .next (s.handle 0x60 src (rungSet src rung))

/-- The request that a write of PWR_RUNG_REQ.RUNG makes (R302, R307, R312). -/
def State.requestRung (s : State) (rung : Nat) : State :=
  if 5 < rung ∨ !s.active ∨ s.power.moving ∨ (s.rung < rung ∧ s.descentBlocked) then s.fset F.PWR_RUNG_REQ.REQ_ERR 1
  else if s.bit F.PWR_THERM.THERM_RUNG then { s with power := { s.power with afterHeat := some rung } }
  else if s.rung < rung then s.startMove rung 0
  else if rung < s.rung ∧ s.rung ≤ 3 then s.wakeBy 3 rung
  else s

/-- A write of PWR_RUNG_REQ: its fields, then the request; 6 and 7 leave RUNG as it was (R312). -/
def rungRequest (value : Word) (s : State) : State :=
  let old := s.fget F.PWR_RUNG_REQ.RUNG
  let r := fldOf value F.PWR_RUNG_REQ.RUNG
  let s := s.setWord 0x100000 (writeWord (rowsOf 0x100000) false value (s.word 0x100000))
  let s := if 5 < r then s.fset F.PWR_RUNG_REQ.RUNG old else s
  s.requestRung r

/-- RUNG_REQUEST_WRITE (R302). -/
def execRungRequestWrite (value : Word) (s : State) : Out := .next (s.hostWrite 0x100000 (rungRequest value))

/-! ## Parking and the mooring record (R302, R303) -/

/-- Every mirror not yet PARKED goes to its park drive and every path ends (R303); the move of at most 4.5 ms is over when the
command answers (log 37). -/
def State.parkAll (s : State) : State :=
  let s := s.steer.axes.foldl (fun s p =>
    if (s.axis p.1).st = 6 then s else s.modAxis p.1 (fun x => (parkAxis (s.park (axisSide p.1)) x).setSrc 0)) s
  ({ s with lock := { s.lock with paths := [], parking := [] }, fabric := { s.fabric with berths := [] } }).writeStanding

/-- The mooring record (R302): target and last drive code of every axis, the standing PEER array, the settle-model parameters in
force, LOCK_EPOCH. -/
def State.moor (s : State) : State :=
  let m : Mooring := { axes := s.steer.axes.map (fun p => (p.1, p.2.target, p.2.u)), peer := s.standing, settle := s.map.settle
                       epoch := s.fget F.LOCK_EPOCH.EPOCH }
  { s with power := { s.power with mooring := some m } }

/-- Something is still to be parked (R303): a standing path, or a mirror that does not rest on its park drive. -/
def State.unparked (s : State) : Bool :=
  match s.power.mooring with
  | some m => decide (m.peer ≠ []) || m.axes.any (fun a => decide (a.2.2 ≠ s.park (axisSide a.1)))
  | none => false

/-! ## Entry actions (R302) -/

/-- A rung has been entered: the stay begins, RAIL_OK, the RUNG event, the count (R290, R351). -/
def State.entered (s : State) (r : Nat) : State :=
  let old := s.rung
  let s := (s.setRung r).showRails
  (s.event 8 (le 1 old ++ le 1 r ++ le 1 (s.fget F.PWR_RUNG_STATE.CAUSE))).count 13 8

/-- What the entry to a rung loses is lost, on the way down and on the way up (R14, R335), and its image values come back where
their owner runs. -/
def State.descend (s : State) (r : Nat) : State := ((s.after 0 r).regain 0 r).entered r

/-- A berth cycle has opened and not closed. -/
def State.berthRuns (s : State) : Bool := s.lock.cycles.any (fun c => c.berth && c.opened.isSome)

/-- Running tows stop for L1 and are saved (R127), one that runs a barge at its boundary. -/
def State.haltTows (s : State) : State :=
  s.tows.tows.foldl (fun s t => if t.phase.isRunning && !t.inBarge then (s.saveTow t .halted).count 7 12 else s) s

/-- Entry to L1 (R302): pending berth cycles are cancelled, tows stop, running solves are abandoned, the arrays are gated. -/
def State.enterL1 (s : State) : State :=
  let s := (s.lock.cycles.filter (fun c => c.berth)).foldl (fun s c => s.abortPending c 0) s
  let s := { s with fabric := { s.fabric with pass := none } }
  (((s.haltTows.gateArrays).fset F.AUC_STATUS.IN_SERVICE 0).fset F.AUC_STATUS.BUSY 0).descend 1


/-- Entry to L2 (R302, R121, R232): tows end with RUNG, the service ports switch off; the comb stays lit for the tether alone. -/
def State.enterL2 (s : State) : State :=
  let s := s.freeUnits (fun _ => true)
  let s := s.tows.tows.foldl (fun s t => if t.space = sequencerSpace then s else s.finishTow t 7) s
  let s := s.gateArrays.descend 2
  let pairs := s.pairEn
  let s := s.unlockRings (fun r => !pairs || decide (r < 160))
  s.showPorts

/-- The tether stops (R216): no lane is locked or in use, and what waits for the partner waits no more. -/
def State.stopTether (s : State) : State :=
  let s := (s.fset F.TETHER_LANES.UP 0).fset F.TETHER_LANES.IN_USE 0
  let s := (s.fset F.TETHER_LANES.SPARE_USED 0).fset F.PAIR_STATUS.PARTNER 7
  let ws := s.pair.waits
  let s := { s with pair := { s.pair with peerLanes := [], lostLanes := [], waits := [], journal := [], early := [], copy := none } }
  let s := ws.foldl (fun s w => s.complete w.op w.src .done 0 w.detail w.result) s
  if s.active then s else s.setPair 0 9

/-- The cartridges are without 12 V (R232). -/
def State.cartsOff (s : State) : State :=
  bays.foldl (fun s b => (s.powerBay b false).setBay b 0) s

/-- Entry to L3 (R302, R303): the mooring record, parked first on the way to L4 or L5; control, tether, light, queues and PTP
stop. -/
def State.enterL3 (s : State) : State :=
  let s := if 4 ≤ s.power.goal then s.parkAll else s
  let s := ((s.moor).recordBoot).stopTether
  let s := (((s.cartsOff).unlockRings (fun _ => true)).fset F.RING_STATUS.SEARCH_DONE 0).holdTime
  let s := [0, 1].foldl (fun s h => s.setBeacon h 3) s
  let s := (List.range 15).foldl (fun s n => (s.fset (F.POUND_STATUS.STATE n) 0).fset (F.POUND_STATUS.LOADS n) 0) s
  ((s.descend 3).fset F.QP_CTRL.READY 0).showPorts

/-- Entry to L4 (R302): the keel copy is to be dumped before L5 (R349). -/
def State.enterL4 (s : State) : State :=
  let s := s.descend 4
  { s with boot := { s.boot with dumped := false } }

/-! ## What a rise restores (R304) -/

/-- An axis on return from L3 (R304, R49): of a standing path it runs closed loop on its recorded target from its recorded code;
any other rests PARKED on its recorded code. -/
def moored (standing : Bool) (target u : Half) (x : Axis) : Axis :=
  let x : Axis := { x with target := target, u := u, heldDrive := u }
  if standing then { ((x.setSt 0).setSrc 0).setMode 3 with d := 0, rejoin := true } else (x.setSt 6).setSrc 0

/-- Control starts from the mooring record (R304). -/
def State.unmoor (s : State) : State :=
  match s.power.mooring with
  | none => s
  | some m =>
    let lit := (pairMirrors m.peer).flatMap mirrorAxes
    let s := m.axes.foldl (fun s a => s.modAxis a.1 (moored (lit.contains a.1) a.2.1 a.2.2)) s
    let s := { s with lock := { s.lock with paths := m.peer.map (fun (p : Nat × Nat) => ({ a := p.1, b := p.2 } : Path)) }
                      map := { s.map with settle := m.settle } }
    (s.fset F.LOCK_EPOCH.EPOCH (max m.epoch (s.fget F.LOCK_EPOCH.EPOCH))).writeStanding

/-- Pounds, firmware and fixed blocks are loaded again from the image (R304, R390). -/
def State.reloadRise (s : State) : State :=
  let s := s.imageAll (fun off => ownerOf off = 16)
  let s := bootOrder.foldl (fun s n => s.bootPound n) s
  let r := s.boot.record
  let s := { s with lock := { s.lock with lastId := max s.lock.lastId r.lastId, lastPlan := max s.lock.lastPlan r.lastPlan
                                          seq := max s.lock.seq r.seq } }
  let s := match s.image with | some i => { s with map := { s.map with settle := i.settle } } | none => s
  s.fset F.LOCK_EPOCH.EPOCH (max r.epoch (s.fget F.LOCK_EPOCH.EPOCH))

/-- The rise to L2 (R304): control starts; stacks, queue pool, map, light and discovery follow on their own. -/
def State.riseL2 (s : State) : State :=
  let s := ((s.descend 2).reloadRise).unmoor
  let s := (s.gateArrays).fset F.AUC_STATUS.IN_SERVICE 0
  let s := { s with map := { s.map with reloading := true } }
  ((s.takePlan).identifyBays).showPorts

/-- The rise to L1: the service ports switch on again (R232). -/
def State.riseL1 (s : State) : State :=
  (s.descend 1).showPorts

/-- An array's state on L0 (R129). -/
def State.wakeArray (s : State) (n : Nat) : State :=
  if s.arrayState n = 6 ∨ s.arrayState n = 2 ∨ s.arrayState n = 3 then s
  else s.setArray n (if s.haltDue n || s.heatHalted n then 4 else 1)

/-- The rise to L0: the arrays and auction units run, and the tows that L1 stopped are ready (R127). -/
def State.riseL0 (s : State) : State :=
  let s := (((List.range 4).foldl State.wakeArray (s.entered 0))).auctionUp
  let s := s.fset F.PWR_THERM.THERM_RUNG 0
  { s with tows := { s.tows with tows := s.tows.tows.map (fun t => if t.phase = .halted then { t with phase := .ready } else t) } }

/-- One rung up. -/
def State.riseOne (s : State) : State :=
  match s.rung with
  | 1 => s.riseL0
  | 2 => s.riseL1
  | 3 => s.riseL2
  | _ => s.descend (s.rung - 1)

/-- RUNG_RISE (R304): one rung up toward the target. -/
def execRungRise (s : State) : Out :=
  .next (if s.power.moving ∧ s.power.goal < s.rung ∧ !s.held then (s.riseOne).arrive else s)

/-! ## Descents (R302) -/

/-- A RUNG_SET to L3 or deeper completes just before the queues are disabled (R289). -/
def State.completeEarly (s : State) (src : Src) : State :=
  ({ s with power := { s.power with cmd := none } }).complete 0x60 src .done 0 0 (le 1 s.power.goal)

/-- One rung down: L1 waits for a running berth cycle; L3 first completes the command that waits; L4 and L5 from a stay in L3
first rise to L2 to park (R303); L5 waits for the dump of the keel copy (R349). -/
def State.descendOne (s : State) : State :=
  match s.rung with
  | 0 => if s.berthRuns then s else s.enterL1
  | 1 => s.enterL2
  | 2 => (match s.power.cmd with | some src => s.completeEarly src | none => s.enterL3)
  | 3 => if s.unparked then s.riseL2 else s.enterL4
  | 4 => if s.boot.dumped then s.descend 5 else s
  | _ => s

/-- RUNG_DESCENT (R302): one rung down toward the target. -/
def execRungDescent (s : State) : Out :=
  .next (if s.power.moving ∧ s.rung < s.power.goal ∧ !s.held then (s.descendOne).arrive else s)

/-! ## The Moor touch-up (R306) -/

/-- MOOR_MIN in force, minutes (R312). -/
def State.moorMin (s : State) : Nat :=
  let v := s.fget F.PWR_RUNG_REQ.MOOR_MIN
  if v = 0 ∨ 10 < v then 10 else v

/-- Ticks of a touch-up, in counts of 2 ns at the L2 period (R306, R312). -/
def State.touchLen (s : State) : Nat := max 1 (s.fget F.PWR_RUNG_REQ.TOUCH_TICKS) * 8 * (10 * s.steer.period)

/-- An axis of a standing path is in open loop (R48). -/
def State.pathOpen (s : State) : Bool :=
  s.lock.paths.any (fun q => (pathAxes q.a q.b).any (fun a => (s.axis a).openLoop))

/-- MOOR_TOUCH_UP (R306): after MOOR_MIN minutes on L3 the rise to L2; after TOUCH_TICKS × 8 ticks the new codes and the return,
unless an axis of a lit path reached open loop. -/
def execMoorTouchUp (openLoop : Bool) (s : State) : Out :=
  .next (if s.held ∨ s.power.moving then s
    else if s.rung = 3 ∧ s.power.since + s.moorMin * 60 * 500000000 ≤ s.time.tb3 then
      ((s.fset F.PWR_RUNG_STATE.TOUCH 1).fset F.PWR_RUNG_STATE.CAUSE 3).riseL2
    else if s.rung = 2 ∧ s.bit F.PWR_RUNG_STATE.TOUCH then
      if openLoop || s.pathOpen then
        let s := (s.fset F.PWR_RUNG_STATE.TOUCH 0).count 13 9
        let s := { s with power := { s.power with touchAlert := true } }
        s.logEntry 5 1 .environment .rail 2 0
      else if s.power.since + s.touchLen ≤ s.time.tb3 then
        ((s.fset F.PWR_RUNG_STATE.TOUCH 0).count 13 9).enterL3
      else s
    else s)

/-! ## Wake sources and heat (R305, R307, R309, R310) -/

/-- Waiting is over for a wake: the module is below L0, not in a thermal stay, and not already on its way up to L0. -/
def State.mayWake (s : State) : Bool :=
  decide (1 ≤ s.rung) && !s.bit F.PWR_THERM.THERM_RUNG && !s.held && !(s.power.moving && decide (s.power.goal = 0))

/-- WAKE (R364, R307): a rising edge followed by 1 µs high. -/
def execWake (s : State) : Out := .next (if s.bit F.PWR_WAKE.PIN_EN && s.mayWake then s.wakeBy 1 0 else s)

/-- WAKE_TIMER (R307): TIMER seconds after entry to the present rung; 0 acts as 1. -/
def execWakeTimer (s : State) : Out :=
  .next (if s.bit F.PWR_WAKE.TIMER_EN && s.mayWake &&
       decide (s.power.since + max 1 (s.fget F.PWR_WAKE.TIMER) * 500000000 ≤ s.time.tb3) then s.wakeBy 4 0 else s)

/-- A command of R305. -/
def wakes : Instr → Bool
  | .towSubmit .. => true
  | .lockSchedule .. => true
  | .lockJoint .. => true
  | .mapCommit .. => true
  | .berthCheck .. => true
  | .poundReload .. => true
  | .cartSwap .. => true
  | _ => false

/-- COMMAND_WAKE (R305): a command taken on L1 or L2 needs what the rung has gated. -/
def execCommandWake (s : State) : Out :=
  .next (if s.bit F.PWR_WAKE.CMD_EN && decide (s.rung ≤ 2) && s.mayWake && s.taken.any wakes then s.wakeBy 2 0 else s)

/-- THERMAL_L1_ENTRY (R309): all four arrays halted for 100 ms; a running berth cycle closes first (R302). -/
def execThermalL1Entry (s : State) : Out :=
  .next (match s.power.hotSince with
    | some t =>
      if s.rung = 0 ∧ t + 50000000 ≤ s.time.tb3 ∧ !s.held ∧ !s.berthRuns then
        let cmd := s.power.cmd
        let goal := s.power.goal
        let after := if cmd.isSome then some goal else none
        let s := { s with power := { s.power with moving := false, afterHeat := after } }
        let s := ((s.fset F.PWR_RUNG_STATE.CAUSE 2).fset F.PWR_RUNG_STATE.MOVING 0).enterL1
        (s.fset F.PWR_THERM.THERM_RUNG 1).count 13 7
      else s
    | none => s)

/-- Sensors 0–39 have all stayed below 100 °C for 100 ms. -/
def State.cooled (s : State) : Bool :=
  (List.range 4).all (fun n =>
    decide (spGet 0 s.power.coolSince n ≠ 0) && decide (spGet 0 s.power.coolSince n - 1 + 50000000 ≤ s.time.tb3))

/-- THERMAL_RECOVERY (R310): back to L0, or to the rung a RUNG_SET asked for meanwhile. -/
def execThermalRecovery (s : State) : Out :=
  .next (if s.bit F.PWR_THERM.THERM_RUNG && s.cooled && decide (s.rung = 1) && !s.held then
      let goal := s.power.afterHeat.getD 0
      let s := { s.fset F.PWR_THERM.THERM_RUNG 0 with power := { s.power with afterHeat := none, hotSince := none } }
      (((s.fset F.PWR_WAKE.LAST 5).count 13 10).startMove goal 2).arrive
    else s)

end Sys2Proof.Machine
end

