-- ==== Sys2Proof/Machine/Journal.lean ====
section
/-!
DEFINITION. The pair's journal and copy as the partner applies them (R199–R207, R215): journal items, the order of messages,
copy and RETURN frames, repairs, the snapshot, eligibility.
-/

namespace Sys2Proof.Machine

/-! ## Applying a journal item (R204, R215) -/

/-- A schedule received (R85, R86): the cycle as the active accepted it, with the paths its plan changes. -/
def State.takeSchedule (s : State) (id rev planId tOpen : Nat) (single late joint : Bool) (jointId epoch : Nat) : State :=
  let old := s.cycle id
  let (new, rel) := s.askedChange { planId := planId, tOpen := tOpen, supersede := old.isSome, superId := id, joint := joint }
  let base : Cycle := match old with | some c => c | none => { id := id, planId := planId, tOpen := tOpen }
  let c : Cycle := { base with
    rev := rev, planId := planId, tOpen := tOpen, single := single, lateProof := late, joint := joint, jointId := jointId
    epoch := epoch, superseded := decide (0 < rev), released := rel
    paths := new.map (fun (p : Nat × Nat) => ({ a := p.1, b := p.2, phase := if base.slewTick = 0 then .opening else .slewing } : CPath)) }
  let s := if base.opened.isSome then s else s.dropBufs base.axes
  if old.isSome then s.modCycle id (fun _ => c)
  else { s with lock := { s.lock with cycles := s.lock.cycles ++ [c], lastId := max s.lock.lastId id } }

/-- An abort received: a cycle not yet open ends; one that has opened is aborting. -/
def State.takeAbort (s : State) (id : Nat) : State :=
  match s.cycle id with
  | none => s
  | some c =>
    if c.opened.isSome then s.modCycle id (fun c => { c with aborting := true, limited := true })
    else (((s.dropCycle id).dropBufs c.axes).releasePlan c.planId).recordBoot

/-- An opening received: the cycle's paths are dark, and its axes stand under it (R42, R97). -/
def State.takeOpened (s : State) (id tick tb0 : Nat) (late : Bool) : State :=
  match s.cycle id with
  | none => s
  | some c =>
    let s := { s with lock := { s.lock with paths := s.lock.paths.filter (fun q => !touches c.mirrors (q.a, q.b)) } }
    let s := c.moved.foldl (fun s a => s.modAxis a (s.lockAxis c a)) s
    (s.modCycle id (fun c =>
      { c with opened := some (tick, tb0), t3Open := s.t3Of c, extended := c.extended || late
               lateFrom := if late then some s.tickNs else none })).recordBoot

/-- A close received: proved paths stand, failed ones are DEGRADED, and the cycle is over. -/
def State.takeClosed (s : State) (id : Nat) : State :=
  match s.cycle id with
  | none => s
  | some c =>
    let lit := if c.aborting then [] else c.paths.filter (fun p => p.phase = .proved)
    let have_ := s.lock.paths.map (fun q => q.a)
    let new := (lit.filter (fun p => !have_.contains p.a)).map (fun (p : CPath) => ({ a := p.a, b := p.b } : Path))
    let s := { s with lock := { s.lock with paths := s.lock.paths ++ new } }
    let s := c.moved.foldl (fun s a => s.modAxis a (fun x => if x.src = 1 then x.setSrc 0 else x)) s
    (((s.dropCycle id).dropBufs c.axes).releasePlan c.planId).recordBoot

/-- The phase a journal code names (R65). -/
def codePhase (n : Nat) : Phase :=
  match n with | 0 => .opening | 1 => .slewing | 2 => .capturing | 3 => .proving | 4 => .proved | _ => .failed

/-- A path's phase received; a failed path stands DEGRADED (R69). -/
def State.takePhase (s : State) (a n : Nat) : State :=
  match s.running with
  | none => s
  | some c =>
    let s := s.modCycle c.id (fun c =>
      { c with slewTick := if n = 1 ∧ c.slewTick = 0 then s.steer.tick + 1 else c.slewTick
               paths := c.paths.map (fun p => if p.a = a then { p with phase := codePhase n, run := 0, since := 0, entered := s.steer.tick } else p) })
    match c.paths.find? (fun p => decide (p.a = a)) with
    | some p =>
      if n = 5 ∧ !s.lock.paths.any (fun q => decide (q.a = a)) then
        { s with lock := { s.lock with paths := s.lock.paths ++ [({ a := a, b := p.b, state := 6, announced := true } : Path)] } }
      else s
    | none => s

/-- A trajectory buffer received (R96). -/
def State.takeTraj (s : State) (b : TrajBuf) : State :=
  let s := { s with lock := { s.lock with bufs := spSet [] s.lock.bufs b.axis [b] } }
  { s with lock := { s.lock with cycles := s.lock.cycles.map (fun c =>
      if c.axes.contains b.axis then
        { c with computed := true, fallback := c.fallback || b.fallback, twoWaves := c.twoWaves || b.wave2
                 wave2Tick := if b.wave2 then (if c.wave2Tick = 0 then b.start else min c.wave2Tick b.start) else c.wave2Tick }
      else c) } }

/-- A library entry received (R172). -/
def State.takePlanEntry (s : State) (i : Nat) (e : PlanEntry) : State :=
  { s with lock := { s.lock with lib := spSet {} s.lock.lib i e } }

/-- Words of the register file that are mirrored settings (R205). -/
def State.mirroredWords (s : State) : List (Nat × Word) := s.regs.filter (fun p => mirrored p.1 && !isAxisFlags p.1)

/-- What the start of a snapshot discards: everything the snapshot brings (R215). The mirrored settings stay until its end, when those
it has not brought take their reset values. -/
def State.beginSnapshot (s : State) : State :=
  { s with steer := { s.steer with rep := s.steer.rep.filter (fun p => s.pair.snapKeys.contains p.1) }
           map := { s.map with work := [] }
           lock := { s.lock with lib := [], cycles := [], bufs := [] }
           fabric := { s.fabric with ports := [], plan := [] }
           pair := { s.pair with snapshot := false, snapshotDone := false, compat := [], snapSet := s.mirroredWords.map (fun p => p.1)
                                 snapCls := s.steer.axes.map (fun p => p.1) } }

/-- The end of a snapshot: a setting it has not brought stands at its reset value on the active (R215), and the count of copy frames
begins (R209). -/
def State.endSnapshot (s : State) : State :=
  let s := s.pair.snapSet.foldl (fun s off => s.setWord off (resetWord off)) s
  let s := s.pair.snapCls.foldl (fun s a => s.takeClass a 0) s
  { s with pair := { s.pair with snapshotDone := true, copyRun := 0, snapSet := [], snapCls := [] } }

/-- The snapshot has brought a setting or a CLASS. -/
def State.brought (s : State) (it : JItem) : State :=
  match it with
  | .setting off _ | .reloaded off _ => { s with pair := { s.pair with snapSet := s.pair.snapSet.filter (fun o => decide (o ≠ off)) } }
  | .axisClass a _ | .reloadedClass a _ => { s with pair := { s.pair with snapCls := s.pair.snapCls.filter (fun o => decide (o ≠ a)) } }
  | _ => s

/-- A journal item takes effect on the partner (R204, Table: Journal contents). -/
def State.takeItem (s : State) (it : JItem) : State :=
  match it with
  | .schedule id rev planId tOpen single late joint jointId epoch => s.takeSchedule id rev planId tOpen single late joint jointId epoch
  | .abort id => s.takeAbort id
  | .opened id tick tb0 late => s.takeOpened id tick tb0 late
  | .closed id _ => s.takeClosed id
  | .counters cycleId planId => ({ s with lock := { s.lock with lastId := cycleId, lastPlan := planId } }).recordBoot
  | .planEntry slot planId state source approx score portGen tInsert peer proof =>
    s.takePlanEntry slot { planId := planId, state := state, source := source, approx := approx, score := score, portGen := portGen,
                           tInsert := tInsert, peer := peer, proof := proof }
  | .traj b => s.takeTraj b
  | .pathPhase a phase => s.takePhase a phase
  | .mapEntry index e =>
    { s with map := { s.map with work := spSet 0 s.map.work index e
                                 dirty := if s.map.dirty.contains index then s.map.dirty else s.map.dirty ++ [index] } }
  | .portState port state reason =>
    s.modPort port (fun x => { x with state := state, reason := reason, queued := x.queued && decide (state = 1) })
  | .portGen gen => s.fset F.PORT_GEN.GEN gen
  | .livePlan entry value => { s with fabric := { s.fabric with plan := spSet 0 s.fabric.plan entry value } }
  | .epoch epoch => (s.fset F.LOCK_EPOCH.EPOCH epoch).recordBoot
  | .noticeSeq seq => { s with lock := { s.lock with seq := seq } }
  | .settle version => { s with map := { s.map with settle := version } }
  | .setting _ _ | .axisClass _ _ | .reloaded _ _ | .reloadedClass _ _ => (s.brought it).queueSetting it
  | .compat l => { s with pair := { s.pair with compat := l } }
  | .rep axis k v => { s with steer := { s.steer with rep := spSet 0 s.steer.rep (2048 * axis + k) v } }
  | .repaired seq mask =>
    (match s.pair.gap with
     | some (q, m, _) =>
       if q = seq ∧ m &&& mask = m then ({ s with pair := { s.pair with gap := none } }).count 3 5 else s
     | none => s)
  | .snapshotStart => s.beginSnapshot
  | .snapRep axis k v =>
    if s.pair.snapKeys.contains (2048 * axis + k) then s
    else { s with steer := { s.steer with rep := spSet 0 s.steer.rep (2048 * axis + k) v } }
  | .snapshotEnd => s.endSnapshot

/-- a comes before or at b in the order of 32-bit sequence numbers. -/
def seqLe (a b : Nat) : Bool := decide ((b + 2 ^ 32 - a % 2 ^ 32) % 2 ^ 32 < 2 ^ 31)

/-- The message with this number has been applied. -/
def State.appliedUpTo (s : State) (n : Nat) : State :=
  ({ s with pair := { s.pair with applied := n, owed := s.pair.owed.filter (fun m => !seqLe m.1 n) } }).count 3 4

/-- Held messages whose turn has come are applied (R204). -/
def State.drainEarly : Nat → State → State
  | 0, s => s
  | n + 1, s =>
    let next := (s.pair.applied + 1) % 2 ^ 32
    match s.pair.early.find? (fun m => m.1 = next) with
    | some m =>
      let s := { s with pair := { s.pair with early := s.pair.early.filter (fun x => decide (x.1 ≠ next)) } }
      State.drainEarly n ((s.takeItem m.2).appliedUpTo next)
    | none => s

/-- A module that takes copies: RESYNCING, STANDBY or INELIGIBLE. -/
def State.follows (s : State) : Bool := [1, 2, 4].contains (s.fget F.PAIR_STATUS.STATE)

/-- A journal message (R204): applied in its turn, held when early, ignored when it has been applied. A snapshot that was asked
for begins with its first message; earlier ones are part of it (R215). -/
def takeJournal (seq : Nat) (it : JItem) (s : State) : State :=
  if !s.follows then s
  else if s.pair.snapshot then
    if it = .snapshotStart then
      let s := { s with pair := { s.pair with early := s.pair.early.filter (fun m => seqLe seq m.1 && decide (m.1 ≠ seq)) } }
      State.drainEarly s.pair.early.length ((s.takeItem it).appliedUpTo seq)
    else { s with pair := { s.pair with early := s.pair.early.filter (fun m => decide (m.1 ≠ seq)) ++ [(seq, it)] } }
  else if seq = (s.pair.applied + 1) % 2 ^ 32 then State.drainEarly s.pair.early.length ((s.takeItem it).appliedUpTo seq)
  else if seqLe seq s.pair.applied then s
  else { s with pair := { s.pair with early := s.pair.early.filter (fun m => decide (m.1 ≠ seq)) ++ [(seq, it)] } }

/-- JOURNAL (R204). -/
def execJournal (seq : Nat) (item : JItem) (s : State) : Out :=
  .next (if s.rung ≤ 2 then takeJournal seq item s else s)

/-! ## Resynchronisation (R194, R209, R215) -/

/-- RESYNCING begins: TB2 steps to the active's, and a snapshot is asked for (R194, R209, R215). -/
def State.resync (s : State) : State :=
  let b := s.time.tb2
  let s := { s with time := { s.time with tb2 := { b with t := (Int.ofNat b.t + b.offset * 10 ^ 12).toNat, offset := 0, f := 0, rate := 0 }
                                          tb2Free := false } }
  let s := { s with pair := { s.pair with snapshot := true, snapshotDone := false, snapKeys := [], copyRun := 0, gap := none
                                          early := [], claiming := false, owed := [], due := [], sentRet := [], numbered := false
                                          tickAt := none } }
  (s.setPair 1 0).fset F.PAIR_STATUS.ORPHANED 0

/-- The phase of a path of the running cycle, as the snapshot sends it (R215). -/
def phaseItem (p : CPath) : JItem :=
  .pathPhase p.a
    (match p.phase with | .opening => 0 | .slewing => 1 | .capturing => 2 | .proving => 3 | .proved => 4 | .failed => 5)

/-- The items of a resync snapshot (R215). -/
def State.snapshotItems (s : State) : List JItem :=
  let compat := match s.image with | some i => i.compat | none => []
  let cycles := s.lock.cycles.filter (fun c => !c.berth)
  let parts : List (List JItem) :=
    [ [.snapshotStart, .compat compat],
      s.map.work.map (fun p => .mapEntry p.1 p.2),
      s.lock.lib.map (fun p => p.2.item p.1),
      [.settle s.map.settle, .counters s.lock.lastId s.lock.lastPlan, .epoch (s.fget F.LOCK_EPOCH.EPOCH), .noticeSeq s.lock.seq],
      cycles.map (fun c => .schedule c.id c.rev c.planId c.tOpen c.single c.lateProof c.joint c.jointId c.epoch),
      cycles.flatMap (fun c => match c.opened with | some o => [.opened c.id o.1 o.2 c.lateFrom.isSome] | none => []),
      (match s.running with | some c => c.paths.map phaseItem | none => []),
      s.lock.bufs.flatMap (fun p => p.2.map (fun b => .traj b)),
      s.mirroredWords.map (fun p => .setting p.1 p.2),
      s.steer.axes.map (fun p => .axisClass p.1 p.2.cls),
      s.fabric.ports.map (fun p => .portState p.1 p.2.state p.2.reason),
      s.fabric.plan.map (fun p => .livePlan p.1 p.2),
      [.portGen (s.fget F.PORT_GEN.GEN)],
      s.steer.rep.map (fun p => .snapRep (p.1 / 2048) (p.1 % 2048) p.2),
      [.snapshotEnd] ]
  parts.flatten

/-- The ACTIVE module sends the snapshot (R215). -/
def State.sendSnapshot (s : State) : State := s.snapshotItems.foldl State.sendJournal s

/-! ## Eligibility (R207) -/

/-- The value stands in the compatibility list: kind 0 an image hash, 1 a firmware version (R329). -/
def State.compatible (s : State) (kind v : Nat) : Bool := s.pair.compat.contains (kind, v)

/-- A message the active has sent is not applied 8 ticks after this module first heard of it (R204). -/
def State.owesGap (s : State) : Bool := s.pair.owed.any (fun m => decide (8 < (s.steer.tick + 2 ^ 32 - m.2) % 2 ^ 32))

/-- The first condition of R207 that holds: IMAGE, FIRMWARE, TIME, GAP of R204; the GAP of R206 comes with its own time. -/
def State.ineligible (s : State) : Option Nat :=
  if s.pair.partnerHash ≠ s.imageHash && !s.compatible 0 s.imageHash then some 3
  else if s.pair.partnerFw ≠ s.fwVersion && !s.compatible 1 s.fwVersion then some 4
  else if 65536000 < s.time.tb2.offset.natAbs then some 5
  else if s.owesGap then some 6
  else none

/-- A STANDBY module becomes INELIGIBLE (R207, R209). -/
def State.becomeIneligible (s : State) (reason : Nat) : State :=
  let s := if s.standby then s.logEntry 4 3 .link .module reason 0 else s
  (s.setPair 4 reason).count 3 12

/-- INELIGIBLE_ENTRY (R207, R209). -/
def execIneligibleEntry (s : State) : Out :=
  .next (match s.ineligible with
    | some r =>
      if s.standby then s.becomeIneligible r
      else if s.fget F.PAIR_STATUS.STATE = 1 ∧ r ≤ 4 then s.becomeIneligible r else s
    | none => s)

/-- INELIGIBLE_RESYNC (R209): TIME and GAP at the next tick; IMAGE and FIRMWARE once removed. -/
def execIneligibleResync (s : State) : Out :=
  .next (if s.fget F.PAIR_STATUS.STATE = 4 then
      let r := s.fget F.PAIR_STATUS.REASON
      if r = 5 ∨ r = 6 then s.resync
      else if s.ineligible = some 3 ∨ s.ineligible = some 4 then s else s.resync
    else s)

/-- TETHER_UP (R209): the partner's frames show ACTIVE. -/
def execTetherUp (s : State) : Out :=
  .next (if s.fget F.PAIR_STATUS.STATE = 0 && s.tetherOn && decide (s.fget F.PAIR_STATUS.PARTNER = 3) && s.cores && !s.held then s.resync else s)

/-- SNAPSHOT_COMPLETE (R215, R209): the whole snapshot, then 8 copy frames in a row, and R207 passes. -/
def execSnapshotComplete (s : State) : Out :=
  .next (if s.fget F.PAIR_STATUS.STATE = 1 ∧ s.pair.snapshotDone ∧ 8 ≤ s.pair.copyRun ∧ s.ineligible = none then
      (s.setPair 2 0).count 3 13
    else s)

/-! ## Heartbeats (R199–R203, R206, R216) -/

/-- A valid frame says what the partner is, and its receipt is noted for the next frame sent (R199, R200). -/
def State.takeHeader (s : State) (f : FrameHeader) (at_ : Nat) : State :=
  let s := s.fset F.PAIR_STATUS.PARTNER f.state
  { s with pair := { s.pair with partnerHash := f.imageHash, partnerFw := f.fw, rxAt := at_, rxSeq := f.seq } }

/-- The heartbeat of the tick has arrived (R201): MISSED is 0. -/
def State.heartbeat (s : State) : State :=
  let s := s.fset F.PAIR_STATUS.MISSED 0
  { s with pair := { s.pair with beat := true } }

/-- TB2 of the active less this module's, in 2^-16 ns, by the two-way stamps of a copy frame that arrived at this TB2 count (R194): with
the RETURN frame it answers; before the active has had one, by the copy frame alone (log 72). -/
def State.twoWay (s : State) (f : FrameHeader) (at_ : Nat) : Int :=
  let back : Int := (f.tTx : Int) - at_
  match s.pair.sentRet.find? (fun r => decide (r.1 = f.seqRxPeer)) with
  | some r => (((f.tRxPeer : Int) - r.2) + back) * 32768
  | none => back * 65536

/-- The offset of TB2 to the active's (R194): a STANDBY module steers by it, with shifts 2 and 6, while TB_CTRL[2].EN is set. -/
def State.tb2Sample (s : State) (o : Int) : State :=
  let b := { s.time.tb2 with offset := o, last := o }
  { s with time := { s.time with tb2 := if s.standby && s.bit (F.TB_CTRL.EN 2) then b.servo 2 6 o (max 1 s.periodNs) else b } }

/-- The TB3 count of the active's tick of a copy frame, whose first bit left at that tick (R202, log 72). -/
def State.activeTick (s : State) (f : FrameHeader) : Nat :=
  let ago : Int := (s.time.tb2.ns : Int) - ((f.tTx : Int) - s.time.tb2.offset / 65536)
  ((s.time.tb3 : Int) - ago / 2).toNat

/-- One rung toward another, entered at once. -/
def State.rungToward (s : State) (r : Nat) : State :=
  if r < s.rung then s.riseOne else if s.rung < r then (if s.rung = 0 then s.enterL1 else s.enterL2) else s

/-- The active announces its rung (R216): a standby enters the same rung at the tick of the frame, on L0–L2; L3 or deeper detaches the
partner. -/
def State.followRung (s : State) (r : Nat) : State :=
  if 3 ≤ r then s.setPair 0 9
  else if s.standby && !s.power.moving && decide (s.rung ≠ r) then
    let s := if r < s.rung then ((s.fset F.PWR_WAKE.LAST 6).count 13 10).fset F.PWR_RUNG_STATE.CAUSE 1 else s.fset F.PWR_RUNG_STATE.CAUSE 0
    (s.rungToward r).rungToward r
  else s

/-- HANDOVER_REQ is offered to a STANDBY or INELIGIBLE module (R209, R212): it claims in the next frame. -/
def State.takeOffer (s : State) (req : Bool) : State :=
  if req && [2, 4].contains (s.fget F.PAIR_STATUS.STATE) then
    ({ s with pair := { s.pair with claiming := true, takeover := true, planned := true, grantA := false, grantB := false
                                    continueDue := true } }).count 3 6
  else s

/-- A STANDBY module hears of journal messages it has not applied (R204). -/
def State.noteOwed (s : State) (n : Nat) : State :=
  if s.standby && !seqLe n s.pair.applied && !s.pair.owed.any (fun m => decide (m.1 = n)) then
    { s with pair := { s.pair with owed := s.pair.owed ++ [(n, s.steer.tick)] } }
  else s

/-- The frame is of the present tick (R201), or the module has not yet taken the active's numbering. -/
def State.ofTick (s : State) (seq : Nat) : Bool := !s.follows || !s.pair.numbered || decide (seq = s.steer.tick)

/-- COPY_FRAME (R199, R203): the heartbeat of the active, loaded at the next tick boundary. A frame of another tick is no heartbeat, and
only what it says of the partner is taken (log 72). -/
def execCopyFrame (f : CopyFrame) (since : Nat) (s : State) : Out :=
  .next (if !f.ok || decide (3 ≤ s.rung) || s.active then s
    else
      let at_ := s.time.tb2.ns - 2 * since
      let ours := s.ofTick f.seq
      let o := s.twoWay f.toFrameHeader at_
      let s := s.takeHeader f.toFrameHeader at_
      if !ours then s
      else
        let s := (s.heartbeat).tb2Sample o
        if s.follows then
          let s := { s with pair := { s.pair with copy := some f, tickAt := some (s.activeTick f.toFrameHeader) } }
          ((s.noteOwed f.journalSeq).followRung f.rung).takeOffer f.handoverReq
        else s)

/-- SEQ of the last copy frame received. -/
def State.lastReceived (s : State) : Nat := match s.pair.copy with | some f => f.seq | none => s.pair.lastCopy

/-- A STANDBY module notes a lost copy frame for repair (R206). -/
def State.noteGap (s : State) : State :=
  let n := (s.lastReceived + s.fget F.PAIR_STATUS.MISSED) % 2 ^ 32
  match s.pair.gap with
  | none => { s with pair := { s.pair with gap := some (n, 1, s.steer.tick) } }
  | some (q, m, t) =>
    let k := (n + 2 ^ 32 - q) % 2 ^ 32
    if k < 8 then { s with pair := { s.pair with gap := some (q, m ||| 2 ^ k, t) } } else s

/-- HEARTBEAT_MISSED (R201): no heartbeat of the tick has arrived. -/
def execHeartbeatMissed (s : State) : Out :=
  .next (if s.pair.beat || decide (3 ≤ s.rung) then s
    else if s.follows || s.active then
      let s := (s.fadd F.PAIR_STATUS.MISSED 1).count 3 2
      let s := { s with pair := { s.pair with copyRun := 0 } }
      if s.standby then s.noteGap else s
    else s)

/-- What waits for a partner's acknowledgement completes. -/
def State.finishWaits (s : State) (p : Wait → Bool) : State :=
  let due := s.pair.waits.filter p
  let s := { s with pair := { s.pair with waits := s.pair.waits.filter (fun w => !p w) } }
  let s := if due.any (fun w => decide (w.op = 0x12)) then s.fset F.MAP_STATUS.COMMIT_BUSY 0 else s
  due.foldl (fun s w => s.complete w.op w.src .done 0 w.detail w.result) s

/-- HEARTBEAT_LOSS (R209, R212): three in a row missed. -/
def execHeartbeatLoss (s : State) : Out :=
  .next (if s.fget F.PAIR_STATUS.MISSED < 3 then s
    else match s.fget F.PAIR_STATUS.STATE with
      | 2 =>
        if s.pair.claiming then s
        else
          let s := { s with pair := { s.pair with claiming := true, takeover := true, planned := false, grantA := false, grantB := false
                                                  gap := none, continueDue := true } }
          (s.logEntry 5 3 .link .module 0 0).count 3 6
      | 1 => (s.logEntry 5 3 .link .module 1 0).setPair 0 7
      | 4 => (s.logEntry 5 3 .link .module 1 0).setPair 0 7
      | 3 =>
        if s.fget F.PAIR_STATUS.PARTNER = 7 then s
        else
          let s := (s.fset F.PAIR_STATUS.PARTNER 7).pairEvent 3
          ({ s with pair := { s.pair with journal := [] } }).finishWaits (fun _ => true)
      | _ => s)

/-! ## RETURN frames, repair and resending (R200, R204, R206) -/

/-- The repetitive-memory entries that the copy frame of tick q wrote, with their present values (R206). -/
def State.repairItems (s : State) (q : Nat) : List JItem :=
  match s.pair.written.find? (fun w => decide (w.1 = q)) with
  | some w => w.2.map (fun e => .rep e.1 e.2 (s.repAt e.1 e.2))
  | none => []

/-- The ACTIVE module answers a repair request (R206): the entries of each lost frame, then that they are all sent. -/
def State.answerRepair (s : State) (seq mask : Nat) : State :=
  let lost := (List.range 8).filter (fun n => mask / 2 ^ n % 2 = 1)
  let items := lost.flatMap (fun n => s.repairItems ((seq + n) % 2 ^ 32))
  (items.foldl State.sendJournal s).sendJournal (.repaired seq mask)

/-- RETURN_FRAME (R200): the partner's heartbeat; what it has applied is acknowledged, what it asks for is sent. -/
def execReturnFrame (f : ReturnFrame) (s : State) : Out :=
  .next (if !f.ok || !s.active || decide (3 ≤ s.rung) then s
    else
      let was := s.fget F.PAIR_STATUS.PARTNER
      let s := s.takeHeader f.toFrameHeader s.time.tb2.ns
      let s := if f.seq = s.steer.tick then s.heartbeat else s
      let s := { s with pair := { s.pair with journal := s.pair.journal.filter (fun m => !seqLe m.seq f.journalSeq) } }
      let s := s.finishWaits (fun w => decide (f.state ≠ 2) || seqLe w.seq f.journalSeq)
      let s := if f.repairMask = 0 then s else s.answerRepair f.repairSeq f.repairMask
      if f.state = 1 ∧ was ≠ 1 then s.sendSnapshot else s)

/-- JOURNAL_RESEND (R204): every message not acknowledged within 8 ticks of its last sending; a STANDBY partner that has not
acknowledged within 8 ticks of the first becomes INELIGIBLE, and the command completes. On the STANDBY module itself it is INELIGIBLE
with reason GAP. -/
def execJournalResend (s : State) : Out :=
  .next (if s.active && s.attached then
      let late := fun (m : JMsg) => decide (8 ≤ (s.steer.tick + 2 ^ 32 - m.sentTick) % 2 ^ 32)
      let due := s.pair.journal.filter late
      let s1 := { s with pair := { s.pair with journal := s.pair.journal.map (fun m => if late m then { m with sentTick := s.steer.tick } else m) } }
      let s1 := due.foldl (fun s m => s.emit (.journal { s.frameHead with tTx := s.time.tb2.ns } { m with sentTick := s.steer.tick })) s1
      let gone := fun (w : Wait) => decide (8 < (s1.steer.tick + 2 ^ 32 - w.tick) % 2 ^ 32)
      if s1.pair.waits.any gone then (s1.fset F.PAIR_STATUS.PARTNER 4).finishWaits (fun _ => true) else s1
    else if s.standby && s.owesGap then s.becomeIneligible 6
    else s)

/-- REPAIR_REQUEST (R206): the ACTIVE module answers; a STANDBY module repeats it in every RETURN frame until it is met. -/
def execRepairRequest (seq mask : Nat) (s : State) : Out :=
  .next (if s.active then (if mask = 0 then s else s.answerRepair seq (mask % 256))
    else if s.standby && s.pair.gap.isNone && decide (mask ≠ 0) then
      { s with pair := { s.pair with gap := some (seq % 2 ^ 32, mask % 256, s.steer.tick) } }
    else s)

/-- REPAIR_TIMEOUT (R206). -/
def execRepairTimeout (s : State) : Out :=
  .next (match s.pair.gap with
    | some (_, _, t) =>
      if s.standby ∧ 8 ≤ (s.steer.tick + 2 ^ 32 - t) % 2 ^ 32 then
        ({ s with pair := { s.pair with gap := none } }).becomeIneligible 6
      else s
    | none => s)

end Sys2Proof.Machine
end

