-- ==== Sys2Proof/Machine/Pair.lean ====
section
/-!
DEFINITION. The windlass (R208–R214): what the heads' trailers say, claims and grants, handovers, cold claims, and the lock
cycle a new active continues.
-/

namespace Sys2Proof.Machine

/-! ## Being granted, refused, deposed (R209, R211) -/

/-- Held results are discarded: the module's codes are sent no more. -/
def State.dropCodes (s : State) : State := { s with steer := { s.steer with held := [] } }

/-- The module is ACTIVE by head A's grant (R209, R211): its cycles carry HANDOVER and are to be continued (R214), port checks
run again, and TOOK_OVER is set where it takes over. -/
def State.becomeActive (s : State) (takeover : Bool) : State :=
  let s := { s with pair := { s.pair with grantA := true, copy := none, tickAt := none, gap := none, snapshot := false, owed := []
                                          continueDue := s.pair.continueDue && takeover } }
  let s := if takeover then
      let s := (s.fset F.PAIR_STATUS.TOOK_OVER 1).count 3 8
      { s with lock := { s.lock with cycles := s.lock.cycles.map (fun c => { c with handover := true }) } }
    else s
  let s := (s.fabric.ports.filter (fun p => p.2.checking)).foldl (fun s p => s.endCheck p.1 true) s
  (((s.setPair 3 0).fset F.PAIR_STATUS.COPY_AGE 0).fset F.PAIR_STATUS.ORPHANED 0).recordBoot

/-- A command that waits for grants, of a planned release or a cold claim, completes (R212, R213). -/
def State.handoverDone (s : State) (ok : Bool) : State :=
  let cmds := (match s.pair.releasing with | some r => [r.2] | none => []) ++ s.pair.cold.toList
  let s := { s with pair := { s.pair with releasing := none, parting := false, cold := none, coldStep := 0, heldCodes := [], heldFrom := [] } }
  cmds.foldl (fun s src => if ok then s.complete 0x91 src .done else s.complete 0x91 src .failed Reason.grant.code) s

/-- A claim is refused (R209, R211): DETACHED with reason REFUSED; after heartbeat loss with a severity 5 entry. -/
def State.claimRefused (s : State) : State :=
  let loss := s.pair.takeover && s.standby
  let s := ({ s with pair := { s.pair with claiming := false, takeover := false, planned := false, continueDue := false, token := none
                                           grantA := false, grantB := false } }).dropCodes
  let s := if loss then s.logEntry 5 3 .link .module 2 0 else s
  ((s.setPair 0 2).count 3 7).handoverDone false

/-- Head A has granted a cold claim (R213): the cycles held are discarded without notices, the standing entry stays, COLD is set. -/
def State.coldGranted (s : State) : State :=
  let used := s.lock.cycles.map (fun c => c.planId)
  let s := { s with lock := { s.lock with cycles := [], bufs := [], parking := [] } }
  let s := used.foldl State.releasePlan s
  let s := (s.becomeActive true).fset F.PAIR_STATUS.COLD 1
  (((s.pairEvent 3).msix 2).writeStanding).recordBoot

/-- Head A's answer to a claim (R211): GRANTED with the token; a refusal; no answer, and the next frame claims again. -/
def State.answerA (s : State) (t : Trailer) : State :=
  if t.result = 1 then
    let back := s.pair.releasing.isSome
    let s := { s with pair := { s.pair with token := some t.token } }
    let s := (if s.pair.cold.isSome then s.coldGranted else s.becomeActive s.pair.takeover).count 1 7
    if back then s.handoverDone false else s
  else if t.result = 2 ∨ t.result = 3 then s.claimRefused
  else s

/-- Head B's answer to a token presented (R211): granted, the claim is over; refused, a planned handover fails (R212), and any other
claim presents again in the next frame. -/
def State.answerB (s : State) (t : Trailer) : State :=
  if t.result = 1 then
    let s := { s with pair := { s.pair with grantB := true, claiming := false, takeover := false, planned := false, token := none } }
    let s := s.count 1 15
    match s.pair.cold with | some _ => s.handoverDone true | none => s
  else if (t.result = 2 ∨ t.result = 3) ∧ s.pair.planned then s.claimRefused
  else s

/-- The ACTIVE module is deposed (R209): it stops sending codes to both heads at once. -/
def State.deposed (s : State) : State :=
  let s := ({ s with pair := { s.pair with claiming := false, grantA := false, grantB := false, token := none } }).dropCodes
  let s := ((s.logEntry 6 3 .control .module 3 0).setPair 0 8).handoverDone false
  ({ s with pair := { s.pair with journal := [] } }).finishWaits (fun _ => true)

/-- ORPHANED (R209): both heads name another holder, and it is not driving; a DETACHED or INELIGIBLE module only. -/
def State.judgeOrphan (s : State) : State :=
  let st := s.fget F.PAIR_STATUS.STATE
  let alone := fun (h : Head) => s.otherHolder h && !s.holderDrives h
  let on := (decide (st = 0) || decide (st = 4)) && !s.pair.claiming && alone s.pair.headA && alone s.pair.headB
  if on = s.bit F.PAIR_STATUS.ORPHANED then s
  else if on then (((s.fset F.PAIR_STATUS.ORPHANED 1).logEntry 6 3 .control .module 4 0).pairEvent st).msix 2
  else s.fset F.PAIR_STATUS.ORPHANED 0

/-- The released windlass is with the partner: both heads name its port (R212). -/
def State.releaseSeen (s : State) : State :=
  if s.pair.releasing.isSome && s.standby && !s.pair.claiming && s.otherHolder s.pair.headA && s.otherHolder s.pair.headB then
    (s.handoverDone true).count 3 9
  else s

/-! ## UPLINK_FRAME (R31, R210) -/

/-- What a trailer says of its head: the holder, the epoch, and whether the holder's frames go on (R209, R210). -/
def State.takeHead (s : State) (h : Nat) (t : Trailer) : State :=
  let s := s.modHead h (fun x =>
    { x with holder := t.holder, epoch := t.epoch, last := t.last, heard := true
             moved := if x.heard && decide (x.last = t.last) && decide (x.epoch = t.epoch) then x.moved else s.steer.tick })
  let mine := decide (t.holder = s.role)
  let before := !mine || (decide (h = 0) && decide (t.result = 1))
  let wl := if !before then s.pair.wlLast else if h = 0 then (t.last, s.pair.wlLast.2) else (s.pair.wlLast.1, t.last)
  let s := { s with pair := { s.pair with wlLast := wl } }
  let s : State := if s.pair.coldStep = 2 then
      { s with pair := { s.pair with heldCodes := s.pair.heldCodes ++ t.held, heldFrom := merge s.pair.heldFrom [h] } }
    else s
  if h = 0 then (s.fset F.KEEL_STATUS.WINDLASS_A mine.toNat).fset F.PAIR_EPOCH.EPOCH t.epoch
  else s.fset F.KEEL_STATUS.WINDLASS_B mine.toNat

/-- A trailer's windlass fields take effect (R209–R212). -/
def State.takeTrailer (s : State) (h : Nat) (t : Trailer) : State :=
  let s := s.takeHead h t
  let s :=
    if s.pair.claiming && !s.pair.grantA && decide (h = 0) then s.answerA t
    else if s.pair.grantA && !s.pair.grantB && decide (h = 1) then s.answerB t
    else if s.active && s.otherHolder (s.head h) && (decide (h = 0) || s.pair.grantB) && s.pair.releasing.isNone then s.deposed
    else s
  ((s.judgeOrphan).releaseSeen).readyCheck

/-- UPLINK_FRAME (R31): the trailer, then the release of the head's held results and its codes. -/
def execUplinkFrame (head : Nat) (t : Trailer) (s : State) : Out :=
  ifOk (Instr.wf (.uplinkFrame head t))
    (if 3 ≤ s.rung ∨ s.boot.resetLow ∨ s.power.railsOff then s
     else if s.armed 10 head then (s.fire.frameLost head true).unmark
     else (s.takeTrailer head t).frameGood head)

/-! ## CLAIM (R209, R211) -/

/-- A head reports no holder or this module (R209); with pair operation disabled, only no holder (R217). -/
def State.mayClaimAt (s : State) (h : Head) : Bool :=
  h.heard && (decide (h.holder = 3) || (s.pairEn && decide (h.holder = s.role)))

/-- CLAIM (R209, R211, R212): a DETACHED module past its boot; or, two ticks after its planned release, a module that either head does
not show as gone over to the partner. -/
def execClaim (s : State) : Out :=
  .next (if s.pair.claiming || decide (3 ≤ s.rung) || s.held then s
    else
      let st := s.fget F.PAIR_STATUS.STATE
      let gone := s.otherHolder s.pair.headA && s.otherHolder s.pair.headB
      let back := decide (st = 2) && s.pair.releasing.isSome && !gone && decide (2 ≤ (s.steer.tick + 2 ^ 32 - s.pair.partTick) % 2 ^ 32)
      if (decide (st = 0) && s.ready && !s.bit F.PAIR_STATUS.ORPHANED && s.mayClaimAt s.pair.headA) || back then
        ({ s with pair := { s.pair with claiming := true, takeover := false, planned := false, grantA := false, grantB := false } }).count 3 6
      else s)

/-! ## PAIR_HANDOVER and PAIR_STATUS (R212, R213, R289) -/

/-- PAIR_HANDOVER's own checks and effect (R212, R213): a planned release begins at the next tick; a cold claim with QUERY_HELD in the
next frame. With pair operation disabled a module claims only a windlass with no holder (R217), so it makes no cold claim. -/
def pairHandover (src : Src) (force take : Bool) (s : State) : State :=
  let p := s.fget F.PAIR_STATUS.PARTNER
  let st := s.fget F.PAIR_STATUS.STATE
  if s.active then
    if take then s.refuse 0x91 src .state
    else if s.pair.releasing.isSome then s.refuse 0x91 src .inProgress
    else if p = 2 ∨ (p = 4 ∧ force) then { s with pair := { s.pair with releasing := some (force, src) } }
    else s.refuse 0x91 src .state
  else if take && s.bit F.PAIR_STATUS.ORPHANED && s.pairEn && (decide (st = 0) || decide (st = 4)) then
    if s.pair.cold.isSome then s.refuse 0x91 src .inProgress
    else { s with pair := { s.pair with cold := some src, coldStep := 1 } }
  else s.refuse 0x91 src .state

/-- PAIR_HANDOVER (R212). -/
def execPairHandover (src : Src) (force take : Bool) (s : State) : Out := .next (s.handle 0x91 src (pairHandover src force take))

/-- PAIR_STATUS (R289). -/
def execPairStatus (src : Src) (s : State) : Out :=
  .next (s.handle 0x90 src (fun s =>
    s.complete 0x90 src .done 0 0
      (le 4 (s.word 0x300000).toNat ++ le 4 (s.word 0x300004).toNat ++ le 4 (s.word 0x300010).toNat ++ le 4 0 ++
       le 8 s.pair.partnerHash ++ le 4 s.pair.partnerFw)))

/-! ## Continuing a lock cycle (R214) -/

/-- Ticks a head held beyond the copy: WL_LAST of the holder before this module less the SEQ of the last copy, as a signed number
(R214). -/
def State.stale (s : State) (h : Nat) : Int :=
  toSigned 32 (((if h = 0 then s.pair.wlLast.1 else s.pair.wlLast.2) + 2 ^ 32 - s.pair.lastCopy) % 2 ^ 32)

/-- The motion of an axis that has taken the first n samples of its buffer (R73, R77): of a fallback buffer the profile itself, of a tow's
the last samples, from rest on the target the move began with. w are the bounds the fallback was computed with. -/
def bufMotion (w : Bounds) (t : TrajBuf) (start : Half) (n : Nat) : Motion :=
  let rest : Motion := ⟨sval start * 65536, 0, 0⟩
  if t.fallback then (List.range n).foldl (fun m _ => limStep w m (sval t.final * 65536) (sval t.final * 65536)) rest
  else (t.samples.take n).foldl (fun m c => m.follow (sval c.1)) rest

/-- An axis in SLEW goes on at a trajectory index (R214), with the motion its buffer has by then. An axis whose copied target is not the
buffer's had been clamped, and the limiter goes on with it from that target (R77). -/
def Axis.resumeAt (w : Bounds) (t : TrajBuf) (idx : Nat) (x : Axis) : Axis :=
  let n := min t.samples.length (idx - t.start)
  let m := bufMotion w t x.moveFrom n
  let kept := decide (n = 0) || decide (hcode (satI 16 m.code) = x.target)
  let y := if kept then x.setMotion m else { x with limited := true, limPos := sval x.target * 65536, limVel := 0, limAcc := 0 }
  { y.setSrc 1 with traj := idx, goal := t.final
                    moveDone := kept && decide (n = t.samples.length) && decide (x.target = t.final) }

/-- An axis in SLEW goes on (R214): one or fewer stale ticks shift its index; more, or no buffer, take it from its measured position to
its final target under the limiter. The second part says that the cycle is EXTENDED. -/
def State.continueAxis (s : State) (c : Cycle) (a : Nat) : State × Bool :=
  let k := s.stale (axisSide a)
  match s.bufOf a with
  | some b =>
    if k ≤ 1 then
      let w := s.waveBounds (axisSide a) b
      (s.modAxis a (fun x => x.resumeAt w b ((x.traj : Int) + k).toNat), false)
    else ((s.dropBufs [a]).modAxis a (Axis.fromHere b.final), true)
  | none => (s.modAxis a (Axis.fromHere (s.finalOf c a)), true)

/-- The axes of a path or released mirror still in SLEW. -/
def Cycle.slewing (c : Cycle) : List Nat :=
  (c.paths.filter (fun p => p.phase = .slewing)).flatMap (fun p => pathAxes p.a p.b) ++ c.released.flatMap mirrorAxes

/-- A path past SLEW begins its count again (R214). -/
def CPath.again (p : CPath) (tick : Nat) : CPath :=
  match p.phase with
  | .capturing => { p with run := 0, since := 0, entered := tick }
  | .proving => { p with run := 0, entered := tick }
  | .proved => { p with phase := .proving, run := 0, entered := tick }
  | _ => p

/-- The running cycle goes on (R214). -/
def State.continueRunning (s : State) (c : Cycle) : State :=
  let axes := if c.slewTick = 0 then [] else (c.slewing).filter (fun a => decide ((s.axis a).st ≠ 6) && !(s.axis a).moveDone)
  let r := axes.foldl (fun (p : State × Bool) a => (let q := p.1.continueAxis c a; (q.1, p.2 || q.2))) (s, false)
  r.1.modCycle c.id (fun c =>
    { c with extended := c.extended || r.2, paths := c.paths.map (fun p => p.again s.steer.tick) })

/-- Mirrors that no standing path or cycle holds, left moving by a berth cycle of the old active, go to park (log 38). -/
def State.parkStrays (s : State) : State :=
  let held := pairMirrors (s.lock.paths.map (fun q => (q.a, q.b))) ++ s.lock.cycles.flatMap (fun c => c.mirrors)
  let strays := s.steer.axes.filter (fun p => decide (p.2.st ≠ 6) && !held.contains (mirrorOf p.1))
  strays.foldl (fun s p => s.modAxis p.1 (fun x => (parkAxis (s.park (axisSide p.1)) x).setSrc 0)) s

/-- A pending cycle is computed again (R97). -/
def State.recompute (s : State) (c : Cycle) : State :=
  let s := ((s.dropSettle c.id).dropBufs c.axes).modCycle c.id (fun c =>
    { c with computed := false, fallback := false, twoWaves := false, wave2Tick := 0, planEnd := 0, armed := false })
  s.submitSettle c.id

/-- HANDOVER_CONTINUE (R214, R97): from its claim on, the running cycle goes on, and the pending ones that have not reached their tow
deadline are computed again. -/
def execHandoverContinue (s : State) : Out :=
  .next (if (s.active || (s.pair.claiming && s.pair.takeover)) && s.pair.continueDue then
      let s := { s with pair := { s.pair with continueDue := false } }
      let s := match s.running with | some c => s.continueRunning c | none => s
      let due := s.lock.cycles.filter (fun c => c.opened.isNone && !s.within 110000 c.tOpen)
      (due.foldl State.recompute s).parkStrays
    else s)

end Sys2Proof.Machine
end

