-- ==== Sys2Proof/Machine/Ports.lean ====
section
/-!
DEFINITION. Customer ports at work (R244–R254): light, berth passes and cycles, the identity exchange, mirror faults, and the
port commands.
-/

namespace Sys2Proof.Machine

/-! ## Light (R246) -/

/-- Light does not move this port's state: FAILED, SERVICE, or a HOST quarantine (R246). -/
def Port.fixed (x : Port) : Bool := decide (x.state = 5) || decide (x.state = 6) || (decide (x.state = 4) && decide (x.reason = 4))

/-- LIGHT_GAINED (R246, R248): the port is queued for a check; with a circuit it is admitted on light presence. -/
def execLightGained (port : Nat) (s : State) : Out :=
  ifOk (Instr.wf (.lightGained port))
    (if (s.port port).light then s
     else
       let s := s.modPort port (fun x => { x with light := true, known := false, queued := true })
       if s.active && s.circuit port && !(s.port port).fixed then
         let planned := s.planned port
         (s.modPort port (fun x => { x with unverified := planned })).setPort port 2 0
       else s)

/-- LIGHT_LOST (R246, R253): a check ends without a verdict; ABSENT where PLANNED, DARK otherwise. -/
def execLightLost (port : Nat) (s : State) : Out :=
  ifOk (Instr.wf (.lightLost port))
    (if !(s.port port).light then s
     else
       let s := s.modPort port (fun x => { x with light := false, known := false, queued := false })
       let s := if (s.port port).checking then s.endCheck port false else s
       if s.active && !(s.port port).fixed then s.setPort port (if s.planned port then 0 else 1) 0 else s)

/-- ABSENT_TIMEOUT (R246): a PLANNED port DARK for 1 s without light. -/
def execAbsentTimeout (port : Nat) (s : State) : Out :=
  ifOk (Instr.wf (.absentTimeout port))
    (if s.active && s.planned port && decide ((s.port port).state = 1) && !(s.port port).light then s.setPort port 0 0 else s)

/-! ## Passes and berth cycles (R247, R248) -/

/-- A port that a pass checks (R248, R253, R254). -/
def State.toCheck (s : State) (p : Nat) : Bool :=
  let x := s.port p
  x.queued && x.light && !s.circuit p && decide (x.state ≠ 6) && !x.mirrorFault

/-- The service port, 0–15, that checks port p: of the opposite side, by the last three bits of the number (R247, R248, log 27). -/
def checkPort (p : Nat) : Nat := if p < 1152 then 8 + p % 8 else p % 8

/-- The berth path of port p: A mirror and B mirror (R247). -/
def berthPath (p : Nat) : Nat × Nat := if p < 1152 then (p, 1152 + p % 8) else (1152 + p % 8, p - 1152)

/-- Ports of round r (R248). -/
def roundPorts (r : Nat) : List Nat := (List.range 8).map (fun k => 8 * r + k) ++ (List.range 8).map (fun k => 1152 + 8 * r + k)

/-- Ports of round r to check. -/
def State.roundDue (s : State) (r : Nat) : List Nat := (roundPorts r).filter s.toCheck

/-- A service port of each side has a lane (R248). -/
def State.serviceLit (s : State) : Bool :=
  (List.range 8).any (fun n => decide (0 < s.fget (F.SVC_PORT_CTRL.LANES n))) &&
  (List.range 8).any (fun n => decide (0 < s.fget (F.SVC_PORT_CTRL.LANES (8 + n))))

/-- Berth passes may run (R248, R253): ACTIVE, on L0, the search done, lanes on both sides, pound V not reloading. -/
def State.passAllowed (s : State) : Bool :=
  s.active && s.ready && decide (s.rung = 0) && !s.power.moving && s.bit F.RING_STATUS.SEARCH_DONE && s.serviceLit &&
  !s.lightHeld

/-- BERTH_PASS_START (R248): every UNVERIFIED ADMITTED port is checked on every pass. -/
def execBerthPassStart (s : State) : Out :=
  .next (if s.passAllowed && s.fabric.pass.isNone then
      let again := (s.fabric.ports.filter (fun p => decide (p.2.state = 2) && p.2.unverified && p.2.light)).map (·.1)
      let s := again.foldl (fun s p => s.modPort p (fun x => { x with queued := true })) s
      { s with fabric := { s.fabric with pass := some 0 } }
    else s)

/-- A service port needed for a check is held (R253): BUSY, MOVING or recalibrating. -/
def State.svcHeld (s : State) (n : Nat) : Bool :=
  s.bit (F.SVC_PORT_CTRL.BUSY n) || s.bit (F.SVC_PORT_CTRL.MOVING n) || s.bit (F.SVC_PORT_CTRL.DAC_PENDING n)

/-- A berth cycle with these paths is placed in the next gap at least 500 µs away, and its tow submitted (R247). -/
def State.placeBerth (s : State) (pairs : List (Nat × Nat)) : State :=
  let c : Cycle := { id := 0, planId := 0, tOpen := 0, berth := true
                     paths := pairs.map (fun (p : Nat × Nat) => ({ a := p.1, b := p.2 } : CPath)) }
  let c := { c with tOpen := nextGap s.windows (s.windowOf c) 16 ((s.time.tb0.ns + 500000) % 2 ^ 64) }
  ({ s with lock := { s.lock with cycles := s.lock.cycles ++ [c] } }).submitSettle 0

/-- The end of a pass: a BERTH_CHECK of a port without light, which no pass checks, completes as it is (log 39). -/
def State.endPass (s : State) : State :=
  let s := { s with fabric := { s.fabric with pass := none } }
  let dark := (s.fabric.ports.filter (fun p => decide (p.2.waiting ≠ []) && !p.2.light)).map (·.1)
  dark.foldl (fun s p => (s.modPort p (fun x => { x with queued := false })).berthDone p) s

/-- A berth cycle is pending or running, or its checks are. -/
def State.berthBusy (s : State) : Bool :=
  s.lock.cycles.any (fun c => c.berth) || s.fabric.ports.any (fun p => p.2.checking)

/-- BERTH_CYCLE (R247, R248): the next round with a port to check; after the last, a cycle that parks the berth mirrors. -/
def execBerthCycle (s : State) : Out :=
  .next (match s.fabric.pass with
    | none => s
    | some r =>
      if !s.passAllowed || s.berthBusy then s
      else match ((List.range 144).drop r).find? (fun q => decide (s.roundDue q ≠ [])) with
        | some q =>
          let ps := s.roundDue q
          if ps.any (fun p => s.svcHeld (checkPort p)) then s
          else
            let ps := ps.filter (fun p => decide (0 < s.fget (F.SVC_PORT_CTRL.LANES (checkPort p))))
            let s := { s with fabric := { s.fabric with pass := some (q + 1) } }
            if ps = [] then s else s.placeBerth (ps.map berthPath)
        | none =>
          if s.fabric.berths = [] then s.endPass
          else ({ s with fabric := { s.fabric with pass := some 144 } }).placeBerth [])

/-- IDENTITY_REFRESH (R248): outside passes an ADMITTED port with no circuit is checked again every REFRESH seconds, 0 disabling it
(R242). -/
def execIdentityRefresh (port : Nat) (s : State) : Out :=
  ifOk (Instr.wf (.identityRefresh port))
    (let now := s.time.tb3
     if s.active && decide ((s.port port).state = 2) && (s.port port).light && !s.circuit port && s.fabric.pass.isNone &&
        decide (s.fabric.refresh ≠ 0) && decide ((s.port port).checkedAt + s.fabric.refresh * 500000000 ≤ now) then
       s.modPort port (fun x => { x with queued := true, checkedAt := now })
     else s)

/-! ## The identity exchange (R249, R250) -/

/-- A HELLO goes out with a nonce of the module's choice (R250, log 3). -/
def State.sendHello (s : State) (p : Nat) : State :=
  let (n, s) := s.draw 65536
  let s := { s with fabric := { s.fabric with nonce := n } }
  (s.modPort p (fun x => { x with hellos := x.hellos + 1, nonce := n })).sendIdent 1 n p

/-- HELLO (R250): the check of a port that a berth circuit reaches begins. No check goes on while pound V is reloaded (R253). -/
def execHello (port : Nat) (s : State) : Out :=
  ifOk (Instr.wf (.hello port))
    (if s.active && !s.lightHeld && (s.port port).checking && decide ((s.port port).hellos = 0) then (s.sendHello port).count 12 11 else s)

/-- An IDENT that answers the last HELLO (R250): valid, its nonce, within 1.5 ms. -/
def State.identOk (s : State) (p : Nat) (f : IdentFrame) : Bool :=
  let x := s.port p
  x.checking && decide (1 ≤ x.hellos) && decide (f.magic = 0xB3E7) && f.checkOk && decide (f.type = 2) && decide (f.nonce = x.nonce) &&
  decide (f.delay ≤ 15000)

/-- IDENT (R250, R251). -/
def execIdent (port : Nat) (f : IdentFrame) (s : State) : Out :=
  ifOk (Instr.wf (.ident port f))
    (if s.active && !s.lightHeld && s.identOk port f then
       let s := s.modPort port (fun x =>
         { x with foundPod := f.pod % 65536, foundUplink := f.uplink % 256, nodeId := f.nodeId % 2 ^ 64, loopCap := f.loopCap
                  farVer := f.verMajor % 16 * 16 + f.verMinor % 16, known := true })
       (s.count 12 12).verdict port
     else s)

/-- IDENT_TIMEOUT (R250, R251): the next HELLO; after three the far end does not answer. -/
def execIdentTimeout (port : Nat) (s : State) : Out :=
  ifOk (Instr.wf (.identTimeout port))
    (let x := s.port port
     if s.active && !s.lightHeld && x.checking && decide (1 ≤ x.hellos) then
       if x.hellos < 3 then s.sendHello port
       else ((s.modPort port (fun x => { x with known := false })).count 12 13).verdict port
     else s)

/-- MIRROR_FAULT (R254): FAILED with reason MIRROR; BERTH_CHECK commands that wait complete without a check. -/
def execMirrorFault (port : Nat) (faulty : Bool) (s : State) : Out :=
  ifOk (Instr.wf (.mirrorFault port faulty))
    (if faulty then (if s.active then s.mirrorFails port else s.modPort port (fun x => { x with mirrorFault := true }))
     else s.modPort port (fun x => { x with mirrorFault := false }))

/-! ## Commands (R252, R289) -/

/-- The record of a port (R253). -/
def State.portRecord (s : State) (p : Nat) : List Byte :=
  let x := s.port p
  le 1 x.state ++ le 1 x.reason ++ le 2 (s.portFlags p) ++ le 2 x.foundPod ++ le 1 x.foundUplink ++ le 1 x.farVer ++ le 8 x.nodeId

/-- PORT_STATE_GET. -/
def execPortStateGet (src : Src) (first count : Nat) (s : State) : Out :=
  .next (s.handle 0x30 src (fun s =>
    if count = 0 ∨ 512 < count ∨ 2304 < first + count then s.refuse 0x30 src .range
    else s.complete 0x30 src .done 0 0 [] ((List.range count).flatMap (fun k => s.portRecord (first + k)))))

/-- PORT_QUARANTINE's own checks and effect. -/
def portQuarantine (src : Src) (port : Nat) (clear : Bool) (s : State) : State :=
  if 2303 < port then s.refuse 0x31 src .range
  else
    let x := s.port port
    if clear then
      if x.state = 4 ∧ x.reason = 4 then
        ((s.setPort port 1 0).modPort port (fun x => { x with queued := true })).completeCopied 0x31 src
      else s.refuse 0x31 src .state
    else
      let s := s.setPort port 4 4
      let s := s.endCheck port false
      s.completeCopied 0x31 src

/-- PORT_QUARANTINE. -/
def execPortQuarantine (src : Src) (port : Nat) (clear : Bool) (s : State) : Out :=
  .next (s.handle 0x31 src (portQuarantine src port clear))

/-- PORT_ACCEPT_AS_FOUND's own checks and effect; with no identity found there is none to accept. -/
def portAccept (src : Src) (port : Nat) (s : State) : State :=
  if 2303 < port then s.refuse 0x32 src .range
  else
    let x := s.port port
    match x.found with
    | some f =>
      if x.state = 4 ∧ (x.reason = 1 ∨ x.reason = 2) then
        let owners := (s.fabric.plan.filter (fun q => decide (q.1 ≠ port) && s.plans q.1 f)).map (·.1)
        let s := owners.foldl (fun s y => s.setPlan y 0) s
        let s := s.setPlan port (f + 2 ^ 24)
        let s := (s.modPort port (fun x => { x with unverified := false })).setPort port (if x.farVer / 16 ≠ 1 then 3 else 2) 0
        let s := owners.foldl State.rejudge s
        s.completeCopied 0x32 src 0 (le 1 (s.port port).state)
      else s.refuse 0x32 src .state
    | none => s.refuse 0x32 src .state

/-- PORT_ACCEPT_AS_FOUND. -/
def execPortAcceptAsFound (src : Src) (port : Nat) (s : State) : Out := .next (s.handle 0x32 src (portAccept src port))

/-- BERTH_CHECK's own checks and effect: at once under R254, else at the verdict. -/
def berthCheck (src : Src) (port : Nat) (s : State) : State :=
  if 2303 < port then s.refuse 0x33 src .range
  else
    let x := s.port port
    if x.state = 6 then s.refuse 0x33 src .state
    else if x.mirrorFault then s.complete 0x33 src .done 0 0 (le 1 x.state ++ le 1 x.reason)
    else s.modPort port (fun x => { x with queued := true, waiting := x.waiting ++ [src] })

/-- BERTH_CHECK. -/
def execBerthCheck (src : Src) (port : Nat) (s : State) : Out := .next (s.handle 0x33 src (berthCheck src port))

end Sys2Proof.Machine
end

