-- ==== Sys2Proof/Machine/Images.lean ====
section
/-!
DEFINITION. Structure images and live pound reloads (R327–R334, R366, R384): staging, activation, the reload of one pound, and
the unlock of its RWL fields. A staging and a reload last: the row begins one, and the same row run again for the same command
is its next stage (log 40).
-/

namespace Sys2Proof.Machine

/-! ## Staging (R331, R366) -/

/-- Slot s holds a checked image, or not (IMG_STATUS.VALID). -/
def State.setValid (s : State) (slot : Nat) (v : Bool) : State :=
  let old := s.fget F.IMG_STATUS.VALID
  let without := old - old / 2 ^ slot % 2 * 2 ^ slot
  s.fset F.IMG_STATUS.VALID (if v then without + 2 ^ slot else without)

/-- Slot s holds a checked image. -/
def State.slotValid (s : State) (slot : Nat) : Bool := decide (s.fget F.IMG_STATUS.VALID / 2 ^ slot % 2 = 1)

/-- A staging ends; its slot is left not VALID. -/
def State.stageOver (s : State) : State :=
  { s.fset F.IMG_STATUS.STAGING 0 with boot := { s.boot with staging := none } }

/-- Section types that every image has (R328). -/
def requiredSections : List Nat :=
  [1, 2, 3, 4, 5, 0x10, 0x11, 0x12, 0x13, 0x14, 0x15, 0x16, 0x17, 0x18, 0x20, 0x21, 0x22, 0x23, 0x30, 0x31, 0x40, 0x42]

/-- A section type that R328 defines. -/
def sectionDefined (type : Nat) : Bool := requiredSections.contains type || type = 0x41 || type = 0x43

/-- The section types stand as R328 asks: none twice, none missing, none undefined below 0x8000, and a key for SIGNER 1–4. -/
def sectionsOk (i : Image) : Bool :=
  let types := i.sections.map (fun x => x.1)
  requiredSections.all types.contains && (decide (i.signer = 0) || types.contains 0x43) &&
  types.all (fun t => sectionDefined t || decide (0x8000 ≤ t)) && decide types.Nodup

/-- The checks of R331 on the image against the command's LENGTH; tableOk stands for the alignment and the overlaps of R328. -/
def imageChecked (i : Image) (length : Nat) : Bool :=
  i.headerOk && decide (i.length = length) && decide (length ≤ 2 ^ 30) && signerOk i && i.digestOk && i.tableOk && sectionsOk i &&
  i.crcOk

/-- Staging begins: the slot is not VALID while it runs (R331, R362). -/
def stageBegin (src : Src) (slot : Nat) (s : State) : State :=
  if 2 < slot then s.refuse 0x51 src .range
  else if slot = 0 ∨ s.boot.wp = true then s.refuse 0x51 src .locked
  else if slot = s.fget F.IMG_STATUS.ACTIVE ∨ (s.bit F.IMG_STATUS.AWAIT_RESET = true ∧ slot = s.fget F.IMG_SLOT.NEXT) then
    s.refuse 0x51 src .state
  else if s.boot.staging.isSome then s.refuse 0x51 src .inProgress
  else
    let s := (s.setValid slot false).fset F.IMG_STATUS.STAGING 1
    { s with boot := { s.boot with staging := some (slot, src) } }

/-- Staging ends: AUTH where a check fails, FLASH where the write failed, otherwise the slot holds the image and is VALID. -/
def stageEnd (src : Src) (slot length : Nat) (img : Image) (flashOk : Bool) (s : State) : State :=
  let s := s.stageOver
  if !imageChecked img length then s.refuse 0x51 src .auth
  else if !flashOk then (s.count 9 13).complete 0x51 src .failed Reason.flash.code
  else
    let s := { s with boot := { s.boot with slots := spSet none s.boot.slots slot (some img) } }
    (s.setValid slot true).complete 0x51 src .done

/-- IMAGE_STAGE (R331). -/
def execImageStage (src : Src) (slot _addr length : Nat) (img : Image) (flashOk : Bool) (s : State) : Out :=
  .next (if s.boot.staging = some (slot, src) then (if s.cores then stageEnd src slot length img flashOk s else s)
    else s.handle 0x51 src (stageBegin src slot))

/-- FLASH_WP (R366): a staging in progress when the pin rises stops, FAILED with reason LOCKED, its slot not VALID. -/
def execFlashWp (level : Bool) (s : State) : Out :=
  .next
    (let s := { s with boot := { s.boot with wp := level } }
     match s.boot.staging with
     | some (_, src) => if level then s.stageOver.complete 0x51 src .failed Reason.locked.code else s
     | none => s)

/-! ## Activation (R332) -/

/-- Length and CRC of a section of an image, by type (R328). -/
def sectionOf (i : Image) (type : Nat) : Option (Nat × Nat) :=
  (i.sections.find? (fun x => decide (x.1 = type))).map (fun x => x.2)

/-- Section types of KEEL, ROUTING, FIXED, LOCKKEEPER and MEMORY (R328, R332). -/
def fixedSections : List Nat := [1, 2, 3, 4, 5]

/-- Section of a pound: STEER k, ARRAY n, AUCTION, OPTICAL (R328). -/
def poundSection (n : Nat) : Nat :=
  if n < 9 then 0x10 + n else if n < 13 then 0x20 + (n - 9) else if n = 13 then 0x30 else 0x31

/-- Two images agree in a section. -/
def sameSection (i j : Image) (type : Nat) : Bool := decide (sectionOf i type = sectionOf j type)

/-- A live activation (R332): the compatibility list is journalled, the slot is active at once, and every loaded pound whose
section differs is STALE. -/
def liveActivate (slot : Nat) (old new : Image) (s : State) : State :=
  let s := (s.sendJournal (.compat new.compat)).activate slot
  (List.range 15).foldl (fun (s : State) n =>
    if !sameSection old new (poundSection n) && decide (s.poundState n = 2) then s.setPound n 4 else s) s

/-- IMAGE_ACTIVATE (R332). -/
def imageActivate (src : Src) (slot : Nat) (s : State) : State :=
  if s.boot.reload.isSome || s.boot.staging.isSome then s.refuse 0x52 src .inProgress
  else if 2 < slot || !s.slotValid slot then s.refuse 0x52 src .unknown
  else if !s.slotGood slot then s.refuse 0x52 src .auth
  else
    match s.image, s.imageOf slot with
    | some old, some new =>
      if fixedSections.all (sameSection old new) then (liveActivate slot old new s).complete 0x52 src .done
      else ((s.fset F.IMG_SLOT.NEXT slot).fset F.IMG_STATUS.AWAIT_RESET 1).complete 0x52 src .done
    | _, _ => ((s.fset F.IMG_SLOT.NEXT slot).fset F.IMG_STATUS.AWAIT_RESET 1).complete 0x52 src .done

/-- IMAGE_ACTIVATE. -/
def execImageActivate (src : Src) (slot : Nat) (s : State) : Out := .next (s.handle 0x52 src (imageActivate src slot))

/-! ## Live pound reload (R334, R171) -/

/-- The pounds a reload of pound n loads: for an array its whole gang (R334). -/
def State.reloadSet (s : State) (n : Nat) : List Nat :=
  if 9 ≤ n ∧ n ≤ 12 then (s.unitArrays (n - 9)).map (fun m => m + 9) else [n]

/-- The pound's work has come to rest: no barge runs on its arrays, no solve on its auction units (R127, R171). -/
def State.reloadQuiet (s : State) (n : Nat) : Bool :=
  if 9 ≤ n ∧ n ≤ 12 then s.atRest (n - 9) else if n = 13 then decide (s.auction.solves = []) else true

/-- The pound takes no new work: its arrays show RELOADING and their tow is saved, pound A takes no new feeds (R171, R127). -/
def State.reloadPrepare (s : State) (n : Nat) : State :=
  if 9 ≤ n ∧ n ≤ 12 then
    let us := s.unitArrays (n - 9)
    let s := match us.head? with | some u => s.haltUnit u | none => s
    us.foldl (fun (s : State) m => if s.arrayState m = 6 then s else s.setArray m 5) s
  else if n = 13 then s.fset F.AUC_STATUS.RELOADING 1
  else s

/-- The load is done (R334): image values taken, arrays and auction units work again. -/
def State.reloadDone (s : State) (n : Nat) : State :=
  let set := s.reloadSet n
  let s := set.foldl (fun (s : State) m => s.reloadPound m) s
  if 9 ≤ n ∧ n ≤ 12 then
    set.foldl (fun (s : State) m => if s.rung = 0 then s.arrayUp (m - 9) else s) s
  else if n = 13 then (s.fset F.AUC_STATUS.RELOADING 0).reserveHead
  else if n = 14 then s.retuneBehind
  else s

/-- The next stage of a reload in progress: its load begins once its work is at rest, and then completes. -/
def State.reloadStage (s : State) (n : Nat) (src : Src) : State :=
  if !s.reloadQuiet n then s
  else if s.relieving = n then (match s.steer.relief with | some q => s.reloadRelieved q | none => s)
  else if s.poundState n ≠ 3 then (s.reloadSet n).foldl (fun (s : State) m => s.reloadBegin m) s
  else
    let s := s.reloadDone n
    ({ s with boot := { s.boot with reload := none } }).complete 0x50 src .done

/-- Another array unit than that of array n stays in service (R334). -/
def State.otherUnit (s : State) (n : Nat) : Bool :=
  (List.range 4).any (fun u => s.unitLead u && s.unitUp u && !(s.unitArrays n).contains u)

/-- POUND_RELOAD begins (R334): a reach of an ACTIVE module through a relief takeover (R54), any other pound by its stages. -/
def reloadCheck (src : Src) (n : Nat) (crcOk : Bool) (s : State) : State :=
  if 14 < n then s.refuse 0x50 src .range
  else if s.boot.reload.isSome then s.refuse 0x50 src .inProgress
  else if n = 8 ∧ s.relieving ≠ 0xF then s.refuse 0x50 src .state
  else if (9 ≤ n ∧ n ≤ 12) ∧ s.lock.cycles ≠ [] ∧ s.otherUnit (n - 9) = false then s.refuse 0x50 src .state
  else if n < 8 ∧ s.active = true ∧ s.reliefFree = false ∧ s.relieving ≠ n then s.refuse 0x50 src .resource
  else if !crcOk then s.refuse 0x50 src .auth
  else
    let s := { s with boot := { s.boot with reload := some (n, src) } }
    if n < 8 ∧ s.active = true then s.reloadRelief n src
    else (s.reloadPrepare n).reloadStage n src

/-- A reload of this command is in progress, and its next stage is its own: not while the takeover or the return runs. -/
def State.reloadOwn (s : State) (n : Nat) (src : Src) : Bool :=
  decide (s.boot.reload = some (n, src)) &&
  (match s.steer.relief with
   | some q => decide (q.cmd ≠ some src) || (q.committed && !q.returning && decide (s.poundState n = 3))
   | none => true)

/-- POUND_RELOAD (R334). -/
def execPoundReload (src : Src) (pound : Nat) (crcOk : Bool) (s : State) : Out :=
  .next (if s.reloadOwn pound src then (if s.cores then s.reloadStage pound src else s)
    else if s.boot.reload = some (pound, src) then s
    else s.handle 0x50 src (reloadCheck src pound crcOk))

/-! ## UNLOCK (R384) -/

/-- UNLOCK (R384): a 1 takes effect only while the pound is IN_SERVICE or STALE; a 0 clears. -/
def unlock (n : Nat) (value : Bool) (s : State) : State :=
  if value then (if s.poundState n = 2 ∨ s.poundState n = 4 then s.fset (F.POUND_STATUS.UNLOCK n) 1 else s)
  else s.fset (F.POUND_STATUS.UNLOCK n) 0

/-- UNLOCK. -/
def execUnlock (n : Nat) (value : Bool) (s : State) : Out :=
  ifOk (Instr.wf (.unlock n value)) (s.hostWrite (0xF00040 + 4 * n) (unlock n value))

end Sys2Proof.Machine
end

