-- ==== Sys2Proof/Machine/Reliability.lean ====
section
/-!
DEFINITION. Errors in service and their spares (R338–R343) and injection (R356).
-/

namespace Sys2Proof.Machine

/-! ## Lockkeeper cores and fixed blocks (R340, R343) -/

/-- The cores that serve: the six lowest-numbered that are not retired (R343). -/
def State.servingCores (s : State) : List Nat := ((List.range 8).filter (fun c => !s.ras.cores.contains c)).take 6

/-- Spare cores left (RAS_SPARES.CORES). -/
def State.coreSpares (s : State) : Nat := 2 - min 2 s.ras.cores.length

/-- A core is retired (R343): the lowest-numbered spare takes over; fewer than four cores are fatal (R340). -/
def coreReportMissed (core : Nat) (s : State) : State :=
  if s.ras.cores.contains core || !s.cores || s.held then s
  else
    let served := s.servingCores.contains core
    let spare := decide (0 < s.coreSpares)
    let s := { s with ras := { s.ras with cores := s.ras.cores ++ [core] } }
    if s.ras.cores.length = 5 then s.fatal 8 core false
    else if served && spare then s.spareIn 13 .core core 9 (decide (s.coreSpares = 0))
    else s.logEntry (if spare then 4 else 6) 13 .component .core 0 core

/-- CORE_REPORT_MISSED (R343). -/
def execCoreReportMissed (core : Nat) (s : State) : Out := ifOk (Instr.wf (.coreReportMissed core)) (coreReportMissed core s)

/-- BLOCK_WATCHDOG (R340): two missed keel watchdog checks of a fixed block are fatal. -/
def execBlockWatchdog (block : Nat) (s : State) : Out :=
  .next (if s.held || decide (3 ≤ s.rung) then s else s.fatal 0x0A block false)

/-! ## Memory (R342) -/

/-- 24 h of TB3, in counts. -/
def dayCounts : Nat := 24 * 3600 * 500000000

/-- A corrected word of a row, beside those of the last 24 h (R342). -/
def State.noteRowWord (s : State) (bank row word : Nat) : State :=
  let recent := s.mem.rowErrs.filter (fun e => decide (s.time.tb3 - e.2.2.2 ≤ dayCounts) &&
    !decide (e.1 = bank ∧ e.2.1 = row ∧ e.2.2.1 = word))
  { s with mem := { s.mem with rowErrs := recent ++ [(bank, row, word, s.time.tb3)] } }

/-- Distinct words of a row that showed corrected errors in the last 24 h. -/
def State.rowWords (s : State) (bank row : Nat) : Nat :=
  (s.mem.rowErrs.filter (fun e => decide (e.1 = bank ∧ e.2.1 = row) && decide (s.time.tb3 - e.2.2.2 ≤ dayCounts))).length

/-- The row's errors are forgotten once it is spared. -/
def State.spareRowNow (s : State) (bank row : Nat) : State :=
  ({ s with mem := { s.mem with rowErrs := s.mem.rowErrs.filter (fun e => !decide (e.1 = bank ∧ e.2.1 = row)) } }).spareRow bank row

/-- ROW_SPARING (R342): corrected errors in 3 distinct words within 24 h, or one uncorrectable word, which stays poisoned. -/
def execRowSparing (bank row word : Nat) (uncorrectable : Bool) (s : State) : Out :=
  ifOk (Instr.wf (.rowSparing bank row word uncorrectable))
    (if s.held || decide (3 ≤ s.rung) then s
     else
       let s := s.memoryError 0 0 word 1 uncorrectable
       if uncorrectable then s.spareRowNow bank row
       else
         let s := s.noteRowWord bank row word
         if 3 ≤ s.rowWords bank row then s.spareRowNow bank row else s)

/-- CHANNEL_MIGRATION (R342): an uncorrectable error, or more than 1,000 corrected errors in one second; paused on L2, and with no
spare left the channel stays (R341). -/
def execChannelMigration (stack channel word errors : Nat) (uncorrectable : Bool) (s : State) : Out :=
  ifOk (Instr.wf (.channelMigration stack channel word errors uncorrectable))
    (if s.held || decide (2 ≤ s.rung) then s
     else
       let s := s.memoryError 1 stack word errors uncorrectable
       if uncorrectable || decide (1000 < errors) then (s.spareChannel stack channel).1 else s)

/-! ## Towpath lanes (R341) -/

/-- A lane of a head's towpath is lost (R341): the spare takes its place at the next frame boundary, and the frame in flight is
lost (R31); without a spare the towpath runs on the lanes that remain. -/
def towpathLaneFailover (head lane : Nat) (s : State) : State :=
  let h := s.head head
  if !h.lanes.contains lane || decide (3 ≤ s.rung) || s.held then s
  else
    let spare := !h.spareUsed
    let left := h.lanes.filter (fun l => decide (l ≠ lane))
    let s := s.modHead head (fun x => { x with lanes := if spare then left ++ [4] else left, spareUsed := true })
    let s := s.count 1 (8 * head + 3)
    let s := if spare then s.spareIn 3 .lane (5 * head + lane) 3 (s.pair.headA.spareUsed && s.pair.headB.spareUsed)
      else s.logEntry 6 3 .link .lane 1 (5 * head + lane)
    s.frameLost head false

/-- TOWPATH_LANE_FAILOVER. -/
def execTowpathLaneFailover (head lane : Nat) (s : State) : Out :=
  ifOk (Instr.wf (.towpathLaneFailover head lane)) (towpathLaneFailover head lane s)

/-! ## RAS_INJECT (R356) -/

/-- The state a command that always answers one has answered. -/
def stateOr (o : Out) (s : State) : State := match o with | .next t => t | _ => s

/-- An armed injection that needs nothing but its object takes effect at once (R356): 6 a towpath lane of the head, the lowest in
use; 7 a tether lane; 8 a lockkeeper core; 11 a CORE phase; 12 a ring's lock. -/
def injectNow (target index : Nat) (s : State) : State :=
  match target with
  | 6 =>
    (match (s.head index).lanes with
     | l :: _ => if index < 2 then (towpathLaneFailover index l s.fire).unmark else s
     | [] => s)
  | 7 => if s.fget F.TETHER_LANES.UP / 2 ^ index % 2 = 1 ∧ index < 5 then (stateOr (execTetherLaneFailover index false s.fire) s).unmark else s
  | 8 => if index < 8 ∧ s.ras.cores.contains index = false then (coreReportMissed index s.fire).unmark else s
  | 11 => if index < 26 ∧ s.power.phases.contains index = false then (stateOr (execPhaseIsolation index s.fire) s).unmark else s
  | 12 => if index < 176 ∧ s.ringState index = 2 then (stateOr (execRingRetraining index none s.fire) s).unmark else s
  | _ => s

/-- A target that names a fault, with an index its object has. -/
def injectable (target index : Nat) : Bool :=
  match target with
  | 1 | 2 | 3 | 4 => true
  | 5 => decide (index / 4 < 264)
  | 6 => decide (index < 2)
  | 7 => decide (index < 5)
  | 8 => decide (index < 8)
  | 9 => decide (index < 5)
  | 10 => decide (index < 2)
  | 11 => decide (index < 26)
  | 12 => decide (index < 176)
  | _ => false

/-- A write of RAS_INJECT with GO (R356): ERR while a cycle is pending or running for targets 6–12; otherwise the fault is armed. -/
def rasInject (target index : Nat) (s : State) : State :=
  let s := (s.fset F.RAS_INJECT.TARGET target).fset F.RAS_INJECT.INDEX index
  if 6 ≤ target ∧ target ≤ 12 ∧ s.lock.cycles ≠ [] then s.fset F.RAS_INJECT.ERR 1
  else if !injectable target index then s
  else injectNow target index ({ s.fset F.RAS_INJECT.GO 1 with ras := { s.ras with inject := some (target, index) } })

/-- RAS_INJECT. -/
def execRasInject (target index : Nat) (s : State) : Out := .next (s.hostWrite 0xD00008 (rasInject target index))

end Sys2Proof.Machine
end

