-- ==== Sys2Proof/Machine/Logs.lean ====
section
/-!
DEFINITION. Commands of the logbook (R346–R349) and of the counters (R351–R353).
-/

namespace Sys2Proof.Machine

/-! ## LOG_FREEZE, LOG_THAW and LOG_MARK (R347, R348) -/

/-- LOG_FREEZE (R347). -/
def logFreeze (src : Src) (s : State) : State :=
  if s.log.frozen then s.complete 0xA0 src .already
  else s.freezeLog.complete 0xA0 src .done 0 0 (le 8 s.log.head)

/-- LOG_FREEZE. -/
def execLogFreeze (src : Src) (s : State) : Out := .next (s.handle 0xA0 src (logFreeze src))

/-- One annex entry is written into the logbook (R346, R347). -/
def State.annexEntry (s : State) (e : Entry) : State :=
  let r := record bookCap e s.log.book
  let s := ({ s with log := { s.log with book := r.1 } }).overwritten r.2.1
  if r.2.2 then s else s.fadd (F.LOG_DROPS.DROPS e.sev) 1

/-- Recording resumes once the annex entries stand in the logbook in index order (R347). -/
def State.thawLog (s : State) : State :=
  let s := s.log.annex.foldl State.annexEntry s
  { s with log := { s.log with annex := [], frozen := false } }

/-- LOG_THAW (R347). -/
def logThaw (src : Src) (s : State) : State :=
  if !s.log.frozen then s.complete 0xA1 src .already
  else s.thawLog.complete 0xA1 src .done 0 0 (le 4 (s.fget F.LOG_MISSED.MISSED) ++ le 2 s.log.annex.length)

/-- LOG_THAW. -/
def execLogThaw (src : Src) (s : State) : Out := .next (s.handle 0xA1 src (logThaw src))

/-- A rewind mark. -/
def State.mark (s : State) (m : Nat) : Mark := spGet {} s.log.marks m

/-- Put a rewind mark. -/
def State.setMark (s : State) (m : Nat) (x : Mark) : State := { s with log := { s.log with marks := spSet {} s.log.marks m x } }

/-- MARK_LOST[m] clears. -/
def State.clearMarkLost (s : State) (m : Nat) : State :=
  let b := s.fget F.LOG_FLAGS.MARK_LOST
  s.fset F.LOG_FLAGS.MARK_LOST (b - b / 2 ^ m % 2 * 2 ^ m)

/-- INDEX of the oldest surviving entry; LOG_HEAD for an empty logbook (R348). -/
def State.oldestIndex (s : State) : Nat :=
  match s.log.book with
  | [] => s.log.head
  | e :: es => es.foldl (fun m x => min m x.index) e.index

/-- LOG_MARK (R348). -/
def logMark (src : Src) (m : Nat) (rewind : Bool) (s : State) : State :=
  if 7 < m then s.refuse 0xA2 src .range
  else if !rewind then
    let s := (s.setMark m { index := s.log.head, lost := 0, valid := true, set := true }).clearMarkLost m
    s.complete 0xA2 src .done 0 0 (le 8 s.log.head)
  else
    let x := s.mark m
    if !x.set then s.refuse 0xA2 src .state
    else if x.valid then s.complete 0xA2 src .done 0 0 (le 8 x.index)
    else
      let i := s.oldestIndex
      (s.setMark m { x with index := i, valid := true }).complete 0xA2 src .done 0 x.lost (le 8 i)

/-- LOG_MARK. -/
def execLogMark (src : Src) (mark : Nat) (rewind : Bool) (s : State) : Out := .next (s.handle 0xA2 src (logMark src mark rewind))

/-! ## Dumps (R349) -/

/-- A dump is written to the next slot; a flash error sets DUMP_ERR. -/
def State.writeDump (s : State) (keelOnly flashOk : Bool) : State :=
  if !flashOk then (s.fset F.LOG_CTRL.DUMP_ERR 1).count 9 13
  else
    let d : Dump := { keelOnly := keelOnly, t3 := s.t3ns, cause := s.word 0x10, head := s.log.head
                      book := if keelOnly then [] else s.log.book, annex := if keelOnly then [] else s.log.annex
                      keel := s.log.keel }
    let n := s.boot.dumpNext % 16
    let s := { s with log := { s.log with dumps := spSet none s.log.dumps n (some d) } }
    ({ s with boot := { s.boot with dumpNext := (n + 1) % 16 } }).fset F.LOG_CTRL.LAST_DUMP n

/-- DUMP (R349): a write of LOG_CTRL.DUMP. -/
def execDump (flashOk : Bool) (s : State) : Out := .next (s.hostWrite 0xB00000 (fun s => s.writeDump false flashOk))

/-- The keel copy is due to be dumped (R349): on the way to L5, or after a fatal W or C reset before READY. -/
def State.keelDumpDue (s : State) : Bool :=
  !s.boot.dumped && ((s.power.moving && decide (s.power.goal = 5) && decide (s.rung = 4)) ||
    (s.bit F.KEEL_CAUSE.FATAL && !s.ready && !s.held))

/-- KEEL_COPY_DUMP (R349). -/
def execKeelCopyDump (flashOk : Bool) (s : State) : Out :=
  .next (if s.keelDumpDue then
      let s := s.writeDump true flashOk
      ({ s with boot := { s.boot with dumped := true } }).readyCheck
    else s)

/-- LOAD (R349): dump slot DUMP_SLOT is copied to the dump window; an empty slot sets DUMP_ERR. -/
def loadDump (slot : Nat) (s : State) : State :=
  let s := s.fset F.LOG_CTRL.DUMP_SLOT slot
  match spGet none s.log.dumps slot with
  | some d => { s with log := { s.log with window := some d } }
  | none => s.fset F.LOG_CTRL.DUMP_ERR 1

/-- LOAD. -/
def execLoad (slot : Nat) (s : State) : Out := ifOk (Instr.wf (.load slot)) (s.hostWrite 0xB00000 (loadDump slot))

/-! ## Counters (R351–R353) -/

/-- Every counter of a group reads 0. -/
def State.zeroGroup (s : State) (g : Nat) : State := { s with counters := s.counters.filter (fun c => decide (c.1 / 16 ≠ g)) }

/-- COUNTER_GRANT (R353). -/
def counterGrant (src : Src) (group : Nat) (revoke : Bool) (s : State) : State :=
  if 31 < group then s.refuse 0xB0 src .range
  else
    let g := s.fget F.CNT_GRANT.GRANT
    let without := g - g / 2 ^ group % 2 * 2 ^ group
    (s.fset F.CNT_GRANT.GRANT (if revoke then without else without + 2 ^ group)).complete 0xB0 src .done

/-- COUNTER_GRANT. -/
def execCounterGrant (src : Src) (group : Nat) (revoke : Bool) (s : State) : Out :=
  .next (s.handle 0xB0 src (counterGrant src group revoke))

/-- CNT_CLEAR (R351): a write of CNT_SEL with CLEAR zeroes the group of the counter it names, except in groups 16–18. -/
def cntClear (counter : Nat) (s : State) : State :=
  let s := s.fset F.CNT_SEL.COUNTER counter
  let g := counter / 16
  if 16 ≤ g ∧ g ≤ 18 then s else s.zeroGroup g

/-- CNT_CLEAR. -/
def execCntClear (counter : Nat) (s : State) : Out := ifOk (Instr.wf (.cntClear counter)) (s.hostWrite 0xC00004 (cntClear counter))

/-- CNT_BIND_WRITE (R353): group 24 + k is bound to the space and zeroed. -/
def cntBindWrite (k space : Nat) (en : Bool) (s : State) : State :=
  ((s.fset (F.CNT_BIND.SPACE k) space).fset (F.CNT_BIND.EN k) en.toNat).zeroGroup (24 + k)

/-- CNT_BIND_WRITE. -/
def execCntBindWrite (k space : Nat) (en : Bool) (s : State) : Out :=
  ifOk (Instr.wf (.cntBindWrite k space en)) (s.hostWrite (0xC00020 + 4 * k) (cntBindWrite k space en))

/-- CNT_WINDOW.LEN in force, µs (R355). -/
def State.windowLen (s : State) : Nat := min 1000000 (max 10 (s.fget F.CNT_WINDOW.LEN))

/-- COUNTER_WINDOW_CLOSE (R352): at a TB3 multiple of LEN groups 16–18 show the bytes of the window just closed. -/
def counterWindowClose (bytes : List (Nat × Nat)) (s : State) : State :=
  if s.time.tb3 % (500 * s.windowLen) = 0 ∧ s.bit F.CNT_WINDOW.EN ∧ s.rung ≤ 2 then
    let kept := s.counters.filter (fun c => decide (c.1 < 256) || decide (304 ≤ c.1))
    let fresh := bytes.filter (fun b => decide (256 ≤ b.1) && decide (b.1 < 304))
    { s with counters := fresh.foldl (fun m b => spSet 0 m b.1 (min (2 ^ 64 - 1) b.2)) kept }
  else s

/-- COUNTER_WINDOW_CLOSE. -/
def execCounterWindowClose (bytes : List (Nat × Nat)) (s : State) : Out := .next (counterWindowClose bytes s)

end Sys2Proof.Machine
end

