-- ==== Sys2Proof/Machine/Queues.lean ====
section
/-!
DEFINITION. The queue engine and the taking of commands (R177, R275–R289, R293): doorbells, fetches, write-backs, enabling, and the
cells of a command read into the command they spell.
-/

namespace Sys2Proof.Machine

/-! ## Descriptors (R282, R284, R293) -/

/-- Cells of a queue's host ring: RING above 10 acts as 10 (R293). -/
def Queue.ringSize (d : Queue) : Nat := 2 ^ (6 + min 10 d.ring)

/-- Q_STATUS, the word at +0x0C of Q_WINDOW (R293); the model closes a packet in the step that opens it, so OPEN reads 0. -/
def Queue.status (d : Queue) : Nat :=
  d.inUse % 2 ^ 20 + 2 ^ 21 * d.gap.isSome.toNat + 2 ^ 22 * d.stopped.toNat + 2 ^ 23 * d.broken.toNat + 2 ^ 24 * d.dbErr.toNat +
  2 ^ 25 * d.cfgErr.toNat

/-- The write-back (Table: Write-back). -/
def State.writeBack (s : State) (q : Nat) : State :=
  let d := s.queue q
  s.emit (.hostWrite queueCtx d.wb (le 4 d.devIdx ++ le 4 d.dropsTotal ++ le 4 d.status ++ le 4 0) (s.noSnoop queueCtx d.wb))

/-- The queue engine may move this queue's cells: enabled, in this direction, not stopped, and requests may be sent. -/
def State.queueMoves (s : State) (q : Nat) (dir : Bool) : Bool :=
  let d := s.queue q
  d.en && (d.dir == dir) && !d.stopped && !d.broken && s.mayRequest

/-! ## Doorbells (R285) -/

/-- A doorbell index is taken: H2D at most the ring size beyond DEV_IDX, D2H not beyond DEV_IDX. -/
def Queue.mayRing (d : Queue) (index : Nat) : Bool :=
  if d.dir then decide ((d.devIdx + 2 ^ 32 - index) % 2 ^ 32 ≤ d.ringSize)
  else decide ((index + 2 ^ 32 - d.devIdx) % 2 ^ 32 ≤ d.ringSize)

/-- A doorbell sets HOST_IDX; a D2H queue may send its message again once HOST_IDX has risen (R284). -/
def Queue.doorbell (d : Queue) (index : Nat) : Queue :=
  if d.en && d.mayRing index then { d with hostIdx := index, sent := d.sent && decide (index = d.hostIdx) }
  else { d with dbErr := true }

/-- A doorbell of a queue (R285). -/
def doorbell (q index : Nat) (s : State) : State :=
  let i := index % 2 ^ 32
  let ok := (s.queue q).en && (s.queue q).mayRing i
  let s := (s.modQueue q (fun d => d.doorbell i)).count 11 5
  if ok then s else s.count 11 6

/-- DOORBELL (R285); on L3 and deeper no write reaches BAR4's queues. -/
def execDoorbell (queue index : Nat) (s : State) : Out :=
  ifOk (Instr.wf (.doorbell queue index)) (if s.rung ≤ 2 then doorbell queue index s else s)

/-! ## Fetching from a host ring (R283) -/

/-- A word that arrived poisoned reads 0 (R275, R286). -/
def blankWords (poison : List Nat) (bs : List Byte) : List Byte :=
  (List.range bs.length).map (fun k => if poison.contains (k / 8) then 0 else bs.getD k 0)

/-- The item that fetched cells make (R283, R286): LEN 0, above 4,096 or above the ring is a bad first cell, taken alone. -/
def fetchedItem (d : Queue) (cells : List (List Byte)) (poison : List Nat) : Item :=
  let raw := cells.flatten
  let bs := blankWords poison raw
  let len := leAt raw 4 2
  let bad := decide (len = 0) || decide (4096 < len) || decide (d.ringSize < len)
  let flags := leAt raw 2 1
  { code := leAt raw 0 1, kind := 1, prio := flags % 8
    pktPoison := poison.any (fun w => decide (8 ≤ w))
    poison := (poison.filter (fun w => decide (w < 8))).foldl (fun m w => m ||| 2 ^ w) 0
    len := if bad then 1 else len, seq := leAt raw 6 2, badLen := bad
    badHead := decide (leAt raw 1 1 ≠ 1) || decide (8 ≤ flags) || decide (leAt raw 3 1 ≠ 0), body := bs.drop 8 }

/-- H2D_FETCH (R283): the cells of one command, while the doorbell reaches past them, the queue takes them and its CQ is an enabled
D2H queue; DEV_IDX is written back. -/
def h2dFetch (q : Nat) (cells : List (List Byte)) (poison : List Nat) (s : State) : State :=
  let d := s.queue q
  let it := fetchedItem d cells poison
  let cq := s.queue d.cq
  if s.queueMoves q false && decide (cells.length = it.len) && decide (0 < cells.length) &&
     decide (it.len ≤ (d.hostIdx + 2 ^ 32 - d.devIdx) % 2 ^ 32) && !s.fullFor q it.len && cq.en && cq.dir then
    let s := (s.modQueue q (fun d => { d.link it with devIdx := (d.devIdx + it.len) % 2 ^ 32 })).count 11 0
    let s := if poison = [] then s else s.count 10 7
    s.writeBack q
  else s

/-- H2D_FETCH. -/
def execH2dFetch (queue : Nat) (cells : List (List Byte)) (poison : List Nat) (s : State) : Out :=
  ifOk (Instr.wf (.h2dFetch queue cells poison)) (h2dFetch queue cells poison s)

/-! ## Writing to a host ring (R284) -/

/-- The bytes of an item, its header first (R286). -/
def Item.bytes (i : Item) : List Byte :=
  padTo (64 * i.len)
    (le 1 i.code ++ le 1 i.kind ++ le 1 (i.prio + 8 * i.pktPoison.toNat) ++ le 1 i.poison ++ le 2 i.len ++ le 2 i.seq ++ i.body)

/-- An item's cells are written to consecutive ring slots from DEV_IDX (R282). -/
def State.writeCells (s : State) (d : Queue) (i : Item) : State :=
  (List.range i.len).foldl
    (fun (s : State) k =>
      let a := d.ringAddr + 64 * ((d.devIdx + k) % 2 ^ 32 % d.ringSize)
      s.emit (.hostWrite queueCtx a ((i.bytes.drop (64 * k)).take 64) (s.noSnoop queueCtx a))) s

/-- A poisoned word is delivered (QP_CTRL.POISON). -/
def State.notePoison (s : State) (i : Item) : State :=
  if i.poison ≠ 0 ∨ i.pktPoison then s.fset F.QP_CTRL.POISON 1 else s

/-- The message of a D2H queue (R284): one, until HOST_IDX has risen. -/
def State.queueMessage (s : State) (q : Nat) : State :=
  let d := s.queue q
  if 16 ≤ d.vector ∧ d.sent = false then (s.msix d.vector).modQueue q (fun d => { d with sent := true }) else s

/-- D2H_WRITE (R284): the head item is written whole while it fits before HOST_IDX plus the ring; then write-back and message. -/
def d2hWrite (q : Nat) (s : State) : State :=
  let d := s.queue q
  match d.head? with
  | none => s
  | some h =>
    if s.queueMoves q true && decide ((d.devIdx + 2 ^ 32 - d.hostIdx) % 2 ^ 32 + h.len ≤ d.ringSize) then
      match s.pop q with
      | (some i, s) =>
        let s := (s.writeCells d i).modQueue q (fun d => { d with devIdx := (d.devIdx + i.len) % 2 ^ 32 })
        ((s.notePoison i).writeBack q).queueMessage q
      | (none, s) => s
    else s

/-- D2H_WRITE. -/
def execD2hWrite (queue : Nat) (s : State) : Out := ifOk (Instr.wf (.d2hWrite queue)) (d2hWrite queue s)

/-! ## Enabling, disabling, parity (R275, R276, R293) -/

/-- POOL_INITIALISATION (R275). -/
def execPoolInitialisation (s : State) : Out :=
  .next (if s.held || decide (3 ≤ s.rung) then s else s.fset F.QP_CTRL.READY 1)

/-- A queue may be enabled (R293). -/
def State.mayEnable (s : State) (q : Nat) : Bool :=
  let d := s.queue q
  s.bit F.QP_CTRL.READY && decide (d.reserve + 1 ≤ s.poolFree) && decide (d.reserve ≤ d.limitNow) &&
  decide (d.ringAddr % 4096 = 0) && decide (d.wb % 16 = 0) && !(decide (1 ≤ d.vector) && decide (d.vector ≤ 15))

/-- A queue just enabled: empty, its indices and drops 0 (R293). -/
def Queue.start (d : Queue) : Queue :=
  { d with en := true, devIdx := 0, hostIdx := 0, drops := 0, dropsTotal := 0, items := [], gap := none, reserved := 0, pushes := 0
           stopped := false, broken := false, sent := false }

/-- EN of a queue is set (R293). -/
def enableQueue (q : Nat) (s : State) : State :=
  if (s.queue q).en then s
  else if s.mayEnable q then s.modQueue q Queue.start
  else s.modQueue q (fun d => { d with cfgErr := true })

/-- EN of a queue is cleared (R293): its items go and its cells are free; what was reserved in it is reserved no more. -/
def disableQueue (q : Nat) (s : State) : State :=
  if !(s.queue q).en then s
  else
    let resv := s.link.resv.filter (fun p => decide (s.cqOf p.1 ≠ q))
    let s := s.modQueue q (fun d => { d with en := false, items := [], gap := none, reserved := 0, stopped := false })
    let s := { s with link := { s.link with resv := resv, endResv := s.link.endResv.filter (fun p => decide (p.2 ≠ q))
                                            faulted := s.link.faulted.filter (fun p => decide (p.1 ≠ q)) } }
    { s with tows := { s.tows with tows := s.tows.tows.map (fun t => if t.endQueue = q then { t with endQueue := 4096 } else t) } }

/-- QUEUE_ENABLE (R293): of the queue Q_SEL names. -/
def execQueueEnable (s : State) : Out := .next (s.hostWrite 0x900010 (enableQueue (s.fget F.Q_SEL.QUEUE)))

/-- QUEUE_DISABLE (R293). -/
def execQueueDisable (s : State) : Out := .next (s.hostWrite 0x900010 (disableQueue (s.fget F.Q_SEL.QUEUE)))

/-- QUEUE_SCRUB (R276): EN of a BROKEN queue is cleared and set again. -/
def execQueueScrub (queue : Nat) (s : State) : Out :=
  ifOk (Instr.wf (.queueScrub queue))
    (if (s.queue queue).broken && decide (s.rung ≤ 2) then enableQueue queue (disableQueue queue s) else s)

/-- LINK_PARITY_FAIL (R276). -/
def execLinkParityFail (queue : Nat) (s : State) : Out :=
  ifOk (Instr.wf (.linkParityFail queue))
    (if (s.queue queue).en && !(s.queue queue).broken then
       let s := ((s.modQueue queue (fun d => { d with broken := true })).fset F.QP_CTRL.LINK_ERR 1).fset F.QP_CTRL.LAST_BROKEN queue
       (s.logEntry 6 9 .component .queue 0 queue).count 11 4
     else s)

/-! ## The cells of a command (R286, R287, R289) -/

/-- An argument of a command, by its offset in the cell; the item's body begins at offset 8. -/
def arg (b : List Byte) (o n : Nat) : Nat := leAt b (o - 8) n

/-- Bytes of a command's first cell that arguments take: offset, size, and the bits a one-byte field of flags may set (0: all). -/
def argSpans (op : Nat) : List (Nat × Nat × Nat) :=
  match op with
  | 0x10 => [(16, 4, 0), (20, 2, 0)]
  | 0x11 => [(16, 4, 0), (20, 2, 0), (22, 1, 1)]
  | 0x21 => [(16, 4, 0)]
  | 0x22 => [(16, 4, 0), (20, 1, 3), (24, 4, 0), (32, 14, 0)]
  | 0x23 => [(16, 4, 0)]
  | 0x24 => [(16, 4, 0), (20, 1, 2), (24, 4, 0), (28, 4, 0), (32, 14, 0), (48, 8, 0)]
  | 0x30 => [(16, 2, 0), (18, 2, 0)]
  | 0x31 => [(16, 2, 0), (18, 1, 1)]
  | 0x32 | 0x33 => [(16, 2, 0)]
  | 0x40 => [(16, 2, 0), (18, 1, 1), (19, 2, 0), (22, 4, 0), (28, 36, 0)]
  | 0x41 => [(16, 1, 0)]
  | 0x42 => [(16, 4, 0), (24, 16, 0)]
  | 0x43 => [(16, 1, 0), (24, 8, 0)]
  | 0x44 => [(16, 1, 0), (17, 1, 1), (18, 2, 0)]
  | 0x50 | 0x52 | 0x60 | 0x70 | 0x80 => [(16, 1, 0)]
  | 0x51 => [(16, 1, 0), (24, 16, 0)]
  | 0x61 => [(16, 4, 0)]
  | 0x71 => [(16, 1, 0), (17, 1, 1)]
  | 0x81 => [(16, 8, 0), (24, 7, 0)]
  | 0x91 => [(16, 1, 3)]
  | 0xA2 => [(16, 2, 0)]
  | 0xB0 => [(16, 1, 0), (17, 1, 1)]
  | 0xC0 => [(16, 1, 0), (17, 1, 1), (18, 5, 0), (24, 2, 0)]
  | _ => []

/-- The opcodes of Table: Commands (R289). -/
def opcodes : List Nat :=
  [0x01, 0x02, 0x10, 0x11, 0x12, 0x20, 0x21, 0x22, 0x23, 0x24, 0x30, 0x31, 0x32, 0x33, 0x40, 0x41, 0x42, 0x43, 0x44, 0x50, 0x51,
   0x52, 0x60, 0x61, 0x70, 0x71, 0x80, 0x81, 0x90, 0x91, 0xA0, 0xA1, 0xA2, 0xB0, 0xC0]

/-- Reserved bits of byte k of the first cell. -/
def reservedByte (spans : List (Nat × Nat × Nat)) (k : Nat) : Nat :=
  match spans.find? (fun x => decide (x.1 ≤ k) && decide (k < x.1 + x.2.1)) with
  | some (_, _, m) => if m = 0 then 0 else 255 - m
  | none => 255

/-- LEN that the opcode asks (R289). -/
def wantedLen (op : Nat) (b : List Byte) : Nat :=
  match op with
  | 0x10 => 1 + (arg b 20 2 + 3) / 4
  | 0x20 => 38
  | 0x40 => 2
  | _ => 1

/-- Bytes of the later cells that must be 0 (R289): those beyond the data. -/
def tailZero (op : Nat) (b : List Byte) : Bool :=
  match op with
  | 0x10 => allZero (b.drop (56 + 16 * arg b 20 2))
  | 0x20 => allZero (b.drop (56 + 2336))
  | 0x40 => allZero (b.drop (56 + 16))
  | _ => true

/-- The MALFORMED conditions of a command, LENGTH before POISON before RESERVED, then UNKNOWN_OP (R287, R288). -/
def commandFault (i : Item) : Option (Status × Reason) :=
  let known := opcodes.contains i.code
  if i.badLen || (known && decide (i.len ≠ wantedLen i.code i.body)) then some (.malformed, .length)
  else if i.poison ≠ 0 ∨ i.pktPoison then some (.malformed, .poison)
  else if i.badHead then some (.malformed, .reserved)
  else if !known then some (.unknownOp, .none)
  else if (List.range 48).any (fun k => decide ((i.body.getD (8 + k) 0).toNat &&& reservedByte (argSpans i.code) (16 + k) ≠ 0)) ||
          !tailZero i.code i.body then some (.malformed, .reserved)
  else none

/-- Cells of a command's completion (R287, R289); one that its own COUNT refuses takes one. -/
def completionCells (op : Nat) (b : List Byte) : Nat :=
  match op with
  | 0x02 => 2
  | 0x11 => if arg b 20 2 ≤ 1024 then 1 + (arg b 20 2 + 3) / 4 else 1
  | 0x30 => if arg b 18 2 ≤ 512 then 1 + (arg b 18 2 + 3) / 4 else 1
  | 0x70 => 67
  | _ => 1

/-- The time field at an offset (R289). -/
def timeArg (b : List Byte) (o : Nat) : TimeField := ⟨arg b o 8, arg b (o + 8) 4, arg b (o + 12) 2⟩

/-- The entries of a MAP_WRITE, 16 bytes each from the second cell on (R60, R289). -/
def mapArgs (b : List Byte) (n : Nat) : List MapEntry := (List.range n).map (fun k => BitVec.ofNat 128 (leAt b (56 + 16 * k) 16))

/-- The PEER array of a PLAN_SUBMIT (R173). -/
def peerArg (b : List Byte) : Peer :=
  (List.range 1160).filterMap (fun a => let v := leAt b (56 + 2 * a) 2; if v = 0xFFFF then none else some (a, v))

/-- The PROOF array of a PLAN_SUBMIT (R173). -/
def proofArg (b : List Byte) : List Nat := (List.range 8).map (fun k => leAt b (56 + 2320 + 2 * k) 2)

/-- An image of which nothing is known yet: what IMAGE_STAGE will fetch is supplied as the command runs. -/
def imageUnknown : Image :=
  { headerOk := false, sigOk := false, digestOk := false, tableOk := false, crcOk := false, length := 0, hash := 0, fw := 0
    sections := [], vals := [], axisMap := [], compat := [], cabPlane := 0, cabSwitch := 0, refresh := 0, cabling := []
    settle := 0, system := [], keep := [], uplink := [] }

/-- A bit of a flags byte. -/
def argBit (b : List Byte) (o k : Nat) : Bool := decide (arg b o 1 / 2 ^ k % 2 = 1)

/-- The command its cells spell (R289); what the outside supplies as it runs (held codes, samples, an image, verdicts) stands at
nothing, and is given by the command that runs it (log 41). -/
def commandOf (src : Src) (op : Nat) (b : List Byte) : Option Instr :=
  match op with
  | 0x01 => some (.identify src)
  | 0x02 => some (.statusSnapshot src)
  | 0x10 => some (.mapWrite src (arg b 16 4) (mapArgs b (arg b 20 2)))
  | 0x11 => some (.mapRead src (arg b 16 4) (arg b 20 2) (argBit b 22 0))
  | 0x12 => some (.mapCommit src)
  | 0x20 => some (.planSubmit src (peerArg b) (proofArg b))
  | 0x21 => some (.planDrop src (arg b 16 4))
  | 0x22 => some (.lockSchedule src (arg b 16 4) (argBit b 20 0) (argBit b 20 1) (arg b 24 4) (timeArg b 32))
  | 0x23 => some (.lockAbort src (arg b 16 4))
  | 0x24 => some (.lockJoint src (arg b 16 4) (argBit b 20 1) (arg b 24 4) (arg b 28 4) (timeArg b 32) (arg b 48 8))
  | 0x30 => some (.portStateGet src (arg b 16 2) (arg b 18 2))
  | 0x31 => some (.portQuarantine src (arg b 16 2) (argBit b 18 0))
  | 0x32 => some (.portAcceptAsFound src (arg b 16 2))
  | 0x33 => some (.berthCheck src (arg b 16 2))
  | 0x40 =>
    some (.spaceCreate src (arg b 16 1) (arg b 17 1) (argBit b 18 0) (arg b 19 1) (arg b 20 1) (arg b 22 2) (arg b 24 2) (arg b 28 4)
      (arg b 32 8) (arg b 40 8) (arg b 48 8) (arg b 56 8) (arg b 64 8) (arg b 72 8))
  | 0x41 => some (.spaceDestroy src (arg b 16 1))
  | 0x42 => some (.towSubmit src (arg b 16 1) (arg b 17 1) (arg b 18 2) (arg b 24 8) (arg b 32 8))
  | 0x43 => some (.towCancel src (arg b 16 1) (arg b 24 8))
  | 0x44 => some (.faultResume src (arg b 16 1) (argBit b 17 0) (arg b 18 2))
  | 0x50 => some (.poundReload src (arg b 16 1) true)
  | 0x51 => some (.imageStage src (arg b 16 1) (arg b 24 8) (arg b 32 8) imageUnknown true)
  | 0x52 => some (.imageActivate src (arg b 16 1))
  | 0x60 => some (.rungSet src (arg b 16 1))
  | 0x61 => some (.powerCap src (arg b 16 2) (arg b 18 2))
  | 0x70 => some (.cartQuery src (arg b 16 1))
  | 0x71 => some (.cartSwap src (arg b 16 1) (argBit b 17 0))
  | 0x80 => some (.timeAcceptJump src (arg b 16 1))
  | 0x81 => some (.timeSetGm src (arg b 16 8) (arg b 24 2) (arg b 26 1) (arg b 27 1) (arg b 28 1) (arg b 29 1) (arg b 30 1))
  | 0x90 => some (.pairStatus src)
  | 0x91 => some (.pairHandover src (argBit b 16 0) (argBit b 16 1))
  | 0xA0 => some (.logFreeze src)
  | 0xA1 => some (.logThaw src)
  | 0xA2 => if arg b 17 1 ≤ 1 then some (.logMark src (arg b 16 1) (decide (arg b 17 1 = 1))) else none
  | 0xB0 => some (.counterGrant src (arg b 16 1) (argBit b 17 0))
  | 0xC0 => some (.setpointRoute src (arg b 16 1) (argBit b 17 0) (arg b 18 2) (arg b 20 2) (arg b 22 1) (arg b 24 2))
  | _ => none

/-! ## Taking a command (R287, R288) -/

/-- Cells can be reserved in a queue: an enabled D2H queue that is not full for them. -/
def State.canReserve (s : State) (q n : Nat) : Bool :=
  let d := s.queue q
  d.en && d.dir && !s.fullFor q n

/-- Reserve cells in a queue. -/
def State.reserveCells (s : State) (q n : Nat) : State := s.modQueue q (fun d => { d with reserved := d.reserved + n })

/-- Where the end event of the tow that a TOW_SUBMIT would make goes: the CQ of its space (R287). -/
def State.endQueueOf (s : State) (i : Item) : Option Nat :=
  if i.code = 0x42 ∧ commandFault i = none then (s.space (arg i.body 16 1)).map (fun sp => sp.cq) else none

/-- The reservations of a command (R287), all of them or none. -/
def State.reserveFor (s : State) (src : Src) (i : Item) : Option State :=
  let cq := s.cqOf src
  let n := if commandFault i = none then completionCells i.code i.body else 1
  if !s.canReserve cq n then none
  else
    let s := s.reserveCells cq n
    let s := { s with link := { s.link with resv := s.link.resv ++ [(src, n)] } }
    match s.endQueueOf i with
    | none => some s
    | some e =>
      if s.canReserve e 1 then
        let s := s.reserveCells e 1
        some { s with link := { s.link with endResv := s.link.endResv ++ [(src, e)] } }
      else none

/-- A command taken (R288): completed MALFORMED or UNKNOWN_OP, or held for its own handling. -/
def State.takeCommand (s : State) (src : Src) (i : Item) : State :=
  let s := s.notePoison i
  match commandFault i with
  | some (st, r) =>
    let s := if st = .malformed then s.count 11 9 else s
    (s.count 11 7).complete i.code src st r.code
  | none =>
    match commandOf src i.code i.body with
    | some c => { s with taken := s.taken ++ [c] }
    | none => (s.count 11 7).refuse i.code src .range

/-- Where a queue's command comes from (R287). -/
def srcFrom (q : Nat) (i : Item) : Src := ⟨q, arg i.body 8 8, i.prio⟩

/-- The queues with a command, from the one after the queue served last on, round-robin (R288). -/
def State.commandQueues (s : State) : List Nat :=
  let due := (s.link.queues.filter (fun p => p.2.en && !p.2.dir && !p.2.broken && decide (p.2.items ≠ []))).map (fun p => p.1)
  due.filter (fun q => decide (s.link.served < q)) ++ due.filter (fun q => decide (q ≤ s.link.served))

/-- Take the head command of the first queue whose reservations can be made; the heads of the queues passed over wait. -/
def takeFirst (s : State) : List Nat → State
  | [] => s
  | q :: qs =>
    match (s.queue q).head? with
    | none => takeFirst s qs
    | some i =>
      match s.reserveFor (srcFrom q i) i with
      | none => takeFirst (s.count 11 11) qs
      | some t =>
        let t := (t.pop q).2
        ({ t with link := { t.link with served := q } }).takeCommand (srcFrom q i) i

/-- COMMAND_TAKE (R288). -/
def execCommandTake (s : State) : Out := .next (if s.cores then takeFirst s s.commandQueues else s)

/-! ## The policy ring (R177, R178) -/

/-- Basin address of the policy ring's header. -/
def State.policyBase (s : State) (sp : Space) : Nat := sp.basinBase + 4096 * s.fget F.POLICY_RING.OFFSET

/-- A word of the ring's header: SIZE at 0, WRITE at 4, READ at 8. -/
def State.policyWord (s : State) (sp : Space) (o : Nat) : Nat := ofLe (memBytes s.mem.basin (s.policyBase sp + o) 4)

/-- The bytes of n cells from READ on. -/
def State.policyCells (s : State) (sp : Space) (size rd n : Nat) : List Byte :=
  (List.range n).flatMap (fun k => memBytes s.mem.basin (s.policyBase sp + 64 + 64 * ((rd + k) % size)) 64)

/-- Words of those cells that the basin reports uncorrectable (R275). -/
def State.policyPoison (s : State) (sp : Space) (size rd n : Nat) : List Nat :=
  (List.range (8 * n)).filter (fun w =>
    s.mem.poison.contains (0, (s.policyBase sp + 64 + 64 * ((rd + w / 8) % size)) / 8 + w % 8))

/-- SIZE is a power of two from 16 to 4,096 cells (R177). -/
def policySize (n : Nat) : Bool := (List.range 9).any (fun k => decide (n = 2 ^ (k + 4)))

/-- The command at READ is taken (R177): READ moves on, and at WRITE no cell is due. -/
def State.takePolicy (s : State) (sp : Space) (size wr rd : Nat) : State :=
  let ring : Queue := { en := true, ring := 0 }
  let head := s.policyCells sp size rd 1
  let len := leAt head 4 2
  let bad := decide (len = 0) || decide (size < len) || decide ((wr + 2 ^ 32 - rd) % 2 ^ 32 < len)
  let n := if bad then 1 else len
  let it := { fetchedItem ring [s.policyCells sp size rd n] (s.policyPoison sp size rd n) with len := n, badLen := bad }
  let src := srcFrom 0xFFFF it
  match s.reserveFor src it with
  | none => s.count 11 11
  | some t =>
    let next := (rd + n) % 2 ^ 32
    let t := { t with mem := { t.mem with basin := memPut t.mem.basin (t.policyBase sp + 8) (le 4 next) } }
    let t := { t with auction := { t.auction with policyDue := decide (next ≠ wr) } }
    let t := (t.count 8 9).takeCommand src it
    { t with taken := t.taken.map (fun c =>
        match c with
        | .lockSchedule src' p a b i tf =>
          if src' = src ∧ tf.sec = 0 then
            .lockSchedule src' p a b i ⟨(s.time.tb0.ns + tf.ns) / 10 ^ 9, (s.time.tb0.ns + tf.ns) % 10 ^ 9, 0⟩
          else c
        | _ => c) }

/-- POLICY_CELL (R177): while POLICY_EN is set and a SIGNAL on counter 63 has made cells due. -/
def policyCell (s : State) : State :=
  if !s.cores || !s.auction.policyDue || !s.bit F.AUC_CTRL.POLICY_EN then s
  else match s.space (s.fget F.AUC_CTRL.POLICY_SPACE) with
    | none => s
    | some sp =>
      let size := s.policyWord sp 0
      let wr := s.policyWord sp 4
      let rd := s.policyWord sp 8
      if !policySize size || decide (rd = wr) then { s with auction := { s.auction with policyDue := false } }
      else s.takePolicy sp size wr rd

/-- POLICY_CELL. -/
def execPolicyCell (s : State) : Out := .next (policyCell s)

end Sys2Proof.Machine
end

