-- ==== Sys2Proof/Machine/Views.lean ====
section
/-!
DEFINITION. What a BAR0 read shows (R57, R100, R129, R179, R195, R240, R293, R312, R337, R355): the stored word, with the fields that
report live conditions computed from the state.
-/

namespace Sys2Proof.Machine

/-- A word with these fields put in. -/
def withFields (w : Word) (l : List (Fld × Nat)) : Word := l.foldl (fun w p => fldPut w p.1 p.2) w

/-- The low and the high half of a 64-bit value. -/
def half64 (v : Nat) (hi : Bool) : Word := BitVec.ofNat 32 (if hi then v / 2 ^ 32 else v)

/-- A 64-bit signed value. -/
def signed64 (x : Int) : Nat := ofSigned 64 x

/-! ## Registers of single blocks -/

/-- AXIS_FLAGS of a slot: a written MODE or CLASS shows before it takes effect (R383). -/
def Axis.word (x : Axis) : Word :=
  let x := match x.modeReq with | some m => x.fset (F.AXIS_FLAGS.MODE 0 0) m | none => x
  (match x.classReq with | some c => x.fset (F.AXIS_FLAGS.CLASS 0 0) c | none => x).flags

/-- A word of a reach's block (R57). -/
def State.viewReach (s : State) (r o : Nat) (w : Word) : Word :=
  if 0x2000 ≤ o then (match s.slotAxis r ((o - 0x2000) / 4) with | some a => (s.axis a).word | none => w)
  else match o with
  | 0x00 =>
    (match s.steer.relief with
     | some q =>
       withFields w [(F.REACH_CTRL.RELIEVE 0, (decide (q.source = r ∧ q.trigger = .software ∧ q.committed = false)).toNat),
                     (F.REACH_CTRL.RETURN 0, (decide (q.source = r ∧ q.returning = true)).toNat)]
     | none => w)
  | 0x04 => withFields w [(F.REACH_STATUS.DUTY 0, s.duty r), (F.REACH_STATUS.RELIEVING 0, if r = 8 then s.relieving else 0xF)]
  | 0x0C => withFields w [(F.SCHED_CTRL.RUN_EXIT 0, max 1 (fldOf w (F.SCHED_CTRL.RUN_EXIT 0)))]
  | 0x18 => withFields w [(F.GANG_CTRL.GANG 0, s.gangShown r)]
  | 0x1C =>
    let ain := s.steer.ainAxis.filter (fun a => decide (s.reachOf a = r))
    let st := s.steer.stepAxis.filter (fun a => decide (s.reachOf a = r))
    withFields w [(F.SETPT_ROUTE.AIN_SLOT 0, (ain.map s.slotOf).getD 0), (F.SETPT_ROUTE.AIN_EN 0, ain.isSome.toNat),
                  (F.SETPT_ROUTE.STEP_SLOT 0, (st.map s.slotOf).getD 0), (F.SETPT_ROUTE.STEP_EN 0, st.isSome.toNat)]
  | 0x24 =>
    if s.steer.ainAxis.any (fun a => decide (s.reachOf a = r)) then
      withFields w [(F.SETPT_SCALE.GAIN 0, s.steer.ainGain.toNat), (F.SETPT_SCALE.SHIFT 0, s.steer.ainShift)]
    else w
  | 0x28 => if s.steer.stepAxis.any (fun a => decide (s.reachOf a = r)) then withFields w [(F.SETPT_STEP.STEP_SIZE 0, s.steer.stepSize)] else w
  | _ => w

/-- A phase as LOCK_STATUS codes it (R100). -/
def Phase.shown : Phase → Nat
  | .opening => 2 | .slewing => 3 | .capturing => 4 | .proving => 5 | .proved => 6 | .failed => 6

/-- LOCK_STATUS (R100): the running cycle's least advanced path, or PREPARING while a cycle is pending; berth cycles are not among the
pending cycles PENDING counts (R80, R247). A running cycle without a new path shows 6 CLOSE: the manual gives it no phase (DESIGN
CHOICE, log 67). -/
def State.viewLock (s : State) (w : Word) : Word :=
  let pending := (s.lock.cycles.filter (fun c => c.opened.isNone && !c.berth)).length
  match s.running with
  | some c =>
    let ph := c.paths.foldl (fun m p => min m p.phase.shown) 6
    withFields w [(F.LOCK_STATUS.PHASE, ph), (F.LOCK_STATUS.PENDING, pending), (F.LOCK_STATUS.WAVE2, c.wave2.toNat),
                  (F.LOCK_STATUS.FALLBACK, c.fallback.toNat), (F.LOCK_STATUS.LIMITED, c.limited.toNat),
                  (F.LOCK_STATUS.EXTENDED, c.extended.toNat), (F.LOCK_STATUS.JOINT, c.joint.toNat),
                  (F.LOCK_STATUS.PROOF_BUSY, (decide (s.lock.proofs ≠ [])).toNat)]
  | none =>
    withFields w [(F.LOCK_STATUS.PHASE, if s.lock.cycles = [] then 0 else 1), (F.LOCK_STATUS.PENDING, pending),
                  (F.LOCK_STATUS.PROOF_BUSY, (decide (s.lock.proofs ≠ [])).toNat)]

/-- Spare lanes, rings and the rest that RAS_SPARES counts (R355): its reset value until CAL_DONE. -/
def State.viewSpares (s : State) : Word :=
  if !s.bit F.KEEL_STATUS.CAL_DONE then resetWord 0xD00004
  else
    let stack := fun n => (!(s.mem.channels.any (fun c => decide (c.1 = n)))).toNat
    let rows := s.mem.rows.foldl (fun m r => min m (64 - s.rowsUsed r.1)) 64
    let cols := (List.range 4).foldl (fun m n => min m (8 - s.fget (F.ARRAY_STATUS.SPARES_USED n))) 8
    let rings := ((List.range 176).filter (fun r => isSpareRing r && s.spareFree r)).length
    withFields 0
      [(F.RAS_SPARES.CORES, s.coreSpares), (F.RAS_SPARES.AUCTION, (decide (s.fget F.AUC_STATUS.RETIRED = 0)).toNat),
       (F.RAS_SPARES.RELIEF, s.reliefFree.toNat), (F.RAS_SPARES.PHASES, s.phaseSpares.1 - s.phaseSpares.2),
       (F.RAS_SPARES.STACK, stack 0 + 2 * stack 1),
       (F.RAS_SPARES.TOWPATH, (!s.pair.headA.spareUsed).toNat + 2 * (!s.pair.headB.spareUsed).toNat),
       (F.RAS_SPARES.TETHER, (!s.laneUsed 4).toNat), (F.RAS_SPARES.BAY, (bays.any (fun b => decide (s.bayState b = 2))).toNat),
       (F.RAS_SPARES.ROWS, rows), (F.RAS_SPARES.COLUMNS, cols), (F.RAS_SPARES.RINGS, min 63 rings)]

/-- A word of Q_WINDOW, +4 i (R293). -/
def Queue.word (d : Queue) (i : Nat) : Word :=
  match i with
  | 0 => BitVec.ofNat 32 (d.en.toNat + 2 * d.dir.toNat + 4 * (d.vector % 2048) + 2 ^ 13 * (d.ring % 16) + 2 ^ 17 * (d.cq % 4096))
  | 1 => BitVec.ofNat 32 d.limit
  | 2 => BitVec.ofNat 32 d.reserve
  | 3 => BitVec.ofNat 32 d.status
  | 4 => half64 d.ringAddr false
  | 5 => half64 d.ringAddr true
  | 6 => half64 d.wb false
  | 7 => half64 d.wb true
  | 8 => BitVec.ofNat 32 d.devIdx
  | 9 => BitVec.ofNat 32 d.hostIdx
  | 10 => BitVec.ofNat 32 d.drops
  | _ => BitVec.ofNat 32 (d.teleSrc % 4 + 4 * (d.teleAxis % 8192) + 2 ^ 15 * (d.telePrio % 8))

/-- A counter as CNT_VALUE and BAR4 show it (R351, R352): windowed groups read 0 while disabled. -/
def State.counterShown (s : State) (n : Nat) : Nat :=
  if 256 ≤ n ∧ n < 304 ∧ s.bit F.CNT_WINDOW.EN = false then 0 else spGet 0 s.counters n

/-- A rewind mark as LOG_MARK shows it (R355). -/
def Mark.shown (m : Mark) : Nat := m.index % 2 ^ 48 + 2 ^ 48 * m.lost + 2 ^ 63 * m.valid.toNat

/-- TB_OFFSET of a base (R195). -/
def State.offsetShown (s : State) (n : Nat) : Int :=
  let b := s.base n
  if n = 2 then (if s.active then 0 else b.offset)
  else if s.bit (jumpFld n) then b.offset
  else if b.slew ≠ 0 then b.slew / (10 ^ 12 : Int)
  else b.offset

/-- Words of the TIME block that are computed (R195). -/
def State.viewTime (s : State) (o : Nat) (w : Word) : Word :=
  if o = 0x10 then withFields w [(F.TB_FLAGS.HOLD_ERR, s.holdErr), (F.TB_FLAGS.TB2_SYNC, s.standby.toNat)]
  else if 0x20 ≤ o ∧ o < 0x60 then BitVec.ofNat 32 (nowWord (s.time.latched.getD ((o - 0x20) / 16) 0) ((o - 0x20) % 16 / 4))
  else if 0x60 ≤ o ∧ o < 0x78 then half64 (signed64 (s.offsetShown ((o - 0x60) / 8))) (decide (o % 8 = 4))
  else if 0x78 ≤ o ∧ o < 0x84 then BitVec.ofNat 32 (ofSigned 32 ((s.base ((o - 0x78) / 4)).rateNow s.slewPpm))
  else w

/-- Words of the LOG block that are computed (R355). -/
def State.viewLog (s : State) (o : Nat) (w : Word) : Word :=
  match o with
  | 0x04 => withFields w [(F.LOG_FLAGS.FROZEN, s.log.frozen.toNat), (F.LOG_FLAGS.FULL, (decide (bookCap ≤ s.log.book.length)).toNat),
                          (F.LOG_FLAGS.ANNEX, s.log.annex.length)]
  | 0x08 => half64 s.log.head false
  | 0x0C => half64 s.log.head true
  | 0x18 => withFields w [(F.LOG_KEEL.HELD, s.log.keel.length)]
  | _ => if 0x40 ≤ o ∧ o < 0x80 then half64 (spGet {} s.log.marks ((o - 0x40) / 8) : Mark).shown (decide (o % 8 = 4)) else w

/-- Words of the STRUCT block that are computed (R337). -/
def State.viewStruct (s : State) (o : Nat) (w : Word) : Word :=
  match o with
  | 0x00 => withFields w [(F.IMG_STATUS.STALE, ((List.range 15).any (fun n => decide (s.poundState n = 4))).toNat)]
  | 0x04 => withFields w [(F.IMG_SLOT.WP, s.boot.wp.toNat)]
  | _ => w

/-- Seconds on the present rung, saturating (R312). -/
def State.stay (s : State) : Nat := min 65535 ((s.time.tb3 - s.power.since) / 500000000)

/-- What a read of the word at a BAR0 offset shows while its block runs. -/
def State.view (s : State) (off : Nat) : Word :=
  let w := s.word off
  let o := off % 0x100000
  match off / 0x100000 with
  | 0 => if o = 4 then withFields w [(F.KEEL_STATUS.RUNG, s.rung)] else w
  | 1 => if o = 4 then withFields w [(F.PWR_RUNG_STATE.STAY, s.stay)] else w
  | 2 => s.viewTime o w
  | 4 => if o < 0x90000 then s.viewReach (o / 0x10000) (o % 0x10000) w else w
  | 5 => if o = 0 then s.viewLock w else if o = 4 then BitVec.ofNat 32 s.runningId
         else if o = 0x28 then
           withFields w [(F.MAP_STATUS.JOURNAL, s.map.journal.length), (F.MAP_STATUS.FLASH_PENDING, (decide (s.map.dirty ≠ [])).toNat)]
         else w
  | 6 => if o = 0x1C then withFields w [(F.RING_STATUS.LOCKED, s.ringsIn 2), (F.RING_STATUS.SPARES_USED, s.light.spared.length),
                                        (F.RING_STATUS.RETRAINING, min 63 (s.ringsIn 3))] else w
  | 7 => if o = 0x14 then
           let host := (s.tows.reqs.filter (fun r => r.host)).length
           withFields w [(F.TUG_STATUS.INFLIGHT, min 4096 s.tows.reqs.length), (F.TUG_STATUS.HOST_INFLIGHT, min 768 host),
                         (F.TUG_STATUS.HOST_FULL, (decide (768 ≤ host)).toNat),
                         (F.TUG_STATUS.STACK0_BP, (s.tows.waits.any (fun x => decide (x.2 = 1))).toNat),
                         (F.TUG_STATUS.STACK1_BP, (s.tows.waits.any (fun x => decide (x.2 = 2))).toNat),
                         (F.TUG_STATUS.BASIN_BP, (s.tows.waits.any (fun x => decide (x.2 = 0))).toNat),
                         (F.TUG_STATUS.STACK_WAIT, (s.bit F.TUG_STATUS.STACK_WAIT &&
                            (!s.bit F.KEEL_STATUS.STACK_READY || s.power.stackHeld)).toNat)]
         else w
  | 8 => if o = 4 then withFields w [(F.AUC_STATUS.QUEUED, min 64 (s.auction.feeds.length + s.auction.orphans.length))]
         else if o = 0xC then
           withFields w [(F.PLAN_LIB.USED, (s.lock.lib.filter (fun p => decide (0 < p.1) && decide (p.2.state ≠ 0))).length)]
         else w
  | 9 => if o = 4 then BitVec.ofNat 32 s.poolFree
         else if 0x10 ≤ o ∧ o < 0x40 then (s.queue (s.fget F.Q_SEL.QUEUE)).word ((o - 0x10) / 4)
         else w
  | 11 => s.viewLog o w
  | 12 => if o = 0x10 ∨ o = 0x14 then half64 (s.counterShown (s.fget F.CNT_SEL.COUNTER)) (decide (o = 0x14)) else w
  | 13 => if o = 4 then s.viewSpares else w
  | 15 => s.viewStruct o w
  | _ => w

/-- What a host read of a word returns (R314, R385): before the cores start, the reset value of a block other than KEEL and STRUCT;
on L3, 0 for a block that does not run. -/
def State.readWord (s : State) (off : Nat) : Word :=
  if s.reaches off then s.view off
  else if 3 ≤ s.rung then 0
  else resetWord off

/-! ## Pins (R367) -/

/-- ALERT_N is asserted (R367). -/
def State.alertAsserted (s : State) : Bool :=
  s.boot.stopped ||
  (!s.boot.resetLow && (s.bit F.LOG_FLAGS.ALERT || (s.bit F.PAIR_STATUS.ORPHANED && s.bit F.PAIR_CFG.ALERT_ORPHAN) || s.power.touchAlert))

end Sys2Proof.Machine
end

