-- ==== Sys2Proof/Machine/TestPort.lean ====
section
/-!
DEFINITION. The test port and the boundary-scan register (R370, IEEE 1149.1). No row of the opcode table acts on the port: the
operations here stand beside the commands, and none of them is reached by one (log 11).
-/

namespace Sys2Proof.Machine

/-! ## Instructions (R370) -/

/-- IDCODE (R370): version, part 0x1152 and 0x0C1. -/
def idcode (rev : Nat) : Word := BitVec.ofNat 32 (rev * 2 ^ 28 + 0x1152 * 2 ^ 12 + 0x0C1)

/-- The port accepts an instruction (R370): BYPASS, IDCODE and SAMPLE/PRELOAD always, any other only while RESET_N is low. -/
def State.testAccepts (s : State) (i : TestInstr) : Bool :=
  match i with
  | .bypass | .idcode | .samplePreload => true
  | .extest | .other _ => s.boot.resetLow

/-- The instruction in force (R370): IDCODE while TRST_N holds the test logic in reset; BYPASS for one that is not accepted. -/
def State.testInForce (s : State) : TestInstr :=
  if s.test.trstLow then .idcode else if s.testAccepts s.test.instr then s.test.instr else .bypass

/-- TRST_N goes to a level (R370): low, as when left open, resets the test logic. -/
def State.testTrst (low : Bool) (s : State) : State :=
  if low then { s with test := { s.test with trstLow := true, instr := .idcode } } else { s with test := { s.test with trstLow := false } }

/-- An instruction is shifted in (R370). -/
def State.testLoad (i : TestInstr) (s : State) : State :=
  if s.test.trstLow then s else { s with test := { s.test with instr := i } }

/-! ## The boundary-scan register (R370, R361) -/

/-- The level of a signal where the state holds it: pins, straps and presence contacts (R361–R367, R376). -/
def State.pinLevel (s : State) : Signal → Option Bool
  | .perstN => some s.link.perst
  | .resetN => some (!s.boot.resetLow)
  | .ready => some (s.bit F.KEEL_STATUS.READY && !s.boot.resetLow)
  | .alertN => some (!s.alertAsserted)
  | .role => some (decide (s.fget F.KEEL_STRAPS.ROLE = 1))
  | .plane i => some (decide (s.fget F.KEEL_STRAPS.PLANE / 2 ^ i % 2 = 1))
  | .switchId i => some (decide (s.fget F.KEEL_STRAPS.SWITCH_ID / 2 ^ i % 2 = 1))
  | .flashWp => some s.boot.wp
  | .presentN b => some (!s.bit (F.CART_STATUS.PRESENT b))
  | .wake | .ppsIn | .ppsOut | .step | .dir | .sda _ | .scl _ => none

/-- The signals that the boundary-scan register covers, in the order of their contacts, and the bays' contacts (R370, log 11). -/
def boundarySignals : List Signal :=
  [.perstN, .resetN, .wake, .ready, .alertN, .ppsIn, .ppsOut, .role] ++ (List.range 4).map Signal.plane ++
  (List.range 8).map Signal.switchId ++ [.flashWp, .step, .dir] ++ bays.flatMap (fun b => [.sda b, .scl b, .presentN b])

/-- Capture of one cell: the level the state holds, else a free value (log 3). -/
def State.captureCell (s : State) (x : Signal) : (Signal × Bool) × State :=
  match s.pinLevel x with
  | some l => ((x, l), s)
  | none => let d := s.draw 2; ((x, decide (d.1 = 1)), d.2)

/-- The boundary-scan register captures every cell. -/
def State.captureBoundary (s : State) : State :=
  let r := boundarySignals.foldl (fun (p : List (Signal × Bool) × State) x => let c := p.2.captureCell x; (p.1 ++ [c.1], c.2)) ([], s)
  { r.2 with test := { r.2.test with cells := r.1 } }

/-- The data register that the instruction in force selects is loaded with what is shifted in: PRELOAD and EXTEST update the
boundary-scan register, the others change nothing. -/
def State.testUpdate (cells : List (Signal × Bool)) (s : State) : State :=
  match s.testInForce with
  | .samplePreload | .extest => { s with test := { s.test with cells := cells } }
  | .bypass | .idcode | .other _ => s

/-- The bits a scan shifts out, least significant first: IDCODE, the one bit of BYPASS, or the boundary-scan register; those of any
other instruction are not given. -/
def State.testOut (s : State) : Option (List Bool) :=
  match s.testInForce with
  | .idcode => some ((List.range 32).map (fun i => (idcode (s.fget F.KEEL_ID.REV)).getLsbD i))
  | .bypass => some [false]
  | .samplePreload | .extest => some (s.test.cells.map (fun c => c.2))
  | .other _ => none

/-- The level driven on an output (R361, R370): under EXTEST that of its cell, else its own. -/
def State.driven (s : State) (x : Signal) : Option Bool :=
  if s.testInForce = .extest then (s.test.cells.find? (fun c => decide (c.1 = x))).map (fun c => c.2) else s.pinLevel x

end Sys2Proof.Machine
end

