-- ==== Sys2Proof/Machine/Access.lean ====
section
/-!
DEFINITION. Register reads and writes that change state (R8, R9, R205, R258, R380–R385), BAR2 (R259), and the host link's own commands
(R257, R265, R271), with IDENTIFY and STATUS_SNAPSHOT (R289).
-/

namespace Sys2Proof.Machine

/-! ## Writes under the access codes alone (R8, R383) -/

/-- The RWL fields of a word are unlocked: those of PAIR_CFG belong to the keel (R384). -/
def State.unlockedAt (s : State) (off : Nat) : Bool := off = 0x300008 && s.unlocked 15

/-- The word a write would leave. -/
def State.written (s : State) (off : Nat) (v : Word) : Word := writeWord (rowsOf off) (s.unlockedAt off) v (s.word off)

/-- A write of a word whose fields have no behaviour of their own. -/
def State.plainWrite (s : State) (off : Nat) (v : Word) : State := s.setWord off (s.written off v)

/-- A write of a mirrored setting (R205): journalled where it changes something. -/
def State.settingWrite (s : State) (off : Nat) (v : Word) : State :=
  s.mirrorWrite (decide (s.written off v ≠ s.word off)) (fun s =>
    let t := s.plainWrite off v
    if t.word off = s.word off then t else t.sendJournal (.setting off (t.word off)))

/-! ## The STEER block (R36–R38, R54, R57) -/

/-- A bank record's class and bank, for an offset in a reach's block; none for a schedule record. -/
def bankAt (o : Nat) : Option (Nat × Nat) :=
  if 0x1000 ≤ o ∧ o < 0x1800 then some ((o - 0x1000) / 0x80, (o - 0x1000) / 0x40 % 2) else none

/-- A write of this record word is ignored, with BANK_ERR (R37, R38): the active bank of a class, or either bank while a swap of
the class is pending. -/
def State.bankShut (s : State) (r o : Nat) : Bool :=
  match bankAt o with
  | some (c, b) => decide (s.activeBank r c = b) || decide (s.fget (F.LAW_BANK_SEL.SWAP r) / 2 ^ c % 2 = 1)
  | none => false

/-- A write of a record word in one reach's block. -/
def State.recordWrite (s : State) (r o : Nat) (v : Word) : State :=
  if s.bankShut r o then s.mirrorWrite false (fun s => s.fset (F.REACH_STATUS.BANK_ERR r) 1)
  else s.settingWrite (reachReg r o) v

/-- The reach whose writes are made in reach 8 as well, from T_r until the return (R54). -/
def State.mirrorsTo8 (s : State) (r : Nat) : Bool := decide (r < 8) && decide (s.relieving = r)

/-- A write of a record of a reach (R54): of the source reach also in reach 8; of reach 8's own block ignored while it relieves. -/
def State.recordWrites (s : State) (r o : Nat) (v : Word) : State :=
  if r = 8 ∧ s.relieving ≠ 0xF then s.mirrorWrite false (fun s => s.fset (F.REACH_STATUS.BANK_ERR 8) 1)
  else
    let s := s.recordWrite r o v
    if s.mirrorsTo8 r then s.recordWrite 8 o v else s

/-- A write of a setting word of a reach, made in reach 8 as well while it serves the reach (R54). -/
def State.settingWrites (s : State) (r o : Nat) (v : Word) : State :=
  let s := s.settingWrite (reachReg r o) v
  if s.mirrorsTo8 r then s.settingWrite (reachReg 8 o) v else s

/-- A bit of a written value. -/
def bitOf (v : Word) (k : Nat) : Bool := decide (v.toNat / 2 ^ k % 2 = 1)

/-- A write in a reach's block (R57). -/
def State.writeReach (s : State) (r o : Nat) (v : Word) : State :=
  if 0x1000 ≤ o ∧ o < 0x1C00 then s.recordWrites r o v
  else if 0x2000 ≤ o ∧ o < 0x2910 then axisFlagsWrite r ((o - 0x2000) / 4) v s
  else match o with
  | 0x00 =>
    let s := if bitOf v 0 = s.bit (F.REACH_CTRL.EN r) then s else reachEnWrite r (bitOf v 0) s
    let s := if bitOf v 1 then relieve r s else s
    if bitOf v 2 then returnReach r s else s
  | 0x08 => s.mirrorWrite (decide (v.toNat / 65536 ≠ 0)) (requestSwap r (v.toNat / 65536))
  | 0x0C => s.settingWrites r o v
  | 0x10 =>
    let s := s.settingWrites r o v
    if bitOf v 2 then s.mirrorWrite false (clearReq r) else s
  | 0x14 =>
    let s := s.settingWrites r o v
    if bitOf v 14 then s.mirrorWrite false (recalReq r) else s
  | 0x18 => s.mirrorWrite (decide (s.gangShown r ≠ v.toNat % 4)) (gangChange r (v.toNat % 4))
  | _ => s.plainWrite (reachReg r o) v

/-! ## The TIME and ETH blocks (R185, R188, R195) -/

/-- A port takes part in PTP for TB0 or TB1, and TB0's role: what its portState depends on. -/
def State.ptpUse (s : State) (p : Nat) : Bool × Bool × Nat :=
  let on := s.bit (F.ETH_CTRL.EN p) && s.bit (F.PTP_PORT_CTRL.EN p)
  (on && decide (s.fget (F.TB_CTRL.PORTS 0) / 2 ^ p % 2 = 1), on && decide (s.fget (F.TB_CTRL.PORTS 1) / 2 ^ p % 2 = 1),
   s.fget (F.TB_CTRL.MODE 0))

/-- Ports whose use has changed since s take their states anew (log 35). -/
def State.ptpSettle (t s : State) : State :=
  [0, 1].foldl (fun (t : State) p => if t.ptpUse p = s.ptpUse p then t else t.portStates p) t

/-- TB_CTRL[n] (R185, R188): MODE takes 0–2 in TB_CTRL[0] and 0 in the others; clearing EN stops the servo; TB_CTRL[3] has no
writable field. -/
def State.writeTbCtrl (s : State) (n : Nat) (v : Word) : State :=
  if 3 ≤ n then s
  else
    let off := 0x200000 + 4 * n
    let m := fldOf v (F.TB_CTRL.MODE 0)
    let v := if (n = 0 ∧ m = 3) ∨ (0 < n ∧ m ≠ 0) then fldPut v (F.TB_CTRL.MODE 0) (s.fget (F.TB_CTRL.MODE n)) else v
    let off? := s.bit (F.TB_CTRL.EN n) && !bitOf v 0
    let t := (s.plainWrite off v).ptpSettle s
    if off? then t.servoOff n else t

/-- TB_TICK (R196): ERR is W1C, and PERIOD takes the written value or is refused. -/
def State.writeTick (s : State) (v : Word) : State :=
  s.mirrorWrite (decide (v.toNat % 65536 ≠ s.fget F.TB_TICK.PERIOD) || (bitOf v 16 && s.bit F.TB_TICK.ERR)) (fun s =>
    let s := if bitOf v 16 then s.fset F.TB_TICK.ERR 0 else s
    let t := periodWrite (v.toNat % 65536) s
    if t.fget F.TB_TICK.PERIOD = s.fget F.TB_TICK.PERIOD then t else t.sendJournal (.setting 0x200018 (t.word 0x200018)))

/-- A write in the TIME block. -/
def State.writeTime (s : State) (o : Nat) (v : Word) : State :=
  if o < 0x10 then s.writeTbCtrl (o / 4) v
  else if o = 0x18 then s.writeTick v
  else (s.plainWrite (0x200000 + o) v).ptpSettle s

/-- ETH_CTRL (R195): a port that is disabled has no link. -/
def State.writeEth (s : State) (o : Nat) (v : Word) : State :=
  let t := s.plainWrite (0xE00000 + o) v
  if 8 ≤ o then t
  else
    let p := o / 4
    let t := if t.bit (F.ETH_CTRL.EN p) then t
      else (t.fset (if p = 0 then F.ETH_STATUS.LINK0 else F.ETH_STATUS.LINK1) 0).fset
        (if p = 0 then F.ETH_STATUS.FEC_LOCK0 else F.ETH_STATUS.FEC_LOCK1) 0
    t.ptpSettle s

/-! ## The QUEUES block (R293) -/

/-- A change of a descriptor field that an enabled queue does not take: ignored, with CFG_ERR where it would change the value. -/
def Queue.closedWrite (d : Queue) (f : Queue → Queue) : Queue :=
  if d.en then (if f d = d then d else { d with cfgErr := true }) else f d

/-- The fields of the first word beside EN. -/
def Queue.fields0 (v : Word) (d : Queue) : Queue :=
  { d with dir := bitOf v 1, vector := v.toNat / 4 % 2048, ring := v.toNat / 2 ^ 13 % 16, cq := v.toNat / 2 ^ 17 % 4096 }

/-- A write of a 64-bit pair of Q_WINDOW: lo is held until hi is written (R382). -/
def State.heldLo (s : State) (lo : Nat) : Option Word := spGet none s.link.lo lo

/-- Hold the lo word of a pair, or let it go. -/
def State.holdLo (s : State) (lo : Nat) (w : Option Word) : State := { s with link := { s.link with lo := spSet none s.link.lo lo w } }

/-- The value a write of hi gives a pair: with the held lo, or with the low half as it stands (R382). -/
def State.pairValue (s : State) (lo old : Nat) (hi : Word) : Nat :=
  (match s.heldLo lo with | some w => w.toNat | none => old % 2 ^ 32) + 2 ^ 32 * hi.toNat

/-- A write of word i of Q_WINDOW (R293). -/
def State.writeWindow (s : State) (i : Nat) (v : Word) : State :=
  let q := s.fget F.Q_SEL.QUEUE
  let d := s.queue q
  match i with
  | 0 =>
    let s := s.modQueue q (fun d => d.closedWrite (Queue.fields0 v))
    if bitOf v 0 then enableQueue q s else disableQueue q s
  | 1 => s.modQueue q (fun d => { d with limit := v.toNat % 2 ^ 20 })
  | 2 => s.modQueue q (fun d => d.closedWrite (fun d => { d with reserve := v.toNat % 2 ^ 20 }))
  | 3 => s.modQueue q (fun d => { d with dbErr := d.dbErr && !bitOf v 24, cfgErr := d.cfgErr && !bitOf v 25 })
  | 4 => s.holdLo 0x900020 (some v)
  | 5 => (s.modQueue q (fun d' => d'.closedWrite (fun d' => { d' with ringAddr := s.pairValue 0x900020 d.ringAddr v }))).holdLo 0x900020 none
  | 6 => s.holdLo 0x900028 (some v)
  | 7 => (s.modQueue q (fun d' => d'.closedWrite (fun d' => { d' with wb := s.pairValue 0x900028 d.wb v }))).holdLo 0x900028 none
  | 11 => s.modQueue q (fun d => { d with teleSrc := v.toNat % 4, teleAxis := v.toNat / 4 % 8192, telePrio := v.toNat / 2 ^ 15 % 8 })
  | _ => s

/-! ## The XLATE, LOG, COUNT, RAS and STRUCT blocks -/

/-- A write of a 64-bit RW pair held in the register file: the value takes effect when hi is written (R382). -/
def State.writePair (s : State) (lo : Nat) (hi : Bool) (v : Word) : State :=
  if hi then
    let s := match s.heldLo lo with | some w => s.plainWrite lo w | none => s
    (s.plainWrite (lo + 4) v).holdLo lo none
  else s.holdLo lo (some v)

/-- A write in the XLATE block (R257, R265, R271, R274). -/
def State.writeXlate (s : State) (o : Nat) (v : Word) : State :=
  match o with
  | 0x00 => (s.plainWrite 0xA00000 v).msixFlush
  | 0x04 =>
    let s := s.setWord 0xA00004 (writeWord ((rowsOf 0xA00004).filter (fun r => decide (r.acc = .w1c))) false v (s.word 0xA00004))
    if bitOf v 21 then s.resumeQueues else s
  | 0x10 =>
    let s := s.setWord 0xA00010 (writeWord ((rowsOf 0xA00010).filter (fun r => decide (r.acc ≠ .w1s))) false v (s.word 0xA00010))
    if bitOf v 30 then s.invalidate (v.toNat % 64) (bitOf v 6) (bitOf v 7) (v.toNat / 2 ^ 8 % 64) else s
  | 0x18 => s.writePair 0xA00018 false v
  | 0x1C => s.writePair 0xA00018 true v
  | 0x20 => s.writePair 0xA00020 false v
  | 0x24 => s.writePair 0xA00020 true v
  | _ => s.plainWrite (0xA00000 + o) v

/-- LOG_CTRL (R349, R355). -/
def State.writeLogCtrl (s : State) (v : Word) : State :=
  let s := s.setWord 0xB00000 (writeWord ((rowsOf 0xB00000).filter (fun r => decide (r.acc ≠ .w1s))) false v (s.word 0xB00000))
  let s := if bitOf v 4 then s.writeDump false true else s
  if bitOf v 5 then loadDump (fldOf v F.LOG_CTRL.DUMP_SLOT) s else s

/-- A write in the COUNT block (R351–R353). -/
def State.writeCount (s : State) (o : Nat) (v : Word) : State :=
  match o with
  | 0x04 => if bitOf v 31 then cntClear (v.toNat % 512) s else s.fset F.CNT_SEL.COUNTER (v.toNat % 512)
  | 0x08 =>
    let s := s.plainWrite 0xC00008 v
    { s with counters := s.counters.filter (fun c => decide (c.1 < 256) || decide (304 ≤ c.1)) }
  | _ =>
    if 0x20 ≤ o ∧ o < 0x40 then cntBindWrite ((o - 0x20) / 4) (v.toNat % 64) (bitOf v 6) s else s.plainWrite (0xC00000 + o) v

/-- RAS_INJECT (R356). -/
def State.writeInject (s : State) (v : Word) : State :=
  let s := if bitOf v 30 then s.fset F.RAS_INJECT.ERR 0 else s
  if bitOf v 31 then rasInject (v.toNat % 16) (v.toNat / 16 % 4096) s
  else (s.fset F.RAS_INJECT.TARGET v.toNat).fset F.RAS_INJECT.INDEX (v.toNat / 16)

/-- POUND_STATUS[n] (R337, R384). -/
def State.writePound (s : State) (n : Nat) (v : Word) : State :=
  let s := if bitOf v 4 then s.fset (F.POUND_STATUS.WRITE_LOST n) 0 else s
  unlock n (bitOf v 3) s

/-- SVC_PORT_CTRL[p] (R230, R240): a change of DAC_BITS waits for its calibration. -/
def State.writePort (s : State) (p : Nat) (v : Word) : State :=
  let old := s.fget (F.SVC_PORT_CTRL.DAC_BITS p)
  let s := s.plainWrite (0x600040 + 4 * p) v
  let s := if s.fget (F.SVC_PORT_CTRL.DAC_BITS p) = old then s else s.fset (F.SVC_PORT_CTRL.DAC_PENDING p) 1
  s.showPorts

/-! ## REGISTER_WRITE (R383) -/

/-- A write in the LOCK block: LOCK_LIMITS, LOCK_CAPTURE, LOCK_PROVE and SLEW_BUDGET are mirrored settings (R205). -/
def State.writeLockBlock (s : State) (o : Nat) (v : Word) : State :=
  if mirrored (0x500000 + o) then s.settingWrite (0x500000 + o) v else s.plainWrite (0x500000 + o) v

/-- A write of PAIR_CFG: a change of EN takes effect at the next tick (R384). -/
def State.writePairCfg (s : State) (v : Word) : State :=
  let en := s.pairEn
  let t := s.plainWrite 0x300008 v
  { t with pair := { t.pair with enOld := if t.bit F.PAIR_CFG.EN = en then none else some en } }

/-- What a 4-byte write of a BAR0 word does, by its block. -/
def State.writeBlock (s : State) (off : Nat) (v : Word) : State :=
  let o := off % 0x100000
  match off / 0x100000 with
  | 0 => if o = 0x0C then stateOr (execKeelReset v s) s else s.plainWrite off v
  | 1 => if o = 0 then rungRequest v s else s.plainWrite off v
  | 2 => s.writeTime o v
  | 3 => if o = 8 then s.writePairCfg v else s.plainWrite off v
  | 4 => if o < 0x90000 then s.writeReach (o / 0x10000) (o % 0x10000) v else s
  | 5 => s.writeLockBlock o v
  | 6 => if 0x40 ≤ o ∧ o < 0x80 then s.writePort ((o - 0x40) / 4) v else s.plainWrite off v
  | 9 => if 0x10 ≤ o ∧ o < 0x40 then s.writeWindow ((o - 0x10) / 4) v else s.plainWrite off v
  | 10 => s.writeXlate o v
  | 11 => if o = 0 then s.writeLogCtrl v else s.plainWrite off v
  | 12 => s.writeCount o v
  | 13 => if o = 8 then s.writeInject v else s.plainWrite off v
  | 14 => s.writeEth o v
  | 15 => if 0x40 ≤ o ∧ o < 0x80 then s.writePound ((o - 0x40) / 4) v else s.plainWrite off v
  | 16 => (s.plainWrite off v).msixFlush
  | _ => s.plainWrite off v

/-- REGISTER_WRITE (R383): an aligned 4-byte write; a write to a reserved offset is ignored (R380). -/
def execRegisterWrite (offset : Nat) (value : Word) (s : State) : Out :=
  ifOk (Instr.wf (.registerWrite offset value)) (s.hostWrite offset (fun s => s.writeBlock offset value))

/-! ## Reads that change state (R9, R382) -/

/-- The lo offsets of the 64-bit registers (R382, R386). -/
def pairRegisters : List Nat :=
  [0x200060, 0x200068, 0x200070, 0x900020, 0x900028, 0xA00008, 0xA00018, 0xA00020, 0xB00008, 0xB00040, 0xB00048, 0xB00050, 0xB00058,
   0xB00060, 0xB00068, 0xB00070, 0xB00078, 0xC00010, 0xF00008]

/-- PAIR_LO_READ (R382): the low half is answered, and the high half of the same value is latched. -/
def pairLoRead (off : Nat) (s : State) : State :=
  let s1 := if pairRegisters.contains off then
      { s with link := { s.link with hi := spSet none s.link.hi off (some (s.readWord (off + 4))) } }
    else s
  s1.emit (.readData (le 4 (s.readWord off).toNat) false)

/-- PAIR_LO_READ. -/
def execPairLoRead (offset : Nat) (s : State) : Out :=
  ifOk (Instr.wf (.pairLoRead offset)) (if s.rung ≤ 3 then pairLoRead offset s else s)

/-- What a read of a word answers (R382): of the hi word of a pair the latch, once the lo word has been read since the last reset. -/
def State.readLatched (s : State) (off : Nat) : Word :=
  if 4 ≤ off ∧ pairRegisters.contains (off - 4) then (spGet none s.link.hi (off - 4)).getD (s.readWord off) else s.readWord off

/-- RC_READ (R9): the value is answered and RC fields clear, where the block runs (R385). -/
def rcRead (off : Nat) (s : State) : State :=
  let t := s.emit (.readData (le 4 (s.readLatched off).toNat) false)
  if !s.reaches off then t
  else if off = 0x900038 then t.modQueue (s.fget F.Q_SEL.QUEUE) (fun d => { d with drops := 0 })
  else t.setWord off (readLeaves (rowsOf off) (s.word off))

/-- RC_READ. -/
def execRcRead (offset : Nat) (s : State) : Out := ifOk (Instr.wf (.rcRead offset)) (if s.rung ≤ 3 then rcRead offset s else s)

/-- BAR0_MALFORMED_ACCESS (R258): reads return all ones, writes are dropped, ACCESS_ERR is set. -/
def execBar0MalformedAccess (_bar4 write : Bool) (s : State) : Out :=
  .next (if 3 < s.rung then s
    else
      let s := (s.sticky F.XL_FAULT.ACCESS_ERR (some 7)).count 10 4
      if write then s else s.emit (.readData (List.replicate 4 0xFF) false))

/-! ## BAR2 (R259) -/

/-- The bytes of a logbook entry (R345). -/
def Entry.bytes (e : Entry) : List Byte :=
  le 8 e.index ++ le 8 e.t3 ++ le 1 (e.sev + 8 * e.annex.toNat + 16 * e.injected.toNat) ++ le 1 e.source ++
  le 2 (e.cls * 4096 + e.kind * 256 + e.reason) ++ le 4 e.arg0 ++ le 4 e.arg1 ++ le 4 e.arg2

/-- The byte at an offset of a record of entries; slots that hold none read 0. -/
def recordByte (l : List Entry) (o : Nat) : Byte :=
  match l[o / 32]? with | some e => e.bytes.getD (o % 32) 0 | none => 0

/-- The byte at an offset of a dump slot (R349). -/
def Dump.byte (d : Dump) (o : Nat) : Byte :=
  if o < 0x1000 then
    (le 4 0x4C4F4744 ++ le 4 d.keelOnly.toNat ++ le 8 d.t3 ++ le 4 d.cause.toNat ++ le 4 0 ++ le 8 d.head).getD o 0
  else if o < 0x2001000 then recordByte d.book (o - 0x1000)
  else if o < 0x2011000 then (if o < 0x2003000 then recordByte d.annex (o - 0x2001000) else 0)
  else if o < 0x2031000 then recordByte d.keel (o - 0x2011000)
  else 0

/-- The byte at an offset from LOG_BASE: logbook, annex, the mirror of the keel copy, the dump window (R345–R349). -/
def State.logByte (s : State) (o : Nat) : Option Byte :=
  if o < 0x2000000 then some (recordByte s.log.book o)
  else if o < 0x2002000 then some (recordByte s.log.annex (o - 0x2000000))
  else if 0x2010000 ≤ o ∧ o < 0x2030000 then some (recordByte s.log.keel (o - 0x2010000))
  else if 0x4000000 ≤ o ∧ o < 0x8000000 then (s.log.window).map (fun d => d.byte (o - 0x4000000))
  else none


/-- The bytes of a space-table entry (R120). -/
def State.spaceBytes (s : State) (p : Nat) : List Byte :=
  match s.spaceOf p with
  | none => List.replicate 64 0
  | some sp =>
    let stopped := (s.tows.tows.filter (fun t => decide (t.space = p) && decide (t.phase = .stopped))).length
    le 4 (1 + 2 * sp.maxClass + 8 * sp.hostEn.toNat + 16 * (sp.saveSlots - 1) + 256 * sp.runAhead) ++ le 4 sp.syncTimeout ++
    le 8 sp.basinBase ++ le 8 sp.basinSize ++ le 8 sp.stackBase ++ le 8 sp.stackSize ++ le 8 sp.ptRoot ++ le 8 sp.seed ++
    le 4 (sp.cq + 4096 * sp.fq) ++ le 4 (s.startedIn p + 512 * stopped)

/-- The parts of the basin system region (R259, the image's MEMORY section). -/
def State.systemRegion (s : State) : List (Nat × Nat) := match s.image with | some i => i.system | none => []

/-- A byte of the basin system region as a read shows it: the logbook's records, the space table, the plan library, the pointing map
and the trajectory buffers (R59, R73, R120, R172, R345); any other as the memory holds it. -/
def State.systemByte (s : State) (a : Nat) : Byte :=
  let log := 4096 * s.fget F.LOG_BASE.BASE
  let tab := 64 * s.fget F.SPACE_TABLE_BASE.BASE
  if log ≤ a ∧ a < log + 0x8000000 then (s.logByte (a - log)).getD (s.storedByte a)
  else if tab ≤ a ∧ a < tab + 0x1000 then (s.spaceBytes ((a - tab) / 64)).getD ((a - tab) % 64) 0
  else s.storedByte a

/-- A byte of the basin as a host read shows it. -/
def State.basinByte (s : State) (a : Nat) : Byte :=
  if inRegions s.systemRegion a then s.systemByte a else spGet 0 s.mem.basin a

/-- Target of a BAR2 window: 1 basin, 2 stack, 0 off; 3 acts as 0 (R274). -/
def State.windowTarget (s : State) (w : Nat) : Nat := let t := s.fget (F.BAR2_WIN.TARGET w); if t = 3 then 0 else t

/-- The first byte of the target that an access reaches (R259). -/
def State.bar2Byte (s : State) (x : Nat) : Nat := s.fget (F.BAR2_WIN.BASE (x / 2 ^ 30)) * 2 ^ 21 + x % 2 ^ 30

/-- The access reaches its target (R259): the window is on, the target long enough, and the stacks ready on L0 or L1. -/
def State.bar2Reaches (s : State) (x len : Nat) : Bool :=
  let a := s.bar2Byte x
  match s.windowTarget (x / 2 ^ 30) with
  | 1 => decide (a + len ≤ 2 ^ 34)
  | 2 => decide (a + len ≤ 2 ^ 37) && s.bit F.KEEL_STATUS.STACK_READY && decide (s.rung ≤ 1)
  | _ => false

/-- A write may be made: WE, and no byte in the basin system region (R259). -/
def State.bar2Writes (s : State) (x len : Nat) : Bool :=
  let a := s.bar2Byte x
  s.bit (F.BAR2_WIN.WE (x / 2 ^ 30)) &&
  (decide (s.windowTarget (x / 2 ^ 30) ≠ 1) || !(s.systemRegion.any (fun r => decide (r.1 < a + len) && decide (a < r.1 + r.2))))

/-- Bytes are stored in the target; a word written whole is no longer poisoned. -/
def State.storeTarget (s : State) (target a : Nat) (data : List Byte) : State :=
  let which := if target = 1 then 0 else 1
  let poison := clearPoison which ((List.range data.length).map (fun k => a + k)) s.mem.poison
  if target = 1 then { s with mem := { s.mem with basin := memPut s.mem.basin a data, poison := poison } }
  else { s with mem := { s.mem with stack := memPut s.mem.stack a data, poison := poison } }

/-- What a BAR2 read returns: the bytes, and whether a word is uncorrectable. -/
def State.readTarget (s : State) (target a len : Nat) : List Byte × Bool :=
  let which := if target = 1 then 0 else 1
  ((List.range len).map (fun k => if target = 1 then s.basinByte (a + k) else spGet 0 s.mem.stack (a + k)),
   s.mem.poison.any (fun p => decide (p.1 = which) && decide (8 * p.2 < a + len) && decide (a < 8 * p.2 + 8)))

/-- BAR2_ERR is set (R259). -/
def State.bar2Err (s : State) : State := (s.sticky F.XL_FAULT.BAR2_ERR (some 7)).count 10 3

/-- BAR2_ACCESS (R259). -/
def bar2Access (x len : Nat) (write : Option (List Byte)) (s : State) : State :=
  match write with
  | some data =>
    if s.bar2Reaches x data.length && s.bar2Writes x data.length then
      s.storeTarget (s.windowTarget (x / 2 ^ 30)) (s.bar2Byte x) data
    else s.bar2Err
  | none =>
    if s.bar2Reaches x len then
      let r := s.readTarget (s.windowTarget (x / 2 ^ 30)) (s.bar2Byte x) len
      let s := if r.2 then s.count 10 1 else s
      s.emit (.readData r.1 r.2)
    else s.bar2Err.emit (.readData (List.replicate len 0xFF) false)

/-- BAR2_ACCESS; on L4 and L5 the link is down, and before the cores start no window is served (R314, R385). -/
def execBar2Access (offset len : Nat) (write : Option (List Byte)) (s : State) : Out :=
  ifOk (Instr.wf (.bar2Access offset len write)) (if s.rung ≤ 3 then bar2Access offset len write s else s)

/-! ## The link (R257), RESUME (R271) and GO (R265) -/

/-- CONFIGURATION_WRITE (R257): messages that waited go out once requests may be sent. -/
def execConfigurationWrite (d3hot busMaster : Bool) (s : State) : Out :=
  .next (if 3 < s.rung then s
    else ({ s with link := { s.link with d3hot := d3hot, busMaster := busMaster } } : State).msixFlush)

/-- RESUME (R271). -/
def execResume (s : State) : Out := .next (s.hostWrite 0xA00004 State.resumeQueues)

/-- GO (R265). -/
def execGo (space : Nat) (queue all : Bool) (size : Nat) (s : State) : Out :=
  ifOk (Instr.wf (.go space queue all size)) (s.hostWrite 0xA00010 (fun s => s.invalidate space queue all size))

/-! ## IDENTIFY and STATUS_SNAPSHOT (R289) -/

/-- IDENTIFY (R289). -/
def identify (src : Src) (s : State) : State :=
  s.complete 0x01 src .done 0 0
    (le 16 Config.serial ++ le 2 (s.fget F.KEEL_ID.REV) ++ le 2 (s.word 0x08).toNat ++ le 4 s.fwVersion ++
     le 4 (s.word 0xF00008).toNat ++ le 4 (s.word 0xF0000C).toNat)

/-- IDENTIFY. -/
def execIdentify (src : Src) (s : State) : Out := .next (s.handle 0x01 src (identify src))

/-- The registers of STATUS_SNAPSHOT, in order (R289). -/
def snapshotRegisters : List Nat :=
  [0x000004, 0x100004, 0x100014, 0x200010, 0x300000, 0x30000C, 0x500000, 0x500004, 0x50001C, 0x60001C, 0x600000, 0x600004, 0x600008,
   0x800004, 0xD00000, 0xF00000]

/-- STATUS_SNAPSHOT (R289): the registers as they stand at the present tick. -/
def statusSnapshot (src : Src) (s : State) : State :=
  s.complete 0x02 src .done 0 0 (le 8 (2 * s.time.lastTick)) (snapshotRegisters.flatMap (fun o => le 4 (s.readWord o).toNat))

/-- STATUS_SNAPSHOT. -/
def execStatusSnapshot (src : Src) (s : State) : Out := .next (s.handle 0x02 src (statusSnapshot src))

end Sys2Proof.Machine
end

