-- ==== Sys2Proof/Machine/Dispatch.lean ====
section
/-!
DEFINITION. One arm per command: each calls the command's own meaning.
-/

namespace Sys2Proof.Machine

/-- The effect of a command on everything but the queue of waiting commands. -/
def exec (i : Instr) (s : State) : Host.Outcome State Fault Refusal :=
  match i with
  | .functionLevelReset => Sys2Proof.Machine.execFunctionLevelReset s
  | .linkDown => Sys2Proof.Machine.execLinkDown s
  | .perstN level => Sys2Proof.Machine.execPerstN level s
  | .warmReset cause => Sys2Proof.Machine.execWarmReset cause s
  | .resetN low straps => Sys2Proof.Machine.execResetN low straps s
  | .powerOn keelRail resetLow straps => Sys2Proof.Machine.execPowerOn keelRail resetLow straps s
  | .bootWatchdog => Sys2Proof.Machine.execBootWatchdog s
  | .memoryTest rows channels sysRowShort => Sys2Proof.Machine.execMemoryTest rows channels sysRowShort s
  | .memoryInitialisation rows channels => Sys2Proof.Machine.execMemoryInitialisation rows channels s
  | .arraySelfTest columns => Sys2Proof.Machine.execArraySelfTest columns s
  | .poundLoad n => Sys2Proof.Machine.execPoundLoad n s
  | .towpathTraining head lanes desc faulty => Sys2Proof.Machine.execTowpathTraining head lanes desc faulty s
  | .towpathRetrain head lanes desc faulty => Sys2Proof.Machine.execTowpathRetrain head lanes desc faulty s
  | .loopAudit held grantA grantB proved => Sys2Proof.Machine.execLoopAudit held grantA grantB proved s
  | .warmResume held grantA grantB => Sys2Proof.Machine.execWarmResume held grantA grantB s
  | .resetCycleNotice => Sys2Proof.Machine.execResetCycleNotice s
  | .bootRecordFlashCopy => Sys2Proof.Machine.execBootRecordFlashCopy s
  | .inputLow => Sys2Proof.Machine.execInputLow s
  | .inputFatal => Sys2Proof.Machine.execInputFatal s
  | .railRelease => Sys2Proof.Machine.execRailRelease s
  | .sampleTick quads setpt errs => Sys2Proof.Machine.execSampleTick quads setpt errs s
  | .uplinkFrame head t => Sys2Proof.Machine.execUplinkFrame head t s
  | .uplinkFrameLost head badCheck => Sys2Proof.Machine.execUplinkFrameLost head badCheck s
  | .controlDeadline late => Sys2Proof.Machine.execControlDeadline late s
  | .blindEntry axis => Sys2Proof.Machine.execBlindEntry axis s
  | .blindExit axis => Sys2Proof.Machine.execBlindExit axis s
  | .freezeWindowEnd axis => Sys2Proof.Machine.execFreezeWindowEnd axis s
  | .openLoopEntry axis => Sys2Proof.Machine.execOpenLoopEntry axis s
  | .regionFall axis => Sys2Proof.Machine.execRegionFall axis s
  | .runExit axis => Sys2Proof.Machine.execRunExit axis s
  | .missRunRelief reach => Sys2Proof.Machine.execMissRunRelief reach s
  | .reliefShadowing => Sys2Proof.Machine.execReliefShadowing s
  | .reliefCommit => Sys2Proof.Machine.execReliefCommit s
  | .reliefAbandon => Sys2Proof.Machine.execReliefAbandon s
  | .reliefReturn => Sys2Proof.Machine.execReliefReturn s
  | .relieve reach => Sys2Proof.Machine.execRelieve reach s
  | .returnReach reach => Sys2Proof.Machine.execReturnReach reach s
  | .swap reach classes => Sys2Proof.Machine.execSwap reach classes s
  | .swapCommit reach => Sys2Proof.Machine.execSwapCommit reach s
  | .gangChange reach gang => Sys2Proof.Machine.execGangChange reach gang s
  | .axisFlagsWrite reach slot value => Sys2Proof.Machine.execAxisFlagsWrite reach slot value s
  | .clear reach => Sys2Proof.Machine.execClear reach s
  | .recal reach => Sys2Proof.Machine.execRecal reach s
  | .reachEnWrite reach en => Sys2Proof.Machine.execReachEnWrite reach en s
  | .step dir => Sys2Proof.Machine.execStep dir s
  | .temperatureBinChange head temp => Sys2Proof.Machine.execTemperatureBinChange head temp s
  | .mapWrite src first entries => Sys2Proof.Machine.execMapWrite src first entries s
  | .mapRead src first count journal => Sys2Proof.Machine.execMapRead src first count journal s
  | .mapCommit src => Sys2Proof.Machine.execMapCommit src s
  | .mapFlashWrite => Sys2Proof.Machine.execMapFlashWrite s
  | .planSubmit src peer proof => Sys2Proof.Machine.execPlanSubmit src peer proof s
  | .planDrop src planId => Sys2Proof.Machine.execPlanDrop src planId s
  | .lockSchedule src planId supersede lateProof superId tOpen => Sys2Proof.Machine.execLockSchedule src planId supersede lateProof superId tOpen s
  | .lockAbort src cycleId => Sys2Proof.Machine.execLockAbort src cycleId s
  | .lockJoint src planId lateProof jointId epoch tOpen hash => Sys2Proof.Machine.execLockJoint src planId lateProof jointId epoch tOpen hash s
  | .noticeRepeat => Sys2Proof.Machine.execNoticeRepeat s
  | .trajectoryBuffersWritten cycleId bufs ok scaled => Sys2Proof.Machine.execTrajectoryBuffersWritten cycleId bufs ok scaled s
  | .towDeadline cycleId => Sys2Proof.Machine.execTowDeadline cycleId s
  | .gangArm cycleId => Sys2Proof.Machine.execGangArm cycleId s
  | .jointRecheck cycleId => Sys2Proof.Machine.execJointRecheck cycleId s
  | .openTick cycleId => Sys2Proof.Machine.execOpenTick cycleId s
  | .lateOpen cycleId => Sys2Proof.Machine.execLateOpen cycleId s
  | .slewStart cycleId => Sys2Proof.Machine.execSlewStart cycleId s
  | .wave2Start cycleId => Sys2Proof.Machine.execWave2Start cycleId s
  | .slewEnd axis => Sys2Proof.Machine.execSlewEnd axis s
  | .captured a => Sys2Proof.Machine.execCaptured a s
  | .captureMaxExpiry a => Sys2Proof.Machine.execCaptureMaxExpiry a s
  | .proved a => Sys2Proof.Machine.execProved a s
  | .closeTick cycleId => Sys2Proof.Machine.execCloseTick cycleId s
  | .cycleDeadline cycleId => Sys2Proof.Machine.execCycleDeadline cycleId s
  | .parkReached mirror => Sys2Proof.Machine.execParkReached mirror s
  | .lateProof cycleId errored => Sys2Proof.Machine.execLateProof cycleId errored s
  | .settleModelUpdate => Sys2Proof.Machine.execSettleModelUpdate s
  | .setpointRoute src input clear axis gain shift stepSize => Sys2Proof.Machine.execSetpointRoute src input clear axis gain shift stepSize s
  | .identify src => Sys2Proof.Machine.execIdentify src s
  | .statusSnapshot src => Sys2Proof.Machine.execStatusSnapshot src s
  | .portStateGet src first count => Sys2Proof.Machine.execPortStateGet src first count s
  | .portQuarantine src port clear => Sys2Proof.Machine.execPortQuarantine src port clear s
  | .portAcceptAsFound src port => Sys2Proof.Machine.execPortAcceptAsFound src port s
  | .berthCheck src port => Sys2Proof.Machine.execBerthCheck src port s
  | .lightGained port => Sys2Proof.Machine.execLightGained port s
  | .lightLost port => Sys2Proof.Machine.execLightLost port s
  | .absentTimeout port => Sys2Proof.Machine.execAbsentTimeout port s
  | .berthPassStart => Sys2Proof.Machine.execBerthPassStart s
  | .berthCycle => Sys2Proof.Machine.execBerthCycle s
  | .identityRefresh port => Sys2Proof.Machine.execIdentityRefresh port s
  | .hello port => Sys2Proof.Machine.execHello port s
  | .ident port f => Sys2Proof.Machine.execIdent port f s
  | .identTimeout port => Sys2Proof.Machine.execIdentTimeout port s
  | .mirrorFault port faulty => Sys2Proof.Machine.execMirrorFault port faulty s
  | .spaceCreate src space maxClass hostEn saveSlots runAhead cq fq syncTimeout ptRoot seed basinBase basinSize stackBase stackSize => Sys2Proof.Machine.execSpaceCreate src space maxClass hostEn saveSlots runAhead cq fq syncTimeout ptRoot seed basinBase basinSize stackBase stackSize s
  | .spaceDestroy src space => Sys2Proof.Machine.execSpaceDestroy src space s
  | .towSubmit src space cls count tag addr => Sys2Proof.Machine.execTowSubmit src space cls count tag addr s
  | .towCancel src space tag => Sys2Proof.Machine.execTowCancel src space tag s
  | .towPlacement => Sys2Proof.Machine.execTowPlacement s
  | .preemption unit => Sys2Proof.Machine.execPreemption unit s
  | .bargeFetch unit => Sys2Proof.Machine.execBargeFetch unit s
  | .bargeStart unit => Sys2Proof.Machine.execBargeStart unit s
  | .bargeComplete unit mismatches => Sys2Proof.Machine.execBargeComplete unit mismatches s
  | .badBarge unit => Sys2Proof.Machine.execBadBarge unit s
  | .memoryRequest unit addr len walk busy => Sys2Proof.Machine.execMemoryRequest unit addr len walk busy s
  | .memoryDataReturn unit addr data poisoned => Sys2Proof.Machine.execMemoryDataReturn unit addr data poisoned s
  | .hostWriteDrain unit => Sys2Proof.Machine.execHostWriteDrain unit s
  | .wait unit => Sys2Proof.Machine.execWait unit s
  | .waitMet space tag => Sys2Proof.Machine.execWaitMet space tag s
  | .syncTimeout space tag => Sys2Proof.Machine.execSyncTimeout space tag s
  | .fence unit => Sys2Proof.Machine.execFence unit s
  | .towEnd space tag => Sys2Proof.Machine.execTowEnd space tag s
  | .columnRetire array column => Sys2Proof.Machine.execColumnRetire array column s
  | .outOfService array => Sys2Proof.Machine.execOutOfService array s
  | .translationFault space tag addr write barge walk => Sys2Proof.Machine.execTranslationFault space tag addr write barge walk s
  | .towStop space tag => Sys2Proof.Machine.execTowStop space tag s
  | .faultResume src space all faultId => Sys2Proof.Machine.execFaultResume src space all faultId s
  | .queueFault queue addr write walk => Sys2Proof.Machine.execQueueFault queue addr write walk s
  | .resume => Sys2Proof.Machine.execResume s
  | .go space queue all size => Sys2Proof.Machine.execGo space queue all size s
  | .aucFeed unit => Sys2Proof.Machine.execAucFeed unit s
  | .unitReserved => Sys2Proof.Machine.execUnitReserved s
  | .auctionPhaseEnd u => Sys2Proof.Machine.execAuctionPhaseEnd u s
  | .solveLimitExpiry u => Sys2Proof.Machine.execSolveLimitExpiry u s
  | .certificateCheck u fault => Sys2Proof.Machine.execCertificateCheck u fault s
  | .auctionResult u => Sys2Proof.Machine.execAuctionResult u s
  | .auctionUnitRetire u storeError => Sys2Proof.Machine.execAuctionUnitRetire u storeError s
  | .policyCell => Sys2Proof.Machine.execPolicyCell s
  | .syncSample base sync => Sys2Proof.Machine.execSyncSample base sync s
  | .timeJump base => Sys2Proof.Machine.execTimeJump base s
  | .firstStep base => Sys2Proof.Machine.execFirstStep base s
  | .announceTimeout base masterLost => Sys2Proof.Machine.execAnnounceTimeout base masterLost s
  | .slewDone base => Sys2Proof.Machine.execSlewDone base s
  | .ptpMessage port kind domain transport malformed => Sys2Proof.Machine.execPtpMessage port kind domain transport malformed s
  | .ptpTransmit port base kind => Sys2Proof.Machine.execPtpTransmit port base kind s
  | .ppsInEdge falling width => Sys2Proof.Machine.execPpsInEdge falling width s
  | .ppsLost => Sys2Proof.Machine.execPpsLost s
  | .ppsOutPulse => Sys2Proof.Machine.execPpsOutPulse s
  | .timeAcceptJump src base => Sys2Proof.Machine.execTimeAcceptJump src base s
  | .timeSetGm src seconds utcOffset tsFlags clockClass clockAccuracy priority1 priority2 => Sys2Proof.Machine.execTimeSetGm src seconds utcOffset tsFlags clockClass clockAccuracy priority1 priority2 s
  | .periodWrite value => Sys2Proof.Machine.execPeriodWrite value s
  | .tbNowRead base => Sys2Proof.Machine.execTbNowRead base s
  | .copyFrame f since => Sys2Proof.Machine.execCopyFrame f since s
  | .returnFrame f => Sys2Proof.Machine.execReturnFrame f s
  | .heartbeatMissed => Sys2Proof.Machine.execHeartbeatMissed s
  | .heartbeatLoss => Sys2Proof.Machine.execHeartbeatLoss s
  | .journal seq item => Sys2Proof.Machine.execJournal seq item s
  | .journalResend => Sys2Proof.Machine.execJournalResend s
  | .repairRequest seq mask => Sys2Proof.Machine.execRepairRequest seq mask s
  | .repairTimeout => Sys2Proof.Machine.execRepairTimeout s
  | .snapshotComplete => Sys2Proof.Machine.execSnapshotComplete s
  | .ineligibleEntry => Sys2Proof.Machine.execIneligibleEntry s
  | .ineligibleResync => Sys2Proof.Machine.execIneligibleResync s
  | .tetherUp => Sys2Proof.Machine.execTetherUp s
  | .claim => Sys2Proof.Machine.execClaim s
  | .pairHandover src force take => Sys2Proof.Machine.execPairHandover src force take s
  | .handoverContinue => Sys2Proof.Machine.execHandoverContinue s
  | .pairStatus src => Sys2Proof.Machine.execPairStatus src s
  | .tetherLaneFailover lane locked => Sys2Proof.Machine.execTetherLaneFailover lane locked s
  | .tetherPairSwitch => Sys2Proof.Machine.execTetherPairSwitch s
  | .cartridgeInserted bay store => Sys2Proof.Machine.execCartridgeInserted bay store s
  | .cartridgeRemoved bay => Sys2Proof.Machine.execCartridgeRemoved bay s
  | .warmingProof bay powers spread => Sys2Proof.Machine.execWarmingProof bay powers spread s
  | .warmingTimeout bay => Sys2Proof.Machine.execWarmingTimeout bay s
  | .fadeMeasurement bay powers => Sys2Proof.Machine.execFadeMeasurement bay powers s
  | .hourlyFit bay => Sys2Proof.Machine.execHourlyFit bay s
  | .insertion => Sys2Proof.Machine.execInsertion s
  | .tetherLaneMove lane => Sys2Proof.Machine.execTetherLaneMove lane s
  | .serviceBusMove bus => Sys2Proof.Machine.execServiceBusMove bus s
  | .insertionWithoutSpare bay => Sys2Proof.Machine.execInsertionWithoutSpare bay s
  | .cartSwap src bay retire => Sys2Proof.Machine.execCartSwap src bay retire s
  | .cartQuery src bay => Sys2Proof.Machine.execCartQuery src bay s
  | .hoursUpdate bay writeOk => Sys2Proof.Machine.execHoursUpdate bay writeOk s
  | .storeWriteRetry bay writeOk => Sys2Proof.Machine.execStoreWriteRetry bay writeOk s
  | .resonanceSearch found => Sys2Proof.Machine.execResonanceSearch found s
  | .warmSearch found => Sys2Proof.Machine.execWarmSearch found s
  | .ringRetraining ring found => Sys2Proof.Machine.execRingRetraining ring found s
  | .ringLockLoop ring err => Sys2Proof.Machine.execRingLockLoop ring err s
  | .beaconTrim head sum => Sys2Proof.Machine.execBeaconTrim head sum s
  | .beaconLoss head => Sys2Proof.Machine.execBeaconLoss head s
  | .dacRecalibration port => Sys2Proof.Machine.execDacRecalibration port s
  | .cartTrip bay => Sys2Proof.Machine.execCartTrip bay s
  | .powerManagerStep paces slowest fastest input current => Sys2Proof.Machine.execPowerManagerStep paces slowest fastest input current s
  | .phaseIsolation phase => Sys2Proof.Machine.execPhaseIsolation phase s
  | .capMiss => Sys2Proof.Machine.execCapMiss s
  | .powerCap src cap pace => Sys2Proof.Machine.execPowerCap src cap pace s
  | .rungSet src rung => Sys2Proof.Machine.execRungSet src rung s
  | .rungRequestWrite value => Sys2Proof.Machine.execRungRequestWrite value s
  | .rungDescent => Sys2Proof.Machine.execRungDescent s
  | .rungRise => Sys2Proof.Machine.execRungRise s
  | .moorTouchUp openLoop => Sys2Proof.Machine.execMoorTouchUp openLoop s
  | .wake => Sys2Proof.Machine.execWake s
  | .wakeTimer => Sys2Proof.Machine.execWakeTimer s
  | .commandWake => Sys2Proof.Machine.execCommandWake s
  | .temperatureRead temps => Sys2Proof.Machine.execTemperatureRead temps s
  | .thermalHalt array => Sys2Proof.Machine.execThermalHalt array s
  | .thermalL1Entry => Sys2Proof.Machine.execThermalL1Entry s
  | .thermalRecovery => Sys2Proof.Machine.execThermalRecovery s
  | .thermalFatal => Sys2Proof.Machine.execThermalFatal s
  | .poundReload src pound crcOk => Sys2Proof.Machine.execPoundReload src pound crcOk s
  | .imageStage src slot addr length img flashOk => Sys2Proof.Machine.execImageStage src slot addr length img flashOk s
  | .imageActivate src slot => Sys2Proof.Machine.execImageActivate src slot s
  | .flashWp level => Sys2Proof.Machine.execFlashWp level s
  | .unlock n value => Sys2Proof.Machine.execUnlock n value s
  | .keelReset value => Sys2Proof.Machine.execKeelReset value s
  | .fatalError cause => Sys2Proof.Machine.execFatalError cause s
  | .coreReportMissed core => Sys2Proof.Machine.execCoreReportMissed core s
  | .blockWatchdog block => Sys2Proof.Machine.execBlockWatchdog block s
  | .rowSparing bank row word uncorrectable => Sys2Proof.Machine.execRowSparing bank row word uncorrectable s
  | .channelMigration stack channel word errors uncorrectable => Sys2Proof.Machine.execChannelMigration stack channel word errors uncorrectable s
  | .towpathLaneFailover head lane => Sys2Proof.Machine.execTowpathLaneFailover head lane s
  | .logFreeze src => Sys2Proof.Machine.execLogFreeze src s
  | .logThaw src => Sys2Proof.Machine.execLogThaw src s
  | .logMark src mark rewind => Sys2Proof.Machine.execLogMark src mark rewind s
  | .dump flashOk => Sys2Proof.Machine.execDump flashOk s
  | .keelCopyDump flashOk => Sys2Proof.Machine.execKeelCopyDump flashOk s
  | .load slot => Sys2Proof.Machine.execLoad slot s
  | .counterGrant src group revoke => Sys2Proof.Machine.execCounterGrant src group revoke s
  | .cntClear counter => Sys2Proof.Machine.execCntClear counter s
  | .cntBindWrite k space en => Sys2Proof.Machine.execCntBindWrite k space en s
  | .counterWindowClose bytes => Sys2Proof.Machine.execCounterWindowClose bytes s
  | .rasInject target index => Sys2Proof.Machine.execRasInject target index s
  | .doorbell queue index => Sys2Proof.Machine.execDoorbell queue index s
  | .h2dFetch queue cells poison => Sys2Proof.Machine.execH2dFetch queue cells poison s
  | .d2hWrite queue => Sys2Proof.Machine.execD2hWrite queue s
  | .commandTake => Sys2Proof.Machine.execCommandTake s
  | .linkParityFail queue => Sys2Proof.Machine.execLinkParityFail queue s
  | .poolInitialisation => Sys2Proof.Machine.execPoolInitialisation s
  | .queueEnable => Sys2Proof.Machine.execQueueEnable s
  | .queueDisable => Sys2Proof.Machine.execQueueDisable s
  | .queueScrub queue => Sys2Proof.Machine.execQueueScrub queue s
  | .bar0MalformedAccess bar4 write => Sys2Proof.Machine.execBar0MalformedAccess bar4 write s
  | .bar2Access offset len write => Sys2Proof.Machine.execBar2Access offset len write s
  | .pairLoRead offset => Sys2Proof.Machine.execPairLoRead offset s
  | .rcRead offset => Sys2Proof.Machine.execRcRead offset s
  | .connectorUnmated connector => Sys2Proof.Machine.execConnectorUnmated connector s
  | .registerWrite offset value => Sys2Proof.Machine.execRegisterWrite offset value s
  | .mapReload => Sys2Proof.Machine.execMapReload s
  | .tetherBlockLock lane partner => Sys2Proof.Machine.execTetherBlockLock lane partner s
  | .receiveRingLock ring code => Sys2Proof.Machine.execReceiveRingLock ring code s
  | .inputLowEnd => Sys2Proof.Machine.execInputLowEnd s
  | .connectorMated connector => Sys2Proof.Machine.execConnectorMated connector s
  | .configurationWrite d3hot busMaster => Sys2Proof.Machine.execConfigurationWrite d3hot busMaster s
  | .ethernetLinkChange port link fec => Sys2Proof.Machine.execEthernetLinkChange port link fec s

end Sys2Proof.Machine
end

