-- ==== Sys2Proof/Safety.lean ====
section
/-!
DEFINITION. What a safe state and a safe run are, in the terms the statements use: every store in its canonical form, what a command
leaves alone, and when a host command is taken.
-/

namespace Sys2Proof.Machine

/-! ## The canonical form of every store (log 2) -/

/-- The stores of steering, map, cycles and ports are in canonical form. -/
def State.controlWf (s : State) : Bool :=
  spWf {} 0 s.steer.axes && spWf 0 0 s.steer.rep && spWf 0 0 s.steer.classK && spWf 0 0 s.steer.axisMap && spWf 0 0 s.map.work && spWf 0 0 s.map.journal && spWf 0 0 s.map.master &&
  spWf {} 0 s.lock.lib &&
  spWf [] 0 s.lock.bufs && spWf {} 0 s.fabric.ports && spWf 0 0 s.fabric.plan

/-- The stores of tows, auction units, light, link and logbook are in canonical form. -/
def State.serviceWf (s : State) : Bool :=
  spWf none 0 s.tows.spaces && spWf none 0 s.auction.solves && spWf {} 0 s.light.carts && spWf {} 0 s.link.queues &&
  spWf none 0 s.link.hi && spWf none 0 s.link.lo && spWf none 0 s.boot.slots && spWf {} 0 s.log.marks && spWf none 0 s.log.dumps &&
  spWf 0 0 s.counters

/-- The register file and the byte memories are in canonical form. -/
def State.storesWf (s : State) : Bool :=
  wordsWf 0 s.regs && Memory.wf s.mem.basin && Memory.wf s.mem.stack

/-- Every store is in canonical form. -/
def State.allWf (s : State) : Bool := s.storesWf && s.controlWf && s.serviceWf

/-! ## What a command leaves alone -/

/-- Two fields share no bit. -/
def Fld.apart (f g : Fld) : Prop := f.off ≠ g.off ∨ f.lo + f.width ≤ g.lo ∨ g.lo + g.width ≤ f.lo

/-- Every register field apart from those listed is unchanged. -/
def fieldsKept (s t : State) (l : List Fld) : Prop := ∀ g : Fld, (∀ f ∈ l, Fld.apart f g) → t.fget g = s.fget g

/-- Every register word but those listed is unchanged. -/
def wordsKept (s t : State) (l : List Nat) : Prop := ∀ off, off ∉ l → t.word off = s.word off

/-- The register fields that a logbook entry may write (R338, R345–R350). -/
def logFields : List Fld :=
  [F.LOG_FLAGS.MARK_LOST, F.LOG_FLAGS.ANNEX_FULL, F.LOG_FLAGS.KEEL_DROP, F.LOG_FLAGS.SEV5, F.LOG_FLAGS.ALERT, F.LOG_MISSED.MISSED,
   F.LOG_KEEL.DROPS, F.RAS_STATUS.LAST_CLASS, F.RAS_STATUS.LAST_SOURCE, F.LOG_DROPS.DROPS 0, F.LOG_DROPS.DROPS 1, F.LOG_DROPS.DROPS 2,
   F.LOG_DROPS.DROPS 3, F.LOG_DROPS.DROPS 4, F.LOG_DROPS.DROPS 5, F.LOG_DROPS.DROPS 6, F.LOG_DROPS.DROPS 7]

/-- t is u after reports: logbook entries, counts, items pushed to queues, messages, journal messages and what has left the module.
Beside these, only the register fields l differ. -/
def reports (u t : State) (l : List Fld) : Prop :=
  t = { u with regs := t.regs, log := t.log, counters := t.counters, out := t.out, link := t.link, pair := t.pair } ∧
  t.link = { u.link with queues := t.link.queues, msixPend := t.link.msixPend, resv := t.link.resv, endResv := t.link.endResv,
                         flrDiscard := t.link.flrDiscard } ∧
  t.pair = { u.pair with journal := t.pair.journal, journalSeq := t.pair.journalSeq } ∧
  fieldsKept u t (l ++ logFields)

/-- A command acts on axis a alone (R27, R31, R41): every other axis and every repetitive-memory entry but those the tick wrote for a
stay, and beside them only the state of standing paths changes, with reports and the register fields l. -/
def axisOnly (s t : State) (a : Nat) (l : List Fld) : Prop :=
  (∀ b, b ≠ a → t.axisNow b = s.axisNow b) ∧
  (∀ j, (∀ h ∈ s.steer.undo, h.axis = a → ∀ k v, h.rep = some (k, v) → j ≠ 2048 * a + k) → spGet 0 t.steer.rep j = spGet 0 s.steer.rep j) ∧
  reports { s with steer := { s.steer with axes := t.steer.axes, held := t.steer.held, rep := t.steer.rep }
                   lock := { s.lock with paths := t.lock.paths } } t l

/-! ## Host commands (R287, R288) -/

/-- The module takes and handles this host command (R288, R305, R314), and its completion has somewhere to go (R287): its cores run,
the command need not wait for the module to wake, no check of its source, the module's role, READY or the rung refuses it, and its
completion queue is an enabled D2H queue that is not broken. -/
def State.accepts (s : State) (op : Nat) (src : Src) : Prop :=
  s.cores = true ∧ (s.gated op && s.bit F.PWR_WAKE.CMD_EN) = false ∧ s.gate op src = none ∧
  (s.queue (s.cqOf src)).en = true ∧ (s.queue (s.cqOf src)).dir = true ∧ (s.queue (s.cqOf src)).broken = false ∧
  s.link.flrDiscard.contains src = false

/-- The machine with a host command no longer among those taken (R288). -/
def State.without (s : State) (src : Src) : State := { s with taken := untake src s.taken }

/-- The last item of the command's completion queue is its completion, with this status, reason, detail, result and further
cells (R287). -/
def answered (s t : State) (op : Nat) (src : Src) (st : Status) (reason detail : Nat) (result cells : List Byte) : Prop :=
  ∃ seq, (t.queue (s.cqOf src)).items.getLast? = some { completionItem op src st reason detail result cells with seq := seq }

end Sys2Proof.Machine
end

