-- ==== Sys2Proof/Certificates/Slice0/Obligations.lean ====
section
/-!
DEFINITION. The statements about the NX-1152 block for the provers, from the machine's step to its families of commands. A clause
that rests on a choice of the model names the log entry that says so.
-/

open Sys2Proof Sys2Proof.Machine

/-! ## The machine: commands, the queue and what a run keeps (log 1, 2, 7) -/

/-- step takes the command at the front of the queue and is exec of it on the state with the queue's rest. On an empty queue, the
model's choice (log 1), one 500 MHz count passes: every base advances and nothing else changes. -/
def Obligations.StepRunsFront : Prop :=
  (∀ (c : Instr) (rest : List Instr) (s : State), step { s with pending := c :: rest } = exec c { s with pending := rest }) ∧
  (∀ (s : State), s.pending = [] → ∃ t, step s = .next t ∧ t = s.advance 1 ∧ t.pending = [] ∧ t.time.tb3 = s.time.tb3 + 1)

/-- R10, R13, R381: Right after a P reset every register word reads its Reset-column value, the module is on L0 and neither READY nor
ACTIVE, KEEL_CAUSE names power-on, the pair state is DETACHED, TB3 is 0, no axis, path, cycle, tow, queue, logbook entry or count is
held, every pound is EMPTY, no command waits, and every store is in canonical form. That memory bytes then read 0 is the model's choice
(log 6), and so are the reset values the manual gives none for (log 13). -/
def Obligations.ResetValues : Prop :=
  State.reset.pending = [] ∧ State.reset.taken = [] ∧ State.reset.allWf = true ∧ State.reset.rung = 0 ∧ State.reset.ready = false ∧
  State.reset.active = false ∧ (∀ off, State.reset.word off = resetWord off) ∧
  State.reset.fget F.KEEL_CAUSE.CAUSE = 1 ∧ State.reset.fget F.KEEL_CAUSE.KIND = 3 ∧ State.reset.fget F.TB_TICK.PERIOD = 20000 ∧
  State.reset.fget F.PAIR_STATUS.STATE = 0 ∧ State.reset.fget F.QP_CTRL.READY = 0 ∧ State.reset.time.tb3 = 0 ∧
  State.reset.steer.axes = [] ∧ State.reset.lock.cycles = [] ∧ State.reset.lock.paths = [] ∧ State.reset.tows.tows = [] ∧
  State.reset.link.queues = [] ∧ State.reset.log.book = [] ∧ State.reset.counters = [] ∧
  (∀ n, n < 15 → State.reset.poundState n = 0) ∧
  (∀ a, spGet (0 : Byte) State.reset.mem.basin a = 0 ∧ spGet (0 : Byte) State.reset.mem.stack a = 0)

/-- The invariant that the statements about single commands assume: if every store of a state is in its one canonical form, so is every
store of the state a step answers, whatever the command, and on an idle step (the model's representation, log 2). -/
def Obligations.EveryStepKeepsForm : Prop :=
  ∀ (s t : State), s.allWf = true → step s = .next t → t.allWf = true

/-- A command's effect adds, drops or reorders no waiting command: the queue after exec is the queue before it. -/
def Obligations.ExecKeepsQueue : Prop :=
  ∀ (c : Instr) (s t : State), exec c s = .next t → t.pending = s.pending

/-- R6, R7: exec answers a next state for every well-formed command in every state; for a command that names an object the machine does
not have it is the fault noSuchObject (the model's own stop, log 7). No command is ever refused. -/
def Obligations.WellFormedGoesOn : Prop :=
  ∀ (c : Instr) (s : State),
    (c.wf = true → ∃ t, exec c s = .next t) ∧ (c.wf = false → exec c s = .fault .noSuchObject)

/-- Where every waiting command is well formed, the step answers a next state whose waiting commands are the rest of the old ones, and
every one of these is well formed. -/
def Obligations.RunsNeverStop : Prop :=
  ∀ (s : State), (∀ c ∈ s.pending, c.wf = true) →
    ∃ t, step s = .next t ∧ t.pending = s.pending.tail ∧ (∀ c ∈ t.pending, c.wf = true)

/-! ## Three rules of the manual, whole -/

/-- R37: On an ACTIVE module whose registers are reached, a write to a record word of a class's active bank changes no word below reach
8's block but REACH_STATUS of its own reach, and sets BANK_ERR; a write to the other bank lands in the record unless a swap of the class
pends; neither changes which bank is active or any record in force in any reach. A pending swap to a valid record, when it commits, puts
that record in force. -/
def Obligations.BankWrites : Prop :=
  ∀ (s : State) (r c b o : Nat) (v : Word), s.allWf = true → s.active = true → r < 8 → c < 16 → b < 2 → o < 0x40 → o % 4 = 0 →
    let off := 0x401000 + r * 0x10000 + c * 0x80 + b * 0x40 + o
    s.reaches off = true → s.reloading off = none →
    (s.activeBank r c = b →
      ∃ t, exec (.registerWrite off v) s = .next t ∧ t.fget (F.REACH_STATUS.BANK_ERR r) = 1 ∧
        (∀ x, x < 0x480000 → x ≠ 0x400004 + r * 0x10000 → t.word x = s.word x) ∧
        (∀ k d, k < 9 → d < 16 → t.activeBank k d = s.activeBank k d ∧ t.lawBank k d = s.lawBank k d) ∧
        t.steer = s.steer ∧ t.mem = s.mem ∧ t.lock = s.lock) ∧
    (s.activeBank r c ≠ b →
      ∃ t, exec (.registerWrite off v) s = .next t ∧
        (s.fget (F.LAW_BANK_SEL.SWAP r) / 2 ^ c % 2 = 0 → t.word off = s.written off v) ∧
        (∀ k d, k < 9 → d < 16 → t.activeBank k d = s.activeBank k d ∧ t.lawBank k d = s.lawBank k d) ∧
        t.steer = s.steer ∧ t.mem = s.mem ∧ t.lock = s.lock) ∧
    (s.fget (F.LAW_BANK_SEL.SWAP r) / 2 ^ c % 2 = 1 → (s.bank r c (1 - s.activeBank r c)).valid = true →
      ∃ t, exec (.swapCommit r) s = .next t ∧ t.activeBank r c = 1 - s.activeBank r c ∧
        t.lawBank r c = s.bank r c (1 - s.activeBank r c))

/-- R39: When a pending swap of a class to a valid record of another REP_PERIOD commits, in any reach of the gang, the other bank
becomes active, every entry of the repetitive memory of every axis of that class in that reach reads 0, and the class index is 0. Axes
of reaches outside the gang keep their memories, and no axis's loop state changes. -/
def Obligations.RepPeriodSwap : Prop :=
  ∀ (s : State) (r k c : Nat), s.allWf = true → r < 8 → k ∈ s.gangOf r → c < 16 → s.fget (F.LAW_BANK_SEL.SWAP k) / 2 ^ c % 2 = 1 →
    (s.bank k c (1 - s.activeBank k c)).valid = true → (s.bank k c (1 - s.activeBank k c)).n ≠ (s.lawBank k c).n →
    let served := if k = 8 ∧ s.relieving < 8 then s.relieving else k
    ∃ t, exec (.swapCommit r) s = .next t ∧ t.activeBank k c = 1 - s.activeBank k c ∧ t.classK served c = 0 ∧
      (∀ a i, s.reachOf a = served → (s.axis a).cls = c → i < 2048 → spGet 0 t.steer.rep (2048 * a + i) = 0) ∧
      (∀ a i, s.reachOf a ∉ s.gangOf r → i < 2048 → spGet 0 t.steer.rep (2048 * a + i) = spGet 0 s.steer.rep (2048 * a + i)) ∧
      t.steer.axes = s.steer.axes

/-- R254: On an ACTIVE module, a mirror that its head reports as faulty at towpath training, at a retrain or in telemetry makes its port
FAILED with reason MIRROR, and the fault stands. While it stands, BERTH_CHECK of the port completes DONE with the port's state and
reason, and changes nothing of the port. -/
def Obligations.MirrorFaults : Prop :=
  ∀ (s : State), s.allWf = true → s.active = true →
    (∀ (h m : Nat) (lanes faulty : List Nat) (desc : HeadDesc), h < 2 → lanes ≠ [] → (∀ l ∈ lanes, l < 5) → desc.port = s.role →
      desc.side = h → s.rung ≤ 2 → m ∈ faulty → m < 1152 →
      (s.fget F.KEEL_STATUS.CAL_DONE = 1 →
        ∃ t, exec (.towpathRetrain h lanes desc faulty) s = .next t ∧ (t.port (h * 1152 + m)).state = 5 ∧
          (t.port (h * 1152 + m)).reason = 6 ∧ (t.port (h * 1152 + m)).mirrorFault = true) ∧
      (s.held = false → s.boot.coresUp = true →
        ∃ t, exec (.towpathTraining h lanes desc faulty) s = .next t ∧ (t.port (h * 1152 + m)).state = 5 ∧
          (t.port (h * 1152 + m)).reason = 6 ∧ (t.port (h * 1152 + m)).mirrorFault = true)) ∧
    (∀ p, p < 2304 →
      ∃ t, exec (.mirrorFault p true) s = .next t ∧ (t.port p).state = 5 ∧ (t.port p).reason = 6 ∧ (t.port p).mirrorFault = true) ∧
    (∀ p src, p < 2304 → s.accepts 0x33 src → (s.port p).state = 5 → (s.port p).reason = 6 → (s.port p).mirrorFault = true →
      ∃ t, exec (.berthCheck src p) s = .next t ∧ t.port p = s.port p ∧ answered s t 0x33 src .done 0 0 (le 1 5 ++ le 1 6) [] ∧
        reports (s.without src) t [])

/-! ## Resets and boot (R10–R14, R313–R325, R333, R340, R388, R389) -/

/-- R324, R325, R257, R363, R389: A function-level reset, a link down and an assertion of PERST_N each take an F reset: F_SEEN and
F_CAUSE are set, queues, translations, spaces, tows and solves end, QP_CTRL.READY clears, and steering, map, cycles, ports, pair,
logbook, time, light, counters and READY stay as they were. -/
def Obligations.FunctionResets : Prop :=
  ∀ (s : State) (c : Instr) (cause : Nat), s.allWf = true → s.rung ≤ 2 → s.boot.resetLow = false →
    (c = .functionLevelReset ∧ cause = 1) ∨ (c = .linkDown ∧ cause = 2) ∨ (c = .perstN false ∧ cause = 3 ∧ s.link.perst = true) →
    ∃ t, exec c s = .next t ∧ t.fget F.KEEL_CAUSE.F_SEEN = 1 ∧ t.fget F.KEEL_CAUSE.F_CAUSE = cause ∧ t.fget F.QP_CTRL.READY = 0 ∧
      t.link.queues = [] ∧ t.link.cache = [] ∧ t.link.busMaster = false ∧ t.link.d3hot = false ∧ t.tows.spaces = [] ∧ t.tows.tows = [] ∧
      t.auction.solves = [] ∧ t.steer = s.steer ∧ t.map = s.map ∧ t.lock = s.lock ∧ t.fabric = s.fabric ∧ t.pair = s.pair ∧
      t.time = s.time ∧ t.light = { s.light with carts := t.light.carts } ∧ t.rung = s.rung ∧
      t.ready = s.ready ∧ (s.rung ≤ 1 → t.mem = s.mem) ∧
      ((∀ b, b < 3 → (s.cart b).store = [] ∨ (s.cart b).powered = true) → (∀ b, b < 3 → s.bayState b ≠ 2) →
        t.log = s.log ∧ t.light = s.light ∧ t.counters = s.counters) ∧
      (∀ r, t.fget (F.REACH_CTRL.EN r) = s.fget (F.REACH_CTRL.EN r) ∨ 9 ≤ r)

/-- R320, R323, R340, R388, R333: A W reset, whatever its cause, sets KEEL_CAUSE, leaves the module on L0 with READY clear and no cycle,
tow or space, keeps TB3 and the map's master copy, and from L2 or above keeps repetitive memory, paths, plan library, map and stacks;
from a deeper rung it loses the memory, paths, map and stacks. A fatal error of the input or of heat also holds the rails off. A boot
watchdog marks its slot failed. A write of KEEL_RESET without the key or without WARM sets ACCESS_ERR and nothing else. -/
def Obligations.WarmResetsAndKey : Prop :=
  (∀ (s : State) (c : Instr) (cause : Nat), s.allWf = true → s.held = false →
     ((c = .warmReset cause ∧ 4 ≤ cause ∧ cause ≤ 0x0B ∧ cause ≠ 5 ∧ cause ≠ 6) ∨ (c = .fatalError cause ∧ 8 ≤ cause ∧ cause ≤ 0x0B) ∨
       (cause = 4 ∧ s.reaches 0x00000C = true ∧ ∃ v : Word, c = .keelReset v ∧ v.toNat / 65536 = 0x4B52 ∧ v.toNat % 2 = 1) ∨
       (c = .bootWatchdog ∧ cause = 7 ∧ s.ready = false ∧ s.boot.since + 30000000000 ≤ s.time.tb3) →
     ∃ t, exec c s = .next t ∧ t.fget F.KEEL_CAUSE.CAUSE = cause ∧ t.fget F.KEEL_CAUSE.KIND = 1 ∧ t.rung = 0 ∧ t.ready = false ∧
       t.time.tb3 = s.time.tb3 ∧ t.lock.cycles = [] ∧ t.tows.tows = [] ∧ t.tows.spaces = [] ∧ t.boot.since = s.time.tb3 ∧
       (s.rung ≤ 2 → t.steer.rep = s.steer.rep ∧ t.lock.paths = s.lock.paths ∧
         t.lock.lib = s.lock.lib.map (fun p => (p.1, if p.2.state = 2 then { p.2 with state := 1 } else p.2)) ∧
         t.map.work = s.map.work ∧ t.mem.stack = s.mem.stack) ∧
       (3 ≤ s.rung → t.steer.rep = [] ∧ t.lock.paths = [] ∧ t.map.work = [] ∧ t.mem.stack = [] ∧ t.mem.basin = []) ∧
       t.map.master = s.map.master ∧
       (c = .bootWatchdog → s.boot.bootSlot < 3 → t.slotFailed s.boot.bootSlot = true)) ∧
     ((c = .warmReset cause ∧ (cause = 5 ∨ cause = 6)) ∨ (c = .inputFatal ∧ cause = 5) ∨
       (c = .thermalFatal ∧ cause = 6 ∧ (s.tempsOf 0 48).any (fun p => decide (1920 ≤ p.2)) = true) →
     ∃ t, exec c s = .next t ∧ t.fget F.KEEL_CAUSE.CAUSE = cause ∧ t.fget F.KEEL_CAUSE.KIND = 1 ∧ t.fget F.KEEL_CAUSE.FATAL = 1 ∧
       t.power.railsOff = true ∧ t.rung = 0 ∧ t.ready = false ∧ t.fget F.PWR_RAILS.RAIL_OK = 0xF2 ∧ t.steer.axes = [] ∧
       t.tows.tows = [] ∧ t.tows.spaces = [] ∧ t.lock.cycles = [] ∧
       t.lock.paths = [] ∧ t.mem.basin = [] ∧ t.mem.stack = [] ∧ t.time.tb3 = s.time.tb3 ∧ t.map.master = s.map.master)) ∧
  (∀ (s : State) (v : Word), s.allWf = true → s.reaches 0x00000C = true → v.toNat / 65536 ≠ 0x4B52 ∨ v.toNat % 2 = 0 →
     ∃ t, exec (.keelReset v) s = .next t ∧ t.fget F.XL_FAULT.ACCESS_ERR = 1 ∧ reports s t [F.XL_FAULT.ACCESS_ERR])

/-- R10, R295, R313, R323, R362: RESET_N low is a C reset and its release samples the straps; power-on is a P reset with TB3 at 0; both
lose volatile stores and keep flash. A low input halts the arrays until it ends, and the release of the rails starts the boot. -/
def Obligations.ColdResets : Prop :=
  (∀ (s : State) (st : Straps), s.allWf = true → s.boot.resetLow = false →
    ∃ t, exec (.resetN true st) s = .next t ∧ t.boot.resetLow = true ∧ t.fget F.KEEL_CAUSE.CAUSE = 3 ∧ t.fget F.KEEL_CAUSE.KIND = 2 ∧
      t.rung = 0 ∧ t.ready = false ∧ t.steer.axes = [] ∧ t.lock.cycles = [] ∧ t.lock.paths = [] ∧ t.mem.basin = [] ∧ t.mem.stack = [] ∧
      t.time.tb3 = s.time.tb3 ∧ t.map.master = s.map.master ∧ t.boot.slots = s.boot.slots ∧ t.power.railsOff = false) ∧
  (∀ (s : State) (st : Straps), s.allWf = true → s.boot.resetLow = true →
    ∃ t, exec (.resetN false st) s = .next t ∧ t.boot.resetLow = false ∧ t.boot.since = s.time.tb3 ∧
      t.fget F.KEEL_STRAPS.PLANE = st.plane % 2 ^ F.KEEL_STRAPS.PLANE.width ∧
      t.fget F.KEEL_STRAPS.SWITCH_ID = st.switchId % 2 ^ F.KEEL_STRAPS.SWITCH_ID.width ∧
      t.fget F.KEEL_STRAPS.ROLE = st.role % 2 ^ F.KEEL_STRAPS.ROLE.width ∧ t.steer = s.steer ∧ t.mem = s.mem ∧ t.lock = s.lock) ∧
  (∀ (s : State) (keelRail low : Bool) (st : Straps), s.allWf = true →
    ∃ t, exec (.powerOn keelRail low st) s = .next t ∧ t.boot.resetLow = low ∧ t.time.tb3 = 0 ∧
      t.fget F.KEEL_CAUSE.CAUSE = (if keelRail then 2 else 1) ∧ t.fget F.KEEL_CAUSE.KIND = 3 ∧ t.rung = 0 ∧ t.ready = false ∧
      t.steer.axes = [] ∧ t.lock.cycles = [] ∧ t.lock.paths = [] ∧ t.mem.basin = [] ∧ t.mem.stack = [] ∧ t.tows.tows = [] ∧
      t.map.master = s.map.master ∧ t.boot.slots = s.boot.slots) ∧
  (∀ (s : State), s.power.railsOff = true → s.fget F.KEEL_CAUSE.CAUSE = 6 → s.railsCooled = false → exec .railRelease s = .next s) ∧
  (∀ (s : State), s.allWf = true → s.power.railsOff = true → s.fget F.KEEL_CAUSE.CAUSE ≠ 6 ∨ s.railsCooled = true →
    ∃ t, exec .railRelease s = .next t ∧ t.power.railsOff = false ∧ t.boot.since = s.time.tb3 ∧ t.boot.warm = false ∧
      (t.boot.stopped = false → s.rung ≤ 2 → t.fget F.PWR_RAILS.RAIL_OK = 255) ∧
      t.fget F.KEEL_STRAPS.ROLE = s.fget F.KEEL_STRAPS.ROLE ∧ t.steer = s.steer ∧ t.mem = s.mem ∧ t.lock = s.lock) ∧
  (∀ (s : State), s.allWf = true → s.power.inputLow = false → s.held = false →
    ∃ t, exec .inputLow s = .next t ∧ t.power = { s.power with inputLow := true } ∧ t.tows.inputHalt = true ∧
      t.fget F.PWR_CAP.INPUT_LOW = 1 ∧ t.steer = s.steer ∧ t.mem = s.mem ∧ t.lock = s.lock) ∧
  (∀ (s : State), s.allWf = true → s.power.inputLow = true →
    ∃ t, exec .inputLowEnd s = .next t ∧ t.fget F.PWR_CAP.INPUT_LOW = 0 ∧
      (∀ n, n < 4 → s.arrayState n = 4 → s.rung = 0 → s.tows.currentHalt = [] → s.hotArray n = false → s.heatHalted n = false →
        t.arrayState n = 1) ∧
      t = { s with regs := t.regs, power := { s.power with inputLow := false }, tows := { s.tows with inputHalt := false } })

/-- R105, R313, R315, R316, R336, R341: The memory test repairs rows or stops the boot; the initialisation clears the stacks, and at
boot the basin, and sets STACK_READY; the array self-test spares columns or takes an array out of service; pounds load in the boot
order, and with pound A the lockkeeper cores start with the boot record's counters; and a changed boot record is copied to flash for a
new epoch, for the first time, or once 10 s have passed. Which rows and columns fail comes with the command (log 10). -/
def Obligations.BootSteps : Prop :=
  (∀ (s : State) (bank row : Nat), s.allWf = true → s.booting = true → s.boot.memoryDone = false →
    bank < 1024 → (bank, row) ∉ s.mem.rows → s.rowsUsed bank < 64 →
    ∃ t, exec (.memoryTest [(bank, row)] [] false) s = .next t ∧ t.mem = { s.mem with rows := s.mem.rows ++ [(bank, row)] } ∧
      t.fget F.RAS_STATUS.SPARE_IN = 1 ∧ t.steer = s.steer ∧ t.boot = s.boot) ∧
  (∀ (s : State), s.allWf = true → s.booting = true → s.boot.memoryDone = false →
    ∃ t, exec (.memoryTest [] [] true) s = .next t ∧ t.boot = { s.boot with stopped := true } ∧
      reports { s with boot := t.boot } t []) ∧
  (∀ (s : State), s.allWf = true → s.held = false → s.fget F.KEEL_STATUS.STACK_READY = 0 → s.rung ≤ 2 →
    ∃ t, exec (.memoryInitialisation [] []) s = .next t ∧ t.mem.stack = [] ∧ t.mem.basin = (if s.booting then [] else s.mem.basin) ∧
      (∀ p ∈ t.mem.poison, p.1 = 0 ∧ s.booting = false) ∧ t.fget F.KEEL_STATUS.STACK_READY = 1 ∧
      t = { s with regs := t.regs, mem := t.mem, boot := { s.boot with memoryDone := true } } ∧
      fieldsKept s t [F.KEEL_STATUS.STACK_READY]) ∧
  (∀ (s : State) (a c : Nat), s.allWf = true → s.tows.selfTestDue = true → s.held = false → a < 4 → (a, c) ∉ s.tows.columns →
    (s.fget (F.ARRAY_STATUS.SPARES_USED a) < 8 →
      ∃ t, exec (.arraySelfTest [(a, c)]) s = .next t ∧ t.tows.columns = s.tows.columns ++ [(a, c)] ∧ t.tows.selfTestDue = false ∧
        t.fget (F.ARRAY_STATUS.SPARES_USED a) = s.fget (F.ARRAY_STATUS.SPARES_USED a) + 1 ∧ t.steer = s.steer ∧ t.mem = s.mem) ∧
    (8 ≤ s.fget (F.ARRAY_STATUS.SPARES_USED a) →
      ∃ t, exec (.arraySelfTest [(a, c)]) s = .next t ∧ t.arrayState a = 6 ∧ t.tows = { s.tows with selfTestDue := false })) ∧
  (∀ (s : State) (n : Nat), s.allWf = true → n < 15 → s.booting = true → s.boot.memoryDone = true → s.poundState n = 0 →
    (∀ m ∈ bootOrder.takeWhile (fun m => decide (m ≠ n)), s.poundState m = 2) →
    ∃ t, exec (.poundLoad n) s = .next t ∧ t.poundState n = 2 ∧ (∀ m, m < 15 → m ≠ n → t.poundState m = s.poundState m) ∧
      (n ≠ 13 → t.boot.coresUp = false) ∧
      (n = 13 → t.boot.coresUp = true ∧ t.lock.lastId = max s.lock.lastId s.boot.record.lastId ∧
        t.lock.seq = max s.lock.seq s.boot.record.seq) ∧ t.mem = s.mem ∧ t.tows = s.tows) ∧
  (∀ (s : State), s.boot.record ≠ s.boot.flash → s.rung ≤ 4 → s.held = false →
    s.boot.record.epoch ≠ s.boot.flash.epoch ∨ s.boot.copied = none ∨ (∃ w, s.boot.copied = some w ∧ w + 5000000000 ≤ s.time.tb3) →
    exec .bootRecordFlashCopy s =
      .next { s with boot := { s.boot with flash := s.boot.record, copied := some s.time.tb3 } })

/-- R317–R319, R321, R322: Training and retraining take the head's descriptor, slew budget and faulty mirrors, or fail on a wrong port
and then only report; the loop audit makes the module ACTIVE with the proved paths standing and parks every other mirror, or leaves it
DETACHED where the claim is refused; the warm resume restarts each axis from its held code in RECOVERY; and each discarded cycle gets
its notice. What the heads answer and which paths are proved comes with the command (log 10). -/
def Obligations.TrainingAndResume : Prop :=
  (∀ (s : State) (h : Nat) (lanes faulty : List Nat) (desc : HeadDesc), s.allWf = true → h < 2 → lanes ≠ [] → (∀ l ∈ lanes, l < 5) →
    desc.port = s.role → desc.side = h →
    (s.held = false → s.boot.coresUp = true → s.rung ≤ 2 →
      ∃ t, exec (.towpathTraining h lanes desc faulty) s = .next t ∧ (t.head h).trained = true ∧ (t.head h).desc = some desc ∧
        t.fget (F.SLEW_BUDGET.HEAD h) = desc.budget % 2 ^ (F.SLEW_BUDGET.HEAD h).width ∧ t.head (1 - h) = s.head (1 - h) ∧
        ((s.head (1 - h)).trained = true → t.fget F.KEEL_STATUS.CAL_DONE = 1) ∧
        (∀ m ∈ faulty, m < 1152 → (t.port (h * 1152 + m)).state = 5 ∧ (t.port (h * 1152 + m)).reason = 6) ∧
        t.steer = s.steer ∧ t.mem = s.mem ∧ t.lock = s.lock) ∧
    (s.fget F.KEEL_STATUS.CAL_DONE = 1 → s.rung ≤ 2 →
      ∃ t, exec (.towpathRetrain h lanes desc faulty) s = .next t ∧ (t.head h).trained = true ∧ (t.head h).desc = some desc ∧
        t.fget (F.SLEW_BUDGET.HEAD h) = desc.budget % 2 ^ (F.SLEW_BUDGET.HEAD h).width ∧ t.head (1 - h) = s.head (1 - h) ∧
        (∀ m ∈ faulty, m < 1152 → (t.port (h * 1152 + m)).state = 5 ∧ (t.port (h * 1152 + m)).reason = 6) ∧
        t.steer = s.steer ∧ t.mem = s.mem ∧ t.lock = s.lock)) ∧
  (∀ (s : State) (h : Nat) (lanes faulty : List Nat) (desc : HeadDesc), s.allWf = true → h < 2 → (∀ l ∈ lanes, l < 5) →
    desc.port ≠ s.role ∨ desc.side ≠ h → s.fget F.KEEL_STATUS.CAL_DONE = 1 → s.rung ≤ 2 →
    ∃ t, exec (.towpathRetrain h lanes desc faulty) s = .next t ∧ reports s t []) ∧
  (∀ (s : State) (held : List (Nat × Half)) (token : Nat) (grantB : Bool) (proved : List Nat), s.allWf = true → s.auditDue = true →
    s.boot.warm = false →
    ∃ t, exec (.loopAudit held (some token) grantB proved) s = .next t ∧ t.active = true ∧ t.boot.auditDone = true ∧
      t.fget F.KEEL_STATUS.WINDLASS_A = 1 ∧
      t.lock.paths = s.auditPaths.map (fun p =>
        { a := p.1, b := p.2, state := if proved.contains p.1 then 5 else 6, announced := !proved.contains p.1 }) ∧
      (∀ a ∈ s.steer.axes.map (fun p => p.1), mirrorOf a ∉ s.auditPaths.flatMap (fun p => [p.1, 1160 + p.2]) →
        (t.axis a).st = 6 ∧ (t.axis a).u = s.park (axisSide a)) ∧ t.mem = s.mem ∧ t.tows = s.tows) ∧
  (∀ (s : State) (held : List (Nat × Half)) (grantB : Bool) (proved : List Nat), s.allWf = true → s.auditDue = true → s.boot.warm = false →
    ∃ t, exec (.loopAudit held none grantB proved) s = .next t ∧ t.fget F.PAIR_STATUS.STATE = 0 ∧ t.fget F.PAIR_STATUS.REASON = 2 ∧
      t.boot = s.boot ∧ t.steer = s.steer ∧ t.lock = s.lock) ∧
  (∀ (s : State) (held : List (Nat × Half)) (token : Nat) (grantB : Bool), s.allWf = true → s.auditDue = true → s.boot.warm = true →
    ∃ t, exec (.warmResume held (some token) grantB) s = .next t ∧ t.active = true ∧ t.boot.auditDone = true ∧ t.lock.paths = s.lock.paths ∧
      (∀ a ∈ s.steer.axes.map (fun p => p.1), (s.axis a).st ≠ 6 → (∀ c ∈ s.lock.discarded, mirrorOf a ∉ c.1.mirrors) →
        (t.axis a).mode = 3 ∧ (t.axis a).u = heldCode held a (s.axis a).u ∧ (t.axis a).d = 0 ∧ (t.axis a).i = (s.axis a).i ∧
        (t.axis a).target = (s.axis a).target) ∧ t.mem = s.mem ∧ t.tows = s.tows) ∧
  (∀ (s : State), s.ready = true → s.active = true →
    ∃ t, exec .resetCycleNotice s = .next t ∧ t.lock.discarded = [] ∧
      t.lock.repeats.length = s.lock.repeats.length + s.lock.discarded.length ∧ t.lock.cycles = s.lock.cycles ∧ t.steer = s.steer ∧
      t.mem = s.mem ∧ t.tows = s.tows)

/-! ## Steering (R27–R58, R61, R369) -/

/-- R40, R46–R49: After 2 low samples an axis outside SLEW and CAPTURE enters BLIND holding its drive and loop state; after 16 high
samples it leaves for RECOVERY; a held axis whose loss timer has run turns to open loop at its map drive and offset; the end of a full
window freezes or releases an axis by its correlation; the region falls by one, and CAPTURE_START and RECOVERY end in RUN. Every other
axis stays as it was. -/
def Obligations.LossAndSchedule : Prop :=
  (∀ (s : State) (a : Nat), s.allWf = true → a < 4640 →
     (2 ≤ (s.axisNow a).lowRun → (s.axisNow a).st = 0 ∨ (s.axisNow a).st = 1 → s.inMove a = false →
       ∃ t, exec (.blindEntry a) s = .next t ∧ (t.axisNow a).st = 2 ∧ (t.axisNow a).fget (F.AXIS_FLAGS.BLIND_SEEN 0 0) = 1 ∧
         (t.axisNow a).u = (s.axisPrev a).heldDrive ∧ (t.axisNow a).heldDrive = (s.axisPrev a).heldDrive ∧
         (t.axisNow a).i = (s.axisPrev a).i ∧ (t.axisNow a).d = (s.axisPrev a).d ∧ (t.axisNow a).ePrev = (s.axisPrev a).ePrev ∧
         (t.axisNow a).offset = (s.axisPrev a).offset ∧ axisOnly s t a []) ∧
     (2 ≤ (s.axisNow a).lowRun → (s.axisNow a).st = 3 ∨ (s.axisNow a).st = 5 → s.inMove a = false →
       ∃ t, exec (.blindEntry a) s = .next t ∧ (t.axisNow a).st = (if (s.axisNow a).st = 5 then 4 else 2) ∧
         (t.axisNow a).fget (F.AXIS_FLAGS.BLIND_SEEN 0 0) = 1 ∧ (t.axisNow a).u = (s.axisNow a).heldDrive ∧
         (t.axisNow a).heldDrive = (s.axisNow a).heldDrive ∧ (t.axisNow a).i = (s.axisNow a).i ∧
         (t.axisNow a).loss = (s.axisNow a).loss ∧ axisOnly s t a []) ∧
     (16 ≤ (s.axisNow a).highRun → (s.axisNow a).st = 2 ∨ (s.axisNow a).st = 4 →
       ∃ t, exec (.blindExit a) s = .next t ∧ (t.axisNow a).mode = 3 ∧ (t.axisNow a).st = (if (s.axisNow a).src = 1 then 1 else 0) ∧
         (t.axisNow a).rejoin = true ∧ (t.axisNow a).i = (s.axisNow a).i ∧ axisOnly s t a []) ∧
     ((s.axisNow a).st = 2 ∨ (s.axisNow a).st = 3 → s.lossTicks ≤ (s.axisNow a).loss →
       ∃ t, exec (.openLoopEntry a) s = .next t ∧ (t.axisNow a).st = (s.axisNow a).st + 2 ∧
         (∀ pa pb, s.pairOf a = some (pa, pb) → s.mapUsable (s.pairIndex (axisSide a) pa pb) = true →
           (t.axisNow a).heldDrive = hcode (satI 16 (sval (s.olDrive a pa pb) + sval (s.axisNow a).offset))) ∧
         (∀ b, b ≠ a → t.axisNow b = s.axisNow b) ∧ t.steer.rep = s.steer.rep ∧ t.mem = s.mem ∧
         fieldsKept s t (F.MAP_STATUS.CHECK_ERR :: logFields))) ∧
  (∀ (s : State) (a : Nat), s.allWf = true → a < 4640 → (s.axisNow a).winLen = 256 →
     ∃ t, exec (.freezeWindowEnd a) s = .next t ∧ axisOnly s t a [] ∧
       let x := s.axisNow a
       let thr := x.cRef / 2 ^ s.fget (F.DITHER_CTRL.FRZ_FRAC (s.lawReach (s.reachOf a)))
       let measures := x.winRun = true ∧ s.active = true ∧ (x.recal = 2 ∨ x.cRef = 0)
       (t.axisNow a).winLen = 0 ∧
       (x.winOk = false → (t.axisNow a).st = x.st ∧ (t.axisNow a).cRef = x.cRef) ∧
       (x.winOk = true → measures → (t.axisNow a).cRef = x.cSum ∧ (t.axisNow a).st = x.st) ∧
       (x.winOk = true → ¬measures → x.st = 0 → x.cRef ≠ 0 → x.cSum < thr →
         (t.axisNow a).st = 3 ∧ (t.axisNow a).cRef = x.cRef ∧ (t.axisNow a).fget (F.AXIS_FLAGS.FROZEN_SEEN 0 0) = 1) ∧
       (x.winOk = true → ¬measures → x.st = 0 → x.cRef = 0 ∨ thr ≤ x.cSum → (t.axisNow a).st = 0) ∧
       (x.winOk = true → ¬measures → x.st = 3 ∨ x.st = 5 → 2 * thr ≤ x.cSum →
         (t.axisNow a).mode = 3 ∧ (t.axisNow a).st = if x.src = 1 then 1 else 0) ∧
       (x.winOk = true → ¬measures → x.st = 3 ∨ x.st = 5 → x.cSum < 2 * thr → (t.axisNow a).st = x.st)) ∧
  (∀ (s : State) (a : Nat), s.allWf = true → a < 4640 →
     ((s.axisNow a).mode ≠ 0 → 0 < (s.axisNow a).region →
       2 ^ s.fget (F.SCHED_CTRL.DOWN_HOLD (s.lawReach (s.reachOf a))) ≤ (s.axisNow a).downRun →
       ∃ t, exec (.regionFall a) s = .next t ∧ (t.axisNow a).region = (s.axisNow a).region - 1 ∧ (t.axisNow a).i = (s.axisNow a).i ∧
         (t.axisNow a).st = (s.axisNow a).st ∧ (t.axisNow a).mode = (s.axisNow a).mode ∧ axisOnly s t a []) ∧
     ((s.axisNow a).mode = 1 ∨ (s.axisNow a).mode = 3 → (s.axisNow a).held = false →
       max 1 (s.fget (F.SCHED_CTRL.RUN_EXIT (s.lawReach (s.reachOf a)))) ≤ (s.axisNow a).zeroRun →
       ∃ t, exec (.runExit a) s = .next t ∧ (t.axisNow a).mode = 0 ∧ (t.axisNow a).st = (s.axisNow a).st ∧
         (t.axisNow a).i = (s.axisNow a).i ∧ (t.axisNow a).d = (s.axisNow a).d ∧ (t.axisNow a).ePrev = (s.axisNow a).ePrev ∧
         axisOnly s t a []) ∧
     ((s.axisNow a).mode = 2 → exec (.runExit a) s = .next s))

/-- R29, R31, R45, R52, R181, R203: A sample tick numbers itself after the last one, or after the active's where a copy frame was taken,
and stands one period after it (the model's advance of time, log 1); a frame that passes releases its head's held results, a lost one
discards them; a slot that misses the deadline keeps its drive and loop state, sets MISS and counts in MISS_RUN, and a tick without late
slots sets MISS_RUN to 0. -/
def Obligations.TicksAndFrames : Prop :=
  (∀ (s : State) (quads : List Quad) (setpt : List Int) (errs : List CtrlErr), s.rung ≤ 2 → s.pair.parting = false →
     let last := if s.active then s.time.lastTick else s.pair.tickAt.getD s.time.lastTick
     s.time.tb3 ≤ last + s.tickLen →
     ∃ t, exec (.sampleTick quads setpt errs) s = .next t ∧
       (s.active = true ∨ s.pair.copy = none → t.steer.tick = (s.steer.tick + 1) % 2 ^ 32) ∧
       (∀ f, s.pair.copy = some f → s.active = false → t.steer.tick = (f.seq + 1) % 2 ^ 32) ∧
       t.time.tb3 = last + s.tickLen ∧ t.time.lastTick = last + s.tickLen ∧ t.pair.copy = none ∧
       t.steer.quads = quads ∧ t.steer.undo = [] ∧ t.steer.clearPend = [] ∧ t.steer.gangPend = [] ∧ t.mem = s.mem ∧
       t.tows = { s.tows with starved := t.tows.starved } ∧ t.auction = s.auction) ∧
  (∀ (s : State) (h : Nat) (tr : Trailer), s.allWf = true → h < 2 → s.rung ≤ 2 → s.boot.resetLow = false → s.power.railsOff = false →
    s.armed 10 h = false → s.active = true → s.ready = true → s.pair.claiming = false → s.pair.grantA = false → s.pair.releasing = none →
    tr.holder = s.role → (s.steer.held.map (fun r => r.axis)).Nodup →
    ∃ t, exec (.uplinkFrame h tr) s = .next t ∧ (if h = 0 then t.steer.lostA else t.steer.lostB) = 0 ∧
      (∀ a, axisSide a = h → t.axis a = s.axisNow a) ∧ (∀ a, axisSide a ≠ h → t.axis a = s.axis a) ∧
      t.steer.held = s.steer.held.filter (fun r => axisSide r.axis ≠ h) ∧
      (if h = 0 then t.steer.lostB = s.steer.lostB else t.steer.lostA = s.steer.lostA) ∧ t.mem = s.mem ∧ t.tows = s.tows) ∧
  (∀ (s : State) (h : Nat) (bad : Bool), s.allWf = true → h < 2 → s.rung ≤ 2 →
    ∃ t, exec (.uplinkFrameLost h bad) s = .next t ∧
      (if h = 0 then t.steer.lostA = s.steer.lostA + 1 else t.steer.lostB = s.steer.lostB + 1) ∧
      t.steer.held = s.steer.held.filter (fun r => axisSide r.axis ≠ h) ∧ t.steer.rep = s.steer.rep ∧
      (∀ a, (t.axis a).u = (s.axis a).u ∧ (t.axis a).i = (s.axis a).i ∧ (t.axis a).d = (s.axis a).d ∧
        (t.axis a).ePrev = (s.axis a).ePrev ∧ (t.axis a).flags = (s.axis a).flags) ∧
      reports { s with steer := t.steer } t []) ∧
  (∀ (s : State), s.allWf = true → s.rung ≤ 2 →
    ∃ t, exec (.controlDeadline []) s = .next t ∧ t = { s with regs := t.regs } ∧
      fieldsKept s t ((List.range 9).map F.REACH_STATUS.MISS_RUN) ∧
      (∀ k, k < 9 → s.duty k = 0 → t.fget (F.REACH_STATUS.MISS_RUN k) = 0)) ∧
  (∀ (s : State) (a : Nat), s.allWf = true → s.rung ≤ 2 → a < 4640 → (s.axis a).st ≠ 6 → s.reachRuns (s.reachOf a) = true →
    s.driverOf a < 9 → s.duty (s.driverOf a) = 0 →
    ∃ t, exec (.controlDeadline [a]) s = .next t ∧ (t.axis a).fget (F.AXIS_FLAGS.MISS 0 0) = 1 ∧
      (t.axis a).u = (s.axisBefore a).u ∧ (t.axis a).i = (s.axisBefore a).i ∧ (t.axis a).d = (s.axisBefore a).d ∧
      (∀ b, b ≠ a → t.axis b = s.axis b) ∧
      t.fget (F.REACH_STATUS.MISS_RUN (s.driverOf a)) = min 3 (s.fget (F.REACH_STATUS.MISS_RUN (s.driverOf a)) + 1) ∧ t.mem = s.mem)

/-- R53–R55: RELIEVE loads reach 8 with the source's words and starts a takeover, and a run of three misses starts one; it shadows from
the second tick, commits when due, is abandoned when it does not agree in time, and gives the slots back after RETURN; RETURN without a
relief sets RETURN_ERR. No axis changes at a commit or a return. -/
def Obligations.ReliefReach : Prop :=
  (∀ (s : State) (r : Nat), s.allWf = true → r < 9 → s.boot.coresUp = true → s.rung ≤ 2 → s.poundState r ≠ 3 →
    (r < 8 → s.reliefFree = true →
      ∃ t, exec (.relieve r) s = .next t ∧
        t.steer.relief = some { source := r, trigger := .software, tr := s.steer.tick, shadow := false, agree := 0, copied := false,
                                committed := false, returning := false, cmd := none } ∧
        t = { s with regs := t.regs, steer := { s.steer with relief := t.steer.relief } } ∧
        (∀ o, o < 0x10000 → reliefWord r (0x400000 + r * 0x10000 + o) = true →
          t.word (0x480000 + o) = s.word (0x400000 + r * 0x10000 + o)) ∧
        (∀ off, 0x490000 ≤ off ∨ off < 0x480000 → t.word off = s.word off)) ∧
    (r = 8 ∨ s.relieving = r → exec (.relieve r) s = .next s) ∧
    (r < 8 → s.relieving ≠ r → s.reliefFree = false →
      ∃ t, exec (.relieve r) s = .next t ∧ t.fget (F.REACH_STATUS.RELIEF_BUSY r) = 1 ∧ t = { s with regs := t.regs } ∧
        fieldsKept s t [F.REACH_STATUS.RELIEF_BUSY r]) ∧
    (∀ q, s.steer.relief = some q → q.source = r → q.committed = true → q.trigger ≠ .reload → q.returning = false →
      exec (.returnReach r) s =
        .next { s with steer := { s.steer with relief := some { q with returning := true, shadow := false, tr := s.steer.tick
                                                                       loop := [], fresh := [] } } }) ∧
    ((∀ q, s.steer.relief = some q → q.source ≠ r ∨ q.committed = false ∨ q.trigger = .reload ∨ q.returning = true) →
      ∃ t, exec (.returnReach r) s = .next t ∧ t.fget (F.REACH_STATUS.RETURN_ERR r) = 1 ∧ t = { s with regs := t.regs } ∧
        fieldsKept s t [F.REACH_STATUS.RETURN_ERR r])) ∧
  (∀ (s : State) (r : Nat), s.allWf = true → r < 8 →
    (s.fget (F.REACH_STATUS.MISS_RUN r) = 3 → s.duty r = 0 → s.reliefFree = true →
      ∃ t, exec (.missRunRelief r) s = .next t ∧
        t.steer.relief = some { source := r, trigger := .misses, tr := s.steer.tick, shadow := false, agree := 0, copied := false,
                                committed := false, returning := false, cmd := none } ∧
        t = { s with regs := t.regs, steer := { s.steer with relief := t.steer.relief } }) ∧
    (s.fget (F.REACH_STATUS.MISS_RUN r) = 3 → s.duty r = 0 → s.relieving ≠ r → s.reliefFree = false →
      ∃ t, exec (.missRunRelief r) s = .next t ∧ t.fget (F.REACH_STATUS.RELIEF_BUSY r) = 1 ∧
        reports s t [F.REACH_STATUS.RELIEF_BUSY r]) ∧
    (s.fget (F.REACH_STATUS.MISS_RUN r) ≠ 3 ∨ s.duty r ≠ 0 ∨ s.relieving = r → exec (.missRunRelief r) s = .next s)) ∧
  (∀ (s : State) (q : Relief), s.allWf = true → s.steer.relief = some q → q.source < 8 →
    (q.shadow = false → q.committed = false ∨ q.returning = true → q.tr + 2 ≤ s.steer.tick →
      exec .reliefShadowing s = .next { s with steer := { s.steer with relief := some { q with
        shadow := true, agree := 0
        loop := (s.steer.axes.filter (fun p => decide (s.reachOf p.1 = q.source))).map (fun p => shadowOf p.1 p.2)
        fresh := (s.steer.held.filter (fun h => decide (s.reachOf h.axis = q.source))).map (fun h => shadowOf h.axis h.new) } } }) ∧
    (q.shadow = true → q.committed = false → q.trigger = .misses ∨ 2 ≤ q.agree → s.steer.tick ≤ q.tr + 10 →
      (q.loop.map (fun p => p.axis)).Nodup →
      ∃ t, exec .reliefCommit s = .next t ∧
        t.steer.relief = some { q with committed := true, copied := true, shadow := false, loop := [], fresh := [] } ∧
        (∀ p ∈ q.loop, t.axis p.axis = p.put (s.axis p.axis)) ∧
        (∀ a, a ∉ q.loop.map (fun p => p.axis) → t.axis a = s.axis a) ∧
        t.fget (F.REACH_STATUS.MISS_RUN q.source) = 0 ∧ t.steer.rep = s.steer.rep ∧ t.mem = s.mem) ∧
    (q.committed = false → q.trigger ≠ .misses → q.tr + 10 ≤ s.steer.tick →
      ∃ t, exec .reliefAbandon s = .next t ∧ t.steer.relief = none ∧
        t.boot = (if q.cmd = none then s.boot else { s.boot with reload := none }) ∧
        reports { s with steer := { s.steer with relief := none }, boot := t.boot } t []) ∧
    (q.committed = true → q.returning = true → q.shadow = true → (q.loop.map (fun p => p.axis)).Nodup →
      ∃ t, exec .reliefReturn s = .next t ∧ t.steer.relief = none ∧
        (∀ p ∈ q.loop, t.axis p.axis = p.put (s.axis p.axis)) ∧
        (∀ a, a ∉ q.loop.map (fun p => p.axis) → t.axis a = s.axis a) ∧ t.steer.rep = s.steer.rep ∧
        t.boot = (if q.trigger = .reload then { s.boot with reload := none } else s.boot) ∧ t.mem = s.mem))

/-- R36, R38, R56–R58, R384: On an ACTIVE module: SWAP pends in every reach of the gang and its commit makes valid records active and
refuses invalid ones with BANK_ERR; a gang change takes effect or, in a cycle, sets GANG_ERR; AXIS_FLAGS takes W1C, MODE and unlocked
CLASS; CLEAR and RECAL pend; REACH_CTRL.EN obeys its lock and DUTY. -/
def Obligations.SteerWrites : Prop :=
  (∀ (s : State) (r : Nat), s.allWf = true → r < 8 → s.active = true → s.boot.coresUp = true → s.rung ≤ 2 → s.poundState r ≠ 3 →
    (∀ c, c < 16 → ∃ t, exec (.swap r (BitVec.ofNat 16 (2 ^ c))) s = .next t ∧
      (∀ k ∈ s.gangOf r, t.fget (F.LAW_BANK_SEL.SWAP k) / 2 ^ c % 2 = 1) ∧ t = { s with regs := t.regs } ∧
      (∀ k, k < 9 → t.fget (F.LAW_BANK_SEL.ACTIVE k) = s.fget (F.LAW_BANK_SEL.ACTIVE k))) ∧
    (∀ g, g < 4 → g ≠ s.gangShown r → s.reachInCycle r = true →
      ∃ t, exec (.gangChange r g) s = .next t ∧ t.fget (F.REACH_STATUS.GANG_ERR r) = 1 ∧ t.gangShown r = s.gangShown r ∧
        t = { s with regs := t.regs } ∧ fieldsKept s t [F.REACH_STATUS.GANG_ERR r]) ∧
    (∀ g, g < 4 → s.reachInCycle r = false →
      ∃ t, exec (.gangChange r g) s = .next t ∧ t.gangShown r = g ∧
        t = { s with steer := { s.steer with gangPend := t.steer.gangPend } }) ∧
    (∀ (j a : Nat) (v : Word), j < 580 → s.axisAt r j = some a →
      ∃ t, exec (.axisFlagsWrite r j v) s = .next t ∧ (t.axis a).flags = (s.axis a).flags &&& ~~~(v &&& 0x7F) ∧
        (t.axis a).modeReq = (if v.toNat / 2 ^ 26 % 4 = 0 ∨ v.toNat / 2 ^ 26 % 4 = 2 then some (v.toNat / 2 ^ 26 % 4) else (s.axis a).modeReq) ∧
        (t.axis a).classReq = (if s.unlocked r then some (v.toNat / 2 ^ 28) else (s.axis a).classReq) ∧
        (∀ b, b ≠ a → t.axis b = s.axis b) ∧ reports { s with steer := t.steer } t []) ∧
    (∀ (j : Nat) (v : Word), j < 580 → s.axisAt r j = none → exec (.axisFlagsWrite r j v) s = .next s) ∧
    (∃ t, exec (.clear r) s = .next t ∧ r ∈ t.steer.clearPend ∧
      reports { s with steer := { s.steer with clearPend := t.steer.clearPend } } t []) ∧
    (∃ t, exec (.recal r) s = .next t ∧
      (∀ a, s.reachOf a = r → a ∈ s.steer.axes.map (fun p => p.1) → (s.axis a).mode = 0 → (t.axis a).recal = 1) ∧
      (∀ a, s.reachOf a ≠ r ∨ (s.axis a).mode ≠ 0 → t.axis a = s.axis a) ∧ reports { s with steer := t.steer } t []) ∧
    (s.unlocked r = false → ∀ en, exec (.reachEnWrite r en) s = .next s) ∧
    (s.unlocked r = true → ∃ t, exec (.reachEnWrite r true) s = .next t ∧ t.fget (F.REACH_CTRL.EN r) = 1 ∧ t = { s with regs := t.regs } ∧
      fieldsKept s t [F.REACH_CTRL.EN r]) ∧
    (s.unlocked r = true → s.duty r ≤ 1 → ∃ t, exec (.reachEnWrite r false) s = .next t ∧ t.fget (F.REACH_STATUS.BANK_ERR r) = 1 ∧
      t = { s with regs := t.regs } ∧ fieldsKept s t [F.REACH_STATUS.BANK_ERR r]) ∧
    (s.unlocked r = true → 2 ≤ s.duty r → ∃ t, exec (.reachEnWrite r false) s = .next t ∧ t.fget (F.REACH_CTRL.EN r) = 0 ∧
      t = { s with regs := t.regs } ∧ fieldsKept s t [F.REACH_CTRL.EN r])) ∧
  (∀ (s : State) (r : Nat), s.allWf = true → r < 8 →
    ∃ t, exec (.swapCommit r) s = .next t ∧ t.steer.axes = s.steer.axes ∧ t.mem = s.mem ∧ t.lock = s.lock ∧ ∀ k ∈ s.gangOf r,
      t.fget (F.LAW_BANK_SEL.SWAP k) = 0 ∧ ∀ c, c < 16 →
        (s.fget (F.LAW_BANK_SEL.SWAP k) / 2 ^ c % 2 = 0 → t.activeBank k c = s.activeBank k c) ∧
        (s.fget (F.LAW_BANK_SEL.SWAP k) / 2 ^ c % 2 = 1 → (s.bank k c (1 - s.activeBank k c)).valid = true →
          t.activeBank k c = 1 - s.activeBank k c) ∧
        (s.fget (F.LAW_BANK_SEL.SWAP k) / 2 ^ c % 2 = 1 → (s.bank k c (1 - s.activeBank k c)).valid = false →
          t.activeBank k c = s.activeBank k c ∧ t.fget (F.REACH_STATUS.BANK_ERR k) = 1)) ∧
  (∀ (s : State) (r : Nat), s.allWf = true → r < 8 → s.active = false → s.boot.coresUp = true → s.rung ≤ 2 → s.poundState r ≠ 3 →
    exec (.clear r) s = .next s ∧ exec (.recal r) s = .next s ∧
    (∀ classes : BitVec 16, classes ≠ 0 → ∃ t, exec (.swap r classes) s = .next t ∧ t.fget F.PAIR_STATUS.WRITE_IGN = 1 ∧
      t = { s with regs := t.regs } ∧ fieldsKept s t [F.PAIR_STATUS.WRITE_IGN]) ∧
    (∀ g, g < 4 → g ≠ s.gangShown r → ∃ t, exec (.gangChange r g) s = .next t ∧ t.fget F.PAIR_STATUS.WRITE_IGN = 1 ∧
      t = { s with regs := t.regs } ∧ fieldsKept s t [F.PAIR_STATUS.WRITE_IGN]) ∧
    (∀ (j a : Nat) (v : Word), j < 580 → s.axisAt r j = some a → flagsChange (s.axis a) v = true →
      ∃ t, exec (.axisFlagsWrite r j v) s = .next t ∧ t.fget F.PAIR_STATUS.WRITE_IGN = 1 ∧
        t = { s with regs := t.regs } ∧ fieldsKept s t [F.PAIR_STATUS.WRITE_IGN])) ∧
  (∀ (s : State) (r : Nat) (c : Instr), s.allWf = true → r < 8 → s.boot.coresUp = true → s.rung ≤ 2 → s.poundState r = 3 →
    c = .clear r ∨ c = .recal r ∨ c = .relieve r ∨ c = .returnReach r ∨ (∃ en, c = .reachEnWrite r en) ∨ (∃ v, c = .swap r v) ∨
      (∃ g, g < 4 ∧ c = .gangChange r g) ∨ (∃ j v, j < 580 ∧ c = .axisFlagsWrite r j v) →
    ∃ t, exec c s = .next t ∧ t.fget (F.POUND_STATUS.WRITE_LOST r) = 1 ∧ reports s t [F.POUND_STATUS.WRITE_LOST r])

/-- R43, R44, R61, R369: SETPOINT_ROUTE puts an axis in SERVICE at its present target and its port in SERVICE; a STEP edge counts up or
down by the step size; a head's temperature report sets its temperature and the bin by the hysteresis rule, and leaves the other head
alone. -/
def Obligations.SetpointAndTemperature : Prop :=
  (∀ (s : State) (src : Src) (a gain shift : Nat), s.allWf = true → s.accepts 0xC0 src → s.routeRefusal 0 false a shift = none →
    ∃ t, exec (.setpointRoute src 0 false a gain shift 0) s = .next t ∧ t.steer.ainAxis = some a ∧ (t.axis a).src = 2 ∧
      (t.axis a).svcBase = (s.axis a).target ∧ (∀ p, entryOf (mirrorOf a) = some p → (t.port p).state = 6) ∧
      (∀ b, b ≠ a → s.steer.ainAxis ≠ some b → s.steer.stepAxis ≠ some b → t.axis b = s.axis b) ∧ t.mem = s.mem ∧
      answered s t 0xC0 src .done 0 0 [] []) ∧
  (∀ (s : State) (src : Src) (a step : Nat), s.allWf = true → s.accepts 0xC0 src → s.routeRefusal 1 false a 0 = none →
    ∃ t, exec (.setpointRoute src 1 false a 0 0 step) s = .next t ∧ t.steer.stepAxis = some a ∧ t.steer.stepSize = step ∧
      (t.axis a).src = 2 ∧ (t.axis a).svcBase = (s.axis a).target ∧ (∀ p, entryOf (mirrorOf a) = some p → (t.port p).state = 6) ∧
      (∀ b, b ≠ a → s.steer.ainAxis ≠ some b → s.steer.stepAxis ≠ some b → t.axis b = s.axis b) ∧ t.mem = s.mem ∧
      answered s t 0xC0 src .done 0 0 [] []) ∧
  (∀ (s : State) (dir : Bool), s.rung ≤ 2 →
    exec (.step dir) s = .next { s with steer := { s.steer with
      stepCount := (BitVec.ofInt 32 (if dir then s.steer.stepCount + s.steer.stepSize else s.steer.stepCount - s.steer.stepSize)).toInt } }) ∧
  (∀ (s : State) (temp : Int), s.allWf = true →
    ∃ t, exec (.temperatureBinChange 0 temp) s = .next t ∧ t.bin 0 = binNext (s.bin 0) temp ∧ t.pair.headA.temp = temp ∧
      t.bin 1 = s.bin 1 ∧ t.pair.headB = s.pair.headB ∧ t.mem = s.mem ∧ t.tows = s.tows ∧
      (∀ a, axisSide a = 1 → t.axis a = s.axis a)) ∧
  (∀ (s : State) (temp : Int), s.allWf = true →
    ∃ t, exec (.temperatureBinChange 1 temp) s = .next t ∧ t.bin 1 = binNext (s.bin 1) temp ∧ t.pair.headB.temp = temp ∧
      t.bin 0 = s.bin 0 ∧ t.pair.headA = s.pair.headA ∧ t.mem = s.mem ∧ t.tows = s.tows ∧
      (∀ a, axisSide a = 0 → t.axis a = s.axis a))

/-! ## Pointing map, plans and lock cycles (R59–R100, R172–R178) -/

/-- R62–R64, R289, R304: MAP_WRITE puts checked entries in the journal or names the first bad one; MAP_READ answers committed or journal
entries and repairs one whose check fails from the master copy; MAP_COMMIT applies the whole journal; the flash write carries changed
entries to the master copy; and a reload takes the master copy back. -/
def Obligations.PointingMap : Prop :=
  (∀ (s : State) (src : Src) (first : Nat) (es : List MapEntry), s.allWf = true → s.accepts 0x10 src → es ≠ [] → es.length ≤ 16380 →
    first + es.length ≤ mapLimit → (∀ e ∈ es, entryCheck e = true) →
    ((writeIndices first es).foldl (fun j p => spSet 0 j p.1 p.2) s.map.journal).length ≤ 65536 →
    ∃ t, exec (.mapWrite src first es) s = .next t ∧ (∀ i, i < es.length → spGet 0 t.map.journal (first + i) = es.getD i 0) ∧
      (∀ j, j < first ∨ first + es.length ≤ j → spGet 0 t.map.journal j = spGet 0 s.map.journal j) ∧
      answered s t 0x10 src .done 0 t.map.journal.length [] [] ∧
      reports { s.without src with map := { s.map with journal := t.map.journal } } t []) ∧
  (∀ (s : State) (src : Src) (first : Nat) (es : List MapEntry) (i : Nat), s.allWf = true → s.accepts 0x10 src → es ≠ [] →
    es.length ≤ 16380 → first + es.length ≤ mapLimit → badEntry (writeIndices first es) = some i →
    ∃ t, exec (.mapWrite src first es) s = .next t ∧ answered s t 0x10 src .refused Reason.range.code i [] [] ∧
      reports (s.without src) t []) ∧
  (∀ (s : State) (src : Src) (first count : Nat), s.allWf = true → s.accepts 0x11 src → 0 < count → count ≤ 1024 → first + count ≤ mapLimit →
    (∀ i, first ≤ i → i < first + count → entryCheck (s.mapWork i) = true) →
    ∃ t, exec (.mapRead src first count false) s = .next t ∧
      answered s t 0x11 src .done 0 0 [] ((List.range count).flatMap (fun i => entryBytes (s.mapWork (first + i)))) ∧
      reports (s.without src) t []) ∧
  (∀ (s : State) (src : Src) (i : Nat), s.allWf = true → s.accepts 0x11 src → i < mapLimit →
    (spGet 0 s.map.journal i ≠ 0 → ∃ t, exec (.mapRead src i 1 true) s = .next t ∧
      answered s t 0x11 src .done 0 0 [] (entryBytes (spGet 0 s.map.journal i)) ∧ reports (s.without src) t []) ∧
    (entryCheck (s.mapWork i) = false → entryCheck (spGet 0 s.map.master i) = true →
      ∃ t, exec (.mapRead src i 1 false) s = .next t ∧ t.mapWork i = spGet 0 s.map.master i ∧ (∀ j, j ≠ i → t.mapWork j = s.mapWork j) ∧
        answered s t 0x11 src .done 0 0 [] (entryBytes (spGet 0 s.map.master i)) ∧ t.fget F.MAP_STATUS.CHECK_ERR = 1 ∧
        reports { s.without src with map := { s.map with work := t.map.work } } t [F.MAP_STATUS.CHECK_ERR])) ∧
  (∀ (s : State) (src : Src), s.allWf = true → s.accepts 0x12 src → s.fget F.MAP_STATUS.COMMIT_BUSY = 0 →
    ∃ t, exec (.mapCommit src) s = .next t ∧ t.map.journal = [] ∧ t.map.master = s.map.master ∧
      (∀ i, entryCheck (spGet 0 s.map.journal i) = true → t.mapWork i = spGet 0 s.map.journal i) ∧
      (∀ i, spGet 0 s.map.journal i = 0 → entryCheck (s.mapWork i) = true → t.mapWork i = s.mapWork i) ∧
      (∀ i, i ∈ t.map.dirty ↔ i ∈ s.map.dirty ∨ ∃ e, (i, e) ∈ s.map.journal) ∧ t.mem = s.mem ∧ t.lock = s.lock ∧ t.tows = s.tows ∧
      t.time = s.time ∧ t.fabric = s.fabric ∧
      fieldsKept s t (F.MAP_STATUS.COMMIT_BUSY :: F.MAP_STATUS.CHECK_ERR :: logFields) ∧
      (s.attached = false → answered s t 0x12 src .done 0 s.map.journal.length [] [])) ∧
  (∀ (s : State) (src : Src), s.allWf = true → s.accepts 0x12 src → s.fget F.MAP_STATUS.COMMIT_BUSY = 1 →
    ∃ t, exec (.mapCommit src) s = .next t ∧ answered s t 0x12 src .refused Reason.inProgress.code 0 [] [] ∧ reports (s.without src) t []) ∧
  (∀ (s : State), s.allWf = true →
    ∃ t, exec .mapFlashWrite s = .next t ∧ (∀ i ∈ s.map.dirty, spGet 0 t.map.master i = s.mapWork i) ∧
      (∀ i, i ∉ s.map.dirty → spGet 0 t.map.master i = spGet 0 s.map.master i) ∧
      t = { s with map := { s.map with master := t.map.master, dirty := [] } }) ∧
  (∀ (s : State), ∃ t, exec .mapReload s = .next t ∧ (∀ i, t.mapWork i = spGet 0 s.map.master i) ∧ t.map.reloading = false ∧
      t = { s with map := { s.map with work := t.map.work, reloading := false } })

/-- R173–R176: PLAN_SUBMIT inserts a READY plan with the next PLAN_ID and answers its hash, or names the first fault; PLAN_DROP frees an
entry and is refused while it is IN_USE. -/
def Obligations.PlanCommands : Prop :=
  (∀ (s : State) (src : Src) (peer : Peer) (proof : List Nat) (i : Nat), s.allWf = true → s.accepts 0x20 src →
    planFault peer proof = none → s.planSlot = some i →
    ∃ t, exec (.planSubmit src peer proof) s = .next t ∧ (t.plan i).planId = nextId s.lock.lastPlan ∧ (t.plan i).state = 1 ∧
      (t.plan i).peer = peer ∧ (t.plan i).proof = proof ∧ (t.plan i).source = (if src.queue = 0xFFFF then 2 else 0) ∧
      (∀ j, j ≠ i → t.plan j = s.plan j) ∧ t.lock = { s.lock with lib := t.lock.lib, lastPlan := nextId s.lock.lastPlan } ∧
      t.steer = s.steer ∧ t.mem = s.mem ∧ fieldsKept s t logFields ∧
      (s.attached = false → answered s t 0x20 src .done 0 0 (le 8 (nextId s.lock.lastPlan) ++ le 8 (planHash peer proof)) [])) ∧
  (∀ (s : State) (src : Src) (peer : Peer) (proof : List Nat) (a : Nat), s.allWf = true → s.accepts 0x20 src → planFault peer proof = some a →
    ∃ t, exec (.planSubmit src peer proof) s = .next t ∧ answered s t 0x20 src .refused Reason.range.code a [] [] ∧
      reports (s.without src) t []) ∧
  (∀ (s : State) (src : Src) (id i : Nat), s.allWf = true → s.accepts 0x21 src → s.planIndex id = some i →
    ((s.plan i).state ≠ 2 → ∃ t, exec (.planDrop src id) s = .next t ∧ t.plan i = {} ∧ (∀ j, j ≠ i → t.plan j = s.plan j) ∧
      t.lock = { s.lock with lib := t.lock.lib } ∧ t.steer = s.steer ∧ t.mem = s.mem ∧ fieldsKept s t logFields ∧
      (s.attached = false → answered s t 0x21 src .done 0 0 [] [])) ∧
    ((s.plan i).state = 2 → ∃ t, exec (.planDrop src id) s = .next t ∧ answered s t 0x21 src .refused Reason.state.code 0 [] [] ∧
      reports (s.without src) t []))

/-- R80, R81, R86, R90, R93: An accepted ask makes a cycle with the next ID, its plan IN_USE, its trajectory tow submitted and an
ACCEPTED notice; a supersede before OPEN gives its cycle the new plan, T_open and next REVISION; an accepted LOCK_JOINT carries its
joint ID and moves LOCK_EPOCH; a refused ask writes LOCK_LAST and leaves the cycles alone. -/
def Obligations.LockAsks : Prop :=
  (∀ (s : State) (src : Src) (plan superId i : Nat) (late : Bool) (at_ : TimeField), s.allWf = true → s.accepts 0x22 src →
    let q : Ask := { planId := plan, tOpen := s.openOf src at_, superId := superId, lateProof := late }
    s.refusalOf q = 0 → s.planIndex plan = some i →
    ∃ t c n w, exec (.lockSchedule src plan false late superId at_) s = .next t ∧ t.lock.lastId = nextId s.lock.lastId ∧ c ∈ t.lock.cycles ∧
      c.id = nextId s.lock.lastId ∧ c.rev = 0 ∧ c.planId = plan ∧ c.tOpen = s.openOf src at_ ∧ c.opened = none ∧
      c.pairs = (s.askedChange q).1 ∧ c.released = (s.askedChange q).2 ∧ (∀ d ∈ s.lock.cycles, d.berth = false → d ∈ t.lock.cycles) ∧
      (t.plan i).state = 2 ∧ t.lock.repeats = s.lock.repeats ++ [(n, 1)] ∧ n.type = 1 ∧ n.cycleId = c.id ∧
      n.seq = (s.lock.seq + 1) % 65536 ∧ t.tows.tows = s.tows.tows ++ [w] ∧ w.settle = some c.id ∧ t.steer = s.steer ∧ t.mem = s.mem ∧
      t.lock.paths = s.lock.paths ∧
      (s.attached = false →
        answered s t 0x22 src .done 0 0 (le 4 c.id ++ le 4 0 ++ le 8 ((s.openOf src at_ + 2 ^ 64 - s.time.tb0.ns) % 2 ^ 64)) [])) ∧
  (∀ (s : State) (src : Src) (plan superId : Nat) (late : Bool) (at_ : TimeField) (c : Cycle), s.allWf = true → s.accepts 0x22 src →
    let q : Ask := { planId := plan, tOpen := s.openOf src at_, supersede := true, superId := superId, lateProof := late }
    s.refusalOf q = 0 → s.namedCycle q = some c → c.opened = none →
    ∃ t d, exec (.lockSchedule src plan true late superId at_) s = .next t ∧ d ∈ t.lock.cycles ∧ d.id = c.id ∧
      d.rev = (c.rev + 1) % 65536 ∧ d.planId = plan ∧ d.tOpen = s.openOf src at_ ∧ d.superseded = true ∧ d.computed = false ∧
      t.lock.lastId = s.lock.lastId ∧ t.steer = s.steer ∧ t.mem = s.mem ∧ t.lock.paths = s.lock.paths) ∧
  (∀ (s : State) (src : Src) (plan superId : Nat) (super late : Bool) (at_ : TimeField), s.allWf = true → s.accepts 0x22 src →
    let q : Ask := { planId := plan, tOpen := s.openOf src at_, supersede := super, superId := superId, lateProof := late }
    s.refusalOf q ≠ 0 →
    ∃ t, exec (.lockSchedule src plan super late superId at_) s = .next t ∧ t.fget F.LOCK_LAST.OUTCOME = 4 ∧
      t.fget F.LOCK_LAST.REASON = s.refusalOf q ∧ answered s t 0x22 src .refused (s.refusalOf q) 0 [] [] ∧ t.lock = s.lock ∧
      t.steer = s.steer ∧ t.mem = s.mem) ∧
  (∀ (s : State) (src : Src) (plan joint epoch hash : Nat) (late : Bool) (at_ : TimeField), s.allWf = true → s.accepts 0x24 src →
    let q : Ask := { planId := plan, tOpen := (at_.sec * 10 ^ 9 + at_.ns) % 2 ^ 64, lateProof := late, joint := true, jointId := joint,
                     epoch := epoch, hash := hash }
    s.refusalOf q = 0 →
    ∃ t c, exec (.lockJoint src plan late joint epoch at_ hash) s = .next t ∧ c ∈ t.lock.cycles ∧ c.id = nextId s.lock.lastId ∧
      c.joint = true ∧ c.jointId = joint ∧ c.epoch = epoch ∧ c.planId = plan ∧ c.opened = none ∧
      t.fget F.LOCK_EPOCH.EPOCH = epoch % 2 ^ F.LOCK_EPOCH.EPOCH.width ∧ t.steer = s.steer ∧ t.mem = s.mem ∧ t.lock.paths = s.lock.paths)

/-- R88, R90: LOCK_ABORT before OPEN ends the cycle with reason HOST and leaves its paths; in OPEN or SLEW it sends every axis of the
cycle toward park; after a path has left SLEW it is refused with PHASE. NOTICE_REPEAT sends the next copy of the first notice that
waits, until three have left. -/
def Obligations.LockAbortAndNotices : Prop :=
  (∀ (s : State) (src : Src) (id : Nat) (c : Cycle), s.allWf = true → s.accepts 0x23 src →
    s.lock.cycles.find? (fun c => decide (c.id = id) && !c.berth) = some c →
    (c.opened = none → ∃ t n, exec (.lockAbort src id) s = .next t ∧ t.lock.cycles = s.lock.cycles.filter (fun d => d.id ≠ id) ∧
      t.lock.paths = s.lock.paths ∧ t.lock.repeats = s.lock.repeats ++ [(n, 1)] ∧ n.type = 3 ∧ n.outcome = 3 ∧ n.mapA = [] ∧ n.mapB = [] ∧
      t.fget F.LOCK_LAST.OUTCOME = 3 ∧ t.fget F.LOCK_LAST.REASON = 0x21 ∧ t.steer = s.steer ∧ t.mem = s.mem ∧
      (∀ w ∈ t.tows.tows, w.settle ≠ some id) ∧ (s.attached = false → answered s t 0x23 src .done 0 0 [] [])) ∧
    (c.opened ≠ none → c.leftSlew = false → c.aborting = false → ∃ t d, exec (.lockAbort src id) s = .next t ∧ t.cycle id = some d ∧
      d.aborting = true ∧ t.lock.paths = s.lock.paths ∧ t.mem = s.mem ∧ t.tows = s.tows ∧
      (∀ a ∈ c.axes, (s.axisNow a).st ≠ 6 → (t.axisNow a).goal = s.park (axisSide a)) ∧ (∀ a, a ∉ c.axes → t.axisNow a = s.axisNow a) ∧
      (s.attached = false → answered s t 0x23 src .done 0 0 [] [])) ∧
    (c.opened ≠ none → c.leftSlew = true ∨ c.aborting = true → ∃ t, exec (.lockAbort src id) s = .next t ∧
      t.fget F.LOCK_LAST.REASON = 0x0A ∧ answered s t 0x23 src .refused 0x0A 0 [] [] ∧ reports (s.without src) t [F.LOCK_LAST.REASON])) ∧
  (∀ (s : State) (src : Src) (id : Nat), s.allWf = true → s.accepts 0x23 src → (∀ c ∈ s.lock.cycles, c.id = id → c.berth = true) →
    let r := if 0 < id ∧ id ≤ s.lock.lastId then 0x0A else 0x0D
    ∃ t, exec (.lockAbort src id) s = .next t ∧ t.fget F.LOCK_LAST.REASON = r ∧ answered s t 0x23 src .refused r 0 [] [] ∧
      reports (s.without src) t [F.LOCK_LAST.REASON]) ∧
  (∀ (s : State) (n : Notice) (k : Nat) (rest : List (Notice × Nat)), s.active = true → s.lock.repeats = (n, k) :: rest →
    ∃ t, exec .noticeRepeat s = .next t ∧
      t.out = s.out ++ [.notice s.noticeGroup s.noticeUdp (n.datagram (decide (k ≠ 0)) s.time.tb0.fine)
        (s.noticePorts.map (fun p => (p, s.fget (F.ETH_CTRL.VLAN p), s.fget (F.ETH_CTRL.PCP p))))] ∧
      t.lock = { s.lock with repeats := if k + 1 < 3 then rest ++ [(n, k + 1)] else rest } ∧
      t = { s with lock := t.lock, out := t.out, counters := t.counters })

/-- R64, R65, R69, R72–R75, R83, R94: The settle-model tow's buffers are taken; at the tow deadline the fallback stands in; a computed
cycle is armed; a joint cycle whose time check fails is aborted with TIME_LOST; an armed cycle opens at its first tick with its axes
under LOCK, late within 1.0 ms with EXTENDED, and is aborted with LATE beyond that or where it is joint. -/
def Obligations.CyclePrepareAndOpen : Prop :=
  (∀ (s : State) (id : Nat) (c : Cycle), s.allWf = true → s.cycle id = some c → c.opened = none →
     (∀ (bufs : List TrajBuf) (scaled : Option Nat), c.fallback = false → s.settleRunning id = true →
       (∀ p ∈ c.pairs, s.pairUsable p.1 p.2 = true) → (bufs.map (fun b => b.axis)).Nodup →
       towWaves (s.headPlan 0) (s.headPlan 1) (s.waveItems { c with bins := some (s.bin 0, s.bin 1) })
         (bufs.filter (fun b => c.axes.contains b.axis)) scaled.isSome = true →
       ∃ t d, exec (.trajectoryBuffersWritten id bufs true scaled) s = .next t ∧ t.cycle id = some d ∧ d.computed = true ∧
         d.pairs = c.pairs ∧ d.bins = some (s.bin 0, s.bin 1) ∧ d.limited = (c.limited || scaled.isSome) ∧
         (∀ b ∈ bufs, b.axis ∈ c.axes → spGet [] t.lock.bufs b.axis = [b]) ∧
         (∀ a, (∀ b ∈ bufs, b.axis ≠ a) → spGet [] t.lock.bufs a = spGet [] s.lock.bufs a) ∧
         (∀ w ∈ t.tows.tows, w.settle ≠ some id) ∧ t.steer = s.steer ∧ t.mem = s.mem ∧ t.lock.paths = s.lock.paths) ∧
     (∀ (bufs : List TrajBuf) (scaled : Option Nat), c.fallback = false → s.settleRunning id = true →
       ∃ t, exec (.trajectoryBuffersWritten id bufs false scaled) s = .next t ∧ t.lock = s.lock ∧ (∀ w ∈ t.tows.tows, w.settle ≠ some id) ∧
         t.steer = s.steer ∧ t.mem = s.mem ∧ t.map = s.map) ∧
     (s.within 110000 c.tOpen = true → c.armed = false → c.fallback = false → c.computed = false →
       ∃ t d, exec (.towDeadline id) s = .next t ∧ t.cycle id = some d ∧ d.computed = true ∧ d.fallback = true ∧ d.armed = false ∧
         (∀ w ∈ t.tows.tows, w.settle ≠ some id) ∧ t.steer = s.steer ∧ t.mem = s.mem ∧ t.lock.paths = s.lock.paths) ∧
     (s.within 50000 c.tOpen = true → c.computed = true →
       ∃ t, exec (.gangArm id) s = .next t ∧ t.cycle id = some { c with armed := true } ∧
         (∀ d ∈ s.lock.cycles, d.id ≠ id → d ∈ t.lock.cycles) ∧ t = { s with lock := { s.lock with cycles := t.lock.cycles } }) ∧
     (c.joint = true → c.berth = false → s.within 100000 c.tOpen = true → s.jointTime = false →
       ∃ t, exec (.jointRecheck id) s = .next t ∧ t.lock.cycles = s.lock.cycles.filter (fun d => d.id ≠ id) ∧
         t.fget F.LOCK_LAST.OUTCOME = 3 ∧ t.fget F.LOCK_LAST.REASON = 0x22 ∧ t.steer = s.steer ∧ t.mem = s.mem ∧
         t.lock.paths = s.lock.paths)) ∧
  (∀ (s : State) (id : Nat) (c : Cycle), s.allWf = true → s.cycle id = some c → c.opened = none → s.active = true → s.running = none →
     (c.armed = true → s.firstTick c.tOpen = true → s.lock.closedNow = false → s.berthWaits c = false →
       ∃ t d, exec (.openTick id) s = .next t ∧ t.cycle id = some d ∧ d.opened = some (s.steer.tick, s.time.tb0.fine) ∧
         d.extended = c.extended ∧ d.pairs = c.pairs ∧ (∀ p ∈ d.paths, p.phase = .opening) ∧
         (∀ q ∈ t.lock.paths, q ∈ s.lock.paths ∧ touches c.mirrors (q.a, q.b) = false) ∧
         (∀ a ∈ c.axes, (t.axisNow a).src = 1 ∧ (t.axisNow a).st = 1 ∧ ((s.axisNow a).st ≠ 6 → (t.axisNow a).target = (s.axisNow a).target)) ∧
         t.mem = s.mem ∧ t.tows = s.tows ∧ t.steer.tick = s.steer.tick) ∧
     (s.lock.closedNow = true → exec (.openTick id) s = .next s) ∧
     (c.armed = true → timeReached s.time.tb0Tick c.tOpen = true → s.tickNs ≤ s.t3Of c + 1000000 →
       s.firstTick c.tOpen = false → c.joint = false → s.lock.closedNow = false → s.berthWaits c = false →
       ∃ t d, exec (.lateOpen id) s = .next t ∧ t.cycle id = some d ∧ d.opened = some (s.steer.tick, s.time.tb0.fine) ∧ d.extended = true ∧
         d.lateFrom = some s.tickNs ∧ t.mem = s.mem ∧ t.tows = s.tows) ∧
     (timeReached s.time.tb0Tick c.tOpen = true → s.firstTick c.tOpen = false ∨ s.lock.closedNow = true → c.berth = false →
       c.joint = true ∨ s.t3Of c + 1000000 < s.tickNs →
       ∃ t, exec (.lateOpen id) s = .next t ∧ t.lock.cycles = s.lock.cycles.filter (fun d => d.id ≠ id) ∧
         t.fget F.LOCK_LAST.OUTCOME = 3 ∧ t.fget F.LOCK_LAST.REASON = 0x20 ∧ t.steer = s.steer ∧ t.mem = s.mem ∧
         t.lock.paths = s.lock.paths))

/-- R65, R66, R69–R71, R78: SLEW starts; wave 2 starts at its tick; an axis at its final target moves its ff into the integrator and its
path captures when all four have; a released mirror parks; capture, its expiry and proof follow their counts. -/
def Obligations.CycleRun : Prop :=
  (∀ (s : State) (id : Nat) (c : Cycle), s.allWf = true → s.cycle id = some c →
    (c.opened ≠ none → c.slewTick = 0 →
      ∃ t d, exec (.slewStart id) s = .next t ∧ t.cycle id = some d ∧ d.slewTick = s.steer.tick + 1 ∧ d.pairs = c.pairs ∧
        (∀ p ∈ d.paths, p.phase = .slewing) ∧ reports { s with lock := { s.lock with cycles := t.lock.cycles } } t []) ∧
    (c.slewTick ≠ 0 → c.twoWaves = true → c.slewTick + c.wave2Tick ≤ s.steer.tick + 1 →
      ∃ t, exec (.wave2Start id) s = .next t ∧ t.cycle id = some { c with wave2 := true } ∧
        t = { s with lock := { s.lock with cycles := t.lock.cycles } })) ∧
  (∀ (s : State) (a : Nat) (c : Cycle) (p : CPath), s.allWf = true → a < 4640 → s.running = some c → s.inSlew a = true →
    (s.axisNow a).moveDone = true → c.slewTick ≠ 0 → c.aborting = false → c.pathOf a = some p →
    ∃ t d, exec (.slewEnd a) s = .next t ∧ (t.axisNow a).ff = 0 ∧ (t.axisNow a).target = (s.axisNow a).target ∧
      (t.axisNow a).i = BitVec.ofInt 40 (clampI (-((s.axisBank a (s.axisNow a)).ilim * 32768)) ((s.axisBank a (s.axisNow a)).ilim * 32768)
        ((s.axisNow a).i.toInt + sval (s.axisNow a).ff * 32768)) ∧
      (∀ b, b ≠ a → t.axisNow b = s.axisNow b) ∧ t.running = some d ∧
      ((∀ b ∈ pathAxes p.a p.b, b ≠ a → (s.axisNow b).moveDone = true ∧ (s.axisNow b).ff = 0) →
        ∀ r ∈ d.paths, r.a = p.a → r.phase = .capturing) ∧ t.mem = s.mem ∧ fieldsKept s t logFields) ∧
  (∀ (s : State) (a : Nat) (c : Cycle), s.allWf = true → a < 4640 → s.running = some c → s.inSlew a = true →
    (s.axisNow a).moveDone = true → c.slewTick ≠ 0 → c.pathOf a = none → mirrorOf a ∈ c.released →
    ∃ t, exec (.slewEnd a) s = .next t ∧ (t.axisNow a).st = 6 ∧ (t.axisNow a).u = s.park (axisSide a) ∧
      (t.axisNow a).target = s.park (axisSide a) ∧ (∀ b, b ≠ a → t.axisNow b = s.axisNow b) ∧ t.mem = s.mem) ∧
  (∀ (s : State) (a : Nat) (c : Cycle) (p : CPath), s.allWf = true → a < 1160 → s.runningPath a = some (c, p) →
    (p.phase = .capturing → s.captureRun ≤ (s.pathCount c p).run →
      ∃ t d, exec (.captured a) s = .next t ∧ t.running = some d ∧ (∀ r ∈ d.paths, r.a = a → r.phase = .proving ∧ r.run = 0) ∧
        d.pairs = c.pairs ∧ reports { s with lock := { s.lock with cycles := t.lock.cycles } } t []) ∧
    (p.phase = .capturing → (s.pathCount c p).run < s.captureRun → s.fget F.LOCK_CAPTURE.CAPTURE_MAX ≤ (s.pathCount c p).since →
      ∃ t d, exec (.captureMaxExpiry a) s = .next t ∧ t.running = some d ∧ (∀ r ∈ d.paths, r.a = a → r.phase = .failed) ∧
        (∀ x ∈ pathAxes p.a p.b, (t.axisNow x).st = 4 ∧ (t.axisNow x).offset = 0) ∧
        (∃ q ∈ t.lock.paths, q.a = p.a ∧ q.b = p.b ∧ q.state = 6) ∧ t.mem = s.mem ∧ t.tows = s.tows) ∧
    (p.phase = .proving → s.proveHold ≤ (s.pathCount c p).run →
      ∃ t d, exec (.proved a) s = .next t ∧ t.running = some d ∧ (∀ r ∈ d.paths, r.a = a → r.phase = .proved) ∧
        d.pairs = c.pairs ∧ reports { s with lock := { s.lock with cycles := t.lock.cycles }, map := { s.map with work := t.map.work } } t
          [F.MAP_STATUS.CHECK_ERR]))

/-- R65, R69, R71, R76, R99: CLOSE makes the proved paths standing and returns their axes to HOLD; the deadline fails what is not proved
and puts those axes in open loop; a released mirror at rest parks; late proofs end and release their service ports; the settle model's
version counts an update while LEARN is set. -/
def Obligations.CycleEnd : Prop :=
  (∀ (s : State) (id : Nat) (c : Cycle), s.allWf = true → s.cycle id = some c → c.opened ≠ none → c.aborting = false → c.berth = false →
    (c.slewTick ≠ 0 → (∀ p ∈ c.paths, p.phase = .proved) →
      ∃ t, exec (.closeTick id) s = .next t ∧ (∀ d ∈ t.lock.cycles, d.id ≠ id) ∧
        (∀ p ∈ c.paths, (∃ q ∈ t.lock.paths, q.a = p.a ∧ q.b = p.b) ∧
          ∀ a ∈ pathAxes p.a p.b, (t.axisNow a).src = 0 ∧ (t.axisNow a).st ≠ 1) ∧
        t.fget F.LOCK_LAST.OUTCOME = c.outcome false ∧ t.fget F.LOCK_LAST.REASON = 0 ∧
        t.fget F.LOCK_LAST.FAILED = c.lost.length % 2 ^ F.LOCK_LAST.FAILED.width ∧ t.mem = s.mem) ∧
    (c.deadlineBase + s.deadlineOf c < s.tickNs + s.periodNs → (c.paths.map (fun p => p.a)).Nodup →
      ∃ t, exec (.cycleDeadline id) s = .next t ∧ (∀ d ∈ t.lock.cycles, d.id ≠ id) ∧
        (∀ p ∈ c.paths, p.phase ≠ .proved → p.phase ≠ .failed → (∃ q ∈ t.lock.paths, q.a = p.a ∧ q.b = p.b) ∧
          ∀ a ∈ pathAxes p.a p.b, (t.axisNow a).src = 0 ∧ (t.axisNow a).st = 4) ∧
        t.fget F.LOCK_LAST.OUTCOME = c.outcome false ∧
        t.fget F.LOCK_LAST.FAILED = ((c.paths.filter (fun p => p.phase ≠ .proved)).length + c.lost.length) % 2 ^ F.LOCK_LAST.FAILED.width ∧
        t.mem = s.mem)) ∧
  (∀ (s : State) (m : Nat), s.allWf = true → m < 2320 → m ∈ s.lock.parking →
    (∀ a ∈ mirrorAxes m, (s.axisNow a).moveDone = true ∨ (s.axisNow a).st = 6) →
    ∃ t, exec (.parkReached m) s = .next t ∧
      (∀ a ∈ mirrorAxes m, (t.axisNow a).st = 6 ∧ (t.axisNow a).src = 0 ∧ (t.axisNow a).u = s.park (axisSide a)) ∧
      (∀ b, b ∉ mirrorAxes m → t.axisNow b = s.axisNow b) ∧ t.lock = { s.lock with parking := s.lock.parking.erase m } ∧
      t = { s with lock := t.lock, steer := { s.steer with axes := t.steer.axes, held := t.steer.held } }) ∧
  (∀ (s : State) (id : Nat) (errs : List (Nat × Nat)), s.allWf = true →
    ∃ t, exec (.lateProof id errs) s = .next t ∧
      t.lock = { s.lock with proofs := s.lock.proofs.filter (fun q => !(decide (q.cycle = id) && decide (q.since + 5000000 ≤ s.time.tb3))) } ∧
      (∀ q ∈ s.lock.proofs, q.cycle = id → q.since + 5000000 ≤ s.time.tb3 →
        ∀ n ∈ servicePorts q.a (peerOf s.standing q.a), t.fget (F.SVC_PORT_CTRL.BUSY n) = 0) ∧
      t.steer = s.steer ∧ t.mem = s.mem ∧ t.tows = s.tows ∧ t.fabric = s.fabric) ∧
  (∀ (s : State) (w : Tow), s.allWf = true → s.learnTow = some w →
    ∃ t, exec .settleModelUpdate s = .next t ∧
      t.map = { s.map with learnQueue := s.map.learnQueue.drop 1, settle := t.map.settle } ∧
      t.map.settle = (if s.fget F.LOCK_LIMITS.LEARN = 0 then s.map.settle else (s.map.settle + 1) % 65536) ∧
      t.tows.tows = s.tows.tows.erase w ∧ t.steer = s.steer ∧ t.mem = s.mem ∧ t.lock = s.lock) ∧
  (∀ (s : State), s.learnTow = none → exec .settleModelUpdate s = .next s)

/-! ## Customer ports (R241–R254, R289) -/

/-- R204, R244–R246, R252–R254, R289: Light gained and lost, the second without light, mirror faults and their end, and PORT_STATE_GET,
PORT_QUARANTINE, PORT_ACCEPT_AS_FOUND and BERTH_CHECK, each with the port state and reason it leaves and no other port touched but by an
accepted plan change. -/
def Obligations.PortStates : Prop :=
  (∀ (s : State) (p : Nat), s.allWf = true → p < 2304 →
    ((s.port p).light = false → s.active = false ∨ s.circuit p = false ∨ (s.port p).fixed = true →
      ∃ t, exec (.lightGained p) s = .next t ∧ t = s.modPort p (fun x => { x with light := true, known := false, queued := true })) ∧
    ((s.port p).light = false → s.active = true → s.circuit p = true → (s.port p).fixed = false →
      ∃ t, exec (.lightGained p) s = .next t ∧
        t.port p = { s.port p with light := true, known := false, queued := true, unverified := s.planned p, state := 2, reason := 0 } ∧
        (∀ q, q ≠ p → t.port q = s.port q) ∧
        reports { s with fabric := { s.fabric with ports := t.fabric.ports } } t [F.PORT_GEN.GEN]) ∧
    ((s.port p).light = true → s.active = true → (s.port p).fixed = false →
      ∃ t, exec (.lightLost p) s = .next t ∧ (t.port p).light = false ∧ (t.port p).checking = false ∧ (t.port p).queued = false ∧
        (t.port p).state = (if s.planned p then 0 else 1) ∧ (t.port p).reason = 0 ∧ (∀ q, q ≠ p → t.port q = s.port q) ∧
        reports { s with fabric := { s.fabric with ports := t.fabric.ports } } t [F.PORT_GEN.GEN]) ∧
    (s.active = true → s.planned p = true → (s.port p).state = 1 → (s.port p).light = false →
      ∃ t, exec (.absentTimeout p) s = .next t ∧ t.port p = { s.port p with state := 0, reason := 0 } ∧
        t.fget F.PORT_GEN.GEN = (s.fget F.PORT_GEN.GEN + 1) % 2 ^ 32 ∧ (∀ q, q ≠ p → t.port q = s.port q) ∧
        reports { s with fabric := { s.fabric with ports := t.fabric.ports } } t [F.PORT_GEN.GEN]) ∧
    (s.active = true →
      ∃ t, exec (.mirrorFault p true) s = .next t ∧ (t.port p).state = 5 ∧ (t.port p).reason = 6 ∧ (t.port p).mirrorFault = true ∧
        (t.port p).waiting = [] ∧ (∀ q, q ≠ p → t.port q = s.port q) ∧
        reports { s with fabric := { s.fabric with ports := t.fabric.ports } } t [F.PORT_GEN.GEN] ∧
        (∀ src, (s.port p).waiting = [src] → (s.queue (s.cqOf src)).en = true → (s.queue (s.cqOf src)).dir = true →
          (s.queue (s.cqOf src)).broken = false → s.link.flrDiscard.contains src = false →
          answered s t 0x33 src .done 0 0 (le 1 5 ++ le 1 6) [])) ∧
    (∃ t, exec (.mirrorFault p false) s = .next t ∧ t = s.modPort p (fun x => { x with mirrorFault := false }))) ∧
  (∀ (s : State) (src : Src) (first count : Nat), s.allWf = true → s.accepts 0x30 src →
    (1 ≤ count → count ≤ 512 → first + count ≤ 2304 →
      ∃ t, exec (.portStateGet src first count) s = .next t ∧ reports (s.without src) t [] ∧
        answered s t 0x30 src .done 0 0 [] ((List.range count).flatMap (fun k => s.portRecord (first + k)))) ∧
    (count = 0 ∨ 512 < count ∨ 2304 < first + count →
      ∃ t, exec (.portStateGet src first count) s = .next t ∧ reports (s.without src) t [] ∧
        answered s t 0x30 src .refused Reason.range.code 0 [] [])) ∧
  (∀ (s : State) (src : Src) (p : Nat), s.allWf = true → s.accepts 0x31 src → p < 2304 →
    (s.attached = false → ∃ t, exec (.portQuarantine src p false) s = .next t ∧ (t.port p).state = 4 ∧ (t.port p).reason = 4 ∧
      (t.port p).checking = false ∧ (∀ q, q ≠ p → t.port q = s.port q) ∧ answered s t 0x31 src .done 0 0 [] [] ∧
      t.steer = s.steer ∧ t.mem = s.mem ∧ t.lock = s.lock) ∧
    (s.attached = true → s.fget F.PAIR_STATUS.PARTNER = 2 → (s.port p).state ≠ 4 →
      ∃ t w, exec (.portQuarantine src p false) s = .next t ∧ (t.port p).state = 4 ∧ (t.port p).reason = 4 ∧
        t.pair.waits = s.pair.waits ++ [w] ∧ w.src = src ∧ w.op = 0x31 ∧ w.seq = t.pair.journalSeq) ∧
    (s.attached = false → (s.port p).state = 4 → (s.port p).reason = 4 →
      ∃ t, exec (.portQuarantine src p true) s = .next t ∧ t.port p = { s.port p with state := 1, reason := 0, queued := true } ∧
        (∀ q, q ≠ p → t.port q = s.port q) ∧ answered s t 0x31 src .done 0 0 [] []) ∧
    ((s.port p).state ≠ 4 ∨ (s.port p).reason ≠ 4 →
      ∃ t, exec (.portQuarantine src p true) s = .next t ∧ answered s t 0x31 src .refused Reason.state.code 0 [] [] ∧
        reports (s.without src) t [])) ∧
  (∀ (s : State) (src : Src) (p : Nat), s.allWf = true → s.accepts 0x32 src → p < 2304 →
    (∀ f, (s.port p).found = some f → (s.port p).state = 4 → (s.port p).reason = 1 ∨ (s.port p).reason = 2 →
      ∃ t, exec (.portAcceptAsFound src p) s = .next t ∧ t.planOf p = f + 2 ^ 24 ∧
        (∀ q, q ≠ p → t.planOf q = if s.plans q f then 0 else s.planOf q) ∧
        ((∀ q, q ≠ p → s.plans q f = false) → s.attached = false →
          (t.port p).state = (if (s.port p).farVer / 16 ≠ 1 then 3 else 2) ∧ (t.port p).reason = 0 ∧
          (∀ q, q ≠ p → t.port q = s.port q) ∧ answered s t 0x32 src .done 0 0 (le 1 (t.port p).state) []) ∧
        t.steer = s.steer ∧ t.mem = s.mem ∧ t.lock = s.lock) ∧
    ((s.port p).found = none → ∃ t, exec (.portAcceptAsFound src p) s = .next t ∧
      answered s t 0x32 src .refused Reason.state.code 0 [] [] ∧ reports (s.without src) t [])) ∧
  (∀ (s : State) (src : Src) (p : Nat), s.allWf = true → s.accepts 0x33 src → p < 2304 →
    ((s.port p).state ≠ 6 → (s.port p).mirrorFault = false →
      ∃ t, exec (.berthCheck src p) s = .next t ∧
        t.port p = { s.port p with queued := true, waiting := (s.port p).waiting ++ [src] } ∧ (∀ q, q ≠ p → t.port q = s.port q) ∧
        t = { s.without src with counters := t.counters, fabric := { s.fabric with ports := t.fabric.ports } }) ∧
    ((s.port p).state ≠ 6 → (s.port p).mirrorFault = true →
      ∃ t, exec (.berthCheck src p) s = .next t ∧
        answered s t 0x33 src .done 0 0 (le 1 (s.port p).state ++ le 1 (s.port p).reason) [] ∧ reports (s.without src) t []) ∧
    ((s.port p).state = 6 → ∃ t, exec (.berthCheck src p) s = .next t ∧
      answered s t 0x33 src .refused Reason.state.code 0 [] [] ∧ reports (s.without src) t []))

/-- R246–R252: A pass starts over the ports due; each round's berth cycle takes its due ports; a pass ends after a round that only
releases mirrors, which is the model's form (log 52); identities refresh; HELLO is sent with a free nonce (log 3) and repeated twice; a
matching IDENT or none at all sets the port's verdict. -/
def Obligations.BerthChecks : Prop :=
  (∀ (s : State), s.allWf = true → s.passAllowed = true → s.fabric.pass = none →
    ∃ t, exec .berthPassStart s = .next t ∧ t.fabric.pass = some 0 ∧
      (∀ p, (t.port p).queued = ((s.port p).queued || (decide ((s.port p).state = 2) && (s.port p).unverified && (s.port p).light))) ∧
      t = { s with fabric := { s.fabric with ports := t.fabric.ports, pass := some 0 } }) ∧
  (∀ (s : State) (r : Nat), s.allWf = true → s.fabric.pass = some r → s.passAllowed = true → s.berthBusy = false →
    (∀ q, ((List.range 144).drop r).find? (fun q => decide (s.roundDue q ≠ [])) = some q →
      (∀ p ∈ s.roundDue q, s.svcHeld (checkPort p) = false ∧ 0 < s.fget (F.SVC_PORT_CTRL.LANES (checkPort p))) →
      ∃ t c, exec .berthCycle s = .next t ∧ t.lock.cycles = s.lock.cycles ++ [c] ∧ c.berth = true ∧
        c.paths.map (fun x => (x.a, x.b)) = (s.roundDue q).map berthPath ∧ t.fabric.pass = some (q + 1) ∧
        t = { s with fabric := { s.fabric with pass := some (q + 1) }, lock := { s.lock with cycles := t.lock.cycles }
                     tows := t.tows }) ∧
    (((List.range 144).drop r).find? (fun q => decide (s.roundDue q ≠ [])) = none → s.fabric.berths ≠ [] →
      ∃ t c, exec .berthCycle s = .next t ∧ t.lock.cycles = s.lock.cycles ++ [c] ∧ c.berth = true ∧ c.paths = [] ∧
        t.fabric.pass = some 144) ∧
    (((List.range 144).drop r).find? (fun q => decide (s.roundDue q ≠ [])) = none → s.fabric.berths = [] →
      ∃ t, exec .berthCycle s = .next t ∧ t.fabric.pass = none ∧ t.lock = s.lock ∧ t.steer = s.steer ∧ t.mem = s.mem)) ∧
  (∀ (s : State) (p : Nat), s.allWf = true → p < 2304 → s.active = true →
    ((s.port p).state = 2 → (s.port p).light = true → s.circuit p = false → s.fabric.pass = none → s.fabric.refresh ≠ 0 →
      (s.port p).checkedAt + s.fabric.refresh * 500000000 ≤ s.time.tb3 →
      ∃ t, exec (.identityRefresh p) s = .next t ∧ t = s.modPort p (fun x => { x with queued := true, checkedAt := s.time.tb3 })) ∧
    (s.lightHeld = true → ∀ fr, exec (.hello p) s = .next s ∧ exec (.identTimeout p) s = .next s ∧ exec (.ident p fr) s = .next s) ∧
    ((s.port p).checking = true → (s.port p).hellos = 0 → s.lightHeld = false →
      ∃ t n, exec (.hello p) s = .next t ∧ t.port p = { s.port p with hellos := 1, nonce := n } ∧ n < 65536 ∧
        t.out = s.out ++ [.identFrame p (s.identBytes 1 n p)] ∧ (∀ q, q ≠ p → t.port q = s.port q) ∧
        t = { s with counters := t.counters, out := t.out, free := s.free + 1
                     fabric := { s.fabric with ports := t.fabric.ports, nonce := n } }) ∧
    ((s.port p).checking = true → 1 ≤ (s.port p).hellos → (s.port p).hellos < 3 → s.lightHeld = false →
      ∃ t n, exec (.identTimeout p) s = .next t ∧ t.port p = { s.port p with hellos := (s.port p).hellos + 1, nonce := n } ∧
        t.out = s.out ++ [.identFrame p (s.identBytes 1 n p)] ∧ (∀ q, q ≠ p → t.port q = s.port q)) ∧
    ((s.port p).checking = true → 3 ≤ (s.port p).hellos → s.lightHeld = false →
      ∃ t, exec (.identTimeout p) s = .next t ∧ (t.port p).checking = false ∧ (t.port p).waiting = [] ∧
        (s.planned p = true → (t.port p).state = 2 ∧ (t.port p).reason = 0 ∧ (t.port p).unverified = true) ∧
        (s.planned p = false → (t.port p).state = 4 ∧ (t.port p).reason = 1) ∧ (∀ q, q ≠ p → t.port q = s.port q) ∧
        reports { s with fabric := { s.fabric with ports := t.fabric.ports } } t [F.PORT_GEN.GEN]) ∧
    (∀ fr, s.identOk p fr = true → (s.port p).light = true → s.lightHeld = false →
      let f := fr.pod % 65536 + 2 ^ 16 * (fr.uplink % 256)
      ∃ t, exec (.ident p fr) s = .next t ∧ (t.port p).checking = false ∧ (t.port p).waiting = [] ∧
        (t.port p).foundPod = fr.pod % 65536 ∧ (t.port p).foundUplink = fr.uplink % 256 ∧
        ((∀ q, q ≠ p → (s.port q).found ≠ some f) →
          (s.plans p f = true → (t.port p).state = (if fr.verMajor % 16 = 1 then 2 else 3) ∧ (t.port p).reason = 0) ∧
          (s.plans p f = false → (∀ q, q ≠ p → s.plans q f = false) → (t.port p).state = 4 ∧ (t.port p).reason = 1) ∧
          (∀ q, s.plans p f = false → q ≠ p → s.plans q f = true → (t.port p).state = 4 ∧ (t.port p).reason = 2)) ∧
        (∀ q, q ≠ p → (s.port q).found = some f → (t.port p).state = 4 ∧ (t.port p).reason = 3) ∧
        reports { s with fabric := { s.fabric with ports := t.fabric.ports } } t [F.PORT_GEN.GEN]))

/-! ## Tow spaces, tows and barges (R101–R129, R262–R272) -/

/-- R120, R121: SPACE_CREATE makes a space with its allocations; SPACE_DESTROY ends its tows and takes it away. -/
def Obligations.TowSpaces : Prop :=
  (∀ (s : State) (src : Src) (p mc : Nat) (he : Bool) (slots ahead cq fq tmo root seed bb bs sb ss : Nat), s.allWf = true →
    s.accepts 0x40 src →
    let sp : Space := { maxClass := mc, hostEn := he, saveSlots := slots, runAhead := ahead, syncTimeout := tmo, basinBase := bb,
                        basinSize := bs, stackBase := sb, stackSize := ss, ptRoot := root, seed := seed, cq := cq, fq := fq }
    sp.rangeOk p = true →
    (s.space p = none → s.allocOk sp = true →
      ∃ t, exec (.spaceCreate src p mc he slots ahead cq fq tmo root seed bb bs sb ss) s = .next t ∧ t.space p = some sp ∧
        (∀ q, q ≠ p → t.space q = s.space q) ∧ answered s t 0x40 src .done 0 0 [] [] ∧
        reports { s.without src with tows := { s.tows with spaces := t.tows.spaces } } t []) ∧
    (s.space p ≠ none →
      ∃ t, exec (.spaceCreate src p mc he slots ahead cq fq tmo root seed bb bs sb ss) s = .next t ∧
        answered s t 0x40 src .refused Reason.state.code 0 [] [] ∧ reports (s.without src) t [])) ∧
  (∀ (s : State) (src : Src) (p : Nat) (sp : Space), s.allWf = true → s.accepts 0x41 src → 1 ≤ p → p ≤ 63 → s.space p = some sp →
    sp.destroying = none →
    ((∀ w ∈ s.tows.tows, w.space ≠ p) →
      ∃ t, exec (.spaceDestroy src p) s = .next t ∧ t.space p = none ∧ (∀ q, q ≠ p → t.space q = s.space q) ∧
        (∀ c ∈ t.link.cache, c.ctx ≠ p) ∧ t.tows.tows = s.tows.tows ∧ answered s t 0x41 src .done 0 0 [] [] ∧ t.mem = s.mem ∧
        t.steer = s.steer) ∧
    ((∃ w ∈ s.tows.tows, w.space = p) →
      ∃ t, exec (.spaceDestroy src p) s = .next t ∧ t.space p = some { sp with destroying := some src } ∧
        (∀ x ∈ t.tows.tows, x.space = p → x.cancelled = true ∨ x.phase.isEnded = true) ∧ t.mem = s.mem ∧ t.steer = s.steer))

/-- R106, R114, R122, R127, R128, R287: TOW_SUBMIT, TOW_CANCEL and the end of a tow with its completion, and a WAIT that is met or times
out. -/
def Obligations.TowLife : Prop :=
  (∀ (s : State) (src : Src) (p cls count tag addr : Nat), s.allWf = true → s.accepts 0x42 src →
    (s.submitRefusal p cls count tag = none →
      ∃ t w, exec (.towSubmit src p cls count tag addr) s = .next t ∧ t.tows.tows = s.tows.tows ++ [w] ∧ w.space = p ∧ w.tag = tag ∧
        w.cls = cls ∧ w.addr = addr ∧ w.count = count ∧ w.phase = .ready ∧ w.order = s.tows.submitted ∧ w.next = 0 ∧
        t.tows.submitted = s.tows.submitted + 1 ∧ answered s t 0x42 src .done 0 0 [] [] ∧
        reports { s.without src with tows := t.tows } t []) ∧
    (∀ r, s.submitRefusal p cls count tag = some r →
      ∃ t, exec (.towSubmit src p cls count tag addr) s = .next t ∧ answered s t 0x42 src .refused r.code 0 [] [] ∧
        reports (s.without src) t [])) ∧
  (∀ (s : State) (src : Src) (p tag : Nat) (w : Tow), s.allWf = true → s.accepts 0x43 src → s.space p ≠ none → s.tow p tag = some w →
    (w.phase.isEnded = false → w.phase.isRunning = false ∨ w.inBarge = false →
      ∃ t x, exec (.towCancel src p tag) s = .next t ∧ t.tow p tag = some x ∧ x.phase = .ended 1 ∧ x.cancel = w.cancel ++ [src] ∧
        t.mem = s.mem ∧ t.steer = s.steer ∧ t.lock = s.lock) ∧
    (w.phase.isEnded = false → w.phase.isRunning = true → w.inBarge = true →
      ∃ t x, exec (.towCancel src p tag) s = .next t ∧ t.tow p tag = some x ∧ x.phase = w.phase ∧ x.cancelled = true ∧
        x.cancel = w.cancel ++ [src] ∧ t.mem = s.mem ∧ t.steer = s.steer ∧ t.lock = s.lock) ∧
    (w.phase.isEnded = true →
      ∃ t, exec (.towCancel src p tag) s = .next t ∧ answered s t 0x43 src .already 0 0 [] [] ∧ reports (s.without src) t [])) ∧
  (∀ (s : State) (p tag r : Nat) (w : Tow), s.allWf = true → p < 64 → s.tow p tag = some w → w.phase = .ended r →
    (∀ sp, s.space p = some sp → sp.destroying = none) →
    ∃ t, exec (.towEnd p tag) s = .next t ∧ t.tow p tag = none ∧ (p, tag) ∈ t.tows.past ∧
      (w.cancel = [] → (s.queue w.endQueue).en = true → (s.queue w.endQueue).dir = true → (s.queue w.endQueue).broken = false →
        ∃ q, (t.queue w.endQueue).items.getLast? = some { s.eventItem 0x20 3 4 (w.endPayload r) with seq := q }) ∧
      t.mem = s.mem ∧ t.steer = s.steer ∧ t.lock = s.lock) ∧
  (∀ (s : State) (p tag c v since : Nat) (w : Tow), s.allWf = true → p < 64 → s.tow p tag = some w → w.phase = .waiting c v since →
    (v ≤ s.sync p c →
      ∃ t x, exec (.waitMet p tag) s = .next t ∧ t.tow p tag = some x ∧ x.next = w.next + 1 ∧ x.barges = w.barges + 1 ∧
        x.resumed = true ∧ x.phase = (if w.next + 1 = w.count ∧ w.drains = false then .ended 0 else .ready) ∧
        t = { s with tows := { s.tows with tows := t.tows.tows }, counters := t.counters }) ∧
    (∀ sp, s.space p = some sp → 0 < sp.syncTimeout → sp.syncTimeout * 1000000 ≤ s.t3ns - since → s.sync p c < v →
      ∃ t x, exec (.syncTimeout p tag) s = .next t ∧ t.tow p tag = some x ∧ x.phase = .ended 6 ∧
        t = { s with tows := { s.tows with tows := t.tows.tows }, counters := t.counters }))

/-- R122, R123, R125, R126, R129: The first ready tow takes the lowest free unit, or a less urgent tow gives way to it. -/
def Obligations.TowPlacement : Prop :=
  (∀ (s : State) (w : Tow), s.allWf = true → (∀ c, s.classHeld c = false) → s.nextTow = some w →
    (∀ u rest, s.freeUnitList = u :: rest → (if w.cls = 0 then 0 else s.reservedUnits) < rest.length + 1 →
      ∃ t x, exec .towPlacement s = .next t ∧ x ∈ t.tows.tows ∧ x.space = w.space ∧ x.tag = w.tag ∧ x.phase = .running u ∧
        x.started = true ∧ (∀ n ∈ s.unitArrays u, t.arrayState n = 2) ∧ t.tows.starts = s.tows.starts + 1 ∧
        t = { s with regs := t.regs, counters := t.counters, tows := { s.tows with tows := t.tows.tows, starts := t.tows.starts } }) ∧
    (∀ u, s.freeUnitList = [] → s.savingUnits = [] → s.victimFor w.cls = some u →
      ∃ t, exec .towPlacement s = .next t ∧ (∀ n ∈ s.unitArrays u, t.arrayState n = 3) ∧ t = { s with regs := t.regs } ∧
        fieldsKept s t ((s.unitArrays u).map F.ARRAY_STATUS.STATE))) ∧
  (∀ (s : State) (u : Nat) (w : Tow), s.allWf = true → u < 4 → s.runner u = some w → s.saving u = true → w.inBarge = false →
    w.held = false →
    ∃ t x, exec (.preemption u) s = .next t ∧ x ∈ t.tows.tows ∧ x.space = w.space ∧ x.tag = w.tag ∧ x.phase = .ready ∧ x.resumed = true ∧
      x.next = w.next ∧ x.preempted = w.preempted + 1 ∧ t.arrayState u = 1 ∧
      (∀ r ∈ t.tows.reqs, r.unit ≠ u) ∧
      t = { s with regs := t.regs, counters := t.counters
                   tows := { s.tows with tows := t.tows.tows, reqs := t.tows.reqs, waits := t.tows.waits } })

/-- R107, R108, R113–R115, R128, R269: Fetching and starting a barge, one that is bad, WAIT and FENCE. -/
def Obligations.BargeSteps : Prop :=
  ∀ (s : State) (u : Nat) (w : Tow) (sp : Space), s.allWf = true → u < 4 → s.runner u = some w → s.spaceOf w.space = some sp →
    (let idx := w.next + w.fetched.length
     let a := w.addr + 64 * idx
     let bytes := (List.range 64).map (fun k => s.towByte w sp (a + k))
     idx < w.count → w.fetched.length ≤ sp.ahead → w.heldWrites = [] → w.ending = none →
     w.fetched.any (fun f => s.unmetWait w f) = false →
     (spaceRegion a = 1 ∨ sp.inBounds (a, 64) = false →
       ∃ t x, exec (.bargeFetch u) s = .next t ∧ x ∈ t.tows.tows ∧ x.space = w.space ∧ x.tag = w.tag ∧
         x.fetched = w.fetched ++ [⟨idx, [], 3⟩] ∧ t = { s with tows := { s.tows with tows := t.tows.tows } }) ∧
     (spaceRegion a ≠ 1 → sp.inBounds (a, 64) = true → spaceRegion a = 2 → w.isStaged (a, 64) = false →
       exec (.bargeFetch u) s = .next s) ∧
     (spaceRegion a ≠ 1 → sp.inBounds (a, 64) = true → spaceRegion a ≠ 2 ∨ w.isStaged (a, 64) = true →
       ∃ t x, exec (.bargeFetch u) s = .next t ∧ x ∈ t.tows.tows ∧ x.space = w.space ∧ x.tag = w.tag ∧
         x.fetched = w.fetched ++
           [⟨idx, bytes, if s.rangePoisoned w sp (a, 64) then 4 else if bargeOk bytes (s.unitWidth u) then 0 else 2⟩] ∧
         t = { s with tows := { s.tows with tows := t.tows.tows } })) ∧
    (∀ f, w.head = some f → w.inBarge = false →
      (s.boundaryHeld u w = false → f.bad = 0 →
        ((bargeOf f.bytes).readsFixed ++ (if (bargeOf f.bytes).op = 9 then [] else (bargeOf f.bytes).writes)).all
          (fun r => sp.inBounds r) = true →
        (bargeOf f.bytes).badIndex (s.towByte w sp) = false →
        (hostRanges ((bargeOf f.bytes).reads (s.towByte w sp))).all (fun r => w.isStaged r) = true →
        hostRanges (bargeOf f.bytes).writes = [] ∨ w.drain = [] →
        ∃ t x, exec (.bargeStart u) s = .next t ∧ x ∈ t.tows.tows ∧ x.space = w.space ∧ x.tag = w.tag ∧ x.inBarge = true ∧
          x.next = w.next ∧ x.escEn = decide (s.fget F.ESCALATE_CTRL.EN ≠ 0) ∧ x.escBudget = min 8 (s.fget F.ESCALATE_CTRL.BUDGET) ∧
          t = { s with regs := t.regs, tows := { s.tows with tows := t.tows.tows } }) ∧
      (s.boundaryHeld u w = false → f.bad = 3 ∨ f.bad = 4 →
        ∃ t x, exec (.bargeStart u) s = .next t ∧ x ∈ t.tows.tows ∧ x.space = w.space ∧ x.tag = w.tag ∧
          (w.drains = false → x.phase = .ended f.bad) ∧
          (w.drains = true → x.ending = some f.bad ∧ x.phase = w.phase ∧ x.drain = w.drain ∧ x.heldWrites = w.heldWrites) ∧
          t.mem = s.mem) ∧
      (f.bad = 2 → w.ending = none →
        ∃ t x, exec (.badBarge u) s = .next t ∧ x ∈ t.tows.tows ∧ x.space = w.space ∧ x.tag = w.tag ∧
          (w.drains = false → x.phase = .ended 2) ∧
          (w.drains = true → x.ending = some 2 ∧ x.phase = w.phase ∧ x.drain = w.drain ∧ x.heldWrites = w.heldWrites) ∧
          t.mem = s.mem ∧ t.steer = s.steer)) ∧
    (∀ f, w.head = some f → w.inBarge = true → f.bad = 0 → (bargeOf f.bytes).isWait = true →
      ((bargeOf f.bytes).n ≤ s.sync w.space ((bargeOf f.bytes).aux % 64) →
        ∃ t x, exec (.wait u) s = .next t ∧ x ∈ t.tows.tows ∧ x.space = w.space ∧ x.tag = w.tag ∧ x.next = w.next + 1 ∧
          x.barges = w.barges + 1 ∧ t.mem = s.mem ∧ t.steer = s.steer) ∧
      (s.sync w.space ((bargeOf f.bytes).aux % 64) < (bargeOf f.bytes).n → w.held = false →
        ∃ t x, exec (.wait u) s = .next t ∧ x ∈ t.tows.tows ∧ x.space = w.space ∧ x.tag = w.tag ∧
          x.phase = .waiting ((bargeOf f.bytes).aux % 64) (bargeOf f.bytes).n s.t3ns ∧ x.next = w.next ∧ t.mem = s.mem ∧
          t.steer = s.steer)) ∧
    (∀ f, w.head = some f → w.inBarge = true → f.bad = 0 → (bargeOf f.bytes).op = 0x0B → w.drain = [] → w.heldWrites = [] →
      ∃ t x, exec (.fence u) s = .next t ∧ x ∈ t.tows.tows ∧ x.space = w.space ∧ x.tag = w.tag ∧ x.next = w.next + 1 ∧ x.fetched = [] ∧
        x.staged = [] ∧ x.ranges = [] ∧ (∀ r ∈ t.tows.reqs, r.unit ≠ u) ∧ t.mem = s.mem ∧ t.steer = s.steer)

/-- R102, R112, R114, R117, R119: An array barge writes its outputs and no other byte, one on poisoned data ends its tow with MEMORY,
and a SYNC SIGNAL counts. -/
def Obligations.BargeCompletion : Prop :=
  ∀ (s : State) (u : Nat) (w : Tow) (sp : Space) (f : Fetched), s.allWf = true → u < 4 → s.runner u = some w → s.spaceOf w.space = some sp →
    w.head = some f → w.inBarge = true → f.bad = 0 → s.ras.inject = none →
    let b := bargeOf f.bytes
    let rd := s.towByte w sp
    (b.op ≤ 9 → b.badIndex rd = false → (b.reads rd ++ b.stores rd).all (fun r => sp.inBounds r) = true →
      ((b.reads rd).any (fun r => s.rangePoisoned w sp r) = false → b.badCarry rd = false →
        let ws := ((b.compute rd ⟨b.sr, sp.seed, w.tag % 65536, w.next⟩ { en := w.escEn, budget := 256 * w.escBudget, opened := true }).run {}).1.1
        ∃ t x, exec (.bargeComplete u []) s = .next t ∧ x ∈ t.tows.tows ∧ x.space = w.space ∧ x.tag = w.tag ∧ x.next = w.next + 1 ∧
          t.mem.basin = putBytes s.mem.basin ((ws.filter (fun y => decide (spaceRegion y.1 = 0))).map (fun y => (sp.basinBase + offsetOf y.1, y.2))) ∧
          t.mem.stack = putBytes s.mem.stack ((ws.filter (fun y => decide (spaceRegion y.1 = 1))).map (fun y => (sp.stackBase + offsetOf y.1, y.2))) ∧
          (∀ a, (∀ y ∈ ws, spaceRegion y.1 = 0 → sp.basinBase + offsetOf y.1 ≠ a) → spGet 0 t.mem.basin a = spGet 0 s.mem.basin a) ∧
          (∀ a, (∀ y ∈ ws, spaceRegion y.1 = 1 → sp.stackBase + offsetOf y.1 ≠ a) → spGet 0 t.mem.stack a = spGet 0 s.mem.stack a) ∧
          t.steer = s.steer ∧ t.lock = s.lock) ∧
      ((b.reads rd).any (fun r => s.rangePoisoned w sp r) = true →
        ∃ t x, exec (.bargeComplete u []) s = .next t ∧ x ∈ t.tows.tows ∧ x.space = w.space ∧ x.tag = w.tag ∧
          (w.drains = false → x.phase = .ended 4) ∧ (w.drains = true → x.ending = some 4 ∧ x.drain = w.drain) ∧ t.mem = s.mem)) ∧
    (b.op = 0x0A → b.subop = 0 → w.drain = [] → w.heldWrites = [] → w.space ≠ 0 →
      ∃ t x, exec (.bargeComplete u []) s = .next t ∧ x ∈ t.tows.tows ∧ x.space = w.space ∧ x.tag = w.tag ∧ x.next = w.next + 1 ∧
        t.sync w.space (b.aux % 64) = (s.sync w.space (b.aux % 64) + 1) % 2 ^ 32 ∧
        (∀ c, c ≠ b.aux % 64 → t.sync w.space c = s.sync w.space c) ∧ t.mem = s.mem)

/-- R117–R119, R269: A memory request goes out, its data are staged, and host writes drain in order. -/
def Obligations.TowMemory : Prop :=
  (∀ (s : State) (u addr len : Nat) (walk : WalkReads) (w : Tow) (sp : Space), s.allWf = true → u < 4 → s.runner u = some w →
    s.spaceOf w.space = some sp → 0 < len → len ≤ 512 → w.heldWrites = [] → w.ending = none → sp.inBounds (addr, len) = true →
    s.requestRoom w u addr (decide (spaceRegion addr = 2)) len = true → s.readHeld w sp (addr, len) = false → s.ras.inject = none →
    let stackUp := s.fget F.KEEL_STATUS.STACK_READY = 1 ∧ s.power.stackHeld = false
    let starved := F.TUG_STATUS.STACK_WAIT :: (s.unitArrays u).map F.ARRAY_STATUS.STARVED
    (spaceRegion addr ≠ 2 → (spaceRegion addr = 1 → stackUp) → s.yieldsTo u (sp.target addr) = false →
      ∃ t, exec (.memoryRequest u addr len walk false) s = .next t ∧
        t.tows = { s.tows with
          reqs := s.tows.reqs ++ [{ unit := u, tug := s.tugOf u addr, addr := addr, len := len, host := false }]
          waits := s.tows.waits.filter (fun x => decide (x ≠ (u, sp.target addr))) } ∧
        t = { s with regs := t.regs, tows := t.tows, counters := t.counters } ∧ fieldsKept s t [F.TUG_STATUS.STACK_WAIT]) ∧
    (∀ busy : Bool, spaceRegion addr = 1 → ¬ stackUp →
      ∃ t, exec (.memoryRequest u addr len walk busy) s = .next t ∧ t.fget F.TUG_STATUS.STACK_WAIT = 1 ∧
        t = { s with regs := t.regs, counters := t.counters } ∧ fieldsKept s t starved) ∧
    ((spaceRegion addr = 1 → stackUp) →
      ∃ t, exec (.memoryRequest u addr len walk true) s = .next t ∧ (u, sp.target addr) ∈ t.tows.waits ∧ t.tows.reqs = s.tows.reqs ∧
        t = { s with regs := t.regs, tows := { s.tows with waits := t.tows.waits }, counters := t.counters } ∧ fieldsKept s t starved) ∧
    (∀ c, spaceRegion addr = 2 → s.mayRequest = true → s.translate w.space (offsetOf addr) false walk = .leaf c →
      ∃ t, exec (.memoryRequest u addr len walk false) s = .next t ∧ c ∈ t.link.cache ∧
        t.tows = { s.tows with
          reqs := s.tows.reqs ++ [{ unit := u, tug := s.tugOf u addr, addr := addr, len := len, host := true }]
          waits := s.tows.waits.filter (fun x => decide (x ≠ (u, sp.target addr))) } ∧
        t.out = s.out ++ [.hostRead w.space (offsetOf addr) len (s.bit F.XL_CTRL.RELAXED_EN) (s.bit F.XL_CTRL.NOSNOOP_EN && c.ns)] ∧
        t = { s with tows := t.tows, counters := t.counters, out := t.out
                     link := { s.link with cache := t.link.cache, tables := t.link.tables } })) ∧
  (∀ (s : State) (u addr : Nat) (data : List Byte) (w : Tow) (sp : Space) (r : Req), s.allWf = true → u < 4 → s.runner u = some w →
    s.spaceOf w.space = some sp → (Instr.memoryDataReturn u addr data false).wf = true →
    s.tows.reqs.find? (fun q => decide (q.unit = u ∧ q.addr = addr ∧ q.len = data.length)) = some r →
    let bytes := if r.host then data else (List.range data.length).map (fun k => s.memoryByte sp (addr + k))
    (∃ t x, exec (.memoryDataReturn u addr data false) s = .next t ∧ t.tows.reqs = s.tows.reqs.erase r ∧ x ∈ t.tows.tows ∧
      x.space = w.space ∧ x.tag = w.tag ∧ x.staged = memPut w.staged addr bytes ∧
      x.ranges = w.ranges ++ [(addr, data.length, !r.host && s.memoryPoisoned sp (addr, data.length))] ∧
      t = { s with regs := t.regs, tows := { s.tows with tows := t.tows.tows, reqs := t.tows.reqs }, counters := t.counters } ∧
      fieldsKept s t ((s.unitArrays u).map F.ARRAY_STATUS.STARVED)) ∧
    (∃ t x, exec (.memoryDataReturn u addr data true) s = .next t ∧ t.tows.reqs = s.tows.reqs.erase r ∧ x ∈ t.tows.tows ∧
      x.space = w.space ∧ x.tag = w.tag ∧ x.staged = memPut w.staged addr bytes ∧ x.ranges = w.ranges ++ [(addr, data.length, true)] ∧
      t.fget F.RAS_STATUS.UE = 1 ∧ t.mem = s.mem ∧ t.steer = s.steer)) ∧
  (∀ (s : State) (u : Nat) (w : Tow), s.allWf = true → u < 4 → s.runner u = some w → w.heldWrites ++ w.drain ≠ [] → w.held = false →
    s.mayRequest = true →
    ∃ t x, exec (.hostWriteDrain u) s = .next t ∧
      t.out = s.out ++ (w.heldWrites ++ w.drain).map (fun d => .hostWrite w.space d.1 d.2 (s.noSnoop w.space d.1)) ∧
      x ∈ t.tows.tows ∧ x.space = w.space ∧
      x.tag = w.tag ∧ x.heldWrites = [] ∧ x.drain = [] ∧ t.mem = s.mem ∧ t.steer = s.steer)

/-- R262–R272: Translation faults of a tow and of the queue engine, the stop of a faulted tow, resuming, and invalidation. -/
def Obligations.TranslationFaults : Prop :=
  (∀ (s : State) (p tag addr barge : Nat) (wr : Bool) (walk : WalkReads) (w : Tow) (sp : Space), s.allWf = true → p < 64 →
    s.tow p tag = some w → s.space p = some sp → w.phase.isEnded = false → sp.hostEn = true →
    (∀ kind level, s.translate p addr wr walk = .fault kind level → w.faults.any (fun f => decide (f.addr / 4096 = addr / 4096)) = false →
      ∃ t x f, exec (.translationFault p tag addr wr barge walk) s = .next t ∧ t.tow p tag = some x ∧ x.faults = w.faults ++ [f] ∧
        f.id = nextFaultId sp.lastFault ∧ f.kind = kind ∧ f.level = level ∧ f.write = wr ∧ f.addr = addr ∧ f.barge = barge ∧
        t.space p = some { sp with lastFault := f.id } ∧ (wr = true → x.drain = [] ∧ x.heldWrites = w.heldWrites ++ w.drain) ∧
        reports { s with tows := { s.tows with tows := t.tows.tows, spaces := t.tows.spaces } } t []) ∧
    (∀ c, s.translate p addr wr walk = .leaf c →
      ∃ t, exec (.translationFault p tag addr wr barge walk) s = .next t ∧ c ∈ t.link.cache ∧
        t = { s with link := { s.link with cache := t.link.cache, tables := t.link.tables } })) ∧
  (∀ (s : State) (p tag u : Nat) (w : Tow), s.allWf = true → p < 64 → s.tow p tag = some w → w.phase = .running u → w.inBarge = false →
    w.held = true ∨ w.faults.any (fun f => decide (f.barge = w.next)) = true →
    ∃ t x, exec (.towStop p tag) s = .next t ∧ t.tow p tag = some x ∧ x.phase = .stopped ∧ x.heldWrites = w.heldWrites ++ w.drain ∧
      x.next = w.next ∧ t = { s with regs := t.regs, tows := { s.tows with tows := t.tows.tows, reqs := t.tows.reqs,
                                                                           waits := t.tows.waits } }) ∧
  (∀ (s : State) (src : Src) (p : Nat), s.allWf = true → s.accepts 0x44 src → s.space p ≠ none →
    ∃ t, exec (.faultResume src p true 0) s = .next t ∧ (∀ x ∈ t.tows.tows, x.space = p → x.faults = []) ∧
      answered s t 0x44 src .done 0 ((s.tows.tows.filter (fun w => w.space = p)).flatMap (fun w => w.faults)).length [] [] ∧
      t.mem = s.mem ∧ t.steer = s.steer ∧ t.tows.spaces = s.tows.spaces) ∧
  (∀ (s : State) (q addr kind level : Nat) (wr : Bool) (walk : WalkReads), s.allWf = true → q < 4096 → (s.queue q).en = true →
    (s.queue q).stopped = false → s.mayRequest = true → s.translate queueCtx addr wr walk = .fault kind level →
    (s.fget F.XL_FAULT.QFAULT = 0 →
      ∃ t, exec (.queueFault q addr wr walk) s = .next t ∧ (t.queue q).stopped = true ∧ t.fget F.XL_FAULT.QFAULT = 1 ∧
        t.fget F.XL_FAULT.KIND = kind % 2 ^ F.XL_FAULT.KIND.width ∧ t.fget F.XL_FAULT.QUEUE = q ∧
        t.word 0xA00008 = BitVec.ofNat 32 addr ∧ (q, addr / 4096) ∈ t.link.faulted ∧ t.tows = s.tows ∧ t.mem = s.mem ∧
        (∀ j, j ≠ q → t.queue j = s.queue j)) ∧
    (s.fget F.XL_FAULT.QFAULT = 1 →
      ∃ t, exec (.queueFault q addr wr walk) s = .next t ∧ (t.queue q).stopped = true ∧ t.fget F.XL_FAULT.MORE = 1 ∧
        t.fget F.XL_FAULT.QUEUE = s.fget F.XL_FAULT.QUEUE ∧ t.word 0xA00008 = s.word 0xA00008 ∧ t.tows = s.tows ∧ t.mem = s.mem)) ∧
  (∀ (s : State), s.allWf = true → s.reaches 0xA00004 = true →
    ∃ t, exec .resume s = .next t ∧ t.link.faulted = [] ∧ (∀ p ∈ s.link.faulted, (t.queue p.1).stopped = false) ∧
      (∀ q, (∀ p ∈ s.link.faulted, p.1 ≠ q) → t.queue q = s.queue q) ∧
      t = { s with link := { s.link with cache := t.link.cache, tables := t.link.tables, queues := t.link.queues, faulted := [] } }) ∧
  (∀ (s : State) (p size : Nat), s.allWf = true → p < 64 → s.reaches 0xA00010 = true →
    ∃ t, exec (.go p false true size) s = .next t ∧ (∀ c ∈ t.link.cache, c.ctx ≠ p) ∧
      (∀ c ∈ s.link.cache, c.ctx ≠ p → c ∈ t.link.cache) ∧
      (∀ e ∈ t.link.tables, e.ctx ≠ p) ∧
      (∀ x ∈ t.tows.tows, x.space = p → x.inBarge = false →
        (∀ r ∈ x.ranges, spaceRegion r.1 ≠ 2) ∧ (∀ c ∈ x.staged, spaceRegion c.1 ≠ 2)) ∧
      t.mem = s.mem ∧ t.steer = s.steer)

/-! ## Auction units (R159–R171, R344) -/

/-- R163–R166: A unit is reserved, takes its matrix, runs a phase, reaches the limit, and has its certificate judged. -/
def Obligations.AuctionSolve : Prop :=
  (∀ (s : State) (f : Feed) (u : Nat), s.allWf = true → s.feedsHeld = false → s.auction.orphans = [] → s.fillQueue.headFeed = some f →
    s.unitFor f.cls none = some u →
    ∃ t, exec .unitReserved s = .next t ∧ t.solve u = some { feed := f } ∧ (∀ v, v ≠ u → t.solve v = s.solve v) ∧
      t.auction.feeds ++ t.auction.outside = s.fillQueue.auction.feeds.erase f ++ s.fillQueue.auction.outside ∧
      (t.auction.outside ≠ [] → 64 ≤ t.auction.feeds.length) ∧ t.fget F.AUC_STATUS.BUSY / 2 ^ u % 2 = 1 ∧
      (∀ x ∈ t.tows.tows, x.space = f.space → x.tag = f.tag → x.phase ≠ .feeding) ∧
      t = { s with regs := t.regs, auction := t.auction, tows := { s.tows with tows := t.tows.tows } }) ∧
  (∀ (s : State) (u : Nat) (w : Tow) (sp : Space) (f : Fetched), s.allWf = true → u < 4 → s.runner u = some w → s.spaceOf w.space = some sp →
    w.head = some f → f.bad = 0 → (bargeOf f.bytes).op = 0x0C → w.inBarge = true →
    (∀ a v, s.feedUnit w = some (a, v) → (bargeOf f.bytes).readsFixed.any (fun r => s.rangePoisoned w sp r) = false →
      ∃ t v' x, exec (.aucFeed u) s = .next t ∧ t.solve a = some v' ∧ v'.feed = v.feed ∧ v'.taken = true ∧ v'.since = s.time.tb3 ∧
        v'.score.length = (bargeOf f.bytes).n ∧ v'.forbid.length = (bargeOf f.bytes).n ∧ x ∈ t.tows.tows ∧ x.space = w.space ∧
        x.tag = w.tag ∧ x.next = w.next + 1 ∧ t.mem = s.mem ∧ t.steer = s.steer) ∧
    (∀ a v, s.feedUnit w = some (a, v) → (bargeOf f.bytes).readsFixed.any (fun r => s.rangePoisoned w sp r) = true →
      ∃ t x, exec (.aucFeed u) s = .next t ∧ t.solve a = none ∧ x ∈ t.tows.tows ∧ x.space = w.space ∧ x.tag = w.tag ∧
        (w.drains = false → x.phase = .ended 4) ∧ (w.drains = true → x.ending = some 4) ∧ t.mem = s.mem ∧ t.steer = s.steer) ∧
    (s.feedUnit w = none → s.feedsHeld = true → w.held = false →
      (s.auction.feeds ++ s.auction.outside).any w.owns = false →
      ∃ t x g, exec (.aucFeed u) s = .next t ∧
        t.auction.feeds ++ t.auction.outside = s.auction.feeds ++ s.auction.outside ++ [g] ∧ g.space = w.space ∧ g.tag = w.tag ∧
        g.cls = w.cls ∧ g.n = (bargeOf f.bytes).n ∧ x ∈ t.tows.tows ∧ x.space = w.space ∧ x.tag = w.tag ∧ x.phase = .feeding ∧
        t.mem = s.mem ∧ t.steer = s.steer)) ∧
  (∀ (s : State) (u : Nat) (v : Solve), s.allWf = true → u < 5 → s.solve u = some v →
    (v.taken = true → v.status = none →
      ∃ t v', exec (.auctionPhaseEnd u) s = .next t ∧ t.solve u = some v' ∧ v'.phases = v.phases + 1 ∧ v'.eps = v.nextEps ∧
        v'.status = (if v.nextEps = 1 then some 0 else none) ∧ v'.best = some (v'.eps, v'.assign, v'.prices) ∧ v'.score = v.score ∧
        (∀ j, j ≠ u → t.solve j = s.solve j) ∧
        t = { s with regs := t.regs, auction := { s.auction with solves := t.auction.solves } } ∧ fieldsKept s t [F.AUC_STATUS.BUSY]) ∧
    (v.taken = true → v.status = none → s.solveLimit ≤ s.time.tb3 - v.since →
      ∃ t, exec (.solveLimitExpiry u) s = .next t ∧
        t.solve u = some { v with status := some (if v.best.isSome then 1 else 2), ended := s.time.tb3 } ∧
        (∀ j, j ≠ u → t.solve j = s.solve j) ∧
        t = { s with regs := t.regs, auction := { s.auction with solves := t.auction.solves } } ∧ fieldsKept s t [F.AUC_STATUS.BUSY]) ∧
    (∀ fault : Bool, v.due = true → s.armed 9 u = false →
      (v.certificate = true → fault = false →
        ∃ t, exec (.certificateCheck u fault) s = .next t ∧ t.solve u = some { v with certified := true } ∧ t.mem = s.mem ∧
          (∀ j, j ≠ u → t.solve j = s.solve j) ∧ fieldsKept s t [F.AUC_STATUS.BUSY]) ∧
      (v.certificate = false ∨ fault = true → v.repeated = false → s.feedsHeld = true →
        ∃ t, exec (.certificateCheck u fault) s = .next t ∧ t.solve u = none ∧
          t.auction.orphans = s.auction.orphans ++ [{ v.anew with repeated := true, firstUnit := some u }] ∧ t.mem = s.mem) ∧
      (v.certificate = false ∨ fault = true → v.repeated = true →
        ∃ t, exec (.certificateCheck u fault) s = .next t ∧ t.solve u = some { v with status := some 3, certified := true } ∧
          t.fget F.AUC_STATUS.CERT_FAIL = 1 ∧ t.mem = s.mem)))

/-- R167, R168, R175, R344: The result record is stored and the unit is free; a unit with two strikes goes out of service. -/
def Obligations.AuctionEnd : Prop :=
  (∀ (s : State) (u st : Nat) (v : Solve) (sp : Space), s.allWf = true → u < 5 → s.solve u = some v → v.status = some st →
    s.space v.feed.space = some sp → st = 2 ∨ v.certified = true → u ∉ s.auction.retiring →
    (auxBit v.feed.aux 9 = false → spaceRegion v.feed.addrC = 0 →
      ∃ t, exec (.auctionResult u) s = .next t ∧ t.solve u = none ∧
        t.mem.basin = memPut s.mem.basin (sp.basinBase + offsetOf v.feed.addrC) (s.resultRecord u v 0 false).1 ∧
        t.mem.stack = s.mem.stack ∧
        (∀ a, a < sp.basinBase + offsetOf v.feed.addrC ∨
            sp.basinBase + offsetOf v.feed.addrC + (s.resultRecord u v 0 false).1.length ≤ a →
          spGet 0 t.mem.basin a = spGet 0 s.mem.basin a) ∧
        (auxBit v.feed.aux 6 = true →
          t.sync v.feed.space (v.feed.aux % 64) = (s.sync v.feed.space (v.feed.aux % 64) + 1) % 2 ^ 32) ∧
        t.lock = s.lock ∧ t.steer = s.steer ∧ t.tows.tows = s.tows.tows) ∧
    (∀ i, auxBit v.feed.aux 9 = true → v.good = true → s.active = true → s.planSlot = some i →
      ∃ t, exec (.auctionResult u) s = .next t ∧ t.solve u = none ∧ (t.plan i).state = 1 ∧ (t.plan i).source = 1 ∧
        (t.plan i).peer = v.peer ∧ (t.plan i).approx = decide (st = 1) ∧ (t.plan i).planId = nextId s.lock.lastPlan ∧
        (∀ j, j ≠ i → t.plan j = s.plan j) ∧ t.steer = s.steer)) ∧
  (∀ (s : State) (u : Nat), s.allWf = true → u < 5 → s.unitActive u = true → s.solve u = none →
    2 ≤ (s.auction.strikes.filter (fun x => decide (x.1 = u) && decide (s.time.tb3 - x.2 ≤ 86400 * 500000000))).length →
    ∃ t, exec (.auctionUnitRetire u false) s = .next t ∧ t.unitActive u = false ∧ t.fget F.AUC_STATUS.RETIRED / 2 ^ u % 2 = 1 ∧
      (∀ x ∈ t.auction.strikes, x.1 ≠ u) ∧ t.auction.solves = s.auction.solves ∧ t.mem = s.mem ∧ t.steer = s.steer ∧
      t.tows = s.tows)

/-! ## Time (R180–R196) -/

/-- R188, R189: A SYNC_SAMPLE on a FREE base, a base under the servo, a base in HOLDOVER, beyond LIMIT, and past the delay filter. -/
def Obligations.SyncSamples : Prop :=
  ∀ (s : State) (b : Nat) (y : SyncIn) (o : Int), s.allWf = true → (Instr.syncSample b y).wf = true →
    s.syncOffset b y = some o → s.bit (F.TB_CTRL.EN b) = true → s.rung ≤ 2 →
    let x : TimeBase := { s.base b with last := o, delays := lastN 16 ((s.base b).delays ++ [y.delay]) }
    let fine : Nat := if ((s.base b).beyond o).natAbs ≤ 100 * fineNs then (s.base b).fineRun + 1 else 0
    let run : TimeBase := { x.servo (s.fget (F.TB_CTRL.KP_SHIFT b)) (s.fget (F.TB_CTRL.KI_SHIFT b)) o y.interval with
      overRun := 0, okRun := x.okRun + 1, fineRun := fine, offset := o, lastGood := s.time.tb3 }
    let still : TimeBase := { run with okRun := 0, fineRun := 0 }
    ((s.base b).delays ≠ [] → (∀ m ∈ (s.base b).delays, (∀ k ∈ (s.base b).delays, m ≤ k) → m + 200 < y.delay) →
      ∃ t, exec (.syncSample b y) s = .next t ∧
        t = { s.modBase b (fun _ => { x with last := (s.base b).last }) with counters := t.counters }) ∧
    ((∀ m ∈ (s.base b).delays, (∀ k ∈ (s.base b).delays, m ≤ k) → y.delay ≤ m + 200) →
      (s.fget (stateFld b) = 0 →
        ∃ t, exec (.syncSample b y) s = .next t ∧
          t = { s.modBase b (fun _ => { x with offset := o, firsts := lastN 4 ((s.base b).firsts ++ [o]), lastGood := s.time.tb3 }) with
                counters := t.counters }) ∧
      (s.fget (stateFld b) ≠ 0 → s.jumpLimit * fineNs < ((s.base b).beyond o).natAbs →
        ∃ t, exec (.syncSample b y) s = .next t ∧
          t = { s.modBase b (fun _ => { x with overRun := x.overRun + 1, okRun := 0, fineRun := 0
                                               offset := if s.bit (jumpFld b) then o else x.offset }) with counters := t.counters }) ∧
      (((s.base b).beyond o).natAbs ≤ s.jumpLimit * fineNs →
        (s.fget (stateFld b) = 2 ∨ (s.fget (stateFld b) = 1 ∧ fine < 8) →
          ∃ t, exec (.syncSample b y) s = .next t ∧ t = { s.modBase b (fun _ => run) with counters := t.counters }) ∧
        (s.fget (stateFld b) = 1 → 8 ≤ fine →
          ∃ t, exec (.syncSample b y) s = .next t ∧ t.fget (stateFld b) = 2 ∧
            reports (s.modBase b (fun _ => still)) t [stateFld b]) ∧
        (s.fget (stateFld b) = 3 → (s.base b).okRun < 3 →
          ∃ t, exec (.syncSample b y) s = .next t ∧
            t = { s.modBase b (fun _ => { x with overRun := 0, okRun := x.okRun + 1, fineRun := fine, lastGood := s.time.tb3
                                                 offset := if s.bit (jumpFld b) then x.offset else o }) with counters := t.counters }) ∧
        (s.fget (stateFld b) = 3 → 3 ≤ (s.base b).okRun →
          ∃ t, exec (.syncSample b y) s = .next t ∧ t.fget (stateFld b) = 2 ∧ t.fget (jumpFld b) = 0 ∧
            reports (s.modBase b (fun _ => still)) t [stateFld b, jumpFld b])))

/-- R188, R189, R290: A jump, the first step, the announce time-out, the end of a slew, and TIME_ACCEPT_JUMP accepted and refused. -/
def Obligations.ServoStates : Prop :=
  ∀ (s : State) (b : Nat), s.allWf = true → b < 2 →
    (4 ≤ (s.base b).overRun → s.fget (stateFld b) ≠ 0 → s.bit (jumpFld b) = false →
      ∃ t, exec (.timeJump b) s = .next t ∧ t.fget (stateFld b) = 3 ∧ t.fget (jumpFld b) = 1 ∧ t.fget (slewFld b) = 0 ∧
        (t.base b).slew = 0 ∧ (t.base b).offset = (s.base b).last ∧ (t.base b).rate = (s.base b).rate ∧ (t.base b).f = (s.base b).f ∧
        (t.base b).t = (s.base b).t ∧ (t.base b).overRun = 0 ∧
        reports (s.modBase b (fun _ => t.base b)) t [stateFld b, jumpFld b, slewFld b]) ∧
    (s.fget (stateFld b) = 0 → agreeing (s.base b).firsts = true →
      ∃ t, exec (.firstStep b) s = .next t ∧ t.fget (stateFld b) = 1 ∧ t.fget (steppedFld b) = 1 ∧
        reports (s.modBase b (fun x => { x with t := ((x.t : Int) + x.firsts.foldl (· + ·) 0 * 10 ^ 12 / 4).toNat, firsts := []
                                                overRun := 0, okRun := 0, fineRun := 0 })) t [stateFld b, steppedFld b]) ∧
    (∀ lost : Bool, s.fget (stateFld b) = 1 ∨ s.fget (stateFld b) = 2 →
      lost = true ∨ s.announceWait (s.slavePort b) ≤ s.time.tb3 - (s.base b).lastGood →
      ∃ t, exec (.announceTimeout b lost) s = .next t ∧ t.fget (stateFld b) = 3 ∧
        reports (s.modBase b (fun x => { x with holdSince := s.time.tb3, overRun := 0, okRun := 0, fineRun := 0 })) t [stateFld b]) ∧
    (s.bit (slewFld b) = true → (s.base b).slew = 0 →
      ∃ t, exec (.slewDone b) s = .next t ∧ t.fget (slewFld b) = 0 ∧ reports s t [slewFld b]) ∧
    (∀ src, s.accepts 0x80 src →
      (s.bit (jumpFld b) = true →
        ∃ t, exec (.timeAcceptJump src b) s = .next t ∧ t.fget (stateFld b) = 2 ∧ t.fget (jumpFld b) = 0 ∧
          t.fget (slewFld b) = (if (s.base b).last = 0 then 0 else 1) ∧ (t.base b).slew = (s.base b).last * 10 ^ 12 ∧
          (t.base b).offset = (s.base b).last ∧ (t.base b).rate = (s.base b).rate ∧ (t.base b).t = (s.base b).t ∧
          answered s t 0x80 src .done 0 0 (le 8 (ofSigned 64 (s.base b).last)) [] ∧
          reports ((s.without src).modBase b (fun _ => t.base b)) t [stateFld b, jumpFld b, slewFld b]) ∧
      (s.bit (jumpFld b) = false →
        ∃ t, exec (.timeAcceptJump src b) s = .next t ∧ answered s t 0x80 src .refused Reason.state.code 0 [] [] ∧
          reports (s.without src) t []))

/-- R184, R187, R195: PTP messages received and sent, and a change of an Ethernet link. The state an Announce leads to is the model's
free value among the states of its domain (log 3); the states after a link change are the model's choice (log 35). -/
def Obligations.PtpPorts : Prop :=
  ∀ (s : State) (p : Nat), s.allWf = true → p < 2 →
    (s.ptpOn p = true →
      (∀ k dom tr, ∃ t, exec (.ptpMessage p k dom tr true) s = .next t ∧ reports s t []) ∧
      (∀ k dom tr, ptpSupported k = false ∨ tr ≠ s.transport p ∨ s.otherMechanism p k = true ∨ s.baseOfDomain p dom = none →
        ∃ t, exec (.ptpMessage p k dom tr false) s = .next t ∧
          t = { s with counters := spMod 0 (spMod 0 s.counters (240 + (8 * p + 6)) (fun v => min (2 ^ 64 - 1) (v + 1))) 74
                         (fun v => min (2 ^ 64 - 1) (v + 1)) }) ∧
      (∀ dom n, s.baseOfDomain p dom = some n → (n = 0 → s.fget (F.TB_CTRL.MODE 0) ≠ 2) →
        ∃ t, exec (.ptpMessage p .announce dom (s.transport p) false) s = .next t ∧ 4 ≤ t.fget (portStateFld p n) ∧
          t.fget (portStateFld p n) ≤ 9 ∧
          (n = 1 → t.fget (portStateFld p n) ≠ 5 ∧ t.fget (portStateFld p n) ≠ 6 ∧ t.fget (portStateFld p n) ≠ 7) ∧
          (n = 0 → s.fget (F.TB_CTRL.MODE 0) = 1 → 8 ≤ t.fget (portStateFld p 0) → s.fget (portStateFld (1 - p) 0) ≠ 0 →
            s.fget (portStateFld (1 - p) 0) ≠ 2 → t.fget (portStateFld (1 - p) 0) = 6) ∧
          t = { s with regs := t.regs, counters := t.counters, free := s.free + 1 } ∧
          fieldsKept s t [portStateFld p n, portStateFld (1 - p) n]) ∧
      (∀ k dom n, ptpEvent k = true → s.otherMechanism p k = false → s.baseOfDomain p dom = some n →
        ∃ t v, exec (.ptpMessage p k dom (s.transport p) false) s = .next t ∧ t.rxStamp p n k = some v ∧ v % 2 ^ 14 = 0 ∧
          v ≤ (s.base n).fine + 2 ^ 18 ∧ (s.base n).fine ≤ v + 2 ^ 18 + 2 ^ 14 ∧
          t = { s with time := { s.time with rx := t.time.rx }, counters := t.counters, free := s.free + 1 }) ∧
      (s.fget (portStateFld p 0) = 6 → s.fget (F.TB_CTRL.PORTS 0) / 2 ^ p % 2 = 1 →
        (s.fget (F.TB_CTRL.MODE 0) ≠ 2 ∨ s.time.gm.isSome = true →
          (s.bit (F.TB_CTRL.TWO_STEP 0) = false → ∃ t v, exec (.ptpTransmit p 0 .sync) s = .next t ∧
            t.out = s.out ++ [.ptp { s.ptpOut p 0 .sync with stamp := some v, oneStep := true }] ∧
            t = { s with out := t.out, counters := t.counters, free := s.free + 1 }) ∧
          (s.bit (F.TB_CTRL.TWO_STEP 0) = true → ∃ t v, exec (.ptpTransmit p 0 .sync) s = .next t ∧
            t.out = s.out ++ [.ptp { s.ptpOut p 0 .sync with stamp := some v },
                              .ptp { s.ptpOut p 0 .sync with stamp := some v, kind := .followUp }] ∧
            t = { s with out := t.out, counters := t.counters, free := s.free + 1 })) ∧
        (s.fget (F.TB_CTRL.MODE 0) = 2 → s.time.gm = none → exec (.ptpTransmit p 0 .sync) s = .next s))) ∧
    (∀ link fec, ∃ t, exec (.ethernetLinkChange p link fec) s = .next t ∧
      let lf := if p = 0 then F.ETH_STATUS.LINK0 else F.ETH_STATUS.LINK1
      let ff := if p = 0 then F.ETH_STATUS.FEC_LOCK0 else F.ETH_STATUS.FEC_LOCK1
      t.bit lf = (link && s.bit (F.ETH_CTRL.EN p) && decide (s.rung ≤ 2)) ∧ (t.bit ff = true → t.bit lf = true ∧ fec = true) ∧
      (s.bit (F.ETH_CTRL.EN p) = true → s.bit (F.PTP_PORT_CTRL.EN p) = true → s.fget (F.TB_CTRL.PORTS 1) / 2 ^ p % 2 = 1 →
        t.fget (portStateFld p 1) = if t.bit lf then 4 else 2) ∧
      t = { s with regs := t.regs, counters := t.counters } ∧ fieldsKept s t [lf, ff, portStateFld p 0, portStateFld p 1])

/-- R191, R192, R195, R196, R205: The edges of PPS_IN, their loss, the pulses of PPS_OUT, TIME_SET_GM, a write of TB_TICK.PERIOD and a
read of TB_NOW. -/
def Obligations.PulsesAndTimeRegisters : Prop :=
  (∀ (s : State) (falling : Bool) (width : Nat), s.allWf = true → s.bit F.PPS_CTRL.IN_EN = true → s.bit F.PPS_CTRL.IN_POL = falling →
    100 ≤ width →
    (s.fget (F.TB_CTRL.MODE 0) ≠ 2 →
      ∃ t, exec (.ppsInEdge falling width) s = .next t ∧ t.fget F.PPS_CTRL.PPS_ERR = ofSigned 16 s.ppsErr ∧
        t = { s with regs := t.regs, counters := t.counters
                     time := { s.time with ppsStamp := some (s.time.tb0.fine, s.time.tb3) } } ∧ fieldsKept s t [F.PPS_CTRL.PPS_ERR]) ∧
    (∀ g, s.fget (F.TB_CTRL.MODE 0) = 2 → s.time.gm = some g → s.rung ≤ 2 → s.bit (F.TB_CTRL.EN 0) = true → s.tb0Free = true →
      ∃ t, exec (.ppsInEdge falling width) s = .next t ∧ t.time.tb0.t = g.seconds * 10 ^ 9 * fineNs ∧ t.fget F.TB_FLAGS.STATE0 = 1 ∧
        t.fget F.TB_FLAGS.STEPPED0 = 1 ∧ t.time.gm = some { g with seconds := g.seconds + 1 } ∧ t.time.lastPps = s.time.tb3 ∧
        reports { s with time := t.time } t [F.TB_FLAGS.STATE0, F.TB_FLAGS.STEPPED0] ∧ t.time.tb1 = s.time.tb1 ∧
        t.time.tb2 = s.time.tb2 ∧ t.time.tb3 = s.time.tb3 ∧ t.time.ppsStamp = some (s.time.tb0.fine, s.time.tb3))) ∧
  (∀ (s : State), s.allWf = true → s.fget (F.TB_CTRL.MODE 0) = 2 → s.time.gm.isSome = true → s.time.lastPps + 1250000000 ≤ s.time.tb3 →
    ∃ t, exec .ppsLost s = .next t ∧ t.fget F.TB_FLAGS.PPS_LOST = 1 ∧
      t.fget F.TB_FLAGS.STATE0 = (if s.fget F.TB_FLAGS.STATE0 = 0 then 0 else 3) ∧ t.time.tb0.rate = s.time.tb0.rate ∧
      reports { s with time := { s.time with tb0 := t.time.tb0 } } t [F.TB_FLAGS.STATE0, F.TB_FLAGS.PPS_LOST]) ∧
  (∀ (s : State) (n : Nat), s.bit F.PPS_CTRL.OUT_EN = true → s.fget F.PPS_CTRL.OUT_SRC = n → s.nsOf n % 10 ^ 9 < 3 →
    (n ≤ 1 → s.fget (stateFld n) ≠ 0) → (n = 2 → s.time.tb2Free = false) →
    ∃ t, exec .ppsOutPulse s = .next t ∧ t = { s with out := s.out ++ [.pps (max 1 (s.fget F.PPS_CTRL.WIDTH))] }) ∧
  (∀ (s : State) (src : Src) (sec utc flags cls acc p1 p2 : Nat), s.allWf = true → s.accepts 0x81 src →
    (s.fget (F.TB_CTRL.MODE 0) = 2 →
      ∃ t, exec (.timeSetGm src sec utc flags cls acc p1 p2) s = .next t ∧ t.time.gm = some ⟨sec, utc, flags, cls, acc, p1, p2⟩ ∧
        answered s t 0x81 src .done 0 0 [] [] ∧
        reports { s.without src with time := { s.time with gm := t.time.gm, lastPps := t.time.lastPps } } t []) ∧
    (s.fget (F.TB_CTRL.MODE 0) ≠ 2 →
      ∃ t, exec (.timeSetGm src sec utc flags cls acc p1 p2) s = .next t ∧
        answered s t 0x81 src .refused Reason.state.code 0 [] [] ∧ reports (s.without src) t [])) ∧
  (∀ (s : State) (v : Nat), s.allWf = true → s.reaches 0x200018 = true →
    (s.active = true → 15625 ≤ v → v ≤ 50000 → (∀ c ∈ s.lock.cycles, c.berth = true) → s.takeover = false →
      ∃ t, exec (.periodWrite v) s = .next t ∧ t.fget F.TB_TICK.PERIOD = v ∧ t.steer.period = s.steer.period ∧
        reports s t [F.TB_TICK.PERIOD]) ∧
    (s.active = true → v < 15625 ∨ 50000 < v ∨ (∃ c ∈ s.lock.cycles, c.berth = false) ∨ s.takeover = true →
      ∃ t, exec (.periodWrite v) s = .next t ∧ t.fget F.TB_TICK.ERR = 1 ∧ t.fget F.TB_TICK.PERIOD = s.fget F.TB_TICK.PERIOD ∧
        reports s t [F.TB_TICK.ERR]) ∧
    (s.active = false → v % 65536 ≠ s.fget F.TB_TICK.PERIOD →
      ∃ t, exec (.periodWrite v) s = .next t ∧ t.fget F.PAIR_STATUS.WRITE_IGN = 1 ∧ t = { s with regs := t.regs } ∧
        fieldsKept s t [F.PAIR_STATUS.WRITE_IGN])) ∧
  (∀ (s : State) (b : Nat), b < 4 →
    ∃ t, exec (.tbNowRead b) s = .next t ∧ t = { s with time := { s.time with latched := s.times }, out := t.out } ∧
      ∃ x, s.times[b]? = some x ∧ t.out = s.out ++ [.readData (le 4 (x / 65536 / 10 ^ 9 % 2 ^ 32)) false])

/-! ## The pair (R197–R217) -/

/-- R199–R201, R203, R206, R209, R215: Copy and RETURN frames received, a heartbeat missed, and three in a row. -/
def Obligations.Heartbeats : Prop :=
  (∀ (s : State) (f : CopyFrame) (since : Nat), s.allWf = true → f.ok = true → s.active = false → s.follows = true → f.state < 8 →
    f.rung = s.rung → s.rung ≤ 2 →
    let arrived := s.time.tb2.ns - 2 * since
    (s.ofTick f.seq = true →
      ∃ t, exec (.copyFrame f since) s = .next t ∧ t.fget F.PAIR_STATUS.PARTNER = f.state ∧ t.fget F.PAIR_STATUS.MISSED = 0 ∧
        t.pair.copy = some f ∧ t.pair.beat = true ∧ t.pair.partnerHash = f.imageHash ∧ t.pair.partnerFw = f.fw ∧
        t.pair.rxAt = arrived ∧ t.pair.rxSeq = f.seq ∧
        t.time.tb2.offset = s.twoWay f.toFrameHeader arrived ∧ (s.standby = false → t.time.tb2.rate = s.time.tb2.rate) ∧
        (s.standby = true → seqLe f.journalSeq s.pair.applied = false → ∃ k, (f.journalSeq, k) ∈ t.pair.owed) ∧
        (f.handoverReq = true → s.fget F.PAIR_STATUS.STATE ≠ 1 → t.pair.claiming = true ∧ t.pair.takeover = true ∧ t.pair.planned = true) ∧
        (f.handoverReq = false → t.pair.claiming = s.pair.claiming) ∧
        t = { s with regs := t.regs, counters := t.counters, time := { s.time with tb2 := t.time.tb2 }, pair := t.pair } ∧
        fieldsKept s t [F.PAIR_STATUS.PARTNER, F.PAIR_STATUS.MISSED]) ∧
    (s.ofTick f.seq = false →
      ∃ t, exec (.copyFrame f since) s = .next t ∧ t.fget F.PAIR_STATUS.PARTNER = f.state ∧
        t = { s with regs := t.regs
                     pair := { s.pair with partnerHash := f.imageHash, partnerFw := f.fw, rxAt := arrived, rxSeq := f.seq } } ∧
        fieldsKept s t [F.PAIR_STATUS.PARTNER])) ∧
  (∀ (s : State) (f : ReturnFrame), s.allWf = true → f.ok = true → s.pairEn = true → s.active = true → s.rung ≤ 2 → f.state < 8 →
    (s.pair.waits = [] → f.repairMask = 0 → (f.state = 1 → s.fget F.PAIR_STATUS.PARTNER = 1) →
      ∃ t, exec (.returnFrame f) s = .next t ∧ t.fget F.PAIR_STATUS.PARTNER = f.state ∧
        t.fget F.PAIR_STATUS.MISSED = (if f.seq = s.steer.tick then 0 else s.fget F.PAIR_STATUS.MISSED) ∧
        t = { s with regs := t.regs
                     pair := { s.pair with beat := s.pair.beat || decide (f.seq = s.steer.tick), partnerHash := f.imageHash
                                           partnerFw := f.fw, rxAt := s.time.tb2.ns, rxSeq := f.seq
                                           journal := s.pair.journal.filter (fun m => !seqLe m.seq f.journalSeq) } } ∧
        fieldsKept s t [F.PAIR_STATUS.PARTNER, F.PAIR_STATUS.MISSED]) ∧
    (∀ w, s.pair.waits = [w] → f.repairMask = 0 → f.state = 2 → seqLe w.seq f.journalSeq = true → (s.queue (s.cqOf w.src)).en = true →
      (s.queue (s.cqOf w.src)).dir = true → (s.queue (s.cqOf w.src)).broken = false → s.link.flrDiscard.contains w.src = false →
      ∃ t, exec (.returnFrame f) s = .next t ∧ t.pair.waits = [] ∧ answered s t w.op w.src .done 0 w.detail w.result []) ∧
    (f.state = 1 → s.fget F.PAIR_STATUS.PARTNER ≠ 1 →
      ∃ t, exec (.returnFrame f) s = .next t ∧ t.pair.journal.getLast?.map (fun m => m.item) = some .snapshotEnd ∧
        t.steer = s.steer ∧ t.map = s.map ∧ t.lock = s.lock ∧ t.mem = s.mem)) ∧
  (∀ (s : State), s.allWf = true → s.pair.beat = false → s.rung ≤ 2 → s.follows = true ∨ s.active = true →
    ∃ t, exec .heartbeatMissed s = .next t ∧ t.fget F.PAIR_STATUS.MISSED = min 255 (s.fget F.PAIR_STATUS.MISSED + 1) ∧
      t.pair.copyRun = 0 ∧ (s.standby = false → t.pair = { s.pair with copyRun := 0 }) ∧
      (s.standby = true → s.pair.gap = none → ∃ n, t.pair.gap = some (n, 1, s.steer.tick)) ∧
      t = { s with regs := t.regs, counters := t.counters, pair := { s.pair with copyRun := 0, gap := t.pair.gap } } ∧
      fieldsKept s t [F.PAIR_STATUS.MISSED]) ∧
  (∀ (s : State), s.allWf = true → 3 ≤ s.fget F.PAIR_STATUS.MISSED →
    (s.standby = true → s.pair.claiming = false →
      ∃ t, exec .heartbeatLoss s = .next t ∧
        reports { s with pair := { s.pair with claiming := true, takeover := true, planned := false, grantA := false, grantB := false
                                               gap := none, continueDue := true } } t []) ∧
    (s.fget F.PAIR_STATUS.STATE = 1 ∨ s.fget F.PAIR_STATUS.STATE = 4 →
      ∃ t, exec .heartbeatLoss s = .next t ∧ t.fget F.PAIR_STATUS.STATE = 0 ∧ t.fget F.PAIR_STATUS.REASON = 7 ∧
        reports s t [F.PAIR_STATUS.STATE, F.PAIR_STATUS.REASON]) ∧
    (s.active = true → s.fget F.PAIR_STATUS.PARTNER ≠ 7 →
      ∃ t, exec .heartbeatLoss s = .next t ∧ t.fget F.PAIR_STATUS.PARTNER = 7 ∧ t.active = true ∧ t.pair.waits = [] ∧
        t.pair.journal = [] ∧ reports { s with pair := { s.pair with waits := [] } } t [F.PAIR_STATUS.PARTNER, F.MAP_STATUS.COMMIT_BUSY]))

/-- R204–R206: Journal messages in turn, early and again, messages sent again, repairs and their time-out. -/
def Obligations.PairJournal : Prop :=
  (∀ (s : State) (seq : Nat) (it : JItem), s.allWf = true → s.rung ≤ 2 → s.follows = true → s.pair.snapshot = false →
    (s.pair.early = [] → seq = (s.pair.applied + 1) % 2 ^ 32 →
      (∃ t, exec (.journal seq it) s = .next t ∧ (∀ m ∈ t.pair.owed, seqLe m.1 seq = false) ∧
        t = { s.takeItem it with counters := t.counters, pair := { (s.takeItem it).pair with applied := seq, owed := t.pair.owed } }) ∧
      (∀ i e, it = .mapEntry i e → ∃ t, exec (.journal seq it) s = .next t ∧ spGet 0 t.map.work i = e ∧
        (∀ j, j ≠ i → spGet 0 t.map.work j = spGet 0 s.map.work j) ∧ i ∈ t.map.dirty ∧ t.steer = s.steer ∧ t.lock = s.lock) ∧
      (∀ off v, it = .setting off v → mirrored off = true → isAxisFlags off = false → s.pair.due = [] →
        (0x400000 ≤ off → off < 0x490000 →
          (off % 0x10000 = 0x10 → v.toNat / 4 % 2 = 0) ∧ (off % 0x10000 = 0x14 → v.toNat / 2 ^ 14 % 2 = 0)) →
        ∃ t, exec (.journal seq it) s = .next t ∧ t.word off = v ∧ wordsKept s t [off]) ∧
      (∀ r v, it = .setting (0x400010 + r * 0x10000) v → r < 8 → v.toNat / 4 % 2 = 1 → mirrored (0x400010 + r * 0x10000) = true →
        s.pair.due = [] →
        ∃ t, exec (.journal seq it) s = .next t ∧ r ∈ t.steer.clearPend ∧ t.regs = s.regs) ∧
      (∀ off v, it = .reloaded off v → ∃ t, exec (.journal seq it) s = .next t ∧ t.pair.due = s.pair.due ++ [it] ∧ t.regs = s.regs ∧
        t.steer = s.steer) ∧
      (∀ a k v, it = .rep a k v → ∃ t, exec (.journal seq it) s = .next t ∧ spGet 0 t.steer.rep (2048 * a + k) = v ∧
        (∀ j, j ≠ 2048 * a + k → spGet 0 t.steer.rep j = spGet 0 s.steer.rep j) ∧ t.steer.axes = s.steer.axes)) ∧
    (seq ≠ (s.pair.applied + 1) % 2 ^ 32 →
      (seqLe seq s.pair.applied = true → ∃ t, exec (.journal seq it) s = .next t ∧ t = s) ∧
      (seqLe seq s.pair.applied = false → ∃ t, exec (.journal seq it) s = .next t ∧
        t = { s with pair := { s.pair with early := s.pair.early.filter (fun m => decide (m.1 ≠ seq)) ++ [(seq, it)] } }))) ∧
  (∀ (s : State), s.allWf = true → s.active = true → s.attached = true →
    ((∀ w ∈ s.pair.waits, (s.steer.tick + 2 ^ 32 - w.tick) % 2 ^ 32 ≤ 8) →
      let late := fun (m : JMsg) => decide (8 ≤ (s.steer.tick + 2 ^ 32 - m.sentTick) % 2 ^ 32)
      ∃ t, exec .journalResend s = .next t ∧
        t = { s with
              pair := { s.pair with journal := s.pair.journal.map (fun m => if late m then { m with sentTick := s.steer.tick } else m) }
              out := s.out ++ (s.pair.journal.filter late).map (fun m =>
                .journal { s.frameHead with tTx := s.time.tb2.ns } { m with sentTick := s.steer.tick }) }) ∧
    ((∃ w ∈ s.pair.waits, 8 < (s.steer.tick + 2 ^ 32 - w.tick) % 2 ^ 32) →
      ∃ t, exec .journalResend s = .next t ∧ t.fget F.PAIR_STATUS.PARTNER = 4 ∧ t.pair.waits = [] ∧ t.steer = s.steer ∧ t.mem = s.mem)) ∧
  (∀ (s : State), s.allWf = true → s.standby = true → s.owesGap = true →
    ∃ t, exec .journalResend s = .next t ∧ t.fget F.PAIR_STATUS.STATE = 4 ∧ t.fget F.PAIR_STATUS.REASON = 6 ∧
      reports s t [F.PAIR_STATUS.STATE, F.PAIR_STATUS.REASON]) ∧
  (∀ (s : State) (seq mask : Nat), s.allWf = true → seq < 2 ^ 32 → 0 < mask → mask < 256 →
    (s.standby = true → s.pair.gap = none → ∃ t, exec (.repairRequest seq mask) s = .next t ∧
      t = { s with pair := { s.pair with gap := some (seq, mask, s.steer.tick) } }) ∧
    (s.active = true → s.attached = true → ∃ t, exec (.repairRequest seq mask) s = .next t ∧
      t.pair.journal.getLast?.map (fun m => m.item) = some (.repaired seq mask) ∧ reports s t [])) ∧
  (∀ (s : State) (q m t0 : Nat), s.allWf = true → s.standby = true → s.pair.gap = some (q, m, t0) →
    8 ≤ (s.steer.tick + 2 ^ 32 - t0) % 2 ^ 32 →
    ∃ t, exec .repairTimeout s = .next t ∧ t.fget F.PAIR_STATUS.STATE = 4 ∧ t.fget F.PAIR_STATUS.REASON = 6 ∧
      reports { s with pair := { s.pair with gap := none } } t [F.PAIR_STATUS.STATE, F.PAIR_STATUS.REASON])

/-- R194, R207, R209, R215: RESYNCING begins and ends in STANDBY, and INELIGIBLE is entered and left. -/
def Obligations.Resynchronisation : Prop :=
  (∀ (s : State) (c : Instr), s.allWf = true →
    (c = .tetherUp ∧ s.fget F.PAIR_STATUS.STATE = 0 ∧ s.tetherOn = true ∧ s.fget F.PAIR_STATUS.PARTNER = 3 ∧ s.cores = true ∧
      s.held = false) ∨
    (c = .ineligibleResync ∧ s.fget F.PAIR_STATUS.STATE = 4 ∧
      (s.fget F.PAIR_STATUS.REASON = 5 ∨ s.fget F.PAIR_STATUS.REASON = 6 ∨ s.ineligible = none)) →
    ∃ t, exec c s = .next t ∧ t.fget F.PAIR_STATUS.STATE = 1 ∧ t.fget F.PAIR_STATUS.REASON = 0 ∧ t.fget F.PAIR_STATUS.ORPHANED = 0 ∧
      reports { s with
        time := { s.time with tb2 := { s.time.tb2 with t := ((s.time.tb2.t : Int) + s.time.tb2.offset * 10 ^ 12).toNat
                                                       offset := 0, f := 0, rate := 0 }
                              tb2Free := false }
        pair := { s.pair with snapshot := true, snapshotDone := false, snapKeys := [], copyRun := 0, gap := none, early := []
                              claiming := false, owed := [], due := [], sentRet := [], numbered := false, tickAt := none } } t
        [F.PAIR_STATUS.STATE, F.PAIR_STATUS.REASON, F.PAIR_STATUS.ORPHANED]) ∧
  (∀ (s : State), s.allWf = true → s.fget F.PAIR_STATUS.STATE = 1 → s.ineligible = none → s.pair.snapshotDone = true →
    8 ≤ s.pair.copyRun →
    ∃ t, exec .snapshotComplete s = .next t ∧ t.standby = true ∧ t.fget F.PAIR_STATUS.REASON = 0 ∧
      reports s t [F.PAIR_STATUS.STATE, F.PAIR_STATUS.REASON]) ∧
  (∀ (s : State) (r : Nat), s.allWf = true → s.ineligible = some r →
    s.standby = true ∨ (s.fget F.PAIR_STATUS.STATE = 1 ∧ r ≤ 4) →
    ∃ t, exec .ineligibleEntry s = .next t ∧ t.fget F.PAIR_STATUS.STATE = 4 ∧ t.fget F.PAIR_STATUS.REASON = r ∧
      reports s t [F.PAIR_STATUS.STATE, F.PAIR_STATUS.REASON]) ∧
  (∀ (s : State), s.ineligible = some 3 ↔
    s.pair.partnerHash ≠ s.imageHash ∧ s.compatible 0 s.imageHash = false)

/-- R209, R211–R214, R289: A claim, its grants and refusals, being deposed, PAIR_HANDOVER, PAIR_STATUS and the cycle that goes on after
a handover. -/
def Obligations.Windlass : Prop :=
  (∀ (s : State), s.allWf = true → s.fget F.PAIR_STATUS.STATE = 0 → s.ready = true → s.bit F.PAIR_STATUS.ORPHANED = false →
    s.pair.claiming = false → s.rung ≤ 2 → s.held = false → s.mayClaimAt s.pair.headA = true →
    ∃ t, exec .claim s = .next t ∧
      t = { s with pair := { s.pair with claiming := true, takeover := false, planned := false, grantA := false, grantB := false }
                   counters := t.counters }) ∧
  (∀ (s : State), s.allWf = true → s.standby = true → s.pair.releasing.isSome = true → s.pair.claiming = false → s.rung ≤ 2 →
    s.held = false → (s.otherHolder s.pair.headA && s.otherHolder s.pair.headB) = false →
    2 ≤ (s.steer.tick + 2 ^ 32 - s.pair.partTick) % 2 ^ 32 →
    ∃ t, exec .claim s = .next t ∧
      t = { s with pair := { s.pair with claiming := true, takeover := false, planned := false, grantA := false, grantB := false }
                   counters := t.counters }) ∧
  (∀ (s : State) (src : Src) (tr : Trailer), s.allWf = true → s.rung ≤ 2 → s.boot.resetLow = false → s.power.railsOff = false →
    tr.epoch < 2 ^ 32 → s.pair.releasing = none → s.pair.cold = some src → (s.queue (s.cqOf src)).en = true →
    (s.queue (s.cqOf src)).dir = true → (s.queue (s.cqOf src)).broken = false → s.link.flrDiscard.contains src = false →
    (s.armed 10 0 = false → s.pair.claiming = true → s.pair.grantA = false → tr.result = 1 →
      ∃ t, exec (.uplinkFrame 0 tr) s = .next t ∧ t.active = true ∧ t.fget F.PAIR_STATUS.COLD = 1 ∧ t.lock.cycles = [] ∧
        t.lock.bufs = [] ∧ t.lock.paths = s.lock.paths ∧ t.pair.token = some tr.token ∧ t.pair.cold = some src ∧ t.mem = s.mem) ∧
    (s.armed 10 0 = false → s.pair.claiming = true → s.pair.grantA = false → tr.result = 2 ∨ tr.result = 3 →
      ∃ t q, exec (.uplinkFrame 0 tr) s = .next t ∧ t.fget F.PAIR_STATUS.STATE = 0 ∧ t.fget F.PAIR_STATUS.REASON = 2 ∧
        t.pair.cold = none ∧ { completionItem 0x91 src .failed Reason.grant.code 0 [] [] with seq := q } ∈ (t.queue (s.cqOf src)).items ∧
        t.lock = s.lock ∧ t.mem = s.mem) ∧
    (s.armed 10 1 = false → s.pair.grantA = true → s.pair.grantB = false → tr.result = 1 →
      ∃ t q, exec (.uplinkFrame 1 tr) s = .next t ∧ t.pair.grantB = true ∧ t.pair.cold = none ∧
        { completionItem 0x91 src .done 0 0 [] [] with seq := q } ∈ (t.queue (s.cqOf src)).items ∧ t.lock = s.lock ∧ t.mem = s.mem)) ∧
  (∀ (s : State) (tr : Trailer), s.allWf = true → s.rung ≤ 2 → s.boot.resetLow = false → s.power.railsOff = false → tr.epoch < 2 ^ 32 →
    s.pair.releasing = none → s.pair.cold = none →
    (s.armed 10 0 = false → s.pair.claiming = true → s.pair.grantA = false → tr.result = 1 →
      ∃ t, exec (.uplinkFrame 0 tr) s = .next t ∧ t.active = true ∧ t.fget F.PAIR_STATUS.REASON = 0 ∧ t.pair.grantA = true ∧
        t.pair.token = some tr.token ∧ t.fget F.PAIR_EPOCH.EPOCH = tr.epoch ∧ t.fget F.PAIR_STATUS.ORPHANED = 0 ∧
        t.pair.continueDue = (s.pair.continueDue && s.pair.takeover) ∧
        (s.pair.takeover = true → t.fget F.PAIR_STATUS.TOOK_OVER = 1 ∧
          t.lock.cycles = s.lock.cycles.map (fun c => { c with handover := true })) ∧ t.mem = s.mem ∧ t.tows = s.tows ∧ t.map = s.map) ∧
    (s.armed 10 0 = false → s.pair.claiming = true → s.pair.grantA = false → tr.result = 2 ∨ tr.result = 3 →
      ∃ t, exec (.uplinkFrame 0 tr) s = .next t ∧ t.fget F.PAIR_STATUS.STATE = 0 ∧ t.fget F.PAIR_STATUS.REASON = 2 ∧
        t.pair.claiming = false ∧ t.steer.held = [] ∧ t.steer.axes = s.steer.axes ∧ t.lock = s.lock ∧ t.mem = s.mem) ∧
    (s.armed 10 1 = false → s.pair.grantA = true → s.pair.grantB = false → tr.result = 1 →
      ∃ t, exec (.uplinkFrame 1 tr) s = .next t ∧ t.pair.grantB = true ∧ t.pair.claiming = false ∧ t.pair.token = none ∧
        t.fget F.PAIR_STATUS.STATE = s.fget F.PAIR_STATUS.STATE ∧ t.lock = s.lock ∧ t.mem = s.mem) ∧
    (s.armed 10 0 = false → s.active = true → s.pair.claiming = false → tr.holder ≠ 3 → tr.holder ≠ s.role →
      ∃ t, exec (.uplinkFrame 0 tr) s = .next t ∧ t.fget F.PAIR_STATUS.STATE = 0 ∧ t.fget F.PAIR_STATUS.REASON = 8 ∧
        t.steer.held = [] ∧ t.steer.axes = s.steer.axes ∧ t.pair.grantA = false ∧ t.pair.grantB = false ∧ t.pair.waits = [] ∧
        t.lock = s.lock ∧ t.mem = s.mem)) ∧
  (∀ (s : State) (src : Src) (force : Bool), s.allWf = true → s.accepts 0x91 src →
    (s.active = true → s.pair.releasing = none →
      s.fget F.PAIR_STATUS.PARTNER = 2 ∨ (s.fget F.PAIR_STATUS.PARTNER = 4 ∧ force = true) →
      ∃ t, exec (.pairHandover src force false) s = .next t ∧
        t = { s.without src with pair := { s.pair with releasing := some (force, src) }, counters := t.counters }) ∧
    (s.active = true ∨ s.bit F.PAIR_STATUS.ORPHANED = false ∨ s.pairEn = false →
      ∃ t, exec (.pairHandover src force true) s = .next t ∧
        answered s t 0x91 src .refused Reason.state.code 0 [] [] ∧ reports (s.without src) t []) ∧
    (s.fget F.PAIR_STATUS.STATE = 0 ∨ s.fget F.PAIR_STATUS.STATE = 4 → s.bit F.PAIR_STATUS.ORPHANED = true → s.pairEn = true →
      s.pair.cold = none →
      ∃ t, exec (.pairHandover src force true) s = .next t ∧
        t = { s.without src with pair := { s.pair with cold := some src, coldStep := 1 }, counters := t.counters })) ∧
  (∀ (s : State) (src : Src), s.allWf = true → s.accepts 0x90 src →
    ∃ t, exec (.pairStatus src) s = .next t ∧ reports (s.without src) t [] ∧
      answered s t 0x90 src .done 0 0 (le 4 (s.word 0x300000).toNat ++ le 4 (s.word 0x300004).toNat ++ le 4 (s.word 0x300010).toNat ++
        le 4 0 ++ le 8 s.pair.partnerHash ++ le 4 s.pair.partnerFw) []) ∧
  (∀ (s : State), s.allWf = true → s.active = true ∨ (s.pair.claiming = true ∧ s.pair.takeover = true) → s.pair.continueDue = true →
    ∃ t, exec .handoverContinue s = .next t ∧ t.pair = { s.pair with continueDue := false } ∧ t.mem = s.mem ∧ t.map = s.map ∧
      (s.lock.cycles = [] → t = { s with pair := t.pair, steer := { s.steer with axes := t.steer.axes } }) ∧
      (∀ c, s.running = some c → ∃ d, t.running = some d ∧ d.id = c.id ∧ d.paths = c.paths.map (fun p => p.again s.steer.tick) ∧
        (c.extended = true → d.extended = true)))

/-! ## Light (R197, R198, R218–R240, R373, R374) -/

/-- R218, R220, R234, R235, R239, R297: A cartridge inserted, proved, not proved in time, tripped and removed. -/
def Obligations.CartridgeBays : Prop :=
  (∀ (s : State) (b : Nat) (st : List Byte), s.allWf = true → b < 3 → st.length = 4096 → s.bayState b = 0 → (s.cart b).store = [] →
    s.rung ≤ 2 → s.held = false →
    let c : Cart := { store := st }
    ∃ t, exec (.cartridgeInserted b st) s = .next t ∧ t.fget (F.CART_STATUS.PRESENT b) = 1 ∧ (t.cart b).store = st ∧
      (c.valid = false → t.bayState b = 7) ∧
      (c.valid = true → c.flagBit 1 = true ∨ c.worn = true → t.bayState b = 6) ∧
      (c.valid = true → c.flagBit 1 = false → c.worn = false → 2 ≤ s.serviceComing → t.bayState b = 2) ∧
      (c.valid = true → c.flagBit 1 = false → c.worn = false → s.serviceComing < 2 → s.baysIn 2 = [] →
        t.bayState b = 3 ∧ (t.cart b).powered = true ∧ (t.cart b).warmSince = s.time.tb3) ∧
      reports { s with light := { s.light with carts := t.light.carts } } t
        [F.CART_STATUS.STATE 0, F.CART_STATUS.STATE 1, F.CART_STATUS.STATE 2, F.CART_STATUS.PRESENT b, F.CART_STATUS.HOURS b,
         F.CART_STATUS.END_OF_LIFE b, F.PWR_RAILS.CART_ON]) ∧
  (∀ (s : State) (b : Nat) (st : List Byte), s.allWf = true → b < 3 → st.length = 4096 → s.bayState b = 0 → (s.cart b).store = [] →
    3 ≤ s.rung ∨ s.held = true →
    ∃ t, exec (.cartridgeInserted b st) s = .next t ∧ t.bayState b = 1 ∧ t.fget (F.CART_STATUS.PRESENT b) = 1 ∧ (t.cart b).store = st ∧
      t = { s with regs := t.regs, light := { s.light with carts := t.light.carts } } ∧
      fieldsKept s t [F.CART_STATUS.STATE b, F.CART_STATUS.PRESENT b]) ∧
  (∀ (s : State) (b : Nat), s.allWf = true → b < 3 →
    ∃ t, exec (.cartridgeRemoved b) s = .next t ∧ t.bayState b = 0 ∧ t.cart b = {} ∧ t.fget (F.CART_STATUS.PRESENT b) = 0 ∧
      t.fget (F.CART_STATUS.BEACONS b) = 0 ∧ t.fget (F.CART_STATUS.HOURS b) = 0 ∧ t.fget (F.CART_POWER.LOSS b) = 0 ∧
      (s.bayState b = 4 ∨ s.bayState b = 5 → ∀ n x, n < 5 → t.light.lanes.find? (fun p => p.1 = n) = some x → x.2.1 ≠ b) ∧
      t.steer = s.steer ∧ t.mem = s.mem ∧ t.lock = s.lock ∧ t.tows = s.tows) ∧
  (∀ (s : State) (b : Nat) (powers : List Int) (spread : List Nat), s.allWf = true → b < 3 → s.bayState b = 3 →
    (s.cart b).store.length = 4096 → (s.cart b).proved powers spread = true →
    ∃ t, exec (.warmingProof b powers spread) s = .next t ∧ t.bayState b = 4 ∧ (t.cart b).means = powers ∧
      (t.cart b).field 0x104 2 = ((s.cart b).field 0x104 2 + 1) % 65536 ∧ (t.cart b).flagBit 0 = true ∧
      t.steer = s.steer ∧ t.mem = s.mem ∧ t.lock = s.lock ∧ t.tows = s.tows) ∧
  (∀ (s : State) (b : Nat), s.allWf = true → b < 3 → s.bayState b = 3 → (s.cart b).warmSince + 2500000000 ≤ s.time.tb3 →
    ∃ t, exec (.warmingTimeout b) s = .next t ∧ t.bayState b = 7 ∧ (t.cart b).powered = false ∧ t.steer = s.steer ∧ t.mem = s.mem ∧
      t.lock = s.lock ∧ t.tows = s.tows) ∧
  (∀ (s : State) (b : Nat), s.allWf = true → b < 3 → (s.cart b).powered = true →
    ∃ t, exec (.cartTrip b) s = .next t ∧ t.bayState b = 0 ∧ (t.cart b).powered = false ∧
      t.fget F.PWR_RAILS.CART_TRIP / 2 ^ b % 2 = 1 ∧ t.steer = s.steer ∧ t.mem = s.mem ∧ t.lock = s.lock ∧ t.tows = s.tows)

/-- R219–R221, R233, R234, R239, R289: Losses and the fit, the hours and their retry, CART_SWAP and CART_QUERY. -/
def Obligations.FadeAndStore : Prop :=
  (∀ (s : State) (b : Nat) (powers : List Int), s.allWf = true → b < 3 → s.bayState b = 4 → (∀ i ∈ s.inUseOf b, i < 18) →
    let loss := fun i => ((s.cart b).measured powers).loss i
    ∃ t, exec (.fadeMeasurement b powers) s = .next t ∧ (t.cart b).recent = ((s.cart b).recent ++ [powers]).drop
        ((s.cart b).recent.length + 1 - 60) ∧ (t.cart b).means = meansOf (t.cart b).recent ∧
      t.fget (F.CART_POWER.LOSS b) = clampLoss (((s.inUseOf b).map loss).foldl max 0) ∧
      (∀ i ∈ s.inUseOf b, i < 16 → 600 ≤ loss i → i ∈ (t.cart b).failed) ∧
      (10 * s.fget F.FADE_THRESH.WARN ≤ t.fget (F.CART_POWER.LOSS b) → t.fget (F.CART_STATUS.FADE_WARN b) = 1) ∧
      (10 * s.fget F.FADE_THRESH.SWAP ≤ t.fget (F.CART_POWER.LOSS b) → t.fget (F.CART_STATUS.FADE_SWAP b) = 1) ∧
      t.steer = s.steer ∧ t.mem = s.mem ∧ t.lock = s.lock ∧ t.tows = s.tows) ∧
  (∀ (s : State) (b : Nat), s.allWf = true → b < 3 → s.bayState b = 4 → (s.cart b).hourCount ≠ 0 →
    ∃ t, exec (.hourlyFit b) s = .next t ∧ (t.cart b).hourCount = 0 ∧ (t.cart b).hourSum = [] ∧ (t.cart b).hourly.length = 18 ∧
      (∀ i, i < 18 → ((t.cart b).hourly.getD i []).length ≤ 168 ∧
        ((t.cart b).hourly.getD i []).getLast? =
          some ((2 * (s.cart b).hourSum.getD i 0 + (s.cart b).hourCount) / (2 * ((s.cart b).hourCount : Int)))) ∧
      t.fget (F.CART_POWER.PREDICT b) =
        clampLoss (((s.inUseOf b).filterMap (fun i => (fitOf ((t.cart b).hourly.getD i []) (s.fget F.FADE_THRESH.HORIZON)).map (·.2))).foldl
          max 0) ∧
      t.steer = s.steer ∧ t.mem = s.mem ∧ t.lock = s.lock ∧ t.tows = s.tows) ∧
  (∀ (s : State) (b : Nat), s.allWf = true → b < 3 → (s.cart b).powered = true → (s.cart b).store.length = 4096 →
    (s.cart b).retry = [] →
    let h := (s.cart b).field 0x100 4 + 1
    let record := le 4 h ++ (List.range 18).flatMap (fun i => le 2 (ofSigned 16 ((s.cart b).means.getD i 0)))
    (h % 500 = 0 → h < (s.cart b).field 0x44 4 →
      ∃ t, exec (.hoursUpdate b true) s = .next t ∧
        t.cart b = { s.cart b with store := storeWith (0x140 + 40 * (h / 500 % 80)) record (storeWith 0x100 (le 4 h) (s.cart b).store) } ∧
        t = { s with regs := t.regs, light := { s.light with carts := t.light.carts }, out := t.out } ∧
        fieldsKept s t [F.CART_STATUS.HOURS b]) ∧
    (h % 500 ≠ 0 → h < (s.cart b).field 0x44 4 →
      ∃ t, exec (.hoursUpdate b true) s = .next t ∧ t.cart b = { s.cart b with store := storeWith 0x100 (le 4 h) (s.cart b).store } ∧
        (t.cart b).field 0x100 4 = h ∧ t.fget (F.CART_STATUS.HOURS b) = min 65535 h ∧
        t = { s with regs := t.regs, light := { s.light with carts := t.light.carts }, out := t.out } ∧
        fieldsKept s t [F.CART_STATUS.HOURS b]) ∧
    (h % 500 ≠ 0 → h < (s.cart b).field 0x44 4 →
      ∃ t, exec (.hoursUpdate b false) s = .next t ∧ t.cart b = { s.cart b with retry := [(0x100, le 4 h)] } ∧
        t = { s with regs := t.regs, light := { s.light with carts := t.light.carts } }) ∧
    (h % 500 ≠ 0 → (s.cart b).field 0x44 4 ≤ h →
      ∃ t, exec (.hoursUpdate b true) s = .next t ∧ t.fget (F.CART_STATUS.END_OF_LIFE b) = 1 ∧
        (s.bayState b = 4 → (s.cart b).endFlags / 8 % 2 = 0 → (t.cart b).retire = true) ∧ t.steer = s.steer ∧ t.mem = s.mem ∧
        t.lock = s.lock)) ∧
  (∀ (s : State) (b : Nat), s.allWf = true → b < 3 → (s.cart b).retry ≠ [] →
    (∃ t, exec (.storeWriteRetry b true) s = .next t ∧ t.cart b = { s.cart b with store := (s.cart b).meant, retry := [] } ∧
      t = { s with counters := t.counters, out := t.out, light := { s.light with carts := t.light.carts } }) ∧
    (∃ t, exec (.storeWriteRetry b false) s = .next t ∧ t = { s with counters := t.counters })) ∧
  (∀ (s : State) (src : Src) (b : Nat) (r : Bool), s.allWf = true → s.accepts 0x71 src →
    (3 ≤ b → ∃ t, exec (.cartSwap src b r) s = .next t ∧ answered s t 0x71 src .refused Reason.range.code 0 [] [] ∧
      reports (s.without src) t [])) ∧
  (∀ (s : State) (src : Src) (b : Nat) (r : Bool), s.allWf = true → s.accepts 0x71 src → b < 3 →
    (s.light.insertion = none → s.baysIn 2 ≠ [] → s.bayState b ≠ 4 →
      ∃ t, exec (.cartSwap src b r) s = .next t ∧ answered s t 0x71 src .refused Reason.state.code 0 [] [] ∧
        reports (s.without src) t []) ∧
    (∀ n, s.light.insertion = none → s.bayState b = 4 → (s.baysIn 2).head? = some n →
      ∃ t, exec (.cartSwap src b r) s = .next t ∧
        t.light.insertion = some { old := b, new := n, step := 1, cmd := some src } ∧ t.bayState n = 3 ∧
        (t.cart n).powered = true ∧ (t.cart b).retire = (r || (s.cart b).retire) ∧
        reports { s.without src with light := { s.light with carts := t.light.carts, insertion := t.light.insertion } } t
          [F.CART_STATUS.STATE n, F.PWR_RAILS.CART_ON]) ∧
    (s.light.insertion = none → s.baysIn 2 = [] →
      ∃ t, exec (.cartSwap src b r) s = .next t ∧ answered s t 0x71 src .refused Reason.resource.code 0 [] [] ∧
        reports (s.without src) t []) ∧
    (s.light.insertion ≠ none →
      ∃ t, exec (.cartSwap src b r) s = .next t ∧ answered s t 0x71 src .refused Reason.inProgress.code 0 [] [] ∧
        reports (s.without src) t [])) ∧
  (∀ (s : State) (src : Src) (b : Nat), s.allWf = true → s.accepts 0x70 src → 3 ≤ b →
    ∃ t, exec (.cartQuery src b) s = .next t ∧ answered s t 0x70 src .refused Reason.range.code 0 [] [] ∧
      reports (s.without src) t []) ∧
  (∀ (s : State) (src : Src) (b : Nat), s.allWf = true → s.accepts 0x70 src → b < 3 →
    ((s.cart b).store ≠ [] → ∃ t, exec (.cartQuery src b) s = .next t ∧
      answered s t 0x70 src .done 0 0 [] (padTo 4096 (s.cart b).store ++ padTo 128 (s.cartFade b)) ∧ reports (s.without src) t []) ∧
    ((s.cart b).store = [] → ∃ t, exec (.cartQuery src b) s = .next t ∧
      answered s t 0x70 src .refused Reason.unknown.code 0 [] [] ∧ reports (s.without src) t []))

/-- R235–R238: The steps of an insertion, of the move of a tether lane and of a service bus, and a fading bay without a spare. -/
def Obligations.Insertions : Prop :=
  (∀ (s : State) (i : Insertion), s.allWf = true → s.light.insertion = some i → i.old < 3 → i.new < 3 → i.old ≠ i.new →
    s.ringsIn 3 = 0 → s.poundState 14 ≠ 3 → s.light.move = none →
    (i.step = 1 → s.bayState i.new = 4 → ∃ t, exec .insertion s = .next t ∧ t.bayState i.old = 5 ∧
      t.fget (F.CART_STATUS.MIGRATING i.old) = 1 ∧ t.fget (F.CART_STATUS.MIGRATING i.new) = 1 ∧
      t.light.insertion = some { i with step := 2 } ∧
      t = { s with regs := t.regs, light := { s.light with insertion := t.light.insertion, first := t.light.first
                                                           second := t.light.second } }) ∧
    (i.step = 2 → s.bayState i.new = 4 → s.bayState i.old = 5 → ∃ t, exec .insertion s = .next t ∧
      (∀ h, h < 2 → t.fget (srcFld h) = if s.fget (srcFld h) = i.old then i.new else s.fget (srcFld h)) ∧
      t.light.insertion = some { i with step := 3 } ∧ t.steer = s.steer ∧ t.mem = s.mem ∧ t.lock = s.lock) ∧
    (i.step = 3 → ∃ t, exec .insertion s = .next t ∧ t = { s with light := { s.light with insertion := some { i with step := 4 } } }) ∧
    (i.step = 4 → s.lanesToMove i = [] → ∃ t, exec .insertion s = .next t ∧
      t = { s with light := { s.light with insertion := some { i with step := 5 } } }) ∧
    (i.step = 5 → s.busToMove i 0 = false → s.busToMove i 1 = false → s.portsMoving = false → s.light.queued = [] →
      s.bayState i.old = 5 → ∃ t, exec .insertion s = .next t ∧ t.light.insertion = none ∧
        t.bayState i.old = (if (s.cart i.old).retire then 6 else 2) ∧ (t.cart i.old).powered = false ∧
        t.fget (F.CART_STATUS.MIGRATING i.old) = 0 ∧ t.fget (F.CART_STATUS.MIGRATING i.new) = 0 ∧
        (∀ src, i.cmd = some src → (s.queue (s.cqOf src)).en = true → (s.queue (s.cqOf src)).dir = true →
          (s.queue (s.cqOf src)).broken = false → s.link.flrDiscard.contains src = false → answered s t 0x71 src .done 0 0 [] []) ∧
        t.steer = s.steer ∧ t.mem = s.mem ∧ t.lock = s.lock)) ∧
  (∀ (s : State) (i : Insertion) (n : Nat), s.allWf = true → s.light.insertion = some i → i.step = 4 → n < 4 → s.ringsIn 3 = 0 →
    s.poundState 14 ≠ 3 →
    (s.light.move = none → (s.lanesToMove i).head? = some n → s.laneUsed n = true → s.laneUsed 4 = false →
      s.light.lanes.any (fun p => p.1 = 4 && p.2.1 = i.new) = true →
      ∃ t, exec (.tetherLaneMove n) s = .next t ∧ t = { s with light := { s.light with move := some (n, 1) } }) ∧
    (s.light.move = some (n, 1) → s.pair.peerLanes.contains 4 = true →
      ∃ t, exec (.tetherLaneMove n) s = .next t ∧ t.light.move = some (n, 2) ∧ t.laneUsed n = false ∧ t.laneUsed 4 = true ∧
        t = { s with regs := t.regs, light := { s.light with move := t.light.move } } ∧ fieldsKept s t [F.TETHER_LANES.IN_USE]) ∧
    (∀ x, s.light.move = some (n, 2) → s.tetherLine i.new = some x →
      ∃ t, exec (.tetherLaneMove n) s = .next t ∧ t.light.move = some (n, 3) ∧
        (t.light.lanes.find? (fun p => p.1 = n)).map (·.2) = some x ∧ t.steer = s.steer ∧ t.mem = s.mem ∧ t.lock = s.lock) ∧
    (s.light.move = some (n, 3) → s.pair.peerLanes.contains n = true →
      ∃ t, exec (.tetherLaneMove n) s = .next t ∧ t.light.move = none ∧ t.laneUsed n = true ∧ t.steer = s.steer ∧ t.mem = s.mem ∧
        t.lock = s.lock)) ∧
  (∀ (s : State) (i : Insertion) (j : Nat), s.allWf = true → s.light.insertion = some i → i.step = 5 → j < 2 → s.ringsIn 3 = 0 →
    s.poundState 14 ≠ 3 →
    (s.busToMove i j = true → ∃ t, exec (.serviceBusMove j) s = .next t ∧ t.light.buses = s.busAfter i j ∧
      t.light.insertion = some i ∧ t.light.lanes = s.light.lanes ∧ t.steer = s.steer ∧ t.mem = s.mem ∧ t.lock = s.lock) ∧
    (s.busToMove i j = false → ∃ t, exec (.serviceBusMove j) s = .next t ∧ t.light.buses = s.light.buses ∧
      (∀ p ∈ busPorts j, s.bit (F.SVC_PORT_CTRL.MOVING p) = true → t.fget (F.SVC_PORT_CTRL.MOVING p) = 0) ∧ t.steer = s.steer ∧
      t.mem = s.mem ∧ t.lock = s.lock)) ∧
  (∀ (s : State) (b o : Nat), s.allWf = true → b < 3 → s.bayState b = 4 → (s.cart b).retire = true → s.baysIn 2 = [] →
    s.light.insertion = none → (s.baysIn 4).find? (fun x => decide (x ≠ b)) = some o →
    ∃ t, exec (.insertionWithoutSpare b) s = .next t ∧
      t = { s with light := { s.light with insertion := some { old := b, new := o, step := 2, cmd := none } } })

/-- R226–R232: Searches, a ring lost and found again, the heater loop, DAC recalibration and beacons. The loop's next state is the
model's free value (log 3). -/
def Obligations.RingsAndBeacons : Prop :=
  (∀ (s : State) (found : List (Nat × Option Nat)), s.allWf = true → s.combOn = true → s.lightHeld = false →
    ∃ t, exec (.resonanceSearch found) s = .next t ∧ t.fget F.RING_STATUS.SEARCH_DONE = 1 ∧
      (∀ r c, r < 176 → s.searches r = true → s.ringState r ≠ 2 → s.ringState r ≠ 4 → foundOf found r = some (some c) → c < 4096 →
        t.ringState r = 2 ∧ t.fget (F.RING_STATE.HEATER r) = c) ∧
      (∀ r, r < 176 → s.searches r = true → s.ringState r ≠ 2 → s.ringState r ≠ 4 → isReceive r = true → foundOf found r = none →
        t.ringState r = 1) ∧ t.steer = s.steer ∧ t.mem = s.mem ∧ t.lock = s.lock) ∧
  (∀ (s : State) (found : List (Nat × Option Nat)), s.allWf = true → s.combOn = true → s.lightHeld = false →
    ∃ t, exec (.warmSearch found) s = .next t ∧ t.fget F.RING_STATUS.WARM = 1 ∧
      (∀ r c, r < 176 → s.searches r = true → s.ringState r ≠ 2 → s.ringState r ≠ 4 → foundOf found r = some (some c) → c < 4096 →
        (c ≤ s.fget (F.RING_STATE.HEATER r) + 64 → s.fget (F.RING_STATE.HEATER r) ≤ c + 64 →
          t.ringState r = 2 ∧ t.fget (F.RING_STATE.HEATER r) = c) ∧
        (s.fget (F.RING_STATE.HEATER r) + 64 < c → t.ringState r = 1)) ∧
      (∀ r, r < 176 → s.searches r = true → s.ringState r ≠ 2 → s.ringState r ≠ 4 → foundOf found r = none → t.ringState r = 1) ∧
      t.steer = s.steer ∧ t.mem = s.mem ∧ t.lock = s.lock) ∧
  (∀ (s : State) (r : Nat), s.allWf = true → r < 176 → s.lightHeld = false →
    (∀ c, s.ringState r = 2 ∨ s.ringState r = 3 → c < 4096 → ∃ t, exec (.ringRetraining r (some c)) s = .next t ∧ t.ringState r = 2 ∧
      t.fget (F.RING_STATE.HEATER r) = c ∧ t.steer = s.steer ∧ t.mem = s.mem ∧ t.lock = s.lock) ∧
    (s.ringState r = 2 → ∃ t, exec (.ringRetraining r none) s = .next t ∧ t.ringState r = 3 ∧ t.steer = s.steer ∧ t.mem = s.mem) ∧
    (s.ringState r = 3 → ∃ t, exec (.ringRetraining r none) s = .next t ∧ t.ringState r = 4 ∧
      t.light.spared.any (fun p => p.2 = r) = false ∧ t.steer = s.steer ∧ t.mem = s.mem) ∧
    (∀ err b, s.ringState r = 2 → s.ringBank r = some b → ∃ t, exec (.ringLockLoop r err) s = .next t ∧
      t = { s with light := { s.light with loops := spSet {} s.light.loops r ((spGet {} s.light.loops r).tick b err) } }) ∧
    (∀ err, s.ringState r = 2 → s.ringBank r = none → ∃ t, exec (.ringLockLoop r err) s = .next t ∧
      (spGet {} t.light.loops r).ePrev = err ∧ (∀ q, q ≠ r → spGet {} t.light.loops q = spGet {} s.light.loops q) ∧
      t = { s with free := s.free + 3, light := { s.light with loops := t.light.loops } }) ∧
    (∀ c, isReceive r = true → s.ringState r = 1 → c < 4096 → ∃ t, exec (.receiveRingLock r c) s = .next t ∧ t.ringState r = 2 ∧
      t.fget (F.RING_STATE.HEATER r) = c ∧ t = { s with regs := t.regs } ∧
      fieldsKept s t [F.RING_STATE.STATE r, F.RING_STATE.HEATER r, F.RING_STATE.LINE r, F.RING_STATE.BAY r])) ∧
  (∀ (s : State) (p : Nat), s.allWf = true → p < 16 → s.bit (F.SVC_PORT_CTRL.DAC_PENDING p) = true →
    s.bit (F.SVC_PORT_CTRL.BUSY p) = false → s.lightHeld = false →
    ∃ t, exec (.dacRecalibration p) s = .next t ∧ t.fget (F.SVC_PORT_CTRL.DAC_PENDING p) = 0 ∧
      ((∀ k, k < 4 → s.ringOf (svcRing p k) = svcRing p k) → ∀ k, k < 4 →
        spGet 0 t.light.dac (svcRing p k) = s.free + 16 * k) ∧
      t = { s with regs := t.regs, counters := t.counters, free := t.free, light := { s.light with dac := t.light.dac } } ∧
      fieldsKept s t [F.SVC_PORT_CTRL.DAC_PENDING p]) ∧
  (∀ (s : State) (h : Nat) (sum : Int), s.allWf = true → h < 2 → s.fget (srcFld h) < 3 → s.rung ≤ 2 → s.holds h = true →
    spWf 0 0 s.light.beacon = true →
    ∃ t, exec (.beaconTrim h sum) s = .next t ∧
      spGet 0 t.light.beacon h = spGet 0 s.light.beacon h + clampI (-25) 25 (s.beaconTarget h - sum) ∧
      laneBit (t.fget (F.CART_STATUS.BEACONS (s.fget (srcFld h)))) h = s.light.mated.contains h ∧
      t = { s with regs := t.regs, light := { s.light with beacon := t.light.beacon } }) ∧
  (∀ (s : State) (h : Nat) (sum : Int), s.allWf = true → h < 2 → s.fget (srcFld h) < 3 → s.rung ≤ 2 → s.holds h = false →
    spWf 0 0 s.light.beacon = true →
    ∃ t, exec (.beaconTrim h sum) s = .next t ∧
      (s.bit F.BEACON_CTRL.SHARE = true → s.pairEn = true → spGet 0 t.light.beacon h = s.beaconTarget h - 300 ∧
        laneBit (t.fget (F.CART_STATUS.BEACONS (s.fget (srcFld h)))) h = s.light.mated.contains h) ∧
      (s.bit F.BEACON_CTRL.SHARE = false ∨ s.pairEn = false → spGet 0 t.light.beacon h = spGet 0 s.light.beacon h ∧
        laneBit (t.fget (F.CART_STATUS.BEACONS (s.fget (srcFld h)))) h = false) ∧
      t = { s with regs := t.regs, light := { s.light with beacon := t.light.beacon } }) ∧
  (∀ (s : State) (h : Nat), s.allWf = true → h < 2 → s.fget (srcFld h) < 3 →
    ∃ t, exec (.beaconLoss h) s = .next t ∧
      t.fget (srcFld h) = ((s.baysIn 4 ++ s.baysIn 2).filter (fun b => decide (b ≠ s.fget (srcFld h)))).headD 3 ∧
      laneBit (t.fget (F.CART_STATUS.BEACONS (s.fget (srcFld h)))) h = false ∧ t.steer = s.steer ∧ t.mem = s.mem ∧ t.lock = s.lock)

/-- R198, R236, R373, R374: Block lock of a tether lane lost and gained, the switch of the fibre pair, and connectors unmated and mated.
-/
def Obligations.TetherLanes : Prop :=
  (∀ (s : State) (n : Nat), s.allWf = true → n < 4 → laneBit (s.fget F.TETHER_LANES.UP) n = true → s.laneUsed n = true →
    s.laneLocked 4 = true → s.laneUsed 4 = false → s.laneMoving = false →
    ∀ locked, ∃ t, exec (.tetherLaneFailover n locked) s = .next t ∧ laneBit (t.fget F.TETHER_LANES.UP) n = locked ∧
      t.laneUsed n = false ∧ t.laneUsed 4 = true ∧ t.fget F.TETHER_LANES.SPARE_USED = 1 ∧ n ∈ t.pair.lostLanes ∧ t.steer = s.steer ∧
      t.mem = s.mem ∧ t.lock = s.lock) ∧
  (∀ (s : State) (n : Nat), s.allWf = true → n < 4 → s.rung ≤ 2 → s.light.move = none →
    (s.pair.peerLanes.contains n = true →
      ∃ t, exec (.tetherBlockLock n false) s = .next t ∧ laneBit (t.fget F.TETHER_LANES.UP) n = true ∧ t.laneUsed n = true ∧
        t.steer = s.steer ∧ t.mem = s.mem ∧ t.lock = s.lock) ∧
    (laneBit (s.fget F.TETHER_LANES.UP) n = true →
      ∃ t, exec (.tetherBlockLock n true) s = .next t ∧ n ∈ t.pair.peerLanes ∧ t.laneUsed n = true ∧ t.steer = s.steer ∧
        t.mem = s.mem ∧ t.lock = s.lock)) ∧
  (∀ (s : State), s.allWf = true →
    ∃ t, exec .tetherPairSwitch s = .next t ∧ reports { s with pair := { s.pair with fibre := 1 - s.pair.fibre } } t []) ∧
  (∀ (s : State) (c : Nat), s.allWf = true → c < 4 →
    (s.light.mated.contains c = true →
      ∃ t, exec (.connectorUnmated c) s = .next t ∧ t.light.mated = s.light.mated.filter (fun x => decide (x ≠ c)) ∧
        (c = 2 → ∀ n, n < 5 → t.laneUsed n = false) ∧
        (c < 2 → s.fget (srcFld c) < 3 → laneBit (t.fget (F.CART_STATUS.BEACONS (s.fget (srcFld c)))) c = false) ∧
        (c = 3 → t = { s with light := { s.light with mated := t.light.mated }, out := s.out ++ [.light c false] }) ∧
        t.steer = s.steer ∧ t.mem = s.mem ∧ t.lock = s.lock) ∧
    (s.light.mated.contains c = false →
      ∃ t, exec (.connectorMated c) s = .next t ∧ t.light.mated = s.light.mated ++ [c] ∧ t.out = s.out ++ [.light c true] ∧
        (c < 2 → s.rung ≤ 2 → s.fget (srcFld c) < 3 → laneBit (t.fget (F.CART_STATUS.BEACONS (s.fget (srcFld c)))) c = true) ∧
        t = { s with regs := t.regs, light := { s.light with mated := t.light.mated }, out := t.out }))

/-! ## Power and the ladder (R294–R312) -/

/-- R297–R300, R104: A step of the power manager, the cap missed, POWER_CAP and its completion, and the loss of a CORE phase. -/
def Obligations.PowerManager : Prop :=
  (∀ (s : State) (paces : List Nat) (slow fast input current : Nat), s.allWf = true → s.rung ≤ 2 → s.power.railsOff = false →
    s.boot.resetLow = false →
    ∃ t, exec (.powerManagerStep paces slow fast input current) s = .next t ∧ t.fget F.PWR_PACE.ACHIEVED = min 255 slow ∧
      t.fget F.PWR_CAP.INPUT = min 65535 input ∧ t.fget F.PWR_PACE.FLOOR = (s.paceBound slow input current).floor.toNat ∧
      t.fget F.PWR_PACE.PHASE_LIMITED = (s.paceBound slow input current).phase.toNat ∧
      t.fget F.PWR_PACE.CAP_LIMITED = (s.paceBound slow input current).cap.toNat ∧
      (∀ n, n < 4 → ¬(1 ≤ t.arrayState n ∧ t.arrayState n ≤ 3) → t.fget (paceField n) = 0) ∧
      (t.fget F.PWR_PACE.THROTTLED = 1 ↔ ((s.paceBound slow input current).floor = true ∨ (s.paceBound slow input current).phase = true) ∧
        s.capNow ≠ 0 ∧ s.capNow < input) ∧
      (550 ≤ s.fget F.PWR_PACE.CORE_MV → s.fget F.PWR_PACE.CORE_MV ≤ 850 →
        550 ≤ t.fget F.PWR_PACE.CORE_MV ∧ t.fget F.PWR_PACE.CORE_MV ≤ 850 ∧
        t.fget F.PWR_PACE.CORE_MV ≤ s.fget F.PWR_PACE.CORE_MV + 10 ∧ s.fget F.PWR_PACE.CORE_MV ≤ t.fget F.PWR_PACE.CORE_MV + 10) ∧
      t.steer = s.steer ∧ t.mem = s.mem ∧ t.lock = s.lock) ∧
  (∀ (s : State) (slow fast input current w : Nat) (src : Src), s.allWf = true → s.rung ≤ 2 → s.power.railsOff = false →
    s.boot.resetLow = false → s.power.capWaits = [(src, w)] → w + 500000 ≤ s.time.tb3 → (s.queue (s.cqOf src)).en = true →
    (s.queue (s.cqOf src)).dir = true → (s.queue (s.cqOf src)).broken = false → s.link.flrDiscard.contains src = false →
    ∃ t, exec (.powerManagerStep [] slow fast input current) s = .next t ∧ t.power.capWaits = [] ∧
      answered s t 0x61 src .done 0 0 (le 2 (min 255 slow)) []) ∧
  (∀ (s : State) (w : Nat), s.allWf = true → s.power.overSince = some w → w + 5000000 ≤ s.time.tb3 →
    ∃ t, exec .capMiss s = .next t ∧ t.fget F.PWR_CAP.CAP_MISS = 1 ∧
      reports { s with power := { s.power with overSince := some s.time.tb3 } } t [F.PWR_CAP.CAP_MISS]) ∧
  (∀ (s : State) (src : Src) (cap pace : Nat), s.allWf = true → s.accepts 0x61 src → cap ≤ 1023 → pace ≤ 255 →
    ∃ t, exec (.powerCap src cap pace) s = .next t ∧
      t.fget F.PWR_CAP.CAP = (if cap = 0 then s.fget F.PWR_CAP.CAP else cap) ∧
      t.fget F.PWR_PACE.REQ = (if pace = 0 then s.fget F.PWR_PACE.REQ else pace) ∧
      t = { s.without src with regs := t.regs, counters := t.counters,
                               power := { s.power with capWaits := s.power.capWaits ++ [(src, s.time.tb3)] } } ∧
      fieldsKept s t [F.PWR_CAP.CAP, F.PWR_PACE.REQ]) ∧
  (∀ (s : State) (p : Nat), s.allWf = true → p < 26 → p ∉ s.power.phases → s.held = false → s.rung ≤ 2 → s.power.phases.length ≤ 22 →
    ∃ t, exec (.phaseIsolation p) s = .next t ∧ t.power = { s.power with phases := s.power.phases ++ [p] } ∧
      t.fget F.PWR_RAILS.CORE_PHASES = 25 - s.power.phases.length ∧ t.fget F.PWR_RAILS.PHASE_FAIL = 1 ∧ t.steer = s.steer ∧
      t.mem = s.mem ∧ t.lock = s.lock ∧ t.tows = s.tows)

/-- R308–R310: The readings of the sensors, the halt of a hot array, the stay in L1 for heat and its end. TJ drops the fraction of a
degree by the model's choice (log 36). -/
def Obligations.Temperatures : Prop :=
  (∀ (s : State) (temps : List (Nat × Int)), s.allWf = true →
    ∃ t, exec (.temperatureRead temps) s = .next t ∧
      (∀ n, n < 64 → (∀ p, temps.find? (fun p => p.1 = n) = some p →
          t.fget (F.PWR_TEMP.TEMP n) = ofSigned 16 p.2 ∧ t.fget (F.PWR_TEMP.VALID n) = 1) ∧
        (temps.find? (fun p => p.1 = n) = none → t.fget (F.PWR_TEMP.VALID n) = 0 ∧
          t.fget (F.PWR_TEMP.TEMP n) = s.fget (F.PWR_TEMP.TEMP n))) ∧
      (∀ n v, highest (t.tempsOf 0 48) = some (n, v) → t.fget F.PWR_THERM.TJ = ofSigned 8 (v / 16) ∧ t.fget F.PWR_THERM.HOT = n ∧
        (1520 ≤ v → s.power.warm = false → t.fget F.PWR_THERM.WARN = 1)) ∧
      t.steer = s.steer ∧ t.mem = s.mem ∧ t.lock = s.lock ∧ t.tows = s.tows) ∧
  (∀ (s : State) (a : Nat), s.allWf = true → a < 4 → s.unitLead a = true → s.hotArray a = true → s.atRest a = true →
    1 ≤ s.arrayState a → s.arrayState a ≤ 3 →
    ∃ t, exec (.thermalHalt a) s = .next t ∧ t.arrayState a = 4 ∧ t.heatHalted a = true ∧ t.steer = s.steer ∧ t.mem = s.mem ∧
      t.lock = s.lock) ∧
  (∀ (s : State) (w : Nat), s.allWf = true → s.power.hotSince = some w → s.rung = 0 → w + 50000000 ≤ s.time.tb3 → s.held = false →
    s.berthRuns = false →
    ∃ t, exec .thermalL1Entry s = .next t ∧ t.rung = 1 ∧ t.fget F.PWR_THERM.THERM_RUNG = 1 ∧ t.fget F.PWR_RUNG_STATE.CAUSE = 2 ∧
      t.fget F.PWR_RUNG_STATE.MOVING = 0 ∧
      ((∀ x ∈ s.tows.tows, x.inBarge = false) → ∀ n, n < 4 → t.arrayState n = 0 ∨ t.arrayState n = 6) ∧ t.steer = s.steer ∧
      t.mem = s.mem) ∧
  (∀ (s : State), s.allWf = true → s.fget F.PWR_THERM.THERM_RUNG = 1 → s.cooled = true → s.rung = 1 → s.held = false →
    s.power.afterHeat.getD 0 ≠ 1 →
    ∃ t, exec .thermalRecovery s = .next t ∧ t.fget F.PWR_THERM.THERM_RUNG = 0 ∧ t.fget F.PWR_WAKE.LAST = 5 ∧
      t.fget F.PWR_RUNG_STATE.CAUSE = 2 ∧ t.fget F.PWR_RUNG_STATE.MOVING = 1 ∧
      t.power = { s.power with afterHeat := none, hotSince := none, moving := true, goal := s.power.afterHeat.getD 0 } ∧
      t = { s with regs := t.regs, counters := t.counters, power := t.power })

/-- R302, R305, R307, R312: Asking for a rung by command and by register, and the wake sources. -/
def Obligations.RungAsks : Prop :=
  (∀ (s : State) (src : Src) (r : Nat), s.allWf = true → s.accepts 0x60 src → r ≤ 5 → s.power.moving = false → s.power.cmd = none →
    (s.rung < r → s.descentBlocked = false) → s.fget F.PWR_THERM.THERM_RUNG = 0 →
    (r ≠ s.rung → ∃ t, exec (.rungSet src r) s = .next t ∧ t.power = { s.power with goal := r, moving := true, cmd := some src } ∧
      t.fget F.PWR_RUNG_STATE.MOVING = 1 ∧ t.fget F.PWR_RUNG_STATE.CAUSE = 0 ∧ t.rung = s.rung ∧
      t = { s.without src with regs := t.regs, counters := t.counters, power := t.power } ∧
      fieldsKept s t [F.PWR_RUNG_STATE.MOVING, F.PWR_RUNG_STATE.CAUSE]) ∧
    (r = s.rung → ∃ t, exec (.rungSet src r) s = .next t ∧ answered s t 0x60 src .done 0 0 (le 1 r) [] ∧ reports (s.without src) t [])) ∧
  (∀ (s : State) (src : Src) (r : Nat), s.allWf = true → s.accepts 0x60 src → r ≤ 5 → s.power.moving = true →
    ∃ t, exec (.rungSet src r) s = .next t ∧ answered s t 0x60 src .refused Reason.inProgress.code 0 [] [] ∧ reports (s.without src) t []) ∧
  (∀ (s : State) (v : Word), s.allWf = true → s.reaches 0x100000 = true → fldOf v F.PWR_RUNG_REQ.RUNG ≤ 5 → s.power.moving = false →
    (s.active = true → s.rung < fldOf v F.PWR_RUNG_REQ.RUNG → s.descentBlocked = false → s.fget F.PWR_THERM.THERM_RUNG = 0 →
      ∃ t, exec (.rungRequestWrite v) s = .next t ∧ t.fget F.PWR_RUNG_REQ.RUNG = fldOf v F.PWR_RUNG_REQ.RUNG ∧
        t.power = { s.power with goal := fldOf v F.PWR_RUNG_REQ.RUNG, moving := true } ∧ t.fget F.PWR_RUNG_STATE.MOVING = 1 ∧
        t.rung = s.rung ∧ t = { s with regs := t.regs, power := t.power }) ∧
    (s.active = false →
      ∃ t, exec (.rungRequestWrite v) s = .next t ∧ t.fget F.PWR_RUNG_REQ.REQ_ERR = 1 ∧ t = { s with regs := t.regs })) ∧
  (∀ (s : State) (c : Instr) (source : Nat), s.allWf = true → s.mayWake = true →
    (c = .wake ∧ source = 1 ∧ s.fget F.PWR_WAKE.PIN_EN = 1) ∨
    (c = .wakeTimer ∧ source = 4 ∧ s.fget F.PWR_WAKE.TIMER_EN = 1 ∧
      s.power.since + max 1 (s.fget F.PWR_WAKE.TIMER) * 500000000 ≤ s.time.tb3) ∨
    (c = .commandWake ∧ source = 2 ∧ s.fget F.PWR_WAKE.CMD_EN = 1 ∧ s.rung ≤ 2 ∧ s.taken.any wakes = true) →
    ∃ t, exec c s = .next t ∧ t.fget F.PWR_WAKE.LAST = source ∧ t.power = { s.power with goal := 0, moving := true } ∧
      t.fget F.PWR_RUNG_STATE.MOVING = 1 ∧ t.fget F.PWR_RUNG_STATE.CAUSE = 1 ∧ t.rung = s.rung ∧
      t = { s with regs := t.regs, counters := t.counters, power := t.power } ∧
      fieldsKept s t [F.PWR_WAKE.LAST, F.PWR_RUNG_STATE.MOVING, F.PWR_RUNG_STATE.CAUSE])

/-- R121, R302–R304, R306: The descent goes one rung down and the rise one rung up, with what each entry loses and restores. The parking
move is over within the command by the model's choice (log 37). -/
def Obligations.RungMoves : Prop :=
  (∀ (s : State), s.allWf = true → s.power.moving = true → s.rung < s.power.goal → s.held = false →
    (s.rung = 0 → s.berthRuns = false → ∃ t, exec .rungDescent s = .next t ∧ t.rung = 1 ∧
      ((∀ x ∈ s.tows.tows, x.inBarge = false) → ∀ n, n < 4 → t.arrayState n = 0 ∨ t.arrayState n = 6) ∧
      t.fget F.AUC_STATUS.IN_SERVICE = 0 ∧ t.fget F.AUC_STATUS.BUSY = 0 ∧ t.steer = s.steer ∧ t.mem = s.mem ∧
      (s.power.goal = 1 → t.power.moving = false ∧ t.fget F.PWR_RUNG_STATE.MOVING = 0)) ∧
    (s.rung = 1 → ∃ t, exec .rungDescent s = .next t ∧ t.rung = 2 ∧ t.tows.spaces = [] ∧ t.tows.tows = [] ∧ t.steer = s.steer ∧
      t.mem.stack = s.mem.stack ∧ t.lock.paths = s.lock.paths) ∧
    (s.rung = 2 → s.power.cmd = none → s.power.goal = 3 → ∃ t m, exec .rungDescent s = .next t ∧ t.rung = 3 ∧ t.power.mooring = some m ∧
      m.axes = s.steer.axes.map (fun p => (p.1, p.2.target, p.2.u)) ∧ m.peer = s.standing ∧ m.settle = s.map.settle ∧
      t.link.queues = [] ∧ t.steer.axes = [] ∧ t.lock.paths = [] ∧ t.mem.stack = [] ∧ t.power.moving = false) ∧
    (s.rung = 3 → s.unparked = false → ∃ t, exec .rungDescent s = .next t ∧ t.rung = 4 ∧ t.boot.dumped = false ∧
      t.power.mooring = s.power.mooring) ∧
    (s.rung = 4 → s.boot.dumped = true → ∃ t, exec .rungDescent s = .next t ∧ t.rung = 5 ∧ t.power.mooring = none ∧
      t.time.tb3 = s.time.tb3)) ∧
  (∀ (s : State), s.allWf = true → s.power.moving = true → s.power.goal < s.rung → s.held = false →
    ∃ t, exec .rungRise s = .next t ∧ t.rung = s.rung - 1 ∧ (s.power.goal + 1 = s.rung → t.power.moving = false) ∧
      (s.rung = 1 → (∀ n, n < 4 → t.arrayState n = 1 ∨ t.arrayState n = 4 ∨ t.arrayState n = 6 ∨
          (t.arrayState n = s.arrayState n ∧ 2 ≤ s.arrayState n ∧ s.arrayState n ≤ 3)) ∧
        (∀ w ∈ t.tows.tows, w.phase ≠ .halted) ∧ t.steer = s.steer ∧ t.mem = s.mem) ∧
      (∀ m, s.rung = 3 → s.power.mooring = some m → t.lock.paths = m.peer.map (fun p => ({ a := p.1, b := p.2 } : Path)) ∧
        (∀ n, n < 15 → t.poundState n = 2) ∧ t.map.reloading = true)) ∧
  (∀ (s : State) (ol : Bool), s.allWf = true → s.held = false → s.power.moving = false →
    (s.rung = 3 → s.power.since + s.moorMin * 60 * 500000000 ≤ s.time.tb3 →
      ∃ t, exec (.moorTouchUp ol) s = .next t ∧ t.rung = 2 ∧ t.fget F.PWR_RUNG_STATE.TOUCH = 1 ∧ t.fget F.PWR_RUNG_STATE.CAUSE = 3) ∧
    (s.rung = 2 → s.fget F.PWR_RUNG_STATE.TOUCH = 1 → ol = true →
      ∃ t, exec (.moorTouchUp ol) s = .next t ∧ t.rung = 2 ∧ t.fget F.PWR_RUNG_STATE.TOUCH = 0 ∧ t.power.touchAlert = true ∧
        reports { s with power := { s.power with touchAlert := true } } t [F.PWR_RUNG_STATE.TOUCH]) ∧
    (s.rung = 2 → s.power.goal ≤ 3 → s.fget F.PWR_RUNG_STATE.TOUCH = 1 → ol = false → s.pathOpen = false → s.power.since + s.touchLen ≤ s.time.tb3 →
      ∃ t m, exec (.moorTouchUp ol) s = .next t ∧ t.rung = 3 ∧ t.fget F.PWR_RUNG_STATE.TOUCH = 0 ∧ t.power.mooring = some m ∧
        m.axes = s.steer.axes.map (fun p => (p.1, p.2.target, p.2.u))))

/-! ## Reliability, images, logbook and counters (R326–R356) -/

/-- R105, R340–R343, R356: Cores, fixed blocks, basin rows, stack channels, towpath lanes, array columns, and injections. What the
injection's index means, and that memory addresses outside a channel spare keep their contents, are the model's choices (log 42). -/
def Obligations.SparesAndErrors : Prop :=
  (∀ (s : State) (c : Nat), s.allWf = true → c < 8 → s.ras.cores.contains c = false → s.cores = true → s.held = false →
    (s.ras.cores.length ≤ 1 → s.servingCores.contains c = true →
      ∃ t, exec (.coreReportMissed c) s = .next t ∧ t.ras.cores = s.ras.cores ++ [c] ∧ t.fget F.RAS_STATUS.SPARE_IN = 1 ∧
        (s.ras.cores.length = 1 → t.fget F.RAS_STATUS.EXHAUSTED = 1 ∧ t.fget F.RAS_STATUS.DEGRADED = 1) ∧
        reports { s with ras := { s.ras with cores := t.ras.cores, exhausted := t.ras.exhausted } } t
          [F.RAS_STATUS.SPARE_IN, F.RAS_STATUS.EXHAUSTED, F.RAS_STATUS.DEGRADED]) ∧
    (s.ras.cores.length = 4 →
      ∃ t, exec (.coreReportMissed c) s = .next t ∧ t.fget F.KEEL_CAUSE.CAUSE = 8 ∧ t.fget F.KEEL_CAUSE.KIND = 1 ∧
        t.fget F.KEEL_CAUSE.FATAL = 1 ∧ t.ready = false ∧ t.time.tb3 = s.time.tb3)) ∧
  (∀ (s : State) (b : Nat), s.allWf = true → s.held = false → s.rung ≤ 2 →
    ∃ t, exec (.blockWatchdog b) s = .next t ∧ t.fget F.KEEL_CAUSE.CAUSE = 0x0A ∧ t.fget F.KEEL_CAUSE.KIND = 1 ∧
      t.fget F.KEEL_CAUSE.FATAL = 1 ∧ t.ready = false ∧ t.time.tb3 = s.time.tb3) ∧
  (∀ (s : State) (bank row word : Nat), s.allWf = true → bank < 1024 → row < 8192 → word < 2 ^ 31 → s.held = false → s.rung ≤ 2 →
    s.mem.rows.contains (bank, row) = false → s.rowsUsed bank < 64 →
    (∃ t, exec (.rowSparing bank row word true) s = .next t ∧ t.mem.rows = s.mem.rows ++ [(bank, row)] ∧
      t.mem.poison.contains (0, word) = true ∧ t.fget F.RAS_STATUS.UE = 1 ∧ t.fget F.RAS_STATUS.SPARE_IN = 1 ∧
      t.mem.basin = s.mem.basin ∧ t.mem.stack = s.mem.stack ∧ t.steer = s.steer ∧ t.lock = s.lock) ∧
    ((∀ e ∈ s.mem.rowErrs, e.1 ≠ bank ∨ e.2.1 ≠ row) →
      ∃ t, exec (.rowSparing bank row word false) s = .next t ∧ t.mem.rows = s.mem.rows ∧ t.mem.poison = s.mem.poison ∧
        (bank, row, word, s.time.tb3) ∈ t.mem.rowErrs ∧ t.fget F.RAS_STATUS.CE = 1 ∧ t.mem.basin = s.mem.basin ∧
        t.mem.stack = s.mem.stack ∧ t.steer = s.steer ∧ t.lock = s.lock)) ∧
  (∀ (s : State) (st ch word n : Nat) (bad : Bool), s.allWf = true → st < 2 → ch < 16 → word < 2 ^ 34 → s.held = false → s.rung ≤ 1 →
    (bad = true ∨ 1000 < n → s.mem.channels.any (fun c => decide (c.1 = st)) = false →
      ∃ t, exec (.channelMigration st ch word n bad) s = .next t ∧ t.mem.channels = s.mem.channels ++ [(st, ch)] ∧
        t.fget F.RAS_STATUS.SPARE_IN = 1 ∧ (bad = true → t.mem.poison.contains (1, word) = true) ∧ t.mem.basin = s.mem.basin ∧
        t.mem.stack = s.mem.stack ∧ t.steer = s.steer ∧ t.lock = s.lock) ∧
    (bad = false → n ≤ 1000 →
      ∃ t, exec (.channelMigration st ch word n bad) s = .next t ∧ t.mem = s.mem ∧ t.fget F.RAS_STATUS.CE = 1 ∧ t.steer = s.steer ∧
        t.lock = s.lock)) ∧
  (∀ (s : State) (h l : Nat), s.allWf = true → h < 2 → l < 5 → (s.head h).lanes.contains l = true → s.rung ≤ 2 → s.held = false →
    (s.head h).spareUsed = false →
    ∃ t, exec (.towpathLaneFailover h l) s = .next t ∧ (t.head h).spareUsed = true ∧
      (t.head h).lanes = (s.head h).lanes.filter (fun x => decide (x ≠ l)) ++ [4] ∧ t.fget F.RAS_STATUS.SPARE_IN = 1 ∧
      (if h = 0 then t.steer.lostA = s.steer.lostA + 1 else t.steer.lostB = s.steer.lostB + 1) ∧
      t.steer.held = s.steer.held.filter (fun r => axisSide r.axis ≠ h) ∧ t.mem = s.mem ∧ t.lock = s.lock) ∧
  (∀ (s : State) (a c : Nat), s.allWf = true → a < 4 → c < 264 → s.atRest a = true →
    (3 ≤ s.columnStrikes a c → s.tows.columns.contains (a, c) = false → s.fget (F.ARRAY_STATUS.SPARES_USED a) < 8 →
      ∃ t, exec (.columnRetire a c) s = .next t ∧ t.tows.columns = s.tows.columns ++ [(a, c)] ∧
        t.fget (F.ARRAY_STATUS.SPARES_USED a) = s.fget (F.ARRAY_STATUS.SPARES_USED a) + 1 ∧ t.fget F.RESIDUE_STATUS.RETIRED = 1 ∧
        t.tows.tows = s.tows.tows ∧ t.steer = s.steer ∧ t.mem = s.mem ∧ t.lock = s.lock) ∧
    (s.tows.exhausted.contains a = true →
      ∃ t, exec (.outOfService a) s = .next t ∧ t.arrayState a = 6 ∧ t.tows.exhausted = s.tows.exhausted.erase a ∧ t.steer = s.steer ∧
        t.mem = s.mem ∧ t.lock = s.lock)) ∧
  (∀ (s : State) (tg ix : Nat), s.allWf = true → s.reaches 0xD00008 = true → tg < 16 → ix < 4096 →
    (6 ≤ tg → tg ≤ 12 → s.lock.cycles ≠ [] →
      ∃ t, exec (.rasInject tg ix) s = .next t ∧ t.fget F.RAS_INJECT.ERR = 1 ∧ t = { s with regs := t.regs } ∧
        fieldsKept s t [F.RAS_INJECT.TARGET, F.RAS_INJECT.INDEX, F.RAS_INJECT.ERR]) ∧
    (1 ≤ tg → tg ≤ 4 →
      ∃ t, exec (.rasInject tg ix) s = .next t ∧ t.ras.inject = some (tg, ix) ∧ t.fget F.RAS_INJECT.GO = 1 ∧
        t = { s with regs := t.regs, ras := { s.ras with inject := t.ras.inject } } ∧
        fieldsKept s t [F.RAS_INJECT.TARGET, F.RAS_INJECT.INDEX, F.RAS_INJECT.GO]))

/-- R331, R332, R334, R366, R384: Staging and activating an image, the reload of a pound, FLASH_WP and UNLOCK. That a reload and a
staging end at the same row run again is the model's own form (log 40). -/
def Obligations.ImagesAndPounds : Prop :=
  (∀ (s : State) (src : Src) (slot addr len : Nat) (img : Image) (ok : Bool), s.allWf = true →
    (s.accepts 0x51 src → slot = 1 ∨ slot = 2 → s.boot.wp = false → slot ≠ s.fget F.IMG_STATUS.ACTIVE →
      s.bit F.IMG_STATUS.AWAIT_RESET = false ∨ slot ≠ s.fget F.IMG_SLOT.NEXT → s.boot.staging = none →
      ∃ t, exec (.imageStage src slot addr len img ok) s = .next t ∧ t.boot = { s.boot with staging := some (slot, src) } ∧
        t.fget F.IMG_STATUS.STAGING = 1 ∧ t.slotValid slot = false ∧
        t = { s.without src with regs := t.regs, counters := t.counters, boot := t.boot } ∧
        fieldsKept s t [F.IMG_STATUS.STAGING, F.IMG_STATUS.VALID]) ∧
    (s.accepts 0x51 src → s.boot.staging = none → slot = 0 ∨ (slot ≤ 2 ∧ s.boot.wp = true) →
      ∃ t, exec (.imageStage src slot addr len img ok) s = .next t ∧ answered s t 0x51 src .refused Reason.locked.code 0 [] [] ∧
        reports (s.without src) t []) ∧
    (s.boot.staging = some (slot, src) → slot < 3 → s.cores = true → (s.queue (s.cqOf src)).en = true →
      (s.queue (s.cqOf src)).dir = true → (s.queue (s.cqOf src)).broken = false → s.link.flrDiscard.contains src = false →
      (imageChecked img len = true → ok = true →
        ∃ t, exec (.imageStage src slot addr len img ok) s = .next t ∧ t.imageOf slot = some img ∧ t.slotValid slot = true ∧
          (∀ k, k ≠ slot → t.imageOf k = s.imageOf k) ∧ t.boot.staging = none ∧ t.fget F.IMG_STATUS.STAGING = 0 ∧
          answered s t 0x51 src .done 0 0 [] [] ∧ t.steer = s.steer ∧ t.mem = s.mem) ∧
      (imageChecked img len = false →
        ∃ t, exec (.imageStage src slot addr len img ok) s = .next t ∧ t.boot = { s.boot with staging := none } ∧
          answered s t 0x51 src .refused Reason.auth.code 0 [] [] ∧ t.fget F.IMG_STATUS.VALID = s.fget F.IMG_STATUS.VALID) ∧
      (imageChecked img len = true → ok = false →
        ∃ t, exec (.imageStage src slot addr len img ok) s = .next t ∧ t.boot = { s.boot with staging := none } ∧
          answered s t 0x51 src .failed Reason.flash.code 0 [] [] ∧ t.fget F.IMG_STATUS.VALID = s.fget F.IMG_STATUS.VALID) ∧
      (∃ t, exec (.flashWp true) s = .next t ∧ t.boot = { s.boot with staging := none, wp := true } ∧
        answered s t 0x51 src .failed Reason.locked.code 0 [] [])) ∧
    (s.boot.staging = none → ∃ t, exec (.flashWp ok) s = .next t ∧ t = { s with boot := { s.boot with wp := ok } })) ∧
  (∀ (s : State) (src : Src) (slot : Nat), s.allWf = true → s.accepts 0x52 src → s.boot.reload = none → s.boot.staging = none →
    (∀ old new, slot ≤ 2 → s.slotValid slot = true → s.slotGood slot = true → s.image = some old → s.imageOf slot = some new →
      (fixedSections.all (sameSection old new) = true →
        ∃ t, exec (.imageActivate src slot) s = .next t ∧ t.fget F.IMG_STATUS.ACTIVE = slot ∧
          (∀ n, n < 15 → t.poundState n =
            if sameSection old new (poundSection n) = false ∧ s.poundState n = 2 then 4 else s.poundState n) ∧
          answered s t 0x52 src .done 0 0 [] [] ∧ t.steer = s.steer ∧ t.mem = s.mem) ∧
      (fixedSections.all (sameSection old new) = false →
        ∃ t, exec (.imageActivate src slot) s = .next t ∧ t.fget F.IMG_SLOT.NEXT = slot ∧ t.fget F.IMG_STATUS.AWAIT_RESET = 1 ∧
          t.fget F.IMG_STATUS.ACTIVE = s.fget F.IMG_STATUS.ACTIVE ∧ answered s t 0x52 src .done 0 0 [] [] ∧
          reports (s.without src) t [F.IMG_SLOT.NEXT, F.IMG_STATUS.AWAIT_RESET])) ∧
    (2 < slot ∨ s.slotValid slot = false →
      ∃ t, exec (.imageActivate src slot) s = .next t ∧ answered s t 0x52 src .refused Reason.unknown.code 0 [] [] ∧
        reports (s.without src) t [])) ∧
  (∀ (s : State) (src : Src) (n : Nat), s.allWf = true →
    (s.accepts 0x50 src → s.boot.reload = none →
      (n < 9 ∨ n = 14 → (n < 8 → s.active = false) → (n = 8 → s.relieving = 0xF) → s.relieving ≠ n → s.poundState n ≠ 3 →
        ∃ t, exec (.poundReload src n true) s = .next t ∧ t.poundState n = 3 ∧ t.fget (F.POUND_STATUS.UNLOCK n) = 0 ∧
          t.boot.reload = some (n, src) ∧ t.steer = s.steer ∧ t.mem = s.mem ∧ t.lock = s.lock) ∧
      (n < 8 → s.active = true → s.reliefFree = true →
        ∃ t q, exec (.poundReload src n true) s = .next t ∧ t.steer.relief = some q ∧ q.source = n ∧ q.trigger = .reload ∧
          q.cmd = some src ∧ t.boot.reload = some (n, src) ∧ t.steer.axes = s.steer.axes ∧ t.mem = s.mem ∧ t.lock = s.lock) ∧
      (∀ q, n < 8 → s.active = true → s.steer.relief = some q → q.source = n → q.committed = true →
        ∃ t, exec (.poundReload src n true) s = .next t ∧ t.poundState n = 3 ∧ t.boot.reload = some (n, src) ∧
          t.steer.relief = some { q with trigger := .reload, cmd := some src, returning := false, shadow := false, loop := [], fresh := [] } ∧
          t.steer.axes = s.steer.axes ∧ t.mem = s.mem ∧ t.lock = s.lock) ∧
      (9 ≤ n → n ≤ 12 → s.lock.cycles = [] →
        ∃ t, exec (.poundReload src n true) s = .next t ∧ t.boot.reload = some (n, src) ∧
          (∀ m ∈ s.unitArrays (n - 9), t.arrayState m = 5 ∨ t.arrayState m = 6) ∧ t.steer = s.steer ∧ t.mem = s.mem ∧ t.lock = s.lock) ∧
      (n = 13 → ∃ t, exec (.poundReload src n true) s = .next t ∧ t.boot.reload = some (n, src) ∧ t.fget F.AUC_STATUS.RELOADING = 1 ∧
        t.steer = s.steer ∧ t.mem = s.mem ∧ t.lock = s.lock) ∧
      (14 < n → ∃ t, exec (.poundReload src n true) s = .next t ∧ answered s t 0x50 src .refused Reason.range.code 0 [] [] ∧
        reports (s.without src) t [])) ∧
    (∀ q, s.boot.reload = some (n, src) → n < 9 → s.steer.relief = some q → q.source = n → q.cmd = some src → q.committed = true →
      q.returning = false → s.poundState n = 3 → s.cores = true →
      ∃ t, exec (.poundReload src n true) s = .next t ∧ t.poundState n = 2 ∧ t.boot.reload = some (n, src) ∧
        t.steer.relief = some { q with returning := true, shadow := false, tr := s.steer.tick, loop := [], fresh := [] } ∧
        t.mem = s.mem ∧ t.lock = s.lock) ∧
    (s.boot.reload = some (n, src) → s.reloadOwn n src = true → s.relieving ≠ n → n < 9 ∨ n = 14 → s.poundState n = 3 → s.cores = true →
      (s.queue (s.cqOf src)).en = true → (s.queue (s.cqOf src)).dir = true → (s.queue (s.cqOf src)).broken = false →
      s.link.flrDiscard.contains src = false →
      ∃ t, exec (.poundReload src n true) s = .next t ∧ t.poundState n = 2 ∧
        t.fget (F.POUND_STATUS.LOADS n) = min (2 ^ (F.POUND_STATUS.LOADS n).width - 1) (s.fget (F.POUND_STATUS.LOADS n) + 1) ∧
        t.boot.reload = none ∧ answered s t 0x50 src .done 0 0 [] [] ∧ t.mem = s.mem ∧ t.lock = s.lock)) ∧
  (∀ (s : State) (n : Nat), s.allWf = true → n < 15 → s.reaches (0xF00040 + 4 * n) = true →
    (s.poundState n = 2 ∨ s.poundState n = 4 →
      ∃ t, exec (.unlock n true) s = .next t ∧ t.fget (F.POUND_STATUS.UNLOCK n) = 1 ∧ t = { s with regs := t.regs } ∧
        fieldsKept s t [F.POUND_STATUS.UNLOCK n]) ∧
    (s.poundState n ≠ 2 → s.poundState n ≠ 4 → ∃ t, exec (.unlock n true) s = .next t ∧ t = s) ∧
    (∃ t, exec (.unlock n false) s = .next t ∧ t.fget (F.POUND_STATUS.UNLOCK n) = 0 ∧ t = { s with regs := t.regs } ∧
      fieldsKept s t [F.POUND_STATUS.UNLOCK n]))

/-- R346–R353: The freeze and the thaw, marks, dumps, and the counters' commands. ALREADY for a thaw of a running logbook, and DETAIL
for a lost mark, are the model's choices (log 46). -/
def Obligations.LogAndCounters : Prop :=
  (∀ (s : State) (src : Src), s.allWf = true →
    (s.accepts 0xA0 src → s.log.frozen = false →
      ∃ t, exec (.logFreeze src) s = .next t ∧ t.log = { s.log with frozen := true } ∧ t.fget F.LOG_MISSED.MISSED = 0 ∧
        answered s t 0xA0 src .done 0 0 (le 8 s.log.head) [] ∧
        reports { s.without src with log := t.log } t [F.LOG_MISSED.MISSED]) ∧
    (s.accepts 0xA0 src → s.log.frozen = true →
      ∃ t, exec (.logFreeze src) s = .next t ∧ answered s t 0xA0 src .already 0 0 [] [] ∧ t.log = s.log) ∧
    (s.accepts 0xA1 src → s.log.frozen = true →
      ∃ t, exec (.logThaw src) s = .next t ∧ t.log.frozen = false ∧ t.log.annex = [] ∧ t.log.head = s.log.head ∧
        (s.log.book.length + s.log.annex.length ≤ bookCap → t.log.book = s.log.book ++ s.log.annex) ∧
        answered s t 0xA1 src .done 0 0 (le 4 (s.fget F.LOG_MISSED.MISSED) ++ le 2 s.log.annex.length) [] ∧
        reports { s.without src with log := t.log } t []) ∧
    (s.accepts 0xA1 src → s.log.frozen = false →
      ∃ t, exec (.logThaw src) s = .next t ∧ answered s t 0xA1 src .already 0 0 [] [] ∧ t.log = s.log)) ∧
  (∀ (s : State) (src : Src) (m : Nat), s.allWf = true → s.accepts 0xA2 src → m ≤ 7 →
    (∃ t, exec (.logMark src m false) s = .next t ∧ t.mark m = { index := s.log.head, lost := 0, valid := true, set := true } ∧
      t.fget F.LOG_FLAGS.MARK_LOST / 2 ^ m % 2 = 0 ∧ (∀ k, k ≠ m → t.mark k = s.mark k) ∧
      answered s t 0xA2 src .done 0 0 (le 8 s.log.head) [] ∧ t.log.book = s.log.book) ∧
    ((s.mark m).set = false → ∃ t, exec (.logMark src m true) s = .next t ∧
      answered s t 0xA2 src .refused Reason.state.code 0 [] [] ∧ reports (s.without src) t []) ∧
    ((s.mark m).set = true → (s.mark m).valid = true → ∃ t, exec (.logMark src m true) s = .next t ∧
      answered s t 0xA2 src .done 0 0 (le 8 (s.mark m).index) [] ∧ t.log = s.log) ∧
    ((s.mark m).set = true → (s.mark m).valid = false → ∃ t, exec (.logMark src m true) s = .next t ∧
      t.mark m = { s.mark m with index := s.oldestIndex, valid := true } ∧
      answered s t 0xA2 src .done 0 (s.mark m).lost (le 8 s.oldestIndex) [] ∧ t.log.book = s.log.book)) ∧
  (∀ (s : State) (ok : Bool), s.allWf = true →
    (s.reaches 0xB00000 = true →
      ∃ t, exec (.dump ok) s = .next t ∧
        (ok = true → t.fget F.LOG_CTRL.LAST_DUMP = s.boot.dumpNext % 16 ∧
          spGet none t.log.dumps (s.boot.dumpNext % 16) = some { keelOnly := false, t3 := s.t3ns, cause := s.word 0x10, head := s.log.head
                                                                 book := s.log.book, annex := s.log.annex, keel := s.log.keel } ∧
          t = { s with regs := t.regs, log := { s.log with dumps := t.log.dumps }
                       boot := { s.boot with dumpNext := (s.boot.dumpNext % 16 + 1) % 16 } }) ∧
        (ok = false → t.fget F.LOG_CTRL.DUMP_ERR = 1 ∧ t = { s with regs := t.regs, counters := t.counters } ∧
          fieldsKept s t [F.LOG_CTRL.DUMP_ERR])) ∧
    (s.keelDumpDue = true →
      ∃ t, exec (.keelCopyDump ok) s = .next t ∧ t.boot.dumped = true ∧
        (ok = true → spGet none t.log.dumps (s.boot.dumpNext % 16) =
          some { keelOnly := true, t3 := s.t3ns, cause := s.word 0x10, head := s.log.head, book := [], annex := [], keel := s.log.keel }) ∧
        t.log.keel = s.log.keel ∧ t.steer = s.steer ∧ t.mem = s.mem)) ∧
  (∀ (s : State) (n : Nat), s.allWf = true → n < 16 → s.reaches 0xB00000 = true →
    ∃ t, exec (.load n) s = .next t ∧ t.fget F.LOG_CTRL.DUMP_SLOT = n ∧
      (∀ d, spGet none s.log.dumps n = some d → t.log.window = some d) ∧
      (spGet none s.log.dumps n = none → t.fget F.LOG_CTRL.DUMP_ERR = 1 ∧ t.log.window = s.log.window) ∧
      t = { s with regs := t.regs, log := { s.log with window := t.log.window } }) ∧
  (∀ (s : State) (src : Src) (g : Nat) (rev : Bool), s.allWf = true → s.accepts 0xB0 src →
    (g ≤ 31 → ∃ t, exec (.counterGrant src g rev) s = .next t ∧
      (∀ k, k ≤ 31 → t.fget F.CNT_GRANT.GRANT / 2 ^ k % 2 = if k = g then (if rev then 0 else 1) else s.fget F.CNT_GRANT.GRANT / 2 ^ k % 2) ∧
      answered s t 0xB0 src .done 0 0 [] [] ∧ reports (s.without src) t [F.CNT_GRANT.GRANT]) ∧
    (31 < g → ∃ t, exec (.counterGrant src g rev) s = .next t ∧ answered s t 0xB0 src .refused Reason.range.code 0 [] [] ∧
      reports (s.without src) t [])) ∧
  (∀ (s : State) (c : Nat), s.allWf = true → c < 512 → s.reaches 0xC00004 = true →
    ∃ t, exec (.cntClear c) s = .next t ∧ t.fget F.CNT_SEL.COUNTER = c ∧
      (∀ k, spGet 0 t.counters k = if k / 16 = c / 16 ∧ ¬ (16 ≤ c / 16 ∧ c / 16 ≤ 18) then 0 else spGet 0 s.counters k) ∧
      t = { s with regs := t.regs, counters := t.counters } ∧ fieldsKept s t [F.CNT_SEL.COUNTER]) ∧
  (∀ (s : State) (k p : Nat) (en : Bool), s.allWf = true → k < 8 → p < 64 → s.reaches (0xC00020 + 4 * k) = true →
    ∃ t, exec (.cntBindWrite k p en) s = .next t ∧ t.fget (F.CNT_BIND.SPACE k) = p ∧ t.bit (F.CNT_BIND.EN k) = en ∧
      (∀ j, spGet 0 t.counters j = if j / 16 = 24 + k then 0 else spGet 0 s.counters j) ∧
      t = { s with regs := t.regs, counters := t.counters } ∧ fieldsKept s t [F.CNT_BIND.SPACE k, F.CNT_BIND.EN k]) ∧
  (∀ (s : State) (bytes : List (Nat × Nat)), s.allWf = true → s.time.tb3 % (500 * s.windowLen) = 0 → s.bit F.CNT_WINDOW.EN = true →
    s.rung ≤ 2 →
    ∃ t, exec (.counterWindowClose bytes) s = .next t ∧ t = { s with counters := t.counters } ∧
      (∀ k, k < 256 ∨ 304 ≤ k → spGet 0 t.counters k = spGet 0 s.counters k) ∧
      (∀ k, 256 ≤ k → k < 304 → bytes = [] → spGet 0 t.counters k = 0) ∧
      (∀ k v, 256 ≤ k → k < 304 → bytes = [(k, v)] → spGet 0 t.counters k = min (2 ^ 64 - 1) v))

/-! ## Queues, commands and register accesses (R177, R255–R293, R380–R385) -/

/-- R275–R277, R282–R285, R293: Doorbells, fetches, writes to a host ring, enabling and disabling, a broken queue and its scrub. How far
a D2H doorbell may run behind is the model's choice (log 44). -/
def Obligations.QueueEngine : Prop :=
  (∀ (s : State) (q ix : Nat), s.allWf = true → q < 4096 → s.rung ≤ 2 →
    ((s.queue q).en = true → (s.queue q).mayRing (ix % 2 ^ 32) = true →
      ∃ t, exec (.doorbell q ix) s = .next t ∧ (t.queue q).hostIdx = ix % 2 ^ 32 ∧ (t.queue q).items = (s.queue q).items ∧
        (t.queue q).devIdx = (s.queue q).devIdx ∧ (∀ p, p ≠ q → t.queue p = s.queue p) ∧
        t = { s with counters := t.counters, link := { s.link with queues := t.link.queues } }) ∧
    ((s.queue q).en = false ∨ (s.queue q).mayRing (ix % 2 ^ 32) = false →
      ∃ t, exec (.doorbell q ix) s = .next t ∧ t.queue q = { s.queue q with dbErr := true } ∧ (∀ p, p ≠ q → t.queue p = s.queue p) ∧
        t = { s with counters := t.counters, link := { s.link with queues := t.link.queues } })) ∧
  (∀ (s : State) (q : Nat) (cells : List (List Byte)) (poison : List Nat), s.allWf = true → q < 4096 →
    cells.all (fun c => decide (c.length = 64)) = true → s.queueMoves q false = true →
    let it := fetchedItem (s.queue q) cells poison
    cells.length = it.len → it.len ≤ ((s.queue q).hostIdx + 2 ^ 32 - (s.queue q).devIdx) % 2 ^ 32 → 0 < it.len →
    s.fullFor q it.len = false → (s.queue (s.queue q).cq).en = true → (s.queue (s.queue q).cq).dir = true →
    ∃ t, exec (.h2dFetch q cells poison) s = .next t ∧ (t.queue q).items = (s.queue q).items ++ [it] ∧
      (t.queue q).devIdx = ((s.queue q).devIdx + it.len) % 2 ^ 32 ∧ (∀ p, p ≠ q → t.queue p = s.queue p) ∧
      (∃ b, t.out = s.out ++ [.hostWrite queueCtx (s.queue q).wb b (s.noSnoop queueCtx (s.queue q).wb)]) ∧
      t = { s with counters := t.counters, out := t.out, link := { s.link with queues := t.link.queues } }) ∧
  (∀ (s : State) (q : Nat) (i : Item), s.allWf = true → q < 4096 → (s.queue q).head? = some i → i.kind ≠ 6 →
    s.queueMoves q true = true →
    (((s.queue q).devIdx + 2 ^ 32 - (s.queue q).hostIdx) % 2 ^ 32 + i.len ≤ (s.queue q).ringSize →
      ∃ t l, exec (.d2hWrite q) s = .next t ∧ (t.queue q).items = removeFirst i.prio (s.queue q).items ∧
        (t.queue q).devIdx = ((s.queue q).devIdx + i.len) % 2 ^ 32 ∧ (∀ p, p ≠ q → t.queue p = s.queue p) ∧
        t.out = s.out ++ (List.range i.len).map (fun k =>
          let a := (s.queue q).ringAddr + 64 * (((s.queue q).devIdx + k) % 2 ^ 32 % (s.queue q).ringSize)
          .hostWrite queueCtx a ((i.bytes.drop (64 * k)).take 64) (s.noSnoop queueCtx a)) ++ l ∧
        (i.poison ≠ 0 → t.fget F.QP_CTRL.POISON = 1) ∧ t.steer = s.steer ∧ t.mem = s.mem ∧ t.lock = s.lock) ∧
    ((s.queue q).ringSize < ((s.queue q).devIdx + 2 ^ 32 - (s.queue q).hostIdx) % 2 ^ 32 + i.len →
      ∃ t, exec (.d2hWrite q) s = .next t ∧ t = s)) ∧
  (∀ (s : State), s.allWf = true → s.held = false → s.rung ≤ 2 →
    ∃ t, exec .poolInitialisation s = .next t ∧ t.fget F.QP_CTRL.READY = 1 ∧ t = { s with regs := t.regs } ∧
      fieldsKept s t [F.QP_CTRL.READY]) ∧
  (∀ (s : State) (q : Nat), s.allWf = true → s.reaches 0x900010 = true → s.fget F.Q_SEL.QUEUE = q →
    ((s.queue q).en = false → s.mayEnable q = true → ∃ t, exec .queueEnable s = .next t ∧ t = s.modQueue q Queue.start ∧
      (t.queue q).en = true ∧ (t.queue q).items = [] ∧ (t.queue q).devIdx = 0 ∧ (t.queue q).hostIdx = 0 ∧ (t.queue q).drops = 0) ∧
    ((s.queue q).en = false → s.mayEnable q = false →
      ∃ t, exec .queueEnable s = .next t ∧ t = s.modQueue q (fun d => { d with cfgErr := true })) ∧
    ((s.queue q).en = true → ∃ t, exec .queueDisable s = .next t ∧
      t.queue q = { s.queue q with en := false, items := [], gap := none, reserved := 0, stopped := false } ∧
      (∀ p, p ≠ q → t.queue p = s.queue p) ∧ t.regs = s.regs ∧ t.steer = s.steer ∧ t.mem = s.mem ∧ t.lock = s.lock)) ∧
  (∀ (s : State) (q : Nat), s.allWf = true → q < 4096 →
    ((s.queue q).broken = true → (s.queue q).en = true → s.rung ≤ 2 → (disableQueue q s).mayEnable q = true →
      ∃ t, exec (.queueScrub q) s = .next t ∧ (t.queue q).broken = false ∧ (t.queue q).en = true ∧ (t.queue q).items = [] ∧
        (∀ p, p ≠ q → t.queue p = s.queue p) ∧ t.regs = s.regs ∧ t.steer = s.steer ∧ t.mem = s.mem) ∧
    ((s.queue q).broken = false → (s.queue q).en = true →
      ∃ t, exec (.linkParityFail q) s = .next t ∧ (t.queue q).broken = true ∧ t.fget F.QP_CTRL.LINK_ERR = 1 ∧
        t.fget F.QP_CTRL.LAST_BROKEN = q ∧ reports s t [F.QP_CTRL.LINK_ERR, F.QP_CTRL.LAST_BROKEN]))

/-- R177, R286–R289: A command taken from a queue, one that is malformed, the policy ring, IDENTIFY and STATUS_SNAPSHOT. SERIAL is a
free value (log 3); that the snapshot's tick is the last one, and the form of the policy ring's indices, are the model's choices (log
43, log 45). -/
def Obligations.CommandsTaken : Prop :=
  (∀ (s : State) (q : Nat) (i : Item) (u : State), s.allWf = true → s.cores = true → s.commandQueues.head? = some q → q < 4096 →
    (s.queue q).head? = some i → i.kind ≠ 6 → s.reserveFor (srcFrom q i) i = some u →
    (∀ c, commandFault i = none → commandOf (srcFrom q i) i.code i.body = some c →
      ∃ t, exec .commandTake s = .next t ∧ t.taken = s.taken ++ [c] ∧ (t.queue q).items = removeFirst i.prio (s.queue q).items ∧
        t.link.served = q ∧ (srcFrom q i, completionCells i.code i.body) ∈ t.link.resv ∧ t.steer = s.steer ∧ t.mem = s.mem ∧
        t.lock = s.lock ∧ t.tows = s.tows) ∧
    (∀ st r, commandFault i = some (st, r) → (s.queue (s.cqOf (srcFrom q i))).broken = false →
      s.link.flrDiscard.contains (srcFrom q i) = false →
      ∃ t, exec .commandTake s = .next t ∧ t.taken = s.taken ∧ (t.queue q).items = removeFirst i.prio (s.queue q).items ∧
        answered s t i.code (srcFrom q i) st r.code 0 [] [] ∧ t.steer = s.steer ∧ t.mem = s.mem ∧ t.lock = s.lock)) ∧
  (∀ (s : State), s.cores = true → s.commandQueues = [] → ∃ t, exec .commandTake s = .next t ∧ t = s) ∧
  (∀ (s : State) (sp : Space), s.allWf = true → s.cores = true → s.auction.policyDue = true → s.bit F.AUC_CTRL.POLICY_EN = true →
    s.space (s.fget F.AUC_CTRL.POLICY_SPACE) = some sp →
    let size := s.policyWord sp 0
    let wr := s.policyWord sp 4
    let rd := s.policyWord sp 8
    let cell := s.policyCells sp size rd 1
    let it := { fetchedItem { en := true, ring := 0 } [cell] (s.policyPoison sp size rd 1) with len := 1, badLen := false }
    (policySize size = false ∨ rd = wr →
      ∃ t, exec .policyCell s = .next t ∧ t = { s with auction := { s.auction with policyDue := false } }) ∧
    (∀ u, policySize size = true → rd ≠ wr → leAt cell 4 2 = 1 → s.reserveFor (srcFrom 0xFFFF it) it = some u →
      ∃ t, exec .policyCell s = .next t ∧ t.policyWord sp 8 = (rd + 1) % 2 ^ 32 ∧
        (t.auction.policyDue = true ↔ (rd + 1) % 2 ^ 32 ≠ wr) ∧
        (∀ a, a < s.policyBase sp + 8 ∨ s.policyBase sp + 12 ≤ a → spGet (0 : Byte) t.mem.basin a = spGet (0 : Byte) s.mem.basin a) ∧
        (∀ c, commandFault it = none → commandOf (srcFrom 0xFFFF it) it.code it.body = some c →
          t.taken.length = s.taken.length + 1) ∧ t.mem.stack = s.mem.stack ∧ t.steer = s.steer ∧ t.lock = s.lock)) ∧
  (∀ (s : State) (src : Src), s.allWf = true →
    (s.accepts 0x01 src → ∃ t, exec (.identify src) s = .next t ∧ reports (s.without src) t [] ∧
      answered s t 0x01 src .done 0 0 (le 16 Config.serial ++ le 2 (s.fget F.KEEL_ID.REV) ++ le 2 (s.word 0x08).toNat ++
        le 4 s.fwVersion ++ le 4 (s.word 0xF00008).toNat ++ le 4 (s.word 0xF0000C).toNat) []) ∧
    (s.accepts 0x02 src → ∃ t cells, exec (.statusSnapshot src) s = .next t ∧ reports (s.without src) t [] ∧ cells.length = 64 ∧
      answered s t 0x02 src .done 0 0 (le 8 (2 * s.time.lastTick)) cells))

/-- R8, R9, R205, R257–R259, R334, R380–R385: Malformed BAR0 accesses, BAR2 accesses, reads that change state, writes of reserved,
reloading, plain and mirrored words, and the configuration space. That a malformed read answers 4 bytes is the model's choice (log 47).
-/
def Obligations.RegisterAccess : Prop :=
  (∀ (s : State) (bar4 : Bool), s.allWf = true → s.rung ≤ 3 →
    (∃ t, exec (.bar0MalformedAccess bar4 true) s = .next t ∧ t.fget F.XL_FAULT.ACCESS_ERR = 1 ∧
      reports s t [F.XL_FAULT.ACCESS_ERR]) ∧
    (∃ t, exec (.bar0MalformedAccess bar4 false) s = .next t ∧ t.fget F.XL_FAULT.ACCESS_ERR = 1 ∧
      t.out.getLast? = some (.readData (List.replicate 4 0xFF) false) ∧ reports s t [F.XL_FAULT.ACCESS_ERR])) ∧
  (∀ (s : State) (x : Nat) (data : List Byte), s.allWf = true → s.rung ≤ 3 →
    (s.bar2Reaches x data.length = true → s.bar2Writes x data.length = true →
      ∃ t, exec (.bar2Access x data.length (some data)) s = .next t ∧
        (∀ a, spGet (0 : Byte) t.mem.basin a =
          if s.windowTarget (x / 2 ^ 30) = 1 ∧ s.bar2Byte x ≤ a ∧ a < s.bar2Byte x + data.length then data.getD (a - s.bar2Byte x) 0
          else spGet (0 : Byte) s.mem.basin a) ∧
        (∀ a, spGet (0 : Byte) t.mem.stack a =
          if s.windowTarget (x / 2 ^ 30) = 2 ∧ s.bar2Byte x ≤ a ∧ a < s.bar2Byte x + data.length then data.getD (a - s.bar2Byte x) 0
          else spGet (0 : Byte) s.mem.stack a) ∧
        t = { s with mem := t.mem }) ∧
    (s.bar2Reaches x data.length = false ∨ s.bar2Writes x data.length = false →
      ∃ t, exec (.bar2Access x data.length (some data)) s = .next t ∧ t.fget F.XL_FAULT.BAR2_ERR = 1 ∧
        reports s t [F.XL_FAULT.BAR2_ERR])) ∧
  (∀ (s : State) (x len : Nat), s.allWf = true → s.rung ≤ 3 →
    (s.bar2Reaches x len = true → s.windowTarget (x / 2 ^ 30) = 2 →
      ∃ t bad, exec (.bar2Access x len none) s = .next t ∧
        t.out = s.out ++ [.readData ((List.range len).map (fun k => spGet (0 : Byte) s.mem.stack (s.bar2Byte x + k))) bad] ∧
        t = { s with out := t.out, counters := t.counters }) ∧
    (s.bar2Reaches x len = true → s.windowTarget (x / 2 ^ 30) = 1 →
      ∃ t bad, exec (.bar2Access x len none) s = .next t ∧
        t.out = s.out ++ [.readData ((List.range len).map (fun k => s.basinByte (s.bar2Byte x + k))) bad] ∧
        t = { s with out := t.out, counters := t.counters }) ∧
    (s.bar2Reaches x len = false →
      ∃ t, exec (.bar2Access x len none) s = .next t ∧ t.fget F.XL_FAULT.BAR2_ERR = 1 ∧
        t.out.getLast? = some (.readData (List.replicate len 0xFF) false) ∧ reports s t [F.XL_FAULT.BAR2_ERR])) ∧
  (∀ (s : State) (off : Nat), s.allWf = true → s.rung ≤ 3 →
    (∃ t, exec (.pairLoRead off) s = .next t ∧ t.out = s.out ++ [.readData (le 4 (s.readWord off).toNat) false] ∧
      (pairRegisters.contains off = true → spGet none t.link.hi off = some (s.readWord (off + 4))) ∧
      t = { s with out := t.out, link := { s.link with hi := t.link.hi } }) ∧
    (∃ t, exec (.rcRead off) s = .next t ∧ t.out = s.out ++ [.readData (le 4 (s.readLatched off).toNat) false] ∧
      (∀ v, 4 ≤ off → pairRegisters.contains (off - 4) = true → spGet none s.link.hi (off - 4) = some v →
        t.out = s.out ++ [.readData (le 4 v.toNat) false]) ∧
      (off < 4 ∨ pairRegisters.contains (off - 4) = false → t.out = s.out ++ [.readData (le 4 (s.readWord off).toNat) false]) ∧
      (s.reaches off = true → off ≠ 0x900038 → t.word off = readLeaves (rowsOf off) (s.word off) ∧ wordsKept s t [off] ∧
        t = { s with out := t.out, regs := t.regs }) ∧
      (s.reaches off = true → off = 0x900038 → (t.queue (s.fget F.Q_SEL.QUEUE)).drops = 0 ∧ t.regs = s.regs) ∧
      (s.reaches off = false → t = { s with out := t.out }))) ∧
  (∀ (s : State) (off : Nat) (v : Word), s.allWf = true →
    (s.reaches off = false → ∃ t, exec (.registerWrite off v) s = .next t ∧ t = s) ∧
    (∀ n, s.reaches off = true → s.reloading off = some n → ∃ t, exec (.registerWrite off v) s = .next t ∧
      t.fget (F.POUND_STATUS.WRITE_LOST n) = 1 ∧ reports s t [F.POUND_STATUS.WRITE_LOST n]) ∧
    (s.reaches off = true → s.reloading off = none → 0x700000 ≤ off → off < 0x900000 →
      ∃ t, exec (.registerWrite off v) s = .next t ∧ t.word off = writeWord (rowsOf off) false v (s.word off) ∧ wordsKept s t [off] ∧
        t = { s with regs := t.regs }) ∧
    (s.reaches 0x500008 = true → s.active = false → s.written 0x500008 v ≠ s.word 0x500008 →
      ∃ t, exec (.registerWrite 0x500008 v) s = .next t ∧ t.fget F.PAIR_STATUS.WRITE_IGN = 1 ∧ t = { s with regs := t.regs } ∧
        fieldsKept s t [F.PAIR_STATUS.WRITE_IGN]) ∧
    (s.reaches 0x500008 = true → s.active = true →
      ∃ t, exec (.registerWrite 0x500008 v) s = .next t ∧ t.word 0x500008 = s.written 0x500008 v ∧ wordsKept s t [0x500008])) ∧
  (∀ (s : State) (d3 bm : Bool), s.rung ≤ 3 →
    ∃ t, exec (.configurationWrite d3 bm) s = .next t ∧ t.link.d3hot = d3 ∧ t.link.busMaster = bm ∧ t.link.queues = s.link.queues ∧
      t = { s with link := { s.link with d3hot := d3, busMaster := bm, msixPend := t.link.msixPend }, out := t.out
                   counters := t.counters })
end

