-- ==== Sys2Proof/Laws/Stores.lean ====
section
/-!
SUPPORT. The laws of the stores: reading back what was written in a sparse store, the register file, a field and a byte memory,
and that every write keeps the canonical form (log 2).
-/

namespace Sys2Proof.Machine

/-! ## Sparse stores -/

theorem spGet_spSet_self {α : Type} [DecidableEq α] (d : α) (m : Sparse α) (k : Nat) (v : α) (lo : Nat) (h : spWf d lo m = true) :
    spGet d (spSet d m k v) k = v := by
  induction m generalizing lo with
  | nil => by_cases e : v = d <;> simp [spSet, spGet, e]
  | cons p m ih =>
    obtain ⟨k', v'⟩ := p
    simp only [spWf, Bool.and_eq_true, decide_eq_true_eq] at h
    by_cases h1 : k' < k
    · simp [spSet, h1, spGet, Nat.ne_of_lt h1, ih (k' + 1) h.2]
    · by_cases h2 : k' = k
      · subst h2
        by_cases e : v = d
        · subst e
          simp only [spSet, Nat.lt_irrefl, if_false, if_true]
          exact spGet_below v m (k' + 1) k' h.2 (Nat.lt_succ_self k')
        · simp [spSet, spGet, e]
      · by_cases e : v = d
        · subst e
          have hk : k < k' := by omega
          simp only [spSet, h1, h2, if_false, if_true, spGet]
          exact spGet_below v m (k' + 1) k h.2 (by omega)
        · simp [spSet, h1, h2, spGet, e]
where
  spGet_below (d : α) (m : Sparse α) (lo k : Nat) (h : spWf d lo m = true) (hk : k < lo) : spGet d m k = d := by
    induction m generalizing lo with
    | nil => rfl
    | cons p m ih =>
      obtain ⟨k', v'⟩ := p
      simp only [spWf, Bool.and_eq_true, decide_eq_true_eq] at h
      have : k' ≠ k := by omega
      simp only [spGet, this, if_false]
      exact ih (k' + 1) h.2 (by omega)

/-- A write leaves every other key alone, whatever value an unlisted key reads as. -/
theorem spGet_spSet_other {α : Type} [DecidableEq α] (d d' : α) (m : Sparse α) (k j : Nat) (v : α) (h : j ≠ k) :
    spGet d (spSet d' m k v) j = spGet d m j := by
  induction m with
  | nil => by_cases e : v = d' <;> simp [spSet, spGet, e, Ne.symm h]
  | cons p m ih =>
    obtain ⟨k', v'⟩ := p
    by_cases h1 : k' < k
    · simp [spSet, h1, spGet, ih]
    · by_cases h2 : k' = k
      · subst h2
        by_cases e : v = d' <;> simp [spSet, spGet, e, Ne.symm h]
      · by_cases e : v = d' <;> simp [spSet, h1, h2, spGet, e, Ne.symm h]

theorem spGet_spSet_ne {α : Type} [DecidableEq α] (d : α) (m : Sparse α) (k j : Nat) (v : α) (h : j ≠ k) :
    spGet d (spSet d m k v) j = spGet d m j := spGet_spSet_other d d m k j v h

theorem spWf_mono {α : Type} [DecidableEq α] (d : α) (m : Sparse α) (lo lo' : Nat) (h : lo' ≤ lo) (w : spWf d lo m = true) :
    spWf d lo' m = true := by
  cases m with
  | nil => rfl
  | cons p m =>
    simp only [spWf, Bool.and_eq_true, decide_eq_true_eq] at w ⊢
    exact ⟨⟨by omega, w.1.2⟩, w.2⟩

/-- A write keeps the canonical form. -/
theorem spSet_wf {α : Type} [DecidableEq α] (d : α) (m : Sparse α) (k : Nat) (v : α) (lo : Nat) (hk : lo ≤ k)
    (w : spWf d lo m = true) : spWf d lo (spSet d m k v) = true := by
  induction m generalizing lo with
  | nil => by_cases e : v = d <;> simp [spSet, spWf, e, hk]
  | cons p m ih =>
    obtain ⟨k', v'⟩ := p
    simp only [spWf, Bool.and_eq_true, decide_eq_true_eq] at w
    by_cases h1 : k' < k
    · simp [spSet, h1, spWf, w.1, ih (k' + 1) h1 w.2]
    · by_cases h2 : k' = k
      · subst h2
        by_cases e : v = d
        · simp only [spSet, Nat.lt_irrefl, if_false, e, if_true]
          exact spWf_mono d m (k' + 1) lo (by omega) w.2
        · simp [spSet, e, spWf, w.1.1, w.2]
      · by_cases e : v = d
        · simp [spSet, h1, h2, e, spWf, w]
        · simp [spSet, h1, h2, e, spWf, w.2, hk, w.1.2]
          omega

/-- Removing entries keeps the canonical form. -/
theorem spWf_filter {α : Type} [DecidableEq α] (d : α) (p : Nat × α → Bool) (m : Sparse α) (lo : Nat) (w : spWf d lo m = true) :
    spWf d lo (m.filter p) = true := by
  induction m generalizing lo with
  | nil => rfl
  | cons q m ih =>
    obtain ⟨k', v'⟩ := q
    simp only [spWf, Bool.and_eq_true, decide_eq_true_eq] at w
    have hm := ih (k' + 1) w.2
    by_cases hq : p (k', v') = true
    · simp [hq, spWf, w.1, hm]
    · simp only [List.filter_cons, hq]
      exact spWf_mono d _ (k' + 1) lo (by omega) hm

/-! ## Byte memories -/

/-- Storing bytes keeps the memory's canonical form. -/
theorem memPut_wf (bs : List Byte) (m : List Host.Cell) (a : Nat) (w : Memory.wf m = true) : Memory.wf (memPut m a bs) = true := by
  induction bs generalizing m a with
  | nil => exact w
  | cons b bs ih => exact ih (spSet (0 : Byte) m a b) (a + 1) (spSet_wf 0 m a b 0 (Nat.zero_le a) w)

/-- Storing bytes leaves every byte outside them alone. -/
theorem memPut_outside (bs : List Byte) (m : List Host.Cell) (a x : Nat) (h : x < a ∨ a + bs.length ≤ x) :
    spGet (0 : Byte) (memPut m a bs) x = spGet 0 m x := by
  induction bs generalizing m a with
  | nil => rfl
  | cons b bs ih =>
    simp only [memPut]
    rw [ih (spSet 0 m a b) (a + 1) (by simp only [List.length_cons] at h; omega)]
    exact spGet_spSet_ne 0 m a x b (by simp only [List.length_cons] at h; omega)

/-- A byte stored reads back. -/
theorem memPut_inside (bs : List Byte) (m : List Host.Cell) (a i : Nat) (w : Memory.wf m = true) (h : i < bs.length) :
    spGet (0 : Byte) (memPut m a bs) (a + i) = bs.getD i 0 := by
  induction bs generalizing m a i with
  | nil => simp at h
  | cons b bs ih =>
    have w' : Memory.wf (spSet (0 : Byte) m a b) = true := spSet_wf 0 m a b 0 (Nat.zero_le a) w
    cases i with
    | zero =>
      simp only [memPut]
      rw [memPut_outside bs _ (a + 1) (a + 0) (by omega)]
      exact spGet_spSet_self 0 m a b 0 w
    | succ i =>
      simp only [memPut]
      rw [show a + (i + 1) = a + 1 + i by omega, ih (spSet 0 m a b) (a + 1) i w' (by simpa using h)]
      rfl

/-! ## Register words -/

theorem wordsWf_mono (m : Sparse Word) (lo lo' : Nat) (h : lo' ≤ lo) (w : wordsWf lo m = true) : wordsWf lo' m = true := by
  cases m with
  | nil => rfl
  | cons p m =>
    simp only [wordsWf, Bool.and_eq_true, decide_eq_true_eq] at w ⊢
    exact ⟨⟨by omega, w.1.2⟩, w.2⟩

/-- Writing a word keeps the register file's canonical form. -/
theorem wordSet_wf (m : Sparse Word) (k : Nat) (v : Word) (lo : Nat) (hk : lo ≤ k) (w : wordsWf lo m = true) :
    wordsWf lo (wordSet m k v) = true := by
  simp only [wordSet]
  induction m generalizing lo with
  | nil => by_cases e : v = resetWord k <;> simp [spSet, wordsWf, e, hk]
  | cons p m ih =>
    obtain ⟨k', v'⟩ := p
    simp only [wordsWf, Bool.and_eq_true, decide_eq_true_eq] at w
    by_cases h1 : k' < k
    · simp [spSet, h1, wordsWf, w.1, ih (k' + 1) h1 w.2]
    · by_cases h2 : k' = k
      · subst h2
        by_cases e : v = resetWord k'
        · simp only [spSet, Nat.lt_irrefl, if_false, e, if_true]
          exact wordsWf_mono m (k' + 1) lo (by omega) w.2
        · simp [spSet, e, wordsWf, w.1.1, w.2]
      · by_cases e : v = resetWord k
        · simp [spSet, h1, h2, e, wordsWf, w]
        · simp [spSet, h1, h2, e, wordsWf, w.2, hk, w.1.2]
          omega

theorem wordGet_below (m : Sparse Word) (lo k : Nat) (d : Word) (h : wordsWf lo m = true) (hk : k < lo) : spGet d m k = d := by
  induction m generalizing lo with
  | nil => rfl
  | cons p m ih =>
    obtain ⟨k', v'⟩ := p
    simp only [wordsWf, Bool.and_eq_true, decide_eq_true_eq] at h
    have : k' ≠ k := by omega
    simp only [spGet, this, if_false]
    exact ih (k' + 1) h.2 (by omega)

/-- A word written reads back. -/
theorem wordGet_wordSet_self (m : Sparse Word) (k : Nat) (v : Word) (lo : Nat) (h : wordsWf lo m = true) :
    wordGet (wordSet m k v) k = v := by
  simp only [wordGet, wordSet]
  induction m generalizing lo with
  | nil => by_cases e : v = resetWord k <;> simp [spSet, spGet, e]
  | cons p m ih =>
    obtain ⟨k', v'⟩ := p
    simp only [wordsWf, Bool.and_eq_true, decide_eq_true_eq] at h
    by_cases h1 : k' < k
    · simp [spSet, h1, spGet, Nat.ne_of_lt h1, ih (k' + 1) h.2]
    · by_cases h2 : k' = k
      · subst h2
        by_cases e : v = resetWord k'
        · simp only [spSet, Nat.lt_irrefl, if_false, e, if_true]
          exact wordGet_below m (k' + 1) k' _ h.2 (Nat.lt_succ_self k')
        · simp [spSet, spGet, e]
      · by_cases e : v = resetWord k
        · have hk : k < k' := by omega
          simp only [spSet, h1, h2, if_false, e, if_true, spGet]
          exact wordGet_below m (k' + 1) k _ h.2 (by omega)
        · simp [spSet, h1, h2, spGet, e]

/-- Every other word is unchanged. -/
theorem wordGet_wordSet_ne (m : Sparse Word) (k j : Nat) (v : Word) (h : j ≠ k) : wordGet (wordSet m k v) j = wordGet m j :=
  spGet_spSet_other _ _ m k j v h

end Sys2Proof.Machine
end

