-- ==== Sys2Proof/Laws/Registers.lean ====
section
/-!
SUPPORT. The laws of register fields (R8, R380): a field written reads back, every field apart from it is unchanged, and what
lies outside the register file is untouched.
-/

namespace Sys2Proof.Machine

theorem testBit_fldOf (w : Word) (f : Fld) (i : Nat) : (fldOf w f).testBit i = (decide (i < f.width) && w.toNat.testBit (f.lo + i)) := by
  simp [fldOf, Nat.testBit_mod_two_pow, Nat.testBit_div_two_pow, Nat.add_comm]

theorem fldOf_lt (w : Word) (f : Fld) : fldOf w f < 2 ^ f.width := Nat.mod_lt _ (Nat.two_pow_pos _)

/-- The bits of a word with one field replaced. -/
theorem fldPut_split (n lo wd v : Nat) :
    n - n / 2 ^ lo % 2 ^ wd * 2 ^ lo + v % 2 ^ wd * 2 ^ lo = n % 2 ^ lo + 2 ^ lo * (v % 2 ^ wd + 2 ^ wd * (n / 2 ^ lo / 2 ^ wd)) := by
  have h1 : n = n % 2 ^ lo + 2 ^ lo * (n / 2 ^ lo) := (Nat.mod_add_div n (2 ^ lo)).symm
  have h2 : n / 2 ^ lo = n / 2 ^ lo % 2 ^ wd + 2 ^ wd * (n / 2 ^ lo / 2 ^ wd) := (Nat.mod_add_div _ (2 ^ wd)).symm
  generalize n / 2 ^ lo / 2 ^ wd = c at *
  generalize n / 2 ^ lo % 2 ^ wd = b at *
  generalize n % 2 ^ lo = a at *
  generalize n / 2 ^ lo = q at *
  subst h2
  rw [h1, Nat.mul_add, Nat.mul_add, Nat.mul_comm b, Nat.mul_comm (v % 2 ^ wd)]
  omega

theorem testBit_fldPut (w : Word) (f : Fld) (v i : Nat) (hf : f.lo + f.width ≤ 32) :
    (fldPut w f v).toNat.testBit i =
      if f.lo ≤ i ∧ i < f.lo + f.width then v.testBit (i - f.lo) else w.toNat.testBit i := by
  have hw : w.toNat < 2 ^ 32 := w.isLt
  rw [fldPut, fldOf, fldPut_split, BitVec.toNat_ofNat, Nat.testBit_mod_two_pow]
  rw [Nat.add_comm (w.toNat % 2 ^ f.lo), Nat.testBit_two_pow_mul_add _ (Nat.mod_lt _ (Nat.two_pow_pos _))]
  by_cases h1 : i < f.lo
  · have : ¬ (f.lo ≤ i ∧ i < f.lo + f.width) := by omega
    have h32 : i < 32 := by omega
    simp [h1, this, h32, Nat.testBit_mod_two_pow]
  · rw [Nat.add_comm (v % 2 ^ f.width), Nat.testBit_two_pow_mul_add _ (Nat.mod_lt _ (Nat.two_pow_pos _))]
    by_cases h2 : i < f.lo + f.width
    · have h3 : f.lo ≤ i ∧ i < f.lo + f.width := by omega
      have h4 : i - f.lo < f.width := by omega
      have h32 : i < 32 := by omega
      simp [h1, h3, h4, h32, Nat.testBit_mod_two_pow]
    · have h3 : ¬ (f.lo ≤ i ∧ i < f.lo + f.width) := by omega
      have h4 : ¬ (i - f.lo < f.width) := by omega
      simp only [h1, h3, h4, if_false, Nat.testBit_div_two_pow]
      have e : i - f.lo - f.width + f.width + f.lo = i := by omega
      rw [e]
      by_cases h32 : i < 32
      · simp [h32]
      · have : w.toNat.testBit i = false := Nat.testBit_lt_two_pow (Nat.lt_of_lt_of_le hw (Nat.pow_le_pow_right (by omega) (by omega)))
        simp [this]

/-- A field put into a word reads back. -/
theorem fldOf_fldPut_self (w : Word) (f : Fld) (v : Nat) (hf : f.lo + f.width ≤ 32) : fldOf (fldPut w f v) f = v % 2 ^ f.width := by
  apply Nat.eq_of_testBit_eq
  intro i
  rw [testBit_fldOf, testBit_fldPut w f v _ hf, Nat.testBit_mod_two_pow]
  by_cases h : i < f.width
  · have : f.lo ≤ f.lo + i ∧ f.lo + i < f.lo + f.width := by omega
    simp [h]
  · simp [h]

/-- A field whose bits do not meet the one put in is unchanged. -/
theorem fldOf_fldPut_apart (w : Word) (f g : Fld) (v : Nat) (hf : f.lo + f.width ≤ 32)
    (h : g.lo + g.width ≤ f.lo ∨ f.lo + f.width ≤ g.lo) : fldOf (fldPut w f v) g = fldOf w g := by
  apply Nat.eq_of_testBit_eq
  intro i
  rw [testBit_fldOf, testBit_fldOf, testBit_fldPut w f v _ hf]
  by_cases hi : i < g.width
  · have : ¬ (f.lo ≤ g.lo + i ∧ g.lo + i < f.lo + f.width) := by omega
    simp [hi, this]
  · simp [hi]

/-! ## The register file of a state -/

theorem State.word_setWord_self (s : State) (o : Nat) (v : Word) (h : wordsWf 0 s.regs = true) : (s.setWord o v).word o = v :=
  wordGet_wordSet_self s.regs o v 0 h

theorem State.word_setWord_ne (s : State) (o p : Nat) (v : Word) (h : p ≠ o) : (s.setWord o v).word p = s.word p :=
  wordGet_wordSet_ne s.regs o p v h

/-- A field written reads back the low bits of what was written. -/
theorem State.fget_fset_self (s : State) (f : Fld) (v : Nat) (hf : f.lo + f.width ≤ 32) (h : wordsWf 0 s.regs = true) :
    (s.fset f v).fget f = v % 2 ^ f.width := by
  simp only [State.fget, State.fset, State.word_setWord_self s _ _ h]
  exact fldOf_fldPut_self _ f v hf

/-- Every field apart from the one written is unchanged. -/
theorem State.fget_fset_apart (s : State) (f g : Fld) (v : Nat) (hf : f.lo + f.width ≤ 32) (h : wordsWf 0 s.regs = true)
    (ha : Fld.apart f g) : (s.fset f v).fget g = s.fget g := by
  simp only [State.fget, State.fset]
  by_cases e : g.off = f.off
  · rw [e, State.word_setWord_self s _ _ h]
    refine fldOf_fldPut_apart _ f g v hf ?_
    rcases ha with ha | ha | ha
    · exact absurd e.symm ha
    · exact Or.inr ha
    · exact Or.inl ha
  · rw [State.word_setWord_ne s _ _ _ e]

theorem State.setWord_wf (s : State) (o : Nat) (v : Word) (h : wordsWf 0 s.regs = true) : wordsWf 0 (s.setWord o v).regs = true :=
  wordSet_wf s.regs o v 0 (Nat.zero_le o) h

theorem State.fset_wf (s : State) (f : Fld) (v : Nat) (h : wordsWf 0 s.regs = true) : wordsWf 0 (s.fset f v).regs = true :=
  s.setWord_wf _ _ h

/-- Writing a register word touches nothing but the register file. -/
theorem State.setWord_frame (s : State) (o : Nat) (v : Word) : s.setWord o v = { s with regs := (s.setWord o v).regs } := rfl

/-- Writing a field touches nothing but the register file. -/
theorem State.fset_frame (s : State) (f : Fld) (v : Nat) : s.fset f v = { s with regs := (s.fset f v).regs } := rfl

end Sys2Proof.Machine
end

