-- ==== Sys2Proof/Laws/State.lean ====
section
/-!
SUPPORT. What the shared operations leave alone: for each operation and each component of State it does not touch, that the
component is unchanged, so that no later proof unfolds a record update.
-/

namespace Sys2Proof.Machine

/-- A fold keeps what each of its steps keeps. -/
theorem foldl_keeps {α β γ : Type} (P : β → γ) (f : β → α → β) (l : List α) (h : ∀ b a, P (f b a) = P b) (b : β) :
    P (l.foldl f b) = P b := by
  induction l generalizing b with
  | nil => rfl
  | cons a l ih => simp only [List.foldl_cons, ih, h]

/-- The state without its register words, logbook, link, counters and what has left: all that messages, entries, queue items and
completions may write. -/
def State.wipe (s : State) : State := { s with regs := [], log := {}, link := {}, out := [], counters := [] }

theorem State.wipe_log (s : State) (l : Logbook) : ({ s with log := l } : State).wipe = s.wipe := rfl
theorem State.wipe_link (s : State) (l : Link) : ({ s with link := l } : State).wipe = s.wipe := rfl
@[simp] theorem State.setWord_wipe (s : State) (o : Nat) (v : Word) : (s.setWord o v).wipe = s.wipe := rfl
@[simp] theorem State.fset_wipe (s : State) (f : Fld) (v : Nat) : (s.fset f v).wipe = s.wipe := rfl
@[simp] theorem State.fadd_wipe (s : State) (f : Fld) (n : Nat) : (s.fadd f n).wipe = s.wipe := rfl
@[simp] theorem State.emit_wipe (s : State) (x : Sent) : (s.emit x).wipe = s.wipe := rfl
@[simp] theorem State.count_wipe (s : State) (g i n : Nat) : (s.count g i n).wipe = s.wipe := rfl
@[simp] theorem State.modQueue_wipe (s : State) (q : Nat) (f : Queue → Queue) : (s.modQueue q f).wipe = s.wipe := rfl

/-! ## setWord -/

@[simp] theorem State.setWord_pending (s : State) (o : Nat) (v : Word) : (s.setWord o v).pending = s.pending := rfl
@[simp] theorem State.setWord_taken (s : State) (o : Nat) (v : Word) : (s.setWord o v).taken = s.taken := rfl
@[simp] theorem State.setWord_steer (s : State) (o : Nat) (v : Word) : (s.setWord o v).steer = s.steer := rfl
@[simp] theorem State.setWord_map (s : State) (o : Nat) (v : Word) : (s.setWord o v).map = s.map := rfl
@[simp] theorem State.setWord_lock (s : State) (o : Nat) (v : Word) : (s.setWord o v).lock = s.lock := rfl
@[simp] theorem State.setWord_fabric (s : State) (o : Nat) (v : Word) : (s.setWord o v).fabric = s.fabric := rfl
@[simp] theorem State.setWord_tows (s : State) (o : Nat) (v : Word) : (s.setWord o v).tows = s.tows := rfl
@[simp] theorem State.setWord_mem (s : State) (o : Nat) (v : Word) : (s.setWord o v).mem = s.mem := rfl
@[simp] theorem State.setWord_auction (s : State) (o : Nat) (v : Word) : (s.setWord o v).auction = s.auction := rfl
@[simp] theorem State.setWord_time (s : State) (o : Nat) (v : Word) : (s.setWord o v).time = s.time := rfl
@[simp] theorem State.setWord_pair (s : State) (o : Nat) (v : Word) : (s.setWord o v).pair = s.pair := rfl
@[simp] theorem State.setWord_light (s : State) (o : Nat) (v : Word) : (s.setWord o v).light = s.light := rfl
@[simp] theorem State.setWord_link (s : State) (o : Nat) (v : Word) : (s.setWord o v).link = s.link := rfl
@[simp] theorem State.setWord_power (s : State) (o : Nat) (v : Word) : (s.setWord o v).power = s.power := rfl
@[simp] theorem State.setWord_boot (s : State) (o : Nat) (v : Word) : (s.setWord o v).boot = s.boot := rfl
@[simp] theorem State.setWord_log (s : State) (o : Nat) (v : Word) : (s.setWord o v).log = s.log := rfl
@[simp] theorem State.setWord_ras (s : State) (o : Nat) (v : Word) : (s.setWord o v).ras = s.ras := rfl
@[simp] theorem State.setWord_test (s : State) (o : Nat) (v : Word) : (s.setWord o v).test = s.test := rfl
@[simp] theorem State.setWord_counters (s : State) (o : Nat) (v : Word) : (s.setWord o v).counters = s.counters := rfl
@[simp] theorem State.setWord_out (s : State) (o : Nat) (v : Word) : (s.setWord o v).out = s.out := rfl
@[simp] theorem State.setWord_free (s : State) (o : Nat) (v : Word) : (s.setWord o v).free = s.free := rfl

/-! ## fset -/

@[simp] theorem State.fset_pending (s : State) (f : Fld) (v : Nat) : (s.fset f v).pending = s.pending := rfl
@[simp] theorem State.fset_taken (s : State) (f : Fld) (v : Nat) : (s.fset f v).taken = s.taken := rfl
@[simp] theorem State.fset_steer (s : State) (f : Fld) (v : Nat) : (s.fset f v).steer = s.steer := rfl
@[simp] theorem State.fset_map (s : State) (f : Fld) (v : Nat) : (s.fset f v).map = s.map := rfl
@[simp] theorem State.fset_lock (s : State) (f : Fld) (v : Nat) : (s.fset f v).lock = s.lock := rfl
@[simp] theorem State.fset_fabric (s : State) (f : Fld) (v : Nat) : (s.fset f v).fabric = s.fabric := rfl
@[simp] theorem State.fset_tows (s : State) (f : Fld) (v : Nat) : (s.fset f v).tows = s.tows := rfl
@[simp] theorem State.fset_mem (s : State) (f : Fld) (v : Nat) : (s.fset f v).mem = s.mem := rfl
@[simp] theorem State.fset_auction (s : State) (f : Fld) (v : Nat) : (s.fset f v).auction = s.auction := rfl
@[simp] theorem State.fset_time (s : State) (f : Fld) (v : Nat) : (s.fset f v).time = s.time := rfl
@[simp] theorem State.fset_pair (s : State) (f : Fld) (v : Nat) : (s.fset f v).pair = s.pair := rfl
@[simp] theorem State.fset_light (s : State) (f : Fld) (v : Nat) : (s.fset f v).light = s.light := rfl
@[simp] theorem State.fset_link (s : State) (f : Fld) (v : Nat) : (s.fset f v).link = s.link := rfl
@[simp] theorem State.fset_power (s : State) (f : Fld) (v : Nat) : (s.fset f v).power = s.power := rfl
@[simp] theorem State.fset_boot (s : State) (f : Fld) (v : Nat) : (s.fset f v).boot = s.boot := rfl
@[simp] theorem State.fset_log (s : State) (f : Fld) (v : Nat) : (s.fset f v).log = s.log := rfl
@[simp] theorem State.fset_ras (s : State) (f : Fld) (v : Nat) : (s.fset f v).ras = s.ras := rfl
@[simp] theorem State.fset_test (s : State) (f : Fld) (v : Nat) : (s.fset f v).test = s.test := rfl
@[simp] theorem State.fset_counters (s : State) (f : Fld) (v : Nat) : (s.fset f v).counters = s.counters := rfl
@[simp] theorem State.fset_out (s : State) (f : Fld) (v : Nat) : (s.fset f v).out = s.out := rfl
@[simp] theorem State.fset_free (s : State) (f : Fld) (v : Nat) : (s.fset f v).free = s.free := rfl

/-! ## fadd -/

@[simp] theorem State.fadd_pending (s : State) (f : Fld) (n : Nat) : (s.fadd f n).pending = s.pending := rfl
@[simp] theorem State.fadd_taken (s : State) (f : Fld) (n : Nat) : (s.fadd f n).taken = s.taken := rfl
@[simp] theorem State.fadd_steer (s : State) (f : Fld) (n : Nat) : (s.fadd f n).steer = s.steer := rfl
@[simp] theorem State.fadd_map (s : State) (f : Fld) (n : Nat) : (s.fadd f n).map = s.map := rfl
@[simp] theorem State.fadd_lock (s : State) (f : Fld) (n : Nat) : (s.fadd f n).lock = s.lock := rfl
@[simp] theorem State.fadd_fabric (s : State) (f : Fld) (n : Nat) : (s.fadd f n).fabric = s.fabric := rfl
@[simp] theorem State.fadd_tows (s : State) (f : Fld) (n : Nat) : (s.fadd f n).tows = s.tows := rfl
@[simp] theorem State.fadd_mem (s : State) (f : Fld) (n : Nat) : (s.fadd f n).mem = s.mem := rfl
@[simp] theorem State.fadd_auction (s : State) (f : Fld) (n : Nat) : (s.fadd f n).auction = s.auction := rfl
@[simp] theorem State.fadd_time (s : State) (f : Fld) (n : Nat) : (s.fadd f n).time = s.time := rfl
@[simp] theorem State.fadd_pair (s : State) (f : Fld) (n : Nat) : (s.fadd f n).pair = s.pair := rfl
@[simp] theorem State.fadd_light (s : State) (f : Fld) (n : Nat) : (s.fadd f n).light = s.light := rfl
@[simp] theorem State.fadd_link (s : State) (f : Fld) (n : Nat) : (s.fadd f n).link = s.link := rfl
@[simp] theorem State.fadd_power (s : State) (f : Fld) (n : Nat) : (s.fadd f n).power = s.power := rfl
@[simp] theorem State.fadd_boot (s : State) (f : Fld) (n : Nat) : (s.fadd f n).boot = s.boot := rfl
@[simp] theorem State.fadd_log (s : State) (f : Fld) (n : Nat) : (s.fadd f n).log = s.log := rfl
@[simp] theorem State.fadd_ras (s : State) (f : Fld) (n : Nat) : (s.fadd f n).ras = s.ras := rfl
@[simp] theorem State.fadd_test (s : State) (f : Fld) (n : Nat) : (s.fadd f n).test = s.test := rfl
@[simp] theorem State.fadd_counters (s : State) (f : Fld) (n : Nat) : (s.fadd f n).counters = s.counters := rfl
@[simp] theorem State.fadd_out (s : State) (f : Fld) (n : Nat) : (s.fadd f n).out = s.out := rfl
@[simp] theorem State.fadd_free (s : State) (f : Fld) (n : Nat) : (s.fadd f n).free = s.free := rfl

/-! ## emit -/

@[simp] theorem State.emit_pending (s : State) (x : Sent) : (s.emit x).pending = s.pending := rfl
@[simp] theorem State.emit_taken (s : State) (x : Sent) : (s.emit x).taken = s.taken := rfl
@[simp] theorem State.emit_regs (s : State) (x : Sent) : (s.emit x).regs = s.regs := rfl
@[simp] theorem State.emit_steer (s : State) (x : Sent) : (s.emit x).steer = s.steer := rfl
@[simp] theorem State.emit_map (s : State) (x : Sent) : (s.emit x).map = s.map := rfl
@[simp] theorem State.emit_lock (s : State) (x : Sent) : (s.emit x).lock = s.lock := rfl
@[simp] theorem State.emit_fabric (s : State) (x : Sent) : (s.emit x).fabric = s.fabric := rfl
@[simp] theorem State.emit_tows (s : State) (x : Sent) : (s.emit x).tows = s.tows := rfl
@[simp] theorem State.emit_mem (s : State) (x : Sent) : (s.emit x).mem = s.mem := rfl
@[simp] theorem State.emit_auction (s : State) (x : Sent) : (s.emit x).auction = s.auction := rfl
@[simp] theorem State.emit_time (s : State) (x : Sent) : (s.emit x).time = s.time := rfl
@[simp] theorem State.emit_pair (s : State) (x : Sent) : (s.emit x).pair = s.pair := rfl
@[simp] theorem State.emit_light (s : State) (x : Sent) : (s.emit x).light = s.light := rfl
@[simp] theorem State.emit_link (s : State) (x : Sent) : (s.emit x).link = s.link := rfl
@[simp] theorem State.emit_power (s : State) (x : Sent) : (s.emit x).power = s.power := rfl
@[simp] theorem State.emit_boot (s : State) (x : Sent) : (s.emit x).boot = s.boot := rfl
@[simp] theorem State.emit_log (s : State) (x : Sent) : (s.emit x).log = s.log := rfl
@[simp] theorem State.emit_ras (s : State) (x : Sent) : (s.emit x).ras = s.ras := rfl
@[simp] theorem State.emit_test (s : State) (x : Sent) : (s.emit x).test = s.test := rfl
@[simp] theorem State.emit_counters (s : State) (x : Sent) : (s.emit x).counters = s.counters := rfl
@[simp] theorem State.emit_free (s : State) (x : Sent) : (s.emit x).free = s.free := rfl

/-! ## count -/

@[simp] theorem State.count_pending (s : State) (g i n : Nat) : (s.count g i n).pending = s.pending := rfl
@[simp] theorem State.count_taken (s : State) (g i n : Nat) : (s.count g i n).taken = s.taken := rfl
@[simp] theorem State.count_regs (s : State) (g i n : Nat) : (s.count g i n).regs = s.regs := rfl
@[simp] theorem State.count_steer (s : State) (g i n : Nat) : (s.count g i n).steer = s.steer := rfl
@[simp] theorem State.count_map (s : State) (g i n : Nat) : (s.count g i n).map = s.map := rfl
@[simp] theorem State.count_lock (s : State) (g i n : Nat) : (s.count g i n).lock = s.lock := rfl
@[simp] theorem State.count_fabric (s : State) (g i n : Nat) : (s.count g i n).fabric = s.fabric := rfl
@[simp] theorem State.count_tows (s : State) (g i n : Nat) : (s.count g i n).tows = s.tows := rfl
@[simp] theorem State.count_mem (s : State) (g i n : Nat) : (s.count g i n).mem = s.mem := rfl
@[simp] theorem State.count_auction (s : State) (g i n : Nat) : (s.count g i n).auction = s.auction := rfl
@[simp] theorem State.count_time (s : State) (g i n : Nat) : (s.count g i n).time = s.time := rfl
@[simp] theorem State.count_pair (s : State) (g i n : Nat) : (s.count g i n).pair = s.pair := rfl
@[simp] theorem State.count_light (s : State) (g i n : Nat) : (s.count g i n).light = s.light := rfl
@[simp] theorem State.count_link (s : State) (g i n : Nat) : (s.count g i n).link = s.link := rfl
@[simp] theorem State.count_power (s : State) (g i n : Nat) : (s.count g i n).power = s.power := rfl
@[simp] theorem State.count_boot (s : State) (g i n : Nat) : (s.count g i n).boot = s.boot := rfl
@[simp] theorem State.count_log (s : State) (g i n : Nat) : (s.count g i n).log = s.log := rfl
@[simp] theorem State.count_ras (s : State) (g i n : Nat) : (s.count g i n).ras = s.ras := rfl
@[simp] theorem State.count_test (s : State) (g i n : Nat) : (s.count g i n).test = s.test := rfl
@[simp] theorem State.count_out (s : State) (g i n : Nat) : (s.count g i n).out = s.out := rfl
@[simp] theorem State.count_free (s : State) (g i n : Nat) : (s.count g i n).free = s.free := rfl

/-! ## countSpace -/

@[simp] theorem State.countSpace_pending (s : State) (sp i n : Nat) : (s.countSpace sp i n).pending = s.pending := by
  unfold State.countSpace
  refine foldl_keeps State.pending _ _ ?_ s; intro t k; split <;> rfl
@[simp] theorem State.countSpace_taken (s : State) (sp i n : Nat) : (s.countSpace sp i n).taken = s.taken := by
  unfold State.countSpace
  refine foldl_keeps State.taken _ _ ?_ s; intro t k; split <;> rfl
@[simp] theorem State.countSpace_regs (s : State) (sp i n : Nat) : (s.countSpace sp i n).regs = s.regs := by
  unfold State.countSpace
  refine foldl_keeps State.regs _ _ ?_ s; intro t k; split <;> rfl
@[simp] theorem State.countSpace_steer (s : State) (sp i n : Nat) : (s.countSpace sp i n).steer = s.steer := by
  unfold State.countSpace
  refine foldl_keeps State.steer _ _ ?_ s; intro t k; split <;> rfl
@[simp] theorem State.countSpace_map (s : State) (sp i n : Nat) : (s.countSpace sp i n).map = s.map := by
  unfold State.countSpace
  refine foldl_keeps State.map _ _ ?_ s; intro t k; split <;> rfl
@[simp] theorem State.countSpace_lock (s : State) (sp i n : Nat) : (s.countSpace sp i n).lock = s.lock := by
  unfold State.countSpace
  refine foldl_keeps State.lock _ _ ?_ s; intro t k; split <;> rfl
@[simp] theorem State.countSpace_fabric (s : State) (sp i n : Nat) : (s.countSpace sp i n).fabric = s.fabric := by
  unfold State.countSpace
  refine foldl_keeps State.fabric _ _ ?_ s; intro t k; split <;> rfl
@[simp] theorem State.countSpace_tows (s : State) (sp i n : Nat) : (s.countSpace sp i n).tows = s.tows := by
  unfold State.countSpace
  refine foldl_keeps State.tows _ _ ?_ s; intro t k; split <;> rfl
@[simp] theorem State.countSpace_mem (s : State) (sp i n : Nat) : (s.countSpace sp i n).mem = s.mem := by
  unfold State.countSpace
  refine foldl_keeps State.mem _ _ ?_ s; intro t k; split <;> rfl
@[simp] theorem State.countSpace_auction (s : State) (sp i n : Nat) : (s.countSpace sp i n).auction = s.auction := by
  unfold State.countSpace
  refine foldl_keeps State.auction _ _ ?_ s; intro t k; split <;> rfl
@[simp] theorem State.countSpace_time (s : State) (sp i n : Nat) : (s.countSpace sp i n).time = s.time := by
  unfold State.countSpace
  refine foldl_keeps State.time _ _ ?_ s; intro t k; split <;> rfl
@[simp] theorem State.countSpace_pair (s : State) (sp i n : Nat) : (s.countSpace sp i n).pair = s.pair := by
  unfold State.countSpace
  refine foldl_keeps State.pair _ _ ?_ s; intro t k; split <;> rfl
@[simp] theorem State.countSpace_light (s : State) (sp i n : Nat) : (s.countSpace sp i n).light = s.light := by
  unfold State.countSpace
  refine foldl_keeps State.light _ _ ?_ s; intro t k; split <;> rfl
@[simp] theorem State.countSpace_link (s : State) (sp i n : Nat) : (s.countSpace sp i n).link = s.link := by
  unfold State.countSpace
  refine foldl_keeps State.link _ _ ?_ s; intro t k; split <;> rfl
@[simp] theorem State.countSpace_power (s : State) (sp i n : Nat) : (s.countSpace sp i n).power = s.power := by
  unfold State.countSpace
  refine foldl_keeps State.power _ _ ?_ s; intro t k; split <;> rfl
@[simp] theorem State.countSpace_boot (s : State) (sp i n : Nat) : (s.countSpace sp i n).boot = s.boot := by
  unfold State.countSpace
  refine foldl_keeps State.boot _ _ ?_ s; intro t k; split <;> rfl
@[simp] theorem State.countSpace_log (s : State) (sp i n : Nat) : (s.countSpace sp i n).log = s.log := by
  unfold State.countSpace
  refine foldl_keeps State.log _ _ ?_ s; intro t k; split <;> rfl
@[simp] theorem State.countSpace_ras (s : State) (sp i n : Nat) : (s.countSpace sp i n).ras = s.ras := by
  unfold State.countSpace
  refine foldl_keeps State.ras _ _ ?_ s; intro t k; split <;> rfl
@[simp] theorem State.countSpace_test (s : State) (sp i n : Nat) : (s.countSpace sp i n).test = s.test := by
  unfold State.countSpace
  refine foldl_keeps State.test _ _ ?_ s; intro t k; split <;> rfl
@[simp] theorem State.countSpace_out (s : State) (sp i n : Nat) : (s.countSpace sp i n).out = s.out := by
  unfold State.countSpace
  refine foldl_keeps State.out _ _ ?_ s; intro t k; split <;> rfl
@[simp] theorem State.countSpace_free (s : State) (sp i n : Nat) : (s.countSpace sp i n).free = s.free := by
  unfold State.countSpace
  refine foldl_keeps State.free _ _ ?_ s; intro t k; split <;> rfl

/-! ## countStarved -/

@[simp] theorem State.countStarved_pending (s : State) (n : Nat) : (s.countStarved n).pending = s.pending := by
  unfold State.countStarved
  refine foldl_keeps State.pending _ _ ?_ s
  intro t k
  dsimp only
  split
  · split <;> simp
  · rfl
@[simp] theorem State.countStarved_taken (s : State) (n : Nat) : (s.countStarved n).taken = s.taken := by
  unfold State.countStarved
  refine foldl_keeps State.taken _ _ ?_ s
  intro t k
  dsimp only
  split
  · split <;> simp
  · rfl
@[simp] theorem State.countStarved_regs (s : State) (n : Nat) : (s.countStarved n).regs = s.regs := by
  unfold State.countStarved
  refine foldl_keeps State.regs _ _ ?_ s
  intro t k
  dsimp only
  split
  · split <;> simp
  · rfl
@[simp] theorem State.countStarved_steer (s : State) (n : Nat) : (s.countStarved n).steer = s.steer := by
  unfold State.countStarved
  refine foldl_keeps State.steer _ _ ?_ s
  intro t k
  dsimp only
  split
  · split <;> simp
  · rfl
@[simp] theorem State.countStarved_map (s : State) (n : Nat) : (s.countStarved n).map = s.map := by
  unfold State.countStarved
  refine foldl_keeps State.map _ _ ?_ s
  intro t k
  dsimp only
  split
  · split <;> simp
  · rfl
@[simp] theorem State.countStarved_lock (s : State) (n : Nat) : (s.countStarved n).lock = s.lock := by
  unfold State.countStarved
  refine foldl_keeps State.lock _ _ ?_ s
  intro t k
  dsimp only
  split
  · split <;> simp
  · rfl
@[simp] theorem State.countStarved_fabric (s : State) (n : Nat) : (s.countStarved n).fabric = s.fabric := by
  unfold State.countStarved
  refine foldl_keeps State.fabric _ _ ?_ s
  intro t k
  dsimp only
  split
  · split <;> simp
  · rfl
@[simp] theorem State.countStarved_mem (s : State) (n : Nat) : (s.countStarved n).mem = s.mem := by
  unfold State.countStarved
  refine foldl_keeps State.mem _ _ ?_ s
  intro t k
  dsimp only
  split
  · split <;> simp
  · rfl
@[simp] theorem State.countStarved_auction (s : State) (n : Nat) : (s.countStarved n).auction = s.auction := by
  unfold State.countStarved
  refine foldl_keeps State.auction _ _ ?_ s
  intro t k
  dsimp only
  split
  · split <;> simp
  · rfl
@[simp] theorem State.countStarved_time (s : State) (n : Nat) : (s.countStarved n).time = s.time := by
  unfold State.countStarved
  refine foldl_keeps State.time _ _ ?_ s
  intro t k
  dsimp only
  split
  · split <;> simp
  · rfl
@[simp] theorem State.countStarved_pair (s : State) (n : Nat) : (s.countStarved n).pair = s.pair := by
  unfold State.countStarved
  refine foldl_keeps State.pair _ _ ?_ s
  intro t k
  dsimp only
  split
  · split <;> simp
  · rfl
@[simp] theorem State.countStarved_light (s : State) (n : Nat) : (s.countStarved n).light = s.light := by
  unfold State.countStarved
  refine foldl_keeps State.light _ _ ?_ s
  intro t k
  dsimp only
  split
  · split <;> simp
  · rfl
@[simp] theorem State.countStarved_link (s : State) (n : Nat) : (s.countStarved n).link = s.link := by
  unfold State.countStarved
  refine foldl_keeps State.link _ _ ?_ s
  intro t k
  dsimp only
  split
  · split <;> simp
  · rfl
@[simp] theorem State.countStarved_power (s : State) (n : Nat) : (s.countStarved n).power = s.power := by
  unfold State.countStarved
  refine foldl_keeps State.power _ _ ?_ s
  intro t k
  dsimp only
  split
  · split <;> simp
  · rfl
@[simp] theorem State.countStarved_boot (s : State) (n : Nat) : (s.countStarved n).boot = s.boot := by
  unfold State.countStarved
  refine foldl_keeps State.boot _ _ ?_ s
  intro t k
  dsimp only
  split
  · split <;> simp
  · rfl
@[simp] theorem State.countStarved_log (s : State) (n : Nat) : (s.countStarved n).log = s.log := by
  unfold State.countStarved
  refine foldl_keeps State.log _ _ ?_ s
  intro t k
  dsimp only
  split
  · split <;> simp
  · rfl
@[simp] theorem State.countStarved_ras (s : State) (n : Nat) : (s.countStarved n).ras = s.ras := by
  unfold State.countStarved
  refine foldl_keeps State.ras _ _ ?_ s
  intro t k
  dsimp only
  split
  · split <;> simp
  · rfl
@[simp] theorem State.countStarved_test (s : State) (n : Nat) : (s.countStarved n).test = s.test := by
  unfold State.countStarved
  refine foldl_keeps State.test _ _ ?_ s
  intro t k
  dsimp only
  split
  · split <;> simp
  · rfl
@[simp] theorem State.countStarved_out (s : State) (n : Nat) : (s.countStarved n).out = s.out := by
  unfold State.countStarved
  refine foldl_keeps State.out _ _ ?_ s
  intro t k
  dsimp only
  split
  · split <;> simp
  · rfl
@[simp] theorem State.countStarved_free (s : State) (n : Nat) : (s.countStarved n).free = s.free := by
  unfold State.countStarved
  refine foldl_keeps State.free _ _ ?_ s
  intro t k
  dsimp only
  split
  · split <;> simp
  · rfl

/-! ## markOpenings -/

@[simp] theorem State.markOpenings_pending (s : State) (n : Nat) : (s.markOpenings n).pending = s.pending := rfl
@[simp] theorem State.markOpenings_taken (s : State) (n : Nat) : (s.markOpenings n).taken = s.taken := rfl
@[simp] theorem State.markOpenings_regs (s : State) (n : Nat) : (s.markOpenings n).regs = s.regs := rfl
@[simp] theorem State.markOpenings_steer (s : State) (n : Nat) : (s.markOpenings n).steer = s.steer := rfl
@[simp] theorem State.markOpenings_map (s : State) (n : Nat) : (s.markOpenings n).map = s.map := rfl
@[simp] theorem State.markOpenings_fabric (s : State) (n : Nat) : (s.markOpenings n).fabric = s.fabric := rfl
@[simp] theorem State.markOpenings_tows (s : State) (n : Nat) : (s.markOpenings n).tows = s.tows := rfl
@[simp] theorem State.markOpenings_mem (s : State) (n : Nat) : (s.markOpenings n).mem = s.mem := rfl
@[simp] theorem State.markOpenings_auction (s : State) (n : Nat) : (s.markOpenings n).auction = s.auction := rfl
@[simp] theorem State.markOpenings_time (s : State) (n : Nat) : (s.markOpenings n).time = s.time := rfl
@[simp] theorem State.markOpenings_pair (s : State) (n : Nat) : (s.markOpenings n).pair = s.pair := rfl
@[simp] theorem State.markOpenings_light (s : State) (n : Nat) : (s.markOpenings n).light = s.light := rfl
@[simp] theorem State.markOpenings_link (s : State) (n : Nat) : (s.markOpenings n).link = s.link := rfl
@[simp] theorem State.markOpenings_power (s : State) (n : Nat) : (s.markOpenings n).power = s.power := rfl
@[simp] theorem State.markOpenings_boot (s : State) (n : Nat) : (s.markOpenings n).boot = s.boot := rfl
@[simp] theorem State.markOpenings_log (s : State) (n : Nat) : (s.markOpenings n).log = s.log := rfl
@[simp] theorem State.markOpenings_ras (s : State) (n : Nat) : (s.markOpenings n).ras = s.ras := rfl
@[simp] theorem State.markOpenings_test (s : State) (n : Nat) : (s.markOpenings n).test = s.test := rfl
@[simp] theorem State.markOpenings_counters (s : State) (n : Nat) : (s.markOpenings n).counters = s.counters := rfl
@[simp] theorem State.markOpenings_out (s : State) (n : Nat) : (s.markOpenings n).out = s.out := rfl
@[simp] theorem State.markOpenings_free (s : State) (n : Nat) : (s.markOpenings n).free = s.free := rfl

/-! ## advance -/

@[simp] theorem State.advance_pending (s : State) (n : Nat) : (s.advance n).pending = s.pending := by simp [State.advance]
@[simp] theorem State.advance_taken (s : State) (n : Nat) : (s.advance n).taken = s.taken := by simp [State.advance]
@[simp] theorem State.advance_regs (s : State) (n : Nat) : (s.advance n).regs = s.regs := by simp [State.advance]
@[simp] theorem State.advance_steer (s : State) (n : Nat) : (s.advance n).steer = s.steer := by simp [State.advance]
@[simp] theorem State.advance_map (s : State) (n : Nat) : (s.advance n).map = s.map := by simp [State.advance]
@[simp] theorem State.advance_fabric (s : State) (n : Nat) : (s.advance n).fabric = s.fabric := by simp [State.advance]
@[simp] theorem State.advance_mem (s : State) (n : Nat) : (s.advance n).mem = s.mem := by simp [State.advance]
@[simp] theorem State.advance_auction (s : State) (n : Nat) : (s.advance n).auction = s.auction := by simp [State.advance]
@[simp] theorem State.advance_pair (s : State) (n : Nat) : (s.advance n).pair = s.pair := by simp [State.advance]
@[simp] theorem State.advance_light (s : State) (n : Nat) : (s.advance n).light = s.light := by simp [State.advance]
@[simp] theorem State.advance_link (s : State) (n : Nat) : (s.advance n).link = s.link := by simp [State.advance]
@[simp] theorem State.advance_power (s : State) (n : Nat) : (s.advance n).power = s.power := by simp [State.advance]
@[simp] theorem State.advance_boot (s : State) (n : Nat) : (s.advance n).boot = s.boot := by simp [State.advance]
@[simp] theorem State.advance_log (s : State) (n : Nat) : (s.advance n).log = s.log := by simp [State.advance]
@[simp] theorem State.advance_ras (s : State) (n : Nat) : (s.advance n).ras = s.ras := by simp [State.advance]
@[simp] theorem State.advance_test (s : State) (n : Nat) : (s.advance n).test = s.test := by simp [State.advance]
@[simp] theorem State.advance_out (s : State) (n : Nat) : (s.advance n).out = s.out := by simp [State.advance]
@[simp] theorem State.advance_free (s : State) (n : Nat) : (s.advance n).free = s.free := by simp [State.advance]

/-! ## modQueue -/

@[simp] theorem State.modQueue_pending (s : State) (q : Nat) (f : Queue → Queue) : (s.modQueue q f).pending = s.pending := rfl
@[simp] theorem State.modQueue_taken (s : State) (q : Nat) (f : Queue → Queue) : (s.modQueue q f).taken = s.taken := rfl
@[simp] theorem State.modQueue_regs (s : State) (q : Nat) (f : Queue → Queue) : (s.modQueue q f).regs = s.regs := rfl
@[simp] theorem State.modQueue_steer (s : State) (q : Nat) (f : Queue → Queue) : (s.modQueue q f).steer = s.steer := rfl
@[simp] theorem State.modQueue_map (s : State) (q : Nat) (f : Queue → Queue) : (s.modQueue q f).map = s.map := rfl
@[simp] theorem State.modQueue_lock (s : State) (q : Nat) (f : Queue → Queue) : (s.modQueue q f).lock = s.lock := rfl
@[simp] theorem State.modQueue_fabric (s : State) (q : Nat) (f : Queue → Queue) : (s.modQueue q f).fabric = s.fabric := rfl
@[simp] theorem State.modQueue_tows (s : State) (q : Nat) (f : Queue → Queue) : (s.modQueue q f).tows = s.tows := rfl
@[simp] theorem State.modQueue_mem (s : State) (q : Nat) (f : Queue → Queue) : (s.modQueue q f).mem = s.mem := rfl
@[simp] theorem State.modQueue_auction (s : State) (q : Nat) (f : Queue → Queue) : (s.modQueue q f).auction = s.auction := rfl
@[simp] theorem State.modQueue_time (s : State) (q : Nat) (f : Queue → Queue) : (s.modQueue q f).time = s.time := rfl
@[simp] theorem State.modQueue_pair (s : State) (q : Nat) (f : Queue → Queue) : (s.modQueue q f).pair = s.pair := rfl
@[simp] theorem State.modQueue_light (s : State) (q : Nat) (f : Queue → Queue) : (s.modQueue q f).light = s.light := rfl
@[simp] theorem State.modQueue_power (s : State) (q : Nat) (f : Queue → Queue) : (s.modQueue q f).power = s.power := rfl
@[simp] theorem State.modQueue_boot (s : State) (q : Nat) (f : Queue → Queue) : (s.modQueue q f).boot = s.boot := rfl
@[simp] theorem State.modQueue_log (s : State) (q : Nat) (f : Queue → Queue) : (s.modQueue q f).log = s.log := rfl
@[simp] theorem State.modQueue_ras (s : State) (q : Nat) (f : Queue → Queue) : (s.modQueue q f).ras = s.ras := rfl
@[simp] theorem State.modQueue_test (s : State) (q : Nat) (f : Queue → Queue) : (s.modQueue q f).test = s.test := rfl
@[simp] theorem State.modQueue_counters (s : State) (q : Nat) (f : Queue → Queue) : (s.modQueue q f).counters = s.counters := rfl
@[simp] theorem State.modQueue_out (s : State) (q : Nat) (f : Queue → Queue) : (s.modQueue q f).out = s.out := rfl
@[simp] theorem State.modQueue_free (s : State) (q : Nat) (f : Queue → Queue) : (s.modQueue q f).free = s.free := rfl

/-! ## modSpace -/

@[simp] theorem State.modSpace_pending (s : State) (p : Nat) (f : Space → Space) : (s.modSpace p f).pending = s.pending := rfl
@[simp] theorem State.modSpace_taken (s : State) (p : Nat) (f : Space → Space) : (s.modSpace p f).taken = s.taken := rfl
@[simp] theorem State.modSpace_regs (s : State) (p : Nat) (f : Space → Space) : (s.modSpace p f).regs = s.regs := rfl
@[simp] theorem State.modSpace_steer (s : State) (p : Nat) (f : Space → Space) : (s.modSpace p f).steer = s.steer := rfl
@[simp] theorem State.modSpace_map (s : State) (p : Nat) (f : Space → Space) : (s.modSpace p f).map = s.map := rfl
@[simp] theorem State.modSpace_lock (s : State) (p : Nat) (f : Space → Space) : (s.modSpace p f).lock = s.lock := rfl
@[simp] theorem State.modSpace_fabric (s : State) (p : Nat) (f : Space → Space) : (s.modSpace p f).fabric = s.fabric := rfl
@[simp] theorem State.modSpace_mem (s : State) (p : Nat) (f : Space → Space) : (s.modSpace p f).mem = s.mem := rfl
@[simp] theorem State.modSpace_auction (s : State) (p : Nat) (f : Space → Space) : (s.modSpace p f).auction = s.auction := rfl
@[simp] theorem State.modSpace_time (s : State) (p : Nat) (f : Space → Space) : (s.modSpace p f).time = s.time := rfl
@[simp] theorem State.modSpace_pair (s : State) (p : Nat) (f : Space → Space) : (s.modSpace p f).pair = s.pair := rfl
@[simp] theorem State.modSpace_light (s : State) (p : Nat) (f : Space → Space) : (s.modSpace p f).light = s.light := rfl
@[simp] theorem State.modSpace_link (s : State) (p : Nat) (f : Space → Space) : (s.modSpace p f).link = s.link := rfl
@[simp] theorem State.modSpace_power (s : State) (p : Nat) (f : Space → Space) : (s.modSpace p f).power = s.power := rfl
@[simp] theorem State.modSpace_boot (s : State) (p : Nat) (f : Space → Space) : (s.modSpace p f).boot = s.boot := rfl
@[simp] theorem State.modSpace_log (s : State) (p : Nat) (f : Space → Space) : (s.modSpace p f).log = s.log := rfl
@[simp] theorem State.modSpace_ras (s : State) (p : Nat) (f : Space → Space) : (s.modSpace p f).ras = s.ras := rfl
@[simp] theorem State.modSpace_test (s : State) (p : Nat) (f : Space → Space) : (s.modSpace p f).test = s.test := rfl
@[simp] theorem State.modSpace_counters (s : State) (p : Nat) (f : Space → Space) : (s.modSpace p f).counters = s.counters := rfl
@[simp] theorem State.modSpace_out (s : State) (p : Nat) (f : Space → Space) : (s.modSpace p f).out = s.out := rfl
@[simp] theorem State.modSpace_free (s : State) (p : Nat) (f : Space → Space) : (s.modSpace p f).free = s.free := rfl

/-! ## modAxis -/

@[simp] theorem State.modAxis_pending (s : State) (a : Nat) (f : Axis → Axis) : (s.modAxis a f).pending = s.pending := rfl
@[simp] theorem State.modAxis_taken (s : State) (a : Nat) (f : Axis → Axis) : (s.modAxis a f).taken = s.taken := rfl
@[simp] theorem State.modAxis_regs (s : State) (a : Nat) (f : Axis → Axis) : (s.modAxis a f).regs = s.regs := rfl
@[simp] theorem State.modAxis_map (s : State) (a : Nat) (f : Axis → Axis) : (s.modAxis a f).map = s.map := rfl
@[simp] theorem State.modAxis_lock (s : State) (a : Nat) (f : Axis → Axis) : (s.modAxis a f).lock = s.lock := rfl
@[simp] theorem State.modAxis_fabric (s : State) (a : Nat) (f : Axis → Axis) : (s.modAxis a f).fabric = s.fabric := rfl
@[simp] theorem State.modAxis_tows (s : State) (a : Nat) (f : Axis → Axis) : (s.modAxis a f).tows = s.tows := rfl
@[simp] theorem State.modAxis_mem (s : State) (a : Nat) (f : Axis → Axis) : (s.modAxis a f).mem = s.mem := rfl
@[simp] theorem State.modAxis_auction (s : State) (a : Nat) (f : Axis → Axis) : (s.modAxis a f).auction = s.auction := rfl
@[simp] theorem State.modAxis_time (s : State) (a : Nat) (f : Axis → Axis) : (s.modAxis a f).time = s.time := rfl
@[simp] theorem State.modAxis_pair (s : State) (a : Nat) (f : Axis → Axis) : (s.modAxis a f).pair = s.pair := rfl
@[simp] theorem State.modAxis_light (s : State) (a : Nat) (f : Axis → Axis) : (s.modAxis a f).light = s.light := rfl
@[simp] theorem State.modAxis_link (s : State) (a : Nat) (f : Axis → Axis) : (s.modAxis a f).link = s.link := rfl
@[simp] theorem State.modAxis_power (s : State) (a : Nat) (f : Axis → Axis) : (s.modAxis a f).power = s.power := rfl
@[simp] theorem State.modAxis_boot (s : State) (a : Nat) (f : Axis → Axis) : (s.modAxis a f).boot = s.boot := rfl
@[simp] theorem State.modAxis_log (s : State) (a : Nat) (f : Axis → Axis) : (s.modAxis a f).log = s.log := rfl
@[simp] theorem State.modAxis_ras (s : State) (a : Nat) (f : Axis → Axis) : (s.modAxis a f).ras = s.ras := rfl
@[simp] theorem State.modAxis_test (s : State) (a : Nat) (f : Axis → Axis) : (s.modAxis a f).test = s.test := rfl
@[simp] theorem State.modAxis_counters (s : State) (a : Nat) (f : Axis → Axis) : (s.modAxis a f).counters = s.counters := rfl
@[simp] theorem State.modAxis_out (s : State) (a : Nat) (f : Axis → Axis) : (s.modAxis a f).out = s.out := rfl
@[simp] theorem State.modAxis_free (s : State) (a : Nat) (f : Axis → Axis) : (s.modAxis a f).free = s.free := rfl

/-! ## spareBack -/

@[simp] theorem State.spareBack_pending (s : State) (c : Nat) : (s.spareBack c).pending = s.pending := rfl
@[simp] theorem State.spareBack_taken (s : State) (c : Nat) : (s.spareBack c).taken = s.taken := rfl
@[simp] theorem State.spareBack_steer (s : State) (c : Nat) : (s.spareBack c).steer = s.steer := rfl
@[simp] theorem State.spareBack_map (s : State) (c : Nat) : (s.spareBack c).map = s.map := rfl
@[simp] theorem State.spareBack_lock (s : State) (c : Nat) : (s.spareBack c).lock = s.lock := rfl
@[simp] theorem State.spareBack_fabric (s : State) (c : Nat) : (s.spareBack c).fabric = s.fabric := rfl
@[simp] theorem State.spareBack_tows (s : State) (c : Nat) : (s.spareBack c).tows = s.tows := rfl
@[simp] theorem State.spareBack_mem (s : State) (c : Nat) : (s.spareBack c).mem = s.mem := rfl
@[simp] theorem State.spareBack_auction (s : State) (c : Nat) : (s.spareBack c).auction = s.auction := rfl
@[simp] theorem State.spareBack_time (s : State) (c : Nat) : (s.spareBack c).time = s.time := rfl
@[simp] theorem State.spareBack_pair (s : State) (c : Nat) : (s.spareBack c).pair = s.pair := rfl
@[simp] theorem State.spareBack_light (s : State) (c : Nat) : (s.spareBack c).light = s.light := rfl
@[simp] theorem State.spareBack_link (s : State) (c : Nat) : (s.spareBack c).link = s.link := rfl
@[simp] theorem State.spareBack_power (s : State) (c : Nat) : (s.spareBack c).power = s.power := rfl
@[simp] theorem State.spareBack_boot (s : State) (c : Nat) : (s.spareBack c).boot = s.boot := rfl
@[simp] theorem State.spareBack_log (s : State) (c : Nat) : (s.spareBack c).log = s.log := rfl
@[simp] theorem State.spareBack_test (s : State) (c : Nat) : (s.spareBack c).test = s.test := rfl
@[simp] theorem State.spareBack_counters (s : State) (c : Nat) : (s.spareBack c).counters = s.counters := rfl
@[simp] theorem State.spareBack_out (s : State) (c : Nat) : (s.spareBack c).out = s.out := rfl
@[simp] theorem State.spareBack_free (s : State) (c : Nat) : (s.spareBack c).free = s.free := rfl

/-! ## sendJournal -/

@[simp] theorem State.sendJournal_pending (s : State) (it : JItem) : (s.sendJournal it).pending = s.pending := by unfold State.sendJournal; split <;> rfl
@[simp] theorem State.sendJournal_taken (s : State) (it : JItem) : (s.sendJournal it).taken = s.taken := by unfold State.sendJournal; split <;> rfl
@[simp] theorem State.sendJournal_regs (s : State) (it : JItem) : (s.sendJournal it).regs = s.regs := by unfold State.sendJournal; split <;> rfl
@[simp] theorem State.sendJournal_steer (s : State) (it : JItem) : (s.sendJournal it).steer = s.steer := by unfold State.sendJournal; split <;> rfl
@[simp] theorem State.sendJournal_map (s : State) (it : JItem) : (s.sendJournal it).map = s.map := by unfold State.sendJournal; split <;> rfl
@[simp] theorem State.sendJournal_lock (s : State) (it : JItem) : (s.sendJournal it).lock = s.lock := by unfold State.sendJournal; split <;> rfl
@[simp] theorem State.sendJournal_fabric (s : State) (it : JItem) : (s.sendJournal it).fabric = s.fabric := by unfold State.sendJournal; split <;> rfl
@[simp] theorem State.sendJournal_tows (s : State) (it : JItem) : (s.sendJournal it).tows = s.tows := by unfold State.sendJournal; split <;> rfl
@[simp] theorem State.sendJournal_mem (s : State) (it : JItem) : (s.sendJournal it).mem = s.mem := by unfold State.sendJournal; split <;> rfl
@[simp] theorem State.sendJournal_auction (s : State) (it : JItem) : (s.sendJournal it).auction = s.auction := by unfold State.sendJournal; split <;> rfl
@[simp] theorem State.sendJournal_time (s : State) (it : JItem) : (s.sendJournal it).time = s.time := by unfold State.sendJournal; split <;> rfl
@[simp] theorem State.sendJournal_light (s : State) (it : JItem) : (s.sendJournal it).light = s.light := by unfold State.sendJournal; split <;> rfl
@[simp] theorem State.sendJournal_link (s : State) (it : JItem) : (s.sendJournal it).link = s.link := by unfold State.sendJournal; split <;> rfl
@[simp] theorem State.sendJournal_power (s : State) (it : JItem) : (s.sendJournal it).power = s.power := by unfold State.sendJournal; split <;> rfl
@[simp] theorem State.sendJournal_boot (s : State) (it : JItem) : (s.sendJournal it).boot = s.boot := by unfold State.sendJournal; split <;> rfl
@[simp] theorem State.sendJournal_log (s : State) (it : JItem) : (s.sendJournal it).log = s.log := by unfold State.sendJournal; split <;> rfl
@[simp] theorem State.sendJournal_ras (s : State) (it : JItem) : (s.sendJournal it).ras = s.ras := by unfold State.sendJournal; split <;> rfl
@[simp] theorem State.sendJournal_test (s : State) (it : JItem) : (s.sendJournal it).test = s.test := by unfold State.sendJournal; split <;> rfl
@[simp] theorem State.sendJournal_free (s : State) (it : JItem) : (s.sendJournal it).free = s.free := by unfold State.sendJournal; split <;> rfl

/-! ## msix -/

@[simp] theorem State.msix_wipe (s : State) (v : Nat) : (s.msix v).wipe = s.wipe := by
  unfold State.msix; split <;> rfl

@[simp] theorem State.msix_pending (s : State) (v : Nat) : (s.msix v).pending = s.pending := (congrArg State.pending (State.msix_wipe s v) :)
@[simp] theorem State.msix_taken (s : State) (v : Nat) : (s.msix v).taken = s.taken := (congrArg State.taken (State.msix_wipe s v) :)
@[simp] theorem State.msix_regs (s : State) (v : Nat) : (s.msix v).regs = s.regs := by unfold State.msix; split <;> rfl
@[simp] theorem State.msix_steer (s : State) (v : Nat) : (s.msix v).steer = s.steer := (congrArg State.steer (State.msix_wipe s v) :)
@[simp] theorem State.msix_map (s : State) (v : Nat) : (s.msix v).map = s.map := (congrArg State.map (State.msix_wipe s v) :)
@[simp] theorem State.msix_lock (s : State) (v : Nat) : (s.msix v).lock = s.lock := (congrArg State.lock (State.msix_wipe s v) :)
@[simp] theorem State.msix_fabric (s : State) (v : Nat) : (s.msix v).fabric = s.fabric := (congrArg State.fabric (State.msix_wipe s v) :)
@[simp] theorem State.msix_tows (s : State) (v : Nat) : (s.msix v).tows = s.tows := (congrArg State.tows (State.msix_wipe s v) :)
@[simp] theorem State.msix_mem (s : State) (v : Nat) : (s.msix v).mem = s.mem := (congrArg State.mem (State.msix_wipe s v) :)
@[simp] theorem State.msix_auction (s : State) (v : Nat) : (s.msix v).auction = s.auction := (congrArg State.auction (State.msix_wipe s v) :)
@[simp] theorem State.msix_time (s : State) (v : Nat) : (s.msix v).time = s.time := (congrArg State.time (State.msix_wipe s v) :)
@[simp] theorem State.msix_pair (s : State) (v : Nat) : (s.msix v).pair = s.pair := (congrArg State.pair (State.msix_wipe s v) :)
@[simp] theorem State.msix_light (s : State) (v : Nat) : (s.msix v).light = s.light := (congrArg State.light (State.msix_wipe s v) :)
@[simp] theorem State.msix_power (s : State) (v : Nat) : (s.msix v).power = s.power := (congrArg State.power (State.msix_wipe s v) :)
@[simp] theorem State.msix_boot (s : State) (v : Nat) : (s.msix v).boot = s.boot := (congrArg State.boot (State.msix_wipe s v) :)
@[simp] theorem State.msix_log (s : State) (v : Nat) : (s.msix v).log = s.log := by unfold State.msix; split <;> rfl
@[simp] theorem State.msix_ras (s : State) (v : Nat) : (s.msix v).ras = s.ras := (congrArg State.ras (State.msix_wipe s v) :)
@[simp] theorem State.msix_test (s : State) (v : Nat) : (s.msix v).test = s.test := (congrArg State.test (State.msix_wipe s v) :)
@[simp] theorem State.msix_free (s : State) (v : Nat) : (s.msix v).free = s.free := (congrArg State.free (State.msix_wipe s v) :)

/-! ## sticky -/

@[simp] theorem State.sticky_wipe (s : State) (f : Fld) (v : Option Nat) : (s.sticky f v).wipe = s.wipe := by
  unfold State.sticky; split
  · rfl
  · cases v <;> simp

@[simp] theorem State.sticky_pending (s : State) (f : Fld) (v : Option Nat) : (s.sticky f v).pending = s.pending := (congrArg State.pending (State.sticky_wipe s f v) :)
@[simp] theorem State.sticky_taken (s : State) (f : Fld) (v : Option Nat) : (s.sticky f v).taken = s.taken := (congrArg State.taken (State.sticky_wipe s f v) :)
@[simp] theorem State.sticky_steer (s : State) (f : Fld) (v : Option Nat) : (s.sticky f v).steer = s.steer := (congrArg State.steer (State.sticky_wipe s f v) :)
@[simp] theorem State.sticky_map (s : State) (f : Fld) (v : Option Nat) : (s.sticky f v).map = s.map := (congrArg State.map (State.sticky_wipe s f v) :)
@[simp] theorem State.sticky_lock (s : State) (f : Fld) (v : Option Nat) : (s.sticky f v).lock = s.lock := (congrArg State.lock (State.sticky_wipe s f v) :)
@[simp] theorem State.sticky_fabric (s : State) (f : Fld) (v : Option Nat) : (s.sticky f v).fabric = s.fabric := (congrArg State.fabric (State.sticky_wipe s f v) :)
@[simp] theorem State.sticky_tows (s : State) (f : Fld) (v : Option Nat) : (s.sticky f v).tows = s.tows := (congrArg State.tows (State.sticky_wipe s f v) :)
@[simp] theorem State.sticky_mem (s : State) (f : Fld) (v : Option Nat) : (s.sticky f v).mem = s.mem := (congrArg State.mem (State.sticky_wipe s f v) :)
@[simp] theorem State.sticky_auction (s : State) (f : Fld) (v : Option Nat) : (s.sticky f v).auction = s.auction := (congrArg State.auction (State.sticky_wipe s f v) :)
@[simp] theorem State.sticky_time (s : State) (f : Fld) (v : Option Nat) : (s.sticky f v).time = s.time := (congrArg State.time (State.sticky_wipe s f v) :)
@[simp] theorem State.sticky_pair (s : State) (f : Fld) (v : Option Nat) : (s.sticky f v).pair = s.pair := (congrArg State.pair (State.sticky_wipe s f v) :)
@[simp] theorem State.sticky_light (s : State) (f : Fld) (v : Option Nat) : (s.sticky f v).light = s.light := (congrArg State.light (State.sticky_wipe s f v) :)
@[simp] theorem State.sticky_power (s : State) (f : Fld) (v : Option Nat) : (s.sticky f v).power = s.power := (congrArg State.power (State.sticky_wipe s f v) :)
@[simp] theorem State.sticky_boot (s : State) (f : Fld) (v : Option Nat) : (s.sticky f v).boot = s.boot := (congrArg State.boot (State.sticky_wipe s f v) :)
@[simp] theorem State.sticky_log (s : State) (f : Fld) (v : Option Nat) : (s.sticky f v).log = s.log := by
  unfold State.sticky
  split
  · rfl
  · cases v <;> simp
@[simp] theorem State.sticky_ras (s : State) (f : Fld) (v : Option Nat) : (s.sticky f v).ras = s.ras := (congrArg State.ras (State.sticky_wipe s f v) :)
@[simp] theorem State.sticky_test (s : State) (f : Fld) (v : Option Nat) : (s.sticky f v).test = s.test := (congrArg State.test (State.sticky_wipe s f v) :)
@[simp] theorem State.sticky_free (s : State) (f : Fld) (v : Option Nat) : (s.sticky f v).free = s.free := (congrArg State.free (State.sticky_wipe s f v) :)

/-! ## overwritten -/

@[simp] theorem State.overwritten_wipe (s : State) (e : Option Entry) : (s.overwritten e).wipe = s.wipe := by
  unfold State.overwritten; cases e
  · rfl
  · simp only [State.count_wipe, State.fset_wipe]
    (refine foldl_keeps State.wipe _ _ ?_ s; intro t k; rfl)

@[simp] theorem State.overwritten_pending (s : State) (e : Option Entry) : (s.overwritten e).pending = s.pending := (congrArg State.pending (State.overwritten_wipe s e) :)
@[simp] theorem State.overwritten_taken (s : State) (e : Option Entry) : (s.overwritten e).taken = s.taken := (congrArg State.taken (State.overwritten_wipe s e) :)
@[simp] theorem State.overwritten_steer (s : State) (e : Option Entry) : (s.overwritten e).steer = s.steer := (congrArg State.steer (State.overwritten_wipe s e) :)
@[simp] theorem State.overwritten_map (s : State) (e : Option Entry) : (s.overwritten e).map = s.map := (congrArg State.map (State.overwritten_wipe s e) :)
@[simp] theorem State.overwritten_lock (s : State) (e : Option Entry) : (s.overwritten e).lock = s.lock := (congrArg State.lock (State.overwritten_wipe s e) :)
@[simp] theorem State.overwritten_fabric (s : State) (e : Option Entry) : (s.overwritten e).fabric = s.fabric := (congrArg State.fabric (State.overwritten_wipe s e) :)
@[simp] theorem State.overwritten_tows (s : State) (e : Option Entry) : (s.overwritten e).tows = s.tows := (congrArg State.tows (State.overwritten_wipe s e) :)
@[simp] theorem State.overwritten_mem (s : State) (e : Option Entry) : (s.overwritten e).mem = s.mem := (congrArg State.mem (State.overwritten_wipe s e) :)
@[simp] theorem State.overwritten_auction (s : State) (e : Option Entry) : (s.overwritten e).auction = s.auction := (congrArg State.auction (State.overwritten_wipe s e) :)
@[simp] theorem State.overwritten_time (s : State) (e : Option Entry) : (s.overwritten e).time = s.time := (congrArg State.time (State.overwritten_wipe s e) :)
@[simp] theorem State.overwritten_pair (s : State) (e : Option Entry) : (s.overwritten e).pair = s.pair := (congrArg State.pair (State.overwritten_wipe s e) :)
@[simp] theorem State.overwritten_light (s : State) (e : Option Entry) : (s.overwritten e).light = s.light := (congrArg State.light (State.overwritten_wipe s e) :)
@[simp] theorem State.overwritten_link (s : State) (e : Option Entry) : (s.overwritten e).link = s.link := by
  unfold State.overwritten
  cases e
  · rfl
  · simp only [State.count_link, State.fset_link]
    (refine foldl_keeps State.link _ _ ?_ s; intro t k; rfl)
@[simp] theorem State.overwritten_power (s : State) (e : Option Entry) : (s.overwritten e).power = s.power := (congrArg State.power (State.overwritten_wipe s e) :)
@[simp] theorem State.overwritten_boot (s : State) (e : Option Entry) : (s.overwritten e).boot = s.boot := (congrArg State.boot (State.overwritten_wipe s e) :)
@[simp] theorem State.overwritten_ras (s : State) (e : Option Entry) : (s.overwritten e).ras = s.ras := (congrArg State.ras (State.overwritten_wipe s e) :)
@[simp] theorem State.overwritten_test (s : State) (e : Option Entry) : (s.overwritten e).test = s.test := (congrArg State.test (State.overwritten_wipe s e) :)
@[simp] theorem State.overwritten_out (s : State) (e : Option Entry) : (s.overwritten e).out = s.out := by
  unfold State.overwritten
  cases e
  · rfl
  · simp only [State.count_out, State.fset_out]
    (refine foldl_keeps State.out _ _ ?_ s; intro t k; rfl)
@[simp] theorem State.overwritten_free (s : State) (e : Option Entry) : (s.overwritten e).free = s.free := (congrArg State.free (State.overwritten_wipe s e) :)

/-! ## logEntry -/

@[simp] theorem State.logEntry_wipe (s : State) (sev source : Nat) (cls : Cls) (kind : Obj) (reason a0 a1 : Nat) : (s.logEntry sev source cls kind reason a0 a1).wipe = s.wipe := by
  unfold State.logEntry
  simp only [apply_ite State.wipe, State.fset_wipe, State.fadd_wipe, State.count_wipe, State.sticky_wipe, State.overwritten_wipe,
    State.wipe_log, ite_self]

@[simp] theorem State.logEntry_pending (s : State) (sev source : Nat) (cls : Cls) (kind : Obj) (reason a0 a1 : Nat) : (s.logEntry sev source cls kind reason a0 a1).pending = s.pending := (congrArg State.pending (State.logEntry_wipe s sev source cls kind reason a0 a1) :)
@[simp] theorem State.logEntry_taken (s : State) (sev source : Nat) (cls : Cls) (kind : Obj) (reason a0 a1 : Nat) : (s.logEntry sev source cls kind reason a0 a1).taken = s.taken := (congrArg State.taken (State.logEntry_wipe s sev source cls kind reason a0 a1) :)
@[simp] theorem State.logEntry_steer (s : State) (sev source : Nat) (cls : Cls) (kind : Obj) (reason a0 a1 : Nat) : (s.logEntry sev source cls kind reason a0 a1).steer = s.steer := (congrArg State.steer (State.logEntry_wipe s sev source cls kind reason a0 a1) :)
@[simp] theorem State.logEntry_map (s : State) (sev source : Nat) (cls : Cls) (kind : Obj) (reason a0 a1 : Nat) : (s.logEntry sev source cls kind reason a0 a1).map = s.map := (congrArg State.map (State.logEntry_wipe s sev source cls kind reason a0 a1) :)
@[simp] theorem State.logEntry_lock (s : State) (sev source : Nat) (cls : Cls) (kind : Obj) (reason a0 a1 : Nat) : (s.logEntry sev source cls kind reason a0 a1).lock = s.lock := (congrArg State.lock (State.logEntry_wipe s sev source cls kind reason a0 a1) :)
@[simp] theorem State.logEntry_fabric (s : State) (sev source : Nat) (cls : Cls) (kind : Obj) (reason a0 a1 : Nat) : (s.logEntry sev source cls kind reason a0 a1).fabric = s.fabric := (congrArg State.fabric (State.logEntry_wipe s sev source cls kind reason a0 a1) :)
@[simp] theorem State.logEntry_tows (s : State) (sev source : Nat) (cls : Cls) (kind : Obj) (reason a0 a1 : Nat) : (s.logEntry sev source cls kind reason a0 a1).tows = s.tows := (congrArg State.tows (State.logEntry_wipe s sev source cls kind reason a0 a1) :)
@[simp] theorem State.logEntry_mem (s : State) (sev source : Nat) (cls : Cls) (kind : Obj) (reason a0 a1 : Nat) : (s.logEntry sev source cls kind reason a0 a1).mem = s.mem := (congrArg State.mem (State.logEntry_wipe s sev source cls kind reason a0 a1) :)
@[simp] theorem State.logEntry_auction (s : State) (sev source : Nat) (cls : Cls) (kind : Obj) (reason a0 a1 : Nat) : (s.logEntry sev source cls kind reason a0 a1).auction = s.auction := (congrArg State.auction (State.logEntry_wipe s sev source cls kind reason a0 a1) :)
@[simp] theorem State.logEntry_time (s : State) (sev source : Nat) (cls : Cls) (kind : Obj) (reason a0 a1 : Nat) : (s.logEntry sev source cls kind reason a0 a1).time = s.time := (congrArg State.time (State.logEntry_wipe s sev source cls kind reason a0 a1) :)
@[simp] theorem State.logEntry_pair (s : State) (sev source : Nat) (cls : Cls) (kind : Obj) (reason a0 a1 : Nat) : (s.logEntry sev source cls kind reason a0 a1).pair = s.pair := (congrArg State.pair (State.logEntry_wipe s sev source cls kind reason a0 a1) :)
@[simp] theorem State.logEntry_light (s : State) (sev source : Nat) (cls : Cls) (kind : Obj) (reason a0 a1 : Nat) : (s.logEntry sev source cls kind reason a0 a1).light = s.light := (congrArg State.light (State.logEntry_wipe s sev source cls kind reason a0 a1) :)
@[simp] theorem State.logEntry_power (s : State) (sev source : Nat) (cls : Cls) (kind : Obj) (reason a0 a1 : Nat) : (s.logEntry sev source cls kind reason a0 a1).power = s.power := (congrArg State.power (State.logEntry_wipe s sev source cls kind reason a0 a1) :)
@[simp] theorem State.logEntry_boot (s : State) (sev source : Nat) (cls : Cls) (kind : Obj) (reason a0 a1 : Nat) : (s.logEntry sev source cls kind reason a0 a1).boot = s.boot := (congrArg State.boot (State.logEntry_wipe s sev source cls kind reason a0 a1) :)
@[simp] theorem State.logEntry_ras (s : State) (sev source : Nat) (cls : Cls) (kind : Obj) (reason a0 a1 : Nat) : (s.logEntry sev source cls kind reason a0 a1).ras = s.ras := (congrArg State.ras (State.logEntry_wipe s sev source cls kind reason a0 a1) :)
@[simp] theorem State.logEntry_test (s : State) (sev source : Nat) (cls : Cls) (kind : Obj) (reason a0 a1 : Nat) : (s.logEntry sev source cls kind reason a0 a1).test = s.test := (congrArg State.test (State.logEntry_wipe s sev source cls kind reason a0 a1) :)
@[simp] theorem State.logEntry_free (s : State) (sev source : Nat) (cls : Cls) (kind : Obj) (reason a0 a1 : Nat) : (s.logEntry sev source cls kind reason a0 a1).free = s.free := (congrArg State.free (State.logEntry_wipe s sev source cls kind reason a0 a1) :)

/-! ## push -/

@[simp] theorem State.push_wipe (s : State) (q : Nat) (it : Item) : (s.push q it).wipe = s.wipe := by
  simp [State.push, apply_ite State.wipe]

@[simp] theorem State.push_pending (s : State) (q : Nat) (it : Item) : (s.push q it).pending = s.pending := (congrArg State.pending (State.push_wipe s q it) :)
@[simp] theorem State.push_taken (s : State) (q : Nat) (it : Item) : (s.push q it).taken = s.taken := (congrArg State.taken (State.push_wipe s q it) :)
@[simp] theorem State.push_regs (s : State) (q : Nat) (it : Item) : (s.push q it).regs = s.regs := by simp [State.push, apply_ite State.regs]
@[simp] theorem State.push_steer (s : State) (q : Nat) (it : Item) : (s.push q it).steer = s.steer := (congrArg State.steer (State.push_wipe s q it) :)
@[simp] theorem State.push_map (s : State) (q : Nat) (it : Item) : (s.push q it).map = s.map := (congrArg State.map (State.push_wipe s q it) :)
@[simp] theorem State.push_lock (s : State) (q : Nat) (it : Item) : (s.push q it).lock = s.lock := (congrArg State.lock (State.push_wipe s q it) :)
@[simp] theorem State.push_fabric (s : State) (q : Nat) (it : Item) : (s.push q it).fabric = s.fabric := (congrArg State.fabric (State.push_wipe s q it) :)
@[simp] theorem State.push_tows (s : State) (q : Nat) (it : Item) : (s.push q it).tows = s.tows := (congrArg State.tows (State.push_wipe s q it) :)
@[simp] theorem State.push_mem (s : State) (q : Nat) (it : Item) : (s.push q it).mem = s.mem := (congrArg State.mem (State.push_wipe s q it) :)
@[simp] theorem State.push_auction (s : State) (q : Nat) (it : Item) : (s.push q it).auction = s.auction := (congrArg State.auction (State.push_wipe s q it) :)
@[simp] theorem State.push_time (s : State) (q : Nat) (it : Item) : (s.push q it).time = s.time := (congrArg State.time (State.push_wipe s q it) :)
@[simp] theorem State.push_pair (s : State) (q : Nat) (it : Item) : (s.push q it).pair = s.pair := (congrArg State.pair (State.push_wipe s q it) :)
@[simp] theorem State.push_light (s : State) (q : Nat) (it : Item) : (s.push q it).light = s.light := (congrArg State.light (State.push_wipe s q it) :)
@[simp] theorem State.push_power (s : State) (q : Nat) (it : Item) : (s.push q it).power = s.power := (congrArg State.power (State.push_wipe s q it) :)
@[simp] theorem State.push_boot (s : State) (q : Nat) (it : Item) : (s.push q it).boot = s.boot := (congrArg State.boot (State.push_wipe s q it) :)
@[simp] theorem State.push_log (s : State) (q : Nat) (it : Item) : (s.push q it).log = s.log := by simp [State.push, apply_ite State.log]
@[simp] theorem State.push_ras (s : State) (q : Nat) (it : Item) : (s.push q it).ras = s.ras := (congrArg State.ras (State.push_wipe s q it) :)
@[simp] theorem State.push_test (s : State) (q : Nat) (it : Item) : (s.push q it).test = s.test := (congrArg State.test (State.push_wipe s q it) :)
@[simp] theorem State.push_out (s : State) (q : Nat) (it : Item) : (s.push q it).out = s.out := by simp [State.push, apply_ite State.out]
@[simp] theorem State.push_free (s : State) (q : Nat) (it : Item) : (s.push q it).free = s.free := (congrArg State.free (State.push_wipe s q it) :)

/-! ## event -/

@[simp] theorem State.event_wipe (s : State) (e : Nat) (b : List Byte) : (s.event e b).wipe = s.wipe := by
  unfold State.event; split <;> simp

@[simp] theorem State.event_pending (s : State) (e : Nat) (b : List Byte) : (s.event e b).pending = s.pending := (congrArg State.pending (State.event_wipe s e b) :)
@[simp] theorem State.event_taken (s : State) (e : Nat) (b : List Byte) : (s.event e b).taken = s.taken := (congrArg State.taken (State.event_wipe s e b) :)
@[simp] theorem State.event_regs (s : State) (e : Nat) (b : List Byte) : (s.event e b).regs = s.regs := by simp [State.event, apply_ite State.regs]
@[simp] theorem State.event_steer (s : State) (e : Nat) (b : List Byte) : (s.event e b).steer = s.steer := (congrArg State.steer (State.event_wipe s e b) :)
@[simp] theorem State.event_map (s : State) (e : Nat) (b : List Byte) : (s.event e b).map = s.map := (congrArg State.map (State.event_wipe s e b) :)
@[simp] theorem State.event_lock (s : State) (e : Nat) (b : List Byte) : (s.event e b).lock = s.lock := (congrArg State.lock (State.event_wipe s e b) :)
@[simp] theorem State.event_fabric (s : State) (e : Nat) (b : List Byte) : (s.event e b).fabric = s.fabric := (congrArg State.fabric (State.event_wipe s e b) :)
@[simp] theorem State.event_tows (s : State) (e : Nat) (b : List Byte) : (s.event e b).tows = s.tows := (congrArg State.tows (State.event_wipe s e b) :)
@[simp] theorem State.event_mem (s : State) (e : Nat) (b : List Byte) : (s.event e b).mem = s.mem := (congrArg State.mem (State.event_wipe s e b) :)
@[simp] theorem State.event_auction (s : State) (e : Nat) (b : List Byte) : (s.event e b).auction = s.auction := (congrArg State.auction (State.event_wipe s e b) :)
@[simp] theorem State.event_time (s : State) (e : Nat) (b : List Byte) : (s.event e b).time = s.time := (congrArg State.time (State.event_wipe s e b) :)
@[simp] theorem State.event_pair (s : State) (e : Nat) (b : List Byte) : (s.event e b).pair = s.pair := (congrArg State.pair (State.event_wipe s e b) :)
@[simp] theorem State.event_light (s : State) (e : Nat) (b : List Byte) : (s.event e b).light = s.light := (congrArg State.light (State.event_wipe s e b) :)
@[simp] theorem State.event_power (s : State) (e : Nat) (b : List Byte) : (s.event e b).power = s.power := (congrArg State.power (State.event_wipe s e b) :)
@[simp] theorem State.event_boot (s : State) (e : Nat) (b : List Byte) : (s.event e b).boot = s.boot := (congrArg State.boot (State.event_wipe s e b) :)
@[simp] theorem State.event_log (s : State) (e : Nat) (b : List Byte) : (s.event e b).log = s.log := by simp [State.event, apply_ite State.log]
@[simp] theorem State.event_ras (s : State) (e : Nat) (b : List Byte) : (s.event e b).ras = s.ras := (congrArg State.ras (State.event_wipe s e b) :)
@[simp] theorem State.event_test (s : State) (e : Nat) (b : List Byte) : (s.event e b).test = s.test := (congrArg State.test (State.event_wipe s e b) :)
@[simp] theorem State.event_out (s : State) (e : Nat) (b : List Byte) : (s.event e b).out = s.out := by simp [State.event, apply_ite State.out]
@[simp] theorem State.event_free (s : State) (e : Nat) (b : List Byte) : (s.event e b).free = s.free := (congrArg State.free (State.event_wipe s e b) :)

/-! ## spaceEvent -/

@[simp] theorem State.spaceEvent_wipe (s : State) (p c : Nat) (b : List Byte) : (s.spaceEvent p c b).wipe = s.wipe := by
  unfold State.spaceEvent; split <;> simp

@[simp] theorem State.spaceEvent_pending (s : State) (p c : Nat) (b : List Byte) : (s.spaceEvent p c b).pending = s.pending := (congrArg State.pending (State.spaceEvent_wipe s p c b) :)
@[simp] theorem State.spaceEvent_taken (s : State) (p c : Nat) (b : List Byte) : (s.spaceEvent p c b).taken = s.taken := (congrArg State.taken (State.spaceEvent_wipe s p c b) :)
@[simp] theorem State.spaceEvent_regs (s : State) (p c : Nat) (b : List Byte) : (s.spaceEvent p c b).regs = s.regs := by
  unfold State.spaceEvent
  split <;> simp
@[simp] theorem State.spaceEvent_steer (s : State) (p c : Nat) (b : List Byte) : (s.spaceEvent p c b).steer = s.steer := (congrArg State.steer (State.spaceEvent_wipe s p c b) :)
@[simp] theorem State.spaceEvent_map (s : State) (p c : Nat) (b : List Byte) : (s.spaceEvent p c b).map = s.map := (congrArg State.map (State.spaceEvent_wipe s p c b) :)
@[simp] theorem State.spaceEvent_lock (s : State) (p c : Nat) (b : List Byte) : (s.spaceEvent p c b).lock = s.lock := (congrArg State.lock (State.spaceEvent_wipe s p c b) :)
@[simp] theorem State.spaceEvent_fabric (s : State) (p c : Nat) (b : List Byte) : (s.spaceEvent p c b).fabric = s.fabric := (congrArg State.fabric (State.spaceEvent_wipe s p c b) :)
@[simp] theorem State.spaceEvent_tows (s : State) (p c : Nat) (b : List Byte) : (s.spaceEvent p c b).tows = s.tows := (congrArg State.tows (State.spaceEvent_wipe s p c b) :)
@[simp] theorem State.spaceEvent_mem (s : State) (p c : Nat) (b : List Byte) : (s.spaceEvent p c b).mem = s.mem := (congrArg State.mem (State.spaceEvent_wipe s p c b) :)
@[simp] theorem State.spaceEvent_auction (s : State) (p c : Nat) (b : List Byte) : (s.spaceEvent p c b).auction = s.auction := (congrArg State.auction (State.spaceEvent_wipe s p c b) :)
@[simp] theorem State.spaceEvent_time (s : State) (p c : Nat) (b : List Byte) : (s.spaceEvent p c b).time = s.time := (congrArg State.time (State.spaceEvent_wipe s p c b) :)
@[simp] theorem State.spaceEvent_pair (s : State) (p c : Nat) (b : List Byte) : (s.spaceEvent p c b).pair = s.pair := (congrArg State.pair (State.spaceEvent_wipe s p c b) :)
@[simp] theorem State.spaceEvent_light (s : State) (p c : Nat) (b : List Byte) : (s.spaceEvent p c b).light = s.light := (congrArg State.light (State.spaceEvent_wipe s p c b) :)
@[simp] theorem State.spaceEvent_power (s : State) (p c : Nat) (b : List Byte) : (s.spaceEvent p c b).power = s.power := (congrArg State.power (State.spaceEvent_wipe s p c b) :)
@[simp] theorem State.spaceEvent_boot (s : State) (p c : Nat) (b : List Byte) : (s.spaceEvent p c b).boot = s.boot := (congrArg State.boot (State.spaceEvent_wipe s p c b) :)
@[simp] theorem State.spaceEvent_log (s : State) (p c : Nat) (b : List Byte) : (s.spaceEvent p c b).log = s.log := by
  unfold State.spaceEvent
  split <;> simp
@[simp] theorem State.spaceEvent_ras (s : State) (p c : Nat) (b : List Byte) : (s.spaceEvent p c b).ras = s.ras := (congrArg State.ras (State.spaceEvent_wipe s p c b) :)
@[simp] theorem State.spaceEvent_test (s : State) (p c : Nat) (b : List Byte) : (s.spaceEvent p c b).test = s.test := (congrArg State.test (State.spaceEvent_wipe s p c b) :)
@[simp] theorem State.spaceEvent_out (s : State) (p c : Nat) (b : List Byte) : (s.spaceEvent p c b).out = s.out := by
  unfold State.spaceEvent
  split <;> simp
@[simp] theorem State.spaceEvent_free (s : State) (p c : Nat) (b : List Byte) : (s.spaceEvent p c b).free = s.free := (congrArg State.free (State.spaceEvent_wipe s p c b) :)

/-! ## unreserve -/

@[simp] theorem State.unreserve_wipe (s : State) (src : Src) : (s.unreserve src).wipe = s.wipe := by
  unfold State.unreserve; dsimp only
  split <;> (refine foldl_keeps State.wipe _ _ ?_ s; intro t k; rfl)

@[simp] theorem State.unreserve_pending (s : State) (src : Src) : (s.unreserve src).pending = s.pending := (congrArg State.pending (State.unreserve_wipe s src) :)
@[simp] theorem State.unreserve_taken (s : State) (src : Src) : (s.unreserve src).taken = s.taken := (congrArg State.taken (State.unreserve_wipe s src) :)
@[simp] theorem State.unreserve_regs (s : State) (src : Src) : (s.unreserve src).regs = s.regs := by
  unfold State.unreserve
  dsimp only
  split <;> (refine foldl_keeps State.regs _ _ ?_ s; intro t k; rfl)
@[simp] theorem State.unreserve_steer (s : State) (src : Src) : (s.unreserve src).steer = s.steer := (congrArg State.steer (State.unreserve_wipe s src) :)
@[simp] theorem State.unreserve_map (s : State) (src : Src) : (s.unreserve src).map = s.map := (congrArg State.map (State.unreserve_wipe s src) :)
@[simp] theorem State.unreserve_lock (s : State) (src : Src) : (s.unreserve src).lock = s.lock := (congrArg State.lock (State.unreserve_wipe s src) :)
@[simp] theorem State.unreserve_fabric (s : State) (src : Src) : (s.unreserve src).fabric = s.fabric := (congrArg State.fabric (State.unreserve_wipe s src) :)
@[simp] theorem State.unreserve_tows (s : State) (src : Src) : (s.unreserve src).tows = s.tows := (congrArg State.tows (State.unreserve_wipe s src) :)
@[simp] theorem State.unreserve_mem (s : State) (src : Src) : (s.unreserve src).mem = s.mem := (congrArg State.mem (State.unreserve_wipe s src) :)
@[simp] theorem State.unreserve_auction (s : State) (src : Src) : (s.unreserve src).auction = s.auction := (congrArg State.auction (State.unreserve_wipe s src) :)
@[simp] theorem State.unreserve_time (s : State) (src : Src) : (s.unreserve src).time = s.time := (congrArg State.time (State.unreserve_wipe s src) :)
@[simp] theorem State.unreserve_pair (s : State) (src : Src) : (s.unreserve src).pair = s.pair := (congrArg State.pair (State.unreserve_wipe s src) :)
@[simp] theorem State.unreserve_light (s : State) (src : Src) : (s.unreserve src).light = s.light := (congrArg State.light (State.unreserve_wipe s src) :)
@[simp] theorem State.unreserve_power (s : State) (src : Src) : (s.unreserve src).power = s.power := (congrArg State.power (State.unreserve_wipe s src) :)
@[simp] theorem State.unreserve_boot (s : State) (src : Src) : (s.unreserve src).boot = s.boot := (congrArg State.boot (State.unreserve_wipe s src) :)
@[simp] theorem State.unreserve_log (s : State) (src : Src) : (s.unreserve src).log = s.log := by
  unfold State.unreserve
  dsimp only
  split <;> (refine foldl_keeps State.log _ _ ?_ s; intro t k; rfl)
@[simp] theorem State.unreserve_ras (s : State) (src : Src) : (s.unreserve src).ras = s.ras := (congrArg State.ras (State.unreserve_wipe s src) :)
@[simp] theorem State.unreserve_test (s : State) (src : Src) : (s.unreserve src).test = s.test := (congrArg State.test (State.unreserve_wipe s src) :)
@[simp] theorem State.unreserve_counters (s : State) (src : Src) : (s.unreserve src).counters = s.counters := by
  unfold State.unreserve
  dsimp only
  split <;> (refine foldl_keeps State.counters _ _ ?_ s; intro t k; rfl)
@[simp] theorem State.unreserve_out (s : State) (src : Src) : (s.unreserve src).out = s.out := by
  unfold State.unreserve
  dsimp only
  split <;> (refine foldl_keeps State.out _ _ ?_ s; intro t k; rfl)
@[simp] theorem State.unreserve_free (s : State) (src : Src) : (s.unreserve src).free = s.free := (congrArg State.free (State.unreserve_wipe s src) :)

/-! ## complete -/

@[simp] theorem State.complete_wipe (s : State) (op : Nat) (src : Src) (st : Status) (r d : Nat) (res cells : List Byte) : (s.complete op src st r d res cells).wipe = s.wipe := by
  unfold State.complete
  simp only [apply_ite State.wipe, State.modQueue_wipe, State.count_wipe, State.unreserve_wipe, State.logEntry_wipe,
    State.wipe_link, ite_self]

@[simp] theorem State.complete_pending (s : State) (op : Nat) (src : Src) (st : Status) (r d : Nat) (res cells : List Byte) : (s.complete op src st r d res cells).pending = s.pending := (congrArg State.pending (State.complete_wipe s op src st r d res cells) :)
@[simp] theorem State.complete_taken (s : State) (op : Nat) (src : Src) (st : Status) (r d : Nat) (res cells : List Byte) : (s.complete op src st r d res cells).taken = s.taken := (congrArg State.taken (State.complete_wipe s op src st r d res cells) :)
@[simp] theorem State.complete_steer (s : State) (op : Nat) (src : Src) (st : Status) (r d : Nat) (res cells : List Byte) : (s.complete op src st r d res cells).steer = s.steer := (congrArg State.steer (State.complete_wipe s op src st r d res cells) :)
@[simp] theorem State.complete_map (s : State) (op : Nat) (src : Src) (st : Status) (r d : Nat) (res cells : List Byte) : (s.complete op src st r d res cells).map = s.map := (congrArg State.map (State.complete_wipe s op src st r d res cells) :)
@[simp] theorem State.complete_lock (s : State) (op : Nat) (src : Src) (st : Status) (r d : Nat) (res cells : List Byte) : (s.complete op src st r d res cells).lock = s.lock := (congrArg State.lock (State.complete_wipe s op src st r d res cells) :)
@[simp] theorem State.complete_fabric (s : State) (op : Nat) (src : Src) (st : Status) (r d : Nat) (res cells : List Byte) : (s.complete op src st r d res cells).fabric = s.fabric := (congrArg State.fabric (State.complete_wipe s op src st r d res cells) :)
@[simp] theorem State.complete_tows (s : State) (op : Nat) (src : Src) (st : Status) (r d : Nat) (res cells : List Byte) : (s.complete op src st r d res cells).tows = s.tows := (congrArg State.tows (State.complete_wipe s op src st r d res cells) :)
@[simp] theorem State.complete_mem (s : State) (op : Nat) (src : Src) (st : Status) (r d : Nat) (res cells : List Byte) : (s.complete op src st r d res cells).mem = s.mem := (congrArg State.mem (State.complete_wipe s op src st r d res cells) :)
@[simp] theorem State.complete_auction (s : State) (op : Nat) (src : Src) (st : Status) (r d : Nat) (res cells : List Byte) : (s.complete op src st r d res cells).auction = s.auction := (congrArg State.auction (State.complete_wipe s op src st r d res cells) :)
@[simp] theorem State.complete_time (s : State) (op : Nat) (src : Src) (st : Status) (r d : Nat) (res cells : List Byte) : (s.complete op src st r d res cells).time = s.time := (congrArg State.time (State.complete_wipe s op src st r d res cells) :)
@[simp] theorem State.complete_pair (s : State) (op : Nat) (src : Src) (st : Status) (r d : Nat) (res cells : List Byte) : (s.complete op src st r d res cells).pair = s.pair := (congrArg State.pair (State.complete_wipe s op src st r d res cells) :)
@[simp] theorem State.complete_light (s : State) (op : Nat) (src : Src) (st : Status) (r d : Nat) (res cells : List Byte) : (s.complete op src st r d res cells).light = s.light := (congrArg State.light (State.complete_wipe s op src st r d res cells) :)
@[simp] theorem State.complete_power (s : State) (op : Nat) (src : Src) (st : Status) (r d : Nat) (res cells : List Byte) : (s.complete op src st r d res cells).power = s.power := (congrArg State.power (State.complete_wipe s op src st r d res cells) :)
@[simp] theorem State.complete_boot (s : State) (op : Nat) (src : Src) (st : Status) (r d : Nat) (res cells : List Byte) : (s.complete op src st r d res cells).boot = s.boot := (congrArg State.boot (State.complete_wipe s op src st r d res cells) :)
@[simp] theorem State.complete_ras (s : State) (op : Nat) (src : Src) (st : Status) (r d : Nat) (res cells : List Byte) : (s.complete op src st r d res cells).ras = s.ras := (congrArg State.ras (State.complete_wipe s op src st r d res cells) :)
@[simp] theorem State.complete_test (s : State) (op : Nat) (src : Src) (st : Status) (r d : Nat) (res cells : List Byte) : (s.complete op src st r d res cells).test = s.test := (congrArg State.test (State.complete_wipe s op src st r d res cells) :)
@[simp] theorem State.complete_free (s : State) (op : Nat) (src : Src) (st : Status) (r d : Nat) (res cells : List Byte) : (s.complete op src st r d res cells).free = s.free := (congrArg State.free (State.complete_wipe s op src st r d res cells) :)

/-! ## refuse -/

@[simp] theorem State.refuse_wipe (s : State) (op : Nat) (src : Src) (r : Reason) (d : Nat) : (s.refuse op src r d).wipe = s.wipe := by
  exact State.complete_wipe _ _ _ _ _ _ _ _

@[simp] theorem State.refuse_pending (s : State) (op : Nat) (src : Src) (r : Reason) (d : Nat) : (s.refuse op src r d).pending = s.pending := (congrArg State.pending (State.refuse_wipe s op src r d) :)
@[simp] theorem State.refuse_taken (s : State) (op : Nat) (src : Src) (r : Reason) (d : Nat) : (s.refuse op src r d).taken = s.taken := (congrArg State.taken (State.refuse_wipe s op src r d) :)
@[simp] theorem State.refuse_steer (s : State) (op : Nat) (src : Src) (r : Reason) (d : Nat) : (s.refuse op src r d).steer = s.steer := (congrArg State.steer (State.refuse_wipe s op src r d) :)
@[simp] theorem State.refuse_map (s : State) (op : Nat) (src : Src) (r : Reason) (d : Nat) : (s.refuse op src r d).map = s.map := (congrArg State.map (State.refuse_wipe s op src r d) :)
@[simp] theorem State.refuse_lock (s : State) (op : Nat) (src : Src) (r : Reason) (d : Nat) : (s.refuse op src r d).lock = s.lock := (congrArg State.lock (State.refuse_wipe s op src r d) :)
@[simp] theorem State.refuse_fabric (s : State) (op : Nat) (src : Src) (r : Reason) (d : Nat) : (s.refuse op src r d).fabric = s.fabric := (congrArg State.fabric (State.refuse_wipe s op src r d) :)
@[simp] theorem State.refuse_tows (s : State) (op : Nat) (src : Src) (r : Reason) (d : Nat) : (s.refuse op src r d).tows = s.tows := (congrArg State.tows (State.refuse_wipe s op src r d) :)
@[simp] theorem State.refuse_mem (s : State) (op : Nat) (src : Src) (r : Reason) (d : Nat) : (s.refuse op src r d).mem = s.mem := (congrArg State.mem (State.refuse_wipe s op src r d) :)
@[simp] theorem State.refuse_auction (s : State) (op : Nat) (src : Src) (r : Reason) (d : Nat) : (s.refuse op src r d).auction = s.auction := (congrArg State.auction (State.refuse_wipe s op src r d) :)
@[simp] theorem State.refuse_time (s : State) (op : Nat) (src : Src) (r : Reason) (d : Nat) : (s.refuse op src r d).time = s.time := (congrArg State.time (State.refuse_wipe s op src r d) :)
@[simp] theorem State.refuse_pair (s : State) (op : Nat) (src : Src) (r : Reason) (d : Nat) : (s.refuse op src r d).pair = s.pair := (congrArg State.pair (State.refuse_wipe s op src r d) :)
@[simp] theorem State.refuse_light (s : State) (op : Nat) (src : Src) (r : Reason) (d : Nat) : (s.refuse op src r d).light = s.light := (congrArg State.light (State.refuse_wipe s op src r d) :)
@[simp] theorem State.refuse_power (s : State) (op : Nat) (src : Src) (r : Reason) (d : Nat) : (s.refuse op src r d).power = s.power := (congrArg State.power (State.refuse_wipe s op src r d) :)
@[simp] theorem State.refuse_boot (s : State) (op : Nat) (src : Src) (r : Reason) (d : Nat) : (s.refuse op src r d).boot = s.boot := (congrArg State.boot (State.refuse_wipe s op src r d) :)
@[simp] theorem State.refuse_ras (s : State) (op : Nat) (src : Src) (r : Reason) (d : Nat) : (s.refuse op src r d).ras = s.ras := (congrArg State.ras (State.refuse_wipe s op src r d) :)
@[simp] theorem State.refuse_test (s : State) (op : Nat) (src : Src) (r : Reason) (d : Nat) : (s.refuse op src r d).test = s.test := (congrArg State.test (State.refuse_wipe s op src r d) :)
@[simp] theorem State.refuse_free (s : State) (op : Nat) (src : Src) (r : Reason) (d : Nat) : (s.refuse op src r d).free = s.free := (congrArg State.free (State.refuse_wipe s op src r d) :)

end Sys2Proof.Machine
end

