-- ==== Sys2Proof/Laws/Reports.lean ====
section
/-!
SUPPORT. What a report leaves: a logbook entry, a count, a message, a queue item, a journal message and a completion change nothing
of the machine but the records they are written to (R261, R277, R287, R345–R351).
-/

namespace Sys2Proof.Machine

/-- Two states that agree outside the records of reports differ in nothing else. -/
theorem State.eq_of_wipe (u t : State) (h : t.wipe = u.wipe) :
    t = { u with regs := t.regs, log := t.log, counters := t.counters, out := t.out, link := t.link } := by
  cases u; cases t; simp_all [State.wipe]

theorem reports_refl (u : State) (l : List Fld) : reports u u l := ⟨rfl, rfl, rfl, fun _ _ => rfl⟩

theorem reports_trans {a b c : State} {l : List Fld} (h1 : reports a b l) (h2 : reports b c l) : reports a c l := by
  obtain ⟨e1, k1, p1, f1⟩ := h1
  obtain ⟨e2, k2, p2, f2⟩ := h2
  refine ⟨?_, ?_, ?_, fun g hg => (f2 g hg).trans (f1 g hg)⟩
  · rw [e2, e1]
  · rw [k2, k1]
  · rw [p2, p1]

theorem reports_mono {u t : State} {l m : List Fld} (h : reports u t l) (hl : ∀ f ∈ l, f ∈ m) : reports u t m :=
  ⟨h.1, h.2.1, h.2.2.1, fun g hg => h.2.2.2 g (fun f hf => hg f (by
    simp only [List.mem_append] at hf ⊢; exact hf.imp (hl f) id))⟩

/-- Writing one field reports that field. -/
theorem State.fset_reports (s : State) (f : Fld) (v : Nat) (l : List Fld) (hf : f.lo + f.width ≤ 32) (w : wordsWf 0 s.regs = true)
    (hm : f ∈ l ++ logFields) : reports s (s.fset f v) l :=
  ⟨rfl, rfl, rfl, fun g hg => s.fget_fset_apart f g v hf w (hg f hm)⟩

theorem State.count_reports (s : State) (g i n : Nat) (l : List Fld) : reports s (s.count g i n) l := ⟨rfl, rfl, rfl, fun _ _ => rfl⟩

theorem State.emit_reports (s : State) (x : Sent) (l : List Fld) : reports s (s.emit x) l := ⟨rfl, rfl, rfl, fun _ _ => rfl⟩

theorem State.modQueue_reports (s : State) (q : Nat) (f : Queue → Queue) (l : List Fld) : reports s (s.modQueue q f) l :=
  ⟨rfl, rfl, rfl, fun _ _ => rfl⟩

theorem State.msix_reports (s : State) (v : Nat) (l : List Fld) : reports s (s.msix v) l := by
  unfold State.msix; split <;> exact ⟨rfl, rfl, rfl, fun _ _ => rfl⟩

theorem State.sendJournal_reports (s : State) (it : JItem) (l : List Fld) : reports s (s.sendJournal it) l := by
  unfold State.sendJournal; split <;> exact ⟨rfl, rfl, rfl, fun _ _ => rfl⟩

theorem State.sticky_reports (s : State) (f : Fld) (v : Option Nat) (l : List Fld) (hf : f.lo + f.width ≤ 32)
    (w : wordsWf 0 s.regs = true) (hm : f ∈ l ++ logFields) : reports s (s.sticky f v) l := by
  unfold State.sticky
  split
  · exact reports_refl s l
  · cases v with
    | none => exact s.fset_reports f 1 l hf w hm
    | some v => exact reports_trans (s.fset_reports f 1 l hf w hm) (State.msix_reports _ v l)

theorem State.push_reports (s : State) (q : Nat) (it : Item) (l : List Fld) : reports s (s.push q it) l := by
  unfold State.push
  dsimp only
  split
  · exact reports_refl s l
  · split
    · exact reports_trans (State.modQueue_reports _ _ _ l) (State.count_reports _ _ _ _ l)
    · split
      · split
        · exact reports_trans (reports_trans (State.modQueue_reports _ _ _ l) (State.count_reports _ _ _ _ l))
            (State.count_reports _ _ _ _ l)
        · exact reports_trans (State.modQueue_reports _ _ _ l) (State.count_reports _ _ _ _ l)
      · exact reports_trans (State.modQueue_reports _ _ _ l) (State.count_reports _ _ _ _ l)

theorem State.event_reports (s : State) (e : Nat) (b : List Byte) (l : List Fld) : reports s (s.event e b) l := by
  unfold State.event; split
  · exact State.push_reports _ _ _ l
  · exact reports_refl s l

theorem State.spaceEvent_reports (s : State) (p c : Nat) (b : List Byte) (l : List Fld) : reports s (s.spaceEvent p c b) l := by
  unfold State.spaceEvent; split
  · exact State.push_reports _ _ _ l
  · exact reports_refl s l

/-! ## The register file's form under reports -/

theorem State.sticky_wf (s : State) (f : Fld) (v : Option Nat) (w : wordsWf 0 s.regs = true) :
    wordsWf 0 (s.sticky f v).regs = true := by
  unfold State.sticky
  split
  · exact w
  · cases v with
    | none => exact s.fset_wf f 1 w
    | some v => simpa using s.fset_wf f 1 w

theorem State.fadd_wf (s : State) (f : Fld) (n : Nat) (w : wordsWf 0 s.regs = true) : wordsWf 0 (s.fadd f n).regs = true := s.fset_wf _ _ w

theorem State.fadd_reports (s : State) (f : Fld) (n : Nat) (l : List Fld) (hf : f.lo + f.width ≤ 32) (w : wordsWf 0 s.regs = true)
    (hm : f ∈ l ++ logFields) : reports s (s.fadd f n) l := s.fset_reports f _ l hf w hm

/-- A conditional step is a report when it is one. -/
theorem reports_ite {u : State} {l : List Fld} (c : Prop) [Decidable c] (t : State) (w : wordsWf 0 u.regs = true)
    (h : reports u t l ∧ wordsWf 0 t.regs = true) : reports u (if c then t else u) l ∧ wordsWf 0 (if c then t else u).regs = true := by
  split
  · exact h
  · exact ⟨reports_refl u l, w⟩

theorem State.overwritten_reports (s : State) (e : Option Entry) (l : List Fld) (w : wordsWf 0 s.regs = true) :
    reports s (s.overwritten e) l ∧ wordsWf 0 (s.overwritten e).regs = true := by
  unfold State.overwritten
  cases e with
  | none => exact ⟨reports_refl s l, w⟩
  | some v =>
    dsimp only
    generalize hs : List.foldl (fun (s : State) i =>
        { s with log := { s.log with marks := spMod {} s.log.marks i (fun m => m.overtake v.index) } }) s _ = s1
    have hr : s1.regs = s.regs := by rw [← hs]; refine foldl_keeps State.regs _ _ ?_ s; intro t k; rfl
    have h1 : reports s s1 l := by
      rw [← hs]
      generalize List.filter _ (List.range 8) = is
      clear hs hr
      have key : ∀ (is : List Nat) (t : State), reports s t l → reports s (is.foldl (fun (s : State) i =>
          { s with log := { s.log with marks := spMod {} s.log.marks i (fun m => m.overtake v.index) } }) t) l := by
        intro is
        induction is with
        | nil => exact fun t h => h
        | cons i is ih => exact fun t h => ih _ (reports_trans h ⟨rfl, rfl, rfl, fun _ _ => rfl⟩)
      exact key is s (reports_refl s l)
    have w1 : wordsWf 0 s1.regs = true := by rw [hr]; exact w
    refine ⟨reports_trans (reports_trans h1 (s1.fset_reports _ _ l (by decide) w1 ?_)) (State.count_reports _ _ _ _ l), ?_⟩
    · simp [logFields]
    · exact s1.fset_wf _ _ w1

theorem State.logEntry_reports_aux (s : State) (sev source : Nat) (cls : Cls) (kind : Obj) (reason a0 a1 : Nat) (l : List Fld)
    (w : wordsWf 0 s.regs = true) (hsev : sev < 8) :
    reports s (s.logEntry sev source cls kind reason a0 a1) l ∧
      wordsWf 0 (s.logEntry sev source cls kind reason a0 a1).regs = true := by
  have step : ∀ {b c : State}, reports s b l ∧ wordsWf 0 b.regs = true → (wordsWf 0 b.regs = true → reports b c l ∧ wordsWf 0 c.regs = true) →
      reports s c l ∧ wordsWf 0 c.regs = true := fun h k => ⟨reports_trans h.1 (k h.2).1, (k h.2).2⟩
  have drops : ∀ (b : State), wordsWf 0 b.regs = true → reports b (b.fadd (F.LOG_DROPS.DROPS sev) 1) l := by
    intro b hb
    refine b.fadd_reports _ _ l ?_ hb ?_
    · simp [F.LOG_DROPS.DROPS]
    · have : sev = 0 ∨ sev = 1 ∨ sev = 2 ∨ sev = 3 ∨ sev = 4 ∨ sev = 5 ∨ sev = 6 ∨ sev = 7 := by omega
      rcases this with h | h | h | h | h | h | h | h <;> subst h <;> simp [logFields]
  unfold State.logEntry
  extract_lets e frozen up tryBook rb inAnnex tryKeel rk held lg s1 s2 s3 s4 s5 s6 s7 s8 s9
  have r1 : reports s s1 l ∧ wordsWf 0 s1.regs = true := ⟨⟨rfl, rfl, rfl, fun _ _ => rfl⟩, w⟩
  have r2 : reports s s2 l ∧ wordsWf 0 s2.regs = true := step r1 (s1.overwritten_reports _ l)
  have r3 : reports s s3 l ∧ wordsWf 0 s3.regs = true := step r2 fun h => reports_ite _ _ h ⟨drops s2 h, s2.fadd_wf _ _ h⟩
  have r4 : reports s s4 l ∧ wordsWf 0 s4.regs = true :=
    step r3 fun h => reports_ite _ _ h ⟨s3.fadd_reports _ _ l (by decide) h (by simp [logFields]), s3.fadd_wf _ _ h⟩
  have r5 : reports s s5 l ∧ wordsWf 0 s5.regs = true := step r4 fun h => reports_ite _ _ h
    ⟨reports_trans (drops s4 h) (State.fset_reports _ _ _ l (by decide) (s4.fadd_wf _ _ h) (by simp [logFields])),
     State.fset_wf _ _ _ (s4.fadd_wf _ _ h)⟩
  have r6 : reports s s6 l ∧ wordsWf 0 s6.regs = true := step r5 fun h => reports_ite _ _ h
    ⟨reports_trans (s5.fadd_reports _ _ l (by decide) h (by simp [logFields]))
      (State.fset_reports _ _ _ l (by decide) (s5.fadd_wf _ _ h) (by simp [logFields])), State.fset_wf _ _ _ (s5.fadd_wf _ _ h)⟩
  have r7 : reports s s7 l ∧ wordsWf 0 s7.regs = true := step r6 fun h => reports_ite _ _ h ⟨State.count_reports _ _ _ _ l, h⟩
  have r8 : reports s s8 l ∧ wordsWf 0 s8.regs = true := step r7 fun h => reports_ite _ _ h
    ⟨reports_trans (s7.fset_reports _ _ l (by decide) h (by simp [logFields]))
      (State.fset_reports _ _ _ l (by decide) (s7.fset_wf _ _ h) (by simp [logFields])), State.fset_wf _ _ _ (s7.fset_wf _ _ h)⟩
  have r9 : reports s s9 l ∧ wordsWf 0 s9.regs = true := step r8 fun h => reports_ite _ _ h
    ⟨State.sticky_reports _ _ _ l (by decide) h (by simp [logFields]), State.sticky_wf _ _ _ h⟩
  exact step r9 fun h => reports_ite _ _ h ⟨s9.fset_reports _ _ l (by decide) h (by simp [logFields]), s9.fset_wf _ _ h⟩

/-- A logbook entry is a report. -/
theorem State.logEntry_reports (s : State) (sev source : Nat) (cls : Cls) (kind : Obj) (reason a0 a1 : Nat) (l : List Fld)
    (w : wordsWf 0 s.regs = true) (hsev : sev < 8) : reports s (s.logEntry sev source cls kind reason a0 a1) l :=
  (s.logEntry_reports_aux sev source cls kind reason a0 a1 l w hsev).1

theorem State.logEntry_wf (s : State) (sev source : Nat) (cls : Cls) (kind : Obj) (reason a0 a1 : Nat)
    (w : wordsWf 0 s.regs = true) (hsev : sev < 8) : wordsWf 0 (s.logEntry sev source cls kind reason a0 a1).regs = true :=
  (s.logEntry_reports_aux sev source cls kind reason a0 a1 [] w hsev).2

end Sys2Proof.Machine
end

