-- ==== Sys2Proof/Tests/Slice0.lean ====
section
/-!
SUPPORT. Tests. Each command is tried on one step of a small state, with results the manual gives; each also meets together the
hypotheses of the statement it is named after. A test states the hypotheses first, then the result.
-/

namespace Sys2Proof.Tests

open Sys2Proof.Machine

set_option Elab.async false

/-! ## The small states -/

/-- A boot that has come to the lockkeeper cores, with command queue 1 completing in queue 2, and the module READY. -/
def up : State :=
  ({ State.reset with boot := { State.reset.boot with coresUp := true, memoryDone := true, auditDone := true }
                      link := { queues := [(1, { en := true, cq := 2 }), (2, { en := true, dir := true })], busMaster := true } }.fset
    F.KEEL_STATUS.READY 1).fset F.XL_CTRL.DMA_EN 1

/-- An ACTIVE module. -/
def act : State := up.fset F.PAIR_STATUS.STATE 3

/-- A STANDBY module that follows its partner. -/
def stb : State := (up.fset F.PAIR_STATUS.STATE 2).fset F.PAIR_STATUS.PARTNER 3

/-- A command taken from queue 1. -/
def src : Src := ⟨1, 7, 0⟩

/-- A module in boot, its memory tested. -/
def boots : State := { State.reset with boot := { State.reset.boot with memoryDone := true } }

/-! ## How a test reads its result -/

/-- The hypotheses hold of the state, the command answers a next state, and the results hold of it. -/
def chk (c : Instr) (s : State) (h : List Bool) (k : State → List Bool) : Bool :=
  s.allWf && h.all id && match exec c s with | .next t => (k t).all id | _ => false

/-- A word with the bits of these fields taken out. -/
def outside (l : List Fld) (off : Nat) (w : Word) : Nat :=
  w.toNat &&& (l.foldl (fun m f => if f.off = off then m &&& ~~~(BitVec.ofNat 32 ((2 ^ f.width - 1) * 2 ^ f.lo)) else m) (0xFFFFFFFF : Word)).toNat

/-- Every listed register word agrees outside these fields. -/
def kept (s t : State) (l : List Fld) : Bool :=
  (s.regs ++ t.regs).all (fun p => decide (outside l p.1 (s.word p.1) = outside l p.1 (t.word p.1)))

/-- The result of reports, as one that evaluates. -/
def told (u t : State) (l : List Fld) : Bool :=
  decide (t = { u with regs := t.regs, log := t.log, counters := t.counters, out := t.out, link := t.link, pair := t.pair }) &&
  decide (t.link = { u.link with queues := t.link.queues, msixPend := t.link.msixPend, resv := t.link.resv,
                                 endResv := t.link.endResv, flrDiscard := t.link.flrDiscard }) &&
  decide (t.pair = { u.pair with journal := t.pair.journal, journalSeq := t.pair.journalSeq }) && kept u t (l ++ logFields)

/-- The completion of the command is the last item of its queue. -/
def said (s t : State) (op : Nat) (st : Status) (reason detail : Nat) (result cells : List Byte) : Bool :=
  decide ((t.queue (s.cqOf src)).items.getLast?.map (fun i => { i with seq := 0 }) =
    some { completionItem op src st reason detail result cells with seq := 0 })

/-- The module takes and handles the command. -/
def takes (s : State) (op : Nat) : Bool :=
  s.cores && !(s.gated op && s.bit F.PWR_WAKE.CMD_EN) && decide (s.gate op src = none) && (s.queue (s.cqOf src)).en &&
  (s.queue (s.cqOf src)).dir && !(s.queue (s.cqOf src)).broken && !s.link.flrDiscard.contains src

/-- One axis of a state. -/
def put (s : State) (a : Nat) (x : Axis) : State := { s with steer := { s.steer with axes := spSet {} s.steer.axes a x } }

/-! ## The machine, resets and boot -/

-- Witness of StepRunsFront and ExecKeepsQueue.
theorem test_queue_order :
    step { act with pending := [.step true, .step false] } = exec (.step true) { act with pending := [.step false] } ∧
    (∃ t, step State.reset = .next t ∧ t.time.tb3 = 1 ∧ t.regs = []) := by
  exact ⟨rfl, _, rfl, by decide +kernel, by decide +kernel⟩

-- Witness of ResetValues, and the premise of EveryStepKeepsForm.
theorem test_reset :
    State.reset.allWf = true ∧ State.reset.word 0x10 = 0x301 ∧ State.reset.word 0x400008 = 0 ∧ State.reset.word 0x200018 = 0x4E20 := by
  decide +kernel

-- The premise of RunsNeverStop, and both halves of WellFormedGoesOn.
-- Witness of WellFormedGoesOn and RunsNeverStop.
theorem test_wf_goes_on :
    (∀ c ∈ [Instr.step true, .blindEntry 4639], c.wf = true) ∧ chk (.blindEntry 4639) act [] (fun _ => []) = true ∧
    exec (.blindEntry 4640) act = .fault .noSuchObject := by
  exact ⟨by decide, by decide +kernel, rfl⟩

/-- A state with a valid record of REP_PERIOD n in the bank of class c of a reach. -/
def goodBank (s : State) (r c b n : Nat) : State := s.setWord (bankOff r c b + 0x10) (BitVec.ofNat 32 (n * 65536))

-- Witness of BankWrites.
theorem test_bank_writes :
    (chk (.registerWrite 0x471780 5) act [act.reaches 0x471780, act.reloading 0x471780 = none, act.activeBank 7 15 = 0]
        (fun t => [t.fget (F.REACH_STATUS.BANK_ERR 7) = 1, t.word 0x471780 = act.word 0x471780, t.steer = act.steer, t.mem = act.mem]) &&
     chk (.registerWrite 0x401000 0x12345) act [act.reaches 0x401000, act.reloading 0x401000 = none, act.activeBank 0 0 = 0]
        (fun t => [t.fget (F.REACH_STATUS.BANK_ERR 0) = 1, t.word 0x401000 = act.word 0x401000]) &&
     chk (.registerWrite 0x4717FC 0x12345) act [act.reaches 0x4717FC, act.reloading 0x4717FC = none, act.activeBank 7 15 ≠ 1,
         act.fget (F.LAW_BANK_SEL.SWAP 7) / 2 ^ 15 % 2 = 0]
        (fun t => [t.word 0x4717FC = act.written 0x4717FC 0x12345, t.activeBank 7 15 = 0, t.fget (F.REACH_STATUS.BANK_ERR 7) = 0])) = true := by
  decide +kernel

/-- Swaps of class 15 of reach 7 pend, to a valid record of another REP_PERIOD. -/
def swapping : State := (goodBank act 7 15 1 2048).fset (F.LAW_BANK_SEL.SWAP 7) 0x8000

-- Witness of RepPeriodSwap.
theorem test_bank_swap :
    (chk (.swapCommit 7) swapping
        [swapping.reaches 0x471780, swapping.reloading 0x471780 = none, swapping.fget (F.LAW_BANK_SEL.SWAP 7) / 2 ^ 15 % 2 = 1,
         (swapping.bank 7 15 1).valid, (swapping.gangOf 7).contains 7, (swapping.bank 7 15 1).n ≠ (swapping.lawBank 7 15).n]
        (fun t => [t.activeBank 7 15 = 1, t.lawBank 7 15 = swapping.bank 7 15 1, t.classK 7 15 = 0, t.steer.axes = swapping.steer.axes])) =
      true := by
  decide +kernel

/-- A head descriptor of side h. -/
def desc (h : Nat) : HeadDesc := ⟨h, 0, 1000000, 1000000000, 1000000000000, 0x1000, 2000, 1⟩

-- Witness of MirrorFaults.
theorem test_mirror_faults :
    (let s := act.fset F.KEEL_STATUS.CAL_DONE 1
     chk (.towpathRetrain 1 [0, 4] (desc 1) [1151]) s [s.active, s.rung ≤ 2, s.role = 0, s.fget F.KEEL_STATUS.CAL_DONE = 1]
       (fun t => [(t.port 2303).state = 5, (t.port 2303).reason = 6, (t.port 2303).mirrorFault, (t.head 1).trained]) &&
     chk (.towpathTraining 0 [0] (desc 0) [0]) act [act.active, act.held = false, act.boot.coresUp]
       (fun t => [(t.port 0).state = 5, (t.port 0).mirrorFault]) &&
     chk (.mirrorFault 2303 true) act [act.active] (fun t => [(t.port 2303).state = 5, (t.port 2303).mirrorFault]) &&
     let f := act.modPort 2303 (fun x => { x with state := 5, reason := 6, mirrorFault := true })
     chk (.berthCheck src 2303) f [f.active, takes f 0x33, (f.port 2303).mirrorFault]
       (fun t => [t.port 2303 = f.port 2303, said f t 0x33 .done 0 0 [5, 6] [], told (f.without src) t []])) = true := by
  decide +kernel

/-- What the three ways to an F reset leave (R324). -/
def afterF (s t : State) (cause : Nat) : List Bool :=
  [t.fget F.KEEL_CAUSE.F_SEEN = 1, t.fget F.KEEL_CAUSE.F_CAUSE = cause, t.fget F.QP_CTRL.READY = 0, t.link.queues = [], t.link.cache = [],
   t.link.busMaster = false, t.tows.spaces = [], t.auction.solves = [], t.steer = s.steer, t.map = s.map, t.lock = s.lock,
   t.fabric = s.fabric, t.pair = s.pair, t.log = s.log, t.time = s.time, t.light = s.light, t.counters = s.counters, t.rung = s.rung,
   t.ready = s.ready, t.mem = s.mem]

-- Witness of FunctionResets.
theorem test_function_resets :
    (chk .functionLevelReset act [act.rung ≤ 2, act.boot.resetLow = false] (fun t => afterF act t 1) &&
     chk .linkDown act [] (fun t => afterF act t 2) &&
     chk (.perstN false) act [act.link.perst] (fun t => afterF act t 3)) = true := by
  decide +kernel

/-- The boot has lasted 60 s (R333). -/
def slowBoot : State := { boots with time := { boots.time with tb3 := 30000000000 } }

-- Witness of WarmResetsAndKey.
theorem test_warm_resets :
    (chk (.warmReset 11) act [act.held = false]
       (fun t => [t.fget F.KEEL_CAUSE.CAUSE = 11, t.fget F.KEEL_CAUSE.KIND = 1, t.rung = 0, t.ready = false, t.lock.cycles = []]) &&
     chk (.fatalError 8) act [] (fun t => [t.fget F.KEEL_CAUSE.CAUSE = 8, t.fget F.KEEL_CAUSE.KIND = 1, t.ready = false]) &&
     chk (.keelReset 0x4B520001) act [act.reaches 0x0C] (fun t => [t.fget F.KEEL_CAUSE.CAUSE = 4, t.ready = false]) &&
     chk .bootWatchdog slowBoot [slowBoot.held = false, slowBoot.ready = false, slowBoot.boot.since + 30000000000 ≤ slowBoot.time.tb3]
       (fun t => [t.fget F.KEEL_CAUSE.CAUSE = 7, t.slotFailed 0, t.boot.since = 30000000000]) &&
     chk (.keelReset 0x4B520000) act [act.reaches 0x0C] (fun t => [t.fget F.XL_FAULT.ACCESS_ERR = 1, told act t [F.XL_FAULT.ACCESS_ERR]]) &&
     chk (.keelReset 0x4B530001) act [] (fun t => [t.fget F.XL_FAULT.ACCESS_ERR = 1, t.ready])) = true := by
  decide +kernel

/-- Sensor n reads v. -/
def heat (s : State) (n v : Nat) : State := (s.fset (F.PWR_TEMP.TEMP n) v).fset (F.PWR_TEMP.VALID n) 1

-- Witness of ColdResets.
theorem test_fatal_input_and_heat :
    (let hot := heat act 47 1920
     chk .inputFatal act [act.held = false]
       (fun t => [t.fget F.KEEL_CAUSE.CAUSE = 5, t.fget F.KEEL_CAUSE.FATAL = 1, t.power.railsOff, t.fget F.PWR_RAILS.RAIL_OK = 0xF2]) &&
     chk .thermalFatal hot [hot.held = false, (hot.tempsOf 0 48).any (fun p => decide (1920 ≤ p.2))]
       (fun t => [t.fget F.KEEL_CAUSE.CAUSE = 6, t.power.railsOff, t.ready = false, t.steer.axes = []]) &&
     chk (.warmReset 5) act [] (fun t => [t.fget F.KEEL_CAUSE.CAUSE = 5, t.power.railsOff])) = true := by
  decide +kernel

-- Witness of ColdResets.
theorem test_cold_resets :
    (let low : State := { act with boot := { act.boot with resetLow := true } }
     let off : State := { act with power := { act.power with railsOff := true }, boot := { act.boot with coresUp := false } }
     let dip : State := { act with power := { act.power with inputLow := true }, tows := { act.tows with inputHalt := true } }
     let dipped := dip.fset (F.ARRAY_STATUS.STATE 3) 4
     chk (.resetN true ⟨0, 15, 255⟩) act [act.boot.resetLow = false]
       (fun t => [t.boot.resetLow, t.fget F.KEEL_CAUSE.CAUSE = 3, t.fget F.KEEL_CAUSE.KIND = 2, t.ready = false, t.boot.slots = act.boot.slots]) &&
     chk (.resetN false ⟨1, 15, 255⟩) low [low.boot.resetLow]
       (fun t => [t.boot.resetLow = false, t.fget F.KEEL_STRAPS.PLANE = 15, t.fget F.KEEL_STRAPS.SWITCH_ID = 255, t.role = 1, t.steer = low.steer]) &&
     chk (.powerOn true false ⟨0, 0, 0⟩) act []
       (fun t => [t.time.tb3 = 0, t.fget F.KEEL_CAUSE.CAUSE = 2, t.fget F.KEEL_CAUSE.KIND = 3, t.rung = 0, t.map.master = act.map.master]) &&
     chk .railRelease off [off.power.railsOff, off.fget F.KEEL_CAUSE.CAUSE ≠ 6, off.boot.stopped = false, off.rung ≤ 2]
       (fun t => [t.power.railsOff = false, t.boot.warm = false, t.fget F.PWR_RAILS.RAIL_OK = 255, t.steer = off.steer, t.lock = off.lock]) &&
     (let hot : State := off.fset F.KEEL_CAUSE.CAUSE 6
      let cold : State := { hot with time := { hot.time with tb3 := 5000000000 }, power := { hot.power with coldSince := some 0 } }
      chk .railRelease hot [hot.power.railsOff, hot.railsCooled = false] (fun t => [t = hot]) &&
      chk .railRelease cold [cold.power.railsOff, cold.fget F.KEEL_CAUSE.CAUSE = 6, cold.railsCooled]
        (fun t => [t.power.railsOff = false, t.boot.since = 5000000000])) &&
     chk .inputLow act [act.power.inputLow = false, act.held = false]
       (fun t => [t.power = { act.power with inputLow := true }, t.tows.inputHalt, t.fget F.PWR_CAP.INPUT_LOW = 1, t.steer = act.steer]) &&
     chk .inputLowEnd dipped [dipped.power.inputLow, dipped.arrayState 3 = 4, dipped.rung = 0, dipped.hotArray 3 = false, dipped.heatHalted 3 = false]
       (fun t => [t.arrayState 3 = 1, t.fget F.PWR_CAP.INPUT_LOW = 0])) = true := by
  decide +kernel

-- Witness of BootSteps.
theorem test_memory_and_self_test :
    (let fresh := State.reset
     let due := act.fset (F.ARRAY_STATUS.SPARES_USED 3) 7
     let spent := act.fset (F.ARRAY_STATUS.SPARES_USED 3) 8
     chk (.memoryTest [(1023, 8191)] [] false) fresh [fresh.booting, fresh.boot.memoryDone = false, fresh.rowsUsed 1023 < 64]
       (fun t => [t.mem = { fresh.mem with rows := [(1023, 8191)] }, t.fget F.RAS_STATUS.SPARE_IN = 1, t.boot = fresh.boot]) &&
     chk (.memoryTest [] [] true) fresh [] (fun t => [t.boot = { fresh.boot with stopped := true }, told { fresh with boot := t.boot } t []]) &&
     chk (.memoryInitialisation [] []) fresh [fresh.fget F.KEEL_STATUS.STACK_READY = 0, fresh.rung ≤ 2, fresh.held = false]
       (fun t => [t.mem.stack = [], t.mem.basin = [], t.fget F.KEEL_STATUS.STACK_READY = 1, kept fresh t [F.KEEL_STATUS.STACK_READY]]) &&
     chk (.arraySelfTest [(3, 263)]) due [due.tows.selfTestDue, due.held = false, due.fget (F.ARRAY_STATUS.SPARES_USED 3) < 8]
       (fun t => [t.tows.columns = [(3, 263)], t.tows.selfTestDue = false, t.fget (F.ARRAY_STATUS.SPARES_USED 3) = 8, t.mem = due.mem]) &&
     chk (.arraySelfTest [(3, 263)]) spent [8 ≤ spent.fget (F.ARRAY_STATUS.SPARES_USED 3)]
       (fun t => [t.arrayState 3 = 6, t.tows = { spent.tows with selfTestDue := false }])) = true := by
  decide +kernel

-- Witness of BootSteps.
theorem test_pound_order :
    (let last := (bootOrder.filter (fun n => n ≠ 13)).foldl (fun s n => s.fset (F.POUND_STATUS.STATE n) 2) boots
     let s : State := { last with boot := { last.boot with record := { lastId := 5, seq := 9 } } }
     chk (.poundLoad 14) boots [boots.booting, boots.boot.memoryDone, boots.poundState 14 = 0]
       (fun t => [t.poundState 14 = 2, t.poundState 0 = 0, t.boot.coresUp = false, t.mem = boots.mem]) &&
     chk (.poundLoad 13) s [s.booting, s.boot.memoryDone, s.poundState 13 = 0,
         (bootOrder.takeWhile (fun m => decide (m ≠ 13))).all (fun m => s.poundState m = 2)]
       (fun t => [t.poundState 13 = 2, t.boot.coresUp, t.lock.lastId = 5, t.lock.seq = 9]) &&
     let c : State := { act with boot := { act.boot with record := { epoch := 2 }, flash := { epoch := 1 } } }
     chk .bootRecordFlashCopy c [c.boot.record ≠ c.boot.flash, c.rung ≤ 4, c.held = false, c.boot.record.epoch ≠ c.boot.flash.epoch]
       (fun t => [t.boot = { c.boot with flash := c.boot.record, copied := some 0 }])) = true := by
  decide +kernel

/-- An axis in this STATE and MODE. -/
def axisIn (st mode : Nat) : Axis := ((({} : Axis).setSt st).setMode mode)

/-- An ACTIVE module to be, whose loop audit is due. -/
def audits : State := { up with boot := { up.boot with auditDone := false } }

-- Witness of TrainingAndResume.
theorem test_training :
    (let done := { up with pair := { up.pair with headB := { up.pair.headB with trained := true } } }
     let cal := up.fset F.KEEL_STATUS.CAL_DONE 1
     chk (.towpathTraining 0 [4] (desc 0) [1151]) done [done.held = false, done.boot.coresUp, done.rung ≤ 2, (done.head 1).trained]
       (fun t => [(t.head 0).trained, (t.head 0).desc = some (desc 0), t.fget (F.SLEW_BUDGET.HEAD 0) = 2000 % 2 ^ (F.SLEW_BUDGET.HEAD 0).width,
                  t.head 1 = done.head 1, t.fget F.KEEL_STATUS.CAL_DONE = 1, (t.port 1151).state = 5, t.mem = done.mem, t.lock = done.lock]) &&
     chk (.towpathRetrain 1 [0] (desc 1) []) cal [cal.fget F.KEEL_STATUS.CAL_DONE = 1, cal.rung ≤ 2]
       (fun t => [(t.head 1).trained, (t.head 1).desc = some (desc 1), t.head 0 = cal.head 0, t.lock = cal.lock]) &&
     chk (.towpathRetrain 1 [0] (desc 0) []) cal [(desc 0).side ≠ 1] (fun t => [told cal t []])) = true := by
  decide +kernel

-- Witness of TrainingAndResume.
theorem test_audit_and_resume :
    (let a := (((audits.fset F.KEEL_STATUS.READY 0).fset F.KEEL_STATUS.CAL_DONE 1).fset F.RING_STATUS.SEARCH_DONE 1)
     let warm : State := { a with boot := { a.boot with warm := true }
                                  steer := { a.steer with axes := [(4639, { axisIn 0 0 with d := 3, i := 9, target := 4 })] } }
     let gone : State := { act with lock := { act.lock with discarded := [({ id := 3, planId := 1, tOpen := 0 }, 0)] } }
     chk (.loopAudit [] (some 5) true []) a [a.auditDue, a.boot.warm = false]
       (fun t => [t.active, t.boot.auditDone, t.fget F.KEEL_STATUS.WINDLASS_A = 1, t.fget F.KEEL_STATUS.WINDLASS_B = 1, t.lock.paths = [], t.mem = a.mem]) &&
     chk (.loopAudit [] none false []) a [a.auditDue]
       (fun t => [t.fget F.PAIR_STATUS.STATE = 0, t.fget F.PAIR_STATUS.REASON = 2, t.boot = a.boot, t.steer = a.steer]) &&
     chk (.warmResume [(4639, 77)] (some 5) true) warm [warm.auditDue, warm.boot.warm, (warm.axis 4639).st ≠ 6]
       (fun t => [t.active, (t.axis 4639).mode = 3, (t.axis 4639).u = 77, (t.axis 4639).d = 0, (t.axis 4639).i = 9]) &&
     chk .resetCycleNotice gone [gone.ready, gone.active]
       (fun t => [t.lock.discarded = [], t.lock.repeats.length = 1, t.steer = gone.steer])) = true := by
  decide +kernel

/-! ## Steering -/


/-- A valid pointing-map entry. -/
def goodEntry (ol : Nat) : MapEntry :=
  let low := (List.range 4).foldl (fun n c => n + ol * 2 ^ (16 * c)) 0 + 2 ^ 104
  BitVec.ofNat 128 (low + crc16 ((le 16 low).take 14) * 2 ^ 112)

-- Witness of LossAndSchedule.
theorem test_loss :
    (let blind := put act 4639 { axisIn 1 0 with lowRun := 2, heldDrive := 5, u := 7 }
     let dark := put act 0 { axisIn 4 0 with highRun := 16 }
     let timed := put act 4639 { axisIn 3 0 with loss := 50, offset := 2, u := 9 }
     chk (.blindEntry 4639) blind [2 ≤ (blind.axisNow 4639).lowRun, (blind.axisNow 4639).st = 1, blind.inMove 4639 = false]
       (fun t => [(t.axisNow 4639).st = 2, (t.axisNow 4639).fget (F.AXIS_FLAGS.BLIND_SEEN 0 0) = 1, (t.axisNow 4639).u = 5,
                  (t.axisNow 0) = (blind.axisNow 0)]) &&
     (let frozen := put act 4639 { axisIn 5 0 with lowRun := 2, heldDrive := 5, u := 7, loss := 9 }
      chk (.blindEntry 4639) frozen [2 ≤ (frozen.axisNow 4639).lowRun, (frozen.axisNow 4639).st = 5, frozen.inMove 4639 = false]
        (fun t => [(t.axisNow 4639).st = 4, (t.axisNow 4639).u = 5, (t.axisNow 4639).loss = 9])) &&
     chk (.blindExit 0) dark [16 ≤ (dark.axisNow 0).highRun, (dark.axisNow 0).st = 4]
       (fun t => [(t.axisNow 0).mode = 3, (t.axisNow 0).st = 0, (t.axisNow 0).rejoin]) &&
     chk (.openLoopEntry 4639) timed [(timed.axisNow 4639).st = 3, timed.lossTicks ≤ (timed.axisNow 4639).loss]
       (fun t => [(t.axisNow 4639).st = 5, t.steer.rep = timed.steer.rep, t.mem = timed.mem]) &&
     let path : State := { timed with lock := { timed.lock with paths := [{ a := 1159, b := 1159 }] },
                                      map := { timed.map with work := [(timed.pairIndex 1 1159 1159, goodEntry 40)] } }
     chk (.openLoopEntry 4639) path [path.pairOf 4639 = some (1159, 1159), path.mapUsable (path.pairIndex 1 1159 1159)]
       (fun t => [(t.axisNow 4639).st = 5,
                  (t.axisNow 4639).heldDrive = hcode (satI 16 (sval (path.olDrive 4639 1159 1159) + 2)), (t.axisNow 4639).heldDrive = 42])) =
      true := by
  decide +kernel

-- Witness of LossAndSchedule.
theorem test_freeze_window :
    (let w : Axis := { axisIn 0 0 with winLen := 256, winOk := true, cRef := 4096, cSum := 1 }
     let low := put act 4639 w
     let fine := put act 4639 { w with cSum := 4096 }
     let back := put act 4639 { w with flags := (axisIn 5 0).flags, cSum := 8192 }
     let none0 := put act 4639 { w with cRef := 0 }
     let meas := put act 4639 { w with recal := 2, winRun := true }
     let out0 := put act 4639 { w with flags := (axisIn 3 0).flags, cRef := 0, cSum := 0 }
     let bad := put act 4639 { w with winOk := false }
     chk (.freezeWindowEnd 4639) low [(low.axisNow 4639).winLen = 256, w.cSum < w.cRef / 2 ^ low.fget (F.DITHER_CTRL.FRZ_FRAC 7)]
       (fun t => [(t.axisNow 4639).st = 3, (t.axisNow 4639).fget (F.AXIS_FLAGS.FROZEN_SEEN 0 0) = 1]) &&
     chk (.freezeWindowEnd 4639) fine [] (fun t => [(t.axisNow 4639).st = 0]) &&
     chk (.freezeWindowEnd 4639) back [] (fun t => [(t.axisNow 4639).st = 0, (t.axisNow 4639).mode = 3]) &&
     chk (.freezeWindowEnd 4639) meas [meas.active] (fun t => [(t.axisNow 4639).cRef = 1, (t.axisNow 4639).st = 0]) &&
     chk (.freezeWindowEnd 4639) out0 [] (fun t => [(t.axisNow 4639).st = 0, (t.axisNow 4639).mode = 3]) &&
     chk (.freezeWindowEnd 4639) none0 [] (fun t => [(t.axisNow 4639).st = 0, (t.axisNow 4639).cRef = 0]) &&
     chk (.freezeWindowEnd 4639) bad [] (fun t => [(t.axisNow 4639).st = 0, (t.axisNow 4639).winLen = 0])) = true := by
  decide +kernel

-- Witness of LossAndSchedule.
theorem test_schedule :
    (let fall := put act 0 { ((axisIn 0 1).fset (F.AXIS_FLAGS.REGION 0 0) 7) with downRun := 128 }
     let leave := put act 0 { axisIn 0 3 with zeroRun := 255 }
     let test := put act 0 (axisIn 0 2)
     chk (.regionFall 0) fall [(fall.axisNow 0).region = 7, 2 ^ fall.fget (F.SCHED_CTRL.DOWN_HOLD (fall.lawReach (fall.reachOf 0))) ≤ (fall.axisNow 0).downRun]
       (fun t => [(t.axisNow 0).region = 6, (t.axisNow 0).mode = 1]) &&
     chk (.runExit 0) leave [(leave.axisNow 0).mode = 3, (leave.axisNow 0).held = false,
         max 1 (leave.fget (F.SCHED_CTRL.RUN_EXIT (leave.lawReach (leave.reachOf 0)))) ≤ (leave.axisNow 0).zeroRun]
       (fun t => [(t.axisNow 0).mode = 0, (t.axisNow 0).st = 0]) &&
     chk (.runExit 0) test [(test.axisNow 0).mode = 2] (fun t => [t = test])) = true := by
  decide +kernel

/-- What a copy frame from the ACTIVE partner holds. -/
def frame (seq : Nat) : CopyFrame :=
  { state := 3, seq := seq, classK := [], active := [], axes := [], ok := true }

-- Witness of TicksAndFrames.
theorem test_ticks :
    (let fol : State := { stb with pair := { stb.pair with copy := some (frame 4294967295) } }
     let fol := { fol with pair := { fol.pair with tickAt := some 777 } }
     let wrap : State := { act with steer := { act.steer with tick := 4294967295, gangPend := [(7, 3)] } }
     chk (.sampleTick [] [] []) wrap [wrap.rung ≤ 2, wrap.time.tb3 ≤ wrap.time.lastTick + wrap.tickLen, wrap.active, wrap.pair.parting = false]
       (fun t => [t.steer.tick = 0, t.time.tb3 = 20000, t.time.lastTick = 20000, t.pair.copy = none, t.steer.quads = [], t.mem = wrap.mem,
                  t.steer.gangPend = [], t.fget (F.GANG_CTRL.GANG 7) = 3]) &&
     chk (.sampleTick [] [] []) fol [fol.active = false, fol.rung ≤ 2, fol.pair.parting = false, fol.time.tb3 ≤ 777 + fol.tickLen]
       (fun t => [t.steer.tick = 0, t.pair.copy = none, t.time.lastTick = 777 + fol.tickLen]) &&
     let h : HeldResult := { axis := 4639, new := { ({} : Axis) with u := 3 }, rep := none }
     let s : State := { act with steer := { act.steer with held := [h], lostB := 2 } }
     chk (.uplinkFrame 1 ⟨0, 0, 0, 0, 0, []⟩) s [s.pair.releasing = none, s.ready, s.active, s.armed 10 1 = false, s.role = 0, s.pair.claiming = false, s.pair.grantA = false]
       (fun t => [t.steer.lostB = 0, (t.axis 4639).u = 3, t.steer.held = [], t.steer.lostA = s.steer.lostA]) &&
     chk (.uplinkFrameLost 1 true) s [s.rung ≤ 2]
       (fun t => [t.steer.lostB = 3, t.steer.held = [], (t.axis 4639).u = 0, told { s with steer := t.steer } t []])) = true := by
  decide +kernel

-- Witness of TicksAndFrames.
theorem test_deadline :
    (let s := (((put act 4639 (axisIn 0 0)).fset (F.REACH_CTRL.EN 7) 1).fset (F.REACH_STATUS.MISS_RUN 7) 2).fset (F.REACH_STATUS.MISS_RUN 0) 2
     chk (.controlDeadline [4639]) s
       [s.rung ≤ 2, (s.axis 4639).st ≠ 6, s.reachRuns (s.reachOf 4639), s.driverOf 4639 = 7, s.duty 7 = 0]
       (fun t => [(t.axis 4639).fget (F.AXIS_FLAGS.MISS 0 0) = 1, t.fget (F.REACH_STATUS.MISS_RUN 7) = 3]) &&
     chk (.controlDeadline []) s [s.duty 7 = 0] (fun t => [t.fget (F.REACH_STATUS.MISS_RUN 7) = 0, t = { s with regs := t.regs }])) = true := by
  decide +kernel

/-- Reach r in a relief of this kind. -/
def relieved (r : Nat) (trigger : ReliefTrigger) (shadow committed returning : Bool) (agree tick : Nat) : State :=
  { act with steer := { act.steer with tick := tick
                                       relief := some { source := r, trigger := trigger, tr := 5, shadow := shadow, agree := agree,
                                                        copied := false, committed := committed, returning := returning, cmd := none
                                                        loop := if shadow then [shadowOf 4639 { axisIn 0 0 with i := 6 }] else [] } } }

-- Witness of ReliefReach.
theorem test_relief :
    (let miss := (act.fset (F.REACH_STATUS.MISS_RUN 7) 3).fset (F.REACH_CTRL.EN 7) 1
     chk (.relieve 7) act [act.reaches 0x470000, act.reloading 0x470000 = none, act.reliefFree]
       (fun t => [t.steer.relief = some { source := 7, trigger := .software, tr := act.steer.tick, shadow := false, agree := 0, copied := false,
                                          committed := false, returning := false, cmd := none }, t.word 0x480010 = act.word 0x470010]) &&
     chk (.missRunRelief 7) miss [miss.fget (F.REACH_STATUS.MISS_RUN 7) = 3, miss.duty 7 = 0, miss.reliefFree]
       (fun t => [t.steer.relief.any (fun q => q.source = 7 && q.trigger = .misses)]) &&
     chk .reliefShadowing (relieved 7 .software false false false 0 7) [] (fun t => [t.steer.relief.any (fun q => q.shadow)]) &&
     (let s := put act 4639 (axisIn 0 0)
      let s := { s with steer := { s.steer with tick := 7, relief := (relieved 7 .software false false false 0 7).steer.relief
                                                held := [{ axis := 4639, new := axisIn 0 0, rep := none }] } }
      chk .reliefShadowing s [s.reachOf 4639 = 7]
        (fun t => [t.steer.relief.any (fun q => q.loop == [shadowOf 4639 (axisIn 0 0)] && q.fresh == [shadowOf 4639 (axisIn 0 0)])])) &&
     chk .reliefCommit (relieved 7 .software true false false 2 15) [15 ≤ 5 + 10]
       (fun t => [t.steer.relief.any (fun q => q.committed && q.copied && !q.shadow), t.fget (F.REACH_STATUS.MISS_RUN 7) = 0,
                  (t.axis 4639).i = 6]) &&
     (let r := relieved 7 .software false false false 0 7
      let m := (r.fset (F.REACH_STATUS.MISS_RUN 0) 3).fset (F.REACH_CTRL.EN 0) 1
      chk (.relieve 7) r [r.relieving = 7, r.reaches 0x470000] (fun t => [t = r]) &&
      chk (.relieve 0) r [r.relieving ≠ 0, r.reliefFree = false]
        (fun t => [t.fget (F.REACH_STATUS.RELIEF_BUSY 0) = 1, kept r t [F.REACH_STATUS.RELIEF_BUSY 0]]) &&
      chk (.missRunRelief 0) m [m.fget (F.REACH_STATUS.MISS_RUN 0) = 3, m.duty 0 = 0, m.relieving ≠ 0, m.reliefFree = false]
        (fun t => [t.fget (F.REACH_STATUS.RELIEF_BUSY 0) = 1, told m t [F.REACH_STATUS.RELIEF_BUSY 0]]) &&
      chk (.missRunRelief 0) act [act.fget (F.REACH_STATUS.MISS_RUN 0) ≠ 3] (fun t => [t = act])) &&
     chk .reliefCommit (relieved 7 .misses true false false 0 7) [] (fun t => [t.steer.relief.any (fun q => q.committed)]) &&
     chk .reliefAbandon (relieved 7 .software false false false 0 15) []
       (fun t => [t.steer.relief = none, told { relieved 7 .software false false false 0 15 with steer := t.steer } t []]) &&
     chk (.returnReach 7) (relieved 7 .software false true false 0 20) [(relieved 7 .software false true false 0 20).reaches 0x470000]
       (fun t => [t.steer.relief.any (fun q => q.returning && q.tr = 20 && !q.shadow)]) &&
     chk .reliefReturn (relieved 7 .software true true true 2 30) []
       (fun t => [t.steer.relief = none, t.steer.rep = [], (t.axis 4639).i = 6]) &&
     chk (.returnReach 8) act [act.steer.relief = none, act.reaches 0x480000]
       (fun t => [t.fget (F.REACH_STATUS.RETURN_ERR 8) = 1, kept act t [F.REACH_STATUS.RETURN_ERR 8]])) = true := by
  decide +kernel

-- Witness of SteerWrites.
theorem test_swap_and_gang :
    (let g := (act.fset (F.GANG_CTRL.GANG 7) 3).fset (F.GANG_CTRL.GANG 0) 3
     let busy := put act 4639 (({} : Axis).setSrc 1)
     let r8 := relieved 7 .software false true false 0 20
     chk (.swap 7 0x8000) g [g.active, (g.gangOf 7) = [0, 7]]
       (fun t => [t.fget (F.LAW_BANK_SEL.SWAP 7) / 2 ^ 15 % 2 = 1, t.fget (F.LAW_BANK_SEL.SWAP 0) / 2 ^ 15 % 2 = 1, t = { g with regs := t.regs }]) &&
     chk (.swap 7 1) r8 [r8.gangOf 7 = [7, 8]]
       (fun t => [t.fget (F.LAW_BANK_SEL.SWAP 7) = 1, t.fget (F.LAW_BANK_SEL.SWAP 8) = 1]) &&
     chk (.swapCommit 7) (act.fset (F.LAW_BANK_SEL.SWAP 7) 1) [((act.fset (F.LAW_BANK_SEL.SWAP 7) 1).bank 7 0 1).valid = false]
       (fun t => [t.fget (F.LAW_BANK_SEL.SWAP 7) = 0, t.activeBank 7 0 = 0, t.fget (F.REACH_STATUS.BANK_ERR 7) = 1]) &&
     chk (.gangChange 7 3) busy [busy.reachInCycle 7, busy.fget (F.GANG_CTRL.GANG 7) ≠ 3]
       (fun t => [t.fget (F.REACH_STATUS.GANG_ERR 7) = 1, t.fget (F.GANG_CTRL.GANG 7) = 0]) &&
     chk (.gangChange 7 3) act [act.reachInCycle 7 = false]
       (fun t => [t.gangShown 7 = 3, t.fget (F.GANG_CTRL.GANG 7) = 0, t.steer.gangPend = [(7, 3)]]) &&
     chk (.gangChange 7 3) stb [stb.active = false, stb.gangShown 7 ≠ 3]
       (fun t => [t.fget F.PAIR_STATUS.WRITE_IGN = 1, kept stb t [F.PAIR_STATUS.WRITE_IGN]]) &&
     chk (.swap 7 1) stb [] (fun t => [t.fget F.PAIR_STATUS.WRITE_IGN = 1]) &&
     chk (.clear 7) stb [] (fun t => [t = stb]) && chk (.recal 7) stb [] (fun t => [t = stb]) &&
     (let r3 := act.fset (F.POUND_STATUS.STATE 7) 3
      [Instr.clear 7, .recal 7, .relieve 7, .returnReach 7, .reachEnWrite 7 true, .swap 7 1, .gangChange 7 3, .axisFlagsWrite 7 579 1].all
        (fun c => chk c r3 [r3.poundState 7 = 3] (fun t => [t.fget (F.POUND_STATUS.WRITE_LOST 7) = 1, told r3 t [F.POUND_STATUS.WRITE_LOST 7]])))) =
      true := by
  decide +kernel

-- Witness of SteerWrites.
theorem test_axis_and_reach_writes :
    (let s := put act 4639 ((({} : Axis).fset (F.AXIS_FLAGS.MISS 0 0) 1).setMode 0)
     let open0 := (act.fset (F.POUND_STATUS.STATE 7) 2).fset (F.POUND_STATUS.UNLOCK 7) 1
     let idle := (open0.fset (F.REACH_CTRL.EN 7) 1)
     chk (.axisFlagsWrite 7 579 0x08000040) s [s.axisAt 7 579 = some 4639, s.active, s.unlocked 7 = false, s.poundState 7 ≠ 3]
       (fun t => [(t.axis 4639).flags = (s.axis 4639).flags &&& ~~~0x40, (t.axis 4639).modeReq = some 2, (t.axis 4639).classReq = none,
                  told { s with steer := t.steer } t []]) &&
     chk (.clear 7) s [] (fun t => [t.steer.clearPend.contains 7]) &&
     chk (.recal 7) s [s.reachOf 4639 = 7, (s.axis 4639).mode = 0] (fun t => [(t.axis 4639).recal = 1]) &&
     (let s0 := stb.modAxis 4639 (fun x => x.setMode 0)
      chk (.axisFlagsWrite 7 579 0x08000000) s0 [flagsChange (s0.axis 4639) 0x08000000]
        (fun t => [t.fget F.PAIR_STATUS.WRITE_IGN = 1, kept s0 t [F.PAIR_STATUS.WRITE_IGN]])) &&
     chk (.axisFlagsWrite 7 579 1) (act.modAxis 4639 id) [((act.modAxis 4639 id).axisAt 7 579).isSome] (fun _ => []) &&
     chk (.reachEnWrite 7 true) s [s.unlocked 7 = false] (fun t => [t = s]) &&
     chk (.reachEnWrite 7 true) open0 [open0.unlocked 7] (fun t => [t.fget (F.REACH_CTRL.EN 7) = 1, kept open0 t [F.REACH_CTRL.EN 7]]) &&
     chk (.reachEnWrite 7 false) idle [idle.unlocked 7, idle.duty 7 ≤ 1]
       (fun t => [t.fget (F.REACH_STATUS.BANK_ERR 7) = 1, kept idle t [F.REACH_STATUS.BANK_ERR 7]])) = true := by
  decide +kernel

-- Witness of SetpointAndTemperature.
theorem test_setpoint_and_temperature :
    (chk (.setpointRoute src 0 false 4623 5 15 0) act [takes act 0xC0, act.routeRefusal 0 false 4623 15 = none]
       (fun t => [t.steer.ainAxis = some 4623, (t.axis 4623).src = 2, entryOf (mirrorOf 4623) = some 2303, (entryOf (mirrorOf 4623)).all (fun p => (t.port p).state = 6),
                  said act t 0xC0 .done 0 0 [] []]) &&
     chk (.setpointRoute src 1 false 4623 0 0 9) act [takes act 0xC0, act.routeRefusal 1 false 4623 0 = none]
       (fun t => [t.steer.stepAxis = some 4623, t.steer.stepSize = 9, t.steer.stepCount = 0, (t.axis 4623).src = 2]) &&
     (let s : State := { act with steer := { act.steer with stepCount := 2147483647, stepSize := 1 } }
      chk (.step true) s [s.rung ≤ 2] (fun t => [t.steer.stepCount = -2147483648]) &&
      chk (.step false) s [] (fun t => [t.steer.stepCount = 2147483646])) &&
     chk (.temperatureBinChange 0 900) act [] (fun t => [t.pair.headA.temp = 900, t.bin 0 = binNext (act.bin 0) 900, t.bin 1 = act.bin 1]) &&
     chk (.temperatureBinChange 1 (-50)) act [] (fun t => [t.pair.headB.temp = -50, t.bin 1 = binNext (act.bin 1) (-50)])) = true := by
  decide +kernel

/-! ## Pointing map, plans and lock cycles -/

-- Witness of PointingMap.
theorem test_map :
    (let e := goodEntry 40
     let i := mapLimit - 1
     let j : State := { act with map := { act.map with journal := [(i, e)] } }
     let m : State := { act with map := { act.map with master := [(i, e)], dirty := [] } }
     let d : State := { act with map := { act.map with work := [(i, e)], dirty := [i] } }
     chk (.mapWrite src i [e]) act [takes act 0x10, i + 1 ≤ mapLimit, entryCheck e]
       (fun t => [t.map.journal = [(i, e)], said act t 0x10 .done 0 1 [] [], told { act.without src with map := t.map } t []]) &&
     chk (.mapWrite src 0 [e, e + 1]) act [badEntry (writeIndices 0 [e, e + 1]) = some 1]
       (fun t => [said act t 0x10 .refused Reason.range.code 1 [] [], told (act.without src) t []]) &&
     chk (.mapRead src i 1 false) d [takes d 0x11, entryCheck (d.mapWork i)] (fun t => [said d t 0x11 .done 0 0 [] (entryBytes e)]) &&
     chk (.mapRead src i 1 true) j [spGet 0 j.map.journal i ≠ 0] (fun t => [said j t 0x11 .done 0 0 [] (entryBytes e)]) &&
     chk (.mapRead src i 1 false) m [entryCheck (m.mapWork i) = false, entryCheck (spGet 0 m.map.master i)]
       (fun t => [t.mapWork i = e, said m t 0x11 .done 0 0 [] (entryBytes e), t.fget F.MAP_STATUS.CHECK_ERR = 1]) &&
     chk (.mapCommit src) j [takes j 0x12, j.fget F.MAP_STATUS.COMMIT_BUSY = 0, j.attached = false]
       (fun t => [t.map.journal = [], t.mapWork i = e, t.map.dirty = [i], said j t 0x12 .done 0 1 [] []]) &&
     (let b := act.fset F.MAP_STATUS.COMMIT_BUSY 1
      chk (.mapCommit src) b [takes b 0x12, b.fget F.MAP_STATUS.COMMIT_BUSY = 1]
        (fun t => [said b t 0x12 .refused Reason.inProgress.code 0 [] [], told (b.without src) t []])) &&
     chk .mapFlashWrite d [] (fun t => [spGet 0 t.map.master i = e, t.map.dirty = []]) &&
     chk .mapReload m [] (fun t => [t.mapWork i = e, t.map.reloading = false])) = true := by
  decide +kernel

/-- A module whose TB0 is locked, with plan 1, for the path of the last mirrors, and its map entry. -/
def locky : State :=
  let s : State := { act with map := { act.map with reloading := false, work := [(act.pairIndex 0 1159 1159, goodEntry 40)] }
                              lock := { act.lock with lib := [(1, { planId := 1, state := 1, peer := [(1159, 1159)] })], lastPlan := 1 } }
  s.fset F.TB_FLAGS.STATE0 2

-- Witness of PlanCommands.
theorem test_plans :
    (let used : State := { locky with lock := { locky.lock with lib := [(255, { planId := 3, state := 2 })] } }
     chk (.planSubmit src [(1159, 0), (0, 1159)] [1159]) locky [takes locky 0x20, planFault [(1159, 0), (0, 1159)] [1159] = none,
         locky.planSlot = some 2, locky.attached = false]
       (fun t => [(t.plan 2).planId = 2, (t.plan 2).state = 1, (t.plan 2).proof = [1159], t.plan 1 = locky.plan 1]) &&
     chk (.planSubmit src [(0, 5), (1, 5)] []) locky [planFault [(0, 5), (1, 5)] [] = some 1]
       (fun t => [said locky t 0x20 .refused Reason.range.code 1 [] [], told (locky.without src) t []]) &&
     chk (.planDrop src 1) locky [takes locky 0x21, locky.planIndex 1 = some 1, (locky.plan 1).state ≠ 2, locky.attached = false]
       (fun t => [t.plan 1 = {}, said locky t 0x21 .done 0 0 [] []]) &&
     chk (.planDrop src 3) used [used.planIndex 3 = some 255]
       (fun t => [said used t 0x21 .refused Reason.state.code 0 [] [], told (used.without src) t []])) = true := by
  decide +kernel

/-- The path of the last mirrors in this phase. -/
def path (ph : Phase) : CPath := { a := 1159, b := 1159, phase := ph }

/-- locky with one pending cycle. -/
def pends (c : Cycle) : State :=
  { locky with lock := { locky.lock with cycles := [c], lastId := 9, lib := [(1, { planId := 1, state := 2, peer := [(1159, 1159)] })] } }

/-- A cycle not yet opened, to open at 1 ms. -/
def waits : Cycle := { id := 9, planId := 1, tOpen := 1000000, paths := [path .opening] }

-- Witness of LockAsks.
theorem test_lock_schedule :
    (let at_ : TimeField := ⟨0, 500000, 0⟩
     let q : Ask := { planId := 1, tOpen := locky.openOf src at_ }
     let p := pends waits
     let r : Ask := { planId := 1, tOpen := p.openOf src at_, supersede := true, superId := 9 }
     chk (.lockSchedule src 1 false false 0 at_) locky [takes locky 0x22, locky.refusalOf q = 0, locky.planIndex 1 = some 1]
       (fun t => [t.lock.lastId = 1, (t.plan 1).state = 2, t.lock.cycles.length = 1, t.lock.repeats.map (fun n => (n.1.type, n.1.seq, n.2)) = [(1, 1, 1)],
                  t.lock.cycles.map (fun c => (c.id, c.rev, c.tOpen)) = [(1, 0, 500000)], t.lock.cycles.map (fun c => c.pairs) = [[(1159, 1159)]],
                  t.tows.tows.map (fun w => w.settle) = [some 1],
                  said locky t 0x22 .done 0 0 (le 4 1 ++ le 4 0 ++ le 8 500000) []]) &&
     chk (.lockSchedule src 1 true false 9 at_) p [p.refusalOf r = 0, p.namedCycle r = some waits]
       (fun t => [t.lock.cycles.map (fun d => (d.id, d.rev, d.planId, d.tOpen, d.superseded, d.computed)) = [(9, 1, 1, 500000, true, false)]]) &&
     chk (.lockSchedule src 1 false false 0 ⟨0, 499999, 0⟩) locky [locky.refusalOf { q with tOpen := 499999 } = 1]
       (fun t => [t.fget F.LOCK_LAST.OUTCOME = 4, t.fget F.LOCK_LAST.REASON = 1, t.lock = locky.lock, said locky t 0x22 .refused 1 0 [] []])) =
      true := by
  decide +kernel

/-- A joint ask for plan 1 of locky with its own hash, so that only the hash's value is left unevaluated. -/
def joint : Ask :=
  { planId := 1, tOpen := 500000, joint := true, jointId := 4, epoch := 65535, hash := planHash [(1159, 1159)] [] }

-- Witness of LockAsks.
theorem test_lock_joint :
    takes locky 0x24 = true ∧ locky.refusalOf joint = 0 := by
  refine ⟨by decide +kernel, ?_⟩
  have hp : (locky.askedPlan joint).peer = [(1159, 1159)] := by decide +kernel
  have hq : (locky.askedPlan joint).proof = [] := by decide +kernel
  have hh : (joint.joint && decide (joint.hash ≠ planHash (locky.askedPlan joint).peer (locky.askedPlan joint).proof)) = false := by
    rw [hp, hq]; simp [joint]
  unfold State.refusalOf
  simp only [hh]
  decide +kernel

-- Witness of LockAbortAndNotices.
theorem test_lock_abort :
    (let p := pends waits
     let o := pends { waits with opened := some (1, 5) }
     let moved := put o 2318 (axisIn 1 1)
     let l := pends { waits with opened := some (1, 5), paths := [path .capturing] }
     chk (.lockAbort src 9) p [takes p 0x23, p.attached = false]
       (fun t => [t.lock.cycles = [], t.fget F.LOCK_LAST.OUTCOME = 3, t.fget F.LOCK_LAST.REASON = 0x21, said p t 0x23 .done 0 0 [] []]) &&
     chk (.lockAbort src 9) moved [(waits.axes).contains 2318, (moved.axisNow 2318).st ≠ 6]
       (fun t => [t.lock.cycles.all (fun c => c.aborting), (t.axisNow 2318).goal = moved.park 0, said moved t 0x23 .done 0 0 [] []]) &&
     (let ab := pends { waits with opened := some (1, 5), aborting := true }
      chk (.lockAbort src 9) ab [ab.lock.cycles.all (fun c => c.aborting && !c.leftSlew)]
        (fun t => [said ab t 0x23 .refused 0x0A 0 [] [], told (ab.without src) t [F.LOCK_LAST.REASON]])) &&
     chk (.lockAbort src 10) l [l.lock.lastId < 10]
       (fun t => [said l t 0x23 .refused 0x0D 0 [] [], t.fget F.LOCK_LAST.REASON = 0x0D, told (l.without src) t [F.LOCK_LAST.REASON]]) &&
     chk (.lockAbort src 8) l [8 ≤ l.lock.lastId]
       (fun t => [said l t 0x23 .refused 0x0A 0 [] [], t.fget F.LOCK_LAST.REASON = 0x0A]) &&
     chk (.lockAbort src 9) l [l.lock.cycles.all (fun c => c.leftSlew)]
       (fun t => [said l t 0x23 .refused 0x0A 0 [] [], told (l.without src) t [F.LOCK_LAST.REASON]])) =
      true := by
  decide +kernel

/-- A notice. -/
def notice : Notice :=
  ⟨1, 0, 0, 0, 0, 0, 0, 9, 0, 1, 0, 0, 1, 0, 0, 5, 5, 0, 0, 0, [], []⟩

/-- The group, the UDP port and the first bytes of the notices sent. -/
def heads (t : State) : List (List Nat) :=
  t.out.flatMap (fun m => match m with | .notice g u b _ => [g, [u], (b.take 12).map BitVec.toNat] | _ => [])

-- Witness of LockAbortAndNotices.
theorem test_notice_repeat :
    (let s : State := { act with lock := { act.lock with repeats := [(notice, 1)] } }
     let l : State := { act with lock := { act.lock with repeats := [(notice, 2)] } }
     chk .noticeRepeat s [s.active, s.noticePorts = []]
       (fun t => [t.lock.repeats = [(notice, 2)],
                  heads t = [[239, 192, 28, 1], [40152], [0xA1, 0x7C, 1, 0, 1, 0, 2, 0, 0, 0, 0, 0]]]) &&
     chk .noticeRepeat l [] (fun t => [t.lock.repeats = []])) = true := by
  decide +kernel

/-- The CLOSED notice of the example of R92, of its module at plane 2, switch 17. -/
def example92 : Notice :=
  { type := 3, outcome := 0, flags := 2, plane := 2, switch := 17, role := 0, reason := 0, cycleId := 0, rev := 0, seq := 0, jointId := 0
    epoch := 0, paths := 1, failed := 0, hash := 0, tOpen := 1780000123250000000, tEvent := 1780000123251213520 * 65536
    tOpened := 1780000123250013520 * 65536, duration := 1213520, extra := 0, mapA := [], mapB := [211] }

-- Witness of LockAbortAndNotices.
theorem test_notice_bytes :
    (let b := example92.datagram false 0
     let at_ := fun (o n : Nat) => (b.drop o).take n
     b.length = 420 ∧ at_ 0 2 = [0xA1, 0x7C] ∧ at_ 4 4 = [3, 0, 0, 2] ∧ at_ 8 4 = [2, 0x11, 0, 0] ∧ at_ 28 4 = [0, 1, 0, 0] ∧
       at_ 40 12 = [0, 0, 0, 0, 0x6A, 0x18, 0xA5, 0x7B, 0x0E, 0xE6, 0xB2, 0x80] ∧ at_ 64 4 = [0x0E, 0xF9, 0x36, 0xD0] ∧
       at_ 80 4 = [0x0E, 0xE6, 0xE7, 0x50] ∧ at_ 104 4 = [0, 0x12, 0x84, 0x50] ∧ at_ 112 152 = List.replicate 152 0 ∧
       at_ 264 152 = List.replicate 26 0 ++ [8] ++ List.replicate 125 0) := by
  decide +kernel

/-- The settle-model tow of a cycle, on array unit 0. -/
def settles (s : State) (id : Nat) : State :=
  { s with tows := { s.tows with tows := [{ space := 0, tag := 0, cls := 0, addr := 0, count := 0, order := 0, phase := .running 0,
                                            settle := some id }] } }

/-- The time of TB0. -/
def atNs (s : State) (ns : Nat) : State := { s with time := { s.time with tb0 := { s.time.tb0 with t := ns * fineNs } } }

-- Witness of CyclePrepareAndOpen.
theorem test_cycle_prepare :
    (let run := settles (pends waits) 9
     let bufs : List TrajBuf := (pathAxes 1159 1159).map (fun a => ⟨a, 0, false, false, false, 0, 0, [(0, 0)]⟩)
     let late := atNs (pends waits) 890000
     let arm := atNs (pends { waits with computed := true }) 950000
     let joint := (atNs (pends { waits with joint := true }) 900000).fset F.TB_FLAGS.STATE0 3
     let lost : State := { joint with time := { joint.time with tb3 := 9000000001 } }
     chk (.trajectoryBuffersWritten 9 bufs true (some 0)) run [run.settleRunning 9, run.pairUsable 1159 1159, waits.axes.contains 4639,
         towWaves (run.headPlan 0) (run.headPlan 1) (run.waveItems { waits with bins := some (run.bin 0, run.bin 1) })
           (bufs.filter (fun b => waits.axes.contains b.axis)) true]
       (fun t => [t.lock.cycles.all (fun c => c.computed && c.limited && decide (c.bins = some (run.bin 0, run.bin 1))),
                  spGet [] t.lock.bufs 4639 = bufs.filter (fun b => b.axis = 4639), t.tows.tows = []]) &&
     chk (.trajectoryBuffersWritten 9 [] false none) run [run.settleRunning 9]
       (fun t => [t.lock = run.lock, t.tows.tows = [], t.map = run.map]) &&
     chk (.towDeadline 9) late [late.within 110000 waits.tOpen]
       (fun t => [t.lock.cycles.all (fun c => c.computed && c.fallback && !c.armed)]) &&
     chk (.gangArm 9) arm [arm.within 50000 waits.tOpen] (fun t => [t.lock.cycles.all (fun c => c.armed)]) &&
     chk (.jointRecheck 9) lost [lost.within 100000 waits.tOpen, lost.jointTime = false]
       (fun t => [t.lock.cycles = [], t.fget F.LOCK_LAST.REASON = 0x22])) = true := by
  decide +kernel

-- Witness of CyclePrepareAndOpen.
theorem test_cycle_open :
    (let c := { waits with computed := true, armed := true }
     let tick := fun (s : State) (prev now t3 : Nat) =>
       { s with time := { s.time with tb0Prev := prev, tb0Tick := now, lastTick := t3 } }
     let go := tick (atNs (pends c) 1000000) 999980 1000000 500000
     let closed : State := { go with lock := { go.lock with closedNow := true } }
     let c3 := { c with t3Open := 1000000 }
     let late := tick (atNs (pends c3) 2000000) 1999960 2000000 1000000
     let after1 := tick (atNs (pends c3) 2000002) 1999962 2000002 1000001
     let joint := tick (atNs (pends { c with joint := true }) 1000000) 999980 1000000 500000
     let jointHeld : State := { joint with lock := { joint.lock with closedNow := true } }
     chk (.openTick 9) go [go.active, go.running = none, go.firstTick c.tOpen, go.lock.closedNow = false, go.berthWaits c = false]
       (fun t => [t.lock.cycles.map (fun d => d.opened) = [some (0, 1000000 * 65536)], (t.axisNow 4639).src = 1, (t.axisNow 4639).st = 1]) &&
     chk (.openTick 9) closed [closed.lock.closedNow] (fun t => [t = closed]) &&
     chk (.lateOpen 9) late [late.firstTick c.tOpen = false, timeReached late.time.tb0Tick c.tOpen, late.tickNs ≤ late.t3Of c3 + 1000000]
       (fun t => [t.lock.cycles.all (fun d => d.extended && decide (d.lateFrom = some late.tickNs))]) &&
     chk (.lateOpen 9) after1 [timeReached after1.time.tb0Tick c.tOpen, after1.firstTick c.tOpen = false,
         after1.t3Of c3 + 1000000 < after1.tickNs]
       (fun t => [t.lock.cycles = [], t.fget F.LOCK_LAST.REASON = 0x20]) &&
     chk (.lateOpen 9) jointHeld [timeReached jointHeld.time.tb0Tick c.tOpen, jointHeld.firstTick c.tOpen]
       (fun t => [t.lock.cycles = [], t.fget F.LOCK_LAST.REASON = 0x20])) = true := by
  decide +kernel

/-- The axes of the last path at rest at their final targets, their move done. -/
def rested (s : State) : State := (pathAxes 1159 1159).foldl (fun s a => put s a { ((axisIn 1 1).setSrc 1) with moveDone := true }) s

-- Witness of CycleRun.
theorem test_cycle_run :
    (let c : Cycle := { waits with opened := some (0, 1000000), slewTick := 1, armed := true }
     let opened := pends { c with slewTick := 0 }
     let two := pends { c with twoWaves := true, wave2Tick := 0 }
     let slews := pends { c with paths := [path .slewing] }
     let moves := put (rested slews) 4639 { ((axisIn 1 1).setSrc 1) with moveDone := true, ff := 1 }
     let freed := put (pends { c with paths := [], released := [2319] }) 4639 { ((axisIn 1 1).setSrc 1) with moveDone := true }
     let cap := pends { c with paths := [{ path .capturing with run := 255 }] }
     let tired := pends { c with paths := [{ path .capturing with since := 65535 }] }
     let prv := pends { c with paths := [{ path .proving with run := 65535 }] }
     chk (.slewStart 9) opened [] (fun t => [t.lock.cycles.map (fun d => (d.slewTick, d.paths.map (fun p => p.phase))) = [(1, [.slewing])]]) &&
     chk (.wave2Start 9) two [1 + 0 ≤ two.steer.tick + 1] (fun t => [t.lock.cycles.all (fun d => d.wave2)]) &&
     chk (.slewEnd 4639) moves [moves.inSlew 4639, (moves.axisNow 4639).moveDone, c.pathOf 4639 = some (path .opening),
         (pathAxes 1159 1159).all (fun b => decide (b = 4639) || ((moves.axisNow b).moveDone && decide ((moves.axisNow b).ff = 0)))]
       (fun t => [(t.axisNow 4639).ff = 0, t.lock.cycles.map (fun d => d.paths.map (fun p => p.phase)) = [[.capturing]]]) &&
     chk (.slewEnd 4639) freed [freed.inSlew 4639, mirrorOf 4639 = 2319] (fun t => [(t.axisNow 4639).st = 6, (t.axisNow 4639).u = freed.park 1]) &&
     chk (.captured 1159) cap [cap.captureRun ≤ (cap.pathCount c { path .capturing with run := 255 }).run]
       (fun t => [t.lock.cycles.map (fun d => d.paths.map (fun p => (p.phase, p.run))) = [[(.proving, 0)]]]) &&
     chk (.captureMaxExpiry 1159) tired [tired.fget F.LOCK_CAPTURE.CAPTURE_MAX ≤ 65535]
       (fun t => [t.lock.cycles.map (fun d => d.paths.map (fun p => p.phase)) = [[.failed]], (t.axisNow 4639).st = 4,
                  t.lock.paths.any (fun q => q.a = 1159 && q.state = 6)]) &&
     chk (.proved 1159) prv [prv.proveHold ≤ 65535] (fun t => [t.lock.cycles.map (fun d => d.paths.map (fun p => p.phase)) = [[.proved]]])) =
      true := by
  decide +kernel

-- Witness of CycleEnd.
theorem test_cycle_end :
    (let c : Cycle := { waits with opened := some (0, 1000000), slewTick := 1, paths := [path .proved] }
     let ok := rested (pends c)
     let slow := rested (pends { c with paths := [path .slewing] })
     let late : State := { slow with time := { slow.time with lastTick := 10000000 } }
     let parks : State := { act with lock := { act.lock with parking := [2319] } }
     let there := put (put parks 4638 { ({} : Axis) with moveDone := true }) 4639 ({} : Axis)
     let parked := put there 4639 { ({} : Axis) with moveDone := true }
     let run1 : ProofRun := { cycle := 9, a := 1159, lanes := 4, since := 0 }
     let run2 : ProofRun := { cycle := 9, a := 1158, lanes := 4, since := 1 }
     let proofs : State := { act with lock := { act.lock with proofs := [run1, run2], paths := [{ a := 1159, b := 0 }] }
                                      time := { act.time with tb3 := 5000000 } }
     let busy := proofs.fset (F.SVC_PORT_CTRL.BUSY 7) 1
     let learn : State := { (settles act learnTag) with map := { act.map with learnQueue := [[(1, 2)], [(3, 4)]], settle := 65535 } }
     chk (.closeTick 9) ok [c.berth = false]
       (fun t => [t.lock.cycles = [], t.lock.paths.any (fun q => q.a = 1159 && q.b = 1159), (t.axisNow 4639).src = 0, (t.axisNow 4639).st ≠ 1,
                  t.fget F.LOCK_LAST.OUTCOME = c.outcome false, t.fget F.LOCK_LAST.FAILED = 0]) &&
     chk (.cycleDeadline 9) late [0 + late.deadlineOf { c with paths := [path .slewing] } < late.tickNs + late.periodNs]
       (fun t => [t.lock.cycles = [], (t.axisNow 4639).st = 4, t.fget F.LOCK_LAST.FAILED = 1]) &&
     chk (.parkReached 2319) parked [(mirrorAxes 2319).all (fun a => (parked.axisNow a).moveDone)]
       (fun t => [(t.axisNow 4639).st = 6, (t.axisNow 4638).src = 0, t.lock.parking = []]) &&
     chk (.lateProof 9 [(1159, 3)]) busy [(servicePorts 1159 (peerOf busy.standing 1159)) = [7]]
       (fun t => [t.lock.proofs = [run2], t.fget (F.SVC_PORT_CTRL.BUSY 7) = 0]) &&
     chk .settleModelUpdate learn [learn.learnTow.isSome, learn.fget F.LOCK_LIMITS.LEARN ≠ 0]
       (fun t => [t.map.settle = 0, t.map.learnQueue = [[(3, 4)]], t.tows.tows = []]) &&
     chk .settleModelUpdate act [act.learnTow = none] (fun t => [t = act])) = true := by
  decide +kernel

/-! ## Customer ports -/

/-- A state with port p changed. -/
def port (s : State) (p : Nat) (x : Port) : State := s.modPort p (fun _ => x)

/-- A state whose live plan has port p PLANNED for the far end f. -/
def plan (s : State) (p f : Nat) : State := { s with fabric := { s.fabric with plan := [(p, f + 2 ^ 24)] } }

-- Witness of PortStates.
theorem test_light :
    (let lit := plan (port act 2303 { state := 2, light := true, checking := true, hellos := 1 }) 2303 5
     let circ : State := { act with lock := { act.lock with paths := [{ a := 7, b := 1151 }] } }
     chk (.lightGained 2303) act [(act.port 2303).light = false, act.circuit 2303 = false]
       (fun t => [t = act.modPort 2303 (fun x => { x with light := true, known := false, queued := true })]) &&
     chk (.lightGained 2303) circ [circ.circuit 2303, (circ.port 2303).fixed = false]
       (fun t => [t.port 2303 = { circ.port 2303 with light := true, queued := true, unverified := circ.planned 2303, state := 2, reason := 0 },
                  told { circ with fabric := { circ.fabric with ports := t.fabric.ports } } t [F.PORT_GEN.GEN]]) &&
     chk (.lightLost 2303) lit [lit.active, (lit.port 2303).fixed = false, lit.planned 2303]
       (fun t => [(t.port 2303).light = false, (t.port 2303).checking = false, (t.port 2303).state = 0,
                  told { lit with fabric := { lit.fabric with ports := t.fabric.ports } } t [F.PORT_GEN.GEN]]) &&
     chk (.absentTimeout 0) (plan act 0 5) [(plan act 0 5).planned 0, ((plan act 0 5).port 0).state = 1]
       (fun t => [(t.port 0).state = 0, t.fget F.PORT_GEN.GEN = 1])) = true := by
  decide +kernel

-- Witness of PortStates.
theorem test_mirror_fault_waiting :
    (let w := port act 2303 { state := 1, light := true, queued := true, waiting := [src] }
     chk (.mirrorFault 2303 true) w [(w.port 2303).waiting = [src], takes w 0x33]
       (fun t => [(t.port 2303).state = 5, (t.port 2303).waiting = [], said w t 0x33 .done 0 0 [5, 6] [],
                  told { w with fabric := { w.fabric with ports := t.fabric.ports } } t [F.PORT_GEN.GEN]]) &&
     chk (.mirrorFault 2303 false) w [] (fun t => [t = w.modPort 2303 (fun x => { x with mirrorFault := false })])) = true := by
  decide +kernel

-- Witness of PortStates.
theorem test_port_commands :
    (let q := port act 2303 { state := 4, reason := 4 }
     let two := (act.fset F.PAIR_STATUS.PARTNER 2).fset F.PAIR_CFG.EN 1
     let found := port act 2303 { state := 4, reason := 2, light := true, known := true, foundPod := 9, foundUplink := 1, farVer := 0x20 }
     let serves := port act 2303 { state := 6 }
     let dead := port act 2303 { state := 5, reason := 6, mirrorFault := true }
     chk (.portStateGet src 2303 1) act [takes act 0x30] (fun t => [said act t 0x30 .done 0 0 [] (act.portRecord 2303), told (act.without src) t []]) &&
     chk (.portStateGet src 2303 2) act [2304 < 2303 + 2] (fun t => [said act t 0x30 .refused Reason.range.code 0 [] []]) &&
     chk (.portStateGet src 0 513) act [] (fun t => [said act t 0x30 .refused Reason.range.code 0 [] []]) &&
     chk (.portQuarantine src 2303 false) act [takes act 0x31, act.attached = false]
       (fun t => [(t.port 2303).state = 4, (t.port 2303).reason = 4, said act t 0x31 .done 0 0 [] []]) &&
     chk (.portQuarantine src 2303 false) two [two.attached, two.fget F.PAIR_STATUS.PARTNER = 2, takes two 0x31]
       (fun t => [(t.port 2303).state = 4, t.pair.waits.map (fun w => (w.src, w.op, w.seq)) = [(src, 0x31, t.pair.journalSeq)]]) &&
     chk (.portQuarantine src 2303 true) q [q.attached = false] (fun t => [t.port 2303 = { q.port 2303 with state := 1, reason := 0, queued := true },
                                                      said q t 0x31 .done 0 0 [] []]) &&
     chk (.portQuarantine src 2303 true) act [(act.port 2303).state ≠ 4] (fun t => [said act t 0x31 .refused Reason.state.code 0 [] []]) &&
     chk (.portAcceptAsFound src 2303) found [takes found 0x32, (found.port 2303).found = some (9 + 65536), found.attached = false]
       (fun t => [t.planOf 2303 = 9 + 65536 + 2 ^ 24, (t.port 2303).state = 3, said found t 0x32 .done 0 0 [3] []]) &&
     chk (.portAcceptAsFound src 2303) act [(act.port 2303).found = none] (fun t => [said act t 0x32 .refused Reason.state.code 0 [] []]) &&
     chk (.berthCheck src 2303) act [takes act 0x33, (act.port 2303).state ≠ 6]
       (fun t => [t.port 2303 = { act.port 2303 with queued := true, waiting := [src] }]) &&
     chk (.berthCheck src 2303) dead [(dead.port 2303).state ≠ 6] (fun t => [said dead t 0x33 .done 0 0 [5, 6] []]) &&
     chk (.berthCheck src 2303) serves [] (fun t => [said serves t 0x33 .refused Reason.state.code 0 [] []])) = true := by
  decide +kernel

/-- A module on which berth passes run. -/
def passRuns : State :=
  ((List.range 16).foldl (fun s p => s.fset (F.SVC_PORT_CTRL.LANES p) 1) act).fset F.RING_STATUS.SEARCH_DONE 1

-- Witness of BerthChecks.
theorem test_passes :
    (let due := port passRuns 2303 { state := 2, light := true, unverified := true }
     let run : State := { port passRuns 2303 { light := true, queued := true } with fabric := { (port passRuns 2303 { light := true, queued := true }).fabric with pass := some 143 } }
     let parks : State := { passRuns with fabric := { passRuns.fabric with pass := some 0, berths := [(5, 1152)] } }
     let ends : State := { passRuns with fabric := { passRuns.fabric with pass := some 144 } }
     chk .berthPassStart due [due.passAllowed, due.fabric.pass = none] (fun t => [t.fabric.pass = some 0, (t.port 2303).queued]) &&
     chk .berthCycle run [run.passAllowed, run.berthBusy = false, run.roundDue 143 = [2303], run.svcHeld (checkPort 2303) = false,
         0 < run.fget (F.SVC_PORT_CTRL.LANES (checkPort 2303))]
       (fun t => [t.lock.cycles.map (fun c => (c.berth, c.pairs)) = [(true, [(1159, 1151)])], t.fabric.pass = some 144]) &&
     chk .berthCycle parks [parks.fabric.berths ≠ [], (List.range 144).all (fun q => decide (parks.roundDue q = []))]
       (fun t => [t.lock.cycles.map (fun c => (c.berth, c.pairs)) = [(true, [])], t.fabric.pass = some 144]) &&
     chk .berthCycle ends [ends.fabric.berths = []] (fun t => [t.fabric.pass = none, t.lock = ends.lock])) = true := by
  decide +kernel

-- Witness of BerthChecks.
theorem test_identities :
    (let adm := port act 2303 { state := 2, light := true }
     let old : State := { adm with time := { adm.time with tb3 := 500000001 }, fabric := { adm.fabric with refresh := 1 } }
     let first := port act 2303 { state := 1, light := true, checking := true }
     let held := first.fset (F.POUND_STATUS.STATE 14) 3
     let last := plan (port act 2303 { state := 1, light := true, checking := true, hellos := 3 }) 2303 5
     let free := port act 2303 { state := 1, light := true, checking := true, hellos := 3 }
     let fr : IdentFrame := ⟨0xB3E7, 1, 0, 2, false, 77, 5, 0, 0, true, 15000⟩
     let asks := plan (port act 2303 { state := 1, light := true, checking := true, hellos := 1, nonce := 77 }) 2303 5
     let other := plan asks 0 5
     let twice := port asks 0 { state := 2, light := true, known := true, foundPod := 5 }
     chk (.identityRefresh 2303) old [old.circuit 2303 = false, old.fabric.pass = none]
       (fun t => [t = old.modPort 2303 (fun x => { x with queued := true, checkedAt := 500000001 })]) &&
     chk (.identityRefresh 2303) adm [] (fun t => [t = adm]) &&
     chk (.hello 2303) held [held.lightHeld] (fun t => [t = held]) &&
     chk (.identTimeout 2303) (port held 2303 { checking := true, hellos := 2 }) [] (fun t => [t = port held 2303 { checking := true, hellos := 2 }]) &&
     chk (.ident 2303 fr) (asks.fset (F.POUND_STATUS.STATE 14) 3) [] (fun t => [t = asks.fset (F.POUND_STATUS.STATE 14) 3]) &&
     chk (.hello 2303) first [(first.port 2303).hellos = 0]
       (fun t => [(t.port 2303).hellos = 1, t.out.length = 1, t.free = first.free + 1]) &&
     chk (.identTimeout 2303) (port act 2303 { state := 1, light := true, checking := true, hellos := 2 }) []
       (fun t => [(t.port 2303).hellos = 3, (t.port 2303).checking, t.out.length = 1]) &&
     chk (.identTimeout 2303) last [] (fun t => [(t.port 2303).checking = false, (t.port 2303).state = 2, (t.port 2303).unverified]) &&
     chk (.identTimeout 2303) free [free.planned 2303 = false] (fun t => [(t.port 2303).state = 4, (t.port 2303).reason = 1]) &&
     chk (.ident 2303 fr) asks [asks.identOk 2303 fr, asks.plans 2303 5]
       (fun t => [(t.port 2303).state = 2, (t.port 2303).reason = 0, (t.port 2303).foundPod = 5, (t.port 2303).checking = false]) &&
     chk (.ident 2303 fr) other [other.plans 2303 5 = false, other.plans 0 5] (fun t => [(t.port 2303).state = 4, (t.port 2303).reason = 2]) &&
     chk (.ident 2303 { fr with verMajor := 2 }) asks [] (fun t => [(t.port 2303).state = 3]) &&
     chk (.ident 2303 fr) twice [(twice.port 0).found = some 5] (fun t => [(t.port 2303).state = 4, (t.port 2303).reason = 3])) = true := by
  decide +kernel

/-! ## Tow spaces, tows and barges -/

/-- The 64 bytes of a barge of one element, with its CHECK (R107). -/
def barge (op fmtAB fmtC subop n a b c aux : Nat) : List Byte :=
  let bs := le 1 op ++ le 1 0 ++ le 1 fmtAB ++ le 1 (fmtC + 16 * subop) ++ le 4 1 ++ le 4 n ++ le 4 0 ++ le 8 a ++ le 8 b ++ le 8 c ++
    le 4 16 ++ le 4 16 ++ le 4 16 ++ le 4 aux ++ le 2 0 ++ le 2 0 ++ le 2 0
  bs ++ le 2 (crc16 bs)

/-- The first space, with 4 MiB of basin and 4 KiB of stack, and host access. -/
def space1 : Space :=
  { maxClass := 0, hostEn := true, saveSlots := 1, runAhead := 0, syncTimeout := 1, basinBase := 4096, basinSize := 4194304,
    stackBase := 0, stackSize := 4096, ptRoot := 0, seed := 0, cq := 2, fq := 2 }

/-- A module with this space as space 63 and this tow. -/
def tows (ts : List Tow) : State :=
  let s : State := { act with tows := { act.tows with spaces := [(63, some space1)], tows := ts } }
  (List.range 4).foldl (fun s n => s.fset (F.ARRAY_STATUS.STATE n) 1) s

/-- A tow of space 63 in this phase. -/
def tow (ph : TowPhase) : Tow := { space := 63, tag := 5, cls := 1, addr := 0, count := 2, order := 0, phase := ph, endQueue := 2 }

-- Witness of TowSpaces.
theorem test_spaces :
    (let made := tows []
     chk (.spaceCreate src 63 2 true 16 63 4095 4095 0 0 0 0 33619968 0 4096) act [takes act 0x40]
       (fun t => [(t.space 63).isSome, said act t 0x40 .done 0 0 [] [], told { act.without src with tows := t.tows } t []]) &&
     chk (.spaceCreate src 63 2 true 16 63 4095 4095 0 0 0 0 33619968 0 4096) made [made.space 63 ≠ none]
       (fun t => [said made t 0x40 .refused Reason.state.code 0 [] []]) &&
     chk (.spaceDestroy src 63) made [takes made 0x41, made.tows.tows = []]
       (fun t => [t.space 63 = none, said made t 0x41 .done 0 0 [] []]) &&
     chk (.spaceDestroy src 63) (tows [tow .ready]) []
       (fun t => [t.space 63 = some { space1 with destroying := some src }, t.tows.tows.all (fun x => x.phase.isEnded)])) = true := by
  decide +kernel

-- Witness of TowLife.
theorem test_tow_life :
    (let none0 := tows []
     let rdy := tows [tow .ready]
     let busy := tows [{ tow (.running 3) with inBarge := true }]
     let over0 := tows [tow (.ended 0)]
     let waiting := tows [tow (.waiting 63 0 0)]
     let timed : State := { tows [tow (.waiting 63 4294967295 0)] with time := { act.time with tb3 := 500000 } }
     chk (.towSubmit src 63 2 1 5 0) none0 [takes none0 0x42, none0.submitRefusal 63 2 1 5 = none]
       (fun t => [t.tows.tows.map (fun w => (w.space, w.tag, w.cls)) = [(63, 5, 2)], said none0 t 0x42 .done 0 0 [] [], t.tows.submitted = 1]) &&
     chk (.towSubmit src 63 3 1 5 0) none0 [none0.submitRefusal 63 3 1 5 = some .range]
       (fun t => [said none0 t 0x42 .refused Reason.range.code 0 [] [], told (none0.without src) t []]) &&
     chk (.towSubmit src 63 1 1 5 0) rdy [rdy.submitRefusal 63 1 1 5 = some .state] (fun t => [said rdy t 0x42 .refused Reason.state.code 0 [] []]) &&
     chk (.towCancel src 63 5) rdy [takes rdy 0x43] (fun t => [(t.tow 63 5).any (fun x => decide (x.phase = .ended 1) && decide (x.cancel = [src]))]) &&
     chk (.towCancel src 63 5) busy [] (fun t => [(t.tow 63 5).any (fun x => x.cancelled && decide (x.phase = .running 3))]) &&
     chk (.towCancel src 63 5) over0 [] (fun t => [said over0 t 0x43 .already 0 0 [] [], told (over0.without src) t []]) &&
     chk (.towEnd 63 5) over0 []
       (fun t => [t.tow 63 5 = none, t.tows.past = [(63, 5)],
                  (t.queue 2).items.getLast?.map (fun i => { i with seq := 0 }) = some { over0.eventItem 0x20 3 4 ((tow .ready).endPayload 0) with seq := 0 }]) &&
     chk (.waitMet 63 5) waiting [0 ≤ waiting.sync 63 63] (fun t => [(t.tow 63 5).any (fun x => decide (x.next = 1) && x.resumed && decide (x.phase = .ready))]) &&
     chk (.syncTimeout 63 5) timed [1 * 1000000 ≤ timed.t3ns - 0, timed.sync 63 63 < 4294967295]
       (fun t => [(t.tow 63 5).any (fun x => decide (x.phase = .ended 6))])) = true := by
  decide +kernel

-- Witness of TowPlacement.
theorem test_placement :
    (let rdy := tows [tow .ready]
     let full := tows ([0, 1, 2, 3].map (fun u => { tow (.running u) with tag := u, startOrder := u }) ++ [{ tow .ready with cls := 0, tag := 9, started := true }])
     let saves := (tows [{ tow (.running 3) with started := true }]).fset (F.ARRAY_STATUS.STATE 3) 3
     chk .towPlacement rdy [rdy.nextTow = some (tow .ready), rdy.freeUnitList = [0, 1, 2, 3]]
       (fun t => [t.tows.tows.map (fun x => x.phase) = [.running 0], t.arrayState 0 = 2, t.tows.starts = 1]) &&
     chk .towPlacement full [full.freeUnitList = [], full.victimFor 0 = some 3] (fun t => [t.arrayState 3 = 3, kept full t [F.ARRAY_STATUS.STATE 3]]) &&
     chk (.preemption 3) saves [saves.saving 3] (fun t => [t.tows.tows.map (fun x => (x.phase, x.preempted)) = [(.ready, 1)], t.arrayState 3 = 1])) =
      true := by
  decide +kernel

/-- An I32 barge of two elements: A at 0x100 plus B at 0x110 to C at 0x120. -/
def adds : List Byte := barge 2 0x55 5 0 2 0x100 0x110 0x120 0

/-- A tow on unit 3 at this barge. -/
def at3 (bs : List Byte) (bad : Nat) (inBarge : Bool) : Tow :=
  { tow (.running 3) with started := true, fetched := [⟨0, bs, bad⟩], inBarge := inBarge }

-- Witness of BargeSteps.
theorem test_barges :
    (let empty := tows [{ tow (.running 3) with started := true }]
     let held : State := { empty with mem := { empty.mem with basin := memPut [] 4096 adds } }
     let first := tows [at3 adds 0 false]
     let bounds := tows [at3 [] 3 false]
     let bad := tows [at3 adds 2 false]
     let stacked := tows [{ tow (.running 3) with started := true, addr := 2 ^ 62 }]
     let far := tows [{ tow (.running 3) with started := true, addr := 2 ^ 63 }]
     let owes := tows [{ at3 adds 2 false with drain := [(0, [1])] }]
     chk (.bargeFetch 3) stacked [] (fun t => [t.tows.tows.map (fun x => x.fetched) = [[⟨0, [], 3⟩]]]) &&
     chk (.bargeFetch 3) far [space1.inBounds (2 ^ 63, 64)] (fun t => [t = far]) &&
     chk (.badBarge 3) owes [] (fun t => [t.tows.tows.map (fun x => (x.phase, x.ending, x.drain)) = [(.running 3, some 2, [(0, [1])])]]) &&
     chk (.bargeFetch 3) held [space1.inBounds (0, 64), bargeOk adds 1]
       (fun t => [t.tows.tows.map (fun x => x.fetched) = [[⟨0, adds, 0⟩]]]) &&
     chk (.bargeStart 3) first [first.boundaryHeld 3 (at3 adds 0 false) = false,
         ((bargeOf adds).readsFixed ++ (bargeOf adds).writes).all (fun r => space1.inBounds r)]
       (fun t => [t.tows.tows.map (fun x => (x.inBarge, x.escBudget)) = [(true, min 8 (first.fget F.ESCALATE_CTRL.BUDGET))]]) &&
     chk (.bargeStart 3) bounds [] (fun t => [t.tows.tows.map (fun x => x.phase) = [.ended 3]]) &&
     chk (.badBarge 3) bad [] (fun t => [t.tows.tows.map (fun x => x.phase) = [.ended 2], t.mem = bad.mem])) = true := by
  decide +kernel

/-- A SYNC barge of this SUBOP on counter 63, with N. -/
def syncs (subop n : Nat) : List Byte := barge 0x0A 0 0 subop n 0 0 0 63

-- Witness of BargeSteps.
theorem test_sync_and_fence :
    (let met := tows [at3 (syncs 1 0) 0 true]
     let unmet := tows [at3 (syncs 1 1) 0 true]
     let sig := tows [at3 (syncs 0 0) 0 true]
     let fence := tows [{ at3 (barge 0x0B 0 0 0 0 0 0 0 0) 0 true with staged := [(2 ^ 63, 1)], ranges := [(2 ^ 63, 1, false)] }]
     chk (.wait 3) met [(bargeOf (syncs 1 0)).isWait] (fun t => [t.tows.tows.map (fun x => (x.next, x.barges)) = [(1, 1)]]) &&
     chk (.wait 3) unmet [unmet.sync 63 63 < 1] (fun t => [t.tows.tows.map (fun x => x.phase) = [.waiting 63 1 0]]) &&
     chk (.bargeComplete 3 []) sig [] (fun t => [t.sync 63 63 = 1, t.sync 63 0 = 0, t.tows.tows.map (fun x => x.next) = [1]]) &&
     chk (.fence 3) fence [] (fun t => [t.tows.tows.map (fun x => (x.next, x.staged, x.ranges)) = [(1, [], [])]])) = true := by
  decide +kernel

-- Witness of BargeCompletion.
theorem test_barge_complete :
    (let s : State := { tows [at3 adds 0 true] with mem := { act.mem with basin := memPut [] (4096 + 0x100) (le 4 7 ++ le 4 0xFFFFFFFF ++ le 8 0 ++ le 4 5 ++ le 4 1) } }
     let p : State := { s with mem := { s.mem with poison := [(0, (4096 + 0x100) / 8)] } }
     chk (.bargeComplete 3 []) s [s.ras.inject = none, (bargeOf adds).badIndex (s.towByte (at3 adds 0 true) space1) = false,
         ((bargeOf adds).reads (s.towByte (at3 adds 0 true) space1)).all (fun r => space1.inBounds r)]
       (fun t => [memBytes t.mem.basin (4096 + 0x120) 8 = le 4 12 ++ le 4 0, memBytes t.mem.basin (4096 + 0x100) 24 = memBytes s.mem.basin (4096 + 0x100) 24,
                  t.tows.tows.map (fun x => x.next) = [1]]) &&
     chk (.bargeComplete 3 []) p [p.rangePoisoned (at3 adds 0 true) space1 (0x100, 8)]
       (fun t => [t.tows.tows.map (fun x => x.phase) = [.ended 4], t.mem = p.mem])) = true := by
  decide +kernel

-- Witness of TowMemory.
theorem test_memory_requests :
    (let w := at3 adds 0 false
     let s := (tows [w]).fset F.KEEL_STATUS.STACK_READY 1
     let dry := tows [w]
     let h : Nat := 2 ^ 63 + 4096
     let leaf : BitVec 64 := 0x100F
     let walk : WalkReads := [some 0x1001, some 0x1001, some 0x1001, some leaf]
     let asks : State := { s with tows := { s.tows with reqs := [{ unit := 3, tug := s.tugOf 3 h, addr := h, len := 4, host := true }] } }
     let drains := tows [{ tow (.running 3) with drain := [(0x1000, [1, 2])], started := true }]
     chk (.memoryRequest 3 0x400 512 [] false) s [s.requestRoom w 3 0x400 false 512, s.readHeld w space1 (0x400, 512) = false,
         space1.inBounds (0x400, 512), s.yieldsTo 3 (space1.target 0x400) = false]
       (fun t => [t.tows.reqs = [{ unit := 3, tug := s.tugOf 3 0x400, addr := 0x400, len := 512, host := false }], kept s t [F.TUG_STATUS.STACK_WAIT]]) &&
     chk (.memoryRequest 3 0x400 512 [] true) s [s.requestRoom w 3 0x400 false 512]
       (fun t => [t.tows.reqs = [], t.tows.waits = [(3, space1.target 0x400)]]) &&
     chk (.memoryRequest 3 (2 ^ 62) 512 [] false) dry [dry.fget F.KEEL_STATUS.STACK_READY = 0, spaceRegion (2 ^ 62) = 1, space1.inBounds (2 ^ 62, 512)]
       (fun t => [t.fget F.TUG_STATUS.STACK_WAIT = 1, t.tows.reqs = []]) &&
     chk (.memoryRequest 3 h 4 walk false) s [s.mayRequest, spaceRegion h = 2, space1.inBounds (h, 4),
         s.translate 63 (offsetOf h) false walk = .leaf ⟨63, 1, 12, true, true, false, 0x1000⟩]
       (fun t => [t.tows.reqs = [{ unit := 3, tug := s.tugOf 3 h, addr := h, len := 4, host := true }], t.link.cache.length = 1]) &&
     chk (.memoryDataReturn 3 h [9, 8, 7, 6] false) asks []
       (fun t => [t.tows.reqs = [], t.tows.tows.map (fun x => (x.ranges, x.staged)) = [([(h, 4, false)], memPut [] h [9, 8, 7, 6])]]) &&
     chk (.memoryDataReturn 3 h [9, 8, 7, 6] true) asks []
       (fun t => [t.tows.tows.map (fun x => x.ranges) = [[(h, 4, true)]], t.fget F.RAS_STATUS.UE = 1]) &&
     chk (.hostWriteDrain 3) drains [drains.mayRequest] (fun t => [t.out = [.hostWrite 63 0x1000 [1, 2] false], t.tows.tows.all (fun x => decide (x.drain = []))])) =
      true := by
  decide +kernel

-- Witness of TranslationFaults.
theorem test_translation :
    (let s := tows [{ tow (.running 3) with started := true, drain := [(0x2000, [1])] }]
     let f : Fault267 := ⟨1, 1, 4, true, false, 0x1000, 0⟩
     let stop := tows [{ tow (.running 3) with started := true, faults := [f] }]
     let ends := tows [{ tow .stopped with faults := [f] }]
     let q0 := act
     let q1 := act.fset F.XL_FAULT.QFAULT 1
     let halted : State := { act with link := { act.link with queues := [(1, { en := true, cq := 2 }), (2, { en := true, dir := true, stopped := true })], faulted := [(2, 1)] } }
     let cached : State := { act with link := { act.link with cache := [⟨63, 1, 12, true, true, false, 0⟩, ⟨64, 1, 12, true, true, false, 0⟩] } }
     chk (.translationFault 63 5 0x1000 true 0 [some 0]) s [s.translate 63 0x1000 true [some 0] = .fault 1 4]
       (fun t => [t.tows.tows.map (fun x => x.faults.map (fun f => (f.id, f.kind, f.level, f.write))) = [[(1, 1, 4, true)]],
                  t.tows.tows.all (fun x => decide (x.drain = []) && decide (x.heldWrites = [(0x2000, [1])]))]) &&
     chk (.translationFault 63 5 0x1000 false 0 [some 0x1001, some 0x1001, some 0x1001, some 0x100F]) s []
       (fun t => [t.link.cache.map (fun c => (c.ctx, c.page, c.addr)) = [(63, 1, 0x1000)]]) &&
     chk (.towStop 63 5) stop [] (fun t => [t.tows.tows.map (fun x => x.phase) = [.stopped], t.arrayState 3 = 1]) &&
     chk (.faultResume src 63 true 0) ends [takes ends 0x44]
       (fun t => [t.tows.tows.map (fun x => (x.faults, x.phase)) = [([], .ready)], said ends t 0x44 .done 0 1 [] []]) &&
     chk (.queueFault 2 0x1000 false []) q0 [q0.mayRequest, q0.translate queueCtx 0x1000 false [] = .fault 5 4]
       (fun t => [(t.queue 2).stopped, t.fget F.XL_FAULT.QFAULT = 1, t.fget F.XL_FAULT.KIND = 5, t.fget F.XL_FAULT.QUEUE = 2,
                  t.word 0xA00008 = 0x1000, t.link.faulted = [(2, 1)]]) &&
     chk (.queueFault 2 0x1000 false []) q1 [] (fun t => [(t.queue 2).stopped, t.fget F.XL_FAULT.MORE = 1]) &&
     chk .resume halted [halted.reaches 0xA00004] (fun t => [t.link.faulted = [], (t.queue 2).stopped = false]) &&
     chk (.go 63 false true 0) cached [cached.reaches 0xA00010] (fun t => [t.link.cache.map (fun c => c.ctx) = [64]])) = true := by
  decide +kernel

/-! ## Auction units -/

/-- A feed of two rows by the tow of space 63. -/
def feed : Feed := ⟨63, 5, 1, 0, 0, 2, 0, 0⟩

/-- A solve of two rows whose matrix has been taken. -/
def taken : Solve := { feed := feed, score := [[5, 1], [1, 5]], forbid := [[false, false], [false, false]], taken := true }

/-- A module with this solve on unit 3. -/
def solving (v : Solve) : State :=
  let s := tows [{ tow .feeding with started := true }]
  let s : State := { s with auction := { s.auction with solves := [(3, some v)] } }
  s.fset F.AUC_STATUS.IN_SERVICE 15

/-- The AUC_FEED barge of an I32 matrix of two rows. -/
def feeds : List Byte := barge 0x0C 0x75 7 0 2 0x100 0x200 0x300 0

-- Witness of AuctionSolve.
theorem test_feeds :
    (let q := (tows [{ tow .feeding with started := true }])
     let s : State := ({ q with auction := { q.auction with feeds := [feed] } }.fset F.AUC_STATUS.IN_SERVICE 15).fset F.AUC_CTRL.EN 1
     let r := tows [at3 feeds 0 true]
     let own : State := { r with auction := { r.auction with solves := [(3, some { feed := feed })] } }
     let held := r.fset F.AUC_CTRL.EN 0
     chk .unitReserved s [s.feedsHeld = false, s.headFeed = some feed, s.unitFor 1 none = some 0]
       (fun t => [t.solve 0 = some { feed := feed }, t.auction.feeds = [], t.fget F.AUC_STATUS.BUSY % 2 = 1, t.tows.tows.all (fun x => decide (x.phase ≠ .feeding))]) &&
     chk (.aucFeed 3) own [(own.feedUnit (at3 feeds 0 true)).map (·.1) = some 3, (bargeOf feeds).op = 0x0C]
       (fun t => [(t.solve 3).any (fun v => v.taken && decide (v.score.length = 2) && decide (v.forbid.length = 2)), t.tows.tows.map (fun x => x.next) = [1]]) &&
     let spoilt : State := { own with mem := { own.mem with poison := [(0, (4096 + 0x100) / 8)] } }
     chk (.aucFeed 3) spoilt [(bargeOf feeds).readsFixed.any (fun r => spoilt.rangePoisoned (at3 feeds 0 true) space1 r)]
       (fun t => [t.solve 3 = none, t.tows.tows.map (fun x => x.phase) = [.ended 4]]) &&
     chk (.aucFeed 3) held [held.feedUnit (at3 feeds 0 true) = none, held.feedsHeld]
       (fun t => [t.auction.feeds.map (fun g => (g.space, g.tag, g.n)) = [(63, 5, 2)], t.tows.tows.map (fun x => x.phase) = [.feeding]])) = true := by
  decide +kernel

-- Witness of AuctionSolve.
theorem test_solves :
    (let s := solving taken
     let late : State := { solving taken with time := { act.time with tb3 := 750000 } }
     let done : Solve := { taken with eps := 1, phases := 1, best := some (1, [0, 1], [0, 0]), status := some 0 }
     let wrong : Solve := { done with best := some (1, [1, 0], [0, 0]) }
     let off := (solving wrong).fset F.AUC_CTRL.EN 0
     chk (.auctionPhaseEnd 3) s [] (fun t => [(t.solve 3).any (fun v => decide (v.phases = 1) && decide (v.assign = [0, 1]) && decide (v.eps = taken.nextEps))]) &&
     chk (.solveLimitExpiry 3) late [late.solveLimit ≤ 750000] (fun t => [(t.solve 3).any (fun v => decide (v.status = some 2))]) &&
     chk (.certificateCheck 3 false) (solving done) [done.due, done.certificate, (solving done).armed 9 3 = false]
       (fun t => [t.solve 3 = some { done with certified := true }]) &&
     chk (.certificateCheck 3 false) off [wrong.certificate = false, off.feedsHeld]
       (fun t => [t.solve 3 = none, t.auction.orphans.map (fun v => (v.repeated, v.firstUnit)) = [(true, some 3)]]) &&
     chk (.certificateCheck 3 true) (solving { done with repeated := true }) []
       (fun t => [(t.solve 3).any (fun v => decide (v.status = some 3)), t.fget F.AUC_STATUS.CERT_FAIL = 1])) = true := by
  decide +kernel

-- Witness of AuctionEnd.
theorem test_auction_end :
    (let done : Solve := { taken with feed := { feed with aux := 0x47 }, eps := 1, phases := 1, best := some (1, [0, 1], [0, 0]), status := some 0, certified := true }
     let lib : Solve := { done with feed := { feed with aux := 0x200 } }
     let two : State := { act with auction := { act.auction with strikes := [(4, 0), (4, 0)] } }.fset F.AUC_STATUS.IN_SERVICE 31
     let s := solving done
     chk (.auctionResult 3) s [auxBit 0x47 9 = false, auxBit 0x47 6, (3 : Nat) ∉ s.auction.retiring]
       (fun t => [t.solve 3 = none, memBytes t.mem.basin 4096 4 = le 2 0 ++ le 2 2, t.sync 63 7 = 1]) &&
     chk (.auctionResult 3) (solving lib) [lib.good, (solving lib).active, (solving lib).planSlot = some 1]
       (fun t => [t.solve 3 = none, (t.plan 1).state = 1, (t.plan 1).source = 1, (t.plan 1).peer = [(0, 0), (1, 1)]]) &&
     chk (.auctionUnitRetire 4 false) two [two.unitActive 4, two.solve 4 = none]
       (fun t => [t.unitActive 4 = false, t.fget F.AUC_STATUS.RETIRED / 16 % 2 = 1, t.auction.strikes = []])) = true := by
  decide +kernel

/-! ## Time -/

/-- A base under PTP in this state of TB_FLAGS. -/
def base1 (st : Nat) (f : TimeBase → TimeBase) : State :=
  let s := act.modBase 1 f
  ({ s with time := { s.time with rx := [(rxKey 0 1 .sync, some (2 ^ 40))] } }.fset (F.TB_CTRL.EN 1) 1).fset F.TB_FLAGS.STATE1 st

/-- A Sync on port 0 whose sample is o, by a path delay of d ns. -/
def sync0 (o : Int) (d : Nat) : SyncIn := ⟨0, ((2 : Int) ^ 40 + o - d * 65536).toNat, 1000000000, d⟩

/-- A base with sixteen equal delays. -/
def delayed (x : TimeBase) : TimeBase := { x with delays := List.replicate 16 100 }

-- Witness of SyncSamples.
theorem test_sync_sample :
    (let free := base1 0 delayed
     let far := base1 2 (fun x => { delayed x with overRun := 2 })
     let near := base1 1 (fun x => { delayed x with fineRun := 7 })
     let hold := base1 3 (fun x => { delayed x with okRun := 3 })
     chk (.syncSample 1 (sync0 5 301)) free [free.bit (F.TB_CTRL.EN 1), free.syncOffset 1 (sync0 5 301) = some 5, 100 + 200 < 301]
       (fun t => [(t.base 1).last = (free.base 1).last, (t.base 1).delays.length = 16, t.fget F.TB_FLAGS.STATE1 = 0]) &&
     chk (.syncSample 1 (sync0 5 300)) free [free.fget (stateFld 1) = 0] (fun t => [(t.base 1).firsts = [5], (t.base 1).offset = 5, t.fget F.TB_FLAGS.STATE1 = 0]) &&
     chk (.syncSample 1 (sync0 5 300)) act [act.syncOffset 1 (sync0 5 300) = none] (fun t => [t = act]) &&
     chk (.syncSample 1 (sync0 9 100)) (base1 3 (fun x => { delayed x with okRun := 2 })) []
       (fun t => [t.fget F.TB_FLAGS.STATE1 = 3, (t.base 1).okRun = 3, (t.base 1).offset = 9]) &&
     chk (.syncSample 1 (sync0 (200000 * 65536) 100)) far [far.jumpLimit * fineNs < ((far.base 1).beyond (200000 * 65536)).natAbs]
       (fun t => [(t.base 1).overRun = 3, (t.base 1).okRun = 0, (t.base 1).last = 200000 * 65536]) &&
     chk (.syncSample 1 (sync0 (100 * 65536) 100)) near [((near.base 1).beyond (100 * 65536)).natAbs ≤ near.jumpLimit * fineNs]
       (fun t => [t.fget F.TB_FLAGS.STATE1 = 2]) &&
     chk (.syncSample 1 (sync0 0 100)) hold [3 ≤ (hold.base 1).okRun] (fun t => [t.fget F.TB_FLAGS.STATE1 = 2, t.fget F.TB_FLAGS.JUMP1 = 0])) = true := by
  decide +kernel

-- Witness of ServoStates.
theorem test_servo_states :
    (let jump := base1 2 (fun x => { x with overRun := 4, last := 7 })
     let first := base1 0 (fun x => { x with firsts := [4, 4, 4, 4] })
     let slews := (base1 2 (fun x => x)).fset F.TB_FLAGS.SLEW1 1
     let jumped := (base1 3 (fun x => { x with last := 7 })).fset F.TB_FLAGS.JUMP1 1
     chk (.timeJump 1) jump [jump.bit (jumpFld 1) = false]
       (fun t => [t.fget F.TB_FLAGS.STATE1 = 3, t.fget F.TB_FLAGS.JUMP1 = 1, (t.base 1).offset = 7, (t.base 1).slew = 0]) &&
     chk (.firstStep 1) first [agreeing (first.base 1).firsts]
       (fun t => [t.fget F.TB_FLAGS.STATE1 = 1, t.fget F.TB_FLAGS.STEPPED1 = 1, (t.base 1).t = 4 * 10 ^ 12]) &&
     let quiet : State := { base1 1 id with time := { (base1 1 id).time with tb3 := (base1 1 id).announceWait ((base1 1 id).slavePort 1) } }
     chk (.announceTimeout 1 true) (base1 2 id) [] (fun t => [t.fget F.TB_FLAGS.STATE1 = 3]) &&
     chk (.announceTimeout 1 false) quiet [] (fun t => [t.fget F.TB_FLAGS.STATE1 = 3]) &&
     chk (.announceTimeout 1 false) (base1 1 id) [] (fun t => [t = base1 1 id]) &&
     chk (.slewDone 1) slews [(slews.base 1).slew = 0] (fun t => [t.fget F.TB_FLAGS.SLEW1 = 0, told slews t [slewFld 1]]) &&
     chk (.timeAcceptJump src 1) jumped [takes jumped 0x80, jumped.bit (jumpFld 1)]
       (fun t => [t.fget F.TB_FLAGS.STATE1 = 2, t.fget F.TB_FLAGS.JUMP1 = 0, t.fget F.TB_FLAGS.SLEW1 = 1, (t.base 1).slew = 7 * 10 ^ 12,
                  said jumped t 0x80 .done 0 0 (le 8 7) []]) &&
     chk (.timeAcceptJump src 1) act [act.bit (jumpFld 1) = false] (fun t => [said act t 0x80 .refused Reason.state.code 0 [] []])) = true := by
  decide +kernel

/-- An Ethernet port 1 that takes part in PTP, with TB1 on it. -/
def ptp1 : State :=
  (((((act.fset (F.ETH_CTRL.EN 1) 1).fset (F.ETH_CTRL.PTP_EN 1) 1).fset (F.PTP_PORT_CTRL.EN 1) 1).fset F.ETH_STATUS.LINK1 1).fset
    (F.TB_CTRL.PORTS 1) 3).fset (F.TB_CTRL.DOMAIN 1) 255

/-- Port, base, kind, form and stamp of the messages sent. -/
def ptpSent (t : State) : List (Nat × Nat × PtpKind × Bool × Bool) :=
  t.out.filterMap (fun m => match m with | .ptp p => some (p.port, p.base, p.kind, p.oneStep, p.stamp.isSome) | _ => none)

-- Witness of PtpPorts.
theorem test_ptp :
    (let master := (ptp1.fset (portStateFld 1 0) 6).fset (F.TB_CTRL.TWO_STEP 0) 0
     let two := master.fset (F.TB_CTRL.TWO_STEP 0) 1
     let lost := master.fset (F.TB_CTRL.MODE 0) 2
     chk (.ptpMessage 1 .sync 255 1 true) ptp1 [ptp1.ptpOn 1] (fun t => [told ptp1 t []]) &&
     chk (.ptpMessage 1 .management 255 1 false) ptp1 [ptpSupported .management = false]
       (fun t => [spGet 0 t.counters (240 + 14) = 1, spGet 0 t.counters 74 = 1, t.regs = ptp1.regs]) &&
     chk (.ptpMessage 1 .sync 255 2 false) ptp1 [ptp1.transport 1 ≠ 2] (fun t => [spGet 0 t.counters 74 = 1, t.time = ptp1.time]) &&
     chk (.ptpMessage 1 .sync 255 (ptp1.transport 1) false) ptp1 [ptpEvent .sync, ptp1.otherMechanism 1 .sync = false, ptp1.baseOfDomain 1 255 = some 1]
       (fun t => [(t.rxStamp 1 1 .sync).isSome, (t.rxStamp 1 0 .sync).isNone, t.free = ptp1.free + 1, t.regs = ptp1.regs]) &&
     chk (.ptpTransmit 1 0 .sync) master [master.ptpOn 1, master.fget (F.TB_CTRL.MODE 0) ≠ 2]
       (fun t => [ptpSent t = [(1, 0, .sync, true, true)]]) &&
     chk (.ptpTransmit 1 0 .sync) two [] (fun t => [ptpSent t = [(1, 0, .sync, false, true), (1, 0, .followUp, false, true)]]) &&
     chk (.ptpTransmit 1 0 .sync) lost [lost.time.gm = none] (fun t => [t = lost]) &&
     chk (.ptpTransmit 1 0 .delayResp) master []
       (fun t => [ptpSent t = [(1, 0, .delayResp, false, false)]]) &&
     chk (.ethernetLinkChange 1 true true) ptp1 []
       (fun t => [t.bit F.ETH_STATUS.LINK1, t.bit F.ETH_STATUS.FEC_LOCK1, t.fget (portStateFld 1 1) = 4]) &&
     chk (.ethernetLinkChange 1 false true) ptp1 []
       (fun t => [t.fget F.ETH_STATUS.LINK1 = 0, t.fget F.ETH_STATUS.FEC_LOCK1 = 0, t.fget (portStateFld 1 1) = 2])) = true := by
  decide +kernel

-- The next state after an Announce is a free value: only the premise and the domain are tried.
-- Witness of PtpPorts.
theorem test_ptp_announce :
    ptp1.allWf = true ∧ ptp1.ptpOn 1 = true ∧ ptp1.baseOfDomain 1 255 = some 1 := by
  decide +kernel

-- Witness of PulsesAndTimeRegisters.
theorem test_pulses :
    (let pin := (act.fset F.PPS_CTRL.IN_EN 1).fset F.PPS_CTRL.IN_POL 1
     let g : GmParams := ⟨4294967295, 37, 0, 6, 0x21, 1, 1⟩
     let gm : State := ({ pin with time := { pin.time with gm := some g } }.fset (F.TB_CTRL.MODE 0) 2).fset (F.TB_CTRL.EN 0) 1
     let late : State := { gm with time := { gm.time with tb3 := 1250000000 } }
     let out := (act.fset F.PPS_CTRL.OUT_EN 1).fset F.PPS_CTRL.OUT_SRC 3
     chk (.ppsInEdge true 100) pin [pin.bit F.PPS_CTRL.IN_EN, pin.bit F.PPS_CTRL.IN_POL = true, pin.fget (F.TB_CTRL.MODE 0) ≠ 2]
       (fun t => [t.fget F.PPS_CTRL.PPS_ERR = ofSigned 16 pin.ppsErr]) &&
     chk (.ppsInEdge true 100) gm [gm.tb0Free, gm.fget (F.TB_CTRL.MODE 0) = 2, gm.bit (F.TB_CTRL.EN 0)]
       (fun t => [t.time.tb0.t = 4294967295 * 10 ^ 9 * fineNs, t.fget F.TB_FLAGS.STATE0 = 1, t.fget F.TB_FLAGS.STEPPED0 = 1,
                  t.time.gm = some { g with seconds := 4294967296 }]) &&
     chk .ppsLost late [late.time.gm.isSome, late.time.lastPps + 1250000000 ≤ late.time.tb3] (fun t => [t.fget F.TB_FLAGS.PPS_LOST = 1, t.fget F.TB_FLAGS.STATE0 = 0]) &&
     chk .ppsOutPulse out [out.t3ns % 10 ^ 9 < 3] (fun t => [t.out = [.pps (max 1 (out.fget F.PPS_CTRL.WIDTH))]]) &&
     chk (.timeSetGm src 1 37 0 6 33 1 1) gm [takes gm 0x81] (fun t => [t.time.gm = some ⟨1, 37, 0, 6, 33, 1, 1⟩, said gm t 0x81 .done 0 0 [] []]) &&
     chk (.timeSetGm src 1 37 0 6 33 1 1) act [act.fget (F.TB_CTRL.MODE 0) ≠ 2] (fun t => [said act t 0x81 .refused Reason.state.code 0 [] []])) = true := by
  decide +kernel

-- Witness of PulsesAndTimeRegisters.
theorem test_period_and_now :
    (let cyc : State := { act with lock := { act.lock with cycles := [waits] } }
     chk (.periodWrite 15625) act [act.active, act.lock.cycles = [], act.takeover = false, act.reaches 0x200018]
       (fun t => [t.fget F.TB_TICK.PERIOD = 15625, told act t [F.TB_TICK.PERIOD]]) &&
     chk (.periodWrite 50000) act [] (fun t => [t.fget F.TB_TICK.PERIOD = 50000, t.steer.period = 20000]) &&
     chk (.periodWrite 50001) act [] (fun t => [t.fget F.TB_TICK.ERR = 1, t.fget F.TB_TICK.PERIOD = 20000]) &&
     chk (.periodWrite 15624) act [] (fun t => [t.fget F.TB_TICK.ERR = 1]) &&
     chk (.periodWrite 20000) cyc [cyc.lock.cycles ≠ []] (fun t => [t.fget F.TB_TICK.ERR = 1]) &&
     chk (.periodWrite 15625) stb [stb.active = false] (fun t => [t.fget F.PAIR_STATUS.WRITE_IGN = 1, kept stb t [F.PAIR_STATUS.WRITE_IGN]]) &&
     chk (.tbNowRead 3) { act with time := { act.time with tb3 := 1500000000 } } [] (fun t => [t.out = [.readData [3, 0, 0, 0] false]])) = true := by
  decide +kernel

/-! ## The pair -/

/-- A module of a pair, in this pair state, with its partner in that one. -/
def pair2 (st partner : Nat) : State := ((act.fset F.PAIR_CFG.EN 1).fset F.PAIR_STATUS.STATE st).fset F.PAIR_STATUS.PARTNER partner

/-- A RETURN frame. -/
def ret (st seq journal : Nat) : ReturnFrame := { state := st, seq := seq, journalSeq := journal, ok := true }

-- Witness of Heartbeats.
theorem test_heartbeats :
    (let f := pair2 2 3
     let a := pair2 3 2
     let w : Wait := ⟨4294967295, 0, src, 0x31, 0, []⟩
     let ack : State := { a with pair := { a.pair with waits := [w] } }
     let new := pair2 3 7
     chk (.copyFrame (frame 9) 3) f [f.pairEn, f.active = false, f.follows, f.rung = 0]
       (fun t => [t.fget F.PAIR_STATUS.PARTNER = 3, t.fget F.PAIR_STATUS.MISSED = 0, t.pair.copy = some (frame 9), t.pair.beat, t.pair.claiming = false]) &&
     chk (.copyFrame { frame 9 with handoverReq := true } 3) f [] (fun t => [t.pair.claiming, t.pair.takeover]) &&
     let later : State := { f with pair := { f.pair with numbered := true } }
     chk (.copyFrame (frame 9) 3) later [later.ofTick 9 = false]
       (fun t => [t.fget F.PAIR_STATUS.PARTNER = 3, t.pair.copy = none, t.pair.beat = later.pair.beat, t.pair.rxSeq = 9]) &&
     chk (.returnFrame (ret 2 5 0)) a [a.active, a.pair.waits = []] (fun t => [t.fget F.PAIR_STATUS.PARTNER = 2, t.pair.rxSeq = 5]) &&
     chk (.returnFrame (ret 2 0 0)) (a.fset F.PAIR_STATUS.MISSED 2) [a.steer.tick = 0] (fun t => [t.fget F.PAIR_STATUS.MISSED = 0, t.pair.beat]) &&
     chk (.returnFrame (ret 2 5 0)) ack [seqLe w.seq 0] (fun t => [t.pair.waits = [], said ack t 0x31 .done 0 0 [] []]) &&
     chk (.returnFrame (ret 1 5 0)) new [new.fget F.PAIR_STATUS.PARTNER ≠ 1]
       (fun t => [t.pair.journal.getLast?.map (fun m => m.item) = some .snapshotEnd, t.steer = new.steer])) = true := by
  decide +kernel

-- Witness of Heartbeats.
theorem test_heartbeats_missed :
    (let st := (pair2 2 3).fset F.PAIR_STATUS.MISSED 255
     let loss := (pair2 2 3).fset F.PAIR_STATUS.MISSED 3
     let sync := (pair2 1 3).fset F.PAIR_STATUS.MISSED 3
     let act2 := (pair2 3 2).fset F.PAIR_STATUS.MISSED 3
     chk .heartbeatMissed st [st.pair.beat = false, st.pairEn, st.follows, st.pair.gap = none]
       (fun t => [t.fget F.PAIR_STATUS.MISSED = 255, t.pair.gap.isSome, t.pair.copyRun = 0]) &&
     chk .heartbeatLoss loss [loss.standby, 3 ≤ loss.fget F.PAIR_STATUS.MISSED] (fun t => [t.pair.claiming, t.pair.takeover]) &&
     chk .heartbeatLoss sync [] (fun t => [t.fget F.PAIR_STATUS.STATE = 0, t.fget F.PAIR_STATUS.REASON = 7]) &&
     chk .heartbeatLoss act2 [act2.fget F.PAIR_STATUS.PARTNER ≠ 7] (fun t => [t.fget F.PAIR_STATUS.PARTNER = 7, t.active])) = true := by
  decide +kernel

-- Witness of PairJournal.
theorem test_journal :
    (let f := pair2 2 3
     let last : State := { f with pair := { f.pair with applied := 4294967295 } }
     let msg : JMsg := ⟨1, 0, 0, .epoch 3⟩
     let a : State := { pair2 3 2 with pair := { (pair2 3 2).pair with journal := [msg] }, steer := { act.steer with tick := 8 } }
     let b : State := { pair2 3 2 with pair := { (pair2 3 2).pair with waits := [⟨1, 0, src, 0x31, 0, []⟩] }, steer := { act.steer with tick := 9 } }
     let g : State := { f with pair := { f.pair with gap := some (3, 1, 0) }, steer := { f.steer with tick := 8 } }
     chk (.journal 0 (.mapEntry 16147199 5)) last [last.pairEn, last.follows, last.pair.snapshot = false]
       (fun t => [spGet 0 t.map.work 16147199 = 5, t.map.dirty.contains 16147199, t.pair.applied = 0]) &&
     chk (.journal 0 (.setting 0x500008 7)) last [mirrored 0x500008] (fun t => [t.word 0x500008 = 7]) &&
     chk (.journal 0 (.rep 4639 2047 3)) last [] (fun t => [spGet 0 t.steer.rep (2048 * 4639 + 2047) = 3]) &&
     chk (.journal 0 (.setting 0x470010 4)) last [mirrored 0x470010] (fun t => [t.steer.clearPend = [7], t.regs = last.regs]) &&
     chk (.journal 0 (.reloaded 0x500008 7)) last [] (fun t => [t.pair.due = [.reloaded 0x500008 7], t.regs = last.regs]) &&
     chk (.journal 4294967295 (.epoch 3)) last [seqLe 4294967295 4294967295] (fun t => [t = last]) &&
     chk (.journal 1 (.epoch 3)) last [seqLe 1 4294967295 = false] (fun t => [t.pair.early = [(1, .epoch 3)]]) &&
     chk .journalResend a [a.attached] (fun t => [t.out = [.journal { a.frameHead with tTx := a.time.tb2.ns } { msg with sentTick := 8 }]]) &&
     chk .journalResend b [] (fun t => [t.fget F.PAIR_STATUS.PARTNER = 4, t.pair.waits = []]) &&
     let owes : State := { f with pair := { f.pair with owed := [(4, 0)] }, steer := { f.steer with tick := 9 } }
     chk .journalResend owes [owes.standby, owes.owesGap] (fun t => [t.fget F.PAIR_STATUS.STATE = 4, t.fget F.PAIR_STATUS.REASON = 6]) &&
     chk (.repairRequest 4294967295 255) f [f.standby, f.pair.gap = none] (fun t => [t.pair.gap = some (4294967295, 255, 0)]) &&
     chk (.repairRequest 4294967295 255) a [a.active, a.attached]
       (fun t => [t.pair.journal.getLast?.map (fun m => m.item) = some (.repaired 4294967295 255), told a t []]) &&
     chk .repairTimeout g [g.standby] (fun t => [t.fget F.PAIR_STATUS.STATE = 4, t.fget F.PAIR_STATUS.REASON = 6])) = true := by
  decide +kernel

-- Witness of Resynchronisation.
theorem test_resync :
    (let up0 := (pair2 0 3).fset F.TETHER_LANES.IN_USE 0xF
     let inel := (pair2 4 3).fset F.PAIR_STATUS.REASON 6
     let snap : State := { pair2 1 3 with pair := { (pair2 1 3).pair with snapshotDone := true, copyRun := 8 } }
     let other : State := { pair2 2 3 with pair := { (pair2 2 3).pair with partnerHash := 5 } }
     chk .tetherUp up0 [up0.tetherOn, up0.cores, up0.held = false] (fun t => [t.fget F.PAIR_STATUS.STATE = 1, t.pair.snapshot]) &&
     chk .ineligibleResync inel [] (fun t => [t.fget F.PAIR_STATUS.STATE = 1, t.fget F.PAIR_STATUS.REASON = 0]) &&
     chk .snapshotComplete snap [snap.ineligible = none] (fun t => [t.standby]) &&
     chk .ineligibleEntry other [other.ineligible = some 3, other.standby] (fun t => [t.fget F.PAIR_STATUS.STATE = 4, t.fget F.PAIR_STATUS.REASON = 3])) = true := by
  decide +kernel

-- Witness of Windlass.
theorem test_windlass :
    (let det : State := { pair2 0 0 with pair := { act.pair with headA := { act.pair.headA with heard := true, holder := 3 } } }
     let claims : State := { pair2 2 3 with pair := { act.pair with claiming := true, takeover := true, continueDue := true } }
     let half : State := { act with pair := { act.pair with claiming := true, grantA := true } }
     chk .claim det [det.ready, det.bit F.PAIR_STATUS.ORPHANED = false, det.mayClaimAt det.pair.headA] (fun t => [t.pair.claiming, t.pair.takeover = false]) &&
     chk (.uplinkFrame 0 ⟨0, 4294967295, 0, 1, 77, []⟩) claims [claims.armed 10 0 = false, claims.pair.grantA = false]
       (fun t => [t.active, t.pair.grantA, t.pair.token = some 77, t.fget F.PAIR_EPOCH.EPOCH = 4294967295, t.fget F.PAIR_STATUS.TOOK_OVER = 1, t.pair.continueDue]) &&
     chk (.uplinkFrame 0 ⟨1, 0, 0, 3, 0, []⟩) claims [] (fun t => [t.fget F.PAIR_STATUS.STATE = 0, t.fget F.PAIR_STATUS.REASON = 2, t.pair.claiming = false]) &&
     chk (.uplinkFrame 1 ⟨0, 0, 0, 1, 0, []⟩) half [half.pair.grantB = false] (fun t => [t.pair.grantB, t.pair.claiming = false, t.pair.token = none]) &&
     chk (.uplinkFrame 0 ⟨1, 0, 0, 0, 0, []⟩) act [act.role = 0] (fun t => [t.fget F.PAIR_STATUS.STATE = 0, t.fget F.PAIR_STATUS.REASON = 8])) = true := by
  decide +kernel

-- Witness of Windlass.
theorem test_handover :
    (let a := pair2 3 4
     let orphan := put ((pair2 4 7).fset F.PAIR_STATUS.ORPHANED 1) 4639 { axisIn 1 0 with u := 1 }
     let cont : State := { act with pair := { act.pair with continueDue := true } }
     chk (.pairHandover src true false) a [takes a 0x91, a.fget F.PAIR_STATUS.PARTNER = 4] (fun t => [t.pair.releasing = some (true, src)]) &&
     chk (.pairHandover src false true) a [a.active] (fun t => [said a t 0x91 .refused Reason.state.code 0 [] []]) &&
     chk (.pairHandover src false true) orphan [takes orphan 0x91, orphan.bit F.PAIR_STATUS.ORPHANED, orphan.pair.cold = none]
       (fun t => [t.pair.cold = some src, t.pair.coldStep = 1, t.steer = orphan.steer]) &&
     chk (.pairStatus src) a [takes a 0x90] (fun t => [told (a.without src) t []]) &&
     chk .handoverContinue cont [cont.active, cont.lock.cycles = []] (fun t => [t.pair = { cont.pair with continueDue := false }])) = true := by
  decide +kernel

-- Witness of Windlass.
theorem test_cold_take :
    (let asked : State := { (pair2 4 7).fset F.PAIR_STATUS.ORPHANED 1 with
                            pair := { (pair2 4 7).pair with cold := some src, coldStep := 3, claiming := true, heldFrom := [0, 1] } }
     let half : State := { pair2 3 7 with pair := { (pair2 3 7).pair with cold := some src, grantA := true, claiming := true } }
     let parts : State := { pair2 2 3 with pair := { (pair2 2 3).pair with releasing := some (true, src), partTick := 4294967295 }
                                           steer := { act.steer with tick := 1 } }
     chk (.uplinkFrame 0 ⟨0, 1, 0, 2, 77, []⟩) asked [takes asked 0x91, asked.pair.grantA = false, asked.armed 10 0 = false]
       (fun t => [t.fget F.PAIR_STATUS.REASON = 2, t.pair.cold = none, said asked t 0x91 .failed Reason.grant.code 0 [] []]) &&
     chk (.uplinkFrame 1 ⟨0, 1, 0, 1, 77, []⟩) half [takes half 0x91, half.pair.grantB = false]
       (fun t => [t.pair.grantB, t.pair.cold = none, said half t 0x91 .done 0 0 [] []]) &&
     chk .claim parts [parts.standby, parts.pair.claiming = false] (fun t => [t.pair.claiming, t.pair.planned = false])) = true := by
  decide +kernel

/-! ## Light -/

/-- An identity store of a sound cartridge with these hours used (R219). -/
def storeHead (hours : Nat) : List Byte :=
  let head := le 4 0x4C433136 ++ le 2 1 ++ List.replicate 24 0 ++ le 2 0xFFFF ++ List.replicate 36 0 ++ le 4 20000 ++ List.replicate 182 0
  head ++ le 2 (crc16 head) ++ le 4 hours

/-- The first 384 bytes of that store, which is all that most tests read. -/
def store (hours : Nat) : List Byte := storeHead hours ++ List.replicate 124 0

/-- The whole store, 4,096 bytes. -/
def whole (hours : Nat) : List Byte := storeHead hours ++ List.replicate 3836 0

/-- A module with this cartridge in a bay, in this state. -/
def bay (s : State) (b st : Nat) (c : Cart) : State :=
  ({ s with light := { s.light with carts := spSet {} s.light.carts b c } }.fset (F.CART_STATUS.STATE b) st).fset (F.CART_STATUS.PRESENT b) 1

/-- A sound cartridge. -/
def sound : Cart := { store := store 7, powered := true }

theorem test_store_length (hours : Nat) : (whole hours).length = 4096 := by
  simp only [whole, storeHead, le, List.length_append, List.length_cons, List.length_nil, List.length_replicate]

-- Witness of CartridgeBays.
theorem test_insert :
    (let low := act.fset F.PWR_RUNG_STATE.RUNG 3
     chk (.cartridgeInserted 2 (whole 7)) act [act.bayState 2 = 0, (act.cart 2).store = [], ({ store := whole 7 } : Cart).valid,
         act.serviceComing < 2, act.baysIn 2 = [], act.rung ≤ 2, act.held = false]
       (fun t => [t.bayState 2 = 3, (t.cart 2).powered, t.fget (F.CART_STATUS.PRESENT 2) = 1]) &&
     chk (.cartridgeInserted 2 (whole 7)) low [3 ≤ low.rung] (fun t => [t.bayState 2 = 1, t.fget (F.CART_STATUS.PRESENT 2) = 1, (t.cart 2).powered = false]) &&
     chk (.cartridgeInserted 2 (List.replicate 4096 0)) act [({ store := List.replicate 4096 0 } : Cart).valid = false] (fun t => [t.bayState 2 = 7]) &&
     chk (.cartridgeInserted 2 (whole 20000)) act [({ store := whole 20000 } : Cart).worn] (fun t => [t.bayState 2 = 6])) = true := by
  decide +kernel

-- Witness of CartridgeBays.
theorem test_bays :
    (let warm := bay act 2 3 { sound with warmSince := 0 }
     let old : State := { warm with time := { warm.time with tb3 := 2500000000 } }
     let lit : State := { bay act 2 4 sound with light := { (bay act 2 4 sound).light with lanes := [(4, 2, 0)] } }
     let powers := (List.range 18).map (fun i => sound.rated i)
     chk (.cartridgeRemoved 2) lit [lit.bayState 2 = 4] (fun t => [t.bayState 2 = 0, t.cart 2 = {}, t.light.lanes.all (fun p => decide (p.2.1 ≠ 2))]) &&
     chk (.warmingProof 2 powers (List.replicate 18 0)) warm [(warm.cart 2).proved powers (List.replicate 18 0), warm.bayState 2 = 3]
       (fun t => [t.bayState 2 = 4, (t.cart 2).field 0x104 2 = 1, (t.cart 2).flagBit 0]) &&
     chk (.warmingTimeout 2) old [(old.cart 2).warmSince + 2500000000 ≤ old.time.tb3] (fun t => [t.bayState 2 = 7, (t.cart 2).powered = false]) &&
     chk (.cartTrip 2) lit [(lit.cart 2).powered] (fun t => [t.bayState 2 = 0, t.fget F.PWR_RAILS.CART_TRIP / 4 % 2 = 1])) = true := by
  decide +kernel

-- Witness of FadeAndStore.
theorem test_fade_and_hours :
    (let b0 := bay act 2 4 { sound with hourCount := 2, hourSum := List.replicate 18 30 }
     let fade : State := { bay act 2 4 sound with light := { (bay act 2 4 sound).light with lanes := [(0, 2, 5)] } }
     let retry := bay act 2 4 { sound with retry := [(0x100, le 4 8)] }
     let used := bay act 2 4 { sound with store := store 19999 }
     let means := (List.range 18).map (fun i => if i = 5 then sound.ref 5 - 600 else sound.ref i)
     chk (.fadeMeasurement 2 means) fade [fade.bayState 2 = 4, (fade.inUseOf 2) = [5]]
       (fun t => [t.fget (F.CART_POWER.LOSS 2) = 600, (t.cart 2).failed.contains 5, (t.cart 2).means = means]) &&
     chk (.hourlyFit 2) b0 [(b0.cart 2).hourCount ≠ 0] (fun t => [(t.cart 2).hourCount = 0, (t.cart 2).hourly.length = 18, ((t.cart 2).hourly.getD 17 []) = [15]]) &&
     chk (.hoursUpdate 2 true) b0 [((b0.cart 2).field 0x100 4 + 1) % 500 ≠ 0, (b0.cart 2).retry = []]
       (fun t => [(t.cart 2).field 0x100 4 = 8, t.fget (F.CART_STATUS.HOURS 2) = 8]) &&
     chk (.hoursUpdate 2 false) b0 [] (fun t => [(t.cart 2).retry = [(0x100, le 4 8)], (t.cart 2).field 0x100 4 = 7]) &&
     let b1 := bay act 2 4 { sound with store := whole 499 }
     chk (.hoursUpdate 2 true) b1 [((b1.cart 2).field 0x100 4 + 1) % 500 = 0, (b1.cart 2).store.length = 4096]
       (fun t => [(t.cart 2).field 0x100 4 = 500, (t.cart 2).field 0x168 4 = 500]) &&
     chk (.storeWriteRetry 2 true) retry [] (fun t => [(t.cart 2).field 0x100 4 = 8, (t.cart 2).retry = []]) &&
     chk (.storeWriteRetry 2 false) retry [] (fun t => [(t.cart 2).retry = [(0x100, le 4 8)], (t.cart 2).field 0x100 4 = 7, t.regs = retry.regs]) &&
     chk (.cartQuery src 2) retry [takes retry 0x70] (fun t => [(t.queue (retry.cqOf src)).items.length = 1, t.regs = retry.regs]) &&
     chk (.cartQuery src 2) act [(act.cart 2).store = []] (fun t => [said act t 0x70 .refused Reason.unknown.code 0 [] []]) &&
     chk (.hoursUpdate 2 true) used [(used.cart 2).field 0x100 4 + 1 = 20000] (fun t => [(t.cart 2).field 0x100 4 ≤ 20000])) = true := by
  decide +kernel

-- Witness of FadeAndStore.
theorem test_hours_end :
    (let near := bay act 2 4 { sound with store := storeWith 0x44 (le 4 8) (store 7) }
     chk (.hoursUpdate 2 true) near [(near.cart 2).field 0x44 4 ≤ 8, (near.cart 2).endFlags / 8 % 2 = 0]
       (fun t => [t.fget (F.CART_STATUS.END_OF_LIFE 2) = 1, (t.cart 2).retire])) = true := by
  decide +kernel

-- Witness of Insertions.
theorem test_cart_swap :
    (let two := bay (bay act 0 4 sound) 2 2 { sound with powered := false }
     let run : State := { two with light := { two.light with insertion := some { old := 0, new := 2, step := 1 } } }
     chk (.cartSwap src 0 true) two [takes two 0x71, two.bayState 0 = 4, (two.baysIn 2).head? = some 2]
       (fun t => [t.light.insertion = some { old := 0, new := 2, step := 1, cmd := some src }, t.bayState 2 = 3, (t.cart 2).powered, (t.cart 0).retire]) &&
     chk (.cartSwap src 0 true) (bay act 0 4 sound) [(bay act 0 4 sound).baysIn 2 = []] (fun t => [said (bay act 0 4 sound) t 0x71 .refused Reason.resource.code 0 [] []]) &&
     chk (.cartSwap src 3 true) two [] (fun t => [said two t 0x71 .refused Reason.range.code 0 [] []]) &&
     chk (.cartSwap src 2 true) two [two.bayState 2 ≠ 4] (fun t => [said two t 0x71 .refused Reason.state.code 0 [] []]) &&
     chk (.cartQuery src 3) two [takes two 0x70] (fun t => [said two t 0x70 .refused Reason.range.code 0 [] []]) &&
     chk (.cartSwap src 2 false) run [] (fun t => [said run t 0x71 .refused Reason.inProgress.code 0 [] []])) = true := by
  decide +kernel

/-- An insertion from bay 0 to bay 2 at this step. -/
def inserts (s : State) (step : Nat) : State := { s with light := { s.light with insertion := some { old := 0, new := 2, step := step } } }

-- Witness of Insertions.
theorem test_insertion :
    (let two := bay (bay act 0 4 sound) 2 4 sound
     let drains := bay (bay act 0 5 sound) 2 4 sound
     let thin := bay (bay act 0 5 { powered := true }) 2 4 { powered := true }
     let beams := (inserts drains 2).fset (srcFld 0) 0
     let trap : State := { bay (bay act 0 4 { sound with retire := true }) 2 4 sound with free := 0 }
     chk .insertion (inserts two 1) [two.bayState 2 = 4, two.ringsIn 3 = 0, two.poundState 14 ≠ 3]
       (fun t => [t.bayState 0 = 5, t.fget (F.CART_STATUS.MIGRATING 0) = 1, t.light.insertion = some { old := 0, new := 2, step := 2 }]) &&
     chk .insertion beams [beams.bayState 0 = 5] (fun t => [t.fget (srcFld 0) = 2, t.light.insertion = some { old := 0, new := 2, step := 3 }]) &&
     chk .insertion (inserts thin 3) [] (fun t => [t = inserts thin 4]) &&
     chk .insertion (inserts thin 4) [(inserts thin 4).lanesToMove { old := 0, new := 2, step := 4 } = []] (fun t => [t = inserts thin 5]) &&
     chk .insertion (inserts drains 5) [(inserts drains 5).busToMove { old := 0, new := 2, step := 5 } 1 = false, (inserts drains 5).portsMoving = false]
       (fun t => [t.light.insertion = none, t.bayState 0 = 2, (t.cart 0).powered = false]) &&
     chk (.insertionWithoutSpare 0) trap [trap.bayState 0 = 4, (trap.baysIn 4).find? (fun x => decide (x ≠ 0)) = some 2]
       (fun t => [t.light.insertion = some { old := 0, new := 2, step := 2 }])) = true := by
  decide +kernel

-- Witness of Insertions.
theorem test_moves :
    (let lanes : State := { inserts (bay (bay act 0 5 sound) 2 4 sound) 4 with light := { (inserts (bay (bay act 0 5 sound) 2 4 sound) 4).light with lanes := [(3, 0, 3), (4, 2, 4)] } }
     let s := lanes.fset F.TETHER_LANES.IN_USE 0xF
     let m1 : State := { s with light := { s.light with move := some (3, 1) }, pair := { s.pair with peerLanes := [3, 4] } }
     let m2 : State := { s with light := { s.light with move := some (3, 2) } }
     let m3 : State := { m1 with light := { s.light with move := some (3, 3) } }
     let i : Insertion := { old := 0, new := 2, step := 4 }
     chk (.tetherLaneMove 3) s [(s.lanesToMove i).head? = some 3, s.laneUsed 3, s.laneUsed 4 = false] (fun t => [t.light.move = some (3, 1)]) &&
     chk (.tetherLaneMove 3) m1 [m1.pair.peerLanes.contains 4] (fun t => [t.light.move = some (3, 2), t.laneUsed 3 = false, t.laneUsed 4]) &&
     chk (.tetherLaneMove 3) m2 [(m2.tetherLine 2).isSome] (fun t => [t.light.move = some (3, 3), (t.light.lanes.find? (fun p => p.1 = 3)).map (·.2) = m2.tetherLine 2]) &&
     chk (.tetherLaneMove 3) m3 [m3.pair.peerLanes.contains 3] (fun t => [t.light.move = none, t.laneUsed 3]) &&
     let b := inserts (bay (bay act 0 5 sound) 2 4 sound) 5
     let c : State := { b with light := { b.light with buses := [(4, 0, 8)] } }
     chk (.serviceBusMove 1) c [c.busToMove { i with step := 5 } 1] (fun t => [t.light.buses = c.busAfter { i with step := 5 } 1]) &&
     chk (.serviceBusMove 1) (b.fset (F.SVC_PORT_CTRL.MOVING 15) 1) [b.busToMove { i with step := 5 } 1 = false] (fun t => [t.light.buses = []])) = true := by
  decide +kernel

-- Witness of RingsAndBeacons.
theorem test_rings :
    (let lit : State := { bay act 0 4 sound with light := { (bay act 0 4 sound).light with buses := [(0, 0, 0)] } }
     let r0 := (lit.fset (F.RING_STATE.STATE 0) 1)
     let lk := act.fset (F.RING_STATE.STATE 175) 2
     let tr := act.fset (F.RING_STATE.STATE 175) 3
     let rc := act.fset (F.RING_STATE.STATE 175) 1
     let warm := (r0.fset (F.RING_STATE.HEATER 0) 0)
     chk (.resonanceSearch ((List.range 176).map (fun r => (r, some 4095)))) r0 [r0.combOn, r0.searches 0, r0.ringState 0 ≠ 2]
       (fun t => [t.fget F.RING_STATUS.SEARCH_DONE = 1, t.ringState 0 = 2, t.fget (F.RING_STATE.HEATER 0) = 4095]) &&
     chk (.warmSearch [(0, some 64)]) warm [warm.fget (F.RING_STATE.HEATER 0) = 0] (fun t => [t.fget F.RING_STATUS.WARM = 1, t.ringState 0 = 2]) &&
     chk (.warmSearch [(0, some 65)]) warm [] (fun t => [t.ringState 0 = 1]) &&
     chk (.ringRetraining 175 (some 4095)) lk [lk.ringState 175 = 2] (fun t => [t.ringState 175 = 2, t.fget (F.RING_STATE.HEATER 175) = 4095]) &&
     chk (.ringRetraining 175 none) lk [] (fun t => [t.ringState 175 = 3]) &&
     chk (.ringRetraining 175 none) tr [] (fun t => [t.ringState 175 = 4]) &&
     chk (.ringLockLoop 175 5) lk [lk.poundState 14 ≠ 3, lk.ringBank 175 = none] (fun t => [t.free = 3, t.regs = lk.regs]) &&
     chk (.receiveRingLock 175 0) rc [isReceive 175, rc.ringState 175 = 1] (fun t => [t.ringState 175 = 2])) = true := by
  decide +kernel

-- Witness of RingsAndBeacons and TetherLanes.
theorem test_beacons_and_lanes :
    (let dac := act.fset (F.SVC_PORT_CTRL.DAC_PENDING 15) 1
     let lit := ((bay (bay act 0 4 sound) 2 4 sound).fset (srcFld 1) 0).fset F.KEEL_STATUS.WINDLASS_B 1
     let lanes : State := { act with pair := { act.pair with peerLanes := [0, 1, 2, 3, 4] } }
     let used := (lanes.fset F.TETHER_LANES.UP 0x1F).fset F.TETHER_LANES.IN_USE 0xF
     let off : State := { lit with light := { lit.light with mated := [] } }
     chk (.dacRecalibration 15) dac [dac.bit (F.SVC_PORT_CTRL.BUSY 15) = false] (fun t => [t.fget (F.SVC_PORT_CTRL.DAC_PENDING 15) = 0]) &&
     let rest := (lit.fset F.KEEL_STATUS.WINDLASS_B 0).fset F.BEACON_CTRL.SHARE 0
     let share := (rest.fset F.BEACON_CTRL.SHARE 1).fset F.PAIR_CFG.EN 1
     chk (.beaconTrim 1 0) rest [rest.holds 1 = false, rest.bit F.BEACON_CTRL.SHARE = false]
       (fun t => [spGet 0 t.light.beacon 1 = 0, laneBit (t.fget (F.CART_STATUS.BEACONS 0)) 1 = false]) &&
     chk (.beaconTrim 1 0) share [share.holds 1 = false, share.bit F.BEACON_CTRL.SHARE, share.pairEn]
       (fun t => [spGet 0 t.light.beacon 1 = share.beaconTarget 1 - 300, laneBit (t.fget (F.CART_STATUS.BEACONS 0)) 1]) &&
     chk (.beaconTrim 1 0) lit [lit.holds 1, lit.fget (srcFld 1) < 3, spWf 0 0 lit.light.beacon]
       (fun t => [spGet 0 t.light.beacon 1 = clampI (-25) 25 (lit.beaconTarget 1), laneBit (t.fget (F.CART_STATUS.BEACONS 0)) 1]) &&
     chk (.beaconLoss 1) lit [] (fun t => [t.fget (srcFld 1) = 2, laneBit (t.fget (F.CART_STATUS.BEACONS 0)) 1 = false]) &&
     chk (.tetherLaneFailover 3 true) used [used.laneUsed 3, used.laneLocked 4, used.laneUsed 4 = false, used.laneMoving = false]
       (fun t => [t.laneUsed 3 = false, t.laneUsed 4, t.fget F.TETHER_LANES.SPARE_USED = 1, t.pair.lostLanes = [3]]) &&
     chk (.tetherBlockLock 3 false) lanes [lanes.light.move = none] (fun t => [t.laneUsed 3]) &&
     chk (.tetherBlockLock 3 true) (act.fset F.TETHER_LANES.UP 8) [] (fun t => [t.laneUsed 3, t.pair.peerLanes.contains 3]) &&
     chk .tetherPairSwitch act [] (fun t => [t.pair.fibre = 1]) &&
     chk (.connectorUnmated 3) lit [lit.light.mated.contains 3] (fun t => [t.light.mated = [0, 1, 2], t.out = [.light 3 false]]) &&
     chk (.connectorUnmated 2) used [] (fun t => [(List.range 5).all (fun n => !t.laneUsed n)]) &&
     chk (.connectorMated 1) off [off.light.mated.contains 1 = false] (fun t => [t.light.mated = [1], t.out = [.light 1 true], laneBit (t.fget (F.CART_STATUS.BEACONS 0)) 1])) = true := by
  decide +kernel

/-! ## Power and the ladder -/

/-- A state at this TB3 count. -/
def at3ns (s : State) (n : Nat) : State := { s with time := { s.time with tb3 := n } }

/-- A state on rung r. -/
def onRung (s : State) (r : Nat) : State := s.fset F.PWR_RUNG_STATE.RUNG r

/-- A state that moves to the rung g. -/
def goes (s : State) (g : Nat) : State := ({ s with power := { s.power with goal := g, moving := true } }).fset F.PWR_RUNG_STATE.MOVING 1

-- Witness of PowerManager.
theorem test_power_manager :
    (let s := (act.fset F.PWR_PACE.CORE_MV 700).fset F.PWR_CAP.CAP 100
     let w : State := at3ns { s with power := { s.power with capWaits := [(src, 0)] } } 500000
     let m : State := at3ns { act with power := { act.power with overSince := some 0 } } 5000000
     chk (.powerManagerStep [] 150 150 900 1000) s [s.rung ≤ 2, s.power.railsOff = false, s.boot.resetLow = false]
       (fun t => [t.fget F.PWR_PACE.ACHIEVED = 150, t.fget F.PWR_CAP.INPUT = 900, t.fget F.PWR_PACE.FLOOR = 0, t.fget F.PWR_PACE.THROTTLED = 0,
                  t.fget F.PWR_PACE.CORE_MV = 700]) &&
     chk (.powerManagerStep [] 114 114 2000 1000) s []
       (fun t => [t.fget F.PWR_PACE.FLOOR = 1, t.fget F.PWR_PACE.CAP_LIMITED = 0, t.fget F.PWR_PACE.THROTTLED = 1, t.power.overSince = some 0]) &&
     chk (.powerManagerStep [] 150 150 900 1000) w [takes w 0x61]
       (fun t => [t.power.capWaits = [], said w t 0x61 .done 0 0 (le 2 150) []]) &&
     chk .capMiss m [] (fun t => [t.fget F.PWR_CAP.CAP_MISS = 1,
       told { m with power := { m.power with overSince := some m.time.tb3 } } t [F.PWR_CAP.CAP_MISS]]) &&
     chk (.powerCap src 1023 255) act [takes act 0x61]
       (fun t => [t.fget F.PWR_CAP.CAP = 1023, t.fget F.PWR_PACE.REQ = 255, t.power.capWaits = [(src, 0)], kept act t [F.PWR_CAP.CAP, F.PWR_PACE.REQ]]) &&
     chk (.powerCap src 0 0) s [] (fun t => [t.fget F.PWR_CAP.CAP = 100]) &&
     act.allWf && !act.power.phases.contains 25 && !act.held && decide (act.rung ≤ 2) && decide (act.power.phases.length ≤ 22)) = true := by
  decide +kernel

-- Witness of Temperatures.
theorem test_temperatures :
    (let hot := (heat act 39 1760).fset (F.ARRAY_STATUS.STATE 3) 1
     let long : State := at3ns { act with power := { act.power with hotSince := some 0 } } 50000000
     let cold : State := { (onRung (at3ns act 50000000) 1).fset F.PWR_THERM.THERM_RUNG 1 with power := { act.power with coolSince := [(0, 1), (1, 1), (2, 1), (3, 1)] } }
     let then2 : State := { cold with power := { cold.power with afterHeat := some 2 } }
     chk (.temperatureRead [(0, 1520), (63, -16)]) act [act.power.warm = false]
       (fun t => [t.fget (F.PWR_TEMP.TEMP 0) = 1520, t.fget (F.PWR_TEMP.TEMP 63) = 65520, t.bit (F.PWR_TEMP.VALID 63), t.fget (F.PWR_TEMP.VALID 1) = 0,
                  t.fget F.PWR_THERM.TJ = 95, t.fget F.PWR_THERM.HOT = 0, t.fget F.PWR_THERM.WARN = 1]) &&
     chk (.thermalHalt 3) hot [hot.unitLead 3, hot.hotArray 3, hot.atRest 3] (fun t => [t.arrayState 3 = 4, t.heatHalted 3]) &&
     chk .thermalL1Entry long [long.rung = 0, long.held = false, long.berthRuns = false]
       (fun t => [t.rung = 1, t.fget F.PWR_THERM.THERM_RUNG = 1, t.fget F.PWR_RUNG_STATE.CAUSE = 2, t.arrayState 3 = 0]) &&
     chk .thermalRecovery cold [cold.cooled, cold.rung = 1, cold.held = false]
       (fun t => [t.fget F.PWR_THERM.THERM_RUNG = 0, t.fget F.PWR_WAKE.LAST = 5, t.power.goal = 0, t.power.moving, t.fget F.PWR_RUNG_STATE.CAUSE = 2]) &&
     chk .thermalRecovery then2 [] (fun t => [t.power.goal = 2])) = true := by
  decide +kernel

-- Witness of RungAsks.
theorem test_rung_asks :
    (let v : Word := 3
     let m := goes act 2
     let l1 := onRung act 1
     let pin := l1.fset F.PWR_WAKE.PIN_EN 1
     let timer := at3ns (l1.fset F.PWR_WAKE.TIMER_EN 1) 500000000
     let cmd : State := { l1.fset F.PWR_WAKE.CMD_EN 1 with taken := [.mapCommit src] }
     chk (.rungSet src 5) act [takes act 0x60, act.descentBlocked = false, act.fget F.PWR_THERM.THERM_RUNG = 0, act.power.cmd = none]
       (fun t => [t.power.goal = 5, t.power.moving, t.power.cmd = some src, t.fget F.PWR_RUNG_STATE.MOVING = 1, t.rung = 0,
                  kept act t [F.PWR_RUNG_STATE.MOVING, F.PWR_RUNG_STATE.CAUSE]]) &&
     chk (.rungSet src 0) act [] (fun t => [said act t 0x60 .done 0 0 (le 1 0) [], told act t []]) &&
     chk (.rungSet src 5) m [takes m 0x60] (fun t => [said m t 0x60 .refused Reason.inProgress.code 0 [] []]) &&
     chk (.rungRequestWrite v) act [act.reaches 0x100000, fldOf v F.PWR_RUNG_REQ.RUNG = 3]
       (fun t => [t.fget F.PWR_RUNG_REQ.RUNG = 3, t.power.goal = 3, t.power.moving, t.fget F.PWR_RUNG_STATE.MOVING = 1, t.rung = 0]) &&
     chk (.rungRequestWrite v) up [up.active = false] (fun t => [t.fget F.PWR_RUNG_REQ.REQ_ERR = 1, t = { up with regs := t.regs }]) &&
     chk .wake pin [pin.mayWake] (fun t => [t.fget F.PWR_WAKE.LAST = 1, t.power.moving, t.power.goal = 0, t.fget F.PWR_RUNG_STATE.CAUSE = 1]) &&
     chk .wakeTimer timer [timer.mayWake] (fun t => [t.fget F.PWR_WAKE.LAST = 4, t.power.moving]) &&
     chk .commandWake cmd [cmd.mayWake, cmd.taken.any wakes] (fun t => [t.fget F.PWR_WAKE.LAST = 2, t.power.moving])) = true := by
  decide +kernel

-- Witness of RungMoves.
theorem test_descents :
    (let l1 := goes (onRung act 1) 2
     let l2 := goes (onRung act 2) 3
     let l3 := goes (onRung act 3) 4
     let l4 : State := { goes (onRung act 4) 5 with boot := { act.boot with dumped := true } }
     chk .rungDescent (goes act 1) [(goes act 1).held = false, (goes act 1).berthRuns = false]
       (fun t => [t.rung = 1, t.arrayState 0 = 0, t.fget F.AUC_STATUS.IN_SERVICE = 0, t.power.moving = false, t.fget F.PWR_RUNG_STATE.MOVING = 0]) &&
     chk .rungDescent l1 [] (fun t => [t.rung = 2, t.tows.spaces = [], t.power.moving = false]) &&
     chk .rungDescent l2 [l2.power.cmd = none] (fun t => [t.rung = 3, t.power.mooring.isSome, t.link.queues = [], t.power.moving = false]) &&
     chk .rungDescent l3 [l3.unparked = false] (fun t => [t.rung = 4, t.boot.dumped = false]) &&
     chk .rungDescent l4 [] (fun t => [t.rung = 5, t.power.mooring = none])) = true := by
  decide +kernel

-- Witness of RungMoves.
theorem test_rises :
    (let l1 := goes (onRung act 1) 0
     let l3 : State := { goes (onRung act 3) 0 with power := { (goes act 0).power with mooring := some { axes := [(0, 5, 6)], peer := [(1159, 1159)], settle := 0, epoch := 4 } } }
     chk .rungRise l1 [l1.held = false] (fun t => [t.rung = 0, t.arrayState 3 = 1, t.power.moving = false]) &&
     chk .rungRise l3 [] (fun t => [t.rung = 2, t.lock.paths = [{ a := 1159, b := 1159 }], t.poundState 14 = 2, t.map.reloading, t.power.moving])) = true := by
  decide +kernel

-- Witness of RungMoves.
theorem test_touch_up :
    (let l3 := at3ns (onRung act 3) (10 * 60 * 500000000)
     let l2 := at3ns ((onRung act 2).fset F.PWR_RUNG_STATE.TOUCH 1) 500000000
     chk (.moorTouchUp false) l3 [l3.held = false, l3.power.moving = false, l3.moorMin = 10]
       (fun t => [t.rung = 2, t.fget F.PWR_RUNG_STATE.TOUCH = 1, t.fget F.PWR_RUNG_STATE.CAUSE = 3]) &&
     chk (.moorTouchUp true) l2 [] (fun t => [t.rung = 2, t.fget F.PWR_RUNG_STATE.TOUCH = 0, t.power.touchAlert,
       told { l2 with power := { l2.power with touchAlert := true } } t [F.PWR_RUNG_STATE.TOUCH]]) &&
     chk (.moorTouchUp false) l2 [l2.power.goal ≤ 3, l2.pathOpen = false, l2.power.since + l2.touchLen ≤ l2.time.tb3]
       (fun t => [t.rung = 3, t.fget F.PWR_RUNG_STATE.TOUCH = 0, t.power.mooring.isSome])) = true := by
  decide +kernel

/-! ## Reliability, images, logbook and counters -/

-- Witness of SparesAndErrors.
theorem test_cores_and_blocks :
    (let one : State := { act with ras := { act.ras with cores := [0] } }
     let four : State := { act with ras := { act.ras with cores := [0, 1, 2, 3] } }
     chk (.coreReportMissed 5) act [act.cores, act.held = false, act.servingCores.contains 5]
       (fun t => [t.ras.cores = [5], t.fget F.RAS_STATUS.SPARE_IN = 1, t.fget F.RAS_STATUS.EXHAUSTED = 0]) &&
     chk (.coreReportMissed 6) one [one.servingCores.contains 6]
       (fun t => [t.ras.cores = [0, 6], t.fget F.RAS_STATUS.EXHAUSTED = 1, t.fget F.RAS_STATUS.DEGRADED = 1,
                  told { one with ras := { one.ras with cores := t.ras.cores, exhausted := t.ras.exhausted } } t
                    [F.RAS_STATUS.SPARE_IN, F.RAS_STATUS.EXHAUSTED, F.RAS_STATUS.DEGRADED]]) &&
     chk (.coreReportMissed 7) four [] (fun t => [t.fget F.KEEL_CAUSE.CAUSE = 8, t.fget F.KEEL_CAUSE.KIND = 1, t.fget F.KEEL_CAUSE.FATAL = 1, t.ready = false]) &&
     chk (.blockWatchdog 2) act [act.held = false]
       (fun t => [t.fget F.KEEL_CAUSE.CAUSE = 0x0A, t.fget F.KEEL_CAUSE.KIND = 1, t.fget F.KEEL_CAUSE.FATAL = 1, t.ready = false])) = true := by
  decide +kernel

-- Witness of SparesAndErrors.
theorem test_memory_spares :
    (let c : Nat := 2 ^ 34 - 1
     let r : Nat := 2 ^ 31 - 1
     let two : State := { act with mem := { act.mem with rowErrs := [(1023, 8191, 0, 0), (1023, 8191, 1, 0)] } }
     chk (.rowSparing 1023 8191 r true) act [act.rowsUsed 1023 < 64, act.mem.rows.contains (1023, 8191) = false]
       (fun t => [t.mem.rows = [(1023, 8191)], t.mem.poison.contains (0, r), t.fget F.RAS_STATUS.UE = 1, t.fget F.RAS_STATUS.SPARE_IN = 1]) &&
     chk (.rowSparing 1023 8191 r false) act [act.mem.rowErrs = []]
       (fun t => [t.mem.rows = [], t.mem.poison = [], t.mem.rowErrs = [(1023, 8191, r, 0)], t.fget F.RAS_STATUS.CE = 1]) &&
     chk (.rowSparing 1023 8191 r false) two [] (fun t => [t.mem.rows = [(1023, 8191)]]) &&
     chk (.channelMigration 1 15 c 0 true) act [act.mem.channels.any (fun x => decide (x.1 = 1)) = false]
       (fun t => [t.mem.channels = [(1, 15)], t.fget F.RAS_STATUS.SPARE_IN = 1, t.mem.poison.contains (1, c)]) &&
     chk (.channelMigration 1 15 c 1001 false) act [] (fun t => [t.mem.channels = [(1, 15)], t.mem.poison = []]) &&
     chk (.channelMigration 1 15 c 1000 false) act [] (fun t => [t.mem = act.mem, t.fget F.RAS_STATUS.CE = 1])) = true := by
  decide +kernel

-- Witness of SparesAndErrors.
theorem test_lane_and_column_spares :
    (let lanes : State := act.modHead 1 (fun h => { h with lanes := [0, 1, 2, 3] })
     let bad : State := { act with tows := { act.tows with strikes := [(3, 263, 0), (3, 263, 0), (3, 263, 0)] } }
     let gone : State := { act with tows := { act.tows with exhausted := [3] } }
     chk (.towpathLaneFailover 1 3) lanes [(lanes.head 1).spareUsed = false]
       (fun t => [(t.head 1).spareUsed, (t.head 1).lanes = [0, 1, 2, 4], t.fget F.RAS_STATUS.SPARE_IN = 1, t.steer.lostB = 1]) &&
     chk (.columnRetire 3 263) bad [bad.atRest 3, 3 ≤ bad.columnStrikes 3 263, bad.fget (F.ARRAY_STATUS.SPARES_USED 3) < 8]
       (fun t => [t.tows.columns = [(3, 263)], t.fget (F.ARRAY_STATUS.SPARES_USED 3) = 1, t.fget F.RESIDUE_STATUS.RETIRED = 1]) &&
     chk (.outOfService 3) gone [gone.atRest 3] (fun t => [t.arrayState 3 = 6, t.tows.exhausted = []]) &&
     chk (.rasInject 12 4095) (pends waits) [(pends waits).reaches 0xD00008, (pends waits).lock.cycles ≠ []]
       (fun t => [t.fget F.RAS_INJECT.ERR = 1, kept (pends waits) t [F.RAS_INJECT.TARGET, F.RAS_INJECT.INDEX, F.RAS_INJECT.ERR]]) &&
     chk (.rasInject 4 4095) act [act.reaches 0xD00008]
       (fun t => [t.ras.inject = some (4, 4095), t.fget F.RAS_INJECT.GO = 1, kept act t [F.RAS_INJECT.TARGET, F.RAS_INJECT.INDEX, F.RAS_INJECT.GO]])) = true := by
  decide +kernel

/-- A checked image of 100 bytes whose pound A section has this CRC, and whose KEEL section has that one. -/
def imaged (a k : Nat) : Image :=
  { imageUnknown with headerOk := true, sigOk := true, digestOk := true, tableOk := true, crcOk := true, length := 100
                      sections := requiredSections.map (fun y => (y, 5, if y = 1 then k else if y = 0x30 then a else 0)) }

/-- A module whose slots 0, which is active, and 1 hold these images. -/
def slots (i j : Image) : State :=
  ({ act with boot := { act.boot with wp := false, slots := [(0, some i), (1, some j)] } }.fset F.IMG_STATUS.VALID 3).fset (F.POUND_STATUS.STATE 13) 2

-- Witness of ImagesAndPounds.
theorem test_staging :
    (let w : State := { act with boot := { act.boot with wp := false } }
     let g : State := { act with boot := { act.boot with wp := false, staging := some (2, src) } }
     let i := imaged 1 1
     chk (.imageStage src 2 0 100 i true) w [takes w 0x51, 2 ≠ w.fget F.IMG_STATUS.ACTIVE, w.boot.staging = none]
       (fun t => [t.boot.staging = some (2, src), t.fget F.IMG_STATUS.STAGING = 1, t.slotValid 2 = false, kept w t [F.IMG_STATUS.STAGING, F.IMG_STATUS.VALID]]) &&
     chk (.imageStage src 0 0 100 i true) w [] (fun t => [said w t 0x51 .refused Reason.locked.code 0 [] []]) &&
     chk (.imageStage src 2 0 100 i true) act [act.boot.wp] (fun t => [said act t 0x51 .refused Reason.locked.code 0 [] []]) &&
     chk (.imageStage src 2 0 100 i true) g [imageChecked i 100]
       (fun t => [t.imageOf 2 = some i, t.slotValid 2, t.boot.staging = none, said g t 0x51 .done 0 0 [] []]) &&
     chk (.imageStage src 2 0 99 i true) g [imageChecked i 99 = false] (fun t => [t.boot.staging = none, said g t 0x51 .refused Reason.auth.code 0 [] []]) &&
     chk (.imageStage src 2 0 100 i false) g [] (fun t => [t.boot.staging = none, said g t 0x51 .failed Reason.flash.code 0 [] []]) &&
     chk (.flashWp true) g [] (fun t => [t.boot.staging = none, t.boot.wp, said g t 0x51 .failed Reason.locked.code 0 [] []]) &&
     chk (.flashWp false) act [act.boot.staging = none] (fun t => [t.boot.wp = false, t.regs = act.regs])) = true := by
  decide +kernel

-- Witness of ImagesAndPounds.
theorem test_activation :
    (let live := slots (imaged 1 1) (imaged 2 1)
     let cold := slots (imaged 1 1) (imaged 1 2)
     chk (.imageActivate src 1) live [takes live 0x52, live.slotValid 1, live.slotGood 1, live.image = some (imaged 1 1),
         fixedSections.all (sameSection (imaged 1 1) (imaged 2 1))]
       (fun t => [t.fget F.IMG_STATUS.ACTIVE = 1, t.poundState 13 = 4, t.poundState 0 = live.poundState 0, said live t 0x52 .done 0 0 [] []]) &&
     chk (.imageActivate src 1) cold [fixedSections.all (sameSection (imaged 1 1) (imaged 1 2)) = false]
       (fun t => [t.fget F.IMG_SLOT.NEXT = 1, t.fget F.IMG_STATUS.AWAIT_RESET = 1, t.fget F.IMG_STATUS.ACTIVE = 0, said cold t 0x52 .done 0 0 [] []]) &&
     chk (.imageActivate src 3) live [] (fun t => [said live t 0x52 .refused Reason.unknown.code 0 [] [], told live t []])) = true := by
  decide +kernel

-- Witness of ImagesAndPounds.
theorem test_pounds :
    (let load : State := { (act.fset (F.POUND_STATUS.STATE 14) 3) with boot := { act.boot with reload := some (14, src) } }
     let idle := act.fset (F.POUND_STATUS.STATE 14) 2
     let placed : State := { (act.fset (F.POUND_STATUS.STATE 0) 3) with
       boot := { act.boot with reload := some (0, src), slots := [(0, some { imaged 1 1 with axisMap := [(0, 579)] })] }
       steer := { act.steer with axisMap := [(5, 8)] } }
     chk (.poundReload src 14 true) act [takes act 0x50, act.boot.reload = none]
       (fun t => [t.poundState 14 = 3, t.fget (F.POUND_STATUS.UNLOCK 14) = 0, t.boot.reload = some (14, src)]) &&
     chk (.poundReload src 0 true) up [takes up 0x50, up.active = false] (fun t => [t.poundState 0 = 3, t.boot.reload = some (0, src)]) &&
     chk (.poundReload src 7 true) act [act.active, act.reliefFree]
       (fun t => [(t.steer.relief.map (·.source)) = some 7, (t.steer.relief.map (·.cmd)) = some (some src), t.boot.reload = some (7, src)]) &&
     chk (.poundReload src 12 true) act [act.lock.cycles = []] (fun t => [t.arrayState 3 = 5, t.boot.reload = some (12, src)]) &&
     chk (.poundReload src 13 true) act [] (fun t => [t.fget F.AUC_STATUS.RELOADING = 1, t.boot.reload = some (13, src)]) &&
     chk (.poundReload src 15 true) act [] (fun t => [said act t 0x50 .refused Reason.range.code 0 [] [], told act t []]) &&
     let by8 (c r : Bool) : State := relieved 7 .misses true c r 0 7
     let held : State := { by8 true false with
                                                     boot := { act.boot with reload := some (7, src) }
                                                     steer := { act.steer with relief := (by8 true false).steer.relief.map (fun q => { q with cmd := some src }) } }
     let held := held.fset (F.POUND_STATUS.STATE 7) 3
     chk (.poundReload src 7 true) (by8 true false) [takes (by8 true false) 0x50, (by8 true false).boot.reload = none]
       (fun t => [t.poundState 7 = 3, (t.steer.relief.map (fun q => (q.trigger, q.cmd, q.committed))) = some (.reload, some src, true)]) &&
     chk (.poundReload src 7 true) held [held.cores]
       (fun t => [t.poundState 7 = 2, t.boot.reload = some (7, src), (t.steer.relief.map (fun q => (q.returning, q.shadow))) = some (true, false)]) &&
     chk (.poundReload src 14 true) load [load.reloadOwn 14 src]
       (fun t => [t.poundState 14 = 2, t.fget (F.POUND_STATUS.LOADS 14) = 1, t.boot.reload = none, said load t 0x50 .done 0 0 [] []]) &&
     chk (.poundReload src 0 true) placed [placed.reloadOwn 0 src, placed.slotOf 5 = 7]
       (fun t => [t.poundState 0 = 2, t.reachOf 0 = 0, t.slotOf 0 = 579, t.slotOf 5 = 5, t.axisAt 0 579 = some 0, t.axisAt 0 0 = none]) &&
     chk (.unlock 14 true) idle [idle.reaches 0xF00078] (fun t => [t.fget (F.POUND_STATUS.UNLOCK 14) = 1, kept idle t [F.POUND_STATUS.UNLOCK 14]]) &&
     chk (.unlock 14 true) act [act.poundState 14 ≠ 2, act.poundState 14 ≠ 4] (fun t => [t = act]) &&
     chk (.unlock 14 false) (idle.fset (F.POUND_STATUS.UNLOCK 14) 1) [] (fun t => [t.fget (F.POUND_STATUS.UNLOCK 14) = 0])) = true := by
  decide +kernel

/-- A logbook entry of this index. -/
def entry (n : Nat) : Entry := { index := n, t3 := 0, sev := 5, source := 1, cls := 4, kind := 0, reason := 0, arg0 := 0 }

-- Witness of RingsAndBeacons.
theorem test_ring_law :
    (let i := { imaged 1 1 with ringLaw := [(175, [0x4000, 0, 0, 0, 0, 0, 0x7FFF, 0x8000, 0x7FFF])] }
     let s := (slots i i).fset (F.RING_STATE.STATE 175) 2
     chk (.ringLockLoop 175 5) s [s.ringState 175 = 2, (s.ringBank 175).isSome]
       (fun t => [(spGet {} t.light.loops 175).ePrev = 5, t.free = s.free, t.regs = s.regs])) = true := by
  decide +kernel

-- Witness of LogAndCounters.
theorem test_logbook :
    (let book : State := { act with log := { act.log with book := [entry 3], head := 4 } }
     let ice : State := { book with log := { book.log with frozen := true, annex := [entry 4], head := 5 } }
     let marked (v : Bool) : State := book.setMark 7 { index := 1, lost := 2, valid := v, set := true }
     chk (.logFreeze src) book [takes book 0xA0] (fun t => [t.log.frozen, t.fget F.LOG_MISSED.MISSED = 0, said book t 0xA0 .done 0 0 (le 8 4) []]) &&
     chk (.logFreeze src) ice [takes ice 0xA0] (fun t => [said ice t 0xA0 .already 0 0 [] [], t.log = ice.log]) &&
     chk (.logThaw src) ice []
       (fun t => [t.log.frozen = false, t.log.annex = [], t.log.head = 5, t.log.book = [entry 3, entry 4], said ice t 0xA1 .done 0 0 (le 4 0 ++ le 2 1) []]) &&
     chk (.logThaw src) book [takes book 0xA1] (fun t => [said book t 0xA1 .already 0 0 [] [], t.log = book.log]) &&
     chk (.logMark src 7 false) book [takes book 0xA2]
       (fun t => [t.mark 7 = { index := 4, lost := 0, valid := true, set := true }, said book t 0xA2 .done 0 0 (le 8 4) []]) &&
     chk (.logMark src 7 true) book [(book.mark 7).set = false] (fun t => [said book t 0xA2 .refused Reason.state.code 0 [] [], told book t []]) &&
     chk (.logMark src 7 true) (marked true) [] (fun t => [said (marked true) t 0xA2 .done 0 0 (le 8 1) [], t.log = (marked true).log]) &&
     chk (.logMark src 7 true) (marked false) []
       (fun t => [t.mark 7 = { index := 3, lost := 2, valid := true, set := true }, said (marked false) t 0xA2 .done 0 2 (le 8 3) []])) = true := by
  decide +kernel

-- Witness of LogAndCounters.
theorem test_dumps_and_counters :
    (let keel : State := { onRung (goes act 5) 4 with boot := { act.boot with dumpNext := 15 } }
     let one : State := { act with log := { act.log with dumps := [(15, some ⟨true, 1, 0, 0, [], [], []⟩)] } }
     let cnt : State := { act with counters := [(16, 5), (255, 1), (256, 7), (303, 8), (511, 9)] }
     let win : State := cnt.fset F.CNT_WINDOW.EN 1
     chk (.dump true) act [act.reaches 0xB00000] (fun t => [t.fget F.LOG_CTRL.LAST_DUMP = 0, (spGet none t.log.dumps 0).isSome, t.boot.dumpNext = 1]) &&
     chk (.dump false) act [] (fun t => [t.fget F.LOG_CTRL.DUMP_ERR = 1, kept act t [F.LOG_CTRL.DUMP_ERR]]) &&
     chk (.keelCopyDump true) keel [keel.keelDumpDue] (fun t => [t.boot.dumped, ((spGet none t.log.dumps 15).map (·.keelOnly)) = some true, t.boot.dumpNext = 0]) &&
     chk (.load 15) one [] (fun t => [t.fget F.LOG_CTRL.DUMP_SLOT = 15, (t.log.window.map (·.t3)) = some 1]) &&
     chk (.load 0) one [] (fun t => [t.fget F.LOG_CTRL.DUMP_ERR = 1, t.log = one.log]) &&
     chk (.counterGrant src 31 false) act [takes act 0xB0] (fun t => [t.fget F.CNT_GRANT.GRANT / 2 ^ 31 % 2 = 1, said act t 0xB0 .done 0 0 [] [], told act t [F.CNT_GRANT.GRANT]]) &&
     chk (.counterGrant src 32 false) act [] (fun t => [said act t 0xB0 .refused Reason.range.code 0 [] [], told act t []]) &&
     chk (.cntClear 511) cnt [cnt.reaches 0xC00004] (fun t => [t.fget F.CNT_SEL.COUNTER = 511, t.counters = [(16, 5), (255, 1), (256, 7), (303, 8)]]) &&
     chk (.cntClear 256) cnt [] (fun t => [t.counters = cnt.counters]) &&
     chk (.cntBindWrite 7 63 true) cnt [cnt.reaches 0xC0003C]
       (fun t => [t.fget (F.CNT_BIND.SPACE 7) = 63, t.bit (F.CNT_BIND.EN 7), t.counters = [(16, 5), (255, 1), (256, 7), (303, 8)]]) &&
     chk (.counterWindowClose []) win [win.time.tb3 % (500 * win.windowLen) = 0] (fun t => [t.counters = [(16, 5), (255, 1), (511, 9)]]) &&
     chk (.counterWindowClose [(303, 2 ^ 65)]) win [] (fun t => [t.counters = [(16, 5), (255, 1), (303, 2 ^ 64 - 1), (511, 9)]])) = true := by
  decide +kernel

/-! ## Queues, commands and register accesses -/

/-- The cell of a command of one cell without arguments. -/
def cell (op : Nat) : List Byte := le 1 op ++ le 1 1 ++ le 2 0 ++ le 2 1 ++ le 2 0 ++ List.replicate 56 0

/-- A module with these queues. -/
def queues (l : Sparse Queue) : State := { act with link := { act.link with queues := l } }

-- Witness of QueueEngine.
theorem test_doorbells :
    (let s := queues [(4095, { en := true })]
     chk (.doorbell 4095 64) s [s.rung ≤ 2, (s.queue 4095).mayRing 64] (fun t => [(t.queue 4095).hostIdx = 64, (t.queue 4095).dbErr = false]) &&
     chk (.doorbell 4095 65) s [(s.queue 4095).mayRing 65 = false] (fun t => [(t.queue 4095).dbErr, (t.queue 4095).hostIdx = 0]) &&
     chk (.doorbell 0 0) s [(s.queue 0).en = false] (fun t => [(t.queue 0).dbErr, (t.queue 4095).dbErr = false])) = true := by
  decide +kernel

-- Witness of QueueEngine.
theorem test_fetches :
    (let s := queues [(1, { en := true, cq := 2, hostIdx := 1 }), (2, { en := true, dir := true })]
     let i : Item := { code := 1, kind := 2, prio := 7, len := 2, poison := 1 }
     let d := queues [(2, { en := true, dir := true, ringAddr := 4096, items := [i] })]
     let full := queues [(2, { en := true, dir := true, devIdx := 63, items := [i] })]
     let it := fetchedItem (s.queue 1) [cell 0x12] []
     chk (.h2dFetch 1 [cell 0x12] []) s [s.queueMoves 1 false, (cell 0x12).length = 64, it.len = 1, s.fullFor 1 1 = false]
       (fun t => [(t.queue 1).items = [it], (t.queue 1).devIdx = 1, t.out.length = 1]) &&
     chk (.d2hWrite 2) d [d.queueMoves 2 true, (d.queue 2).head? = some i]
       (fun t => [(t.queue 2).items = [], (t.queue 2).devIdx = 2, t.fget F.QP_CTRL.POISON = 1, t.out.length = 3]) &&
     chk (.d2hWrite 2) full [full.queueMoves 2 true] (fun t => [t = full])) = true := by
  decide +kernel

-- Witness of QueueEngine.
theorem test_queue_states :
    (let pool := act.fset F.QP_CTRL.READY 1
     let sel := (pool.fset F.Q_SEL.QUEUE 4095)
     let odd := sel.modQueue 4095 (fun d => { d with vector := 15 })
     let on := queues [(4095, { en := true, items := [{ code := 1, kind := 1, prio := 0 }] })]
     let seen := on.fset F.Q_SEL.QUEUE 4095
     let broke := pool.modQueue 4095 (fun d => { d with en := true, broken := true })
     chk .poolInitialisation act [act.held = false] (fun t => [t.fget F.QP_CTRL.READY = 1, kept act t [F.QP_CTRL.READY]]) &&
     chk .queueEnable sel [sel.reaches 0x900010, sel.mayEnable 4095] (fun t => [(t.queue 4095).en, (t.queue 4095).cfgErr = false]) &&
     chk .queueEnable odd [odd.mayEnable 4095 = false] (fun t => [(t.queue 4095).en = false, (t.queue 4095).cfgErr]) &&
     chk .queueDisable seen [(seen.queue 4095).en] (fun t => [(t.queue 4095).en = false, (t.queue 4095).items = []]) &&
     chk (.queueScrub 4095) broke [(disableQueue 4095 broke).mayEnable 4095] (fun t => [(t.queue 4095).broken = false, (t.queue 4095).en]) &&
     chk (.linkParityFail 4095) on []
       (fun t => [(t.queue 4095).broken, t.fget F.QP_CTRL.LINK_ERR = 1, t.fget F.QP_CTRL.LAST_BROKEN = 4095, told on t [F.QP_CTRL.LINK_ERR, F.QP_CTRL.LAST_BROKEN]])) = true := by
  decide +kernel

-- Witness of CommandsTaken.
theorem test_commands_taken :
    (let it (op : Nat) := fetchedItem { en := true } [cell op] []
     let s (op : Nat) := queues [(1, { en := true, cq := 2, items := [it op] }), (2, { en := true, dir := true })]
     chk .commandTake (s 0x12) [(s 0x12).cores, (s 0x12).commandQueues = [1], ((s 0x12).reserveFor (srcFrom 1 (it 0x12)) (it 0x12)).isSome,
         commandFault (it 0x12) = none, commandOf (srcFrom 1 (it 0x12)) 0x12 (it 0x12).body = some (.mapCommit (srcFrom 1 (it 0x12)))]
       (fun t => [t.taken = [.mapCommit (srcFrom 1 (it 0x12))], (t.queue 1).items = [], t.link.served = 1]) &&
     chk .commandTake (s 0xFF) [commandFault (it 0xFF) = some (.unknownOp, .none)] (fun t => [t.taken = [], (t.queue 1).items = [], (t.queue 2).items.length = 1]) &&
     chk .commandTake act [act.cores, act.commandQueues = []] (fun t => [t = act])) = true := by
  decide +kernel

/-- A module whose policy ring, in the basin of space 63, has 16 cells, of which WRITE are written, with LOG_FREEZE first. -/
def policy (wr : Nat) : State :=
  let s := tows []
  let b := memPut (memPut s.mem.basin (s.policyBase space1) (le 4 16 ++ le 4 wr)) (s.policyBase space1 + 64) (cell 0xA0)
  let s := (s.fset F.AUC_CTRL.POLICY_EN 1).fset F.AUC_CTRL.POLICY_SPACE 63
  let s := s.modQueue (s.cqOf (srcFrom 0xFFFF (fetchedItem { en := true } [cell 0xA0] []))) (fun d => { d with en := true, dir := true })
  { s with mem := { s.mem with basin := b }, auction := { s.auction with policyDue := true } }

-- Witness of CommandsTaken.
theorem test_policy :
    (chk .policyCell (policy 0) [(policy 0).space ((policy 0).fget F.AUC_CTRL.POLICY_SPACE) = some space1, (policy 0).policyWord space1 0 = 16]
       (fun t => [t.auction.policyDue = false, t.taken = []]) &&
     chk .policyCell (policy 1) [policySize 16, (policy 1).policyCells space1 16 0 1 = cell 0xA0]
       (fun t => [t.policyWord space1 8 = 1, t.auction.policyDue = false, t.taken.length = 1])) = true := by
  decide +kernel

-- Witness of CommandsTaken.
theorem test_snapshot :
    (chk (.identify src) act [takes act 0x01] (fun t => [t.regs = act.regs]) &&
     chk (.statusSnapshot src) act [takes act 0x02] (fun t => [told act t [], (t.queue 2).items.length = 1])) = true := by
  decide +kernel

-- Witness of RegisterAccess.
theorem test_register_access :
    (let win := (((act.fset (F.BAR2_WIN.TARGET 0) 1).fset (F.BAR2_WIN.WE 0) 1).fset (F.BAR2_WIN.TARGET 3) 2).fset F.KEEL_STATUS.STACK_READY 1
     let x : Nat := 3 * 2 ^ 30 + 8
     let wv := win.fset (F.BAR2_WIN.WE 3) 1
     let off := win.fset (F.BAR2_WIN.TARGET 3) 0
     let shut := win.fset (F.BAR2_WIN.WE 3) 0
     chk (.bar0MalformedAccess true true) act [] (fun t => [t.fget F.XL_FAULT.ACCESS_ERR = 1, told act t [F.XL_FAULT.ACCESS_ERR]]) &&
     chk (.bar0MalformedAccess false false) act [] (fun t => [t.fget F.XL_FAULT.ACCESS_ERR = 1, t.out.getLast? = some (.readData (List.replicate 4 0xFF) false)]) &&
     chk (.bar2Access 8 2 (some [1, 2])) win [win.bar2Reaches 8 2, win.bar2Writes 8 2] (fun t => [t.mem.basin = [(8, 1), (9, 2)]]) &&
     chk (.bar2Access x 2 (some [1, 2])) wv [wv.bar2Reaches x 2, wv.bar2Writes x 2] (fun t => [t.mem.stack = [(wv.bar2Byte x, 1), (wv.bar2Byte x + 1, 2)], t.mem.basin = []]) &&
     chk (.bar2Access x 2 (some [1, 2])) shut [shut.bar2Writes x 2 = false] (fun t => [t.fget F.XL_FAULT.BAR2_ERR = 1, told shut t [F.XL_FAULT.BAR2_ERR]]) &&
     chk (.bar2Access 8 2 none) win [] (fun t => [t.out = [.readData [0, 0] false]]) &&
     chk (.bar2Access x 2 none) win [] (fun t => [t.out = [.readData [0, 0] false]]) &&
     chk (.bar2Access x 2 none) off [off.bar2Reaches x 2 = false]
       (fun t => [t.fget F.XL_FAULT.BAR2_ERR = 1, t.out.getLast? = some (.readData [0xFF, 0xFF] false)]) &&
     chk (.configurationWrite true false) act [] (fun t => [t.link.d3hot, t.link.busMaster = false, t.link.queues = act.link.queues])) = true := by
  decide +kernel

-- Witness of RegisterAccess.
theorem test_reads_and_writes :
    (let q := (act.modQueue 0 (fun d => { d with drops := 5 }))
     let keep := act.fset (F.POUND_STATUS.STATE 13) 3
     chk (.pairLoRead 0xF00008) act [pairRegisters.contains 0xF00008] (fun t => [spGet none t.link.hi 0xF00008 = some (act.readWord 0xF0000C), t.regs = act.regs]) &&
     chk (.rcRead 0x900038) q [q.reaches 0x900038, q.fget F.Q_SEL.QUEUE = 0] (fun t => [(t.queue 0).drops = 0, t.regs = q.regs]) &&
     chk (.rcRead 0x000004) act [act.reaches 4] (fun t => [t.word 4 = readLeaves (rowsOf 4) (act.word 4)]) &&
     let seen : State := { act with link := { act.link with hi := [(0xF00008, some 9)] } }
     chk (.rcRead 0xF0000C) seen [] (fun t => [t.out = [.readData [9, 0, 0, 0] false]]) &&
     chk (.registerWrite 0x500008 1) State.reset [State.reset.reaches 0x500008 = false] (fun t => [t = State.reset]) &&
     chk (.registerWrite 0x800000 1) keep [keep.reaches 0x800000, keep.reloading 0x800000 = some 13]
       (fun t => [t.fget (F.POUND_STATUS.WRITE_LOST 13) = 1, told keep t [F.POUND_STATUS.WRITE_LOST 13]]) &&
     chk (.registerWrite 0x800000 1) act [act.reloading 0x800000 = none] (fun t => [t.word 0x800000 = writeWord (rowsOf 0x800000) false 1 (act.word 0x800000)]) &&
     chk (.registerWrite 0x500008 1) up [up.active = false, up.written 0x500008 1 ≠ up.word 0x500008]
       (fun t => [t.fget F.PAIR_STATUS.WRITE_IGN = 1, kept up t [F.PAIR_STATUS.WRITE_IGN]]) &&
     chk (.registerWrite 0x500008 1) act [act.active] (fun t => [t.word 0x500008 = act.written 0x500008 1])) = true := by
  decide +kernel

/-! ## Commands that name no object (R6, R7, R15, R25): the check refuses each -/

/-- The check refuses every one of these commands. -/
def refuses (l : List Instr) : Bool := l.all (fun c => !c.wf)

theorem test_wf_boot_and_steering :
    refuses [.poundLoad 15, .towpathTraining 2 [0] (desc 0) [], .towpathTraining 1 [5] (desc 1) [], .towpathRetrain 2 [0] (desc 0) [],
      .towpathRetrain 0 [5] (desc 0) [], .uplinkFrame 2 ⟨3, 0, 0, 0, 0, []⟩, .uplinkFrameLost 2 false, .controlDeadline [0, 4640], .blindEntry 4640,
      .blindExit 4640, .freezeWindowEnd 4640, .openLoopEntry 4640, .regionFall 4640, .runExit 4640, .missRunRelief 8, .relieve 9,
      .returnReach 9, .swap 9 1, .swapCommit 9, .gangChange 9 0, .gangChange 8 4, .axisFlagsWrite 9 0 0, .axisFlagsWrite 8 580 0, .clear 9,
      .recal 9, .reachEnWrite 9 true, .temperatureBinChange 2 0] = true := by
  decide

theorem test_wf_lock_and_ports :
    refuses [.slewEnd 4640, .captured 1160, .captureMaxExpiry 1160, .proved 1160, .parkReached 2320, .lightGained 2304, .lightLost 2304,
      .absentTimeout 2304, .identityRefresh 2304, .hello 2304, .ident 2304 ⟨0xB3E7, 1, 0, 2, false, 0, 5, 0, 0, true, 0⟩, .identTimeout 2304, .mirrorFault 2304 true] = true := by
  decide

theorem test_wf_compute :
    refuses [.preemption 4, .bargeFetch 4, .bargeStart 4, .bargeComplete 4 [], .badBarge 4, .memoryRequest 4 0 8 [] false,
      .memoryDataReturn 4 0 [] false, .hostWriteDrain 4, .wait 4, .waitMet 64 0, .syncTimeout 64 0, .fence 4, .towEnd 64 0,
      .columnRetire 4 0, .columnRetire 3 264, .outOfService 4, .translationFault 64 0 0 false 0 [], .towStop 64 0,
      .queueFault 4096 0 false [], .go 64 false false 0, .aucFeed 4, .auctionPhaseEnd 5, .solveLimitExpiry 5, .certificateCheck 5 false,
      .auctionResult 5, .auctionUnitRetire 5 false] = true := by
  decide

theorem test_wf_time_and_light :
    refuses [.syncSample 2 ⟨0, 0, 0, 0⟩, .timeJump 2, .firstStep 2, .announceTimeout 2 false, .slewDone 2, .ptpMessage 2 .sync 0 0 false,
      .ptpTransmit 2 0 .sync, .ptpTransmit 0 2 .sync, .tbNowRead 4, .tetherLaneFailover 5 false, .cartridgeInserted 3 (List.replicate 64 0), .cartridgeInserted 0 [],
      .cartridgeRemoved 3, .warmingProof 3 [] [], .warmingTimeout 3, .fadeMeasurement 3 [], .hourlyFit 3, .tetherLaneMove 5,
      .serviceBusMove 2, .insertionWithoutSpare 3, .hoursUpdate 3 true, .storeWriteRetry 3 true, .ringRetraining 176 none,
      .ringLockLoop 176 0, .beaconTrim 2 0, .beaconLoss 2, .dacRecalibration 16, .tetherBlockLock 5 false, .receiveRingLock 176 0,
      .connectorUnmated 4, .connectorMated 4, .ethernetLinkChange 2 true true] = true := by
  decide

theorem test_wf_power_and_link :
    refuses [.cartTrip 3, .phaseIsolation 26, .thermalHalt 4, .unlock 16 true, .coreReportMissed 8, .rowSparing 1024 0 0 false,
      .rowSparing 0 8192 0 false, .rowSparing 0 0 (2 ^ 31) false, .channelMigration 2 0 0 0 false, .channelMigration 0 16 0 0 false,
      .channelMigration 0 0 (2 ^ 34) 0 false, .towpathLaneFailover 2 0, .towpathLaneFailover 0 5, .load 16, .cntClear 512,
      .cntBindWrite 8 0 true, .cntBindWrite 0 64 true, .doorbell 4096 0, .h2dFetch 4096 [] [], .h2dFetch 0 [[0]] [], .d2hWrite 4096,
      .linkParityFail 4096, .queueScrub 4096] = true := by
  decide

/-! ## Frames and the test port (R199, R200, R370) -/

theorem test_return_frame : (returnBytes (ret 2 5 0)).length = 68 ∧ (returnBytes (ret 2 5 0)).take 8 = [0x7A, 0x7E, 1, 1, 2, 0, 0x20, 0x4E] := by
  decide +kernel

theorem test_idcode : idcode 1 = 0x111520C1 := by
  decide

end Sys2Proof.Tests
end

section
/-!
PROOFS. Bank records and their swaps (R36–R39, R54, R56): what a write in a record's word does, what a commit of the pending swaps
does in each block of the gang, and the two statements of the family.
-/

namespace Sys2Proof.Machine

/-! ## Shared steps -/

/-- A fold over distinct items takes P to Q where the step of item a does, and every other step keeps both. -/
theorem foldl_reaches {α β : Type} (f : β → α → β) (P Q : β → Prop) (a : α)
    (keepP : ∀ b x, x ≠ a → P b → P (f b x)) (turn : ∀ b, P b → Q (f b a)) (keepQ : ∀ b x, x ≠ a → Q b → Q (f b x))
    (l : List α) (hl : l.Nodup) (ha : a ∈ l) (b : β) (hb : P b) : Q (l.foldl f b) := by
  induction l generalizing b with
  | nil => simp at ha
  | cons x l ih =>
    obtain ⟨hx, hl⟩ := List.nodup_cons.mp hl
    by_cases e : x = a
    · subst e
      exact List.foldlRecOn l f (turn b hb) fun b' hb' y hy => keepQ b' y (fun h => hx (h ▸ hy)) hb'
    · exact ih hl ((List.mem_cons.mp ha).resolve_left (Ne.symm e)) _ (keepP b x e hb)

/-- Removing the entries of the keys that p refuses makes these read as the default. -/
theorem spGet_filter_keys {α : Type} (d : α) (p : Nat → Bool) (m : Sparse α) (j : Nat) :
    spGet d (m.filter (fun e => p e.1)) j = if p j then spGet d m j else d := by
  induction m with
  | nil => simp [spGet]
  | cons e m ih =>
    obtain ⟨k, v⟩ := e
    by_cases hk : p k = true
    · by_cases h : k = j <;> simp_all [spGet]
    · by_cases h : k = j <;> simp_all [spGet]

theorem State.regsWf_of_allWf {s : State} (h : s.allWf = true) : wordsWf 0 s.regs = true := by
  simp only [State.allWf, State.storesWf, Bool.and_eq_true] at h
  obtain ⟨⟨⟨⟨hregs, -⟩, -⟩, -⟩, -⟩ := h
  exact hregs

/-! ## Reading a bank (R36, R57) -/

theorem State.activeBank_lt (s : State) (r c : Nat) : s.activeBank r c < 2 := Nat.mod_lt _ (by decide)

/-- A class's active bank as a bit of ACTIVE. -/
theorem State.activeBank_eq_testBit (s : State) (r c : Nat) :
    s.activeBank r c = ((s.fget (F.LAW_BANK_SEL.ACTIVE r)).testBit c).toNat := (Nat.toNat_testBit _ _).symm

/-- Which bank is active depends on LAW_BANK_SEL alone. -/
theorem State.activeBank_congr {s t : State} {r : Nat} (h : t.word (reachReg r 8) = s.word (reachReg r 8)) (c : Nat) :
    t.activeBank r c = s.activeBank r c := by
  have e : (F.LAW_BANK_SEL.ACTIVE r).off = reachReg r 8 := by simp only [F.LAW_BANK_SEL.ACTIVE, reachReg]; omega
  simp only [State.activeBank, State.fget, e, h]

/-- A record depends on the words of its 64 bytes alone. -/
theorem State.bank_congr {s t : State} {r c b : Nat} (h : ∀ w, w < 0x40 → t.word (bankOff r c b + w) = s.word (bankOff r c b + w)) :
    t.bank r c b = s.bank r c b := by
  have hh : ∀ o, o < 0x40 → t.recHalf (bankOff r c b) o = s.recHalf (bankOff r c b) o := fun o ho => by
    simp only [State.recHalf, h (o / 4 * 4) (by omega)]
  simp (disch := omega) only [State.bank, Bank.ofFields, hh]

/-! ## A write of a record's word (R37, R38, R54, R205) -/

/-- Offset in a reach's block of byte o of a record. -/
def bankWord (c b o : Nat) : Nat := 0x1000 + c * 0x80 + b * 0x40 + o

theorem reachReg_bankWord (r c b o : Nat) : reachReg r (bankWord c b o) = bankOff r c b + o := by
  simp only [reachReg, bankWord, bankOff]; omega

theorem bankAt_bankWord {c b o : Nat} (hc : c < 16) (hb : b < 2) (ho : o < 0x40) : bankAt (bankWord c b o) = some (c, b) := by
  have h1 : (0x1000 + c * 0x80 + b * 0x40 + o - 0x1000) / 0x80 = c := by omega
  have h2 : (0x1000 + c * 0x80 + b * 0x40 + o - 0x1000) / 0x40 % 2 = b := by omega
  have h3 : 0x1000 ≤ 0x1000 + c * 0x80 + b * 0x40 + o ∧ 0x1000 + c * 0x80 + b * 0x40 + o < 0x1800 := by omega
  rw [bankAt, bankWord, if_pos h3, h1, h2]

theorem State.bankShut_bankWord (s : State) (r : Nat) {c b o : Nat} (hc : c < 16) (hb : b < 2) (ho : o < 0x40) :
    s.bankShut r (bankWord c b o) = true ↔ s.activeBank r c = b ∨ s.fget (F.LAW_BANK_SEL.SWAP r) / 2 ^ c % 2 = 1 := by
  simp [State.bankShut, bankAt_bankWord hc hb ho]

theorem State.mirrorWrite_active {s : State} (h : s.active = true) (changes : Bool) (k : State → State) :
    s.mirrorWrite changes k = k s := by simp [State.mirrorWrite, h]

/-- On an ACTIVE module a setting's write leaves the written word, whether or not it is journalled. -/
theorem State.settingWrite_regs {s : State} (h : s.active = true) (off : Nat) (v : Word) :
    (s.settingWrite off v).regs = (s.setWord off (s.written off v)).regs := by
  rw [State.settingWrite, State.mirrorWrite_active h]
  dsimp only
  split
  · rfl
  · simp [State.plainWrite]

/-- A setting's write touches nothing but registers, the journal and what leaves the module. -/
theorem State.settingWrite_keeps {γ : Type} (P : State → γ) (hw : ∀ u o w, P (State.setWord u o w) = P u)
    (hj : ∀ u it, P (State.sendJournal u it) = P u) (s : State) (off : Nat) (v : Word) : P (s.settingWrite off v) = P s := by
  unfold State.settingWrite State.mirrorWrite State.plainWrite State.fset
  dsimp only
  split
  · split
    · exact hw _ _ _
    · rw [hj, hw]
  · split
    · exact hw _ _ _
    · rfl

/-- A write of a shut record's word sets BANK_ERR and does nothing else (R37, R38). -/
theorem State.recordWrite_shut {s : State} {r o : Nat} (ha : s.active = true) (h : s.bankShut r o = true) (v : Word) :
    s.recordWrite r o v = s.fset (F.REACH_STATUS.BANK_ERR r) 1 := by
  rw [State.recordWrite, if_pos h, State.mirrorWrite_active ha]

/-- A write of an open record's word leaves the written word. -/
theorem State.recordWrite_open_regs {s : State} {r o : Nat} (ha : s.active = true) (h : s.bankShut r o = false) (v : Word) :
    (s.recordWrite r o v).regs = (s.setWord (reachReg r o) (s.written (reachReg r o) v)).regs := by
  rw [State.recordWrite, h]
  exact State.settingWrite_regs ha _ v

/-- A record's write touches nothing but registers, the journal and what leaves the module. -/
theorem State.recordWrite_keeps {γ : Type} (P : State → γ) (hw : ∀ u o w, P (State.setWord u o w) = P u)
    (hj : ∀ u it, P (State.sendJournal u it) = P u) (s : State) (r o : Nat) (v : Word) : P (s.recordWrite r o v) = P s := by
  unfold State.recordWrite
  split
  · unfold State.mirrorWrite State.fset
    split
    · exact hw _ _ _
    · rfl
  · exact State.settingWrite_keeps P hw hj s _ v

@[simp] theorem State.recordWrite_steer (s : State) (r o : Nat) (v : Word) : (s.recordWrite r o v).steer = s.steer :=
  State.recordWrite_keeps State.steer (fun _ _ _ => rfl) (by simp) s r o v
@[simp] theorem State.recordWrite_mem (s : State) (r o : Nat) (v : Word) : (s.recordWrite r o v).mem = s.mem :=
  State.recordWrite_keeps State.mem (fun _ _ _ => rfl) (by simp) s r o v
@[simp] theorem State.recordWrite_lock (s : State) (r o : Nat) (v : Word) : (s.recordWrite r o v).lock = s.lock :=
  State.recordWrite_keeps State.lock (fun _ _ _ => rfl) (by simp) s r o v

/-- Only the written word and REACH_STATUS of the reach can change. -/
theorem State.word_recordWrite_ne {s : State} {r o x : Nat} (ha : s.active = true) (v : Word) (h4 : x ≠ reachReg r 4)
    (ho : s.bankShut r o = false → x ≠ reachReg r o) : (s.recordWrite r o v).word x = s.word x := by
  cases h : s.bankShut r o with
  | true =>
    rw [State.recordWrite_shut ha h]
    exact State.word_setWord_ne s _ _ _ fun e => h4 (by simp only [e, F.REACH_STATUS.BANK_ERR, reachReg]; omega)
  | false =>
    rw [State.word, State.recordWrite_open_regs ha h]
    exact State.word_setWord_ne s _ _ _ (ho h)

theorem State.recordWrite_active {s : State} (ha : s.active = true) (r o : Nat) (v : Word) : (s.recordWrite r o v).active = true := by
  have hw : (s.recordWrite r o v).word F.PAIR_STATUS.STATE.off = s.word F.PAIR_STATUS.STATE.off :=
    State.word_recordWrite_ne ha v (by simp only [F.PAIR_STATUS.STATE, reachReg]; omega)
      fun _ => by simp only [F.PAIR_STATUS.STATE, reachReg]; omega
  rwa [State.active, State.fget, hw]

/-- A record's write leaves every LAW_BANK_SEL alone. -/
theorem State.recordWrite_activeBank {s : State} (ha : s.active = true) (r : Nat) {c b o : Nat} (hc : c < 16) (hb : b < 2) (ho : o < 0x40)
    (v : Word) (k d : Nat) : (s.recordWrite r (bankWord c b o) v).activeBank k d = s.activeBank k d :=
  State.activeBank_congr (State.word_recordWrite_ne ha v (by simp only [reachReg]; omega)
    fun _ => by simp only [reachReg, bankWord]; omega) d

/-- A record's write leaves every record in force alone: the word of an active record is shut (R37). -/
theorem State.recordWrite_lawBank {s : State} (ha : s.active = true) (r : Nat) {c b o : Nat} (hc : c < 16) (hb : b < 2) (ho : o < 0x40)
    (v : Word) (k : Nat) {d : Nat} (hd : d < 16) : (s.recordWrite r (bankWord c b o) v).lawBank k d = s.lawBank k d := by
  rw [State.lawBank, State.recordWrite_activeBank ha r hc hb ho]
  refine State.bank_congr fun w hw => State.word_recordWrite_ne ha v ?_ fun hopen e => ?_
  · have := s.activeBank_lt k d
    simp only [bankOff, reachReg]; omega
  · have hact : s.activeBank r c ≠ b := fun h => by
      simp [(s.bankShut_bankWord r hc hb ho).mpr (Or.inl h)] at hopen
    have := s.activeBank_lt k d
    obtain ⟨rfl, rfl, hb'⟩ : k = r ∧ d = c ∧ s.activeBank k d = b := by
      simp only [bankOff, reachReg, bankWord] at e; omega
    exact hact hb'

/-- A write in the block of reach 0–7, made in reach 8 as well while that reach serves it (R54). -/
theorem State.recordWrites_eq (s : State) {r : Nat} (hr : r < 8) (o : Nat) (v : Word) :
    s.recordWrites r o v = if s.relieving = r then (s.recordWrite r o v).recordWrite 8 o v else s.recordWrite r o v := by
  have h8 : ¬ (r = 8 ∧ s.relieving ≠ 0xF) := by omega
  have hrel : (s.recordWrite r o v).relieving = s.relieving := by simp [State.relieving]
  simp only [State.recordWrites, h8, if_false, State.mirrorsTo8, hr, hrel, decide_true, Bool.true_and, decide_eq_true_eq]

/-- What a record's write on an ACTIVE module keeps in either block, the write in both keeps. -/
theorem State.recordWrites_keeps {γ : Type} (P : State → γ) {s : State} (ha : s.active = true) {r : Nat} (hr : r < 8) (o : Nat) (v : Word)
    (hP : ∀ u k, State.active u = true → P (u.recordWrite k o v) = P u) : P (s.recordWrites r o v) = P s := by
  rw [State.recordWrites_eq s hr]
  split
  · rw [hP _ _ (State.recordWrite_active ha r o v), hP _ _ ha]
  · exact hP _ _ ha

/-- Below reach 8's block only the write in the reach's own block counts. -/
theorem State.word_recordWrites {s : State} (ha : s.active = true) {r x : Nat} (hr : r < 8) (hx : x < 0x480000) (o : Nat) (v : Word) :
    (s.recordWrites r o v).word x = (s.recordWrite r o v).word x := by
  rw [State.recordWrites_eq s hr]
  split
  · exact State.word_recordWrite_ne (State.recordWrite_active ha r o v) v (by simp only [reachReg]; omega)
      fun _ => by simp only [reachReg]; omega
  · rfl

/-- A register write at a record's word that reaches its register is the record's write. -/
theorem exec_registerWrite_bank {s : State} {r c b o : Nat} (v : Word) (hr : r < 8) (hc : c < 16) (hb : b < 2) (ho : o < 0x40)
    (hreach : s.reaches (bankOff r c b + o) = true) (hload : s.reloading (bankOff r c b + o) = none) :
    exec (.registerWrite (bankOff r c b + o) v) s = .next (s.recordWrites r (bankWord c b o) v) := by
  have hblk : (bankOff r c b + o) / 0x100000 = 4 := by simp only [bankOff]; omega
  have hin : (bankOff r c b + o) % 0x100000 = r * 0x10000 + bankWord c b o := by simp only [bankOff, bankWord]; omega
  have hword : bankWord c b o < 0x1800 ∧ 0x1000 ≤ bankWord c b o := by simp only [bankWord]; omega
  have hsteer : r * 0x10000 + bankWord c b o < 0x90000 := by omega
  have hdiv : (r * 0x10000 + bankWord c b o) / 0x10000 = r := by omega
  have hmod : (r * 0x10000 + bankWord c b o) % 0x10000 = bankWord c b o := by omega
  have hrec : 0x1000 ≤ bankWord c b o ∧ bankWord c b o < 0x1C00 := by omega
  have hblock : s.writeBlock (bankOff r c b + o) v = s.recordWrites r (bankWord c b o) v := by
    simp only [State.writeBlock, hblk, hin, hsteer, if_true, hdiv, hmod, State.writeReach, hrec, and_self]
  have hhost : s.hostWrite (bankOff r c b + o) (fun s => s.writeBlock (bankOff r c b + o) v)
      = s.recordWrites r (bankWord c b o) v := by
    simp only [State.hostWrite, hreach, hload, if_true, hblock]
  exact congrArg Host.Outcome.next hhost

/-- Neither which bank is active nor any record in force changes by a record's write (R37). -/
theorem State.recordWrites_laws {s : State} (ha : s.active = true) {r c b o : Nat} (hr : r < 8) (hc : c < 16) (hb : b < 2) (ho : o < 0x40)
    (v : Word) (k : Nat) {d : Nat} (hd : d < 16) :
    (s.recordWrites r (bankWord c b o) v).activeBank k d = s.activeBank k d ∧
      (s.recordWrites r (bankWord c b o) v).lawBank k d = s.lawBank k d :=
  ⟨State.recordWrites_keeps (fun u => u.activeBank k d) ha hr _ v fun _ j h => State.recordWrite_activeBank h j hc hb ho v k d,
   State.recordWrites_keeps (fun u => u.lawBank k d) ha hr _ v fun _ j h => State.recordWrite_lawBank h j hc hb ho v k hd⟩

/-- A record's write leaves steering, memory and lock cycles alone. -/
theorem State.recordWrites_frame {s : State} (ha : s.active = true) {r : Nat} (hr : r < 8) (o : Nat) (v : Word) :
    (s.recordWrites r o v).steer = s.steer ∧ (s.recordWrites r o v).mem = s.mem ∧ (s.recordWrites r o v).lock = s.lock :=
  ⟨State.recordWrites_keeps State.steer ha hr o v fun u k _ => u.recordWrite_steer k o v,
   State.recordWrites_keeps State.mem ha hr o v fun u k _ => u.recordWrite_mem k o v,
   State.recordWrites_keeps State.lock ha hr o v fun u k _ => u.recordWrite_lock k o v⟩

/-- A write of a shut record's word sets BANK_ERR of its reach, and changes no other word below reach 8's block. -/
theorem State.recordWrites_shut {s : State} (w : wordsWf 0 s.regs = true) (ha : s.active = true) {r o : Nat} (hr : r < 8)
    (hshut : s.bankShut r o = true) (v : Word) :
    (s.recordWrites r o v).fget (F.REACH_STATUS.BANK_ERR r) = 1 ∧
      ∀ x, x < 0x480000 → x ≠ 0x400004 + r * 0x10000 → (s.recordWrites r o v).word x = s.word x := by
  constructor
  · have hoff : (F.REACH_STATUS.BANK_ERR r).off < 0x480000 := by simp only [F.REACH_STATUS.BANK_ERR]; omega
    rw [State.fget, State.word_recordWrites ha hr hoff, State.recordWrite_shut ha hshut]
    exact State.fget_fset_self s _ 1 (by simp [F.REACH_STATUS.BANK_ERR]) w
  · intro x hx hne
    rw [State.word_recordWrites ha hr hx, State.recordWrite_shut ha hshut]
    exact State.word_setWord_ne s _ _ _ hne

/-- A write of an open record's word lands in the record. -/
theorem State.recordWrites_open {s : State} (w : wordsWf 0 s.regs = true) (ha : s.active = true) {r o : Nat} (hr : r < 8) (ho : o < 0x10000)
    (hopen : s.bankShut r o = false) (v : Word) : (s.recordWrites r o v).word (reachReg r o) = s.written (reachReg r o) v := by
  rw [State.word_recordWrites ha hr (by simp only [reachReg]; omega), State.word, State.recordWrite_open_regs ha hopen]
  exact State.word_setWord_self s _ _ w

/-! ## The commit of pending swaps (R36, R38, R39, R54, R56) -/

/-- The reach whose axes run block k: reach 8's block serves the reach it relieves (R54). -/
def State.servedBy (s : State) (k : Nat) : Nat := if k = 8 ∧ s.relieving < 8 then s.relieving else k

/-- The stores a swap writes are in canonical form. -/
def State.swapWf (s : State) : Prop := wordsWf 0 s.regs = true ∧ spWf 0 0 s.steer.classK = true

theorem State.swapWf_of_allWf {s : State} (h : s.allWf = true) : s.swapWf := by
  refine ⟨State.regsWf_of_allWf h, ?_⟩
  simp only [State.allWf, State.controlWf, Bool.and_eq_true] at h
  obtain ⟨⟨-, hcontrol⟩, -⟩ := h
  tauto

/-- Swaps of the classes d of blocks j with T j d take s to t: beside the repetitive memories of the reaches served and class indices
restarted at 0, only REACH_STATUS and LAW_BANK_SEL of these blocks change, and in ACTIVE only the bits of these classes. -/
structure SwapFrame (T : Nat → Nat → Prop) (s t : State) : Prop where
  form : t.swapWf
  steer : t.steer = { s.steer with rep := t.steer.rep, classK := t.steer.classK }
  words : ∀ x, (∀ j d, T j d → x ≠ reachReg j 4 ∧ x ≠ reachReg j 8) → t.word x = s.word x
  active : ∀ j d, d < 16 → ¬ T j d → t.activeBank j d = s.activeBank j d
  memory : ∀ i, (∀ j d, T j d → s.reachOf (i / 2048) ≠ s.servedBy j) → spGet 0 t.steer.rep i = spGet 0 s.steer.rep i
  cleared : ∀ i, spGet 0 s.steer.rep i = 0 → spGet 0 t.steer.rep i = 0
  restarted : ∀ i, spGet 0 s.steer.classK i = 0 → spGet 0 t.steer.classK i = 0

namespace SwapFrame

variable {T U : Nat → Nat → Prop} {s t u : State}

theorem refl (w : s.swapWf) : SwapFrame T s s :=
  ⟨w, rfl, fun _ _ => rfl, fun _ _ _ _ => rfl, fun _ _ => rfl, fun _ h => h, fun _ h => h⟩

theorem mono (h : SwapFrame T s t) (hTU : ∀ j d, T j d → U j d) : SwapFrame U s t :=
  ⟨h.form, h.steer, fun x hx => h.words x fun j d hT => hx j d (hTU j d hT),
    fun j d hd hU => h.active j d hd fun hT => hU (hTU j d hT),
    fun i hi => h.memory i fun j d hT => hi j d (hTU j d hT), h.cleared, h.restarted⟩

theorem axes (h : SwapFrame T s t) : t.steer.axes = s.steer.axes := by rw [h.steer]

theorem axis (h : SwapFrame T s t) (a : Nat) : t.axis a = s.axis a := by simp only [State.axis, h.axes]

theorem reachOf (h : SwapFrame T s t) (a : Nat) : t.reachOf a = s.reachOf a := by
  have e : t.steer.axisMap = s.steer.axisMap := by rw [h.steer]
  simp only [State.reachOf, State.placeOf, e]

theorem servedBy (h : SwapFrame T s t) (k : Nat) : t.servedBy k = s.servedBy k := by
  have e : t.relieving = s.relieving := by rw [State.relieving, State.relieving, h.steer]
  rw [State.servedBy, State.servedBy, e]

theorem trans (h : SwapFrame T s t) (h' : SwapFrame T t u) : SwapFrame T s u where
  form := h'.form
  steer := by rw [h'.steer, h.steer]
  words x hx := (h'.words x hx).trans (h.words x hx)
  active j d hd hT := (h'.active j d hd hT).trans (h.active j d hd hT)
  memory i hi := (h'.memory i fun j d hT => by rw [h.reachOf, h.servedBy]; exact hi j d hT).trans (h.memory i hi)
  cleared i hi := h'.cleared i (h.cleared i hi)
  restarted i hi := h'.restarted i (h.restarted i hi)

/-- Swaps change no record. -/
theorem bank (h : SwapFrame T s t) (k : Nat) {c b : Nat} (hc : c < 16) (hb : b < 2) : t.bank k c b = s.bank k c b :=
  State.bank_congr fun w hw => h.words _ fun j d _ => by simp only [bankOff, reachReg]; omega

/-- Swaps of other blocks leave a block's pending swaps. -/
theorem pending (h : SwapFrame T s t) {k : Nat} (hk : ∀ d, ¬ T k d) :
    t.fget (F.LAW_BANK_SEL.SWAP k) = s.fget (F.LAW_BANK_SEL.SWAP k) := by
  have e : t.word (0x400008 + k * 0x10000) = s.word (0x400008 + k * 0x10000) := h.words _ fun j d hT => by
    have hj : j ≠ k := fun e => hk d (e ▸ hT)
    simp only [reachReg]; omega
  simp only [State.fget, F.LAW_BANK_SEL.SWAP, e]

end SwapFrame

/-- A write of a field of LAW_BANK_SEL or REACH_STATUS that moves no other class's bank is within the frame. -/
theorem SwapFrame.of_fset {T : Nat → Nat → Prop} {s : State} (w : s.swapWf) {k : Nat} (hT : ∃ d, T k d) (f : Fld) (v : Nat)
    (hoff : f.off = 0x400004 + k * 0x10000 ∨ f.off = 0x400008 + k * 0x10000)
    (hact : ∀ d, d < 16 → ¬ T k d → (s.fset f v).activeBank k d = s.activeBank k d) : SwapFrame T s (s.fset f v) where
  form := ⟨s.fset_wf f v w.1, w.2⟩
  steer := rfl
  words x hx := State.word_setWord_ne s _ _ _ fun e => by
    obtain ⟨d, hd⟩ := hT
    have := hx k d hd
    simp only [reachReg] at this
    omega
  active j d hd hjd := by
    by_cases e : j = k
    · subst e; exact hact d hd hjd
    · exact State.activeBank_congr (State.word_setWord_ne s _ _ _ (by simp only [reachReg]; omega)) d
  memory _ _ := rfl
  cleared _ h := h
  restarted _ h := h

/-- A write of a field apart from ACTIVE moves no bank. -/
theorem State.activeBank_fset_apart {s : State} (w : wordsWf 0 s.regs = true) (f : Fld) (v k d : Nat) (hf : f.lo + f.width ≤ 32)
    (ha : Fld.apart f (F.LAW_BANK_SEL.ACTIVE k)) : (s.fset f v).activeBank k d = s.activeBank k d := by
  simp only [State.activeBank, State.fget_fset_apart s f _ v hf w ha]

theorem SwapFrame.of_bankErr {T : Nat → Nat → Prop} {s : State} (w : s.swapWf) {k : Nat} (hT : ∃ d, T k d) :
    SwapFrame T s (s.fset (F.REACH_STATUS.BANK_ERR k) 1) :=
  SwapFrame.of_fset w hT _ 1 (Or.inl rfl) fun d _ _ => State.activeBank_fset_apart w.1 _ 1 k d
    (by simp [F.REACH_STATUS.BANK_ERR]) (Or.inl (by simp only [F.REACH_STATUS.BANK_ERR, F.LAW_BANK_SEL.ACTIVE]; omega))

theorem SwapFrame.of_swapDone {T : Nat → Nat → Prop} {s : State} (w : s.swapWf) {k : Nat} (hT : ∃ d, T k d) :
    SwapFrame T s (s.fset (F.LAW_BANK_SEL.SWAP k) 0) :=
  SwapFrame.of_fset w hT _ 0 (Or.inr rfl) fun d _ _ => State.activeBank_fset_apart w.1 _ 0 k d
    (by simp [F.LAW_BANK_SEL.SWAP]) (Or.inr (Or.inr (by simp [F.LAW_BANK_SEL.SWAP, F.LAW_BANK_SEL.ACTIVE])))

/-- The block's ACTIVE with the bit of one class turned over. -/
def State.flipBank (s : State) (k c : Nat) : State :=
  s.fset (F.LAW_BANK_SEL.ACTIVE k) (Nat.xor (s.fget (F.LAW_BANK_SEL.ACTIVE k)) (2 ^ c))

theorem State.flipBank_activeBank {s : State} (w : wordsWf 0 s.regs = true) (k c : Nat) {d : Nat} (hd : d < 16) :
    (s.flipBank k c).activeBank k d = if d = c then 1 - s.activeBank k d else s.activeBank k d := by
  have hf : (F.LAW_BANK_SEL.ACTIVE k).lo + (F.LAW_BANK_SEL.ACTIVE k).width ≤ 32 := by simp [F.LAW_BANK_SEL.ACTIVE]
  have hx : (s.flipBank k c).fget (F.LAW_BANK_SEL.ACTIVE k) = (s.fget (F.LAW_BANK_SEL.ACTIVE k) ^^^ 2 ^ c) % 2 ^ 16 :=
    s.fget_fset_self _ _ hf w
  simp only [State.activeBank_eq_testBit, hx, Nat.testBit_mod_two_pow, Nat.testBit_xor, Nat.testBit_two_pow, hd, decide_true, Bool.true_and]
  by_cases e : d = c
  · subst e
    cases (s.fget (F.LAW_BANK_SEL.ACTIVE k)).testBit d <;> simp
  · simp [e, Ne.symm e]

theorem State.flipBank_frame {s : State} (w : s.swapWf) (k c : Nat) : SwapFrame (fun j d => j = k ∧ d = c) s (s.flipBank k c) :=
  SwapFrame.of_fset w ⟨c, rfl, rfl⟩ _ _ (Or.inr rfl) fun d hd hT => by
    have e : d ≠ c := fun e => hT ⟨rfl, e⟩
    exact (State.flipBank_activeBank w.1 k c hd).trans (if_neg e)

/-- The repetitive memories of a class of a reach cleared and its index restarted (R39). -/
def State.restartClass (s : State) (r c : Nat) : State := (s.clearReachRep r (fun x => decide (x.cls = c))).setClassK r c 0

theorem State.restartClass_rep (s : State) (r c i : Nat) : spGet 0 (s.restartClass r c).steer.rep i =
    if s.reachOf (i / 2048) = r ∧ (s.axis (i / 2048)).cls = c then 0 else spGet 0 s.steer.rep i := by
  refine (spGet_filter_keys 0 (fun j => !(decide (s.reachOf (j / 2048) = r) && decide ((s.axis (j / 2048)).cls = c))) _ i).trans ?_
  by_cases h : s.reachOf (i / 2048) = r ∧ (s.axis (i / 2048)).cls = c
  · rw [if_pos h, if_neg (by simp [h])]
  · rw [if_neg h, if_pos (by simpa [imp_iff_not_or] using h)]

theorem State.restartClass_classK {s : State} (w : s.swapWf) (r c : Nat) : (s.restartClass r c).classK r c = 0 :=
  spGet_spSet_self 0 s.steer.classK _ 0 0 w.2

theorem State.restartClass_frame {T : Nat → Nat → Prop} {s : State} (w : s.swapWf) {k : Nat} (c : Nat) (hT : ∃ d, T k d) :
    SwapFrame T s (s.restartClass (s.servedBy k) c) where
  form := ⟨w.1, spSet_wf 0 s.steer.classK _ 0 0 (Nat.zero_le _) w.2⟩
  steer := rfl
  words _ _ := rfl
  active _ _ _ _ := rfl
  memory i hi := by
    obtain ⟨d, hd⟩ := hT
    rw [State.restartClass_rep, if_neg fun h => hi k d hd h.1]
  cleared i hi := by rw [State.restartClass_rep, hi, ite_self]
  restarted i hi := by
    by_cases e : i = 16 * s.servedBy k + c
    · exact e ▸ State.restartClass_classK w _ c
    · exact (spGet_spSet_ne 0 s.steer.classK _ i 0 e).trans hi

/-- What the swap of one class in one block does, by the record it turns to (R36, R39). -/
theorem swapClass_eq (k c : Nat) (s : State) : swapClass k c s =
    if (s.bank k c (1 - s.activeBank k c)).valid = true then
      if (s.bank k c (1 - s.activeBank k c)).n = (s.lawBank k c).n then s.flipBank k c
      else (s.flipBank k c).restartClass (s.servedBy k) c
    else s.fset (F.REACH_STATUS.BANK_ERR k) 1 := rfl

theorem swapClass_frame {s : State} (w : s.swapWf) (k c : Nat) : SwapFrame (fun j d => j = k ∧ d = c) s (swapClass k c s) := by
  have hflip := s.flipBank_frame w k c
  rw [swapClass_eq]
  split
  · split
    · exact hflip
    · rw [← hflip.servedBy]
      exact hflip.trans (State.restartClass_frame hflip.form c ⟨c, rfl, rfl⟩)
  · exact SwapFrame.of_bankErr w ⟨c, rfl, rfl⟩

/-- Class c of block k has swapped between s and t: the other bank is active, and where that bank has another REP_PERIOD the class
restarted (R39). -/
structure Swapped (k c : Nat) (s t : State) : Prop where
  active : t.activeBank k c = 1 - s.activeBank k c
  index : (s.bank k c (1 - s.activeBank k c)).n ≠ (s.lawBank k c).n → t.classK (s.servedBy k) c = 0
  memory : (s.bank k c (1 - s.activeBank k c)).n ≠ (s.lawBank k c).n →
    ∀ i, s.reachOf (i / 2048) = s.servedBy k → (s.axis (i / 2048)).cls = c → spGet 0 t.steer.rep i = 0

/-- Swaps of other classes leave a class swapped. -/
theorem Swapped.before {T : Nat → Nat → Prop} {k c : Nat} {s t u : State} (hc : c < 16) (hT : ¬ T k c) (h : Swapped k c s t)
    (f : SwapFrame T t u) : Swapped k c s u where
  active := (f.active k c hc hT).trans h.active
  index hn := f.restarted _ (h.index hn)
  memory hn i hr hcls := f.cleared i (h.memory hn i hr hcls)

/-- Swaps of other classes leave a class's swap as it would have been. -/
theorem Swapped.after {T : Nat → Nat → Prop} {k c : Nat} {s t u : State} (hc : c < 16) (hT : ¬ T k c) (f : SwapFrame T s t)
    (h : Swapped k c t u) : Swapped k c s u := by
  have hact := f.active k c hc hT
  have hold : t.lawBank k c = s.lawBank k c := by
    rw [State.lawBank, hact]; exact f.bank k hc (s.activeBank_lt k c)
  obtain ⟨active, index, memory⟩ := h
  rw [hact, f.bank k hc (by omega), hold, f.servedBy] at index memory
  rw [hact] at active
  exact ⟨active, index, fun hn i hr hcls => memory hn i ((f.reachOf _).trans hr) (by rw [f.axis]; exact hcls)⟩

theorem swapClass_swapped {s : State} (w : s.swapWf) {k c : Nat} (hc : c < 16)
    (hv : (s.bank k c (1 - s.activeBank k c)).valid = true) : Swapped k c s (swapClass k c s) := by
  have hflip := s.flipBank_frame w k c
  have hact : (s.flipBank k c).activeBank k c = 1 - s.activeBank k c := (State.flipBank_activeBank w.1 k c hc).trans (if_pos rfl)
  rw [swapClass_eq, if_pos hv]
  split
  next hn => exact ⟨hact, fun h => absurd hn h, fun h => absurd hn h⟩
  next =>
    exact ⟨hact, fun _ => State.restartClass_classK hflip.form _ c, fun _ i hr hcls => by
      rw [State.restartClass_rep, if_pos ⟨hr, hcls⟩]⟩

/-- The classes whose swaps pend in a block. -/
def State.swapsPending (s : State) (k : Nat) : List Nat :=
  (List.range 16).filter (fun c => s.fget (F.LAW_BANK_SEL.SWAP k) / 2 ^ c % 2 = 1)

theorem swapBlock_eq (k : Nat) (s : State) : swapBlock k s =
    ((s.swapsPending k).foldl (fun s c => swapClass k c s) s).fset (F.LAW_BANK_SEL.SWAP k) 0 := rfl

theorem swapBlock_frame {s : State} (w : s.swapWf) (k : Nat) : SwapFrame (fun j _ => j = k) s (swapBlock k s) := by
  have hclasses : SwapFrame (fun j _ => j = k) s ((s.swapsPending k).foldl (fun s c => swapClass k c s) s) :=
    List.foldlRecOn _ _ (SwapFrame.refl w) fun _ ht c _ => ht.trans ((swapClass_frame ht.form k c).mono fun _ _ h => h.1)
  exact hclasses.trans (SwapFrame.of_swapDone hclasses.form ⟨0, rfl⟩)

/-- The other classes of block k. -/
def otherClasses (k c : Nat) : Nat → Nat → Prop := fun j d => j = k ∧ d ≠ c

theorem swapBlock_swapped {s : State} (w : s.swapWf) {k c : Nat} (hc : c < 16)
    (hp : s.fget (F.LAW_BANK_SEL.SWAP k) / 2 ^ c % 2 = 1) (hv : (s.bank k c (1 - s.activeBank k c)).valid = true) :
    Swapped k c s (swapBlock k s) := by
  have hself : ¬ otherClasses k c k c := fun h => h.2 rfl
  have hother : ∀ t x, x ≠ c → State.swapWf t → SwapFrame (otherClasses k c) t (swapClass k x t) := fun t x hx wt =>
    (swapClass_frame wt k x).mono fun j d h => ⟨h.1, h.2 ▸ hx⟩
  have hclasses : Swapped k c s ((s.swapsPending k).foldl (fun s c => swapClass k c s) s) ∧
      ((s.swapsPending k).foldl (fun s c => swapClass k c s) s).swapWf := by
    refine foldl_reaches _ (SwapFrame (otherClasses k c) s) (fun t => Swapped k c s t ∧ t.swapWf) c ?_ ?_ ?_ _
      (List.nodup_range.filter _) (by simpa [State.swapsPending] using ⟨hc, hp⟩) s (SwapFrame.refl w)
    · exact fun t x hx ht => ht.trans (hother t x hx ht.form)
    · intro t ht
      have hvt : (t.bank k c (1 - t.activeBank k c)).valid = true := by
        rw [ht.active k c hc hself, ht.bank k hc (by omega)]; exact hv
      exact ⟨(swapClass_swapped ht.form hc hvt).after hc hself ht, (swapClass_frame ht.form k c).form⟩
    · intro t x hx ht
      have hf := hother t x hx ht.2
      exact ⟨ht.1.before hc hself hf, hf.form⟩
  exact hclasses.1.before hc hself (SwapFrame.of_swapDone hclasses.2 ⟨c + 1, rfl, by omega⟩)

/-- The state after every pending swap of a reach and its gang has committed. -/
def State.swapped (s : State) (r : Nat) : State := (s.gangOf r).foldl (fun s k => swapBlock k s) s

theorem exec_swapCommit {r : Nat} (hr : r < 9) (s : State) : exec (.swapCommit r) s = .next (s.swapped r) := by
  have hok : okReach r = true := by simpa [okReach] using hr
  show ifOk (okReach r) (s.swapped r) = _
  rw [hok]; rfl

theorem State.swapped_frame {s : State} (w : s.swapWf) (r : Nat) : SwapFrame (fun j _ => j ∈ s.gangOf r) s (s.swapped r) :=
  List.foldlRecOn _ _ (SwapFrame.refl w) fun _ ht _ hk => ht.trans ((swapBlock_frame ht.form _).mono fun _ _ h => h ▸ hk)

/-- Every class of the other blocks. -/
def otherBlocks (k : Nat) : Nat → Nat → Prop := fun j _ => j ≠ k

/-- A pending swap to a valid record commits in every block of the gang (R38, R56). -/
theorem State.swapped_swaps {s : State} (w : s.swapWf) {r k c : Nat} (hk : k ∈ s.gangOf r) (hc : c < 16)
    (hp : s.fget (F.LAW_BANK_SEL.SWAP k) / 2 ^ c % 2 = 1) (hv : (s.bank k c (1 - s.activeBank k c)).valid = true) :
    Swapped k c s (s.swapped r) := by
  have hself : ∀ d, ¬ otherBlocks k k d := fun _ h => h rfl
  have hother : ∀ t x, x ≠ k → State.swapWf t → SwapFrame (otherBlocks k) t (swapBlock x t) := fun t x hx wt =>
    (swapBlock_frame wt x).mono fun j _ h => h ▸ hx
  refine (foldl_reaches _ (SwapFrame (otherBlocks k) s) (fun t => Swapped k c s t ∧ t.swapWf) k ?_ ?_ ?_ _
    (List.nodup_range.filter _) hk s (SwapFrame.refl w)).1
  · exact fun t x hx ht => ht.trans (hother t x hx ht.form)
  · intro t ht
    have hvt : (t.bank k c (1 - t.activeBank k c)).valid = true := by
      rw [ht.active k c hc (hself c), ht.bank k hc (by omega)]; exact hv
    have hpt : t.fget (F.LAW_BANK_SEL.SWAP k) / 2 ^ c % 2 = 1 := by rw [ht.pending hself]; exact hp
    exact ⟨(swapBlock_swapped ht.form hc hpt hvt).after hc (hself c) ht, (swapBlock_frame ht.form k).form⟩
  · intro t x hx ht
    have hf := hother t x hx ht.2
    exact ⟨ht.1.before hc (hself c) hf, hf.form⟩

/-! ## The gang (R54, R56) -/

theorem State.mem_gangOf (s : State) (r k : Nat) : k ∈ s.gangOf r ↔ k < 9 ∧
    (k = r ∨ (s.gangNo r ≠ 0 ∧ s.gangNo k = s.gangNo r) ∨
      (s.relieving < 8 ∧ ((k = 8 ∧ r = s.relieving) ∨ (r = 8 ∧ k = s.relieving)))) := by
  simp [State.gangOf, or_assoc]

theorem State.self_mem_gangOf (s : State) {r : Nat} (hr : r < 9) : r ∈ s.gangOf r :=
  (s.mem_gangOf r r).mpr ⟨hr, Or.inl rfl⟩

/-- With reach 8 the reach it serves is in the gang. -/
theorem State.servedBy_mem_gangOf {s : State} {r k : Nat} (hr : r < 8) (hk : k ∈ s.gangOf r) : s.servedBy k ∈ s.gangOf r := by
  unfold State.servedBy
  split
  next h =>
    obtain ⟨rfl, hrel⟩ := h
    have hgang : s.gangNo s.relieving = s.gangNo 8 := by simp [State.gangNo, hrel]
    obtain ⟨-, e | ⟨hne, heq⟩ | ⟨-, ⟨-, e⟩ | ⟨e, -⟩⟩⟩ := (s.mem_gangOf r 8).mp hk
    · omega
    · exact (s.mem_gangOf r _).mpr ⟨by omega, Or.inr (Or.inl ⟨hne, hgang.trans heq⟩)⟩
    · exact e ▸ s.self_mem_gangOf (by omega)
    · omega
  next => exact hk

/-! ## The statements -/

/-- Settles O7: a record in force is shut to writes, so a record's write moves no law, and a commit turns ACTIVE's bit over. -/
theorem bankWrites : Obligations.BankWrites := by
  intro s r c b o v hwf ha hr hc hb ho _ off hreach hload
  have w := State.regsWf_of_allWf hwf
  have hexec := exec_registerWrite_bank v hr hc hb ho hreach hload
  have hlaws : ∀ k d, k < 9 → d < 16 → _ := fun k d _ hd => State.recordWrites_laws ha hr hc hb ho v k hd
  have hframe := State.recordWrites_frame ha hr (bankWord c b o) v
  refine ⟨fun hact => ?_, fun hact => ?_, fun hp hv => ?_⟩
  · obtain ⟨herr, hwords⟩ := State.recordWrites_shut w ha hr ((s.bankShut_bankWord r hc hb ho).mpr (Or.inl hact)) v
    exact ⟨_, hexec, herr, hwords, hlaws, hframe⟩
  · refine ⟨_, hexec, fun hp => ?_, hlaws, hframe⟩
    have hopen : s.bankShut r (bankWord c b o) = false := by
      rw [Bool.eq_false_iff, Ne, s.bankShut_bankWord r hc hb ho]; omega
    have hland := State.recordWrites_open w ha hr (by simp only [bankWord]; omega) hopen v
    rwa [reachReg_bankWord] at hland
  · have wS : s.swapWf := State.swapWf_of_allWf hwf
    have hact := (State.swapped_swaps wS (s.self_mem_gangOf (by omega)) hc hp hv).active
    refine ⟨_, exec_swapCommit (by omega) s, hact, ?_⟩
    rw [State.lawBank, hact]
    exact (State.swapped_frame wS r).bank r hc (by omega)

/-- Settles O8: each class's swap clears and restarts it, and the rest of the gang's commit neither undoes this nor reaches an axis
outside the gang. -/
theorem repPeriodSwap : Obligations.RepPeriodSwap := by
  intro s r k c hwf hr hk hc hp hv hn served
  have wS : s.swapWf := State.swapWf_of_allWf hwf
  have hframe := State.swapped_frame wS r
  have hswap := State.swapped_swaps wS hk hc hp hv
  have haxis : ∀ a i : Nat, i < 2048 → (2048 * a + i) / 2048 = a := fun a i hi => by omega
  refine ⟨_, exec_swapCommit (by omega) s, hswap.active, hswap.index hn, fun a i hreach hcls hi => ?_, fun a i hout hi => ?_, hframe.axes⟩
  · exact hswap.memory hn _ (by rwa [haxis a i hi]) (by rwa [haxis a i hi])
  · refine hframe.memory _ fun j _ hj e => hout ?_
    rw [haxis a i hi] at e
    exact e ▸ State.servedBy_mem_gangOf hr hj

end Sys2Proof.Machine
end

section
/-!
PROOFS. Faulty mirrors (R254): what an operation on one port leaves of the ports, the completion of a host command that an open
completion queue takes, and the statement of the family.
-/

namespace Sys2Proof.Machine

/-! ## Changes of one port -/

/-- As far as the ports go, t is s with port p changed by f; the port store is in canonical form. -/
structure PortChange (p : Nat) (f : Port → Port) (s t : State) : Prop where
  form : spWf {} 0 t.fabric.ports = true
  port : ∀ q, t.port q = if q = p then f (s.port p) else s.port q

theorem PortChange.self {p : Nat} {f : Port → Port} {s t : State} (h : PortChange p f s t) : t.port p = f (s.port p) := by
  rw [h.port, if_pos rfl]

theorem PortChange.other {p q : Nat} {f : Port → Port} {s t : State} (h : PortChange p f s t) (hq : q ≠ p) : t.port q = s.port q := by
  rw [h.port, if_neg hq]

theorem PortChange.trans {p : Nat} {f g : Port → Port} {s t u : State} (h : PortChange p f s t) (h' : PortChange p g t u) :
    PortChange p (fun x => g (f x)) s u where
  form := h'.form
  port q := by
    by_cases hq : q = p
    · rw [if_pos hq, hq, h'.self, h.self]
    · rw [if_neg hq, h'.other hq, h.other hq]

/-- What leaves the fabric alone leaves a port's change as it is. -/
theorem PortChange.of_fabric {p : Nat} {f : Port → Port} {s t u : State} (h : PortChange p f s t) (e : u.fabric = t.fabric) :
    PortChange p f s u := by
  obtain ⟨form, port⟩ := h
  exact ⟨by rwa [e], fun q => by rw [State.port, e]; exact port q⟩

theorem State.portsWf_of_allWf {s : State} (h : s.allWf = true) : spWf {} 0 s.fabric.ports = true := by
  simp only [State.allWf, State.controlWf, Bool.and_eq_true] at h
  tauto

theorem State.modPort_change {s : State} (w : spWf {} 0 s.fabric.ports = true) (p : Nat) (f : Port → Port) :
    PortChange p f s (s.modPort p f) where
  form := spSet_wf _ _ p _ 0 (Nat.zero_le p) w
  port q := by
    by_cases hq : q = p
    · subst hq; rw [if_pos rfl]; exact spGet_spSet_self _ _ q _ 0 w
    · rw [if_neg hq]; exact spGet_spSet_ne _ _ p q _ hq

/-- Beside its reports, a change of state changes the state and reason of its port (R245). -/
theorem State.setPort_change {s : State} (w : spWf {} 0 s.fabric.ports = true) (p st reason : Nat) :
    PortChange p (fun x => { x with state := st, reason := reason }) s (s.setPort p st reason) := by
  unfold State.setPort
  dsimp only
  split
  next same =>
    obtain ⟨rfl, rfl⟩ := same
    exact ⟨w, fun q => by split <;> simp_all⟩
  next => exact (State.modPort_change w p _).of_fabric (by simp)

/-- Completing the BERTH_CHECKs that wait for a port changes nothing else of the ports (R289). -/
theorem State.berthDone_change {s : State} (w : spWf {} 0 s.fabric.ports = true) (p : Nat) :
    PortChange p (fun x => { x with waiting := [] }) s (s.berthDone p) :=
  (State.modPort_change w p _).of_fabric (foldl_keeps State.fabric _ _ (fun _ _ => State.complete_fabric ..) _)

/-- All that a mirror's fault does to its port (R254). -/
def Port.mirrorDown (x : Port) : Port :=
  { x with state := 5, reason := 6, mirrorFault := true, checking := false, queued := false, waiting := [] }

theorem State.mirrorFails_change {s : State} (w : spWf {} 0 s.fabric.ports = true) (p : Nat) :
    PortChange p Port.mirrorDown s (s.mirrorFails p) := by
  have hmod := State.modPort_change w p fun x => { x with mirrorFault := true, checking := false, queued := false }
  have hset := hmod.trans (State.setPort_change hmod.form p 5 6)
  exact hset.trans (State.berthDone_change hset.form p)

/-! ## A mirror's fault stands (R254) -/

/-- Port p is FAILED with reason MIRROR and its mirror's fault stands; the port store is in canonical form. -/
structure MirrorDown (p : Nat) (s : State) : Prop where
  form : spWf {} 0 s.fabric.ports = true
  state : (s.port p).state = 5
  reason : (s.port p).reason = 6
  fault : (s.port p).mirrorFault = true

theorem MirrorDown.of_fabric {p : Nat} {s t : State} (h : MirrorDown p s) (e : t.fabric = s.fabric) : MirrorDown p t := by
  have hp : t.port p = s.port p := by rw [State.port, State.port, e]
  obtain ⟨form, state, reason, fault⟩ := h
  exact ⟨by rwa [e], by rwa [hp], by rwa [hp], by rwa [hp]⟩

theorem State.mirrorFails_down {s : State} (w : spWf {} 0 s.fabric.ports = true) (p : Nat) : MirrorDown p (s.mirrorFails p) := by
  have h := State.mirrorFails_change w p
  exact ⟨h.form, by rw [h.self]; rfl, by rw [h.self]; rfl, by rw [h.self]; rfl⟩

/-- A further fault, of this mirror or another, leaves a mirror's fault standing. -/
theorem MirrorDown.mirrorFails {p : Nat} {s : State} (h : MirrorDown p s) (q : Nat) : MirrorDown p (s.mirrorFails q) := by
  by_cases e : p = q
  · exact e ▸ State.mirrorFails_down h.form p
  · have hq := State.mirrorFails_change h.form q
    obtain ⟨-, state, reason, fault⟩ := h
    exact ⟨hq.form, by rwa [hq.other e], by rwa [hq.other e], by rwa [hq.other e]⟩

/-! ## Towpath training (R319) -/

@[simp] theorem State.modHead_fabric (s : State) (h : Nat) (f : Head → Head) : (s.modHead h f).fabric = s.fabric := by
  unfold State.modHead; split <;> rfl

@[simp] theorem State.tellOrder_fabric (s : State) (h : Nat) : (s.tellOrder h).fabric = s.fabric := by simp [State.tellOrder]

@[simp] theorem State.readyCheck_fabric (s : State) : s.readyCheck.fabric = s.fabric := by
  unfold State.readyCheck; dsimp only; split <;> rfl

/-- The faulty mirrors that head h reports: their ports fail, one after the other. -/
def State.reportFaulty (s : State) (h : Nat) (faulty : List Nat) : State :=
  faulty.foldl (fun s m => if m < 1152 then s.mirrorFails (h * 1152 + m) else s) s

/-- The ports after a training with the right port and side are those that the report of faulty mirrors leaves. -/
theorem State.train_fabric (s : State) {h : Nat} (lanes : List Nat) {desc : HeadDesc} (faulty : List Nat) (hport : desc.port = s.role)
    (hside : desc.side = h) : ∃ u : State, u.fabric = s.fabric ∧ (s.train h lanes desc faulty).1.fabric = (u.reportFaulty h faulty).fabric := by
  have hright : ¬ (desc.port ≠ s.role ∨ desc.side ≠ h) := by simp [hport, hside]
  rw [State.train, if_neg hright]
  dsimp only
  split
  · exact ⟨_, (State.fset_fabric ..).trans (State.modHead_fabric ..), rfl⟩
  · exact ⟨_, (State.fset_fabric ..).trans (State.modHead_fabric ..), State.tellOrder_fabric _ h⟩

/-- Every mirror reported is down in the end: its own report puts it down, and no other brings it back. -/
theorem State.reportFaulty_down {s : State} (w : spWf {} 0 s.fabric.ports = true) (h : Nat) {m : Nat} {faulty : List Nat}
    (hm : m ∈ faulty) (hlt : m < 1152) : MirrorDown (h * 1152 + m) (s.reportFaulty h faulty) := by
  obtain ⟨before, after, rfl⟩ := List.append_of_mem hm
  have hbefore : spWf {} 0 (s.reportFaulty h before).fabric.ports = true := by
    refine List.foldlRecOn (motive := fun t : State => spWf {} 0 t.fabric.ports = true) before _ w fun t wt k _ => ?_
    split
    · exact (State.mirrorFails_change wt _).form
    · exact wt
  rw [State.reportFaulty, List.foldl_append, List.foldl_cons, if_pos hlt]
  refine List.foldlRecOn after _ (State.mirrorFails_down hbefore _) fun t ht k _ => ?_
  split
  · exact ht.mirrorFails _
  · exact ht

theorem State.train_down {s : State} (w : spWf {} 0 s.fabric.ports = true) {h m : Nat} (lanes : List Nat) {desc : HeadDesc}
    {faulty : List Nat} (hport : desc.port = s.role) (hside : desc.side = h) (hm : m ∈ faulty) (hlt : m < 1152) :
    MirrorDown (h * 1152 + m) (s.train h lanes desc faulty).1 := by
  obtain ⟨u, hu, htrain⟩ := s.train_fabric lanes faulty hport hside
  exact (State.reportFaulty_down (by rwa [hu]) h hm hlt).of_fabric htrain

theorem exec_towpathRetrain {s : State} {h : Nat} {lanes : List Nat} (hh : h < 2) (hlanes : ∀ l ∈ lanes, l < 5) (hrung : s.rung ≤ 2)
    (hcal : s.fget F.KEEL_STATUS.CAL_DONE = 1) (desc : HeadDesc) (faulty : List Nat) :
    exec (.towpathRetrain h lanes desc faulty) s = .next ((s.train h lanes desc faulty).1.count 1 (8 * h + 4)) := by
  have hwf : Instr.wf (.towpathRetrain h lanes desc faulty) = true := by
    simpa [Instr.wf, okHead, okLane] using ⟨Nat.le_of_lt_succ hh, hlanes⟩
  have hdone : (s.bit F.KEEL_STATUS.CAL_DONE && decide (s.rung ≤ 2)) = true := by simp [State.bit, hcal, hrung]
  show execTowpathRetrain h lanes desc faulty s = _
  rw [execTowpathRetrain, hwf, if_pos hdone]
  rfl

/-- A training at a boot leaves the ports as its steps leave them. -/
theorem exec_towpathTraining {s : State} {h : Nat} {lanes : List Nat} (hh : h < 2) (hlanes : ∀ l ∈ lanes, l < 5) (hrung : s.rung ≤ 2)
    (hheld : s.held = false) (hup : s.boot.coresUp = true) (desc : HeadDesc) (faulty : List Nat) :
    ∃ t, exec (.towpathTraining h lanes desc faulty) s = .next t ∧ t.fabric = (s.train h lanes desc faulty).1.fabric := by
  have hwf : Instr.wf (.towpathTraining h lanes desc faulty) = true := by
    simpa [Instr.wf, okHead, okLane] using ⟨Nat.le_of_lt_succ hh, hlanes⟩
  have hgo : ¬ (s.held || !s.boot.coresUp || decide (3 ≤ s.rung)) = true := by simp [hheld, hup]; omega
  refine ⟨_, show execTowpathTraining h lanes desc faulty s = _ by rw [execTowpathTraining, hwf, if_neg hgo]; rfl, ?_⟩
  dsimp only
  rw [State.readyCheck_fabric]
  split <;> rfl

/-- In telemetry a fault on an ACTIVE module is the same failure of the port. -/
theorem exec_mirrorFault {s : State} {p : Nat} (hp : p < 2304) (hactive : s.active = true) :
    exec (.mirrorFault p true) s = .next (s.mirrorFails p) := by
  have hwf : Instr.wf (.mirrorFault p true) = true := by simpa [Instr.wf, okEntry] using hp
  show execMirrorFault p true s = _
  rw [execMirrorFault, hwf, if_pos rfl, if_pos hactive]
  rfl

/-! ## Completions (R287) -/

/-- t is s after reserved cells and reservations of commands were given back; the queue store is in canonical form. -/
structure Unreserved (s t : State) : Prop where
  form : spWf {} 0 t.link.queues = true
  queue : ∀ q, ∃ n, t.queue q = { s.queue q with reserved := n }
  link : t.link = { s.link with queues := t.link.queues, resv := t.link.resv, endResv := t.link.endResv }

theorem State.queuesWf_of_allWf {s : State} (h : s.allWf = true) : spWf {} 0 s.link.queues = true := by
  simp only [State.allWf, State.serviceWf, Bool.and_eq_true] at h
  tauto

theorem State.queue_modQueue_self {s : State} (w : spWf {} 0 s.link.queues = true) (q : Nat) (f : Queue → Queue) :
    (s.modQueue q f).queue q = f (s.queue q) :=
  spGet_spSet_self _ _ q _ 0 w

theorem State.queue_modQueue_ne (s : State) {q j : Nat} (h : j ≠ q) (f : Queue → Queue) : (s.modQueue q f).queue j = s.queue j :=
  spGet_spSet_ne _ _ q j _ h

theorem Unreserved.giveBack {s t : State} (h : Unreserved s t) (q k : Nat) :
    Unreserved s (t.modQueue q fun d => { d with reserved := d.reserved - k }) where
  form := spSet_wf _ _ q _ 0 (Nat.zero_le q) h.form
  queue j := by
    obtain ⟨n, hn⟩ := h.queue j
    by_cases e : j = q
    · subst e
      exact ⟨n - k, by rw [State.queue_modQueue_self h.form, hn]⟩
    · exact ⟨n, by rw [State.queue_modQueue_ne _ e, hn]⟩
  link := by
    simp only [State.modQueue]
    rw [h.link]

theorem Unreserved.forget {s t : State} (h : Unreserved s t) (resv endResv : List (Src × Nat)) :
    Unreserved s { t with link := { t.link with resv := resv, endResv := endResv } } :=
  ⟨h.form, h.queue, by dsimp only; rw [h.link]⟩

theorem State.unreserve_unreserved {s : State} (w : spWf {} 0 s.link.queues = true) (src : Src) : Unreserved s (s.unreserve src) := by
  have hends : Unreserved s ((s.link.endResv.filter (fun p => p.1 = src)).foldl
      (fun s p => s.modQueue p.2 (fun q => { q with reserved := q.reserved - 1 })) s) :=
    List.foldlRecOn _ _ ⟨w, fun q => ⟨_, rfl⟩, rfl⟩ fun _ ht p _ => ht.giveBack p.2 1
  unfold State.unreserve
  dsimp only
  split
  · exact hends.forget _ _
  · exact (hends.forget _ _).giveBack _ _

/-- States that agree in the registers and outside the records of reports differ by a report, where of the link no more than its
records changed. -/
theorem reports_of_wipe {u t : State} (hwipe : t.wipe = u.wipe) (hregs : t.regs = u.regs)
    (hlink : t.link = { u.link with queues := t.link.queues, msixPend := t.link.msixPend, resv := t.link.resv,
                                    endResv := t.link.endResv, flrDiscard := t.link.flrDiscard }) (l : List Fld) : reports u t l := by
  have hpair : t.pair = u.pair := (congrArg State.pair hwipe :)
  exact ⟨by rw [hpair]; exact State.eq_of_wipe u t hwipe, hlink, by rw [hpair],
    fun g _ => by rw [State.fget, State.fget, State.word, State.word, hregs]⟩

/-- The command's completion queue takes completions, and no F reset has discarded the command's. -/
structure State.Answers (s : State) (src : Src) : Prop where
  en : (s.queue (s.cqOf src)).en = true
  dir : (s.queue (s.cqOf src)).dir = true
  sound : (s.queue (s.cqOf src)).broken = false
  kept : s.link.flrDiscard.contains src = false

section
variable {s : State} {src : Src} (w : spWf {} 0 s.link.queues = true) (ha : s.Answers src)
include w ha

/-- A completion DONE lands in the command's completion queue, after the command's reservations are given back. -/
theorem State.complete_done_eq (op reason detail : Nat) (result cells : List Byte) :
    s.complete op src .done reason detail result cells = ((s.unreserve src).modQueue (s.cqOf src)
      (fun d => d.link (completionItem op src .done reason detail result cells))).count 11 0 := by
  obtain ⟨-, hqueue, hlink⟩ := State.unreserve_unreserved w src
  obtain ⟨n, hn⟩ := hqueue (s.cqOf src)
  have hkept : (s.unreserve src).link.flrDiscard.contains src = false := by rw [hlink]; exact ha.kept
  have hopen : (((s.unreserve src).queue (s.cqOf src)).en && ((s.unreserve src).queue (s.cqOf src)).dir &&
      !((s.unreserve src).queue (s.cqOf src)).broken) = true := by
    rw [hn]; simp [ha.en, ha.dir, ha.sound]
  simp only [State.complete, reduceCtorEq, or_self, if_false, hkept, Bool.false_eq_true, hopen, if_true]

theorem State.complete_done_answered (op reason detail : Nat) (result cells : List Byte) :
    answered s (s.complete op src .done reason detail result cells) op src .done reason detail result cells := by
  have hform := (State.unreserve_unreserved w src).form
  refine ⟨((s.unreserve src).queue (s.cqOf src)).pushes % 65536, ?_⟩
  rw [State.complete_done_eq w ha]
  show ((((s.unreserve src).modQueue (s.cqOf src) _).queue (s.cqOf src)).items).getLast? = _
  rw [State.queue_modQueue_self hform]
  simp [Queue.link, completionItem]

theorem State.complete_done_reports (op reason detail : Nat) (result cells : List Byte) (l : List Fld) :
    reports s (s.complete op src .done reason detail result cells) l := by
  have hback : reports s (s.unreserve src) l :=
    reports_of_wipe (s.unreserve_wipe src) (s.unreserve_regs src) (by rw [(State.unreserve_unreserved w src).link]) l
  rw [State.complete_done_eq w ha]
  exact reports_trans (reports_trans hback (State.modQueue_reports _ _ _ l)) (State.count_reports _ 11 0 1 l)

end

/-! ## BERTH_CHECK under a fault (R254, R288) -/

/-- The machine that has taken a host command from those that wait and counted it. -/
def State.taking (s : State) (src : Src) : State := (s.without src).count 11 7

theorem State.handle_accepted {s : State} {op : Nat} {src : Src} (h : s.accepts op src) (k : State → State) :
    s.handle op src k = k (s.taking src) := by
  obtain ⟨hcores, hwake, hgate, -⟩ := h
  have hgate' : (s.taking src).gate op src = none := hgate
  unfold State.handle
  rw [if_neg (by simp [hcores]), if_neg (by simp [hwake])]
  show (match (s.taking src).gate op src with | some r => _ | none => k (s.taking src)) = _
  rw [hgate']

theorem State.taking_answers {s : State} {op : Nat} {src : Src} (h : s.accepts op src) : (s.taking src).Answers src := by
  obtain ⟨-, -, -, hen, hdir, hsound, hkept⟩ := h
  exact ⟨hen, hdir, hsound, hkept⟩

/-- BERTH_CHECK of a port whose mirror's fault stands completes at once with the port's state and reason. -/
theorem berthCheck_faulty {s : State} {p : Nat} (hp : p < 2304) (hstate : (s.port p).state ≠ 6) (hfault : (s.port p).mirrorFault = true)
    (src : Src) : berthCheck src p s =
      s.complete 0x33 src .done 0 0 (le 1 (s.port p).state ++ le 1 (s.port p).reason) := by
  rw [berthCheck, if_neg (by omega)]
  dsimp only
  rw [if_neg hstate, if_pos hfault]

/-! ## The statement -/

/-- Settles O9: a report of the mirror puts its port down, no later report of the same training brings it back, and a BERTH_CHECK
finds the fault before it would queue a check. -/
theorem mirrorFaults : Obligations.MirrorFaults := by
  intro s hwf hactive
  have wP : spWf {} 0 s.fabric.ports = true := State.portsWf_of_allWf hwf
  refine ⟨fun h m lanes faulty desc hh _ hlanes hport hside hrung hm hlt => ?_, fun p hp => ?_,
    fun p src hp hacc hstate hreason hfault => ?_⟩
  · have hdown := State.train_down wP lanes hport hside hm hlt
    refine ⟨fun hcal => ?_, fun hheld hup => ?_⟩
    · obtain ⟨-, hst, hre, hfa⟩ := hdown.of_fabric (State.count_fabric _ 1 (8 * h + 4) 1)
      exact ⟨_, exec_towpathRetrain hh hlanes hrung hcal desc faulty, hst, hre, hfa⟩
    · obtain ⟨t, hexec, ht⟩ := exec_towpathTraining hh hlanes hrung hheld hup desc faulty
      obtain ⟨-, hst, hre, hfa⟩ := hdown.of_fabric ht
      exact ⟨t, hexec, hst, hre, hfa⟩
  · obtain ⟨-, hst, hre, hfa⟩ := State.mirrorFails_down wP p
    exact ⟨_, exec_mirrorFault hp hactive, hst, hre, hfa⟩
  · have wQ : spWf {} 0 (s.taking src).link.queues = true := State.queuesWf_of_allWf (s := s) hwf
    have hans := State.taking_answers hacc
    have hdone : exec (.berthCheck src p) s = .next ((s.taking src).complete 0x33 src .done 0 0 (le 1 5 ++ le 1 6)) := by
      show Host.Outcome.next (s.handle 0x33 src (berthCheck src p)) = _
      have hst : ((s.taking src).port p).state = 5 := hstate
      have hre : ((s.taking src).port p).reason = 6 := hreason
      rw [State.handle_accepted hacc, berthCheck_faulty (s := s.taking src) hp (by rw [hst]; decide) hfault, hst, hre]
    refine ⟨_, hdone, ?_, State.complete_done_answered wQ hans .., ?_⟩
    · rw [State.port, State.complete_fabric]; rfl
    · exact reports_trans (State.count_reports _ 11 7 1 []) (State.complete_done_reports wQ hans ..)

end Sys2Proof.Machine
end

section
/-!
PROOFS. The queue of waiting commands: no operation of the machine writes it, for each operation one lemma, and what follows for a
command's answer. An operation that runs a fold or takes a continuation keeps the queue where the fold's step or the continuation does.
-/

namespace Sys2Proof.Machine

/-! ## What the operations keep -/

@[simp] theorem foldl_pending {α : Type} (f : State → α → State) (l : List α) (s : State) (h : ∀ t a, (f t a).pending = t.pending) :
    (l.foldl f s).pending = s.pending :=
  foldl_keeps State.pending f l h s
@[simp] theorem State.handle_pending (s : State) (op : Nat) (src : Src) (k : State → State) (h : ∀ t, (k t).pending = t.pending) :
    (s.handle op src k).pending = s.pending :=
  by
  unfold State.handle; split
  · rfl
  · split
    · rfl
    · dsimp only
      split
      · simp [State.lockGated, apply_ite State.pending]
      · simp [h]
@[simp] theorem State.draw_pending (s : State) (m : Nat) : (s.draw m).2.pending = s.pending := rfl
@[simp] theorem State.msixFlush_pending (s : State) : (s.msixFlush).pending = s.pending := by simp [State.msixFlush]
@[simp] theorem State.corrected_pending (s : State) (source : Nat) (kind : Obj) (number : Nat) :
    (s.corrected source kind number).pending = s.pending := by
  simp [State.corrected, apply_ite State.pending]
@[simp] theorem State.memoryError_pending (s : State) (mem : Nat) (stack : Nat) (word : Nat) (errors : Nat) (uncorrectable : Bool) :
    (s.memoryError mem stack word errors uncorrectable).pending = s.pending := by
  simp [State.memoryError, apply_ite State.pending]
@[simp] theorem State.fire_pending (s : State) : (s.fire).pending = s.pending := rfl
@[simp] theorem State.unmark_pending (s : State) : (s.unmark).pending = s.pending := rfl
@[simp] theorem State.spareIn_pending (s : State) (source : Nat) (kind : Obj) (number : Nat) (code : Nat) (last : Bool) :
    (s.spareIn source kind number code last).pending = s.pending := by
  unfold State.spareIn; split <;> simp
@[simp] theorem State.pop_pending (s : State) (q : Nat) : (s.pop q).2.pending = s.pending := by
  unfold State.pop; dsimp only; (repeat' split) <;> simp
@[simp] theorem State.completeCopied_pending (s : State) (op : Nat) (src : Src) (detail : optParam Nat 0) (result : optParam
    (List Byte) []) :
    (s.completeCopied op src detail result).pending = s.pending := by
  unfold State.completeCopied; split <;> simp
@[simp] theorem State.modPort_pending (s : State) (p : Nat) (f : Port → Port) : (s.modPort p f).pending = s.pending := rfl
@[simp] theorem State.berthDone_pending (s : State) (p : Nat) : (s.berthDone p).pending = s.pending := by simp [State.berthDone]
@[simp] theorem State.dropChecks_pending (s : State) : (s.dropChecks).pending = s.pending := by simp [State.dropChecks]
@[simp] theorem State.lockGated_pending (s : State) (op : Nat) (r : Reason) : (s.lockGated op r).pending = s.pending := by
  simp [State.lockGated, apply_ite State.pending]
@[simp] theorem State.modNow_pending (s : State) (a : Nat) (f : Axis → Axis) : (s.modNow a f).pending = s.pending := by
  unfold State.modNow; split <;> rfl
@[simp] theorem State.modAll_pending (s : State) (a : Nat) (f : Axis → Axis) : (s.modAll a f).pending = s.pending := rfl
@[simp] theorem State.clearSticky_pending (s : State) (a : Nat) (mask : Word) : (s.clearSticky a mask).pending = s.pending := rfl
@[simp] theorem State.after_pending (s : State) (kind : Nat) (rung : Nat) : (s.after kind rung).pending = s.pending := rfl
@[simp] theorem State.reimage_pending (s : State) (own : Nat → Bool) (p : FieldRow → Bool) :
    (s.reimage own p).pending = s.pending := by
  unfold State.reimage; split <;> rfl
@[simp] theorem State.failSlot_pending (s : State) (slot : Nat) : (s.failSlot slot).pending = s.pending := by simp [State.failSlot]
@[simp] theorem State.activate_pending (s : State) (slot : Nat) : (s.activate slot).pending = s.pending := by
  simp [State.activate, apply_ite State.pending]
@[simp] theorem State.mapRead_pending (s : State) (i : Nat) : (s.mapRead i).2.2.pending = s.pending := by
  unfold State.mapRead; dsimp only; (repeat' split) <;> simp
@[simp] theorem State.pairRead_pending (s : State) (a : Nat) (b : Nat) : (s.pairRead a b).pending = s.pending := by
  simp [State.pairRead]
@[simp] theorem State.cycleRead_pending (s : State) (c : Cycle) (l : List (Nat × Nat)) : (s.cycleRead c l).pending = s.pending := by
  simp [State.cycleRead]
@[simp] theorem State.rereadAxis_pending (s : State) (a : Nat) : (s.rereadAxis a).pending = s.pending := by
  unfold State.rereadAxis; dsimp only; (repeat' split) <;> simp
@[simp] theorem tempReport_pending (head : Nat) (temp : Int) (s : State) : (tempReport head temp s).pending = s.pending := by
  simp [tempReport, apply_ite State.pending]
@[simp] theorem mapWriteBody_pending (src : Src) (first : Nat) (entries : List MapEntry) (s : State) :
    (mapWriteBody src first entries s).pending = s.pending := by
  unfold mapWriteBody; dsimp only; (repeat' split) <;> simp
@[simp] theorem State.rereadOpenLoop_pending (s : State) : (s.rereadOpenLoop).pending = s.pending := by simp [State.rereadOpenLoop]
@[simp] theorem mapCommitBody_pending (src : Src) (s : State) : (mapCommitBody src s).pending = s.pending := by
  unfold mapCommitBody; split <;> simp
@[simp] theorem mapFlash_pending (s : State) : (mapFlash s).pending = s.pending := rfl
@[simp] theorem mapReload_pending (s : State) : (mapReload s).pending = s.pending := rfl
@[simp] theorem State.setRelief_pending (s : State) (q : Option Relief) : (s.setRelief q).pending = s.pending := rfl
@[simp] theorem State.dropBufs_pending (s : State) (axes : List Nat) : (s.dropBufs axes).pending = s.pending := rfl
@[simp] theorem State.computeShadow_pending (s : State) (quads : List Quad) (setpt : List Int) (errs : List CtrlErr) :
    (s.computeShadow quads setpt errs).pending = s.pending := by
  unfold State.computeShadow; dsimp only; split <;> simp [apply_ite State.pending]
@[simp] theorem State.shadowFrame_pending (s : State) (h : Nat) (good : Bool) : (s.shadowFrame h good).pending = s.pending := by
  unfold State.shadowFrame; split <;> rfl
@[simp] theorem State.dropRep_pending (s : State) (a : Nat) : (s.dropRep a).pending = s.pending := by
  simp only [State.dropRep]; split <;> simp
@[simp] theorem State.takeResult_pending (s : State) (h : HeldResult) : (s.takeResult h).pending = s.pending := by
  unfold State.takeResult; split <;> rfl
@[simp] theorem State.setPath_pending (s : State) (q : Path) : (s.setPath q).pending = s.pending := rfl
@[simp] theorem State.pathEvent_pending (s : State) (q : Path) (kind : Nat) (state : Nat) (bits : Nat) :
    (s.pathEvent q kind state bits).pending = s.pending := by
  simp [State.pathEvent]
@[simp] theorem State.refreshPath_pending (s : State) (q : Path) : (s.refreshPath q).pending = s.pending := by
  simp [State.refreshPath, apply_ite State.pending]
@[simp] theorem State.refreshAxisPath_pending (s : State) (a : Nat) : (s.refreshAxisPath a).pending = s.pending := by
  unfold State.refreshAxisPath; split <;> simp
@[simp] theorem State.setClassK_pending (s : State) (r : Nat) (c : Nat) (k : Nat) : (s.setClassK r c k).pending = s.pending := rfl
@[simp] theorem State.clearReachRep_pending (s : State) (r : Nat) (p : Axis → Bool) : (s.clearReachRep r p).pending = s.pending :=
  rfl
@[simp] theorem State.joinGang_pending (s : State) (r : Nat) : (s.joinGang r).pending = s.pending := by
  unfold State.joinGang; (repeat' split) <;> simp [apply_ite State.pending]
@[simp] theorem State.commitGang_pending (s : State) (r : Nat) (g : Nat) : (s.commitGang r g).pending = s.pending := by
  unfold State.commitGang; split <;> simp
@[simp] theorem State.modRunning_pending (s : State) (f : Cycle → Cycle) : (s.modRunning f).pending = s.pending := by
  unfold State.modRunning; split <;> rfl
@[simp] theorem State.readProofs_pending (s : State) : (s.readProofs).pending = s.pending := by
  unfold State.readProofs; split <;> simp
@[simp] theorem State.settleCounts_pending (s : State) : (s.settleCounts).pending = s.pending := by simp [State.settleCounts]
@[simp] theorem State.sendCopy_pending (s : State) : (s.sendCopy).pending = s.pending := by unfold State.sendCopy; split <;> rfl
@[simp] theorem State.sendReturn_pending (s : State) : (s.sendReturn).pending = s.pending := by
  simp [State.sendReturn, apply_ite State.pending]
@[simp] theorem State.noteWritten_pending (s : State) : (s.noteWritten).pending = s.pending := rfl
@[simp] theorem State.copyBanks_pending (s : State) (r : Nat) (act : Nat) : (s.copyBanks r act).pending = s.pending := by
  simp [State.copyBanks, apply_ite State.pending]
@[simp] theorem State.copyAxis_pending (s : State) (a : Nat) (r : AxisRec) : (s.copyAxis a r).pending = s.pending := by
  simp [State.copyAxis, apply_ite State.pending]
@[simp] theorem State.traces_pending (s : State) (quads : List Quad) : (s.traces quads).pending = s.pending := by
  simp [State.traces]
@[simp] theorem State.sendCodes_pending (s : State) (h : Nat) : (s.sendCodes h).pending = s.pending := by
  unfold State.sendCodes; split <;> rfl
@[simp] theorem State.frameGood_pending (s : State) (h : Nat) : (s.frameGood h).pending = s.pending := by simp [State.frameGood]
@[simp] theorem State.ctrlErr_pending (s : State) (e : CtrlErr) : (s.ctrlErr e).pending = s.pending := by
  unfold State.ctrlErr; split <;> simp
@[simp] theorem State.staleHeader_pending (s : State) (a : Nat) : (s.staleHeader a).pending = s.pending := rfl
@[simp] theorem State.toTick_pending (s : State) : (s.toTick).pending = s.pending := by simp [State.toTick]
@[simp] theorem State.sendMarker_pending (s : State) (h : Nat) : (s.sendMarker h).pending = s.pending := rfl
@[simp] theorem State.sendMarkers_pending (s : State) : (s.sendMarkers).pending = s.pending := by
  simp [State.sendMarkers, apply_ite State.pending]
@[simp] theorem State.coldAxes_pending (s : State) (quads : List Quad) : (s.coldAxes quads).pending = s.pending := by
  simp [State.coldAxes]
@[simp] theorem State.coldTick_pending (s : State) (quads : List Quad) : (s.coldTick quads).pending = s.pending := by
  simp [State.coldTick, apply_ite State.pending]
@[simp] theorem State.compute_pending (s : State) (quads : List Quad) (setpt : List Int) (errs : List CtrlErr) :
    (s.compute quads setpt errs).pending = s.pending :=
  rfl
@[simp] theorem State.reliefTick_pending (s : State) : (s.reliefTick).pending = s.pending := by
  unfold State.reliefTick; repeat' split <;> simp
@[simp] theorem State.readPaths_pending (s : State) : (s.readPaths).pending = s.pending := by simp [State.readPaths]
@[simp] theorem State.pairEvent_pending (s : State) (old : Nat) : (s.pairEvent old).pending = s.pending := by simp [State.pairEvent]
@[simp] theorem State.setPair_pending (s : State) (new : Nat) (reason : Nat) : (s.setPair new reason).pending = s.pending := by
  simp [State.setPair, apply_ite State.pending]
@[simp] theorem State.releaseDone_pending (s : State) : (s.releaseDone).pending = s.pending := by
  unfold State.releaseDone; split <;> simp
@[simp] theorem State.pendClear_pending (s : State) (r : Nat) : (s.pendClear r).pending = s.pending := rfl
@[simp] theorem State.takeClass_pending (s : State) (a : Nat) (cls : Nat) : (s.takeClass a cls).pending = s.pending := rfl
@[simp] theorem State.beginRelease_pending (s : State) : (s.beginRelease).pending = s.pending := by
  unfold State.beginRelease; split <;> rfl
@[simp] theorem State.unlockRings_pending (s : State) (p : Nat → Bool) : (s.unlockRings p).pending = s.pending := by
  simp [State.unlockRings, apply_ite State.pending]
@[simp] theorem State.enFollows_pending (s : State) : (s.enFollows).pending = s.pending := by
  simp [State.enFollows, apply_ite State.pending]
@[simp] theorem State.missSlot_pending (s : State) (a : Nat) : (s.missSlot a).pending = s.pending := by
  unfold State.missSlot; repeat' split <;> simp
@[simp] theorem State.reachDeadline_pending (s : State) (k : Nat) (late : Bool) : (s.reachDeadline k late).pending = s.pending := by
  simp [State.reachDeadline, apply_ite State.pending]
@[simp] theorem State.shadowLate_pending (s : State) (slots : List Nat) : (s.shadowLate slots).pending = s.pending := by
  unfold State.shadowLate; repeat' split <;> simp
@[simp] theorem deadline_pending (late : List Nat) (s : State) : (deadline late s).pending = s.pending := by
  simp [deadline, apply_ite State.pending]
@[simp] theorem blindEntry_pending (a : Nat) (s : State) : (blindEntry a s).pending = s.pending := by
  simp [blindEntry, apply_ite State.pending]
@[simp] theorem blindExit_pending (a : Nat) (s : State) : (blindExit a s).pending = s.pending := by
  simp [blindExit, apply_ite State.pending]
@[simp] theorem freezeWindowEnd_pending (a : Nat) (s : State) : (freezeWindowEnd a s).pending = s.pending := by
  simp [freezeWindowEnd, apply_ite State.pending]
@[simp] theorem openLoopEntry_pending (a : Nat) (s : State) : (openLoopEntry a s).pending = s.pending := by
  unfold openLoopEntry; repeat' split <;> simp
@[simp] theorem regionFall_pending (a : Nat) (s : State) : (regionFall a s).pending = s.pending := by
  simp [regionFall, apply_ite State.pending]
@[simp] theorem runExit_pending (a : Nat) (s : State) : (runExit a s).pending = s.pending := by
  simp [runExit, apply_ite State.pending]
@[simp] theorem State.imageAll_pending (s : State) (own : Nat → Bool) : (s.imageAll own).pending = s.pending := rfl
@[simp] theorem State.imageMap_pending (s : State) (reach : Nat) : (s.imageMap reach).pending = s.pending := rfl
@[simp] theorem State.setPound_pending (s : State) (n : Nat) (v : Nat) : (s.setPound n v).pending = s.pending := by
  unfold State.setPound; split <;> simp
@[simp] theorem State.poundUp_pending (s : State) (n : Nat) : (s.poundUp n).pending = s.pending := by simp [State.poundUp]
@[simp] theorem State.journalPound_pending (s : State) (old : List Nat) (axes : List Nat) (n : Nat) :
    (s.journalPound old axes n).pending = s.pending := by
  unfold State.journalPound; split <;> simp
@[simp] theorem State.reloadBegin_pending (s : State) (n : Nat) : (s.reloadBegin n).pending = s.pending := by
  simp [State.reloadBegin]
@[simp] theorem State.loadRelief_pending (s : State) (r : Nat) : (s.loadRelief r).pending = s.pending := rfl
@[simp] theorem State.startRelief_pending (s : State) (r : Nat) (t : ReliefTrigger) (cmd : Option Src) :
    (s.startRelief r t cmd).pending = s.pending :=
  rfl
@[simp] theorem State.reloadRelief_pending (s : State) (n : Nat) (src : Src) : (s.reloadRelief n src).pending = s.pending := by
  unfold State.reloadRelief; (repeat' split) <;> simp
@[simp] theorem missRunRelief_pending (r : Nat) (s : State) : (missRunRelief r s).pending = s.pending := by
  simp [missRunRelief, apply_ite State.pending]
@[simp] theorem relieve_pending (r : Nat) (s : State) : (relieve r s).pending = s.pending := by
  simp [relieve, apply_ite State.pending]
@[simp] theorem reliefShadowing_pending (s : State) : (reliefShadowing s).pending = s.pending := by
  unfold reliefShadowing; dsimp only; split <;> simp [apply_ite State.pending]
@[simp] theorem reliefAbandon_pending (s : State) : (reliefAbandon s).pending = s.pending := by
  unfold reliefAbandon; dsimp only; (repeat' split) <;> simp
@[simp] theorem returnReach_pending (r : Nat) (s : State) : (returnReach r s).pending = s.pending := by
  unfold returnReach; repeat' split <;> simp
@[simp] theorem State.sendIdent_pending (s : State) (type : Nat) (nonce : Nat) (p : Nat) :
    (s.sendIdent type nonce p).pending = s.pending :=
  rfl
@[simp] theorem State.setPlan_pending (s : State) (p : Nat) (v : Nat) : (s.setPlan p v).pending = s.pending := by
  simp [State.setPlan]
@[simp] theorem State.takePlan_pending (s : State) : (s.takePlan).pending = s.pending := by
  unfold State.takePlan; dsimp only; split <;> simp [apply_ite State.pending]
@[simp] theorem State.setPort_pending (s : State) (p : Nat) (st : Nat) (reason : Nat) :
    (s.setPort p st reason).pending = s.pending := by
  simp [State.setPort, apply_ite State.pending]
@[simp] theorem State.endCheck_pending (s : State) (p : Nat) (again : Bool) : (s.endCheck p again).pending = s.pending := by
  unfold State.endCheck; split <;> simp
@[simp] theorem State.applyVerdict_pending (s : State) (p : Nat) : (s.applyVerdict p).pending = s.pending := by
  unfold State.applyVerdict; dsimp only; split <;> simp [apply_ite State.pending]
@[simp] theorem State.verdict_pending (s : State) (p : Nat) : (s.verdict p).pending = s.pending := by simp [State.verdict]
@[simp] theorem State.berthFailed_pending (s : State) (p : Nat) : (s.berthFailed p).pending = s.pending := by
  simp [State.berthFailed, apply_ite State.pending]
@[simp] theorem State.rejudge_pending (s : State) (p : Nat) : (s.rejudge p).pending = s.pending := by
  simp [State.rejudge, apply_ite State.pending]
@[simp] theorem swapClass_pending (k : Nat) (c : Nat) (s : State) : (swapClass k c s).pending = s.pending := by
  simp [swapClass, apply_ite State.pending]
@[simp] theorem swapBlock_pending (k : Nat) (s : State) : (swapBlock k s).pending = s.pending := by simp [swapBlock]
@[simp] theorem gangChange_pending (r : Nat) (g : Nat) (s : State) : (gangChange r g s).pending = s.pending := by
  simp [gangChange, apply_ite State.pending]
@[simp] theorem flagsWrite_pending (r : Nat) (a : Nat) (v : Word) (s : State) : (flagsWrite r a v s).pending = s.pending := by
  simp [flagsWrite, apply_ite State.pending]
@[simp] theorem clearReq_pending (r : Nat) (s : State) : (clearReq r s).pending = s.pending := by simp [clearReq]
@[simp] theorem reachEnWrite_pending (r : Nat) (en : Bool) (s : State) : (reachEnWrite r en s).pending = s.pending := by
  simp [reachEnWrite, apply_ite State.pending]
@[simp] theorem stepEdge_pending (dir : Bool) (s : State) : (stepEdge dir s).pending = s.pending := rfl
@[simp] theorem State.setRoute_pending (s : State) (input : Nat) (a : Option Nat) : (s.setRoute input a).pending = s.pending := by
  unfold State.setRoute; split <;> rfl
@[simp] theorem State.unroute_pending (s : State) (input : Nat) : (s.unroute input).pending = s.pending := by
  unfold State.unroute; dsimp only; (repeat' split) <;> simp
@[simp] theorem State.route_pending (s : State) (input : Nat) (axis : Nat) (gain : Nat) (shift : Nat) (stepSize : Nat) :
    (s.route input axis gain shift stepSize).pending = s.pending := by
  unfold State.route; dsimp only; split <;> simp [apply_ite State.pending]
@[simp] theorem setpointRoute_pending (src : Src) (input : Nat) (clear : Bool) (axis : Nat) (gain : Nat) (shift : Nat)
    (stepSize : Nat) (s : State) :
    (setpointRoute src input clear axis gain shift stepSize s).pending = s.pending := by
  unfold setpointRoute; dsimp only; split <;> simp [apply_ite State.pending]
@[simp] theorem State.putPlan_pending (s : State) (i : Nat) (e : PlanEntry) : (s.putPlan i e).pending = s.pending := by
  simp [State.putPlan]
@[simp] theorem State.usePlan_pending (s : State) (id : Nat) : (s.usePlan id).pending = s.pending := by
  unfold State.usePlan; split <;> simp
@[simp] theorem State.releasePlan_pending (s : State) (id : Nat) : (s.releasePlan id).pending = s.pending := by
  unfold State.releasePlan; dsimp only; (repeat' split) <;> simp
@[simp] theorem planDrop_pending (src : Src) (id : Nat) (s : State) : (planDrop src id s).pending = s.pending := by
  unfold planDrop; (repeat' split) <;> simp
@[simp] theorem State.setArray_pending (s : State) (n : Nat) (state : Nat) : (s.setArray n state).pending = s.pending := by
  unfold State.setArray; split <;> rfl
@[simp] theorem State.leaveUnit_pending (s : State) (u : Nat) : (s.leaveUnit u).pending = s.pending := by
  simp [State.leaveUnit, apply_ite State.pending]
@[simp] theorem State.modTow_pending (s : State) (space : Nat) (tag : Nat) (f : Tow → Tow) :
    (s.modTow space tag f).pending = s.pending :=
  rfl
@[simp] theorem State.endTow_pending (s : State) (t : Tow) (reason : Nat) : (s.endTow t reason).pending = s.pending := by
  unfold State.endTow; split <;> simp
@[simp] theorem State.endAfter_pending (s : State) (t : Tow) (reason : Nat) : (s.endAfter t reason).pending = s.pending := by
  unfold State.endAfter; split <;> simp
@[simp] theorem State.saveTow_pending (s : State) (t : Tow) (phase : TowPhase) : (s.saveTow t phase).pending = s.pending := by
  unfold State.saveTow; split <;> simp
@[simp] theorem State.haltUnit_pending (s : State) (u : Nat) : (s.haltUnit u).pending = s.pending := by
  unfold State.haltUnit; (repeat' split) <;> simp
@[simp] theorem State.arrayUp_pending (s : State) (n : Nat) : (s.arrayUp n).pending = s.pending := by
  unfold State.arrayUp; split <;> rfl
@[simp] theorem State.readPairs_pending (s : State) (l : List (Nat × Nat)) : (s.readPairs l).pending = s.pending := by
  simp [State.readPairs]
@[simp] theorem State.recordBoot_pending (s : State) : (s.recordBoot).pending = s.pending := rfl
@[simp] theorem State.submitSettle_pending (s : State) (id : Nat) : (s.submitSettle id).pending = s.pending := rfl
@[simp] theorem State.modCycle_pending (s : State) (id : Nat) (f : Cycle → Cycle) : (s.modCycle id f).pending = s.pending := rfl
@[simp] theorem State.dropCycle_pending (s : State) (id : Nat) : (s.dropCycle id).pending = s.pending := rfl
@[simp] theorem State.openAxis_pending (s : State) (c : Cycle) (a : Nat) : (s.openAxis c a).pending = s.pending := by
  simp [State.openAxis]
@[simp] theorem State.proofEvent_pending (s : State) (id : Nat) (a : Nat) (b : Nat) (result : Nat) (errored : Nat) (bits : Nat) :
    (s.proofEvent id a b result errored bits).pending = s.pending := by
  simp [State.proofEvent]
@[simp] theorem State.releaseBerths_pending (s : State) (c : Cycle) : (s.releaseBerths c).pending = s.pending := by
  simp [State.releaseBerths, apply_ite State.pending]
@[simp] theorem State.failPath_pending (s : State) (id : Nat) (p : CPath) : (s.failPath id p).pending = s.pending := by
  simp [State.failPath]
@[simp] theorem State.lockEvent_pending (s : State) (c : Cycle) (outcome : Nat) (reason : Nat) (failed : Nat) (duration : Nat)
    (extra : Nat) :
    (s.lockEvent c outcome reason failed duration extra).pending = s.pending := by
  simp [State.lockEvent]
@[simp] theorem State.lockLast_pending (s : State) (outcome : Nat) (reason : Nat) (failed : Nat) (duration : Nat) (extra : Nat) :
    (s.lockLast outcome reason failed duration extra).pending = s.pending :=
  rfl
@[simp] theorem State.writeStanding_pending (s : State) : (s.writeStanding).pending = s.pending := by simp [State.writeStanding]
@[simp] theorem State.closeMirror_pending (s : State) (m : Nat) : (s.closeMirror m).pending = s.pending := by
  unfold State.closeMirror; split <;> simp
@[simp] theorem State.submitLearn_pending (s : State) : (s.submitLearn).pending = s.pending := by
  simp [State.submitLearn, apply_ite State.pending]
@[simp] theorem State.cacheWalk_pending (s : State) (addr : Nat) (reads : WalkReads) (c : Cached) :
    (s.cacheWalk addr reads c).pending = s.pending := by
  unfold State.cacheWalk; split <;> rfl
@[simp] theorem State.uncache_pending (s : State) (ctx : Nat) (all : Bool) (addr : Nat) (size : Nat) :
    (s.uncache ctx all addr size).pending = s.pending :=
  rfl
@[simp] theorem State.uncachePage_pending (s : State) (ctx : Nat) (addr : Nat) : (s.uncachePage ctx addr).pending = s.pending := rfl
@[simp] theorem State.takeFault_pending (s : State) (t : Tow) (kind : Nat) (level : Nat) (addr : Nat) (write : Bool) (barge : Nat) :
    (s.takeFault t kind level addr write barge).pending = s.pending := by
  unfold State.takeFault; dsimp only; split <;> simp [apply_ite State.pending]
@[simp] theorem State.resumeFault_pending (s : State) (t : Tow) (f : Fault267) : (s.resumeFault t f).pending = s.pending := rfl
@[simp] theorem State.stopQueue_pending (s : State) (q : Nat) (addr : Nat) : (s.stopQueue q addr).pending = s.pending := rfl
@[simp] theorem State.queueFault_pending (s : State) (q : Nat) (addr : Nat) (write : Bool) (kind : Nat) (level : Nat) :
    (s.queueFault q addr write kind level).pending = s.pending := by
  simp [State.queueFault, apply_ite State.pending]
@[simp] theorem State.zeroBound_pending (s : State) (space : Nat) : (s.zeroBound space).pending = s.pending := by
  simp [State.zeroBound, apply_ite State.pending]
@[simp] theorem State.fillQueue_pending (s : State) : (s.fillQueue).pending = s.pending := rfl
@[simp] theorem State.pushEnd_pending (s : State) (t : Tow) (reason : Nat) : (s.pushEnd t reason).pending = s.pending := by
  simp [State.pushEnd, apply_ite State.pending]
@[simp] theorem State.settleSpace_pending (s : State) (space : Nat) : (s.settleSpace space).pending = s.pending := by
  unfold State.settleSpace; dsimp only; (repeat' split) <;> simp
@[simp] theorem State.keepEnd_pending (s : State) (src : Src) : (s.keepEnd src).pending = s.pending := rfl
@[simp] theorem State.setSync_pending (s : State) (space : Nat) (c : Nat) (v : Nat) : (s.setSync space c v).pending = s.pending :=
  rfl
@[simp] theorem State.issueRequest_pending (s : State) (u : Nat) (sp : Space) (addr : Nat) (len : Nat) :
    (s.issueRequest u sp addr len).pending = s.pending := by
  simp [State.issueRequest, apply_ite State.pending]
@[simp] theorem State.injectWord_pending (s : State) (sp : Space) (addr : Nat) : (s.injectWord sp addr).pending = s.pending := by
  unfold State.injectWord; split <;> simp
@[simp] theorem State.countWaves_pending (s : State) (space : Nat) (n : Nat) : (s.countWaves space n).pending = s.pending := by
  simp [State.countWaves]
@[simp] theorem State.haltArrays_pending (s : State) (u : Nat) : (s.haltArrays u).pending = s.pending := by
  simp [State.haltArrays, apply_ite State.pending]
@[simp] theorem State.discardStaged_pending (s : State) (space : Nat) (all : Bool) (addr : Nat) (size : Nat) :
    (s.discardStaged space all addr size).pending = s.pending :=
  rfl
@[simp] theorem State.invalidate_pending (s : State) (space : Nat) (queue : Bool) (all : Bool) (size : Nat) :
    (s.invalidate space queue all size).pending = s.pending := by
  unfold State.invalidate; split <;> rfl
@[simp] theorem State.mapColumn_pending (s : State) (array : Nat) (column : Nat) : (s.mapColumn array column).pending = s.pending :=
  rfl
@[simp] theorem State.applyWrites_pending (s : State) (t : Tow) (sp : Space) (ws : Writes) :
    (s.applyWrites t sp ws).pending = s.pending :=
  rfl
@[simp] theorem State.countTally_pending (s : State) (c : Tally) : (s.countTally c).pending = s.pending := rfl
@[simp] theorem State.noteMismatch_pending (s : State) (u : Nat) (column : Nat) :
    (s.noteMismatch u column).pending = s.pending := by
  simp [State.noteMismatch]
@[simp] theorem State.noteUnresolved_pending (s : State) (u : Nat) : (s.noteUnresolved u).pending = s.pending := by
  simp [State.noteUnresolved]
@[simp] theorem State.freeBytes_pending (s : State) (undef : List Nat) (ws : Writes) :
    (s.freeBytes undef ws).2.pending = s.pending := by
  unfold State.freeBytes; split <;> rfl
@[simp] theorem State.countTraffic_pending (s : State) (space : Nat) (r : Ranges) :
    (s.countTraffic space r).pending = s.pending := by
  simp [State.countTraffic]
@[simp] theorem State.policySignal_pending (s : State) (space : Nat) (c : Nat) : (s.policySignal space c).pending = s.pending := by
  unfold State.policySignal; split <;> rfl
@[simp] theorem State.setSolve_pending (s : State) (u : Nat) (v : Option Solve) : (s.setSolve u v).pending = s.pending := rfl
@[simp] theorem State.takeMatrix_pending (s : State) (u : Nat) (v : Solve) (t : Tow) (sp : Space) (b : Barge) :
    (s.takeMatrix u v t sp b).pending = s.pending := by
  simp [State.takeMatrix, apply_ite State.pending]
@[simp] theorem State.queueFeed_pending (s : State) (f : Feed) : (s.queueFeed f).pending = s.pending := rfl
@[simp] theorem State.strike_pending (s : State) (u : Nat) : (s.strike u).pending = s.pending := rfl
@[simp] theorem State.freeList_pending (s : State) (n : Nat) : (s.freeList n).2.pending = s.pending := rfl
@[simp] theorem State.resultRecord_pending (s : State) (u : Nat) (v : Solve) (planId : Nat) (skipped : Bool) :
    (s.resultRecord u v planId skipped).2.pending = s.pending := by
  unfold State.resultRecord; dsimp only; (repeat' split) <;> simp
@[simp] theorem State.retireAuction_pending (s : State) (u : Nat) : (s.retireAuction u).pending = s.pending := by
  simp only [State.retireAuction]; split <;> simp
@[simp] theorem State.auctionUp_pending (s : State) : (s.auctionUp).pending = s.pending := rfl
@[simp] theorem State.modCart_pending (s : State) (b : Nat) (f : Cart → Cart) : (s.modCart b f).pending = s.pending := rfl
@[simp] theorem State.setBay_pending (s : State) (b : Nat) (v : Nat) : (s.setBay b v).pending = s.pending := rfl
@[simp] theorem State.powerBay_pending (s : State) (b : Nat) (on : Bool) : (s.powerBay b on).pending = s.pending := by
  unfold State.powerBay; split <;> rfl
@[simp] theorem State.lightEvent_pending (s : State) (bay : Nat) (kind : Nat) (newBay : Nat) (line : Nat) (loss : Nat)
    (predict : Nat) :
    (s.lightEvent bay kind newBay line loss predict).pending = s.pending := by
  simp [State.lightEvent]
@[simp] theorem State.identify_pending (s : State) (b : Nat) : (s.identify b).pending = s.pending := by
  simp [State.identify, apply_ite State.pending]
@[simp] theorem State.reread_pending (s : State) (b : Nat) : (s.reread b).pending = s.pending := rfl
@[simp] theorem State.warm_pending (s : State) (b : Nat) : (s.warm b).pending = s.pending := rfl
@[simp] theorem State.calibrate_pending (s : State) (r : Nat) : (s.calibrate r).pending = s.pending := by
  unfold State.calibrate; split <;> rfl
@[simp] theorem State.lockRing_pending (s : State) (r : Nat) (code : Nat) : (s.lockRing r code).pending = s.pending := by
  simp only [State.lockRing]; split <;> simp
@[simp] theorem State.retuneRing_pending (s : State) (r : Nat) : (s.retuneRing r).pending = s.pending := by
  simp [State.retuneRing, apply_ite State.pending]
@[simp] theorem State.retuneBehind_pending (s : State) : (s.retuneBehind).pending = s.pending := by
  simp [State.retuneBehind, apply_ite State.pending]
@[simp] theorem State.useLane_pending (s : State) (n : Nat) (on : Bool) : (s.useLane n on).pending = s.pending := rfl
@[simp] theorem State.spareTakes_pending (s : State) : (s.spareTakes).pending = s.pending := by
  unfold State.spareTakes
  split
  · have h : (((s.useLane 4 true).fset F.TETHER_LANES.SPARE_USED 1).fadd F.TETHER_LANES.FAILOVERS 1).pending = s.pending := by simp
    generalize ((s.useLane 4 true).fset F.TETHER_LANES.SPARE_USED 1).fadd F.TETHER_LANES.FAILOVERS 1 = u at h ⊢
    exact (State.spareIn_pending ..).trans h
  · rfl
@[simp] theorem State.laneDown_pending (s : State) (n : Nat) : (s.laneDown n).pending = s.pending := by
  simp [State.laneDown, apply_ite State.pending]
@[simp] theorem State.laneUnlocked_pending (s : State) (n : Nat) : (s.laneUnlocked n).pending = s.pending := by
  simp [State.laneUnlocked]
@[simp] theorem State.laneBack_pending (s : State) (n : Nat) : (s.laneBack n).pending = s.pending := by
  simp [State.laneBack, apply_ite State.pending]
@[simp] theorem State.laneDark_pending (s : State) (n : Nat) : (s.laneDark n).pending = s.pending := by simp [State.laneDark]
@[simp] theorem State.retuneBus_pending (s : State) (j : Nat) (p : Nat → Bool) : (s.retuneBus j p).pending = s.pending := by
  simp [State.retuneBus, apply_ite State.pending]
@[simp] theorem State.lanesReduced_pending (s : State) (bay : Nat) (tether : Nat) (bus : Nat) :
    (s.lanesReduced bay tether bus).pending = s.pending := by
  unfold State.lanesReduced; split <;> simp
@[simp] theorem State.setLane_pending (s : State) (n : Nat) (src : Option (Nat × Nat)) : (s.setLane n src).pending = s.pending := by
  simp [State.setLane]
@[simp] theorem State.lightBeacon_pending (s : State) (b : Nat) (h : Nat) (on : Bool) :
    (s.lightBeacon b h on).pending = s.pending := by
  unfold State.lightBeacon; split <;> rfl
@[simp] theorem State.setBeacon_pending (s : State) (h : Nat) (b : Nat) : (s.setBeacon h b).pending = s.pending := by
  simp [State.setBeacon]
@[simp] theorem State.beaconLost_pending (s : State) (h : Nat) : (s.beaconLost h).pending = s.pending := by
  simp [State.beaconLost, apply_ite State.pending]
@[simp] theorem State.takeRole_pending (s : State) (b : Nat) : (s.takeRole b).pending = s.pending := by
  unfold State.takeRole; dsimp only; split <;> simp [apply_ite State.pending]
@[simp] theorem State.startInsertion_pending (s : State) (old : Nat) (new : Nat) (cmd : Option Src) :
    (s.startInsertion old new cmd).pending = s.pending :=
  rfl
@[simp] theorem State.replaceBay_pending (s : State) (b : Nat) (flags : Nat) : (s.replaceBay b flags).pending = s.pending := by
  unfold State.replaceBay; dsimp only; (repeat' split) <;> simp
@[simp] theorem State.trigger_pending (s : State) (b : Nat) : (s.trigger b).pending = s.pending := by
  simp [State.trigger, apply_ite State.pending]
@[simp] theorem State.insStep_pending (s : State) (i : Insertion) (n : Nat) : (s.insStep i n).pending = s.pending := rfl
@[simp] theorem State.drainOld_pending (s : State) (i : Insertion) : (s.drainOld i).pending = s.pending := rfl
@[simp] theorem State.moveBeacons_pending (s : State) (i : Insertion) : (s.moveBeacons i).pending = s.pending := by
  simp [State.moveBeacons, apply_ite State.pending]
@[simp] theorem State.laneStep_pending (s : State) (n : Nat) (new : Nat) : (s.laneStep n new).pending = s.pending := by
  unfold State.laneStep; dsimp only; (repeat' split) <;> simp
@[simp] theorem State.movePorts_pending (s : State) (j : Nat) : (s.movePorts j).pending = s.pending := by
  simp [State.movePorts, apply_ite State.pending]
@[simp] theorem State.ringLoop_pending (s : State) (ring : Nat) (err : Half) : (s.ringLoop ring err).2.pending = s.pending := by
  unfold State.ringLoop; split <;> rfl
@[simp] theorem State.moveBerths_pending (s : State) : (s.moveBerths).pending = s.pending := rfl
@[simp] theorem State.redirect_pending (s : State) (c : Cycle) : (s.redirect c).pending = s.pending := by
  simp [State.redirect, apply_ite State.pending]
@[simp] theorem State.abortRunning_pending (s : State) (c : Cycle) : (s.abortRunning c).pending = s.pending := by
  simp [State.abortRunning, apply_ite State.pending]
@[simp] theorem State.abortRefused_pending (s : State) (src : Src) (reason : Nat) :
    (s.abortRefused src reason).pending = s.pending := by
  simp [State.abortRefused]
@[simp] theorem State.releaseUnusable_pending (s : State) (c : Cycle) : (s.releaseUnusable c).pending = s.pending := by
  simp [State.releaseUnusable, apply_ite State.pending]
@[simp] theorem State.putBufs_pending (s : State) (l : List TrajBuf) : (s.putBufs l).pending = s.pending := by simp [State.putBufs]
@[simp] theorem State.takeBins_pending (s : State) (id : Nat) : (s.takeBins id).pending = s.pending := rfl
@[simp] theorem gangArm_pending (id : Nat) (s : State) : (gangArm id s).pending = s.pending := by
  unfold gangArm; repeat' split <;> simp
@[simp] theorem State.delayBerth_pending (s : State) (c : Cycle) : (s.delayBerth c).pending = s.pending := rfl
@[simp] theorem slewStart_pending (id : Nat) (s : State) : (slewStart id s).pending = s.pending := by
  unfold slewStart; dsimp only; split <;> simp [apply_ite State.pending]
@[simp] theorem wave2Begin_pending (id : Nat) (s : State) : (wave2Begin id s).pending = s.pending := by
  unfold wave2Begin; repeat' split <;> simp
@[simp] theorem State.enterPhase_pending (s : State) (id : Nat) (a : Nat) (ph : Phase) (code : Nat) :
    (s.enterPhase id a ph code).pending = s.pending := by
  simp [State.enterPhase]
@[simp] theorem slewEnd_pending (a : Nat) (s : State) : (slewEnd a s).pending = s.pending := by
  unfold slewEnd; dsimp only; (repeat' split) <;> simp
@[simp] theorem capture_pending (a : Nat) (s : State) : (capture a s).pending = s.pending := by
  unfold capture; (repeat' split) <;> simp
@[simp] theorem captureExpiry_pending (a : Nat) (s : State) : (captureExpiry a s).pending = s.pending := by
  unfold captureExpiry; dsimp only; split <;> simp [apply_ite State.pending]
@[simp] theorem prove_pending (a : Nat) (s : State) : (prove a s).pending = s.pending := by
  unfold prove; dsimp only; split <;> simp [apply_ite State.pending]
@[simp] theorem parkReached_pending (m : Nat) (s : State) : (parkReached m s).pending = s.pending := by
  unfold parkReached; split <;> simp
@[simp] theorem State.modBase_pending (s : State) (n : Nat) (f : TimeBase → TimeBase) : (s.modBase n f).pending = s.pending := by
  unfold State.modBase; split <;> rfl
@[simp] theorem State.timeEvent_pending (s : State) (n : Nat) (kind : Nat) : (s.timeEvent n kind).pending = s.pending := by
  simp [State.timeEvent]
@[simp] theorem State.setTbState_pending (s : State) (n : Nat) (st : Nat) : (s.setTbState n st).pending = s.pending := by
  simp [State.setTbState, apply_ite State.pending]
@[simp] theorem State.holdBase_pending (s : State) (n : Nat) : (s.holdBase n).pending = s.pending := by
  unfold State.holdBase; split <;> simp
@[simp] theorem State.holdTime_pending (s : State) : (s.holdTime).pending = s.pending := by simp [State.holdTime]
@[simp] theorem State.goodSample_pending (s : State) (n : Nat) (o : Int) (t : Nat) : (s.goodSample n o t).pending = s.pending := by
  simp [State.goodSample, apply_ite State.pending]
@[simp] theorem State.overSample_pending (s : State) (n : Nat) (o : Int) : (s.overSample n o).pending = s.pending := by
  simp [State.overSample]
@[simp] theorem State.takeSample_pending (s : State) (n : Nat) (o : Int) (t : Nat) : (s.takeSample n o t).pending = s.pending := by
  simp [State.takeSample, apply_ite State.pending]
@[simp] theorem State.servoOff_pending (s : State) (n : Nat) : (s.servoOff n).pending = s.pending := by
  simp [State.servoOff, apply_ite State.pending]
@[simp] theorem State.gmEdge_pending (s : State) (g : GmParams) : (s.gmEdge g).pending = s.pending := by
  simp [State.gmEdge, apply_ite State.pending]
@[simp] theorem State.ptpStamp_pending (s : State) (n : Nat) : (s.ptpStamp n).2.pending = s.pending := rfl
@[simp] theorem State.ptpRole_pending (s : State) (port : Nat) (n : Nat) (st : Nat) :
    (s.ptpRole port n st).pending = s.pending := by
  simp [State.ptpRole, apply_ite State.pending]
@[simp] theorem State.announced_pending (s : State) : (s.announced).2.pending = s.pending := by
  unfold State.announced; repeat' split <;> simp
@[simp] theorem State.sendPtp_pending (s : State) (m : PtpOut) : (s.sendPtp m).pending = s.pending := rfl
@[simp] theorem State.sendEvent_pending (s : State) (m : PtpOut) : (s.sendEvent m).pending = s.pending := by
  simp [State.sendEvent, apply_ite State.pending]
@[simp] theorem State.portStates_pending (s : State) (p : Nat) : (s.portStates p).pending = s.pending := rfl
@[simp] theorem periodWrite_pending (value : Nat) (s : State) : (periodWrite value s).pending = s.pending := by
  unfold periodWrite; split <;> rfl
@[simp] theorem State.setRung_pending (s : State) (r : Nat) : (s.setRung r).pending = s.pending := rfl
@[simp] theorem State.showRails_pending (s : State) : (s.showRails).pending = s.pending := rfl
@[simp] theorem State.regain_pending (s : State) (kind : Nat) (rung : Nat) : (s.regain kind rung).pending = s.pending := by
  simp [State.regain]
@[simp] theorem State.recordCause_pending (s : State) (kind : Nat) (cause : Nat) (fatal : Bool) :
    (s.recordCause kind cause fatal).pending = s.pending := by
  simp [State.recordCause, apply_ite State.pending]
@[simp] theorem State.keelImage_pending (s : State) (kind : Nat) (rung : Nat) : (s.keelImage kind rung).pending = s.pending := by
  simp [State.keelImage]
@[simp] theorem State.beginReset_pending (s : State) (kind : Nat) (rung : Nat) : (s.beginReset kind rung).pending = s.pending := rfl
@[simp] theorem State.releaseNow_pending (s : State) : (s.releaseNow).pending = s.pending := by
  unfold State.releaseNow; split <;> rfl
@[simp] theorem State.railsReset_pending (s : State) (cause : Nat) : (s.railsReset cause).pending = s.pending := by
  simp [State.railsReset]
@[simp] theorem State.freezeLog_pending (s : State) : (s.freezeLog).pending = s.pending := rfl
@[simp] theorem State.sampleStraps_pending (s : State) (t : Straps) : (s.sampleStraps t).pending = s.pending := rfl
@[simp] theorem State.spareRow_pending (s : State) (bank : Nat) (row : Nat) : (s.spareRow bank row).pending = s.pending := by
  simp [State.spareRow, apply_ite State.pending]
@[simp] theorem State.spareChannel_pending (s : State) (stack : Nat) (channel : Nat) :
    (s.spareChannel stack channel).1.pending = s.pending := by
  unfold State.spareChannel; repeat' split <;> simp
@[simp] theorem State.testColumn_pending (s : State) (array : Nat) (column : Nat) :
    (s.testColumn array column).pending = s.pending := by
  simp [State.testColumn, apply_ite State.pending]
@[simp] theorem State.startCores_pending (s : State) : (s.startCores).pending = s.pending := by
  simp only [State.startCores]; split <;> simp
@[simp] theorem State.readyCheck_pending (s : State) : (s.readyCheck).pending = s.pending := by
  simp [State.readyCheck, apply_ite State.pending]
@[simp] theorem State.modHead_pending (s : State) (h : Nat) (f : Head → Head) : (s.modHead h f).pending = s.pending := by
  unfold State.modHead; split <;> rfl
@[simp] theorem State.mirrorFails_pending (s : State) (p : Nat) : (s.mirrorFails p).pending = s.pending := by
  simp [State.mirrorFails]
@[simp] theorem State.tellOrder_pending (s : State) (h : Nat) : (s.tellOrder h).pending = s.pending := by simp [State.tellOrder]
@[simp] theorem State.train_pending (s : State) (h : Nat) (lanes : List Nat) (desc : HeadDesc) (faulty : List Nat) :
    (s.train h lanes desc faulty).1.pending = s.pending := by
  unfold State.train; dsimp only; split <;> simp [apply_ite State.pending]
@[simp] theorem State.claimFields_pending (s : State) (grant : Option Nat) : (s.claimFields grant).pending = s.pending := by
  unfold State.claimFields; split <;> simp
@[simp] theorem State.bootClaim_pending (s : State) (grant : Option Nat) (grantB : Bool) :
    (s.bootClaim grant grantB).pending = s.pending := by
  unfold State.bootClaim; dsimp only; split <;> simp [apply_ite State.pending]
@[simp] theorem State.haltResting_pending (s : State) : (s.haltResting).pending = s.pending := by
  simp [State.haltResting, apply_ite State.pending]
@[simp] theorem State.unhalt_pending (s : State) (n : Nat) : (s.unhalt n).pending = s.pending := by
  unfold State.unhalt; split <;> rfl
@[simp] theorem State.unhaltAll_pending (s : State) : (s.unhaltAll).pending = s.pending := by simp [State.unhaltAll]
@[simp] theorem State.stepVoltage_pending (s : State) (slowest : Nat) (fastest : Nat) (input : Nat) (current : Nat) :
    (s.stepVoltage slowest fastest input current).pending = s.pending := by
  simp [State.stepVoltage, apply_ite State.pending]
@[simp] theorem State.currentHalts_pending (s : State) (slowest : Nat) (current : Nat) :
    (s.currentHalts slowest current).pending = s.pending := by
  unfold State.currentHalts; dsimp only; (repeat' split) <;> simp
@[simp] theorem State.throttle_pending (s : State) (slowest : Nat) (input : Nat) (current : Nat) :
    (s.throttle slowest input current).pending = s.pending :=
  rfl
@[simp] theorem State.powerCounts_pending (s : State) (cap : Bool) (throttled : Bool) (input : Nat) :
    (s.powerCounts cap throttled input).pending = s.pending :=
  rfl
@[simp] theorem State.capDone_pending (s : State) : (s.capDone).pending = s.pending := by simp [State.capDone]
@[simp] theorem State.showPaces_pending (s : State) (paces : List Nat) : (s.showPaces paces).pending = s.pending := rfl
@[simp] theorem State.judgeWarn_pending (s : State) (tj : Int) (n : Nat) : (s.judgeWarn tj n).pending = s.pending := by
  simp [State.judgeWarn, apply_ite State.pending]
@[simp] theorem State.judgeJunction_pending (s : State) : (s.judgeJunction).pending = s.pending := by
  unfold State.judgeJunction; split <;> simp
@[simp] theorem State.judgePhotonic_pending (s : State) : (s.judgePhotonic).pending = s.pending := by
  simp only [State.judgePhotonic, apply_ite State.pending]; split <;> simp
@[simp] theorem State.judgeStacks_pending (s : State) : (s.judgeStacks).pending = s.pending := rfl
@[simp] theorem State.judgeCool_pending (s : State) (n : Nat) : (s.judgeCool n).pending = s.pending := by
  simp [State.judgeCool, apply_ite State.pending]
@[simp] theorem State.judgeCold_pending (s : State) : (s.judgeCold).pending = s.pending := rfl
@[simp] theorem State.judgeAllHalted_pending (s : State) : (s.judgeAllHalted).pending = s.pending := rfl
@[simp] theorem State.startMove_pending (s : State) (goal : Nat) (cause : Nat) : (s.startMove goal cause).pending = s.pending := rfl
@[simp] theorem State.wakeBy_pending (s : State) (source : Nat) (goal : Nat) : (s.wakeBy source goal).pending = s.pending := rfl
@[simp] theorem State.arrive_pending (s : State) : (s.arrive).pending = s.pending := by unfold State.arrive; repeat' split <;> simp
@[simp] theorem rungSet_pending (src : Src) (rung : Nat) (s : State) : (rungSet src rung s).pending = s.pending := by
  simp [rungSet, apply_ite State.pending]
@[simp] theorem State.requestRung_pending (s : State) (rung : Nat) : (s.requestRung rung).pending = s.pending := by
  simp [State.requestRung, apply_ite State.pending]
@[simp] theorem rungRequest_pending (value : Word) (s : State) : (rungRequest value s).pending = s.pending := by
  simp [rungRequest, apply_ite State.pending]
@[simp] theorem State.parkAll_pending (s : State) : (s.parkAll).pending = s.pending := by
  simp [State.parkAll, apply_ite State.pending]
@[simp] theorem State.moor_pending (s : State) : (s.moor).pending = s.pending := rfl
@[simp] theorem State.entered_pending (s : State) (r : Nat) : (s.entered r).pending = s.pending := by simp [State.entered]
@[simp] theorem State.descend_pending (s : State) (r : Nat) : (s.descend r).pending = s.pending := by simp [State.descend]
@[simp] theorem State.haltTows_pending (s : State) : (s.haltTows).pending = s.pending := by
  simp [State.haltTows, apply_ite State.pending]
@[simp] theorem State.stopTether_pending (s : State) : (s.stopTether).pending = s.pending := by
  simp only [State.stopTether]; split <;> simp
@[simp] theorem State.cartsOff_pending (s : State) : (s.cartsOff).pending = s.pending := by simp [State.cartsOff]
@[simp] theorem State.enterL4_pending (s : State) : (s.enterL4).pending = s.pending := by simp [State.enterL4]
@[simp] theorem State.wakeArray_pending (s : State) (n : Nat) : (s.wakeArray n).pending = s.pending := by
  unfold State.wakeArray; split <;> simp
@[simp] theorem State.riseL0_pending (s : State) : (s.riseL0).pending = s.pending := by
  have h : ((List.range 4).foldl State.wakeArray (s.entered 0)).pending = s.pending := by simp
  unfold State.riseL0
  generalize (List.range 4).foldl State.wakeArray (s.entered 0) = u at h ⊢
  exact h
@[simp] theorem State.completeEarly_pending (s : State) (src : Src) : (s.completeEarly src).pending = s.pending := by
  simp [State.completeEarly]
@[simp] theorem State.takeSchedule_pending (s : State) (id : Nat) (rev : Nat) (planId : Nat) (tOpen : Nat) (single : Bool)
    (late : Bool) (joint : Bool) (jointId : Nat) (epoch : Nat) :
    (s.takeSchedule id rev planId tOpen single late joint jointId epoch).pending = s.pending := by
  simp [State.takeSchedule, apply_ite State.pending]
@[simp] theorem State.takeAbort_pending (s : State) (id : Nat) : (s.takeAbort id).pending = s.pending := by
  unfold State.takeAbort; (repeat' split) <;> simp
@[simp] theorem State.takePhase_pending (s : State) (a : Nat) (n : Nat) : (s.takePhase a n).pending = s.pending := by
  unfold State.takePhase; dsimp only; (repeat' split) <;> simp
@[simp] theorem State.takeTraj_pending (s : State) (b : TrajBuf) : (s.takeTraj b).pending = s.pending := rfl
@[simp] theorem State.takePlanEntry_pending (s : State) (i : Nat) (e : PlanEntry) : (s.takePlanEntry i e).pending = s.pending := rfl
@[simp] theorem State.beginSnapshot_pending (s : State) : (s.beginSnapshot).pending = s.pending := rfl
@[simp] theorem State.brought_pending (s : State) (it : JItem) : (s.brought it).pending = s.pending := by
  unfold State.brought; split <;> rfl
@[simp] theorem State.appliedUpTo_pending (s : State) (n : Nat) : (s.appliedUpTo n).pending = s.pending := rfl
@[simp] theorem State.resync_pending (s : State) : (s.resync).pending = s.pending := by simp [State.resync]
@[simp] theorem State.sendSnapshot_pending (s : State) : (s.sendSnapshot).pending = s.pending := by simp [State.sendSnapshot]
@[simp] theorem State.becomeIneligible_pending (s : State) (reason : Nat) : (s.becomeIneligible reason).pending = s.pending := by
  unfold State.becomeIneligible; split <;> simp
@[simp] theorem State.takeHeader_pending (s : State) (f : FrameHeader) (at_ : Nat) : (s.takeHeader f at_).pending = s.pending := rfl
@[simp] theorem State.heartbeat_pending (s : State) : (s.heartbeat).pending = s.pending := rfl
@[simp] theorem State.tb2Sample_pending (s : State) (o : Int) : (s.tb2Sample o).pending = s.pending := rfl
@[simp] theorem State.takeOffer_pending (s : State) (req : Bool) : (s.takeOffer req).pending = s.pending := by
  unfold State.takeOffer; split <;> rfl
@[simp] theorem State.noteOwed_pending (s : State) (n : Nat) : (s.noteOwed n).pending = s.pending := by
  unfold State.noteOwed; split <;> rfl
@[simp] theorem State.noteGap_pending (s : State) : (s.noteGap).pending = s.pending := by
  unfold State.noteGap; dsimp only; split <;> simp [apply_ite State.pending]
@[simp] theorem State.finishWaits_pending (s : State) (p : Wait → Bool) : (s.finishWaits p).pending = s.pending := by
  simp [State.finishWaits, apply_ite State.pending]
@[simp] theorem State.answerRepair_pending (s : State) (seq : Nat) (mask : Nat) :
    (s.answerRepair seq mask).pending = s.pending := by
  simp [State.answerRepair]
@[simp] theorem State.dropCodes_pending (s : State) : (s.dropCodes).pending = s.pending := rfl
@[simp] theorem State.becomeActive_pending (s : State) (takeover : Bool) : (s.becomeActive takeover).pending = s.pending := by
  unfold State.becomeActive; split <;> simp
@[simp] theorem State.judgeOrphan_pending (s : State) : (s.judgeOrphan).pending = s.pending := by
  simp [State.judgeOrphan, apply_ite State.pending]
@[simp] theorem State.takeHead_pending (s : State) (h : Nat) (t : Trailer) : (s.takeHead h t).pending = s.pending := by
  simp [State.takeHead, apply_ite State.pending]
@[simp] theorem pairHandover_pending (src : Src) (force : Bool) (take : Bool) (s : State) :
    (pairHandover src force take s).pending = s.pending := by
  simp [pairHandover, apply_ite State.pending]
@[simp] theorem State.continueAxis_pending (s : State) (c : Cycle) (a : Nat) : (s.continueAxis c a).1.pending = s.pending := by
  unfold State.continueAxis; repeat' split <;> simp
@[simp] theorem State.placeBerth_pending (s : State) (pairs : List (Nat × Nat)) : (s.placeBerth pairs).pending = s.pending := rfl
@[simp] theorem State.endPass_pending (s : State) : (s.endPass).pending = s.pending := by simp [State.endPass]
@[simp] theorem State.sendHello_pending (s : State) (p : Nat) : (s.sendHello p).pending = s.pending := rfl
@[simp] theorem portQuarantine_pending (src : Src) (port : Nat) (clear : Bool) (s : State) :
    (portQuarantine src port clear s).pending = s.pending := by
  simp [portQuarantine, apply_ite State.pending]
@[simp] theorem portAccept_pending (src : Src) (port : Nat) (s : State) : (portAccept src port s).pending = s.pending := by
  unfold portAccept; dsimp only; (repeat' split) <;> simp
@[simp] theorem berthCheck_pending (src : Src) (port : Nat) (s : State) : (berthCheck src port s).pending = s.pending := by
  simp [berthCheck, apply_ite State.pending]
@[simp] theorem State.setValid_pending (s : State) (slot : Nat) (v : Bool) : (s.setValid slot v).pending = s.pending := rfl
@[simp] theorem State.stageOver_pending (s : State) : (s.stageOver).pending = s.pending := rfl
@[simp] theorem stageBegin_pending (src : Src) (slot : Nat) (s : State) : (stageBegin src slot s).pending = s.pending := by
  simp [stageBegin, apply_ite State.pending]
@[simp] theorem stageEnd_pending (src : Src) (slot : Nat) (length : Nat) (img : Image) (flashOk : Bool) (s : State) :
    (stageEnd src slot length img flashOk s).pending = s.pending := by
  simp [stageEnd, apply_ite State.pending]
@[simp] theorem liveActivate_pending (slot : Nat) (old : Image) (new : Image) (s : State) :
    (liveActivate slot old new s).pending = s.pending := by
  simp [liveActivate, apply_ite State.pending]
@[simp] theorem imageActivate_pending (src : Src) (slot : Nat) (s : State) : (imageActivate src slot s).pending = s.pending := by
  unfold imageActivate; simp only [apply_ite State.pending]; (repeat' split) <;> simp
@[simp] theorem State.reloadPrepare_pending (s : State) (n : Nat) : (s.reloadPrepare n).pending = s.pending := by
  unfold State.reloadPrepare; dsimp only; (repeat' split) <;> simp [apply_ite State.pending]
@[simp] theorem unlock_pending (n : Nat) (value : Bool) (s : State) : (unlock n value s).pending = s.pending := by
  simp [unlock, apply_ite State.pending]
@[simp] theorem State.noteRowWord_pending (s : State) (bank : Nat) (row : Nat) (word : Nat) :
    (s.noteRowWord bank row word).pending = s.pending :=
  rfl
@[simp] theorem State.spareRowNow_pending (s : State) (bank : Nat) (row : Nat) : (s.spareRowNow bank row).pending = s.pending := by
  simp [State.spareRowNow]
@[simp] theorem logFreeze_pending (src : Src) (s : State) : (logFreeze src s).pending = s.pending := by
  unfold logFreeze; split <;> simp
@[simp] theorem State.annexEntry_pending (s : State) (e : Entry) : (s.annexEntry e).pending = s.pending := by
  simp [State.annexEntry, apply_ite State.pending]
@[simp] theorem State.thawLog_pending (s : State) : (s.thawLog).pending = s.pending := by simp [State.thawLog]
@[simp] theorem logThaw_pending (src : Src) (s : State) : (logThaw src s).pending = s.pending := by unfold logThaw; split <;> simp
@[simp] theorem State.setMark_pending (s : State) (m : Nat) (x2 : Mark) : (s.setMark m x2).pending = s.pending := rfl
@[simp] theorem State.clearMarkLost_pending (s : State) (m : Nat) : (s.clearMarkLost m).pending = s.pending := rfl
@[simp] theorem logMark_pending (src : Src) (m : Nat) (rewind : Bool) (s : State) :
    (logMark src m rewind s).pending = s.pending := by
  simp [logMark, apply_ite State.pending]
@[simp] theorem State.writeDump_pending (s : State) (keelOnly : Bool) (flashOk : Bool) :
    (s.writeDump keelOnly flashOk).pending = s.pending := by
  unfold State.writeDump; split <;> rfl
@[simp] theorem loadDump_pending (slot : Nat) (s : State) : (loadDump slot s).pending = s.pending := by
  simp only [loadDump]; split <;> simp
@[simp] theorem State.zeroGroup_pending (s : State) (g : Nat) : (s.zeroGroup g).pending = s.pending := rfl
@[simp] theorem counterGrant_pending (src : Src) (group : Nat) (revoke : Bool) (s : State) :
    (counterGrant src group revoke s).pending = s.pending := by
  unfold counterGrant; split <;> simp
@[simp] theorem cntClear_pending (counter : Nat) (s : State) : (cntClear counter s).pending = s.pending := by
  simp [cntClear, apply_ite State.pending]
@[simp] theorem cntBindWrite_pending (k : Nat) (space : Nat) (en : Bool) (s : State) :
    (cntBindWrite k space en s).pending = s.pending :=
  rfl
@[simp] theorem counterWindowClose_pending (bytes : List (Nat × Nat)) (s : State) :
    (counterWindowClose bytes s).pending = s.pending := by
  unfold counterWindowClose; split <;> rfl
@[simp] theorem State.writeBack_pending (s : State) (q : Nat) : (s.writeBack q).pending = s.pending := rfl
@[simp] theorem doorbell_pending (q : Nat) (index : Nat) (s : State) : (doorbell q index s).pending = s.pending := by
  simp [doorbell, apply_ite State.pending]
@[simp] theorem h2dFetch_pending (q : Nat) (cells : List (List Byte)) (poison : List Nat) (s : State) :
    (h2dFetch q cells poison s).pending = s.pending := by
  simp [h2dFetch, apply_ite State.pending]
@[simp] theorem State.notePoison_pending (s : State) (i : Item) : (s.notePoison i).pending = s.pending := by
  unfold State.notePoison; split <;> rfl
@[simp] theorem State.queueMessage_pending (s : State) (q : Nat) : (s.queueMessage q).pending = s.pending := by
  simp [State.queueMessage, apply_ite State.pending]
@[simp] theorem enableQueue_pending (q : Nat) (s : State) : (enableQueue q s).pending = s.pending := by
  simp [enableQueue, apply_ite State.pending]
@[simp] theorem disableQueue_pending (q : Nat) (s : State) : (disableQueue q s).pending = s.pending := by
  unfold disableQueue; split <;> rfl
@[simp] theorem State.reserveCells_pending (s : State) (q : Nat) (n : Nat) : (s.reserveCells q n).pending = s.pending := rfl
@[simp] theorem State.takeCommand_pending (s : State) (src : Src) (i : Item) : (s.takeCommand src i).pending = s.pending := by
  unfold State.takeCommand; repeat' split <;> simp
@[simp] theorem State.testTrst_pending (low : Bool) (s : State) : (State.testTrst low s).pending = s.pending := by
  unfold State.testTrst; split <;> rfl
@[simp] theorem State.testLoad_pending (i : TestInstr) (s : State) : (State.testLoad i s).pending = s.pending := by
  unfold State.testLoad; split <;> rfl
@[simp] theorem State.captureCell_pending (s : State) (x1 : Signal) : (s.captureCell x1).2.pending = s.pending := by
  unfold State.captureCell; split <;> rfl
@[simp] theorem State.testUpdate_pending (cells : List (Signal × Bool)) (s : State) :
    (State.testUpdate cells s).pending = s.pending := by
  unfold State.testUpdate; split <;> rfl
@[simp] theorem State.plainWrite_pending (s : State) (off : Nat) (v : Word) : (s.plainWrite off v).pending = s.pending := rfl
@[simp] theorem State.holdLo_pending (s : State) (lo : Nat) (w : Option Word) : (s.holdLo lo w).pending = s.pending := rfl
@[simp] theorem State.writeWindow_pending (s : State) (i : Nat) (v : Word) : (s.writeWindow i v).pending = s.pending := by
  unfold State.writeWindow; dsimp only; split <;> simp [apply_ite State.pending]
@[simp] theorem State.writePair_pending (s : State) (lo : Nat) (hi : Bool) (v : Word) :
    (s.writePair lo hi v).pending = s.pending := by
  unfold State.writePair; repeat' split <;> simp
@[simp] theorem State.writeLogCtrl_pending (s : State) (v : Word) : (s.writeLogCtrl v).pending = s.pending := by
  simp [State.writeLogCtrl, apply_ite State.pending]
@[simp] theorem State.writeCount_pending (s : State) (o : Nat) (v : Word) : (s.writeCount o v).pending = s.pending := by
  unfold State.writeCount; dsimp only; split <;> simp [apply_ite State.pending]
@[simp] theorem State.writePound_pending (s : State) (n : Nat) (v : Word) : (s.writePound n v).pending = s.pending := by
  unfold State.writePound; split <;> simp
@[simp] theorem State.writePairCfg_pending (s : State) (v : Word) : (s.writePairCfg v).pending = s.pending := rfl
@[simp] theorem pairLoRead_pending (off : Nat) (s : State) : (pairLoRead off s).pending = s.pending := by
  unfold pairLoRead; split <;> rfl
@[simp] theorem rcRead_pending (off : Nat) (s : State) : (rcRead off s).pending = s.pending := by
  simp [rcRead, apply_ite State.pending]
@[simp] theorem State.storeTarget_pending (s : State) (target : Nat) (a : Nat) (data : List Byte) :
    (s.storeTarget target a data).pending = s.pending := by
  unfold State.storeTarget; split <;> rfl
@[simp] theorem State.bar2Err_pending (s : State) : (s.bar2Err).pending = s.pending := by simp [State.bar2Err]
@[simp] theorem bar2Access_pending (x0 : Nat) (len : Nat) (write : Option (List Byte)) (s : State) :
    (bar2Access x0 len write s).pending = s.pending := by
  unfold bar2Access; dsimp only; split <;> simp [apply_ite State.pending]
@[simp] theorem identify_pending (src : Src) (s : State) : (identify src s).pending = s.pending := by simp [identify]
@[simp] theorem statusSnapshot_pending (src : Src) (s : State) : (statusSnapshot src s).pending = s.pending := by
  simp [statusSnapshot]
@[simp] theorem State.hostWrite_pending (s : State) (off : Nat) (k : State → State) (h : ∀ t, (k t).pending = t.pending) :
    (s.hostWrite off k).pending = s.pending := by
  unfold State.hostWrite; split
  · split <;> simp [h]
  · rfl
@[simp] theorem State.mirrorWrite_pending (s : State) (changes : Bool) (k : State → State) (h : ∀ t, (k t).pending = t.pending) :
    (s.mirrorWrite changes k).pending = s.pending := by
  unfold State.mirrorWrite; split
  · exact h s
  · split <;> rfl
@[simp] theorem tryBoot_pending (s : State) (l : List Nat) : (tryBoot s l).pending = s.pending := by
  induction l generalizing s with
  | nil => rfl
  | cons c l ih =>
    unfold tryBoot; split
    · exact ih s
    · split
      · simp
      · simp [ih]
@[simp] theorem readEntries_pending (journal : Bool) (first n : Nat) (s : State) :
    (readEntries journal first n s).2.pending = s.pending :=
  by
  induction n generalizing first s with
  | zero => rfl
  | succ n ih => unfold readEntries; dsimp only; rw [ih]; split <;> simp
@[simp] theorem State.chooseSlot_pending (s : State) : s.chooseSlot.pending = s.pending := by simp [State.chooseSlot]
@[simp] theorem mapReadBody_pending (src : Src) (first count : Nat) (journal : Bool) (s : State) :
    (mapReadBody src first count journal s).pending = s.pending := by
  unfold mapReadBody; split <;> simp
@[simp] theorem State.takeShadow_pending (s : State) (q : Relief) : (s.takeShadow q).pending = s.pending := by
  simp -implicitDefEqProofs [State.takeShadow]
@[simp] theorem State.advanceK_pending (s : State) : s.advanceK.pending = s.pending := by simp -implicitDefEqProofs [State.advanceK]
@[simp] theorem State.clearReach_pending (s : State) (r : Nat) : (s.clearReach r).pending = s.pending := by
  simp -implicitDefEqProofs [State.clearReach]
@[simp] theorem State.tickCommits_pending (s : State) : s.tickCommits.pending = s.pending := by
  simp -implicitDefEqProofs [State.tickCommits]
@[simp] theorem State.frameLost_pending (s : State) (h : Nat) (badCheck : Bool) : (s.frameLost h badCheck).pending = s.pending := by
  simp -implicitDefEqProofs [State.frameLost, apply_ite State.pending]
@[simp] theorem State.lateFrame_pending (s : State) (h : Nat) : (s.lateFrame h).pending = s.pending := by
  simp [State.lateFrame, apply_ite State.pending]
@[simp] theorem State.lateFrames_pending (s : State) : s.lateFrames.pending = s.pending := by simp [State.lateFrames]
@[simp] theorem State.workTimes_pending (s : State) : s.workTimes.pending = s.pending := by
  simp -implicitDefEqProofs [State.workTimes]
@[simp] theorem State.endTick_pending (s : State) : s.endTick.pending = s.pending := by simp [State.endTick]
@[simp] theorem State.pendRecal_pending (s : State) (r : Nat) : (s.pendRecal r).pending = s.pending := by
  simp -implicitDefEqProofs [State.pendRecal]
@[simp] theorem State.takeSetting_pending (s : State) (off : Nat) (v : Word) : (s.takeSetting off v).pending = s.pending := by
  simp [State.takeSetting, apply_ite State.pending]
@[simp] theorem State.applySetting_pending (s : State) (it : JItem) : (s.applySetting it).pending = s.pending := by
  unfold State.applySetting; split <;> simp
@[simp] theorem State.queueSetting_pending (s : State) (it : JItem) : (s.queueSetting it).pending = s.pending := by
  simp [State.queueSetting, apply_ite State.pending]
@[simp] theorem State.applyDue_pending (s : State) : s.applyDue.pending = s.pending := by simp [State.applyDue]
@[simp] theorem State.imageClasses_pending (s : State) (reach : Nat) : (s.imageClasses reach).pending = s.pending := by
  simp -implicitDefEqProofs [State.imageClasses]
@[simp] theorem State.bootPound_pending (s : State) (n : Nat) : (s.bootPound n).pending = s.pending := by
  unfold State.bootPound; split <;> simp
@[simp] theorem State.reloadPound_pending (s : State) (n : Nat) : (s.reloadPound n).pending = s.pending := by
  simp [State.reloadPound, apply_ite State.pending]
@[simp] theorem reliefCommit_pending (s : State) : (reliefCommit s).pending = s.pending := by
  unfold reliefCommit; dsimp only; (repeat' split) <;> simp
@[simp] theorem State.reloadRelieved_pending (s : State) (q : Relief) : (s.reloadRelieved q).pending = s.pending := by
  simp [State.reloadRelieved]
@[simp] theorem reliefReturn_pending (s : State) : (reliefReturn s).pending = s.pending := by
  unfold reliefReturn; dsimp only; (repeat' split) <;> simp
@[simp] theorem requestSwap_pending (r classes : Nat) (s : State) : (requestSwap r classes s).pending = s.pending := by
  simp -implicitDefEqProofs [requestSwap]
@[simp] theorem axisFlagsWrite_pending (r j : Nat) (v : Word) (s : State) : (axisFlagsWrite r j v s).pending = s.pending := by
  unfold axisFlagsWrite; split <;> simp
@[simp] theorem recalReq_pending (r : Nat) (s : State) : (recalReq r s).pending = s.pending := by simp [recalReq]
@[simp] theorem State.showUnit_pending (s : State) (u state cls space : Nat) :
    (s.showUnit u state cls space).pending = s.pending := by
  simp -implicitDefEqProofs [State.showUnit]
@[simp] theorem State.noticeCopy_pending (s : State) (n : Notice) (copy : Nat) : (s.noticeCopy n copy).pending = s.pending := by
  simp -implicitDefEqProofs [State.noticeCopy]
@[simp] theorem State.sendNotice_pending (s : State) (n : Notice) : (s.sendNotice n).pending = s.pending := by
  unfold State.sendNotice; split <;> simp
@[simp] theorem noticeRepeat_pending (s : State) : (noticeRepeat s).pending = s.pending := by
  unfold noticeRepeat; dsimp only; (repeat' split) <;> simp
@[simp] theorem State.dropSettle_pending (s : State) (id : Nat) : (s.dropSettle id).pending = s.pending := by
  unfold State.dropSettle; refine foldl_keeps State.pending _ _ (fun t k => ?_) _; dsimp only; (repeat' split) <;> simp
@[simp] theorem State.freeProof_pending (s : State) (q : ProofRun) : (s.freeProof q).pending = s.pending := by
  simp -implicitDefEqProofs [State.freeProof]
@[simp] theorem State.cutProofs_pending (s : State) (ms : List Nat) : (s.cutProofs ms).pending = s.pending := by
  simp [State.cutProofs]
@[simp] theorem State.openCycle_pending (s : State) (id : Nat) (late : Bool) : (s.openCycle id late).pending = s.pending := by
  unfold State.openCycle; split <;> simp
@[simp] theorem State.abortPending_pending (s : State) (c : Cycle) (reason : Nat) :
    (s.abortPending c reason).pending = s.pending := by
  unfold State.abortPending; split <;> simp
@[simp] theorem State.startProof_pending (s : State) (id a : Nat) : (s.startProof id a).pending = s.pending := by
  unfold State.startProof; dsimp only; (repeat' split) <;> simp -implicitDefEqProofs
@[simp] theorem State.startProofs_pending (s : State) (c : Cycle) (lit : List CPath) :
    (s.startProofs c lit).pending = s.pending := by
  simp [State.startProofs]
@[simp] theorem State.closeBerth_pending (s : State) (lit failed : List CPath) : (s.closeBerth lit failed).pending = s.pending := by
  simp -implicitDefEqProofs [State.closeBerth]
@[simp] theorem State.closeCycle_pending (s : State) (id : Nat) : (s.closeCycle id).pending = s.pending := by
  unfold State.closeCycle; dsimp only; (repeat' split) <;> simp
@[simp] theorem State.resumeQueues_pending (s : State) : s.resumeQueues.pending = s.pending := by
  simp -implicitDefEqProofs [State.resumeQueues]
@[simp] theorem State.dropFeeds_pending (s : State) (mine : Feed → Bool) : (s.dropFeeds mine).pending = s.pending := by
  simp -implicitDefEqProofs [State.dropFeeds, apply_ite State.pending]
@[simp] theorem State.cancelTow_pending (s : State) (t : Tow) : (s.cancelTow t).pending = s.pending := by
  simp [State.cancelTow, apply_ite State.pending]
@[simp] theorem State.finishTow_pending (s : State) (t : Tow) (reason : Nat) : (s.finishTow t reason).pending = s.pending := by
  unfold State.finishTow; split <;> simp
@[simp] theorem State.placeTow_pending (s : State) (t : Tow) (u : Nat) : (s.placeTow t u).pending = s.pending := by
  unfold State.placeTow; split <;> simp
@[simp] theorem State.choosePreempt_pending (s : State) (u : Nat) : (s.choosePreempt u).pending = s.pending := by
  simp -implicitDefEqProofs [State.choosePreempt]
@[simp] theorem State.beginBarge_pending (s : State) (u : Nat) (t : Tow) : (s.beginBarge u t).pending = s.pending := by
  simp -implicitDefEqProofs [State.beginBarge]
@[simp] theorem State.tugWaits_pending (s : State) (u target : Nat) (starves : Bool) :
    (s.tugWaits u target starves).pending = s.pending := by
  simp -implicitDefEqProofs [State.tugWaits, apply_ite State.pending]
@[simp] theorem State.takeReturn_pending (s : State) (t : Tow) (sp : Space) (r : Req) (data : List Byte) (poisoned : Bool) :
    (s.takeReturn t sp r data poisoned).pending = s.pending := by
  simp -implicitDefEqProofs [State.takeReturn, apply_ite State.pending]
@[simp] theorem State.endBarge_pending (s : State) (t : Tow) (used : Ranges) : (s.endBarge t used).pending = s.pending := by
  unfold State.endBarge; dsimp only; (repeat' split) <;> simp -implicitDefEqProofs
@[simp] theorem State.countEsc_pending (s : State) (u : Nat) (t : Tow) (e : EscTally) : (s.countEsc u t e).pending = s.pending := by
  simp -implicitDefEqProofs [State.countEsc, apply_ite State.pending]
@[simp] theorem State.placeOrphans_pending (s : State) : s.placeOrphans.pending = s.pending := by
  unfold State.placeOrphans; refine foldl_keeps State.pending _ _ (fun t k => ?_) _; dsimp only; split <;> simp
@[simp] theorem State.reserveHead_pending (s : State) : s.reserveHead.pending = s.pending := by
  unfold State.reserveHead; dsimp only; (repeat' split) <;> simp
@[simp] theorem State.solveAgain_pending (s : State) (u : Nat) (v : Solve) : (s.solveAgain u v).pending = s.pending := by
  simp -implicitDefEqProofs [State.solveAgain, apply_ite State.pending]
@[simp] theorem certificateCheck_pending (u : Nat) (fault : Bool) (v : Solve) (s : State) :
    (certificateCheck u fault v s).pending = s.pending := by
  unfold certificateCheck; dsimp only; (repeat' split) <;> simp
@[simp] theorem State.storePut_pending (s : State) (b off : Nat) (data : List Byte) :
    (s.storePut b off data).pending = s.pending := by
  simp -implicitDefEqProofs [State.storePut]
@[simp] theorem State.showPorts_pending (s : State) : s.showPorts.pending = s.pending := by
  simp -implicitDefEqProofs [State.showPorts]
@[simp] theorem State.applyAllocation_pending (s : State) (bay : Nat) (a : Sparse (Nat × Nat) × Sparse (Nat × Nat)) :
    (s.applyAllocation bay a).pending = s.pending := by
  simp [State.applyAllocation, apply_ite State.pending]
@[simp] theorem State.planLight_pending (s : State) (b : Nat) : (s.planLight b).pending = s.pending := by
  simp [State.planLight, apply_ite State.pending]
@[simp] theorem State.enterService_pending (s : State) (b : Nat) (means : List Int) :
    (s.enterService b means).pending = s.pending := by
  simp [State.enterService, apply_ite State.pending]
@[simp] theorem State.abandonInsertion_pending (s : State) : s.abandonInsertion.pending = s.pending := by
  unfold State.abandonInsertion; dsimp only; (repeat' split) <;> simp -implicitDefEqProofs
@[simp] theorem State.retireStore_pending (s : State) (b : Nat) : (s.retireStore b).pending = s.pending := by
  simp [State.retireStore]
@[simp] theorem State.endInsertion_pending (s : State) (i : Insertion) : (s.endInsertion i).pending = s.pending := by
  unfold State.endInsertion; dsimp only; (repeat' split) <;> simp
@[simp] theorem State.failRing_pending (s : State) (r : Nat) (code : Nat → Option Nat) :
    (s.failRing r code).pending = s.pending := by
  unfold State.failRing; dsimp only; (repeat' split) <;> simp
@[simp] theorem State.accepted_pending (s : State) (op : Nat) (src : Src) (c : Cycle) (lead type : Nat) :
    (s.accepted op src c lead type).pending = s.pending := by
  simp [State.accepted]
@[simp] theorem State.newCycle_pending (s : State) (op : Nat) (src : Src) (q : Ask) (lead : Nat) :
    (s.newCycle op src q lead).pending = s.pending := by
  simp [State.newCycle, apply_ite State.pending]
@[simp] theorem State.superseded_pending (s : State) (op : Nat) (src : Src) (q : Ask) (c : Cycle) (lead : Nat) :
    (s.superseded op src q c lead).pending = s.pending := by
  simp [State.superseded]
@[simp] theorem State.supersededInSlew_pending (s : State) (op : Nat) (src : Src) (q : Ask) (c : Cycle) (lead : Nat) :
    (s.supersededInSlew op src q c lead).pending = s.pending := by
  simp [State.supersededInSlew]
@[simp] theorem State.refusedAsk_pending (s : State) (op : Nat) (src : Src) (q : Ask) (reason : Nat) :
    (s.refusedAsk op src q reason).pending = s.pending := by
  unfold State.refusedAsk; split <;> simp
@[simp] theorem State.ask_pending (s : State) (op : Nat) (src : Src) (q : Ask) : (s.ask op src q).pending = s.pending := by
  unfold State.ask; dsimp only; (repeat' split) <;> simp
@[simp] theorem lockSchedule_pending (src : Src) (planId : Nat) (supersede lateProof : Bool) (superId : Nat) (tOpen : TimeField)
    (s : State) :
    (lockSchedule src planId supersede lateProof superId tOpen s).pending = s.pending := by
  simp [lockSchedule]
@[simp] theorem lockJoint_pending (src : Src) (planId : Nat) (lateProof : Bool) (jointId epoch : Nat) (tOpen : TimeField)
    (hash : Nat) (s : State) :
    (lockJoint src planId lateProof jointId epoch tOpen hash s).pending = s.pending := by
  simp [lockJoint]
@[simp] theorem buffersWritten_pending (id : Nat) (bufs : List TrajBuf) (ok : Bool) (scaled : Option Nat) (s : State) :
    (buffersWritten id bufs ok scaled s).pending = s.pending := by
  unfold buffersWritten; dsimp only; (repeat' split) <;> simp
@[simp] theorem State.useFallback_pending (s : State) (c0 : Cycle) : (s.useFallback c0).pending = s.pending := by
  simp [State.useFallback]
@[simp] theorem lateOpen_pending (id : Nat) (s : State) : (lateOpen id s).pending = s.pending := by
  unfold lateOpen; dsimp only; (repeat' split) <;> simp
@[simp] theorem State.endProof_pending (s : State) (q : ProofRun) (errored : Nat) : (s.endProof q errored).pending = s.pending := by
  unfold State.endProof; dsimp only; (repeat' split) <;> simp
@[simp] theorem lateProof_pending (id : Nat) (errored : List (Nat × Nat)) (s : State) :
    (lateProof id errored s).pending = s.pending := by
  simp [lateProof]
@[simp] theorem State.reloadWarm_pending (s : State) (rung : Nat) : (s.reloadWarm rung).pending = s.pending := by
  simp -implicitDefEqProofs [State.reloadWarm, apply_ite State.pending]
@[simp] theorem State.parkOthers_pending (s : State) (ms : List Nat) : (s.parkOthers ms).pending = s.pending := by
  simp -implicitDefEqProofs [State.parkOthers]
@[simp] theorem State.auditPath_pending (s : State) (held : List (Nat × Half)) (lit : Bool) (p : Nat × Nat) :
    (s.auditPath held lit p).pending = s.pending := by
  simp -implicitDefEqProofs [State.auditPath, apply_ite State.pending]
@[simp] theorem State.resetNotice_pending (s : State) (c : Cycle) (tb0 : Nat) : (s.resetNotice c tb0).pending = s.pending := by
  simp [State.resetNotice]
@[simp] theorem State.enterL3_pending (s : State) : s.enterL3.pending = s.pending := by
  simp -implicitDefEqProofs [State.enterL3, apply_ite State.pending]
@[simp] theorem State.unmoor_pending (s : State) : s.unmoor.pending = s.pending := by
  unfold State.unmoor; dsimp only; (repeat' split) <;> simp -implicitDefEqProofs
@[simp] theorem State.reloadRise_pending (s : State) : s.reloadRise.pending = s.pending := by
  unfold State.reloadRise; dsimp only; (repeat' split) <;> simp
@[simp] theorem State.riseL1_pending (s : State) : s.riseL1.pending = s.pending := by simp [State.riseL1]
@[simp] theorem State.takeOpened_pending (s : State) (id tick tb0 : Nat) (late : Bool) :
    (s.takeOpened id tick tb0 late).pending = s.pending := by
  unfold State.takeOpened; dsimp only; (repeat' split) <;> simp -implicitDefEqProofs
@[simp] theorem State.takeClosed_pending (s : State) (id : Nat) : (s.takeClosed id).pending = s.pending := by
  unfold State.takeClosed; dsimp only; (repeat' split) <;> simp -implicitDefEqProofs
@[simp] theorem State.endSnapshot_pending (s : State) : s.endSnapshot.pending = s.pending := by
  simp -implicitDefEqProofs [State.endSnapshot]
@[simp] theorem State.takeItem_pending (s : State) (it : JItem) : (s.takeItem it).pending = s.pending := by
  unfold State.takeItem; dsimp only; (repeat' split) <;> simp
@[simp] theorem State.coldGranted_pending (s : State) : s.coldGranted.pending = s.pending := by
  simp -implicitDefEqProofs [State.coldGranted]
@[simp] theorem State.parkStrays_pending (s : State) : s.parkStrays.pending = s.pending := by
  simp -implicitDefEqProofs [State.parkStrays]
@[simp] theorem State.recompute_pending (s : State) (c : Cycle) : (s.recompute c).pending = s.pending := by simp [State.recompute]
@[simp] theorem State.reloadDone_pending (s : State) (n : Nat) : (s.reloadDone n).pending = s.pending := by
  simp [State.reloadDone, apply_ite State.pending]
@[simp] theorem State.reloadStage_pending (s : State) (n : Nat) (src : Src) : (s.reloadStage n src).pending = s.pending := by
  unfold State.reloadStage; dsimp only; (repeat' split) <;> simp
@[simp] theorem reloadCheck_pending (src : Src) (n : Nat) (crcOk : Bool) (s : State) :
    (reloadCheck src n crcOk s).pending = s.pending := by
  simp [reloadCheck, apply_ite State.pending]
@[simp] theorem towpathLaneFailover_pending (head lane : Nat) (s : State) :
    (towpathLaneFailover head lane s).pending = s.pending := by
  simp [towpathLaneFailover, apply_ite State.pending]
@[simp] theorem State.writeCells_pending (s : State) (d : Queue) (i : Item) : (s.writeCells d i).pending = s.pending := by
  simp -implicitDefEqProofs [State.writeCells]
@[simp] theorem State.settingWrite_pending (s : State) (off : Nat) (v : Word) : (s.settingWrite off v).pending = s.pending := by
  simp [State.settingWrite, apply_ite State.pending]
@[simp] theorem State.recordWrite_pending (s : State) (r o : Nat) (v : Word) : (s.recordWrite r o v).pending = s.pending := by
  simp -implicitDefEqProofs [State.recordWrite, apply_ite State.pending]
@[simp] theorem State.recordWrites_pending (s : State) (r o : Nat) (v : Word) : (s.recordWrites r o v).pending = s.pending := by
  simp -implicitDefEqProofs [State.recordWrites, apply_ite State.pending]
@[simp] theorem State.settingWrites_pending (s : State) (r o : Nat) (v : Word) : (s.settingWrites r o v).pending = s.pending := by
  simp [State.settingWrites, apply_ite State.pending]
@[simp] theorem State.writeReach_pending (s : State) (r o : Nat) (v : Word) : (s.writeReach r o v).pending = s.pending := by
  unfold State.writeReach; dsimp only; (repeat' split) <;> simp
@[simp] theorem State.writeTick_pending (s : State) (v : Word) : (s.writeTick v).pending = s.pending := by
  simp [State.writeTick, apply_ite State.pending]
@[simp] theorem State.writeXlate_pending (s : State) (o : Nat) (v : Word) : (s.writeXlate o v).pending = s.pending := by
  unfold State.writeXlate; dsimp only; (repeat' split) <;> simp
@[simp] theorem State.writePort_pending (s : State) (p : Nat) (v : Word) : (s.writePort p v).pending = s.pending := by
  simp [State.writePort, apply_ite State.pending]
@[simp] theorem State.writeLockBlock_pending (s : State) (o : Nat) (v : Word) : (s.writeLockBlock o v).pending = s.pending := by
  unfold State.writeLockBlock; split <;> simp
@[simp] theorem State.ptpSettle_pending (t s : State) : (t.ptpSettle s).pending = t.pending :=
  foldl_keeps State.pending _ _ (fun t p => by split <;> simp) t
@[simp] theorem openTick_pending (id : Nat) (s : State) : (openTick id s).pending = s.pending := by
  unfold openTick; (repeat' split) <;> simp
@[simp] theorem jointRecheck_pending (id : Nat) (s : State) : (jointRecheck id s).pending = s.pending := by
  unfold jointRecheck; (repeat' split) <;> simp
@[simp] theorem cycleDeadline_pending (id : Nat) (s : State) : (cycleDeadline id s).pending = s.pending := by
  unfold cycleDeadline; (repeat' split) <;> simp
@[simp] theorem closeTick_pending (id : Nat) (s : State) : (closeTick id s).pending = s.pending := by
  unfold closeTick; (repeat' split) <;> simp
@[simp] theorem towDeadline_pending (id : Nat) (s : State) : (towDeadline id s).pending = s.pending := by
  unfold towDeadline; (repeat' split) <;> simp
@[simp] theorem lockAbort_pending (src : Src) (id : Nat) (s : State) : (lockAbort src id s).pending = s.pending := by
  unfold lockAbort; (repeat' split) <;> simp
theorem State.insertPlan_pending {s t : State} {source : Nat} {approx : Bool} {score : Int} {portGen : Nat} {peer : Peer} {proof : List Nat} {id : Nat}
    (h : s.insertPlan source approx score portGen peer proof = some (id, t)) : t.pending = s.pending := by
  unfold State.insertPlan at h
  split at h
  · cases h
  · cases h; simp
@[simp] theorem planSubmit_pending (src : Src) (peer : Peer) (proof : List Nat) (s : State) :
    (planSubmit src peer proof s).pending = s.pending :=
  by
  unfold planSubmit
  split
  · simp
  · split
    · simp
    · next h => simp [State.insertPlan_pending h]
@[simp] theorem State.freeUnits_pending (s : State) (p : Tow → Bool) : (s.freeUnits p).pending = s.pending :=
  foldl_keeps State.pending _ _ (fun t k => by split <;> (try split) <;> simp) s
@[simp] theorem State.gateArrays_pending (s : State) : s.gateArrays.pending = s.pending :=
  foldl_keeps State.pending _ _ (fun t k => by (repeat' split) <;> simp) s
@[simp] theorem State.preemptHeld_pending (s : State) : s.preemptHeld.pending = s.pending :=
  foldl_keeps State.pending _ _ (fun t k => by (repeat' split) <;> simp) s
@[simp] theorem State.ensureTwo_pending (s : State) : s.ensureTwo.pending = s.pending :=
  foldl_keeps State.pending _ _ (fun t k => by (repeat' split) <;> simp) s
@[simp] theorem State.handoverDone_pending (s : State) (ok : Bool) : (s.handoverDone ok).pending = s.pending :=
  foldl_keeps State.pending _ _ (fun t k => by split <;> simp) _
@[simp] theorem State.drainEarly_pending (n : Nat) (s : State) : (State.drainEarly n s).pending = s.pending := by
  induction n generalizing s with
  | zero => rfl
  | succ n ih => unfold State.drainEarly; dsimp only; split <;> simp [ih]
@[simp] theorem State.repairMemory_pending (s : State) (rows channels : List (Nat × Nat)) :
    (s.repairMemory rows channels).1.pending = s.pending :=
  by
  unfold State.repairMemory
  dsimp only
  refine (foldl_keeps (fun p : State × Bool => p.1.pending) _ _ (fun t k => ?_) _).trans ?_
  · split <;> simp
  · exact foldl_keeps State.pending _ _ (fun t k => by split <;> simp) _
@[simp] theorem State.continueRunning_pending (s : State) (c : Cycle) : (s.continueRunning c).pending = s.pending := by
  unfold State.continueRunning
  exact foldl_keeps (fun p : State × Bool => p.1.pending) _ _ (fun t k => by simp) _
@[simp] theorem State.captureBoundary_pending (s : State) : s.captureBoundary.pending = s.pending := by
  unfold State.captureBoundary
  generalize boundarySignals = l
  exact foldl_keeps (fun p : List (Signal × Bool) × State => p.2.pending) _ _ (fun t k => by simp) _
@[simp] theorem State.applyCopy_pending (s : State) (f : CopyFrame) : (s.applyCopy f).pending = s.pending := by
  simp only [State.applyCopy, State.count_pending, State.fset_pending]
  rw [foldl_keeps State.pending]
  · simp -implicitDefEqProofs
  · intro t k
    split <;> simp
@[simp] theorem State.writeTbCtrl_pending (s : State) (n : Nat) (v : Word) : (s.writeTbCtrl n v).pending = s.pending := by
  unfold State.writeTbCtrl; dsimp only; (repeat' split) <;> simp
@[simp] theorem State.writeEth_pending (s : State) (o : Nat) (v : Word) : (s.writeEth o v).pending = s.pending := by
  unfold State.writeEth; dsimp only; (repeat' split) <;> simp
theorem State.reserveFor_pending {s t : State} {src : Src} {i : Item} (h : s.reserveFor src i = some t) : t.pending = s.pending :=
  by
  unfold State.reserveFor at h
  dsimp only at h
  (repeat' split at h) <;> cases h <;> simp
@[simp] theorem takeFirst_pending (s : State) (l : List Nat) : (takeFirst s l).pending = s.pending := by
  induction l generalizing s with
  | nil => rfl
  | cons q l ih =>
    unfold takeFirst
    split
    · exact ih s
    · split
      · simp [ih]
      · next h => simp [State.reserveFor_pending h]
@[simp] theorem State.takePolicy_pending (s : State) (sp : Space) (size wr rd : Nat) :
    (s.takePolicy sp size wr rd).pending = s.pending :=
  by
  unfold State.takePolicy
  dsimp only
  split
  · rfl
  · next h => simp [State.reserveFor_pending h]
@[simp] theorem d2hWrite_pending (q : Nat) (s : State) : (d2hWrite q s).pending = s.pending := by
  unfold d2hWrite
  dsimp only
  split
  · rfl
  · split
    · split
      · next h => simpa [h] using s.pop_pending q
      · next h => simpa [h] using s.pop_pending q
    · rfl
@[simp] theorem State.boundary_pending (s : State) : s.boundary.pending = s.pending := by
  unfold State.boundary; (repeat' split) <;> simp
@[simp] theorem State.atBoundary_pending (s : State) (u : Nat) : (s.atBoundary u).pending = s.pending := by
  unfold State.atBoundary; (repeat' split) <;> simp
@[simp] theorem State.completeArray_pending (s : State) (u : Nat) (t : Tow) (sp : Space) (b : Barge) (mism : List
    (Nat × Nat × Option Nat)) :
    (s.completeArray u t sp b mism).pending = s.pending := by
  simp [State.completeArray, apply_ite State.pending]
@[simp] theorem State.completeInjected_pending (s : State) (u : Nat) (t : Tow) (sp : Space) (b : Barge) (mism : List
    (Nat × Nat × Option Nat)) :
    (s.completeInjected u t sp b mism).pending = s.pending := by
  unfold State.completeInjected; split <;> simp
@[simp] theorem State.completeSync_pending (s : State) (u : Nat) (t : Tow) (b : Barge) :
    (s.completeSync u t b).pending = s.pending := by
  unfold State.completeSync; (repeat' split) <;> simp
@[simp] theorem State.streamFeed_pending (s : State) (unit : Nat) (t : Tow) (sp : Space) (b : Barge) (u : Nat) (v : Solve) :
    (s.streamFeed unit t sp b u v).pending = s.pending := by
  unfold State.streamFeed; split <;> simp
@[simp] theorem State.identifyBays_pending (s : State) : s.identifyBays.pending = s.pending := by
  unfold State.identifyBays; dsimp only; (repeat' split) <;> simp
@[simp] theorem State.identifyOn_pending (s : State) : s.identifyOn.pending = s.pending := by
  simp [State.identifyOn, apply_ite State.pending]
@[simp] theorem settleUpdate_pending (s : State) : (settleUpdate s).pending = s.pending := by unfold settleUpdate; split <;> simp
@[simp] theorem State.warmBoot_pending (s : State) (cause : Nat) (fatal : Bool) : (s.warmBoot cause fatal).pending = s.pending := by
  simp [State.warmBoot, apply_ite State.pending]
@[simp] theorem State.fatal_pending (s : State) (cause arg : Nat) (off : Bool) : (s.fatal cause arg off).pending = s.pending := by
  simp [State.fatal, apply_ite State.pending]
@[simp] theorem State.fReset_pending (s : State) (cause : Nat) : (s.fReset cause).pending = s.pending := by
  simp [State.fReset, apply_ite State.pending]
@[simp] theorem State.coldBoot_pending (s : State) (kind rung : Nat) : (s.coldBoot kind rung).pending = s.pending := by
  simp [State.coldBoot, apply_ite State.pending]
@[simp] theorem State.enterL1_pending (s : State) : s.enterL1.pending = s.pending := by simp [State.enterL1]
@[simp] theorem State.enterL2_pending (s : State) : s.enterL2.pending = s.pending := by
  simp [State.enterL2, apply_ite State.pending]
@[simp] theorem State.riseL2_pending (s : State) : s.riseL2.pending = s.pending := by simp [State.riseL2]
@[simp] theorem State.riseOne_pending (s : State) : s.riseOne.pending = s.pending := by unfold State.riseOne; split <;> simp
@[simp] theorem State.descendOne_pending (s : State) : s.descendOne.pending = s.pending := by
  unfold State.descendOne; (repeat' split) <;> simp
@[simp] theorem takeJournal_pending (seq : Nat) (it : JItem) (s : State) : (takeJournal seq it s).pending = s.pending := by
  simp [takeJournal, apply_ite State.pending]
@[simp] theorem State.rungToward_pending (s : State) (r : Nat) : (s.rungToward r).pending = s.pending := by
  simp [State.rungToward, apply_ite State.pending]
@[simp] theorem State.followRung_pending (s : State) (r : Nat) : (s.followRung r).pending = s.pending := by
  simp [State.followRung, apply_ite State.pending]
@[simp] theorem State.claimRefused_pending (s : State) : s.claimRefused.pending = s.pending := by
  simp [State.claimRefused, apply_ite State.pending]
@[simp] theorem State.answerA_pending (s : State) (t : Trailer) : (s.answerA t).pending = s.pending := by
  simp [State.answerA, apply_ite State.pending]
@[simp] theorem State.answerB_pending (s : State) (t : Trailer) : (s.answerB t).pending = s.pending := by
  unfold State.answerB; dsimp only; (repeat' split) <;> simp
@[simp] theorem State.deposed_pending (s : State) : s.deposed.pending = s.pending := by simp [State.deposed]
@[simp] theorem State.releaseSeen_pending (s : State) : s.releaseSeen.pending = s.pending := by
  unfold State.releaseSeen; split <;> simp
@[simp] theorem State.takeTrailer_pending (s : State) (h : Nat) (t : Trailer) : (s.takeTrailer h t).pending = s.pending := by
  simp [State.takeTrailer, apply_ite State.pending]
@[simp] theorem coreReportMissed_pending (core : Nat) (s : State) : (coreReportMissed core s).pending = s.pending := by
  simp [coreReportMissed, apply_ite State.pending]
@[simp] theorem policyCell_pending (s : State) : (policyCell s).pending = s.pending := by
  unfold policyCell; dsimp only; (repeat' split) <;> simp
@[simp] theorem State.writeTime_pending (s : State) (o : Nat) (v : Word) : (s.writeTime o v).pending = s.pending := by
  simp [State.writeTime, apply_ite State.pending]
@[simp] theorem tickBody_pending (quads : List Quad) (setpt : List Int) (errs : List CtrlErr) (s : State) :
    (tickBody quads setpt errs s).pending = s.pending := by
  simp -implicitDefEqProofs only [tickBody, State.sendReturn_pending, State.sendMarkers_pending, State.traces_pending, State.workTimes_pending,
    State.advanceK_pending, State.reliefTick_pending, foldl_pending, State.ctrlErr_pending, State.computeShadow_pending,
    State.compute_pending, State.readPaths_pending, implies_true]
  rw [foldl_keeps State.pending]
  · simp
  · intro t e; split <;> simp
@[simp] theorem State.loseBay_pending (s : State) (b : Nat) : (s.loseBay b).pending = s.pending := by
  unfold State.loseBay
  extract_lets was s1 s2 l2 s2' s3 out l3 s4 s5 s6 s7
  have h2 : s2.pending = s.pending := by simp [s2, s1, apply_ite State.pending]
  have h3 : s3.pending = s.pending := by
    unfold s3
    (repeat' split) <;> simp [h2, s2']
  have h4 : s4.pending = s.pending := h3
  have h7 : s7.pending = s.pending := by
    simp [s7, s6, s5, h4, apply_ite State.pending]
  (repeat' split) <;> simp [h7, h4]

end Sys2Proof.Machine
end

section
/-!
PROOFS. The step: which answer a command gives, that no command touches the queue of waiting commands, what follows for runs, and what
the machine holds after a P reset.
-/

namespace Sys2Proof.Machine

/-! ## What a command's answer keeps -/

/-- An answer leaves the queue of waiting commands as it was. -/
def KeepsQueue (s : State) (o : Out) : Prop := ∀ t, o = .next t → t.pending = s.pending
theorem next_keepsQueue {s t : State} (h : t.pending = s.pending) : KeepsQueue s (.next t) := fun _ e => by cases e; exact h
theorem ifOk_keepsQueue {ok : Bool} {s t : State} (h : t.pending = s.pending) : KeepsQueue s (ifOk ok t) := fun u e => by
  unfold ifOk at e
  split at e
  · cases e; exact h
  · cases e
theorem stateOr_pending {o : Out} {s : State} (h : KeepsQueue s o) : (stateOr o s).pending = s.pending := by
  unfold stateOr
  split
  · exact h _ rfl
  · rfl

@[simp] theorem execTemperatureBinChange_keepsQueue (head : Nat) (temp : Int) (s : State) :
    KeepsQueue s (execTemperatureBinChange head temp s) :=
  ifOk_keepsQueue (by simp)
@[simp] theorem execMapWrite_keepsQueue (src : Src) (first : Nat) (entries : List MapEntry) (s : State) :
    KeepsQueue s (execMapWrite src first entries s) :=
  next_keepsQueue (by simp)
@[simp] theorem execMapRead_keepsQueue (src : Src) (first count : Nat) (journal : Bool) (s : State) :
    KeepsQueue s (execMapRead src first count journal s) :=
  next_keepsQueue (by simp)
@[simp] theorem execMapCommit_keepsQueue (src : Src) (s : State) : KeepsQueue s (execMapCommit src s) := next_keepsQueue (by simp)
@[simp] theorem execMapFlashWrite_keepsQueue (s : State) : KeepsQueue s (execMapFlashWrite s) := next_keepsQueue (by simp)
@[simp] theorem execMapReload_keepsQueue (s : State) : KeepsQueue s (execMapReload s) := next_keepsQueue (by simp)
@[simp] theorem execSampleTick_keepsQueue (quads : List Quad) (setpt : List Int) (errs : List CtrlErr) (s : State) :
    KeepsQueue s (execSampleTick quads setpt errs s) :=
  next_keepsQueue (by simp [apply_ite State.pending])
@[simp] theorem execUplinkFrameLost_keepsQueue (head : Nat) (badCheck : Bool) (s : State) :
    KeepsQueue s (execUplinkFrameLost head badCheck s) :=
  ifOk_keepsQueue (by simp [apply_ite State.pending])
@[simp] theorem execControlDeadline_keepsQueue (late : List Nat) (s : State) : KeepsQueue s (execControlDeadline late s) :=
  ifOk_keepsQueue (by simp [apply_ite State.pending])
@[simp] theorem execBlindEntry_keepsQueue (axis : Nat) (s : State) : KeepsQueue s (execBlindEntry axis s) :=
  ifOk_keepsQueue (by simp)
@[simp] theorem execBlindExit_keepsQueue (axis : Nat) (s : State) : KeepsQueue s (execBlindExit axis s) := ifOk_keepsQueue (by simp)
@[simp] theorem execFreezeWindowEnd_keepsQueue (axis : Nat) (s : State) : KeepsQueue s (execFreezeWindowEnd axis s) :=
  ifOk_keepsQueue (by simp)
@[simp] theorem execOpenLoopEntry_keepsQueue (axis : Nat) (s : State) : KeepsQueue s (execOpenLoopEntry axis s) :=
  ifOk_keepsQueue (by simp)
@[simp] theorem execRegionFall_keepsQueue (axis : Nat) (s : State) : KeepsQueue s (execRegionFall axis s) :=
  ifOk_keepsQueue (by simp)
@[simp] theorem execRunExit_keepsQueue (axis : Nat) (s : State) : KeepsQueue s (execRunExit axis s) := ifOk_keepsQueue (by simp)
@[simp] theorem execMissRunRelief_keepsQueue (reach : Nat) (s : State) : KeepsQueue s (execMissRunRelief reach s) :=
  ifOk_keepsQueue (by simp)
@[simp] theorem execRelieve_keepsQueue (reach : Nat) (s : State) : KeepsQueue s (execRelieve reach s) := ifOk_keepsQueue (by simp)
@[simp] theorem execReliefShadowing_keepsQueue (s : State) : KeepsQueue s (execReliefShadowing s) := next_keepsQueue (by simp)
@[simp] theorem execReliefCommit_keepsQueue (s : State) : KeepsQueue s (execReliefCommit s) := next_keepsQueue (by simp)
@[simp] theorem execReliefAbandon_keepsQueue (s : State) : KeepsQueue s (execReliefAbandon s) := next_keepsQueue (by simp)
@[simp] theorem execReturnReach_keepsQueue (reach : Nat) (s : State) : KeepsQueue s (execReturnReach reach s) :=
  ifOk_keepsQueue (by simp)
@[simp] theorem execReliefReturn_keepsQueue (s : State) : KeepsQueue s (execReliefReturn s) := next_keepsQueue (by simp)
@[simp] theorem execSwap_keepsQueue (reach : Nat) (classes : BitVec 16) (s : State) : KeepsQueue s (execSwap reach classes s) :=
  ifOk_keepsQueue (by simp)
@[simp] theorem execSwapCommit_keepsQueue (reach : Nat) (s : State) : KeepsQueue s (execSwapCommit reach s) :=
  ifOk_keepsQueue (by simp)
@[simp] theorem execGangChange_keepsQueue (reach gang : Nat) (s : State) : KeepsQueue s (execGangChange reach gang s) :=
  ifOk_keepsQueue (by simp)
@[simp] theorem execAxisFlagsWrite_keepsQueue (reach slot : Nat) (value : Word) (s : State) :
    KeepsQueue s (execAxisFlagsWrite reach slot value s) :=
  ifOk_keepsQueue (by simp)
@[simp] theorem execClear_keepsQueue (reach : Nat) (s : State) : KeepsQueue s (execClear reach s) := ifOk_keepsQueue (by simp)
@[simp] theorem execRecal_keepsQueue (reach : Nat) (s : State) : KeepsQueue s (execRecal reach s) := ifOk_keepsQueue (by simp)
@[simp] theorem execReachEnWrite_keepsQueue (reach : Nat) (en : Bool) (s : State) : KeepsQueue s (execReachEnWrite reach en s) :=
  ifOk_keepsQueue (by simp)
@[simp] theorem execStep_keepsQueue (dir : Bool) (s : State) : KeepsQueue s (execStep dir s) :=
  next_keepsQueue (by simp [apply_ite State.pending])
@[simp] theorem execSetpointRoute_keepsQueue (src : Src) (input : Nat) (clear : Bool) (axis gain shift stepSize : Nat) (s : State) :
    KeepsQueue s (execSetpointRoute src input clear axis gain shift stepSize s) :=
  next_keepsQueue (by simp)
@[simp] theorem execPlanSubmit_keepsQueue (src : Src) (peer : Peer) (proof : List Nat) (s : State) :
    KeepsQueue s (execPlanSubmit src peer proof s) :=
  next_keepsQueue (by simp)
@[simp] theorem execPlanDrop_keepsQueue (src : Src) (planId : Nat) (s : State) : KeepsQueue s (execPlanDrop src planId s) :=
  next_keepsQueue (by simp)
@[simp] theorem execTranslationFault_keepsQueue (space tag addr : Nat) (write : Bool) (barge : Nat) (walk : WalkReads) (s : State) :
    KeepsQueue s (execTranslationFault space tag addr write barge walk s) :=
  ifOk_keepsQueue (by (repeat' split) <;> simp)
@[simp] theorem execTowStop_keepsQueue (space tag : Nat) (s : State) : KeepsQueue s (execTowStop space tag s) :=
  ifOk_keepsQueue (by (repeat' split) <;> simp)
@[simp] theorem execQueueFault_keepsQueue (queue addr : Nat) (write : Bool) (walk : WalkReads) (s : State) :
    KeepsQueue s (execQueueFault queue addr write walk s) :=
  ifOk_keepsQueue (by (repeat' split) <;> simp)
@[simp] theorem execSpaceCreate_keepsQueue (src : Src) (space maxClass : Nat) (hostEn : Bool)
    (saveSlots runAhead cq fq syncTimeout ptRoot seed basinBase basinSize stackBase stackSize : Nat) (s : State) :
    KeepsQueue s (execSpaceCreate src space maxClass hostEn saveSlots runAhead cq fq syncTimeout ptRoot seed basinBase basinSize stackBase stackSize s) :=
  next_keepsQueue (by simp [apply_ite State.pending])
@[simp] theorem execTowEnd_keepsQueue (space tag : Nat) (s : State) : KeepsQueue s (execTowEnd space tag s) :=
  ifOk_keepsQueue (by (repeat' split) <;> simp)
@[simp] theorem execWaitMet_keepsQueue (space tag : Nat) (s : State) : KeepsQueue s (execWaitMet space tag s) :=
  ifOk_keepsQueue (by (repeat' split) <;> simp)
@[simp] theorem execSyncTimeout_keepsQueue (space tag : Nat) (s : State) : KeepsQueue s (execSyncTimeout space tag s) :=
  ifOk_keepsQueue (by (repeat' split) <;> simp)
@[simp] theorem execTowPlacement_keepsQueue (s : State) : KeepsQueue s (execTowPlacement s) :=
  next_keepsQueue (by dsimp only; (repeat' split) <;> simp)
@[simp] theorem execPreemption_keepsQueue (unit : Nat) (s : State) : KeepsQueue s (execPreemption unit s) :=
  ifOk_keepsQueue (by (repeat' split) <;> simp)
@[simp] theorem execBargeFetch_keepsQueue (unit : Nat) (s : State) : KeepsQueue s (execBargeFetch unit s) :=
  ifOk_keepsQueue (by dsimp only; (repeat' split) <;> simp)
@[simp] theorem execBadBarge_keepsQueue (unit : Nat) (s : State) : KeepsQueue s (execBadBarge unit s) :=
  ifOk_keepsQueue (by (repeat' split) <;> simp)
@[simp] theorem execBargeStart_keepsQueue (unit : Nat) (s : State) : KeepsQueue s (execBargeStart unit s) :=
  ifOk_keepsQueue (by dsimp only; (repeat' split) <;> simp -implicitDefEqProofs)
@[simp] theorem execMemoryRequest_keepsQueue (unit addr len : Nat) (walk : WalkReads) (busy : Bool) (s : State) :
    KeepsQueue s (execMemoryRequest unit addr len walk busy s) :=
  ifOk_keepsQueue (by dsimp only; (repeat' split) <;> simp -implicitDefEqProofs)
@[simp] theorem execMemoryDataReturn_keepsQueue (unit addr : Nat) (data : List Byte) (poisoned : Bool) (s : State) :
    KeepsQueue s (execMemoryDataReturn unit addr data poisoned s) :=
  ifOk_keepsQueue (by split <;> simp)
@[simp] theorem execHostWriteDrain_keepsQueue (unit : Nat) (s : State) : KeepsQueue s (execHostWriteDrain unit s) :=
  ifOk_keepsQueue (by dsimp only; (repeat' split) <;> simp)
@[simp] theorem execWait_keepsQueue (unit : Nat) (s : State) : KeepsQueue s (execWait unit s) :=
  ifOk_keepsQueue (by dsimp only; (repeat' split) <;> simp)
@[simp] theorem execFence_keepsQueue (unit : Nat) (s : State) : KeepsQueue s (execFence unit s) :=
  ifOk_keepsQueue (by dsimp only; (repeat' split) <;> simp)
@[simp] theorem execColumnRetire_keepsQueue (array column : Nat) (s : State) : KeepsQueue s (execColumnRetire array column s) :=
  ifOk_keepsQueue (by simp [apply_ite State.pending])
@[simp] theorem execOutOfService_keepsQueue (array : Nat) (s : State) : KeepsQueue s (execOutOfService array s) :=
  ifOk_keepsQueue (by (repeat' split) <;> simp)
@[simp] theorem execBargeComplete_keepsQueue (unit : Nat) (mismatches : List (Nat × Nat × Option Nat)) (s : State) :
    KeepsQueue s (execBargeComplete unit mismatches s) :=
  ifOk_keepsQueue (by dsimp only; (repeat' split) <;> simp)
@[simp] theorem execUnitReserved_keepsQueue (s : State) : KeepsQueue s (execUnitReserved s) := next_keepsQueue (by simp)
@[simp] theorem execAucFeed_keepsQueue (unit : Nat) (s : State) : KeepsQueue s (execAucFeed unit s) :=
  ifOk_keepsQueue (by dsimp only; (repeat' split) <;> simp)
@[simp] theorem execAuctionPhaseEnd_keepsQueue (u : Nat) (s : State) : KeepsQueue s (execAuctionPhaseEnd u s) :=
  ifOk_keepsQueue (by (repeat' split) <;> simp)
@[simp] theorem execSolveLimitExpiry_keepsQueue (u : Nat) (s : State) : KeepsQueue s (execSolveLimitExpiry u s) :=
  ifOk_keepsQueue (by (repeat' split) <;> simp)
@[simp] theorem execCertificateCheck_keepsQueue (u : Nat) (fault : Bool) (s : State) :
    KeepsQueue s (execCertificateCheck u fault s) :=
  ifOk_keepsQueue (by (repeat' split) <;> simp)
@[simp] theorem execAuctionUnitRetire_keepsQueue (u : Nat) (storeError : Bool) (s : State) :
    KeepsQueue s (execAuctionUnitRetire u storeError s) :=
  ifOk_keepsQueue (by dsimp only; (repeat' split) <;> simp)
@[simp] theorem execCartridgeInserted_keepsQueue (bay : Nat) (store : List Byte) (s : State) :
    KeepsQueue s (execCartridgeInserted bay store s) :=
  ifOk_keepsQueue (by simp [apply_ite State.pending])
@[simp] theorem execCartridgeRemoved_keepsQueue (bay : Nat) (s : State) : KeepsQueue s (execCartridgeRemoved bay s) :=
  ifOk_keepsQueue (by simp)
@[simp] theorem execWarmingProof_keepsQueue (bay : Nat) (powers : List Int) (spread : List Nat) (s : State) :
    KeepsQueue s (execWarmingProof bay powers spread s) :=
  ifOk_keepsQueue (by dsimp only; (repeat' split) <;> simp)
@[simp] theorem execWarmingTimeout_keepsQueue (bay : Nat) (s : State) : KeepsQueue s (execWarmingTimeout bay s) :=
  ifOk_keepsQueue (by dsimp only; (repeat' split) <;> simp)
@[simp] theorem execFadeMeasurement_keepsQueue (bay : Nat) (powers : List Int) (s : State) :
    KeepsQueue s (execFadeMeasurement bay powers s) :=
  ifOk_keepsQueue (by simp [apply_ite State.pending])
@[simp] theorem execHourlyFit_keepsQueue (bay : Nat) (s : State) : KeepsQueue s (execHourlyFit bay s) :=
  ifOk_keepsQueue (by simp [apply_ite State.pending])
@[simp] theorem execInsertion_keepsQueue (s : State) : KeepsQueue s (execInsertion s) :=
  next_keepsQueue (by (repeat' split) <;> simp)
@[simp] theorem execTetherLaneMove_keepsQueue (lane : Nat) (s : State) : KeepsQueue s (execTetherLaneMove lane s) :=
  ifOk_keepsQueue (by (repeat' split) <;> simp)
@[simp] theorem execServiceBusMove_keepsQueue (bus : Nat) (s : State) : KeepsQueue s (execServiceBusMove bus s) :=
  ifOk_keepsQueue (by (repeat' split) <;> simp)
@[simp] theorem execInsertionWithoutSpare_keepsQueue (bay : Nat) (s : State) : KeepsQueue s (execInsertionWithoutSpare bay s) :=
  ifOk_keepsQueue (by (repeat' split) <;> simp)
@[simp] theorem execCartQuery_keepsQueue (src : Src) (bay : Nat) (s : State) : KeepsQueue s (execCartQuery src bay s) :=
  next_keepsQueue (by simp [apply_ite State.pending])
@[simp] theorem execHoursUpdate_keepsQueue (bay : Nat) (writeOk : Bool) (s : State) :
    KeepsQueue s (execHoursUpdate bay writeOk s) :=
  ifOk_keepsQueue (by simp [apply_ite State.pending])
@[simp] theorem execStoreWriteRetry_keepsQueue (bay : Nat) (writeOk : Bool) (s : State) :
    KeepsQueue s (execStoreWriteRetry bay writeOk s) :=
  ifOk_keepsQueue (by simp [apply_ite State.pending])
@[simp] theorem execRingRetraining_keepsQueue (ring : Nat) (found : Option Nat) (s : State) :
    KeepsQueue s (execRingRetraining ring found s) :=
  ifOk_keepsQueue (by dsimp only; (repeat' split) <;> simp)
@[simp] theorem execRingLockLoop_keepsQueue (ring : Nat) (err : Half) (s : State) : KeepsQueue s (execRingLockLoop ring err s) :=
  ifOk_keepsQueue (by simp [apply_ite State.pending])
@[simp] theorem execReceiveRingLock_keepsQueue (ring code : Nat) (s : State) : KeepsQueue s (execReceiveRingLock ring code s) :=
  ifOk_keepsQueue (by simp [apply_ite State.pending])
@[simp] theorem execDacRecalibration_keepsQueue (port : Nat) (s : State) : KeepsQueue s (execDacRecalibration port s) :=
  ifOk_keepsQueue (by simp [apply_ite State.pending])
@[simp] theorem execBeaconTrim_keepsQueue (head : Nat) (sum : Int) (s : State) : KeepsQueue s (execBeaconTrim head sum s) :=
  ifOk_keepsQueue (by simp [apply_ite State.pending])
@[simp] theorem execBeaconLoss_keepsQueue (head : Nat) (s : State) : KeepsQueue s (execBeaconLoss head s) :=
  ifOk_keepsQueue (by simp [apply_ite State.pending])
@[simp] theorem execTetherLaneFailover_keepsQueue (lane : Nat) (locked : Bool) (s : State) :
    KeepsQueue s (execTetherLaneFailover lane locked s) :=
  ifOk_keepsQueue (by simp [apply_ite State.pending])
@[simp] theorem execTetherBlockLock_keepsQueue (lane : Nat) (partner : Bool) (s : State) :
    KeepsQueue s (execTetherBlockLock lane partner s) :=
  ifOk_keepsQueue (by simp [apply_ite State.pending])
@[simp] theorem execTetherPairSwitch_keepsQueue (s : State) : KeepsQueue s (execTetherPairSwitch s) := next_keepsQueue (by simp)
@[simp] theorem execConnectorUnmated_keepsQueue (connector : Nat) (s : State) : KeepsQueue s (execConnectorUnmated connector s) :=
  ifOk_keepsQueue (by simp [apply_ite State.pending])
@[simp] theorem execConnectorMated_keepsQueue (connector : Nat) (s : State) : KeepsQueue s (execConnectorMated connector s) :=
  ifOk_keepsQueue (by simp [apply_ite State.pending])
@[simp] theorem execCartTrip_keepsQueue (bay : Nat) (s : State) : KeepsQueue s (execCartTrip bay s) :=
  ifOk_keepsQueue (by simp [apply_ite State.pending])
@[simp] theorem execLockSchedule_keepsQueue (src : Src) (planId : Nat) (supersede lateProof : Bool) (superId : Nat)
    (tOpen : TimeField) (s : State) :
    KeepsQueue s (execLockSchedule src planId supersede lateProof superId tOpen s) :=
  next_keepsQueue (by simp)
@[simp] theorem execLockJoint_keepsQueue (src : Src) (planId : Nat) (lateProof : Bool) (jointId epoch : Nat) (tOpen : TimeField)
    (hash : Nat) (s : State) :
    KeepsQueue s (execLockJoint src planId lateProof jointId epoch tOpen hash s) :=
  next_keepsQueue (by simp)
@[simp] theorem execLockAbort_keepsQueue (src : Src) (cycleId : Nat) (s : State) : KeepsQueue s (execLockAbort src cycleId s) :=
  next_keepsQueue (by simp)
@[simp] theorem execNoticeRepeat_keepsQueue (s : State) : KeepsQueue s (execNoticeRepeat s) := next_keepsQueue (by simp)
@[simp] theorem execTrajectoryBuffersWritten_keepsQueue (cycleId : Nat) (bufs : List TrajBuf) (ok : Bool) (scaled : Option Nat)
    (s : State) :
    KeepsQueue s (execTrajectoryBuffersWritten cycleId bufs ok scaled s) :=
  next_keepsQueue (by simp)
@[simp] theorem execTowDeadline_keepsQueue (cycleId : Nat) (s : State) : KeepsQueue s (execTowDeadline cycleId s) :=
  next_keepsQueue (by simp)
@[simp] theorem execGangArm_keepsQueue (cycleId : Nat) (s : State) : KeepsQueue s (execGangArm cycleId s) :=
  next_keepsQueue (by simp)
@[simp] theorem execJointRecheck_keepsQueue (cycleId : Nat) (s : State) : KeepsQueue s (execJointRecheck cycleId s) :=
  next_keepsQueue (by simp)
@[simp] theorem execOpenTick_keepsQueue (cycleId : Nat) (s : State) : KeepsQueue s (execOpenTick cycleId s) :=
  next_keepsQueue (by simp)
@[simp] theorem execLateOpen_keepsQueue (cycleId : Nat) (s : State) : KeepsQueue s (execLateOpen cycleId s) :=
  next_keepsQueue (by simp)
@[simp] theorem execSlewStart_keepsQueue (cycleId : Nat) (s : State) : KeepsQueue s (execSlewStart cycleId s) :=
  next_keepsQueue (by simp)
@[simp] theorem execWave2Start_keepsQueue (cycleId : Nat) (s : State) : KeepsQueue s (execWave2Start cycleId s) :=
  next_keepsQueue (by simp)
@[simp] theorem execSlewEnd_keepsQueue (axis : Nat) (s : State) : KeepsQueue s (execSlewEnd axis s) := ifOk_keepsQueue (by simp)
@[simp] theorem execCaptured_keepsQueue (a : Nat) (s : State) : KeepsQueue s (execCaptured a s) := ifOk_keepsQueue (by simp)
@[simp] theorem execCaptureMaxExpiry_keepsQueue (a : Nat) (s : State) : KeepsQueue s (execCaptureMaxExpiry a s) :=
  ifOk_keepsQueue (by simp)
@[simp] theorem execProved_keepsQueue (a : Nat) (s : State) : KeepsQueue s (execProved a s) := ifOk_keepsQueue (by simp)
@[simp] theorem execCloseTick_keepsQueue (cycleId : Nat) (s : State) : KeepsQueue s (execCloseTick cycleId s) :=
  next_keepsQueue (by simp)
@[simp] theorem execCycleDeadline_keepsQueue (cycleId : Nat) (s : State) : KeepsQueue s (execCycleDeadline cycleId s) :=
  next_keepsQueue (by simp)
@[simp] theorem execParkReached_keepsQueue (mirror : Nat) (s : State) : KeepsQueue s (execParkReached mirror s) :=
  ifOk_keepsQueue (by simp)
@[simp] theorem execLateProof_keepsQueue (cycleId : Nat) (errored : List (Nat × Nat)) (s : State) :
    KeepsQueue s (execLateProof cycleId errored s) :=
  next_keepsQueue (by simp)
@[simp] theorem execSettleModelUpdate_keepsQueue (s : State) : KeepsQueue s (execSettleModelUpdate s) := next_keepsQueue (by simp)
@[simp] theorem execSyncSample_keepsQueue (base : Nat) (sync : SyncIn) (s : State) : KeepsQueue s (execSyncSample base sync s) :=
  ifOk_keepsQueue (by dsimp only; (repeat' split) <;> simp)
@[simp] theorem execTimeJump_keepsQueue (base : Nat) (s : State) : KeepsQueue s (execTimeJump base s) :=
  ifOk_keepsQueue (by simp [apply_ite State.pending])
@[simp] theorem execFirstStep_keepsQueue (base : Nat) (s : State) : KeepsQueue s (execFirstStep base s) :=
  ifOk_keepsQueue (by simp [apply_ite State.pending])
@[simp] theorem execAnnounceTimeout_keepsQueue (base : Nat) (masterLost : Bool) (s : State) :
    KeepsQueue s (execAnnounceTimeout base masterLost s) :=
  ifOk_keepsQueue (by simp [apply_ite State.pending])
@[simp] theorem execSlewDone_keepsQueue (base : Nat) (s : State) : KeepsQueue s (execSlewDone base s) :=
  ifOk_keepsQueue (by simp [apply_ite State.pending])
@[simp] theorem execTimeAcceptJump_keepsQueue (src : Src) (base : Nat) (s : State) : KeepsQueue s (execTimeAcceptJump src base s) :=
  next_keepsQueue (by simp [apply_ite State.pending])
@[simp] theorem execTimeSetGm_keepsQueue (src : Src)
    (seconds utcOffset tsFlags clockClass clockAccuracy priority1 priority2 : Nat) (s : State) :
    KeepsQueue s (execTimeSetGm src seconds utcOffset tsFlags clockClass clockAccuracy priority1 priority2 s) :=
  next_keepsQueue (by simp [apply_ite State.pending])
@[simp] theorem execPpsInEdge_keepsQueue (falling : Bool) (width : Nat) (s : State) :
    KeepsQueue s (execPpsInEdge falling width s) :=
  next_keepsQueue (by dsimp only; (repeat' split) <;> simp)
@[simp] theorem execPpsLost_keepsQueue (s : State) : KeepsQueue s (execPpsLost s) :=
  next_keepsQueue (by simp [apply_ite State.pending])
@[simp] theorem execPpsOutPulse_keepsQueue (s : State) : KeepsQueue s (execPpsOutPulse s) :=
  next_keepsQueue (by simp [apply_ite State.pending])
@[simp] theorem execPtpMessage_keepsQueue (port : Nat) (kind : PtpKind) (domain transport : Nat) (malformed : Bool) (s : State) :
    KeepsQueue s (execPtpMessage port kind domain transport malformed s) :=
  ifOk_keepsQueue (by dsimp only; (repeat' split) <;> simp)
@[simp] theorem execPtpTransmit_keepsQueue (port base : Nat) (kind : PtpKind) (s : State) :
    KeepsQueue s (execPtpTransmit port base kind s) :=
  ifOk_keepsQueue (by simp [apply_ite State.pending])
@[simp] theorem execEthernetLinkChange_keepsQueue (port : Nat) (link fec : Bool) (s : State) :
    KeepsQueue s (execEthernetLinkChange port link fec s) :=
  ifOk_keepsQueue (by simp [apply_ite State.pending])
@[simp] theorem execPeriodWrite_keepsQueue (value : Nat) (s : State) : KeepsQueue s (execPeriodWrite value s) :=
  next_keepsQueue (by simp [apply_ite State.pending])
@[simp] theorem execTbNowRead_keepsQueue (base : Nat) (s : State) : KeepsQueue s (execTbNowRead base s) := ifOk_keepsQueue (by simp)
@[simp] theorem execFunctionLevelReset_keepsQueue (s : State) : KeepsQueue s (execFunctionLevelReset s) :=
  next_keepsQueue (by simp [apply_ite State.pending])
@[simp] theorem execLinkDown_keepsQueue (s : State) : KeepsQueue s (execLinkDown s) :=
  next_keepsQueue (by simp [apply_ite State.pending])
@[simp] theorem execPerstN_keepsQueue (level : Bool) (s : State) : KeepsQueue s (execPerstN level s) :=
  next_keepsQueue (by simp [apply_ite State.pending])
@[simp] theorem execWarmReset_keepsQueue (cause : Nat) (s : State) : KeepsQueue s (execWarmReset cause s) :=
  next_keepsQueue (by simp [apply_ite State.pending])
@[simp] theorem execResetN_keepsQueue (low : Bool) (straps : Straps) (s : State) : KeepsQueue s (execResetN low straps s) :=
  next_keepsQueue (by simp [apply_ite State.pending])
@[simp] theorem execPowerOn_keepsQueue (keelRail resetLow : Bool) (straps : Straps) (s : State) :
    KeepsQueue s (execPowerOn keelRail resetLow straps s) :=
  next_keepsQueue (by simp [apply_ite State.pending])
@[simp] theorem execRailRelease_keepsQueue (s : State) : KeepsQueue s (execRailRelease s) :=
  next_keepsQueue (by simp [apply_ite State.pending])
@[simp] theorem execBootWatchdog_keepsQueue (s : State) : KeepsQueue s (execBootWatchdog s) :=
  next_keepsQueue (by simp [apply_ite State.pending])
@[simp] theorem execKeelReset_keepsQueue (value : Word) (s : State) : KeepsQueue s (execKeelReset value s) :=
  next_keepsQueue (by simp [apply_ite State.pending])
@[simp] theorem execFatalError_keepsQueue (cause : Nat) (s : State) : KeepsQueue s (execFatalError cause s) :=
  next_keepsQueue (by simp [apply_ite State.pending])
@[simp] theorem execMemoryTest_keepsQueue (rows channels : List (Nat × Nat)) (sysRowShort : Bool) (s : State) :
    KeepsQueue s (execMemoryTest rows channels sysRowShort s) :=
  next_keepsQueue (by simp [apply_ite State.pending])
@[simp] theorem execMemoryInitialisation_keepsQueue (rows channels : List (Nat × Nat)) (s : State) :
    KeepsQueue s (execMemoryInitialisation rows channels s) :=
  next_keepsQueue (by simp [apply_ite State.pending])
@[simp] theorem execArraySelfTest_keepsQueue (columns : List (Nat × Nat)) (s : State) :
    KeepsQueue s (execArraySelfTest columns s) :=
  next_keepsQueue (by simp [apply_ite State.pending])
@[simp] theorem execPoundLoad_keepsQueue (n : Nat) (s : State) : KeepsQueue s (execPoundLoad n s) :=
  ifOk_keepsQueue (by simp [apply_ite State.pending])
@[simp] theorem execTowpathTraining_keepsQueue (head : Nat) (lanes : List Nat) (desc : HeadDesc) (faulty : List Nat) (s : State) :
    KeepsQueue s (execTowpathTraining head lanes desc faulty s) :=
  ifOk_keepsQueue (by simp [apply_ite State.pending])
@[simp] theorem execTowpathRetrain_keepsQueue (head : Nat) (lanes : List Nat) (desc : HeadDesc) (faulty : List Nat) (s : State) :
    KeepsQueue s (execTowpathRetrain head lanes desc faulty s) :=
  ifOk_keepsQueue (by simp [apply_ite State.pending])
@[simp] theorem execLoopAudit_keepsQueue (held : List (Nat × Half)) (grantA : Option Nat) (grantB : Bool) (proved : List Nat)
    (s : State) :
    KeepsQueue s (execLoopAudit held grantA grantB proved s) :=
  next_keepsQueue (by simp [apply_ite State.pending])
@[simp] theorem execWarmResume_keepsQueue (held : List (Nat × Half)) (grantA : Option Nat) (grantB : Bool) (s : State) :
    KeepsQueue s (execWarmResume held grantA grantB s) :=
  next_keepsQueue (by simp -implicitDefEqProofs [apply_ite State.pending])
@[simp] theorem execResetCycleNotice_keepsQueue (s : State) : KeepsQueue s (execResetCycleNotice s) :=
  next_keepsQueue (by simp [apply_ite State.pending])
@[simp] theorem execBootRecordFlashCopy_keepsQueue (s : State) : KeepsQueue s (execBootRecordFlashCopy s) :=
  next_keepsQueue (by simp [apply_ite State.pending])
@[simp] theorem execInputLow_keepsQueue (s : State) : KeepsQueue s (execInputLow s) :=
  next_keepsQueue (by simp [apply_ite State.pending])
@[simp] theorem execInputLowEnd_keepsQueue (s : State) : KeepsQueue s (execInputLowEnd s) :=
  next_keepsQueue (by simp [apply_ite State.pending])
@[simp] theorem execInputFatal_keepsQueue (s : State) : KeepsQueue s (execInputFatal s) :=
  next_keepsQueue (by simp [apply_ite State.pending])
@[simp] theorem execPhaseIsolation_keepsQueue (phase : Nat) (s : State) : KeepsQueue s (execPhaseIsolation phase s) :=
  ifOk_keepsQueue (by simp [apply_ite State.pending])
@[simp] theorem execPowerManagerStep_keepsQueue (paces : List Nat) (slowest fastest input current : Nat) (s : State) :
    KeepsQueue s (execPowerManagerStep paces slowest fastest input current s) :=
  next_keepsQueue (by simp [apply_ite State.pending])
@[simp] theorem execCapMiss_keepsQueue (s : State) : KeepsQueue s (execCapMiss s) := next_keepsQueue (by (repeat' split) <;> simp)
@[simp] theorem execPowerCap_keepsQueue (src : Src) (cap pace : Nat) (s : State) : KeepsQueue s (execPowerCap src cap pace s) :=
  next_keepsQueue (by simp [apply_ite State.pending])
@[simp] theorem execThermalHalt_keepsQueue (array : Nat) (s : State) : KeepsQueue s (execThermalHalt array s) :=
  ifOk_keepsQueue (by (repeat' split) <;> simp)
@[simp] theorem execThermalFatal_keepsQueue (s : State) : KeepsQueue s (execThermalFatal s) :=
  next_keepsQueue (by (repeat' split) <;> simp)
@[simp] theorem execRungSet_keepsQueue (src : Src) (rung : Nat) (s : State) : KeepsQueue s (execRungSet src rung s) :=
  next_keepsQueue (by simp)
@[simp] theorem execRungRequestWrite_keepsQueue (value : Word) (s : State) : KeepsQueue s (execRungRequestWrite value s) :=
  next_keepsQueue (by simp)
@[simp] theorem execRungRise_keepsQueue (s : State) : KeepsQueue s (execRungRise s) :=
  next_keepsQueue (by simp [apply_ite State.pending])
@[simp] theorem execRungDescent_keepsQueue (s : State) : KeepsQueue s (execRungDescent s) :=
  next_keepsQueue (by simp [apply_ite State.pending])
@[simp] theorem execMoorTouchUp_keepsQueue (openLoop : Bool) (s : State) : KeepsQueue s (execMoorTouchUp openLoop s) :=
  next_keepsQueue (by simp [apply_ite State.pending])
@[simp] theorem execWake_keepsQueue (s : State) : KeepsQueue s (execWake s) := next_keepsQueue (by simp [apply_ite State.pending])
@[simp] theorem execWakeTimer_keepsQueue (s : State) : KeepsQueue s (execWakeTimer s) :=
  next_keepsQueue (by simp [apply_ite State.pending])
@[simp] theorem execCommandWake_keepsQueue (s : State) : KeepsQueue s (execCommandWake s) :=
  next_keepsQueue (by simp [apply_ite State.pending])
@[simp] theorem execThermalL1Entry_keepsQueue (s : State) : KeepsQueue s (execThermalL1Entry s) :=
  next_keepsQueue (by (repeat' split) <;> simp)
@[simp] theorem execThermalRecovery_keepsQueue (s : State) : KeepsQueue s (execThermalRecovery s) :=
  next_keepsQueue (by simp [apply_ite State.pending])
@[simp] theorem execJournal_keepsQueue (seq : Nat) (item : JItem) (s : State) : KeepsQueue s (execJournal seq item s) :=
  next_keepsQueue (by simp [apply_ite State.pending])
@[simp] theorem execIneligibleEntry_keepsQueue (s : State) : KeepsQueue s (execIneligibleEntry s) :=
  next_keepsQueue (by (repeat' split) <;> simp)
@[simp] theorem execIneligibleResync_keepsQueue (s : State) : KeepsQueue s (execIneligibleResync s) :=
  next_keepsQueue (by simp [apply_ite State.pending])
@[simp] theorem execTetherUp_keepsQueue (s : State) : KeepsQueue s (execTetherUp s) :=
  next_keepsQueue (by simp [apply_ite State.pending])
@[simp] theorem execSnapshotComplete_keepsQueue (s : State) : KeepsQueue s (execSnapshotComplete s) :=
  next_keepsQueue (by simp [apply_ite State.pending])
@[simp] theorem execCopyFrame_keepsQueue (f : CopyFrame) (since : Nat) (s : State) : KeepsQueue s (execCopyFrame f since s) :=
  next_keepsQueue (by simp [apply_ite State.pending])
@[simp] theorem execHeartbeatMissed_keepsQueue (s : State) : KeepsQueue s (execHeartbeatMissed s) :=
  next_keepsQueue (by dsimp only; (repeat' split) <;> simp)
@[simp] theorem execHeartbeatLoss_keepsQueue (s : State) : KeepsQueue s (execHeartbeatLoss s) :=
  next_keepsQueue (by (repeat' split) <;> simp)
@[simp] theorem execReturnFrame_keepsQueue (f : ReturnFrame) (s : State) : KeepsQueue s (execReturnFrame f s) :=
  next_keepsQueue (by simp [apply_ite State.pending])
@[simp] theorem execJournalResend_keepsQueue (s : State) : KeepsQueue s (execJournalResend s) :=
  next_keepsQueue (by simp -implicitDefEqProofs [apply_ite State.pending])
@[simp] theorem execRepairRequest_keepsQueue (seq mask : Nat) (s : State) : KeepsQueue s (execRepairRequest seq mask s) :=
  next_keepsQueue (by simp [apply_ite State.pending])
@[simp] theorem execRepairTimeout_keepsQueue (s : State) : KeepsQueue s (execRepairTimeout s) :=
  next_keepsQueue (by (repeat' split) <;> simp)
@[simp] theorem execUplinkFrame_keepsQueue (head : Nat) (t : Trailer) (s : State) : KeepsQueue s (execUplinkFrame head t s) :=
  ifOk_keepsQueue (by simp [apply_ite State.pending])
@[simp] theorem execClaim_keepsQueue (s : State) : KeepsQueue s (execClaim s) := next_keepsQueue (by simp [apply_ite State.pending])
@[simp] theorem execPairHandover_keepsQueue (src : Src) (force take : Bool) (s : State) :
    KeepsQueue s (execPairHandover src force take s) :=
  next_keepsQueue (by simp)
@[simp] theorem execPairStatus_keepsQueue (src : Src) (s : State) : KeepsQueue s (execPairStatus src s) := next_keepsQueue (by simp)
@[simp] theorem execHandoverContinue_keepsQueue (s : State) : KeepsQueue s (execHandoverContinue s) :=
  next_keepsQueue (by dsimp only; (repeat' split) <;> simp)
@[simp] theorem execLightGained_keepsQueue (port : Nat) (s : State) : KeepsQueue s (execLightGained port s) :=
  ifOk_keepsQueue (by simp [apply_ite State.pending])
@[simp] theorem execLightLost_keepsQueue (port : Nat) (s : State) : KeepsQueue s (execLightLost port s) :=
  ifOk_keepsQueue (by simp [apply_ite State.pending])
@[simp] theorem execAbsentTimeout_keepsQueue (port : Nat) (s : State) : KeepsQueue s (execAbsentTimeout port s) :=
  ifOk_keepsQueue (by simp [apply_ite State.pending])
@[simp] theorem execBerthPassStart_keepsQueue (s : State) : KeepsQueue s (execBerthPassStart s) :=
  next_keepsQueue (by simp -implicitDefEqProofs [apply_ite State.pending])
@[simp] theorem execBerthCycle_keepsQueue (s : State) : KeepsQueue s (execBerthCycle s) :=
  next_keepsQueue (by dsimp only; (repeat' split) <;> simp)
@[simp] theorem execIdentityRefresh_keepsQueue (port : Nat) (s : State) : KeepsQueue s (execIdentityRefresh port s) :=
  ifOk_keepsQueue (by simp [apply_ite State.pending])
@[simp] theorem execHello_keepsQueue (port : Nat) (s : State) : KeepsQueue s (execHello port s) :=
  ifOk_keepsQueue (by simp [apply_ite State.pending])
@[simp] theorem execIdent_keepsQueue (port : Nat) (f : IdentFrame) (s : State) : KeepsQueue s (execIdent port f s) :=
  ifOk_keepsQueue (by simp [apply_ite State.pending])
@[simp] theorem execIdentTimeout_keepsQueue (port : Nat) (s : State) : KeepsQueue s (execIdentTimeout port s) :=
  ifOk_keepsQueue (by simp [apply_ite State.pending])
@[simp] theorem execMirrorFault_keepsQueue (port : Nat) (faulty : Bool) (s : State) :
    KeepsQueue s (execMirrorFault port faulty s) :=
  ifOk_keepsQueue (by simp [apply_ite State.pending])
@[simp] theorem execPortStateGet_keepsQueue (src : Src) (first count : Nat) (s : State) :
    KeepsQueue s (execPortStateGet src first count s) :=
  next_keepsQueue (by simp [apply_ite State.pending])
@[simp] theorem execPortQuarantine_keepsQueue (src : Src) (port : Nat) (clear : Bool) (s : State) :
    KeepsQueue s (execPortQuarantine src port clear s) :=
  next_keepsQueue (by simp)
@[simp] theorem execPortAcceptAsFound_keepsQueue (src : Src) (port : Nat) (s : State) :
    KeepsQueue s (execPortAcceptAsFound src port s) :=
  next_keepsQueue (by simp)
@[simp] theorem execBerthCheck_keepsQueue (src : Src) (port : Nat) (s : State) : KeepsQueue s (execBerthCheck src port s) :=
  next_keepsQueue (by simp)
@[simp] theorem execImageStage_keepsQueue (src : Src) (slot _addr length : Nat) (img : Image) (flashOk : Bool) (s : State) :
    KeepsQueue s (execImageStage src slot _addr length img flashOk s) :=
  next_keepsQueue (by simp [apply_ite State.pending])
@[simp] theorem execFlashWp_keepsQueue (level : Bool) (s : State) : KeepsQueue s (execFlashWp level s) :=
  next_keepsQueue (by dsimp only; (repeat' split) <;> simp)
@[simp] theorem execImageActivate_keepsQueue (src : Src) (slot : Nat) (s : State) : KeepsQueue s (execImageActivate src slot s) :=
  next_keepsQueue (by simp)
@[simp] theorem execPoundReload_keepsQueue (src : Src) (pound : Nat) (crcOk : Bool) (s : State) :
    KeepsQueue s (execPoundReload src pound crcOk s) :=
  next_keepsQueue (by simp [apply_ite State.pending])
@[simp] theorem execUnlock_keepsQueue (n : Nat) (value : Bool) (s : State) : KeepsQueue s (execUnlock n value s) :=
  ifOk_keepsQueue (by simp)
@[simp] theorem execCoreReportMissed_keepsQueue (core : Nat) (s : State) : KeepsQueue s (execCoreReportMissed core s) :=
  ifOk_keepsQueue (by simp)
@[simp] theorem execBlockWatchdog_keepsQueue (block : Nat) (s : State) : KeepsQueue s (execBlockWatchdog block s) :=
  next_keepsQueue (by simp [apply_ite State.pending])
@[simp] theorem execRowSparing_keepsQueue (bank row word : Nat) (uncorrectable : Bool) (s : State) :
    KeepsQueue s (execRowSparing bank row word uncorrectable s) :=
  ifOk_keepsQueue (by simp [apply_ite State.pending])
@[simp] theorem execChannelMigration_keepsQueue (stack channel word errors : Nat) (uncorrectable : Bool) (s : State) :
    KeepsQueue s (execChannelMigration stack channel word errors uncorrectable s) :=
  ifOk_keepsQueue (by simp [apply_ite State.pending])
@[simp] theorem execTowpathLaneFailover_keepsQueue (head lane : Nat) (s : State) :
    KeepsQueue s (execTowpathLaneFailover head lane s) :=
  ifOk_keepsQueue (by simp)
@[simp] theorem execLogFreeze_keepsQueue (src : Src) (s : State) : KeepsQueue s (execLogFreeze src s) := next_keepsQueue (by simp)
@[simp] theorem execLogThaw_keepsQueue (src : Src) (s : State) : KeepsQueue s (execLogThaw src s) := next_keepsQueue (by simp)
@[simp] theorem execLogMark_keepsQueue (src : Src) (mark : Nat) (rewind : Bool) (s : State) :
    KeepsQueue s (execLogMark src mark rewind s) :=
  next_keepsQueue (by simp)
@[simp] theorem execDump_keepsQueue (flashOk : Bool) (s : State) : KeepsQueue s (execDump flashOk s) := next_keepsQueue (by simp)
@[simp] theorem execKeelCopyDump_keepsQueue (flashOk : Bool) (s : State) : KeepsQueue s (execKeelCopyDump flashOk s) :=
  next_keepsQueue (by simp [apply_ite State.pending])
@[simp] theorem execLoad_keepsQueue (slot : Nat) (s : State) : KeepsQueue s (execLoad slot s) := ifOk_keepsQueue (by simp)
@[simp] theorem execCounterGrant_keepsQueue (src : Src) (group : Nat) (revoke : Bool) (s : State) :
    KeepsQueue s (execCounterGrant src group revoke s) :=
  next_keepsQueue (by simp)
@[simp] theorem execCntClear_keepsQueue (counter : Nat) (s : State) : KeepsQueue s (execCntClear counter s) :=
  ifOk_keepsQueue (by simp)
@[simp] theorem execCntBindWrite_keepsQueue (k space : Nat) (en : Bool) (s : State) :
    KeepsQueue s (execCntBindWrite k space en s) :=
  ifOk_keepsQueue (by simp -implicitDefEqProofs)
@[simp] theorem execCounterWindowClose_keepsQueue (bytes : List (Nat × Nat)) (s : State) :
    KeepsQueue s (execCounterWindowClose bytes s) :=
  next_keepsQueue (by simp)
@[simp] theorem execDoorbell_keepsQueue (queue index : Nat) (s : State) : KeepsQueue s (execDoorbell queue index s) :=
  ifOk_keepsQueue (by simp [apply_ite State.pending])
@[simp] theorem execH2dFetch_keepsQueue (queue : Nat) (cells : List (List Byte)) (poison : List Nat) (s : State) :
    KeepsQueue s (execH2dFetch queue cells poison s) :=
  ifOk_keepsQueue (by simp)
@[simp] theorem execD2hWrite_keepsQueue (queue : Nat) (s : State) : KeepsQueue s (execD2hWrite queue s) := ifOk_keepsQueue (by simp)
@[simp] theorem execPoolInitialisation_keepsQueue (s : State) : KeepsQueue s (execPoolInitialisation s) :=
  next_keepsQueue (by simp [apply_ite State.pending])
@[simp] theorem execQueueEnable_keepsQueue (s : State) : KeepsQueue s (execQueueEnable s) := next_keepsQueue (by simp)
@[simp] theorem execQueueDisable_keepsQueue (s : State) : KeepsQueue s (execQueueDisable s) := next_keepsQueue (by simp)
@[simp] theorem execQueueScrub_keepsQueue (queue : Nat) (s : State) : KeepsQueue s (execQueueScrub queue s) :=
  ifOk_keepsQueue (by simp [apply_ite State.pending])
@[simp] theorem execLinkParityFail_keepsQueue (queue : Nat) (s : State) : KeepsQueue s (execLinkParityFail queue s) :=
  ifOk_keepsQueue (by simp [apply_ite State.pending])
@[simp] theorem execCommandTake_keepsQueue (s : State) : KeepsQueue s (execCommandTake s) :=
  next_keepsQueue (by simp [apply_ite State.pending])
@[simp] theorem execPolicyCell_keepsQueue (s : State) : KeepsQueue s (execPolicyCell s) := next_keepsQueue (by simp)
@[simp] theorem execPairLoRead_keepsQueue (offset : Nat) (s : State) : KeepsQueue s (execPairLoRead offset s) :=
  next_keepsQueue (by simp [apply_ite State.pending])
@[simp] theorem execRcRead_keepsQueue (offset : Nat) (s : State) : KeepsQueue s (execRcRead offset s) :=
  next_keepsQueue (by simp [apply_ite State.pending])
@[simp] theorem execBar0MalformedAccess_keepsQueue (_bar4 write : Bool) (s : State) :
    KeepsQueue s (execBar0MalformedAccess _bar4 write s) :=
  next_keepsQueue (by simp [apply_ite State.pending])
@[simp] theorem execBar2Access_keepsQueue (offset len : Nat) (write : Option (List Byte)) (s : State) :
    KeepsQueue s (execBar2Access offset len write s) :=
  next_keepsQueue (by simp [apply_ite State.pending])
@[simp] theorem execConfigurationWrite_keepsQueue (d3hot busMaster : Bool) (s : State) :
    KeepsQueue s (execConfigurationWrite d3hot busMaster s) :=
  next_keepsQueue (by simp [apply_ite State.pending])
@[simp] theorem execResume_keepsQueue (s : State) : KeepsQueue s (execResume s) := next_keepsQueue (by simp)
@[simp] theorem execGo_keepsQueue (space : Nat) (queue all : Bool) (size : Nat) (s : State) :
    KeepsQueue s (execGo space queue all size s) :=
  ifOk_keepsQueue (by simp)
@[simp] theorem execIdentify_keepsQueue (src : Src) (s : State) : KeepsQueue s (execIdentify src s) := next_keepsQueue (by simp)
@[simp] theorem execStatusSnapshot_keepsQueue (src : Src) (s : State) : KeepsQueue s (execStatusSnapshot src s) :=
  next_keepsQueue (by simp)
@[simp] theorem execFaultResume_keepsQueue (src : Src) (space : Nat) (all : Bool) (faultId : Nat) (s : State) :
    KeepsQueue s (execFaultResume src space all faultId s) :=
  next_keepsQueue (State.handle_pending _ _ _ _ fun t => by split <;> simp -implicitDefEqProofs [apply_ite State.pending])
@[simp] theorem execSpaceDestroy_keepsQueue (src : Src) (space : Nat) (s : State) : KeepsQueue s (execSpaceDestroy src space s) :=
  next_keepsQueue (State.handle_pending _ _ _ _ fun t => by (repeat' split) <;> simp)
@[simp] theorem execTowSubmit_keepsQueue (src : Src) (space cls count tag addr : Nat) (s : State) :
    KeepsQueue s (execTowSubmit src space cls count tag addr s) :=
  next_keepsQueue (State.handle_pending _ _ _ _ fun t => by split <;> simp [apply_ite State.pending])
@[simp] theorem execTowCancel_keepsQueue (src : Src) (space tag : Nat) (s : State) : KeepsQueue s (execTowCancel src space tag s) :=
  next_keepsQueue (State.handle_pending _ _ _ _ fun t => by (repeat' split) <;> simp)
@[simp] theorem execCartSwap_keepsQueue (src : Src) (bay : Nat) (retire : Bool) (s : State) : KeepsQueue s (execCartSwap src bay retire s) :=
  next_keepsQueue (State.handle_pending _ _ _ _ fun t => by (repeat' split) <;> simp)
@[simp] theorem execResonanceSearch_keepsQueue (found : List (Nat × Option Nat)) (s : State) :
    KeepsQueue s (execResonanceSearch found s) :=
  by
  refine next_keepsQueue ?_
  split
  · simp only [State.showPorts_pending, State.fset_pending]
    rw [foldl_keeps State.pending]
    · simp -implicitDefEqProofs [apply_ite State.pending]
    · intro t r; (repeat' split) <;> simp
  · rfl
@[simp] theorem execWarmSearch_keepsQueue (found : List (Nat × Option Nat)) (s : State) : KeepsQueue s (execWarmSearch found s) :=
  by
  refine next_keepsQueue ?_
  split
  · simp only [State.showPorts_pending, State.fset_pending]
    exact foldl_keeps State.pending _ _ (fun t r => by (repeat' split) <;> simp) s
  · rfl
@[simp] theorem execTemperatureRead_keepsQueue (temps : List (Nat × Int)) (s : State) :
    KeepsQueue s (execTemperatureRead temps s) :=
  by
  refine next_keepsQueue ?_
  simp only [State.judgeAllHalted_pending, foldl_pending, State.judgeCool_pending, State.judgeCold_pending, State.judgeStacks_pending,
    State.judgePhotonic_pending, State.judgeJunction_pending, implies_true]
  exact foldl_keeps State.pending _ _ (fun t n => by split <;> rfl) s
theorem ite_pending {c : Prop} [Decidable c] {s t : State} {p : List Instr} (hs : s.pending = p) (ht : t.pending = p) :
    (if c then s else t).pending = p := by
  split
  · exact hs
  · exact ht

@[simp] theorem execAuctionResult_keepsQueue (u : Nat) (s : State) : KeepsQueue s (execAuctionResult u s) := by
  refine ifOk_keepsQueue ?_
  split
  · rfl
  · split
    · refine ite_pending rfl ?_
      extract_lets f library ins planId skipped s1 s2 r s3 at0 s4 s5 s6 s7 s8 s9 s10 s11 s12
      have inserted : ∀ p, ins = some p → p.2.pending = s.pending := fun p hp => by
        have hp' : s.insertPlan 1 _ _ _ _ [] = some (p.1, p.2) := (Option.ite_none_right_eq_some.mp hp).2
        exact State.insertPlan_pending hp'
      clear_value ins
      have h1 : s1.pending = s.pending := by
        unfold s1
        split
        · exact inserted _ rfl
        · rfl
      have h5 : s5.pending = s.pending := by simp [s5, s3, r, s2, h1, apply_ite State.pending]
      have h11 : s11.pending = s.pending := by simp [s11, s10, s9, s8, s7, s6, h5, apply_ite State.pending]
      exact ite_pending (by simp [s12, h11]) (by simp [s12, h11])
    · rfl
@[simp] theorem injectNow_pending (target index : Nat) (s : State) : (injectNow target index s).pending = s.pending := by
  have from_fire : ∀ {o : Out}, KeepsQueue s.fire o → ((stateOr o s).unmark).pending = s.pending := fun h =>
    (State.unmark_pending _).trans (stateOr_pending h)
  unfold injectNow
  split
  · (repeat' split) <;> simp
  · split
    · exact from_fire (by simp)
    · rfl
  · split <;> simp
  · split
    · exact from_fire (by simp)
    · rfl
  · split
    · exact from_fire (by simp)
    · rfl
  · rfl
@[simp] theorem rasInject_pending (target index : Nat) (s : State) : (rasInject target index s).pending = s.pending := by
  simp [rasInject, apply_ite State.pending]
@[simp] theorem State.writeInject_pending (s : State) (v : Word) : (s.writeInject v).pending = s.pending := by
  simp [State.writeInject, apply_ite State.pending]
@[simp] theorem State.writeBlock_pending (s : State) (off : Nat) (v : Word) : (s.writeBlock off v).pending = s.pending := by
  unfold State.writeBlock
  dsimp only
  split
  · exact ite_pending (stateOr_pending (execKeelReset_keepsQueue v s)) (by simp)
  all_goals simp [apply_ite State.pending]
@[simp] theorem execRasInject_keepsQueue (target index : Nat) (s : State) : KeepsQueue s (execRasInject target index s) :=
  next_keepsQueue (by simp)
@[simp] theorem execRegisterWrite_keepsQueue (offset : Nat) (value : Word) (s : State) : KeepsQueue s (execRegisterWrite offset value s) :=
  ifOk_keepsQueue (by simp)

/-! ## The answers of commands -/

/-- Every command answers by the check of its object numbers alone. -/
theorem exec_eq_ifOk (c : Instr) (s : State) : ∃ t, exec c s = ifOk c.wf t := by
  cases c <;> exact ⟨_, rfl⟩

theorem exec_next_of_wf {c : Instr} (h : c.wf = true) (s : State) : ∃ t, exec c s = .next t := by
  obtain ⟨t, ht⟩ := exec_eq_ifOk c s
  exact ⟨t, by rw [ht, ifOk, if_pos h]⟩

theorem exec_fault_of_not_wf {c : Instr} (h : c.wf = false) (s : State) : exec c s = .fault .noSuchObject := by
  obtain ⟨t, ht⟩ := exec_eq_ifOk c s
  rw [ht, ifOk, if_neg (by simp [h])]

theorem State.advance_tb3 (s : State) (n : Nat) : (s.advance n).time.tb3 = s.time.tb3 + n := by simp [State.advance]

/-! ## The statements -/

/-- Settles O4: whatever the command, its answer is a state whose operations keep the queue. -/
theorem execKeepsQueue : Obligations.ExecKeepsQueue := by
  intro c s
  show KeepsQueue s (exec c s)
  cases c <;> simp [exec]

/-- Settles O5: the check of the object numbers alone decides between a next state and the fault. -/
theorem wellFormedGoesOn : Obligations.WellFormedGoesOn :=
  fun _ s => ⟨fun h => exec_next_of_wf h s, fun h => exec_fault_of_not_wf h s⟩

/-- Settles O6: an idle step keeps the queue empty; any other answers a next state and leaves the queue's rest. -/
theorem runsNeverStop : Obligations.RunsNeverStop := by
  intro s hwf
  cases hs : s.pending with
  | nil =>
    refine ⟨s.advance 1, by rw [step, hs], by rw [State.advance_pending, hs]; rfl, fun c hc => ?_⟩
    rw [State.advance_pending] at hc
    exact hwf c hc
  | cons c rest =>
    obtain ⟨t, ht⟩ := exec_next_of_wf (hwf c (by simp [hs])) { s with pending := rest }
    have hqueue : t.pending = rest := execKeepsQueue c _ t ht
    refine ⟨t, by rw [step, hs]; exact ht, hqueue, fun d hd => hwf d ?_⟩
    rw [hs]
    exact List.mem_cons_of_mem c (hqueue ▸ hd)

/-- Settles O1: a step with a command is exec of it on the rest, and an idle step advances every base by one count. -/
theorem stepRunsFront : Obligations.StepRunsFront := by
  refine ⟨fun _ _ _ => rfl, fun s hidle => ⟨s.advance 1, by rw [step, hidle], rfl, ?_, s.advance_tb3 1⟩⟩
  rw [State.advance_pending, hidle]

/-- Settles O2: the reset state lists no word and holds nothing, so each part evaluates. -/
theorem resetValues : Obligations.ResetValues := by
  refine ⟨rfl, rfl, ?_, ?_, ?_, ?_, fun _ => rfl, ?_, ?_, ?_, ?_, ?_, rfl, rfl, rfl, rfl, rfl, rfl, rfl, rfl, ?_, fun _ => ⟨rfl, rfl⟩⟩
  all_goals decide +kernel

end Sys2Proof.Machine
end

section
/-!
PROOFS. Register fields: what a chain of field writes leaves, in a form that later proofs carry from write to write.
-/

namespace Sys2Proof.Machine

/-- t is s with register fields of l written and nothing else changed; the register file of t is in canonical form. -/
structure State.Writes (s t : State) (l : List Fld) : Prop where
  form : wordsWf 0 t.regs = true
  frame : t = { s with regs := t.regs }
  kept : fieldsKept s t l

namespace State.Writes

variable {s t u : State} {l m : List Fld}

theorem refl (w : wordsWf 0 s.regs = true) (l : List Fld) : s.Writes s l := ⟨w, rfl, fun _ _ => rfl⟩

theorem mono (h : s.Writes t l) (hl : ∀ f ∈ l, f ∈ m) : s.Writes t m :=
  ⟨h.form, h.frame, fun g hg => h.kept g fun f hf => hg f (hl f hf)⟩

theorem trans (h : s.Writes t l) (k : t.Writes u l) : s.Writes u l :=
  ⟨k.form, by rw [k.frame, h.frame], fun g hg => (k.kept g hg).trans (h.kept g hg)⟩

/-- One more field of the list is written. -/
theorem fset (h : s.Writes t l) {f : Fld} (hf : f ∈ l) (fits : f.lo + f.width ≤ 32) (v : Nat) : s.Writes (t.fset f v) l :=
  h.trans ⟨t.fset_wf f v h.form, rfl, fun g hg => t.fget_fset_apart f g v fits h.form (hg f hf)⟩

theorem fadd (h : s.Writes t l) {f : Fld} (hf : f ∈ l) (fits : f.lo + f.width ≤ 32) (n : Nat) : s.Writes (t.fadd f n) l :=
  h.fset hf fits _

/-- A fold writes what its steps write. -/
theorem foldl {α : Type} {f : State → α → State} {is : List α} (h : s.Writes t l)
    (step : ∀ u : State, wordsWf 0 u.regs = true → ∀ i ∈ is, u.Writes (f u i) l) : s.Writes (is.foldl f t) l :=
  List.foldlRecOn (motive := fun u => s.Writes u l) is f h fun _ hu i hi => hu.trans (step _ hu.form i hi)

/-- A field apart from those written reads as before. -/
theorem fget (h : s.Writes t l) {g : Fld} (hg : ∀ f ∈ l, Fld.apart f g) : t.fget g = s.fget g := h.kept g hg

end State.Writes

/-- A field that step i of a fold sets to v, and every other step leaves alone, reads v after the fold. -/
theorem State.fget_foldl {step : State → Nat → State} {is : List Nat} (hl : is.Nodup) {i : Nat} (hi : i ∈ is) {g : Fld} {v : Nat}
    {L : Nat → List Fld} (writes : ∀ u : State, wordsWf 0 u.regs = true → ∀ j ∈ is, u.Writes (step u j) (L j)) {s : State}
    (sets : ∀ u : State, wordsWf 0 u.regs = true → u.fget g = s.fget g → (step u i).fget g = v)
    (apart : ∀ j ∈ is, j ≠ i → ∀ f ∈ L j, Fld.apart f g) (w : wordsWf 0 s.regs = true) : (is.foldl step s).fget g = v := by
  obtain ⟨before, after, rfl⟩ := List.append_of_mem hi
  obtain ⟨hnot, -⟩ := List.nodup_cons.mp (List.nodup_middle.mp hl)
  have keeps : ∀ (js : List Nat) (x : Nat) (u : State), (∀ j ∈ js, j ∈ before ++ i :: after ∧ j ≠ i) →
      wordsWf 0 u.regs = true ∧ u.fget g = x → wordsWf 0 (js.foldl step u).regs = true ∧ (js.foldl step u).fget g = x :=
    fun js x u hjs hu => List.foldlRecOn (motive := fun u : State => wordsWf 0 u.regs = true ∧ u.fget g = x) js step hu
      fun u hu j hj => by
        obtain ⟨hj, hne⟩ := hjs j hj
        have hw := writes u hu.1 j hj
        exact ⟨hw.form, (hw.fget (apart j hj hne)).trans hu.2⟩
  rw [List.foldl_append, List.foldl_cons]
  have hb := keeps before (s.fget g) s (fun j hj => ⟨List.mem_append_left _ hj, fun e => hnot (e ▸ List.mem_append_left _ hj)⟩) ⟨w, rfl⟩
  have hmid := writes _ hb.1 i (by simp)
  exact (keeps after v _ (fun j hj => ⟨by simp [hj], fun e => hnot (e ▸ List.mem_append_right _ hj)⟩)
    ⟨hmid.form, sets _ hb.1 hb.2⟩).2

/-- Two states with the same register file agree in every field. -/
theorem State.fget_congr {s t : State} (h : t.regs = s.regs) (f : Fld) : t.fget f = s.fget f := by
  rw [State.fget, State.fget, State.word, State.word, h]

end Sys2Proof.Machine
end

section
/-!
PROOFS. Placement and pre-emption of tows (R122, R123, R125, R126): which tow goes first and which gives way, and what the arrays of
a unit show.
-/

namespace Sys2Proof.Machine

/-! ## What the arrays of a unit show (R129) -/

theorem State.unitArrays_lt (s : State) {u n : Nat} (hu : u < 4) (hn : n ∈ s.unitArrays u) : n < 4 := by
  unfold State.unitArrays at hn
  split at hn <;> simp at hn <;> omega

theorem State.unitArrays_nodup (s : State) (u : Nat) : (s.unitArrays u).Nodup := by
  unfold State.unitArrays
  split <;> simp

theorem State.mem_unitArrays (s : State) {u : Nat} (hu : u < 4) : u ∈ s.unitArrays u := by
  unfold State.unitArrays
  split <;> simp <;> omega

/-- The fields of ARRAY_STATUS n that show a tow. -/
def unitFields (n : Nat) : List Fld :=
  [F.ARRAY_STATUS.STATE n, F.ARRAY_STATUS.CLASS n, F.ARRAY_STATUS.SPACE n, F.ARRAY_STATUS.ESC n, F.ARRAY_STATUS.STARVED n,
   F.ARRAY_STATUS.BARGE n]

/-- What is shown of one array shares no bit with the state of another. -/
theorem unitFields_apart {m n : Nat} (h : m ≠ n) : ∀ f ∈ unitFields m, Fld.apart f (F.ARRAY_STATUS.STATE n) := by
  have hoff : 0x700000 + m * 4 ≠ 0x700000 + n * 4 := by omega
  simp [unitFields, Fld.apart, F.ARRAY_STATUS.STATE, F.ARRAY_STATUS.CLASS, F.ARRAY_STATUS.SPACE, F.ARRAY_STATUS.ESC,
    F.ARRAY_STATUS.STARVED, F.ARRAY_STATUS.BARGE, h]

theorem unitFields_fit {n : Nat} {f : Fld} (h : f ∈ unitFields n) : f.lo + f.width ≤ 32 := by
  simp only [unitFields, List.mem_cons, List.not_mem_nil, or_false] at h
  rcases h with rfl | rfl | rfl | rfl | rfl | rfl <;> simp [F.ARRAY_STATUS.STATE, F.ARRAY_STATUS.CLASS, F.ARRAY_STATUS.SPACE,
    F.ARRAY_STATUS.ESC, F.ARRAY_STATUS.STARVED, F.ARRAY_STATUS.BARGE]

/-- A write of a field that shows a tow. -/
theorem State.Writes.unitField {s t : State} {n : Nat} (h : s.Writes t (unitFields n)) {f : Fld} (hf : f ∈ unitFields n) (v : Nat) :
    s.Writes (t.fset f v) (unitFields n) := h.fset hf (unitFields_fit hf) v

section
variable {s : State} (w : wordsWf 0 s.regs = true)
include w

theorem State.showArray_writes (n st c p : Nat) :
    s.Writes (((s.fset (F.ARRAY_STATUS.STATE n) st).fset (F.ARRAY_STATUS.CLASS n) c).fset (F.ARRAY_STATUS.SPACE n) p) (unitFields n) :=
  (((State.Writes.refl w _).unitField (by simp [unitFields]) st).unitField (by simp [unitFields]) c).unitField (by simp [unitFields]) p

theorem State.showArray_state (n st c p : Nat) :
    (((s.fset (F.ARRAY_STATUS.STATE n) st).fset (F.ARRAY_STATUS.CLASS n) c).fset (F.ARRAY_STATUS.SPACE n) p).arrayState n = st % 8 := by
  have w1 := s.fset_wf (F.ARRAY_STATUS.STATE n) st w
  have w2 := State.fset_wf _ (F.ARRAY_STATUS.CLASS n) c w1
  rw [State.arrayState, State.fget_fset_apart _ _ _ _ (by simp [F.ARRAY_STATUS.SPACE]) w2
    (by simp [Fld.apart, F.ARRAY_STATUS.STATE, F.ARRAY_STATUS.SPACE]), State.fget_fset_apart _ _ _ _ (by simp [F.ARRAY_STATUS.CLASS]) w1
    (by simp [Fld.apart, F.ARRAY_STATUS.STATE, F.ARRAY_STATUS.CLASS])]
  exact State.fget_fset_self s _ st (by simp [F.ARRAY_STATUS.STATE]) w

theorem State.showUnit_writes (u st c p : Nat) : s.Writes (s.showUnit u st c p) ((s.unitArrays u).flatMap unitFields) :=
  (State.Writes.refl w _).foldl fun _ wt n hn =>
    (State.showArray_writes wt n st c p).mono fun _ hf => List.mem_flatMap.mpr ⟨n, hn, hf⟩

theorem State.arrayState_showUnit {u n : Nat} (st c p : Nat) (hn : n ∈ s.unitArrays u) :
    (s.showUnit u st c p).arrayState n = st % 8 :=
  State.fget_foldl (s.unitArrays_nodup u) hn (fun _ wt m _ => State.showArray_writes wt m st c p)
    (fun _ wt _ => State.showArray_state wt n st c p) (fun _ _ hm => unitFields_apart hm) w

theorem State.choosePreempt_writes (u : Nat) : s.Writes (s.choosePreempt u) ((s.unitArrays u).map F.ARRAY_STATUS.STATE) :=
  (State.Writes.refl w _).foldl fun _ wt n hn =>
    (State.Writes.refl wt _).fset (List.mem_map.mpr ⟨n, hn, rfl⟩) (by simp [F.ARRAY_STATUS.STATE]) 3

theorem State.arrayState_choosePreempt {u n : Nat} (hn : n ∈ s.unitArrays u) : (s.choosePreempt u).arrayState n = 3 :=
  State.fget_foldl (L := unitFields) (s.unitArrays_nodup u) hn
    (fun _ wt m _ => (State.Writes.refl wt _).unitField (f := F.ARRAY_STATUS.STATE m) (by simp [unitFields]) 3)
    (v := 3) (fun t wt _ => State.fget_fset_self t _ 3 (by simp [F.ARRAY_STATUS.STATE]) wt) (fun _ _ hm => unitFields_apart hm) w

/-- What shows of array n when its tow has left (R129). -/
def leaveArray (s : State) (n : Nat) : State :=
  (((((if s.arrayState n = 2 ∨ s.arrayState n = 3 then s.fset (F.ARRAY_STATUS.STATE n) 1 else s).fset
    (F.ARRAY_STATUS.CLASS n) 3).fset (F.ARRAY_STATUS.SPACE n) 0).fset (F.ARRAY_STATUS.ESC n) 0).fset (F.ARRAY_STATUS.STARVED n) 0).fset
    (F.ARRAY_STATUS.BARGE n) 0

omit w in
theorem State.leaveUnit_eq (u : Nat) : s.leaveUnit u =
    (let t := (s.unitArrays u).foldl leaveArray s
     { t with tows := { t.tows with reqs := t.tows.reqs.filter (fun r => decide (r.unit ≠ u))
                                    waits := t.tows.waits.filter (fun x => decide (x.1 ≠ u)) } }) := rfl

theorem State.leaveArray_writes (n : Nat) : s.Writes (leaveArray s n) (unitFields n) := by
  have h0 : s.Writes (if s.arrayState n = 2 ∨ s.arrayState n = 3 then s.fset (F.ARRAY_STATUS.STATE n) 1 else s) (unitFields n) := by
    split
    · exact (State.Writes.refl w _).unitField (by simp [unitFields]) 1
    · exact State.Writes.refl w _
  exact ((((h0.unitField (by simp [unitFields]) 3).unitField (by simp [unitFields]) 0).unitField (by simp [unitFields]) 0).unitField
    (by simp [unitFields]) 0).unitField (by simp [unitFields]) 0

/-- An array that ran or saved the tow is IDLE. -/
theorem State.leaveArray_state {n : Nat} (h : s.arrayState n = 2 ∨ s.arrayState n = 3) : (leaveArray s n).arrayState n = 1 := by
  have hw := (State.Writes.refl (s := s.fset (F.ARRAY_STATUS.STATE n) 1) (s.fset_wf _ 1 w)
    [F.ARRAY_STATUS.CLASS n, F.ARRAY_STATUS.SPACE n, F.ARRAY_STATUS.ESC n, F.ARRAY_STATUS.STARVED n, F.ARRAY_STATUS.BARGE n])
  have hrest := ((((hw.fset (f := F.ARRAY_STATUS.CLASS n) (by simp) (by simp [F.ARRAY_STATUS.CLASS]) 3).fset
    (f := F.ARRAY_STATUS.SPACE n) (by simp) (by simp [F.ARRAY_STATUS.SPACE]) 0).fset
    (f := F.ARRAY_STATUS.ESC n) (by simp) (by simp [F.ARRAY_STATUS.ESC]) 0).fset
    (f := F.ARRAY_STATUS.STARVED n) (by simp) (by simp [F.ARRAY_STATUS.STARVED]) 0).fset
    (f := F.ARRAY_STATUS.BARGE n) (by simp) (by simp [F.ARRAY_STATUS.BARGE]) 0
  rw [leaveArray, if_pos h, State.arrayState, hrest.fget (by
    simp [Fld.apart, F.ARRAY_STATUS.STATE, F.ARRAY_STATUS.CLASS, F.ARRAY_STATUS.SPACE, F.ARRAY_STATUS.ESC, F.ARRAY_STATUS.STARVED,
      F.ARRAY_STATUS.BARGE])]
  exact State.fget_fset_self s _ 1 (by simp [F.ARRAY_STATUS.STATE]) w

theorem State.leaveArrays_writes (u : Nat) :
    s.Writes ((s.unitArrays u).foldl leaveArray s) ((s.unitArrays u).flatMap unitFields) :=
  (State.Writes.refl w _).foldl fun _ wt n hn => (State.leaveArray_writes wt n).mono fun _ hf => List.mem_flatMap.mpr ⟨n, hn, hf⟩

/-- Leaving a unit writes what shows of its arrays and drops the unit's requests and waits. -/
theorem State.leaveUnit_frame (u : Nat) : s.leaveUnit u =
    { s with regs := (s.leaveUnit u).regs
             tows := { s.tows with reqs := s.tows.reqs.filter (fun r => decide (r.unit ≠ u))
                                   waits := s.tows.waits.filter (fun x => decide (x.1 ≠ u)) } } := by
  rw [State.leaveUnit_eq, (State.leaveArrays_writes w u).frame]

theorem State.leaveUnit_wf (u : Nat) : wordsWf 0 (s.leaveUnit u).regs = true := (State.leaveArrays_writes w u).form

theorem State.arrayState_leaveUnit {u n : Nat} (hn : n ∈ s.unitArrays u) (h : s.arrayState n = 2 ∨ s.arrayState n = 3) :
    (s.leaveUnit u).arrayState n = 1 :=
  State.fget_foldl (s.unitArrays_nodup u) hn (fun _ wt m _ => State.leaveArray_writes wt m)
    (fun t wt ht => State.leaveArray_state wt (by rwa [State.arrayState, ht])) (fun _ _ hm => unitFields_apart hm) w

end

/-- A count of a space writes the counters alone. -/
theorem State.countSpace_frame (s : State) (p i n : Nat) : s.countSpace p i n = { s with counters := (s.countSpace p i n).counters } :=
  List.foldlRecOn (motive := fun t : State => t = { s with counters := t.counters }) (List.range 8) _ rfl fun t ht k _ => by
    split
    · rw [State.count, ht]
    · exact ht

/-! ## Which tow goes first (R122) -/

/-- The rank of a tow: its class, then for URGENT the settle-model tow, resumed tows, and the order of submission. -/
def Tow.rank (t : Tow) : Nat ×ₗ Nat ×ₗ Nat ×ₗ Nat :=
  toLex (t.cls, toLex (if t.cls = 0 ∧ t.settle.isSome then 0 else 1, toLex (if t.resumed then 0 else 1, t.order)))

theorem Tow.ahead_iff (t u : Tow) : t.ahead u = true ↔ t.rank < u.rank := by
  unfold Tow.ahead Tow.rank
  simp only [Prod.Lex.toLex_lt_toLex]
  cases t.settle.isSome <;> cases u.settle.isSome <;> cases t.resumed <;> cases u.resumed <;> grind

/-- A fold that keeps the tow ahead ends with one that no other is ahead of. -/
theorem foldl_ahead_first {f : Option Tow → Tow → Option Tow} (hf : ∀ b t, f (some b) t = if t.ahead b then some t else some b)
    {l : List Tow} {b w : Tow} (h : l.foldl f (some b) = some w) : w ∈ b :: l ∧ ∀ u ∈ b :: l, ¬u.rank < w.rank := by
  induction l generalizing b with
  | nil =>
    obtain rfl : b = w := Option.some.inj h
    simp
  | cons t l ih =>
    rw [List.foldl_cons, hf] at h
    split at h
    · next ht =>
      obtain ⟨hw, hmin⟩ := ih h
      have hbt := not_lt.mpr (le_of_lt ((Tow.ahead_iff t b).mp ht))
      refine ⟨List.mem_cons_of_mem b hw, fun u hu => ?_⟩
      rcases List.mem_cons.mp hu with rfl | hu
      · exact fun hlt => hmin t (List.mem_cons_self ..) (lt_of_lt_of_le ((Tow.ahead_iff t u).mp ht) hlt.le)
      · exact hmin u hu
    · next ht =>
      obtain ⟨hw, hmin⟩ := ih h
      have htb : b.rank ≤ t.rank := not_lt.mp (mt (Tow.ahead_iff t b).mpr ht)
      refine ⟨by simp only [List.mem_cons] at hw ⊢; tauto, fun u hu => ?_⟩
      simp only [List.mem_cons] at hu
      rcases hu with rfl | rfl | hu
      · exact hmin u (List.mem_cons_self ..)
      · exact fun hlt => hmin b (List.mem_cons_self ..) (lt_of_le_of_lt htb hlt)
      · exact hmin u (List.mem_cons_of_mem b hu)

/-- The tow that goes first is one of those that may be placed, and none of these is ahead of it. -/
theorem State.nextTow_first {s : State} {w : Tow} (h : s.nextTow = some w) :
    w ∈ s.tows.tows.filter (fun t => s.mayPlace t) ∧ ∀ u ∈ s.tows.tows.filter (fun t => s.mayPlace t), ¬u.rank < w.rank := by
  unfold State.nextTow at h
  generalize s.tows.tows.filter (fun t => s.mayPlace t) = l at h ⊢
  cases l with
  | nil => cases h
  | cons b l => exact foldl_ahead_first (fun _ _ => rfl) h

/-- With no unit being saved, the tow that looks for a unit is of the class of the tow that goes first. -/
theorem State.towAfter_zero {s : State} {w : Tow} (h : s.nextTow = some w) : ∃ t, s.towAfter 0 = some t ∧ t.cls = w.cls := by
  obtain ⟨hw, hmin⟩ := State.nextTow_first h
  unfold State.towAfter
  dsimp only
  generalize s.tows.tows.filter (fun t => s.mayPlace t) = l at hw hmin ⊢
  have alone : ∀ t : Tow, decide ((l.filter (fun u => u.ahead t)).length = 0) = true ↔ ∀ u ∈ l, ¬u.rank < t.rank := fun t => by
    simp [List.filter_eq_nil_iff, ← Tow.ahead_iff]
  have hsome : (l.find? fun t => decide ((l.filter (fun u => u.ahead t)).length = 0)).isSome = true :=
    List.find?_isSome.mpr ⟨w, hw, (alone w).mpr hmin⟩
  obtain ⟨t, ht⟩ := Option.isSome_iff_exists.mp hsome
  refine ⟨t, ht, ?_⟩
  have hp := List.find?_some ht
  have hfirst := (alone t).mp hp
  have heq : t.rank = w.rank := le_antisymm (not_lt.mp (hfirst w hw)) (not_lt.mp (hmin t (List.mem_of_find?_eq_some ht)))
  exact congrArg (fun r => (ofLex r).1) heq

theorem State.preemptHeld_none {s : State} (h : ∀ c, s.classHeld c = false) : s.preemptHeld = s := by
  have step : ∀ u ∈ List.range 4, ∀ t : State, t = s → (match t.runner u with
      | some x => if t.classHeld x.cls && t.unitUp u && !t.saving u then t.choosePreempt u else t
      | none => t) = s := by
    rintro u - t rfl
    split
    · simp [h]
    · rfl
  exact List.foldlRecOn (motive := fun t : State => t = s) (List.range 4) _ rfl fun t ht u hu => step u hu t ht

theorem State.victimFor_lt {s : State} {c u : Nat} (h : s.victimFor c = some u) : u < 4 := by
  have key : ∀ r, s.victimFor c = r → ∀ u, r = some u → u < 4 := by
    unfold State.victimFor
    intro r hr
    rw [← hr]
    refine List.foldlRecOn (motive := fun r : Option Nat => ∀ u, r = some u → u < 4) _ _ (by simp) fun best hbest v hv u hu => ?_
    have hv4 : v < 4 := List.mem_range.mp (List.mem_filter.mp hv).1
    grind
  exact key _ rfl u h

/-! ## Placing a tow and saving one (R123, R125, R126) -/

section
variable {s : State} (w : wordsWf 0 s.regs = true)
include w

theorem State.placeTow_frame (t : Tow) (u : Nat) : s.placeTow t u =
    { s with regs := (s.showUnit u 2 t.cls t.space).regs, counters := (s.placeTow t u).counters
             tows := { s.tows with tows := (s.placeTow t u).tows.tows, starts := s.tows.starts + 1 } } := by
  have hshow := (State.showUnit_writes w u 2 t.cls t.space).frame
  unfold State.placeTow
  generalize s.showUnit u 2 t.cls t.space = s1 at *
  dsimp only
  rw [hshow]
  split
  · rfl
  · rw [State.countSpace_frame]
    rfl

theorem State.placeTow_mem {t : Tow} (u : Nat) (hmem : t ∈ s.tows.tows) :
    { t with phase := .running u, started := true, startOrder := if t.started then t.startOrder else s.tows.starts + 1 } ∈
      (s.placeTow t u).tows.tows := by
  have hshow := (State.showUnit_writes w u 2 t.cls t.space).frame
  unfold State.placeTow State.modTow
  generalize s.showUnit u 2 t.cls t.space = s1 at *
  dsimp only
  rw [hshow, apply_ite State.tows, State.count_tows, State.countSpace_tows, State.count_tows, ite_self]
  exact List.mem_map.mpr ⟨t, hmem, by simp⟩

theorem State.saveTow_frame {t : Tow} {u : Nat} (hon : t.phase = .running u) (ph : TowPhase) : s.saveTow t ph =
    { s with regs := (s.leaveUnit u).regs
             tows := { s.tows with tows := (s.saveTow t ph).tows.tows
                                   reqs := s.tows.reqs.filter (fun r => decide (r.unit ≠ u))
                                   waits := s.tows.waits.filter (fun x => decide (x.1 ≠ u)) } } := by
  unfold State.saveTow State.modTow
  rw [hon]
  dsimp only
  rw [State.leaveUnit_frame w u]

/-- A tow without a held write fault is ready to resume where it stopped. -/
theorem State.saveTow_ready {t : Tow} {u : Nat} (hon : t.phase = .running u) (hmem : t ∈ s.tows.tows) (hheld : t.held = false) :
    { t.unstage with phase := .ready, resumed := true } ∈ (s.saveTow t .ready).tows.tows := by
  unfold State.saveTow State.modTow
  rw [hon]
  dsimp only
  rw [State.leaveUnit_frame w u]
  exact List.mem_map.mpr ⟨t, hmem, by simp [hheld]⟩

end

theorem TowPhase.onUnit_iff (p : TowPhase) (u : Nat) : p.onUnit u = true ↔ p = .running u := by
  cases p <;> simp [TowPhase.onUnit]

theorem exec_towPlacement (s : State) (h : ∀ c, s.classHeld c = false) {w : Tow} (hw : s.nextTow = some w) :
    exec .towPlacement s = .next (match s.freeUnitList with
      | u :: rest => if (if w.cls = 0 then 0 else s.reservedUnits) < rest.length + 1 then s.placeTow w u else s
      | [] =>
        match s.towAfter s.savingUnits.length with
        | none => s
        | some t => match s.victimFor t.cls with | some u => s.choosePreempt u | none => s) := by
  show execTowPlacement s = _
  unfold execTowPlacement
  rw [State.preemptHeld_none h]
  dsimp only
  rw [hw]
  cases s.freeUnitList <;> rfl

theorem exec_preemption {s : State} {u : Nat} {w : Tow} (hu : u < 4) (hrun : s.runner u = some w) (hsav : s.saving u = true)
    (hin : w.inBarge = false) : exec (.preemption u) s =
      .next (((((s.saveTow w .ready).count 7 3).countSpace w.space 6).modTow w.space w.tag
        (fun t => { t with preempted := t.preempted + 1 })).fadd F.TOW_PREEMPT.COUNT 1) := by
  have hwf : Instr.wf (.preemption u) = true := by simpa [Instr.wf, okUnit] using hu
  show execPreemption u s = _
  rw [execPreemption, hwf, hrun]
  dsimp only
  rw [hsav, hin]
  rfl

/-- Settles O31: the tow that goes first is placed on the first free unit; with none free, the tow that looks for a unit is of the same
class, so its victim is the one chosen; and a saved tow leaves its arrays IDLE. -/
theorem towPlacement : Obligations.TowPlacement := by
  refine ⟨fun s w hwf hheld hw => ⟨fun u rest hfree hkeep => ?_, fun u hfree hsaving hvictim => ?_⟩, fun s u w hwf hu hrun hsav hin hheld => ?_⟩
  · have wr := State.regsWf_of_allWf hwf
    have hmem : w ∈ s.tows.tows := List.mem_of_mem_filter (State.nextTow_first hw).1
    have hexec : exec .towPlacement s = .next (s.placeTow w u) := by
      rw [exec_towPlacement s hheld hw, hfree]
      exact congrArg _ (if_pos hkeep)
    have hframe := State.placeTow_frame wr w u
    refine ⟨_, { w with phase := .running u, started := true, startOrder := if w.started then w.startOrder else s.tows.starts + 1 },
      hexec, ?_, rfl, rfl, rfl, rfl, fun n hn => ?_, ?_, ?_⟩
    · exact State.placeTow_mem wr u hmem
    · rw [State.arrayState, State.fget_congr (by rw [hframe])]
      exact State.arrayState_showUnit wr 2 _ _ hn
    · rw [hframe]
    · rw [hframe]
  · have wr := State.regsWf_of_allWf hwf
    obtain ⟨t, hafter, hcls⟩ := State.towAfter_zero hw
    have hwrites := State.choosePreempt_writes wr u
    refine ⟨s.choosePreempt u, ?_, fun n hn => State.arrayState_choosePreempt wr hn, hwrites.frame, hwrites.kept⟩
    rw [exec_towPlacement s hheld hw, hfree, hsaving]
    dsimp only [List.length_nil]
    rw [hafter]
    dsimp only
    rw [hcls, hvictim]
  · have wr := State.regsWf_of_allWf hwf
    have hon : w.phase = .running u := (TowPhase.onUnit_iff _ _).mp (List.find?_some (p := fun t : Tow => t.phase.onUnit u) hrun)
    have hmem : w ∈ s.tows.tows := List.mem_of_find?_eq_some hrun
    have hframe := State.saveTow_frame wr hon .ready
    refine ⟨_, { w.unstage with phase := .ready, resumed := true, preempted := w.preempted + 1 }, exec_preemption hu hrun hsav hin,
      ?_, rfl, rfl, rfl, rfl, rfl, rfl, ?_, ?_, ?_⟩
    · rw [State.fadd_tows, State.modTow]
      dsimp only
      rw [State.countSpace_tows, State.count_tows]
      exact List.mem_map.mpr ⟨_, State.saveTow_ready wr hon hmem hheld, by simp [Tow.unstage]⟩
    · have hst : s.arrayState u = 3 := of_decide_eq_true hsav
      have hregs : ((((s.saveTow w .ready).count 7 3).countSpace w.space 6).modTow w.space w.tag
          (fun t => { t with preempted := t.preempted + 1 })).regs = (s.leaveUnit u).regs := by
        rw [State.countSpace_frame, hframe]
        rfl
      rw [State.arrayState, State.fadd, State.fget_fset_apart _ _ _ _ (by decide) (by rw [hregs]; exact State.leaveUnit_wf wr u)
        (Or.inl (by simp only [F.ARRAY_STATUS.STATE, F.TOW_PREEMPT.COUNT]; omega)), State.fget_congr hregs]
      exact State.arrayState_leaveUnit wr (s.mem_unitArrays hu) (Or.inr hst)
    · rw [State.countSpace_frame, hframe]
      intro r hr
      exact of_decide_eq_true (List.mem_filter.mp hr).2
    · rw [State.countSpace_frame, hframe]
      rfl

end Sys2Proof.Machine
end

section
/-!
PROOFS. Host commands and their completions. Whatever its status, the completion of a command that was taken lands in its completion
queue, and beside that only reports follow (R287, R288).
-/

namespace Sys2Proof.Machine

/-! ## A logbook entry and the link -/

/-- The link without its pending messages. -/
def State.linkRest (s : State) : Link := { s.link with msixPend := [] }

@[simp] theorem State.msix_linkRest (s : State) (v : Nat) : (s.msix v).linkRest = s.linkRest := by
  unfold State.msix; split <;> rfl

@[simp] theorem State.fset_linkRest (s : State) (f : Fld) (v : Nat) : (s.fset f v).linkRest = s.linkRest := rfl

@[simp] theorem State.fadd_linkRest (s : State) (f : Fld) (n : Nat) : (s.fadd f n).linkRest = s.linkRest := rfl

@[simp] theorem State.count_linkRest (s : State) (g i n : Nat) : (s.count g i n).linkRest = s.linkRest := rfl

@[simp] theorem State.sticky_linkRest (s : State) (f : Fld) (v : Option Nat) : (s.sticky f v).linkRest = s.linkRest := by
  unfold State.sticky
  split
  · rfl
  · cases v <;> simp

@[simp] theorem State.overwritten_linkRest (s : State) (e : Option Entry) : (s.overwritten e).linkRest = s.linkRest := by
  cases e with
  | none => rfl
  | some v =>
    simp only [State.overwritten, State.count_linkRest, State.fset_linkRest]
    rw [foldl_keeps State.linkRest]
    intros; rfl

theorem queues_of_linkRest {s t : State} (h : t.linkRest = s.linkRest) : t.link.queues = s.link.queues := (congrArg Link.queues h :)

theorem flrDiscard_of_linkRest {s t : State} (h : t.linkRest = s.linkRest) : t.link.flrDiscard = s.link.flrDiscard :=
  (congrArg Link.flrDiscard h :)

theorem State.queue_eq_of_queues {s t : State} (h : t.link.queues = s.link.queues) (q : Nat) : t.queue q = s.queue q := by
  rw [State.queue, h]; rfl

theorem ite_linkRest (c : Prop) [Decidable c] (t u : State) (h : t.linkRest = u.linkRest) :
    (if c then t else u).linkRest = u.linkRest := by
  split
  · exact h
  · rfl

@[simp] theorem State.logEntry_linkRest (s : State) (sev source : Nat) (cls : Cls) (kind : Obj) (reason a0 a1 : Nat) :
    (s.logEntry sev source cls kind reason a0 a1).linkRest = s.linkRest := by
  unfold State.logEntry
  extract_lets e frozen up tryBook rb inAnnex tryKeel rk held lg s1 s2 s3 s4 s5 s6 s7 s8 s9
  calc _ = s9.linkRest := ite_linkRest _ _ _ (by simp)
    _ = s8.linkRest := ite_linkRest _ _ _ (by simp)
    _ = s7.linkRest := ite_linkRest _ _ _ (by simp)
    _ = s6.linkRest := ite_linkRest _ _ _ (by simp)
    _ = s5.linkRest := ite_linkRest _ _ _ (by simp)
    _ = s4.linkRest := ite_linkRest _ _ _ (by simp)
    _ = s3.linkRest := ite_linkRest _ _ _ (by simp)
    _ = s2.linkRest := ite_linkRest _ _ _ (by simp)
    _ = s1.linkRest := s1.overwritten_linkRest _
    _ = s.linkRest := rfl

/-! ## Completions of every status -/

/-- The reports a completion makes before its item is linked. -/
def State.noteStatus (s : State) (src : Src) (st : Status) (reason detail : Nat) : State :=
  let s := if st = .refused then s.count 11 8 else s
  if st = .refused ∨ st = .malformed ∨ st = .unknownOp then s.logEntry 1 9 .request .queue reason src.queue detail else s

@[simp] theorem State.noteStatus_linkRest (s : State) (src : Src) (st : Status) (reason detail : Nat) :
    (s.noteStatus src st reason detail).linkRest = s.linkRest := by
  unfold State.noteStatus
  dsimp only
  repeat' split
  all_goals simp

theorem State.noteStatus_reports {s : State} (w : wordsWf 0 s.regs = true) (src : Src) (st : Status) (reason detail : Nat)
    (l : List Fld) : reports s (s.noteStatus src st reason detail) l := by
  have hcount : reports s (if st = .refused then s.count 11 8 else s) l ∧
      wordsWf 0 (if st = .refused then s.count 11 8 else s).regs = true :=
    reports_ite _ _ w ⟨State.count_reports s 11 8 1 l, w⟩
  unfold State.noteStatus
  dsimp only
  split
  · exact reports_trans hcount.1 (State.logEntry_reports _ 1 9 .request .queue _ _ _ l hcount.2 (by decide))
  · exact hcount.1

section
variable {s : State} {src : Src} (w : spWf {} 0 s.link.queues = true) (ha : s.Answers src)
include w ha

/-- The completion of a command lands in its completion queue, after the command's reservations are given back and the status noted. -/
theorem State.complete_eq (op : Nat) (st : Status) (reason detail : Nat) (result cells : List Byte) :
    s.complete op src st reason detail result cells = (((s.unreserve src).noteStatus src st reason detail).modQueue (s.cqOf src)
      (fun d => d.link (completionItem op src st reason detail result cells))).count 11 0 := by
  obtain ⟨-, hqueue, hlink⟩ := State.unreserve_unreserved w src
  obtain ⟨n, hn⟩ := hqueue (s.cqOf src)
  have hrest := (s.unreserve src).noteStatus_linkRest src st reason detail
  have hkept : ((s.unreserve src).noteStatus src st reason detail).link.flrDiscard.contains src = false := by
    rw [flrDiscard_of_linkRest hrest, hlink]; exact ha.kept
  have hqueue : ((s.unreserve src).noteStatus src st reason detail).queue (s.cqOf src) = (s.unreserve src).queue (s.cqOf src) :=
    State.queue_eq_of_queues (queues_of_linkRest hrest) _
  have hopen : ((((s.unreserve src).noteStatus src st reason detail).queue (s.cqOf src)).en &&
      (((s.unreserve src).noteStatus src st reason detail).queue (s.cqOf src)).dir &&
      !(((s.unreserve src).noteStatus src st reason detail).queue (s.cqOf src)).broken) = true := by
    rw [hqueue, hn]; simp [ha.en, ha.dir, ha.sound]
  unfold State.complete
  exact (if_neg (by rw [← State.noteStatus, hkept]; decide)).trans (if_pos hopen)

theorem State.complete_answered (op : Nat) (st : Status) (reason detail : Nat) (result cells : List Byte) :
    answered s (s.complete op src st reason detail result cells) op src st reason detail result cells := by
  have hform := (State.unreserve_unreserved w src).form
  have hrest := (s.unreserve src).noteStatus_linkRest src st reason detail
  have hform' : spWf {} 0 ((s.unreserve src).noteStatus src st reason detail).link.queues = true := by
    rw [queues_of_linkRest hrest]; exact hform
  refine ⟨(((s.unreserve src).noteStatus src st reason detail).queue (s.cqOf src)).pushes % 65536, ?_⟩
  rw [State.complete_eq w ha]
  show ((((State.noteStatus (s.unreserve src) src st reason detail).modQueue (s.cqOf src) _).queue (s.cqOf src)).items).getLast? = _
  rw [State.queue_modQueue_self hform']
  simp [Queue.link, completionItem]

theorem State.complete_reports (hr : wordsWf 0 s.regs = true) (op : Nat) (st : Status) (reason detail : Nat) (result cells : List Byte)
    (l : List Fld) : reports s (s.complete op src st reason detail result cells) l := by
  have hback : reports s (s.unreserve src) l :=
    reports_of_wipe (s.unreserve_wipe src) (s.unreserve_regs src) (by rw [(State.unreserve_unreserved w src).link]) l
  have hnote := State.noteStatus_reports (s := s.unreserve src) (by simpa using hr) src st reason detail l
  rw [State.complete_eq w ha]
  exact reports_trans (reports_trans (reports_trans hback hnote) (State.modQueue_reports _ _ _ l)) (State.count_reports _ 11 0 1 l)

end

/-! ## Commands taken and completed -/

/-- A state in which a command taken from s may still be completed: the completion queue stands and takes completions. -/
structure State.Open (s t : State) (src : Src) : Prop where
  queues : t.link.queues = s.link.queues
  discard : t.link.flrDiscard = s.link.flrDiscard
  cq : t.cqOf src = s.cqOf src

theorem State.Open.refl (s : State) (src : Src) : s.Open s src := ⟨rfl, rfl, rfl⟩

theorem State.Open.trans {s t u : State} {src : Src} (h : s.Open t src) (k : t.Open u src) : s.Open u src :=
  ⟨k.queues.trans h.queues, k.discard.trans h.discard, k.cq.trans h.cq⟩

theorem State.Open.taking (s : State) (src : Src) : s.Open (s.taking src) src := ⟨rfl, rfl, rfl⟩

theorem State.cqOf_congr {s t : State} (src : Src) (hq : t.link.queues = s.link.queues) (hs : t.tows.spaces = s.tows.spaces)
    (hp : t.fget F.AUC_CTRL.POLICY_SPACE = s.fget F.AUC_CTRL.POLICY_SPACE) : t.cqOf src = s.cqOf src := by
  simp only [State.cqOf, State.space, State.queue, hq, hs, hp]

/-- A state that keeps the link, the tow spaces and the registers leaves the completion queue open. -/
theorem State.Open.of_keeps {s t : State} (src : Src) (hl : t.link = s.link) (hs : t.tows.spaces = s.tows.spaces)
    (hr : t.regs = s.regs) : s.Open t src :=
  ⟨by rw [hl], by rw [hl], State.cqOf_congr src (by rw [hl]) hs (by rw [State.fget, State.fget, State.word, State.word, hr])⟩

theorem State.Answers.of_open {s t : State} {src : Src} (h : s.Answers src) (k : s.Open t src) : t.Answers src := by
  constructor
  · rw [k.cq, State.queue_eq_of_queues k.queues]; exact h.en
  · rw [k.cq, State.queue_eq_of_queues k.queues]; exact h.dir
  · rw [k.cq, State.queue_eq_of_queues k.queues]; exact h.sound
  · rw [k.discard]; exact h.kept

theorem answered_of_open {s t u : State} {op : Nat} {src : Src} {st : Status} {reason detail : Nat} {result cells : List Byte}
    (k : s.Open t src) (h : answered t u op src st reason detail result cells) : answered s u op src st reason detail result cells := by
  rw [answered, ← k.cq]; exact h

/-- A command that was accepted is answered in its completion queue by whatever state its effect leaves open. -/
theorem State.accepts.completed {s t : State} {op : Nat} {src : Src} (h : s.accepts op src) (hwf : s.allWf = true) (k : s.Open t src)
    (op' : Nat) (st : Status) (reason detail : Nat) (result cells : List Byte) :
    answered s (t.complete op' src st reason detail result cells) op' src st reason detail result cells :=
  answered_of_open k (State.complete_answered (by rw [k.queues]; exact State.queuesWf_of_allWf hwf)
    (State.Answers.of_open ⟨h.2.2.2.1, h.2.2.2.2.1, h.2.2.2.2.2.1, h.2.2.2.2.2.2⟩ k) ..)

theorem State.accepts.completion_reports {s t : State} {op : Nat} {src : Src} (h : s.accepts op src) (hwf : s.allWf = true) (k : s.Open t src)
    (hr : wordsWf 0 t.regs = true) (op' : Nat) (st : Status) (reason detail : Nat) (result cells : List Byte) (l : List Fld) :
    reports t (t.complete op' src st reason detail result cells) l :=
  State.complete_reports (by rw [k.queues]; exact State.queuesWf_of_allWf hwf)
    (State.Answers.of_open ⟨h.2.2.2.1, h.2.2.2.2.1, h.2.2.2.2.2.1, h.2.2.2.2.2.2⟩ k) hr ..

/-- A command answered at once, without an effect of its own. -/
theorem State.accepts.settled {s : State} {op : Nat} {src : Src} (h : s.accepts op src) (hwf : s.allWf = true)
    (op' : Nat) (st : Status) (reason detail : Nat) (result cells : List Byte) :
    answered s ((s.taking src).complete op' src st reason detail result cells) op' src st reason detail result cells ∧
      reports (s.without src) ((s.taking src).complete op' src st reason detail result cells) [] :=
  ⟨h.completed hwf (State.Open.taking s src) ..,
   reports_trans (State.count_reports (s.without src) 11 7 1 [])
     (h.completion_reports hwf (State.Open.taking s src) (State.regsWf_of_allWf (s := s) hwf) ..)⟩

/-- A command refused for a general reason (R287). -/
theorem State.accepts.refused {s : State} {op : Nat} {src : Src} (h : s.accepts op src) (hwf : s.allWf = true) (r : Reason)
    (detail : Nat) :
    answered s ((s.taking src).refuse op src r detail) op src .refused r.code detail [] [] ∧
      reports (s.without src) ((s.taking src).refuse op src r detail) [] :=
  h.settled hwf ..

/-- The fields apart from those of a logbook entry are kept by a completion. -/
theorem reports_fieldsKept {u t : State} {l : List Fld} (h : reports u t l) : fieldsKept u t (l ++ logFields) := h.2.2.2

/-! ## Completions that leave the registers -/

theorem State.fget_of_regs {s t : State} (h : t.regs = s.regs) (f : Fld) : t.fget f = s.fget f := by
  rw [State.fget, State.fget, State.word, State.word, h]

theorem fieldsKept_of_regs {s t : State} (h : t.regs = s.regs) (l : List Fld) : fieldsKept s t l := fun g _ => State.fget_of_regs h g

theorem State.attached_of_keeps {s t : State} (h : t.regs = s.regs) (he : t.pair.enOld = s.pair.enOld) :
    t.attached = s.attached := by
  simp only [State.attached, State.pairEn, State.bit, State.fget_of_regs h, he]

@[simp] theorem State.sendJournal_enOld (s : State) (it : JItem) : (s.sendJournal it).pair.enOld = s.pair.enOld := by
  unfold State.sendJournal; split <;> rfl

@[simp] theorem State.complete_done_regs (s : State) (op : Nat) (src : Src) (reason detail : Nat) (result cells : List Byte) :
    (s.complete op src .done reason detail result cells).regs = s.regs := by
  unfold State.complete
  simp only [reduceCtorEq, or_self, if_false]
  repeat' split
  all_goals simp

@[simp] theorem State.completeCopied_regs (s : State) (op : Nat) (src : Src) (d : Nat) (res : List Byte) :
    (s.completeCopied op src d res).regs = s.regs := by
  unfold State.completeCopied; split <;> simp

@[simp] theorem State.completeCopied_steer (s : State) (op : Nat) (src : Src) (d : Nat) (res : List Byte) :
    (s.completeCopied op src d res).steer = s.steer := by
  unfold State.completeCopied; split <;> simp

@[simp] theorem State.completeCopied_map (s : State) (op : Nat) (src : Src) (d : Nat) (res : List Byte) :
    (s.completeCopied op src d res).map = s.map := by
  unfold State.completeCopied; split <;> simp

@[simp] theorem State.completeCopied_lock (s : State) (op : Nat) (src : Src) (d : Nat) (res : List Byte) :
    (s.completeCopied op src d res).lock = s.lock := by
  unfold State.completeCopied; split <;> simp

@[simp] theorem State.completeCopied_fabric (s : State) (op : Nat) (src : Src) (d : Nat) (res : List Byte) :
    (s.completeCopied op src d res).fabric = s.fabric := by
  unfold State.completeCopied; split <;> simp

@[simp] theorem State.completeCopied_tows (s : State) (op : Nat) (src : Src) (d : Nat) (res : List Byte) :
    (s.completeCopied op src d res).tows = s.tows := by
  unfold State.completeCopied; split <;> simp

@[simp] theorem State.completeCopied_mem (s : State) (op : Nat) (src : Src) (d : Nat) (res : List Byte) :
    (s.completeCopied op src d res).mem = s.mem := by
  unfold State.completeCopied; split <;> simp

@[simp] theorem State.completeCopied_time (s : State) (op : Nat) (src : Src) (d : Nat) (res : List Byte) :
    (s.completeCopied op src d res).time = s.time := by
  unfold State.completeCopied; split <;> simp

theorem State.completeCopied_eq {s : State} (h : s.attached = false) (op : Nat) (src : Src) (d : Nat) (res : List Byte) :
    s.completeCopied op src d res = s.complete op src .done 0 d res := by
  unfold State.completeCopied
  rw [if_neg (by simp [h])]

end Sys2Proof.Machine
end

section
/-!
PROOFS. The plan library (R172, R175, R176): PLAN_SUBMIT and PLAN_DROP.
-/

namespace Sys2Proof.Machine

theorem State.libWf_of_allWf {s : State} (h : s.allWf = true) : spWf {} 0 s.lock.lib = true := by
  simp only [State.allWf, State.controlWf, Bool.and_eq_true] at h
  tauto

/-! ## A library entry written -/

theorem State.putPlan_lock (s : State) (i : Nat) (e : PlanEntry) :
    (s.putPlan i e).lock = { s.lock with lib := spSet {} s.lock.lib i e } := State.sendJournal_lock _ _

theorem State.plan_putPlan_self {s : State} (w : spWf {} 0 s.lock.lib = true) (i : Nat) (e : PlanEntry) : (s.putPlan i e).plan i = e := by
  rw [State.plan, State.putPlan_lock]
  exact spGet_spSet_self _ _ i e 0 w

theorem State.plan_putPlan_ne (s : State) {i j : Nat} (h : j ≠ i) (e : PlanEntry) : (s.putPlan i e).plan j = s.plan j := by
  rw [State.plan, State.putPlan_lock]
  exact spGet_spSet_ne _ _ i j e h

theorem State.plan_of_lock {s t : State} (h : t.lock = s.lock) (i : Nat) : t.plan i = s.plan i := by rw [State.plan, h]; rfl

@[simp] theorem State.putPlan_regs (s : State) (i : Nat) (e : PlanEntry) : (s.putPlan i e).regs = s.regs := by simp [State.putPlan]

@[simp] theorem State.putPlan_steer (s : State) (i : Nat) (e : PlanEntry) : (s.putPlan i e).steer = s.steer := by simp [State.putPlan]

@[simp] theorem State.putPlan_mem (s : State) (i : Nat) (e : PlanEntry) : (s.putPlan i e).mem = s.mem := by simp [State.putPlan]

@[simp] theorem State.putPlan_tows (s : State) (i : Nat) (e : PlanEntry) : (s.putPlan i e).tows = s.tows := by simp [State.putPlan]

@[simp] theorem State.putPlan_link (s : State) (i : Nat) (e : PlanEntry) : (s.putPlan i e).link = s.link := by simp [State.putPlan]

/-! ## A plan inserted -/

/-- The library entry of a plan inserted now (R172, R175). -/
def State.newPlan (s : State) (source : Nat) (approx : Bool) (score : Int) (portGen : Nat) (peer : Peer) (proof : List Nat) : PlanEntry :=
  { planId := nextId s.lock.lastPlan, state := 1, source := source, approx := approx, score := score, portGen := portGen,
    tInsert := s.time.tb0.t / 10 ^ 12, peer := peer, proof := proof }

/-- The machine with a plan inserted at an index. -/
def State.withPlan (s : State) (i : Nat) (e : PlanEntry) : State :=
  ({ s with lock := { s.lock with lastPlan := e.planId } }.putPlan i e).sendJournal (.counters s.lock.lastId e.planId)

theorem State.insertPlan_eq {s : State} {i : Nat} (h : s.planSlot = some i) (source : Nat) (approx : Bool) (score : Int) (portGen : Nat)
    (peer : Peer) (proof : List Nat) :
    s.insertPlan source approx score portGen peer proof =
      some (nextId s.lock.lastPlan, s.withPlan i (s.newPlan source approx score portGen peer proof)) := by
  rw [State.insertPlan, h]
  simp only [State.withPlan, State.newPlan, State.putPlan_lock]

theorem State.withPlan_lock (s : State) (i : Nat) (e : PlanEntry) :
    (s.withPlan i e).lock = { s.lock with lastPlan := e.planId, lib := spSet {} s.lock.lib i e } := by
  rw [State.withPlan, State.sendJournal_lock, State.putPlan_lock]

theorem State.plan_withPlan_self {s : State} (w : spWf {} 0 s.lock.lib = true) (i : Nat) (e : PlanEntry) : (s.withPlan i e).plan i = e := by
  rw [State.plan, State.withPlan_lock]
  exact spGet_spSet_self _ _ i e 0 w

theorem State.plan_withPlan_ne (s : State) {i j : Nat} (h : j ≠ i) (e : PlanEntry) : (s.withPlan i e).plan j = s.plan j := by
  rw [State.plan, State.withPlan_lock]
  exact spGet_spSet_ne _ _ i j e h

@[simp] theorem State.withPlan_regs (s : State) (i : Nat) (e : PlanEntry) : (s.withPlan i e).regs = s.regs := by simp [State.withPlan]

@[simp] theorem State.withPlan_steer (s : State) (i : Nat) (e : PlanEntry) : (s.withPlan i e).steer = s.steer := by simp [State.withPlan]

@[simp] theorem State.withPlan_mem (s : State) (i : Nat) (e : PlanEntry) : (s.withPlan i e).mem = s.mem := by simp [State.withPlan]

@[simp] theorem State.withPlan_tows (s : State) (i : Nat) (e : PlanEntry) : (s.withPlan i e).tows = s.tows := by simp [State.withPlan]

@[simp] theorem State.withPlan_link (s : State) (i : Nat) (e : PlanEntry) : (s.withPlan i e).link = s.link := by simp [State.withPlan]

@[simp] theorem State.putPlan_enOld (s : State) (i : Nat) (e : PlanEntry) : (s.putPlan i e).pair.enOld = s.pair.enOld := by
  simp [State.putPlan]

@[simp] theorem State.withPlan_enOld (s : State) (i : Nat) (e : PlanEntry) : (s.withPlan i e).pair.enOld = s.pair.enOld := by
  simp [State.withPlan]

/-! ## The commands -/

theorem planSubmit_inserts {s : State} {peer : Peer} {proof : List Nat} {i : Nat} (hfault : planFault peer proof = none)
    (hslot : s.planSlot = some i) (src : Src) :
    planSubmit src peer proof s =
      (s.withPlan i (s.newPlan (if src.queue = 0xFFFF then 2 else 0) false 0 0 peer proof)).completeCopied 0x20 src 0
        (le 8 (nextId s.lock.lastPlan) ++ le 8 (planHash peer proof)) := by
  rw [planSubmit, hfault]
  dsimp only
  rw [State.insertPlan_eq hslot]

theorem planSubmit_faulty {s : State} {peer : Peer} {proof : List Nat} {a : Nat} (hfault : planFault peer proof = some a) (src : Src) :
    planSubmit src peer proof s = s.refuse 0x20 src .range a := by
  rw [planSubmit, hfault]

theorem planDrop_eq {s : State} {id i : Nat} (h : s.planIndex id = some i) (src : Src) :
    planDrop src id s = if (s.plan i).state = 2 then s.refuse 0x21 src .state else (s.putPlan i {}).completeCopied 0x21 src := by
  rw [planDrop, h]

theorem exec_planSubmit {s : State} {src : Src} (h : s.accepts 0x20 src) (peer : Peer) (proof : List Nat) :
    exec (.planSubmit src peer proof) s = .next (planSubmit src peer proof (s.taking src)) :=
  congrArg Host.Outcome.next (State.handle_accepted h _)

theorem exec_planDrop {s : State} {src : Src} (h : s.accepts 0x21 src) (id : Nat) :
    exec (.planDrop src id) s = .next (planDrop src id (s.taking src)) :=
  congrArg Host.Outcome.next (State.handle_accepted h _)

/-- Settles O21: a plan is inserted in the entry the library has for it, and dropped from its entry unless a cycle names it. -/
theorem planCommands : Obligations.PlanCommands := by
  refine ⟨fun s src peer proof i hwf hacc hfault hslot => ?_, fun s src peer proof a hwf hacc hfault => ?_,
    fun s src id i hwf hacc hid => ?_⟩
  · have wL : spWf {} 0 (s.taking src).lock.lib = true := State.libWf_of_allWf (s := s) hwf
    refine ⟨_, (exec_planSubmit hacc peer proof).trans
      (congrArg _ (planSubmit_inserts (s := s.taking src) hfault hslot src)), ?_⟩
    generalize hu : (s.taking src).withPlan i _ = u
    have hi : u.plan i = (s.taking src).newPlan (if src.queue = 0xFFFF then 2 else 0) false 0 0 peer proof := by rw [← hu]; exact State.plan_withPlan_self wL i _
    have hlock : u.lock = { s.lock with lib := u.lock.lib, lastPlan := nextId s.lock.lastPlan } := by
      rw [← hu, State.withPlan_lock]; rfl
    have hregs : u.regs = s.regs := by rw [← hu, State.withPlan_regs]; rfl
    have hold : u.pair.enOld = s.pair.enOld := by rw [← hu, State.withPlan_enOld]; rfl
    have hopen : s.Open u src := by
      rw [← hu]
      exact (State.Open.taking s src).trans (State.Open.of_keeps src (by simp) (by simp) (by simp))
    rw [State.plan_of_lock (State.completeCopied_lock ..), hi]
    refine ⟨rfl, rfl, rfl, rfl, rfl, fun j hj => ?_, ?_, ?_, ?_, fieldsKept_of_regs (by simpa using hregs) _, fun hoff => ?_⟩
    · rw [State.plan_of_lock (State.completeCopied_lock ..), ← hu, State.plan_withPlan_ne _ hj]; rfl
    · rw [State.completeCopied_lock]; exact hlock
    · rw [State.completeCopied_steer, ← hu, State.withPlan_steer]; rfl
    · rw [State.completeCopied_mem, ← hu, State.withPlan_mem]; rfl
    · rw [State.completeCopied_eq ((State.attached_of_keeps hregs hold).trans hoff)]
      exact hacc.completed hwf hopen ..
  · obtain ⟨hans, hrep⟩ := hacc.refused hwf .range a
    exact ⟨_, (exec_planSubmit hacc peer proof).trans (congrArg _ (planSubmit_faulty hfault src)), hans, hrep⟩
  · have wL : spWf {} 0 (s.taking src).lock.lib = true := State.libWf_of_allWf (s := s) hwf
    have hdrop := (exec_planDrop hacc id).trans (congrArg _ (planDrop_eq (s := s.taking src) hid src))
    refine ⟨fun hst => ?_, fun hst => ?_⟩
    · refine ⟨_, hdrop.trans (congrArg _ (if_neg hst)), ?_⟩
      have hregs : ((s.taking src).putPlan i {}).regs = s.regs := by rw [State.putPlan_regs]; rfl
      have hold : ((s.taking src).putPlan i {}).pair.enOld = s.pair.enOld := by rw [State.putPlan_enOld]; rfl
      have hopen : s.Open ((s.taking src).putPlan i {}) src :=
        (State.Open.taking s src).trans (State.Open.of_keeps src (by simp) (by simp) (by simp))
      refine ⟨?_, fun j hj => ?_, ?_, ?_, ?_, fieldsKept_of_regs (by simpa using hregs) _, fun hoff => ?_⟩
      · rw [State.plan_of_lock (State.completeCopied_lock ..), State.plan_putPlan_self wL]
      · rw [State.plan_of_lock (State.completeCopied_lock ..), State.plan_putPlan_ne _ hj]; rfl
      · rw [State.completeCopied_lock, State.putPlan_lock]; rfl
      · rw [State.completeCopied_steer, State.putPlan_steer]; rfl
      · rw [State.completeCopied_mem, State.putPlan_mem]; rfl
      · rw [State.completeCopied_eq ((State.attached_of_keeps hregs hold).trans hoff)]
        exact hacc.completed hwf hopen ..
    · obtain ⟨hans, hrep⟩ := hacc.refused hwf .state 0
      exact ⟨_, hdrop.trans (congrArg _ (if_pos hst)), hans, hrep⟩

end Sys2Proof.Machine
end

section
/-!
PROOFS. Tow spaces (R121, R127): SPACE_CREATE and SPACE_DESTROY.
-/

namespace Sys2Proof.Machine

theorem State.spacesWf_of_allWf {s : State} (h : s.allWf = true) : spWf none 0 s.tows.spaces = true := by
  simp only [State.allWf, State.serviceWf, Bool.and_eq_true] at h
  tauto

/-! ## Completions of commands of host queues -/

/-- A policy ring gives no command but those of plans and cycles (R178). -/
theorem State.accepts.hostQueue {s : State} {op : Nat} {src : Src} (h : s.accepts op src) (hop : op ∉ policyOps) : src.queue ≠ 0xFFFF := by
  intro hq
  have hgate : s.gate op src = none := h.2.2.1
  simp [State.gate, hq, hop] at hgate

theorem State.cqOf_host (s : State) {src : Src} (h : src.queue ≠ 0xFFFF) : s.cqOf src = (s.queue src.queue).cq := by
  rw [State.cqOf, if_neg h]

/-- A command of a host queue stays open in every state with the same link. -/
theorem State.Open.of_queues {s t : State} {src : Src} (h : src.queue ≠ 0xFFFF) (hq : t.link.queues = s.link.queues)
    (hf : t.link.flrDiscard = s.link.flrDiscard) : s.Open t src :=
  ⟨hq, hf, by rw [State.cqOf_host _ h, State.cqOf_host _ h, State.queue_eq_of_queues hq]⟩

@[simp] theorem State.complete_cache (s : State) (op : Nat) (src : Src) (st : Status) (reason detail : Nat) (result cells : List Byte) :
    (s.complete op src st reason detail result cells).link.cache = s.link.cache := by
  have hback : (s.unreserve src).link.cache = s.link.cache := by
    unfold State.unreserve
    extract_lets n ends s1 s2 s3
    have h1 : s1.link.cache = s.link.cache := by
      exact foldl_keeps (fun s : State => s.link.cache) (fun s p => s.modQueue p.2 _) ends (fun _ _ => rfl) s
    split <;> exact h1
  have hnote : ((s.unreserve src).noteStatus src st reason detail).link.cache = s.link.cache :=
    (congrArg Link.cache (State.noteStatus_linkRest ..) :).trans hback
  unfold State.complete
  extract_lets cq s1 s2 s3 d
  have h3 : s3.link.cache = s.link.cache := hnote
  split
  · exact h3
  · split <;> exact h3

/-! ## SPACE_CREATE -/

theorem State.zeroBound_frame (s : State) (p : Nat) : s.zeroBound p = { s with counters := (s.zeroBound p).counters } := by
  unfold State.zeroBound
  refine List.foldlRecOn (motive := fun t : State => t = { s with counters := t.counters }) _ _ rfl fun t ht k _ => ?_
  split
  · rw [ht]
  · exact ht

/-- The machine with a tow space in its place. -/
def State.withSpace (s : State) (p : Nat) (sp : Space) : State :=
  { s with tows := { s.tows with spaces := spSet none s.tows.spaces p (some sp) } }

theorem exec_spaceCreate {s : State} {src : Src} (h : s.accepts 0x40 src) (p : Nat) (sp : Space) (hok : sp.rangeOk p = true)
    (hnew : sp = { maxClass := sp.maxClass, hostEn := sp.hostEn, saveSlots := sp.saveSlots, runAhead := sp.runAhead,
                   syncTimeout := sp.syncTimeout, basinBase := sp.basinBase, basinSize := sp.basinSize, stackBase := sp.stackBase,
                   stackSize := sp.stackSize, ptRoot := sp.ptRoot, seed := sp.seed, cq := sp.cq, fq := sp.fq }) :
    exec (.spaceCreate src p sp.maxClass sp.hostEn sp.saveSlots sp.runAhead sp.cq sp.fq sp.syncTimeout sp.ptRoot sp.seed sp.basinBase
        sp.basinSize sp.stackBase sp.stackSize) s =
      .next (if (s.space p).isSome then (s.taking src).refuse 0x40 src .state
        else if !s.allocOk sp then (s.taking src).refuse 0x40 src .resource
        else (((s.taking src).withSpace p sp).zeroBound p).complete 0x40 src .done) := by
  refine congrArg Host.Outcome.next ((State.handle_accepted h _).trans ?_)
  dsimp only
  rw [← hnew, if_neg (by simp [hok])]
  rfl

theorem spaceCreate_done {s : State} {src : Src} (hwf : s.allWf = true) (h : s.accepts 0x40 src) (p : Nat) (sp : Space) :
    let t := (((s.taking src).withSpace p sp).zeroBound p).complete 0x40 src .done
    t.space p = some sp ∧ (∀ q, q ≠ p → t.space q = s.space q) ∧ answered s t 0x40 src .done 0 0 [] [] ∧
      reports { s.without src with tows := { s.tows with spaces := t.tows.spaces } } t [] := by
  intro t
  have hframe := ((s.taking src).withSpace p sp).zeroBound_frame p
  have hspaces : t.tows = { s.tows with spaces := spSet none s.tows.spaces p (some sp) } := by
    rw [State.complete_tows, hframe]; rfl
  have hopen : s.Open (((s.taking src).withSpace p sp).zeroBound p) src :=
    State.Open.of_queues (h.hostQueue (by decide)) (by rw [hframe]; rfl) (by rw [hframe]; rfl)
  refine ⟨?_, fun q hq => ?_, h.completed hwf hopen .., ?_⟩
  · rw [State.space, hspaces]
    exact spGet_spSet_self _ _ p _ 0 (State.spacesWf_of_allWf hwf)
  · rw [State.space, hspaces]
    exact spGet_spSet_ne _ _ p q _ hq
  · rw [hspaces]
    have hcounts : reports { s.without src with tows := { s.tows with spaces := spSet none s.tows.spaces p (some sp) } }
        (((s.taking src).withSpace p sp).zeroBound p) [] := by
      rw [hframe]; exact ⟨rfl, rfl, rfl, fun _ _ => rfl⟩
    exact reports_trans hcounts (h.completion_reports hwf hopen (by rw [hframe]; exact State.regsWf_of_allWf (s := s) hwf) ..)

/-! ## SPACE_DESTROY -/

@[simp] theorem State.dropFeeds_tows (s : State) (mine : Feed → Bool) : (s.dropFeeds mine).tows = s.tows := by
  unfold State.dropFeeds State.fillQueue
  extract_lets gone s1 lost s2
  have h1 : s1.tows = s.tows := by
    dsimp only [s1]
    rw [foldl_keeps State.tows]
    exact fun _ _ => rfl
  have h2 : s2.tows = s1.tows := by simp only [s2]; split <;> rfl
  exact h2.trans h1

@[simp] theorem State.dropFeeds_link (s : State) (mine : Feed → Bool) : (s.dropFeeds mine).link = s.link := by
  unfold State.dropFeeds State.fillQueue
  extract_lets gone s1 lost s2
  have h1 : s1.link = s.link := by
    dsimp only [s1]
    rw [foldl_keeps State.link]
    exact fun _ _ => rfl
  have h2 : s2.link = s1.link := by simp only [s2]; split <;> rfl
  exact h2.trans h1

@[simp] theorem State.dropFeeds_mem (s : State) (mine : Feed → Bool) : (s.dropFeeds mine).mem = s.mem := by
  unfold State.dropFeeds State.fillQueue
  extract_lets gone s1 lost s2
  have h1 : s1.mem = s.mem := by
    dsimp only [s1]
    rw [foldl_keeps State.mem]
    exact fun _ _ => rfl
  have h2 : s2.mem = s1.mem := by simp only [s2]; split <;> rfl
  exact h2.trans h1

@[simp] theorem State.dropFeeds_steer (s : State) (mine : Feed → Bool) : (s.dropFeeds mine).steer = s.steer := by
  unfold State.dropFeeds State.fillQueue
  extract_lets gone s1 lost s2
  have h1 : s1.steer = s.steer := by
    dsimp only [s1]
    rw [foldl_keeps State.steer]
    exact fun _ _ => rfl
  have h2 : s2.steer = s1.steer := by simp only [s2]; split <;> rfl
  exact h2.trans h1

/-- What the end of a tow leaves alone: the tow spaces, the memories and the steering. -/
structure State.TowOnly (s t : State) : Prop where
  spaces : t.tows.spaces = s.tows.spaces
  mem : t.mem = s.mem
  steer : t.steer = s.steer

theorem State.TowOnly.trans {s t u : State} (h : s.TowOnly t) (k : t.TowOnly u) : s.TowOnly u :=
  ⟨k.spaces.trans h.spaces, k.mem.trans h.mem, k.steer.trans h.steer⟩

/-- The array fields a tow's unit shows no more (R129). -/
def State.hideUnit (s : State) (u : Nat) : State :=
  (s.unitArrays u).foldl (fun s n =>
    let s := if s.arrayState n = 2 ∨ s.arrayState n = 3 then s.fset (F.ARRAY_STATUS.STATE n) 1 else s
    ((((s.fset (F.ARRAY_STATUS.CLASS n) 3).fset (F.ARRAY_STATUS.SPACE n) 0).fset (F.ARRAY_STATUS.ESC n) 0).fset
      (F.ARRAY_STATUS.STARVED n) 0).fset (F.ARRAY_STATUS.BARGE n) 0) s

theorem State.hideUnit_keeps (s : State) (u : Nat) : s.hideUnit u = { s with regs := (s.hideUnit u).regs } := by
  unfold State.hideUnit
  refine List.foldlRecOn (motive := fun t : State => t = { s with regs := t.regs }) _ _ rfl fun t ht n _ => ?_
  dsimp only
  split
  · rw [ht]; rfl
  · rw [ht]; rfl

theorem State.leaveUnit_towOnly (s : State) (u : Nat) : s.TowOnly (s.leaveUnit u) ∧ (s.leaveUnit u).tows.tows = s.tows.tows := by
  have h := s.hideUnit_keeps u
  have he : s.leaveUnit u = { s.hideUnit u with tows := { (s.hideUnit u).tows with
      reqs := (s.hideUnit u).tows.reqs.filter (fun r => decide (r.unit ≠ u))
      waits := (s.hideUnit u).tows.waits.filter (fun w => decide (w.1 ≠ u)) } } := rfl
  rw [he, h]
  exact ⟨⟨rfl, rfl, rfl⟩, rfl⟩

/-- The unit of a running tow is left. -/
def State.offUnit (s : State) (t : Tow) : State := match t.phase with | .running u => s.leaveUnit u | _ => s

theorem State.endTow_eq (s : State) (t : Tow) (reason : Nat) : s.endTow t reason = (s.offUnit t).modTow t.space t.tag
    (fun t => { t.unstage with phase := .ended reason, faults := [], heldWrites := [], drain := [] }) := rfl

theorem State.offUnit_towOnly (s : State) (t : Tow) : s.TowOnly (s.offUnit t) ∧ (s.offUnit t).tows.tows = s.tows.tows := by
  unfold State.offUnit
  split
  · exact s.leaveUnit_towOnly _
  · exact ⟨⟨rfl, rfl, rfl⟩, rfl⟩

/-- A tow is to end: it ends at its barge boundary, or it has ended (R127). -/
def Tow.closing (t : Tow) : Prop := t.cancelled = true ∨ t.phase.isEnded = true

/-- A change of a tow that closes it and leaves its place. -/
structure Tow.Closes (f : Tow → Tow) : Prop where
  space : ∀ t, (f t).space = t.space
  tag : ∀ t, (f t).tag = t.tag
  closing : ∀ t, (f t).closing

theorem Tow.closes_cancel : Tow.Closes (fun t => { t with cancelled := true }) := ⟨fun _ => rfl, fun _ => rfl, fun _ => .inl rfl⟩

theorem Tow.closes_end (reason : Nat) :
    Tow.Closes (fun t => { t.unstage with phase := .ended reason, faults := [], heldWrites := [], drain := [] }) :=
  ⟨fun _ => rfl, fun _ => rfl, fun _ => .inr rfl⟩

/-- Cancelling a tow closes every tow of its space and tag, or it has ended already (R127). -/
theorem State.cancelTow_spec (s : State) (w : Tow) : s.TowOnly (s.cancelTow w) ∧
    ((w.phase.isEnded = true ∧ (s.cancelTow w).tows.tows = s.tows.tows) ∨
     ∃ f, Tow.Closes f ∧ (s.cancelTow w).tows.tows = s.tows.tows.map (fun t => if t.space = w.space ∧ t.tag = w.tag then f t else t)) := by
  have hdrop : s.TowOnly (s.dropFeeds w.owns) := ⟨by simp, by simp, by simp⟩
  unfold State.cancelTow
  dsimp only
  split
  case isTrue hend => exact ⟨hdrop, .inl ⟨hend, by simp⟩⟩
  case isFalse =>
    split
    · exact ⟨hdrop.trans ⟨rfl, rfl, rfl⟩, .inr ⟨_, Tow.closes_cancel, by simp [State.modTow]⟩⟩
    · obtain ⟨hleave, htows⟩ := (s.dropFeeds w.owns).offUnit_towOnly w
      refine ⟨hdrop.trans (hleave.trans ⟨rfl, rfl, rfl⟩), .inr ⟨_, Tow.closes_end 1, ?_⟩⟩
      rw [State.endTow_eq, State.modTow, htows, State.dropFeeds_tows]

/-- Every tow of a space is closing, or one of its tag that has not ended is still to be cancelled. -/
def State.ClosingBut (s : State) (p : Nat) (rest : List Tow) : Prop :=
  ∀ x ∈ s.tows.tows, x.space = p → x.closing ∨ ∃ y ∈ rest, y.space = p ∧ y.tag = x.tag ∧ y.phase.isEnded = false

theorem State.ClosingBut.cancel {s : State} {p : Nat} {w : Tow} {rest : List Tow} (h : s.ClosingBut p (w :: rest)) :
    (s.cancelTow w).ClosingBut p rest := by
  intro x hx hxp
  rcases (s.cancelTow_spec w).2 with ⟨hend, hsame⟩ | ⟨f, hf, hmap⟩
  · rw [hsame] at hx
    rcases h x hx hxp with hc | ⟨y, hy, hyp, hyt, hye⟩
    · exact .inl hc
    · rcases List.mem_cons.mp hy with rfl | hy
      · rw [hend] at hye; contradiction
      · exact .inr ⟨y, hy, hyp, hyt, hye⟩
  · rw [hmap] at hx
    obtain ⟨x0, hx0, rfl⟩ := List.mem_map.mp hx
    split at hxp
    case isTrue hm => rw [if_pos hm]; exact .inl (hf.closing x0)
    case isFalse hm =>
      rw [if_neg hm]
      rcases h x0 hx0 hxp with hc | ⟨y, hy, hyp, hyt, hye⟩
      · exact .inl hc
      · rcases List.mem_cons.mp hy with rfl | hy
        · exact absurd ⟨hxp.trans hyp.symm, hyt.symm⟩ hm
        · exact .inr ⟨y, hy, hyp, hyt, hye⟩

theorem State.cancelTow_hasTow (s : State) (w : Tow) {p : Nat} (h : ∃ x ∈ s.tows.tows, x.space = p) :
    ∃ x ∈ (s.cancelTow w).tows.tows, x.space = p := by
  obtain ⟨x, hx, hxp⟩ := h
  rcases (s.cancelTow_spec w).2 with ⟨-, hsame⟩ | ⟨f, hf, hmap⟩
  · exact ⟨x, hsame ▸ hx, hxp⟩
  · rw [hmap]
    refine ⟨_, List.mem_map.mpr ⟨x, hx, rfl⟩, ?_⟩
    split
    · rw [hf.space, hxp]
    · exact hxp

theorem State.cancelTows_spec {p : Nat} (l : List Tow) (s : State) (hc : s.ClosingBut p l) (hx : ∃ x ∈ s.tows.tows, x.space = p) :
    s.TowOnly (l.foldl (fun s t => s.cancelTow t) s) ∧ (l.foldl (fun s t => s.cancelTow t) s).ClosingBut p [] ∧
      ∃ x ∈ (l.foldl (fun s t => s.cancelTow t) s).tows.tows, x.space = p := by
  induction l generalizing s with
  | nil => exact ⟨⟨rfl, rfl, rfl⟩, hc, hx⟩
  | cons w l ih =>
    obtain ⟨honly, hclosed, hstill⟩ := ih (s.cancelTow w) hc.cancel (s.cancelTow_hasTow w hx)
    exact ⟨(s.cancelTow_spec w).1.trans honly, hclosed, hstill⟩

/-- The machine while a space is being destroyed, before its tows are cancelled (R121, R171). -/
def State.destroyingSpace (s : State) (src : Src) (p : Nat) : State :=
  (s.modSpace p (fun sp => { sp with destroying := some src })).dropFeeds (fun f => decide (f.space = p))

theorem exec_spaceDestroy {s : State} {src : Src} {p : Nat} {sp : Space} (h : s.accepts 0x41 src) (h1 : 1 ≤ p) (h63 : p ≤ 63)
    (hsp : s.space p = some sp) (hd : sp.destroying = none) :
    exec (.spaceDestroy src p) s = .next (((((s.taking src).destroyingSpace src p).tows.tows.filter
      (fun t => decide (t.space = p))).foldl (fun s t => s.cancelTow t) ((s.taking src).destroyingSpace src p)).settleSpace p) := by
  refine congrArg Host.Outcome.next ((State.handle_accepted h _).trans ?_)
  have hsp' : (s.taking src).space p = some sp := hsp
  rw [if_neg (by simp [h1, h63]), hsp']
  dsimp only
  rw [if_neg (by simp [hd])]
  rfl

theorem State.space_destroyingSpace {s : State} (w : spWf none 0 s.tows.spaces = true) {p : Nat} {sp : Space} (hsp : s.space p = some sp)
    (src : Src) : (s.destroyingSpace src p).space p = some { sp with destroying := some src } := by
  rw [State.space, State.destroyingSpace, State.dropFeeds_tows]
  refine (spGet_spSet_self _ _ p _ 0 w).trans ?_
  rw [show spGet none s.tows.spaces p = some sp from hsp]
  rfl

theorem State.settleSpace_waits {s : State} {p : Nat} (h : ∃ x ∈ s.tows.tows, x.space = p) : s.settleSpace p = s := by
  have hany : s.tows.tows.any (fun t => decide (t.space = p)) = true := by simpa using h
  unfold State.settleSpace
  split
  · split
    · rw [if_pos hany]
    · rfl
  · rfl

/-- The machine without a space. -/
def State.spaceGone (s : State) (p : Nat) : State :=
  let s := s.uncache p true 0 12
  { s with tows := { s.tows with spaces := spSet none s.tows.spaces p none
                                 past := s.tows.past.filter (fun q => decide (q.1 ≠ p)) } }

theorem State.settleSpace_done {s : State} {p : Nat} {sp : Space} {src : Src} (hsp : s.space p = some sp)
    (hd : sp.destroying = some src) (h : ∀ x ∈ s.tows.tows, x.space ≠ p) :
    s.settleSpace p = (s.spaceGone p).complete 0x41 src .done := by
  have hany : ¬ s.tows.tows.any (fun t => decide (t.space = p)) = true := by simpa using h
  rw [State.settleSpace, hsp]
  dsimp only
  rw [hd]
  dsimp only
  rw [if_neg hany]
  rfl

theorem spaceDestroy_done {s : State} {src : Src} {p : Nat} {sp : Space} (hwf : s.allWf = true) (h : s.accepts 0x41 src) (h1 : 1 ≤ p)
    (h63 : p ≤ 63) (hsp : s.space p = some sp) (hd : sp.destroying = none) (hnone : ∀ w ∈ s.tows.tows, w.space ≠ p) :
    ∃ t, exec (.spaceDestroy src p) s = .next t ∧ t.space p = none ∧ (∀ q, q ≠ p → t.space q = s.space q) ∧
      (∀ c ∈ t.link.cache, c.ctx ≠ p) ∧ t.tows.tows = s.tows.tows ∧ answered s t 0x41 src .done 0 0 [] [] ∧ t.mem = s.mem ∧
      t.steer = s.steer := by
  have wS : spWf none 0 (s.taking src).tows.spaces = true := State.spacesWf_of_allWf (s := s) hwf
  generalize hu : (s.taking src).destroyingSpace src p = u
  have hmine : u.space p = some { sp with destroying := some src } := by
    rw [← hu]; exact State.space_destroyingSpace wS hsp src
  have htows : u.tows.tows = s.tows.tows := by rw [← hu]; simp [State.destroyingSpace, State.modSpace, State.taking]; rfl
  have hspaces : ∀ q, q ≠ p → u.space q = s.space q := fun q hq => by
    rw [← hu, State.space, State.destroyingSpace, State.dropFeeds_tows]
    exact spGet_spSet_ne _ _ p q _ hq
  have wU : spWf none 0 u.tows.spaces = true := by
    rw [← hu, State.destroyingSpace, State.dropFeeds_tows]
    exact spSet_wf _ _ p _ 0 (Nat.zero_le p) wS
  have hnoTow : u.tows.tows.filter (fun t => decide (t.space = p)) = [] := by
    rw [htows, List.filter_eq_nil_iff]; simpa using hnone
  refine ⟨(u.spaceGone p).complete 0x41 src .done, ?_, ?_, fun q hq => ?_, ?_, ?_, ?_, ?_, ?_⟩
  · rw [exec_spaceDestroy h h1 h63 hsp hd, hu, hnoTow]
    exact congrArg _ (State.settleSpace_done hmine rfl (htows ▸ hnone))
  · rw [State.space, State.complete_tows]
    exact spGet_spSet_self _ _ p _ 0 wU
  · rw [State.space, State.complete_tows, ← hspaces q hq]
    exact spGet_spSet_ne _ _ p q _ hq
  · rw [State.complete_cache]
    intro c hc
    simpa using (List.mem_filter.mp hc).2
  · rw [State.complete_tows]; exact htows
  · refine h.completed hwf (State.Open.of_queues (h.hostQueue (by decide)) ?_ ?_) ..
    · show u.link.queues = _
      rw [← hu, State.destroyingSpace, State.dropFeeds_link]; rfl
    · show u.link.flrDiscard = _
      rw [← hu, State.destroyingSpace, State.dropFeeds_link]; rfl
  · rw [State.complete_mem]
    show u.mem = _
    rw [← hu, State.destroyingSpace, State.dropFeeds_mem]; rfl
  · rw [State.complete_steer]
    show u.steer = _
    rw [← hu, State.destroyingSpace, State.dropFeeds_steer]; rfl

theorem spaceDestroy_waits {s : State} {src : Src} {p : Nat} {sp : Space} (hwf : s.allWf = true) (h : s.accepts 0x41 src) (h1 : 1 ≤ p)
    (h63 : p ≤ 63) (hsp : s.space p = some sp) (hd : sp.destroying = none) (hsome : ∃ w ∈ s.tows.tows, w.space = p) :
    ∃ t, exec (.spaceDestroy src p) s = .next t ∧ t.space p = some { sp with destroying := some src } ∧
      (∀ x ∈ t.tows.tows, x.space = p → x.cancelled = true ∨ x.phase.isEnded = true) ∧ t.mem = s.mem ∧ t.steer = s.steer := by
  have wS : spWf none 0 (s.taking src).tows.spaces = true := State.spacesWf_of_allWf (s := s) hwf
  have hexec := exec_spaceDestroy h h1 h63 hsp hd
  have hmine := State.space_destroyingSpace wS hsp src
  generalize hu : (s.taking src).destroyingSpace src p = u at hexec hmine
  have htows : u.tows.tows = s.tows.tows := by rw [← hu]; simp [State.destroyingSpace, State.modSpace, State.taking]; rfl
  have hmem : u.mem = s.mem := by rw [← hu, State.destroyingSpace, State.dropFeeds_mem]; rfl
  have hsteer : u.steer = s.steer := by rw [← hu, State.destroyingSpace, State.dropFeeds_steer]; rfl
  have hstart : u.ClosingBut p (u.tows.tows.filter (fun t => decide (t.space = p))) := by
    intro x hx hxp
    by_cases he : x.phase.isEnded = true
    · exact .inl (.inr he)
    · exact .inr ⟨x, List.mem_filter.mpr ⟨hx, by simpa using hxp⟩, hxp, rfl, by simpa using he⟩
  obtain ⟨honly, hclosed, hstill⟩ := State.cancelTows_spec _ u hstart (by rw [htows]; exact hsome)
  rw [State.settleSpace_waits hstill] at hexec
  refine ⟨_, hexec, ?_, fun x hx hxp => ?_, honly.mem.trans hmem, honly.steer.trans hsteer⟩
  · rw [State.space, honly.spaces]; exact hmine
  · rcases hclosed x hx hxp with hc | ⟨y, hy, -⟩
    · exact hc
    · exact absurd hy (List.not_mem_nil)

/-- Settles O29: a space created holds what the command names; one destroyed goes at once, or once its tows have ended. -/
theorem towSpaces : Obligations.TowSpaces := by
  refine ⟨fun s src p mc he slots ahead cq fq tmo root seed bb bs sb ss hwf hacc => ?_,
    fun s src p sp hwf hacc h1 h63 hsp hd => ⟨spaceDestroy_done hwf hacc h1 h63 hsp hd, spaceDestroy_waits hwf hacc h1 h63 hsp hd⟩⟩
  intro sp hok
  have hexec := exec_spaceCreate hacc p sp hok rfl
  refine ⟨fun hfree halloc => ?_, fun hused => ?_⟩
  · rw [if_neg (by simp [hfree]), if_neg (by simp [halloc])] at hexec
    exact ⟨_, hexec, spaceCreate_done hwf hacc p sp⟩
  · rw [if_pos (by simpa [Option.isSome_iff_ne_none] using hused)] at hexec
    obtain ⟨hans, hrep⟩ := hacc.refused hwf .state 0
    exact ⟨_, hexec, hans, hrep⟩

end Sys2Proof.Machine
end

section
/-!
PROOFS. Register fields through resets, rungs and images (R13, R14, R390): which fields an event keeps, which it takes to their reset
values, and which an image does not touch, read off the field tables.
-/

namespace Sys2Proof.Machine

/-! ## One word -/

/-- A row of a word lies inside it, apart from a field of the same word. -/
def FieldRow.clear (r : FieldRow) (f : Fld) : Bool :=
  decide (r.lo + r.width ≤ 32) && (decide (f.lo + f.width ≤ r.lo) || decide (r.lo + r.width ≤ f.lo))

theorem FieldRow.clear_fldPut {r : FieldRow} {f : Fld} (h : r.clear f = true) (w : Word) (v : Nat) :
    fldOf (fldPut w r.fld v) f = fldOf w f := by
  simp only [FieldRow.clear, Bool.and_eq_true, Bool.or_eq_true, decide_eq_true_eq] at h
  exact fldOf_fldPut_apart w r.fld f v h.1 h.2

/-- A field put back with its own value leaves the word. -/
theorem fldPut_fldOf (w : Word) (f : Fld) : fldPut w f (fldOf w f) = w := by
  have hle : fldOf w f * 2 ^ f.lo ≤ w.toNat :=
    (Nat.mul_le_mul_right _ (Nat.mod_le _ _)).trans (Nat.div_mul_le_self _ _)
  have hmod : fldOf w f % 2 ^ f.width = fldOf w f := Nat.mod_mod _ _
  rw [fldPut, hmod, Nat.sub_add_cancel hle, BitVec.ofNat_toNat, BitVec.setWidth_eq]

/-- The event (kind, rung) changes no row that meets f. -/
def Fld.keptBy (f : Fld) (kind rung : Nat) : Bool :=
  (rowsOf f.off).all (fun r => r.survives kind rung || liveRow kind f.off r || r.clear f)

/-- No field coded I of the word meets f. -/
def Fld.imageFree (f : Fld) : Bool := (rowsOf f.off).all (fun r => !r.img || r.clear f)

/-- The row is that of f, and the event takes it to its reset value. -/
def FieldRow.isLost (r : FieldRow) (f : Fld) (kind rung : Nat) : Bool :=
  decide (r.lo = f.lo) && decide (r.width = f.width) && decide (f.lo + f.width ≤ 32) && !r.survives kind rung &&
  !liveRow kind f.off r

/-- The event takes f to its reset value. -/
def Fld.lostBy (f : Fld) (kind rung : Nat) : Bool :=
  (rowsOf f.off).all (fun r => r.isLost f kind rung || r.clear f) && (rowsOf f.off).any (fun r => r.isLost f kind rung)

/-- What an event does to one row of a word. -/
def rowAfter (kind rung off : Nat) (w : Word) (r : FieldRow) : Word :=
  if r.survives kind rung || liveRow kind off r then w else fldPut w r.fld (fldOf (resetWord off) r.fld)

theorem wordAfter_eq (kind rung off : Nat) (w : Word) : wordAfter kind rung off w = (rowsOf off).foldl (rowAfter kind rung off) w := rfl

theorem wordAfter_resetWord (kind rung off : Nat) : wordAfter kind rung off (resetWord off) = resetWord off := by
  rw [wordAfter_eq]
  refine List.foldlRecOn (motive := fun w => w = resetWord off) _ _ rfl fun w hw r _ => ?_
  rw [rowAfter, hw]
  split
  · rfl
  · exact fldPut_fldOf _ _

theorem fldOf_wordAfter_kept {f : Fld} {kind rung : Nat} (h : f.keptBy kind rung = true) (w : Word) :
    fldOf (wordAfter kind rung f.off w) f = fldOf w f := by
  rw [wordAfter_eq]
  refine List.foldlRecOn (motive := fun w' => fldOf w' f = fldOf w f) _ _ rfl fun w' hw r hr => ?_
  have hrow := List.all_eq_true.mp h r hr
  rw [rowAfter]
  split
  · exact hw
  · next hno =>
    have hclear : r.clear f = true := by simpa [hno] using hrow
    rw [FieldRow.clear_fldPut hclear, hw]

theorem fldOf_rowAfter_lost {r : FieldRow} {f : Fld} {kind rung : Nat} (h : r.isLost f kind rung = true) (w : Word) :
    fldOf (rowAfter kind rung f.off w r) f = fldOf (resetWord f.off) f := by
  simp only [FieldRow.isLost, Bool.and_eq_true, decide_eq_true_eq, Bool.not_eq_true'] at h
  obtain ⟨⟨⟨⟨hlo, hwd⟩, hfit⟩, hsv⟩, hlv⟩ := h
  rw [rowAfter, hsv, hlv]
  have hfld : fldOf (resetWord f.off) r.fld = fldOf (resetWord f.off) f := by simp only [fldOf, FieldRow.fld, hlo, hwd]
  have hself := fldOf_fldPut_self w r.fld (fldOf (resetWord f.off) r.fld) (by simpa [FieldRow.fld, hlo, hwd] using hfit)
  rw [hfld] at hself ⊢
  refine Eq.trans ?_ (hself.trans ?_)
  · simp only [fldOf, FieldRow.fld, hlo, hwd]; rfl
  · rw [fldOf, FieldRow.fld, hwd]; exact Nat.mod_mod _ _

theorem fldOf_rowAfter_clear {r : FieldRow} {f : Fld} (kind rung : Nat) (h : r.clear f = true) (w : Word) :
    fldOf (rowAfter kind rung f.off w r) f = fldOf w f := by
  rw [rowAfter]
  split
  · rfl
  · exact FieldRow.clear_fldPut h _ _

theorem fldOf_wordAfter_lost {f : Fld} {kind rung : Nat} (h : f.lostBy kind rung = true) (w : Word) :
    fldOf (wordAfter kind rung f.off w) f = fldOf (resetWord f.off) f := by
  rw [wordAfter_eq]
  simp only [Fld.lostBy, Bool.and_eq_true, List.all_eq_true, List.any_eq_true, Bool.or_eq_true] at h
  obtain ⟨hall, hsome⟩ := h
  generalize rowsOf f.off = rows at hall hsome
  induction rows generalizing w with
  | nil => obtain ⟨r, hr, -⟩ := hsome; exact absurd hr List.not_mem_nil
  | cons x xs ih =>
    rw [List.foldl_cons]
    by_cases hxs : ∃ y ∈ xs, y.isLost f kind rung = true
    · exact ih _ (fun z hz => hall z (List.mem_cons_of_mem x hz)) hxs
    · have hx : x.isLost f kind rung = true := by
        obtain ⟨r, hr, hlost⟩ := hsome
        rcases List.mem_cons.mp hr with rfl | hr
        · exact hlost
        · exact absurd ⟨r, hr, hlost⟩ hxs
      refine List.foldlRecOn (motive := fun w' => fldOf w' f = fldOf (resetWord f.off) f) _ _ (fldOf_rowAfter_lost hx w)
        fun w' hw z hz => ?_
      rcases hall z (List.mem_cons_of_mem x hz) with hl | hc
      · exact fldOf_rowAfter_lost hl w'
      · rw [fldOf_rowAfter_clear kind rung hc, hw]

/-- The rows that meet f take no image value. -/
theorem fldOf_imageInto {f : Fld} {p : FieldRow → Bool} (h : ∀ r ∈ rowsOf f.off, r.img = true → p r = true → r.clear f = true)
    (img w : Word) : fldOf (imageInto (rowsOf f.off) p img w) f = fldOf w f := by
  unfold imageInto
  refine List.foldlRecOn (motive := fun w' => fldOf w' f = fldOf w f) _ _ rfl fun w' hw r hr => ?_
  split
  · next hi =>
    obtain ⟨himg, hp⟩ := Bool.and_eq_true_iff.mp hi
    rw [FieldRow.clear_fldPut (h r hr himg hp), hw]
  · exact hw

theorem imageInto_resetWord (p : FieldRow → Bool) (off : Nat) : imageInto (rowsOf off) p (resetWord off) (resetWord off) = resetWord off := by
  unfold imageInto
  refine List.foldlRecOn (motive := fun w => w = resetWord off) _ _ rfl fun w hw r _ => ?_
  rw [hw]
  split
  · exact fldPut_fldOf _ _
  · rfl

/-! ## The register file -/

theorem mapWords_wf (f : Nat → Word → Word) (m : Sparse Word) (lo : Nat) (h : wordsWf lo m = true) : wordsWf lo (mapWords f m) = true := by
  induction m generalizing lo with
  | nil => rfl
  | cons p m ih =>
    obtain ⟨k, v⟩ := p
    simp only [wordsWf, Bool.and_eq_true, decide_eq_true_eq] at h
    obtain ⟨⟨hlo, -⟩, hm⟩ := h
    rw [mapWords]
    split
    · exact wordsWf_mono _ _ _ (by omega) (ih (k + 1) hm)
    · simp [wordsWf, ih (k + 1) hm, *]

theorem wordGet_mapWords {f : Nat → Word → Word} (hf : ∀ k, f k (resetWord k) = resetWord k) (m : Sparse Word) (k lo : Nat)
    (h : wordsWf lo m = true) : wordGet (mapWords f m) k = f k (wordGet m k) := by
  induction m generalizing lo with
  | nil => exact (hf k).symm
  | cons p m ih =>
    obtain ⟨k', v⟩ := p
    simp only [wordsWf, Bool.and_eq_true, decide_eq_true_eq] at h
    have hrest : wordsWf (k' + 1) m = true := h.2
    rw [mapWords]
    by_cases hk : k' = k
    · subst hk
      have hget : wordGet ((k', v) :: m) k' = v := by simp [wordGet, spGet]
      rw [hget]
      split
      · next he =>
        rw [he]
        exact wordGet_below _ (k' + 1) k' _ (mapWords_wf f m _ hrest) (Nat.lt_succ_self k')
      · simp [wordGet, spGet]
    · have hget : wordGet ((k', v) :: m) k = wordGet m k := by simp [wordGet, spGet, hk]
      rw [hget, ← ih (k' + 1) hrest]
      split
      · rfl
      · simp [wordGet, spGet, hk]

theorem regsAfter_wf (kind rung : Nat) (m : Sparse Word) (h : wordsWf 0 m = true) : wordsWf 0 (regsAfter kind rung m) = true :=
  mapWords_wf _ m 0 h

theorem putImage_wf (vals : List (Nat × Word)) (own : Nat → Bool) (p : FieldRow → Bool) (m : Sparse Word) (h : wordsWf 0 m = true) :
    wordsWf 0 (putImage vals own p m) = true := by
  unfold putImage
  refine List.foldlRecOn (motive := fun m => wordsWf 0 m = true) _ _ h fun m hm v _ => ?_
  split
  · exact wordSet_wf m v.1 _ 0 (Nat.zero_le _) hm
  · exact hm

theorem fldOf_putImage {f : Fld} {own : Nat → Bool} {p : FieldRow → Bool}
    (hrows : own f.off = true → ∀ r ∈ rowsOf f.off, r.img = true → p r = true → r.clear f = true) (vals : List (Nat × Word))
    (m : Sparse Word) (h : wordsWf 0 m = true) : fldOf (wordGet (putImage vals own p m) f.off) f = fldOf (wordGet m f.off) f := by
  unfold putImage
  refine (List.foldlRecOn (motive := fun m' => wordsWf 0 m' = true ∧ fldOf (wordGet m' f.off) f = fldOf (wordGet m f.off) f) _ _
    ⟨h, rfl⟩ fun m' hm v _ => ?_).2
  split
  · next hv =>
    refine ⟨wordSet_wf m' v.1 _ 0 (Nat.zero_le _) hm.1, ?_⟩
    by_cases he : f.off = v.1
    · have hown : own f.off = true := by rw [he]; exact (Bool.and_eq_true_iff.mp hv).1
      rw [← he, wordGet_wordSet_self _ _ _ 0 hm.1, fldOf_imageInto (hrows hown), hm.2]
    · rw [wordGet_wordSet_ne _ _ _ _ he, hm.2]
  · exact hm

/-! ## The state -/

theorem State.after_wf {s : State} (w : wordsWf 0 s.regs = true) (kind rung : Nat) : wordsWf 0 (s.after kind rung).regs = true :=
  regsAfter_wf kind rung s.regs w

theorem State.fget_after_kept {s : State} (w : wordsWf 0 s.regs = true) {f : Fld} {kind rung : Nat} (h : f.keptBy kind rung = true) :
    (s.after kind rung).fget f = s.fget f := by
  have hword : (s.after kind rung).word f.off = wordAfter kind rung f.off (s.word f.off) :=
    wordGet_mapWords (wordAfter_resetWord kind rung) s.regs f.off 0 w
  rw [State.fget, hword, fldOf_wordAfter_kept h]
  rfl

theorem State.fget_after_lost {s : State} (w : wordsWf 0 s.regs = true) {f : Fld} {kind rung : Nat} (h : f.lostBy kind rung = true) :
    (s.after kind rung).fget f = fldOf (resetWord f.off) f := by
  have hword : (s.after kind rung).word f.off = wordAfter kind rung f.off (s.word f.off) :=
    wordGet_mapWords (wordAfter_resetWord kind rung) s.regs f.off 0 w
  rw [State.fget, hword, fldOf_wordAfter_lost h]

theorem State.reimage_frame (s : State) (own : Nat → Bool) (p : FieldRow → Bool) :
    s.reimage own p = { s with regs := (s.reimage own p).regs } := by
  unfold State.reimage
  split <;> rfl

theorem State.reimage_wf {s : State} (w : wordsWf 0 s.regs = true) (own : Nat → Bool) (p : FieldRow → Bool) :
    wordsWf 0 (s.reimage own p).regs = true := by
  unfold State.reimage
  split
  · next i _ => exact putImage_wf i.vals (fun off => own (ownerOf off)) p s.regs w
  · exact w

theorem State.fget_reimage {s : State} (w : wordsWf 0 s.regs = true) {own : Nat → Bool} {p : FieldRow → Bool} {f : Fld}
    (h : own (ownerOf f.off) = true → ∀ r ∈ rowsOf f.off, r.img = true → p r = true → r.clear f = true) :
    (s.reimage own p).fget f = s.fget f := by
  unfold State.reimage
  split
  · exact fldOf_putImage (own := fun off => own (ownerOf off)) h _ _ w
  · rfl

/-- A field apart from every field coded I of its word takes no image value. -/
theorem State.fget_reimage_free {s : State} (w : wordsWf 0 s.regs = true) {f : Fld} (h : f.imageFree = true) (own : Nat → Bool)
    (p : FieldRow → Bool) : (s.reimage own p).fget f = s.fget f :=
  State.fget_reimage w fun _ r hr himg _ => by simpa [himg] using List.all_eq_true.mp h r hr

/-- A field that the event keeps is not regained after it. -/
theorem State.fget_reimage_kept {s : State} (w : wordsWf 0 s.regs = true) {f : Fld} {kind rung : Nat} (h : f.keptBy kind rung = true)
    (own : Nat → Bool) : (s.reimage own (fun r => !r.survives kind rung)).fget f = s.fget f :=
  State.fget_reimage w fun _ r hr himg hp => by
    have hrow := List.all_eq_true.mp h r hr
    have hlive : liveRow kind f.off r = false := by simp [liveRow, himg]
    have hno : r.survives kind rung = false := by simpa using hp
    simpa [hlive, hno] using hrow

end Sys2Proof.Machine
end

section
/-!
PROOFS. What notes of an event leave alone: logbook entries, counts, messages, sticky bits and writes of listed register fields change
nothing but the register file, the logbook, the counters, the messages, and what has left the module.
-/

namespace Sys2Proof.Machine

/-- Whether two fields share no bit, as a test. -/
def Fld.isApart (f g : Fld) : Bool := decide (f.off ≠ g.off) || decide (f.lo + f.width ≤ g.lo) || decide (g.lo + g.width ≤ f.lo)

theorem Fld.apart_of_test {f g : Fld} (h : f.isApart g = true) : Fld.apart f g := by
  simpa [Fld.isApart, Fld.apart, or_assoc] using h

/-- A list of fields none of which meets g. -/
theorem apart_of_test {l : List Fld} {g : Fld} (h : l.all (fun f => f.isApart g) = true) : ∀ f ∈ l, Fld.apart f g :=
  fun f hf => Fld.apart_of_test (List.all_eq_true.mp h f hf)

/-- t is s after logbook entries, counts, messages and writes of the register fields l. -/
structure State.Notes (s t : State) (l : List Fld) : Prop where
  form : wordsWf 0 t.regs = true
  kept : fieldsKept s t (l ++ logFields)
  rest : t.wipe = s.wipe
  link : t.linkRest = s.linkRest

namespace State.Notes

variable {s t u : State} {l m : List Fld}

theorem refl (w : wordsWf 0 s.regs = true) (l : List Fld) : s.Notes s l := ⟨w, fun _ _ => rfl, rfl, rfl⟩

theorem trans (h : s.Notes t l) (k : t.Notes u l) : s.Notes u l :=
  ⟨k.form, fun g hg => (k.kept g hg).trans (h.kept g hg), k.rest.trans h.rest, k.link.trans h.link⟩

theorem mono (h : s.Notes t l) (hl : ∀ f ∈ l, f ∈ m) : s.Notes t m :=
  ⟨h.form, fun g hg => h.kept g fun f hf => hg f (by
    simp only [List.mem_append] at hf ⊢; exact hf.imp (hl f) id), h.rest, h.link⟩

theorem fset (h : s.Notes t l) {f : Fld} (hf : f ∈ l ++ logFields) (fits : f.lo + f.width ≤ 32) (v : Nat) : s.Notes (t.fset f v) l :=
  h.trans ⟨t.fset_wf f v h.form, fun g hg => t.fget_fset_apart f g v fits h.form (hg f hf), rfl, rfl⟩

theorem fadd (h : s.Notes t l) {f : Fld} (hf : f ∈ l ++ logFields) (fits : f.lo + f.width ≤ 32) (n : Nat) : s.Notes (t.fadd f n) l :=
  h.fset hf fits _

theorem count (h : s.Notes t l) (g i n : Nat) : s.Notes (t.count g i n) l := h.trans ⟨h.form, fun _ _ => rfl, rfl, rfl⟩

theorem emit (h : s.Notes t l) (x : Sent) : s.Notes (t.emit x) l := h.trans ⟨h.form, fun _ _ => rfl, rfl, rfl⟩

theorem msix (h : s.Notes t l) (v : Nat) : s.Notes (t.msix v) l :=
  h.trans ⟨by simpa using h.form, fun g _ => State.fget_of_regs (by simp) g, by simp, by simp⟩

theorem sticky (h : s.Notes t l) {f : Fld} (hf : f ∈ l ++ logFields) (fits : f.lo + f.width ≤ 32) (v : Option Nat) :
    s.Notes (t.sticky f v) l :=
  h.trans ⟨t.sticky_wf f v h.form, reports_fieldsKept (t.sticky_reports f v l fits h.form hf), by simp, by simp⟩

theorem logEntry (h : s.Notes t l) {sev : Nat} (hsev : sev < 8) (source : Nat) (cls : Cls) (kind : Obj) (reason a0 a1 : Nat) :
    s.Notes (t.logEntry sev source cls kind reason a0 a1) l :=
  h.trans ⟨t.logEntry_wf sev source cls kind reason a0 a1 h.form hsev,
    reports_fieldsKept (t.logEntry_reports sev source cls kind reason a0 a1 l h.form hsev), by simp, by simp⟩

theorem foldl {α : Type} {f : State → α → State} {is : List α} (h : s.Notes t l)
    (step : ∀ u : State, wordsWf 0 u.regs = true → ∀ i ∈ is, u.Notes (f u i) l) : s.Notes (is.foldl f t) l :=
  List.foldlRecOn (motive := fun u => s.Notes u l) is f h fun _ hu i hi => hu.trans (step _ hu.form i hi)

theorem ite {c : Prop} [Decidable c] (ht : s.Notes t l) (hu : s.Notes u l) : s.Notes (if c then t else u) l := by
  split
  · exact ht
  · exact hu

/-- A field apart from those noted reads as before. -/
theorem fget (h : s.Notes t l) {g : Fld} (hg : ∀ f ∈ l ++ logFields, Fld.apart f g) : t.fget g = s.fget g := h.kept g hg

theorem pending (h : s.Notes t l) : t.pending = s.pending := (congrArg State.pending h.rest :)
theorem taken (h : s.Notes t l) : t.taken = s.taken := (congrArg State.taken h.rest :)
theorem steer (h : s.Notes t l) : t.steer = s.steer := (congrArg State.steer h.rest :)
theorem map (h : s.Notes t l) : t.map = s.map := (congrArg State.map h.rest :)
theorem lock (h : s.Notes t l) : t.lock = s.lock := (congrArg State.lock h.rest :)
theorem fabric (h : s.Notes t l) : t.fabric = s.fabric := (congrArg State.fabric h.rest :)
theorem tows (h : s.Notes t l) : t.tows = s.tows := (congrArg State.tows h.rest :)
theorem mem (h : s.Notes t l) : t.mem = s.mem := (congrArg State.mem h.rest :)
theorem auction (h : s.Notes t l) : t.auction = s.auction := (congrArg State.auction h.rest :)
theorem time (h : s.Notes t l) : t.time = s.time := (congrArg State.time h.rest :)
theorem pair (h : s.Notes t l) : t.pair = s.pair := (congrArg State.pair h.rest :)
theorem light (h : s.Notes t l) : t.light = s.light := (congrArg State.light h.rest :)
theorem power (h : s.Notes t l) : t.power = s.power := (congrArg State.power h.rest :)
theorem boot (h : s.Notes t l) : t.boot = s.boot := (congrArg State.boot h.rest :)
theorem ras (h : s.Notes t l) : t.ras = s.ras := (congrArg State.ras h.rest :)
theorem test (h : s.Notes t l) : t.test = s.test := (congrArg State.test h.rest :)
theorem free (h : s.Notes t l) : t.free = s.free := (congrArg State.free h.rest :)
theorem queues (h : s.Notes t l) : t.link.queues = s.link.queues := queues_of_linkRest h.link
theorem flrDiscard (h : s.Notes t l) : t.link.flrDiscard = s.link.flrDiscard := flrDiscard_of_linkRest h.link

/-- Of the link no more than the pending messages changes. -/
theorem link_eq (h : s.Notes t l) : t.link = { s.link with msixPend := t.link.msixPend } := by
  have hl := h.link
  cases hs : s.link
  cases ht : t.link
  simp only [State.linkRest, hs, ht, Link.mk.injEq] at hl
  obtain ⟨rfl, rfl, rfl, rfl, rfl, rfl, rfl, rfl, rfl, rfl, -, rfl, rfl, rfl⟩ := hl
  rfl

theorem frame (h : s.Notes t l) : t = { s with regs := t.regs, log := t.log, link := t.link, out := t.out, counters := t.counters } :=
  State.eq_of_wipe s t h.rest

/-- Notes are reports. -/
theorem reports (h : s.Notes t l) : reports s t l := by
  refine ⟨?_, ?_, by rw [h.pair], h.kept⟩
  · rw [h.frame]
  · rw [h.link_eq]

end State.Notes

/-! ## Notes with items pushed to queues -/

/-- t is s after notes and items pushed to queues: the link may differ as well. -/
structure State.Told (s t : State) (l : List Fld) : Prop where
  form : wordsWf 0 t.regs = true
  kept : fieldsKept s t (l ++ logFields)
  rest : t.wipe = s.wipe

theorem State.Notes.told {s t : State} {l : List Fld} (h : s.Notes t l) : s.Told t l := ⟨h.form, h.kept, h.rest⟩

namespace State.Told

variable {s t u : State} {l m : List Fld}

theorem refl (w : wordsWf 0 s.regs = true) (l : List Fld) : s.Told s l := ⟨w, fun _ _ => rfl, rfl⟩

theorem trans (h : s.Told t l) (k : t.Told u l) : s.Told u l :=
  ⟨k.form, fun g hg => (k.kept g hg).trans (h.kept g hg), k.rest.trans h.rest⟩

theorem mono (h : s.Told t l) (hl : ∀ f ∈ l, f ∈ m) : s.Told t m :=
  ⟨h.form, fun g hg => h.kept g fun f hf => hg f (by
    simp only [List.mem_append] at hf ⊢; exact hf.imp (hl f) id), h.rest⟩

theorem fset (h : s.Told t l) {f : Fld} (hf : f ∈ l ++ logFields) (fits : f.lo + f.width ≤ 32) (v : Nat) : s.Told (t.fset f v) l :=
  h.trans ((State.Notes.refl h.form l).fset hf fits v).told

theorem fadd (h : s.Told t l) {f : Fld} (hf : f ∈ l ++ logFields) (fits : f.lo + f.width ≤ 32) (n : Nat) : s.Told (t.fadd f n) l :=
  h.fset hf fits _

theorem count (h : s.Told t l) (g i n : Nat) : s.Told (t.count g i n) l := h.trans ((State.Notes.refl h.form l).count g i n).told

theorem emit (h : s.Told t l) (x : Sent) : s.Told (t.emit x) l := h.trans ((State.Notes.refl h.form l).emit x).told

theorem msix (h : s.Told t l) (v : Nat) : s.Told (t.msix v) l := h.trans ((State.Notes.refl h.form l).msix v).told

theorem sticky (h : s.Told t l) {f : Fld} (hf : f ∈ l ++ logFields) (fits : f.lo + f.width ≤ 32) (v : Option Nat) :
    s.Told (t.sticky f v) l := h.trans ((State.Notes.refl h.form l).sticky hf fits v).told

theorem logEntry (h : s.Told t l) {sev : Nat} (hsev : sev < 8) (source : Nat) (cls : Cls) (kind : Obj) (reason a0 a1 : Nat) :
    s.Told (t.logEntry sev source cls kind reason a0 a1) l :=
  h.trans ((State.Notes.refl h.form l).logEntry hsev source cls kind reason a0 a1).told

theorem push (h : s.Told t l) (q : Nat) (it : Item) : s.Told (t.push q it) l :=
  h.trans ⟨by simpa using h.form, fun g _ => State.fget_of_regs (by simp) g, by simp⟩

theorem event (h : s.Told t l) (e : Nat) (b : List Byte) : s.Told (t.event e b) l :=
  h.trans ⟨by simpa using h.form, fun g _ => State.fget_of_regs (by simp) g, by simp⟩

theorem spaceEvent (h : s.Told t l) (p c : Nat) (b : List Byte) : s.Told (t.spaceEvent p c b) l :=
  h.trans ⟨by simpa using h.form, fun g _ => State.fget_of_regs (by simp) g, by simp⟩

theorem foldl {α : Type} {f : State → α → State} {is : List α} (h : s.Told t l)
    (step : ∀ u : State, wordsWf 0 u.regs = true → ∀ i ∈ is, u.Told (f u i) l) : s.Told (is.foldl f t) l :=
  List.foldlRecOn (motive := fun u => s.Told u l) is f h fun _ hu i hi => hu.trans (step _ hu.form i hi)

theorem ite {c : Prop} [Decidable c] (ht : s.Told t l) (hu : s.Told u l) : s.Told (if c then t else u) l := by
  split
  · exact ht
  · exact hu

/-- A field apart from those written reads as before. -/
theorem fget (h : s.Told t l) {g : Fld} (hg : ∀ f ∈ l ++ logFields, Fld.apart f g) : t.fget g = s.fget g := h.kept g hg

theorem pending (h : s.Told t l) : t.pending = s.pending := (congrArg State.pending h.rest :)
theorem taken (h : s.Told t l) : t.taken = s.taken := (congrArg State.taken h.rest :)
theorem steer (h : s.Told t l) : t.steer = s.steer := (congrArg State.steer h.rest :)
theorem map (h : s.Told t l) : t.map = s.map := (congrArg State.map h.rest :)
theorem lock (h : s.Told t l) : t.lock = s.lock := (congrArg State.lock h.rest :)
theorem fabric (h : s.Told t l) : t.fabric = s.fabric := (congrArg State.fabric h.rest :)
theorem tows (h : s.Told t l) : t.tows = s.tows := (congrArg State.tows h.rest :)
theorem mem (h : s.Told t l) : t.mem = s.mem := (congrArg State.mem h.rest :)
theorem auction (h : s.Told t l) : t.auction = s.auction := (congrArg State.auction h.rest :)
theorem time (h : s.Told t l) : t.time = s.time := (congrArg State.time h.rest :)
theorem pair (h : s.Told t l) : t.pair = s.pair := (congrArg State.pair h.rest :)
theorem light (h : s.Told t l) : t.light = s.light := (congrArg State.light h.rest :)
theorem power (h : s.Told t l) : t.power = s.power := (congrArg State.power h.rest :)
theorem boot (h : s.Told t l) : t.boot = s.boot := (congrArg State.boot h.rest :)
theorem ras (h : s.Told t l) : t.ras = s.ras := (congrArg State.ras h.rest :)
theorem test (h : s.Told t l) : t.test = s.test := (congrArg State.test h.rest :)
theorem free (h : s.Told t l) : t.free = s.free := (congrArg State.free h.rest :)

theorem frame (h : s.Told t l) : t = { s with regs := t.regs, log := t.log, link := t.link, out := t.out, counters := t.counters } :=
  State.eq_of_wipe s t h.rest

end State.Told

end Sys2Proof.Machine
end

section
/-!
PROOFS. F resets (R257, R324, R325, R363): what a function-level reset ends and what it leaves as it was.
-/

namespace Sys2Proof.Machine

/-! ## Units left -/

/-- Leaving units writes the array words alone, and drops requests and waits. -/
structure State.UnitsLeft (s t : State) : Prop where
  form : wordsWf 0 t.regs = true
  frame : t = { s with regs := t.regs, tows := { s.tows with reqs := t.tows.reqs, waits := t.tows.waits } }
  kept : ∀ g : Fld, g.off < 0x700000 → t.fget g = s.fget g

theorem unitFields_off {n : Nat} {f : Fld} (h : f ∈ unitFields n) : 0x700000 ≤ f.off := by
  simp only [unitFields, List.mem_cons, List.not_mem_nil, or_false] at h
  rcases h with rfl | rfl | rfl | rfl | rfl | rfl <;> exact Nat.le_add_right _ _

theorem State.leaveUnit_left {s : State} (w : wordsWf 0 s.regs = true) (u : Nat) : s.UnitsLeft (s.leaveUnit u) where
  form := State.leaveUnit_wf w u
  frame := by rw [State.leaveUnit_frame w u]
  kept g hg := (State.leaveArrays_writes w u).fget fun f hf => by
    obtain ⟨n, -, hn⟩ := List.mem_flatMap.mp hf
    have := unitFields_off hn
    exact .inl (by omega)

theorem State.freeUnits_left {s : State} (w : wordsWf 0 s.regs = true) (p : Tow → Bool) : s.UnitsLeft (s.freeUnits p) := by
  unfold State.freeUnits
  refine List.foldlRecOn (motive := fun t => s.UnitsLeft t) _ _ ⟨w, rfl, fun _ _ => rfl⟩ fun t ht x _ => ?_
  have hstep : ∀ u, s.UnitsLeft (t.leaveUnit u) := fun u => by
    have hu := State.leaveUnit_left ht.form u
    exact ⟨hu.form, by rw [hu.frame, ht.frame], fun g hg => (hu.kept g hg).trans (ht.kept g hg)⟩
  split
  · split
    · exact hstep _
    · exact ht
  · exact ht

/-! ## Bays identified again (R218) -/

/-- The fields a bay's identification writes. -/
def bayFields : List Fld :=
  F.PWR_RAILS.CART_ON :: bays.flatMap (fun b => [F.CART_STATUS.PRESENT b, F.CART_STATUS.STATE b, F.CART_STATUS.BEACONS b,
    F.CART_STATUS.HOURS b, F.CART_STATUS.END_OF_LIFE b])

theorem bayFields_mem {b : Nat} (hb : b ∈ bays) {f : Fld} (hf : f ∈ [F.CART_STATUS.PRESENT b, F.CART_STATUS.STATE b,
    F.CART_STATUS.BEACONS b, F.CART_STATUS.HOURS b, F.CART_STATUS.END_OF_LIFE b]) : f ∈ bayFields ++ logFields :=
  List.mem_append_left _ (List.mem_cons_of_mem _ (List.mem_flatMap.mpr ⟨b, hb, hf⟩))

/-- The machine with other cartridge records. -/
def State.withCarts (s : State) (m : Sparse Cart) : State := { s with light := { s.light with carts := m } }

/-- t is s after notes on the bays: its cartridge records may have changed. -/
def State.BayNotes (s t : State) : Prop := (s.withCarts t.light.carts).Notes t bayFields

namespace State.BayNotes

variable {s t u : State}

theorem refl (w : wordsWf 0 s.regs = true) : s.BayNotes s := State.Notes.refl w _

theorem trans (h : s.BayNotes t) (k : t.BayNotes u) : s.BayNotes u := by
  have hc : (s.withCarts u.light.carts).Notes (t.withCarts u.light.carts) bayFields :=
    ⟨h.form, h.kept, congrArg (fun x : State => x.withCarts u.light.carts) h.rest, h.link⟩
  exact hc.trans k

theorem of_notes (h : s.Notes t bayFields) : s.BayNotes t := by
  have hcarts : s.withCarts t.light.carts = s := by rw [h.light]; rfl
  rw [State.BayNotes, hcarts]
  exact h

theorem modCart (h : s.BayNotes t) (b : Nat) (f : Cart → Cart) : s.BayNotes (t.modCart b f) :=
  h.trans (State.Notes.refl (s := t.modCart b f) h.form _)

theorem foldl {α : Type} {f : State → α → State} {is : List α} (h : s.BayNotes t)
    (step : ∀ u : State, wordsWf 0 u.regs = true → ∀ i ∈ is, u.BayNotes (f u i)) : s.BayNotes (is.foldl f t) :=
  List.foldlRecOn (motive := fun u => s.BayNotes u) is f h fun _ hu i hi => hu.trans (step _ hu.form i hi)

theorem light (h : s.BayNotes t) : t.light = { s.light with carts := t.light.carts } := State.Notes.light h

end State.BayNotes

section
variable {s : State} (w : wordsWf 0 s.regs = true)
include w

theorem State.setBay_notes {b : Nat} (hb : b ∈ bays) (v : Nat) : s.Notes (s.setBay b v) bayFields :=
  (State.Notes.refl w _).fset (bayFields_mem hb (by simp)) (by simp [F.CART_STATUS.STATE]) v

theorem State.powerBay_notes {b : Nat} (hb : b ∈ bays) (on : Bool) : s.BayNotes (s.powerBay b on) := by
  have hon := (State.Notes.refl w bayFields).fset (f := F.PWR_RAILS.CART_ON) (by simp [bayFields]) (by decide)
    (s.fget F.PWR_RAILS.CART_ON - s.fget F.PWR_RAILS.CART_ON / 2 ^ b % 2 * 2 ^ b + (if on then 2 ^ b else 0))
  unfold State.powerBay
  refine State.BayNotes.modCart (.of_notes ?_) b _
  exact hon.ite (hon.fset (bayFields_mem hb (by simp)) (by simp [F.CART_STATUS.BEACONS]) 0)

theorem State.warm_notes {b : Nat} (hb : b ∈ bays) : s.BayNotes (s.warm b) :=
  ((State.BayNotes.of_notes (State.setBay_notes w hb 3)).trans
    (State.powerBay_notes (State.setBay_notes w hb 3).form hb true)).modCart b _

theorem State.ensureTwo_notes : s.BayNotes s.ensureTwo := by
  refine (State.BayNotes.refl w).foldl fun u wu _ _ => ?_
  split
  · split
    · next b rest hb =>
      have hmem : b ∈ u.baysIn 2 := by rw [hb]; exact List.mem_cons_self
      exact State.warm_notes wu (List.mem_filter.mp hmem).1
    · exact State.BayNotes.refl wu
  · exact State.BayNotes.refl wu

theorem State.identify_notes {b : Nat} (hb : b ∈ bays) : s.Notes (s.identify b) bayFields := by
  have hseen : s.Notes ((s.fset (F.CART_STATUS.PRESENT b) 1).setBay b 1) bayFields :=
    ((State.Notes.refl w _).fset (bayFields_mem hb (by simp)) (by simp [F.CART_STATUS.PRESENT]) 1).fset
      (bayFields_mem hb (by simp)) (by simp [F.CART_STATUS.STATE]) 1
  unfold State.identify
  dsimp only
  split
  · exact (hseen.fset (bayFields_mem hb (by simp)) (by simp [F.CART_STATUS.STATE]) 7).logEntry (by decide) ..
  · have hread := (hseen.fset (bayFields_mem hb (f := F.CART_STATUS.HOURS b) (by simp)) (by simp [F.CART_STATUS.HOURS])
      (min 65535 ((s.cart b).field 0x100 4))).fset (bayFields_mem hb (f := F.CART_STATUS.END_OF_LIFE b) (by simp))
      (by simp [F.CART_STATUS.END_OF_LIFE]) (s.cart b).worn.toNat
    split
    · exact (hread.fset (bayFields_mem hb (by simp)) (by simp [F.CART_STATUS.STATE]) 6).logEntry (by decide) ..
    · exact hread.fset (bayFields_mem hb (by simp)) (by simp [F.CART_STATUS.STATE]) 2

/-- A cartridge read again writes its hours and its wear. -/
theorem State.reread_writes (b : Nat) : s.Writes (s.reread b)
    [F.CART_STATUS.PRESENT b, F.CART_STATUS.HOURS b, F.CART_STATUS.END_OF_LIFE b] :=
  (((State.Writes.refl w _).fset (by simp) (by simp [F.CART_STATUS.PRESENT]) 1).fset (by simp) (by simp [F.CART_STATUS.HOURS]) _).fset
    (by simp) (by simp [F.CART_STATUS.END_OF_LIFE]) _

theorem State.reread_notes {b : Nat} (hb : b ∈ bays) : s.Notes (s.reread b) bayFields :=
  (((State.Notes.refl w _).fset (bayFields_mem hb (by simp)) (by simp [F.CART_STATUS.PRESENT]) 1).fset
    (bayFields_mem hb (f := F.CART_STATUS.HOURS b) (by simp)) (by simp [F.CART_STATUS.HOURS]) _).fset
    (bayFields_mem hb (f := F.CART_STATUS.END_OF_LIFE b) (by simp)) (by simp [F.CART_STATUS.END_OF_LIFE]) _

theorem State.identifyOn_notes : s.BayNotes s.identifyOn := by
  have hread : s.BayNotes ((bays.filter (fun b => (s.cart b).store ≠ [])).foldl
      (fun s b => if (s.cart b).powered then s.reread b else s.identify b) s) :=
    (State.BayNotes.refl w).foldl fun u wu b hb => by
      have hbay := (List.mem_filter.mp hb).1
      split
      · exact .of_notes (State.reread_notes wu hbay)
      · exact .of_notes (State.identify_notes wu hbay)
  exact hread.trans (State.ensureTwo_notes hread.form)

/-- With every cartridge under 12 V and no bay SPARE, the bays are read again and nothing else follows. -/
theorem State.identifyOn_quiet (hlit : ∀ b, b < 3 → (s.cart b).store = [] ∨ (s.cart b).powered = true)
    (hnone : ∀ b, b < 3 → s.bayState b ≠ 2) : s.identifyOn = { s with regs := s.identifyOn.regs } := by
  have hlt : ∀ b ∈ bays, b < 3 := by decide
  have hread : (s.Writes ((bays.filter (fun b => (s.cart b).store ≠ [])).foldl
      (fun s b => if (s.cart b).powered then s.reread b else s.identify b) s) (bays.flatMap (fun b =>
        [F.CART_STATUS.PRESENT b, F.CART_STATUS.HOURS b, F.CART_STATUS.END_OF_LIFE b]))) := by
    refine List.foldlRecOn (motive := fun t => s.Writes t _) _ _ (State.Writes.refl w _) fun t ht b hb => ?_
    obtain ⟨hb, hstore⟩ := List.mem_filter.mp hb
    have hpow : (t.cart b).powered = true := by
      rw [ht.frame]
      exact (hlit b (hlt b hb)).resolve_left (by simpa using hstore)
    rw [if_pos hpow]
    exact ht.trans ((State.reread_writes ht.form b).mono fun f hf => List.mem_flatMap.mpr ⟨b, hb, hf⟩)
  unfold State.identifyOn
  dsimp only
  generalize (bays.filter (fun b => (s.cart b).store ≠ [])).foldl _ s = t at hread
  have hspare : t.baysIn 2 = [] := by
    refine List.filter_eq_nil_iff.mpr fun b hb => ?_
    have hsame : t.bayState b = s.bayState b := hread.fget <| by
      have : b = 0 ∨ b = 1 ∨ b = 2 := by simpa [bays] using hb
      rcases this with rfl | rfl | rfl <;> exact apart_of_test (by decide)
    simpa [hsame] using hnone b (hlt b hb)
  have hstay : t.ensureTwo = t := by
    refine List.foldlRecOn (motive := fun u => u = t) _ _ rfl fun u hu _ _ => ?_
    rw [hu, hspare]
    exact ite_self _
  rw [hstay]
  exact hread.frame

end

/-! ## The state after an F reset -/

theorem Steer.after_function (x : Steer) {r : Nat} (hr : r ≤ 2) : x.after 1 r = x := by simp [Steer.after, keeps, keepOr, hr]

theorem MapState.after_function (x : MapState) {r : Nat} (hr : r ≤ 2) : x.after 1 r = x := by simp [MapState.after, keeps, keepOr, hr]

theorem Lock.after_function (x : Lock) {r : Nat} (hr : r ≤ 2) (tb0 : Nat) : x.after 1 r tb0 = x := by
  simp [Lock.after, keeps, keepOr, hr, hr.trans (by decide : 2 ≤ 4)]

theorem Fabric.after_function (x : Fabric) {r : Nat} (hr : r ≤ 2) : x.after 1 r = x := by simp [Fabric.after, keeps, keepOr, hr]

theorem Light.after_function (x : Light) {r : Nat} (hr : r ≤ 2) : x.after 1 r = x := by
  simp [Light.after, keeps, keepOr, hr, hr.trans (by decide : 2 ≤ 4)]

theorem Logbook.after_function (x : Logbook) {r : Nat} (hr : r ≤ 2) : x.after 1 r = x := by
  simp [Logbook.after, keeps, keepOr, hr, hr.trans (by decide : 2 ≤ 4)]

theorem Mem.after_function (x : Mem) {r : Nat} (hr : r ≤ 1) (keep : List (Nat × Nat)) : x.after 1 r keep = x := by
  simp [Mem.after, keeps, keepOr, hr, hr.trans (by decide : 1 ≤ 2), hr.trans (by decide : 1 ≤ 4)]

/-- The machine after an F reset, before its bays are identified again. -/
def State.functionAfter (s : State) : State :=
  ((((s.freeUnits (fun _ => true)).after 1 s.rung).regain 1 s.rung).fset F.QP_CTRL.READY 0).fset F.AUC_STATUS.BUSY 0

theorem State.fReset_eq (s : State) (cause : Nat) : s.fReset cause =
    ((if s.rung ≤ 2 ∧ !s.functionAfter.held then s.functionAfter.identifyOn else s.functionAfter).fset F.KEEL_CAUSE.F_SEEN 1).fset
      F.KEEL_CAUSE.F_CAUSE cause := rfl

theorem State.functionAfter_frame (s : State) : s.functionAfter =
    { (s.freeUnits (fun _ => true)).after 1 s.rung with regs := s.functionAfter.regs } := by
  rw [State.functionAfter, State.regain, State.fset_frame, State.fset_frame (State.reimage _ _ _), State.reimage_frame]

section
variable {s : State} (w : wordsWf 0 s.regs = true)
include w

theorem State.regain_wf (kind rung : Nat) : wordsWf 0 (s.regain kind rung).regs = true := State.reimage_wf w _ _

theorem State.fget_regain_kept {f : Fld} {kind rung : Nat} (h : f.keptBy kind rung = true) :
    (s.regain kind rung).fget f = s.fget f := State.fget_reimage_kept w h _

theorem State.functionAfter_writes : (((s.freeUnits (fun _ => true)).after 1 s.rung).regain 1 s.rung).Writes s.functionAfter
    [F.QP_CTRL.READY, F.AUC_STATUS.BUSY] :=
  ((State.Writes.refl (State.regain_wf (State.after_wf (State.freeUnits_left w _).form _ _) _ _) _).fset (by simp) (by decide) 0).fset
    (by simp) (by decide) 0

theorem State.fget_functionAfter {f : Fld} (hkept : f.keptBy 1 s.rung = true) (hoff : f.off < 0x700000) :
    s.functionAfter.fget f = s.fget f := by
  have hleft := State.freeUnits_left w (fun _ => true)
  have hhigh : ∀ g ∈ [F.QP_CTRL.READY, F.AUC_STATUS.BUSY], Fld.apart g f := by
    simp only [List.mem_cons, List.not_mem_nil, or_false]
    rintro g (rfl | rfl)
    · exact .inl (by simp only [F.QP_CTRL.READY]; omega)
    · exact .inl (by simp only [F.AUC_STATUS.BUSY]; omega)
  rw [(State.functionAfter_writes w).fget hhigh, State.fget_regain_kept (State.after_wf hleft.form _ _) hkept,
    State.fget_after_kept hleft.form hkept, hleft.kept f hoff]

theorem State.ready_functionAfter : s.functionAfter.fget F.QP_CTRL.READY = 0 := by
  have hform := State.regain_wf (State.after_wf (State.freeUnits_left w (fun _ => true)).form 1 s.rung) 1 s.rung
  rw [State.functionAfter, State.fget_fset_apart _ _ _ _ (by decide) (State.fset_wf _ _ _ hform) (Fld.apart_of_test (by decide))]
  exact State.fget_fset_self _ _ _ (by decide) hform

/-- The bays are identified again, or left. -/
theorem State.functionBays_notes : s.functionAfter.BayNotes
    (if s.rung ≤ 2 ∧ !s.functionAfter.held then s.functionAfter.identifyOn else s.functionAfter) := by
  have hform := (State.functionAfter_writes w).form
  split
  · exact State.identifyOn_notes hform
  · exact State.BayNotes.refl hform

/-- After an F reset: its bays and the two flags of its cause apart, the machine is that after the event. -/
theorem State.fReset_notes (cause : Nat) : ∃ m, (s.functionAfter.withCarts m).Notes (s.fReset cause)
    (bayFields ++ [F.KEEL_CAUSE.F_SEEN, F.KEEL_CAUSE.F_CAUSE]) :=
  ⟨_, by
    rw [State.fReset_eq]
    exact ((State.Notes.mono (State.functionBays_notes w) fun _ hf => List.mem_append_left _ hf).fset (by simp) (by decide) 1).fset (by simp) (by decide) cause⟩

theorem State.fReset_cause {cause : Nat} (hc : cause < 4) :
    (s.fReset cause).fget F.KEEL_CAUSE.F_SEEN = 1 ∧ (s.fReset cause).fget F.KEEL_CAUSE.F_CAUSE = cause := by
  have hform := (State.functionBays_notes w).form
  have hseen := State.fset_wf _ F.KEEL_CAUSE.F_SEEN 1 hform
  rw [State.fReset_eq]
  constructor
  · rw [State.fget_fset_apart _ _ _ _ (by decide) hseen (Fld.apart_of_test (by decide))]
    exact State.fget_fset_self _ _ _ (by decide) hform
  · exact (State.fget_fset_self _ _ _ (by decide) hseen).trans (Nat.mod_eq_of_lt hc)

/-- A field of the control path is as before an F reset. -/
theorem State.fget_fReset {f : Fld} (hkept : f.keptBy 1 s.rung = true) (hoff : f.off < 0x700000)
    (hapart : ∀ g ∈ bayFields ++ [F.KEEL_CAUSE.F_SEEN, F.KEEL_CAUSE.F_CAUSE] ++ logFields, Fld.apart g f) (cause : Nat) :
    (s.fReset cause).fget f = s.fget f := by
  obtain ⟨m, hm⟩ := State.fReset_notes w cause
  exact (hm.fget hapart).trans (State.fget_functionAfter w hkept hoff)

end

/-! ## The statement -/

/-- What an F reset leaves (R324, R325). -/
structure State.FunctionReset (s t : State) (cause : Nat) : Prop where
  seen : t.fget F.KEEL_CAUSE.F_SEEN = 1
  cause : t.fget F.KEEL_CAUSE.F_CAUSE = cause
  queuesReady : t.fget F.QP_CTRL.READY = 0
  link : t.link.queues = [] ∧ t.link.cache = [] ∧ t.link.busMaster = false ∧ t.link.d3hot = false
  tows : t.tows.spaces = [] ∧ t.tows.tows = []
  solves : t.auction.solves = []
  control : t.steer = s.steer ∧ t.map = s.map ∧ t.lock = s.lock ∧ t.fabric = s.fabric ∧ t.pair = s.pair ∧ t.time = s.time
  light : t.light = { s.light with carts := t.light.carts }
  rung : t.rung = s.rung
  ready : t.ready = s.ready
  mem : s.rung ≤ 1 → t.mem = s.mem
  quiet : (∀ b, b < 3 → (s.cart b).store = [] ∨ (s.cart b).powered = true) → (∀ b, b < 3 → s.bayState b ≠ 2) →
    t.log = s.log ∧ t.light = s.light ∧ t.counters = s.counters
  reaches : ∀ r, t.fget (F.REACH_CTRL.EN r) = s.fget (F.REACH_CTRL.EN r) ∨ 9 ≤ r

theorem State.fReset_quiet {s : State} (w : wordsWf 0 s.regs = true) (hr : s.rung ≤ 2) (cause : Nat)
    (hlit : ∀ b, b < 3 → (s.cart b).store = [] ∨ (s.cart b).powered = true) (hnone : ∀ b, b < 3 → s.bayState b ≠ 2) :
    (s.fReset cause).log = s.log ∧ (s.fReset cause).light = s.light ∧ (s.fReset cause).counters = s.counters := by
  have hleft := State.freeUnits_left w (fun _ => true)
  have hframe := s.functionAfter_frame
  have hlog : s.functionAfter.log = s.log := by
    rw [hframe, hleft.frame]; exact Logbook.after_function _ hr
  have hlight : s.functionAfter.light = s.light := by
    rw [hframe, hleft.frame]; exact Light.after_function _ hr
  have hcounters : s.functionAfter.counters = s.counters := by
    rw [hframe, hleft.frame]; simp [State.after, keeps, keepOr, hr]
  have hbays : ∀ b, b < 3 → s.functionAfter.bayState b = s.bayState b := fun b hb =>
    State.fget_functionAfter w (by
      have hb' : b = 0 ∨ b = 1 ∨ b = 2 := by omega
      have hr' : s.rung = 0 ∨ s.rung = 1 ∨ s.rung = 2 := by omega
      rcases hb' with rfl | rfl | rfl <;> rcases hr' with h | h | h <;> rw [h] <;> decide)
      (by simp only [F.CART_STATUS.STATE]; omega)
  have hquiet := State.identifyOn_quiet (State.functionAfter_writes w).form (s := s.functionAfter)
    (fun b hb => by rw [State.cart, hlight]; exact hlit b hb) (fun b hb => by rw [hbays b hb]; exact hnone b hb)
  rw [State.fReset_eq]
  split
  · rw [hquiet]; exact ⟨hlog, hlight, hcounters⟩
  · exact ⟨hlog, hlight, hcounters⟩

theorem State.fReset_spec {s : State} (w : wordsWf 0 s.regs = true) (hr : s.rung ≤ 2) {cause : Nat} (hc : cause < 4) :
    s.FunctionReset (s.fReset cause) cause := by
  obtain ⟨m, hm⟩ := State.fReset_notes w cause
  have hleft := State.freeUnits_left w (fun _ => true)
  have hframe := s.functionAfter_frame
  have hr' : s.rung = 0 ∨ s.rung = 1 ∨ s.rung = 2 := by omega
  obtain ⟨hseen, hcause⟩ := State.fReset_cause w hc
  have hlink : (s.fReset cause).link = { s.functionAfter.link with msixPend := (s.fReset cause).link.msixPend } := hm.link_eq
  have hafter : s.functionAfter.link = s.link.after 1 s.rung (s.taken.filterMap srcOf) := by rw [hframe, hleft.frame]; rfl
  have htows : (s.fReset cause).tows = (s.freeUnits (fun _ => true)).tows.after 1 s.rung := by rw [hm.tows]; show s.functionAfter.tows = _; rw [hframe]; rfl
  refine ⟨hseen, hcause, ?_, ?_, ?_, ?_, ⟨?_, ?_, ?_, ?_, ?_, ?_⟩, ?_, ?_, ?_, fun h1 => ?_, State.fReset_quiet w hr cause, fun r => ?_⟩
  · exact (hm.fget (apart_of_test (by decide))).trans (State.ready_functionAfter w)
  · rw [hlink, hafter]; simp [Link.after, keeps, keepOr]
  · rw [htows]; simp [TowSys.after, keeps, keepOr]
  · rw [hm.auction]; show s.functionAfter.auction.solves = _; rw [hframe]; simp [State.after, Auction.after, keeps, keepOr]
  · rw [hm.steer]; show s.functionAfter.steer = _; rw [hframe, hleft.frame]; exact Steer.after_function _ hr
  · rw [hm.map]; show s.functionAfter.map = _; rw [hframe, hleft.frame]; exact MapState.after_function _ hr
  · rw [hm.lock]; show s.functionAfter.lock = _; rw [hframe, hleft.frame]; exact Lock.after_function _ hr _
  · rw [hm.fabric]; show s.functionAfter.fabric = _; rw [hframe, hleft.frame]; exact Fabric.after_function _ hr
  · rw [hm.pair]; show s.functionAfter.pair = _; rw [hframe, hleft.frame]; rfl
  · rw [hm.time]; show s.functionAfter.time = _; rw [hframe, hleft.frame]; rfl
  · have hold : s.functionAfter.light = s.light := by rw [hframe, hleft.frame]; exact Light.after_function _ hr
    rw [hm.light, State.withCarts, hold]
  · exact State.fget_fReset w (by rcases hr' with h | h | h <;> rw [h] <;> decide) (by decide) (apart_of_test (by decide)) cause
  · rw [State.ready, State.bit, State.fget_fReset w (by rcases hr' with h | h | h <;> rw [h] <;> decide) (by decide)
      (apart_of_test (by decide)) cause]
    rfl
  · rw [hm.mem]; show s.functionAfter.mem = _; rw [hframe, hleft.frame]; exact Mem.after_function _ h1 _
  · by_cases hr9 : 9 ≤ r
    · exact .inr hr9
    · refine .inl (State.fget_fReset w ?_ ?_ ?_ cause)
      · have hall : ∀ r < 9, ∀ g < 3, (F.REACH_CTRL.EN r).keptBy 1 g = true := by decide
        exact hall r (by omega) s.rung (by omega)
      · simp only [F.REACH_CTRL.EN]; omega
      · have hall : ∀ r < 9, ((bayFields ++ [F.KEEL_CAUSE.F_SEEN, F.KEEL_CAUSE.F_CAUSE] ++ logFields).all
          (fun g => g.isApart (F.REACH_CTRL.EN r))) = true := by decide
        exact apart_of_test (hall r (by omega))

theorem exec_fReset {s : State} {c : Instr} {cause : Nat} (hr : s.rung ≤ 2) (hlow : s.boot.resetLow = false)
    (h : (c = .functionLevelReset ∧ cause = 1) ∨ (c = .linkDown ∧ cause = 2) ∨ (c = .perstN false ∧ cause = 3 ∧ s.link.perst = true)) :
    ∃ p, exec c s = .next ({ s with link := { s.link with perst := p } }.fReset cause) := by
  have h3 : s.rung ≤ 3 := by omega
  rcases h with ⟨rfl, rfl⟩ | ⟨rfl, rfl⟩ | ⟨rfl, rfl, hp⟩
  · exact ⟨s.link.perst, congrArg Host.Outcome.next (if_pos ⟨h3, by simp [hlow]⟩)⟩
  · exact ⟨s.link.perst, congrArg Host.Outcome.next (if_pos ⟨h3, by simp [hlow]⟩)⟩
  · exact ⟨false, congrArg Host.Outcome.next (if_pos (by simp [hp, hlow]; exact h3))⟩

/-- Settles O10: each of the three events takes an F reset, which ends the host's side and leaves the control path. -/
theorem functionResets : Obligations.FunctionResets := by
  intro s c cause hwf hr hlow hc
  have hcause : cause < 4 := by rcases hc with ⟨-, rfl⟩ | ⟨-, rfl⟩ | ⟨-, rfl, -⟩ <;> decide
  obtain ⟨p, hexec⟩ := exec_fReset hr hlow hc
  have h := State.fReset_spec (s := { s with link := { s.link with perst := p } }) (State.regsWf_of_allWf (s := s) hwf) hr hcause
  obtain ⟨hsteer, hmap, hlock, hfabric, hpair, htime⟩ := h.control
  obtain ⟨hq, hcache, hbm, hd3⟩ := h.link
  exact ⟨_, hexec, h.seen, h.cause, h.queuesReady, hq, hcache, hbm, hd3, h.tows.1, h.tows.2, h.solves, hsteer, hmap, hlock, hfabric, hpair,
    htime, h.light, h.rung, h.ready, h.mem, h.quiet, h.reaches⟩

end Sys2Proof.Machine
end

section
/-!
PROOFS. W resets (R320, R333) at a rung beyond L5: FAILED keeps to L5, so a state whose PWR_RUNG_STATE.RUNG holds one of the two unused
codes loses the mark that the boot watchdog has just set.
-/

namespace Sys2Proof.Machine

/-- A boot that has run for 60 s from slot 1 without READY, its rung register at the unused code 6. -/
def watchdogState : State :=
  { State.reset.fset F.PWR_RUNG_STATE.RUNG 6 with
    boot := { State.reset.boot with bootSlot := 1 }
    time := { State.reset.time with tb3 := 30000000000 } }

/-- The machine after BOOT_WATCHDOG in that state. -/
def watchdogNext : State :=
  ((watchdogState.fset F.IMG_STATUS.FAILED (watchdogState.fget F.IMG_STATUS.FAILED ||| 2 ^ watchdogState.boot.bootSlot)).msix 6).warmBoot
    7 false

theorem exec_watchdogState : exec .bootWatchdog watchdogState = .next watchdogNext := by
  refine congrArg Host.Outcome.next (if_neg ?_)
  decide

/-- The slot the watchdog marked is not FAILED afterwards. -/
theorem watchdogNext_slotFailed : watchdogNext.slotFailed 1 = false := by decide +kernel

/-- Refutes O11: its form lets RUNG hold 6, at which the reset loses IMG_STATUS.FAILED, coded C/L5. -/
theorem not_warmResetsAndKey : ¬ Obligations.WarmResetsAndKey := by
  intro h
  obtain ⟨t, hexec, -, -, -, -, -, -, -, -, -, -, -, -, hfailed⟩ := (h.1 watchdogState .bootWatchdog 7 (by decide) (by decide)).1
    (.inr (.inr (.inr ⟨rfl, rfl, by decide, by decide⟩)))
  rw [exec_watchdogState] at hexec
  obtain rfl : watchdogNext = t := by simpa using hexec
  have hmarked := hfailed rfl (by decide)
  rw [show watchdogState.boot.bootSlot = 1 from rfl, watchdogNext_slotFailed] at hmarked
  exact absurd hmarked (by decide)

end Sys2Proof.Machine
end

section
/-!
PROOFS. C and P resets, the release of the rails, and the input running low (R10, R295, R313, R323, R362).
-/

namespace Sys2Proof.Machine

/-! ## What a boot leaves alone -/

/-- Register fields that the steps of a boot before the cores leave: cause, rung, READY, straps. -/
def bootKept : List Fld :=
  [F.KEEL_CAUSE.CAUSE, F.KEEL_CAUSE.KIND, F.PWR_RUNG_STATE.RUNG, F.KEEL_STATUS.READY, F.KEEL_STRAPS.PLANE, F.KEEL_STRAPS.SWITCH_ID,
   F.KEEL_STRAPS.ROLE]

theorem bootKept_imageFree : ∀ g ∈ bootKept, g.imageFree = true := by decide

/-- A list of fields that meets none of those a boot keeps. -/
def bootApart (l : List Fld) : Bool := bootKept.all (fun g => l.all (fun f => f.isApart g))

/-- t is s after steps of a boot before the cores: stores, memories, cycles, tows, TB3 and the kept fields are as they were. -/
structure State.Boots (s t : State) : Prop where
  form : wordsWf 0 t.regs = true
  kept : ∀ g ∈ bootKept, t.fget g = s.fget g
  steer : t.steer = s.steer
  map : t.map = s.map
  lock : t.lock = s.lock
  mem : t.mem = s.mem
  tows : t.tows = s.tows
  tb3 : t.time.tb3 = s.time.tb3
  power : t.power = s.power
  boot : t.boot = { s.boot with bootSlot := t.boot.bootSlot, imageChanged := t.boot.imageChanged, stopped := t.boot.stopped }

namespace State.Boots

variable {s t u : State}

theorem refl (w : wordsWf 0 s.regs = true) : s.Boots s := ⟨w, fun _ _ => rfl, rfl, rfl, rfl, rfl, rfl, rfl, rfl, rfl⟩

theorem trans (h : s.Boots t) (k : t.Boots u) : s.Boots u where
  form := k.form
  kept g hg := (k.kept g hg).trans (h.kept g hg)
  steer := k.steer.trans h.steer
  map := k.map.trans h.map
  lock := k.lock.trans h.lock
  mem := k.mem.trans h.mem
  tows := k.tows.trans h.tows
  tb3 := k.tb3.trans h.tb3
  power := k.power.trans h.power
  boot := by rw [k.boot, h.boot]

theorem of_told {l : List Fld} (h : s.Told t l) (hl : bootApart (l ++ logFields) = true) : s.Boots t where
  form := h.form
  kept g hg := h.fget (apart_of_test (List.all_eq_true.mp hl g hg))
  steer := h.steer
  map := h.map
  lock := h.lock
  mem := h.mem
  tows := h.tows
  tb3 := by rw [h.time]
  power := h.power
  boot := by rw [h.boot]

theorem foldl {α : Type} {f : State → α → State} {is : List α} (h : s.Boots t)
    (step : ∀ u : State, wordsWf 0 u.regs = true → ∀ i ∈ is, u.Boots (f u i)) : s.Boots (is.foldl f t) :=
  List.foldlRecOn (motive := fun u => s.Boots u) is f h fun _ hu i hi => hu.trans (step _ hu.form i hi)

/-- A kept field reads as before. -/
theorem fget (h : s.Boots t) {g : Fld} (hg : g ∈ bootKept) : t.fget g = s.fget g := h.kept g hg

end State.Boots

/-! ## The bays at a boot (R218, R238) -/

/-- t is s after changes of the light state and notes on bays of any number. -/
structure State.LightNotes (s t : State) : Prop where
  form : wordsWf 0 t.regs = true
  kept : ∀ g : Fld, g.off < 0x600000 → (∀ f ∈ F.PWR_RAILS.CART_ON :: logFields, Fld.apart f g) → t.fget g = s.fget g
  rest : t.wipe = { s.wipe with light := t.light }

namespace State.LightNotes

variable {s t u : State}

theorem refl (w : wordsWf 0 s.regs = true) : s.LightNotes s := ⟨w, fun _ _ _ => rfl, rfl⟩

theorem trans (h : s.LightNotes t) (k : t.LightNotes u) : s.LightNotes u :=
  ⟨k.form, fun g hg ha => (k.kept g hg ha).trans (h.kept g hg ha), by rw [k.rest, h.rest]⟩

theorem light (h : s.LightNotes t) (x : Light) : s.LightNotes { t with light := x } :=
  ⟨h.form, h.kept, (congrArg (fun y : State => { y with light := x }) h.rest :)⟩

theorem fset (h : s.LightNotes t) {f : Fld} (hf : 0x600000 ≤ f.off ∨ f = F.PWR_RAILS.CART_ON) (fits : f.lo + f.width ≤ 32) (v : Nat) :
    s.LightNotes (t.fset f v) :=
  h.trans ⟨t.fset_wf f v h.form, fun g hg ha => t.fget_fset_apart f g v fits h.form (by
    rcases hf with hf | rfl
    · exact .inl (by omega)
    · exact ha _ List.mem_cons_self), rfl⟩

theorem of_bays (h : s.BayNotes t) : s.LightNotes t where
  form := h.form
  kept g hg ha := by
    refine State.Notes.fget h fun f hf => ?_
    rcases List.mem_append.mp hf with hf | hf
    · have hoff : f = F.PWR_RAILS.CART_ON ∨ 0x600000 ≤ f.off := by
        have hall : ∀ f ∈ bayFields, f = F.PWR_RAILS.CART_ON ∨ 0x600000 ≤ f.off := by decide
        exact hall f hf
      rcases hoff with rfl | hoff
      · exact ha _ List.mem_cons_self
      · exact .inl (by omega)
    · exact ha f (List.mem_cons_of_mem _ hf)
  rest := by
    have hl : t.light = { s.light with carts := t.light.carts } := h.light
    rw [hl]
    exact State.Notes.rest h

theorem boots (h : s.LightNotes t) : s.Boots t where
  form := h.form
  kept g hg := by
    have hall : ∀ g ∈ bootKept, g.off < 0x600000 ∧ (F.PWR_RAILS.CART_ON :: logFields).all (fun f => f.isApart g) = true := by decide
    exact h.kept g (hall g hg).1 (apart_of_test (hall g hg).2)
  steer := (congrArg State.steer h.rest :)
  map := (congrArg State.map h.rest :)
  lock := (congrArg State.lock h.rest :)
  mem := (congrArg State.mem h.rest :)
  tows := (congrArg State.tows h.rest :)
  tb3 := (congrArg (fun x : State => x.time.tb3) h.rest :)
  power := (congrArg State.power h.rest :)
  boot := by
    have hb : t.boot = s.boot := (congrArg State.boot h.rest :)
    rw [hb]

theorem railOk (h : s.LightNotes t) : t.fget F.PWR_RAILS.RAIL_OK = s.fget F.PWR_RAILS.RAIL_OK :=
  h.kept _ (by decide) (apart_of_test (by decide))

end State.LightNotes

/-- A bay that was draining takes up its migration again, or no ring source is left (R238). -/
def State.resumeDraining (s : State) : State :=
  match s.light.insertion with
  | some i => if s.bayState i.old = 2 then (s.setBay i.old 5).powerBay i.old true else s
  | none => { s with light := { s.light with first := none, second := none } }

theorem State.identifyBays_eq (s : State) : s.identifyBays =
    ((bays.filter (fun b => (s.cart b).store ≠ [])).foldl (fun s b => s.identify b) s).resumeDraining.ensureTwo := rfl

theorem State.resumeDraining_notes {s : State} (w : wordsWf 0 s.regs = true) : s.LightNotes s.resumeDraining := by
  unfold State.resumeDraining
  split
  · next i _ =>
    split
    · have hstate := (State.LightNotes.refl w).fset (f := F.CART_STATUS.STATE i.old) (.inl (Nat.le_add_right _ _))
        (by simp [F.CART_STATUS.STATE]) 5
      exact (hstate.fset (.inr rfl) (by decide) _).light _
    · exact State.LightNotes.refl w
  · exact (State.LightNotes.refl w).light _

theorem State.identifyBays_notes {s : State} (w : wordsWf 0 s.regs = true) : s.LightNotes s.identifyBays := by
  have hident : s.LightNotes ((bays.filter (fun b => (s.cart b).store ≠ [])).foldl (fun s b => s.identify b) s) :=
    .of_bays ((State.BayNotes.refl w).foldl fun u wu b hb => .of_notes (State.identify_notes wu (List.mem_filter.mp hb).1))
  have hresume := hident.trans (State.resumeDraining_notes hident.form)
  rw [State.identifyBays_eq]
  exact hresume.trans (.of_bays (State.ensureTwo_notes hresume.form))

/-! ## The steps of a boot -/

section
variable {s : State} (w : wordsWf 0 s.regs = true)
include w

theorem State.reimage_boots (own : Nat → Bool) (p : FieldRow → Bool) : s.Boots (s.reimage own p) := by
  have hframe := s.reimage_frame own p
  refine ⟨State.reimage_wf w own p, fun g hg => State.fget_reimage_free w (bootKept_imageFree g hg) own p, ?_, ?_, ?_, ?_, ?_, ?_, ?_, ?_⟩ <;>
    rw [hframe]

theorem State.failSlot_boots (slot : Nat) : s.Boots (s.failSlot slot) :=
  .of_told (l := [F.IMG_STATUS.FAILED, F.IMG_STATUS.FALLBACK]) ((((State.Told.refl w _).fset (by simp) (by decide) _).sticky (by simp)
    (by decide) _).logEntry (by decide) ..) (by decide)

theorem State.activate_boots (slot : Nat) : s.Boots (s.activate slot) := by
  refine .of_told (l := [F.IMG_SLOT.PREVIOUS, F.IMG_STATUS.ACTIVE, F.IMG_HASH.HASH, F.IMG_HASH.HASH_HI]) ?_ (by decide)
  have hstart := State.Told.refl w [F.IMG_SLOT.PREVIOUS, F.IMG_STATUS.ACTIVE, F.IMG_HASH.HASH, F.IMG_HASH.HASH_HI]
  exact ((hstart.ite ((hstart.fset (by simp) (by decide) _).fset (by simp) (by decide) _)).fset (by simp) (by decide) _).fset (by simp)
    (by decide) _

theorem tryBoot_boots (slots : List Nat) : s.Boots (tryBoot s slots) := by
  induction slots generalizing s with
  | nil => exact ⟨w, fun _ _ => rfl, rfl, rfl, rfl, rfl, rfl, rfl, rfl, rfl⟩
  | cons c cs ih =>
    unfold tryBoot
    split
    · exact ih w
    · split
      · exact (State.activate_boots w c).trans ⟨(State.activate_boots w c).form, fun _ _ => rfl, rfl, rfl, rfl, rfl, rfl, rfl, rfl, rfl⟩
      · exact (State.failSlot_boots w c).trans (ih (State.failSlot_boots w c).form)

theorem State.chooseSlot_boots : s.Boots s.chooseSlot :=
  (tryBoot_boots w _).trans (.of_told (l := [F.IMG_STATUS.AWAIT_RESET])
    ((State.Told.refl (tryBoot_boots w _).form _).fset (by simp) (by decide) 0) (by decide))

theorem State.poundUp_boots {n : Nat} (hn : bootApart ([F.POUND_STATUS.STATE n, F.POUND_STATUS.LOADS n] ++ logFields) = true) :
    s.Boots (s.poundUp n) := by
  refine .of_told (l := [F.POUND_STATUS.STATE n, F.POUND_STATUS.LOADS n]) ?_ hn
  have hstart := State.Told.refl w [F.POUND_STATUS.STATE n, F.POUND_STATUS.LOADS n]
  exact (hstart.ite ((hstart.fset (by simp) (by simp [F.POUND_STATUS.STATE]) 2).msix 6)).fadd (by simp) (by simp [F.POUND_STATUS.LOADS]) 1

theorem State.showRails_boots : s.Boots s.showRails :=
  .of_told (l := [F.PWR_RAILS.RAIL_OK]) ((State.Told.refl w _).fset (by simp) (by decide) _) (by decide)

theorem State.modBase_boots (n : Nat) (f : TimeBase → TimeBase) : s.Boots (s.modBase n f) := by
  unfold State.modBase
  split <;> exact ⟨w, fun _ _ => rfl, rfl, rfl, rfl, rfl, rfl, rfl, rfl, rfl⟩

theorem State.setTbState_boots (n st : Nat) : s.Boots (s.setTbState n st) := by
  have hfld : stateFld n = F.TB_FLAGS.STATE0 ∨ stateFld n = F.TB_FLAGS.STATE1 := by unfold stateFld; split <;> simp
  have hset : s.Boots ((s.fset (stateFld n) st).msix 1) := by
    refine .of_told (l := [F.TB_FLAGS.STATE0, F.TB_FLAGS.STATE1]) (((State.Told.refl w _).fset ?_ ?_ st).msix 1) (by decide)
    · rcases hfld with h | h <;> simp [h]
    · rcases hfld with h | h <;> rw [h] <;> decide
  unfold State.setTbState
  split
  · exact State.Boots.refl w
  · extract_lets t u v
    have hu : s.Boots u := by
      simp only [u]
      split
      · have hm := hset.trans (State.modBase_boots hset.form n (fun b => { b with holdSince := t.time.tb3 }))
        exact hm.trans (.of_told (l := []) ((State.Told.refl hm.form []).count 4 14 1) (by decide))
      · exact hset
    have hv : s.Boots v := hu.trans (State.modBase_boots hu.form n _)
    exact hv.trans (.of_told (l := []) ((State.Told.refl hv.form []).event 7 _) (by decide))

theorem State.holdBase_boots (n : Nat) : s.Boots (s.holdBase n) := by
  unfold State.holdBase
  split
  · exact State.setTbState_boots w n 3
  · exact State.Boots.refl w

theorem State.holdTime_boots : s.Boots s.holdTime :=
  (State.holdBase_boots w 0).trans (State.holdBase_boots (State.holdBase_boots w 0).form 1)

theorem State.powerBays_boots (on : Bool) : s.Boots (bays.foldl (fun s b => s.powerBay b on) s) :=
  State.LightNotes.boots (.of_bays ((State.BayNotes.refl w).foldl fun _ wu _ hb => State.powerBay_notes wu hb on))

/-! ## A reset begins -/

/-- The fields that the beginning of a reset writes. -/
def beginFields : List Fld :=
  [F.PWR_RUNG_STATE.MOVING, F.PWR_RUNG_STATE.TOUCH, F.PWR_THERM.THERM_RUNG, F.ARRAY_STATUS.CLASS 0,
   F.ARRAY_STATUS.CLASS 1, F.ARRAY_STATUS.CLASS 2, F.ARRAY_STATUS.CLASS 3, F.RAS_STATUS.DEGRADED]

omit w in
/-- What the beginning of a reset leaves of each store. -/
theorem State.beginReset_stores (s : State) (kind rung : Nat) : (s.beginReset kind rung).steer = s.steer.after kind rung ∧
    (s.beginReset kind rung).map = s.map.after kind rung ∧ (s.beginReset kind rung).lock = s.lock.after kind rung s.time.tb0.fine ∧
    (s.beginReset kind rung).mem = (s.after kind rung).mem ∧ (s.beginReset kind rung).tows = s.tows.after kind rung ∧
    (s.beginReset kind rung).time = s.time.after kind ∧
    (s.beginReset kind rung).boot = { s.boot.after kind rung with since := (s.time.after kind).tb3 } :=
  ⟨rfl, rfl, rfl, rfl, rfl, rfl, rfl⟩

/-- A spare given back writes DEGRADED. -/
theorem State.spareBack_kept (code : Nat) : wordsWf 0 (s.spareBack code).regs = true ∧ fieldsKept s (s.spareBack code) [F.RAS_STATUS.DEGRADED] :=
  ⟨State.fset_wf _ _ _ w, fun g hg => State.fget_fset_apart _ _ g _ (by decide) w (hg _ (by simp))⟩

/-- The ladder's flags and the classes the arrays show. -/
theorem State.beginFlags_writes : s.Writes ((List.range 4).foldl (fun s n => s.fset (F.ARRAY_STATUS.CLASS n) 3)
    (((s.fset F.PWR_RUNG_STATE.MOVING 0).fset F.PWR_RUNG_STATE.TOUCH 0).fset F.PWR_THERM.THERM_RUNG 0)) beginFields := by
  refine ((((State.Writes.refl w _).fset (by simp [beginFields]) (by decide) 0).fset (by simp [beginFields]) (by decide) 0).fset
    (by simp [beginFields]) (by decide) 0).foldl fun u wu n hn => (State.Writes.refl wu _).fset ?_ (by simp [F.ARRAY_STATUS.CLASS]) 3
  have hlt : n = 0 ∨ n = 1 ∨ n = 2 ∨ n = 3 := by have := List.mem_range.mp hn; omega
  rcases hlt with rfl | rfl | rfl | rfl <;> simp [beginFields]

/-- The fields written once the rung is L0. -/
theorem State.beginReset_regs (kind rung : Nat) :
    wordsWf 0 (s.beginReset kind rung).regs = true ∧
    fieldsKept ((s.after kind rung).fset F.PWR_RUNG_STATE.RUNG 0) (s.beginReset kind rung) beginFields := by
  have h0 := State.fset_wf _ F.PWR_RUNG_STATE.RUNG 0 (State.after_wf w kind rung)
  unfold State.beginReset
  extract_lets a b c d
  have hc : a.Writes c beginFields := State.beginFlags_writes h0
  obtain ⟨h8, k8⟩ := State.spareBack_kept hc.form 8
  obtain ⟨h4, k4⟩ := State.spareBack_kept h8 4
  have hdeg : ∀ g : Fld, (∀ f ∈ beginFields, Fld.apart f g) → ∀ f ∈ [F.RAS_STATUS.DEGRADED], Fld.apart f g := by
    intro g hg f hf
    obtain rfl := List.mem_singleton.mp hf
    exact hg _ (by simp [beginFields])
  exact ⟨h4, fun g hg => (k4 g (hdeg g hg)).trans ((k8 g (hdeg g hg)).trans (hc.kept g hg))⟩

theorem State.rung_beginReset (kind rung : Nat) : (s.beginReset kind rung).rung = 0 := by
  rw [State.rung, (State.beginReset_regs w kind rung).2 _ (apart_of_test (by decide))]
  exact State.fget_fset_self _ _ 0 (by decide) (State.after_wf w kind rung)

/-- A reset of kind W, C or P loses READY. -/
theorem State.ready_beginReset {kind rung : Nat} (hlost : F.KEEL_STATUS.READY.lostBy kind rung = true) :
    (s.beginReset kind rung).ready = false := by
  have hw := State.after_wf w kind rung
  rw [State.ready, State.bit, (State.beginReset_regs w kind rung).2 _ (apart_of_test (by decide)),
    State.fget_fset_apart _ _ _ _ (by decide) hw (Fld.apart_of_test (by decide)), State.fget_after_lost w hlost]
  decide

/-- KEEL_CAUSE after a reset (R389). -/
theorem State.recordCause_spec (kind cause : Nat) (fatal : Bool) :
    s.Notes (s.recordCause kind cause fatal) [F.KEEL_CAUSE.CAUSE, F.KEEL_CAUSE.KIND, F.KEEL_CAUSE.FATAL, F.KEEL_CAUSE.PREV,
      F.KEEL_CAUSE.WARM_COUNT] ∧
    (s.recordCause kind cause fatal).fget F.KEEL_CAUSE.CAUSE = cause % 256 ∧
    (s.recordCause kind cause fatal).fget F.KEEL_CAUSE.KIND = kind % 4 := by
  have w1 := s.fset_wf F.KEEL_CAUSE.CAUSE cause w
  have w2 := State.fset_wf _ F.KEEL_CAUSE.KIND kind w1
  have hrest : ((s.fset F.KEEL_CAUSE.CAUSE cause).fset F.KEEL_CAUSE.KIND kind).Notes (s.recordCause kind cause fatal)
      [F.KEEL_CAUSE.FATAL, F.KEEL_CAUSE.PREV, F.KEEL_CAUSE.WARM_COUNT] := by
    have h := ((State.Notes.refl w2 [F.KEEL_CAUSE.FATAL, F.KEEL_CAUSE.PREV, F.KEEL_CAUSE.WARM_COUNT]).fset (f := F.KEEL_CAUSE.FATAL) (by simp)
      (by decide)
      fatal.toNat).fset (f := F.KEEL_CAUSE.PREV) (by simp) (by decide) (if kind = 3 then 0 else s.fget F.KEEL_CAUSE.CAUSE)
    exact (h.fadd (f := F.KEEL_CAUSE.WARM_COUNT) (by simp) (by decide) 1).ite (h.fset (by simp) (by decide) 0)
  refine ⟨?_, ?_, ?_⟩
  · exact (((State.Notes.refl w _).fset (by simp) (by decide) cause).fset (by simp) (by decide) kind).trans (hrest.mono (by simp))
  · rw [hrest.fget (apart_of_test (by decide)), State.fget_fset_apart _ _ _ _ (by decide) w1 (Fld.apart_of_test (by decide))]
    exact State.fget_fset_self _ _ _ (by decide) w
  · rw [hrest.fget (apart_of_test (by decide))]
    exact State.fget_fset_self _ _ _ (by decide) w1

end

theorem State.rung_lt (s : State) : s.rung < 8 := Nat.mod_lt _ (by decide)

theorem ready_lost {kind rung : Nat} (hk : 2 ≤ kind ∧ kind ≤ 4) (hr : rung < 8) : F.KEEL_STATUS.READY.lostBy kind rung = true := by
  have hall : ∀ k < 5, ∀ r < 8, 2 ≤ k → F.KEEL_STATUS.READY.lostBy k r = true := by decide
  exact hall kind (by omega) rung hr hk.1

/-- What a C or P reset leaves, before its boot begins. -/
structure State.ColdReset (s t : State) (kind cause : Nat) : Prop where
  form : wordsWf 0 t.regs = true
  causeIs : t.fget F.KEEL_CAUSE.CAUSE = cause
  kindIs : t.fget F.KEEL_CAUSE.KIND = kind - 1
  rung : t.rung = 0
  ready : t.ready = false
  axes : t.steer.axes = []
  cycles : t.lock.cycles = [] ∧ t.lock.paths = []
  mem : t.mem.basin = [] ∧ t.mem.stack = []
  tows : t.tows.tows = []
  master : t.map.master = s.map.master
  tb3 : t.time.tb3 = (s.time.after kind).tb3
  slots : t.boot.slots = s.boot.slots

/-- A boot that follows a reset leaves what the reset left. -/
theorem State.ColdReset.boots {s t u : State} {kind cause : Nat} (h : s.ColdReset t kind cause) (k : t.Boots u) :
    s.ColdReset u kind cause where
  form := k.form
  causeIs := (k.fget (by simp [bootKept])).trans h.causeIs
  kindIs := (k.fget (by simp [bootKept])).trans h.kindIs
  rung := (k.fget (g := F.PWR_RUNG_STATE.RUNG) (by simp [bootKept])).trans h.rung
  ready := by rw [State.ready, State.bit, k.fget (by simp [bootKept])]; exact h.ready
  axes := by rw [k.steer]; exact h.axes
  cycles := by rw [k.lock]; exact h.cycles
  mem := by rw [k.mem]; exact h.mem
  tows := by rw [k.tows]; exact h.tows
  master := by rw [k.map]; exact h.master
  tb3 := k.tb3.trans h.tb3
  slots := by rw [k.boot]; exact h.slots

theorem State.coldReset_begins {s : State} (w : wordsWf 0 s.regs = true) {kind rung cause : Nat} (hk : kind = 3 ∨ kind = 4)
    (hr : rung < 8) (hc : cause < 256) : s.ColdReset ((s.beginReset kind rung).recordCause (kind - 1) cause false) kind cause := by
  have hw := (State.beginReset_regs w kind rung).1
  obtain ⟨hnotes, hcause, hkind⟩ := State.recordCause_spec hw (kind - 1) cause false
  obtain ⟨hsteer, hmap, hlock, hmem, htows, htime, hboot⟩ := s.beginReset_stores kind rung
  have hkeep : ∀ r, keeps 2 2 kind r = false ∧ keeps 1 2 kind r = false ∧ keeps 2 1 kind r = false ∧ keeps 0 1 kind r = false := by
    intro r; rcases hk with rfl | rfl <;> simp [keeps]
  obtain ⟨h22, h12, h21, h01⟩ := hkeep rung
  refine ⟨hnotes.form, hcause.trans (Nat.mod_eq_of_lt hc), hkind.trans ?_, ?_, ?_, ?_, ⟨?_, ?_⟩, ⟨?_, ?_⟩, ?_, ?_, ?_, ?_⟩
  · rcases hk with rfl | rfl <;> rfl
  · rw [State.rung, hnotes.fget (apart_of_test (by decide))]; exact State.rung_beginReset w kind rung
  · rw [State.ready, State.bit, hnotes.fget (apart_of_test (by decide))]
    exact State.ready_beginReset w (ready_lost (by omega) hr)
  · rw [hnotes.steer, hsteer]; simp [Steer.after, keepOr, h22]
  · rw [hnotes.lock, hlock]; simp [Lock.after, keepOr, h12]
  · rw [hnotes.lock, hlock]; simp [Lock.after, keepOr, h22]
  · rw [hnotes.mem, hmem]; simp [State.after, Mem.after, h21, h22]
  · rw [hnotes.mem, hmem]; simp [State.after, Mem.after, keepOr, h22]
  · rw [hnotes.tows, htows]; simp [TowSys.after, keepOr, h01]
  · rw [hnotes.map, hmap]; rfl
  · rw [hnotes.time, htime]
  · rw [hnotes.boot, hboot]; rfl

/-! ## The cold boot (R313) -/

/-- A cold boot notes its time. -/
def State.coldStart (s : State) : State := { s with boot := { s.boot with since := s.time.tb3, warm := false } }

theorem State.coldBoot_eq (s : State) (kind rung : Nat) : s.coldBoot kind rung =
    if s.coldStart.chooseSlot.boot.stopped then s.coldStart.chooseSlot
    else ((s.coldStart.chooseSlot.keelImage kind rung).poundUp 15).showRails.identifyBays := rfl

/-- The steps of a cold boot after its time is noted. -/
theorem State.coldBoot_boots {s : State} (w : wordsWf 0 s.regs = true) (kind rung : Nat) :
    s.coldStart.Boots (s.coldBoot kind rung) ∧
    ((s.coldBoot kind rung).boot.stopped = false → s.power.railsOff = false → s.rung ≤ 2 →
      (s.coldBoot kind rung).fget F.PWR_RAILS.RAIL_OK = 255) := by
  have hchoose := State.chooseSlot_boots (s := s.coldStart) w
  rw [State.coldBoot_eq]
  generalize s.coldStart.chooseSlot = b at hchoose
  split
  case isTrue hstop => exact ⟨hchoose, fun h => absurd hstop (by simp [h])⟩
  case isFalse =>
    have himage := hchoose.trans (State.reimage_boots hchoose.form (fun n => decide (n = 15))
      (fun r => b.boot.imageChanged || !r.survives kind rung))
    have hpound := himage.trans (State.poundUp_boots himage.form (n := 15) (by decide))
    have hrails := hpound.trans (State.showRails_boots hpound.form)
    have hbays := State.identifyBays_notes hrails.form
    refine ⟨hrails.trans hbays.boots, fun _ hoff hr => ?_⟩
    have hrung := hpound.fget (g := F.PWR_RUNG_STATE.RUNG) (by simp [bootKept])
    refine hbays.railOk.trans ((State.fget_fset_self _ _ _ (by decide) hpound.form).trans ?_)
    have hlow : State.rung _ ≤ 2 := (Eq.le hrung).trans hr
    rw [if_pos hlow, hpound.power]
    have hoff' : s.coldStart.power.railsOff = false := hoff
    rw [if_neg (by simp [hoff'])]
    decide

/-! ## The input (R295) -/

/-- Halts of arrays at rest: the array words, the pace and HALTED, the tows and the counters. -/
structure State.Halts (s t : State) : Prop where
  form : wordsWf 0 t.regs = true
  kept : t.fget F.PWR_CAP.INPUT_LOW = s.fget F.PWR_CAP.INPUT_LOW
  rest : t = { s with regs := t.regs, counters := t.counters, tows := t.tows }
  low : t.tows.inputHalt = s.tows.inputHalt

namespace State.Halts

variable {s t u : State}

theorem refl (w : wordsWf 0 s.regs = true) : s.Halts s := ⟨w, rfl, rfl, rfl⟩

theorem trans (h : s.Halts t) (k : t.Halts u) : s.Halts u :=
  ⟨k.form, k.kept.trans h.kept, by rw [k.rest, h.rest], k.low.trans h.low⟩

theorem fset (h : s.Halts t) {f : Fld} (hf : f.lo + f.width ≤ 32) (ha : Fld.apart f F.PWR_CAP.INPUT_LOW) (v : Nat) :
    s.Halts (t.fset f v) :=
  h.trans ⟨t.fset_wf f v h.form, t.fget_fset_apart f _ v hf h.form ha, rfl, rfl⟩

theorem count (h : s.Halts t) (g i n : Nat) : s.Halts (t.count g i n) := h.trans ⟨h.form, rfl, rfl, rfl⟩

theorem foldl {α : Type} {f : State → α → State} {is : List α} (h : s.Halts t)
    (step : ∀ u : State, wordsWf 0 u.regs = true → ∀ i ∈ is, u.Halts (f u i)) : s.Halts (is.foldl f t) :=
  List.foldlRecOn (motive := fun u => s.Halts u) is f h fun _ hu i hi => hu.trans (step _ hu.form i hi)

end State.Halts

section
variable {s : State} (w : wordsWf 0 s.regs = true)
include w

theorem State.haltUnit_halts (u : Nat) : s.Halts (s.haltUnit u) := by
  unfold State.haltUnit
  split
  · next t ht =>
    have hon : t.phase = .running u := (TowPhase.onUnit_iff _ _).mp (List.find?_some (p := fun x : Tow => x.phase.onUnit u) ht)
    split
    · exact State.Halts.refl w
    · refine State.Halts.count ?_ 7 12 1
      have hsave := State.saveTow_frame w hon .ready
      refine ⟨?_, ?_, ?_, ?_⟩
      · rw [hsave]; exact State.leaveUnit_wf w u
      · rw [hsave]; exact (State.leaveUnit_left w u).kept _ (by decide)
      · rw [hsave]
      · rw [hsave]
  · exact State.Halts.refl w

theorem State.setArray_halts {n : Nat} (hn : n < 4) (st : Nat) : s.Halts (s.setArray n st) := by
  have hset := (State.Halts.refl w).fset (f := F.ARRAY_STATUS.STATE n) (by simp [F.ARRAY_STATUS.STATE])
    (.inl (by simp only [F.ARRAY_STATUS.STATE, F.PWR_CAP.INPUT_LOW]; omega)) st
  unfold State.setArray
  dsimp only
  split
  · exact hset
  · exact hset.fset (by simp only [paceField]; omega) (.inl (by simp [paceField, F.PWR_CAP.INPUT_LOW])) 0

theorem State.haltArrays_halts {u : Nat} (hu : u < 4) : s.Halts (s.haltArrays u) := by
  unfold State.haltArrays
  dsimp only
  split
  · exact State.Halts.refl w
  · refine (State.haltUnit_halts w u).foldl fun t wt n hn => ?_
    have hlt : n < 4 := s.unitArrays_lt hu (List.mem_filter.mp hn).1
    have hset := State.setArray_halts wt hlt 4
    split
    · exact (hset.fset (by decide) (Fld.apart_of_test (by decide)) _).count 13 6 1
    · exact hset

theorem State.haltResting_halts : s.Halts s.haltResting :=
  (State.Halts.refl w).foldl fun _ wt u hu => by
    split
    · exact State.haltArrays_halts wt (List.mem_range.mp hu)
    · exact State.Halts.refl wt

end

/-- A halted array that the input alone halted. -/
structure State.Freed (s : State) (n : Nat) : Prop where
  rung : s.rung = 0
  low : s.tows.inputHalt = false
  current : s.tows.currentHalt = []
  cool : s.hotArray n = false
  unheld : s.heatHalted n = false

/-- The states of the four arrays. -/
def arrayStates : List Fld := [F.ARRAY_STATUS.STATE 0, F.ARRAY_STATUS.STATE 1, F.ARRAY_STATUS.STATE 2, F.ARRAY_STATUS.STATE 3]

theorem arrayState_mem {n : Nat} (hn : n < 4) : F.ARRAY_STATUS.STATE n ∈ arrayStates := by
  have h : n = 0 ∨ n = 1 ∨ n = 2 ∨ n = 3 := by omega
  rcases h with rfl | rfl | rfl | rfl <;> simp [arrayStates]

theorem arrayStates_off {f : Fld} (h : f ∈ arrayStates) : 0x700000 ≤ f.off := by
  have hall : ∀ f ∈ arrayStates, 0x700000 ≤ f.off := by decide
  exact hall f h

theorem State.unhalt_writes {s : State} (w : wordsWf 0 s.regs = true) {n : Nat} (hn : n < 4) : s.Writes (s.unhalt n) arrayStates := by
  unfold State.unhalt
  split
  · exact (State.Writes.refl w _).fset (arrayState_mem hn) (by simp [F.ARRAY_STATUS.STATE]) 1
  · exact State.Writes.refl w _

theorem State.Freed.of_kept {s t : State} {n : Nat} (hn : n < 4) (h : s.Freed n)
    (hkept : ∀ g : Fld, g.off < 0x700000 → g.off ≠ 0x100008 → t.fget g = s.fget g) (htows : t.tows = s.tows) : t.Freed n := by
  refine ⟨(hkept _ (by decide) (by decide)).trans h.rung, by rw [htows]; exact h.low, by rw [htows]; exact h.current, ?_, ?_⟩
  · refine List.any_eq_false.mpr fun k hk => ?_
    have hkn : 10 * n + k < 40 := by have := List.mem_range.mp hk; omega
    have hcool := List.any_eq_false.mp h.cool k hk
    rwa [State.bit, hkept _ (by simp only [F.PWR_TEMP.VALID]; omega) (by simp only [F.PWR_TEMP.VALID]; omega),
      hkept _ (by simp only [F.PWR_TEMP.TEMP]; omega) (by simp only [F.PWR_TEMP.TEMP]; omega)]
  · rw [State.heatHalted, hkept _ (by decide) (by decide)]; exact h.unheld

theorem State.Freed.of_writes {s t : State} {n : Nat} (hn : n < 4) (h : s.Freed n) (hw : s.Writes t arrayStates) : t.Freed n :=
  h.of_kept hn (fun g hg _ => hw.fget fun f hf => .inl (by have := arrayStates_off hf; omega)) (by rw [hw.frame])

/-- The fold over the arrays leaves array n IDLE once it has come to it. -/
theorem State.unhalts_idle {n : Nat} (hn : n < 4) (l : List Nat) (hl : ∀ m ∈ l, m < 4) (s : State) (w : wordsWf 0 s.regs = true)
    (hf : s.Freed n) (h : s.arrayState n = 1 ∨ (s.arrayState n = 4 ∧ n ∈ l)) :
    s.Writes (l.foldl State.unhalt s) arrayStates ∧ (l.foldl State.unhalt s).arrayState n = 1 := by
  induction l generalizing s with
  | nil => exact ⟨State.Writes.refl w _, by simpa using h⟩
  | cons m l ih =>
    have hm : m < 4 := hl m List.mem_cons_self
    have hw := State.unhalt_writes w hm
    have hnext : (s.unhalt m).arrayState n = 1 ∨ ((s.unhalt m).arrayState n = 4 ∧ n ∈ l) := by
      by_cases e : m = n
      · subst e
        rcases h with h | ⟨h, -⟩
        · exact .inl (by rw [State.unhalt, if_neg (by omega)]; exact h)
        · have hcond : s.arrayState m = 4 ∧ s.rung = 0 ∧ !s.haltDue m ∧ !s.heatHalted m :=
            ⟨h, hf.rung, by simp [State.haltDue, hf.low, hf.current, hf.cool], by simp [hf.unheld]⟩
          rw [State.unhalt, if_pos hcond]
          exact .inl (State.fget_fset_self _ _ 1 (by simp [F.ARRAY_STATUS.STATE]) w)
      · have hsame : (s.unhalt m).arrayState n = s.arrayState n := by
          unfold State.unhalt
          split
          · exact State.fget_fset_apart _ _ _ 1 (by simp [F.ARRAY_STATUS.STATE]) w
              (.inl (by simp only [F.ARRAY_STATUS.STATE]; omega))
          · rfl
        rw [hsame]
        exact h.imp_right fun ⟨h4, hmem⟩ => ⟨h4, (List.mem_cons.mp hmem).resolve_left (Ne.symm e)⟩
    obtain ⟨hrest, hidle⟩ := ih (fun k hk => hl k (List.mem_cons_of_mem m hk)) _ hw.form (hf.of_writes hn hw) hnext
    exact ⟨hw.trans hrest, hidle⟩

theorem State.unhaltAll_writes {s : State} (w : wordsWf 0 s.regs = true) : s.Writes s.unhaltAll arrayStates :=
  (State.Writes.refl w _).foldl fun _ wu _ hm => State.unhalt_writes wu (List.mem_range.mp hm)

/-! ## Straps (R241, R365) -/

theorem State.sampleStraps_spec {s : State} (w : wordsWf 0 s.regs = true) (st : Straps) :
    s.Writes (s.sampleStraps st) [F.KEEL_STRAPS.PLANE, F.KEEL_STRAPS.SWITCH_ID, F.KEEL_STRAPS.ROLE, F.KEEL_STATUS.ROLE] ∧
    (s.sampleStraps st).fget F.KEEL_STRAPS.PLANE = st.plane % 2 ^ F.KEEL_STRAPS.PLANE.width ∧
    (s.sampleStraps st).fget F.KEEL_STRAPS.SWITCH_ID = st.switchId % 2 ^ F.KEEL_STRAPS.SWITCH_ID.width ∧
    (s.sampleStraps st).fget F.KEEL_STRAPS.ROLE = st.role % 2 ^ F.KEEL_STRAPS.ROLE.width := by
  have w1 := s.fset_wf F.KEEL_STRAPS.PLANE st.plane w
  have w2 := State.fset_wf _ F.KEEL_STRAPS.SWITCH_ID st.switchId w1
  have w3 := State.fset_wf _ F.KEEL_STRAPS.ROLE st.role w2
  refine ⟨((((State.Writes.refl w _).fset (by simp) (by decide) _).fset (by simp) (by decide) _).fset (by simp) (by decide) _).fset
    (by simp) (by decide) _, ?_, ?_, ?_⟩
  · rw [State.sampleStraps, State.fget_fset_apart _ _ _ _ (by decide) w3 (Fld.apart_of_test (by decide)),
      State.fget_fset_apart _ _ _ _ (by decide) w2 (Fld.apart_of_test (by decide)),
      State.fget_fset_apart _ _ _ _ (by decide) w1 (Fld.apart_of_test (by decide))]
    exact State.fget_fset_self _ _ _ (by decide) w
  · rw [State.sampleStraps, State.fget_fset_apart _ _ _ _ (by decide) w3 (Fld.apart_of_test (by decide)),
      State.fget_fset_apart _ _ _ _ (by decide) w2 (Fld.apart_of_test (by decide))]
    exact State.fget_fset_self _ _ _ (by decide) w1
  · rw [State.sampleStraps, State.fget_fset_apart _ _ _ _ (by decide) w3 (Fld.apart_of_test (by decide))]
    exact State.fget_fset_self _ _ _ (by decide) w2

theorem State.ColdReset.straps {s t : State} {kind cause : Nat} (h : s.ColdReset t kind cause) (st : Straps) :
    s.ColdReset (t.sampleStraps st) kind cause := by
  have hw := (State.sampleStraps_spec h.form st).1
  exact ⟨hw.form, (hw.fget (apart_of_test (by decide))).trans h.causeIs, (hw.fget (apart_of_test (by decide))).trans h.kindIs,
    (hw.fget (g := F.PWR_RUNG_STATE.RUNG) (apart_of_test (by decide))).trans h.rung,
    (by rw [State.ready, State.bit, hw.fget (apart_of_test (by decide))]; exact h.ready), h.axes, h.cycles, h.mem, h.tows, h.master,
    h.tb3, h.slots⟩

theorem State.ColdReset.withPower {s t : State} {kind cause : Nat} (h : s.ColdReset t kind cause) (p : Power) :
    s.ColdReset { t with power := p } kind cause :=
  ⟨h.form, h.causeIs, h.kindIs, h.rung, h.ready, h.axes, h.cycles, h.mem, h.tows, h.master, h.tb3, h.slots⟩

theorem State.ColdReset.hold {s t : State} {kind cause : Nat} (h : s.ColdReset t kind cause) (low : Bool) :
    s.ColdReset { t with boot := { t.boot with resetLow := low } } kind cause :=
  ⟨h.form, h.causeIs, h.kindIs, h.rung, h.ready, h.axes, h.cycles, h.mem, h.tows, h.master, h.tb3, h.slots⟩

/-! ## The statement -/

/-- The machine held in reset, its bays off (R362). -/
def State.resetDown (s : State) : State :=
  bays.foldl (fun s b => s.powerBay b false) ((s.beginReset 3 s.rung).recordCause 2 3 false).holdTime

theorem exec_resetN_low {s : State} (st : Straps) (hlow : s.boot.resetLow = false) : exec (.resetN true st) s =
    .next { s.resetDown with boot := { s.resetDown.boot with resetLow := true }
                             power := { s.resetDown.power with railsOff := false } } :=
  congrArg Host.Outcome.next ((if_pos rfl).trans (if_neg (by simp [hlow])))

theorem State.resetDown_cold {s : State} (w : wordsWf 0 s.regs = true) : s.ColdReset s.resetDown 3 3 := by
  have hbegin := State.coldReset_begins w (kind := 3) (cause := 3) (.inl rfl) s.rung_lt (by decide)
  have hhold := hbegin.boots (State.holdTime_boots hbegin.form)
  exact hhold.boots (State.powerBays_boots hhold.form false)

theorem resetN_low {s : State} (w : wordsWf 0 s.regs = true) (st : Straps) (hlow : s.boot.resetLow = false) :
    ∃ t, exec (.resetN true st) s = .next t ∧ s.ColdReset t 3 3 ∧ t.boot.resetLow = true ∧ t.power.railsOff = false := by
  have hdown := State.resetDown_cold w
  refine ⟨_, exec_resetN_low st hlow, ?_, rfl, rfl⟩
  generalize s.resetDown = u at hdown
  exact (hdown.withPower { u.power with railsOff := false }).hold true

theorem resetN_high {s : State} (w : wordsWf 0 s.regs = true) (st : Straps) (hlow : s.boot.resetLow = true) :
    ∃ t, exec (.resetN false st) s = .next t ∧ t.boot.resetLow = false ∧ t.boot.since = s.time.tb3 ∧
      t.fget F.KEEL_STRAPS.PLANE = st.plane % 2 ^ F.KEEL_STRAPS.PLANE.width ∧
      t.fget F.KEEL_STRAPS.SWITCH_ID = st.switchId % 2 ^ F.KEEL_STRAPS.SWITCH_ID.width ∧
      t.fget F.KEEL_STRAPS.ROLE = st.role % 2 ^ F.KEEL_STRAPS.ROLE.width ∧ t.steer = s.steer ∧ t.mem = s.mem ∧ t.lock = s.lock := by
  obtain ⟨hw, hplane, hswitch, hrole⟩ := State.sampleStraps_spec (s := { s with boot := { s.boot with resetLow := false } }) w st
  obtain ⟨hboots, -⟩ := State.coldBoot_boots hw.form (s.fget F.KEEL_CAUSE.KIND + 1) 5
  refine ⟨_, congrArg Host.Outcome.next ((if_neg (by decide)).trans (if_pos hlow)), ?_, ?_, ?_, ?_, ?_, hboots.steer, hboots.mem,
    hboots.lock⟩
  · rw [hboots.boot]; rfl
  · rw [hboots.boot]; rfl
  · exact (hboots.fget (by simp [bootKept])).trans hplane
  · exact (hboots.fget (by simp [bootKept])).trans hswitch
  · exact (hboots.fget (by simp [bootKept])).trans hrole

/-- The machine after a P reset, its bays off (R10, R313). -/
def State.poweredUp (s : State) (keelRail : Bool) : State :=
  bays.foldl (fun s b => s.powerBay b false) ((s.beginReset 4 0).recordCause 3 (if keelRail then 2 else 1) false)

theorem State.poweredUp_cold {s : State} (w : wordsWf 0 s.regs = true) (keelRail : Bool) :
    s.ColdReset (s.poweredUp keelRail) 4 (if keelRail then 2 else 1) := by
  have hbegin := State.coldReset_begins w (kind := 4) (rung := 0) (cause := if keelRail then 2 else 1) (.inr rfl) (by decide)
    (by split <;> decide)
  exact hbegin.boots (State.powerBays_boots hbegin.form false)

theorem exec_powerOn (s : State) (keelRail low : Bool) (st : Straps) : exec (.powerOn keelRail low st) s =
    .next (let t := s.poweredUp keelRail
      if low then { t with boot := { t.boot with resetLow := true } }
      else (({ t with boot := { t.boot with resetLow := false } }).sampleStraps st).coldBoot 4 0) := rfl

theorem State.ColdReset.start {s t : State} {kind cause : Nat} (h : s.ColdReset t kind cause) : s.ColdReset t.coldStart kind cause :=
  ⟨h.form, h.causeIs, h.kindIs, h.rung, h.ready, h.axes, h.cycles, h.mem, h.tows, h.master, h.tb3, h.slots⟩

theorem powerOn_resets {s : State} (w : wordsWf 0 s.regs = true) (keelRail low : Bool) (st : Straps) :
    ∃ t, exec (.powerOn keelRail low st) s = .next t ∧ s.ColdReset t 4 (if keelRail then 2 else 1) ∧ t.boot.resetLow = low := by
  have hup := State.poweredUp_cold w keelRail
  refine ⟨_, exec_powerOn s keelRail low st, ?_⟩
  generalize s.poweredUp keelRail = u at hup
  cases low with
  | true => exact ⟨hup.hold true, rfl⟩
  | false =>
    have hstraps := (hup.hold false).straps st
    have hboots := (State.coldBoot_boots hstraps.form 4 0).1
    exact ⟨hstraps.start.boots hboots, (congrArg Boot.resetLow hboots.boot).trans rfl⟩

theorem exec_railRelease {s : State} (hoff : s.power.railsOff = true) : exec .railRelease s =
    .next (if s.fget F.KEEL_CAUSE.CAUSE = 6 ∧ s.railsCooled = false then s
      else ({ s with power := { s.power with railsOff := false } }).coldBoot 2 5) :=
  congrArg Host.Outcome.next (if_pos hoff)

theorem inputLow_halts {s : State} (w : wordsWf 0 s.regs = true) (hlow : s.power.inputLow = false) (hheld : s.held = false) :
    ∃ t, exec .inputLow s = .next t ∧ t.power = { s.power with inputLow := true } ∧ t.tows.inputHalt = true ∧
      t.fget F.PWR_CAP.INPUT_LOW = 1 ∧ t.steer = s.steer ∧ t.mem = s.mem ∧ t.lock = s.lock := by
  have w1 := State.fset_wf { s with power := { s.power with inputLow := true }, tows := { s.tows with inputHalt := true } }
    F.PWR_CAP.INPUT_LOW 1 w
  have hnote := ((State.Notes.refl w1 []).logEntry (sev := 5) (by decide) 1 .environment .rail 0 0 0).count 13 4 1
  have hhalt := State.haltResting_halts hnote.form
  refine ⟨_, congrArg Host.Outcome.next (if_neg (by simp [hlow, hheld])), ?_, ?_, ?_, ?_, ?_, ?_⟩
  · rw [hhalt.rest]; exact hnote.power
  · exact hhalt.low.trans (by rw [hnote.tows]; rfl)
  · exact hhalt.kept.trans ((hnote.fget (apart_of_test (by decide))).trans (State.fget_fset_self _ _ 1 (by decide) w))
  · rw [hhalt.rest]; exact hnote.steer
  · rw [hhalt.rest]; exact hnote.mem
  · rw [hhalt.rest]; exact hnote.lock

/-- The input is back. -/
def State.inputBack (s : State) : State :=
  { s with power := { s.power with inputLow := false }, tows := { s.tows with inputHalt := false } }

theorem inputLowEnd_resumes {s : State} (w : wordsWf 0 s.regs = true) (hlow : s.power.inputLow = true) :
    ∃ t, exec .inputLowEnd s = .next t ∧ t.fget F.PWR_CAP.INPUT_LOW = 0 ∧
      (∀ n, n < 4 → s.arrayState n = 4 → s.rung = 0 → s.tows.currentHalt = [] → s.hotArray n = false → s.heatHalted n = false →
        t.arrayState n = 1) ∧
      t = { s with regs := t.regs, power := { s.power with inputLow := false }, tows := { s.tows with inputHalt := false } } := by
  have hset := (State.Writes.refl (s := s.inputBack) w [F.PWR_CAP.INPUT_LOW]).fset (f := F.PWR_CAP.INPUT_LOW) (by simp)
    (by decide) 0
  have hall := State.unhaltAll_writes hset.form
  have hexec : exec .inputLowEnd s = .next (s.inputBack.fset F.PWR_CAP.INPUT_LOW 0).unhaltAll := congrArg Host.Outcome.next (if_pos hlow)
  refine ⟨_, hexec, ?_, fun n hn h4 hr hcur hcool hheld => ?_, ?_⟩
  · exact (hall.fget (apart_of_test (by decide))).trans (State.fget_fset_self s.inputBack _ 0 (by decide) w)
  · have hother : ∀ f ∈ [F.PWR_CAP.INPUT_LOW], f.off = 0x100008 := by simp [F.PWR_CAP.INPUT_LOW]
    have hfree : (s.inputBack.fset F.PWR_CAP.INPUT_LOW 0).Freed n :=
      State.Freed.of_kept (s := s.inputBack) hn ⟨hr, rfl, hcur, hcool, hheld⟩
        (fun g _ hg => hset.fget fun f hf => .inl (by rw [hother f hf]; exact Ne.symm hg)) rfl
    have hstate : (s.inputBack.fset F.PWR_CAP.INPUT_LOW 0).arrayState n = 4 :=
      (hset.fget fun f hf => .inl (by rw [hother f hf]; simp only [F.ARRAY_STATUS.STATE]; omega)).trans h4
    exact (State.unhalts_idle hn (List.range 4) (fun m hm => List.mem_range.mp hm) _ hset.form hfree
      (.inr ⟨hstate, List.mem_range.mpr hn⟩)).2
  · rw [hall.frame, hset.frame]; rfl

/-- Settles O12: what each event keeps and loses, and that the steps of a boot up to the cores leave it so. -/
theorem coldResets : Obligations.ColdResets := by
  refine ⟨fun s st hwf hlow => ?_, fun s st hwf hlow => resetN_high (State.regsWf_of_allWf hwf) st hlow,
    fun s keelRail low st hwf => ?_, fun s hoff hcause hcool => ?_, fun s hwf hoff hgo => ?_,
    fun s hwf hlow hheld => inputLow_halts (State.regsWf_of_allWf hwf) hlow hheld,
    fun s hwf hlow => inputLowEnd_resumes (State.regsWf_of_allWf hwf) hlow⟩
  · obtain ⟨t, hexec, h, hrl, hro⟩ := resetN_low (State.regsWf_of_allWf hwf) st hlow
    exact ⟨t, hexec, hrl, h.causeIs, h.kindIs, h.rung, h.ready, h.axes, h.cycles.1, h.cycles.2, h.mem.1, h.mem.2, h.tb3, h.master, h.slots,
      hro⟩
  · obtain ⟨t, hexec, h, hrl⟩ := powerOn_resets (State.regsWf_of_allWf hwf) keelRail low st
    exact ⟨t, hexec, hrl, h.tb3, h.causeIs, h.kindIs, h.rung, h.ready, h.axes, h.cycles.1, h.cycles.2, h.mem.1, h.mem.2, h.tows, h.master,
      h.slots⟩
  · rw [exec_railRelease hoff, if_pos ⟨hcause, hcool⟩]
  · have hno : ¬(s.fget F.KEEL_CAUSE.CAUSE = 6 ∧ s.railsCooled = false) := fun ⟨hc, hr⟩ => by
      rcases hgo with h | h
      · exact h hc
      · rw [hr] at h; contradiction
    obtain ⟨hboots, hrail⟩ := State.coldBoot_boots (s := { s with power := { s.power with railsOff := false } })
      (State.regsWf_of_allWf (s := s) hwf) 2 5
    refine ⟨_, (exec_railRelease hoff).trans (congrArg _ (if_neg hno)), ?_, ?_, ?_, fun hs hr => hrail hs rfl hr, ?_, hboots.steer,
      hboots.mem, hboots.lock⟩
    · rw [hboots.power]; rfl
    · rw [hboots.boot]; rfl
    · rw [hboots.boot]; rfl
    · exact hboots.fget (by simp [bootKept])

end Sys2Proof.Machine
end

section
/-!
PROOFS. Steps that leave all of the machine alone but the records of reports, listed register fields, and the components that a
projection blanks.
-/

namespace Sys2Proof.Machine

/-- t is s after reports, writes of the register fields l, and changes of the components that g blanks. -/
structure State.Leaves (g : State → State) (s t : State) (l : List Fld) : Prop where
  form : wordsWf 0 t.regs = true
  kept : fieldsKept s t (l ++ logFields)
  rest : g t.wipe = g s.wipe

namespace State.Leaves

variable {g : State → State} {s t u : State} {l m : List Fld}

theorem of_told (g : State → State) (h : s.Told t l) : State.Leaves g s t l := ⟨h.form, h.kept, congrArg g h.rest⟩

theorem of_notes (g : State → State) (h : s.Notes t l) : State.Leaves g s t l := of_told g h.told

theorem refl (g : State → State) (w : wordsWf 0 s.regs = true) (l : List Fld) : State.Leaves g s s l := ⟨w, fun _ _ => rfl, rfl⟩

theorem trans (h : State.Leaves g s t l) (k : State.Leaves g t u l) : State.Leaves g s u l :=
  ⟨k.form, fun f hf => (k.kept f hf).trans (h.kept f hf), k.rest.trans h.rest⟩

theorem mono (h : State.Leaves g s t l) (hl : ∀ f ∈ l, f ∈ m) : State.Leaves g s t m :=
  ⟨h.form, fun f hf => h.kept f fun x hx => hf x (by
    simp only [List.mem_append] at hx ⊢; exact hx.imp (hl x) id), h.rest⟩

/-- A step that keeps the registers and what g leaves. -/
theorem step (h : State.Leaves g s t l) (hregs : u.regs = t.regs) (hrest : g u.wipe = g t.wipe) : State.Leaves g s u l :=
  h.trans ⟨by rw [hregs]; exact h.form, fun f _ => State.fget_of_regs hregs f, hrest⟩

theorem told (h : State.Leaves g s t l) (k : t.Told u l) : State.Leaves g s u l := h.trans (of_told g k)

theorem notes (h : State.Leaves g s t l) (k : t.Notes u l) : State.Leaves g s u l := h.trans (of_notes g k)

theorem fset (h : State.Leaves g s t l) {f : Fld} (hf : f ∈ l ++ logFields) (fits : f.lo + f.width ≤ 32) (v : Nat) :
    State.Leaves g s (t.fset f v) l := h.notes ((State.Notes.refl h.form l).fset hf fits v)

theorem fadd (h : State.Leaves g s t l) {f : Fld} (hf : f ∈ l ++ logFields) (fits : f.lo + f.width ≤ 32) (n : Nat) :
    State.Leaves g s (t.fadd f n) l := h.fset hf fits _

theorem count (h : State.Leaves g s t l) (a i n : Nat) : State.Leaves g s (t.count a i n) l :=
  h.notes ((State.Notes.refl h.form l).count a i n)

theorem emit (h : State.Leaves g s t l) (x : Sent) : State.Leaves g s (t.emit x) l := h.notes ((State.Notes.refl h.form l).emit x)

theorem msix (h : State.Leaves g s t l) (v : Nat) : State.Leaves g s (t.msix v) l := h.notes ((State.Notes.refl h.form l).msix v)

theorem sticky (h : State.Leaves g s t l) {f : Fld} (hf : f ∈ l ++ logFields) (fits : f.lo + f.width ≤ 32) (v : Option Nat) :
    State.Leaves g s (t.sticky f v) l := h.notes ((State.Notes.refl h.form l).sticky hf fits v)

theorem logEntry (h : State.Leaves g s t l) {sev : Nat} (hsev : sev < 8) (source : Nat) (cls : Cls) (kind : Obj) (reason a0 a1 : Nat) :
    State.Leaves g s (t.logEntry sev source cls kind reason a0 a1) l :=
  h.notes ((State.Notes.refl h.form l).logEntry hsev source cls kind reason a0 a1)

theorem event (h : State.Leaves g s t l) (e : Nat) (b : List Byte) : State.Leaves g s (t.event e b) l :=
  h.told ((State.Told.refl h.form l).event e b)

theorem push (h : State.Leaves g s t l) (q : Nat) (it : Item) : State.Leaves g s (t.push q it) l :=
  h.told ((State.Told.refl h.form l).push q it)

theorem foldl {α : Type} {f : State → α → State} {is : List α} (h : State.Leaves g s t l)
    (hstep : ∀ u : State, wordsWf 0 u.regs = true → ∀ i ∈ is, State.Leaves g u (f u i) l) : State.Leaves g s (is.foldl f t) l :=
  List.foldlRecOn (motive := fun u => State.Leaves g s u l) is f h fun _ hu i hi => hu.trans (hstep _ hu.form i hi)

theorem ite {c : Prop} [Decidable c] (ht : State.Leaves g s t l) (hu : State.Leaves g s u l) :
    State.Leaves g s (if c then t else u) l := by
  split
  · exact ht
  · exact hu

/-- A field apart from those written reads as before. -/
theorem fget (h : State.Leaves g s t l) {f : Fld} (hf : ∀ x ∈ l ++ logFields, Fld.apart x f) : t.fget f = s.fget f := h.kept f hf

/-- What the blanked state shows is as before. -/
theorem get (h : State.Leaves g s t l) {α : Type} (p : State → α) : p (g t.wipe) = p (g s.wipe) := congrArg p h.rest

end State.Leaves

end Sys2Proof.Machine
end

section
/-!
PROOFS. The steps of a boot (R105, R313, R315, R316, R336, R341): memory test and initialisation, array self-test, pounds and the boot
record.
-/

namespace Sys2Proof.Machine

/-! ## Spares taken (R341) -/

/-- The fields of RAS_STATUS that a spare taken writes. -/
def spareFields : List Fld := [F.RAS_STATUS.SPARE_IN, F.RAS_STATUS.EXHAUSTED, F.RAS_STATUS.DEGRADED]

/-- All but the record of exhausted spares. -/
def blankRas (s : State) : State := { s with ras := {} }

/-- A kind of spare is exhausted. -/
def State.exhaust (s : State) (code : Nat) : State :=
  { s with ras := { s.ras with exhausted := if s.ras.exhausted.contains code then s.ras.exhausted else s.ras.exhausted ++ [code] } }

theorem State.Leaves.exhaust {s t : State} {l : List Fld} (h : State.Leaves blankRas s t l) (code : Nat) :
    State.Leaves blankRas s (t.exhaust code) l := h.step rfl rfl

theorem State.spareIn_eq (s : State) (source : Nat) (kind : Obj) (number code : Nat) (last : Bool) :
    s.spareIn source kind number code last =
      (let t := (s.fset F.RAS_STATUS.SPARE_IN 1).logEntry 4 source .component kind 0 number
       if last then (((t.fset F.RAS_STATUS.EXHAUSTED 1).fset F.RAS_STATUS.DEGRADED 1).exhaust code).logEntry 6 source .component kind 1 number
       else t) := rfl

theorem State.spareIn_leaves {s : State} (w : wordsWf 0 s.regs = true) (source : Nat) (kind : Obj) (number code : Nat) (last : Bool) :
    State.Leaves blankRas s (s.spareIn source kind number code last) spareFields ∧
    (s.spareIn source kind number code last).fget F.RAS_STATUS.SPARE_IN = 1 := by
  have hread : (s.fset F.RAS_STATUS.SPARE_IN 1).fget F.RAS_STATUS.SPARE_IN = 1 := State.fget_fset_self _ _ _ (by decide) w
  have hset := (State.Leaves.refl blankRas w spareFields).fset (f := F.RAS_STATUS.SPARE_IN) (by simp [spareFields]) (by decide) 1
  have hrest : State.Leaves blankRas (s.fset F.RAS_STATUS.SPARE_IN 1) (s.spareIn source kind number code last)
      [F.RAS_STATUS.EXHAUSTED, F.RAS_STATUS.DEGRADED] := by
    have hlog := (State.Leaves.refl blankRas hset.form [F.RAS_STATUS.EXHAUSTED, F.RAS_STATUS.DEGRADED]).logEntry (sev := 4) (by decide)
      source .component kind 0 number 0
    have hflags := (hlog.fset (f := F.RAS_STATUS.EXHAUSTED) (by simp) (by decide) 1).fset (f := F.RAS_STATUS.DEGRADED) (by simp)
      (by decide) 1
    rw [State.spareIn_eq]
    exact State.Leaves.ite ((hflags.exhaust code).logEntry (by decide) ..) hlog
  exact ⟨hset.trans (hrest.mono (by simp [spareFields])), (hrest.fget (apart_of_test (by decide))).trans hread⟩

/-! ## Memory (R315, R336) -/

/-- A spare row takes the place of a row. -/
def State.withRow (s : State) (bank row : Nat) : State := { s with mem := { s.mem with rows := s.mem.rows ++ [(bank, row)] } }

theorem State.spareRow_eq {s : State} {bank row : Nat} (hnew : (bank, row) ∉ s.mem.rows) (hleft : s.rowsUsed bank < 64) :
    s.spareRow bank row = ((s.withRow bank row).count 9 2).spareIn 13 .memory bank 1
      (decide (((s.withRow bank row).count 9 2).rowsUsed bank = 64)) := by
  unfold State.spareRow
  rw [if_neg (by simpa using hnew), if_pos hleft]
  rfl

theorem State.spareRow_spec {s : State} (w : wordsWf 0 s.regs = true) {bank row : Nat} (hnew : (bank, row) ∉ s.mem.rows)
    (hleft : s.rowsUsed bank < 64) : (s.spareRow bank row).mem = { s.mem with rows := s.mem.rows ++ [(bank, row)] } ∧
    (s.spareRow bank row).fget F.RAS_STATUS.SPARE_IN = 1 ∧ (s.spareRow bank row).steer = s.steer ∧
    (s.spareRow bank row).boot = s.boot := by
  rw [State.spareRow_eq hnew hleft]
  obtain ⟨hrest, hin⟩ := State.spareIn_leaves (s := (s.withRow bank row).count 9 2) w 13 .memory bank 1
    (decide (((s.withRow bank row).count 9 2).rowsUsed bank = 64))
  exact ⟨hrest.get State.mem, hin, hrest.get State.steer, hrest.get State.boot⟩

/-- Reports do not depend on the boot state. -/
theorem reports_withBoot {s t : State} {l : List Fld} (h : reports s t l) (b : Boot) :
    reports { s with boot := b } { t with boot := b } l := by
  obtain ⟨hframe, hlink, hpair, hkept⟩ := h
  exact ⟨by rw [hframe], hlink, hpair, hkept⟩

theorem memoryTest_row {s : State} (w : wordsWf 0 s.regs = true) {bank row : Nat} (hb : s.booting = true) (hm : s.boot.memoryDone = false)
    (hbank : bank < 1024) (hnew : (bank, row) ∉ s.mem.rows) (hleft : s.rowsUsed bank < 64) :
    ∃ t, exec (.memoryTest [(bank, row)] [] false) s = .next t ∧ t.mem = { s.mem with rows := s.mem.rows ++ [(bank, row)] } ∧
      t.fget F.RAS_STATUS.SPARE_IN = 1 ∧ t.steer = s.steer ∧ t.boot = s.boot := by
  have hrepair : s.repairMemory [(bank, row)] [] = (s.spareRow bank row, false) := by
    simp [State.repairMemory, hbank]
  refine ⟨s.spareRow bank row, congrArg Host.Outcome.next ((if_pos (by simp [hb, hm])).trans ?_), State.spareRow_spec w hnew hleft⟩
  rw [hrepair]
  exact if_neg (by simp)

theorem memoryTest_short {s : State} (w : wordsWf 0 s.regs = true) (hb : s.booting = true) (hm : s.boot.memoryDone = false) :
    ∃ t, exec (.memoryTest [] [] true) s = .next t ∧ t.boot = { s.boot with stopped := true } ∧ reports { s with boot := t.boot } t [] := by
  have hlog := (State.Notes.refl w []).logEntry (sev := 7) (by decide) 13 .fatal .memory 4 0 0
  exact ⟨_, congrArg Host.Outcome.next ((if_pos (by simp [hb, hm])).trans (if_pos (by simp))),
    congrArg (fun b : Boot => { b with stopped := true }) hlog.boot, reports_withBoot hlog.reports _⟩

/-- The machine with its stacks, and at a boot its basin, without data and poison. -/
def State.memoryCleared (s : State) : State :=
  { s with mem := { s.mem with stack := [], basin := if s.booting then [] else s.mem.basin
                               poison := if s.booting then [] else s.mem.poison.filter (fun p => decide (p.1 = 0)) }
           boot := { s.boot with memoryDone := true } }

theorem exec_memoryInitialisation {s : State} (hheld : s.held = false) (hst : s.fget F.KEEL_STATUS.STACK_READY = 0) (hr : s.rung ≤ 2) :
    exec (.memoryInitialisation [] []) s = .next (s.memoryCleared.fset F.KEEL_STATUS.STACK_READY 1) := by
  refine congrArg Host.Outcome.next ((if_neg ?_).trans (if_neg (by simp [State.repairMemory])))
  simp [hheld, State.bit, hst]; omega

theorem memoryInitialisation_clears {s : State} (w : wordsWf 0 s.regs = true) (hheld : s.held = false)
    (hst : s.fget F.KEEL_STATUS.STACK_READY = 0) (hr : s.rung ≤ 2) :
    ∃ t, exec (.memoryInitialisation [] []) s = .next t ∧ t.mem.stack = [] ∧ t.mem.basin = (if s.booting then [] else s.mem.basin) ∧
      (∀ p ∈ t.mem.poison, p.1 = 0 ∧ s.booting = false) ∧ t.fget F.KEEL_STATUS.STACK_READY = 1 ∧
      t = { s with regs := t.regs, mem := t.mem, boot := { s.boot with memoryDone := true } } ∧
      fieldsKept s t [F.KEEL_STATUS.STACK_READY] := by
  have hset := (State.Writes.refl (s := s.memoryCleared) w [F.KEEL_STATUS.STACK_READY]).fset (f := F.KEEL_STATUS.STACK_READY) (by simp)
    (by decide) 1
  refine ⟨_, exec_memoryInitialisation hheld hst hr, rfl, rfl, fun p hp => ?_, State.fget_fset_self s.memoryCleared _ 1 (by decide) w, rfl,
    hset.kept⟩
  have hp' : p ∈ if s.booting then [] else s.mem.poison.filter (fun p => decide (p.1 = 0)) := hp
  cases hb : s.booting with
  | true => simp [hb] at hp'
  | false =>
    rw [hb, if_neg (by decide)] at hp'
    exact ⟨by simpa using (List.mem_filter.mp hp').2, rfl⟩

/-! ## Columns (R105) -/

/-- A column is in the list of those mapped out. -/
def State.withColumn (s : State) (a c : Nat) : State :=
  { s with tows := { s.tows with columns := s.tows.columns ++ [(a, c)],
                                 strikes := s.tows.strikes.filter (fun x => !decide (x.1 = a ∧ x.2.1 = c)) } }

theorem State.mapColumn_spec {s : State} (w : wordsWf 0 s.regs = true) {a : Nat} (c : Nat) (ha : a < 4)
    (hleft : s.fget (F.ARRAY_STATUS.SPARES_USED a) < 8) :
    (s.withColumn a c).Writes (s.mapColumn a c) [F.ARRAY_STATUS.SPARES_USED a, F.RAS_SPARES.COLUMNS] ∧
    (s.mapColumn a c).fget (F.ARRAY_STATUS.SPARES_USED a) = s.fget (F.ARRAY_STATUS.SPARES_USED a) + 1 := by
  have w0 : wordsWf 0 (s.withColumn a c).regs = true := w
  have hfit : (F.ARRAY_STATUS.SPARES_USED a).lo + (F.ARRAY_STATUS.SPARES_USED a).width ≤ 32 := by simp [F.ARRAY_STATUS.SPARES_USED]
  have wa := State.fset_wf _ (F.ARRAY_STATUS.SPARES_USED a) (s.fget (F.ARRAY_STATUS.SPARES_USED a) + 1) w0
  refine ⟨((State.Writes.refl w0 _).fset (by simp) hfit _).fset (by simp) (by decide) _, ?_⟩
  refine (State.fget_fset_apart _ _ _ _ (by decide) wa (.inl ?_)).trans ((State.fget_fset_self _ _ _ hfit w0).trans (Nat.mod_eq_of_lt ?_))
  · simp only [F.RAS_SPARES.COLUMNS, F.ARRAY_STATUS.SPARES_USED]; omega
  · exact (Nat.succ_le_of_lt hleft).trans_lt (by simp [F.ARRAY_STATUS.SPARES_USED])

theorem State.testColumn_eq_spareIn {s : State} {a c : Nat} (hnew : (a, c) ∉ s.tows.columns) (hleft : s.fget (F.ARRAY_STATUS.SPARES_USED a) < 8) :
    s.testColumn a c = ((s.mapColumn a c).count 5 9).spareIn 7 .array a 0
      (decide (((s.mapColumn a c).count 5 9).fget (F.ARRAY_STATUS.SPARES_USED a) = 8)) := by
  unfold State.testColumn
  rw [if_neg (by simpa using hnew), if_pos hleft]

theorem sparesUsed_apart {a : Nat} (ha : a < 4) : ∀ f ∈ spareFields ++ logFields, Fld.apart f (F.ARRAY_STATUS.SPARES_USED a) := by
  have hall : ∀ a < 4, (spareFields ++ logFields).all (fun f => f.isApart (F.ARRAY_STATUS.SPARES_USED a)) = true := by decide
  exact apart_of_test (hall a ha)

section
variable {u : State} (w : wordsWf 0 u.regs = true) {a : Nat} (last : Bool)
include w

theorem State.spareIn_array_keeps : ((u.count 5 9).spareIn 7 .array a 0 last).tows = u.tows ∧
    ((u.count 5 9).spareIn 7 .array a 0 last).steer = u.steer ∧ ((u.count 5 9).spareIn 7 .array a 0 last).mem = u.mem := by
  obtain ⟨hrest, -⟩ := State.spareIn_leaves (s := u.count 5 9) w 7 .array a 0 last
  exact ⟨(hrest.get State.tows).trans rfl, (hrest.get State.steer).trans rfl, (hrest.get State.mem).trans rfl⟩

theorem State.spareIn_array_used (ha : a < 4) :
    ((u.count 5 9).spareIn 7 .array a 0 last).fget (F.ARRAY_STATUS.SPARES_USED a) = u.fget (F.ARRAY_STATUS.SPARES_USED a) := by
  obtain ⟨hrest, -⟩ := State.spareIn_leaves (s := u.count 5 9) w 7 .array a 0 last
  exact (hrest.fget (sparesUsed_apart ha)).trans rfl

end

theorem State.testColumn_spares {s : State} (w : wordsWf 0 s.regs = true) {a c : Nat} (ha : a < 4) (hnew : (a, c) ∉ s.tows.columns)
    (hleft : s.fget (F.ARRAY_STATUS.SPARES_USED a) < 8) : (s.testColumn a c).tows = (s.withColumn a c).tows ∧
    (s.testColumn a c).fget (F.ARRAY_STATUS.SPARES_USED a) = s.fget (F.ARRAY_STATUS.SPARES_USED a) + 1 ∧
    (s.testColumn a c).steer = s.steer ∧ (s.testColumn a c).mem = s.mem := by
  obtain ⟨hw, hread⟩ := State.mapColumn_spec w c ha hleft
  rw [State.testColumn_eq_spareIn hnew hleft]
  generalize s.mapColumn a c = u at hw hread ⊢
  obtain ⟨htows, hsteer, hmem⟩ := State.spareIn_array_keeps (a := a) hw.form (decide ((u.count 5 9).fget (F.ARRAY_STATUS.SPARES_USED a) = 8))
  exact ⟨htows.trans (congrArg State.tows hw.frame :), (State.spareIn_array_used hw.form _ ha).trans hread,
    hsteer.trans (congrArg State.steer hw.frame :), hmem.trans (congrArg State.mem hw.frame :)⟩

theorem State.testColumn_retires {s : State} (w : wordsWf 0 s.regs = true) {a c : Nat} (ha : a < 4) (hnew : (a, c) ∉ s.tows.columns)
    (hleft : 8 ≤ s.fget (F.ARRAY_STATUS.SPARES_USED a)) : (s.testColumn a c).tows = s.tows ∧ (s.testColumn a c).arrayState a = 6 := by
  have hfit : (F.ARRAY_STATUS.STATE a).lo + (F.ARRAY_STATUS.STATE a).width ≤ 32 := by simp [F.ARRAY_STATUS.STATE]
  have heq : s.testColumn a c = (s.setArray a 6).logEntry 6 7 .component .array 1 a := by
    unfold State.testColumn
    rw [if_neg (by simpa using hnew), if_neg (by omega)]
  have hset : s.setArray a 6 = (s.fset (F.ARRAY_STATUS.STATE a) 6).fset (paceField a) 0 := rfl
  have w1 := s.fset_wf (F.ARRAY_STATUS.STATE a) 6 w
  have w2 := State.fset_wf _ (paceField a) 0 w1
  have hlog := (State.Notes.refl w2 []).logEntry (sev := 6) (by decide) 7 .component .array 1 a 0
  have hall : ∀ a < 4, (logFields).all (fun f => f.isApart (F.ARRAY_STATUS.STATE a)) = true := by decide
  rw [heq, hset]
  refine ⟨hlog.tows, (hlog.fget (apart_of_test (hall a ha))).trans ?_⟩
  refine (State.fget_fset_apart _ _ _ 0 ?_ w1 (.inl ?_)).trans (State.fget_fset_self _ _ 6 hfit w)
  · simp only [paceField]; omega
  · simp only [paceField, F.ARRAY_STATUS.STATE]; omega

theorem exec_arraySelfTest {s : State} (hdue : s.tows.selfTestDue = true) (hheld : s.held = false) {a : Nat} (ha : a < 4) (c : Nat) :
    exec (.arraySelfTest [(a, c)]) s =
      .next { s.testColumn a c with tows := { (s.testColumn a c).tows with selfTestDue := false } } := by
  refine congrArg Host.Outcome.next ((if_pos (by simp [hdue, hheld])).trans ?_)
  simp only [List.foldl_cons, List.foldl_nil, ha, if_true]

/-! ## Pounds and cores (R313, R316) -/

/-- t is s after steps of a pound's load: of the pounds' states no other than n's changes, and memory, tows, boot and lock state stay. -/
structure State.Loads (n : Nat) (s t : State) : Prop where
  form : wordsWf 0 t.regs = true
  others : ∀ m, m < 15 → m ≠ n → t.poundState m = s.poundState m
  mem : t.mem = s.mem
  tows : t.tows = s.tows
  boot : t.boot = s.boot
  lock : t.lock = s.lock

namespace State.Loads

variable {n : Nat} {s t u : State}

theorem refl (n : Nat) (w : wordsWf 0 s.regs = true) : State.Loads n s s := ⟨w, fun _ _ _ => rfl, rfl, rfl, rfl, rfl⟩

theorem trans (h : State.Loads n s t) (k : State.Loads n t u) : State.Loads n s u :=
  ⟨k.form, fun m hm hne => (k.others m hm hne).trans (h.others m hm hne), k.mem.trans h.mem, k.tows.trans h.tows, k.boot.trans h.boot,
    k.lock.trans h.lock⟩

theorem of_writes {l : List Fld} (h : s.Writes t l) (hl : ∀ m, m < 15 → m ≠ n → ∀ f ∈ l, Fld.apart f (F.POUND_STATUS.STATE m)) :
    State.Loads n s t :=
  ⟨h.form, fun m hm hne => h.fget (hl m hm hne), (congrArg State.mem h.frame :), (congrArg State.tows h.frame :),
    (congrArg State.boot h.frame :), (congrArg State.lock h.frame :)⟩

theorem ite {c : Prop} [Decidable c] (ht : State.Loads n s t) (hu : State.Loads n s u) : State.Loads n s (if c then t else u) := by
  split
  · exact ht
  · exact hu

end State.Loads

theorem poundState_imageFree : ∀ m < 15, (F.POUND_STATUS.STATE m).imageFree = true := by decide

theorem State.imageAll_wf {s : State} (w : wordsWf 0 s.regs = true) (own : Nat → Bool) : wordsWf 0 (s.imageAll own).regs = true :=
  putImage_wf _ _ _ _ (mapWords_wf _ _ 0 w)

/-- A field apart from every field coded I of its word takes no image value when a pound is loaded. -/
theorem State.fget_imageAll_free {s : State} (w : wordsWf 0 s.regs = true) {f : Fld} (h : f.imageFree = true) (own : Nat → Bool) :
    (s.imageAll own).fget f = s.fget f := by
  have hrows : ∀ r ∈ rowsOf f.off, r.img = true → true = true → r.clear f = true := fun r hr himg _ => by
    simpa [himg] using List.all_eq_true.mp h r hr
  have hmap : ∀ k, (if own k then imageInto (rowsOf k) (fun _ => true) (resetWord k) (resetWord k) else resetWord k) = resetWord k := by
    intro k; split
    · exact imageInto_resetWord _ k
    · rfl
  refine (fldOf_putImage (p := fun _ => true) (fun _ => hrows) _ _ (mapWords_wf _ _ 0 w)).trans ?_
  rw [wordGet_mapWords (f := fun k v => if own k then imageInto (rowsOf k) (fun _ => true) (resetWord k) v else v) hmap _ _ 0 w]
  split
  · exact fldOf_imageInto hrows _ _
  · rfl

section
variable {s : State} (w : wordsWf 0 s.regs = true)
include w

theorem State.imageAll_loads (n : Nat) (own : Nat → Bool) : State.Loads n s (s.imageAll own) :=
  ⟨State.imageAll_wf w own, fun m hm _ => State.fget_imageAll_free w (poundState_imageFree m hm) own, rfl, rfl, rfl, rfl⟩

theorem State.imageMap_loads (n reach : Nat) : State.Loads n s (s.imageMap reach) := ⟨w, fun _ _ _ => rfl, rfl, rfl, rfl, rfl⟩

theorem State.imageClasses_loads (n reach : Nat) : State.Loads n s (s.imageClasses reach) :=
  List.foldlRecOn (motive := fun t => State.Loads n s t) _ _ (State.Loads.refl n w) fun _ ht _ _ =>
    ht.trans ⟨ht.form, fun _ _ _ => rfl, rfl, rfl, rfl, rfl⟩

theorem State.poundUp_loads (n : Nat) : State.Loads n s (s.poundUp n) ∧ (s.poundUp n).poundState n = 2 := by
  have hfit : (F.POUND_STATUS.STATE n).lo + (F.POUND_STATUS.STATE n).width ≤ 32 := by simp [F.POUND_STATUS.STATE]
  have hset : s.Notes (s.setPound n 2) [F.POUND_STATUS.STATE n] ∧ (s.setPound n 2).poundState n = 2 := by
    unfold State.setPound
    split
    · next h => exact ⟨State.Notes.refl w _, h⟩
    · have hf := (State.Notes.refl w [F.POUND_STATUS.STATE n]).fset (f := F.POUND_STATUS.STATE n) (by simp) hfit 2
      refine ⟨hf.msix 6, ?_⟩
      exact (State.fget_of_regs (by simp) _).trans (State.fget_fset_self _ _ 2 hfit w)
  have hload := (State.Writes.refl hset.1.form [F.POUND_STATUS.LOADS n]).fadd (f := F.POUND_STATUS.LOADS n) (by simp)
    (by simp [F.POUND_STATUS.LOADS]) 1
  have hloads : State.Loads n (s.setPound n 2) (s.poundUp n) := .of_writes hload fun m _ hne f hf => by
    obtain rfl := List.mem_singleton.mp hf
    exact .inl (by simp only [F.POUND_STATUS.LOADS, F.POUND_STATUS.STATE]; omega)
  refine ⟨State.Loads.trans ⟨hset.1.form, fun m hm hne => ?_, hset.1.mem, hset.1.tows, hset.1.boot, hset.1.lock⟩ hloads, ?_⟩
  · refine hset.1.fget fun f hf => ?_
    rcases List.mem_append.mp hf with hf | hf
    · obtain rfl := List.mem_singleton.mp hf
      exact .inl (by simp only [F.POUND_STATUS.STATE]; omega)
    · have hall : ∀ m < 15, logFields.all (fun f => f.isApart (F.POUND_STATUS.STATE m)) = true := by decide
      exact apart_of_test (hall m hm) f hf
  · refine (hload.fget fun f hf => ?_).trans hset.2
    obtain rfl := List.mem_singleton.mp hf
    exact .inr (.inr (by simp [F.POUND_STATUS.LOADS, F.POUND_STATUS.STATE]))

theorem State.bootPound_loads (n : Nat) : State.Loads n s (s.bootPound n) ∧ (s.bootPound n).poundState n = 2 := by
  have himage := State.imageAll_loads w n (fun off => decide (ownerOf off = n))
  have hmaps : State.Loads n s (if n < 9 then ((s.imageAll (fun off => ownerOf off = n)).imageMap n).imageClasses n
      else s.imageAll (fun off => ownerOf off = n)) :=
    .ite (himage.trans ((State.imageMap_loads himage.form n n).trans (State.imageClasses_loads (State.imageMap_loads himage.form n n).form n n)))
      himage
  obtain ⟨hup, hstate⟩ := State.poundUp_loads hmaps.form n
  exact ⟨hmaps.trans hup, hstate⟩

theorem State.arrayUp_loads {k : Nat} (hk : k < 4) : State.Loads 15 s (s.arrayUp k) := by
  unfold State.arrayUp
  split
  · exact State.Loads.refl 15 w
  · have hset : s.Writes (s.setArray k 1) [F.ARRAY_STATUS.STATE k] :=
      (State.Writes.refl w _).fset (by simp) (by simp [F.ARRAY_STATUS.STATE]) 1
    refine .of_writes hset fun m _ _ f hf => ?_
    obtain rfl := List.mem_singleton.mp hf
    exact .inl (by simp only [F.ARRAY_STATUS.STATE, F.POUND_STATUS.STATE]; omega)

theorem State.auctionUp_loads : State.Loads 15 s s.auctionUp := by
  refine .of_writes ((State.Writes.refl w [F.AUC_STATUS.IN_SERVICE]).fset (f := F.AUC_STATUS.IN_SERVICE) (by simp) (by decide) _)
    fun m _ _ f hf => ?_
  obtain rfl := List.mem_singleton.mp hf
  exact .inl (by simp only [F.AUC_STATUS.IN_SERVICE, F.POUND_STATUS.STATE]; omega)

end

/-- The counters of the boot record, with the standing entry's circuits (R316). -/
def State.countersTaken (s : State) : State :=
  { s with boot := { s.boot with coresUp := true }
           lock := { s.lock with lastId := max s.lock.lastId s.boot.record.lastId
                                 lastPlan := max s.lock.lastPlan s.boot.record.lastPlan
                                 seq := max s.lock.seq s.boot.record.seq
                                 lib := spSet {} s.lock.lib 0 { s.plan 0 with peer := s.boot.record.peer } } }

/-- The settle model of the image. -/
def State.settleTaken (s : State) : State :=
  match s.image with | some i => { s with map := { s.map with settle := i.settle } } | none => s

theorem State.startCores_eq (s : State) : s.startCores = ((s.countersTaken.fset F.LOCK_EPOCH.EPOCH s.boot.record.epoch).settleTaken).takePlan :=
  rfl

theorem State.settleTaken_loads {s : State} (w : wordsWf 0 s.regs = true) : State.Loads 15 s s.settleTaken := by
  unfold State.settleTaken
  split <;> exact ⟨w, fun _ _ _ => rfl, rfl, rfl, rfl, rfl⟩

/-- The machine with another fabric state. -/
def State.withFabric (s : State) (x : Fabric) : State := { s with fabric := x }

theorem State.takePlan_loads {s : State} (w : wordsWf 0 s.regs = true) : State.Loads 15 s s.takePlan := by
  have hplan : ∀ x arg, State.Loads 15 s (s.withFabric x) ∧
      State.Loads 15 s ((s.withFabric x).logEntry 6 5 .component .module 0 arg) := fun x arg => by
    have hlog := (State.Notes.refl (s := s.withFabric x) w []).logEntry (sev := 6) (by decide) 5 .component .module 0 arg 0
    have hall : ∀ m < 15, logFields.all (fun f => f.isApart (F.POUND_STATUS.STATE m)) = true := by decide
    exact ⟨⟨w, fun _ _ _ => rfl, rfl, rfl, rfl, rfl⟩, hlog.form, fun m hm _ => hlog.fget (apart_of_test (hall m hm)), hlog.mem, hlog.tows,
      hlog.boot, hlog.lock⟩
  unfold State.takePlan
  split
  · exact State.Loads.refl 15 w
  · dsimp only
    split
    · exact (hplan _ _).2
    · exact (hplan _ 0).1

theorem State.startCores_spec {s : State} (w : wordsWf 0 s.regs = true) : s.startCores.boot.coresUp = true ∧
    s.startCores.lock.lastId = max s.lock.lastId s.boot.record.lastId ∧ s.startCores.lock.seq = max s.lock.seq s.boot.record.seq ∧
    s.startCores.mem = s.mem ∧ s.startCores.tows = s.tows ∧ ∀ m, m < 15 → s.startCores.poundState m = s.poundState m := by
  have hepoch := (State.Writes.refl (s := s.countersTaken) w [F.LOCK_EPOCH.EPOCH]).fset (f := F.LOCK_EPOCH.EPOCH) (by simp) (by decide)
    s.boot.record.epoch
  have hstart : State.Loads 15 s.countersTaken s.startCores := by
    rw [State.startCores_eq]
    have h1 : State.Loads 15 s.countersTaken (s.countersTaken.fset F.LOCK_EPOCH.EPOCH s.boot.record.epoch) :=
      .of_writes hepoch fun m _ _ f hf => by
        obtain rfl := List.mem_singleton.mp hf
        exact .inl (by simp only [F.LOCK_EPOCH.EPOCH, F.POUND_STATUS.STATE]; omega)
    have h2 := h1.trans (State.settleTaken_loads h1.form)
    exact h2.trans (State.takePlan_loads h2.form)
  exact ⟨by rw [hstart.boot]; rfl, by rw [hstart.lock]; rfl, by rw [hstart.lock]; rfl, hstart.mem, hstart.tows,
    fun m hm => hstart.others m hm (by omega)⟩

/-- The load of pound n at a boot, before the cores start with the last one. -/
def State.loaded (s : State) (n : Nat) : State :=
  let s := if n = 14 then s.imageAll (fun off => decide (ownerOf off = 16)) else s
  let s := s.bootPound n
  if 9 ≤ n ∧ n ≤ 12 then s.arrayUp (n - 9) else s

theorem State.loaded_loads {s : State} (w : wordsWf 0 s.regs = true) {n : Nat} (hn : n < 15) :
    State.Loads n s (s.loaded n) ∧ (s.loaded n).poundState n = 2 := by
  have hfixed : State.Loads n s (if n = 14 then s.imageAll (fun off => decide (ownerOf off = 16)) else s) :=
    .ite (State.imageAll_loads w n _) (State.Loads.refl n w)
  obtain ⟨hpound, hstate⟩ := State.bootPound_loads hfixed.form n
  unfold State.loaded
  dsimp only
  split
  · next hk =>
    have harray := State.arrayUp_loads hpound.form (k := n - 9) (by omega)
    exact ⟨hfixed.trans (hpound.trans ⟨harray.form, fun m hm _ => harray.others m hm (by omega), harray.mem, harray.tows, harray.boot,
      harray.lock⟩), (harray.others n hn (by omega)).trans hstate⟩
  · exact ⟨hfixed.trans hpound, hstate⟩

theorem exec_poundLoad {s : State} {n : Nat} (hn : n < 15) (hb : s.booting = true) (hm : s.boot.memoryDone = true)
    (h0 : s.poundState n = 0) (hbefore : ∀ m ∈ bootOrder.takeWhile (fun m => decide (m ≠ n)), s.poundState m = 2) :
    exec (.poundLoad n) s = .next (if n = 13 then ((s.loaded n).auctionUp).startCores else s.loaded n) := by
  have hwf : Instr.wf (.poundLoad n) = true := by simpa [Instr.wf] using hn
  have hall : (bootOrder.takeWhile (fun m => decide (m ≠ n))).all (fun m => decide (s.poundState m = 2)) = true :=
    List.all_eq_true.mpr fun m hm => by simpa using hbefore m hm
  show ifOk _ _ = _
  rw [ifOk, hwf]
  exact congrArg Host.Outcome.next (if_pos (by simp only [hb, hm, h0, hall]; decide))

theorem poundLoad_loads {s : State} (w : wordsWf 0 s.regs = true) {n : Nat} (hn : n < 15) (hb : s.booting = true)
    (hm : s.boot.memoryDone = true) (h0 : s.poundState n = 0)
    (hbefore : ∀ m ∈ bootOrder.takeWhile (fun m => decide (m ≠ n)), s.poundState m = 2) :
    ∃ t, exec (.poundLoad n) s = .next t ∧ t.poundState n = 2 ∧ (∀ m, m < 15 → m ≠ n → t.poundState m = s.poundState m) ∧
      (n ≠ 13 → t.boot.coresUp = false) ∧
      (n = 13 → t.boot.coresUp = true ∧ t.lock.lastId = max s.lock.lastId s.boot.record.lastId ∧
        t.lock.seq = max s.lock.seq s.boot.record.seq) ∧ t.mem = s.mem ∧ t.tows = s.tows := by
  obtain ⟨hload, hstate⟩ := State.loaded_loads w hn
  refine ⟨_, exec_poundLoad hn hb hm h0 hbefore, ?_⟩
  split
  · next h13 =>
    have hauc := State.auctionUp_loads hload.form
    obtain ⟨hcores, hid, hseq, hmem, htows, hpounds⟩ := State.startCores_spec hauc.form
    rw [hauc.lock, hload.lock, hauc.boot, hload.boot] at hid hseq
    refine ⟨(hpounds n hn).trans ((hauc.others n hn (by omega)).trans hstate), fun m hm hne => ?_, fun h => absurd h13 h,
      fun _ => ⟨hcores, hid, hseq⟩, hmem.trans (hauc.mem.trans hload.mem), htows.trans (hauc.tows.trans hload.tows)⟩
    exact (hpounds m hm).trans ((hauc.others m hm (by omega)).trans (hload.others m hm hne))
  · next h13 =>
    refine ⟨hstate, hload.others, fun _ => ?_, fun h => absurd h h13, hload.mem, hload.tows⟩
    rw [hload.boot]
    simp only [State.booting, Bool.and_eq_true, Bool.not_eq_true'] at hb
    exact hb.2

/-- Settles O13: spares are taken one by one, and each pound's load changes no other pound, no memory and no tow. -/
theorem bootSteps : Obligations.BootSteps := by
  refine ⟨fun s bank row hwf hb hm hbank hnew hleft => memoryTest_row (State.regsWf_of_allWf hwf) hb hm hbank hnew hleft,
    fun s hwf hb hm => memoryTest_short (State.regsWf_of_allWf hwf) hb hm,
    fun s hwf hheld hst hr => memoryInitialisation_clears (State.regsWf_of_allWf hwf) hheld hst hr,
    fun s a c hwf hdue hheld ha hnew => ⟨fun hleft => ?_, fun hleft => ?_⟩,
    fun s n hwf hn hb hm h0 hbefore => poundLoad_loads (State.regsWf_of_allWf hwf) hn hb hm h0 hbefore,
    fun s hne hr hheld hdue => ?_⟩
  · obtain ⟨htows, hused, hsteer, hmem⟩ := State.testColumn_spares (State.regsWf_of_allWf hwf) ha hnew hleft
    exact ⟨_, exec_arraySelfTest hdue hheld ha c, by rw [htows]; rfl, rfl, hused, hsteer, hmem⟩
  · obtain ⟨htows, hstate⟩ := State.testColumn_retires (State.regsWf_of_allWf hwf) ha hnew hleft
    exact ⟨_, exec_arraySelfTest hdue hheld ha c, hstate, by rw [htows]⟩
  · refine congrArg Host.Outcome.next (if_pos ⟨hne, ?_, hr, by simp [hheld]⟩)
    rcases hdue with h | h | ⟨w, hw, hle⟩
    · simp [h]
    · simp [h]
    · simp [hw, hle]

end Sys2Proof.Machine
end

section
/-!
PROOFS. Queues that keep serving: what events and notes of an operation leave of a command's completion queue, so that the command is
still answered after them (R274, R287).
-/

namespace Sys2Proof.Machine

/-- What decides whether a queue takes an item, and where completions of its commands go. -/
def Queue.service (q : Queue) : Bool × Bool × Bool × Nat := (q.en, q.dir, q.broken, q.cq)

/-- The queues of t serve as those of s do, and t discards the completions that s discards. -/
structure State.Serves (s t : State) : Prop where
  form : spWf {} 0 t.link.queues = true
  service : ∀ q, (t.queue q).service = (s.queue q).service
  discard : t.link.flrDiscard = s.link.flrDiscard

namespace State.Serves

variable {s t u : State}

theorem refl (w : spWf {} 0 s.link.queues = true) : s.Serves s := ⟨w, fun _ => rfl, rfl⟩

theorem trans (h : s.Serves t) (k : t.Serves u) : s.Serves u :=
  ⟨k.form, fun q => (k.service q).trans (h.service q), k.discard.trans h.discard⟩

/-- A step that keeps the queues and the list of completions to discard. -/
theorem keep (h : s.Serves t) (hq : u.link.queues = t.link.queues) (hd : u.link.flrDiscard = t.link.flrDiscard) : s.Serves u :=
  h.trans ⟨by rw [hq]; exact h.form, fun q => by rw [State.queue_eq_of_queues hq], hd⟩

theorem link (h : s.Serves t) (hl : u.link = t.link) : s.Serves u := h.keep (by rw [hl]) (by rw [hl])

theorem notes {l : List Fld} (h : s.Serves t) (k : t.Notes u l) : s.Serves u := h.keep k.queues k.flrDiscard

/-- A change of a queue that keeps its service. -/
theorem modQueue (h : s.Serves t) (q : Nat) {f : Queue → Queue} (hf : ∀ d, (f d).service = d.service) : s.Serves (t.modQueue q f) :=
  h.trans {
    form := spSet_wf _ _ q _ 0 (Nat.zero_le q) h.form
    discard := rfl
    service j := by
      by_cases e : j = q
      · subst e; rw [State.queue_modQueue_self h.form, hf]
      · rw [State.queue_modQueue_ne _ e] }

theorem count (h : s.Serves t) (g i n : Nat) : s.Serves (t.count g i n) := h.link rfl

theorem ite {c : Prop} [Decidable c] (ht : s.Serves t) (hu : s.Serves u) : s.Serves (if c then t else u) := by
  split
  · exact ht
  · exact hu

theorem push (h : s.Serves t) (q : Nat) (it : Item) : s.Serves (t.push q it) := by
  unfold State.push
  dsimp only
  split
  · exact h
  split
  · exact (h.modQueue q (by exact fun _ => rfl)).count 11 2 1
  split
  · have hdrop : s.Serves (t.modQueue q (fun d => d.drop it t.t3ns)) := h.modQueue q fun d => by
      unfold Queue.drop; dsimp only; split <;> rfl
    exact ite ((hdrop.count 11 2 1).count 11 3 1) (hdrop.count 11 2 1)
  · exact (h.modQueue q (by exact fun _ => rfl)).count 11 0 1

theorem event (h : s.Serves t) (e : Nat) (b : List Byte) : s.Serves (t.event e b) := by
  unfold State.event
  exact ite (h.push _ _) h

theorem spaceEvent (h : s.Serves t) (p c : Nat) (b : List Byte) : s.Serves (t.spaceEvent p c b) := by
  unfold State.spaceEvent
  split
  · exact h.push _ _
  · exact h

/-- A state that keeps everything but the registers, the log and the counters of a logbook entry. -/
theorem logEntry (h : s.Serves t) (sev source : Nat) (cls : Cls) (kind : Obj) (reason a0 a1 : Nat) :
    s.Serves (t.logEntry sev source cls kind reason a0 a1) :=
  h.keep (queues_of_linkRest (t.logEntry_linkRest sev source cls kind reason a0 a1))
    (flrDiscard_of_linkRest (t.logEntry_linkRest sev source cls kind reason a0 a1))

theorem sticky (h : s.Serves t) (f : Fld) (v : Option Nat) : s.Serves (t.sticky f v) :=
  h.keep (queues_of_linkRest (t.sticky_linkRest f v)) (flrDiscard_of_linkRest (t.sticky_linkRest f v))

theorem foldl {α : Type} {f : State → α → State} {is : List α} (h : s.Serves t)
    (step : ∀ u : State, s.Serves u → ∀ i ∈ is, s.Serves (f u i)) : s.Serves (is.foldl f t) :=
  List.foldlRecOn (motive := fun u => s.Serves u) is f h fun u hu i hi => step u hu i hi

theorem queue (h : s.Serves t) (q : Nat) : (t.queue q).en = (s.queue q).en ∧ (t.queue q).dir = (s.queue q).dir ∧
    (t.queue q).broken = (s.queue q).broken ∧ (t.queue q).cq = (s.queue q).cq := by
  have hs := h.service q
  simp only [Queue.service, Prod.mk.injEq] at hs
  exact hs

theorem answers (h : s.Serves t) {src : Src} (hcq : t.cqOf src = s.cqOf src) (ha : s.Answers src) : t.Answers src := by
  obtain ⟨en, dir, sound, -⟩ := h.queue (s.cqOf src)
  exact ⟨by rw [hcq, en, ha.en], by rw [hcq, dir, ha.dir], by rw [hcq, sound, ha.sound], by rw [h.discard]; exact ha.kept⟩

/-- A command of a host queue completes where it would have. -/
theorem cqOf_host (h : s.Serves t) {src : Src} (hsrc : src.queue ≠ 0xFFFF) : t.cqOf src = s.cqOf src := by
  obtain ⟨-, -, -, cq⟩ := h.queue src.queue
  rw [State.cqOf, if_neg hsrc, cq, State.cqOf, if_neg hsrc]

theorem cqOf (h : s.Serves t) (src : Src) (hs : t.tows.spaces = s.tows.spaces)
    (hp : t.fget F.AUC_CTRL.POLICY_SPACE = s.fget F.AUC_CTRL.POLICY_SPACE) : t.cqOf src = s.cqOf src := by
  by_cases hsrc : src.queue = 0xFFFF
  · simp only [State.cqOf, if_pos hsrc, State.space, hs, hp]
  · exact h.cqOf_host hsrc

end State.Serves

theorem State.accepts.answers {s : State} {op : Nat} {src : Src} (h : s.accepts op src) : s.Answers src :=
  ⟨h.2.2.2.1, h.2.2.2.2.1, h.2.2.2.2.2.1, h.2.2.2.2.2.2⟩

/-- A command that was accepted is answered in its completion queue after any effect that leaves the queues serving. -/
theorem State.accepts.served {s t : State} {op : Nat} {src : Src} (h : s.accepts op src) (k : s.Serves t) (hcq : t.cqOf src = s.cqOf src)
    (op' : Nat) (st : Status) (reason detail : Nat) (result cells : List Byte) :
    answered s (t.complete op' src st reason detail result cells) op' src st reason detail result cells := by
  rw [answered, ← hcq]
  exact State.complete_answered k.form (k.answers hcq h.answers) ..

theorem State.accepts.served_reports {s t : State} {op : Nat} {src : Src} (h : s.accepts op src) (k : s.Serves t)
    (hcq : t.cqOf src = s.cqOf src) (hr : wordsWf 0 t.regs = true) (op' : Nat) (st : Status) (reason detail : Nat)
    (result cells : List Byte) (l : List Fld) : reports t (t.complete op' src st reason detail result cells) l :=
  State.complete_reports k.form (k.answers hcq h.answers) hr ..

end Sys2Proof.Machine
end

section
/-!
PROOFS. Axes: what reading an axis gives after a change of one axis, and what reading a field of AXIS_FLAGS gives after a write of one
(R27, R57).
-/

namespace Sys2Proof.Machine

/-! ## Fields of the flags word -/

theorem Axis.fget_fset_self (x : Axis) {f : Fld} (fits : f.lo + f.width ≤ 32) (v : Nat) : (x.fset f v).fget f = v % 2 ^ f.width :=
  fldOf_fldPut_self x.flags f v fits

theorem Axis.fget_fset_apart (x : Axis) {f g : Fld} (fits : f.lo + f.width ≤ 32) (h : f.lo + f.width ≤ g.lo ∨ g.lo + g.width ≤ f.lo)
    (v : Nat) : (x.fset f v).fget g = x.fget g :=
  fldOf_fldPut_apart x.flags f g v fits h.symm

@[simp] theorem Axis.src_setSrc (x : Axis) (v : Nat) : (x.setSrc v).src = v % 4 := x.fget_fset_self (by decide) v

@[simp] theorem Axis.st_setSt (x : Axis) (v : Nat) : (x.setSt v).st = v % 8 := x.fget_fset_self (by decide) v

@[simp] theorem Axis.mode_setMode (x : Axis) (v : Nat) : (x.setMode v).mode = v % 4 := x.fget_fset_self (by decide) v

@[simp] theorem Axis.st_setSrc (x : Axis) (v : Nat) : (x.setSrc v).st = x.st := x.fget_fset_apart (by decide) (by decide) v

@[simp] theorem Axis.mode_setSrc (x : Axis) (v : Nat) : (x.setSrc v).mode = x.mode := x.fget_fset_apart (by decide) (by decide) v

@[simp] theorem Axis.src_setSt (x : Axis) (v : Nat) : (x.setSt v).src = x.src := x.fget_fset_apart (by decide) (by decide) v

@[simp] theorem Axis.mode_setSt (x : Axis) (v : Nat) : (x.setSt v).mode = x.mode := x.fget_fset_apart (by decide) (by decide) v

@[simp] theorem Axis.st_setMode (x : Axis) (v : Nat) : (x.setMode v).st = x.st := x.fget_fset_apart (by decide) (by decide) v

@[simp] theorem Axis.src_setMode (x : Axis) (v : Nat) : (x.setMode v).src = x.src := x.fget_fset_apart (by decide) (by decide) v

/-! ## One axis changed -/

theorem State.axesWf_of_allWf {s : State} (h : s.allWf = true) : spWf {} 0 s.steer.axes = true := by
  simp only [State.allWf, State.controlWf, Bool.and_eq_true] at h
  tauto

theorem State.modAxis_axesWf {s : State} (w : spWf {} 0 s.steer.axes = true) (a : Nat) (f : Axis → Axis) :
    spWf {} 0 (s.modAxis a f).steer.axes = true :=
  spSet_wf _ _ a _ 0 (Nat.zero_le a) w

theorem State.axis_modAxis_self {s : State} (w : spWf {} 0 s.steer.axes = true) (a : Nat) (f : Axis → Axis) :
    (s.modAxis a f).axis a = f (s.axis a) :=
  spGet_spSet_self _ _ a _ 0 w

theorem State.axis_modAxis_ne (s : State) {a b : Nat} (h : b ≠ a) (f : Axis → Axis) : (s.modAxis a f).axis b = s.axis b :=
  spGet_spSet_ne _ _ a b _ h

theorem State.modAll_axesWf {s : State} (w : spWf {} 0 s.steer.axes = true) (a : Nat) (f : Axis → Axis) :
    spWf {} 0 (s.modAll a f).steer.axes = true :=
  spSet_wf _ _ a _ 0 (Nat.zero_le a) w

theorem State.axis_modAll_self {s : State} (w : spWf {} 0 s.steer.axes = true) (a : Nat) (f : Axis → Axis) :
    (s.modAll a f).axis a = f (s.axis a) :=
  spGet_spSet_self _ _ a _ 0 w

theorem State.axis_modAll_ne (s : State) {a b : Nat} (h : b ≠ a) (f : Axis → Axis) : (s.modAll a f).axis b = s.axis b :=
  spGet_spSet_ne _ _ a b _ h

theorem State.modAll_frame (s : State) (a : Nat) (f : Axis → Axis) : s.modAll a f = { s with steer := (s.modAll a f).steer } := rfl

/-- Reading an axis where the axes are the same. -/
theorem State.axis_congr {s t : State} (h : t.steer = s.steer) (a : Nat) : t.axis a = s.axis a := by
  rw [State.axis, State.axis, h]

end Sys2Proof.Machine
end

section
/-!
PROOFS. The service inputs and the heads' temperatures (R43, R44, R61): what a route and its end leave of the axes and ports, and what
the rereading of open-loop axes leaves of the bins.
-/

namespace Sys2Proof.Machine

/-! ## Ports and the link -/

theorem State.Serves.sendJournal {s t : State} (h : s.Serves t) (it : JItem) : s.Serves (t.sendJournal it) := h.link (by simp)

theorem State.Serves.setPort {s t : State} (h : s.Serves t) (p st reason : Nat) : s.Serves (t.setPort p st reason) := by
  unfold State.setPort
  dsimp only
  refine ite h ?_
  refine logEntry (event (sendJournal (sendJournal ?_ _) _) _ _) ..
  exact h.link rfl

@[simp] theorem State.setPort_steer (s : State) (p st reason : Nat) : (s.setPort p st reason).steer = s.steer := by
  unfold State.setPort; dsimp only; split <;> simp [State.modPort]

@[simp] theorem State.setPort_mem (s : State) (p st reason : Nat) : (s.setPort p st reason).mem = s.mem := by
  unfold State.setPort; dsimp only; split <;> simp [State.modPort]

/-! ## The end of a route (R43) -/

/-- t is s after routes of the service inputs may have ended. -/
structure State.Unroutes (s t : State) : Prop where
  axes : spWf {} 0 t.steer.axes = true
  ports : spWf {} 0 t.fabric.ports = true
  serves : s.Serves t
  mem : t.mem = s.mem
  target : ∀ b, (t.axis b).target = (s.axis b).target
  other : ∀ b, s.steer.ainAxis ≠ some b → s.steer.stepAxis ≠ some b → t.axis b = s.axis b
  ain : ∀ b, t.steer.ainAxis = some b → s.steer.ainAxis = some b
  step : ∀ b, t.steer.stepAxis = some b → s.steer.stepAxis = some b

theorem State.Unroutes.trans {s t u : State} (h : s.Unroutes t) (k : t.Unroutes u) : s.Unroutes u where
  axes := k.axes
  ports := k.ports
  serves := h.serves.trans k.serves
  mem := k.mem.trans h.mem
  target b := (k.target b).trans (h.target b)
  other b hain hstep := (k.other b (fun e => hain (h.ain b e)) (fun e => hstep (h.step b e))).trans (h.other b hain hstep)
  ain b e := h.ain b (k.ain b e)
  step b e := h.step b (k.step b e)

theorem State.Unroutes.refl {s : State} (wA : spWf {} 0 s.steer.axes = true) (wP : spWf {} 0 s.fabric.ports = true)
    (wQ : spWf {} 0 s.link.queues = true) : s.Unroutes s :=
  ⟨wA, wP, .refl wQ, rfl, fun _ => rfl, fun _ _ _ => rfl, fun _ => id, fun _ => id⟩

/-- The end of a route, as far as the steering goes. -/
def State.release (s : State) (input a : Nat) : State := (s.setRoute input none).modAll a (fun x => x.setSrc 0)

@[simp] theorem State.setRoute_axes (s : State) (input : Nat) (a : Option Nat) : (s.setRoute input a).steer.axes = s.steer.axes := by
  unfold State.setRoute; split <;> rfl

@[simp] theorem State.setRoute_fabric (s : State) (input : Nat) (a : Option Nat) : (s.setRoute input a).fabric = s.fabric := by
  unfold State.setRoute; split <;> rfl

@[simp] theorem State.setRoute_link (s : State) (input : Nat) (a : Option Nat) : (s.setRoute input a).link = s.link := by
  unfold State.setRoute; split <;> rfl

@[simp] theorem State.setRoute_mem (s : State) (input : Nat) (a : Option Nat) : (s.setRoute input a).mem = s.mem := by
  unfold State.setRoute; split <;> rfl

theorem State.setRoute_axis (s : State) (input : Nat) (a : Option Nat) (b : Nat) : (s.setRoute input a).axis b = s.axis b := by
  rw [State.axis, State.setRoute_axes, State.axis]

@[simp] theorem State.modAll_fabric (s : State) (a : Nat) (f : Axis → Axis) : (s.modAll a f).fabric = s.fabric := rfl
@[simp] theorem State.modAll_link (s : State) (a : Nat) (f : Axis → Axis) : (s.modAll a f).link = s.link := rfl
@[simp] theorem State.modAll_mem (s : State) (a : Nat) (f : Axis → Axis) : (s.modAll a f).mem = s.mem := rfl
@[simp] theorem State.modAll_ainAxis (s : State) (a : Nat) (f : Axis → Axis) : (s.modAll a f).steer.ainAxis = s.steer.ainAxis := rfl
@[simp] theorem State.modAll_stepAxis (s : State) (a : Nat) (f : Axis → Axis) : (s.modAll a f).steer.stepAxis = s.steer.stepAxis := rfl

theorem State.setRoute_none_ain {s : State} {input b : Nat} (h : (s.setRoute input none).steer.ainAxis = some b) :
    s.steer.ainAxis = some b := by
  unfold State.setRoute at h
  split at h
  · cases h
  · exact h

theorem State.setRoute_none_step {s : State} {input b : Nat} (h : (s.setRoute input none).steer.stepAxis = some b) :
    s.steer.stepAxis = some b := by
  unfold State.setRoute at h
  split at h
  · exact h
  · cases h

theorem Axis.fset_target (x : Axis) (f : Fld) (v : Nat) : (x.fset f v).target = x.target := rfl

theorem Axis.setSrc_target (x : Axis) (v : Nat) : (x.setSrc v).target = x.target := x.fset_target _ v

theorem State.release_unroutes {s : State} (wA : spWf {} 0 s.steer.axes = true) (wP : spWf {} 0 s.fabric.ports = true)
    (wQ : spWf {} 0 s.link.queues = true) {input a : Nat} (h : s.routed input = some a) : s.Unroutes (s.release input a) := by
  have hw : spWf {} 0 (s.setRoute input none).steer.axes = true := by rw [State.setRoute_axes]; exact wA
  constructor
  · exact State.modAll_axesWf hw ..
  · simpa [State.release] using wP
  · exact (State.Serves.refl wQ).link (by simp [State.release])
  · simp [State.release]
  · intro b
    by_cases e : b = a
    · rw [e, State.release, State.axis_modAll_self hw, State.setRoute_axis, Axis.setSrc_target]
    · rw [State.release, State.axis_modAll_ne _ e, State.setRoute_axis]
  · intro b hain hstep
    have hne : b ≠ a := by
      rintro rfl
      unfold State.routed at h
      split at h
      · exact hain h
      · exact hstep h
    rw [State.release, State.axis_modAll_ne _ hne, State.setRoute_axis]
  · exact fun b hb => State.setRoute_none_ain (by simpa [State.release] using hb)
  · exact fun b hb => State.setRoute_none_step (by simpa [State.release] using hb)

/-- A port's change of state leaves the routes that have ended as they are. -/
theorem State.Unroutes.setPort {s t : State} (h : s.Unroutes t) (p st reason : Nat) : s.Unroutes (t.setPort p st reason) where
  axes := by simpa using h.axes
  ports := (State.setPort_change h.ports p st reason).form
  serves := h.serves.setPort ..
  mem := by simpa using h.mem
  target b := by rw [State.axis_congr (State.setPort_steer t p st reason)]; exact h.target b
  other b := by rw [State.axis_congr (State.setPort_steer t p st reason)]; exact h.other b
  ain b := by simpa using h.ain b
  step b := by simpa using h.step b

theorem State.unroute_unroutes {s : State} (wA : spWf {} 0 s.steer.axes = true) (wP : spWf {} 0 s.fabric.ports = true)
    (wQ : spWf {} 0 s.link.queues = true) (input : Nat) : s.Unroutes (s.unroute input) := by
  unfold State.unroute
  split
  · exact .refl wA wP wQ
  · next a h =>
    have hrel := State.release_unroutes wA wP wQ h
    dsimp only
    split
    · exact hrel
    · split
      · exact hrel
      · exact hrel.setPort ..

/-! ## A route made (R43) -/

theorem Axis.src_of_flags {x y : Axis} (h : x.flags = y.flags) : x.src = y.src := by rw [Axis.src, Axis.src, Axis.fget, Axis.fget, h]

@[simp] theorem serviceStart_src (x : Axis) : (serviceStart x).src = 2 := by
  have hflags : (serviceStart x).flags = ((if x.st = 6 then { x.setSt 0 with rejoin := true, heldDrive := x.u } else x).setSrc 2).flags := rfl
  rw [Axis.src_of_flags hflags, Axis.src_setSrc]

@[simp] theorem serviceStart_svcBase (x : Axis) : (serviceStart x).svcBase = x.target := by
  unfold serviceStart
  dsimp only
  split <;> rfl

/-- The route of an input with the operands of SETPOINT_ROUTE. -/
def State.enroute (s : State) (input axis gain shift stepSize : Nat) : State :=
  if input = 0 then { s with steer := { s.steer with ainAxis := some axis, ainGain := BitVec.ofNat 16 gain, ainShift := shift } }
  else { s with steer := { s.steer with stepAxis := some axis, stepSize := stepSize, stepCount := 0 } }

/-- The port of a routed axis is put in SERVICE. -/
def State.servicePort (s : State) (axis : Nat) : State :=
  match entryOf (mirrorOf axis) with | some p => s.setPort p 6 0 | none => s

theorem State.route_eq (s : State) (input axis gain shift stepSize : Nat) : s.route input axis gain shift stepSize =
    (((s.unroute input).enroute input axis gain shift stepSize).modAll axis serviceStart).servicePort axis := by
  unfold State.route State.enroute State.setRoute
  dsimp only
  generalize s.unroute input = u
  by_cases h : input = 0
  · simp only [h, if_true]; rfl
  · simp only [h, if_false]; rfl

@[simp] theorem State.servicePort_steer (s : State) (a : Nat) : (s.servicePort a).steer = s.steer := by
  unfold State.servicePort; split <;> simp

@[simp] theorem State.servicePort_mem (s : State) (a : Nat) : (s.servicePort a).mem = s.mem := by
  unfold State.servicePort; split <;> simp

theorem State.Serves.servicePort {s t : State} (h : s.Serves t) (a : Nat) : s.Serves (t.servicePort a) := by
  unfold State.servicePort
  split
  · exact h.setPort ..
  · exact h

theorem State.servicePort_state {s : State} (w : spWf {} 0 s.fabric.ports = true) {a p : Nat} (hp : entryOf (mirrorOf a) = some p) :
    ((s.servicePort a).port p).state = 6 := by
  simp only [State.servicePort, hp]
  rw [(State.setPort_change w p 6 0).self]

/-- The machine before the route of SETPOINT_ROUTE is made: the axis has left the other input. -/
def State.leaveOther (s : State) (input axis : Nat) : State :=
  if s.routed (1 - input) = some axis then s.unroute (1 - input) else s

theorem setpointRoute_eq {s : State} {input axis shift : Nat} (h : s.routeRefusal input false axis shift = none) (src : Src)
    (gain stepSize : Nat) : setpointRoute src input false axis gain shift stepSize s =
      ((s.leaveOther input axis).route input axis gain shift stepSize).complete 0xC0 src .done := by
  rw [setpointRoute, h]
  rfl

/-- What SETPOINT_ROUTE leaves of the axes, the ports and the link before its completion. -/
structure State.Routed (s t : State) (input a gain shift stepSize : Nat) : Prop where
  steer : ∃ u : State, s.Unroutes u ∧ t.steer = ((u.enroute input a gain shift stepSize).modAll a serviceStart).steer
  serves : s.Serves t
  mem : t.mem = s.mem
  port : ∀ p, entryOf (mirrorOf a) = some p → (t.port p).state = 6

theorem State.routed_route {s : State} (wA : spWf {} 0 s.steer.axes = true) (wP : spWf {} 0 s.fabric.ports = true)
    (wQ : spWf {} 0 s.link.queues = true) (input a gain shift stepSize : Nat) :
    s.Routed ((s.leaveOther input a).route input a gain shift stepSize) input a gain shift stepSize := by
  have hother : s.Unroutes (s.leaveOther input a) := by
    unfold State.leaveOther; split
    · exact State.unroute_unroutes wA wP wQ _
    · exact .refl wA wP wQ
  have hend := hother.trans (State.unroute_unroutes hother.axes hother.ports hother.serves.form input)
  rw [State.route_eq]
  generalize (s.leaveOther input a).unroute input = u at hend ⊢
  have hkeep : (u.enroute input a gain shift stepSize).link = u.link ∧ (u.enroute input a gain shift stepSize).mem = u.mem ∧
      (u.enroute input a gain shift stepSize).fabric = u.fabric := by
    unfold State.enroute; split <;> exact ⟨rfl, rfl, rfl⟩
  obtain ⟨hlink, hmem, hfabric⟩ := hkeep
  refine ⟨⟨u, hend, State.servicePort_steer ..⟩, State.Serves.servicePort (hend.serves.link (State.modAll_link .. |>.trans hlink)) a, ?_, fun p hp => ?_⟩
  · rw [State.servicePort_mem, State.modAll_mem, hmem, hend.mem]
  · exact State.servicePort_state (by rw [State.modAll_fabric, hfabric]; exact hend.ports) hp

theorem State.enroute_axes (s : State) (input axis gain shift stepSize : Nat) :
    (s.enroute input axis gain shift stepSize).steer.axes = s.steer.axes := by
  unfold State.enroute; split <;> rfl

namespace State.Routed

variable {s t : State} {input a gain shift stepSize : Nat} (h : s.Routed t input a gain shift stepSize)
include h

/-- The routed axis is in SERVICE, and its base is its target of before. -/
theorem self : (t.axis a).src = 2 ∧ (t.axis a).svcBase = (s.axis a).target := by
  obtain ⟨u, hu, hsteer⟩ := h.steer
  have hw : spWf {} 0 (u.enroute input a gain shift stepSize).steer.axes = true := by rw [State.enroute_axes]; exact hu.axes
  have hax : (u.enroute input a gain shift stepSize).axis a = u.axis a := by rw [State.axis, State.enroute_axes]; rfl
  rw [State.axis_congr hsteer, State.axis_modAll_self hw, hax, serviceStart_src, serviceStart_svcBase, hu.target]
  exact ⟨rfl, rfl⟩

theorem other {b : Nat} (hb : b ≠ a) (hain : s.steer.ainAxis ≠ some b) (hstep : s.steer.stepAxis ≠ some b) : t.axis b = s.axis b := by
  obtain ⟨u, hu, hsteer⟩ := h.steer
  have hax : (u.enroute input a gain shift stepSize).axis b = u.axis b := by rw [State.axis, State.enroute_axes]; rfl
  rw [State.axis_congr hsteer, State.axis_modAll_ne _ hb, hax, hu.other b hain hstep]

end State.Routed

/-- An accepted SETPOINT_ROUTE routes the axis and is answered. -/
theorem exec_setpointRoute {s : State} {src : Src} {input a shift : Nat} (hwf : s.allWf = true) (hacc : s.accepts 0xC0 src)
    (href : s.routeRefusal input false a shift = none) (gain stepSize : Nat) :
    ∃ u, (s.taking src).Routed u input a gain shift stepSize ∧
      exec (.setpointRoute src input false a gain shift stepSize) s = .next (u.complete 0xC0 src .done) ∧
      answered s (u.complete 0xC0 src .done) 0xC0 src .done 0 0 [] [] := by
  have hr := State.routed_route (s := s.taking src) (State.axesWf_of_allWf (s := s) hwf) (State.portsWf_of_allWf (s := s) hwf)
    (State.queuesWf_of_allWf (s := s) hwf) input a gain shift stepSize
  have hserves := ((State.Serves.refl (State.queuesWf_of_allWf hwf)).link (u := s.taking src) rfl).trans hr.serves
  refine ⟨_, hr, ?_, hacc.served hserves (hserves.cqOf_host (hacc.hostQueue (by decide))) ..⟩
  show Host.Outcome.next (s.handle 0xC0 src (setpointRoute src input false a gain shift stepSize)) = _
  rw [State.handle_accepted hacc, setpointRoute_eq (s := s.taking src) href]

/-! ## Temperatures (R61) -/

/-- The machine with the map's working copy and the steering blanked. -/
def blankMapSteer (s : State) : State := { s with map := { s.map with work := [] }, steer := {} }

/-- Reading an entry of the map repairs no more than its working copy (R64). -/
theorem State.mapRead_leaves {s : State} (w : wordsWf 0 s.regs = true) (i : Nat) :
    State.Leaves blankMapSteer s (s.mapRead i).2.2 [F.MAP_STATUS.CHECK_ERR] := by
  have hrefl := State.Leaves.refl blankMapSteer w [F.MAP_STATUS.CHECK_ERR]
  unfold State.mapRead
  dsimp only
  split
  · exact hrefl
  · have hnote := ((hrefl.sticky (f := F.MAP_STATUS.CHECK_ERR) (by simp) (by decide) none).logEntry (sev := 5) (by decide) 5 .data
      .memory 0 i 0).count 2 14 1
    split
    · exact hnote.step rfl rfl
    · exact hnote

theorem State.mapRead_steer (s : State) (i : Nat) : (s.mapRead i).2.2.steer = s.steer := by
  unfold State.mapRead; dsimp only; (repeat' split) <;> simp

/-- The rereading of one axis changes no other axis (R48). -/
theorem State.rereadAxis_leaves {s : State} (w : wordsWf 0 s.regs = true) (a : Nat) :
    State.Leaves blankMapSteer s (s.rereadAxis a) [F.MAP_STATUS.CHECK_ERR] := by
  have hrefl := State.Leaves.refl blankMapSteer w [F.MAP_STATUS.CHECK_ERR]
  unfold State.rereadAxis
  dsimp only
  split
  · split
    · next q _ =>
      have hread := State.mapRead_leaves w (s.pairIndex (axisSide a) q.1 q.2)
      split
      · exact hread.step rfl rfl
      · exact hread
    · exact hrefl
  · exact hrefl

theorem State.rereadAxis_axis (s : State) {a b : Nat} (h : b ≠ a) : (s.rereadAxis a).axis b = s.axis b := by
  unfold State.rereadAxis
  dsimp only
  split
  · split
    · split
      · rw [State.axis_modAll_ne _ h, State.axis_congr (State.mapRead_steer ..)]
      · rw [State.axis_congr (State.mapRead_steer ..)]
    · rfl
  · rfl

/-- The open-loop axes of a head read their entries again. -/
def State.rereadHead (s : State) (head : Nat) (l : Sparse Axis) : State :=
  l.foldl (fun s p => if axisSide p.1 = head then s.rereadAxis p.1 else s) s

theorem State.rereadHead_leaves {s : State} (w : wordsWf 0 s.regs = true) (head : Nat) (l : Sparse Axis) :
    State.Leaves blankMapSteer s (s.rereadHead head l) [F.MAP_STATUS.CHECK_ERR] :=
  (State.Leaves.refl blankMapSteer w _).foldl fun u wu p _ => by
    split
    · exact State.rereadAxis_leaves wu p.1
    · exact .refl _ wu _

theorem State.rereadHead_axis (s : State) (head : Nat) (l : Sparse Axis) {b : Nat} (h : axisSide b ≠ head) :
    (s.rereadHead head l).axis b = s.axis b :=
  List.foldlRecOn (motive := fun u : State => u.axis b = s.axis b) l _ rfl fun u hu p _ => by
    split
    · next hp => rw [State.rereadAxis_axis u (fun e => h (by rw [e]; exact hp)), hu]
    · exact hu

theorem binOf_lt (t : Int) : binOf t < 16 := by
  unfold binOf
  split
  · decide
  · split
    · decide
    · omega

theorem binNext_lt {old : Nat} (h : old < 16) (t : Int) : binNext old t < 16 := by
  unfold binNext
  have hup := binOf_lt (t - 6)
  have hdn := binOf_lt (t + 5)
  dsimp only
  (repeat' split) <;> assumption

/-- The machine whose head's telemetry shows a temperature. -/
def State.heat (s : State) (head : Nat) (temp : Int) : State :=
  if head = 0 then { s with pair := { s.pair with headA := { s.pair.headA with temp := temp } } }
  else { s with pair := { s.pair with headB := { s.pair.headB with temp := temp } } }

/-- The field that shows a head's bin. -/
def binField (head : Nat) : Fld := if head = 0 then F.LOCK_STATUS.BIN_A else F.LOCK_STATUS.BIN_B

theorem tempReport_eq (head : Nat) (temp : Int) (s : State) : tempReport head temp s =
    if binNext (s.bin head) temp = s.bin head then s.heat head temp
    else ((s.heat head temp).fset (binField head) (binNext (s.bin head) temp)).rereadHead head s.steer.axes := by
  unfold tempReport State.heat binField State.rereadHead
  by_cases h : head = 0
  · subst h; rfl
  · simp only [h, if_false]; rfl

/-- What a temperature report leaves: the head's temperature and bin changed, the axes of the other side kept. -/
structure State.Heated (s t : State) (head : Nat) (temp : Int) : Prop where
  pair : t.pair = (s.heat head temp).pair
  bin : t.fget (binField head) = binNext (s.bin head) temp
  field : ∀ g, (∀ f ∈ binField head :: F.MAP_STATUS.CHECK_ERR :: logFields, Fld.apart f g) → t.fget g = s.fget g
  mem : t.mem = s.mem
  tows : t.tows = s.tows
  axis : ∀ a, axisSide a ≠ head → t.axis a = s.axis a

theorem State.bin_eq (s : State) (head : Nat) : s.bin head = s.fget (binField head) := by
  unfold State.bin binField; split <;> rfl

theorem State.bin_lt (s : State) (head : Nat) : s.bin head < 16 := by
  unfold State.bin; split <;> exact fldOf_lt ..

theorem tempReport_heated {s : State} (hwf : s.allWf = true) (head : Nat) (temp : Int) :
    s.Heated (tempReport head temp s) head temp := by
  have hheat : (s.heat head temp).regs = s.regs ∧ (s.heat head temp).mem = s.mem ∧ (s.heat head temp).tows = s.tows ∧
      (s.heat head temp).steer = s.steer := by
    unfold State.heat; split <;> exact ⟨rfl, rfl, rfl, rfl⟩
  obtain ⟨hregs, hmem, htows, hsteer⟩ := hheat
  rw [tempReport_eq]
  generalize hv : s.heat head temp = v at *
  split
  · next hold =>
    exact ⟨congrArg State.pair hv.symm, by rw [hold, State.bin_eq, State.fget_of_regs hregs], fun g _ => State.fget_of_regs hregs g, hmem, htows,
      fun a _ => State.axis_congr hsteer a⟩
  · have hw : wordsWf 0 v.regs = true := by rw [hregs]; exact State.regsWf_of_allWf hwf
    have hfits : (binField head).lo + (binField head).width ≤ 32 := by unfold binField; split <;> decide
    have hwidth : (binField head).width = 4 := by unfold binField; split <;> rfl
    have hl := State.rereadHead_leaves (v.fset_wf (binField head) (binNext (s.bin head) temp) hw) head s.steer.axes
    refine ⟨(hl.get State.pair :).trans (show v.pair = _ by rw [hv]), ?_, fun g hg => ?_, (hl.get State.mem :).trans hmem, (hl.get State.tows :).trans htows, fun a ha => ?_⟩
    · rw [hl.fget (by unfold binField; split <;> exact apart_of_test (by decide)), State.fget_fset_self _ _ _ hfits hw, hwidth]
      exact Nat.mod_eq_of_lt (binNext_lt (s.bin_lt head) temp)
    · rw [hl.fget fun f hf => hg f (List.mem_cons_of_mem _ hf), State.fget_fset_apart _ _ _ _ hfits hw (hg _ (by simp)),
        State.fget_of_regs hregs]
    · rw [State.rereadHead_axis _ _ _ ha]
      exact State.axis_congr hsteer a

/-! ## The statement -/

/-- Settles O19: a route takes the axis and its port into SERVICE after the ends of other routes have left every target and every
unrouted axis as they were; a temperature report lets the open-loop axes of its own head alone read the map again. -/
theorem setpointAndTemperature : Obligations.SetpointAndTemperature := by
  unfold Obligations.SetpointAndTemperature
  refine ⟨fun s src a gain shift hwf hacc href => ?_, fun s src a step hwf hacc href => ?_, fun s dir hrung => ?_,
    fun s temp hwf => ?_, fun s temp hwf => ?_⟩
  · obtain ⟨u, hr, hexec, hans⟩ := exec_setpointRoute hwf hacc href gain 0
    obtain ⟨hsrc, hbase⟩ := hr.self
    obtain ⟨v, -, hsteer⟩ := hr.steer
    have hs : (u.complete 0xC0 src .done).steer = u.steer := State.complete_steer ..
    refine ⟨_, hexec, ?_, ?_, ?_, fun p hp => ?_, fun b hb hain hstep => ?_, ?_, hans⟩
    · rw [hs, hsteer]; rfl
    · rw [State.axis_congr hs]; exact hsrc
    · rw [State.axis_congr hs]; exact hbase
    · rw [State.port, State.complete_fabric]; exact hr.port p hp
    · rw [State.axis_congr hs]; exact hr.other hb hain hstep
    · rw [State.complete_mem]; exact hr.mem
  · obtain ⟨u, hr, hexec, hans⟩ := exec_setpointRoute hwf hacc href 0 step
    obtain ⟨hsrc, hbase⟩ := hr.self
    obtain ⟨v, -, hsteer⟩ := hr.steer
    have hs : (u.complete 0xC0 src .done).steer = u.steer := State.complete_steer ..
    refine ⟨_, hexec, ?_, ?_, ?_, ?_, fun p hp => ?_, fun b hb hain hstep => ?_, ?_, hans⟩
    · rw [hs, hsteer]; rfl
    · rw [hs, hsteer]; rfl
    · rw [State.axis_congr hs]; exact hsrc
    · rw [State.axis_congr hs]; exact hbase
    · rw [State.port, State.complete_fabric]; exact hr.port p hp
    · rw [State.axis_congr hs]; exact hr.other hb hain hstep
    · rw [State.complete_mem]; exact hr.mem
  · show Host.Outcome.next (if s.rung ≤ 2 then stepEdge dir s else s) = _
    rw [if_pos hrung]
    cases dir <;> rfl
  · have h := tempReport_heated hwf 0 temp
    exact ⟨_, rfl, h.bin, by rw [h.pair]; rfl, h.field F.LOCK_STATUS.BIN_B (apart_of_test (by decide)), by rw [h.pair]; rfl, h.mem, h.tows,
      fun a ha => h.axis a (by omega)⟩
  · have h := tempReport_heated hwf 1 temp
    exact ⟨_, rfl, h.bin, by rw [h.pair]; rfl, h.field F.LOCK_STATUS.BIN_A (apart_of_test (by decide)), by rw [h.pair]; rfl, h.mem, h.tows,
      fun a ha => h.axis a (by omega)⟩

end Sys2Proof.Machine
end

section
/-!
PROOFS. Reports chained: a state that differs from another by reports and the register fields of a list, with its register file in
canonical form, so that one report follows the other.
-/

namespace Sys2Proof.Machine

/-- t is s after reports and writes of the register fields l; the register file of t is in canonical form. -/
structure State.Reported (s t : State) (l : List Fld) : Prop where
  form : wordsWf 0 t.regs = true
  reports : reports s t l

namespace State.Reported

variable {s t u : State} {l m : List Fld}

theorem refl (w : wordsWf 0 s.regs = true) (l : List Fld) : s.Reported s l := ⟨w, reports_refl s l⟩

theorem trans (h : s.Reported t l) (k : t.Reported u l) : s.Reported u l := ⟨k.form, reports_trans h.reports k.reports⟩

theorem mono (h : s.Reported t l) (hl : ∀ f ∈ l, f ∈ m) : s.Reported t m := ⟨h.form, reports_mono h.reports hl⟩

theorem notes (h : s.Reported t l) (k : t.Notes u l) : s.Reported u l := h.trans ⟨k.form, k.reports⟩

theorem fset (h : s.Reported t l) {f : Fld} (hf : f ∈ l ++ logFields) (fits : f.lo + f.width ≤ 32) (v : Nat) : s.Reported (t.fset f v) l :=
  h.notes ((State.Notes.refl h.form l).fset hf fits v)

theorem fadd (h : s.Reported t l) {f : Fld} (hf : f ∈ l ++ logFields) (fits : f.lo + f.width ≤ 32) (n : Nat) : s.Reported (t.fadd f n) l :=
  h.fset hf fits _

theorem count (h : s.Reported t l) (g i n : Nat) : s.Reported (t.count g i n) l := h.trans ⟨h.form, t.count_reports g i n l⟩

theorem emit (h : s.Reported t l) (x : Sent) : s.Reported (t.emit x) l := h.trans ⟨h.form, t.emit_reports x l⟩

theorem msix (h : s.Reported t l) (v : Nat) : s.Reported (t.msix v) l := h.notes ((State.Notes.refl h.form l).msix v)

theorem sticky (h : s.Reported t l) {f : Fld} (hf : f ∈ l ++ logFields) (fits : f.lo + f.width ≤ 32) (v : Option Nat) :
    s.Reported (t.sticky f v) l := h.notes ((State.Notes.refl h.form l).sticky hf fits v)

theorem logEntry (h : s.Reported t l) {sev : Nat} (hsev : sev < 8) (source : Nat) (cls : Cls) (kind : Obj) (reason a0 a1 : Nat) :
    s.Reported (t.logEntry sev source cls kind reason a0 a1) l :=
  h.notes ((State.Notes.refl h.form l).logEntry hsev source cls kind reason a0 a1)

theorem push (h : s.Reported t l) (q : Nat) (it : Item) : s.Reported (t.push q it) l :=
  h.trans ⟨by simpa using h.form, t.push_reports q it l⟩

theorem event (h : s.Reported t l) (e : Nat) (b : List Byte) : s.Reported (t.event e b) l :=
  h.trans ⟨by simpa using h.form, t.event_reports e b l⟩

theorem spaceEvent (h : s.Reported t l) (p c : Nat) (b : List Byte) : s.Reported (t.spaceEvent p c b) l :=
  h.trans ⟨by simpa using h.form, t.spaceEvent_reports p c b l⟩

theorem sendJournal (h : s.Reported t l) (it : JItem) : s.Reported (t.sendJournal it) l :=
  h.trans ⟨by simpa using h.form, t.sendJournal_reports it l⟩

theorem ite {c : Prop} [Decidable c] (ht : s.Reported t l) (hu : s.Reported u l) : s.Reported (if c then t else u) l := by
  split
  · exact ht
  · exact hu

theorem foldl {α : Type} {f : State → α → State} {is : List α} (h : s.Reported t l)
    (step : ∀ u : State, wordsWf 0 u.regs = true → ∀ i ∈ is, u.Reported (f u i) l) : s.Reported (is.foldl f t) l :=
  List.foldlRecOn (motive := fun u => s.Reported u l) is f h fun _ hu i hi => hu.trans (step _ hu.form i hi)

/-- A field apart from those written reads as before. -/
theorem fget (h : s.Reported t l) {g : Fld} (hg : ∀ f ∈ l ++ logFields, Fld.apart f g) : t.fget g = s.fget g := h.reports.2.2.2 g hg

theorem frame (h : s.Reported t l) :
    t = { s with regs := t.regs, log := t.log, counters := t.counters, out := t.out, link := t.link, pair := t.pair } := h.reports.1

theorem steer (h : s.Reported t l) : t.steer = s.steer := by rw [h.frame]
theorem map (h : s.Reported t l) : t.map = s.map := by rw [h.frame]
theorem lock (h : s.Reported t l) : t.lock = s.lock := by rw [h.frame]
theorem fabric (h : s.Reported t l) : t.fabric = s.fabric := by rw [h.frame]
theorem tows (h : s.Reported t l) : t.tows = s.tows := by rw [h.frame]
theorem mem (h : s.Reported t l) : t.mem = s.mem := by rw [h.frame]
theorem auction (h : s.Reported t l) : t.auction = s.auction := by rw [h.frame]
theorem time (h : s.Reported t l) : t.time = s.time := by rw [h.frame]
theorem light (h : s.Reported t l) : t.light = s.light := by rw [h.frame]
theorem power (h : s.Reported t l) : t.power = s.power := by rw [h.frame]
theorem boot (h : s.Reported t l) : t.boot = s.boot := by rw [h.frame]

end State.Reported

end Sys2Proof.Machine
end

section
/-!
PROOFS. The pair's resynchronisation (R194, R207, R209, R215): what a change of the pair state writes, and which states lead to it.
-/

namespace Sys2Proof.Machine

/-! ## A change of the pair state -/

/-- The fields that a change of the pair state writes. -/
def pairFields : List Fld := [F.PAIR_STATUS.STATE, F.PAIR_STATUS.REASON]

/-- The pair state and reason are set, and the rest is reports. -/
structure State.PairSet (s t : State) (new reason : Nat) : Prop where
  reported : s.Reported t pairFields
  state : t.fget F.PAIR_STATUS.STATE = new
  reason : t.fget F.PAIR_STATUS.REASON = reason

theorem State.setPair_set {s : State} (w : wordsWf 0 s.regs = true) {new reason : Nat} (hold : s.fget F.PAIR_STATUS.STATE ≠ 3)
    (hnew : new < 8) (hne : new ≠ 3) (hreason : reason < 16) : s.PairSet (s.setPair new reason) new reason := by
  have hstate := s.fset_wf F.PAIR_STATUS.STATE new w
  have hset : s.Reported ((s.fset F.PAIR_STATUS.STATE new).fset F.PAIR_STATUS.REASON reason) pairFields :=
    ((State.Reported.refl w _).fset (by simp [pairFields]) (by decide) new).fset (by simp [pairFields]) (by decide) reason
  have hst : ((s.fset F.PAIR_STATUS.STATE new).fset F.PAIR_STATUS.REASON reason).fget F.PAIR_STATUS.STATE = new := by
    rw [State.fget_fset_apart _ _ _ _ (by decide) hstate (Fld.apart_of_test (by decide)), State.fget_fset_self _ _ _ (by decide) w]
    exact Nat.mod_eq_of_lt hnew
  have hre : ((s.fset F.PAIR_STATUS.STATE new).fset F.PAIR_STATUS.REASON reason).fget F.PAIR_STATUS.REASON = reason := by
    rw [State.fget_fset_self _ _ _ (by decide) hstate]
    exact Nat.mod_eq_of_lt hreason
  unfold State.setPair
  simp only [hne, hold, if_false, false_and]
  generalize (s.fset F.PAIR_STATUS.STATE new).fset F.PAIR_STATUS.REASON reason = u at *
  split
  · exact ⟨hset, hst, hre⟩
  · have hregs : ((u.pairEvent (s.fget F.PAIR_STATUS.STATE)).msix 2).regs = u.regs := by simp [State.pairEvent]
    exact ⟨(hset.event ..).msix 2, (State.fget_of_regs hregs _).trans hst, (State.fget_of_regs hregs _).trans hre⟩

theorem State.PairSet.count {s t : State} {new reason : Nat} (h : s.PairSet t new reason) (g i n : Nat) :
    s.PairSet (t.count g i n) new reason :=
  ⟨h.reported.count g i n, h.state, h.reason⟩

/-! ## RESYNCING begins -/

/-- The bases and the pair as RESYNCING takes them up, before the pair state changes. -/
def State.unsynced (s : State) : State :=
  { s with
    time := { s.time with tb2 := { s.time.tb2 with t := ((s.time.tb2.t : Int) + s.time.tb2.offset * 10 ^ 12).toNat
                                                   offset := 0, f := 0, rate := 0 }
                          tb2Free := false }
    pair := { s.pair with snapshot := true, snapshotDone := false, snapKeys := [], copyRun := 0, gap := none, early := []
                          claiming := false, owed := [], due := [], sentRet := [], numbered := false, tickAt := none } }

theorem State.resync_eq (s : State) : s.resync = (s.unsynced.setPair 1 0).fset F.PAIR_STATUS.ORPHANED 0 := rfl

theorem State.resync_spec {s : State} (w : wordsWf 0 s.regs = true) (hold : s.fget F.PAIR_STATUS.STATE ≠ 3) :
    s.resync.fget F.PAIR_STATUS.STATE = 1 ∧ s.resync.fget F.PAIR_STATUS.REASON = 0 ∧ s.resync.fget F.PAIR_STATUS.ORPHANED = 0 ∧
      reports s.unsynced s.resync [F.PAIR_STATUS.STATE, F.PAIR_STATUS.REASON, F.PAIR_STATUS.ORPHANED] := by
  have h := State.setPair_set (s := s.unsynced) w (new := 1) (reason := 0) hold (by decide) (by decide) (by decide)
  have hw := h.reported.form
  rw [State.resync_eq]
  refine ⟨?_, ?_, ?_, ?_⟩
  · rw [State.fget_fset_apart _ _ _ _ (by decide) hw (Fld.apart_of_test (by decide)), h.state]
  · rw [State.fget_fset_apart _ _ _ _ (by decide) hw (Fld.apart_of_test (by decide)), h.reason]
  · rw [State.fget_fset_self _ _ _ (by decide) hw]; rfl
  · exact ((h.reported.mono (by simp [pairFields])).fset (by simp) (by decide) 0).reports

/-! ## INELIGIBLE -/

theorem State.ineligible_three (s : State) : s.ineligible = some 3 ↔
    s.pair.partnerHash ≠ s.imageHash ∧ s.compatible 0 s.imageHash = false := by
  unfold State.ineligible
  by_cases h : (decide (s.pair.partnerHash ≠ s.imageHash) && !s.compatible 0 s.imageHash) = true
  · rw [if_pos h]
    simpa using h
  · rw [if_neg h]
    refine ⟨fun e => ?_, fun e => absurd (by simpa using e) h⟩
    (repeat' split at e) <;> simp at e

theorem State.ineligible_lt {s : State} {r : Nat} (h : s.ineligible = some r) : r < 16 := by
  unfold State.ineligible at h
  (repeat' split at h) <;> simp at h <;> omega

theorem State.becomeIneligible_set {s : State} (w : wordsWf 0 s.regs = true) (hold : s.fget F.PAIR_STATUS.STATE ≠ 3) {r : Nat} (hr : r < 16) :
    s.PairSet (s.becomeIneligible r) 4 r := by
  have hnote : s.Reported (if s.standby then s.logEntry 4 3 .link .module r 0 else s) [] :=
    ((State.Reported.refl w _).logEntry (by decide) ..).ite (.refl w _)
  unfold State.becomeIneligible
  dsimp only
  generalize (if s.standby then s.logEntry 4 3 .link .module r 0 else s) = u at hnote ⊢
  have hstate : u.fget F.PAIR_STATUS.STATE = s.fget F.PAIR_STATUS.STATE := hnote.fget (apart_of_test (by decide))
  have hset := State.setPair_set hnote.form (new := 4) (reason := r) (by rw [hstate]; exact hold) (by decide) (by decide) hr
  exact ⟨((hnote.mono (by simp)).trans hset.reported).count 3 12 1, hset.state, hset.reason⟩

/-! ## The statement -/

/-- Settles O44: RESYNCING, STANDBY and INELIGIBLE are each one change of the pair state, from a state that is not ACTIVE. -/
theorem resynchronisation : Obligations.Resynchronisation := by
  unfold Obligations.Resynchronisation
  refine ⟨fun s c hwf hc => ?_, fun s hwf hst hel hdone hrun => ?_, fun s r hwf hel hcase => ?_, State.ineligible_three⟩
  · have w := State.regsWf_of_allWf hwf
    rcases hc with ⟨rfl, hst, hon, hpart, hcores, hheld⟩ | ⟨rfl, hst, hre⟩
    · refine ⟨s.resync, ?_, State.resync_spec w (by rw [hst]; decide)⟩
      show execTetherUp s = _
      rw [execTetherUp, if_pos (by simp [hst, hon, hpart, hcores, hheld])]
    · refine ⟨s.resync, ?_, State.resync_spec w (by rw [hst]; decide)⟩
      show execIneligibleResync s = _
      rw [execIneligibleResync, if_pos hst]
      dsimp only
      rcases hre with h | h | h
      · rw [if_pos (Or.inl h)]
      · rw [if_pos (Or.inr h)]
      · simp [h]
  · have w := State.regsWf_of_allWf hwf
    have hset := (State.setPair_set w (new := 2) (reason := 0) (by rw [hst]; decide) (by decide) (by decide) (by decide)).count 3 13 1
    refine ⟨_, ?_, by rw [State.standby, hset.state]; rfl, hset.reason, hset.reported.reports⟩
    show execSnapshotComplete s = _
    rw [execSnapshotComplete, if_pos ⟨hst, hdone, hrun, hel⟩]
  · have w := State.regsWf_of_allWf hwf
    have hold : s.fget F.PAIR_STATUS.STATE ≠ 3 := by
      rcases hcase with h | ⟨h, -⟩
      · rw [State.standby] at h; simp only [decide_eq_true_eq] at h; rw [h]; decide
      · rw [h]; decide
    have hset := State.becomeIneligible_set w hold (State.ineligible_lt hel)
    refine ⟨_, ?_, hset.state, hset.reason, hset.reported.reports⟩
    show execIneligibleEntry s = _
    rw [execIneligibleEntry, hel]
    rcases hcase with h | ⟨h, hle⟩
    · simp [h]
    · simp [h, hle]

end Sys2Proof.Machine
end

section
/-!
PROOFS. Heat (R308–R310): the readings of the sensors and what is judged from them, the halt of a hot array, and the stay in L1.
-/

namespace Sys2Proof.Machine

/-! ## Readings -/

theorem ofSigned_lt (w : Nat) (x : Int) : ofSigned w x < 2 ^ w := by
  have hpos : (0 : Int) < Int.ofNat (2 ^ w) := Int.natCast_pos.mpr (Nat.two_pow_pos w)
  have hlt := Int.emod_lt_of_pos x hpos
  have hge := Int.emod_nonneg x (ne_of_gt hpos)
  have heq : ((ofSigned w x : Nat) : Int) = x % Int.ofNat (2 ^ w) := Int.toNat_of_nonneg hge
  have hcast : ((ofSigned w x : Nat) : Int) < ((2 ^ w : Nat) : Int) := by rw [heq]; exact hlt
  exact_mod_cast hcast

/-- The reading of one sensor is taken. -/
def State.readSensor (temps : List (Nat × Int)) (s : State) (n : Nat) : State :=
  match temps.find? (fun p => p.1 = n) with
  | some p => (s.fset (F.PWR_TEMP.TEMP n) (ofSigned 16 p.2)).fset (F.PWR_TEMP.VALID n) 1
  | none => s.fset (F.PWR_TEMP.VALID n) 0

/-- The readings of all sensors are taken. -/
def State.readSensors (s : State) (temps : List (Nat × Int)) : State := (List.range 64).foldl (State.readSensor temps) s

theorem execTemperatureRead_eq (temps : List (Nat × Int)) (s : State) : execTemperatureRead temps s =
    .next ((List.range 4).foldl State.judgeCool
      ((s.readSensors temps).judgeJunction.judgePhotonic.judgeStacks.judgeCold)).judgeAllHalted := rfl

/-- The fields of a sensor. -/
def sensorFields (n : Nat) : List Fld := [F.PWR_TEMP.TEMP n, F.PWR_TEMP.VALID n]

section
variable {s : State} (w : wordsWf 0 s.regs = true) (temps : List (Nat × Int)) (n : Nat)
include w

theorem State.readSensor_writes : s.Writes (s.readSensor temps n) (sensorFields n) := by
  unfold State.readSensor
  split
  · exact ((State.Writes.refl w _).fset (by simp [sensorFields]) (by simp [F.PWR_TEMP.TEMP]) _).fset (by simp [sensorFields])
      (by simp [F.PWR_TEMP.VALID]) 1
  · exact (State.Writes.refl w _).fset (by simp [sensorFields]) (by simp [F.PWR_TEMP.VALID]) 0

theorem State.readSensor_valid :
    (s.readSensor temps n).fget (F.PWR_TEMP.VALID n) = if (temps.find? (fun p => p.1 = n)).isSome then 1 else 0 := by
  unfold State.readSensor
  split
  · next p hp => simp only [hp]; exact State.fget_fset_self _ _ 1 (by simp [F.PWR_TEMP.VALID]) (s.fset_wf _ _ w)
  · next hp => simp only [hp]; exact State.fget_fset_self _ _ 0 (by simp [F.PWR_TEMP.VALID]) w

theorem State.readSensor_temp : (s.readSensor temps n).fget (F.PWR_TEMP.TEMP n) =
    match temps.find? (fun p => p.1 = n) with | some p => ofSigned 16 p.2 | none => s.fget (F.PWR_TEMP.TEMP n) := by
  have hapart : Fld.apart (F.PWR_TEMP.VALID n) (F.PWR_TEMP.TEMP n) := .inr (.inr (by simp [F.PWR_TEMP.VALID, F.PWR_TEMP.TEMP]))
  unfold State.readSensor
  cases temps.find? (fun p => p.1 = n) with
  | some p =>
    dsimp only
    rw [State.fget_fset_apart _ _ _ _ (by simp [F.PWR_TEMP.VALID]) (s.fset_wf _ _ w) hapart,
      State.fget_fset_self _ _ _ (by simp [F.PWR_TEMP.TEMP]) w]
    exact Nat.mod_eq_of_lt (ofSigned_lt 16 p.2)
  | none => exact State.fget_fset_apart _ _ _ 0 (by simp [F.PWR_TEMP.VALID]) w hapart

end

theorem sensorFields_apart {m n : Nat} (h : m ≠ n) {f g : Fld} (hf : f ∈ sensorFields m) (hg : g ∈ sensorFields n) : Fld.apart f g := by
  simp only [sensorFields, List.mem_cons, List.not_mem_nil, or_false] at hf hg
  refine .inl ?_
  rcases hf with rfl | rfl <;> rcases hg with rfl | rfl <;> simp only [F.PWR_TEMP.TEMP, F.PWR_TEMP.VALID] <;> omega

section
variable {s : State} (w : wordsWf 0 s.regs = true) (temps : List (Nat × Int))
include w

theorem State.readSensors_writes : s.Writes (s.readSensors temps) ((List.range 64).flatMap sensorFields) :=
  (State.Writes.refl w _).foldl fun _ wu n hn => (State.readSensor_writes wu temps n).mono fun _ hf => List.mem_flatMap.mpr ⟨n, hn, hf⟩

/-- After the readings a field of a sensor reads what its own step gives it. -/
theorem State.readSensors_field {n : Nat} (hn : n < 64) {g : Fld} (hg : g ∈ sensorFields n) {v : Nat}
    (sets : ∀ u : State, wordsWf 0 u.regs = true → u.fget g = s.fget g → (u.readSensor temps n).fget g = v) :
    (s.readSensors temps).fget g = v :=
  State.fget_foldl (L := sensorFields) List.nodup_range (List.mem_range.mpr hn) (fun _ wu j _ => State.readSensor_writes wu temps j) sets
    (fun _ _ hj _ hf => sensorFields_apart hj hf hg) w

theorem State.readSensors_valid {n : Nat} (hn : n < 64) :
    (s.readSensors temps).fget (F.PWR_TEMP.VALID n) = if (temps.find? (fun p => p.1 = n)).isSome then 1 else 0 :=
  State.readSensors_field w temps hn (by simp [sensorFields]) fun _ wu _ => State.readSensor_valid wu temps n

theorem State.readSensors_temp {n : Nat} (hn : n < 64) : (s.readSensors temps).fget (F.PWR_TEMP.TEMP n) =
    match temps.find? (fun p => p.1 = n) with | some p => ofSigned 16 p.2 | none => s.fget (F.PWR_TEMP.TEMP n) :=
  State.readSensors_field w temps hn (by simp [sensorFields]) fun _ wu hu => by rw [State.readSensor_temp wu temps n, hu]

end

/-! ## What is judged from the readings (R309, R310) -/

/-- The machine without the power manager's notes. -/
def blankPower (s : State) : State := { s with power := {} }

/-- The machine with other notes of the power manager. -/
def State.withPower (s : State) (p : Power) : State := { s with power := p }

theorem State.Leaves.power {s t : State} {l : List Fld} (h : State.Leaves blankPower s t l) (p : Power) :
    State.Leaves blankPower s (t.withPower p) l := h.step rfl rfl

/-- The machine with PHOTONIC set. -/
def State.showPhotonic (s : State) : State :=
  match highest (s.tempsOf 48 52) with | some (_, t) => s.fset F.PWR_THERM.PHOTONIC (ofSigned 8 (t / 16)) | none => s

theorem State.judgePhotonic_eq (s : State) : s.judgePhotonic =
    let u := s.showPhotonic.withPower { s.showPhotonic.power with outOfRange := s.showPhotonic.photonicOut }
    if s.showPhotonic.photonicOut && !s.showPhotonic.power.outOfRange then
      ((u.fset F.PWR_THERM.PHOTONIC_OOR 1).logEntry 4 1 .environment .sensor 1 48).count 13 12
    else u := rfl

/-- How long an array has been cool, after a reading. -/
def State.coolNow (s : State) (n : Nat) : Nat :=
  if (s.tempsOf (10 * n) (10 * n + 10)).all (fun p => decide (p.2 < 1600)) then
    (if spGet 0 s.power.coolSince n = 0 then s.time.tb3 + 1 else spGet 0 s.power.coolSince n)
  else 0

theorem State.judgeCool_eq (s : State) (n : Nat) : s.judgeCool n =
    let u := s.withPower { s.power with coolSince := spSet 0 s.power.coolSince n (s.coolNow n) }
    if u.heatHalted n && decide (s.coolNow n ≠ 0) && decide (s.coolNow n - 1 + 50000000 ≤ u.time.tb3) then
      (u.fset F.PWR_THERM.HALTED (u.fget F.PWR_THERM.HALTED - 2 ^ n)).unhalt n
    else u := rfl

/-- The fields judged after the junction temperature. -/
def judgedFields : List Fld :=
  [F.PWR_THERM.HALTED, F.PWR_THERM.STACK_HOT, F.PWR_THERM.PHOTONIC_OOR, F.PWR_THERM.PHOTONIC] ++ arrayStates

/-- The fields judged from the readings of the arrays. -/
def junctionFields : List Fld := [F.PWR_THERM.TJ, F.PWR_THERM.HOT, F.PWR_THERM.WARN]

section
variable {s : State} (w : wordsWf 0 s.regs = true)
include w

theorem State.judgeWarn_leaves (tj : Int) (n : Nat) : State.Leaves blankPower s (s.judgeWarn tj n) junctionFields := by
  have hrefl := State.Leaves.refl blankPower w junctionFields
  unfold State.judgeWarn
  dsimp only
  split
  · exact (((hrefl.step (u := { s with power := { s.power with warm := true } }) rfl rfl).sticky (by simp [junctionFields]) (by decide)
      (some 5)).logEntry (by decide) ..).count 13 5 1
  · split
    · exact hrefl.step rfl rfl
    · exact hrefl

/-- The machine with TJ and HOT set. -/
def State.showJunction (s : State) (n : Nat) (t : Int) : State :=
  (s.fset F.PWR_THERM.TJ (ofSigned 8 (t / 16))).fset F.PWR_THERM.HOT n

theorem State.showJunction_leaves (n : Nat) (t : Int) : State.Leaves blankPower s (s.showJunction n t) junctionFields :=
  ((State.Leaves.refl blankPower w junctionFields).fset (by simp [junctionFields]) (by decide) _).fset (by simp [junctionFields])
    (by decide) n

theorem State.judgeJunction_leaves : State.Leaves blankPower s s.judgeJunction junctionFields := by
  unfold State.judgeJunction
  split
  · exact (State.showJunction_leaves w _ _).trans (State.judgeWarn_leaves (State.showJunction_leaves w _ _).form _ _)
  · exact State.Leaves.refl blankPower w junctionFields

theorem State.showPhotonic_leaves : State.Leaves blankPower s s.showPhotonic judgedFields := by
  unfold State.showPhotonic
  split
  · exact (State.Leaves.refl blankPower w _).fset (by simp [judgedFields]) (by decide) _
  · exact State.Leaves.refl blankPower w _

theorem State.judgePhotonic_leaves : State.Leaves blankPower s s.judgePhotonic judgedFields := by
  have hshow := (State.showPhotonic_leaves w).power { s.showPhotonic.power with outOfRange := s.showPhotonic.photonicOut }
  rw [State.judgePhotonic_eq]
  exact State.Leaves.ite
    (((hshow.fset (f := F.PWR_THERM.PHOTONIC_OOR) (by simp [judgedFields]) (by decide) 1).logEntry (by decide) ..).count 13 12 1) hshow

theorem State.judgeStacks_leaves : State.Leaves blankPower s s.judgeStacks judgedFields :=
  ((State.Leaves.refl blankPower w judgedFields).power _).fset (f := F.PWR_THERM.STACK_HOT) (by simp [judgedFields]) (by decide) _

theorem State.judgeCold_leaves : State.Leaves blankPower s s.judgeCold judgedFields :=
  (State.Leaves.refl blankPower w _).step rfl rfl

theorem State.judgeAllHalted_leaves : State.Leaves blankPower s s.judgeAllHalted judgedFields :=
  (State.Leaves.refl blankPower w _).step rfl rfl

theorem State.judgeCool_leaves {n : Nat} (hn : n < 4) : State.Leaves blankPower s (s.judgeCool n) judgedFields := by
  have hcool := (State.Leaves.refl blankPower w judgedFields).power { s.power with coolSince := spSet 0 s.power.coolSince n (s.coolNow n) }
  rw [State.judgeCool_eq]
  generalize s.withPower { s.power with coolSince := spSet 0 s.power.coolSince n (s.coolNow n) } = u at hcool ⊢
  refine State.Leaves.ite ?_ hcool
  have hset := hcool.fset (f := F.PWR_THERM.HALTED) (by simp [judgedFields]) (by decide) (u.fget F.PWR_THERM.HALTED - 2 ^ n)
  have hw := State.unhalt_writes hset.form hn
  have hmem : ∀ f ∈ arrayStates, f ∈ judgedFields := fun f hf => List.mem_append_right _ hf
  exact hset.trans ⟨hw.form, fun g hg => hw.kept g fun f hf => hg f (List.mem_append_left _ (hmem f hf)), by rw [hw.frame]; rfl⟩

end

/-- What follows the junction's judgement. -/
def State.judgeRest (s : State) : State :=
  ((List.range 4).foldl State.judgeCool s.judgePhotonic.judgeStacks.judgeCold).judgeAllHalted

theorem State.judgeRest_leaves {s : State} (w : wordsWf 0 s.regs = true) : State.Leaves blankPower s s.judgeRest judgedFields := by
  have hp := State.judgePhotonic_leaves w
  have hs := hp.trans (State.judgeStacks_leaves hp.form)
  have hc := hs.trans (State.judgeCold_leaves hs.form)
  have hf := hc.foldl (f := State.judgeCool) (is := List.range 4) fun u wu n hn => State.judgeCool_leaves wu (List.mem_range.mp hn)
  exact hf.trans (State.judgeAllHalted_leaves hf.form)

/-! ## The junction temperature shown -/

theorem State.tempsOf_lt {s : State} {a b : Nat} {p : Nat × Int} (h : p ∈ s.tempsOf a b) : p.1 < a + (b - a) := by
  obtain ⟨k, hk, hp⟩ := List.mem_filterMap.mp h
  obtain ⟨t, -, rfl⟩ := Option.map_eq_some_iff.mp hp
  have := List.mem_range.mp hk
  show a + k < _
  omega

theorem highest_mem {l : List (Nat × Int)} {p : Nat × Int} (h : highest l = some p) : p ∈ l := by
  cases l with
  | nil => cases h
  | cons x xs =>
    simp only [highest, Option.some.injEq] at h
    rw [← h]
    have hfold : xs.foldl (fun m q => if m.2 < q.2 then q else m) x ∈ x :: xs := by
      refine List.foldlRecOn (motive := fun m => m ∈ x :: xs) xs _ List.mem_cons_self fun m hm q hq => ?_
      split
      · exact List.mem_cons_of_mem _ hq
      · exact hm
    exact hfold

theorem State.showJunction_shows {s : State} (w : wordsWf 0 s.regs = true) {n : Nat} (hn : n < 64) (t : Int) :
    (s.showJunction n t).fget F.PWR_THERM.TJ = ofSigned 8 (t / 16) ∧ (s.showJunction n t).fget F.PWR_THERM.HOT = n := by
  have hw := s.fset_wf F.PWR_THERM.TJ (ofSigned 8 (t / 16)) w
  constructor
  · rw [State.showJunction, State.fget_fset_apart _ _ _ _ (by decide) hw (Fld.apart_of_test (by decide)),
      State.fget_fset_self _ _ _ (by decide) w]
    exact Nat.mod_eq_of_lt (ofSigned_lt 8 _)
  · rw [State.showJunction, State.fget_fset_self _ _ _ (by decide) hw]
    exact Nat.mod_eq_of_lt hn

theorem State.fget_sticky_self {s : State} (w : wordsWf 0 s.regs = true) {f : Fld} (fits : f.lo + f.width ≤ 32) (hone : f.width = 1)
    (v : Option Nat) : (s.sticky f v).fget f = 1 := by
  unfold State.sticky
  split
  · next h =>
    have hlt : s.fget f < 2 := by have := fldOf_lt (s.word f.off) f; rwa [hone] at this
    have hne : s.fget f ≠ 0 := by simpa [State.bit] using h
    omega
  · have hset : (s.fset f 1).fget f = 1 := by rw [State.fget_fset_self _ _ _ fits w, hone]; rfl
    cases v with
    | none => exact hset
    | some v => exact (State.fget_of_regs (by simp) f).trans hset

theorem State.judgeWarn_keeps {s : State} (w : wordsWf 0 s.regs = true) (tj : Int) (n : Nat) {g : Fld}
    (hg : ∀ f ∈ F.PWR_THERM.WARN :: logFields, Fld.apart f g) : (s.judgeWarn tj n).fget g = s.fget g := by
  have hrefl := State.Leaves.refl blankPower w [F.PWR_THERM.WARN]
  have h : State.Leaves blankPower s (s.judgeWarn tj n) [F.PWR_THERM.WARN] := by
    unfold State.judgeWarn
    dsimp only
    split
    · exact (((hrefl.step (u := { s with power := { s.power with warm := true } }) rfl rfl).sticky (by simp) (by decide)
        (some 5)).logEntry (by decide) ..).count 13 5 1
    · split
      · exact hrefl.step rfl rfl
      · exact hrefl
  exact h.fget hg

theorem State.judgeWarn_warns {s : State} (w : wordsWf 0 s.regs = true) {tj : Int} (htj : 1520 ≤ tj) (hcold : s.power.warm = false) (n : Nat) :
    (s.judgeWarn tj n).fget F.PWR_THERM.WARN = 1 := by
  unfold State.judgeWarn
  rw [if_pos (by simp [htj, hcold])]
  dsimp only
  have hw : wordsWf 0 ({ s with power := { s.power with warm := true } } : State).regs = true := w
  have hlog := (State.Notes.refl (State.sticky_wf _ F.PWR_THERM.WARN (some 5) hw) []).logEntry (sev := 4) (by decide) 1 .environment
    .sensor 0 n 0
  show State.fget _ _ = 1
  exact (hlog.count 13 5 1).fget (apart_of_test (by decide)) |>.trans (State.fget_sticky_self hw (by decide) rfl _)

/-- The junction's fields after a judgement of the readings. -/
theorem State.judgeJunction_shows {s : State} (w : wordsWf 0 s.regs = true) {n : Nat} {v : Int} (h : highest (s.tempsOf 0 48) = some (n, v)) :
    s.judgeJunction.fget F.PWR_THERM.TJ = ofSigned 8 (v / 16) ∧ s.judgeJunction.fget F.PWR_THERM.HOT = n ∧
      (1520 ≤ v → s.power.warm = false → s.judgeJunction.fget F.PWR_THERM.WARN = 1) := by
  have hn : n < 48 := State.tempsOf_lt (highest_mem h)
  have hform := (State.showJunction_leaves w n v).form
  obtain ⟨htj, hhot⟩ := State.showJunction_shows w (by omega : n < 64) v
  have heq : s.judgeJunction = (s.showJunction n v).judgeWarn v n := by rw [State.judgeJunction, h]; rfl
  rw [heq]
  exact ⟨(State.judgeWarn_keeps hform v n (apart_of_test (by decide))).trans htj,
    (State.judgeWarn_keeps hform v n (apart_of_test (by decide))).trans hhot, fun hv hc => State.judgeWarn_warns hform hv hc n⟩

/-- A field of a sensor is none of those judged. -/
theorem sensor_apart {l : List Fld} (hl : ∀ f ∈ l, f.off < 0x100100 ∨ 0x100200 ≤ f.off) {n : Nat} (hn : n < 64) {g : Fld}
    (hg : g ∈ sensorFields n) : ∀ f ∈ l, Fld.apart f g := fun f hf => by
  simp only [sensorFields, List.mem_cons, List.not_mem_nil, or_false] at hg
  have := hl f hf
  refine .inl ?_
  rcases hg with rfl | rfl <;> simp only [F.PWR_TEMP.TEMP, F.PWR_TEMP.VALID] <;> omega

theorem State.tempsOf_congr {s t : State} {a b : Nat} (hb : b ≤ 64) (h : ∀ n, n < 64 → ∀ g ∈ sensorFields n, t.fget g = s.fget g) :
    t.tempsOf a b = s.tempsOf a b := by
  unfold State.tempsOf
  refine List.filterMap_congr fun k hk => ?_
  have hlt : a + k < 64 := by have := List.mem_range.mp hk; omega
  have hn := h (a + k) hlt
  simp only [State.tempOf, State.bit, hn (F.PWR_TEMP.VALID (a + k)) (by simp [sensorFields]),
    hn (F.PWR_TEMP.TEMP (a + k)) (by simp [sensorFields])]
  rfl

/-- The state after a reading of the sensors, as the junction's judgement leaves it and what follows leaves it. -/
theorem temperatureRead_spec {s : State} (hwf : s.allWf = true) (temps : List (Nat × Int)) :
    ∃ t, exec (.temperatureRead temps) s = .next t ∧ State.Leaves blankPower (s.readSensors temps).judgeJunction t judgedFields :=
  ⟨_, rfl, State.judgeRest_leaves (State.judgeJunction_leaves (State.readSensors_writes (State.regsWf_of_allWf hwf) temps).form).form⟩

/-! ## The halt of a hot array (R309) -/

/-- Reports and halts of arrays change the sensors' fields of no array. -/
theorem State.hotArray_congr {s t : State} {n : Nat} (hn : n < 4) (h : ∀ k, k < 64 → ∀ g ∈ sensorFields k, t.fget g = s.fget g) :
    t.hotArray n = s.hotArray n := by
  unfold State.hotArray
  rw [Bool.eq_iff_iff, List.any_eq_true, List.any_eq_true]
  refine exists_congr fun k => and_congr_right fun hk => ?_
  have hlt : 10 * n + k < 64 := by have := List.mem_range.mp hk; omega
  have hf := h (10 * n + k) hlt
  rw [State.bit, State.bit, hf _ (by simp [sensorFields]), hf (F.PWR_TEMP.TEMP (10 * n + k)) (by simp [sensorFields])]

/-- The fields that the halt of a unit's arrays leaves: those of the sensors. -/
def State.SameSensors (s t : State) : Prop := ∀ k, k < 64 → ∀ g ∈ sensorFields k, t.fget g = s.fget g

theorem sensor_off {k : Nat} (hk : k < 64) {g : Fld} (hg : g ∈ sensorFields k) : 0x100100 ≤ g.off ∧ g.off < 0x100200 := by
  simp only [sensorFields, List.mem_cons, List.not_mem_nil, or_false] at hg
  rcases hg with rfl | rfl <;> simp only [F.PWR_TEMP.TEMP, F.PWR_TEMP.VALID] <;> omega

theorem State.SameSensors.fset {s t : State} (h : s.SameSensors t) (w : wordsWf 0 t.regs = true) {f : Fld} (fits : f.lo + f.width ≤ 32)
    (hoff : f.off < 0x100100 ∨ 0x100200 ≤ f.off) (v : Nat) : s.SameSensors (t.fset f v) := fun k hk g hg => by
  have := sensor_off hk hg
  rw [State.fget_fset_apart _ _ _ _ fits w (.inl (by omega)), h k hk g hg]

theorem State.haltUnit_sensors {s : State} (w : wordsWf 0 s.regs = true) (u : Nat) : s.SameSensors (s.haltUnit u) := by
  unfold State.haltUnit
  split
  · next t ht =>
    have hon : t.phase = .running u := (TowPhase.onUnit_iff _ _).mp (List.find?_some (p := fun x : Tow => x.phase.onUnit u) ht)
    split
    · exact fun _ _ _ _ => rfl
    · intro k hk g hg
      have hoff := sensor_off hk hg
      rw [← (State.leaveUnit_left w u).kept g (by omega)]
      exact State.fget_of_regs (by rw [State.count_regs, State.saveTow_frame w hon .ready]) g
  · exact fun _ _ _ _ => rfl

theorem State.setArray_writes {s : State} (w : wordsWf 0 s.regs = true) {n : Nat} (hn : n < 4) (st : Nat) :
    s.Writes (s.setArray n st) [F.ARRAY_STATUS.STATE n, paceField n] := by
  have hset := (State.Writes.refl w [F.ARRAY_STATUS.STATE n, paceField n]).fset (f := F.ARRAY_STATUS.STATE n) (by simp)
    (by simp [F.ARRAY_STATUS.STATE]) st
  unfold State.setArray
  dsimp only
  split
  · exact hset
  · exact hset.fset (by simp) (by simp only [paceField]; omega) 0

theorem State.arrayState_setArray {s : State} (w : wordsWf 0 s.regs = true) {n : Nat} (hn : n < 4) {st : Nat} (hst : st < 8) :
    (s.setArray n st).arrayState n = st := by
  have hset : (s.fset (F.ARRAY_STATUS.STATE n) st).fget (F.ARRAY_STATUS.STATE n) = st := by
    rw [State.fget_fset_self _ _ _ (by simp [F.ARRAY_STATUS.STATE]) w]
    exact Nat.mod_eq_of_lt hst
  unfold State.setArray
  dsimp only
  split
  · exact hset
  · rw [State.arrayState, State.fget_fset_apart _ _ _ _ (by simp only [paceField]; omega) (s.fset_wf _ _ w)
      (.inl (by simp only [paceField, F.ARRAY_STATUS.STATE]; omega))]
    exact hset

theorem State.arrayState_setArray_ne {s : State} (w : wordsWf 0 s.regs = true) {m n : Nat} (hm : m < 4) (hn : n < 4) (h : m ≠ n) (st : Nat) :
    (s.setArray m st).arrayState n = s.arrayState n :=
  (State.setArray_writes w hm st).fget fun f hf => by
    simp only [List.mem_cons, List.not_mem_nil, or_false] at hf
    refine .inl ?_
    rcases hf with rfl | rfl <;> simp only [paceField, F.ARRAY_STATUS.STATE] <;> omega

/-- One array of a unit is halted, for heat where it is hot. -/
def haltArray (s : State) (n : Nat) : State :=
  let s := s.setArray n 4
  if s.hotArray n then (s.fset F.PWR_THERM.HALTED (s.fget F.PWR_THERM.HALTED ||| 2 ^ n)).count 13 6 else s

/-- The arrays of a unit that a halt finds due. -/
def State.haltList (s : State) (u : Nat) : List Nat :=
  (s.unitArrays u).filter (fun n => s.haltDue n && decide (1 ≤ s.arrayState n ∧ s.arrayState n ≤ 3))

theorem State.haltArrays_eq {s : State} {u : Nat} (h : s.haltList u ≠ []) : s.haltArrays u = (s.haltList u).foldl haltArray (s.haltUnit u) :=
  if_neg h

/-- How array a stands in a halt: HALTED and marked for heat, unless it has yet to come. -/
structure State.Halting (s t : State) (a : Nat) (done : Prop) : Prop where
  form : wordsWf 0 t.regs = true
  sensors : s.SameSensors t
  done : done → t.arrayState a = 4 ∧ t.heatHalted a = true

theorem heatHalted_iff (s : State) (n : Nat) : s.heatHalted n = true ↔ (s.fget F.PWR_THERM.HALTED).testBit n = true := by
  rw [State.heatHalted, Nat.testBit_eq_decide_div_mod_eq]

theorem heatHalted_mark {s : State} (w : wordsWf 0 s.regs = true) {a n : Nat} (hn : n < 4) (h : n = a ∨ s.heatHalted a = true) (ha : a < 4) :
    (s.fset F.PWR_THERM.HALTED (s.fget F.PWR_THERM.HALTED ||| 2 ^ n)).heatHalted a = true := by
  rw [heatHalted_iff, State.fget_fset_self _ _ _ (by decide) w, Nat.testBit_mod_two_pow, Nat.testBit_or]
  rw [heatHalted_iff] at h
  have hwidth : F.PWR_THERM.HALTED.width = 4 := rfl
  rcases h with rfl | h
  · simp [hwidth, hn, Nat.testBit_two_pow_self]
  · simp [hwidth, ha, h]

theorem State.Halting.step {s t : State} {a n : Nat} {done : Prop} (h : s.Halting t a done) (ha : a < 4) (hn : n < 4)
    (hot : s.hotArray a = true) : s.Halting (haltArray t n) a (done ∨ n = a) := by
  have hset := State.setArray_writes h.form hn 4
  have hsens : s.SameSensors (t.setArray n 4) := fun k hk g hg => by
    have hoff := sensor_off hk hg
    rw [hset.fget fun f hf => .inl ?_, h.sensors k hk g hg]
    simp only [List.mem_cons, List.not_mem_nil, or_false] at hf
    rcases hf with rfl | rfl <;> simp only [paceField, F.ARRAY_STATUS.STATE] <;> omega
  have harray : done ∨ n = a → (t.setArray n 4).arrayState a = 4 := fun hd => by
    by_cases e : n = a
    · exact e ▸ State.arrayState_setArray h.form hn (by decide)
    · rw [State.arrayState_setArray_ne h.form hn ha e]
      exact (h.done (hd.resolve_right e)).1
  have hheat : done → (t.setArray n 4).heatHalted a = true := fun hd => by
    rw [State.heatHalted, hset.fget fun f hf => .inl ?_]
    · exact (h.done hd).2
    · simp only [List.mem_cons, List.not_mem_nil, or_false] at hf
      rcases hf with rfl | rfl <;> simp only [paceField, F.ARRAY_STATUS.STATE, F.PWR_THERM.HALTED] <;> omega
  unfold haltArray
  dsimp only
  split
  · refine ⟨State.fset_wf _ _ _ hset.form, hsens.fset hset.form (by decide) (.inl (by decide)) _, fun hd => ⟨?_, ?_⟩⟩
    · refine Eq.trans (State.fget_fset_apart _ _ _ _ (by decide) hset.form (.inl ?_)) (harray hd)
      simp only [F.ARRAY_STATUS.STATE, F.PWR_THERM.HALTED]; omega
    · exact heatHalted_mark hset.form hn (hd.symm.imp id hheat) ha
  · next hcold =>
    have hne : n ≠ a := by
      rintro rfl
      exact hcold ((State.hotArray_congr ha hsens).trans hot)
    exact ⟨hset.form, hsens, fun hd => ⟨harray hd, hheat (hd.resolve_right hne)⟩⟩

theorem State.halting_foldl {s : State} {a : Nat} (ha : a < 4) (hot : s.hotArray a = true) (l : List Nat) (hl : ∀ n ∈ l, n < 4) :
    ∀ (t : State) (done : Prop), s.Halting t a done → s.Halting (l.foldl haltArray t) a (done ∨ a ∈ l) := by
  induction l with
  | nil => exact fun t done h => ⟨h.form, h.sensors, fun hd => h.done (hd.resolve_right List.not_mem_nil)⟩
  | cons n l ih =>
    intro t done h
    have hrest := ih (fun m hm => hl m (List.mem_cons_of_mem n hm)) _ _ (h.step ha (hl n List.mem_cons_self) hot)
    exact ⟨hrest.form, hrest.sensors, fun hd => hrest.done (by
      rcases hd with hd | hd
      · exact .inl (.inl hd)
      · rcases List.mem_cons.mp hd with rfl | hd
        · exact .inl (.inr rfl)
        · exact .inr hd)⟩

theorem State.haltArrays_hot {s : State} (w : wordsWf 0 s.regs = true) {a : Nat} (ha : a < 4)
    (hot : s.hotArray a = true) (hlow : 1 ≤ s.arrayState a) (hhigh : s.arrayState a ≤ 3) :
    (s.haltArrays a).arrayState a = 4 ∧ (s.haltArrays a).heatHalted a = true := by
  have hmem : a ∈ s.haltList a := by
    refine List.mem_filter.mpr ⟨s.mem_unitArrays ha, ?_⟩
    simp [State.haltDue, hot, hlow, hhigh]
  rw [State.haltArrays_eq (List.ne_nil_of_mem hmem)]
  have hstart : s.Halting (s.haltUnit a) a False := ⟨(State.haltUnit_halts w a).form, State.haltUnit_sensors w a, False.elim⟩
  exact (State.halting_foldl ha hot (s.haltList a) (fun n hn => s.unitArrays_lt ha (List.mem_filter.mp hn).1) _ _ hstart).done
    (.inr hmem)

theorem exec_thermalHalt {s : State} {a : Nat} (ha : a < 4) (hlead : s.unitLead a = true) (hot : s.hotArray a = true)
    (hrest : s.atRest a = true) : exec (.thermalHalt a) s = .next (s.haltArrays a).judgeAllHalted := by
  have hwf : Instr.wf (.thermalHalt a) = true := by simpa [Instr.wf, okUnit] using ha
  have hhead : (s.unitArrays a).head? = some a := by simpa [State.unitLead] using hlead
  show execThermalHalt a s = _
  rw [execThermalHalt, hwf, if_pos (by simp [hot, hrest]), hhead]
  rfl

/-! ## The stay in L1 (R302, R309, R310) -/

/-- What the entry to L1 leaves before the rung is entered: steering and memories, every register below the arrays', and tows at rest. -/
structure State.Gates (s t : State) : Prop where
  form : wordsWf 0 t.regs = true
  steer : t.steer = s.steer
  mem : t.mem = s.mem
  kept : ∀ g : Fld, g.off < 0x700000 → t.fget g = s.fget g
  resting : (∀ x ∈ s.tows.tows, x.inBarge = false) → ∀ x ∈ t.tows.tows, x.inBarge = false

namespace State.Gates

variable {s t u : State}

theorem refl (w : wordsWf 0 s.regs = true) : s.Gates s := ⟨w, rfl, rfl, fun _ _ => rfl, id⟩

theorem trans (h : s.Gates t) (k : t.Gates u) : s.Gates u :=
  ⟨k.form, k.steer.trans h.steer, k.mem.trans h.mem, fun g hg => (k.kept g hg).trans (h.kept g hg), fun hx => k.resting (h.resting hx)⟩

/-- A step outside the registers, the steering, the memories and the tows. -/
theorem step (h : s.Gates t) (hregs : u.regs = t.regs) (hsteer : u.steer = t.steer) (hmem : u.mem = t.mem) (htows : u.tows = t.tows) :
    s.Gates u :=
  h.trans ⟨by rw [hregs]; exact h.form, hsteer, hmem, fun g _ => State.fget_of_regs hregs g, by rw [htows]; exact id⟩

theorem fset (h : s.Gates t) {f : Fld} (fits : f.lo + f.width ≤ 32) (hoff : 0x700000 ≤ f.off) (v : Nat) : s.Gates (t.fset f v) :=
  h.trans ⟨t.fset_wf f v h.form, rfl, rfl, fun g hg => t.fget_fset_apart f g v fits h.form (.inl (by omega)), id⟩

theorem foldl {α : Type} {f : State → α → State} {is : List α} (h : s.Gates t)
    (step : ∀ u : State, wordsWf 0 u.regs = true → ∀ i ∈ is, u.Gates (f u i)) : s.Gates (is.foldl f t) :=
  List.foldlRecOn (motive := fun u => s.Gates u) is f h fun _ hu i hi => hu.trans (step _ hu.form i hi)

end State.Gates

/-- A tow saved for L1. -/
def haltedTow (t : Tow) : Tow :=
  if t.held then { t.unstage with phase := .stopped, resumed := true, heldWrites := t.heldWrites ++ t.drain, drain := []
                                  unmet := TowPhase.halted.wait }
  else { t.unstage with phase := .halted, resumed := true }

theorem haltedTow_inBarge (t : Tow) : (haltedTow t).inBarge = false := by unfold haltedTow; split <;> rfl

theorem haltedTow_rests (space tag : Nat) {t : Tow} (h : t.inBarge = false) :
    (if t.space = space ∧ t.tag = tag then haltedTow t else t).inBarge = false := by
  split
  · exact haltedTow_inBarge t
  · exact h

section
variable {s : State} (w : wordsWf 0 s.regs = true)
include w

theorem State.dropSettle_gates (id : Nat) : s.Gates (s.dropSettle id) := by
  have h := State.freeUnits_left w (fun t => decide (t.settle = some id))
  unfold State.dropSettle
  dsimp only
  generalize s.freeUnits (fun t => decide (t.settle = some id)) = u at h
  have htows : u.tows.tows = s.tows.tows := by rw [h.frame]
  refine ⟨h.form, ?_, ?_, h.kept, fun hx x hm => hx x ?_⟩
  · show u.steer = _
    rw [h.frame]
  · show u.mem = _
    rw [h.frame]
  · rw [← htows]; exact (List.mem_filter.mp hm).1

theorem State.abortPending_gates {c : Cycle} (hc : c.berth = true) (reason : Nat) : s.Gates (s.abortPending c reason) := by
  have hcycle : s.Gates (s.dropCycle c.id) := (State.Gates.refl w).step rfl rfl rfl rfl
  have hdrop := hcycle.trans (State.dropSettle_gates (s := s.dropCycle c.id) w c.id)
  have hbufs : s.Gates (((s.dropCycle c.id).dropSettle c.id).dropBufs c.axes) := hdrop.step rfl rfl rfl rfl
  have hsent := hbufs.step (u := (((s.dropCycle c.id).dropSettle c.id).dropBufs c.axes).sendJournal (.abort c.id)) (by simp) (by simp)
    (by simp) (by simp)
  have hstand := hsent.step (u := ((((s.dropCycle c.id).dropSettle c.id).dropBufs c.axes).sendJournal (.abort c.id)).writeStanding)
    (by simp [State.writeStanding]) (by simp [State.writeStanding]) (by simp [State.writeStanding]) (by simp [State.writeStanding])
  unfold State.abortPending
  simp only [hc, if_true]
  exact hstand.step rfl rfl rfl rfl

theorem State.haltTows_gates : s.Gates s.haltTows := by
  refine (State.Gates.refl w).foldl fun u wu t _ => ?_
  split
  · next ht =>
    simp only [Bool.and_eq_true] at ht
    cases hp : t.phase with
    | running k =>
      have hleft := State.leaveUnit_left wu k
      have hsave : u.saveTow t .halted = (u.leaveUnit k).modTow t.space t.tag haltedTow := by
        rw [State.saveTow, hp]
        rfl
      have htows : (u.leaveUnit k).tows.tows = u.tows.tows := by rw [hleft.frame]
      refine ⟨?_, ?_, ?_, fun g hg => ?_, fun hx x hm => ?_⟩
      · rw [State.count_regs, hsave]; exact hleft.form
      · rw [State.count_steer, hsave]; show (u.leaveUnit k).steer = _; rw [hleft.frame]
      · rw [State.count_mem, hsave]; show (u.leaveUnit k).mem = _; rw [hleft.frame]
      · rw [← hleft.kept g hg]
        exact State.fget_of_regs (by rw [State.count_regs, hsave]; rfl) g
      · rw [State.count_tows, hsave] at hm
        obtain ⟨y, hy, rfl⟩ := List.mem_map.mp hm
        rw [htows] at hy
        exact haltedTow_rests t.space t.tag (hx y hy)
    | _ => rw [hp] at ht; simp [TowPhase.isRunning] at ht
  · exact State.Gates.refl wu

theorem State.setArray_gates {n : Nat} (hn : n < 4) (st : Nat) : s.Gates (s.setArray n st) := by
  have hw := State.setArray_writes w hn st
  refine ⟨hw.form, by rw [hw.frame], by rw [hw.frame], fun g hg => hw.fget fun f hf => .inl ?_, by rw [hw.frame]; exact id⟩
  simp only [List.mem_cons, List.not_mem_nil, or_false] at hf
  rcases hf with rfl | rfl <;> simp only [paceField, F.ARRAY_STATUS.STATE] <;> omega

end

/-- One array is gated unless a barge runs on it. -/
def gateArray (s : State) (n : Nat) : State :=
  if s.arrayState n = 6 then s
  else match (s.unitArrays n).head?.bind s.runner with
    | some t => if t.inBarge then s else s.setArray n 0
    | none => s.setArray n 0

theorem State.gateArrays_eq (s : State) : s.gateArrays = (List.range 4).foldl gateArray s := rfl

theorem State.runner_mem {s : State} {u : Nat} {t : Tow} (h : s.runner u = some t) : t ∈ s.tows.tows := List.mem_of_find?_eq_some h

theorem gateArray_off {s : State} (n : Nat) (hrest : ∀ x ∈ s.tows.tows, x.inBarge = false) : gateArray s n = if s.arrayState n = 6 then s else s.setArray n 0 := by
  unfold gateArray
  split
  · rfl
  · split
    · next t ht =>
      obtain ⟨u, -, hu⟩ := Option.bind_eq_some_iff.mp ht
      rw [hrest t (State.runner_mem hu)]
      rfl
    · rfl

section
variable {s : State} (w : wordsWf 0 s.regs = true) {n : Nat} (hn : n < 4)
include w hn

theorem gateArray_gates : s.Gates (gateArray s n) := by
  unfold gateArray
  split
  · exact State.Gates.refl w
  · split
    · split
      · exact State.Gates.refl w
      · exact State.setArray_gates w hn 0
    · exact State.setArray_gates w hn 0

theorem gateArray_self (hrest : ∀ x ∈ s.tows.tows, x.inBarge = false) : (gateArray s n).arrayState n = 0 ∨ (gateArray s n).arrayState n = 6 := by
  rw [gateArray_off n hrest]
  split
  · next h => exact .inr h
  · exact .inl (State.arrayState_setArray w hn (by decide))

theorem gateArray_ne (hrest : ∀ x ∈ s.tows.tows, x.inBarge = false) {m : Nat} (hm : m < 4) (h : n ≠ m) :
    (gateArray s n).arrayState m = s.arrayState m := by
  rw [gateArray_off n hrest]
  split
  · rfl
  · exact State.arrayState_setArray_ne w hn hm h 0

end

theorem State.gateArrays_gates {s : State} (w : wordsWf 0 s.regs = true) : s.Gates s.gateArrays :=
  (State.Gates.refl w).foldl (f := gateArray) fun _ wu _ hn => gateArray_gates wu (List.mem_range.mp hn)

/-- Once the fold has come to array m, it is GATED or OUT_OF_SERVICE. -/
theorem gateArrays_off {m : Nat} (hm : m < 4) (l : List Nat) (hl : ∀ n ∈ l, n < 4) (s : State) (w : wordsWf 0 s.regs = true)
    (hrest : ∀ x ∈ s.tows.tows, x.inBarge = false) (h : (s.arrayState m = 0 ∨ s.arrayState m = 6) ∨ m ∈ l) :
    (l.foldl gateArray s).arrayState m = 0 ∨ (l.foldl gateArray s).arrayState m = 6 := by
  induction l generalizing s with
  | nil => exact h.resolve_right List.not_mem_nil
  | cons n l ih =>
    have hn := hl n List.mem_cons_self
    have hg := gateArray_gates w hn
    refine ih (fun k hk => hl k (List.mem_cons_of_mem n hk)) _ hg.form (hg.resting hrest) ?_
    by_cases e : n = m
    · subst e; exact .inl (gateArray_self w hn hrest)
    · rw [gateArray_ne w hn hrest hm e]
      exact h.imp_right fun hmem => (List.mem_cons.mp hmem).resolve_left (Ne.symm e)

/-- The machine as L1 is entered, before what the rung loses is lost. -/
def State.gateL1 (s : State) : State :=
  let u := (s.lock.cycles.filter (fun c => c.berth)).foldl (fun s c => s.abortPending c 0) s
  (({ u with fabric := { u.fabric with pass := none } }.haltTows.gateArrays).fset F.AUC_STATUS.IN_SERVICE 0).fset F.AUC_STATUS.BUSY 0

theorem State.enterL1_eq (s : State) : s.enterL1 = s.gateL1.descend 1 := rfl

section
variable {s : State} (w : wordsWf 0 s.regs = true)
include w

theorem State.gateL1_gates : s.Gates s.gateL1 ∧ ((∀ x ∈ s.tows.tows, x.inBarge = false) → ∀ n, n < 4 →
    s.gateL1.arrayState n = 0 ∨ s.gateL1.arrayState n = 6) := by
  have habort : s.Gates ((s.lock.cycles.filter (fun c => c.berth)).foldl (fun s c => s.abortPending c 0) s) :=
    (State.Gates.refl w).foldl fun u wu c hc => State.abortPending_gates wu (by simpa using (List.mem_filter.mp hc).2) 0
  unfold State.gateL1
  dsimp only
  generalize (s.lock.cycles.filter (fun c => c.berth)).foldl (fun s c => s.abortPending c 0) s = u at habort
  have hpass : s.Gates { u with fabric := { u.fabric with pass := none } } := habort.step rfl rfl rfl rfl
  generalize ({ u with fabric := { u.fabric with pass := none } } : State) = v at hpass
  have htows := hpass.trans (State.haltTows_gates hpass.form)
  have hgate := htows.trans (State.gateArrays_gates htows.form)
  refine ⟨(hgate.fset (by decide) (by decide) 0).fset (by decide) (by decide) 0, fun hrest n hn => ?_⟩
  have hoff := gateArrays_off hn (List.range 4) (fun m hm => List.mem_range.mp hm) v.haltTows htows.form (htows.resting hrest)
    (.inr (List.mem_range.mpr hn))
  have hsame : ((v.haltTows.gateArrays.fset F.AUC_STATUS.IN_SERVICE 0).fset F.AUC_STATUS.BUSY 0).arrayState n =
      v.haltTows.gateArrays.arrayState n := by
    have happ : ∀ f : Fld, f.off = 0x800004 → Fld.apart f (F.ARRAY_STATUS.STATE n) := fun f hf =>
      .inl (by rw [hf]; simp only [F.ARRAY_STATUS.STATE]; omega)
    rw [State.arrayState, State.fget_fset_apart _ _ _ 0 (by decide) (State.fset_wf _ _ _ hgate.form) (happ _ rfl),
      State.fget_fset_apart _ _ _ 0 (by decide) hgate.form (happ _ rfl), State.arrayState]
  rw [hsame]
  exact hoff

omit w in
/-- The state in which a rung has been entered. -/
theorem State.entered_eq (r : Nat) : s.entered r =
    ((((s.fset F.PWR_RUNG_STATE.RUNG r).withPower { s.power with since := s.time.tb3 }).showRails.event 8
      (le 1 s.rung ++ le 1 r ++
        le 1 (((s.fset F.PWR_RUNG_STATE.RUNG r).withPower { s.power with since := s.time.tb3 }).showRails.fget
          F.PWR_RUNG_STATE.CAUSE))).count 13 8) := rfl

theorem State.showRails_leaves : State.Leaves blankPower s s.showRails [F.PWR_RUNG_STATE.RUNG, F.PWR_RAILS.RAIL_OK] :=
  (State.Leaves.refl blankPower w _).fset (by simp) (by decide) _

theorem State.entered_leaves (r : Nat) : State.Leaves blankPower s (s.entered r) [F.PWR_RUNG_STATE.RUNG, F.PWR_RAILS.RAIL_OK] := by
  have hset := ((State.Leaves.refl blankPower w [F.PWR_RUNG_STATE.RUNG, F.PWR_RAILS.RAIL_OK]).fset (f := F.PWR_RUNG_STATE.RUNG)
    (by simp) (by decide) r).power { s.power with since := s.time.tb3 }
  rw [State.entered_eq]
  exact ((hset.trans (State.showRails_leaves hset.form)).event 8 _).count 13 8 1

theorem State.rung_entered {r : Nat} (hr : r < 8) : (s.entered r).rung = r := by
  have hw : wordsWf 0 ((s.fset F.PWR_RUNG_STATE.RUNG r).withPower { s.power with since := s.time.tb3 }).regs = true := s.fset_wf _ _ w
  have hrails : ((s.fset F.PWR_RUNG_STATE.RUNG r).withPower { s.power with since := s.time.tb3 }).showRails.fget F.PWR_RUNG_STATE.RUNG = r := by
    refine (State.fget_fset_apart _ _ _ _ (by decide) hw (Fld.apart_of_test (by decide))).trans ?_
    exact (State.fget_fset_self s _ r (by decide) w).trans (Nat.mod_eq_of_lt hr)
  rw [State.entered_eq]
  exact (State.fget_of_regs (by simp) _).trans hrails

/-- What the descent to L1 leaves of a field that L1 keeps (R14). -/
theorem State.fget_descendOne {f : Fld} (hkept : f.keptBy 0 1 = true)
    (hf : ∀ g ∈ [F.PWR_RUNG_STATE.RUNG, F.PWR_RAILS.RAIL_OK] ++ logFields, Fld.apart g f) : (s.descend 1).fget f = s.fget f := by
  have ha := State.after_wf w 0 1
  rw [State.descend, (State.entered_leaves (State.regain_wf ha 0 1) 1).fget hf, State.fget_regain_kept ha hkept,
    State.fget_after_kept w hkept]

theorem State.descendOne_form : wordsWf 0 (s.descend 1).regs = true :=
  (State.entered_leaves (State.regain_wf (State.after_wf w 0 1) 0 1) 1).form

theorem State.descendOne_steer : (s.descend 1).steer = s.steer := by
  have h := (State.entered_leaves (State.regain_wf (State.after_wf w 0 1) 0 1) 1).get State.steer
  refine Eq.trans h ?_
  show ((s.after 0 1).regain 0 1).steer = s.steer
  rw [State.regain, State.reimage_frame]
  rfl

theorem State.descendOne_mem : (s.descend 1).mem = s.mem := by
  have h := (State.entered_leaves (State.regain_wf (State.after_wf w 0 1) 0 1) 1).get State.mem
  refine Eq.trans h ?_
  show ((s.after 0 1).regain 0 1).mem = s.mem
  rw [State.regain, State.reimage_frame]
  show s.mem.after 0 1 _ = s.mem
  simp [Mem.after, keeps, keepOr]

theorem State.rung_descendOne : (s.descend 1).rung = 1 := State.rung_entered (State.regain_wf (State.after_wf w 0 1) 0 1) (by decide)

end

theorem stateFields_kept {n : Nat} (hn : n < 4) : (F.ARRAY_STATUS.STATE n).keptBy 0 1 = true ∧
    ∀ g ∈ [F.PWR_RUNG_STATE.RUNG, F.PWR_RAILS.RAIL_OK] ++ logFields, Fld.apart g (F.ARRAY_STATUS.STATE n) := by
  have hcase : n = 0 ∨ n = 1 ∨ n = 2 ∨ n = 3 := by omega
  rcases hcase with rfl | rfl | rfl | rfl <;> exact ⟨by decide, apart_of_test (by decide)⟩

/-- The machine as THERMAL_L1_ENTRY brings it to L1. -/
def State.heatMove (s : State) : State :=
  (((s.withPower { s.power with moving := false, afterHeat := if s.power.cmd.isSome then some s.power.goal else none }).fset
    F.PWR_RUNG_STATE.CAUSE 2).fset F.PWR_RUNG_STATE.MOVING 0)

theorem exec_thermalL1Entry {s : State} {w : Nat} (hhot : s.power.hotSince = some w) (hrung : s.rung = 0) (hlong : w + 50000000 ≤ s.time.tb3)
    (hheld : s.held = false) (hberth : s.berthRuns = false) :
    exec .thermalL1Entry s = .next (((s.heatMove.gateL1.descend 1).fset F.PWR_THERM.THERM_RUNG 1).count 13 7) := by
  show execThermalL1Entry s = _
  rw [execThermalL1Entry, hhot]
  exact congrArg Host.Outcome.next (if_pos ⟨hrung, hlong, by simp [hheld], by simp [hberth]⟩)

/-- The machine that rises again after a stay for heat. -/
def State.heatRise (s : State) : State :=
  ((((((s.fset F.PWR_THERM.THERM_RUNG 0).withPower { s.power with afterHeat := none, hotSince := none }).fset F.PWR_WAKE.LAST 5).count 13 10).withPower
    { s.power with afterHeat := none, hotSince := none, goal := s.power.afterHeat.getD 0, moving := true }).fset
      F.PWR_RUNG_STATE.MOVING 1).fset F.PWR_RUNG_STATE.CAUSE 2

/-- What the rise sets: nothing of the fields but these. -/
structure State.Rises (s t : State) : Prop where
  therm : t.fget F.PWR_THERM.THERM_RUNG = 0
  last : t.fget F.PWR_WAKE.LAST = 5
  cause : t.fget F.PWR_RUNG_STATE.CAUSE = 2
  moving : t.fget F.PWR_RUNG_STATE.MOVING = 1
  rung : t.rung = s.rung

theorem State.heatRise_rises {s : State} (w : wordsWf 0 s.regs = true) : s.Rises s.heatRise := by
  have h1 : State.Leaves blankPower s (s.fset F.PWR_THERM.THERM_RUNG 0) [F.PWR_THERM.THERM_RUNG] :=
    (State.Leaves.refl _ w _).fset (by simp) (by decide) 0
  have v1 : (s.fset F.PWR_THERM.THERM_RUNG 0).fget F.PWR_THERM.THERM_RUNG = 0 := State.fget_fset_self s _ 0 (by decide) w
  unfold State.heatRise
  generalize s.fset F.PWR_THERM.THERM_RUNG 0 = t at h1 v1 ⊢
  have h2 := (State.Leaves.refl blankPower h1.form []).power { s.power with afterHeat := none, hotSince := none }
  generalize t.withPower { s.power with afterHeat := none, hotSince := none } = u at h2 ⊢
  have h3 : State.Leaves blankPower u (u.fset F.PWR_WAKE.LAST 5) [F.PWR_WAKE.LAST] := (State.Leaves.refl _ h2.form _).fset (by simp) (by decide) 5
  have v3 : (u.fset F.PWR_WAKE.LAST 5).fget F.PWR_WAKE.LAST = 5 := State.fget_fset_self u _ 5 (by decide) h2.form
  generalize u.fset F.PWR_WAKE.LAST 5 = x at h3 v3 ⊢
  have h4 := ((State.Leaves.refl blankPower h3.form []).count 13 10 1).power
    { s.power with afterHeat := none, hotSince := none, goal := s.power.afterHeat.getD 0, moving := true }
  generalize (x.count 13 10).withPower
    { s.power with afterHeat := none, hotSince := none, goal := s.power.afterHeat.getD 0, moving := true } = y at h4 ⊢
  have h5 : State.Leaves blankPower y (y.fset F.PWR_RUNG_STATE.MOVING 1) [F.PWR_RUNG_STATE.MOVING] :=
    (State.Leaves.refl _ h4.form _).fset (by simp) (by decide) 1
  have v5 : (y.fset F.PWR_RUNG_STATE.MOVING 1).fget F.PWR_RUNG_STATE.MOVING = 1 := State.fget_fset_self y _ 1 (by decide) h4.form
  generalize y.fset F.PWR_RUNG_STATE.MOVING 1 = z at h5 v5 ⊢
  have h6 : State.Leaves blankPower z (z.fset F.PWR_RUNG_STATE.CAUSE 2) [F.PWR_RUNG_STATE.CAUSE] :=
    (State.Leaves.refl _ h5.form _).fset (by simp) (by decide) 2
  have v6 : (z.fset F.PWR_RUNG_STATE.CAUSE 2).fget F.PWR_RUNG_STATE.CAUSE = 2 := State.fget_fset_self z _ 2 (by decide) h5.form
  generalize z.fset F.PWR_RUNG_STATE.CAUSE 2 = r at h6 v6 ⊢
  refine ⟨?_, ?_, v6, (h6.fget (apart_of_test (by decide))).trans v5, ?_⟩
  · rw [h6.fget (apart_of_test (by decide)), h5.fget (apart_of_test (by decide)), h4.fget (apart_of_test (by decide)),
      h3.fget (apart_of_test (by decide)), h2.fget (apart_of_test (by decide)), v1]
  · rw [h6.fget (apart_of_test (by decide)), h5.fget (apart_of_test (by decide)), h4.fget (apart_of_test (by decide)), v3]
  · rw [State.rung, h6.fget (apart_of_test (by decide)), h5.fget (apart_of_test (by decide)), h4.fget (apart_of_test (by decide)),
      h3.fget (apart_of_test (by decide)), h2.fget (apart_of_test (by decide)), h1.fget (apart_of_test (by decide)), State.rung]

theorem exec_thermalRecovery {s : State} (w : wordsWf 0 s.regs = true) (htherm : s.fget F.PWR_THERM.THERM_RUNG = 1) (hcool : s.cooled = true)
    (hrung : s.rung = 1) (hheld : s.held = false) (hgoal : s.power.afterHeat.getD 0 ≠ 1) :
    exec .thermalRecovery s = .next s.heatRise := by
  have hr := (State.heatRise_rises w).rung
  have hstay : ¬ (s.heatRise.power.moving = true ∧ s.heatRise.rung = s.heatRise.power.goal) := fun h =>
    hgoal (by rw [hr, hrung] at h; exact h.2.symm)
  have hgo : (s.bit F.PWR_THERM.THERM_RUNG && s.cooled && decide (s.rung = 1) && !s.held) = true := by
    simp [State.bit, htherm, hcool, hrung, hheld]
  show execThermalRecovery s = _
  rw [execThermalRecovery, if_pos hgo]
  exact congrArg Host.Outcome.next (if_neg hstay)

/-! ## The statement -/

/-- Settles O52: what follows a judgement of the readings writes neither a sensor nor the junction's fields; an array of a hot unit is
halted and marked by its own step of the fold and by no other undone; L1 keeps the fields that its entry has set. -/
theorem temperatures : Obligations.Temperatures := by
  unfold Obligations.Temperatures
  refine ⟨fun s temps hwf => ?_, fun s a hwf ha hlead hot hrest hlow hhigh => ?_, fun s v hwf hhot hrung hlong hheld hberth => ?_,
    fun s hwf htherm hcool hrung hheld hgoal => ?_⟩
  · have w := State.regsWf_of_allWf hwf
    have hw := State.readSensors_writes w temps
    obtain ⟨t, hexec, ht⟩ := temperatureRead_spec hwf temps
    have hj := State.judgeJunction_leaves hw.form
    have hall := (hj.mono (m := junctionFields ++ judgedFields) (by simp +contextual)).trans (ht.mono (by simp +contextual))
    have hsens : ∀ n, n < 64 → ∀ g ∈ sensorFields n, t.fget g = (s.readSensors temps).fget g := fun n hn g hg =>
      hall.fget (sensor_apart (by decide) hn hg)
    refine ⟨t, hexec, fun n hn => ⟨fun p hp => ?_, fun hp => ?_⟩, fun n v hv => ?_, ?_, ?_, ?_, ?_⟩
    · rw [hsens n hn _ (by simp [sensorFields]), hsens n hn (F.PWR_TEMP.VALID n) (by simp [sensorFields]),
        State.readSensors_temp w temps hn, State.readSensors_valid w temps hn, hp]
      exact ⟨rfl, rfl⟩
    · rw [hsens n hn (F.PWR_TEMP.TEMP n) (by simp [sensorFields]), hsens n hn (F.PWR_TEMP.VALID n) (by simp [sensorFields]),
        State.readSensors_temp w temps hn, State.readSensors_valid w temps hn, hp]
      exact ⟨rfl, rfl⟩
    · rw [State.tempsOf_congr (by decide) hsens] at hv
      obtain ⟨htj, hhotf, hwarn⟩ := State.judgeJunction_shows hw.form hv
      refine ⟨(ht.fget (apart_of_test (by decide))).trans htj, (ht.fget (apart_of_test (by decide))).trans hhotf, fun h hc => ?_⟩
      exact (ht.fget (apart_of_test (by decide))).trans (hwarn h (by rw [hw.frame]; exact hc))
    · exact (hall.get State.steer).trans (by rw [hw.frame]; rfl)
    · exact (hall.get State.mem).trans (by rw [hw.frame]; rfl)
    · exact (hall.get State.lock).trans (by rw [hw.frame]; rfl)
    · exact (hall.get State.tows).trans (by rw [hw.frame]; rfl)
  · have w := State.regsWf_of_allWf hwf
    have hh := State.haltArrays_halts w ha
    obtain ⟨hst, hheat⟩ := State.haltArrays_hot w ha hot hlow hhigh
    exact ⟨_, exec_thermalHalt ha hlead hot hrest, hst, hheat, by show (s.haltArrays a).steer = _; rw [hh.rest],
      by show (s.haltArrays a).mem = _; rw [hh.rest], by show (s.haltArrays a).lock = _; rw [hh.rest]⟩
  · have w := State.regsWf_of_allWf hwf
    have hwp : wordsWf 0 (s.withPower { s.power with moving := false, afterHeat := if s.power.cmd.isSome then some s.power.goal else none }).regs
      = true := w
    have hm : wordsWf 0 s.heatMove.regs = true := State.fset_wf _ _ _ (State.fset_wf _ _ _ hwp)
    have hmoving : s.heatMove.fget F.PWR_RUNG_STATE.MOVING = 0 := State.fget_fset_self _ _ 0 (by decide) (State.fset_wf _ _ _ hwp)
    have hcause : s.heatMove.fget F.PWR_RUNG_STATE.CAUSE = 2 :=
      (State.fget_fset_apart _ _ _ 0 (by decide) (State.fset_wf _ _ _ hwp) (Fld.apart_of_test (by decide))).trans
        (State.fget_fset_self _ _ 2 (by decide) hwp)
    obtain ⟨hg, hoff⟩ := State.gateL1_gates hm
    have hd := State.descendOne_form hg.form
    have hfield : ∀ f : Fld, Fld.apart F.PWR_THERM.THERM_RUNG f →
        ((s.heatMove.gateL1.descend 1).fset F.PWR_THERM.THERM_RUNG 1).fget f = (s.heatMove.gateL1.descend 1).fget f :=
      fun f hf => State.fget_fset_apart _ _ _ 1 (by decide) hd hf
    refine ⟨_, exec_thermalL1Entry hhot hrung hlong hheld hberth, ?_, ?_, ?_, ?_, fun hrest n hn => ?_, ?_, ?_⟩
    · exact (hfield _ (Fld.apart_of_test (by decide))).trans (State.rung_descendOne hg.form)
    · exact State.fget_fset_self _ _ 1 (by decide) hd
    · exact (hfield _ (Fld.apart_of_test (by decide))).trans
        ((State.fget_descendOne hg.form (by decide) (apart_of_test (by decide))).trans ((hg.kept _ (by decide)).trans hcause))
    · exact (hfield _ (Fld.apart_of_test (by decide))).trans
        ((State.fget_descendOne hg.form (by decide) (apart_of_test (by decide))).trans ((hg.kept _ (by decide)).trans hmoving))
    · obtain ⟨hk, hap⟩ := stateFields_kept hn
      have heq : ((s.heatMove.gateL1.descend 1).fset F.PWR_THERM.THERM_RUNG 1).fget (F.ARRAY_STATUS.STATE n) =
          s.heatMove.gateL1.arrayState n :=
        (hfield _ (.inl (by simp only [F.ARRAY_STATUS.STATE, F.PWR_THERM.THERM_RUNG]; omega))).trans (State.fget_descendOne hg.form hk hap)
      show State.fget _ _ = 0 ∨ State.fget _ _ = 6
      rw [show ((((s.heatMove.gateL1.descend 1).fset F.PWR_THERM.THERM_RUNG 1).count 13 7).fget (F.ARRAY_STATUS.STATE n)) = _ from heq]
      exact hoff hrest n hn
    · exact (State.descendOne_steer hg.form).trans (hg.steer.trans rfl)
    · exact (State.descendOne_mem hg.form).trans (hg.mem.trans rfl)
  · have w := State.regsWf_of_allWf hwf
    have hr := State.heatRise_rises w
    exact ⟨_, exec_thermalRecovery w htherm hcool hrung hheld hgoal, hr.therm, hr.last, hr.cause, hr.moving, rfl, rfl⟩

end Sys2Proof.Machine
end

section
/-!
PROOFS. Tether lanes and connectors (R198, R236, R373, R374): which lanes carry frames after a lane is lost or gained, and what a
connector's light leaves alone.
-/

namespace Sys2Proof.Machine

/-! ## Bits of a lane set -/

theorem laneBit_testBit (v n : Nat) : laneBit v n = v.testBit n := by
  rw [laneBit, Nat.testBit_eq_decide_div_mod_eq]

theorem withBit_testBit (v n : Nat) (on : Bool) (m : Nat) : (withBit v n on).testBit m = if m = n then on else v.testBit m := by
  have hsplit := fldPut_split v n 1 on.toNat
  have hbit : on.toNat % 2 ^ 1 = on.toNat := by cases on <;> rfl
  have hput : withBit v n on = v % 2 ^ n + 2 ^ n * (on.toNat + 2 ^ 1 * (v / 2 ^ n / 2 ^ 1)) := by
    rw [hbit] at hsplit
    rw [← hsplit]
    unfold withBit
    cases on <;> simp
  rw [hput, Nat.add_comm (v % 2 ^ n), Nat.testBit_two_pow_mul_add _ (Nat.mod_lt _ (Nat.two_pow_pos n))]
  by_cases hlt : m < n
  · rw [if_pos hlt, if_neg (by omega), Nat.testBit_mod_two_pow]; simp [hlt]
  · rw [if_neg hlt, Nat.add_comm on.toNat, Nat.testBit_two_pow_mul_add _ (by cases on <;> decide)]
    by_cases heq : m = n
    · subst heq; cases on <;> simp
    · rw [if_neg (by omega), if_neg heq, Nat.testBit_div_two_pow, Nat.testBit_div_two_pow]
      congr 1; omega

/-- A bit of a field that holds a set of lanes, after one lane's bit was written. -/
theorem laneBit_fset {s : State} (w : wordsWf 0 s.regs = true) {f : Fld} (fits : f.lo + f.width ≤ 32) (n : Nat) (on : Bool) {m : Nat}
    (hm : m < f.width) : laneBit ((s.fset f (withBit (s.fget f) n on)).fget f) m = if m = n then on else laneBit (s.fget f) m := by
  rw [laneBit_testBit, State.fget_fset_self _ _ _ fits w, Nat.testBit_mod_two_pow, withBit_testBit, laneBit_testBit]
  simp [hm]

theorem State.laneUsed_useLane {s : State} (w : wordsWf 0 s.regs = true) (n : Nat) (on : Bool) {m : Nat} (hm : m < 5) :
    (s.useLane n on).laneUsed m = if m = n then on else s.laneUsed m :=
  laneBit_fset w (by decide) n on hm

theorem State.laneUsed_congr {s t : State} (h : t.fget F.TETHER_LANES.IN_USE = s.fget F.TETHER_LANES.IN_USE) (n : Nat) :
    t.laneUsed n = s.laneUsed n := by
  rw [State.laneUsed, h, State.laneUsed]

/-- A projection that blanks more. -/
theorem State.Leaves.coarsen {g k : State → State} {s t : State} {l : List Fld} (h : State.Leaves g s t l) (hk : ∀ x, k (g x) = k x) :
    State.Leaves k s t l :=
  ⟨h.form, h.kept, by rw [← hk, h.rest, hk]⟩

/-! ## Lanes that stop and begin to carry frames (R198, R236) -/

/-- The machine without the pair and the spares. -/
def blankTether (s : State) : State := { s with pair := {}, ras := {} }

/-- The fields of the lanes and of the spares. -/
def laneFields : List Fld :=
  [F.TETHER_LANES.UP, F.TETHER_LANES.IN_USE, F.TETHER_LANES.SPARE_USED, F.TETHER_LANES.FAILOVERS] ++ spareFields

/-- t is s after steps of the tether's lanes. -/
abbrev State.Lanes (s t : State) : Prop := State.Leaves blankTether s t laneFields

/-- The lost lanes of the tether. -/
def State.withLost (s : State) (l : List Nat) : State := { s with pair := { s.pair with lostLanes := l } }

/-- The lanes that the partner's end has locked. -/
def State.withPeer (s : State) (l : List Nat) : State := { s with pair := { s.pair with peerLanes := l } }

theorem State.Lanes.lost {s t : State} (h : s.Lanes t) (l : List Nat) : s.Lanes (t.withLost l) := h.step rfl rfl

theorem State.Lanes.peer {s t : State} (h : s.Lanes t) (l : List Nat) : s.Lanes (t.withPeer l) := h.step rfl rfl

theorem State.Lanes.use {s t : State} (h : s.Lanes t) (n : Nat) (on : Bool) : s.Lanes (t.useLane n on) :=
  State.Leaves.fset h (by simp [laneFields]) (by decide) _

/-- The steps by which lane 4 takes a lane's place. -/
def State.takeSpare (s : State) : State :=
  ((((s.useLane 4 true).fset F.TETHER_LANES.SPARE_USED 1).fadd F.TETHER_LANES.FAILOVERS 1).count 3 10).spareIn 3 .lane
    (s.pair.lostLanes.headD 0) 4 true

theorem State.spareTakes_eq (s : State) : s.spareTakes =
    if s.pair.lostLanes ≠ [] ∧ s.laneLocked 4 ∧ !s.laneUsed 4 ∧ !s.laneMoving then s.takeSpare else s := rfl

section
variable {s : State} (w : wordsWf 0 s.regs = true)
include w

theorem State.spareBack_lanes : s.Lanes (s.spareBack 4) := by
  obtain ⟨hform, hkept⟩ := State.spareBack_kept w 4
  refine ⟨hform, fun f hf => hkept f fun g hg => hf g ?_, rfl⟩
  simp only [List.mem_singleton] at hg
  simp [hg, laneFields, spareFields]

/-- What lane 4 in a lane's place leaves, and which lanes carry frames then. -/
structure State.TookSpare (s t : State) : Prop where
  lanes : s.Lanes t
  pair : t.pair = s.pair
  up : t.fget F.TETHER_LANES.UP = s.fget F.TETHER_LANES.UP
  others : ∀ m, m < 4 → t.laneUsed m = s.laneUsed m

theorem State.takeSpare_took : s.TookSpare s.takeSpare ∧ s.takeSpare.laneUsed 4 = true ∧ s.takeSpare.fget F.TETHER_LANES.SPARE_USED = 1 := by
  have hrefl : s.Lanes s := State.Leaves.refl _ w _
  have h1 : s.Lanes (s.useLane 4 true) := State.Lanes.use hrefl 4 true
  have h2 : s.Lanes ((s.useLane 4 true).fset F.TETHER_LANES.SPARE_USED 1) := State.Leaves.fset h1 (by simp [laneFields]) (by decide) 1
  have h3 : s.Lanes (((s.useLane 4 true).fset F.TETHER_LANES.SPARE_USED 1).fadd F.TETHER_LANES.FAILOVERS 1) :=
    State.Leaves.fadd h2 (by simp [laneFields]) (by decide) 1
  have h4 := State.Leaves.count h3 3 10 1
  obtain ⟨hspare, -⟩ := State.spareIn_leaves h4.form 3 .lane (s.pair.lostLanes.headD 0) 4 true
  have hfield : ∀ f : Fld, (∀ g ∈ F.TETHER_LANES.FAILOVERS :: spareFields ++ logFields, Fld.apart g f) → Fld.apart F.TETHER_LANES.SPARE_USED f →
      s.takeSpare.fget f = (s.useLane 4 true).fget f := fun f hf hs => by
    refine (hspare.fget fun g hg => hf g (List.mem_cons_of_mem _ hg)).trans ?_
    exact (State.fget_fset_apart _ _ _ _ (by decide) h2.form (hf _ (by simp))).trans
      (State.fget_fset_apart _ _ _ _ (by decide) h1.form hs)
  have hinuse : s.takeSpare.fget F.TETHER_LANES.IN_USE = (s.useLane 4 true).fget F.TETHER_LANES.IN_USE :=
    hfield _ (apart_of_test (by decide)) (Fld.apart_of_test (by decide))
  refine ⟨⟨?_, (hspare.get State.pair).trans rfl, ?_, fun m hm => ?_⟩, ?_, ?_⟩
  · exact h4.trans ⟨hspare.form, fun f hf => hspare.kept f fun g hg => hf g (by
      simp only [List.mem_append, laneFields] at hg ⊢; tauto), (hspare.coarsen (k := blankTether) fun _ => rfl).rest⟩
  · rw [hfield _ (apart_of_test (by decide)) (Fld.apart_of_test (by decide))]
    exact State.fget_fset_apart _ _ _ _ (by decide) w (Fld.apart_of_test (by decide))
  · rw [State.laneUsed_congr hinuse, State.laneUsed_useLane w 4 true (by omega), if_neg (by omega)]
  · rw [State.laneUsed_congr hinuse, State.laneUsed_useLane w 4 true (by omega), if_pos rfl]
  · refine (hspare.fget (apart_of_test (by decide))).trans ?_
    exact (State.fget_fset_apart _ _ _ _ (by decide) h2.form (Fld.apart_of_test (by decide))).trans
      (State.fget_fset_self _ _ 1 (by decide) h1.form)

theorem State.spareTakes_took : s.TookSpare s.spareTakes := by
  rw [State.spareTakes_eq]
  split
  · exact (State.takeSpare_took w).1
  · exact ⟨State.Leaves.refl _ w _, rfl, rfl, fun _ _ => rfl⟩

end

/-- A lane other than lane 4 stops carrying frames. -/
theorem State.laneDown_service {s : State} {n : Nat} (hn : n < 4) (h : s.laneUsed n = true) :
    s.laneDown n = ((s.useLane n false).withLost (s.pair.lostLanes.filter (fun m => decide (m ≠ n)) ++ [n])).spareTakes := by
  rw [State.laneDown, if_pos h]
  dsimp only
  rw [if_neg (by omega)]
  rfl

/-- What the loss of a lane leaves, and which lanes carry frames then. -/
structure State.Downed (s t : State) (n : Nat) : Prop where
  lanes : s.Lanes t
  self : t.laneUsed n = false
  others : ∀ m, m < 4 → m ≠ n → t.laneUsed m = s.laneUsed m
  up : t.fget F.TETHER_LANES.UP = s.fget F.TETHER_LANES.UP

theorem State.laneDown_downed {s : State} (w : wordsWf 0 s.regs = true) {n : Nat} (hn : n < 5) : s.Downed (s.laneDown n) n := by
  by_cases h : s.laneUsed n = true
  · have huse : s.Lanes (s.useLane n false) := State.Lanes.use (State.Leaves.refl _ w _) n false
    have hup : (s.useLane n false).fget F.TETHER_LANES.UP = s.fget F.TETHER_LANES.UP :=
      State.fget_fset_apart _ _ _ _ (by decide) w (Fld.apart_of_test (by decide))
    by_cases h4 : n = 4
    · have heq : s.laneDown n = ((s.useLane n false).fset F.TETHER_LANES.SPARE_USED 0).spareBack 4 := by
        rw [State.laneDown, if_pos h]
        exact if_pos h4
      have hset : s.Lanes ((s.useLane n false).fset F.TETHER_LANES.SPARE_USED 0) :=
        State.Leaves.fset huse (by simp [laneFields]) (by decide) 0
      obtain ⟨-, hkept⟩ := State.spareBack_kept hset.form 4
      have hfield : ∀ f : Fld, Fld.apart F.RAS_STATUS.DEGRADED f → Fld.apart F.TETHER_LANES.SPARE_USED f →
          (((s.useLane n false).fset F.TETHER_LANES.SPARE_USED 0).spareBack 4).fget f = (s.useLane n false).fget f := fun f hd hs =>
        (hkept f (by simpa using hd)).trans (State.fget_fset_apart _ _ _ 0 (by decide) huse.form hs)
      have hinuse := hfield F.TETHER_LANES.IN_USE (Fld.apart_of_test (by decide)) (Fld.apart_of_test (by decide))
      rw [heq]
      refine ⟨hset.trans (State.spareBack_lanes hset.form), ?_, fun m hm hne => ?_, ?_⟩
      · rw [State.laneUsed_congr hinuse, State.laneUsed_useLane w n false hn, if_pos rfl]
      · rw [State.laneUsed_congr hinuse, State.laneUsed_useLane w n false (by omega), if_neg hne]
      · rw [hfield _ (Fld.apart_of_test (by decide)) (Fld.apart_of_test (by decide)), hup]
    · have hn4 : n < 4 := by omega
      rw [State.laneDown_service hn4 h]
      have hlost := State.Lanes.lost huse (s.pair.lostLanes.filter (fun m => decide (m ≠ n)) ++ [n])
      have ht := State.spareTakes_took hlost.form
      refine ⟨hlost.trans ht.lanes, ?_, fun m hm hne => ?_, ht.up.trans hup⟩
      · rw [ht.others n hn4]
        exact (State.laneUsed_useLane w n false hn).trans (if_pos rfl)
      · rw [ht.others m hm]
        exact (State.laneUsed_useLane w n false (by omega)).trans (if_neg hne)
  · rw [State.laneDown, if_neg h]
    exact ⟨State.Leaves.refl _ w _, by simpa using h, fun _ _ _ => rfl, rfl⟩

/-- Lane 4 takes the place of a service lane that stops. -/
theorem State.laneDown_spare {s : State} (w : wordsWf 0 s.regs = true) {n : Nat} (hn : n < 4) (hused : s.laneUsed n = true)
    (hlock : s.laneLocked 4 = true) (hfree : s.laneUsed 4 = false) (hstill : s.laneMoving = false) :
    (s.laneDown n).laneUsed 4 = true ∧ (s.laneDown n).fget F.TETHER_LANES.SPARE_USED = 1 ∧ n ∈ (s.laneDown n).pair.lostLanes := by
  rw [State.laneDown_service hn hused]
  have huse : s.Lanes (s.useLane n false) := State.Lanes.use (State.Leaves.refl _ w _) n false
  have hlost := State.Lanes.lost huse (s.pair.lostLanes.filter (fun m => decide (m ≠ n)) ++ [n])
  have hup : (s.useLane n false).fget F.TETHER_LANES.UP = s.fget F.TETHER_LANES.UP :=
    State.fget_fset_apart _ _ _ _ (by decide) w (Fld.apart_of_test (by decide))
  have hlock' : ((s.useLane n false).withLost (s.pair.lostLanes.filter (fun m => decide (m ≠ n)) ++ [n])).laneLocked 4 = true := by
    rw [State.laneLocked] at hlock ⊢
    show (laneBit ((s.useLane n false).fget F.TETHER_LANES.UP) 4 && s.pair.peerLanes.contains 4) = true
    rw [hup]; exact hlock
  have hfree' : ((s.useLane n false).withLost (s.pair.lostLanes.filter (fun m => decide (m ≠ n)) ++ [n])).laneUsed 4 = false :=
    (State.laneUsed_useLane w n false (by decide)).trans ((if_neg (by omega)).trans hfree)
  obtain ⟨htook, h4, hspare⟩ := State.takeSpare_took hlost.form
  rw [State.spareTakes_eq, if_pos ⟨by show _ ++ [n] ≠ []; simp, hlock', by rw [hfree']; rfl,
    by simp only [Bool.not_eq_true', ← hstill]; rfl⟩]
  exact ⟨h4, hspare, by rw [htook.pair]; exact List.mem_append_right _ (List.mem_singleton.mpr rfl)⟩

/-- A lane locked at both ends carries frames again. -/
theorem State.laneBack_used {s : State} (w : wordsWf 0 s.regs = true) {n : Nat} (hn : n < 4) (hlock : s.laneLocked n = true) :
    s.Lanes (s.laneBack n) ∧ (s.laneBack n).laneUsed n = true ∧ (s.laneBack n).pair.peerLanes = s.pair.peerLanes ∧
      (s.laneBack n).fget F.TETHER_LANES.UP = s.fget F.TETHER_LANES.UP := by
  have hrefl : s.Lanes s := State.Leaves.refl _ w _
  rw [State.laneBack, if_neg (by omega)]
  by_cases hused : s.laneUsed n = true
  · rw [if_neg (by simp [hused])]
    exact ⟨hrefl, hused, rfl, rfl⟩
  · rw [if_pos (by simp [hlock, hused])]
    have huse := State.Lanes.use hrefl n true
    have hlost := State.Lanes.lost huse (s.pair.lostLanes.filter (fun m => decide (m ≠ n)))
    have hself : (s.useLane n true).laneUsed n = true := (State.laneUsed_useLane w n true (by omega)).trans (if_pos rfl)
    have hup : (s.useLane n true).fget F.TETHER_LANES.UP = s.fget F.TETHER_LANES.UP :=
      State.fget_fset_apart _ _ _ _ (by decide) w (Fld.apart_of_test (by decide))
    dsimp only
    split
    · have h4 : s.Lanes (((s.useLane n true).withLost (s.pair.lostLanes.filter (fun m => decide (m ≠ n)))).useLane 4 false) :=
        State.Lanes.use hlost 4 false
      have hset := State.Leaves.fset h4 (f := F.TETHER_LANES.SPARE_USED) (by simp [laneFields]) (by decide) 0
      obtain ⟨-, hkept⟩ := State.spareBack_kept hset.form 4
      have hfield : ∀ f : Fld, Fld.apart F.RAS_STATUS.DEGRADED f → Fld.apart F.TETHER_LANES.SPARE_USED f →
          (((((s.useLane n true).withLost (s.pair.lostLanes.filter (fun m => decide (m ≠ n)))).useLane 4 false).fset
            F.TETHER_LANES.SPARE_USED 0).spareBack 4).fget f =
          (((s.useLane n true).withLost (s.pair.lostLanes.filter (fun m => decide (m ≠ n)))).useLane 4 false).fget f := fun f hd hs =>
        (hkept f (by simpa using hd)).trans (State.fget_fset_apart _ _ _ 0 (by decide) h4.form hs)
      refine ⟨hset.trans (State.spareBack_lanes hset.form), ?_, rfl, ?_⟩
      · refine (State.laneUsed_congr (hfield F.TETHER_LANES.IN_USE (Fld.apart_of_test (by decide)) (Fld.apart_of_test (by decide))) n).trans ?_
        exact (State.laneUsed_useLane hlost.form 4 false (by omega)).trans ((if_neg (by omega)).trans hself)
      · exact (hfield _ (Fld.apart_of_test (by decide)) (Fld.apart_of_test (by decide))).trans
          ((State.fget_fset_apart _ _ _ _ (by decide) hlost.form (Fld.apart_of_test (by decide))).trans hup)
    · exact ⟨hlost, hself, rfl, hup⟩

/-! ## The commands -/

/-- A lane that loses block lock at this end. -/
theorem State.laneUnlocked_downed {s : State} (w : wordsWf 0 s.regs = true) {n : Nat} (hn : n < 5) :
    (s.fset F.TETHER_LANES.UP (withBit (s.fget F.TETHER_LANES.UP) n false)).Downed (s.laneUnlocked n) n :=
  State.laneDown_downed (s.fset_wf _ _ w) hn

/-- The machine after a lane's failover, before its logbook entry. -/
def State.failLane (s : State) (n : Nat) (locked : Bool) : State := if locked then s.laneDown n else s.laneUnlocked n

theorem exec_tetherLaneFailover {s : State} {n : Nat} (hn : n < 4) (hup : laneBit (s.fget F.TETHER_LANES.UP) n = true) (locked : Bool) :
    exec (.tetherLaneFailover n locked) s = .next (
      if s.laneUsed n && (s.failLane n locked).fget F.TETHER_LANES.FAILOVERS = s.fget F.TETHER_LANES.FAILOVERS then
        (s.failLane n locked).logEntry 4 3 .link .lane 0 n else s.failLane n locked) := by
  have hwf : Instr.wf (.tetherLaneFailover n locked) = true := by simp [Instr.wf, okLane]; omega
  show execTetherLaneFailover n locked s = _
  rw [execTetherLaneFailover, hwf, if_pos hup]
  rfl

/-- A failed lane's stripe is on lane 4, whichever way it failed. -/
theorem State.failLane_spec {s : State} (w : wordsWf 0 s.regs = true) {n : Nat} (hn : n < 4) (hup : laneBit (s.fget F.TETHER_LANES.UP) n = true)
    (hused : s.laneUsed n = true) (hlock : s.laneLocked 4 = true) (hfree : s.laneUsed 4 = false) (hstill : s.laneMoving = false) (locked : Bool) :
    s.Lanes (s.failLane n locked) ∧ laneBit ((s.failLane n locked).fget F.TETHER_LANES.UP) n = locked ∧
      (s.failLane n locked).laneUsed n = false ∧ (s.failLane n locked).laneUsed 4 = true ∧
      (s.failLane n locked).fget F.TETHER_LANES.SPARE_USED = 1 ∧ n ∈ (s.failLane n locked).pair.lostLanes := by
  cases locked with
  | true =>
    have hd := State.laneDown_downed w (show n < 5 by omega)
    obtain ⟨h4, hspare, hlost⟩ := State.laneDown_spare w hn hused hlock hfree hstill
    exact ⟨hd.lanes, by show laneBit ((s.laneDown n).fget _) n = true; rw [hd.up]; exact hup, hd.self, h4, hspare, hlost⟩
  | false =>
    have hset : s.Lanes (s.fset F.TETHER_LANES.UP (withBit (s.fget F.TETHER_LANES.UP) n false)) :=
      State.Leaves.fset (State.Leaves.refl _ w _) (by simp [laneFields]) (by decide) _
    have hinuse : (s.fset F.TETHER_LANES.UP (withBit (s.fget F.TETHER_LANES.UP) n false)).fget F.TETHER_LANES.IN_USE =
        s.fget F.TETHER_LANES.IN_USE := State.fget_fset_apart _ _ _ _ (by decide) w (Fld.apart_of_test (by decide))
    have hd := State.laneUnlocked_downed w (show n < 5 by omega)
    have hlock' : (s.fset F.TETHER_LANES.UP (withBit (s.fget F.TETHER_LANES.UP) n false)).laneLocked 4 = true := by
      rw [State.laneLocked, laneBit_fset w (by decide) n false (by decide), if_neg (by omega)]
      exact hlock
    obtain ⟨h4, hspare, hlost⟩ := State.laneDown_spare hset.form hn ((State.laneUsed_congr hinuse n).trans hused) hlock'
      ((State.laneUsed_congr hinuse 4).trans hfree) hstill
    refine ⟨hset.trans hd.lanes, ?_, hd.self, h4, hspare, hlost⟩
    show laneBit ((s.laneUnlocked n).fget _) n = false
    rw [hd.up, laneBit_fset w (by decide) n false (show n < 5 by omega), if_pos rfl]

/-- All lanes but lane 4 stop, one after the other, and lane 4 stops last. -/
theorem State.allDark {s : State} (w : wordsWf 0 s.regs = true) :
    s.Lanes ((List.range 5).foldl State.laneDark s) ∧ ∀ n, n < 5 → ((List.range 5).foldl State.laneDark s).laneUsed n = false := by
  have hdark : ∀ (u : State), wordsWf 0 u.regs = true → ∀ n, n < 5 → u.Downed (u.laneDark n) n := fun u wu n hn => by
    have hp : u.Lanes (u.withPeer (u.pair.peerLanes.filter (fun m => decide (m ≠ n)))) := State.Lanes.peer (State.Leaves.refl _ wu _) _
    have hd := State.laneDown_downed hp.form hn
    exact ⟨hp.trans hd.lanes, hd.self, hd.others, hd.up⟩
  have h0 := hdark s w 0 (by decide)
  have h1 := hdark _ h0.lanes.form 1 (by decide)
  have h2 := hdark _ h1.lanes.form 2 (by decide)
  have h3 := hdark _ h2.lanes.form 3 (by decide)
  have h4 := hdark _ h3.lanes.form 4 (by decide)
  show s.Lanes (((((s.laneDark 0).laneDark 1).laneDark 2).laneDark 3).laneDark 4) ∧ ∀ n, n < 5 →
    (((((s.laneDark 0).laneDark 1).laneDark 2).laneDark 3).laneDark 4).laneUsed n = false
  refine ⟨(((h0.lanes.trans h1.lanes).trans h2.lanes).trans h3.lanes).trans h4.lanes, fun n hn => ?_⟩
  have hcase : n = 0 ∨ n = 1 ∨ n = 2 ∨ n = 3 ∨ n = 4 := by omega
  rcases hcase with rfl | rfl | rfl | rfl | rfl
  · rw [h4.others 0 (by decide) (by decide), h3.others 0 (by decide) (by decide), h2.others 0 (by decide) (by decide),
      h1.others 0 (by decide) (by decide), h0.self]
  · rw [h4.others 1 (by decide) (by decide), h3.others 1 (by decide) (by decide), h2.others 1 (by decide) (by decide), h1.self]
  · rw [h4.others 2 (by decide) (by decide), h3.others 2 (by decide) (by decide), h2.self]
  · rw [h4.others 3 (by decide) (by decide), h3.self]
  · exact h4.self

/-- A connector's light, on or off. -/
def State.mateLight (s : State) (c : Nat) (l : List Nat) (on : Bool) : State :=
  ({ s with light := { s.light with mated := l } }).emit (.light c on)

theorem State.mateLight_fget (s : State) (c : Nat) (l : List Nat) (on : Bool) (f : Fld) : (s.mateLight c l on).fget f = s.fget f := rfl

theorem State.lightBeacon_bit {s : State} (w : wordsWf 0 s.regs = true) {b h : Nat} (hb : b < 3) (hh : h < 2) (on : Bool) :
    laneBit ((s.lightBeacon b h on).fget (F.CART_STATUS.BEACONS b)) h = on := by
  rw [State.lightBeacon, if_pos hb, laneBit_fset w (by simp [F.CART_STATUS.BEACONS]) h on hh, if_pos rfl]

theorem State.lightBeacon_frame (s : State) (b h : Nat) (on : Bool) :
    s.lightBeacon b h on = { s with regs := (s.lightBeacon b h on).regs } := by
  unfold State.lightBeacon; split <;> rfl

theorem exec_connectorUnmated {s : State} {c : Nat} (hc : c < 4) (hm : s.light.mated.contains c = true) :
    exec (.connectorUnmated c) s = .next (
      let u := s.mateLight c (s.light.mated.filter (fun x => decide (x ≠ c))) false
      if c < 2 then u.lightBeacon (u.fget (srcFld c)) c false
      else if c = 2 then (List.range 5).foldl State.laneDark u else u) := by
  have hwf : Instr.wf (.connectorUnmated c) = true := by simpa [Instr.wf] using hc
  show execConnectorUnmated c s = _
  rw [execConnectorUnmated, hwf, if_pos hm]
  rfl

theorem exec_connectorMated {s : State} {c : Nat} (hc : c < 4) (hm : s.light.mated.contains c = false) :
    exec (.connectorMated c) s = .next (
      let u := s.mateLight c (s.light.mated ++ [c]) true
      if c < 2 ∧ u.rung ≤ 2 then u.lightBeacon (u.fget (srcFld c)) c true else u) := by
  have hwf : Instr.wf (.connectorMated c) = true := by simpa [Instr.wf] using hc
  show execConnectorMated c s = _
  rw [execConnectorMated, hwf, if_neg (by rw [hm]; decide)]
  rfl

/-! ## The statement -/

/-- Settles O50: a lane's bit in IN_USE is written by its own loss or return alone, but for lane 4, which stops last when the
connector takes the light of all. -/
theorem tetherLanes : Obligations.TetherLanes := by
  unfold Obligations.TetherLanes
  refine ⟨fun s n hwf hn hup hused hlock hfree hstill locked => ?_, fun s n hwf hn hrung hmove => ⟨fun hpeer => ?_, fun hup => ?_⟩,
    fun s hwf => ?_, fun s c hwf hc => ⟨fun hm => ?_, fun hm => ?_⟩⟩
  · have w := State.regsWf_of_allWf hwf
    obtain ⟨hl, hbit, hn', h4, hspare, hlost⟩ := State.failLane_spec w hn hup hused hlock hfree hstill locked
    refine ⟨_, exec_tetherLaneFailover hn hup locked, ?_⟩
    have hlog := (State.Notes.refl hl.form []).logEntry (sev := 4) (by decide) 3 .link .lane 0 n 0
    have hnote : (s.failLane n locked).Notes (if s.laneUsed n && (s.failLane n locked).fget F.TETHER_LANES.FAILOVERS =
        s.fget F.TETHER_LANES.FAILOVERS then (s.failLane n locked).logEntry 4 3 .link .lane 0 n else s.failLane n locked) [] :=
      hlog.ite (.refl hl.form _)
    generalize (if s.laneUsed n && (s.failLane n locked).fget F.TETHER_LANES.FAILOVERS = s.fget F.TETHER_LANES.FAILOVERS then
      (s.failLane n locked).logEntry 4 3 .link .lane 0 n else s.failLane n locked) = t at hnote
    have hinuse : t.fget F.TETHER_LANES.IN_USE = (s.failLane n locked).fget F.TETHER_LANES.IN_USE := hnote.fget (apart_of_test (by decide))
    exact ⟨by rw [hnote.fget (apart_of_test (by decide))]; exact hbit, (State.laneUsed_congr hinuse n).trans hn',
      (State.laneUsed_congr hinuse 4).trans h4, (hnote.fget (apart_of_test (by decide))).trans hspare, by rw [hnote.pair]; exact hlost,
      hnote.steer.trans (hl.get State.steer), hnote.mem.trans (hl.get State.mem), hnote.lock.trans (hl.get State.lock)⟩
  · have w := State.regsWf_of_allWf hwf
    have hset : s.Lanes (s.fset F.TETHER_LANES.UP (withBit (s.fget F.TETHER_LANES.UP) n true)) :=
      State.Leaves.fset (State.Leaves.refl _ w _) (by simp [laneFields]) (by decide) _
    have hbit : laneBit ((s.fset F.TETHER_LANES.UP (withBit (s.fget F.TETHER_LANES.UP) n true)).fget F.TETHER_LANES.UP) n = true := by
      rw [laneBit_fset w (by decide) n true (show n < 5 by omega), if_pos rfl]
    obtain ⟨hl, hused, -, hup⟩ := State.laneBack_used hset.form hn (by rw [State.laneLocked, hbit]; exact hpeer)
    have hexec : exec (.tetherBlockLock n false) s =
        .next ((s.fset F.TETHER_LANES.UP (withBit (s.fget F.TETHER_LANES.UP) n true)).laneBack n) := by
      have hwf : Instr.wf (.tetherBlockLock n false) = true := by simp [Instr.wf, okLane]; omega
      show execTetherBlockLock n false s = _
      rw [execTetherBlockLock, hwf, if_neg (by omega)]
      simp only [Bool.false_eq_true, if_false, State.fset_light, hmove]
      rfl
    exact ⟨_, hexec, by rw [hup]; exact hbit, hused, (hset.trans hl).get State.steer, (hset.trans hl).get State.mem,
      (hset.trans hl).get State.lock⟩
  · have w := State.regsWf_of_allWf hwf
    have hset : s.Lanes (s.withPeer (s.pair.peerLanes.filter (fun m => decide (m ≠ n)) ++ [n])) :=
      State.Lanes.peer (State.Leaves.refl _ w _) _
    have hlock : (s.withPeer (s.pair.peerLanes.filter (fun m => decide (m ≠ n)) ++ [n])).laneLocked n = true := by
      rw [State.laneLocked]
      show (laneBit (s.fget F.TETHER_LANES.UP) n && (s.pair.peerLanes.filter (fun m => decide (m ≠ n)) ++ [n]).contains n) = true
      simp [hup]
    obtain ⟨hl, hused, hpeers, -⟩ := State.laneBack_used hset.form hn hlock
    have hexec : exec (.tetherBlockLock n true) s =
        .next ((s.withPeer (s.pair.peerLanes.filter (fun m => decide (m ≠ n)) ++ [n])).laneBack n) := by
      have hwf : Instr.wf (.tetherBlockLock n true) = true := by simp [Instr.wf, okLane]; omega
      show execTetherBlockLock n true s = _
      rw [execTetherBlockLock, hwf, if_neg (by omega)]
      simp only [if_true, hmove]
      rfl
    exact ⟨_, hexec, by rw [hpeers]; exact List.mem_append_right _ (List.mem_singleton.mpr rfl), hused, (hset.trans hl).get State.steer,
      (hset.trans hl).get State.mem, (hset.trans hl).get State.lock⟩
  · exact ⟨_, rfl, ((State.Reported.refl (s := { s with pair := { s.pair with fibre := 1 - s.pair.fibre } })
      (State.regsWf_of_allWf (s := s) hwf) []).logEntry (by decide) ..).reports⟩
  · have w := State.regsWf_of_allWf hwf
    refine ⟨_, exec_connectorUnmated hc hm, ?_⟩
    dsimp only
    generalize hu : s.mateLight c (s.light.mated.filter (fun x => decide (x ≠ c))) false = u
    have wu : wordsWf 0 u.regs = true := by rw [← hu]; exact w
    have hsrc : u.fget (srcFld c) = s.fget (srcFld c) := by rw [← hu]; rfl
    have hlight : u.light.mated = s.light.mated.filter (fun x => decide (x ≠ c)) := by rw [← hu]; rfl
    have hcomp : u.steer = s.steer ∧ u.mem = s.mem ∧ u.lock = s.lock := by rw [← hu]; exact ⟨rfl, rfl, rfl⟩
    by_cases h2 : c < 2
    · rw [if_pos h2, hsrc]
      have hf := State.lightBeacon_frame u (s.fget (srcFld c)) c false
      exact ⟨by rw [hf]; exact hlight, by omega, fun _ hlt => State.lightBeacon_bit wu hlt h2 false, by omega,
        by rw [hf]; exact hcomp.1, by rw [hf]; exact hcomp.2.1, by rw [hf]; exact hcomp.2.2⟩
    · rw [if_neg h2]
      by_cases hc2 : c = 2
      · rw [if_pos hc2]
        obtain ⟨hl, hoff⟩ := State.allDark wu
        exact ⟨(congrArg Light.mated (hl.get State.light) :).trans hlight, fun _ => hoff, fun h => absurd h h2, by omega,
          (hl.get State.steer).trans hcomp.1, (hl.get State.mem).trans hcomp.2.1, (hl.get State.lock).trans hcomp.2.2⟩
      · rw [if_neg hc2]
        exact ⟨hlight, fun h => absurd h hc2, fun h => absurd h h2, fun _ => by rw [← hu]; rfl, hcomp⟩
  · have w := State.regsWf_of_allWf hwf
    refine ⟨_, exec_connectorMated hc hm, ?_⟩
    dsimp only
    generalize hu : s.mateLight c (s.light.mated ++ [c]) true = u
    have wu : wordsWf 0 u.regs = true := by rw [← hu]; exact w
    have hsrc : u.fget (srcFld c) = s.fget (srcFld c) := by rw [← hu]; rfl
    have hrung : u.rung = s.rung := by rw [← hu]; rfl
    by_cases h2 : c < 2 ∧ u.rung ≤ 2
    · rw [if_pos h2, hsrc]
      have hf := State.lightBeacon_frame u (s.fget (srcFld c)) c true
      exact ⟨by rw [hf, ← hu]; rfl, by rw [hf, ← hu]; rfl, fun _ _ hlt => State.lightBeacon_bit wu hlt h2.1 true, by rw [hf, ← hu]; rfl⟩
    · rw [if_neg h2]
      exact ⟨by rw [← hu]; rfl, by rw [← hu]; rfl, fun hlt hr => absurd ⟨hlt, by rw [hrung]; exact hr⟩ h2, by rw [← hu]; rfl⟩

end Sys2Proof.Machine
end

section
/-!
PROOFS. Axes as the present tick has them (R31): what reading an axis's held result, or its stored state, gives after a change of one
axis.
-/

namespace Sys2Proof.Machine

/-! ## Sticky bits joined to a held result -/

theorem Axis.fget_addSticky (x old : Axis) {f : Fld} (h : 7 ≤ f.lo) : (x.addSticky old).fget f = x.fget f := by
  refine Nat.eq_of_testBit_eq fun i => ?_
  rw [Axis.fget, Axis.fget, testBit_fldOf, testBit_fldOf]
  congr 1
  show (x.flags ||| (old.flags &&& 0x7F)).toNat.testBit (f.lo + i) = _
  have hmask : Nat.testBit 0x7F (f.lo + i) = false := by
    apply Nat.testBit_lt_two_pow
    calc 0x7F < 2 ^ 7 := by decide
      _ ≤ 2 ^ (f.lo + i) := Nat.pow_le_pow_right (by decide) (by omega)
  simp [hmask]

@[simp] theorem Axis.st_addSticky (x old : Axis) : (x.addSticky old).st = x.st := x.fget_addSticky old (by decide)

@[simp] theorem Axis.mode_addSticky (x old : Axis) : (x.addSticky old).mode = x.mode := x.fget_addSticky old (by decide)

@[simp] theorem Axis.src_addSticky (x old : Axis) : (x.addSticky old).src = x.src := x.fget_addSticky old (by decide)

@[simp] theorem Axis.region_addSticky (x old : Axis) : (x.addSticky old).region = x.region := x.fget_addSticky old (by decide)

@[simp] theorem Axis.cls_addSticky (x old : Axis) : (x.addSticky old).cls = x.cls := x.fget_addSticky old (by decide)

/-! ## The held result or the stored state -/

/-- The held result of an axis, if the tick has one. -/
def State.heldFor (s : State) (a : Nat) : Option HeldResult := s.steer.held.find? (fun h => decide (h.axis = a))

theorem State.axisNow_some {s : State} {a : Nat} {h : HeldResult} (hs : s.heldFor a = some h) :
    s.axisNow a = h.new.addSticky (s.axis a) := by
  unfold State.heldFor at hs
  rw [State.axisNow, hs]

theorem State.axisNow_none {s : State} {a : Nat} (hs : s.heldFor a = none) : s.axisNow a = s.axis a := by
  unfold State.heldFor at hs
  rw [State.axisNow, hs]

theorem State.heldFor_any (s : State) (a : Nat) : s.steer.held.any (fun h => decide (h.axis = a)) = (s.heldFor a).isSome := by
  rw [State.heldFor, Bool.eq_iff_iff, List.any_eq_true, List.find?_isSome]

/-- Changing the held results of axis a, and no other, keeps whose results they are. -/
def HeldResult.change (a : Nat) (f : Axis → Axis) (h : HeldResult) : HeldResult := if h.axis = a then { h with new := f h.new } else h

@[simp] theorem HeldResult.change_axis (a : Nat) (f : Axis → Axis) (h : HeldResult) : (h.change a f).axis = h.axis := by
  unfold HeldResult.change; split <;> rfl

theorem find?_change (l : List HeldResult) (a b : Nat) (f : Axis → Axis) :
    (l.map (HeldResult.change a f)).find? (fun h => decide (h.axis = b)) =
      (l.find? (fun h => decide (h.axis = b))).map (HeldResult.change a f) := by
  rw [List.find?_map]
  congr 2
  funext h
  simp

theorem State.modNow_held {s : State} {a : Nat} {h : HeldResult} (hs : s.heldFor a = some h) (f : Axis → Axis) :
    s.modNow a f = { s with steer := { s.steer with held := s.steer.held.map (HeldResult.change a f) } } := by
  unfold State.modNow
  rw [State.heldFor_any, hs]
  rfl

theorem State.modNow_free {s : State} {a : Nat} (hs : s.heldFor a = none) (f : Axis → Axis) : s.modNow a f = s.modAxis a f := by
  unfold State.modNow
  rw [State.heldFor_any, hs]
  rfl

theorem State.heldFor_modNow (s : State) (a b : Nat) (f : Axis → Axis) : (s.modNow a f).heldFor b = (s.heldFor b).map (HeldResult.change a f) := by
  cases hs : s.heldFor a with
  | some h => rw [State.modNow_held hs]; exact find?_change ..
  | none =>
    rw [State.modNow_free hs]
    show s.heldFor b = _
    cases hb : s.heldFor b with
    | none => rfl
    | some h =>
      have hax : h.axis = b := by simpa using List.find?_some hb
      have hne : h.axis ≠ a := by
        intro e
        have : b = a := hax.symm.trans e
        rw [this, hs] at hb
        cases hb
      simp [HeldResult.change, hne]

theorem State.modNow_axesWf {s : State} (w : spWf {} 0 s.steer.axes = true) (a : Nat) (f : Axis → Axis) :
    spWf {} 0 (s.modNow a f).steer.axes = true := by
  unfold State.modNow
  split
  · exact w
  · exact State.modAxis_axesWf w a f

/-- Another axis is as it was. -/
theorem State.axisNow_modNow_ne (s : State) {a b : Nat} (h : b ≠ a) (f : Axis → Axis) : (s.modNow a f).axisNow b = s.axisNow b := by
  have hstored : (s.modNow a f).axis b = s.axis b := by
    unfold State.modNow
    split
    · rfl
    · exact State.axis_modAxis_ne s h f
  cases hb : s.heldFor b with
  | none => rw [State.axisNow_none (by rw [State.heldFor_modNow, hb]; rfl), State.axisNow_none hb, hstored]
  | some r =>
    have hax : r.axis = b := by simpa using List.find?_some hb
    have hsame : r.change a f = r := by rw [HeldResult.change, if_neg (by rw [hax]; exact h)]
    rw [State.axisNow_some (h := r) (by rw [State.heldFor_modNow, hb, Option.map_some, hsame]), State.axisNow_some hb, hstored]

/-- The axis itself is changed in its held result, to which the stored sticky bits are joined, or in its stored state. -/
theorem State.axisNow_modNow_self {s : State} (w : spWf {} 0 s.steer.axes = true) (a : Nat) (f : Axis → Axis) :
    (s.modNow a f).axisNow a = match s.heldFor a with | some h => (f h.new).addSticky (s.axis a) | none => f (s.axis a) := by
  cases hs : s.heldFor a with
  | some h =>
    have hax : h.axis = a := by simpa using List.find?_some hs
    have hnew : (s.modNow a f).heldFor a = some { h with new := f h.new } := by
      rw [State.heldFor_modNow, hs, Option.map_some, HeldResult.change, if_pos hax]
    rw [State.axisNow_some hnew, State.modNow_held hs]
    rfl
  | none =>
    have hfree : (s.modAxis a f).heldFor a = none := hs
    rw [State.modNow_free hs, State.axisNow_none hfree, State.axis_modAxis_self w]

/-- What f makes of an axis whatever it was, the axis has after it, where joined sticky bits do not touch it. -/
theorem State.axisNow_modNow_set {α : Type} {s : State} (w : spWf {} 0 s.steer.axes = true) (a : Nat) (f : Axis → Axis) (p : Axis → α)
    (hp : ∀ x old : Axis, p (x.addSticky old) = p x) {v : α} (hf : ∀ x, p (f x) = v) : p ((s.modNow a f).axisNow a) = v := by
  rw [State.axisNow_modNow_self w]
  split
  · rw [hp, hf]
  · exact hf _

/-- What f leaves of an axis stays, where joined sticky bits do not touch it. -/
theorem State.axisNow_modNow_keep {α : Type} {s : State} (w : spWf {} 0 s.steer.axes = true) (a : Nat) (f : Axis → Axis) (p : Axis → α)
    (hp : ∀ x old : Axis, p (x.addSticky old) = p x) (hf : ∀ x, p (f x) = p x) (b : Nat) : p ((s.modNow a f).axisNow b) = p (s.axisNow b) := by
  by_cases h : b = a
  · subst h
    rw [State.axisNow_modNow_self w]
    cases hs : s.heldFor b with
    | some r => rw [State.axisNow_some hs, hp, hp]; exact hf _
    | none => rw [State.axisNow_none hs]; exact hf _
  · rw [State.axisNow_modNow_ne s h]

/-- A change of the present axis touches nothing but the axes and the held results. -/
theorem State.modNow_frame (s : State) (a : Nat) (f : Axis → Axis) :
    s.modNow a f = { s with steer := { s.steer with axes := (s.modNow a f).steer.axes, held := (s.modNow a f).steer.held } } := by
  unfold State.modNow
  split <;> rfl

theorem State.axisNow_congr {s t : State} (h : t.steer = s.steer) (a : Nat) : t.axisNow a = s.axisNow a := by
  rw [State.axisNow, State.axisNow, h, State.axis_congr h]

end Sys2Proof.Machine
end

section
/-!
PROOFS. Operations of the lock sequencer (R80–R93, R316): what notices, reports of an outcome, the plan library and the boot record
leave alone, each said once.
-/

namespace Sys2Proof.Machine

/-! ## Frames -/

theorem State.putPlan_frame (s : State) (i : Nat) (e : PlanEntry) : s.putPlan i e =
    { s with lock := { s.lock with lib := spSet {} s.lock.lib i e }, pair := (s.putPlan i e).pair, out := (s.putPlan i e).out
             counters := (s.putPlan i e).counters } := by
  unfold State.putPlan State.sendJournal
  dsimp only
  split <;> rfl

theorem State.releasePlan_frame (s : State) (id : Nat) : s.releasePlan id =
    { s with lock := { s.lock with lib := (s.releasePlan id).lock.lib }, pair := (s.releasePlan id).pair, out := (s.releasePlan id).out
             counters := (s.releasePlan id).counters } := by
  unfold State.releasePlan
  split
  · rfl
  · split
    · split
      · rw [State.putPlan_frame]
      · rfl
    · rfl

theorem State.noticeCopy_frame (s : State) (n : Notice) (k : Nat) : s.noticeCopy n k =
    { s with out := s.out ++ [.notice s.noticeGroup s.noticeUdp (n.datagram (decide (k ≠ 0)) s.time.tb0.fine)
               (s.noticePorts.map (fun p => (p, s.fget (F.ETH_CTRL.VLAN p), s.fget (F.ETH_CTRL.PCP p))))]
             counters := (s.noticeCopy n k).counters } := by
  have hcount : ∀ l : List Nat, ∃ c, l.foldl (fun s p => s.count 15 (8 * p)) s = { s with counters := c } := fun l => by
    refine List.foldlRecOn (motive := fun t : State => ∃ c, t = { s with counters := c }) l _ ⟨_, rfl⟩ fun t ht p _ => ?_
    obtain ⟨c, rfl⟩ := ht
    exact ⟨_, rfl⟩
  obtain ⟨c, hc⟩ := hcount s.noticePorts
  unfold State.noticeCopy
  dsimp only
  rw [hc]
  rfl

theorem State.sendNotice_frame (s : State) (n : Notice) : s.sendNotice n =
    { s with lock := { s.lock with seq := (s.sendNotice n).lock.seq, repeats := (s.sendNotice n).lock.repeats }
             pair := (s.sendNotice n).pair, out := (s.sendNotice n).out, counters := (s.sendNotice n).counters } := by
  unfold State.sendNotice
  split
  · dsimp only
    rw [State.noticeCopy_frame]
    unfold State.sendJournal
    split <;> rfl
  · rfl

theorem State.sendNotice_repeats {s : State} (h : s.active = true) (n : Notice) :
    (s.sendNotice n).lock.repeats = s.lock.repeats ++ [(n, 1)] := by
  rw [State.sendNotice, if_pos h]
  dsimp only
  rw [State.sendJournal_lock, State.noticeCopy_frame]

theorem State.lockEvent_frame (s : State) (c : Cycle) (outcome reason failed duration extra : Nat) :
    s.lockEvent c outcome reason failed duration extra =
      { s with link := (s.lockEvent c outcome reason failed duration extra).link
               counters := (s.lockEvent c outcome reason failed duration extra).counters } := by
  unfold State.lockEvent State.event State.push
  dsimp only
  split
  · (repeat' split) <;> rfl
  · rfl

theorem State.lockLast_frame (s : State) (outcome reason failed duration extra : Nat) : s.lockLast outcome reason failed duration extra =
    { s with regs := (s.lockLast outcome reason failed duration extra).regs } := rfl

theorem State.writeStanding_frame (s : State) : s.writeStanding =
    { s with lock := { s.lock with lib := s.writeStanding.lock.lib }, pair := s.writeStanding.pair, out := s.writeStanding.out
             counters := s.writeStanding.counters } := by
  rw [State.writeStanding, State.putPlan_frame]

/-! ## LOCK_LAST -/

/-- The fields that show the outcome of a cycle. -/
def outcomeFields : List Fld :=
  [F.LOCK_LAST.OUTCOME, F.LOCK_LAST.REASON, F.LOCK_LAST.FAILED, F.LOCK_TIMES.DURATION, F.LOCK_TIMES.EXTRA]

/-- The outcome and the reason are shown, and no field but those of an outcome is written. -/
theorem State.lockLast_spec {s : State} (w : wordsWf 0 s.regs = true) {outcome reason : Nat} (ho : outcome < 8) (hr : reason < 256)
    (failed duration extra : Nat) : s.Writes (s.lockLast outcome reason failed duration extra) outcomeFields ∧
      (s.lockLast outcome reason failed duration extra).fget F.LOCK_LAST.OUTCOME = outcome ∧
      (s.lockLast outcome reason failed duration extra).fget F.LOCK_LAST.REASON = reason := by
  have w1 := s.fset_wf F.LOCK_LAST.OUTCOME outcome w
  have w2 := State.fset_wf _ F.LOCK_LAST.REASON reason w1
  have hrest := (((State.Writes.refl w2 [F.LOCK_LAST.FAILED, F.LOCK_TIMES.DURATION, F.LOCK_TIMES.EXTRA]).fset (f := F.LOCK_LAST.FAILED) (by simp)
    (by decide) failed).fset (f := F.LOCK_TIMES.DURATION) (by simp) (by decide) (min 65535 (duration / 1000))).fset
      (f := F.LOCK_TIMES.EXTRA) (by simp) (by decide) (min 65535 (extra / 1000))
  refine ⟨?_, ?_, ?_⟩
  · exact (((State.Writes.refl w outcomeFields).fset (by simp [outcomeFields]) (by decide) outcome).fset (by simp [outcomeFields])
      (by decide) reason).trans (hrest.mono (by simp [outcomeFields]))
  · refine (hrest.fget (apart_of_test (by decide))).trans ?_
    rw [State.fget_fset_apart _ _ _ _ (by decide) w1 (Fld.apart_of_test (by decide)), State.fget_fset_self _ _ _ (by decide) w]
    exact Nat.mod_eq_of_lt ho
  · refine (hrest.fget (apart_of_test (by decide))).trans ?_
    rw [State.fget_fset_self _ _ _ (by decide) w1]
    exact Nat.mod_eq_of_lt hr

/-! ## Whether the pair is attached -/

theorem State.attached_congr {s t : State} (hp : t.fget F.PAIR_STATUS.PARTNER = s.fget F.PAIR_STATUS.PARTNER)
    (hc : t.fget F.PAIR_CFG.EN = s.fget F.PAIR_CFG.EN) (he : t.pair.enOld = s.pair.enOld) : t.attached = s.attached := by
  simp only [State.attached, State.pairEn, State.bit, hp, hc, he]

@[simp] theorem State.releasePlan_enOld (s : State) (id : Nat) : (s.releasePlan id).pair.enOld = s.pair.enOld := by
  unfold State.releasePlan; (repeat' split) <;> simp

@[simp] theorem State.writeStanding_enOld (s : State) : s.writeStanding.pair.enOld = s.pair.enOld := by simp [State.writeStanding]

@[simp] theorem State.sendNotice_enOld (s : State) (n : Notice) : (s.sendNotice n).pair.enOld = s.pair.enOld := by
  unfold State.sendNotice
  split
  · dsimp only
    rw [State.sendJournal_enOld, State.noticeCopy_frame]
  · rfl

theorem State.active_of_accepts {s : State} {op : Nat} {src : Src} (h : s.accepts op src) (hop : op ∈ activeOps) : s.active = true := by
  have hgate := h.2.2.1
  unfold State.gate at hgate
  split at hgate
  · cases hgate
  · split at hgate
    · cases hgate
    · next hrole => simpa [hop] using hrole

end Sys2Proof.Machine
end

section
/-!
PROOFS. LOCK_ABORT (R88) by the policy tow's queue: a settle-model tow on a unit that the machine does not have. The word that would show
that unit's array is AUC_CTRL, so leaving the unit moves the policy space and with it the queue of the completion.
-/

namespace Sys2Proof.Machine

/-- The policy space of the counterexample, whose commands complete in queue 5. -/
def policySpace : Space :=
  { maxClass := 0, hostEn := false, saveSlots := 0, runAhead := 0, syncTimeout := 0, basinBase := 0, basinSize := 0, stackBase := 0
    stackSize := 0, ptRoot := 0, seed := 0, cq := 5, fq := 5 }

/-- The pending lock cycle of the counterexample. -/
def strayCycle : Cycle := { id := 1, planId := 1, tOpen := 0 }

/-- An ACTIVE module with a pending lock cycle, whose settle-model tow is said to run on unit 0x40000. -/
def strayState : State :=
  (((({ State.reset with
      boot := { State.reset.boot with coresUp := true }
      link := { State.reset.link with queues := [(5, { en := true, dir := true })] }
      lock := { State.reset.lock with cycles := [strayCycle], lastId := 1 }
      tows := { State.reset.tows with
        spaces := [(1, some policySpace)]
        tows := [{ space := 0, tag := 1, cls := 0, addr := 0, count := 1, order := 0, phase := .running 0x40000, settle := some 1 }] } } :
      State).fset F.KEEL_STATUS.READY 1).fset F.PAIR_STATUS.STATE 3).fset F.AUC_CTRL.POLICY_SPACE 1)

/-- The policy tow's LOCK_ABORT. -/
def straySrc : Src := ⟨0xFFFF, 1, 0⟩

/-- The machine after the abort. -/
def strayNext : State := lockAbort straySrc 1 (strayState.taking straySrc)

theorem strayState_accepts : strayState.accepts 0x23 straySrc := by
  unfold State.accepts
  decide +kernel

theorem exec_strayState : exec (.lockAbort straySrc 1) strayState = .next strayNext := by
  show Host.Outcome.next (strayState.handle 0x23 straySrc (lockAbort straySrc 1)) = _
  rw [State.handle_accepted strayState_accepts]
  rfl

/-- The completion is not in the queue of the policy space. -/
theorem strayNext_items : (strayNext.queue (strayState.cqOf straySrc)).items = [] := by decide +kernel

/-- Refutes O23: the form allows a settle-model tow on unit 0x40000, and when the abort drops it, POLICY_SPACE changes before the
completion is sent. -/
theorem not_lockAbortAndNotices : ¬ Obligations.LockAbortAndNotices := by
  intro h
  obtain ⟨t, n, hexec, -, -, -, -, -, -, -, -, -, -, -, -, hans⟩ :=
    ((h.1 strayState straySrc 1 strayCycle (by decide +kernel) strayState_accepts (by decide +kernel)).1 rfl)
  rw [exec_strayState] at hexec
  obtain rfl : strayNext = t := by simpa using hexec
  obtain ⟨seq, hlast⟩ := hans (by decide +kernel)
  rw [strayNext_items] at hlast
  cases hlast

end Sys2Proof.Machine
end

section
/-!
PROOFS. The servo of a time base (R188, R189): what a change of one base leaves alone, what a change of its servo state writes, and the
statements on samples and on the servo's states.
-/

namespace Sys2Proof.Machine

/-! ## One base changed -/

section
variable (s : State) (n : Nat) (f g : TimeBase → TimeBase)

theorem State.modBase_frame : s.modBase n f = { s with time := (s.modBase n f).time } := by
  unfold State.modBase; split <;> rfl

@[simp] theorem State.base_modBase : (s.modBase n f).base n = f (s.base n) :=
  match n with
  | 0 => rfl
  | 1 => rfl
  | _ + 2 => rfl

theorem State.modBase_modBase : (s.modBase n f).modBase n g = s.modBase n (fun x => g (f x)) :=
  match n with
  | 0 => rfl
  | 1 => rfl
  | _ + 2 => rfl

/-- A base changed to a value known from the state. -/
theorem State.modBase_const : s.modBase n f = s.modBase n (fun _ => f (s.base n)) :=
  match n with
  | 0 => rfl
  | 1 => rfl
  | _ + 2 => rfl

@[simp] theorem State.modBase_regs : (s.modBase n f).regs = s.regs := by rw [State.modBase_frame]

@[simp] theorem State.modBase_link : (s.modBase n f).link = s.link := by rw [State.modBase_frame]

@[simp] theorem State.tb3_modBase : (s.modBase n f).time.tb3 = s.time.tb3 := by unfold State.modBase; split <;> rfl

theorem State.fget_modBase (x : Fld) : (s.modBase n f).fget x = s.fget x := State.fget_of_regs (State.modBase_regs ..) x

theorem State.modBase_count (a i k : Nat) : (s.count a i k).modBase n f = (s.modBase n f).count a i k := by
  unfold State.modBase; split <;> rfl

theorem State.modBase_fset (x : Fld) (v : Nat) : (s.fset x v).modBase n f = (s.modBase n f).fset x v := by
  unfold State.modBase; split <;> rfl

theorem State.modBase_id : s.modBase n (fun _ => s.base n) = s :=
  match n with
  | 0 => rfl
  | 1 => rfl
  | _ + 2 => rfl

end

theorem State.base_congr {s t : State} (h : t.time = s.time) (n : Nat) : t.base n = s.base n := by
  unfold State.base
  rw [h]

/-- Reports about a state are reports about it with one base changed. -/
theorem State.Reported.modBase {s t : State} {l : List Fld} (h : s.Reported t l) (n : Nat) (f : TimeBase → TimeBase) :
    (s.modBase n f).Reported (t.modBase n f) l := by
  obtain ⟨form, frame, link, pair, kept⟩ := h
  have htime : t.time = s.time := by rw [frame]
  have hmod : (t.modBase n f).time = (s.modBase n f).time := by unfold State.modBase; split <;> simp only [htime]
  refine ⟨by simpa using form, ?_, ?_, ?_, fun g hg => ?_⟩
  · rw [State.modBase_frame t, State.modBase_frame s, hmod, frame]
  · rw [State.modBase_link, State.modBase_link]; exact link
  · rw [State.modBase_frame t, State.modBase_frame s]; exact pair
  · rw [State.fget_modBase, State.fget_modBase, kept g hg]

/-! ## The servo state -/

/-- The runs of a base after its servo state has changed to st at TB3 count now. -/
def TimeBase.entered (st now : Nat) (x : TimeBase) : TimeBase :=
  { x with holdSince := if st = 3 then now else x.holdSince, overRun := 0, okRun := 0, fineRun := 0 }

theorem stateFld_fits (n : Nat) : (stateFld n).lo + (stateFld n).width ≤ 32 := by unfold stateFld; split <;> decide

theorem stateFld_width (n : Nat) : (stateFld n).width = 2 := by unfold stateFld; split <;> rfl

theorem jumpFld_fits (n : Nat) : (jumpFld n).lo + (jumpFld n).width ≤ 32 := by unfold jumpFld; split <;> decide

theorem jumpFld_width (n : Nat) : (jumpFld n).width = 1 := by unfold jumpFld; split <;> rfl

theorem slewFld_fits (n : Nat) : (slewFld n).lo + (slewFld n).width ≤ 32 := by unfold slewFld; split <;> decide

theorem slewFld_width (n : Nat) : (slewFld n).width = 1 := by unfold slewFld; split <;> rfl

theorem steppedFld_width (n : Nat) : (steppedFld n).width = 1 := by unfold steppedFld; split <;> rfl

theorem steppedFld_fits (n : Nat) : (steppedFld n).lo + (steppedFld n).width ≤ 32 := by unfold steppedFld; split <;> decide

theorem servoFields_apart (n : Nat) : Fld.apart (jumpFld n) (stateFld n) ∧ Fld.apart (slewFld n) (stateFld n) ∧ Fld.apart (stateFld n) (jumpFld n) ∧
    Fld.apart (slewFld n) (jumpFld n) ∧ Fld.apart (stateFld n) (slewFld n) ∧ Fld.apart (stateFld n) (steppedFld n) ∧
      Fld.apart (steppedFld n) (stateFld n) := by
  unfold stateFld jumpFld slewFld steppedFld
  split <;> exact ⟨Fld.apart_of_test (by decide), Fld.apart_of_test (by decide), Fld.apart_of_test (by decide),
    Fld.apart_of_test (by decide), Fld.apart_of_test (by decide), Fld.apart_of_test (by decide), Fld.apart_of_test (by decide)⟩

theorem servoFields_quiet (n : Nat) : (∀ f ∈ logFields, Fld.apart f (stateFld n)) ∧ (∀ f ∈ logFields, Fld.apart f (jumpFld n)) ∧
    (∀ f ∈ logFields, Fld.apart f (slewFld n)) ∧ (∀ f ∈ logFields, Fld.apart f (steppedFld n)) := by
  unfold stateFld jumpFld slewFld steppedFld
  split <;> exact ⟨apart_of_test (by decide), apart_of_test (by decide), apart_of_test (by decide), apart_of_test (by decide)⟩

theorem State.timeEvent_regs (s : State) (n kind : Nat) : (s.timeEvent n kind).regs = s.regs := by simp [State.timeEvent]

theorem State.timeEvent_time (s : State) (n kind : Nat) : (s.timeEvent n kind).time = s.time := by simp [State.timeEvent]

theorem State.Reported.timeEvent {s t : State} {l : List Fld} (h : s.Reported t l) (n kind : Nat) : s.Reported (t.timeEvent n kind) l :=
  h.event ..

theorem State.Serves.timeEvent {s t : State} (h : s.Serves t) (n kind : Nat) : s.Serves (t.timeEvent n kind) := h.event ..

/-- The steps of a change of the servo state before its event. -/
def State.enterTb (s : State) (n st : Nat) : State :=
  let u := (s.fset (stateFld n) st).msix 1
  let v := if st = 3 then (u.modBase n (fun b => { b with holdSince := u.time.tb3 })).count 4 14 else u
  v.modBase n (fun b => { b with overRun := 0, okRun := 0, fineRun := 0 })

theorem State.setTbState_eq {s : State} {n st : Nat} (h : s.fget (stateFld n) ≠ st) : s.setTbState n st = (s.enterTb n st).timeEvent n 1 :=
  if_neg h

section
variable {s : State} (w : wordsWf 0 s.regs = true) {n st : Nat}
include w

theorem State.enterTb_spec (hst : st < 4) : (s.modBase n (TimeBase.entered st s.time.tb3)).Reported (s.enterTb n st) [stateFld n] ∧
    (s.enterTb n st).fget (stateFld n) = st := by
  have hset : s.Reported ((s.fset (stateFld n) st).msix 1) [stateFld n] :=
    ((State.Reported.refl w _).fset (by simp) (stateFld_fits n) st).msix 1
  have hread : ((s.fset (stateFld n) st).msix 1).fget (stateFld n) = st := by
    rw [State.fget_of_regs (State.msix_regs ..), State.fget_fset_self _ _ _ (stateFld_fits n) w, stateFld_width]
    exact Nat.mod_eq_of_lt hst
  have htb3 : ((s.fset (stateFld n) st).msix 1).time.tb3 = s.time.tb3 := by rw [hset.time]
  unfold State.enterTb
  dsimp only
  generalize (s.fset (stateFld n) st).msix 1 = u at hset hread htb3
  by_cases h3 : st = 3
  · rw [if_pos h3, htb3]
    have hmod := (hset.modBase n (fun b => { b with holdSince := s.time.tb3 })).count 4 14 1
    have hall := hmod.modBase n (fun b => { b with overRun := 0, okRun := 0, fineRun := 0 })
    rw [State.modBase_modBase] at hall
    refine ⟨?_, ?_⟩
    · have he : TimeBase.entered st s.time.tb3 = fun b => { b with holdSince := s.time.tb3, overRun := 0, okRun := 0, fineRun := 0 } := by
        funext b; simp [TimeBase.entered, h3]
      rw [he]
      exact hall
    · rw [State.fget_modBase]
      exact (State.fget_modBase u n _ _).trans hread
  · rw [if_neg h3]
    refine ⟨?_, by rw [State.fget_modBase]; exact hread⟩
    have he : TimeBase.entered st s.time.tb3 = fun b => { b with overRun := 0, okRun := 0, fineRun := 0 } := by
      funext b; simp [TimeBase.entered, h3]
    rw [he]
    exact hset.modBase n _

/-- A change of the servo state (R188): the state shown, the runs begun anew, and reports. -/
theorem State.setTbState_spec (hst : st < 4) (h : s.fget (stateFld n) ≠ st) :
    (s.modBase n (TimeBase.entered st s.time.tb3)).Reported (s.setTbState n st) [stateFld n] ∧ (s.setTbState n st).fget (stateFld n) = st := by
  obtain ⟨hr, hf⟩ := State.enterTb_spec (n := n) w hst
  rw [State.setTbState_eq h]
  exact ⟨hr.timeEvent n 1, (State.fget_of_regs (State.timeEvent_regs ..) _).trans hf⟩

end

/-- A change of the servo state leaves the queues serving. -/
theorem State.Serves.setTbState {s t : State} (h : s.Serves t) (n st : Nat) : s.Serves (t.setTbState n st) := by
  by_cases hst : t.fget (stateFld n) = st
  · rw [State.setTbState, if_pos hst]; exact h
  · rw [State.setTbState_eq hst]
    refine State.Serves.timeEvent ?_ n 1
    have hmsix : s.Serves ((t.fset (stateFld n) st).msix 1) :=
      h.keep (queues_of_linkRest (by simp)) (flrDiscard_of_linkRest (by simp))
    unfold State.enterTb
    dsimp only
    exact (State.Serves.ite ((hmsix.link (State.modBase_link ..)).count 4 14 1) hmsix).link (State.modBase_link ..)

/-! ## Samples (R188, R189) -/

theorem State.wf_base {b : Nat} {y : SyncIn} (h : Instr.wf (.syncSample b y) = true) : b < 2 := by
  simp only [Instr.wf, Bool.and_eq_true, okBase, decide_eq_true_eq] at h
  exact h.1

/-- The least of a list of delays, from d on. -/
theorem foldl_min_le (l : List Nat) (d : Nat) : l.foldl min d ≤ d ∧ (∀ k ∈ l, l.foldl min d ≤ k) ∧ (l.foldl min d = d ∨ l.foldl min d ∈ l) := by
  induction l generalizing d with
  | nil => simp
  | cons x l ih =>
    obtain ⟨hd, hl, hm⟩ := ih (min d x)
    rw [List.foldl_cons]
    refine ⟨hd.trans (Nat.min_le_left d x), fun k hk => ?_, ?_⟩
    · rcases List.mem_cons.mp hk with rfl | hk
      · exact hd.trans (Nat.min_le_right d k)
      · exact hl k hk
    · rcases hm with hm | hm
      · rcases Nat.le_total d x with h | h
        · exact .inl (by rw [hm, Nat.min_eq_left h])
        · exact .inr (by rw [hm, Nat.min_eq_right h]; exact List.mem_cons_self)
      · exact .inr (List.mem_cons_of_mem _ hm)

/-- The machine that has counted a sample and noted its path delay. -/
def State.noteDelay (s : State) (b : Nat) (delay : Nat) : State :=
  (s.count 4 b).modBase b (fun x => { x with delays := lastN 16 (x.delays ++ [delay]) })

section
variable {s : State} {b : Nat} {y : SyncIn} {o : Int} (hy : Instr.wf (.syncSample b y) = true) (ho : s.syncOffset b y = some o)
  (hen : s.bit (F.TB_CTRL.EN b) = true) (hrung : s.rung ≤ 2)
include hy ho hen hrung

theorem exec_syncSample_eq : exec (.syncSample b y) s = .next (
    match (s.base b).delays with
    | [] => (s.noteDelay b y.delay).takeSample b o y.interval
    | d :: ds => if ds.foldl min d + 200 < y.delay then (s.noteDelay b y.delay).count 4 2
                 else (s.noteDelay b y.delay).takeSample b o y.interval) := by
  have hgo : ¬ (!s.bit (F.TB_CTRL.EN b) || decide (3 ≤ s.rung)) = true := by simp [hen]; omega
  show execSyncSample b y s = _
  rw [execSyncSample, hy, ho]
  dsimp only
  rw [if_neg hgo]
  rfl

/-- A sample whose path delay is more than 200 ns above the least of those held is only counted. -/
theorem exec_syncSample_late (hne : (s.base b).delays ≠ [])
    (hlate : ∀ m ∈ (s.base b).delays, (∀ k ∈ (s.base b).delays, m ≤ k) → m + 200 < y.delay) :
    exec (.syncSample b y) s = .next ((s.noteDelay b y.delay).count 4 2) := by
  rw [exec_syncSample_eq hy ho hen hrung]
  cases hd : (s.base b).delays with
  | nil => exact absurd hd hne
  | cons d ds =>
    obtain ⟨hle, hall, hmem⟩ := foldl_min_le ds d
    have hin : ds.foldl min d ∈ d :: ds := List.mem_cons.mpr hmem
    have hleast : ∀ k ∈ d :: ds, ds.foldl min d ≤ k := fun k hk => (List.mem_cons.mp hk).elim (fun e => e ▸ hle) (hall k)
    rw [hd] at hlate
    dsimp only
    rw [if_pos (hlate _ hin hleast)]

/-- A sample within 200 ns of the least path delay is taken. -/
theorem exec_syncSample_taken (hok : ∀ m ∈ (s.base b).delays, (∀ k ∈ (s.base b).delays, m ≤ k) → y.delay ≤ m + 200) :
    exec (.syncSample b y) s = .next ((s.noteDelay b y.delay).takeSample b o y.interval) := by
  rw [exec_syncSample_eq hy ho hen hrung]
  cases hd : (s.base b).delays with
  | nil => rfl
  | cons d ds =>
    obtain ⟨hle, hall, hmem⟩ := foldl_min_le ds d
    have hin : ds.foldl min d ∈ d :: ds := List.mem_cons.mpr hmem
    have hleast : ∀ k ∈ d :: ds, ds.foldl min d ≤ k := fun k hk => (List.mem_cons.mp hk).elim (fun e => e ▸ hle) (hall k)
    rw [hd] at hok
    dsimp only
    rw [if_neg (Nat.not_lt.mpr (hok _ hin hleast))]

end

section
variable (s : State) (b : Nat) (delay : Nat)

/-- A base with the delay of a sample noted. -/
def TimeBase.noted (x : TimeBase) (delay : Nat) : TimeBase := { x with delays := lastN 16 (x.delays ++ [delay]) }

theorem State.modBase_noteDelay (g : TimeBase → TimeBase) : (s.noteDelay b delay).modBase b g =
    (s.modBase b (fun _ => g ((s.base b).noted delay))).count 4 b := by
  rw [State.noteDelay, State.modBase_modBase, State.modBase_count, State.modBase_const]
  rfl

theorem State.base_noteDelay : (s.noteDelay b delay).base b = (s.base b).noted delay := by
  rw [State.noteDelay, State.base_modBase]
  rfl

theorem State.fget_noteDelay (f : Fld) : (s.noteDelay b delay).fget f = s.fget f := State.fget_modBase ..

end

/-- A base after a good sample, before the servo acts. -/
def TimeBase.good (x : TimeBase) (o : Int) (jump : Bool) (now : Nat) : TimeBase :=
  { x with last := o, overRun := 0, okRun := x.okRun + 1
           fineRun := if (x.beyond o).natAbs ≤ 100 * fineNs then x.fineRun + 1 else 0
           offset := if jump then x.offset else o, lastGood := now }

theorem State.goodSample_eq (s : State) (n : Nat) (o : Int) (t : Nat) : s.goodSample n o t =
    let u := s.modBase n (fun b => b.good o (s.bit (jumpFld n)) s.time.tb3)
    let kp := s.fget (F.TB_CTRL.KP_SHIFT n)
    let ki := s.fget (F.TB_CTRL.KI_SHIFT n)
    if s.fget (stateFld n) = 3 then
      if 4 ≤ (u.base n).okRun then ((u.fset (jumpFld n) 0).modBase n (fun b => { b.servo kp ki o t with offset := o })).setTbState n 2 else u
    else
      let v := u.modBase n (fun b => { b.servo kp ki o t with offset := o })
      if s.fget (stateFld n) = 1 ∧ 8 ≤ (v.base n).fineRun then v.setTbState n 2 else v := by
  have hbase : s.modBase n (fun b =>
      { b with
        last := o, overRun := 0, okRun := b.okRun + 1
        fineRun := if decide (((s.base n).beyond o).natAbs ≤ 100 * fineNs) then b.fineRun + 1 else 0
        offset := if s.bit (jumpFld n) then b.offset else o
        lastGood := s.time.tb3 }) = s.modBase n (fun b => b.good o (s.bit (jumpFld n)) s.time.tb3) := by
    rw [State.modBase_const, State.modBase_const s n (fun b => b.good o (s.bit (jumpFld n)) s.time.tb3)]
    simp only [TimeBase.good, decide_eq_true_eq]
  unfold State.goodSample
  dsimp only
  rw [hbase]

/-- Settles O38: the path-delay filter admits a sample exactly when it lies within 200 ns of the least delay held, and each way a
sample is taken is one change of the base, with a change of the servo state where one falls due. -/
theorem syncSamples : Obligations.SyncSamples := by
  unfold Obligations.SyncSamples
  intro s b y o hwf hy ho hen hrung x fine run still
  have w := State.regsWf_of_allWf hwf
  refine ⟨fun hne hlate => ?_, fun hok => ?_⟩
  · refine ⟨_, exec_syncSample_late hy ho hen hrung hne hlate, ?_⟩
    rw [State.noteDelay, State.modBase_count, State.modBase_const]
    rfl
  · have hexec := exec_syncSample_taken hy ho hen hrung hok
    have hstate := State.fget_noteDelay s b y.delay (stateFld b)
    have hbase := State.base_noteDelay s b y.delay
    have hjump : (s.noteDelay b y.delay).bit (jumpFld b) = s.bit (jumpFld b) := by rw [State.bit, State.fget_noteDelay, State.bit]
    have htb3 : (s.noteDelay b y.delay).time.tb3 = s.time.tb3 := State.tb3_modBase ..
    have hlim : (s.noteDelay b y.delay).jumpLimit = s.jumpLimit := by rw [State.jumpLimit, State.fget_noteDelay, State.jumpLimit]
    have hkp := State.fget_noteDelay s b y.delay (F.TB_CTRL.KP_SHIFT b)
    have hki := State.fget_noteDelay s b y.delay (F.TB_CTRL.KI_SHIFT b)
    refine ⟨fun hfree => ?_, fun hne hover => ?_, fun hin => ?_⟩
    · refine ⟨_, hexec, ?_⟩
      rw [State.takeSample, hstate, if_pos hfree, State.modBase_noteDelay, htb3]
      rfl
    · refine ⟨_, hexec, ?_⟩
      have hover' : (s.noteDelay b y.delay).jumpLimit * fineNs < (((s.noteDelay b y.delay).base b).beyond o).natAbs := by
        rw [hlim, hbase]; exact hover
      rw [State.takeSample, hstate, if_neg hne, if_pos hover', State.overSample, State.modBase_noteDelay, hjump]
      rfl
    · have hin' : ¬ (s.noteDelay b y.delay).jumpLimit * fineNs < (((s.noteDelay b y.delay).base b).beyond o).natAbs := by
        rw [hlim, hbase]; exact Nat.not_lt.mpr hin
      have hgood : ∀ g : TimeBase → TimeBase, ((s.noteDelay b y.delay).modBase b
          (fun z => z.good o ((s.noteDelay b y.delay).bit (jumpFld b)) (s.noteDelay b y.delay).time.tb3)).modBase b g =
          (s.modBase b (fun _ => g (((s.base b).noted y.delay).good o (s.bit (jumpFld b)) s.time.tb3))).count 4 b := fun g => by
        rw [State.modBase_modBase, State.modBase_noteDelay, hjump, htb3]
      have hserve : { (((s.base b).noted y.delay).good o (s.bit (jumpFld b)) s.time.tb3).servo (s.fget (F.TB_CTRL.KP_SHIFT b))
          (s.fget (F.TB_CTRL.KI_SHIFT b)) o y.interval with offset := o } = run := rfl
      have htake : s.fget (stateFld b) ≠ 0 → (s.noteDelay b y.delay).takeSample b o y.interval =
          (s.noteDelay b y.delay).goodSample b o y.interval := fun h0 => by
        rw [State.takeSample, hstate, if_neg h0, if_neg hin']
      have hacq : s.fget (stateFld b) ≠ 0 → s.fget (stateFld b) ≠ 3 → (s.noteDelay b y.delay).takeSample b o y.interval =
          if s.fget (stateFld b) = 1 ∧ 8 ≤ fine then ((s.modBase b (fun _ => run)).count 4 b).setTbState b 2
          else (s.modBase b (fun _ => run)).count 4 b := fun h0 h3 => by
        rw [htake h0, State.goodSample_eq]
        dsimp only
        rw [hstate, if_neg h3, hgood, hkp, hki, hserve]
        have hfine : (((s.modBase b (fun _ => run)).count 4 b).base b).fineRun = fine := by
          show ((s.modBase b (fun _ => run)).base b).fineRun = fine
          rw [State.base_modBase]
        rw [hfine]
      refine ⟨fun hst => ?_, fun hst h8 => ?_, fun hst hrun => ?_, fun hst hrun => ?_⟩
      · refine ⟨_, hexec, ?_⟩
        have h0 : s.fget (stateFld b) ≠ 0 := by rcases hst with h | ⟨h, -⟩ <;> omega
        have h3 : s.fget (stateFld b) ≠ 3 := by rcases hst with h | ⟨h, -⟩ <;> omega
        have hno : ¬ (s.fget (stateFld b) = 1 ∧ 8 ≤ fine) := by rcases hst with h | ⟨h, hf⟩ <;> omega
        rw [hacq h0 h3, if_neg hno]
        rfl
      · have hset := State.setTbState_spec (s := (s.modBase b (fun _ => run)).count 4 b) (n := b) (st := 2) (by simpa using w) (by decide)
          (by rw [show ((s.modBase b (fun _ => run)).count 4 b).fget (stateFld b) = s.fget (stateFld b) from State.fget_modBase ..]; omega)
        refine ⟨_, hexec, ?_, ?_⟩
        · rw [hacq (by omega) (by omega), if_pos ⟨hst, h8⟩]; exact hset.2
        · rw [hacq (by omega) (by omega), if_pos ⟨hst, h8⟩]
          have hrep := hset.1.reports
          rw [State.modBase_count, State.modBase_modBase] at hrep
          exact reports_trans (State.count_reports _ 4 b 1 _) hrep
      · refine ⟨_, hexec, ?_⟩
        rw [htake (by omega), State.goodSample_eq]
        dsimp only
        rw [hstate, if_pos hst, if_neg]
        · rw [State.modBase_noteDelay, hjump, htb3]
          rfl
        · rw [State.base_modBase, hbase]
          show ¬ 4 ≤ (s.base b).okRun + 1
          omega
      · have hok4 : 4 ≤ (((s.noteDelay b y.delay).modBase b (fun z => z.good o ((s.noteDelay b y.delay).bit (jumpFld b))
            (s.noteDelay b y.delay).time.tb3)).base b).okRun := by
          rw [State.base_modBase, hbase]
          show 4 ≤ (s.base b).okRun + 1
          omega
        have heq : (s.noteDelay b y.delay).takeSample b o y.interval =
            (((s.modBase b (fun _ => run)).count 4 b).fset (jumpFld b) 0).setTbState b 2 := by
          rw [htake (by omega), State.goodSample_eq]
          dsimp only
          rw [hstate, if_pos hst, if_pos hok4, State.modBase_fset, hgood, hkp, hki, hserve]
        obtain ⟨hjs, -, hsj, -⟩ := servoFields_apart b
        have wr : wordsWf 0 ((s.modBase b (fun _ => run)).count 4 b).regs = true := by simpa using w
        have wj := State.fset_wf _ (jumpFld b) 0 wr
        have hst3 : (((s.modBase b (fun _ => run)).count 4 b).fset (jumpFld b) 0).fget (stateFld b) = 3 := by
          rw [State.fget_fset_apart _ _ _ 0 (jumpFld_fits b) wr hjs]
          exact (State.fget_modBase ..).trans hst
        obtain ⟨hset, hread⟩ := State.setTbState_spec (n := b) (st := 2) wj (by decide) (by rw [hst3]; decide)
        have hj0 : (((s.modBase b (fun _ => run)).count 4 b).fset (jumpFld b) 0).fget (jumpFld b) = 0 := by
          rw [State.fget_fset_self _ _ 0 (jumpFld_fits b) wr, Nat.zero_mod]
        refine ⟨_, hexec, by rw [heq]; exact hread, ?_, ?_⟩
        · rw [heq, hset.fget, State.fget_modBase, hj0]
          simp only [List.singleton_append, List.forall_mem_cons]
          exact ⟨hsj, (servoFields_quiet b).2.1⟩
        · rw [heq]
          rw [State.modBase_fset, State.modBase_count, State.modBase_modBase] at hset
          have wstill : wordsWf 0 (s.modBase b (fun _ => still)).regs = true := by simpa using w
          have hstart := ((State.Reported.refl wstill [stateFld b, jumpFld b]).count 4 b 1).fset (f := jumpFld b) (by simp) (jumpFld_fits b) 0
          exact (hstart.trans (hset.mono (by simp))).reports

/-! ## The states of the servo (R188, R189, R190) -/

/-- What a base keeps through a change of its servo state. -/
def TimeBase.sameRun (x y : TimeBase) : Prop := y.t = x.t ∧ y.rate = x.rate ∧ y.f = x.f ∧ y.slew = x.slew ∧ y.offset = x.offset

/-- A servo state entered, whether it is a change or not. -/
theorem State.setTbState_entered {s : State} (w : wordsWf 0 s.regs = true) (n : Nat) {st : Nat} (hst : st < 4) :
    (s.modBase n (fun _ => (s.setTbState n st).base n)).Reported (s.setTbState n st) [stateFld n] ∧
      (s.setTbState n st).fget (stateFld n) = st ∧ (s.base n).sameRun ((s.setTbState n st).base n) := by
  by_cases h : s.fget (stateFld n) = st
  · have hid : s.setTbState n st = s := if_pos h
    rw [hid, State.modBase_id]
    exact ⟨State.Reported.refl w _, h, rfl, rfl, rfl, rfl, rfl⟩
  · obtain ⟨hr, hf⟩ := State.setTbState_spec w hst h
    have hbase : (s.setTbState n st).base n = (s.base n).entered st s.time.tb3 := by
      rw [State.base_congr hr.time, State.base_modBase]
    rw [hbase, ← State.modBase_const]
    exact ⟨hr, hf, rfl, rfl, rfl, rfl, rfl⟩

section
variable {s : State} (w : wordsWf 0 s.regs = true) (n : Nat)
include w

/-- JUMP set, SLEW cleared and the base changed: a jump before its change of state. -/
theorem State.jumped_reported (j sl : Nat) (hj : j < 2) (hsl : sl < 2) (f : TimeBase → TimeBase) (k : Nat) :
    (s.modBase n f).Reported ((((s.fset (jumpFld n) j).fset (slewFld n) sl).modBase n f).count 4 k) [stateFld n, jumpFld n, slewFld n] ∧
      ((((s.fset (jumpFld n) j).fset (slewFld n) sl).modBase n f).count 4 k).fget (jumpFld n) = j ∧
      ((((s.fset (jumpFld n) j).fset (slewFld n) sl).modBase n f).count 4 k).fget (slewFld n) = sl := by
  have wj := State.fset_wf _ (jumpFld n) j w
  refine ⟨?_, ?_, ?_⟩
  · exact ((((State.Reported.refl w _).fset (by simp) (jumpFld_fits n) j).fset (by simp) (slewFld_fits n) sl).modBase n f).count 4 k 1
  · show ((((s.fset (jumpFld n) j).fset (slewFld n) sl).modBase n f)).fget (jumpFld n) = j
    rw [State.fget_modBase, State.fget_fset_apart _ _ _ _ (slewFld_fits n) wj (servoFields_apart n).2.2.2.1,
      State.fget_fset_self _ _ _ (jumpFld_fits n) w, jumpFld_width]
    exact Nat.mod_eq_of_lt hj
  · show ((((s.fset (jumpFld n) j).fset (slewFld n) sl).modBase n f)).fget (slewFld n) = sl
    rw [State.fget_modBase, State.fget_fset_self _ _ _ (slewFld_fits n) wj, slewFld_width]
    exact Nat.mod_eq_of_lt hsl

end

/-- The fields of the servo apart from its state and quiet in the logbook's entries. -/
theorem servoFields_kept (n : Nat) : (∀ f ∈ [stateFld n] ++ logFields, Fld.apart f (jumpFld n)) ∧
    (∀ f ∈ [stateFld n] ++ logFields, Fld.apart f (slewFld n)) ∧ (∀ f ∈ [stateFld n] ++ logFields, Fld.apart f (steppedFld n)) := by
  obtain ⟨-, -, hsj, -, hss, hst, -⟩ := servoFields_apart n
  obtain ⟨-, hj, hl, hp⟩ := servoFields_quiet n
  simp only [List.singleton_append, List.forall_mem_cons]
  exact ⟨⟨hsj, hj⟩, ⟨hss, hl⟩, ⟨hst, hp⟩⟩

section
variable {s : State} (w : wordsWf 0 s.regs = true) {b : Nat} (hb : b < 2)
include w hb

theorem timeJump_spec (hrun : 4 ≤ (s.base b).overRun) (hst : s.fget (stateFld b) ≠ 0) (hj : s.bit (jumpFld b) = false) :
    ∃ t, exec (.timeJump b) s = .next t ∧ t.fget (stateFld b) = 3 ∧ t.fget (jumpFld b) = 1 ∧ t.fget (slewFld b) = 0 ∧
      (t.base b).slew = 0 ∧ (t.base b).offset = (s.base b).last ∧ (t.base b).rate = (s.base b).rate ∧ (t.base b).f = (s.base b).f ∧
      (t.base b).t = (s.base b).t ∧ (t.base b).overRun = 0 ∧
      reports (s.modBase b (fun _ => t.base b)) t [stateFld b, jumpFld b, slewFld b] := by
  have hgo : ¬ ((s.base b).overRun < 4 ∨ (decide (s.fget (stateFld b) = 0) || s.bit (jumpFld b)) = true) := by
    simp only [hj, Bool.or_false, decide_eq_true_eq]; omega
  obtain ⟨hu, huj, hus⟩ := State.jumped_reported w b 1 0 (by decide) (by decide) (fun x => { x with slew := 0, offset := (s.base b).last }) 4
  have hbase : (((((s.fset (jumpFld b) 1).fset (slewFld b) 0).modBase b fun x => { x with slew := 0, offset := (s.base b).last }).count 4 4).base b) =
      { s.base b with slew := 0, offset := (s.base b).last } := (State.base_modBase ..).trans rfl
  have hwf : Instr.wf (.timeJump b) = true := decide_eq_true hb
  refine ⟨_, (show execTimeJump b s = _ by rw [execTimeJump, hwf, if_neg hgo]; rfl), ?_⟩
  dsimp only
  generalize (((s.fset (jumpFld b) 1).fset (slewFld b) 0).modBase b fun x => { x with slew := 0, offset := (s.base b).last }).count 4 4 = u
    at hu huj hus hbase ⊢
  obtain ⟨hv, hvst, hvrun⟩ := State.setTbState_entered hu.form b (st := 3) (by decide)
  rw [hbase] at hvrun
  obtain ⟨ht, hrate, hf, hslew, hoff⟩ := hvrun
  have hall := (hu.modBase b _).trans (hv.mono (m := [stateFld b, jumpFld b, slewFld b]) (by simp))
  rw [State.modBase_modBase] at hall
  have hvj := (hv.fget (servoFields_kept b).1).trans ((State.fget_modBase ..).trans huj)
  have hvs := (hv.fget (servoFields_kept b).2.1).trans ((State.fget_modBase ..).trans hus)
  generalize u.setTbState b 3 = v at *
  have hend := (((hall.msix 1).modBase b (fun x => { x with overRun := 0 })).timeEvent b 0).logEntry (sev := 4) (by decide) 2 .environment .module 0 b 0
  rw [State.modBase_modBase] at hend
  have hkept := ((((State.Reported.refl hall.form []).msix 1).modBase b (fun x => { x with overRun := 0 })).timeEvent b 0).logEntry
    (sev := 4) (by decide) 2 .environment .module 0 b 0
  generalize ((((v.msix 1).modBase b fun x => { x with overRun := 0 }).timeEvent b 0).logEntry 4 2 .environment .module 0 b) = t at hend hkept ⊢
  have hfld : ∀ g, (∀ f ∈ logFields, Fld.apart f g) → t.fget g = v.fget g := fun g hg => (hkept.fget hg).trans (State.fget_modBase ..)
  obtain ⟨qst, qj, qs, -⟩ := servoFields_quiet b
  have htb : t.base b = { v.base b with overRun := 0 } := by rw [State.base_congr hkept.time, State.base_modBase]
  rw [htb]
  exact ⟨(hfld _ qst).trans hvst, (hfld _ qj).trans hvj, (hfld _ qs).trans hvs, hslew, hoff, hrate, hf, ht, rfl, hend.reports⟩

theorem firstStep_spec (hst : s.fget (stateFld b) = 0) (hag : agreeing (s.base b).firsts = true) :
    ∃ t, exec (.firstStep b) s = .next t ∧ t.fget (stateFld b) = 1 ∧ t.fget (steppedFld b) = 1 ∧
      reports (s.modBase b (fun x => { x with t := ((x.t : Int) + x.firsts.foldl (· + ·) 0 * 10 ^ 12 / 4).toNat, firsts := []
                                              overRun := 0, okRun := 0, fineRun := 0 })) t [stateFld b, steppedFld b] := by
  have hwf : Instr.wf (.firstStep b) = true := decide_eq_true hb
  refine ⟨_, (show execFirstStep b s = _ by rw [execFirstStep, hwf, if_pos ⟨hst, hag⟩]; rfl), ?_⟩
  dsimp only
  have wm : wordsWf 0 (s.modBase b (fun x =>
      { x with t := ((x.t : Int) + (s.base b).firsts.foldl (· + ·) 0 * 10 ^ 12 / 4).toNat, firsts := [] })).regs = true := by simpa using w
  have hstate := (State.fget_modBase s b (fun x =>
      { x with t := ((x.t : Int) + (s.base b).firsts.foldl (· + ·) 0 * 10 ^ 12 / 4).toNat, firsts := [] }) (stateFld b)).trans hst
  have hmod := State.modBase_modBase s b (fun x =>
      { x with t := ((x.t : Int) + (s.base b).firsts.foldl (· + ·) 0 * 10 ^ 12 / 4).toNat, firsts := [] }) (TimeBase.entered 1 s.time.tb3)
  have htb3 := State.tb3_modBase s b (fun x =>
      { x with t := ((x.t : Int) + (s.base b).firsts.foldl (· + ·) 0 * 10 ^ 12 / 4).toNat, firsts := [] })
  generalize s.modBase b (fun x =>
      { x with t := ((x.t : Int) + (s.base b).firsts.foldl (· + ·) 0 * 10 ^ 12 / 4).toNat, firsts := [] }) = u at *
  have ws := State.fset_wf _ (steppedFld b) 1 wm
  have hst0 : (u.fset (steppedFld b) 1).fget (stateFld b) = 0 := by
    rw [State.fget_fset_apart _ _ _ _ (steppedFld_fits b) wm (servoFields_apart b).2.2.2.2.2.2]; exact hstate
  obtain ⟨hr, hf⟩ := State.setTbState_spec (n := b) (st := 1) ws (by decide) (by omega)
  refine ⟨hf, ?_, ?_⟩
  · rw [hr.fget (servoFields_kept b).2.2, State.fget_modBase, State.fget_fset_self _ _ _ (steppedFld_fits b) wm, steppedFld_width]
    rfl
  · have htime : (u.fset (steppedFld b) 1).time.tb3 = s.time.tb3 := htb3
    rw [State.modBase_fset, htime, hmod, State.modBase_const] at hr
    rw [State.modBase_const]
    have wstart : wordsWf 0 (s.modBase b (fun _ => TimeBase.entered 1 s.time.tb3
      { s.base b with t := (((s.base b).t : Int) + (s.base b).firsts.foldl (· + ·) 0 * 10 ^ 12 / 4).toNat, firsts := [] })).regs = true := by simpa using w
    exact (((State.Reported.refl wstart [stateFld b, steppedFld b]).fset (f := steppedFld b) (by simp) (steppedFld_fits b) 1).trans
      (hr.mono (by simp))).reports

theorem announceTimeout_spec (lost : Bool) (hst : s.fget (stateFld b) = 1 ∨ s.fget (stateFld b) = 2)
    (hlost : lost = true ∨ s.announceWait (s.slavePort b) ≤ s.time.tb3 - (s.base b).lastGood) :
    ∃ t, exec (.announceTimeout b lost) s = .next t ∧ t.fget (stateFld b) = 3 ∧
      reports (s.modBase b (fun x => { x with holdSince := s.time.tb3, overRun := 0, okRun := 0, fineRun := 0 })) t [stateFld b] := by
  have hwf : Instr.wf (.announceTimeout b lost) = true := decide_eq_true hb
  have hgo : (s.fget (stateFld b) = 1 ∨ s.fget (stateFld b) = 2) ∧
      (lost || decide (s.announceWait (s.slavePort b) ≤ s.time.tb3 - (s.base b).lastGood)) = true := ⟨hst, by simpa using hlost⟩
  have hhold : ∀ u : State, u.regs = s.regs → u.holdBase b = u.setTbState b 3 := fun u hu => by
    have hus : u.fget (stateFld b) = s.fget (stateFld b) := State.fget_of_regs hu _
    rw [State.holdBase, if_pos (by rw [hus]; exact hst)]
  refine ⟨_, (show execAnnounceTimeout b lost s = _ by rw [execAnnounceTimeout, hwf, if_pos hgo]; rfl), ?_⟩
  have hne : s.fget (stateFld b) ≠ 3 := by omega
  cases lost with
  | true =>
    rw [if_pos rfl, hhold s rfl]
    obtain ⟨hr, hf⟩ := State.setTbState_spec (n := b) (st := 3) w (by decide) hne
    exact ⟨hf, hr.reports⟩
  | false =>
    rw [if_neg Bool.false_ne_true, hhold (s.count 4 6) rfl]
    obtain ⟨hr, hf⟩ := State.setTbState_spec (s := s.count 4 6) (n := b) (st := 3) w (by decide) hne
    rw [State.modBase_count] at hr
    exact ⟨hf, reports_trans (State.count_reports _ 4 6 1 _) hr.reports⟩

theorem slewDone_spec (hsl : s.bit (slewFld b) = true) (h0 : (s.base b).slew = 0) :
    ∃ t, exec (.slewDone b) s = .next t ∧ t.fget (slewFld b) = 0 ∧ reports s t [slewFld b] := by
  have hwf : Instr.wf (.slewDone b) = true := decide_eq_true hb
  refine ⟨_, (show execSlewDone b s = _ by rw [execSlewDone, hwf, if_pos (by simp [hsl, h0])]; rfl), ?_, ?_⟩
  · rw [State.fget_of_regs (State.timeEvent_regs ..), State.fget_fset_self _ _ _ (slewFld_fits b) w, Nat.zero_mod]
  · exact (((State.Reported.refl w [slewFld b]).fset (by simp) (slewFld_fits b) 0).timeEvent b 2).reports

end

/-- TIME_ACCEPT_JUMP's effect before its completion. -/
def State.acceptJump (s : State) (b : Nat) : State :=
  ((((s.fset (jumpFld b) 0).fset (slewFld b) (if (s.base b).last = 0 then 0 else 1)).modBase b
    (fun x => { x with slew := (s.base b).last * 10 ^ 12, offset := (s.base b).last })).count 4 5).setTbState b 2

theorem State.acceptJump_spec {s : State} (w : wordsWf 0 s.regs = true) (b : Nat) :
    let t := s.acceptJump b
    t.fget (stateFld b) = 2 ∧ t.fget (jumpFld b) = 0 ∧ t.fget (slewFld b) = (if (s.base b).last = 0 then 0 else 1) ∧
      (t.base b).slew = (s.base b).last * 10 ^ 12 ∧ (t.base b).offset = (s.base b).last ∧ (t.base b).rate = (s.base b).rate ∧
      (t.base b).t = (s.base b).t ∧ (s.modBase b (fun _ => t.base b)).Reported t [stateFld b, jumpFld b, slewFld b] := by
  obtain ⟨hu, huj, hus⟩ := State.jumped_reported w b 0 (if (s.base b).last = 0 then 0 else 1) (by decide) (by split <;> decide)
    (fun x => { x with slew := (s.base b).last * 10 ^ 12, offset := (s.base b).last }) 5
  have hbase : ((((s.fset (jumpFld b) 0).fset (slewFld b) (if (s.base b).last = 0 then 0 else 1)).modBase b
      (fun x => { x with slew := (s.base b).last * 10 ^ 12, offset := (s.base b).last })).count 4 5).base b =
      { s.base b with slew := (s.base b).last * 10 ^ 12, offset := (s.base b).last } := (State.base_modBase ..).trans rfl
  unfold State.acceptJump
  dsimp only
  generalize (((s.fset (jumpFld b) 0).fset (slewFld b) (if (s.base b).last = 0 then 0 else 1)).modBase b
      (fun x => { x with slew := (s.base b).last * 10 ^ 12, offset := (s.base b).last })).count 4 5 = u at hu huj hus hbase ⊢
  obtain ⟨hv, hst, ht, hrate, -, hslew, hoff⟩ := State.setTbState_entered hu.form b (st := 2) (by decide)
  rw [hbase] at ht hrate hslew hoff
  have hall := (hu.modBase b (fun _ => (u.setTbState b 2).base b)).trans (hv.mono (m := [stateFld b, jumpFld b, slewFld b]) (by simp))
  rw [State.modBase_modBase] at hall
  exact ⟨hst, (hv.fget (servoFields_kept b).1).trans ((State.fget_modBase ..).trans huj),
    (hv.fget (servoFields_kept b).2.1).trans ((State.fget_modBase ..).trans hus), hslew, hoff, hrate, ht, hall⟩

theorem State.Serves.acceptJump {s t : State} (h : s.Serves t) (b : Nat) : s.Serves (t.acceptJump b) := by
  refine State.Serves.setTbState (State.Serves.count ?_ 4 5 1) b 2
  exact h.link (by rw [State.modBase_link]; rfl)

/-- TIME_ACCEPT_JUMP taken (R190). -/
theorem timeAcceptJump_taken {s : State} (hwf : s.allWf = true) {src : Src} {b : Nat} (hb : b < 2) (hacc : s.accepts 0x80 src)
    (hj : s.bit (jumpFld b) = true) :
    ∃ t, exec (.timeAcceptJump src b) s = .next t ∧ t.fget (stateFld b) = 2 ∧ t.fget (jumpFld b) = 0 ∧
      t.fget (slewFld b) = (if (s.base b).last = 0 then 0 else 1) ∧ (t.base b).slew = (s.base b).last * 10 ^ 12 ∧
      (t.base b).offset = (s.base b).last ∧ (t.base b).rate = (s.base b).rate ∧ (t.base b).t = (s.base b).t ∧
      answered s t 0x80 src .done 0 0 (le 8 (ofSigned 64 (s.base b).last)) [] ∧
      reports ((s.without src).modBase b (fun _ => t.base b)) t [stateFld b, jumpFld b, slewFld b] := by
  have w : wordsWf 0 (s.taking src).regs = true := State.regsWf_of_allWf (s := s) hwf
  have hexec : exec (.timeAcceptJump src b) s =
      .next (((s.taking src).acceptJump b).complete 0x80 src .done 0 0 (le 8 (ofSigned 64 (s.base b).last))) := by
    show execTimeAcceptJump src b s = _
    rw [execTimeAcceptJump, State.handle_accepted hacc, if_neg (by omega),
      if_neg (show ¬ (!(s.taking src).bit (jumpFld b)) = true from by rw [show (s.taking src).bit (jumpFld b) = true from hj]; decide)]
    rfl
  have hserve : s.Serves ((s.taking src).acceptJump b) := ((State.Serves.refl (State.queuesWf_of_allWf hwf)).link (u := s.taking src) rfl).acceptJump b
  have hcq := hserve.cqOf_host (hacc.hostQueue (by decide))
  have hspec := State.acceptJump_spec w b
  refine ⟨_, hexec, ?_⟩
  dsimp only at hspec
  obtain ⟨hst, hjump, hsl, hslew, hoff, hrate, ht, hrep⟩ := hspec
  have hdone := hacc.served_reports hserve hcq hrep.form 0x80 .done 0 0 (le 8 (ofSigned 64 (s.base b).last)) [] []
  have htime := State.complete_time ((s.taking src).acceptJump b) 0x80 src .done 0 0 (le 8 (ofSigned 64 (s.base b).last)) []
  have hans := hacc.served hserve hcq 0x80 .done 0 0 (le 8 (ofSigned 64 (s.base b).last)) []
  generalize ((s.taking src).acceptJump b).complete 0x80 src .done 0 0 (le 8 (ofSigned 64 (s.base b).last)) = t at hdone hans htime ⊢
  obtain ⟨qst, qj, qs, -⟩ := servoFields_quiet b
  rw [State.base_congr htime]
  have hkept := reports_fieldsKept hdone
  have hstart := State.count_reports ((s.without src).modBase b fun _ => ((s.taking src).acceptJump b).base b) 11 7 1
    [stateFld b, jumpFld b, slewFld b]
  rw [← State.modBase_count] at hstart
  exact ⟨(hkept _ qst).trans hst, (hkept _ qj).trans hjump, (hkept _ qs).trans hsl, hslew, hoff, hrate, ht, hans,
    reports_trans hstart (reports_trans hrep.reports (reports_mono hdone (by simp)))⟩

/-- Settles O39: every change of the servo's states is one change of the base with the state shown and reported, and TIME_ACCEPT_JUMP makes
the refused offset the slew that is left. -/
theorem servoStates : Obligations.ServoStates := by
  unfold Obligations.ServoStates
  intro s b hwf hb
  have w := State.regsWf_of_allWf hwf
  refine ⟨timeJump_spec w hb, firstStep_spec w hb, announceTimeout_spec w hb, slewDone_spec w hb, fun src hacc =>
    ⟨timeAcceptJump_taken hwf hb hacc, fun hj => ?_⟩⟩
  refine ⟨_, ?_, hacc.refused hwf .state 0⟩
  show execTimeAcceptJump src b s = _
  rw [execTimeAcceptJump, State.handle_accepted hacc, if_neg (by omega),
    if_pos (show (!(s.taking src).bit (jumpFld b)) = true from by rw [show (s.taking src).bit (jumpFld b) = false from hj]; decide)]

end Sys2Proof.Machine
end

section
/-!
PROOFS. Register writes and the rung asked for (R8, R302, R307): what a write leaves in each field of its word, how a move between rungs
begins, and the statement on asking for a rung.
-/

namespace Sys2Proof.Machine

/-! ## A write of a word, field by field (R8) -/

/-- The bits of a row do not meet those of a field. -/
def FieldRow.Misses (r : FieldRow) (g : Fld) : Prop := r.lo + r.width ≤ g.lo ∨ g.lo + g.width ≤ r.lo

section
variable (unlocked : Bool) (v : Word) {g : Fld}

theorem fldOf_write_misses {r : FieldRow} (fits : r.lo + r.width ≤ 32) (h : r.Misses g) (old : Word) :
    fldOf (r.write unlocked v old) g = fldOf old g := by
  have hput : ∀ x, fldOf (fldPut old r.fld x) g = fldOf old g := fun x =>
    fldOf_fldPut_apart old r.fld g x fits (h.elim .inr .inl)
  unfold FieldRow.write
  cases r.acc with
  | rw => exact hput _
  | w1c => exact hput _
  | w1s => exact hput _
  | rwl => cases unlocked <;> [rfl; exact hput _]
  | ro => rfl
  | wo => rfl
  | rc => rfl

theorem fldOf_writeWord_misses {rows : List FieldRow} (fits : ∀ r ∈ rows, r.lo + r.width ≤ 32) (h : ∀ r ∈ rows, r.Misses g) (old : Word) :
    fldOf (writeWord rows unlocked v old) g = fldOf old g :=
  List.foldlRecOn (motive := fun w => fldOf w g = fldOf old g) rows _ rfl fun w hw r hr =>
    (fldOf_write_misses unlocked v (fits r hr) (h r hr) w).trans hw

/-- A field of a word is written by its own row and by no other. -/
theorem fldOf_writeWord {before after : List FieldRow} {r : FieldRow} (fits : ∀ x ∈ before ++ r :: after, x.lo + x.width ≤ 32)
    (hb : ∀ x ∈ before, x.Misses r.fld) (ha : ∀ x ∈ after, x.Misses r.fld) (old : Word) :
    ∃ w, fldOf w r.fld = fldOf old r.fld ∧
      fldOf (writeWord (before ++ r :: after) unlocked v old) r.fld = fldOf (r.write unlocked v w) r.fld := by
  refine ⟨writeWord before unlocked v old,
    fldOf_writeWord_misses unlocked v (fun x hx => fits x (List.mem_append_left _ hx)) hb old, ?_⟩
  have hsplit : writeWord (before ++ r :: after) unlocked v old = writeWord after unlocked v (r.write unlocked v (writeWord before unlocked v old)) := by
    simp only [writeWord, List.foldl_append, List.foldl_cons]
  rw [hsplit]
  exact fldOf_writeWord_misses unlocked v (fun x hx => fits x (by simp [hx])) ha _

/-- A plain field takes what is written to it. -/
theorem fldOf_write_rw {r : FieldRow} (fits : r.lo + r.width ≤ 32) (hacc : r.acc = .rw) (old : Word) :
    fldOf (r.write unlocked v old) r.fld = fldOf v r.fld := by
  rw [FieldRow.write, hacc]
  dsimp only
  rw [fldOf_fldPut_self _ _ _ fits]
  exact Nat.mod_mod ..

end

/-! ## A move begins (R302, R307) -/

/-- The power manager's notes of a move to a rung. -/
def State.headFor (s : State) (goal : Nat) : State := s.withPower { s.power with goal := goal, moving := true }

section
variable {s : State} (w : wordsWf 0 s.regs = true) (goal cause : Nat)
include w

theorem State.startMove_writes : (s.headFor goal).Writes (s.startMove goal cause) [F.PWR_RUNG_STATE.MOVING, F.PWR_RUNG_STATE.CAUSE] :=
  have wh : wordsWf 0 (s.headFor goal).regs = true := w
  ((State.Writes.refl wh _).fset (by simp) (by decide) 1).fset (by simp) (by decide) cause

theorem State.startMove_moving : (s.startMove goal cause).fget F.PWR_RUNG_STATE.MOVING = 1 := by
  have wh : wordsWf 0 (s.headFor goal).regs = true := w
  show (((s.headFor goal).fset F.PWR_RUNG_STATE.MOVING 1).fset F.PWR_RUNG_STATE.CAUSE cause).fget F.PWR_RUNG_STATE.MOVING = 1
  generalize s.headFor goal = u at wh ⊢
  rw [State.fget_fset_apart _ _ _ _ (by decide) (u.fset_wf _ 1 wh) (Fld.apart_of_test (by decide)), State.fget_fset_self u _ 1 (by decide) wh]
  rfl

theorem State.startMove_cause (hc : cause < 4) : (s.startMove goal cause).fget F.PWR_RUNG_STATE.CAUSE = cause := by
  have wh : wordsWf 0 (s.headFor goal).regs = true := w
  show (((s.headFor goal).fset F.PWR_RUNG_STATE.MOVING 1).fset F.PWR_RUNG_STATE.CAUSE cause).fget F.PWR_RUNG_STATE.CAUSE = cause
  generalize s.headFor goal = u at wh ⊢
  rw [State.fget_fset_self _ _ cause (by decide) (u.fset_wf _ 1 wh)]
  exact Nat.mod_eq_of_lt hc

end

/-- A rung set while the module rests begins the move to it, or is done where it is the rung (R302). -/
theorem rungSet_moves {s : State} {src : Src} {r : Nat} (hr : r ≤ 5) (hmov : s.power.moving = false) (hcmd : s.power.cmd = none)
    (hdown : s.rung < r → s.descentBlocked = false) (htherm : s.fget F.PWR_THERM.THERM_RUNG = 0) :
    rungSet src r s = if r = s.rung then s.complete 0x60 src .done 0 0 (le 1 r)
      else (s.withPower { s.power with cmd := some src }).startMove r 0 := by
  have hfree : ¬ (s.power.moving = true ∨ s.power.cmd.isSome = true) := by simp [hmov, hcmd]
  have hblock : ¬ (s.rung < r ∧ s.descentBlocked = true) := fun h => by simp [hdown h.1] at h
  have hbit : ¬ s.bit F.PWR_THERM.THERM_RUNG = true := by simp [State.bit, htherm]
  rw [rungSet, if_neg (by omega), if_neg hfree, if_neg hblock, if_neg hbit]
  rfl

/-! ## The request register (R302, R312) -/

/-- The word of PWR_RUNG_REQ written. -/
def State.writeRequest (s : State) (v : Word) : State := s.setWord 0x100000 (writeWord (rowsOf 0x100000) false v (s.word 0x100000))

theorem rowsOf_rungReq : rowsOf 0x100000 = [⟨0, 3, .rw, 0, 0, false, 0⟩, ⟨3, 1, .w1c, 0, 0, false, 0⟩, ⟨8, 4, .rw, 2, 5, true, 10⟩,
    ⟨16, 8, .rw, 2, 5, true, 32⟩] := by decide +kernel

section
variable {s : State} (w : wordsWf 0 s.regs = true) (v : Word)
include w

theorem State.writeRequest_rung : (s.writeRequest v).fget F.PWR_RUNG_REQ.RUNG = fldOf v F.PWR_RUNG_REQ.RUNG := by
  show fldOf ((s.setWord 0x100000 (writeWord (rowsOf 0x100000) false v (s.word 0x100000))).word 0x100000) F.PWR_RUNG_REQ.RUNG = _
  rw [State.word_setWord_self s _ _ w, rowsOf_rungReq]
  obtain ⟨x, -, hx⟩ := fldOf_writeWord false v (before := []) (r := ⟨0, 3, .rw, 0, 0, false, 0⟩)
    (after := [⟨3, 1, .w1c, 0, 0, false, 0⟩, ⟨8, 4, .rw, 2, 5, true, 10⟩, ⟨16, 8, .rw, 2, 5, true, 32⟩])
    (by decide) (by simp) (by simp [FieldRow.Misses, FieldRow.fld]) (s.word 0x100000)
  exact hx.trans (fldOf_write_rw false v (by decide) rfl x)

omit w in
/-- Every field of another word reads as before. -/
theorem State.writeRequest_fget {g : Fld} (hg : g.off ≠ 0x100000) : (s.writeRequest v).fget g = s.fget g := by
  rw [State.writeRequest, State.fget, State.word_setWord_ne s _ _ _ hg, State.fget]

theorem State.writeRequest_wf : wordsWf 0 (s.writeRequest v).regs = true := s.setWord_wf _ _ w

end

theorem exec_rungRequestWrite {s : State} {v : Word} (hreach : s.reaches 0x100000 = true) (hr : fldOf v F.PWR_RUNG_REQ.RUNG ≤ 5) :
    exec (.rungRequestWrite v) s = .next ((s.writeRequest v).requestRung (fldOf v F.PWR_RUNG_REQ.RUNG)) := by
  have hnone : s.reloading 0x100000 = none := rfl
  show Host.Outcome.next (s.hostWrite 0x100000 (rungRequest v)) = _
  rw [State.hostWrite, if_pos hreach, hnone]
  dsimp only
  have hkeep : ¬ 5 < fldOf v F.PWR_RUNG_REQ.RUNG := by omega
  simp only [rungRequest, hkeep, if_false]
  rfl

/-- A deeper rung requested of the active module begins the descent. -/
theorem State.requestRung_deeper {s : State} {r : Nat} (hr : r ≤ 5) (ha : s.active = true) (hmov : s.power.moving = false)
    (hdown : s.rung < r) (hblock : s.descentBlocked = false) (htherm : s.fget F.PWR_THERM.THERM_RUNG = 0) :
    s.requestRung r = s.startMove r 0 := by
  have hgo : ¬ (5 < r ∨ (!s.active) = true ∨ s.power.moving = true ∨ (s.rung < r ∧ s.descentBlocked = true)) := by
    simp [ha, hmov, hblock]; omega
  have hbit : ¬ s.bit F.PWR_THERM.THERM_RUNG = true := by simp [State.bit, htherm]
  rw [State.requestRung, if_neg hgo, if_neg hbit, if_pos hdown]

/-- A request of a module that is not active is an error (R312). -/
theorem State.requestRung_inactive {s : State} (r : Nat) (ha : s.active = false) : s.requestRung r = s.fset F.PWR_RUNG_REQ.REQ_ERR 1 :=
  if_pos (.inr (.inl (by simp [ha])))

/-! ## Wake sources (R307) -/

/-- The machine that has noted the wake source. -/
def State.wakeNoted (s : State) (source : Nat) : State := (s.fset F.PWR_WAKE.LAST source).count 13 10

section
variable {s : State} (w : wordsWf 0 s.regs = true) {source : Nat} (hsrc : source < 8)
include w hsrc

theorem State.wakeBy_spec : (s.wakeBy source 0).fget F.PWR_WAKE.LAST = source ∧
    (s.wakeBy source 0).power = { s.power with goal := 0, moving := true } ∧
    (s.wakeBy source 0).fget F.PWR_RUNG_STATE.MOVING = 1 ∧ (s.wakeBy source 0).fget F.PWR_RUNG_STATE.CAUSE = 1 ∧
    (s.wakeBy source 0).rung = s.rung ∧
    s.wakeBy source 0 = { s with regs := (s.wakeBy source 0).regs, counters := (s.wakeBy source 0).counters, power := (s.wakeBy source 0).power } ∧
    fieldsKept s (s.wakeBy source 0) [F.PWR_WAKE.LAST, F.PWR_RUNG_STATE.MOVING, F.PWR_RUNG_STATE.CAUSE] := by
  have wn : wordsWf 0 (s.wakeNoted source).regs = true := s.fset_wf _ _ w
  have hlast : (s.wakeNoted source).fget F.PWR_WAKE.LAST = source :=
    (State.fget_fset_self s _ source (by decide) w).trans (Nat.mod_eq_of_lt hsrc)
  have hkept : fieldsKept s (s.wakeNoted source) [F.PWR_WAKE.LAST] := fun g hg =>
    State.fget_fset_apart s _ g source (by decide) w (hg _ (by simp))
  have hpower : (s.wakeNoted source).power = s.power := rfl
  have hframe : s.wakeNoted source = { s with regs := (s.wakeNoted source).regs, counters := (s.wakeNoted source).counters } := rfl
  have hdef : s.wakeBy source 0 = (s.wakeNoted source).startMove 0 1 := rfl
  rw [hdef]
  generalize s.wakeNoted source = u at *
  have hw := State.startMove_writes wn 0 1
  have hfield : ∀ g, Fld.apart F.PWR_RUNG_STATE.MOVING g → Fld.apart F.PWR_RUNG_STATE.CAUSE g → (u.startMove 0 1).fget g = u.fget g :=
    fun g hm hc => (hw.fget (by simp [hm, hc])).trans (State.fget_of_regs rfl g)
  refine ⟨(hfield _ (Fld.apart_of_test (by decide)) (Fld.apart_of_test (by decide))).trans hlast, ?_, State.startMove_moving wn 0 1,
    State.startMove_cause wn 0 1 (by decide), ?_, ?_, fun g hg => ?_⟩
  · rw [← hpower]; rfl
  · exact (hfield _ (Fld.apart_of_test (by decide)) (Fld.apart_of_test (by decide))).trans
      (hkept _ (by simpa using Fld.apart_of_test (by decide)))
  · have hs : u.startMove 0 1 = { u with regs := (u.startMove 0 1).regs, power := (u.startMove 0 1).power } := rfl
    rw [hs, hframe]
  · exact (hfield g (hg _ (by simp)) (hg _ (by simp))).trans (hkept g fun f hf => hg f (List.mem_cons.mpr (.inl (List.mem_singleton.mp hf))))

end

/-- Settles O53: a rung asked for begins a move without leaving the rung, or is answered at once; a request register keeps what was
written to it; a wake source notes its code and begins the rise. -/
theorem rungAsks : Obligations.RungAsks := by
  unfold Obligations.RungAsks
  refine ⟨fun s src r hwf hacc hr hmov hcmd hdown htherm => ?_, fun s src r hwf hacc hr hmov => ?_, fun s v hwf hreach hr hmov => ⟨?_, ?_⟩,
    fun s c source hwf hmay hsource => ?_⟩
  · have hexec : exec (.rungSet src r) s = .next (rungSet src r (s.taking src)) := by
      show Host.Outcome.next (s.handle 0x60 src (rungSet src r)) = _
      rw [State.handle_accepted hacc]
    have heq := rungSet_moves (s := s.taking src) (src := src) hr hmov hcmd hdown htherm
    refine ⟨fun hne => ?_, fun he => ⟨_, hexec, ?_⟩⟩
    · have w : wordsWf 0 ((s.taking src).withPower { s.power with cmd := some src }).regs = true := State.regsWf_of_allWf (s := s) hwf
      have hw := State.startMove_writes w r 0
      refine ⟨_, hexec, ?_⟩
      rw [heq, if_neg (show ¬ r = (s.taking src).rung from hne)]
      refine ⟨rfl, State.startMove_moving w r 0, State.startMove_cause w r 0 (by decide), ?_, rfl, fun g hg => ?_⟩
      · exact (hw.fget (apart_of_test (by decide))).trans rfl
      · exact (hw.fget hg).trans (State.fget_of_regs rfl g)
    · rw [heq, if_pos (show r = (s.taking src).rung from he)]
      exact hacc.settled hwf ..
  · refine ⟨_, ?_, hacc.refused hwf .inProgress 0⟩
    show Host.Outcome.next (s.handle 0x60 src (rungSet src r)) = _
    rw [State.handle_accepted hacc, rungSet, if_neg (by omega), if_pos (.inl hmov)]
  · intro ha hdown hblock htherm
    have w := State.regsWf_of_allWf hwf
    have wv := State.writeRequest_wf w v
    have hrung := State.writeRequest_rung w v
    have hrest : ∀ g : Fld, g.off ≠ 0x100000 → (s.writeRequest v).fget g = s.fget g := fun g hg => State.writeRequest_fget v hg
    have ha' : (s.writeRequest v).active = true := by rw [State.active, hrest _ (by decide)]; exact ha
    have hr' : (s.writeRequest v).rung = s.rung := hrest _ (by decide)
    refine ⟨_, exec_rungRequestWrite hreach hr, ?_⟩
    rw [State.requestRung_deeper hr ha' hmov (by rw [hr']; exact hdown) hblock (by rw [hrest _ (by decide)]; exact htherm)]
    have hw := State.startMove_writes wv (fldOf v F.PWR_RUNG_REQ.RUNG) 0
    refine ⟨((hw.fget (apart_of_test (by decide))).trans (State.fget_of_regs rfl _)).trans hrung, rfl, State.startMove_moving wv _ 0, ?_, rfl⟩
    exact ((hw.fget (apart_of_test (by decide))).trans (State.fget_of_regs rfl _)).trans hr'
  · intro ha
    have w := State.regsWf_of_allWf hwf
    have wv := State.writeRequest_wf w v
    have ha' : (s.writeRequest v).active = false := by rw [State.active, State.writeRequest_fget v (by decide)]; exact ha
    refine ⟨_, exec_rungRequestWrite hreach hr, ?_⟩
    rw [State.requestRung_inactive _ ha']
    exact ⟨State.fget_fset_self _ _ 1 (by decide) wv, rfl⟩
  · have w := State.regsWf_of_allWf hwf
    rcases hsource with ⟨rfl, rfl, hen⟩ | ⟨rfl, rfl, hen, hdue⟩ | ⟨rfl, rfl, hen, hr, hany⟩
    · exact ⟨_, congrArg Host.Outcome.next (if_pos (by simp [State.bit, hen, hmay])), State.wakeBy_spec w (by decide)⟩
    · exact ⟨_, congrArg Host.Outcome.next (if_pos (by simp [State.bit, hen, hmay, hdue])), State.wakeBy_spec w (by decide)⟩
    · exact ⟨_, congrArg Host.Outcome.next (if_pos (by simp [State.bit, hen, hmay, hr, hany])), State.wakeBy_spec w (by decide)⟩

end Sys2Proof.Machine
end

section
/-!
PROOFS. The end of a lock cycle (R65, R69, R71, R76, R99): the axes that a failed path, the CLOSE tick and a parked mirror change, what the
records after them leave alone, and the statement.
-/

namespace Sys2Proof.Machine

/-! ## Axes changed in turn -/

/-- Steps that each keep P of every axis keep it together. -/
theorem State.foldl_axes_keep {β : Type} (P : Axis → Prop) {step : State → β → State} {l : List β}
    (hstep : ∀ u : State, spWf {} 0 u.steer.axes = true → ∀ x ∈ l, spWf {} 0 (step u x).steer.axes = true ∧
      ∀ b, P (u.axisNow b) → P ((step u x).axisNow b)) {s : State} (w : spWf {} 0 s.steer.axes = true) :
    spWf {} 0 (l.foldl step s).steer.axes = true ∧ ∀ b, P (s.axisNow b) → P ((l.foldl step s).axisNow b) :=
  List.foldlRecOn (motive := fun u => spWf {} 0 u.steer.axes = true ∧ ∀ b, P (s.axisNow b) → P (u.axisNow b)) l step ⟨w, fun _ => id⟩
    fun u hu x hx => ⟨(hstep u hu.1 x hx).1, fun b hb => (hstep u hu.1 x hx).2 b (hu.2 b hb)⟩

/-- Steps that each give P to one axis of a list, and keep it for the others, give it to the whole list. -/
theorem State.foldl_axes_set (P : Axis → Prop) {step : State → Nat → State}
    (hstep : ∀ u : State, spWf {} 0 u.steer.axes = true → ∀ a, spWf {} 0 (step u a).steer.axes = true ∧
      ∀ b, b = a ∨ P (u.axisNow b) → P ((step u a).axisNow b)) {s : State} (w : spWf {} 0 s.steer.axes = true) (l : List Nat) :
    spWf {} 0 (l.foldl step s).steer.axes = true ∧ ∀ b, b ∈ l ∨ P (s.axisNow b) → P ((l.foldl step s).axisNow b) := by
  induction l generalizing s with
  | nil => exact ⟨w, fun b hb => hb.resolve_left List.not_mem_nil⟩
  | cons a l ih =>
    obtain ⟨wa, ha⟩ := hstep s w a
    obtain ⟨wl, hl⟩ := ih wa
    refine ⟨wl, fun b hb => hl b ?_⟩
    rcases hb with hb | hb
    · rcases List.mem_cons.mp hb with rfl | hb
      · exact .inr (ha _ (.inl rfl))
      · exact .inl hb
    · exact .inr (ha b (.inr hb))

section
variable (P : Axis → Prop) (hP : ∀ x old : Axis, P (x.addSticky old) ↔ P x)
include hP

/-- A change that keeps P of an axis. -/
theorem State.modNow_keeps {f : Axis → Axis} (hf : ∀ x, P x → P (f x)) {s : State} (w : spWf {} 0 s.steer.axes = true) (a : Nat) {b : Nat}
    (h : P (s.axisNow b)) : P ((s.modNow a f).axisNow b) := by
  by_cases hb : b = a
  · subst hb
    rw [State.axisNow_modNow_self w]
    cases hs : s.heldFor b with
    | some r =>
      rw [State.axisNow_some hs, hP] at h
      exact (hP _ _).mpr (hf _ h)
    | none =>
      rw [State.axisNow_none hs] at h
      exact hf _ h
  · rw [State.axisNow_modNow_ne s hb]; exact h

/-- A change that gives an axis P, whatever it was. -/
theorem State.modNow_sets {f : Axis → Axis} (hf : ∀ x, P (f x)) {s : State} (w : spWf {} 0 s.steer.axes = true) (a : Nat) {b : Nat}
    (h : b = a ∨ P (s.axisNow b)) : P ((s.modNow a f).axisNow b) := by
  rcases h with rfl | h
  · rw [State.axisNow_modNow_self w]
    split
    · exact (hP _ _).mpr (hf _)
    · exact hf _
  · exact State.modNow_keeps P hP (fun x _ => hf x) w a h

end

theorem src_sticky (v : Nat) (x old : Axis) : (x.addSticky old).src = v ↔ x.src = v := by rw [Axis.src_addSticky]

theorem st_sticky (v : Nat) (x old : Axis) : (x.addSticky old).st = v ↔ x.st = v := by rw [Axis.st_addSticky]

theorem st_ne_sticky (v : Nat) (x old : Axis) : (x.addSticky old).st ≠ v ↔ x.st ≠ v := by rw [Axis.st_addSticky]

/-- Changes of present axes touch nothing but the axes and the held results. -/
theorem State.foldl_modNow_frame (f : State → Nat → Axis → Axis) (s : State) (l : List Nat) :
    l.foldl (fun u a => u.modNow a (f u a)) s = { s with steer := { s.steer with
      axes := (l.foldl (fun u a => u.modNow a (f u a)) s).steer.axes, held := (l.foldl (fun u a => u.modNow a (f u a)) s).steer.held } } :=
  List.foldlRecOn (motive := fun u : State => u = { s with steer := { s.steer with axes := u.steer.axes, held := u.steer.held } }) l _ rfl
    fun u hu a _ => by
      have h := State.modNow_frame u a (f u a)
      rw [h, hu]

/-! ## A released mirror at rest (R65) -/

/-- The parked mirror's axes. -/
def State.parkAxes (s : State) (m : Nat) : State :=
  (mirrorAxes m).foldl (fun s a => s.modNow a (fun x => (parkAxis (s.park (axisSide a)) x).setSrc 0)) s

theorem State.parkAxes_frame (s : State) (m : Nat) :
    s.parkAxes m = { s with steer := { s.steer with axes := (s.parkAxes m).steer.axes, held := (s.parkAxes m).steer.held } } :=
  State.foldl_modNow_frame (fun u a x => (parkAxis (u.park (axisSide a)) x).setSrc 0) s (mirrorAxes m)

theorem exec_parkReached {s : State} {m : Nat} (hm : m < 2320) (hin : m ∈ s.lock.parking)
    (hrest : ∀ a ∈ mirrorAxes m, (s.axisNow a).moveDone = true ∨ (s.axisNow a).st = 6) :
    exec (.parkReached m) s = .next { s.parkAxes m with lock := { s.lock with parking := s.lock.parking.erase m } } := by
  have hgo : (s.lock.parking.contains m && (mirrorAxes m).all (fun a => (s.axisNow a).moveDone || decide ((s.axisNow a).st = 6))) = true := by
    simp only [Bool.and_eq_true, List.contains_iff_mem, List.all_eq_true, Bool.or_eq_true, decide_eq_true_eq]
    exact ⟨hin, hrest⟩
  have hok : okMirror m = true := decide_eq_true hm
  show execParkReached m s = _
  rw [execParkReached, hok, parkReached, if_pos hgo]
  show Host.Outcome.next { s.parkAxes m with lock := { (s.parkAxes m).lock with parking := (s.parkAxes m).lock.parking.erase m } } = _
  have hlock : (s.parkAxes m).lock = s.lock := by rw [State.parkAxes_frame]
  rw [hlock]

theorem State.park_of_steer {s t : State} {ax : Sparse Axis} {h : List HeldResult} (he : t = { s with steer := { s.steer with axes := ax, held := h } })
    (side : Nat) : t.park side = s.park side := by
  rw [he]; rfl

/-- Reads of an axis's flags depend on the flags alone. -/
theorem Axis.fget_of_flags {x y : Axis} (h : y.flags = x.flags) (f : Fld) : y.fget f = x.fget f := by
  rw [Axis.fget, Axis.fget, h]

theorem Axis.fset_u (x : Axis) (f : Fld) (v : Nat) : (x.fset f v).u = x.u := rfl

theorem Axis.setSrc_u (x : Axis) (v : Nat) : (x.setSrc v).u = x.u := x.fset_u _ v

theorem Axis.u_addSticky (x old : Axis) : (x.addSticky old).u = x.u := rfl

theorem parkAxis_flags (v : Half) (x : Axis) : (parkAxis v x).flags = (x.setSt 6).flags := rfl

theorem parkAxis_u (v : Half) (x : Axis) : (parkAxis v x).u = v := rfl

theorem parkAxis_setSrc_st (v : Half) (x : Axis) : ((parkAxis v x).setSrc 0).st = 6 := by
  rw [Axis.st_setSrc]
  exact (Axis.fget_of_flags (parkAxis_flags v x) _).trans (Axis.st_setSt x 6)

theorem parkAxis_setSrc_u (v : Half) (x : Axis) : ((parkAxis v x).setSrc 0).u = v := by rw [Axis.setSrc_u, parkAxis_u]

theorem State.parkAxes_spec {s : State} (w : spWf {} 0 s.steer.axes = true) (m : Nat) :
    (∀ a ∈ mirrorAxes m, ((s.parkAxes m).axisNow a).st = 6 ∧ ((s.parkAxes m).axisNow a).src = 0 ∧
      ((s.parkAxes m).axisNow a).u = s.park (axisSide a)) ∧
    ∀ b, b ∉ mirrorAxes m → (s.parkAxes m).axisNow b = s.axisNow b := by
  have h1 : 2 * m ≠ 2 * m + 1 := by omega
  have w1 := State.modNow_axesWf w (2 * m) fun x => (parkAxis (s.park (axisSide (2 * m))) x).setSrc 0
  have hpark : (s.modNow (2 * m) fun x => (parkAxis (s.park (axisSide (2 * m))) x).setSrc 0).park (axisSide (2 * m + 1)) = s.park (axisSide (2 * m + 1)) :=
    State.park_of_steer (State.modNow_frame ..) _
  have hdef : s.parkAxes m = (s.modNow (2 * m) fun x => (parkAxis (s.park (axisSide (2 * m))) x).setSrc 0).modNow (2 * m + 1) fun x =>
      (parkAxis (s.park (axisSide (2 * m + 1))) x).setSrc 0 := by rw [← hpark]; rfl
  have hset : ∀ {α : Type} (p : Axis → α) (_ : ∀ x old : Axis, p (x.addSticky old) = p x) (v : Nat → α)
      (_ : ∀ side x, p ((parkAxis (s.park side) x).setSrc 0) = v side), ∀ a ∈ mirrorAxes m, p ((s.parkAxes m).axisNow a) = v (axisSide a) := by
    intro α p hp v hv a ha
    rw [hdef]
    rcases List.mem_cons.mp ha with rfl | ha
    · rw [State.axisNow_modNow_ne _ h1]
      exact State.axisNow_modNow_set w _ _ p hp (hv _)
    · obtain rfl := List.mem_singleton.mp ha
      exact State.axisNow_modNow_set w1 _ _ p hp (hv _)
  refine ⟨fun a ha => ⟨hset Axis.st Axis.st_addSticky (fun _ => 6) (fun _ => parkAxis_setSrc_st _) a ha,
    hset Axis.src Axis.src_addSticky (fun _ => 0) (fun _ x => Axis.src_setSrc _ 0) a ha,
    hset Axis.u Axis.u_addSticky s.park (fun _ => parkAxis_setSrc_u _) a ha⟩, fun b hb => ?_⟩
  simp only [mirrorAxes, List.mem_cons, List.not_mem_nil, or_false, not_or] at hb
  rw [hdef, State.axisNow_modNow_ne _ hb.2, State.axisNow_modNow_ne _ hb.1]

/-! ## Late proofs (R99) -/

theorem busy_fits (n : Nat) : (F.SVC_PORT_CTRL.BUSY n).lo + (F.SVC_PORT_CTRL.BUSY n).width ≤ 32 := Nat.le_add_right 10 22

theorem busy_same_or_apart (n k : Nat) : n = k ∨ Fld.apart (F.SVC_PORT_CTRL.BUSY n) (F.SVC_PORT_CTRL.BUSY k) := by
  by_cases h : n = k
  · exact .inl h
  · refine .inr (.inl ?_)
    simp only [F.SVC_PORT_CTRL.BUSY]
    omega

/-- The BUSY fields of the service ports set to one value. -/
def State.setBusy (s : State) (ns : List Nat) (v : Nat) : State := ns.foldl (fun s n => s.fset (F.SVC_PORT_CTRL.BUSY n) v) s

theorem State.setBusy_writes {s : State} (w : wordsWf 0 s.regs = true) (ns : List Nat) (v : Nat) :
    s.Writes (s.setBusy ns v) (ns.map F.SVC_PORT_CTRL.BUSY) :=
  (State.Writes.refl w _).foldl fun _ wu n hn => (State.Writes.refl wu _).fset (List.mem_map_of_mem hn) (busy_fits n) v

theorem State.setBusy_busy {s : State} (w : wordsWf 0 s.regs = true) (ns : List Nat) (k : Nat) :
    (s.setBusy ns 0).fget (F.SVC_PORT_CTRL.BUSY k) = if k ∈ ns then 0 else s.fget (F.SVC_PORT_CTRL.BUSY k) := by
  induction ns generalizing s with
  | nil => rfl
  | cons n ns ih =>
    have hrec : (s.setBusy (n :: ns) 0).fget (F.SVC_PORT_CTRL.BUSY k) = _ := ih (s.fset_wf (F.SVC_PORT_CTRL.BUSY n) 0 w)
    rw [hrec]
    by_cases hk : k ∈ ns
    · simp [hk]
    · rcases busy_same_or_apart n k with rfl | hap
      · rw [if_neg hk, if_pos List.mem_cons_self, State.fget_fset_self s _ 0 (busy_fits n) w, Nat.zero_mod]
      · have hne : k ≠ n := by
          rintro rfl
          rcases hap with h | h | h
          · exact h rfl
          · simp only [F.SVC_PORT_CTRL.BUSY] at h; omega
          · simp only [F.SVC_PORT_CTRL.BUSY] at h; omega
        rw [if_neg hk, if_neg (by simp [hne, hk]), State.fget_fset_apart s _ _ 0 (busy_fits n) w hap]

/-- The service ports at the ends of a proof. -/
def State.proofPorts (s : State) (q : ProofRun) : List Nat := servicePorts q.a (peerOf s.standing q.a)

/-- What the end of a proof leaves: its ports free, itself gone, and nothing else of these. -/
structure State.Ended (s t : State) (q : ProofRun) : Prop where
  form : wordsWf 0 t.regs = true
  busy : ∀ n, t.fget (F.SVC_PORT_CTRL.BUSY n) = if n ∈ s.proofPorts q then 0 else s.fget (F.SVC_PORT_CTRL.BUSY n)
  lock : t.lock = { s.lock with proofs := s.lock.proofs.filter (fun p => decide (p ≠ q)) }
  steer : t.steer = s.steer
  mem : t.mem = s.mem
  tows : t.tows = s.tows
  fabric : t.fabric = s.fabric

theorem State.freeProof_ended {s : State} (w : wordsWf 0 s.regs = true) (q : ProofRun) : s.Ended (s.freeProof q) q := by
  have hdef : s.freeProof q = { s.setBusy (s.proofPorts q) 0 with lock := { (s.setBusy (s.proofPorts q) 0).lock with
    proofs := (s.setBusy (s.proofPorts q) 0).lock.proofs.filter (fun p => decide (p ≠ q)) } } := rfl
  have hw := State.setBusy_writes w (s.proofPorts q) 0
  have hbusy := State.setBusy_busy w (s.proofPorts q)
  rw [hdef]
  generalize s.setBusy (s.proofPorts q) 0 = u at hw hbusy ⊢
  have hlock : u.lock = s.lock := (congrArg State.lock hw.frame :)
  exact ⟨hw.form, fun n => (hbusy n), by rw [hlock], (congrArg State.steer hw.frame :), (congrArg State.mem hw.frame :),
    (congrArg State.tows hw.frame :), (congrArg State.fabric hw.frame :)⟩

/-- Records after the end of a proof leave what it left. -/
theorem State.Ended.after {s t u : State} {q : ProofRun} (h : s.Ended t q) (hr : u.regs = t.regs) (hl : u.lock = t.lock) (hs : u.steer = t.steer)
    (hm : u.mem = t.mem) (ht : u.tows = t.tows) (hf : u.fabric = t.fabric) : s.Ended u q :=
  ⟨by rw [hr]; exact h.form, fun n => (State.fget_of_regs hr _).trans (h.busy n), hl.trans h.lock, hs.trans h.steer, hm.trans h.mem,
    ht.trans h.tows, hf.trans h.fabric⟩

theorem State.Ended.event {s t : State} {q : ProofRun} (h : s.Ended t q) (e : Nat) (b : List Byte) : s.Ended (t.event e b) q :=
  h.after (by simp) (by simp) (by simp) (by simp) (by simp) (by simp)

theorem State.Ended.count {s t : State} {q : ProofRun} (h : s.Ended t q) (g i n : Nat) : s.Ended (t.count g i n) q :=
  h.after rfl rfl rfl rfl rfl rfl

theorem State.endProof_ended {s : State} (w : wordsWf 0 s.regs = true) (q : ProofRun) (errored : Nat) : s.Ended (s.endProof q errored) q := by
  unfold State.endProof
  extract_lets b n e u v
  have hu : u.regs = s.regs ∧ u.lock = s.lock ∧ u.steer = s.steer ∧ u.mem = s.mem ∧ u.tows = s.tows ∧ u.fabric = s.fabric := by
    unfold u
    split <;> exact ⟨rfl, rfl, rfl, rfl, rfl, rfl⟩
  obtain ⟨hr, hl, hs, hm, ht, hf⟩ := hu
  clear_value u n e b
  have hfree := State.freeProof_ended (s := u) (by rw [hr]; exact w) q
  have hports : u.proofPorts q = s.proofPorts q := by rw [State.proofPorts, State.proofPorts, State.standing, State.standing, hl, hf]
  have hsu : s.Ended v q :=
    ⟨hfree.form, fun k => by rw [hfree.busy k, hports, State.fget_of_regs hr], by rw [hfree.lock, hl], hfree.steer.trans hs, hfree.mem.trans hm,
      hfree.tows.trans ht, hfree.fabric.trans hf⟩
  clear_value v
  split
  · exact hsu.event ..
  · exact ((hsu.event ..).count 2 11 1).count 2 12 e

/-- What the ends of a list of proofs leave. -/
theorem State.endProofs_ended (e : ProofRun → Nat) (l : List ProofRun) {s : State} (w : wordsWf 0 s.regs = true) :
    let t := l.foldl (fun s q => s.endProof q (e q)) s
    t.lock = { s.lock with proofs := s.lock.proofs.filter (fun p => decide (p ∉ l)) } ∧
      (∀ n, t.fget (F.SVC_PORT_CTRL.BUSY n) = if ∃ q ∈ l, n ∈ s.proofPorts q then 0 else s.fget (F.SVC_PORT_CTRL.BUSY n)) ∧
      t.steer = s.steer ∧ t.mem = s.mem ∧ t.tows = s.tows ∧ t.fabric = s.fabric := by
  induction l generalizing s with
  | nil => simp
  | cons q l ih =>
    have hq := State.endProof_ended w q (e q)
    obtain ⟨hl, hb, hs, hm, ht, hf⟩ := ih hq.form
    have hports : ∀ r, (s.endProof q (e q)).proofPorts r = s.proofPorts r := fun r => by
      rw [State.proofPorts, State.proofPorts, State.standing, State.standing, hq.lock, hq.fabric]
    refine ⟨?_, fun n => ?_, hs.trans hq.steer, hm.trans hq.mem, ht.trans hq.tows, hf.trans hq.fabric⟩
    · have hfilter : (s.lock.proofs.filter (fun p => decide (p ≠ q))).filter (fun p => decide (p ∉ l)) =
          s.lock.proofs.filter (fun p => decide (p ∉ q :: l)) := by
        rw [List.filter_filter]
        exact List.filter_congr fun p _ => by simp [Bool.and_comm]
      rw [List.foldl_cons, hl, hq.lock, ← hfilter]
    · rw [List.foldl_cons, hb n, hq.busy n]
      simp only [hports, List.exists_mem_cons_iff]
      by_cases h1 : n ∈ s.proofPorts q <;> by_cases h2 : ∃ r ∈ l, n ∈ s.proofPorts r <;> simp [h1, h2]

/-! ## The settle model (R76) -/

theorem settleUpdate_spec {s : State} (hwf : s.allWf = true) {w : Tow} (hw : s.learnTow = some w) :
    ∃ t, exec .settleModelUpdate s = .next t ∧
      t.map = { s.map with learnQueue := s.map.learnQueue.drop 1, settle := t.map.settle } ∧
      t.map.settle = (if s.fget F.LOCK_LIMITS.LEARN = 0 then s.map.settle else (s.map.settle + 1) % 65536) ∧
      t.tows.tows = s.tows.tows.erase w ∧ t.steer = s.steer ∧ t.mem = s.mem ∧ t.lock = s.lock := by
  refine ⟨_, rfl, ?_⟩
  rw [settleUpdate, hw]
  dsimp only
  have hu := State.freeUnits_left (State.regsWf_of_allWf hwf) (fun t => decide (t = w))
  have hmap : (s.freeUnits fun t => decide (t = w)).map = s.map := by rw [hu.frame]
  have htows : (s.freeUnits fun t => decide (t = w)).tows.tows = s.tows.tows := by rw [hu.frame]
  have hsteer : (s.freeUnits fun t => decide (t = w)).steer = s.steer := by rw [hu.frame]
  have hmem : (s.freeUnits fun t => decide (t = w)).mem = s.mem := by rw [hu.frame]
  have hlock : (s.freeUnits fun t => decide (t = w)).lock = s.lock := by rw [hu.frame]
  generalize (s.freeUnits fun t => decide (t = w)) = u at *
  simp only [State.count_map, State.count_tows, State.count_steer, State.count_mem, State.count_lock, State.sendJournal_map, State.sendJournal_tows,
    State.sendJournal_steer, State.sendJournal_mem, State.sendJournal_lock, hmap, htows, hsteer, hmem, hlock]
  refine ⟨trivial, ?_, trivial, trivial, trivial, trivial⟩
  by_cases h : s.fget F.LOCK_LIMITS.LEARN = 0
  · simp [State.bit, h]
  · simp [State.bit, h]

/-! ## Axes at the CLOSE tick (R42, R65) -/

theorem closeAxis_flags (x : Axis) : (closeAxis x).flags = ((if x.st = 1 then x.setSt 0 else x).setSrc 0).flags := rfl

theorem closeAxis_src (x : Axis) : (closeAxis x).src = 0 :=
  (Axis.fget_of_flags (closeAxis_flags x) _).trans (Axis.src_setSrc _ 0)

theorem closeAxis_st (x : Axis) : (closeAxis x).st = if x.st = 1 then 0 else x.st := by
  have h : (closeAxis x).st = ((if x.st = 1 then x.setSt 0 else x).setSrc 0).st := Axis.fget_of_flags (closeAxis_flags x) _
  rw [h, Axis.st_setSrc]
  split
  · exact Axis.st_setSt x 0
  · rfl

/-- The axes of a cycle's paths at the CLOSE tick. -/
def State.closeAxes (s : State) (c : Cycle) : State :=
  (c.paths.flatMap (fun p => pathAxes p.a p.b)).foldl (fun s a => s.modNow a closeAxis) s

theorem State.closeAxes_frame (s : State) (c : Cycle) :
    s.closeAxes c = { s with steer := { s.steer with axes := (s.closeAxes c).steer.axes, held := (s.closeAxes c).steer.held } } :=
  State.foldl_modNow_frame (fun _ _ => closeAxis) s _

section
variable {s : State} (w : spWf {} 0 s.steer.axes = true) (c : Cycle)
include w

theorem State.closeAxes_wf : spWf {} 0 (s.closeAxes c).steer.axes = true :=
  (State.foldl_axes_keep (fun _ => True) (fun _ wu a _ => ⟨State.modNow_axesWf wu a _, fun _ _ => trivial⟩) w).1

theorem State.closeAxes_src {p : CPath} (hp : p ∈ c.paths) {a : Nat} (ha : a ∈ pathAxes p.a p.b) : ((s.closeAxes c).axisNow a).src = 0 :=
  (State.foldl_axes_set (fun x => x.src = 0) (fun _ wu k => ⟨State.modNow_axesWf wu k _, fun _ h =>
    State.modNow_sets (fun x => x.src = 0) (src_sticky 0) closeAxis_src wu k h⟩) w _).2 a (.inl (List.mem_flatMap.mpr ⟨p, hp, ha⟩))

theorem State.closeAxes_st {p : CPath} (hp : p ∈ c.paths) {a : Nat} (ha : a ∈ pathAxes p.a p.b) : ((s.closeAxes c).axisNow a).st ≠ 1 :=
  (State.foldl_axes_set (fun x => x.st ≠ 1) (fun _ wu k => ⟨State.modNow_axesWf wu k _, fun _ h =>
    State.modNow_sets (fun x => x.st ≠ 1) (st_ne_sticky 1) (fun x => by rw [closeAxis_st]; split <;> simp_all) wu k h⟩) w _).2 a
      (.inl (List.mem_flatMap.mpr ⟨p, hp, ha⟩))

theorem State.closeAxes_failed {a : Nat} (h : (s.axisNow a).st = 4) : ((s.closeAxes c).axisNow a).st = 4 :=
  (State.foldl_axes_keep (fun x => x.st = 4) (fun _ wu k _ => ⟨State.modNow_axesWf wu k _, fun _ h =>
    State.modNow_keeps (fun x => x.st = 4) (st_sticky 4) (fun x hx => by rw [closeAxis_st, hx]; rfl) wu k h⟩) w).2 a h

end

/-! ## Released mirrors at the CLOSE tick (R65) -/

theorem State.closeMirror_frame (s : State) (m : Nat) : s.closeMirror m =
    { s with steer := { s.steer with axes := (s.closeMirror m).steer.axes, held := (s.closeMirror m).steer.held }
             lock := { s.lock with parking := (s.closeMirror m).lock.parking } } := by
  unfold State.closeMirror
  split
  · have h := State.foldl_modNow_frame (fun _ _ x => x.setSrc 0) s (mirrorAxes m)
    rw [h]
  · rfl

/-- What the source and the state of an axis are, a released mirror's CLOSE keeps, but for a source that becomes HOLD. -/
theorem State.closeMirror_keeps {P : Axis → Prop} (hP : ∀ x old : Axis, P (x.addSticky old) ↔ P x) (hf : ∀ x, P x → P (x.setSrc 0)) {s : State}
    (w : spWf {} 0 s.steer.axes = true) (m : Nat) : spWf {} 0 (s.closeMirror m).steer.axes = true ∧
      ∀ b, P (s.axisNow b) → P ((s.closeMirror m).axisNow b) := by
  unfold State.closeMirror
  split
  · exact State.foldl_axes_keep P (fun _ wu k _ => ⟨State.modNow_axesWf wu k _, fun _ h => State.modNow_keeps P hP hf wu k h⟩) w
  · exact ⟨w, fun _ h => h⟩

/-- The released mirrors of a cycle at the CLOSE tick. -/
def State.closeMirrors (s : State) (c : Cycle) : State := c.released.foldl State.closeMirror s

theorem State.closeMirrors_frame (s : State) (c : Cycle) : s.closeMirrors c =
    { s with steer := { s.steer with axes := (s.closeMirrors c).steer.axes, held := (s.closeMirrors c).steer.held }
             lock := { s.lock with parking := (s.closeMirrors c).lock.parking } } :=
  List.foldlRecOn (motive := fun u : State => u = { s with steer := { s.steer with axes := u.steer.axes, held := u.steer.held }
                                                           lock := { s.lock with parking := u.lock.parking } }) c.released _ rfl
    fun u hu m _ => by
      have h := State.closeMirror_frame u m
      rw [h, hu]

theorem State.closeMirrors_keeps {P : Axis → Prop} (hP : ∀ x old : Axis, P (x.addSticky old) ↔ P x) (hf : ∀ x, P x → P (x.setSrc 0)) {s : State}
    (w : spWf {} 0 s.steer.axes = true) (c : Cycle) {b : Nat} (h : P (s.axisNow b)) : P ((s.closeMirrors c).axisNow b) :=
  (State.foldl_axes_keep P (fun _ wu m _ => State.closeMirror_keeps hP hf wu m) w).2 b h

/-! ## Standing paths brought up to date (R50) -/

/-- What later records keep of a closed cycle's axes, memory, list of cycles and connections. -/
structure State.Stands (s t : State) : Prop where
  form : wordsWf 0 t.regs = true
  steer : t.steer = s.steer
  mem : t.mem = s.mem
  cycles : t.lock.cycles = s.lock.cycles
  pairs : t.lock.paths.map (fun q => (q.a, q.b)) = s.lock.paths.map (fun q => (q.a, q.b))

theorem State.Stands.trans {s t u : State} (h : s.Stands t) (k : t.Stands u) : s.Stands u :=
  ⟨k.form, k.steer.trans h.steer, k.mem.trans h.mem, k.cycles.trans h.cycles, k.pairs.trans h.pairs⟩

theorem State.setPath_pairs (s : State) (q : Path) :
    (s.setPath q).lock.paths.map (fun p => (p.a, p.b)) = s.lock.paths.map (fun p => (p.a, p.b)) := by
  rw [State.setPath, List.map_map]
  refine List.map_congr_left fun p _ => ?_
  simp only [Function.comp_apply]
  split
  · next h => rw [h.1, h.2]
  · rfl

theorem State.refreshPath_stands {s : State} (w : wordsWf 0 s.regs = true) (q : Path) : s.Stands (s.refreshPath q) := by
  have hset : ∀ p, s.Stands (s.setPath p) := fun p => ⟨w, rfl, rfl, rfl, State.setPath_pairs s p⟩
  have hevent : ∀ {u : State} (p : Path) (k st b : Nat), s.Stands u → s.Stands (u.pathEvent p k st b) := fun p k st b h =>
    ⟨by simpa [State.pathEvent] using h.form, by simpa [State.pathEvent] using h.steer, by simpa [State.pathEvent] using h.mem,
      by simpa [State.pathEvent] using h.cycles, by simpa [State.pathEvent] using h.pairs⟩
  unfold State.refreshPath
  extract_lets n bits s1
  have h1 : s.Stands s1 := hset _
  clear_value s1
  split
  · have h2 := hevent q 0 n bits h1
    have hlog := (State.Notes.refl h2.form []).logEntry (sev := 4) (by decide) 4 .environment .axis 0 (axisOf 0 q.a 0) q.b
    exact h2.trans ⟨(hlog.count 0 14 1).form, by simp, by simp, by simp, by simp⟩
  · split
    · exact hevent q 1 5 bits h1
    · exact h1

theorem State.refreshAxisPath_stands {s : State} (w : wordsWf 0 s.regs = true) (a : Nat) : s.Stands (s.refreshAxisPath a) := by
  unfold State.refreshAxisPath
  split
  · exact State.refreshPath_stands w _
  · exact ⟨w, rfl, rfl, rfl, rfl⟩

/-- The paths that a cycle has lit, brought up to date. -/
def State.refreshLit (s : State) (lit : List CPath) : State := lit.foldl (fun s p => s.refreshAxisPath (axisOf 0 p.a 0)) s

theorem State.refreshLit_stands {s : State} (w : wordsWf 0 s.regs = true) (lit : List CPath) : s.Stands (s.refreshLit lit) :=
  List.foldlRecOn (motive := fun u => s.Stands u) lit _ ⟨w, rfl, rfl, rfl, rfl⟩ fun _ hu _ _ => hu.trans (State.refreshAxisPath_stands hu.form _)

/-! ## The records of a closed cycle (R71, R88, R89) -/

/-- The records that leave also the outcome shown. -/
structure State.Records (s t : State) : Prop where
  form : wordsWf 0 t.regs = true
  shown : ∀ f ∈ outcomeFields, t.fget f = s.fget f
  steer : t.steer = s.steer
  mem : t.mem = s.mem
  cycles : t.lock.cycles = s.lock.cycles
  paths : t.lock.paths = s.lock.paths

namespace State.Records

variable {s t u : State}

theorem refl (w : wordsWf 0 s.regs = true) : s.Records s := ⟨w, fun _ _ => rfl, rfl, rfl, rfl, rfl⟩

theorem trans (h : s.Records t) (k : t.Records u) : s.Records u :=
  ⟨k.form, fun f hf => (k.shown f hf).trans (h.shown f hf), k.steer.trans h.steer, k.mem.trans h.mem, k.cycles.trans h.cycles, k.paths.trans h.paths⟩

/-- A step that leaves the registers. -/
theorem after (h : s.Records t) (hr : u.regs = t.regs) (hs : u.steer = t.steer) (hm : u.mem = t.mem) (hc : u.lock.cycles = t.lock.cycles)
    (hp : u.lock.paths = t.lock.paths) : s.Records u :=
  h.trans ⟨by rw [hr]; exact h.form, fun f _ => State.fget_of_regs hr f, hs, hm, hc, hp⟩

theorem releasePlan (h : s.Records t) (id : Nat) : s.Records (t.releasePlan id) := by
  have hf := State.releasePlan_frame t id
  generalize t.releasePlan id = u at hf ⊢
  exact h.after (by rw [hf]) (by rw [hf]) (by rw [hf]) (by rw [hf]) (by rw [hf])

theorem count (h : s.Records t) (g i n : Nat) : s.Records (t.count g i n) := h.after rfl rfl rfl rfl rfl

theorem sendJournal (h : s.Records t) (it : JItem) : s.Records (t.sendJournal it) := h.after (by simp) (by simp) (by simp) (by simp) (by simp)

theorem event (h : s.Records t) (e : Nat) (b : List Byte) : s.Records (t.event e b) := h.after (by simp) (by simp) (by simp) (by simp) (by simp)

theorem sendNotice (h : s.Records t) (n : Notice) : s.Records (t.sendNotice n) := by
  have hf := State.sendNotice_frame t n
  generalize t.sendNotice n = u at hf ⊢
  exact h.after (by rw [hf]) (by rw [hf]) (by rw [hf]) (by rw [hf]) (by rw [hf])

theorem writeStanding (h : s.Records t) : s.Records t.writeStanding := by
  have hf := State.writeStanding_frame t
  generalize t.writeStanding = u at hf ⊢
  exact h.after (by rw [hf]) (by rw [hf]) (by rw [hf]) (by rw [hf]) (by rw [hf])

theorem ite {c : Prop} [Decidable c] (ht : s.Records t) (hu : s.Records u) : s.Records (if c then t else u) := by
  split
  · exact ht
  · exact hu

theorem setBusy (h : s.Records t) (ns : List Nat) (v : Nat) : s.Records (t.setBusy ns v) := by
  have hw := State.setBusy_writes h.form ns v
  generalize t.setBusy ns v = u at hw ⊢
  refine h.trans ⟨hw.form, fun f hf => hw.fget fun x hx => ?_, (congrArg State.steer hw.frame :), (congrArg State.mem hw.frame :),
    (congrArg (fun x => x.lock.cycles) hw.frame :), (congrArg (fun x => x.lock.paths) hw.frame :)⟩
  obtain ⟨n, -, rfl⟩ := List.mem_map.mp hx
  have hlow : ∀ f ∈ outcomeFields, f.off < 0x600040 := by decide
  exact .inl (by have := hlow f hf; simp only [F.SVC_PORT_CTRL.BUSY]; omega)

theorem startProof (h : s.Records t) (id a : Nat) : s.Records (t.startProof id a) := by
  unfold State.startProof
  extract_lets b u v
  have hu : s.Records u := h.setBusy (servicePorts a b) 1
  clear_value u
  split
  · exact h.event ..
  · have hv : s.Records v := by
      unfold v
      split
      · exact hu.after rfl rfl rfl rfl rfl
      · exact hu
    exact hv.after rfl rfl rfl rfl rfl

theorem startProofs (h : s.Records t) (c : Cycle) (lit : List CPath) : s.Records (t.startProofs c lit) :=
  List.foldlRecOn (motive := fun u => s.Records u) _ _ h fun _ hu _ _ => hu.startProof ..

theorem submitLearn (h : s.Records t) : s.Records t.submitLearn := by
  unfold State.submitLearn
  dsimp only
  split <;> exact h.after rfl rfl rfl rfl rfl

end State.Records

/-- The outcome of a cycle that was not aborted, shown with the number of its failed paths. -/
theorem State.lockLast_failed {s : State} (w : wordsWf 0 s.regs = true) (outcome reason failed duration extra : Nat) :
    (s.lockLast outcome reason failed duration extra).fget F.LOCK_LAST.FAILED = failed % 2 ^ F.LOCK_LAST.FAILED.width := by
  have w1 := s.fset_wf F.LOCK_LAST.OUTCOME outcome w
  have w2 := State.fset_wf _ F.LOCK_LAST.REASON reason w1
  have w3 := State.fset_wf _ F.LOCK_LAST.FAILED failed w2
  unfold State.lockLast
  have hset : (((s.fset F.LOCK_LAST.OUTCOME outcome).fset F.LOCK_LAST.REASON reason).fset F.LOCK_LAST.FAILED failed).fget F.LOCK_LAST.FAILED =
      failed % 2 ^ F.LOCK_LAST.FAILED.width := State.fget_fset_self _ _ _ (by decide) w2
  generalize ((s.fset F.LOCK_LAST.OUTCOME outcome).fset F.LOCK_LAST.REASON reason).fset F.LOCK_LAST.FAILED failed = u at w3 hset ⊢
  rw [State.fget_fset_apart _ _ _ _ (by decide) (u.fset_wf F.LOCK_TIMES.DURATION _ w3) (Fld.apart_of_test (by decide)),
    State.fget_fset_apart _ _ _ _ (by decide) w3 (Fld.apart_of_test (by decide)), hset]

/-! ## CLOSE (R71) -/

/-- The records of a lock cycle that closes and was not aborted. -/
def State.closeRecords (s : State) (id : Nat) (c : Cycle) (lit bad : List CPath) : State :=
  let failed := bad.length + c.lost.length
  let duration := (s.time.tb0.ns + 2 ^ 64 - c.tOpen) % 2 ^ 64
  let extra := c.extra * s.periodNs
  let n := { s.noticeOf c 3 (c.outcome false) 0 s.time.tb0.fine (pairMirrors (bad.map (fun p => (p.a, p.b))) ++ c.released) with
             failed := failed, tOpened := (match c.opened with | some o => o.2 | none => 0), duration := duration, extra := extra }
  let s := (s.releasePlan c.planId).lockLast (c.outcome false) 0 failed duration extra
  let s := ((s.count 2 (1 + c.outcome false)).count 2 8 lit.length).count 2 9 failed
  let s := if c.twoWaves then s.count 2 7 else s
  let s := s.lockEvent c (c.outcome false) 0 failed duration extra
  ((((s.sendNotice n).sendJournal (.closed id (c.outcome false))).writeStanding).startProofs c lit).submitLearn.recordBoot

theorem Cycle.outcome_lt (c : Cycle) : c.outcome false < 8 := by
  unfold Cycle.outcome
  (repeat' split) <;> decide

/-- What the records of a closed cycle show and leave. -/
theorem State.closeRecords_spec {s : State} (w : wordsWf 0 s.regs = true) (id : Nat) (c : Cycle) (lit bad : List CPath) :
    let t := s.closeRecords id c lit bad
    t.steer = s.steer ∧ t.mem = s.mem ∧ t.lock.cycles = s.lock.cycles ∧ t.lock.paths = s.lock.paths ∧
      t.fget F.LOCK_LAST.OUTCOME = c.outcome false ∧ t.fget F.LOCK_LAST.REASON = 0 ∧
      t.fget F.LOCK_LAST.FAILED = (bad.length + c.lost.length) % 2 ^ F.LOCK_LAST.FAILED.width := by
  unfold State.closeRecords
  extract_lets failed duration extra n0 n u v x y t
  have h0 := (State.Records.refl w).releasePlan c.planId
  have hlast := State.lockLast_spec h0.form c.outcome_lt (by decide : 0 < 256) failed duration extra
  have hfailed := State.lockLast_failed h0.form (c.outcome false) 0 failed duration extra
  have hkeep : u.steer = s.steer ∧ u.mem = s.mem ∧ u.lock.cycles = s.lock.cycles ∧ u.lock.paths = s.lock.paths := ⟨h0.steer, h0.mem, h0.cycles, h0.paths⟩
  obtain ⟨hw, hout, hreason⟩ := hlast
  have hform : wordsWf 0 u.regs = true := hw.form
  replace hout : u.fget F.LOCK_LAST.OUTCOME = c.outcome false := hout
  replace hreason : u.fget F.LOCK_LAST.REASON = 0 := hreason
  replace hfailed : u.fget F.LOCK_LAST.FAILED = failed % 2 ^ F.LOCK_LAST.FAILED.width := hfailed
  clear hw
  clear_value u n n0
  have hv : u.Records v := (((State.Records.refl hform).count ..).count ..).count ..
  have hx : u.Records x := State.Records.ite (hv.count 2 7 1) hv
  clear_value v x
  have hy : u.Records y := hx.event ..
  clear_value y
  have ht : u.Records t := ((((hy.sendNotice n).sendJournal (.closed id (c.outcome false))).writeStanding).startProofs c lit).submitLearn.after
    rfl rfl rfl rfl rfl
  clear_value t
  obtain ⟨ks, km, kc, kp⟩ := hkeep
  exact ⟨ht.steer.trans ks, ht.mem.trans km, ht.cycles.trans kc, ht.paths.trans kp,
    (ht.shown _ (by simp [outcomeFields])).trans hout, (ht.shown _ (by simp [outcomeFields])).trans hreason,
    (ht.shown _ (by simp [outcomeFields])).trans hfailed⟩

/-- The paths of the cycle that are not proved fail first. -/
def Cycle.undone (c : Cycle) : List CPath := c.paths.filter (fun p => p.phase ≠ .proved && p.phase ≠ .failed)

/-- The paths that the cycle has lit. -/
def Cycle.lit (c : Cycle) : List CPath := c.paths.filter (fun p => p.phase = .proved)

/-- The paths that the cycle has not lit. -/
def Cycle.unlit (c : Cycle) : List CPath := c.paths.filter (fun p => p.phase ≠ .proved)

/-- The machine that has made the lit paths standing. -/
def State.withLit (s : State) (c : Cycle) : State :=
  { s with lock := { s.lock with paths := s.lock.paths ++ c.lit.map (fun (p : CPath) => ({ a := p.a, b := p.b } : Path)) } }

/-- The cycle leaves the list. -/
def State.leaveCycle (s : State) (id : Nat) (c : Cycle) : State :=
  { ((s.dropCycle id).dropBufs c.axes) with lock := { ((s.dropCycle id).dropBufs c.axes).lock with closedNow := true } }

theorem State.closeCycle_eq {s : State} {id : Nat} {c0 c : Cycle} (h0 : s.cycle id = some c0) (ha0 : c0.aborting = false)
    (hc : (c0.undone.foldl (fun s p => s.failPath id p) s).cycle id = some c) (ha : c.aborting = false) (hb : c.berth = false) :
    s.closeCycle id = (((((((c0.undone.foldl (fun s p => s.failPath id p) s).closeAxes c).closeMirrors c).withLit c).refreshLit c.lit).leaveCycle id c).closeRecords
      id c c.lit c.unlit) := by
  unfold State.closeCycle
  rw [h0]
  simp only [ha0, Bool.false_eq_true, if_false]
  rw [show (c0.paths.filter (fun p => p.phase ≠ .proved && p.phase ≠ .failed)) = c0.undone from rfl, hc]
  simp only [ha, hb, Bool.false_eq_true, if_false]
  rfl

/-! ## A path that fails (R69) -/

theorem State.cycleRead_leaves {s : State} (w : wordsWf 0 s.regs = true) (c : Cycle) (l : List (Nat × Nat)) :
    State.Leaves blankMapSteer s (s.cycleRead c l) [F.MAP_STATUS.CHECK_ERR] :=
  (State.Leaves.refl _ w _).foldl fun _ wu _ _ => (State.mapRead_leaves wu _).trans (State.mapRead_leaves (State.mapRead_leaves wu _).form _)

theorem State.cycleRead_steer (s : State) (c : Cycle) (l : List (Nat × Nat)) : (s.cycleRead c l).steer = s.steer :=
  List.foldlRecOn (motive := fun u : State => u.steer = s.steer) l _ rfl fun _ hu _ _ =>
    (State.mapRead_steer ..).trans ((State.mapRead_steer ..).trans hu)

/-- Dropping the repetitive memory of a result leaves every present axis. -/
theorem State.axisNow_dropRep (s : State) (a b : Nat) : (s.dropRep a).axisNow b = s.axisNow b := by
  have hheld : (s.dropRep a).steer.held = s.steer.held.map (fun (h : HeldResult) => if h.axis = a then { h with rep := none } else h) := by
    unfold State.dropRep; dsimp only; split <;> rfl
  have haxes : (s.dropRep a).axis b = s.axis b := by unfold State.dropRep; dsimp only; split <;> rfl
  have hfind : (s.dropRep a).heldFor b = (s.heldFor b).map (fun (h : HeldResult) => if h.axis = a then { h with rep := none } else h) := by
    rw [State.heldFor, hheld, List.find?_map, State.heldFor]
    congr 2
    funext h
    simp only [Function.comp_apply]
    split <;> rfl
  cases hb : s.heldFor b with
  | none => rw [State.axisNow_none (by rw [hfind, hb]; rfl), State.axisNow_none hb, haxes]
  | some r =>
    rw [State.axisNow_some (by rw [hfind, hb]; rfl), State.axisNow_some hb, haxes]
    dsimp only
    split <;> rfl

theorem failAxis_flags (d : Option Half) (x : Axis) : (failAxis d x).flags = (x.setSt 4).flags := rfl

theorem failAxis_st (d : Option Half) (x : Axis) : (failAxis d x).st = 4 :=
  (Axis.fget_of_flags (failAxis_flags d x) _).trans (Axis.st_setSt x 4)

/-- One axis of a failed path. -/
def State.failAt (c : Cycle) (p : CPath) (s : State) (a : Nat) : State :=
  (s.dropRep a).modNow a (failAxis (if s.mapUsable (s.cycleEntry c a p) then some (s.olAt a (s.cycleEntry c a p)) else none))

theorem State.dropRep_frame (s : State) (a : Nat) : s.dropRep a =
    { s with steer := { s.steer with held := (s.dropRep a).steer.held, rep := (s.dropRep a).steer.rep } } := by
  unfold State.dropRep; dsimp only; split <;> rfl

theorem State.failAt_frame (c : Cycle) (p : CPath) (s : State) (a : Nat) :
    State.failAt c p s a = { s with steer := (State.failAt c p s a).steer } := by
  have h1 := State.dropRep_frame s a
  unfold State.failAt
  generalize failAxis (if s.mapUsable (s.cycleEntry c a p) then some (s.olAt a (s.cycleEntry c a p)) else none) = f
  generalize s.dropRep a = u at h1 ⊢
  have h2 := State.modNow_frame u a f
  generalize u.modNow a f = v at h2 ⊢
  rw [h2, h1]

/-- An axis of a failed path is in open loop with an offset of 0. -/
def Axis.Blinded (x : Axis) : Prop := x.st = 4 ∧ x.offset = 0

theorem State.failAt_sets (c : Cycle) (p : CPath) {s : State} (w : spWf {} 0 s.steer.axes = true) (a : Nat) :
    spWf {} 0 (State.failAt c p s a).steer.axes = true ∧ ∀ b, b = a ∨ (s.axisNow b).Blinded → ((State.failAt c p s a).axisNow b).Blinded := by
  have h1 := State.dropRep_frame s a
  have hnow := State.axisNow_dropRep s a
  unfold State.failAt
  generalize s.dropRep a = u at h1 hnow ⊢
  have wu : spWf {} 0 u.steer.axes = true := by rw [h1]; exact w
  exact ⟨State.modNow_axesWf wu _ _, fun b hb => State.modNow_sets Axis.Blinded (fun x old => by rw [Axis.Blinded, Axis.st_addSticky]; rfl)
    (fun x => ⟨failAxis_st _ x, rfl⟩) wu a (hb.imp id fun h => by rw [hnow]; exact h)⟩

theorem State.failAt_keeps (c : Cycle) (p : CPath) {s : State} (w : spWf {} 0 s.steer.axes = true) (a : Nat) :
    spWf {} 0 (State.failAt c p s a).steer.axes = true ∧ ∀ b, (s.axisNow b).st = 4 → ((State.failAt c p s a).axisNow b).st = 4 := by
  have h1 := State.dropRep_frame s a
  have hnow := State.axisNow_dropRep s a
  unfold State.failAt
  generalize s.dropRep a = u at h1 hnow ⊢
  have wu : spWf {} 0 u.steer.axes = true := by rw [h1]; exact w
  exact ⟨State.modNow_axesWf wu _ _, fun b hb => State.modNow_keeps (fun x => x.st = 4) (st_sticky 4) (fun x _ => failAxis_st _ x) wu a
    (by rw [hnow]; exact hb)⟩

/-- The axes of a failed path. -/
def State.failAxes (s : State) (c : Cycle) (p : CPath) : State :=
  (pathAxes p.a p.b).foldl (State.failAt c p) (s.cycleRead c [(p.a, p.b)])

theorem State.failAxes_frame (s : State) (c : Cycle) (p : CPath) :
    s.failAxes c p = { s.cycleRead c [(p.a, p.b)] with steer := (s.failAxes c p).steer } :=
  List.foldlRecOn (motive := fun u : State => u = { s.cycleRead c [(p.a, p.b)] with steer := u.steer }) _ _ rfl fun u hu a _ => by
    have h := State.failAt_frame c p u a
    rw [h, hu]

/-- A path of the cycle, marked failed where it begins at this mirror. -/
def CPath.failedAt (tick a : Nat) (r : CPath) : CPath := if r.a = a then { r with phase := .failed, entered := tick } else r

/-- A cycle with the path of a mirror marked failed. -/
def Cycle.failedAt (tick a : Nat) (c : Cycle) : Cycle := { c with paths := c.paths.map (CPath.failedAt tick a) }

/-- What a failed path changes: its axes, its standing record, and its phase in the cycle. -/
structure State.Fails (s t : State) (id : Nat) (p : CPath) : Prop where
  form : wordsWf 0 t.regs = true
  axesWf : spWf {} 0 t.steer.axes = true
  mem : t.mem = s.mem
  paths : t.lock.paths = s.lock.paths ++ [{ a := p.a, b := p.b, state := 6, announced := true }]
  tows : t.tows = s.tows
  cycles : ∃ tick, t.lock.cycles = s.lock.cycles.map (fun c => if c.id = id then c.failedAt tick p.a else c)
  blinded : ∀ b ∈ pathAxes p.a p.b, (t.axisNow b).Blinded
  open_loop : ∀ b, (s.axisNow b).st = 4 → (t.axisNow b).st = 4

theorem find?_modCycle (l : List Cycle) (id : Nat) {f : Cycle → Cycle} (hf : ∀ c, (f c).id = c.id) :
    (l.map (fun c => if c.id = id then f c else c)).find? (fun c => decide (c.id = id)) = (l.find? (fun c => decide (c.id = id))).map f := by
  induction l with
  | nil => rfl
  | cons c l ih =>
    by_cases h : c.id = id
    · simp [h, hf]
    · simp [h, ih]

/-- The records of a failed path. -/
def State.recordFailure (s : State) (id : Nat) (p : CPath) : State :=
  let q : Path := { a := p.a, b := p.b, state := 6, announced := true }
  let s := { s with lock := { s.lock with paths := s.lock.paths ++ [q] } }
  let s := ((s.pathEvent q 0 6 15).logEntry 4 4 .environment .axis 0 (axisOf 0 p.a 0) p.b).count 0 14
  let s := s.modCycle id (fun c =>
    { c with paths := c.paths.map (fun r => if r.a = p.a then { r with phase := .failed, entered := s.steer.tick } else r) })
  s.sendJournal (.pathPhase p.a 5)

theorem State.failPath_eq (s : State) (id : Nat) (p : CPath) : ∃ c, s.failPath id p = (s.failAxes c p).recordFailure id p := by
  unfold State.failPath
  extract_lets c u v
  refine ⟨c, ?_⟩
  have hv : v = s.failAxes c p := rfl
  rw [← hv]
  clear_value v
  rfl

theorem State.recordFailure_spec {s : State} (w : wordsWf 0 s.regs = true) (id : Nat) (p : CPath) :
    let t := s.recordFailure id p
    wordsWf 0 t.regs = true ∧ t.steer = s.steer ∧ t.mem = s.mem ∧
      t.lock.paths = s.lock.paths ++ [{ a := p.a, b := p.b, state := 6, announced := true }] ∧
      t.tows = s.tows ∧ ∃ tick, t.lock.cycles = s.lock.cycles.map (fun c => if c.id = id then c.failedAt tick p.a else c) := by
  unfold State.recordFailure
  extract_lets q k u v x
  have hu : wordsWf 0 (u.pathEvent q 0 6 15).regs = true := by simpa [State.pathEvent] using w
  have hform : wordsWf 0 v.regs = true :=
    (((State.Notes.refl hu []).logEntry (sev := 4) (by decide) 4 .environment .axis 0 (axisOf 0 p.a 0) p.b).count 0 14 1).form
  have hsteer : v.steer = s.steer := by simp [v, u, State.pathEvent]
  have hmem : v.mem = s.mem := by simp [v, u, State.pathEvent]
  have htows : v.tows = s.tows := by simp [v, u, State.pathEvent]
  have hlock : v.lock = { s.lock with paths := s.lock.paths ++ [q] } := by simp [v, u, k, State.pathEvent]
  clear_value v
  have hxl : x.lock = { v.lock with cycles := v.lock.cycles.map (fun c => if c.id = id then c.failedAt v.steer.tick p.a else c) } := rfl
  refine ⟨?_, ?_, ?_, ?_, ?_, v.steer.tick, ?_⟩
  · rw [State.sendJournal_regs]; exact hform
  · rw [State.sendJournal_steer]; exact hsteer
  · rw [State.sendJournal_mem]; exact hmem
  · rw [State.sendJournal_lock, hxl, hlock]
  · rw [State.sendJournal_tows]; exact htows
  · rw [State.sendJournal_lock, hxl, hlock]

theorem State.failPath_fails {s : State} (w : wordsWf 0 s.regs = true) (wA : spWf {} 0 s.steer.axes = true) (id : Nat) (p : CPath) :
    s.Fails (s.failPath id p) id p := by
  obtain ⟨c, hfail⟩ := s.failPath_eq id p
  rw [hfail]
  have hread := State.cycleRead_leaves w c [(p.a, p.b)]
  have hsteer := State.cycleRead_steer s c [(p.a, p.b)]
  have hframe := State.failAxes_frame s c p
  have hsets := State.foldl_axes_set Axis.Blinded (fun u wu a => State.failAt_sets c p wu a)
    (s := s.cycleRead c [(p.a, p.b)]) (by rw [hsteer]; exact wA) (pathAxes p.a p.b)
  have hkeeps := (State.foldl_axes_keep (fun x => x.st = 4) (l := pathAxes p.a p.b) (fun u wu a _ => State.failAt_keeps c p wu a)
    (s := s.cycleRead c [(p.a, p.b)]) (by rw [hsteer]; exact wA)).2
  rw [show (pathAxes p.a p.b).foldl (State.failAt c p) (s.cycleRead c [(p.a, p.b)]) = s.failAxes c p from rfl] at hsets hkeeps
  have hmem : (s.failAxes c p).mem = s.mem := by rw [hframe]; exact (hread.get State.mem :)
  have hlock : (s.failAxes c p).lock = s.lock := by rw [hframe]; exact (hread.get State.lock :)
  have htows : (s.failAxes c p).tows = s.tows := by rw [hframe]; exact (hread.get State.tows :)
  have hform : wordsWf 0 (s.failAxes c p).regs = true := by rw [hframe]; exact hread.form
  generalize s.failAxes c p = u at hsets hkeeps hmem hlock htows hform ⊢
  obtain ⟨wu, hst⟩ := hsets
  obtain ⟨rform, rsteer, rmem, rpaths, rtows, tick, rcycles⟩ := State.recordFailure_spec hform id p
  refine ⟨rform, by rw [rsteer]; exact wu, rmem.trans hmem, by rw [rpaths, hlock], rtows.trans htows, ⟨tick, by rw [rcycles, hlock]⟩,
    fun b hb => ?_, fun b hb => ?_⟩
  · rw [State.axisNow_congr rsteer]; exact hst b (.inl hb)
  · rw [State.axisNow_congr rsteer]
    exact hkeeps b (by rw [State.axisNow_congr hsteer]; exact hb)

theorem State.Fails.cycle {s t : State} {id : Nat} {p : CPath} (h : s.Fails t id p) : ∃ tick, t.cycle id = (s.cycle id).map (Cycle.failedAt tick p.a) := by
  obtain ⟨tick, hc⟩ := h.cycles
  exact ⟨tick, by rw [State.cycle, hc]; exact find?_modCycle s.lock.cycles id (fun _ => rfl)⟩

/-- The mark of a path: its ends, and whether it is proved. -/
def CPath.mark (p : CPath) : Nat × Nat × Bool := (p.a, p.b, decide (p.phase = .proved))

/-- What the failures of the paths not proved leave. -/
structure State.FailsAll (s t : State) (id : Nat) (c : Cycle) (l : List CPath) : Prop where
  form : wordsWf 0 t.regs = true
  axesWf : spWf {} 0 t.steer.axes = true
  mem : t.mem = s.mem
  cycle : ∃ ps, t.cycle id = some { c with paths := ps } ∧ ps.map CPath.mark = c.paths.map CPath.mark
  pairs : ∀ p ∈ l, ∃ q ∈ t.lock.paths, q.a = p.a ∧ q.b = p.b
  open_loop : ∀ p ∈ l, ∀ a ∈ pathAxes p.a p.b, (t.axisNow a).st = 4

/-- Marking the path of a mirror failed keeps every mark, where no proved path begins there. -/
theorem map_mark_failedAt {tick a : Nat} {ps : List CPath} (h : ∀ m ∈ ps.map CPath.mark, m.1 = a → m.2.2 = false) :
    (ps.map (CPath.failedAt tick a)).map CPath.mark = ps.map CPath.mark := by
  rw [List.map_map]
  refine List.map_congr_left fun p hp => ?_
  simp only [Function.comp_apply, CPath.failedAt]
  split
  · next ha =>
    have hm := h _ (List.mem_map_of_mem hp) ha
    simp only [CPath.mark] at hm ⊢
    rw [hm]; rfl
  · rfl

theorem State.failAll_fails {s : State} {id : Nat} {c : Cycle} (hc : s.cycle id = some c) (l : List CPath)
    (hl : ∀ p ∈ l, ∀ m ∈ c.paths.map CPath.mark, m.1 = p.a → m.2.2 = false) (w : wordsWf 0 s.regs = true)
    (wA : spWf {} 0 s.steer.axes = true) : s.FailsAll (l.foldl (fun s p => s.failPath id p) s) id c l := by
  induction l using List.reverseRecOn with
  | nil => exact ⟨w, wA, rfl, ⟨c.paths, hc, rfl⟩, by simp, by simp⟩
  | append_singleton l p ih =>
    obtain ⟨form, axesWf, mem, ⟨ps, hps, hmark⟩, pairs, open_loop⟩ := ih fun r hr => hl r (List.mem_append_left _ hr)
    rw [List.foldl_append, List.foldl_cons, List.foldl_nil]
    generalize l.foldl (fun s p => s.failPath id p) s = u at *
    have hf := State.failPath_fails form axesWf id p
    obtain ⟨tick, fcycle⟩ := hf.cycle
    refine ⟨hf.form, hf.axesWf, hf.mem.trans mem, ⟨ps.map (CPath.failedAt tick p.a), by rw [fcycle, hps]; rfl, ?_⟩, fun r hr => ?_, fun r hr a ha => ?_⟩
    · rw [map_mark_failedAt, hmark]
      rw [hmark]; exact hl p (by simp)
    · rw [hf.paths]
      rcases List.mem_append.mp hr with hr | hr
      · obtain ⟨q, hq, hab⟩ := pairs r hr
        exact ⟨q, List.mem_append_left _ hq, hab⟩
      · obtain rfl := List.mem_singleton.mp hr
        exact ⟨_, List.mem_append_right _ (List.mem_singleton.mpr rfl), rfl, rfl⟩
    · rcases List.mem_append.mp hr with hr | hr
      · exact hf.open_loop a (open_loop r hr a ha)
      · obtain rfl := List.mem_singleton.mp hr
        exact (hf.blinded a ha).1

/-! ## A closed cycle -/

/-- What the CLOSE of a cycle c leaves of the state u in which its undone paths have failed. -/
structure State.Closes (u t : State) (id : Nat) (c : Cycle) : Prop where
  gone : ∀ d ∈ t.lock.cycles, d.id ≠ id
  mem : t.mem = u.mem
  stood : ∀ q ∈ u.lock.paths, ∃ r ∈ t.lock.paths, r.a = q.a ∧ r.b = q.b
  lit : ∀ p ∈ c.lit, ∃ r ∈ t.lock.paths, r.a = p.a ∧ r.b = p.b
  src : ∀ p ∈ c.paths, ∀ a ∈ pathAxes p.a p.b, (t.axisNow a).src = 0
  st : ∀ p ∈ c.paths, ∀ a ∈ pathAxes p.a p.b, (t.axisNow a).st ≠ 1
  open_loop : ∀ a, (u.axisNow a).st = 4 → (t.axisNow a).st = 4
  outcome : t.fget F.LOCK_LAST.OUTCOME = c.outcome false
  reason : t.fget F.LOCK_LAST.REASON = 0
  failed : t.fget F.LOCK_LAST.FAILED = (c.unlit.length + c.lost.length) % 2 ^ F.LOCK_LAST.FAILED.width

theorem State.Stands.pair {s t : State} (h : s.Stands t) {q : Path} (hq : q ∈ s.lock.paths) : ∃ r ∈ t.lock.paths, r.a = q.a ∧ r.b = q.b := by
  have hin : (q.a, q.b) ∈ t.lock.paths.map (fun q => (q.a, q.b)) := by rw [h.pairs]; exact List.mem_map_of_mem (f := fun q : Path => (q.a, q.b)) hq
  obtain ⟨r, hr, he⟩ := List.mem_map.mp hin
  exact ⟨r, hr, congrArg Prod.fst he, congrArg Prod.snd he⟩

/-- The axes at the CLOSE tick, with the released mirrors. -/
def State.closeLights (u : State) (c : Cycle) : State := (u.closeAxes c).closeMirrors c

section
variable {u : State} (wA : spWf {} 0 u.steer.axes = true) (c : Cycle)
include wA

theorem State.closeLights_src {p : CPath} (hp : p ∈ c.paths) {a : Nat} (ha : a ∈ pathAxes p.a p.b) : ((u.closeLights c).axisNow a).src = 0 :=
  State.closeMirrors_keeps (P := fun x => x.src = 0) (src_sticky 0) (fun x _ => Axis.src_setSrc x 0) (State.closeAxes_wf wA c) c (State.closeAxes_src wA c hp ha)

theorem State.closeLights_st {p : CPath} (hp : p ∈ c.paths) {a : Nat} (ha : a ∈ pathAxes p.a p.b) : ((u.closeLights c).axisNow a).st ≠ 1 :=
  State.closeMirrors_keeps (P := fun x => x.st ≠ 1) (st_ne_sticky 1) (fun x h => by rw [Axis.st_setSrc]; exact h) (State.closeAxes_wf wA c) c
    (State.closeAxes_st wA c hp ha)

theorem State.closeLights_failed {a : Nat} (h : (u.axisNow a).st = 4) : ((u.closeLights c).axisNow a).st = 4 :=
  State.closeMirrors_keeps (P := fun x => x.st = 4) (st_sticky 4) (fun x h => by rw [Axis.st_setSrc]; exact h) (State.closeAxes_wf wA c) c
    (State.closeAxes_failed wA c h)

end

theorem State.closeLights_rest (u : State) (c : Cycle) : (u.closeLights c).regs = u.regs ∧ (u.closeLights c).mem = u.mem ∧
    (u.closeLights c).lock.paths = u.lock.paths := by
  have h1 := State.closeAxes_frame u c
  unfold State.closeLights
  generalize u.closeAxes c = v at h1 ⊢
  have h2 := State.closeMirrors_frame v c
  generalize v.closeMirrors c = x at h2 ⊢
  exact ⟨by rw [h2, h1], by rw [h2, h1], by rw [h2, h1]⟩

/-- The machine at the CLOSE of cycle c, from the failures of its undone paths on. -/
def State.closed (u : State) (id : Nat) (c : Cycle) : State :=
  ((((u.closeLights c).withLit c).refreshLit c.lit).leaveCycle id c).closeRecords id c c.lit c.unlit

theorem State.closed_closes {u : State} (w : wordsWf 0 u.regs = true) (wA : spWf {} 0 u.steer.axes = true) (id : Nat) (c : Cycle) :
    u.Closes (u.closed id c) id c := by
  obtain ⟨hregs, hmem, hpaths⟩ := State.closeLights_rest u c
  have hsrc := fun p hp a ha => State.closeLights_src wA c (p := p) hp (a := a) ha
  have hst := fun p hp a ha => State.closeLights_st wA c (p := p) hp (a := a) ha
  have hfailed := fun a h => State.closeLights_failed wA c (a := a) h
  unfold State.closed
  generalize u.closeLights c = v at *
  have hr := State.refreshLit_stands (s := v.withLit c) (by show wordsWf 0 v.regs = true; rw [hregs]; exact w) c.lit
  generalize (v.withLit c).refreshLit c.lit = x at hr ⊢
  have hx : wordsWf 0 (x.leaveCycle id c).regs = true := hr.form
  have hcycles : ∀ d ∈ (x.leaveCycle id c).lock.cycles, d.id ≠ id := fun d hd => by
    have := (List.mem_filter.mp (show d ∈ x.lock.cycles.filter (fun c => decide (c.id ≠ id)) from hd)).2
    simpa using this
  have hkeep : (x.leaveCycle id c).steer = x.steer ∧ (x.leaveCycle id c).mem = x.mem ∧ (x.leaveCycle id c).lock.paths = x.lock.paths := ⟨rfl, rfl, rfl⟩
  generalize x.leaveCycle id c = y at hx hcycles hkeep ⊢
  obtain ⟨ysteer, ymem, ypaths⟩ := hkeep
  obtain ⟨tsteer, tmem, tcycles, tpaths, tout, treason, tfailed⟩ := State.closeRecords_spec hx id c c.lit c.unlit
  have hsteer : (y.closeRecords id c c.lit c.unlit).steer = v.steer := tsteer.trans (ysteer.trans hr.steer)
  refine ⟨fun d hd => hcycles d (by rw [← tcycles]; exact hd), tmem.trans (ymem.trans (hr.mem.trans hmem)), fun q hq => ?_, fun p hp => ?_,
    fun p hp a ha => ?_, fun p hp a ha => ?_, fun a h => ?_, tout, treason, tfailed⟩
  · rw [tpaths, ypaths]
    exact hr.pair (List.mem_append_left _ (by rw [hpaths]; exact hq))
  · rw [tpaths, ypaths]
    exact hr.pair (q := { a := p.a, b := p.b }) (List.mem_append_right _ (List.mem_map.mpr ⟨p, hp, rfl⟩))
  · rw [State.axisNow_congr hsteer]; exact hsrc p hp a ha
  · rw [State.axisNow_congr hsteer]; exact hst p hp a ha
  · rw [State.axisNow_congr hsteer]; exact hfailed a h

/-- The axes, ends and proved paths of a cycle are told by the marks of its paths. -/
theorem unlit_length_of_marks {c d : Cycle} (h : d.paths.map CPath.mark = c.paths.map CPath.mark) : d.unlit.length = c.unlit.length := by
  have hlen : ∀ l : List CPath, (l.filter (fun p => p.phase ≠ .proved)).length = ((l.map CPath.mark).filter (fun m => !m.2.2)).length := fun l => by
    rw [List.filter_map, List.length_map]
    congr 2
    funext p
    simp [CPath.mark]
  rw [Cycle.unlit, Cycle.unlit, hlen, hlen, h]

theorem undone_mark {c : Cycle} (hn : (c.paths.map (fun p => p.a)).Nodup) : ∀ p ∈ c.undone, ∀ m ∈ c.paths.map CPath.mark, m.1 = p.a → m.2.2 = false := by
  intro p hp m hm he
  obtain ⟨hpin, hphase⟩ := List.mem_filter.mp hp
  obtain ⟨r, hr, rfl⟩ := List.mem_map.mp hm
  obtain rfl : r = p := List.inj_on_of_nodup_map hn hr hpin he
  simp only [Bool.and_eq_true, decide_eq_true_eq] at hphase
  simpa [CPath.mark] using hphase.1

theorem filter_notMem_filter {α : Type} [DecidableEq α] (l : List α) (g : α → Bool) :
    l.filter (fun p => decide (p ∉ l.filter g)) = l.filter (fun p => !g p) :=
  List.filter_congr fun p hp => by
    cases hg : g p <;> simp [hp, hg]

/-- Settles O26: the CLOSE of a cycle closes every axis of its paths, after which no record changes an axis, a connection or the outcome
shown; a path that fails leaves its axes in open loop, which CLOSE keeps. -/
theorem cycleEnd : Obligations.CycleEnd := by
  unfold Obligations.CycleEnd
  refine ⟨fun s id c hwf hc hopen habort hberth => ⟨fun hslew hall => ?_, fun hdue hnodup => ?_⟩, fun s m hwf hm hin hrest => ?_,
    fun s id errs hwf => ?_, fun s w hwf hw => settleUpdate_spec hwf hw, fun s hnone => ?_⟩
  · have hopened : c.opened.isSome = true := Option.isSome_iff_ne_none.mpr hopen
    have hundone : c.undone = [] := by
      rw [Cycle.undone, List.filter_eq_nil_iff]
      intro p hp
      simp [hall p hp]
    have hunlit : c.unlit = [] := by
      rw [Cycle.unlit, List.filter_eq_nil_iff]
      intro p hp
      simp [hall p hp]
    have heq := State.closeCycle_eq hc habort (c := c) (by rw [hundone]; exact hc) habort hberth
    rw [hundone, List.foldl_nil] at heq
    have hgo : (c.opened.isSome && decide (c.slewTick ≠ 0) && s.settled c) = true := by
      simp only [Bool.and_eq_true, decide_eq_true_eq]
      refine ⟨⟨hopened, hslew⟩, ?_⟩
      rw [State.settled, habort]
      simp only [Bool.false_eq_true, if_false, List.all_eq_true]
      intro p hp
      simp [hall p hp]
    have h := State.closed_closes (State.regsWf_of_allWf hwf) (State.axesWf_of_allWf hwf) id c
    refine ⟨s.closed id c, ?_, h.gone, fun p hp => ⟨h.lit p (List.mem_filter.mpr ⟨hp, by simp [hall p hp]⟩),
      fun a ha => ⟨h.src p hp a ha, h.st p hp a ha⟩⟩, h.outcome, h.reason, by simpa [hunlit] using h.failed, h.mem⟩
    show Host.Outcome.next (closeTick id s) = _
    rw [closeTick, hc]
    dsimp only
    rw [if_pos hgo, heq]
    rfl
  · have hopened : c.opened.isSome = true := Option.isSome_iff_ne_none.mpr hopen
    obtain ⟨form, axesWf, mem, ⟨ps, hps, hmark⟩, pairs, open_loop⟩ :=
      State.failAll_fails hc c.undone (undone_mark hnodup) (State.regsWf_of_allWf hwf) (State.axesWf_of_allWf hwf)
    have heq := State.closeCycle_eq hc habort hps habort hberth
    have h := State.closed_closes form axesWf id { c with paths := ps }
    have hgo : (c.opened.isSome && decide (c.deadlineBase + s.deadlineOf c < s.tickNs + s.periodNs)) = true := by simp [hopened, hdue]
    have hends : ∀ p ∈ c.paths, ∃ r ∈ ps, r.a = p.a ∧ r.b = p.b := fun p hp => by
      have hin : p.mark ∈ ps.map CPath.mark := by rw [hmark]; exact List.mem_map_of_mem hp
      obtain ⟨r, hr, he⟩ := List.mem_map.mp hin
      exact ⟨r, hr, congrArg Prod.fst he, congrArg (fun m => m.2.1) he⟩
    refine ⟨_, ?_, h.gone, fun p hp hne hnf => ?_, h.outcome, ?_, h.mem.trans mem⟩
    · show Host.Outcome.next (cycleDeadline id s) = _
      rw [cycleDeadline, hc]
      dsimp only
      rw [if_pos hgo, heq]
      rfl
    · have hin : p ∈ c.undone := List.mem_filter.mpr ⟨hp, by simp [hne, hnf]⟩
      obtain ⟨q, hq, hqa, hqb⟩ := pairs p hin
      obtain ⟨r, hr, hra, hrb⟩ := h.stood q hq
      obtain ⟨x, hx, hxa, hxb⟩ := hends p hp
      refine ⟨⟨r, hr, hra.trans hqa, hrb.trans hqb⟩, fun a ha => ⟨h.src x hx a (by rw [hxa, hxb]; exact ha), h.open_loop a (open_loop p hin a ha)⟩⟩
    · rw [h.failed, unlit_length_of_marks (c := c) hmark]
      rfl
  · obtain ⟨hset, hkeep⟩ := State.parkAxes_spec (State.axesWf_of_allWf hwf) m
    refine ⟨_, exec_parkReached hm hin hrest, hset, hkeep, rfl, ?_⟩
    have hframe := State.parkAxes_frame s m
    generalize s.parkAxes m = u at hframe ⊢
    rw [hframe]
  · obtain ⟨hlock, hbusy, hsteer, hmem, htows, hfabric⟩ := State.endProofs_ended
      (fun q => match errs.find? (fun e => e.1 = q.a) with | some e => e.2 | none => 0)
      (s.lock.proofs.filter (fun q => decide (q.cycle = id) && decide (q.since + 5000000 ≤ s.time.tb3))) (State.regsWf_of_allWf hwf)
    refine ⟨_, rfl, ?_, fun q hq hid hdue n hn => ?_, hsteer, hmem, htows, hfabric⟩
    · refine hlock.trans ?_
      rw [filter_notMem_filter]
    · refine (hbusy n).trans (if_pos ⟨q, List.mem_filter.mpr ⟨hq, by simp [hid, hdue]⟩, hn⟩)
  · show Host.Outcome.next (settleUpdate s) = _
    rw [settleUpdate, hnone]

end Sys2Proof.Machine
end

section
/-!
PROOFS. A running lock cycle (R65, R66, R69–R71, R78): the phases that a path enters, the end of an axis's SLEW, what the reading of the
proof entries leaves of the counts, and the statement.
-/

namespace Sys2Proof.Machine

/-! ## The running cycle changed -/

theorem find?_opened (l : List Cycle) {f : Cycle → Cycle} {id : Nat} (hf : ∀ d, (f d).opened = d.opened) {c : Cycle}
    (h : l.find? (fun c => c.opened.isSome) = some c) (hid : c.id = id) :
    (l.map (fun d => if d.id = id then f d else d)).find? (fun c => c.opened.isSome) = some (f c) := by
  induction l with
  | nil => cases h
  | cons d l ih =>
    have hopen : (if d.id = id then f d else d).opened = d.opened := by split <;> simp [hf]
    by_cases hd : d.opened.isSome = true
    · rw [List.find?_cons_of_pos (p := fun c : Cycle => c.opened.isSome) hd] at h
      obtain rfl := Option.some.inj h
      rw [List.map_cons, List.find?_cons_of_pos (p := fun c : Cycle => c.opened.isSome) (by rw [hopen]; exact hd), if_pos hid]
    · rw [List.find?_cons_of_neg (p := fun c : Cycle => c.opened.isSome) hd] at h
      rw [List.map_cons, List.find?_cons_of_neg (p := fun c : Cycle => c.opened.isSome) (by rw [hopen]; exact hd)]
      exact ih h

theorem State.running_modCycle {s : State} {c : Cycle} (h : s.running = some c) {f : Cycle → Cycle} (hf : ∀ d, (f d).opened = d.opened) :
    (s.modCycle c.id f).running = some (f c) := find?_opened s.lock.cycles hf h rfl

theorem State.running_congr {s t : State} (h : t.lock.cycles = s.lock.cycles) : t.running = s.running := by
  rw [State.running, State.running, h]

/-- The path of a mirror in a new phase. -/
def CPath.entering (tick a : Nat) (ph : Phase) (p : CPath) : CPath :=
  if p.a = a then { p with phase := ph, run := 0, since := 0, entered := tick } else p

/-- A cycle whose path of a mirror enters a phase. -/
def Cycle.entering (tick a : Nat) (ph : Phase) (c : Cycle) : Cycle := { c with paths := c.paths.map (CPath.entering tick a ph) }

theorem Cycle.entering_pairs (tick a : Nat) (ph : Phase) (c : Cycle) : (c.entering tick a ph).pairs = c.pairs := by
  rw [Cycle.pairs, Cycle.entering, List.map_map, Cycle.pairs]
  refine List.map_congr_left fun p _ => ?_
  simp only [Function.comp_apply, CPath.entering]
  split <;> rfl

theorem Cycle.entering_phase {tick a : Nat} {ph : Phase} {c : Cycle} {r : CPath} (hr : r ∈ (c.entering tick a ph).paths) (ha : r.a = a) :
    r.phase = ph ∧ r.run = 0 := by
  obtain ⟨p, -, rfl⟩ := List.mem_map.mp hr
  rw [CPath.entering] at ha ⊢
  split at ha
  · next h => rw [if_pos h]; exact ⟨rfl, rfl⟩
  · next h => exact absurd ha h

/-- The machine with its cycles changed and nothing else. -/
def State.withCycles (s : State) (l : List Cycle) : State := { s with lock := { s.lock with cycles := l } }

theorem State.modCycle_eq (s : State) (id : Nat) (f : Cycle → Cycle) :
    s.modCycle id f = s.withCycles (s.lock.cycles.map (fun c => if c.id = id then f c else c)) := rfl

section
variable {s : State} (w : wordsWf 0 s.regs = true) {c : Cycle} (h : s.running = some c) (a : Nat) (ph : Phase) (code : Nat)

include h in
theorem State.enterPhase_running : (s.enterPhase c.id a ph code).running = some (c.entering s.steer.tick a ph) := by
  have hc : (s.enterPhase c.id a ph code).lock.cycles = (s.modCycle c.id (Cycle.entering s.steer.tick a ph)).lock.cycles := by
    rw [State.enterPhase, State.sendJournal_lock]; rfl
  rw [State.running_congr hc]
  exact State.running_modCycle h fun _ => rfl

include w in
/-- A path entering a phase changes its cycle, and is reported. -/
theorem State.enterPhase_reported (id : Nat) :
    (s.withCycles (s.enterPhase id a ph code).lock.cycles).Reported (s.enterPhase id a ph code) [] := by
  have hc : (s.enterPhase id a ph code).lock.cycles = (s.modCycle id (Cycle.entering s.steer.tick a ph)).lock.cycles := by
    rw [State.enterPhase, State.sendJournal_lock]; rfl
  rw [hc]
  exact (State.Reported.refl (s := s.modCycle id (Cycle.entering s.steer.tick a ph)) w []).sendJournal (.pathPhase a code)

end

/-! ## SLEW and its second wave (R65, R78) -/

/-- A cycle in which SLEW has started. -/
def Cycle.slewed (tick : Nat) (c : Cycle) : Cycle :=
  { c with slewTick := tick + 1, paths := c.paths.map (fun p => { p with phase := .slewing, entered := tick }) }

theorem slewStart_spec {s : State} (hwf : s.allWf = true) {id : Nat} {c : Cycle} (hc : s.cycle id = some c) (hopen : c.opened ≠ none)
    (h0 : c.slewTick = 0) :
    ∃ t d, exec (.slewStart id) s = .next t ∧ t.cycle id = some d ∧ d.slewTick = s.steer.tick + 1 ∧ d.pairs = c.pairs ∧
      (∀ p ∈ d.paths, p.phase = .slewing) ∧ reports { s with lock := { s.lock with cycles := t.lock.cycles } } t [] := by
  have hrep : (s.modCycle id (Cycle.slewed s.steer.tick)).Reported
      (c.paths.foldl (fun s p => s.sendJournal (.pathPhase p.a 1)) (s.modCycle id (Cycle.slewed s.steer.tick))) [] :=
    (State.Reported.refl (s := s.modCycle id (Cycle.slewed s.steer.tick)) (State.regsWf_of_allWf (s := s) hwf) _).foldl fun u wu p _ => (State.Reported.refl wu _).sendJournal _
  refine ⟨c.paths.foldl (fun s p => s.sendJournal (.pathPhase p.a 1)) (s.modCycle id (Cycle.slewed s.steer.tick)), c.slewed s.steer.tick,
    ?_, ?_, rfl, ?_, ?_, ?_⟩
  · show Host.Outcome.next (slewStart id s) = _
    rw [slewStart, hc]
    dsimp only
    rw [if_pos ⟨Option.isSome_iff_ne_none.mpr hopen, h0⟩]
    rfl
  · rw [State.cycle, hrep.lock]
    exact (find?_modCycle s.lock.cycles id (f := Cycle.slewed s.steer.tick) fun _ => rfl).trans (congrArg (Option.map _) hc)
  · rw [Cycle.pairs, Cycle.slewed, List.map_map]; rfl
  · intro p hp
    obtain ⟨q, -, rfl⟩ := List.mem_map.mp hp
    rfl
  · rw [hrep.lock]; exact hrep.reports

theorem wave2Start_spec {s : State} {id : Nat} {c : Cycle} (hc : s.cycle id = some c) (hslew : c.slewTick ≠ 0) (htwo : c.twoWaves = true)
    (hdue : c.slewTick + c.wave2Tick ≤ s.steer.tick + 1) :
    ∃ t, exec (.wave2Start id) s = .next t ∧ t.cycle id = some { c with wave2 := true } ∧
      t = { s with lock := { s.lock with cycles := t.lock.cycles } } := by
  refine ⟨s.modCycle id (fun c => { c with wave2 := true }), ?_, ?_, rfl⟩
  · show Host.Outcome.next (wave2Begin id s) = _
    rw [wave2Begin, hc]
    dsimp only
    rw [if_pos ⟨hslew, htwo, hdue⟩]
  · exact (find?_modCycle s.lock.cycles id (f := fun c => { c with wave2 := true }) fun _ => rfl).trans (congrArg (Option.map _) hc)

/-! ## The end of an axis's SLEW (R66) -/

section
variable (ilim : Int) (x : Axis)

theorem Axis.flag_i (f : Fld) (c : Bool) : (x.flag f c).i = x.i := by unfold Axis.flag; split <;> rfl

theorem Axis.flag_ff (f : Fld) (c : Bool) : (x.flag f c).ff = x.ff := by unfold Axis.flag; split <;> rfl

theorem Axis.flag_target (f : Fld) (c : Bool) : (x.flag f c).target = x.target := by unfold Axis.flag; split <;> rfl

theorem Axis.flag_moveDone (f : Fld) (c : Bool) : (x.flag f c).moveDone = x.moveDone := by unfold Axis.flag; split <;> rfl

theorem transferFf_i : (transferFf ilim x).i = BitVec.ofInt 40 (clampI (-(ilim * 32768)) (ilim * 32768) (x.i.toInt + sval x.ff * 32768)) := by
  unfold transferFf; dsimp only; rw [Axis.flag_i]

theorem transferFf_ff : (transferFf ilim x).ff = 0 := by unfold transferFf; dsimp only; rw [Axis.flag_ff]

theorem transferFf_target : (transferFf ilim x).target = x.target := by unfold transferFf; dsimp only; rw [Axis.flag_target]

theorem transferFf_moveDone : (transferFf ilim x).moveDone = x.moveDone := by unfold transferFf; dsimp only; rw [Axis.flag_moveDone]

end

/-- What f makes of the present axis, where joined sticky bits change neither. -/
theorem State.axisNow_modNow_eq {α : Type} {s : State} (w : spWf {} 0 s.steer.axes = true) (a : Nat) (f : Axis → Axis) (p : Axis → α)
    (hp : ∀ x old : Axis, p (x.addSticky old) = p x) (hf : ∀ x old : Axis, p (f (x.addSticky old)) = p (f x)) :
    p ((s.modNow a f).axisNow a) = p (f (s.axisNow a)) := by
  rw [State.axisNow_modNow_self w]
  cases hs : s.heldFor a with
  | some h => rw [State.axisNow_some hs, hf]; exact hp _ _
  | none => rw [State.axisNow_none hs]

/-- The cycle in which an axis ends its SLEW: LIMITED where the limiter has clamped it. -/
def State.noteLimited (s : State) (c : Cycle) (x : Axis) : State := if x.limited then s.modCycle c.id (fun d => { d with limited := true }) else s

theorem State.noteLimited_spec {s : State} {c : Cycle} (h : s.running = some c) (x : Axis) :
    s.noteLimited c x = s.withCycles (s.noteLimited c x).lock.cycles ∧
      ∃ d, (s.noteLimited c x).running = some d ∧ d.paths = c.paths ∧ d.id = c.id := by
  unfold State.noteLimited
  split
  · exact ⟨rfl, _, State.running_modCycle h fun _ => rfl, rfl, rfl⟩
  · exact ⟨rfl, c, h, rfl, rfl⟩

/-- The axis's ff moved into its integrator, and its path in CAPTURE where all its axes are there. -/
def State.endSlew (s : State) (id a : Nat) (p : CPath) (ilim : Int) : State :=
  let u := s.modNow a (transferFf ilim)
  if u.slewDone p then u.enterPhase id p.a .capturing 2 else u

theorem slewEnd_path {s : State} {a : Nat} (ha : a < 4640) {c : Cycle} (h : s.running = some c) (hin : s.inSlew a = true)
    (hdone : (s.axisNow a).moveDone = true) (hslew : c.slewTick ≠ 0) (habort : c.aborting = false) {p : CPath} (hp : c.pathOf a = some p) :
    exec (.slewEnd a) s = .next ((s.noteLimited c (s.axisNow a)).endSlew c.id a p (s.axisBank a (s.axisNow a)).ilim) := by
  have hgo : ¬ ((!s.inSlew a || !(s.axisNow a).moveDone || decide (c.slewTick = 0)) = true) := by simp [hin, hdone, hslew]
  have hok : okAxis a = true := decide_eq_true ha
  have hbank : (s.noteLimited c (s.axisNow a)).axisBank a (s.axisNow a) = s.axisBank a (s.axisNow a) := by
    unfold State.noteLimited; split <;> rfl
  show execSlewEnd a s = _
  rw [execSlewEnd, hok, slewEnd, h]
  dsimp only
  rw [if_neg hgo, hp, habort]
  show Host.Outcome.next ((s.noteLimited c (s.axisNow a)).endSlew c.id a p ((s.noteLimited c (s.axisNow a)).axisBank a (s.axisNow a)).ilim) = _
  rw [hbank]

theorem State.slewDone_of {u : State} {p : CPath} (h : ∀ b ∈ pathAxes p.a p.b, (u.axisNow b).moveDone = true ∧ (u.axisNow b).ff = 0) :
    u.slewDone p = true := by
  rw [State.slewDone, List.all_eq_true]
  intro b hb
  simp [h b hb]

/-- What the end of an axis's SLEW leaves. -/
theorem State.endSlew_spec {s : State} (wA : spWf {} 0 s.steer.axes = true) {c : Cycle} (h : s.running = some c) (a : Nat)
    (hdone : (s.axisNow a).moveDone = true) (p : CPath) (ilim : Int) :
    let t := s.endSlew c.id a p ilim
    (t.axisNow a).ff = 0 ∧ (t.axisNow a).target = (s.axisNow a).target ∧
      (t.axisNow a).i = BitVec.ofInt 40 (clampI (-(ilim * 32768)) (ilim * 32768) ((s.axisNow a).i.toInt + sval (s.axisNow a).ff * 32768)) ∧
      (∀ b, b ≠ a → t.axisNow b = s.axisNow b) ∧ t.mem = s.mem ∧ t.regs = s.regs ∧
      ∃ d, t.running = some d ∧ ((∀ b ∈ pathAxes p.a p.b, b ≠ a → (s.axisNow b).moveDone = true ∧ (s.axisNow b).ff = 0) →
        ∀ r ∈ d.paths, r.a = p.a → r.phase = .capturing) := by
  have hset : ∀ {α : Type} (q : Axis → α), (∀ x old : Axis, q (x.addSticky old) = q x) →
      (∀ x old : Axis, q (transferFf ilim (x.addSticky old)) = q (transferFf ilim x)) →
      q ((s.modNow a (transferFf ilim)).axisNow a) = q (transferFf ilim (s.axisNow a)) := fun q hq hf => State.axisNow_modNow_eq wA a _ q hq hf
  have hff := (hset Axis.ff (fun _ _ => rfl) fun x old => by rw [transferFf_ff, transferFf_ff]).trans (transferFf_ff ..)
  have htarget := (hset Axis.target (fun _ _ => rfl) fun x old => by rw [transferFf_target, transferFf_target]; rfl).trans (transferFf_target ..)
  have hi := (hset Axis.i (fun _ _ => rfl) fun x old => by rw [transferFf_i, transferFf_i]; rfl).trans (transferFf_i ..)
  have hmove := (hset Axis.moveDone (fun _ _ => rfl) fun x old => by rw [transferFf_moveDone, transferFf_moveDone]; rfl).trans (transferFf_moveDone ..)
  have hne : ∀ b, b ≠ a → (s.modNow a (transferFf ilim)).axisNow b = s.axisNow b := fun b hb => State.axisNow_modNow_ne s hb _
  have hframe := State.modNow_frame s a (transferFf ilim)
  unfold State.endSlew
  dsimp only
  generalize s.modNow a (transferFf ilim) = u at *
  have hrun : u.running = some c := by rw [← h]; exact State.running_congr (by rw [hframe])
  have hmem : u.mem = s.mem := by rw [hframe]
  have hregs : u.regs = s.regs := by rw [hframe]
  have hall : (∀ b ∈ pathAxes p.a p.b, b ≠ a → (s.axisNow b).moveDone = true ∧ (s.axisNow b).ff = 0) → u.slewDone p = true := fun hother =>
    State.slewDone_of fun b hb => by
      by_cases e : b = a
      · rw [e]; exact ⟨hmove.trans hdone, hff⟩
      · rw [hne b e]; exact hother b hb e
  split
  · have hsteer : (u.enterPhase c.id p.a .capturing 2).steer = u.steer := by simp [State.enterPhase, State.modCycle]
    have hnow : ∀ b, (u.enterPhase c.id p.a .capturing 2).axisNow b = u.axisNow b := State.axisNow_congr hsteer
    simp only [hnow]
    exact ⟨hff, htarget, hi, hne, by simp [State.enterPhase, State.modCycle, hmem], by simp [State.enterPhase, State.modCycle, hregs],
      _, State.enterPhase_running hrun p.a .capturing 2, fun _ r hr hra => (Cycle.entering_phase hr hra).1⟩
  · next hnot => exact ⟨hff, htarget, hi, hne, hmem, hregs, c, hrun, fun hother => absurd (hall hother) hnot⟩

theorem slewEnd_released {s : State} (hwf : s.allWf = true) {a : Nat} (ha : a < 4640) {c : Cycle} (h : s.running = some c)
    (hin : s.inSlew a = true) (hdone : (s.axisNow a).moveDone = true) (hslew : c.slewTick ≠ 0) (hp : c.pathOf a = none)
    (hrel : mirrorOf a ∈ c.released) :
    ∃ t, exec (.slewEnd a) s = .next t ∧ (t.axisNow a).st = 6 ∧ (t.axisNow a).u = s.park (axisSide a) ∧
      (t.axisNow a).target = s.park (axisSide a) ∧ (∀ b, b ≠ a → t.axisNow b = s.axisNow b) ∧ t.mem = s.mem := by
  have hgo : ¬ ((!s.inSlew a || !(s.axisNow a).moveDone || decide (c.slewTick = 0)) = true) := by simp [hin, hdone, hslew]
  have hok : okAxis a = true := decide_eq_true ha
  have hnote := (State.noteLimited_spec h (s.axisNow a)).1
  have hexec : exec (.slewEnd a) s = .next ((s.noteLimited c (s.axisNow a)).modNow a (parkAxis ((s.noteLimited c (s.axisNow a)).park (axisSide a)))) := by
    show execSlewEnd a s = _
    rw [execSlewEnd, hok, slewEnd, h]
    dsimp only
    rw [if_neg hgo, hp]
    dsimp only
    rw [if_pos (by simpa using hrel)]
    rfl
  refine ⟨_, hexec, ?_⟩
  generalize s.noteLimited c (s.axisNow a) = u at hnote ⊢
  have hsteer : u.steer = s.steer := by rw [hnote]; rfl
  have hmem : u.mem = s.mem := by rw [hnote]; rfl
  have hpark : u.park (axisSide a) = s.park (axisSide a) := by rw [hnote]; rfl
  have wA : spWf {} 0 u.steer.axes = true := by rw [hsteer]; exact State.axesWf_of_allWf hwf
  have hst : ∀ x, (parkAxis (u.park (axisSide a)) x).st = 6 := fun x => (Axis.fget_of_flags (parkAxis_flags _ x) _).trans (Axis.st_setSt x 6)
  refine ⟨State.axisNow_modNow_set wA a _ Axis.st Axis.st_addSticky hst, ?_, ?_, fun b hb => ?_, ?_⟩
  · exact (State.axisNow_modNow_set wA a _ Axis.u Axis.u_addSticky (parkAxis_u _)).trans hpark
  · exact (State.axisNow_modNow_set wA a (parkAxis (u.park (axisSide a))) Axis.target (fun _ _ => rfl) (fun _ => rfl)).trans hpark
  · rw [State.axisNow_modNow_ne u hb, State.axisNow_congr hsteer]
  · rw [State.modNow_frame]; exact hmem

/-! ## CAPTURE (R70) -/

theorem State.runningPath_some {s : State} {a : Nat} {c : Cycle} {p : CPath} (h : s.runningPath a = some (c, p)) :
    s.running = some c ∧ c.paths.find? (fun p => decide (p.a = a)) = some p ∧ p.a = a := by
  unfold State.runningPath at h
  cases hr : s.running with
  | none => rw [hr] at h; cases h
  | some d =>
    rw [hr] at h
    dsimp only at h
    cases hf : d.paths.find? (fun p => decide (p.a = a)) with
    | none => rw [hf] at h; cases h
    | some q =>
      rw [hf] at h
      obtain ⟨rfl, rfl⟩ := Prod.mk.inj (Option.some.inj h)
      exact ⟨rfl, hf, by simpa using List.find?_some hf⟩

section
variable {s : State} (hwf : s.allWf = true) {a : Nat} (ha : a < 1160) {c : Cycle} {p : CPath} (h : s.runningPath a = some (c, p))
include hwf ha h

theorem captured_spec (hph : p.phase = .capturing) (hrun : s.captureRun ≤ (s.pathCount c p).run) :
    ∃ t d, exec (.captured a) s = .next t ∧ t.running = some d ∧ (∀ r ∈ d.paths, r.a = a → r.phase = .proving ∧ r.run = 0) ∧
      d.pairs = c.pairs ∧ reports { s with lock := { s.lock with cycles := t.lock.cycles } } t [] := by
  have hok : okMirrorA a = true := decide_eq_true ha
  refine ⟨s.enterPhase c.id a .proving 3, _, ?_, State.enterPhase_running (State.runningPath_some h).1 a .proving 3,
    fun r hr hra => Cycle.entering_phase hr hra, Cycle.entering_pairs .., (State.enterPhase_reported (State.regsWf_of_allWf hwf) a .proving 3 c.id).reports⟩
  show execCaptured a s = _
  rw [execCaptured, hok, capture, h]
  dsimp only
  rw [if_pos ⟨hph, hrun⟩]
  rfl

theorem captureMaxExpiry_spec (hph : p.phase = .capturing) (hrun : (s.pathCount c p).run < s.captureRun)
    (hmax : s.fget F.LOCK_CAPTURE.CAPTURE_MAX ≤ (s.pathCount c p).since) :
    ∃ t d, exec (.captureMaxExpiry a) s = .next t ∧ t.running = some d ∧ (∀ r ∈ d.paths, r.a = a → r.phase = .failed) ∧
      (∀ x ∈ pathAxes p.a p.b, (t.axisNow x).st = 4 ∧ (t.axisNow x).offset = 0) ∧
      (∃ q ∈ t.lock.paths, q.a = p.a ∧ q.b = p.b ∧ q.state = 6) ∧ t.mem = s.mem ∧ t.tows = s.tows := by
  have hok : okMirrorA a = true := decide_eq_true ha
  obtain ⟨hc, -, hpa⟩ := State.runningPath_some h
  have hf := State.failPath_fails (State.regsWf_of_allWf hwf) (State.axesWf_of_allWf hwf) c.id p
  obtain ⟨tick, hcycles⟩ := hf.cycles
  refine ⟨s.failPath c.id p, c.failedAt tick p.a, ?_, ?_, fun r hr hra => ?_, hf.blinded, ?_, hf.mem, hf.tows⟩
  · show execCaptureMaxExpiry a s = _
    rw [execCaptureMaxExpiry, hok, captureExpiry, h]
    dsimp only
    rw [if_pos ⟨hph, hrun, hmax⟩]
    rfl
  · rw [State.running, hcycles]
    exact find?_opened s.lock.cycles (f := Cycle.failedAt tick p.a) (fun _ => rfl) hc rfl
  · obtain ⟨q, -, rfl⟩ := List.mem_map.mp hr
    rw [CPath.failedAt] at hra ⊢
    split at hra
    · next he => rw [if_pos he]
    · next he => exact absurd (hra.trans hpa.symm) he
  · rw [hf.paths]
    exact ⟨_, List.mem_append_right _ (List.mem_singleton.mpr rfl), rfl, rfl, rfl⟩

end

/-! ## PROVE (R64, R71) -/

/-- What reading entries of the map leaves: repairs of the working copy that change no entry as it is read. -/
structure State.ReadsMap (s t : State) : Prop where
  leaves : State.Leaves blankMapSteer s t [F.MAP_STATUS.CHECK_ERR]
  steer : t.steer = s.steer
  master : t.map.master = s.map.master
  workWf : spWf 0 0 t.map.work = true
  entry : ∀ i, t.mapEntry i = s.mapEntry i

theorem State.ReadsMap.trans {s t u : State} (h : s.ReadsMap t) (k : t.ReadsMap u) : s.ReadsMap u :=
  ⟨h.leaves.trans k.leaves, k.steer.trans h.steer, k.master.trans h.master, k.workWf, fun i => (k.entry i).trans (h.entry i)⟩

theorem State.mapEntry_congr {s t : State} {i : Nat} (hw : t.mapWork i = s.mapWork i) (hm : t.map.master = s.map.master) :
    t.mapEntry i = s.mapEntry i := by
  rw [State.mapEntry, State.mapEntry, hw, hm]

/-- A reading repairs the entry where it fails and its master copy does not. -/
theorem State.mapRead_map (s : State) (i : Nat) : (s.mapRead i).2.2.map =
    if entryCheck (s.mapWork i) = false ∧ entryCheck (spGet 0 s.map.master i) = true then
      { s.map with work := spSet 0 s.map.work i (spGet 0 s.map.master i) } else s.map := by
  unfold State.mapRead
  dsimp only
  by_cases h : entryCheck (s.mapWork i) = true
  · rw [if_pos h, if_neg (by simp [h])]
  · by_cases hm : entryCheck (spGet 0 s.map.master i) = true
    · rw [if_neg h, if_pos hm, if_pos ⟨by simpa using h, hm⟩]; simp
    · rw [if_neg h, if_neg hm, if_neg fun hc => hm hc.2]; simp

theorem State.mapRead_reads {s : State} (w : wordsWf 0 s.regs = true) (wM : spWf 0 0 s.map.work = true) (i : Nat) : s.ReadsMap (s.mapRead i).2.2 := by
  have hl := State.mapRead_leaves w i
  have hs := State.mapRead_steer s i
  have hmap := State.mapRead_map s i
  generalize (s.mapRead i).2.2 = t at hl hs hmap ⊢
  by_cases h : entryCheck (s.mapWork i) = false ∧ entryCheck (spGet 0 s.map.master i) = true
  · rw [if_pos h] at hmap
    have hmaster : t.map.master = s.map.master := by rw [hmap]
    refine ⟨hl, hs, hmaster, by rw [hmap]; exact spSet_wf 0 _ i _ 0 (Nat.zero_le i) wM, fun j => ?_⟩
    by_cases hj : j = i
    · have hwork : t.mapWork i = spGet 0 s.map.master i := by
        rw [State.mapWork, hmap]; exact spGet_spSet_self 0 _ i _ 0 wM
      rw [hj, State.mapEntry, State.mapEntry, hwork, if_pos h.2, if_neg (by simp [h.1]), if_pos h.2]
    · refine State.mapEntry_congr ?_ hmaster
      rw [State.mapWork, hmap]
      exact spGet_spSet_ne 0 _ i j _ hj
  · rw [if_neg h] at hmap
    exact ⟨hl, hs, by rw [hmap], by rw [hmap]; exact wM, fun j => State.mapEntry_congr (by rw [State.mapWork, hmap, State.mapWork]) (by rw [hmap])⟩

theorem State.cycleRead_reads {s : State} (w : wordsWf 0 s.regs = true) (wM : spWf 0 0 s.map.work = true) (c : Cycle) (l : List (Nat × Nat)) :
    s.ReadsMap (s.cycleRead c l) :=
  List.foldlRecOn (motive := fun u => s.ReadsMap u) l _ ⟨State.Leaves.refl _ w _, rfl, rfl, wM, fun _ => rfl⟩ fun u hu p _ => by
    have h1 := State.mapRead_reads hu.leaves.form hu.workWf (u.cycleIndex c 0 p.1 p.2)
    exact (hu.trans h1).trans (State.mapRead_reads h1.leaves.form h1.workWf _)

theorem State.mapWf_of_allWf {s : State} (h : s.allWf = true) : spWf 0 0 s.map.work = true := by
  simp only [State.allWf, State.controlWf, Bool.and_eq_true] at h
  tauto

/-- The fields that a reading of the map may write. -/
def readFields : List Fld := F.MAP_STATUS.CHECK_ERR :: logFields

/-- Words of a reach's block, whatever the number of the reach, lie apart from those that a reading of the map may write: none of those has an
offset that ends like one of a reach's. -/
theorem reachWord_apart {off : Nat} (h : off % 0x10000 = 8 ∨ 0x1000 ≤ off % 0x10000) (g : Fld) (hg : g.off = off) : ∀ f ∈ readFields, Fld.apart f g := by
  have hoff : ∀ f ∈ readFields, f.off % 0x10000 ≠ 8 ∧ f.off % 0x10000 < 0x1000 := by decide
  intro f hf
  have := hoff f hf
  refine .inl ?_
  rw [hg]
  rintro rfl
  omega

section
variable {s t : State} (h : s.ReadsMap t)
include h

theorem State.ReadsMap.fget {g : Fld} (hg : ∀ f ∈ readFields, Fld.apart f g) : t.fget g = s.fget g :=
  h.leaves.fget fun f hf => hg f hf

theorem State.ReadsMap.word {off : Nat} (ho : off % 0x10000 = 8 ∨ 0x1000 ≤ off % 0x10000) : t.word off = s.word off := by
  have hf : t.fget ⟨off, 0, 32⟩ = s.fget ⟨off, 0, 32⟩ := h.fget (reachWord_apart ho _ rfl)
  simpa [State.fget, fldOf, Nat.mod_eq_of_lt (BitVec.isLt _), BitVec.toNat_inj] using hf

theorem State.ReadsMap.sumMin (a : Nat) : t.sumMin a = s.sumMin a := by
  have hax : t.axis a = s.axis a := State.axis_congr h.steer a
  have hlaw : t.lawReach (t.reachOf a) = s.lawReach (s.reachOf a) := by
    rw [State.lawReach, State.lawReach, State.reachOf, State.reachOf, State.placeOf, State.placeOf, h.steer]
  have hactive : ∀ r c, t.activeBank r c = s.activeBank r c := fun r c => by
    rw [State.activeBank, State.activeBank, h.fget (reachWord_apart (off := 0x400008 + r * 0x10000) (.inl (by omega)) _ rfl)]
  have hcls : (s.axis a).cls < 16 := by
    rw [Axis.cls, Axis.fget, fldOf]
    exact Nat.mod_lt _ (by decide)
  have hword : ∀ r, t.word (bankOff r (s.axis a).cls (s.activeBank r (s.axis a).cls) + 0x1A / 4 * 4) =
      s.word (bankOff r (s.axis a).cls (s.activeBank r (s.axis a).cls) + 0x1A / 4 * 4) := fun r => by
    refine h.word (.inr ?_)
    have hbank : s.activeBank r (s.axis a).cls < 2 := Nat.mod_lt _ (by decide)
    unfold bankOff
    omega
  have hrec : ∀ u : State, u.sumMin a = (u.recHalf (bankOff (u.lawReach (u.reachOf a)) (u.axis a).cls
      (u.activeBank (u.lawReach (u.reachOf a)) (u.axis a).cls)) 0x1A).toNat := fun _ => rfl
  rw [hrec, hrec, hax, hlaw, hactive, State.recHalf, State.recHalf, hword]

theorem State.ReadsMap.cycleIndex (c : Cycle) (a b : Nat) : t.cycleIndex c 0 a b = s.cycleIndex c 0 a b := by
  have hbin : t.bin 0 = s.bin 0 := h.fget (apart_of_test (by decide))
  unfold State.cycleIndex State.pairIndex
  rw [hbin]

theorem State.ReadsMap.proveOk (c : Cycle) (p : CPath) : t.proveOk c p = s.proveOk c p := by
  have hax : ∀ a, t.axis a = s.axis a := State.axis_congr h.steer
  unfold State.proveOk
  simp only [h.cycleIndex, h.entry, hax, h.sumMin, h.fget (g := F.LOCK_PROVE.PROVE_ERR) (apart_of_test (by decide)),
    h.fget (g := F.LOCK_PROVE.LO_DB) (apart_of_test (by decide)), h.fget (g := F.LOCK_PROVE.HI_DB) (apart_of_test (by decide))]

theorem State.ReadsMap.provingRun (c : Cycle) {p : CPath} (hp : p.phase = .proving) : t.pathCount c p = s.pathCount c p := by
  have hfresh : t.pathFresh p = s.pathFresh p := by
    rw [State.pathFresh, State.pathFresh]
    congr 1
    funext a
    rw [State.fresh, State.fresh, h.steer]
  have hne : ¬ p.phase = .capturing := by rw [hp]; decide
  rw [State.pathCount, State.pathCount, hfresh, h.steer, h.proveOk, if_neg hne, if_neg hne]

end

theorem State.readProofs_reads {s : State} (w : wordsWf 0 s.regs = true) (wM : spWf 0 0 s.map.work = true) : s.ReadsMap s.readProofs := by
  unfold State.readProofs
  split
  · exact State.cycleRead_reads w wM _ _
  · exact ⟨State.Leaves.refl _ w _, rfl, rfl, wM, fun _ => rfl⟩

/-- The machine with another working copy of the map. -/
def State.withWork (s : State) (m : Sparse MapEntry) : State := { s with map := { s.map with work := m } }

theorem State.Reported.withWork {s t : State} {l : List Fld} (h : s.Reported t l) (m : Sparse MapEntry) : (s.withWork m).Reported (t.withWork m) l := by
  obtain ⟨form, frame, link, pair, kept⟩ := h
  exact ⟨form, (congrArg (fun x : State => x.withWork m) frame :), link, pair, fun g hg => kept g hg⟩

theorem State.Reported.withCycles {s t : State} {l : List Fld} (h : s.Reported t l) (k : List Cycle) : (s.withCycles k).Reported (t.withCycles k) l := by
  obtain ⟨form, frame, link, pair, kept⟩ := h
  exact ⟨form, (congrArg (fun x : State => x.withCycles k) frame :), link, pair, fun g hg => kept g hg⟩

/-- One change of the working copy with its reports after another. -/
theorem State.Reported.thenWork {s t u : State} {l : List Fld} (h : (s.withWork t.map.work).Reported t l) (k : (t.withWork u.map.work).Reported u l) :
    (s.withWork u.map.work).Reported u l :=
  (show (s.withWork u.map.work).Reported (t.withWork u.map.work) l from h.withWork _).trans k

/-- A reading of the map changes its working copy, and is reported. -/
theorem State.mapRead_reported {s : State} (w : wordsWf 0 s.regs = true) (i : Nat) :
    (s.withWork (s.mapRead i).2.2.map.work).Reported (s.mapRead i).2.2 [F.MAP_STATUS.CHECK_ERR] := by
  have hnote : s.Reported (((s.sticky F.MAP_STATUS.CHECK_ERR none).logEntry 5 5 .data .memory 0 i 0).count 2 14 1) [F.MAP_STATUS.CHECK_ERR] :=
    (((State.Reported.refl w _).sticky (f := F.MAP_STATUS.CHECK_ERR) (by simp) (by decide) none).logEntry (sev := 5) (by decide) 5 .data .memory 0 i 0).count 2 14 1
  unfold State.mapRead
  dsimp only
  split
  · exact State.Reported.refl (s := s) w _
  · generalize ((s.sticky F.MAP_STATUS.CHECK_ERR none).logEntry 5 5 .data .memory 0 i).count 2 14 = u at hnote ⊢
    split
    · exact hnote.withWork _
    · have hmap : u.map = s.map := hnote.map
      show (s.withWork u.map.work).Reported u _
      rw [hmap]
      exact hnote

/-- The two entries that a path's reading takes. -/
theorem State.mapReads_reported {s t : State} (h : (s.withWork t.map.work).Reported t [F.MAP_STATUS.CHECK_ERR]) (i j : Nat) :
    (s.withWork ((t.mapRead i).2.2.mapRead j).2.2.map.work).Reported ((t.mapRead i).2.2.mapRead j).2.2 [F.MAP_STATUS.CHECK_ERR] := by
  have h1 := State.mapRead_reported h.form i
  generalize (t.mapRead i).2.2 = u at h1 ⊢
  have h2 := State.mapRead_reported h1.form j
  generalize (u.mapRead j).2.2 = v at h2 ⊢
  exact (h.thenWork h1).thenWork h2

theorem State.cycleRead_reported {s : State} (w : wordsWf 0 s.regs = true) (c : Cycle) (l : List (Nat × Nat)) :
    (s.withWork (s.cycleRead c l).map.work).Reported (s.cycleRead c l) [F.MAP_STATUS.CHECK_ERR] :=
  List.foldlRecOn (motive := fun u : State => (s.withWork u.map.work).Reported u [F.MAP_STATUS.CHECK_ERR]) l _ (State.Reported.refl (s := s) w _)
    fun u hu p _ => State.mapReads_reported hu (u.cycleIndex c 0 p.1 p.2) (u.cycleIndex c 1 p.1 p.2)

theorem State.readProofs_reported {s : State} (w : wordsWf 0 s.regs = true) :
    (s.withWork s.readProofs.map.work).Reported s.readProofs [F.MAP_STATUS.CHECK_ERR] := by
  unfold State.readProofs
  split
  · exact State.cycleRead_reported w _ _
  · exact State.Reported.refl (s := s) w _

theorem proved_spec {s : State} (hwf : s.allWf = true) {a : Nat} (ha : a < 1160) {c : Cycle} {p : CPath} (h : s.runningPath a = some (c, p))
    (hph : p.phase = .proving) (hrun : s.proveHold ≤ (s.pathCount c p).run) :
    ∃ t d, exec (.proved a) s = .next t ∧ t.running = some d ∧ (∀ r ∈ d.paths, r.a = a → r.phase = .proved) ∧
      d.pairs = c.pairs ∧ reports { s with lock := { s.lock with cycles := t.lock.cycles }, map := { s.map with work := t.map.work } } t
        [F.MAP_STATUS.CHECK_ERR] := by
  have hok : okMirrorA a = true := decide_eq_true ha
  obtain ⟨hc, hfind, hpa⟩ := State.runningPath_some h
  have hread := State.readProofs_reads (State.regsWf_of_allWf hwf) (State.mapWf_of_allWf hwf)
  have hrep := State.readProofs_reported (State.regsWf_of_allWf hwf)
  have hlock : s.readProofs.lock = s.lock := (hread.leaves.get State.lock :)
  have hrunning : s.readProofs.running = some c := (State.running_congr (by rw [hlock])).trans hc
  have hpath : s.readProofs.runningPath a = some (c, p) := by rw [State.runningPath, hrunning]; dsimp only; rw [hfind]; rfl
  have hhold : s.readProofs.proveHold = s.proveHold := by rw [State.proveHold, hread.fget (apart_of_test (by decide)), State.proveHold]
  have hexec : exec (.proved a) s = .next (s.readProofs.enterPhase c.id a .proved 4) := by
    show execProved a s = _
    rw [execProved, hok, prove, hpath]
    dsimp only
    rw [if_pos ⟨hph, by rw [hhold, hread.provingRun c hph]; exact hrun⟩]
    rfl
  have hphase := State.enterPhase_reported hread.leaves.form a .proved 4 c.id
  have hmap : (s.readProofs.enterPhase c.id a .proved 4).map.work = s.readProofs.map.work := by rw [hphase.map]; rfl
  refine ⟨_, _, hexec, State.enterPhase_running hrunning a .proved 4, fun r hr hra => (Cycle.entering_phase hr hra).1, Cycle.entering_pairs .., ?_⟩
  rw [hmap]
  exact ((hrep.withCycles _).trans (hphase.mono (by simp))).reports

/-- Settles O25: a phase entered is a change of the running cycle that leaves its pairs; the end of a SLEW changes one axis; and the proof
entries read before a proof change no count. -/
theorem cycleRun : Obligations.CycleRun := by
  unfold Obligations.CycleRun
  refine ⟨fun s id c hwf hc => ⟨slewStart_spec hwf hc, wave2Start_spec hc⟩, fun s a c p hwf ha hrun hin hdone hslew habort hp => ?_,
    fun s a c hwf ha hrun hin hdone hslew hp hrel => slewEnd_released hwf ha hrun hin hdone hslew hp hrel,
    fun s a c p hwf ha h => ⟨captured_spec hwf ha h, captureMaxExpiry_spec hwf ha h, proved_spec hwf ha h⟩⟩
  obtain ⟨hnote, d, hd, hdp, hid⟩ := State.noteLimited_spec hrun (s.axisNow a)
  have hexec := slewEnd_path ha hrun hin hdone hslew habort hp
  generalize s.noteLimited c (s.axisNow a) = u at hnote hd hexec
  have hsteer : u.steer = s.steer := by rw [hnote]; rfl
  have hmem : u.mem = s.mem := by rw [hnote]; rfl
  have hregs : u.regs = s.regs := by rw [hnote]; rfl
  have hnow : ∀ b, u.axisNow b = s.axisNow b := State.axisNow_congr hsteer
  have h := State.endSlew_spec (by rw [hsteer]; exact State.axesWf_of_allWf hwf) hd a (by rw [hnow]; exact hdone) p (s.axisBank a (s.axisNow a)).ilim
  simp only [hnow, hid] at h
  obtain ⟨hff, htarget, hi, hne, tmem, tregs, e, he, hphase⟩ := h
  exact ⟨_, e, hexec, hff, htarget, hi, hne, he, hphase, tmem.trans hmem, fieldsKept_of_regs (tregs.trans hregs) _⟩

end Sys2Proof.Machine
end

section
/-!
PROOFS. A lock cycle before it opens (R61, R64, R69, R72–R74, R94): what the end of its settle-model tow, the reading of its map entries and
the writing of its trajectory buffers leave alone, and a cycle aborted while it waits.
-/

namespace Sys2Proof.Machine

/-! ## The cycle's settle-model tow ended (R72) -/

/-- What the end of a cycle's settle-model tow leaves. -/
structure State.Unsettled (s t : State) (id : Nat) : Prop where
  form : wordsWf 0 t.regs = true
  frame : t = { s with regs := t.regs, tows := t.tows }
  kept : ∀ g : Fld, g.off < 0x700000 → t.fget g = s.fget g
  gone : ∀ w ∈ t.tows.tows, w.settle ≠ some id

theorem State.dropSettle_unsettled {s : State} (w : wordsWf 0 s.regs = true) (id : Nat) : s.Unsettled (s.dropSettle id) id := by
  have h := State.freeUnits_left w (fun t => decide (t.settle = some id))
  unfold State.dropSettle
  generalize s.freeUnits (fun t => decide (t.settle = some id)) = u at h ⊢
  refine ⟨h.form, ?_, h.kept, fun x hx => by simpa using (List.mem_filter.mp hx).2⟩
  have hf := h.frame
  dsimp only
  rw [hf]

/-! ## Map entries read (R64) -/

theorem State.readPairs_reads {s : State} (w : wordsWf 0 s.regs = true) (wM : spWf 0 0 s.map.work = true) (l : List (Nat × Nat)) :
    s.ReadsMap (s.readPairs l) :=
  List.foldlRecOn (motive := fun u => s.ReadsMap u) l _ ⟨State.Leaves.refl _ w _, rfl, rfl, wM, fun _ => rfl⟩ fun u hu p _ => by
    have h1 := State.mapRead_reads hu.leaves.form hu.workWf (u.pairIndex 0 p.1 p.2)
    exact (hu.trans h1).trans (State.mapRead_reads h1.leaves.form h1.workWf _)

/-- An entry is usable where the entry a reading answers is checked and valid. -/
theorem State.mapUsable_eq (s : State) (i : Nat) : s.mapUsable i = (entryCheck (s.mapEntry i) && entryValid (s.mapEntry i)) := by
  unfold State.mapUsable State.mapEntry
  dsimp only
  generalize spGet 0 s.map.master i = m
  by_cases h : entryCheck (s.mapWork i) = true
  · simp [h]
  · by_cases hm : entryCheck m = true
    · simp [h, hm]
    · simp [h, hm]

theorem State.ReadsMap.bin {s t : State} (h : s.ReadsMap t) (head : Nat) : t.bin head = s.bin head := by
  rw [State.bin, State.bin, h.fget (g := F.LOCK_STATUS.BIN_A) (apart_of_test (by decide)),
    h.fget (g := F.LOCK_STATUS.BIN_B) (apart_of_test (by decide))]

theorem State.ReadsMap.pairUsable {s t : State} (h : s.ReadsMap t) (a b : Nat) : t.pairUsable a b = s.pairUsable a b := by
  simp only [State.pairUsable, State.mapUsable_eq, State.pairIndex, h.entry, h.bin]

/-! ## What a trajectory is computed from (R75, R78) -/

/-- Two machines with the same axes, heads, map entries and limits of motion. -/
structure State.SamePlant (s t : State) : Prop where
  steer : t.steer = s.steer
  pair : t.pair = s.pair
  entry : ∀ i, t.mapEntry i = s.mapEntry i
  limits : ∀ f ∈ [F.LOCK_LIMITS.V_SCALE, F.LOCK_LIMITS.A_SCALE, F.LOCK_LIMITS.J_SCALE, F.SLEW_BUDGET.LIMIT 0, F.SLEW_BUDGET.HEAD 0,
    F.SLEW_BUDGET.LIMIT 1, F.SLEW_BUDGET.HEAD 1], t.fget f = s.fget f

theorem State.SamePlant.trans {s t u : State} (h : s.SamePlant t) (k : t.SamePlant u) : s.SamePlant u :=
  ⟨k.steer.trans h.steer, k.pair.trans h.pair, fun i => (k.entry i).trans (h.entry i), fun f hf => (k.limits f hf).trans (h.limits f hf)⟩

section
variable {s t : State} (h : s.SamePlant t)
include h

theorem State.SamePlant.descOf (side : Nat) : t.descOf side = s.descOf side := by rw [State.descOf, State.descOf, h.pair]

theorem State.SamePlant.park (side : Nat) : t.park side = s.park side := by rw [State.park, State.park, h.descOf]

theorem State.SamePlant.bounds (side : Nat) : t.bounds side = s.bounds side := by
  rw [State.bounds, State.bounds, h.descOf, h.steer, h.limits F.LOCK_LIMITS.V_SCALE (by simp), h.limits F.LOCK_LIMITS.A_SCALE (by simp),
    h.limits F.LOCK_LIMITS.J_SCALE (by simp)]

theorem State.SamePlant.headPlan : t.headPlan 0 = s.headPlan 0 ∧ t.headPlan 1 = s.headPlan 1 := by
  simp only [State.headPlan, State.budget, h.bounds, h.descOf, h.limits (F.SLEW_BUDGET.LIMIT 0) (by simp), h.limits (F.SLEW_BUDGET.HEAD 0) (by simp),
    h.limits (F.SLEW_BUDGET.LIMIT 1) (by simp), h.limits (F.SLEW_BUDGET.HEAD 1) (by simp), and_self]

theorem State.SamePlant.waveItems {c : Cycle} {b : Nat × Nat} (hb : c.bins = some b) : t.waveItems c = s.waveItems c := by
  have hentry : ∀ a p, t.cycleEntry c a p = s.cycleEntry c a p := fun a p => by
    rw [State.cycleEntry, State.cycleEntry, State.cycleIndex, State.cycleIndex, hb]
  have hfinal : ∀ a, t.finalOf c a = s.finalOf c a := fun a => by
    simp only [State.finalOf, State.trimAt, hentry, h.entry, h.park]
  have hol : ∀ a, t.olEndOf c a = s.olEndOf c a := fun a => by
    simp only [State.olEndOf, State.olAt, hentry, h.entry, h.park]
  have hmover : t.moverOf c = s.moverOf c := by
    funext a
    simp only [State.moverOf, hfinal, hol, h.park, h.bounds, State.axisNow_congr h.steer a]
  rw [State.waveItems, State.waveItems, hmover]

end

theorem State.ReadsMap.samePlant {s t : State} (h : s.ReadsMap t) : s.SamePlant t :=
  ⟨h.steer, (h.leaves.get State.pair :), h.entry, fun f hf => h.fget (by
    have hap : ∀ g ∈ [F.LOCK_LIMITS.V_SCALE, F.LOCK_LIMITS.A_SCALE, F.LOCK_LIMITS.J_SCALE, F.SLEW_BUDGET.LIMIT 0, F.SLEW_BUDGET.HEAD 0,
      F.SLEW_BUDGET.LIMIT 1, F.SLEW_BUDGET.HEAD 1], ∀ x ∈ readFields, x.off ≠ g.off := by decide
    exact fun x hx => .inl (hap f hf x hx))⟩

theorem State.Unsettled.samePlant {s t : State} {id : Nat} (h : s.Unsettled t id) : s.SamePlant t := by
  have hf := h.frame
  refine ⟨(congrArg State.steer hf :), (congrArg State.pair hf :), fun i => ?_, fun f hf => h.kept f ?_⟩
  · have hm : t.map = s.map := (congrArg State.map hf :)
    exact State.mapEntry_congr (by rw [State.mapWork, State.mapWork, hm]) (by rw [hm])
  · have hlow : ∀ g ∈ [F.LOCK_LIMITS.V_SCALE, F.LOCK_LIMITS.A_SCALE, F.LOCK_LIMITS.J_SCALE, F.SLEW_BUDGET.LIMIT 0, F.SLEW_BUDGET.HEAD 0,
      F.SLEW_BUDGET.LIMIT 1, F.SLEW_BUDGET.HEAD 1], g.off < 0x700000 := by decide
    exact hlow f hf

/-! ## Trajectory buffers (R73) -/

theorem State.putBufs_frame (s : State) (l : List TrajBuf) : s.putBufs l =
    { s with lock := { s.lock with bufs := l.foldl (fun m b => spSet [] m b.axis [b]) s.lock.bufs }, pair := (s.putBufs l).pair
             out := (s.putBufs l).out, counters := (s.putBufs l).counters } := by
  induction l generalizing s with
  | nil => rfl
  | cons b l ih =>
    have hstep : ∀ u : State, u.sendJournal (.traj b) =
        { u with pair := (u.sendJournal (.traj b)).pair, out := (u.sendJournal (.traj b)).out, counters := (u.sendJournal (.traj b)).counters } := fun u => by
      unfold State.sendJournal; split <;> rfl
    have h1 := hstep { s with lock := { s.lock with bufs := spSet [] s.lock.bufs b.axis [b] } }
    have hdef : s.putBufs (b :: l) = (({ s with lock := { s.lock with bufs := spSet [] s.lock.bufs b.axis [b] } }).sendJournal (.traj b)).putBufs l := rfl
    rw [hdef]
    generalize ({ s with lock := { s.lock with bufs := spSet [] s.lock.bufs b.axis [b] } }).sendJournal (.traj b) = u at h1 ⊢
    have h2 := ih u
    generalize u.putBufs l = v at h2 ⊢
    rw [h2, h1]
    rfl

theorem bufs_foldl_wf (l : List TrajBuf) {m : Sparse (List TrajBuf)} (w : spWf [] 0 m = true) :
    spWf [] 0 (l.foldl (fun m b => spSet [] m b.axis [b]) m) = true :=
  List.foldlRecOn (motive := fun m => spWf [] 0 m = true) l _ w fun m hm b _ => spSet_wf [] m b.axis [b] 0 (Nat.zero_le _) hm

/-- A buffer is kept for every axis named, and no other is touched. -/
theorem bufs_foldl_get {l : List TrajBuf} (hn : (l.map (fun b => b.axis)).Nodup) {m : Sparse (List TrajBuf)} (w : spWf [] 0 m = true) :
    (∀ b ∈ l, spGet [] (l.foldl (fun m b => spSet [] m b.axis [b]) m) b.axis = [b]) ∧
    ∀ a, (∀ b ∈ l, b.axis ≠ a) → spGet [] (l.foldl (fun m b => spSet [] m b.axis [b]) m) a = spGet [] m a := by
  induction l generalizing m with
  | nil => simp
  | cons c l ih =>
    rw [List.map_cons, List.nodup_cons] at hn
    obtain ⟨hin, hout⟩ := ih hn.2 (spSet_wf [] m c.axis [c] 0 (Nat.zero_le _) w)
    rw [List.foldl_cons]
    refine ⟨fun b hb => ?_, fun a ha => ?_⟩
    · rcases List.mem_cons.mp hb with rfl | hb
      · rw [hout _ fun d hd he => hn.1 (List.mem_map.mpr ⟨d, hd, he⟩), spGet_spSet_self [] m _ _ 0 w]
      · exact hin b hb
    · rw [hout a fun d hd => ha d (List.mem_cons_of_mem _ hd)]
      exact spGet_spSet_ne [] m c.axis a [c] (fun he => ha c List.mem_cons_self he.symm)

theorem State.bufsWf_of_allWf {s : State} (h : s.allWf = true) : spWf [] 0 s.lock.bufs = true := by
  simp only [State.allWf, State.controlWf, Bool.and_eq_true] at h
  tauto

/-! ## The waiting cycle changed -/

/-- A change that keeps the ID of a cycle, found again. -/
theorem State.cycle_modCycle {s : State} {id : Nat} {c : Cycle} (h : s.cycle id = some c) {f : Cycle → Cycle} (hf : ∀ d, (f d).id = d.id) :
    (s.modCycle id f).cycle id = some (f c) := (find?_modCycle s.lock.cycles id hf).trans (congrArg (Option.map f) h)

theorem State.cycle_congr {s t : State} (h : t.lock.cycles = s.lock.cycles) (id : Nat) : t.cycle id = s.cycle id := by
  rw [State.cycle, State.cycle, h]

theorem State.cycle_id {s : State} {id : Nat} {c : Cycle} (h : s.cycle id = some c) : c.id = id := by simpa using List.find?_some h

/-- A cycle that loses paths. -/
def Cycle.losing (bad : List (Nat × Nat)) (c : Cycle) : Cycle :=
  { c with paths := c.paths.filter (fun p => !bad.contains (p.a, p.b)), released := c.released ++ pairMirrors bad, lost := c.lost ++ bad }

/-- What the release of the paths whose entries have failed leaves of the rest of the machine. -/
theorem State.releaseUnusable_spec {s : State} (w : wordsWf 0 s.regs = true) (wM : spWf 0 0 s.map.work = true) {id : Nat} {c : Cycle}
    (h : s.cycle id = some c) :
    let t := s.releaseUnusable c
    t.steer = s.steer ∧ t.mem = s.mem ∧ t.tows = s.tows ∧ t.lock.paths = s.lock.paths ∧ ∃ d, t.cycle id = some d ∧ d.armed = c.armed := by
  have hr := State.readPairs_reads w wM c.pairs
  have hid := State.cycle_id h
  unfold State.releaseUnusable
  dsimp only
  generalize s.readPairs c.pairs = u at hr ⊢
  have hlock : u.lock = s.lock := (hr.leaves.get State.lock :)
  have hu : u.cycle id = some c := (State.cycle_congr (by rw [hlock]) id).trans h
  split
  · exact ⟨hr.steer, (hr.leaves.get State.mem :), (hr.leaves.get State.tows :), by rw [hlock], c, hu, rfl⟩
  · refine ⟨hr.steer, (hr.leaves.get State.mem :), (hr.leaves.get State.tows :), (congrArg Lock.paths hlock :),
      c.losing (c.pairs.filter (fun p => !u.pairUsable p.1 p.2)), ?_, rfl⟩
    rw [hid]
    exact State.cycle_modCycle hu (f := Cycle.losing (c.pairs.filter (fun p => !u.pairUsable p.1 p.2))) fun _ => rfl

/-- Where every entry is usable, none is released. -/
theorem State.releaseUnusable_usable {s : State} (w : wordsWf 0 s.regs = true) (wM : spWf 0 0 s.map.work = true) {c : Cycle}
    (h : ∀ p ∈ c.pairs, s.pairUsable p.1 p.2 = true) : s.releaseUnusable c = s.readPairs c.pairs := by
  have hr := State.readPairs_reads w wM c.pairs
  have hbad : c.pairs.filter (fun p => !(s.readPairs c.pairs).pairUsable p.1 p.2) = [] := by
    rw [List.filter_eq_nil_iff]
    intro p hp
    rw [hr.pairUsable, h p hp]
    simp
  unfold State.releaseUnusable
  dsimp only
  rw [if_pos hbad]

/-- The buffers of a computed trajectory written into the cycle. -/
def Cycle.computedWith (mine : List TrajBuf) (scaled : Option Nat) (c : Cycle) : Cycle :=
  { c with computed := true, twoWaves := mine.any (fun b => b.wave2), wave2Tick := firstOf2 mine
           limited := c.limited || scaled.isSome
           planEnd := mine.foldl (fun n b => max n (b.start + b.samples.length)) 0 - scaled.getD 0 }

/-- The bins in force taken by a cycle. -/
def Cycle.withBins (b : Nat × Nat) (c : Cycle) : Cycle := { c with bins := some b }

theorem State.takeBins_eq (s : State) (id : Nat) : s.takeBins id = s.modCycle id (Cycle.withBins (s.bin 0, s.bin 1)) := rfl

theorem exec_buffersWritten {s : State} {id : Nat} {c : Cycle} (hc : s.cycle id = some c) (ho : c.opened = none) (hf : c.fallback = false)
    (hs : s.settleRunning id = true) (bufs : List TrajBuf) (ok : Bool) (scaled : Option Nat) {u : State} {d : Cycle}
    (hu : ((s.dropSettle id).releaseUnusable c).takeBins id = u) (hd : u.cycle id = some d) :
    exec (.trajectoryBuffersWritten id bufs ok scaled) s = .next (if !ok then s.dropSettle id
      else if !towWaves (u.headPlan 0) (u.headPlan 1) (u.waveItems d) (bufs.filter (fun b => d.axes.contains b.axis)) scaled.isSome then u
      else (u.putBufs (bufs.filter (fun b => d.axes.contains b.axis))).modCycle id
        (Cycle.computedWith (bufs.filter (fun b => d.axes.contains b.axis)) scaled)) := by
  show Host.Outcome.next (buffersWritten id bufs ok scaled s) = _
  rw [buffersWritten, hc]
  dsimp only
  rw [if_neg (by simp [ho, hf, hs]), hu, hd]
  rfl

section
variable {s : State} (hwf : s.allWf = true) {id : Nat} {c : Cycle} (hc : s.cycle id = some c) (ho : c.opened = none)
include hwf hc ho

theorem buffersWritten_error (bufs : List TrajBuf) (scaled : Option Nat) (hf : c.fallback = false) (hs : s.settleRunning id = true) :
    ∃ t, exec (.trajectoryBuffersWritten id bufs false scaled) s = .next t ∧ t.lock = s.lock ∧ (∀ w ∈ t.tows.tows, w.settle ≠ some id) ∧
      t.steer = s.steer ∧ t.mem = s.mem ∧ t.map = s.map := by
  have h := State.dropSettle_unsettled (State.regsWf_of_allWf hwf) id
  refine ⟨s.dropSettle id, ?_, ?_⟩
  · show Host.Outcome.next (buffersWritten id bufs false scaled s) = _
    rw [buffersWritten, hc]
    dsimp only
    rw [if_neg (by simp [ho, hf, hs])]
    rfl
  · generalize s.dropSettle id = u at h ⊢
    have hfr := h.frame
    exact ⟨(congrArg State.lock hfr :), h.gone, (congrArg State.steer hfr :), (congrArg State.mem hfr :), (congrArg State.map hfr :)⟩

theorem buffersWritten_computed (bufs : List TrajBuf) (scaled : Option Nat) (hf : c.fallback = false) (hs : s.settleRunning id = true)
    (huse : ∀ p ∈ c.pairs, s.pairUsable p.1 p.2 = true) (hn : (bufs.map (fun b => b.axis)).Nodup)
    (hw : towWaves (s.headPlan 0) (s.headPlan 1) (s.waveItems { c with bins := some (s.bin 0, s.bin 1) })
      (bufs.filter (fun b => c.axes.contains b.axis)) scaled.isSome = true) :
    ∃ t d, exec (.trajectoryBuffersWritten id bufs true scaled) s = .next t ∧ t.cycle id = some d ∧ d.computed = true ∧
      d.pairs = c.pairs ∧ d.bins = some (s.bin 0, s.bin 1) ∧ d.limited = (c.limited || scaled.isSome) ∧
      (∀ b ∈ bufs, b.axis ∈ c.axes → spGet [] t.lock.bufs b.axis = [b]) ∧
      (∀ a, (∀ b ∈ bufs, b.axis ≠ a) → spGet [] t.lock.bufs a = spGet [] s.lock.bufs a) ∧
      (∀ w ∈ t.tows.tows, w.settle ≠ some id) ∧ t.steer = s.steer ∧ t.mem = s.mem ∧ t.lock.paths = s.lock.paths := by
  have hun := State.dropSettle_unsettled (State.regsWf_of_allWf hwf) id
  have hexec := fun d hd => exec_buffersWritten (d := d) hc ho hf hs bufs true scaled rfl hd
  generalize s.dropSettle id = u at hun hexec
  have hfr := hun.frame
  have hmap : u.map = s.map := (congrArg State.map hfr :)
  have wM : spWf 0 0 u.map.work = true := by rw [hmap]; exact State.mapWf_of_allWf hwf
  have hplant := hun.samePlant
  have hbin : ∀ k, u.bin k = s.bin k := fun k => by
    rw [State.bin, State.bin, hun.kept F.LOCK_STATUS.BIN_A (by decide), hun.kept F.LOCK_STATUS.BIN_B (by decide)]
  have husable : ∀ p ∈ c.pairs, u.pairUsable p.1 p.2 = true := fun p hp => by
    have := huse p hp
    simpa only [State.pairUsable, State.mapUsable_eq, State.pairIndex, hplant.entry, hbin] using this
  rw [State.releaseUnusable_usable hun.form wM husable] at hexec
  have hr := State.readPairs_reads hun.form wM c.pairs
  generalize u.readPairs c.pairs = v at hr hexec
  have hlock : v.lock = s.lock := (hr.leaves.get State.lock :).trans (congrArg State.lock hfr :)
  have htows : v.tows = u.tows := (hr.leaves.get State.tows :)
  have hmem : v.mem = s.mem := (hr.leaves.get State.mem :).trans (congrArg State.mem hfr :)
  have hsteer : v.steer = s.steer := hr.steer.trans (congrArg State.steer hfr :)
  have hall := hplant.trans hr.samePlant
  have hvbin : ∀ k, v.bin k = s.bin k := fun k => (hr.bin k).trans (hbin k)
  have hvc : v.cycle id = some c := (State.cycle_congr (by rw [hlock]) id).trans hc
  have hd := State.cycle_modCycle hvc (f := Cycle.withBins (s.bin 0, s.bin 1)) fun _ => rfl
  rw [State.takeBins_eq, hvbin, hvbin] at hexec
  replace hexec := hexec _ hd
  have hitems : (v.modCycle id (Cycle.withBins (s.bin 0, s.bin 1))).waveItems (c.withBins (s.bin 0, s.bin 1)) =
      s.waveItems (c.withBins (s.bin 0, s.bin 1)) := (State.SamePlant.waveItems (hall.trans ⟨rfl, rfl, fun _ => rfl, fun _ _ => rfl⟩) rfl)
  have hplan : (v.modCycle id (Cycle.withBins (s.bin 0, s.bin 1))).headPlan 0 = s.headPlan 0 ∧
      (v.modCycle id (Cycle.withBins (s.bin 0, s.bin 1))).headPlan 1 = s.headPlan 1 :=
    State.SamePlant.headPlan (hall.trans ⟨rfl, rfl, fun _ => rfl, fun _ _ => rfl⟩)
  have hrest : (v.modCycle id (Cycle.withBins (s.bin 0, s.bin 1))).lock.bufs = s.lock.bufs ∧
      (v.modCycle id (Cycle.withBins (s.bin 0, s.bin 1))).lock.paths = s.lock.paths ∧
      (v.modCycle id (Cycle.withBins (s.bin 0, s.bin 1))).tows = u.tows ∧ (v.modCycle id (Cycle.withBins (s.bin 0, s.bin 1))).steer = s.steer ∧
      (v.modCycle id (Cycle.withBins (s.bin 0, s.bin 1))).mem = s.mem := ⟨(congrArg Lock.bufs hlock :), (congrArg Lock.paths hlock :), htows, hsteer, hmem⟩
  generalize v.modCycle id (Cycle.withBins (s.bin 0, s.bin 1)) = x at hexec hd hitems hplan hrest
  obtain ⟨xbufs, xpaths, xtows, xsteer, xmem⟩ := hrest
  rw [hitems, hplan.1, hplan.2, if_neg (by decide), if_neg (by rw [show (c.withBins (s.bin 0, s.bin 1)).axes = c.axes from rfl]; rw [Cycle.withBins, hw]; decide)] at hexec
  rw [show (c.withBins (s.bin 0, s.bin 1)).axes = c.axes from rfl] at hexec
  have hmine : ∀ b, b ∈ bufs.filter (fun b => c.axes.contains b.axis) ↔ b ∈ bufs ∧ b.axis ∈ c.axes := by simp
  have hnodup : ((bufs.filter (fun b => c.axes.contains b.axis)).map (fun b => b.axis)).Nodup := hn.sublist (List.filter_sublist.map _)
  generalize bufs.filter (fun b => c.axes.contains b.axis) = mine at hexec hmine hnodup
  have hput := State.putBufs_frame x mine
  have hget := bufs_foldl_get hnodup (m := x.lock.bufs) (by rw [xbufs]; exact State.bufsWf_of_allWf hwf)
  generalize x.putBufs mine = y at hput hexec
  have hyl : y.lock = { x.lock with bufs := mine.foldl (fun m b => spSet [] m b.axis [b]) x.lock.bufs } := (congrArg State.lock hput :)
  have hyc : y.cycle id = some (c.withBins (s.bin 0, s.bin 1)) := (State.cycle_congr (by rw [hyl]) id).trans hd
  have hybufs : y.lock.bufs = mine.foldl (fun m b => spSet [] m b.axis [b]) x.lock.bufs := by rw [hyl]
  refine ⟨_, _, hexec, State.cycle_modCycle hyc fun _ => rfl, rfl, rfl, rfl, rfl, fun b hb ha => ?_, fun a ha => ?_, fun w hw => ?_, ?_, ?_, ?_⟩
  · exact (congrArg (fun m => spGet [] m b.axis) hybufs).trans (hget.1 b ((hmine b).mpr ⟨hb, ha⟩))
  · exact (congrArg (fun m => spGet [] m a) hybufs).trans ((hget.2 a fun b hb => ha b ((hmine b).mp hb).1).trans (by rw [xbufs]))
  · have : y.tows = u.tows := (congrArg State.tows hput :).trans xtows
    exact hun.gone w (by rw [← this]; exact hw)
  · exact (congrArg State.steer hput :).trans xsteer
  · exact (congrArg State.mem hput :).trans xmem
  · exact (congrArg Lock.paths hyl).trans xpaths

end

/-! ## The fallback profile (R74) -/

/-- A cycle under the fallback profile. -/
def Cycle.fallen (f : FallbackPlan) (c : Cycle) : Cycle :=
  { c with computed := true, fallback := true, twoWaves := f.two, wave2Tick := f.start2, limited := c.limited || f.limited
           waves := f.waves, planEnd := f.planEnd }

theorem State.useFallback_eq (s : State) (c : Cycle) {u : State} (hu : (s.dropSettle c.id).releaseUnusable c = u) {d : Cycle}
    (hd : (u.takeBins c.id).cycle c.id = some d) : ∃ f : FallbackPlan,
      s.useFallback c = (((u.takeBins c.id).putBufs f.bufs).modCycle d.id (Cycle.fallen f)).count 2 6 1 := by
  unfold State.useFallback
  rw [hu]
  dsimp only
  rw [hd]
  exact ⟨_, rfl⟩

theorem towDeadline_spec {s : State} (hwf : s.allWf = true) {id : Nat} {c : Cycle} (hc : s.cycle id = some c) (ho : c.opened = none)
    (hin : s.within 110000 c.tOpen = true) (harm : c.armed = false) (hf : c.fallback = false) (hcomp : c.computed = false) :
    ∃ t d, exec (.towDeadline id) s = .next t ∧ t.cycle id = some d ∧ d.computed = true ∧ d.fallback = true ∧ d.armed = false ∧
      (∀ w ∈ t.tows.tows, w.settle ≠ some id) ∧ t.steer = s.steer ∧ t.mem = s.mem ∧ t.lock.paths = s.lock.paths := by
  have hid := State.cycle_id hc
  have hun := State.dropSettle_unsettled (State.regsWf_of_allWf hwf) c.id
  have heq := fun u hu d hd => State.useFallback_eq s c (u := u) hu (d := d) hd
  have hexec : exec (.towDeadline id) s = .next (s.useFallback c) := by
    show Host.Outcome.next (towDeadline id s) = _
    rw [towDeadline, hc]
    dsimp only
    rw [if_pos (by simp [ho, hin, harm, hf, hcomp])]
  generalize s.dropSettle c.id = u at hun heq
  have hfr := hun.frame
  have hmap : u.map = s.map := (congrArg State.map hfr :)
  have wM : spWf 0 0 u.map.work = true := by rw [hmap]; exact State.mapWf_of_allWf hwf
  have hlock : u.lock = s.lock := (congrArg State.lock hfr :)
  have huc : u.cycle id = some c := (State.cycle_congr (by rw [hlock]) id).trans hc
  obtain ⟨rsteer, rmem, rtows, rpaths, d, hd, hdarm⟩ := State.releaseUnusable_spec hun.form wM huc
  generalize u.releaseUnusable c = v at heq rsteer rmem rtows rpaths hd
  have hbins := State.cycle_modCycle hd (f := Cycle.withBins (v.bin 0, v.bin 1)) fun _ => rfl
  obtain ⟨f, hfall⟩ := heq v rfl _ (by rw [hid]; exact hbins)
  have hkeep : (v.takeBins c.id).steer = v.steer ∧ (v.takeBins c.id).mem = v.mem ∧ (v.takeBins c.id).tows = v.tows ∧
      (v.takeBins c.id).lock.paths = v.lock.paths := ⟨rfl, rfl, rfl, rfl⟩
  rw [← hid] at hbins
  rw [← State.takeBins_eq] at hbins
  generalize v.takeBins c.id = x at hfall hkeep hbins
  obtain ⟨ksteer, kmem, ktows, kpaths⟩ := hkeep
  have hput := State.putBufs_frame x f.bufs
  generalize x.putBufs f.bufs = y at hput hfall
  have hyl : y.lock = { x.lock with bufs := f.bufs.foldl (fun m b => spSet [] m b.axis [b]) x.lock.bufs } := (congrArg State.lock hput :)
  have hyc : y.cycle id = some (d.withBins (v.bin 0, v.bin 1)) := (State.cycle_congr (s := x) (by rw [hyl]) id).trans (by rw [hid] at hbins; exact hbins)
  have hdid : (d.withBins (v.bin 0, v.bin 1)).id = id := (State.cycle_id hd :)
  rw [hdid] at hfall
  refine ⟨_, (d.withBins (v.bin 0, v.bin 1)).fallen f, hexec.trans (congrArg _ hfall), ?_, rfl, rfl, ?_, ?_, ?_, ?_, ?_⟩
  · exact State.cycle_modCycle hyc (f := Cycle.fallen f) fun _ => rfl
  · exact hdarm.trans harm
  · intro w hw
    have : y.tows = u.tows := (congrArg State.tows hput :).trans (ktows.trans rtows)
    rw [← hid]
    exact hun.gone w (by rw [← this]; exact hw)
  · exact (congrArg State.steer hput :).trans (ksteer.trans (rsteer.trans (congrArg State.steer hfr :)))
  · exact (congrArg State.mem hput :).trans (kmem.trans (rmem.trans (congrArg State.mem hfr :)))
  · exact (congrArg Lock.paths hyl).trans (kpaths.trans (rpaths.trans (congrArg Lock.paths hlock)))

/-! ## A cycle aborted while it waits (R83, R88, R94) -/

/-- The records of an abort before OPEN. -/
def State.abortRecords (s : State) (c : Cycle) (reason : Nat) (n : Notice) : State :=
  ((((s.releasePlan c.planId).lockLast 3 reason 0 0 0).lockEvent c 3 reason 0 0 0).sendNotice n).count 2 4

theorem State.abortRecords_spec {s : State} (w : wordsWf 0 s.regs = true) (c : Cycle) {reason : Nat} (hr : reason < 256) (n : Notice) :
    let t := s.abortRecords c reason n
    t.steer = s.steer ∧ t.mem = s.mem ∧ t.lock.cycles = s.lock.cycles ∧ t.lock.paths = s.lock.paths ∧ wordsWf 0 t.regs = true ∧
      t.fget F.LOCK_LAST.OUTCOME = 3 ∧ t.fget F.LOCK_LAST.REASON = reason := by
  have h0 := (State.Records.refl w).releasePlan c.planId
  unfold State.abortRecords
  generalize s.releasePlan c.planId = u at h0 ⊢
  obtain ⟨hw, hout, hreason⟩ := State.lockLast_spec h0.form (by decide : 3 < 8) hr 0 0 0
  have hkeep : (u.lockLast 3 reason 0 0 0).steer = u.steer ∧ (u.lockLast 3 reason 0 0 0).mem = u.mem ∧
      (u.lockLast 3 reason 0 0 0).lock = u.lock := ⟨rfl, rfl, rfl⟩
  have hform := hw.form
  clear hw
  generalize u.lockLast 3 reason 0 0 0 = v at hform hout hreason hkeep ⊢
  obtain ⟨ksteer, kmem, klock⟩ := hkeep
  have ht : v.Records (((v.lockEvent c 3 reason 0 0 0).sendNotice n).count 2 4) := (((State.Records.refl hform).event ..).sendNotice n).count ..
  generalize ((v.lockEvent c 3 reason 0 0 0).sendNotice n).count 2 4 = t at ht ⊢
  exact ⟨ht.steer.trans (ksteer.trans h0.steer), ht.mem.trans (kmem.trans h0.mem), ht.cycles.trans (by rw [klock, h0.cycles]),
    ht.paths.trans (by rw [klock, h0.paths]), ht.form, (ht.shown _ (by simp [outcomeFields])).trans hout,
    (ht.shown _ (by simp [outcomeFields])).trans hreason⟩

/-- What an abort before OPEN shows and leaves. -/
theorem State.abortPending_spec {s : State} (w : wordsWf 0 s.regs = true) {c : Cycle} (hb : c.berth = false) {reason : Nat} (hr : reason < 256) :
    let t := s.abortPending c reason
    t.lock.cycles = s.lock.cycles.filter (fun d => d.id ≠ c.id) ∧ t.fget F.LOCK_LAST.OUTCOME = 3 ∧ t.fget F.LOCK_LAST.REASON = reason ∧
      t.steer = s.steer ∧ t.mem = s.mem ∧ t.lock.paths = s.lock.paths := by
  have hun := State.dropSettle_unsettled (s := s.dropCycle c.id) w c.id
  unfold State.abortPending
  extract_lets n u v x t
  have hdrop : u = ((s.dropCycle c.id).dropSettle c.id).dropBufs c.axes := rfl
  clear_value u n
  generalize (s.dropCycle c.id).dropSettle c.id = y at hun hdrop
  have hfr := hun.frame
  have hlock : y.lock = (s.dropCycle c.id).lock := (congrArg State.lock hfr :)
  have hu : u.lock.cycles = s.lock.cycles.filter (fun d => d.id ≠ c.id) ∧ u.lock.paths = s.lock.paths ∧ u.steer = s.steer ∧ u.mem = s.mem ∧
      wordsWf 0 u.regs = true := by
    rw [hdrop]
    exact ⟨(congrArg Lock.cycles hlock :), (congrArg Lock.paths hlock :), (congrArg State.steer hfr :), (congrArg State.mem hfr :), hun.form⟩
  obtain ⟨ucycles, upaths, usteer, umem, uform⟩ := hu
  have hv : u.Records v := (State.Records.refl uform).sendJournal _
  clear_value v
  obtain ⟨asteer, amem, acycles, apaths, aform, aout, areason⟩ := State.abortRecords_spec hv.form c hr n
  have hx : x = v.abortRecords c reason n := by
    show (if c.berth = true then v else v.abortRecords c reason n) = _
    rw [hb]; rfl
  clear_value x
  rw [← hx] at asteer amem acycles apaths aform aout areason
  have ht : x.Records t := ((State.Records.refl aform).writeStanding).after rfl rfl rfl rfl rfl
  clear_value t
  exact ⟨ht.cycles.trans (acycles.trans (hv.cycles.trans ucycles)), (ht.shown _ (by simp [outcomeFields])).trans aout,
    (ht.shown _ (by simp [outcomeFields])).trans areason, ht.steer.trans (asteer.trans (hv.steer.trans usteer)),
    ht.mem.trans (amem.trans (hv.mem.trans umem)), ht.paths.trans (apaths.trans (hv.paths.trans upaths))⟩

theorem jointRecheck_spec {s : State} (hwf : s.allWf = true) {id : Nat} {c : Cycle} (hc : s.cycle id = some c) (ho : c.opened = none)
    (hj : c.joint = true) (hb : c.berth = false) (hin : s.within 100000 c.tOpen = true) (ht : s.jointTime = false) :
    ∃ t, exec (.jointRecheck id) s = .next t ∧ t.lock.cycles = s.lock.cycles.filter (fun d => d.id ≠ id) ∧
      t.fget F.LOCK_LAST.OUTCOME = 3 ∧ t.fget F.LOCK_LAST.REASON = 0x22 ∧ t.steer = s.steer ∧ t.mem = s.mem ∧
      t.lock.paths = s.lock.paths := by
  have h := State.abortPending_spec (State.regsWf_of_allWf hwf) hb (by decide : 0x22 < 256)
  rw [State.cycle_id hc] at h
  refine ⟨_, ?_, h⟩
  show Host.Outcome.next (jointRecheck id s) = _
  rw [jointRecheck, hc]
  dsimp only
  rw [if_pos (by simp [hj, ho, hin, ht])]

theorem gangArm_spec {s : State} {id : Nat} {c : Cycle} (hc : s.cycle id = some c) (ho : c.opened = none) (hin : s.within 50000 c.tOpen = true)
    (hcomp : c.computed = true) : ∃ t, exec (.gangArm id) s = .next t ∧ t.cycle id = some { c with armed := true } ∧
      (∀ d ∈ s.lock.cycles, d.id ≠ id → d ∈ t.lock.cycles) ∧ t = { s with lock := { s.lock with cycles := t.lock.cycles } } := by
  refine ⟨s.modCycle id (fun c => { c with armed := true }), ?_, State.cycle_modCycle hc fun _ => rfl, fun d hd hne => ?_, rfl⟩
  · show Host.Outcome.next (gangArm id s) = _
    rw [gangArm, hc]
    dsimp only
    rw [if_pos (by simp [ho, hin, hcomp])]
  · exact List.mem_map.mpr ⟨d, hd, if_neg hne⟩

end Sys2Proof.Machine
end

section
/-!
PROOFS. A lock cycle opens (R65, R83, R94, R99, R247): the berth circuits released and the proofs cut, the axes taken, the cycle opened, and
the statement.
-/

namespace Sys2Proof.Machine

/-! ## Berth circuits and proofs ended (R99, R247) -/

/-- What the steps at an opening keep, up to the axes taken and but for the cycle itself. -/
structure State.Clears (s t : State) : Prop where
  form : wordsWf 0 t.regs = true
  cycles : t.lock.cycles = s.lock.cycles
  paths : t.lock.paths = s.lock.paths
  steer : t.steer = s.steer
  mem : t.mem = s.mem
  tows : t.tows = s.tows
  time : t.time = s.time

theorem State.Clears.trans {s t u : State} (h : s.Clears t) (k : t.Clears u) : s.Clears u :=
  ⟨k.form, k.cycles.trans h.cycles, k.paths.trans h.paths, k.steer.trans h.steer, k.mem.trans h.mem, k.tows.trans h.tows, k.time.trans h.time⟩

theorem State.setBusy_clears {s : State} (w : wordsWf 0 s.regs = true) (ns : List Nat) (v : Nat) : s.Clears (s.setBusy ns v) := by
  have h := State.setBusy_writes w ns v
  generalize s.setBusy ns v = t at h ⊢
  have hf := h.frame
  exact ⟨h.form, (congrArg (fun x => x.lock.cycles) hf :), (congrArg (fun x => x.lock.paths) hf :), (congrArg State.steer hf :),
    (congrArg State.mem hf :), (congrArg State.tows hf :), (congrArg State.time hf :)⟩

theorem State.freeProof_clears {s : State} (w : wordsWf 0 s.regs = true) (q : ProofRun) : s.Clears (s.freeProof q) := by
  have h := State.setBusy_clears w (s.proofPorts q) 0
  have hdef : s.freeProof q = { s.setBusy (s.proofPorts q) 0 with lock := { (s.setBusy (s.proofPorts q) 0).lock with
    proofs := (s.setBusy (s.proofPorts q) 0).lock.proofs.filter (fun p => decide (p ≠ q)) } } := rfl
  rw [hdef]
  generalize s.setBusy (s.proofPorts q) 0 = u at h ⊢
  exact h.trans ⟨h.form, rfl, rfl, rfl, rfl, rfl, rfl⟩

theorem State.proofEvent_clears {s : State} (w : wordsWf 0 s.regs = true) (id a b result errored bits : Nat) :
    s.Clears (s.proofEvent id a b result errored bits) :=
  ⟨by simpa [State.proofEvent] using w, by simp [State.proofEvent], by simp [State.proofEvent], by simp [State.proofEvent],
    by simp [State.proofEvent], by simp [State.proofEvent], by simp [State.proofEvent]⟩

theorem State.cutProofs_clears {s : State} (w : wordsWf 0 s.regs = true) (ms : List Nat) : s.Clears (s.cutProofs ms) :=
  List.foldlRecOn (motive := fun u => s.Clears u) _ _ ⟨w, rfl, rfl, rfl, rfl, rfl, rfl⟩ fun u hu q _ => by
    have hfree := State.freeProof_clears (s := (u.draw (u.proofBits q + 1)).2) hu.form q
    exact hu.trans ((State.Clears.trans (s := u) ⟨hfree.form, hfree.cycles, hfree.paths, hfree.steer, hfree.mem, hfree.tows, hfree.time⟩
      (State.proofEvent_clears hfree.form ..)))

theorem State.cycleRead_clears {s : State} (w : wordsWf 0 s.regs = true) (c : Cycle) (l : List (Nat × Nat)) : s.Clears (s.cycleRead c l) := by
  have h := State.cycleRead_leaves w c l
  have hs := State.cycleRead_steer s c l
  generalize s.cycleRead c l = t at h hs ⊢
  have hl : t.lock = s.lock := (h.get State.lock :)
  exact ⟨h.form, by rw [hl], by rw [hl], hs, (h.get State.mem :), (h.get State.tows :), (h.get State.time :)⟩

/-- A cycle with more mirrors released. -/
def Cycle.releasing (more : List Nat) (c : Cycle) : Cycle := { c with released := c.released ++ more }

/-- The release of berth circuits changes ports, and adds mirrors to those the cycle releases. -/
theorem State.releaseBerths_eq (s : State) (c : Cycle) : ∃ more f, s.releaseBerths c = ({ s with fabric := f }).modCycle c.id (Cycle.releasing more) := by
  unfold State.releaseBerths
  extract_lets ms more u
  have hu : u = { s with fabric := u.fabric } :=
    List.foldlRecOn (motive := fun u : State => u = { s with fabric := u.fabric }) _ _ rfl fun v hv b _ => by
      split
      · rw [hv]; rfl
      · exact hv
  exact ⟨more, { u.fabric with berths := [] }, by rw [hu]; rfl⟩

/-! ## The axes taken (R42, R65) -/

/-- An axis that joins its loop again. -/
def Axis.rejoining (x : Axis) : Axis := { x with rejoin := true, loss := 0, lowRun := 0, highRun := 0, downRun := 0, zeroRun := 0 }

theorem Axis.rejoining_target (x : Axis) : x.rejoining.target = x.target := rfl

theorem Axis.setMode_target (x : Axis) (v : Nat) : (x.setMode v).target = x.target := x.fset_target _ v

theorem Axis.setSt_target (x : Axis) (v : Nat) : (x.setSt v).target = x.target := x.fset_target _ v

theorem leaveLoss_eq (x : Axis) : leaveLoss x = ((x.setSt (if x.src = 1 then 1 else 0)).setMode 3).rejoining := rfl

theorem leaveLoss_target (x : Axis) : (leaveLoss x).target = x.target := by
  rw [leaveLoss_eq, Axis.rejoining_target, Axis.setMode_target, Axis.setSt_target]

/-- A taken axis, from what it was. -/
def State.takenFrom (s : State) (a : Nat) (x : Axis) : Axis :=
  if x.st = 6 then s.parkStart a x else if x.held then leaveLoss (x.setSrc 1) else x

/-- What an axis becomes at the OPEN tick. -/
def State.openedAxis (s : State) (c : Cycle) (a : Nat) : Axis := s.lockAxis c a { (s.takenFrom a (s.axisNow a)).setSt 1 with traj := 0 }

theorem State.openAxis_eq (s : State) (c : Cycle) (a : Nat) : s.openAxis c a = s.modNow a (fun _ => s.openedAxis c a) := rfl

theorem State.lockAxis_flags (s : State) (c : Cycle) (a : Nat) (x : Axis) : (s.lockAxis c a x).flags = (x.setSrc 1).flags := by
  unfold State.lockAxis
  generalize x.setSrc 1 = y
  rfl

theorem State.lockAxis_target (s : State) (c : Cycle) (a : Nat) (x : Axis) : (s.lockAxis c a x).target = x.target := by
  rw [← x.setSrc_target 1, State.lockAxis]

theorem State.openedAxis_flags (s : State) (c : Cycle) (a : Nat) :
    (s.openedAxis c a).flags = (({ (s.takenFrom a (s.axisNow a)).setSt 1 with traj := 0 } : Axis).setSrc 1).flags := State.lockAxis_flags ..

theorem Axis.traj_st (x : Axis) (n : Nat) : ({ x with traj := n } : Axis).st = x.st := Axis.fget_of_flags (x := x) (y := { x with traj := n }) rfl _

theorem Axis.setSt_traj_st (x : Axis) (v n : Nat) (hv : v < 8) : ({ x.setSt v with traj := n } : Axis).st = v :=
  (Axis.traj_st (x.setSt v) n).trans ((Axis.st_setSt x v).trans (Nat.mod_eq_of_lt hv))

theorem Axis.setSt_traj_target (x : Axis) (v n : Nat) : ({ x.setSt v with traj := n } : Axis).target = x.target := by
  have h : (x.setSt v).target = x.target := x.fset_target _ v
  generalize x.setSt v = y at h ⊢
  exact h

theorem State.openedAxis_src (s : State) (c : Cycle) (a : Nat) : (s.openedAxis c a).src = 1 :=
  (Axis.fget_of_flags (s.openedAxis_flags c a) _).trans (Axis.src_setSrc _ 1)

theorem State.openedAxis_st (s : State) (c : Cycle) (a : Nat) : (s.openedAxis c a).st = 1 := by
  have h : (s.openedAxis c a).st = _ := Axis.fget_of_flags (s.openedAxis_flags c a) _
  rw [h, ← Axis.st, Axis.st_setSrc]
  exact Axis.setSt_traj_st _ 1 0 (by decide)

theorem State.openedAxis_target {s : State} {a : Nat} (h : (s.axisNow a).st ≠ 6) (c : Cycle) : (s.openedAxis c a).target = (s.axisNow a).target := by
  rw [State.openedAxis, State.lockAxis_target, Axis.setSt_traj_target, State.takenFrom, if_neg h]
  split
  · rw [leaveLoss_target, Axis.setSrc_target]
  · rfl

theorem State.openAxis_axesWf {s : State} (w : spWf {} 0 s.steer.axes = true) (c : Cycle) (a : Nat) : spWf {} 0 (s.openAxis c a).steer.axes = true :=
  State.modNow_axesWf w a _

/-- The axes of a cycle at the OPEN tick. -/
def State.openAxes (s : State) (c : Cycle) : State := c.axes.foldl (fun s a => s.openAxis c a) s

theorem State.openAxes_frame (s : State) (c : Cycle) :
    s.openAxes c = { s with steer := { s.steer with axes := (s.openAxes c).steer.axes, held := (s.openAxes c).steer.held } } :=
  State.foldl_modNow_frame (fun u a _ => u.openedAxis c a) s c.axes

theorem State.openAxes_locked {s : State} (w : spWf {} 0 s.steer.axes = true) (c : Cycle) {a : Nat} (ha : a ∈ c.axes) :
    ((s.openAxes c).axisNow a).src = 1 ∧ ((s.openAxes c).axisNow a).st = 1 :=
  (State.foldl_axes_set (fun x => x.src = 1 ∧ x.st = 1) (fun u wu k => ⟨State.openAxis_axesWf wu c k, fun _ hb =>
    State.modNow_sets (fun x => x.src = 1 ∧ x.st = 1) (fun x old => and_congr (src_sticky 1 x old) (st_sticky 1 x old))
      (fun _ => ⟨u.openedAxis_src c k, u.openedAxis_st c k⟩) wu k hb⟩) w c.axes).2 a (.inl ha)

/-- The target of an axis that was not PARKED does not change. -/
theorem State.openAxes_target {s : State} (w : spWf {} 0 s.steer.axes = true) (c : Cycle) {a : Nat} (h : (s.axisNow a).st ≠ 6) :
    ((s.openAxes c).axisNow a).target = (s.axisNow a).target := by
  refine ((State.foldl_axes_keep (fun x => x.st ≠ 6 ∧ x.target = (s.axisNow a).target) (fun u wu k _ => ⟨State.openAxis_axesWf wu c k, fun b hb => ?_⟩)
    w (l := c.axes)).2 a ⟨h, rfl⟩).2
  by_cases hk : b = k
  · subst hk
    rw [State.openAxis_eq, State.axisNow_modNow_set wu b _ Axis.st Axis.st_addSticky (fun _ => u.openedAxis_st c b),
      State.axisNow_modNow_set wu b _ Axis.target (fun _ _ => rfl) (fun _ => State.openedAxis_target hb.1 c)]
    exact ⟨by decide, hb.2⟩
  · rw [State.openAxis_eq, State.axisNow_modNow_ne u hk]; exact hb

/-! ## The cycle opened (R65) -/

/-- A cycle that opens. -/
def Cycle.opening (tick tb0 t3 : Nat) (lateFrom : Option Nat) (late : Bool) (c : Cycle) : Cycle :=
  { c with opened := some (tick, tb0), t3Open := t3, extended := c.extended || late, lateFrom := lateFrom
           paths := c.paths.map (fun p => { p with phase := .opening, entered := tick }) }

/-- The connections that a cycle breaks taken away. -/
def State.darken (s : State) (c : Cycle) : State :=
  { s with lock := { s.lock with paths := s.lock.paths.filter (fun q => !touches c.mirrors (q.a, q.b)) } }

/-- The records of an opening. -/
def State.openRecords (s : State) (id : Nat) (c : Cycle) (late : Bool) : State :=
  let s' := s.modCycle id (Cycle.opening s.steer.tick s.time.tb0.fine (s.t3Of c) (if late then some s.tickNs else none) late)
  s'.recordBoot.sendJournal (.opened id s'.steer.tick s.time.tb0.fine late)

theorem State.openCycle_eq {s : State} {id : Nat} {c0 c : Cycle} (h0 : s.cycle id = some c0) {u : State} (hu : s.releaseBerths c0 = u)
    (hc : u.cycle id = some c) (late : Bool) :
    s.openCycle id late = ((((u.cutProofs c.mirrors).cycleRead c c.pairs).darken c).openAxes c).openRecords id c late := by
  unfold State.openCycle
  rw [h0]
  dsimp only
  rw [hu, hc]
  rfl

theorem mem_axes_releasing {c : Cycle} (more : List Nat) {a : Nat} (h : a ∈ c.axes) : a ∈ (c.releasing more).axes := by
  obtain ⟨m, hm, ha⟩ := List.mem_flatMap.mp h
  refine List.mem_flatMap.mpr ⟨m, ?_, ha⟩
  simp only [Cycle.mirrors, Cycle.releasing, List.mem_append] at hm ⊢
  tauto

theorem touches_releasing {c : Cycle} {more : List Nat} {p : Nat × Nat} (h : touches (c.releasing more).mirrors p = false) :
    touches c.mirrors p = false := by
  simp only [touches, Bool.or_eq_false_iff, List.contains_eq_mem, decide_eq_false_iff_not, Cycle.mirrors, Cycle.releasing, List.mem_append] at h ⊢
  tauto

/-- What an opening leaves. -/
structure State.Opens (s t : State) (id : Nat) (c : Cycle) (late : Bool) (d : Cycle) : Prop where
  cycle : t.cycle id = some d
  opened : d.opened = some (s.steer.tick, s.time.tb0.fine)
  extended : d.extended = (c.extended || late)
  lateFrom : d.lateFrom = if late then some s.tickNs else none
  pairs : d.pairs = c.pairs
  phase : ∀ p ∈ d.paths, p.phase = .opening
  paths : ∀ q ∈ t.lock.paths, q ∈ s.lock.paths ∧ touches c.mirrors (q.a, q.b) = false
  locked : ∀ a ∈ c.axes, (t.axisNow a).src = 1 ∧ (t.axisNow a).st = 1
  target : ∀ a, (s.axisNow a).st ≠ 6 → (t.axisNow a).target = (s.axisNow a).target
  mem : t.mem = s.mem
  tows : t.tows = s.tows
  tick : t.steer.tick = s.steer.tick

theorem State.openCycle_opens {s : State} (hwf : s.allWf = true) {id : Nat} {c : Cycle} (hc : s.cycle id = some c) (late : Bool) :
    ∃ d, s.Opens (s.openCycle id late) id c late d := by
  have hid := State.cycle_id hc
  obtain ⟨more, f, hrel⟩ := State.releaseBerths_eq s c
  rw [hid] at hrel
  have h1 : (({ s with fabric := f } : State).modCycle id (Cycle.releasing more)).cycle id = some (c.releasing more) :=
    State.cycle_modCycle (s := { s with fabric := f }) hc fun _ => rfl
  have heq := State.openCycle_eq hc hrel h1 late
  have hb : s.steer = (({ s with fabric := f } : State).modCycle id (Cycle.releasing more)).steer ∧
      s.mem = (({ s with fabric := f } : State).modCycle id (Cycle.releasing more)).mem ∧
      s.tows = (({ s with fabric := f } : State).modCycle id (Cycle.releasing more)).tows ∧
      s.time = (({ s with fabric := f } : State).modCycle id (Cycle.releasing more)).time ∧
      s.lock.paths = (({ s with fabric := f } : State).modCycle id (Cycle.releasing more)).lock.paths ∧
      s.regs = (({ s with fabric := f } : State).modCycle id (Cycle.releasing more)).regs := ⟨rfl, rfl, rfl, rfl, rfl, rfl⟩
  rw [heq]
  generalize ({ s with fabric := f } : State).modCycle id (Cycle.releasing more) = u at h1 hb ⊢
  obtain ⟨bsteer, bmem, btows, btime, bpaths, bregs⟩ := hb
  generalize hd : c.releasing more = d at h1 ⊢
  have hcut := State.cutProofs_clears (s := u) (by rw [← bregs]; exact State.regsWf_of_allWf hwf) d.mirrors
  have hread := hcut.trans (State.cycleRead_clears hcut.form d d.pairs)
  generalize (u.cutProofs d.mirrors).cycleRead d d.pairs = v at hread ⊢
  have hv : (v.darken d).steer = s.steer ∧ (v.darken d).mem = s.mem ∧ (v.darken d).tows = s.tows ∧ (v.darken d).time = s.time ∧
      (v.darken d).lock.cycles = u.lock.cycles ∧ (v.darken d).lock.paths = s.lock.paths.filter (fun q => !touches d.mirrors (q.a, q.b)) :=
    ⟨hread.steer.trans bsteer.symm, hread.mem.trans bmem.symm, hread.tows.trans btows.symm, hread.time.trans btime.symm, hread.cycles,
      by rw [bpaths, ← hread.paths]; rfl⟩
  generalize v.darken d = x at hv ⊢
  obtain ⟨xsteer, xmem, xtows, xtime, xcycles, xpaths⟩ := hv
  have wA : spWf {} 0 x.steer.axes = true := by rw [xsteer]; exact State.axesWf_of_allWf hwf
  have hframe := State.openAxes_frame x d
  have hlocked := fun a ha => State.openAxes_locked wA d (a := a) ha
  have htarget := fun a ha => State.openAxes_target wA d (a := a) ha
  generalize x.openAxes d = y at hframe hlocked htarget ⊢
  have hyl : y.lock = x.lock := (congrArg State.lock hframe :)
  have hyt : y.time = s.time := (congrArg State.time hframe :).trans xtime
  have hytick : y.steer.tick = s.steer.tick := ((congrArg (fun u => u.steer.tick) hframe :)).trans (by rw [xsteer])
  have hyns : y.tickNs = s.tickNs := by rw [State.tickNs, State.tickNs, hyt]
  have hyc : y.cycle id = some d := (State.cycle_congr (s := u) (by rw [hyl, xcycles]) id).trans h1
  have hnow := State.axisNow_congr xsteer
  have hjournal : (y.openRecords id d late).lock = (y.modCycle id (Cycle.opening y.steer.tick y.time.tb0.fine (y.t3Of d)
      (if late then some y.tickNs else none) late)).lock ∧ (y.openRecords id d late).steer = y.steer ∧ (y.openRecords id d late).mem = y.mem ∧
      (y.openRecords id d late).tows = y.tows := by
    unfold State.openRecords
    simp only [State.sendJournal_lock, State.sendJournal_steer, State.sendJournal_mem, State.sendJournal_tows]
    exact ⟨rfl, rfl, rfl, rfl⟩
  obtain ⟨jlock, jsteer, jmem, jtows⟩ := hjournal
  have jnow := State.axisNow_congr jsteer
  refine ⟨d.opening y.steer.tick y.time.tb0.fine (y.t3Of d) (if late then some y.tickNs else none) late, ?_, ?_, ?_, ?_, ?_, fun p hp => ?_,
    fun q hq => ?_, fun a ha => ?_, fun a ha => ?_, ?_, ?_, ?_⟩
  · refine (State.cycle_congr (s := y.modCycle id _) (by rw [jlock]) id).trans (State.cycle_modCycle hyc fun _ => rfl)
  · rw [Cycle.opening, hytick, hyt]
  · rw [← hd]; rfl
  · rw [Cycle.opening, hyns]
  · rw [← hd, Cycle.pairs, Cycle.opening, List.map_map]; rfl
  · obtain ⟨r, -, rfl⟩ := List.mem_map.mp hp
    rfl
  · have hq' : q ∈ s.lock.paths.filter (fun q => !touches d.mirrors (q.a, q.b)) := by
      rw [← xpaths, ← hyl]
      rw [jlock] at hq
      exact hq
    obtain ⟨hin, hno⟩ := List.mem_filter.mp hq'
    exact ⟨hin, touches_releasing (more := more) (by rw [hd]; simpa using hno)⟩
  · rw [jnow]
    exact hlocked a (by rw [← hd]; exact mem_axes_releasing more ha)
  · rw [jnow, htarget a (by rw [hnow]; exact ha), hnow]
  · exact jmem.trans ((congrArg State.mem hframe :).trans xmem)
  · exact jtows.trans ((congrArg State.tows hframe :).trans xtows)
  · rw [jsteer]; exact hytick

/-! ## The statement -/

section
variable {s : State} (hwf : s.allWf = true) {id : Nat} {c : Cycle} (hc : s.cycle id = some c) (ho : c.opened = none)
include hwf hc ho

theorem openTick_opens (hact : s.active = true) (hrun : s.running = none) (harm : c.armed = true) (hfirst : s.firstTick c.tOpen = true)
    (hclosed : s.lock.closedNow = false) (hb : s.berthWaits c = false) :
    ∃ t d, exec (.openTick id) s = .next t ∧ t.cycle id = some d ∧ d.opened = some (s.steer.tick, s.time.tb0.fine) ∧
      d.extended = c.extended ∧ d.pairs = c.pairs ∧ (∀ p ∈ d.paths, p.phase = .opening) ∧
      (∀ q ∈ t.lock.paths, q ∈ s.lock.paths ∧ touches c.mirrors (q.a, q.b) = false) ∧
      (∀ a ∈ c.axes, (t.axisNow a).src = 1 ∧ (t.axisNow a).st = 1 ∧ ((s.axisNow a).st ≠ 6 → (t.axisNow a).target = (s.axisNow a).target)) ∧
      t.mem = s.mem ∧ t.tows = s.tows ∧ t.steer.tick = s.steer.tick := by
  obtain ⟨d, h⟩ := State.openCycle_opens hwf hc false
  refine ⟨s.openCycle id false, d, ?_, h.cycle, h.opened, by rw [h.extended, Bool.or_false], h.pairs, h.phase, h.paths,
    fun a ha => ⟨(h.locked a ha).1, (h.locked a ha).2, h.target a⟩, h.mem, h.tows, h.tick⟩
  show Host.Outcome.next (openTick id s) = _
  rw [openTick, hc]
  dsimp only
  rw [if_pos (by simp [hact, ho, harm, State.heldBack, hrun, hclosed, hfirst]), if_neg (by simp [hb])]

omit hwf ho in
theorem openTick_held (hclosed : s.lock.closedNow = true) : exec (.openTick id) s = .next s := by
  show Host.Outcome.next (openTick id s) = _
  rw [openTick, hc]
  dsimp only
  rw [if_neg (by simp [State.heldBack, hclosed])]

theorem lateOpen_opens (hact : s.active = true) (hrun : s.running = none) (harm : c.armed = true)
    (hpast : timeReached s.time.tb0Tick c.tOpen = true) (hin : s.tickNs ≤ s.t3Of c + 1000000) (hfirst : s.firstTick c.tOpen = false)
    (hj : c.joint = false) (hclosed : s.lock.closedNow = false) (hb : s.berthWaits c = false) :
    ∃ t d, exec (.lateOpen id) s = .next t ∧ t.cycle id = some d ∧ d.opened = some (s.steer.tick, s.time.tb0.fine) ∧ d.extended = true ∧
      d.lateFrom = some s.tickNs ∧ t.mem = s.mem ∧ t.tows = s.tows := by
  obtain ⟨d, h⟩ := State.openCycle_opens hwf hc true
  refine ⟨s.openCycle id true, d, ?_, h.cycle, h.opened, by rw [h.extended, Bool.or_true], h.lateFrom, h.mem, h.tows⟩
  show Host.Outcome.next (lateOpen id s) = _
  rw [lateOpen, hc]
  dsimp only
  rw [if_neg (by simp [hact, ho, hpast]), if_neg (by simp [State.heldBack, hrun, hclosed]), if_neg (by simp [hfirst]), if_neg (by simp [hj, hin]),
    if_neg (by simp [hb]), if_pos harm]

theorem lateOpen_aborts (hact : s.active = true) (hrun : s.running = none) (hpast : timeReached s.time.tb0Tick c.tOpen = true)
    (hnot : s.firstTick c.tOpen = false ∨ s.lock.closedNow = true) (hb : c.berth = false) (hlate : c.joint = true ∨ s.t3Of c + 1000000 < s.tickNs) :
    ∃ t, exec (.lateOpen id) s = .next t ∧ t.lock.cycles = s.lock.cycles.filter (fun d => d.id ≠ id) ∧
      t.fget F.LOCK_LAST.OUTCOME = 3 ∧ t.fget F.LOCK_LAST.REASON = 0x20 ∧ t.steer = s.steer ∧ t.mem = s.mem ∧
      t.lock.paths = s.lock.paths := by
  have h := State.abortPending_spec (State.regsWf_of_allWf hwf) hb (by decide : 0x20 < 256)
  rw [State.cycle_id hc] at h
  refine ⟨_, ?_, h⟩
  have habort : (c.joint || !decide (s.tickNs ≤ s.t3Of c + 1000000)) = true := by
    rcases hlate with hj | hn
    · simp [hj]
    · simp [hn]
  show Host.Outcome.next (lateOpen id s) = _
  rw [lateOpen, hc]
  dsimp only
  rw [if_neg (by simp [hact, ho, hpast])]
  by_cases hclosed : s.lock.closedNow = true
  · rw [if_pos (by simp [State.heldBack, hclosed]), if_pos habort]
  · rw [if_neg (by simp [State.heldBack, hrun, hclosed]), if_neg (by simp [hnot.resolve_right hclosed]), if_pos habort]

end

/-- Settles O24: the end of the settle-model tow leaves the axes, heads and map entries that a trajectory is computed from; an opening takes
the axes of the cycle after steps that leave them alone; and an abort leaves what it shows. -/
theorem cyclePrepareAndOpen : Obligations.CyclePrepareAndOpen := by
  unfold Obligations.CyclePrepareAndOpen
  refine ⟨fun s id c hwf hc ho => ⟨fun bufs scaled hf hs huse hn hw => buffersWritten_computed hwf hc ho bufs scaled hf hs huse hn hw,
    fun bufs scaled hf hs => buffersWritten_error hwf hc ho bufs scaled hf hs, fun hin harm hf hcomp => towDeadline_spec hwf hc ho hin harm hf hcomp,
    fun hin hcomp => gangArm_spec hc ho hin hcomp, fun hj hb hin ht => jointRecheck_spec hwf hc ho hj hb hin ht⟩, fun s id c hwf hc ho hact hrun => ?_⟩
  exact ⟨fun harm hfirst hclosed hb => openTick_opens hwf hc ho hact hrun harm hfirst hclosed hb, openTick_held hc,
    fun harm hpast hin hfirst hj hclosed hb => lateOpen_opens hwf hc ho hact hrun harm hpast hin hfirst hj hclosed hb,
    fun hpast hnot hb hlate => lateOpen_aborts hwf hc ho hact hrun hpast hnot hb hlate⟩

end Sys2Proof.Machine
end

section
/-!
PROOFS. Loss of feedback and the gain schedule (R40, R46–R49): what the changes of an axis make of its fields, its path brought up to date
after them, and the statement.
-/

namespace Sys2Proof.Machine

/-! ## An axis but for its flags -/

/-- y is x but for the flags. -/
def Axis.SameBody (x y : Axis) : Prop := y = { x with flags := y.flags }

theorem Axis.SameBody.refl (x : Axis) : x.SameBody x := rfl

theorem Axis.SameBody.trans {x y z : Axis} (h : x.SameBody y) (k : y.SameBody z) : x.SameBody z := by
  rw [Axis.SameBody] at h k ⊢
  rw [k, h]

theorem Axis.fset_sameBody (x : Axis) (f : Fld) (v : Nat) : x.SameBody (x.fset f v) := rfl

theorem Axis.setSt_sameBody (x : Axis) (v : Nat) : x.SameBody (x.setSt v) := x.fset_sameBody _ v

theorem Axis.setMode_sameBody (x : Axis) (v : Nat) : x.SameBody (x.setMode v) := x.fset_sameBody _ v

theorem Axis.addSticky_sameBody (x old : Axis) : x.SameBody (x.addSticky old) := rfl

/-- y is x, or x with sticky bits joined. -/
def Axis.Near (x y : Axis) : Prop := y = x ∨ ∃ old, y = x.addSticky old

namespace Axis.Near

variable {x y : Axis} (h : x.Near y)
include h

theorem sameBody : x.SameBody y := by
  obtain rfl | ⟨old, rfl⟩ := h
  · exact .refl _
  · exact x.addSticky_sameBody old

theorem fget {f : Fld} (hf : 7 ≤ f.lo) : y.fget f = x.fget f := by
  obtain rfl | ⟨old, rfl⟩ := h
  · rfl
  · exact x.fget_addSticky old hf

theorem st : y.st = x.st := h.fget (by decide)

theorem src : y.src = x.src := h.fget (by decide)

theorem mode : y.mode = x.mode := h.fget (by decide)

theorem region : y.region = x.region := h.fget (by decide)

theorem held : y.held = x.held := by rw [Axis.held, Axis.held, h.st]

/-- A set sticky bit stays set. -/
theorem set {f : Fld} (hw : f.width = 1) (hx : x.fget f = 1) : y.fget f = 1 := by
  obtain rfl | ⟨old, rfl⟩ := h
  · exact hx
  · have hbit : x.flags.toNat.testBit f.lo = true := by
      have h0 := testBit_fldOf x.flags f 0
      rw [show fldOf x.flags f = 1 from hx] at h0
      simpa [hw] using h0.symm
    have hlt := fldOf_lt (x.addSticky old).flags f
    have h1 : ((x.addSticky old).fget f).testBit 0 = true := by
      rw [Axis.fget, testBit_fldOf, hw]
      show (decide (0 < 1) && (x.flags ||| (old.flags &&& 0x7F)).toNat.testBit (f.lo + 0)) = true
      simp [hbit]
    rw [hw] at hlt
    have h2 : (x.addSticky old).fget f < 2 := hlt
    rcases Nat.lt_or_ge ((x.addSticky old).fget f) 1 with h3 | h3
    · rw [Nat.lt_one_iff.mp h3] at h1; cases h1
    · omega

end Axis.Near

/-- A change of the present axis changes what is held, or what is stored; the sticky bits of both are joined. -/
theorem State.modNow_near {s : State} (w : spWf {} 0 s.steer.axes = true) (a : Nat) (f : Axis → Axis) :
    ∃ x : Axis, x.Near (s.axisNow a) ∧ (f x).Near ((s.modNow a f).axisNow a) := by
  rw [State.axisNow_modNow_self w]
  cases hs : s.heldFor a with
  | some h => exact ⟨h.new, .inr ⟨_, State.axisNow_some hs⟩, .inr ⟨_, rfl⟩⟩
  | none => exact ⟨s.axis a, .inl (State.axisNow_none hs), .inl rfl⟩

/-! ## The path of an axis brought up to date (R50) -/

/-- The machine with other standing paths. -/
def State.withPaths (s : State) (l : List Path) : State := { s with lock := { s.lock with paths := l } }

theorem State.Reported.pathEvent {s t : State} {l : List Fld} (h : s.Reported t l) (q : Path) (kind st bits : Nat) :
    s.Reported (t.pathEvent q kind st bits) l := h.event ..

theorem State.refreshPath_reported {s : State} (w : wordsWf 0 s.regs = true) (q : Path) :
    (s.withPaths (s.refreshPath q).lock.paths).Reported (s.refreshPath q) [] := by
  have hset : ∀ p : Path, (s.setPath p).Reported (s.setPath p) [] := fun p => .refl (s := s.setPath p) w _
  have hdone : ∀ {u v : State}, u.Reported v [] → (∃ l, u = s.withPaths l) → (s.withPaths v.lock.paths).Reported v [] := by
    rintro u v h ⟨l, rfl⟩
    have hl : v.lock.paths = l := by rw [h.lock]; rfl
    rw [hl]
    exact h
  unfold State.refreshPath
  extract_lets n bits s1
  have h1 := hset { q with state := n, announced := decide (n ≠ 5) }
  have hs : ∃ l, s1 = s.withPaths l := ⟨_, rfl⟩
  replace h1 : s1.Reported s1 [] := h1
  clear_value s1
  split
  · exact hdone (((h1.pathEvent ..).logEntry (sev := 4) (by decide) ..).count ..) hs
  · split
    · exact hdone (h1.pathEvent ..) hs
    · exact hdone h1 hs

theorem State.refreshAxisPath_reported {s : State} (w : wordsWf 0 s.regs = true) (a : Nat) :
    (s.withPaths (s.refreshAxisPath a).lock.paths).Reported (s.refreshAxisPath a) [] := by
  unfold State.refreshAxisPath
  split
  · exact State.refreshPath_reported w _
  · exact State.Reported.refl (s := s) w _

/-- What a change of one axis leaves, reports before and after it included. -/
theorem axisOnly_of {s u t : State} {a : Nat}
    (hframe : u = { s with steer := { s.steer with axes := u.steer.axes, held := u.steer.held, rep := u.steer.rep } })
    (hrep : (u.withPaths t.lock.paths).Reported t []) (hne : ∀ b, b ≠ a → u.axisNow b = s.axisNow b)
    (hmem : ∀ j, (∀ h ∈ s.steer.undo, h.axis = a → ∀ k v, h.rep = some (k, v) → j ≠ 2048 * a + k) → spGet 0 u.steer.rep j = spGet 0 s.steer.rep j) :
    axisOnly s t a [] := by
  have hsteer : t.steer = u.steer := hrep.steer
  refine ⟨fun b hb => (State.axisNow_congr hsteer b).trans (hne b hb), fun j hj => by rw [hsteer]; exact hmem j hj, ?_⟩
  have hu : { s with steer := { s.steer with axes := t.steer.axes, held := t.steer.held, rep := t.steer.rep }
                     lock := { s.lock with paths := t.lock.paths } } = u.withPaths t.lock.paths := by
    rw [hsteer]
    exact (congrArg (fun x : State => x.withPaths t.lock.paths) hframe.symm :)
  rw [hu]
  exact hrep.reports

section
variable {s : State} (w : wordsWf 0 s.regs = true) (a : Nat) (f : Axis → Axis)
include w

/-- A change of one axis alone. -/
theorem axisOnly_modNow : axisOnly s (s.modNow a f) a [] := by
  have hframe := State.modNow_frame s a f
  have hne : ∀ b, b ≠ a → (s.modNow a f).axisNow b = s.axisNow b := fun b hb => State.axisNow_modNow_ne s hb f
  generalize s.modNow a f = u at hframe hne ⊢
  have hregs : u.regs = s.regs := by rw [hframe]
  have hrep : u.steer.rep = s.steer.rep := by rw [hframe]
  exact axisOnly_of (by rw [hframe]) (State.Reported.refl (s := u) (by rw [hregs]; exact w) _) hne fun j _ => by rw [hrep]

/-- A change of one axis, perhaps counted, with its path brought up to date. -/
theorem axisOnly_refreshed {v : State} (hv : v = s.modNow a f ∨ ∃ g i, v = (s.modNow a f).count g i 1) :
    axisOnly s (v.refreshAxisPath a) a [] ∧ (v.refreshAxisPath a).steer = (s.modNow a f).steer ∧ (v.refreshAxisPath a).mem = s.mem ∧
      fieldsKept s (v.refreshAxisPath a) logFields := by
  have hframe := State.modNow_frame s a f
  have hne : ∀ b, b ≠ a → (s.modNow a f).axisNow b = s.axisNow b := fun b hb => State.axisNow_modNow_ne s hb f
  generalize s.modNow a f = u at hframe hne hv ⊢
  have hregs : u.regs = s.regs := by rw [hframe]
  have hmem : u.mem = s.mem := by rw [hframe]
  have hmemory : u.steer.rep = s.steer.rep := by rw [hframe]
  have hcount : ∀ l, (u.withPaths l).Reported (v.withPaths l) [] ∧ v.steer = u.steer ∧ v.mem = u.mem ∧ v.regs = u.regs := by
    intro l
    have h0 : (u.withPaths l).Reported (u.withPaths l) [] := .refl (s := u.withPaths l) (by show wordsWf 0 u.regs = true; rw [hregs]; exact w) _
    obtain rfl | ⟨g, i, rfl⟩ := hv
    · exact ⟨h0, rfl, rfl, rfl⟩
    · exact ⟨h0.count g i 1, rfl, rfl, rfl⟩
  have hr := State.refreshAxisPath_reported (s := v) (by rw [(hcount []).2.2.2, hregs]; exact w) a
  generalize v.refreshAxisPath a = t at hr ⊢
  obtain ⟨h0, hsteer, hm, hvr⟩ := hcount t.lock.paths
  refine ⟨axisOnly_of (by rw [hframe]) (h0.trans hr) hne fun j _ => by rw [hmemory], hr.steer.trans hsteer, (hr.mem.trans hm).trans hmem, fun g hg => ?_⟩
  exact (hr.fget (by simpa using hg)).trans ((State.fget_of_regs (s := u) (t := v.withPaths t.lock.paths) hvr g).trans (State.fget_of_regs hregs g))

end

/-! ## BLIND (R47, R48) -/

/-- What an axis takes back from the tick before when it enters BLIND. -/
def Axis.blindBody (old x : Axis) : Axis :=
  { x with i := old.i, d := old.d, ePrev := old.ePrev, offset := old.offset, heldDrive := old.heldDrive, u := old.heldDrive
           target := old.target, ff := old.ff, rejoin := false, loss := 1, lowRun := 0, highRun := 0, winOk := false }

/-- What a frozen axis is when it loses its light. -/
def Axis.frozenBody (x : Axis) : Axis := { x with u := x.heldDrive, lowRun := 0, highRun := 0, winOk := false }

theorem enterBlind_free {old x : Axis} (h : x.held = false) : (Axis.blindBody old x).SameBody (enterBlind old x) ∧ (enterBlind old x).st = 2 ∧
    (enterBlind old x).fget (F.AXIS_FLAGS.BLIND_SEEN 0 0) = 1 := by
  have hdef : enterBlind old x = (((Axis.blindBody old x).setSt 2).fset (F.AXIS_FLAGS.BLIND_SEEN 0 0) 1).fset (F.AXIS_FLAGS.OUT_NOW 0 0)
      (if old.outNow then 1 else 0) := by
    rw [enterBlind, h]; rfl
  rw [hdef]
  generalize Axis.blindBody old x = y
  refine ⟨(y.setSt_sameBody 2).trans ((Axis.fset_sameBody _ _ _).trans (Axis.fset_sameBody _ _ _)), ?_, ?_⟩
  · rw [Axis.st, Axis.fget_fset_apart _ (by decide) (by decide), Axis.fget_fset_apart _ (by decide) (by decide)]
    exact Axis.st_setSt y 2
  · rw [Axis.fget_fset_apart _ (by decide) (by decide), Axis.fget_fset_self _ (by decide)]
    rfl

theorem enterBlind_held {old x : Axis} (h : x.held = true) : x.frozenBody.SameBody (enterBlind old x) ∧
    (enterBlind old x).st = (if x.st = 5 then 4 else 2) ∧ (enterBlind old x).fget (F.AXIS_FLAGS.BLIND_SEEN 0 0) = 1 := by
  have hdef : enterBlind old x = (x.frozenBody.setSt (if x.st = 5 then 4 else 2)).fset (F.AXIS_FLAGS.BLIND_SEEN 0 0) 1 := by
    rw [enterBlind, h]; rfl
  rw [hdef]
  generalize x.frozenBody = y
  refine ⟨(y.setSt_sameBody _).trans (Axis.fset_sameBody _ _ _), ?_, ?_⟩
  · rw [Axis.st, Axis.fget_fset_apart _ (by decide) (by decide)]
    refine (Axis.st_setSt y _).trans (Nat.mod_eq_of_lt ?_)
    split <;> decide
  · rw [Axis.fget_fset_self _ (by decide)]
    rfl

/-- The repetitive memory taken back is what the tick undoes. -/
theorem State.dropRep_rep (s : State) (a : Nat) {j : Nat}
    (hj : ∀ h ∈ s.steer.undo, h.axis = a → ∀ k v, h.rep = some (k, v) → j ≠ 2048 * a + k) : spGet 0 (s.dropRep a).steer.rep j = spGet 0 s.steer.rep j := by
  unfold State.dropRep
  dsimp only
  split
  · next ax new k v hf =>
    have hin := List.mem_of_find?_eq_some hf
    have hax : ax = a := by simpa using List.find?_some hf
    exact spGet_spSet_ne _ _ _ _ _ (hj _ hin hax k v rfl)
  · rfl

/-- The machine in which an axis has entered BLIND. -/
def State.blinded (s : State) (a : Nat) : State := (((s.dropRep a).modNow a (enterBlind (s.axisPrev a))).count 0 11).refreshAxisPath a

theorem State.blinded_spec {s : State} (hwf : s.allWf = true) (a : Nat) : axisOnly s (s.blinded a) a [] ∧
    ∃ x : Axis, x.Near (s.axisNow a) ∧ (enterBlind (s.axisPrev a) x).Near ((s.blinded a).axisNow a) := by
  have hdrop := State.dropRep_frame s a
  have hrep := fun j hj => State.dropRep_rep s a (j := j) hj
  have hnow := State.axisNow_dropRep s a
  unfold State.blinded
  generalize s.dropRep a = v at hdrop hrep hnow ⊢
  have hregs : v.regs = s.regs := by rw [hdrop]
  have haxes : v.steer.axes = s.steer.axes := by rw [hdrop]
  have hundo : v.steer.undo = s.steer.undo := by rw [hdrop]
  obtain ⟨x, hx, hnear⟩ := State.modNow_near (s := v) (by rw [haxes]; exact State.axesWf_of_allWf hwf) a (enterBlind (s.axisPrev a))
  obtain ⟨⟨one, mem, rep⟩, hsteer, -⟩ := axisOnly_refreshed (s := v) (by rw [hregs]; exact State.regsWf_of_allWf hwf) a (enterBlind (s.axisPrev a)) (.inr ⟨0, 11, rfl⟩)
  rw [hnow] at hx
  generalize (((v.modNow a (enterBlind (s.axisPrev a))).count 0 11).refreshAxisPath a) = t at one mem rep hsteer ⊢
  refine ⟨⟨fun b hb => (one b hb).trans (hnow b), fun j hj => (mem j (by rw [hundo]; exact hj)).trans (hrep j hj), ?_⟩, x, hx, ?_⟩
  · rw [hdrop] at rep
    exact rep
  · rw [State.axisNow_congr hsteer]; exact hnear

section
variable {s : State} (hwf : s.allWf = true) {a : Nat} (ha : a < 4640)
include hwf ha

omit hwf in
theorem exec_blindEntry (hlow : 2 ≤ (s.axisNow a).lowRun) (hst : (s.axisNow a).st = 0 ∨ (s.axisNow a).st = 1 ∨ (s.axisNow a).st = 3 ∨ (s.axisNow a).st = 5)
    (hin : s.inMove a = false) : exec (.blindEntry a) s = .next (s.blinded a) := by
  have hok : okAxis a = true := decide_eq_true ha
  show execBlindEntry a s = _
  rw [execBlindEntry, hok, blindEntry]
  dsimp only
  rw [if_pos ⟨hlow, hst, hin⟩]
  rfl

theorem blindEntry_free (hlow : 2 ≤ (s.axisNow a).lowRun) (hst : (s.axisNow a).st = 0 ∨ (s.axisNow a).st = 1) (hin : s.inMove a = false) :
    ∃ t, exec (.blindEntry a) s = .next t ∧ (t.axisNow a).st = 2 ∧ (t.axisNow a).fget (F.AXIS_FLAGS.BLIND_SEEN 0 0) = 1 ∧
      (t.axisNow a).u = (s.axisPrev a).heldDrive ∧ (t.axisNow a).heldDrive = (s.axisPrev a).heldDrive ∧
      (t.axisNow a).i = (s.axisPrev a).i ∧ (t.axisNow a).d = (s.axisPrev a).d ∧ (t.axisNow a).ePrev = (s.axisPrev a).ePrev ∧
      (t.axisNow a).offset = (s.axisPrev a).offset ∧ axisOnly s t a [] := by
  obtain ⟨honly, x, hx, hnear⟩ := State.blinded_spec hwf a
  have hheld : x.held = false := by
    rw [← hx.held, Axis.held]
    rcases hst with h | h <;> rw [h] <;> rfl
  obtain ⟨hbody, hst2, hseen⟩ := enterBlind_free (old := s.axisPrev a) hheld
  have hall := hbody.trans hnear.sameBody
  exact ⟨_, exec_blindEntry ha hlow (hst.imp_right .inl) hin, hnear.st.trans hst2, hnear.set rfl hseen, (congrArg Axis.u hall :),
    (congrArg Axis.heldDrive hall :), (congrArg Axis.i hall :), (congrArg Axis.d hall :), (congrArg Axis.ePrev hall :),
    (congrArg Axis.offset hall :), honly⟩

theorem blindEntry_frozen (hlow : 2 ≤ (s.axisNow a).lowRun) (hst : (s.axisNow a).st = 3 ∨ (s.axisNow a).st = 5) (hin : s.inMove a = false) :
    ∃ t, exec (.blindEntry a) s = .next t ∧ (t.axisNow a).st = (if (s.axisNow a).st = 5 then 4 else 2) ∧
      (t.axisNow a).fget (F.AXIS_FLAGS.BLIND_SEEN 0 0) = 1 ∧ (t.axisNow a).u = (s.axisNow a).heldDrive ∧
      (t.axisNow a).heldDrive = (s.axisNow a).heldDrive ∧ (t.axisNow a).i = (s.axisNow a).i ∧
      (t.axisNow a).loss = (s.axisNow a).loss ∧ axisOnly s t a [] := by
  obtain ⟨honly, x, hx, hnear⟩ := State.blinded_spec hwf a
  have hheld : x.held = true := by
    rw [← hx.held, Axis.held]
    rcases hst with h | h <;> rw [h] <;> rfl
  obtain ⟨hbody, hst2, hseen⟩ := enterBlind_held (old := s.axisPrev a) hheld
  have hall := hbody.trans hnear.sameBody
  have hxb := hx.sameBody
  exact ⟨_, exec_blindEntry ha hlow (.inr (.inr hst)) hin, by rw [hnear.st, hst2, hx.st], hnear.set rfl hseen,
    (congrArg Axis.u hall :).trans (congrArg Axis.heldDrive hxb :).symm, (congrArg Axis.heldDrive hall :).trans (congrArg Axis.heldDrive hxb :).symm,
    (congrArg Axis.i hall :).trans (congrArg Axis.i hxb :).symm, (congrArg Axis.loss hall :).trans (congrArg Axis.loss hxb :).symm, honly⟩

end

/-! ## Leaving loss (R47, R49) -/

theorem Axis.rejoining_flags (x : Axis) : x.rejoining.flags = x.flags := rfl

/-- An axis that leaves loss is in RECOVERY, in HOLD or under LOCK, and joins its loop again. -/
theorem leaveLoss_spec (x : Axis) : x.rejoining.SameBody (leaveLoss x) ∧ (leaveLoss x).mode = 3 ∧ (leaveLoss x).st = (if x.src = 1 then 1 else 0) := by
  have hbody : ∀ y z : Axis, y.SameBody z → y.rejoining.SameBody z.rejoining := fun y z h => by
    rw [Axis.SameBody] at h ⊢
    rw [h]; rfl
  rw [leaveLoss_eq]
  refine ⟨hbody _ _ ((x.setSt_sameBody _).trans (Axis.setMode_sameBody _ 3)), ?_, ?_⟩
  · exact (Axis.fget_of_flags (Axis.rejoining_flags _) _).trans (Axis.mode_setMode _ 3)
  · refine (Axis.fget_of_flags (Axis.rejoining_flags _) _).trans ((Axis.st_setMode _ 3).trans ((Axis.st_setSt x _).trans (Nat.mod_eq_of_lt ?_)))
    split <;> decide

section
variable {s : State} (hwf : s.allWf = true) {a : Nat} (ha : a < 4640)
include hwf ha

theorem blindExit_spec (hhigh : 16 ≤ (s.axisNow a).highRun) (hst : (s.axisNow a).st = 2 ∨ (s.axisNow a).st = 4) :
    ∃ t, exec (.blindExit a) s = .next t ∧ (t.axisNow a).mode = 3 ∧ (t.axisNow a).st = (if (s.axisNow a).src = 1 then 1 else 0) ∧
      (t.axisNow a).rejoin = true ∧ (t.axisNow a).i = (s.axisNow a).i ∧ axisOnly s t a [] := by
  have hok : okAxis a = true := decide_eq_true ha
  obtain ⟨honly, hsteer, -⟩ := axisOnly_refreshed (State.regsWf_of_allWf hwf) a leaveLoss (.inl rfl)
  obtain ⟨x, hx, hnear⟩ := State.modNow_near (State.axesWf_of_allWf hwf) a leaveLoss
  rw [← State.axisNow_congr hsteer] at hnear
  obtain ⟨hbody, hmode, hst'⟩ := leaveLoss_spec x
  have hall := hbody.trans hnear.sameBody
  refine ⟨_, ?_, hnear.mode.trans hmode, by rw [hnear.st, hst', hx.src], (congrArg Axis.rejoin hall :),
    (congrArg Axis.i hall :).trans (congrArg Axis.i hx.sameBody :).symm, honly⟩
  show execBlindExit a s = _
  rw [execBlindExit, hok, blindExit]
  rw [if_pos ⟨hhigh, hst⟩]
  rfl

end

/-! ## Open loop (R48, R64) -/

/-- The machine that has read the map entry of an axis's pair. -/
def State.readPairOf (s : State) (a : Nat) : State :=
  match s.pairOf a with
  | some (pa, pb) => (s.mapRead (s.pairIndex (axisSide a) pa pb)).2.2
  | none => s

theorem State.readPairOf_reads {s : State} (w : wordsWf 0 s.regs = true) (wM : spWf 0 0 s.map.work = true) (a : Nat) : s.ReadsMap (s.readPairOf a) := by
  unfold State.readPairOf
  split
  · exact State.mapRead_reads w wM _
  · exact ⟨State.Leaves.refl _ w _, rfl, rfl, wM, fun _ => rfl⟩

/-- An axis with a drive held and a drive sent. -/
def Axis.driving (v u : Half) (x : Axis) : Axis := { x with heldDrive := v, u := u }

theorem Axis.driving_fget (v u : Half) (x : Axis) (f : Fld) : (x.driving v u).fget f = x.fget f := Axis.fget_of_flags (x := x) rfl f

theorem goOpenLoop_some (v : Half) (x : Axis) :
    goOpenLoop (some v) x = (x.setSt (x.st + 2)).driving v (hcode (satI 16 (sval v + (sval x.u - sval x.heldDrive)))) := rfl

theorem goOpenLoop_st {x : Axis} (h : x.st = 2 ∨ x.st = 3) (d : Option Half) : (goOpenLoop d x).st = x.st + 2 := by
  have hst : (x.setSt (x.st + 2)).st = x.st + 2 := (Axis.st_setSt x _).trans (by rcases h with h | h <;> rw [h])
  cases d with
  | none => exact hst
  | some v => rw [goOpenLoop_some]; exact (Axis.driving_fget ..).trans hst

theorem goOpenLoop_heldDrive (v : Half) (x : Axis) : (goOpenLoop (some v) x).heldDrive = v := rfl

theorem State.ReadsMap.pairOf {s t : State} (h : s.ReadsMap t) (a : Nat) : t.pairOf a = s.pairOf a := by
  have hl : t.lock = s.lock := (h.leaves.get State.lock :)
  have hr : t.running = s.running := State.running_congr (by rw [hl])
  rw [State.pairOf, State.pairOf, hr, State.pathOf, State.pathOf, hl]

theorem State.ReadsMap.openDrive {s t : State} (h : s.ReadsMap t) {a pa pb : Nat} (hp : s.pairOf a = some (pa, pb))
    (hu : s.mapUsable (s.pairIndex (axisSide a) pa pb) = true) (x : Axis) :
    t.openDrive a x = some (hcode (satI 16 (sval (s.olDrive a pa pb) + sval x.offset))) := by
  have hi : ∀ k, t.pairIndex k pa pb = s.pairIndex k pa pb := fun k => by rw [State.pairIndex, State.pairIndex, h.bin]
  have husable : t.mapUsable (t.pairIndex (axisSide a) pa pb) = true := by rw [hi, State.mapUsable_eq, h.entry, ← State.mapUsable_eq]; exact hu
  have hol : t.olDrive a pa pb = s.olDrive a pa pb := by rw [State.olDrive, State.olDrive, hi, State.olAt, State.olAt, h.entry]
  rw [State.openDrive, h.pairOf, hp]
  dsimp only
  rw [if_pos husable, hol]

section
variable {s : State} (hwf : s.allWf = true) {a : Nat} (ha : a < 4640)
include hwf ha

theorem openLoopEntry_spec (hst : (s.axisNow a).st = 2 ∨ (s.axisNow a).st = 3) (hloss : s.lossTicks ≤ (s.axisNow a).loss) :
    ∃ t, exec (.openLoopEntry a) s = .next t ∧ (t.axisNow a).st = (s.axisNow a).st + 2 ∧
      (∀ pa pb, s.pairOf a = some (pa, pb) → s.mapUsable (s.pairIndex (axisSide a) pa pb) = true →
        (t.axisNow a).heldDrive = hcode (satI 16 (sval (s.olDrive a pa pb) + sval (s.axisNow a).offset))) ∧
      (∀ b, b ≠ a → t.axisNow b = s.axisNow b) ∧ t.steer.rep = s.steer.rep ∧ t.mem = s.mem ∧
      fieldsKept s t (F.MAP_STATUS.CHECK_ERR :: logFields) := by
  have hok : okAxis a = true := decide_eq_true ha
  have hread := State.readPairOf_reads (State.regsWf_of_allWf hwf) (State.mapWf_of_allWf hwf) a
  have hexec : exec (.openLoopEntry a) s =
      .next ((((s.readPairOf a).modNow a (goOpenLoop ((s.readPairOf a).openDrive a (s.axisNow a)))).count 0 13).refreshAxisPath a) := by
    show execOpenLoopEntry a s = _
    rw [execOpenLoopEntry, hok, openLoopEntry]
    dsimp only
    rw [if_pos ⟨hst, hloss⟩]
    rfl
  generalize s.readPairOf a = v at hread hexec
  have hnow : ∀ b, v.axisNow b = s.axisNow b := State.axisNow_congr hread.steer
  have hdrive := fun pa pb hp hu => hread.openDrive (a := a) (pa := pa) (pb := pb) hp hu (s.axisNow a)
  generalize v.openDrive a (s.axisNow a) = d at hexec hdrive
  obtain ⟨x, hx, hnear⟩ := State.modNow_near (s := v) (by rw [hread.steer]; exact State.axesWf_of_allWf hwf) a (goOpenLoop d)
  obtain ⟨⟨one, -, -⟩, hsteer, hmem, hkept⟩ := axisOnly_refreshed hread.leaves.form a (goOpenLoop d) (.inr ⟨0, 13, rfl⟩)
  have hrep : (v.modNow a (goOpenLoop d)).steer.rep = v.steer.rep := by rw [State.modNow_frame]
  rw [← State.axisNow_congr hsteer] at hnear
  rw [hnow] at hx
  generalize ((v.modNow a (goOpenLoop d)).count 0 13).refreshAxisPath a = t at *
  refine ⟨t, hexec, ?_, fun pa pb hp hu => ?_, fun b hb => (one b hb).trans (hnow b), ?_, hmem.trans (hread.leaves.get State.mem :), fun g hg => ?_⟩
  · rw [hnear.st, goOpenLoop_st (by rw [← hx.st]; exact hst), hx.st]
  · have hheld := congrArg Axis.heldDrive hnear.sameBody
    rw [hdrive pa pb hp hu] at hheld
    exact (hheld :)
  · rw [hsteer, hrep, hread.steer]
  · exact (hkept g fun x hx => hg x (List.mem_cons_of_mem _ hx)).trans (hread.fget hg)

end

/-! ## The gain schedule (R40) -/

/-- An axis whose counts of the schedule start again. -/
def Axis.recounted (x : Axis) : Axis := { x with downRun := 0, zeroRun := 0 }

/-- An axis whose count of samples in region 0 starts again. -/
def Axis.unrun (x : Axis) : Axis := { x with zeroRun := 0 }

theorem Axis.fget_recounted (x : Axis) (f : Fld) : x.recounted.fget f = x.fget f := Axis.fget_of_flags (x := x) rfl f

theorem Axis.fget_unrun (x : Axis) (f : Fld) : x.unrun.fget f = x.fget f := Axis.fget_of_flags (x := x) rfl f

theorem Axis.recounted_i (x : Axis) : x.recounted.i = x.i := rfl

theorem Axis.unrun_body (x : Axis) : x.unrun.i = x.i ∧ x.unrun.d = x.d ∧ x.unrun.ePrev = x.ePrev := ⟨rfl, rfl, rfl⟩

/-- An axis whose region falls by one. -/
def Axis.regionDown (x : Axis) : Axis := (x.fset (F.AXIS_FLAGS.REGION 0 0) (x.region - 1)).recounted

/-- An axis that enters RUN. -/
def Axis.intoRun (x : Axis) : Axis := (x.setMode 0).unrun

theorem Axis.regionDown_spec (x : Axis) : x.regionDown.region = x.region - 1 ∧ x.regionDown.i = x.i ∧ x.regionDown.st = x.st ∧
    x.regionDown.mode = x.mode := by
  have hlt : x.region < 8 := fldOf_lt _ _
  have hi : (x.fset (F.AXIS_FLAGS.REGION 0 0) (x.region - 1)).i = x.i := (congrArg Axis.i (x.fset_sameBody _ _) :)
  refine ⟨?_, (Axis.recounted_i _).trans hi, ?_, ?_⟩
  · rw [Axis.region, Axis.regionDown, Axis.fget_recounted, Axis.fget_fset_self _ (by decide)]
    exact Nat.mod_eq_of_lt (by show x.region - 1 < 8; omega)
  · exact (Axis.fget_recounted _ _).trans (Axis.fget_fset_apart _ (by decide) (by decide) _)
  · exact (Axis.fget_recounted _ _).trans (Axis.fget_fset_apart _ (by decide) (by decide) _)

theorem Axis.intoRun_spec (x : Axis) : x.intoRun.mode = 0 ∧ x.intoRun.st = x.st ∧ x.intoRun.i = x.i ∧ x.intoRun.d = x.d ∧
    x.intoRun.ePrev = x.ePrev := by
  have hb := x.setMode_sameBody 0
  obtain ⟨hi, hd, he⟩ := (x.setMode 0).unrun_body
  exact ⟨(Axis.fget_unrun _ _).trans (Axis.mode_setMode x 0), (Axis.fget_unrun _ _).trans (Axis.st_setMode x 0), hi.trans (congrArg Axis.i hb :),
    hd.trans (congrArg Axis.d hb :), he.trans (congrArg Axis.ePrev hb :)⟩

section
variable {s : State} (hwf : s.allWf = true) {a : Nat} (ha : a < 4640)
include hwf ha

theorem regionFall_spec (hmode : (s.axisNow a).mode ≠ 0) (hreg : 0 < (s.axisNow a).region)
    (hdown : 2 ^ s.fget (F.SCHED_CTRL.DOWN_HOLD (s.lawReach (s.reachOf a))) ≤ (s.axisNow a).downRun) :
    ∃ t, exec (.regionFall a) s = .next t ∧ (t.axisNow a).region = (s.axisNow a).region - 1 ∧ (t.axisNow a).i = (s.axisNow a).i ∧
      (t.axisNow a).st = (s.axisNow a).st ∧ (t.axisNow a).mode = (s.axisNow a).mode ∧ axisOnly s t a [] := by
  have hok : okAxis a = true := decide_eq_true ha
  obtain ⟨x, hx, hnear⟩ := State.modNow_near (State.axesWf_of_allWf hwf) a Axis.regionDown
  obtain ⟨hr, hi, hst, hm⟩ := x.regionDown_spec
  refine ⟨_, ?_, by rw [hnear.region, hr, hx.region], (congrArg Axis.i hnear.sameBody :).trans (hi.trans (congrArg Axis.i hx.sameBody :).symm),
    by rw [hnear.st, hst, hx.st], by rw [hnear.mode, hm, hx.mode], axisOnly_modNow (State.regsWf_of_allWf hwf) a Axis.regionDown⟩
  show execRegionFall a s = _
  rw [execRegionFall, hok, regionFall]
  dsimp only
  rw [if_pos (by simp [hmode, hreg, hdown])]
  rfl

theorem runExit_spec (hmode : (s.axisNow a).mode = 1 ∨ (s.axisNow a).mode = 3) (hheld : (s.axisNow a).held = false)
    (hzero : max 1 (s.fget (F.SCHED_CTRL.RUN_EXIT (s.lawReach (s.reachOf a)))) ≤ (s.axisNow a).zeroRun) :
    ∃ t, exec (.runExit a) s = .next t ∧ (t.axisNow a).mode = 0 ∧ (t.axisNow a).st = (s.axisNow a).st ∧
      (t.axisNow a).i = (s.axisNow a).i ∧ (t.axisNow a).d = (s.axisNow a).d ∧ (t.axisNow a).ePrev = (s.axisNow a).ePrev ∧
      axisOnly s t a [] := by
  have hok : okAxis a = true := decide_eq_true ha
  obtain ⟨x, hx, hnear⟩ := State.modNow_near (State.axesWf_of_allWf hwf) a Axis.intoRun
  obtain ⟨hm, hst, hi, hd, he⟩ := x.intoRun_spec
  have hn := hnear.sameBody
  have hxb := hx.sameBody
  refine ⟨_, ?_, by rw [hnear.mode, hm], by rw [hnear.st, hst, hx.st], (congrArg Axis.i hn :).trans (hi.trans (congrArg Axis.i hxb :).symm),
    (congrArg Axis.d hn :).trans (hd.trans (congrArg Axis.d hxb :).symm), (congrArg Axis.ePrev hn :).trans (he.trans (congrArg Axis.ePrev hxb :).symm),
    axisOnly_modNow (State.regsWf_of_allWf hwf) a Axis.intoRun⟩
  show execRunExit a s = _
  rw [execRunExit, hok, runExit]
  dsimp only
  rw [if_pos ⟨hmode, hheld, hzero⟩]
  rfl

end

theorem runExit_idle {s : State} {a : Nat} (ha : a < 4640) (hmode : (s.axisNow a).mode = 2) : exec (.runExit a) s = .next s := by
  have hok : okAxis a = true := decide_eq_true ha
  show execRunExit a s = _
  rw [execRunExit, hok, runExit]
  dsimp only
  rw [if_neg (by rw [hmode]; simp)]
  rfl

/-! ## The end of a window (R46) -/

/-- An axis whose window starts again. -/
def Axis.rewound (x : Axis) : Axis := { x with winLen := 0 }

/-- An axis that stores the correlation of its window. -/
def Axis.measured (x : Axis) : Axis := { x.rewound with cRef := x.cSum, recal := if x.recal = 2 then 0 else x.recal }

/-- An axis whose loss timer starts. -/
def Axis.timed (x : Axis) : Axis := { x with loss := 0 }

/-- An axis that its window has frozen. -/
def Axis.frozen (x : Axis) : Axis := ((x.rewound.setSt 3).fset (F.AXIS_FLAGS.FROZEN_SEEN 0 0) 1).timed

theorem Axis.rewound_fget (x : Axis) (f : Fld) : x.rewound.fget f = x.fget f := Axis.fget_of_flags (x := x) rfl f

theorem Axis.measured_fget (x : Axis) (f : Fld) : x.measured.fget f = x.fget f := Axis.fget_of_flags (x := x) rfl f

theorem Axis.timed_fget (x : Axis) (f : Fld) : x.timed.fget f = x.fget f := Axis.fget_of_flags (x := x) rfl f

theorem Axis.rewound_body (x : Axis) : x.rewound.winLen = 0 ∧ x.rewound.cRef = x.cRef := ⟨rfl, rfl⟩

theorem Axis.timed_body (x : Axis) : x.timed.winLen = x.winLen ∧ x.timed.cRef = x.cRef := ⟨rfl, rfl⟩

theorem Axis.rejoining_winLen (x : Axis) : x.rejoining.winLen = x.winLen := rfl

theorem Axis.frozen_spec (x : Axis) : x.frozen.winLen = 0 ∧ x.frozen.st = 3 ∧ x.frozen.cRef = x.cRef ∧
    x.frozen.fget (F.AXIS_FLAGS.FROZEN_SEEN 0 0) = 1 := by
  obtain ⟨hw, hc⟩ := x.rewound_body
  unfold Axis.frozen
  generalize x.rewound = y at hw hc ⊢
  have hb : y.SameBody ((y.setSt 3).fset (F.AXIS_FLAGS.FROZEN_SEEN 0 0) 1) := (y.setSt_sameBody 3).trans (Axis.fset_sameBody _ _ _)
  have hst : ((y.setSt 3).fset (F.AXIS_FLAGS.FROZEN_SEEN 0 0) 1).st = 3 :=
    (Axis.fget_fset_apart _ (by decide) (by decide) _).trans (Axis.st_setSt y 3)
  have hseen : ((y.setSt 3).fset (F.AXIS_FLAGS.FROZEN_SEEN 0 0) 1).fget (F.AXIS_FLAGS.FROZEN_SEEN 0 0) = 1 := Axis.fget_fset_self _ (by decide) 1
  generalize (y.setSt 3).fset (F.AXIS_FLAGS.FROZEN_SEEN 0 0) 1 = z at hb hst hseen ⊢
  obtain ⟨hzw, hzc⟩ := z.timed_body
  exact ⟨hzw.trans ((congrArg Axis.winLen hb :).trans hw), (z.timed_fget _).trans hst, hzc.trans ((congrArg Axis.cRef hb :).trans hc),
    (z.timed_fget _).trans hseen⟩

section
variable (frac : Nat) (active : Bool) (x : Axis)

/-- Whether a window is a measurement of the reference. -/
def Axis.measures : Prop := x.winRun = true ∧ active = true ∧ (x.recal = 2 ∨ x.cRef = 0)

theorem judgeWindow_measures (h : x.measures active) : judgeWindow frac active x = x.measured := by
  obtain ⟨hrun, hact, hr⟩ := h
  unfold judgeWindow
  dsimp only
  rw [if_pos (by simp [hrun, hact, hr])]
  rfl

variable (h : ¬ x.measures active)
include h

theorem judgeWindow_running (hst : x.st = 0) :
    judgeWindow frac active x = if x.cRef ≠ 0 ∧ x.cSum < x.cRef / 2 ^ frac then x.frozen else x.rewound := by
  have hno : ¬ (x.winRun && active && (decide (x.recal = 2) || decide (x.cRef = 0))) = true := by
    simpa [Axis.measures, and_assoc] using h
  unfold judgeWindow
  dsimp only
  rw [if_neg hno, if_pos hst]
  rfl

theorem judgeWindow_held (hst : x.st ≠ 0) :
    judgeWindow frac active x = if 2 * (x.cRef / 2 ^ frac) ≤ x.cSum then leaveLoss x.rewound else x.rewound := by
  have hno : ¬ (x.winRun && active && (decide (x.recal = 2) || decide (x.cRef = 0))) = true := by
    simpa [Axis.measures, and_assoc] using h
  unfold judgeWindow
  dsimp only
  rw [if_neg hno, if_neg hst]
  rfl

end

/-- A judged window starts again. -/
theorem judgeWindow_winLen (frac : Nat) (active : Bool) (x : Axis) : (judgeWindow frac active x).winLen = 0 := by
  by_cases hm : x.measures active
  · rw [judgeWindow_measures _ _ _ hm]; rfl
  · by_cases hst : x.st = 0
    · rw [judgeWindow_running _ _ _ hm hst]
      split
      · exact x.frozen_spec.1
      · rfl
    · rw [judgeWindow_held _ _ _ hm hst]
      split
      · have hb := (leaveLoss_spec x.rewound).1
        generalize leaveLoss x.rewound = y at hb ⊢
        exact (congrArg Axis.winLen hb :).trans ((Axis.rejoining_winLen _).trans x.rewound_body.1)
      · rfl

section
variable {s : State} (hwf : s.allWf = true) {a : Nat} (ha : a < 4640) (hlen : (s.axisNow a).winLen = 256)
include hwf ha hlen

theorem freezeWindowEnd_open (hok : (s.axisNow a).winOk = false) :
    ∃ t, exec (.freezeWindowEnd a) s = .next t ∧ axisOnly s t a [] ∧ (t.axisNow a).winLen = 0 ∧ (t.axisNow a).st = (s.axisNow a).st ∧
      (t.axisNow a).cRef = (s.axisNow a).cRef := by
  have hokA : okAxis a = true := decide_eq_true ha
  obtain ⟨x, hx, hnear⟩ := State.modNow_near (State.axesWf_of_allWf hwf) a Axis.rewound
  refine ⟨_, ?_, axisOnly_modNow (State.regsWf_of_allWf hwf) a Axis.rewound, (congrArg Axis.winLen hnear.sameBody :),
    by rw [hnear.st, hx.st]; exact x.rewound_fget _, (congrArg Axis.cRef hnear.sameBody :).trans (congrArg Axis.cRef hx.sameBody :).symm⟩
  show execFreezeWindowEnd a s = _
  rw [execFreezeWindowEnd, hokA, freezeWindowEnd]
  dsimp only
  rw [if_pos hlen, hok]
  rfl

theorem freezeWindowEnd_judged (hok : (s.axisNow a).winOk = true) :
    ∃ t x, exec (.freezeWindowEnd a) s = .next t ∧ axisOnly s t a [] ∧ x.Near (s.axisNow a) ∧
      (judgeWindow (s.fget (F.DITHER_CTRL.FRZ_FRAC (s.lawReach (s.reachOf a)))) s.active x).Near (t.axisNow a) := by
  have hokA : okAxis a = true := decide_eq_true ha
  generalize hf : judgeWindow (s.fget (F.DITHER_CTRL.FRZ_FRAC (s.lawReach (s.reachOf a)))) s.active = f
  obtain ⟨x, hx, hnear⟩ := State.modNow_near (State.axesWf_of_allWf hwf) a f
  have hexec : exec (.freezeWindowEnd a) s = .next ((if (s.axisNow a).st = 0 ∧ (f (s.axisNow a)).st = 3 then (s.modNow a f).count 0 12 1
      else s.modNow a f).refreshAxisPath a) := by
    show execFreezeWindowEnd a s = _
    rw [execFreezeWindowEnd, hokA, freezeWindowEnd]
    dsimp only
    rw [if_pos hlen, if_pos hok, hf]
    rfl
  have hv : (if (s.axisNow a).st = 0 ∧ (f (s.axisNow a)).st = 3 then (s.modNow a f).count 0 12 1 else s.modNow a f) = s.modNow a f ∨
      ∃ g i, (if (s.axisNow a).st = 0 ∧ (f (s.axisNow a)).st = 3 then (s.modNow a f).count 0 12 1 else s.modNow a f) = (s.modNow a f).count g i 1 := by
    split
    · exact .inr ⟨0, 12, rfl⟩
    · exact .inl rfl
  obtain ⟨honly, hsteer, -⟩ := axisOnly_refreshed (State.regsWf_of_allWf hwf) a f hv
  exact ⟨_, x, hexec, honly, hx, by rw [State.axisNow_congr hsteer]; exact hnear⟩

end

theorem freezeWindowEnd_spec {s : State} (hwf : s.allWf = true) {a : Nat} (ha : a < 4640) (hlen : (s.axisNow a).winLen = 256) :
    ∃ t, exec (.freezeWindowEnd a) s = .next t ∧ axisOnly s t a [] ∧
      let x := s.axisNow a
      let thr := x.cRef / 2 ^ s.fget (F.DITHER_CTRL.FRZ_FRAC (s.lawReach (s.reachOf a)))
      let measures := x.winRun = true ∧ s.active = true ∧ (x.recal = 2 ∨ x.cRef = 0)
      (t.axisNow a).winLen = 0 ∧
      (x.winOk = false → (t.axisNow a).st = x.st ∧ (t.axisNow a).cRef = x.cRef) ∧
      (x.winOk = true → measures → (t.axisNow a).cRef = x.cSum ∧ (t.axisNow a).st = x.st) ∧
      (x.winOk = true → ¬measures → x.st = 0 → x.cRef ≠ 0 → x.cSum < thr →
        (t.axisNow a).st = 3 ∧ (t.axisNow a).cRef = x.cRef ∧ (t.axisNow a).fget (F.AXIS_FLAGS.FROZEN_SEEN 0 0) = 1) ∧
      (x.winOk = true → ¬measures → x.st = 0 → x.cRef = 0 ∨ thr ≤ x.cSum → (t.axisNow a).st = 0) ∧
      (x.winOk = true → ¬measures → x.st = 3 ∨ x.st = 5 → 2 * thr ≤ x.cSum →
        (t.axisNow a).mode = 3 ∧ (t.axisNow a).st = if x.src = 1 then 1 else 0) ∧
      (x.winOk = true → ¬measures → x.st = 3 ∨ x.st = 5 → x.cSum < 2 * thr → (t.axisNow a).st = x.st) := by
  cases hok : (s.axisNow a).winOk with
  | false =>
    obtain ⟨t, hexec, honly, hwin, hst, href⟩ := freezeWindowEnd_open hwf ha hlen hok
    have hno : ∀ {p : Prop}, (s.axisNow a).winOk = true → p := fun hc => absurd (hok.symm.trans hc) Bool.false_ne_true
    exact ⟨t, hexec, honly, hwin, fun _ => ⟨hst, href⟩, hno, hno, hno, hno, hno⟩
  | true =>
    obtain ⟨t, x, hexec, honly, hx, hnear⟩ := freezeWindowEnd_judged hwf ha hlen hok
    refine ⟨t, hexec, honly, ?_⟩
    clear hexec honly hlen
    generalize s.fget (F.DITHER_CTRL.FRZ_FRAC (s.lawReach (s.reachOf a))) = frac at hnear ⊢
    generalize s.active = active at hnear ⊢
    generalize t.axisNow a = z at hnear ⊢
    generalize s.axisNow a = y at hx hok ⊢
    have hxb := hx.sameBody
    have hrun : y.winRun = x.winRun := (congrArg Axis.winRun hxb :)
    have hrecal : y.recal = x.recal := (congrArg Axis.recal hxb :)
    have href : y.cRef = x.cRef := (congrArg Axis.cRef hxb :)
    have hsum : y.cSum = x.cSum := (congrArg Axis.cSum hxb :)
    dsimp only
    rw [hrun, hrecal, href, hsum, hx.st, hx.src]
    change _ ∧ _ ∧ (_ → x.measures active → _) ∧ (_ → ¬ x.measures active → _) ∧ (_ → ¬ x.measures active → _) ∧ (_ → ¬ x.measures active → _) ∧
      (_ → ¬ x.measures active → _)
    have hzb := hnear.sameBody
    refine ⟨(congrArg Axis.winLen hzb :).trans (judgeWindow_winLen ..), fun h => absurd (hok.symm.trans h) (by decide), fun _ hm => ?_, fun _ hm hst hne hlt => ?_, fun _ hm hst hle => ?_,
      fun _ hm hst hle => ?_, fun _ hm hst hlt => ?_⟩
    · rw [judgeWindow_measures _ _ _ hm] at hnear
      exact ⟨(congrArg Axis.cRef hnear.sameBody :), hnear.st.trans (x.measured_fget _)⟩
    · rw [judgeWindow_running _ _ _ hm hst, if_pos ⟨hne, hlt⟩] at hnear
      obtain ⟨-, hst3, hc, hseen⟩ := x.frozen_spec
      generalize x.frozen = q at hnear hst3 hc hseen
      exact ⟨hnear.st.trans hst3, (congrArg Axis.cRef hnear.sameBody :).trans hc, hnear.set rfl hseen⟩
    · rw [judgeWindow_running _ _ _ hm hst, if_neg (fun hc => hle.elim hc.1 fun h => lt_irrefl _ (lt_of_lt_of_le hc.2 h))] at hnear
      exact hnear.st.trans ((x.rewound_fget _).trans hst)
    · rw [judgeWindow_held _ _ _ hm (by rcases hst with h | h <;> rw [h] <;> decide), if_pos hle] at hnear
      obtain ⟨-, hmode, hst'⟩ := leaveLoss_spec x.rewound
      refine ⟨hnear.mode.trans hmode, hnear.st.trans (hst'.trans ?_)⟩
      rw [show x.rewound.src = x.src from x.rewound_fget _]
    · rw [judgeWindow_held _ _ _ hm (by rcases hst with h | h <;> rw [h] <;> decide), if_neg (not_le.mpr hlt)] at hnear
      exact hnear.st.trans (x.rewound_fget _)

/-- Settles O15: each transition is a change of one axis, of which it keeps the state that it does not name, with its path brought up to date. -/
theorem lossAndSchedule : Obligations.LossAndSchedule := by
  unfold Obligations.LossAndSchedule
  exact ⟨fun s a hwf ha => ⟨fun hlow hst hin => blindEntry_free hwf ha hlow hst hin, fun hlow hst hin => blindEntry_frozen hwf ha hlow hst hin,
      fun hhigh hst => blindExit_spec hwf ha hhigh hst, fun hst hloss => openLoopEntry_spec hwf ha hst hloss⟩,
    fun s a hwf ha hlen => freezeWindowEnd_spec hwf ha hlen,
    fun s a hwf ha => ⟨fun hmode hreg hdown => regionFall_spec hwf ha hmode hreg hdown, fun hmode hheld hzero => runExit_spec hwf ha hmode hheld hzero,
      fun hmode => runExit_idle ha hmode⟩⟩

end Sys2Proof.Machine
end

section
/-!
PROOFS. Register accesses (R8, R9, R205, R257–R259, R334, R380–R385): malformed and BAR2 accesses, reads that change state, writes of words
without a behaviour of their own, and the statement.
-/

namespace Sys2Proof.Machine

/-! ## Malformed accesses (R258) -/

/-- What a read returned last, after reports. -/
theorem State.Reported.answer {s t : State} {l : List Fld} (h : s.Reported t l) (x : Sent) :
    s.Reported (t.emit x) l ∧ (t.emit x).out.getLast? = some x := ⟨h.emit x, by rw [State.emit]; simp⟩

section
variable {s : State} (w : wordsWf 0 s.regs = true)
include w

/-- An error flag with its message and its count. -/
theorem State.flagged {f : Fld} (fits : f.lo + f.width ≤ 32) (hone : f.width = 1) (v : Option Nat) (g i : Nat) :
    s.Reported ((s.sticky f v).count g i 1) [f] ∧ ((s.sticky f v).count g i 1).fget f = 1 :=
  ⟨((State.Reported.refl w [f]).sticky (by simp) fits v).count g i 1,
    (State.fget_of_regs (s := s.sticky f v) (by simp) f).trans (State.fget_sticky_self w fits hone v)⟩

theorem bar0MalformedAccess_spec (hr : s.rung ≤ 3) (bar4 : Bool) :
    (∃ t, exec (.bar0MalformedAccess bar4 true) s = .next t ∧ t.fget F.XL_FAULT.ACCESS_ERR = 1 ∧ reports s t [F.XL_FAULT.ACCESS_ERR]) ∧
    (∃ t, exec (.bar0MalformedAccess bar4 false) s = .next t ∧ t.fget F.XL_FAULT.ACCESS_ERR = 1 ∧
      t.out.getLast? = some (.readData (List.replicate 4 0xFF) false) ∧ reports s t [F.XL_FAULT.ACCESS_ERR]) := by
  obtain ⟨hrep, hset⟩ := State.flagged w (f := F.XL_FAULT.ACCESS_ERR) (by decide) rfl (some 7) 10 4
  have hexec : ∀ write, exec (.bar0MalformedAccess bar4 write) s = .next (if write then (s.sticky F.XL_FAULT.ACCESS_ERR (some 7)).count 10 4 1
      else ((s.sticky F.XL_FAULT.ACCESS_ERR (some 7)).count 10 4 1).emit (.readData (List.replicate 4 0xFF) false)) := fun write => by
    show execBar0MalformedAccess bar4 write s = _
    rw [execBar0MalformedAccess, if_neg (by omega)]
  obtain ⟨hread, hlast⟩ := hrep.answer (.readData (List.replicate 4 0xFF) false)
  exact ⟨⟨_, hexec true, hset, hrep.reports⟩, ⟨_, hexec false, hset, hlast, hread.reports⟩⟩

/-! ## BAR2 (R259) -/

theorem bar2Access_error (hr : s.rung ≤ 3) (x len : Nat) :
    (∀ data, s.bar2Reaches x data.length = false ∨ s.bar2Writes x data.length = false →
      ∃ t, exec (.bar2Access x data.length (some data)) s = .next t ∧ t.fget F.XL_FAULT.BAR2_ERR = 1 ∧ reports s t [F.XL_FAULT.BAR2_ERR]) ∧
    (s.bar2Reaches x len = false → ∃ t, exec (.bar2Access x len none) s = .next t ∧ t.fget F.XL_FAULT.BAR2_ERR = 1 ∧
      t.out.getLast? = some (.readData (List.replicate len 0xFF) false) ∧ reports s t [F.XL_FAULT.BAR2_ERR]) := by
  obtain ⟨hrep, hset⟩ := State.flagged w (f := F.XL_FAULT.BAR2_ERR) (by decide) rfl (some 7) 10 3
  obtain ⟨hread, hlast⟩ := hrep.answer (.readData (List.replicate len 0xFF) false)
  refine ⟨fun data hno => ⟨_, ?_, hset, hrep.reports⟩, fun hno =>
    ⟨((s.sticky F.XL_FAULT.BAR2_ERR (some 7)).count 10 3 1).emit (.readData (List.replicate len 0xFF) false), ?_, hset, hlast, hread.reports⟩⟩
  · show execBar2Access x data.length (some data) s = _
    rw [execBar2Access, if_pos hr, bar2Access, if_neg (by rcases hno with h | h <;> simp [h])]
    rfl
  · show execBar2Access x len none s = _
    rw [execBar2Access, if_pos hr, bar2Access, if_neg (by simp [hno])]
    rfl

end

/-- A byte of a memory after some are stored. -/
theorem spGet_memPut {m : List Host.Cell} (w : Memory.wf m = true) (a : Nat) (data : List Byte) (x : Nat) :
    spGet (0 : Byte) (memPut m a data) x = if a ≤ x ∧ x < a + data.length then data.getD (x - a) 0 else spGet (0 : Byte) m x := by
  split
  · next h =>
    have hx : x = a + (x - a) := by omega
    conv_lhs => rw [hx]
    exact memPut_inside data m a (x - a) w (by omega)
  · exact memPut_outside data m a x (by omega)

theorem bar2Access_write {s : State} (hwf : s.allWf = true) (hr : s.rung ≤ 3) (x : Nat) (data : List Byte)
    (hreach : s.bar2Reaches x data.length = true) (hwrite : s.bar2Writes x data.length = true) :
    ∃ t, exec (.bar2Access x data.length (some data)) s = .next t ∧
      (∀ a, spGet (0 : Byte) t.mem.basin a =
        if s.windowTarget (x / 2 ^ 30) = 1 ∧ s.bar2Byte x ≤ a ∧ a < s.bar2Byte x + data.length then data.getD (a - s.bar2Byte x) 0
        else spGet (0 : Byte) s.mem.basin a) ∧
      (∀ a, spGet (0 : Byte) t.mem.stack a =
        if s.windowTarget (x / 2 ^ 30) = 2 ∧ s.bar2Byte x ≤ a ∧ a < s.bar2Byte x + data.length then data.getD (a - s.bar2Byte x) 0
        else spGet (0 : Byte) s.mem.stack a) ∧ t = { s with mem := t.mem } := by
  have hstores : s.storesWf = true := by
    simp only [State.allWf, Bool.and_eq_true] at hwf
    exact hwf.1.1
  simp only [State.storesWf, Bool.and_eq_true] at hstores
  obtain ⟨⟨-, wb⟩, ws⟩ := hstores
  refine ⟨s.storeTarget (s.windowTarget (x / 2 ^ 30)) (s.bar2Byte x) data, ?_, ?_⟩
  · show execBar2Access x data.length (some data) s = _
    rw [execBar2Access, if_pos hr, bar2Access, if_pos (by simp [hreach, hwrite])]
    rfl
  · generalize s.bar2Byte x = b
    by_cases h1 : s.windowTarget (x / 2 ^ 30) = 1
    · rw [h1]
      refine ⟨fun a => ?_, fun a => ?_, rfl⟩
      · refine (spGet_memPut wb b data a).trans ?_
        simp
      · rw [if_neg (by simp)]; rfl
    · have h2 : s.windowTarget (x / 2 ^ 30) = 2 := by
        have := hreach
        unfold State.bar2Reaches at this
        dsimp only at this
        split at this
        · contradiction
        · assumption
        · cases this
      rw [h2]
      refine ⟨fun a => ?_, fun a => ?_, rfl⟩
      · rw [if_neg (by simp)]; rfl
      · refine (spGet_memPut ws b data a).trans ?_
        simp

theorem bar2Access_read {s : State} (hr : s.rung ≤ 3) (x len : Nat) (hreach : s.bar2Reaches x len = true) :
    ∃ t bad, exec (.bar2Access x len none) s = .next t ∧
      t.out = s.out ++ [.readData ((List.range len).map (fun k => if s.windowTarget (x / 2 ^ 30) = 1 then s.basinByte (s.bar2Byte x + k)
        else spGet (0 : Byte) s.mem.stack (s.bar2Byte x + k))) bad] ∧ t = { s with out := t.out, counters := t.counters } := by
  refine ⟨(if (s.readTarget (s.windowTarget (x / 2 ^ 30)) (s.bar2Byte x) len).2 then s.count 10 1 1 else s).emit
    (.readData (s.readTarget (s.windowTarget (x / 2 ^ 30)) (s.bar2Byte x) len).1 (s.readTarget (s.windowTarget (x / 2 ^ 30)) (s.bar2Byte x) len).2),
    (s.readTarget (s.windowTarget (x / 2 ^ 30)) (s.bar2Byte x) len).2, ?_, ?_⟩
  · show execBar2Access x len none s = _
    rw [execBar2Access, if_pos hr, bar2Access, if_pos hreach]
    rfl
  · split <;> exact ⟨rfl, rfl⟩

/-! ## Reads that change state (R9, R382) -/

section
variable {s : State} (hwf : s.allWf = true) (hr : s.rung ≤ 3) (off : Nat)
include hwf hr

theorem pairLoRead_spec : ∃ t, exec (.pairLoRead off) s = .next t ∧ t.out = s.out ++ [.readData (le 4 (s.readWord off).toNat) false] ∧
    (pairRegisters.contains off = true → spGet none t.link.hi off = some (s.readWord (off + 4))) ∧
    t = { s with out := t.out, link := { s.link with hi := t.link.hi } } := by
  have hhi : spWf none 0 s.link.hi = true := by
    simp only [State.allWf, State.serviceWf, Bool.and_eq_true] at hwf
    tauto
  refine ⟨pairLoRead off s, ?_, ?_⟩
  · show execPairLoRead off s = _
    rw [execPairLoRead, if_pos hr]
    rfl
  · unfold pairLoRead
    dsimp only
    split
    · exact ⟨rfl, fun _ => spGet_spSet_self none s.link.hi off _ 0 hhi, rfl⟩
    · next h => exact ⟨rfl, fun hc => absurd hc h, rfl⟩

theorem rcRead_spec : ∃ t, exec (.rcRead off) s = .next t ∧ t.out = s.out ++ [.readData (le 4 (s.readLatched off).toNat) false] ∧
    (∀ v, 4 ≤ off → pairRegisters.contains (off - 4) = true → spGet none s.link.hi (off - 4) = some v →
      t.out = s.out ++ [.readData (le 4 v.toNat) false]) ∧
    (off < 4 ∨ pairRegisters.contains (off - 4) = false → t.out = s.out ++ [.readData (le 4 (s.readWord off).toNat) false]) ∧
    (s.reaches off = true → off ≠ 0x900038 → t.word off = readLeaves (rowsOf off) (s.word off) ∧ wordsKept s t [off] ∧
      t = { s with out := t.out, regs := t.regs }) ∧
    (s.reaches off = true → off = 0x900038 → (t.queue (s.fget F.Q_SEL.QUEUE)).drops = 0 ∧ t.regs = s.regs) ∧
    (s.reaches off = false → t = { s with out := t.out }) := by
  have hqueues : spWf {} 0 s.link.queues = true := by
    simp only [State.allWf, State.serviceWf, Bool.and_eq_true] at hwf
    tauto
  have hlatched : ∀ v, 4 ≤ off → pairRegisters.contains (off - 4) = true → spGet none s.link.hi (off - 4) = some v → s.readLatched off = v := by
    intro v h4 hp hv
    rw [State.readLatched, if_pos ⟨h4, hp⟩, hv]
    rfl
  have hplain : off < 4 ∨ pairRegisters.contains (off - 4) = false → s.readLatched off = s.readWord off := by
    intro h
    rw [State.readLatched, if_neg]
    rintro ⟨h4, hp⟩
    rcases h with h | h
    · omega
    · rw [h] at hp; cases hp
  have hout : (rcRead off s).out = s.out ++ [.readData (le 4 (s.readLatched off).toNat) false] := by
    unfold rcRead
    dsimp only
    split
    · rfl
    · split <;> rfl
  refine ⟨rcRead off s, ?_, hout, fun v h4 hp hv => by rw [hout, hlatched v h4 hp hv], fun h => by rw [hout, hplain h], fun hreach hne => ?_,
    fun hreach he => ?_, fun hno => ?_⟩
  · show execRcRead off s = _
    rw [execRcRead, if_pos hr]
    rfl
  · unfold rcRead
    dsimp only
    rw [if_neg (by simp [hreach]), if_neg hne]
    exact ⟨State.word_setWord_self (s.emit _) off _ (State.regsWf_of_allWf hwf), fun x hx => State.word_setWord_ne (s.emit _) off x _ (by simpa using hx), rfl⟩
  · unfold rcRead
    dsimp only
    rw [if_neg (by simp [hreach]), if_pos he]
    refine ⟨?_, rfl⟩
    rw [State.queue_modQueue_self (s := s.emit _) hqueues]
  · unfold rcRead
    dsimp only
    rw [if_pos (by simp [hno])]
    rfl

end

/-! ## Writes (R205, R334, R383) -/

theorem ownerOf_lockLimits : ownerOf 0x500008 = 16 := by decide

section
variable {s : State} (hwf : s.allWf = true)
include hwf

omit hwf in
theorem registerWrite_reserved {off : Nat} (v : Word) (h : s.reaches off = false) : exec (.registerWrite off v) s = .next s := by
  show execRegisterWrite off v s = _
  rw [execRegisterWrite, State.hostWrite, h]
  rfl

theorem registerWrite_reloading {off n : Nat} (v : Word) (hreach : s.reaches off = true) (h : s.reloading off = some n) :
    ∃ t, exec (.registerWrite off v) s = .next t ∧ t.fget (F.POUND_STATUS.WRITE_LOST n) = 1 ∧ reports s t [F.POUND_STATUS.WRITE_LOST n] := by
  refine ⟨s.sticky (F.POUND_STATUS.WRITE_LOST n) (some 6), ?_, State.fget_sticky_self (State.regsWf_of_allWf hwf) (Nat.le_of_ble_eq_true rfl) rfl _,
    ((State.Reported.refl (State.regsWf_of_allWf hwf) _).sticky (by simp) (Nat.le_of_ble_eq_true rfl) _).reports⟩
  show execRegisterWrite off v s = _
  rw [execRegisterWrite, State.hostWrite, if_pos hreach, h]
  rfl

omit hwf in
/-- A write that is not held back goes to its block. -/
theorem exec_registerWrite {off : Nat} (v : Word) (hreach : s.reaches off = true) (h : s.reloading off = none) :
    exec (.registerWrite off v) s = .next (s.writeBlock off v) := by
  show execRegisterWrite off v s = _
  rw [execRegisterWrite, State.hostWrite, if_pos hreach, h]
  rfl

theorem State.plainWrite_spec (off : Nat) (v : Word) : (s.plainWrite off v).word off = s.written off v ∧ wordsKept s (s.plainWrite off v) [off] ∧
    s.plainWrite off v = { s with regs := (s.plainWrite off v).regs } :=
  ⟨State.word_setWord_self s off _ (State.regsWf_of_allWf hwf), fun x hx => State.word_setWord_ne s off x _ (by simpa using hx), rfl⟩

theorem registerWrite_plain {off : Nat} (v : Word) (hreach : s.reaches off = true) (h : s.reloading off = none) (hlo : 0x700000 ≤ off)
    (hhi : off < 0x900000) : ∃ t, exec (.registerWrite off v) s = .next t ∧ t.word off = writeWord (rowsOf off) false v (s.word off) ∧
      wordsKept s t [off] ∧ t = { s with regs := t.regs } := by
  obtain ⟨hword, hkept, hframe⟩ := State.plainWrite_spec hwf off v
  have hblock : s.writeBlock off v = s.plainWrite off v := by
    have hb : off / 0x100000 = 7 ∨ off / 0x100000 = 8 := by omega
    unfold State.writeBlock
    dsimp only
    rcases hb with h7 | h8
    · rw [h7]; rfl
    · rw [h8]; rfl
  have hlocked : s.unlockedAt off = false := by
    rw [State.unlockedAt, decide_eq_false (by omega), Bool.false_and]
  refine ⟨_, (exec_registerWrite v hreach h).trans (congrArg _ hblock), ?_, hkept, hframe⟩
  rw [hword, State.written, hlocked]

omit hwf in
theorem reloading_lockLimits : s.reloading 0x500008 = none := by
  rw [State.reloading, ownerOf_lockLimits]
  rfl

omit hwf in
theorem writeBlock_lockLimits (v : Word) : s.writeBlock 0x500008 v = s.settingWrite 0x500008 v := by
  show s.writeLockBlock 8 v = _
  rw [State.writeLockBlock, if_pos (by decide)]

theorem registerWrite_ignored (v : Word) (hreach : s.reaches 0x500008 = true) (hact : s.active = false) (hne : s.written 0x500008 v ≠ s.word 0x500008) :
    ∃ t, exec (.registerWrite 0x500008 v) s = .next t ∧ t.fget F.PAIR_STATUS.WRITE_IGN = 1 ∧ t = { s with regs := t.regs } ∧
      fieldsKept s t [F.PAIR_STATUS.WRITE_IGN] := by
  have hw := (State.Writes.refl (State.regsWf_of_allWf hwf) [F.PAIR_STATUS.WRITE_IGN]).fset (f := F.PAIR_STATUS.WRITE_IGN) (by simp) (by decide) 1
  refine ⟨s.fset F.PAIR_STATUS.WRITE_IGN 1, ?_, State.fget_fset_self s _ 1 (by decide) (State.regsWf_of_allWf hwf), hw.frame, hw.kept⟩
  rw [exec_registerWrite v hreach reloading_lockLimits, writeBlock_lockLimits, State.settingWrite, State.mirrorWrite, if_neg (by simp [hact]),
    if_pos (decide_eq_true hne)]

theorem registerWrite_journalled (v : Word) (hreach : s.reaches 0x500008 = true) (hact : s.active = true) :
    ∃ t, exec (.registerWrite 0x500008 v) s = .next t ∧ t.word 0x500008 = s.written 0x500008 v ∧ wordsKept s t [0x500008] := by
  obtain ⟨hword, hkept, -⟩ := State.plainWrite_spec hwf 0x500008 v
  have hregs : (s.settingWrite 0x500008 v).regs = (s.plainWrite 0x500008 v).regs := by
    rw [State.settingWrite, State.mirrorWrite, if_pos hact]
    dsimp only
    split
    · rfl
    · rw [State.sendJournal_regs]
  have hsame : ∀ x, (s.settingWrite 0x500008 v).word x = (s.plainWrite 0x500008 v).word x := fun x => by rw [State.word, State.word, hregs]
  refine ⟨s.settingWrite 0x500008 v, ?_, (hsame _).trans hword, fun x hx => (hsame x).trans (hkept x hx)⟩
  rw [exec_registerWrite v hreach reloading_lockLimits, writeBlock_lockLimits]

end

/-! ## The configuration space (R257) -/

/-- The link with its two bits of the configuration space. -/
def State.configured (s : State) (d3 bm : Bool) : State := { s with link := { s.link with d3hot := d3, busMaster := bm } }

theorem State.msix_frame (s : State) (v : Nat) : s.msix v =
    { s with link := { s.link with msixPend := (s.msix v).link.msixPend }, out := (s.msix v).out, counters := (s.msix v).counters } := by
  unfold State.msix
  split <;> rfl

/-- The messages that waited leave, or wait again; nothing else changes. -/
theorem State.msixFlush_frame (s : State) : s.msixFlush =
    { s with link := { s.link with msixPend := s.msixFlush.link.msixPend }, out := s.msixFlush.out, counters := s.msixFlush.counters } :=
  List.foldlRecOn (motive := fun u : State => u = { s with link := { s.link with msixPend := u.link.msixPend }, out := u.out, counters := u.counters })
    s.link.msixPend State.msix rfl fun u hu v _ => by
      have h := State.msix_frame u v
      generalize u.msix v = x at h ⊢
      rw [h, hu]

theorem configurationWrite_spec {s : State} (hr : s.rung ≤ 3) (d3 bm : Bool) :
    ∃ t, exec (.configurationWrite d3 bm) s = .next t ∧ t.link.d3hot = d3 ∧ t.link.busMaster = bm ∧ t.link.queues = s.link.queues ∧
      t = { s with link := { s.link with d3hot := d3, busMaster := bm, msixPend := t.link.msixPend }, out := t.out, counters := t.counters } := by
  have hf := State.msixFlush_frame (s.configured d3 bm)
  refine ⟨(s.configured d3 bm).msixFlush, ?_, ?_⟩
  · show execConfigurationWrite d3 bm s = _
    rw [execConfigurationWrite, if_neg (by omega)]
    rfl
  · generalize (s.configured d3 bm).msixFlush = t at hf ⊢
    exact ⟨(congrArg (fun x : State => x.link.d3hot) hf :), (congrArg (fun x : State => x.link.busMaster) hf :),
      (congrArg (fun x : State => x.link.queues) hf :), hf⟩

/-- Settles O60: an access that fails sets its flag and is reported; one that succeeds changes the word, the bytes or the latch that it
names. -/
theorem registerAccess : Obligations.RegisterAccess := by
  unfold Obligations.RegisterAccess
  refine ⟨fun s bar4 hwf hr => bar0MalformedAccess_spec (State.regsWf_of_allWf hwf) hr bar4,
    fun s x data hwf hr => ⟨fun hreach hwrite => bar2Access_write hwf hr x data hreach hwrite,
      fun hno => (bar2Access_error (State.regsWf_of_allWf hwf) hr x 0).1 data hno⟩,
    fun s x len hwf hr => ⟨fun hreach h2 => ?_, fun hreach h1 => ?_, fun hno => (bar2Access_error (State.regsWf_of_allWf hwf) hr x len).2 hno⟩,
    fun s off hwf hr => ⟨pairLoRead_spec hwf hr off, rcRead_spec hwf hr off⟩,
    fun s off v hwf => ⟨fun h => ⟨s, registerWrite_reserved v h, rfl⟩, fun n hreach h => registerWrite_reloading hwf v hreach h,
      fun hreach h hlo hhi => registerWrite_plain hwf v hreach h hlo hhi, fun hreach hact hne => registerWrite_ignored hwf v hreach hact hne,
      fun hreach hact => registerWrite_journalled hwf v hreach hact⟩,
    fun s d3 bm hr => configurationWrite_spec hr d3 bm⟩
  · have h := bar2Access_read hr x len hreach
    simpa only [h2, show (2 = 1) = False by decide, if_false] using h
  · have h := bar2Access_read hr x len hreach
    simpa only [h1, if_true] using h

end Sys2Proof.Machine
end

section
/-!
PROOFS. The queue engine (R275–R277, R282–R285, R293): doorbells, fetches, writes to a host ring, enabling, parity and scrub, and the
statement.
-/

namespace Sys2Proof.Machine

/-- Of the queues of s, t has changed q alone, which now holds d. -/
structure State.Requeued (s : State) (q : Nat) (t : State) (d : Queue) : Prop where
  form : spWf {} 0 t.link.queues = true
  own : t.queue q = d
  others : ∀ p, p ≠ q → t.queue p = s.queue p

namespace State.Requeued

variable {s t u : State} {q : Nat} {d : Queue}

theorem refl (w : spWf {} 0 s.link.queues = true) (q : Nat) : s.Requeued q s (s.queue q) := ⟨w, rfl, fun _ _ => rfl⟩

theorem modQueue (h : s.Requeued q t d) (f : Queue → Queue) : s.Requeued q (t.modQueue q f) (f d) where
  form := spSet_wf _ _ q _ 0 (Nat.zero_le q) h.form
  own := by rw [State.queue_modQueue_self h.form, h.own]
  others p hp := (State.queue_modQueue_ne t hp f).trans (h.others p hp)

/-- What follows leaves the queues. -/
theorem of_queues (h : s.Requeued q t d) (e : u.link.queues = t.link.queues) : s.Requeued q u d := by
  have hq : ∀ p, u.queue p = t.queue p := fun p => by rw [State.queue, State.queue, e]
  exact ⟨e ▸ h.form, (hq q).trans h.own, fun p hp => (hq p).trans (h.others p hp)⟩

end State.Requeued

/-! ## Doorbells (R285) -/

section
variable {s : State} {q : Nat} (w : spWf {} 0 s.link.queues = true)
include w

theorem doorbell_spec (hq : q < 4096) (hr : s.rung ≤ 2) (ix : Nat) :
    exec (.doorbell q ix) s = .next (doorbell q ix s) ∧ s.Requeued q (doorbell q ix s) ((s.queue q).doorbell (ix % 2 ^ 32)) ∧
      doorbell q ix s = { s with counters := (doorbell q ix s).counters, link := { s.link with queues := (doorbell q ix s).link.queues } } := by
  have h := ((State.Requeued.refl w q).modQueue (fun d => d.doorbell (ix % 2 ^ 32))).of_queues (u := (s.modQueue q (fun d => d.doorbell (ix % 2 ^ 32))).count 11 5) rfl
  refine ⟨?_, ?_, ?_⟩
  · show ifOk (Instr.wf (.doorbell q ix)) (if s.rung ≤ 2 then doorbell q ix s else s) = _
    rw [if_pos hr]
    exact if_pos (decide_eq_true hq)
  · rw [doorbell]
    split
    · exact h
    · exact h.of_queues rfl
  · rw [doorbell]
    split <;> rfl

omit w in
theorem Queue.doorbell_taken {d : Queue} {i : Nat} (hen : d.en = true) (hok : d.mayRing i = true) :
    d.doorbell i = { d with hostIdx := i, sent := d.sent && decide (i = d.hostIdx) } := by
  rw [Queue.doorbell, hen, hok]; rfl

omit w in
theorem Queue.doorbell_bad {d : Queue} {i : Nat} (h : d.en = false ∨ d.mayRing i = false) : d.doorbell i = { d with dbErr := true } := by
  rw [Queue.doorbell, if_neg (by rcases h with h | h <;> simp [h])]

/-! ## Fetches (R283) -/

omit w in
/-- A fetched command keeps its own sequence number. -/
theorem Queue.link_fetched (d e : Queue) (cells : List (List Byte)) (poison : List Nat) :
    (d.link (fetchedItem e cells poison)).items = d.items ++ [fetchedItem e cells poison] := rfl

/-- A queue after a fetched command. -/
def Queue.fetched (it : Item) (d : Queue) : Queue := { d.link it with devIdx := (d.devIdx + it.len) % 2 ^ 32 }

theorem h2dFetch_spec (hq : q < 4096) {cells : List (List Byte)} (poison : List Nat)
    (hcells : cells.all (fun c => decide (c.length = 64)) = true) (hmoves : s.queueMoves q false = true)
    (hlen : cells.length = (fetchedItem (s.queue q) cells poison).len)
    (hring : (fetchedItem (s.queue q) cells poison).len ≤ ((s.queue q).hostIdx + 2 ^ 32 - (s.queue q).devIdx) % 2 ^ 32)
    (hpos : 0 < (fetchedItem (s.queue q) cells poison).len) (hroom : s.fullFor q (fetchedItem (s.queue q) cells poison).len = false)
    (hen : (s.queue (s.queue q).cq).en = true) (hdir : (s.queue (s.queue q).cq).dir = true) :
    ∃ t b, exec (.h2dFetch q cells poison) s = .next t ∧ s.Requeued q t ((s.queue q).fetched (fetchedItem (s.queue q) cells poison)) ∧
      t.out = s.out ++ [.hostWrite queueCtx (s.queue q).wb b (s.noSnoop queueCtx (s.queue q).wb)] ∧
      t = { s with counters := t.counters, out := t.out, link := { s.link with queues := t.link.queues } } := by
  have hexec : exec (.h2dFetch q cells poison) s = .next (h2dFetch q cells poison s) := by
    show ifOk (Instr.wf (.h2dFetch q cells poison)) _ = _
    exact if_pos (by simp [Instr.wf, okQueue, hq, hcells])
  have hstep : h2dFetch q cells poison s =
      (if poison = [] then (s.modQueue q (Queue.fetched (fetchedItem (s.queue q) cells poison))).count 11 0
        else ((s.modQueue q (Queue.fetched (fetchedItem (s.queue q) cells poison))).count 11 0).count 10 7).writeBack q := by
    unfold h2dFetch
    dsimp only
    rw [if_pos (by simp [hmoves, hlen, hpos, hroom, hen, hdir]; exact hring)]
    rfl
  rw [hexec, hstep]
  generalize fetchedItem (s.queue q) cells poison = it
  have h := (State.Requeued.refl w q).modQueue (Queue.fetched it)
  have hwb : ((s.modQueue q (Queue.fetched it)).queue q).wb = (s.queue q).wb := by rw [h.own]; rfl
  split
  · exact ⟨_, _, rfl, h.of_queues rfl, congrArg (fun a => s.out ++ [Sent.hostWrite queueCtx a _ (s.noSnoop queueCtx a)]) hwb, rfl⟩
  · exact ⟨_, _, rfl, h.of_queues rfl, congrArg (fun a => s.out ++ [Sent.hostWrite queueCtx a _ (s.noSnoop queueCtx a)]) hwb, rfl⟩

/-! ## Writes to a host ring (R284) -/

/-- The cells of an item written to a host ring, each to its slot. -/
def State.cellWrites (s : State) (d : Queue) (i : Item) : List Sent :=
  (List.range i.len).map (fun k =>
    let a := d.ringAddr + 64 * ((d.devIdx + k) % 2 ^ 32 % d.ringSize)
    .hostWrite queueCtx a ((i.bytes.drop (64 * k)).take 64) (s.noSnoop queueCtx a))

omit w in
theorem State.noSnoop_congr {s t : State} (hregs : t.regs = s.regs) (hcache : t.link.cache = s.link.cache) (ctx a : Nat) :
    t.noSnoop ctx a = s.noSnoop ctx a := by
  rw [State.noSnoop, State.noSnoop, State.bit, State.bit, State.fget_of_regs hregs, State.cached, State.cached, hcache]

omit w in
theorem State.cellWrites_congr {s t : State} (hregs : t.regs = s.regs) (hcache : t.link.cache = s.link.cache) (d : Queue) (i : Item) :
    t.cellWrites d i = s.cellWrites d i :=
  List.map_congr_left fun _ _ => by dsimp only; rw [State.noSnoop_congr hregs hcache]

omit w in
theorem State.writeCells_out (s : State) (d : Queue) (i : Item) :
    s.writeCells d i = { s with out := (s.writeCells d i).out } ∧ (s.writeCells d i).out = s.out ++ s.cellWrites d i := by
  unfold State.writeCells State.cellWrites
  generalize List.range i.len = ks
  induction ks using List.reverseRecOn with
  | nil => exact ⟨rfl, (List.append_nil _).symm⟩
  | append_singleton ks k ih =>
    obtain ⟨hframe, hout⟩ := ih
    rw [List.foldl_append, List.map_append, ← List.append_assoc, ← hout]
    generalize ks.foldl _ s = u at hframe ⊢
    rw [hframe]
    exact ⟨rfl, rfl⟩

/-- A queue without its oldest item of a priority. -/
def Queue.popped (i : Item) (d : Queue) : Queue := { d with items := removeFirst i.prio d.items }

/-- A queue whose cells up to an item's length further are written. -/
def Queue.moved (i : Item) (d : Queue) : Queue := { d with devIdx := (d.devIdx + i.len) % 2 ^ 32 }

omit w in
theorem State.pop_item {i : Item} (hb : (s.queue q).broken = false) (hhead : (s.queue q).head? = some i) (hkind : i.kind ≠ 6) :
    s.pop q = (some i, (s.modQueue q fun _ => (s.queue q).popped i).count 11 1) := by
  unfold State.pop
  dsimp only
  rw [if_neg (by simp [hb]), hhead]
  dsimp only
  rw [if_neg hkind]
  rfl

/-- The control loops, the memories and the lock cycles of t are those of s. -/
structure State.Stays (t s : State) : Prop where
  steer : t.steer = s.steer
  mem : t.mem = s.mem
  lock : t.lock = s.lock

omit w in
theorem State.Stays.trans {s t u : State} (h : u.Stays t) (k : t.Stays s) : u.Stays s :=
  ⟨h.steer.trans k.steer, h.mem.trans k.mem, h.lock.trans k.lock⟩

omit w in
/-- A written item moves the ring's index on, notes a poisoned word, and is followed by the write-back. -/
theorem State.Requeued.writeBack {v : State} {d : Queue} (h : s.Requeued q v d) (wr : wordsWf 0 v.regs = true) (i : Item) :
    ∃ l, s.Requeued q (((v.modQueue q (Queue.moved i)).notePoison i).writeBack q) (d.moved i) ∧
      (((v.modQueue q (Queue.moved i)).notePoison i).writeBack q).out = v.out ++ l ∧
      (i.poison ≠ 0 → (((v.modQueue q (Queue.moved i)).notePoison i).writeBack q).fget F.QP_CTRL.POISON = 1) ∧
      (((v.modQueue q (Queue.moved i)).notePoison i).writeBack q).Stays v := by
  have hm := h.modQueue (Queue.moved i)
  have hr : wordsWf 0 (v.modQueue q (Queue.moved i)).regs = true := wr
  have hs : (v.modQueue q (Queue.moved i)).Stays v := ⟨rfl, rfl, rfl⟩
  have ho : (v.modQueue q (Queue.moved i)).out = v.out := rfl
  generalize v.modQueue q (Queue.moved i) = x at hm hr hs ho ⊢
  rw [State.notePoison, ← ho]
  split
  · exact ⟨_, hm.of_queues rfl, rfl, fun _ => State.fget_fset_self x _ 1 (by decide) hr, ⟨hs.steer, hs.mem, hs.lock⟩⟩
  · next hp => exact ⟨_, hm.of_queues rfl, rfl, fun hne => absurd (Or.inl hne) hp, ⟨hs.steer, hs.mem, hs.lock⟩⟩

omit w in
/-- The queue's message: nothing but its own mark, and what waits to be sent. -/
theorem State.Requeued.queueMessage {t : State} {d : Queue} (h : s.Requeued q t d) :
    ∃ m l, s.Requeued q (t.queueMessage q) { d with sent := m } ∧ (t.queueMessage q).out = t.out ++ l ∧ (t.queueMessage q).regs = t.regs ∧
      (t.queueMessage q).Stays t := by
  unfold State.queueMessage
  dsimp only
  split
  · have hm : ∃ l, (t.msix (t.queue q).vector).out = t.out ++ l := by
      unfold State.msix
      split
      · exact ⟨[], (List.append_nil _).symm⟩
      · exact ⟨_, rfl⟩
    have hf := State.msix_frame t (t.queue q).vector
    obtain ⟨l, hl⟩ := hm
    generalize t.msix (t.queue q).vector = u at hf hl ⊢
    have hk := (h.of_queues (u := u) (by rw [hf])).modQueue (fun d => { d with sent := true })
    exact ⟨true, l, hk, hl, (congrArg State.regs hf :), ⟨(congrArg State.steer hf :), (congrArg State.mem hf :), (congrArg State.lock hf :)⟩⟩
  · exact ⟨d.sent, [], h, (List.append_nil _).symm, rfl, rfl, rfl, rfl⟩

theorem d2hWrite_spec (wr : wordsWf 0 s.regs = true) (hq : q < 4096) {i : Item} (hhead : (s.queue q).head? = some i) (hkind : i.kind ≠ 6)
    (hmoves : s.queueMoves q true = true) :
    (((s.queue q).devIdx + 2 ^ 32 - (s.queue q).hostIdx) % 2 ^ 32 + i.len ≤ (s.queue q).ringSize →
      ∃ t l m, exec (.d2hWrite q) s = .next t ∧ s.Requeued q t { ((s.queue q).popped i).moved i with sent := m } ∧
        t.out = s.out ++ s.cellWrites (s.queue q) i ++ l ∧ (i.poison ≠ 0 → t.fget F.QP_CTRL.POISON = 1) ∧ t.Stays s) ∧
    ((s.queue q).ringSize < ((s.queue q).devIdx + 2 ^ 32 - (s.queue q).hostIdx) % 2 ^ 32 + i.len →
      ∃ t, exec (.d2hWrite q) s = .next t ∧ t = s) := by
  have hexec : exec (.d2hWrite q) s = .next (d2hWrite q s) := by
    show ifOk (Instr.wf (.d2hWrite q)) (d2hWrite q s) = _
    exact if_pos (decide_eq_true hq)
  refine ⟨fun hfits => ?_, fun hfull => ⟨_, hexec, ?_⟩⟩
  · have hb : (s.queue q).broken = false := by
      simp only [State.queueMoves, Bool.and_eq_true, Bool.not_eq_true'] at hmoves
      tauto
    have hstep : d2hWrite q s = ((((((s.modQueue q fun _ => (s.queue q).popped i).count 11 1).writeCells (s.queue q) i).modQueue q
        (Queue.moved i)).notePoison i).writeBack q).queueMessage q := by
      unfold d2hWrite
      dsimp only
      rw [hhead]
      dsimp only
      rw [if_pos (Bool.and_eq_true_iff.mpr ⟨hmoves, decide_eq_true hfits⟩), State.pop_item hb hhead hkind]
      rfl
    rw [hexec, hstep]
    have hpop : s.Requeued q ((s.modQueue q fun _ => (s.queue q).popped i).count 11 1) ((s.queue q).popped i) :=
      ((State.Requeued.refl w q).modQueue fun _ => (s.queue q).popped i).of_queues rfl
    have hcells : ((s.modQueue q fun _ => (s.queue q).popped i).count 11 1).cellWrites (s.queue q) i = s.cellWrites (s.queue q) i :=
      State.cellWrites_congr rfl rfl _ i
    have hform : wordsWf 0 ((s.modQueue q fun _ => (s.queue q).popped i).count 11 1).regs = true := wr
    have hkeeps : ((s.modQueue q fun _ => (s.queue q).popped i).count 11 1).Stays s := ⟨rfl, rfl, rfl⟩
    have hout : ((s.modQueue q fun _ => (s.queue q).popped i).count 11 1).out = s.out := rfl
    generalize (s.modQueue q fun _ => (s.queue q).popped i).count 11 1 = u at hpop hcells hform hkeeps hout ⊢
    obtain ⟨hframe, hwritten⟩ := u.writeCells_out (s.queue q) i
    rw [hcells, hout] at hwritten
    have hring : s.Requeued q (u.writeCells (s.queue q) i) ((s.queue q).popped i) := hpop.of_queues (by rw [hframe])
    replace hform : wordsWf 0 (u.writeCells (s.queue q) i).regs = true := by rw [hframe]; exact hform
    replace hkeeps : (u.writeCells (s.queue q) i).Stays s := by rw [hframe]; exact ⟨hkeeps.steer, hkeeps.mem, hkeeps.lock⟩
    generalize u.writeCells (s.queue q) i = v at hwritten hring hform hkeeps ⊢
    obtain ⟨l, hback, hbacked, hpoison, hstays⟩ := hring.writeBack hform i
    generalize ((v.modQueue q (Queue.moved i)).notePoison i).writeBack q = x at hback hbacked hpoison hstays ⊢
    obtain ⟨m, l', hlast, hsent, hregs, hstays'⟩ := hback.queueMessage
    refine ⟨_, l ++ l', m, rfl, hlast, ?_, fun hp => (State.fget_of_regs hregs _).trans (hpoison hp), (hstays'.trans (hstays.trans hkeeps))⟩
    rw [hsent, hbacked, hwritten, List.append_assoc]
  · unfold d2hWrite
    dsimp only
    rw [hhead]
    dsimp only
    rw [if_neg (by simp only [Bool.and_eq_true, decide_eq_true_eq]; omega)]

/-! ## Enabling, disabling, parity (R275, R276, R293) -/

/-- A queue as it is after EN is cleared. -/
def Queue.ended (d : Queue) : Queue := { d with en := false, items := [], gap := none, reserved := 0, stopped := false }

theorem disableQueue_spec (hen : (s.queue q).en = true) :
    s.Requeued q (disableQueue q s) (s.queue q).ended ∧ (disableQueue q s).regs = s.regs ∧ (disableQueue q s).Stays s := by
  have h := (State.Requeued.refl w q).modQueue Queue.ended
  rw [disableQueue, if_neg (by simp [hen])]
  exact ⟨h.of_queues rfl, rfl, rfl, rfl, rfl⟩

theorem enableQueue_spec (hen : (s.queue q).en = false) :
    (s.mayEnable q = true → enableQueue q s = s.modQueue q Queue.start ∧ s.Requeued q (enableQueue q s) (s.queue q).start) ∧
    (s.mayEnable q = false → enableQueue q s = s.modQueue q (fun d => { d with cfgErr := true })) := by
  rw [enableQueue, if_neg (by simp [hen])]
  refine ⟨fun h => ?_, fun h => if_neg (by simp [h])⟩
  rw [if_pos h]
  exact ⟨rfl, (State.Requeued.refl w q).modQueue Queue.start⟩

omit w in
/-- A write of EN of the queue Q_SEL names, where the block is reached. -/
theorem State.hostWrite_queueEn (hreach : s.reaches 0x900010 = true) (k : State → State) : s.hostWrite 0x900010 k = k s := by
  have hnot : s.reloading 0x900010 = none := by
    rw [State.reloading, show ownerOf 0x900010 = 16 by decide]
    rfl
  rw [State.hostWrite, if_pos hreach, hnot]

theorem queueScrub_spec (hq : q < 4096) (hb : (s.queue q).broken = true) (hen : (s.queue q).en = true) (hr : s.rung ≤ 2)
    (hmay : (disableQueue q s).mayEnable q = true) :
    ∃ t d, exec (.queueScrub q) s = .next t ∧ s.Requeued q t d ∧ d.broken = false ∧ d.en = true ∧ d.items = [] ∧ t.regs = s.regs ∧ t.Stays s := by
  obtain ⟨hoff, hregs, hstays⟩ := disableQueue_spec w hen
  have hexec : exec (.queueScrub q) s = .next (enableQueue q (disableQueue q s)) := by
    show ifOk (Instr.wf (.queueScrub q)) (if (s.queue q).broken && decide (s.rung ≤ 2) then _ else s) = _
    rw [if_pos (Bool.and_eq_true_iff.mpr ⟨hb, decide_eq_true hr⟩)]
    exact if_pos (decide_eq_true hq)
  generalize disableQueue q s = u at hoff hregs hstays hmay hexec
  obtain ⟨heq, -⟩ := (enableQueue_spec hoff.form (by rw [hoff.own]; rfl)).1 hmay
  exact ⟨_, _, hexec.trans (congrArg _ heq), hoff.modQueue Queue.start, rfl, rfl, rfl, hregs, ⟨hstays.steer, hstays.mem, hstays.lock⟩⟩

theorem linkParityFail_spec (wr : wordsWf 0 s.regs = true) (hq : q < 4096) (hb : (s.queue q).broken = false) (hen : (s.queue q).en = true) :
    ∃ t, exec (.linkParityFail q) s = .next t ∧ (t.queue q).broken = true ∧ t.fget F.QP_CTRL.LINK_ERR = 1 ∧ t.fget F.QP_CTRL.LAST_BROKEN = q ∧
      reports s t [F.QP_CTRL.LINK_ERR, F.QP_CTRL.LAST_BROKEN] := by
  have hm := (State.Requeued.refl w q).modQueue (fun d => { d with broken := true })
  have hrep : s.Reported (s.modQueue q fun d => { d with broken := true }) [F.QP_CTRL.LINK_ERR, F.QP_CTRL.LAST_BROKEN] :=
    ⟨wr, State.modQueue_reports s q _ _⟩
  have hexec : exec (.linkParityFail q) s = .next (((((s.modQueue q fun d => { d with broken := true }).fset F.QP_CTRL.LINK_ERR 1).fset
      F.QP_CTRL.LAST_BROKEN q).logEntry 6 9 .component .queue 0 q).count 11 4) := by
    show ifOk (Instr.wf (.linkParityFail q)) (if (s.queue q).en && !(s.queue q).broken then _ else s) = _
    rw [if_pos (by simp [hen, hb])]
    exact if_pos (decide_eq_true hq)
  have hbroken : ((s.modQueue q fun d => { d with broken := true }).queue q).broken = true := by rw [hm.own]
  generalize (s.modQueue q fun d => { d with broken := true }) = u at hrep hbroken hexec
  have herr := hrep.fset (f := F.QP_CTRL.LINK_ERR) (by simp) (by decide) 1
  have hone : (u.fset F.QP_CTRL.LINK_ERR 1).fget F.QP_CTRL.LINK_ERR = 1 := State.fget_fset_self u _ 1 (by decide) hrep.form
  have hq' : (u.fset F.QP_CTRL.LINK_ERR 1).queue q = u.queue q := rfl
  rw [← hq'] at hbroken
  generalize u.fset F.QP_CTRL.LINK_ERR 1 = v at herr hone hbroken hexec
  have hlast := herr.fset (f := F.QP_CTRL.LAST_BROKEN) (by simp) (by decide) q
  have hid : (v.fset F.QP_CTRL.LAST_BROKEN q).fget F.QP_CTRL.LAST_BROKEN = q :=
    (State.fget_fset_self v _ q (by decide) herr.form).trans (Nat.mod_eq_of_lt hq)
  have hkeep : (v.fset F.QP_CTRL.LAST_BROKEN q).fget F.QP_CTRL.LINK_ERR = 1 :=
    (State.fget_fset_apart v _ _ q (by decide) herr.form (Fld.apart_of_test (by decide))).trans hone
  have hq'' : (v.fset F.QP_CTRL.LAST_BROKEN q).queue q = v.queue q := rfl
  rw [← hq''] at hbroken
  generalize v.fset F.QP_CTRL.LAST_BROKEN q = x at hlast hid hkeep hbroken hexec
  have hlog := ((State.Reported.refl hlast.form []).logEntry (sev := 6) (by decide) 9 .component .queue 0 q 0).count 11 4 1
  refine ⟨_, hexec, ?_, (hlog.fget (apart_of_test (by decide))).trans hkeep, (hlog.fget (apart_of_test (by decide))).trans hid,
    (hlast.trans (hlog.mono (by simp))).reports⟩
  have hlinks : ((x.logEntry 6 9 .component .queue 0 q).count 11 4).linkRest = x.linkRest := by simp
  rw [State.queue_eq_of_queues (queues_of_linkRest hlinks)]
  exact hbroken

end

/-- Settles O58: every operation of the queue engine changes the queue it names, and of the others none. -/
theorem queueEngine : Obligations.QueueEngine := by
  unfold Obligations.QueueEngine
  refine ⟨fun s q ix hwf hq hr => ?_, fun s q cells poison hwf hq hcells hmoves => ?_, fun s q i hwf hq hhead hkind hmoves => ?_,
    fun s hwf hheld hr => ?_, fun s q hwf hreach hsel => ?_, fun s q hwf hq => ⟨fun hb hen hr hmay => ?_, fun hb hen => ?_⟩⟩
  all_goals have w := State.queuesWf_of_allWf hwf
  all_goals have wr := State.regsWf_of_allWf hwf
  · obtain ⟨hexec, hown, hframe⟩ := doorbell_spec w hq hr ix
    refine ⟨fun hen hok => ?_, fun hbad => ⟨_, hexec, hown.own.trans (Queue.doorbell_bad hbad), hown.others, hframe⟩⟩
    have hdoor := hown.own.trans (Queue.doorbell_taken hen hok)
    exact ⟨_, hexec, by rw [hdoor], by rw [hdoor], by rw [hdoor], hown.others, hframe⟩
  · intro it hlen hring hpos hroom hen hdir
    obtain ⟨t, b, hexec, hown, hout, hframe⟩ := h2dFetch_spec w hq poison hcells hmoves hlen hring hpos hroom hen hdir
    exact ⟨t, hexec, by rw [hown.own]; exact Queue.link_fetched .., by rw [hown.own]; rfl, hown.others, ⟨b, hout⟩, hframe⟩
  · obtain ⟨hfits, hfull⟩ := d2hWrite_spec w wr hq hhead hkind hmoves
    refine ⟨fun h => ?_, hfull⟩
    obtain ⟨t, l, m, hexec, hown, hout, hpoison, hsteer, hmem, hlock⟩ := hfits h
    exact ⟨t, l, hexec, by rw [hown.own]; rfl, by rw [hown.own]; rfl, hown.others, hout, hpoison, hsteer, hmem, hlock⟩
  · have hw := (State.Writes.refl wr [F.QP_CTRL.READY]).fset (f := F.QP_CTRL.READY) (by simp) (by decide) 1
    refine ⟨s.fset F.QP_CTRL.READY 1, ?_, State.fget_fset_self s _ 1 (by decide) wr, hw.frame, hw.kept⟩
    show execPoolInitialisation s = _
    rw [execPoolInitialisation, if_neg (by rw [hheld, decide_eq_false (by omega)]; decide)]
  · have hon : exec .queueEnable s = .next (enableQueue q s) := by
      show execQueueEnable s = _
      rw [execQueueEnable, State.hostWrite_queueEn hreach, hsel]
    refine ⟨fun hen hmay => ?_, fun hen hmay => ⟨_, hon, (enableQueue_spec w hen).2 hmay⟩, fun hen => ?_⟩
    · obtain ⟨heq, hown⟩ := (enableQueue_spec w hen).1 hmay
      exact ⟨_, hon, heq, by rw [hown.own]; rfl, by rw [hown.own]; rfl, by rw [hown.own]; rfl, by rw [hown.own]; rfl, by rw [hown.own]; rfl⟩
    · obtain ⟨hown, hregs, hstays⟩ := disableQueue_spec w hen
      refine ⟨disableQueue q s, ?_, hown.own, hown.others, hregs, hstays.steer, hstays.mem, hstays.lock⟩
      show execQueueDisable s = _
      rw [execQueueDisable, State.hostWrite_queueEn hreach, hsel]
  · obtain ⟨t, d, hexec, hown, hbroken, hd, hitems, hregs, hstays⟩ := queueScrub_spec w hq hb hen hr hmay
    exact ⟨t, hexec, by rw [hown.own, hbroken], by rw [hown.own, hd], by rw [hown.own, hitems], hown.others, hregs, hstays.steer, hstays.mem⟩
  · exact linkParityFail_spec w wr hq hb hen

end Sys2Proof.Machine
end

section
/-!
PROOFS. The power manager (R297–R300, R104): the paces shown, the voltage, what bounds it, the halts for core current, POWER_CAP and the
loss of a phase, and the statement.
-/

namespace Sys2Proof.Machine

/-! ## Halts and releases for the core current (R299) -/

/-- The pace of array n is shown as R104 has it: where the array is not at work it reads 0. -/
def State.PaceShown (s : State) (n : Nat) : Prop := (1 ≤ s.arrayState n ∧ s.arrayState n ≤ 3) ∨ s.fget (paceField n) = 0

/-- A field in none of the words that halts and releases write: the array words, the paces and HALTED. -/
def Fld.aside (g : Fld) : Prop := (g.off < 0x700000 ∧ g.off ≠ 0x100014) ∨ 0x700014 ≤ g.off

/-- What a step of the power manager may do: fields of l and what halts and releases write, the tows, the counters and its own notes, while
no pace shows that should read 0. -/
structure State.Paced (s t : State) (l : List Fld) : Prop where
  form : wordsWf 0 t.regs = true
  frame : t = { s with regs := t.regs, counters := t.counters, tows := t.tows, power := t.power, free := t.free }
  spaces : t.tows.spaces = s.tows.spaces
  phases : t.power.phases = s.power.phases
  waits : t.power.capWaits = s.power.capWaits
  kept : ∀ g : Fld, g.aside → (∀ f ∈ l, Fld.apart f g) → t.fget g = s.fget g
  paces : ∀ n, n < 4 → s.PaceShown n → t.PaceShown n

/-- A field of the words that halts write, apart from the states and the paces. -/
structure Fld.Beside (f : Fld) : Prop where
  fits : f.lo + f.width ≤ 32
  near : (0x700000 ≤ f.off ∨ f.off = 0x100014) ∧ f.off < 0x700014
  state : ∀ n, n < 4 → Fld.apart f (F.ARRAY_STATUS.STATE n)
  pace : ∀ n, n < 4 → Fld.apart f (paceField n)

theorem Fld.aside_apart {f g : Fld} (hf : (0x700000 ≤ f.off ∨ f.off = 0x100014) ∧ f.off < 0x700014) (hg : g.aside) : Fld.apart f g :=
  .inl (by unfold Fld.aside at hg; omega)

namespace State.Paced

variable {s t u : State} {l m : List Fld}

theorem refl (w : wordsWf 0 s.regs = true) (l : List Fld) : s.Paced s l := ⟨w, rfl, rfl, rfl, rfl, fun _ _ _ => rfl, fun _ _ => id⟩

theorem trans (h : s.Paced t l) (k : t.Paced u l) : s.Paced u l :=
  ⟨k.form, by rw [k.frame, h.frame], k.spaces.trans h.spaces, k.phases.trans h.phases, k.waits.trans h.waits,
    fun g hg ha => (k.kept g hg ha).trans (h.kept g hg ha), fun n hn hs => k.paces n hn (h.paces n hn hs)⟩

theorem mono (h : s.Paced t l) (hl : ∀ f ∈ l, f ∈ m) : s.Paced t m :=
  ⟨h.form, h.frame, h.spaces, h.phases, h.waits, fun g hg ha => h.kept g hg fun f hf => ha f (hl f hf), h.paces⟩

/-- A step outside the registers. -/
theorem step (h : s.Paced t l) (hregs : u.regs = t.regs)
    (hframe : u = { t with regs := u.regs, counters := u.counters, tows := u.tows, power := u.power, free := u.free })
    (hspaces : u.tows.spaces = t.tows.spaces) (hphases : u.power.phases = t.power.phases) (hwaits : u.power.capWaits = t.power.capWaits) :
    s.Paced u l :=
  h.trans ⟨by rw [hregs]; exact h.form, hframe, hspaces, hphases, hwaits, fun g _ _ => State.fget_of_regs hregs g, fun n _ hs => by
    rw [State.PaceShown, State.arrayState, State.fget_of_regs hregs, State.fget_of_regs hregs]; exact hs⟩

theorem retow (h : s.Paced t l) (tw : TowSys) (hs : tw.spaces = t.tows.spaces) : s.Paced { t with tows := tw } l := h.step rfl rfl hs rfl rfl

theorem count (h : s.Paced t l) (g i n : Nat) : s.Paced (t.count g i n) l := h.step rfl rfl rfl rfl rfl

theorem draw (h : s.Paced t l) (m : Nat) : s.Paced (t.draw m).2 l := h.step rfl rfl rfl rfl rfl

/-- A field is written apart from the states and the paces: one of the words that halts write, or one of l. -/
theorem put (h : s.Paced t l) {f : Fld} (fits : f.lo + f.width ≤ 32) (hstate : ∀ n, n < 4 → Fld.apart f (F.ARRAY_STATUS.STATE n))
    (hpace : ∀ n, n < 4 → Fld.apart f (paceField n)) (hf : f ∈ l ∨ ∀ g : Fld, g.aside → Fld.apart f g) (v : Nat) : s.Paced (t.fset f v) l :=
  h.trans ⟨t.fset_wf f v h.form, rfl, rfl, rfl, rfl,
    fun g hg ha => t.fget_fset_apart f g v fits h.form (hf.elim (ha f) fun hbeside => hbeside g hg), fun n hn hs => by
      rw [State.PaceShown, State.arrayState, t.fget_fset_apart f _ v fits h.form (hstate n hn),
        t.fget_fset_apart f _ v fits h.form (hpace n hn)]
      exact hs⟩

theorem fset (h : s.Paced t l) {f : Fld} (hf : f.Beside) (v : Nat) : s.Paced (t.fset f v) l :=
  h.put hf.fits hf.state hf.pace (.inr fun _ hg => Fld.aside_apart hf.near hg) v

/-- A field of l is written. -/
theorem shown (h : s.Paced t l) {f : Fld} (hf : f ∈ l) (fits : f.lo + f.width ≤ 32) (hoff : f.off < 0x700000) (v : Nat) : s.Paced (t.fset f v) l :=
  h.put fits (fun _ _ => .inl (by simp only [F.ARRAY_STATUS.STATE]; omega)) (fun _ _ => .inl (by simp only [paceField]; omega)) (.inl hf) v

theorem foldl {α : Type} {f : State → α → State} {is : List α} (h : s.Paced t l)
    (step : ∀ u : State, wordsWf 0 u.regs = true → ∀ i ∈ is, u.Paced (f u i) l) : s.Paced (is.foldl f t) l :=
  List.foldlRecOn (motive := fun u => s.Paced u l) is f h fun _ hu i hi => hu.trans (step _ hu.form i hi)

end State.Paced

theorem Fld.beside_halted : F.PWR_THERM.HALTED.Beside :=
  ⟨by decide, by decide, fun n _ => .inl (by simp only [F.PWR_THERM.HALTED, F.ARRAY_STATUS.STATE]; omega),
    fun n _ => .inl (by simp [F.PWR_THERM.HALTED, paceField])⟩

theorem Fld.beside_unit {m : Nat} (hm : m < 4) {f : Fld}
    (hf : f ∈ [F.ARRAY_STATUS.CLASS m, F.ARRAY_STATUS.SPACE m, F.ARRAY_STATUS.ESC m, F.ARRAY_STATUS.STARVED m, F.ARRAY_STATUS.BARGE m]) : f.Beside := by
  have hfits : f ∈ unitFields m := by simp only [unitFields, List.mem_cons] at hf ⊢; tauto
  have hoff : f.off = 0x700000 + m * 4 ∧ 3 ≤ f.lo := by
    simp only [List.mem_cons, List.not_mem_nil, or_false] at hf
    rcases hf with rfl | rfl | rfl | rfl | rfl <;> exact ⟨rfl, Nat.le_of_ble_eq_true rfl⟩
  exact ⟨unitFields_fit hfits, by omega, fun n _ => .inr (.inr hoff.2), fun n _ => .inl (by simp only [paceField]; omega)⟩

section
variable {s : State} (w : wordsWf 0 s.regs = true) (l : List Fld) {n : Nat} (hn : n < 4)
include w hn

theorem State.idle_paced : s.Paced (s.fset (F.ARRAY_STATUS.STATE n) 1) l where
  form := s.fset_wf _ 1 w
  frame := rfl
  spaces := rfl
  phases := rfl
  waits := rfl
  kept g hg _ := s.fget_fset_apart _ g 1 (by simp [F.ARRAY_STATUS.STATE]) w (Fld.aside_apart (by simp only [F.ARRAY_STATUS.STATE]; omega) hg)
  paces m hm hs := by
    by_cases e : m = n
    · subst e
      have hone : (s.fset (F.ARRAY_STATUS.STATE m) 1).arrayState m = 1 := State.fget_fset_self s _ 1 (by simp [F.ARRAY_STATUS.STATE]) w
      exact .inl (by omega)
    · rw [State.PaceShown, State.arrayState, s.fget_fset_apart _ _ 1 (by simp [F.ARRAY_STATUS.STATE]) w
        (.inl (by simp only [F.ARRAY_STATUS.STATE]; omega)), s.fget_fset_apart _ _ 1 (by simp [F.ARRAY_STATUS.STATE]) w
        (.inl (by simp only [F.ARRAY_STATUS.STATE, paceField]; omega))]
      exact hs

theorem State.setArray_paced (st : Nat) (hst : ¬(1 ≤ st ∧ st ≤ 3)) : s.Paced (s.setArray n st) l where
  form := (State.setArray_writes w hn st).form
  frame := by rw [(State.setArray_writes w hn st).frame]
  spaces := by rw [(State.setArray_writes w hn st).frame]
  phases := by rw [(State.setArray_writes w hn st).frame]
  waits := by rw [(State.setArray_writes w hn st).frame]
  kept g hg _ := (State.setArray_writes w hn st).fget fun f hf => by
    simp only [List.mem_cons, List.not_mem_nil, or_false] at hf
    rcases hf with rfl | rfl
    · exact Fld.aside_apart (by simp only [F.ARRAY_STATUS.STATE]; omega) hg
    · exact Fld.aside_apart (by simp [paceField]) hg
  paces m hm hs := by
    by_cases e : n = m
    · subst e
      refine .inr ?_
      unfold State.setArray
      dsimp only
      rw [if_neg hst]
      exact State.fget_fset_self _ _ 0 (by simp only [paceField]; omega) (s.fset_wf _ _ w)
    · rw [State.PaceShown, State.arrayState_setArray_ne w hn hm e, (State.setArray_writes w hn st).fget fun f hf => ?_]
      · exact hs
      simp only [List.mem_cons, List.not_mem_nil, or_false] at hf
      rcases hf with rfl | rfl
      · exact .inl (by simp only [F.ARRAY_STATUS.STATE, paceField]; omega)
      · simp only [Fld.apart, paceField]; omega

theorem leaveArray_paced : s.Paced (leaveArray s n) l := by
  have hidle : s.Paced (if s.arrayState n = 2 ∨ s.arrayState n = 3 then s.fset (F.ARRAY_STATUS.STATE n) 1 else s) l := by
    split
    · exact State.idle_paced w l hn
    · exact State.Paced.refl w l
  exact ((((hidle.fset (Fld.beside_unit hn (by simp)) 3).fset (Fld.beside_unit hn (by simp)) 0).fset (Fld.beside_unit hn (by simp)) 0).fset
    (Fld.beside_unit hn (by simp)) 0).fset (Fld.beside_unit hn (by simp)) 0

theorem State.leaveUnit_paced : s.Paced (s.leaveUnit n) l := by
  have hfold : s.Paced ((s.unitArrays n).foldl leaveArray s) l :=
    (State.Paced.refl w l).foldl fun u wu m hm => leaveArray_paced wu l (s.unitArrays_lt hn hm)
  rw [State.leaveUnit_eq]
  exact hfold.retow _ rfl

theorem State.haltUnit_paced : s.Paced (s.haltUnit n) l := by
  unfold State.haltUnit
  split
  · next t ht =>
    have hon : t.phase = .running n := (TowPhase.onUnit_iff _ _).mp (List.find?_some (p := fun x : Tow => x.phase.onUnit n) ht)
    split
    · exact State.Paced.refl w l
    · refine State.Paced.count ?_ 7 12 1
      have hleave := State.leaveUnit_paced w l hn
      have hframe := State.saveTow_frame w hon .ready
      generalize s.saveTow t .ready = u at hframe ⊢
      have hregs : u.regs = (s.leaveUnit n).regs := (congrArg State.regs hframe :)
      refine ⟨by rw [hregs]; exact hleave.form, ?_, ?_, ?_, ?_, fun g hg ha => ?_, fun m hm hs => ?_⟩
      · rw [hframe]
      · rw [hframe]
      · rw [hframe]
      · rw [hframe]
      · rw [State.fget_of_regs hregs, hleave.kept g hg ha]
      · rw [State.PaceShown, State.arrayState, State.fget_of_regs hregs, State.fget_of_regs hregs]
        exact hleave.paces m hm hs
  · exact State.Paced.refl w l

theorem State.haltArrays_paced : s.Paced (s.haltArrays n) l := by
  by_cases h : s.haltList n = []
  · have hno : s.haltArrays n = s := if_pos h
    rw [hno]
    exact State.Paced.refl w l
  · rw [State.haltArrays_eq h]
    refine (State.haltUnit_paced w l hn).foldl fun u wu m hm => ?_
    have hset := State.setArray_paced wu l (s.unitArrays_lt hn (List.mem_filter.mp hm).1) 4 (by decide)
    unfold haltArray
    dsimp only
    split
    · exact (hset.fset Fld.beside_halted _).count 13 6 1
    · exact hset

theorem State.unhalt_paced : s.Paced (s.unhalt n) l := by
  unfold State.unhalt
  split
  · exact State.idle_paced w l hn
  · exact State.Paced.refl w l

end

section
variable {s : State} (w : wordsWf 0 s.regs = true) (l : List Fld)
include w

theorem State.haltResting_paced : s.Paced s.haltResting l :=
  (State.Paced.refl w l).foldl fun u wu n hn => by
    split
    · exact State.haltArrays_paced wu l (List.mem_range.mp hn)
    · exact State.Paced.refl wu l

theorem State.unhaltAll_paced : s.Paced s.unhaltAll l :=
  (State.Paced.refl w l).foldl fun _ wu _ hn => State.unhalt_paced wu l (List.mem_range.mp hn)

theorem State.currentHalts_paced (slow current : Nat) : s.Paced (s.currentHalts slow current) l := by
  unfold State.currentHalts
  split
  · split
    · next u _ _ =>
      have h := (State.Paced.refl w l).retow { s.tows with currentHalt := s.tows.currentHalt ++ s.unitArrays u } rfl
      exact h.trans (State.haltResting_paced h.form l)
    · exact State.Paced.refl w l
  · split
    · have hdraw := (State.Paced.refl w l).draw 2
      rw [show s.draw 2 = ((s.draw 2).1, (s.draw 2).2) from rfl]
      dsimp only
      generalize (s.draw 2).2 = u at hdraw ⊢
      split
      · exact hdraw
      · split
        · next n _ =>
          have h := hdraw.retow { u.tows with currentHalt := u.tows.currentHalt.filter (fun m => !(u.unitArrays n).contains m) } rfl
          exact h.trans (State.unhaltAll_paced h.form l)
        · exact hdraw
    · exact State.Paced.refl w l

/-! ## Paces and voltage (R298, R299, R104) -/

/-- The pace of array n is shown. -/
def State.showPace (paces : List Nat) (s : State) (n : Nat) : State :=
  s.fset (paceField n) (if 1 ≤ s.arrayState n ∧ s.arrayState n ≤ 3 then min 255 (paces.getD n 0) else 0)

omit w in
theorem State.showPaces_eq (s : State) (paces : List Nat) : s.showPaces paces = (List.range 4).foldl (State.showPace paces) s := rfl

theorem State.showPace_shows (paces : List Nat) {n : Nat} (hn : n < 4) : (s.showPace paces n).PaceShown n := by
  have hstate : (s.showPace paces n).arrayState n = s.arrayState n :=
    s.fget_fset_apart _ _ _ (by simp only [paceField]; omega) w (.inl (by simp only [F.ARRAY_STATUS.STATE, paceField]; omega))
  rw [State.PaceShown, hstate]
  by_cases h : 1 ≤ s.arrayState n ∧ s.arrayState n ≤ 3
  · exact .inl h
  · refine .inr ?_
    rw [State.showPace, if_neg h]
    exact State.fget_fset_self s _ 0 (by simp only [paceField]; omega) w

theorem State.showPace_paced (paces : List Nat) {n : Nat} (hn : n < 4) : s.Paced (s.showPace paces n) l where
  form := s.fset_wf _ _ w
  frame := rfl
  spaces := rfl
  phases := rfl
  waits := rfl
  kept g hg _ := s.fget_fset_apart _ g _ (by simp only [paceField]; omega) w (Fld.aside_apart (by simp [paceField]) hg)
  paces m hm hs := by
    by_cases e : m = n
    · rw [e]; exact State.showPace_shows w paces hn
    · have hkeep : ∀ g : Fld, Fld.apart (paceField n) g → (s.showPace paces n).fget g = s.fget g := fun g hg =>
        s.fget_fset_apart _ g _ (by simp only [paceField]; omega) w hg
      rw [State.PaceShown, State.arrayState, hkeep _ (.inl (by simp only [F.ARRAY_STATUS.STATE, paceField]; omega)),
        hkeep _ (by simp only [Fld.apart, paceField]; omega)]
      exact hs

theorem State.showPaces_paced (paces : List Nat) :
    s.Paced (s.showPaces paces) l ∧ ∀ n, n < 4 → (s.showPaces paces).PaceShown n := by
  have key : ∀ (js : List Nat), (∀ n ∈ js, n < 4) → s.Paced (js.foldl (State.showPace paces) s) l ∧
      ∀ n ∈ js, (js.foldl (State.showPace paces) s).PaceShown n := by
    intro js
    induction js using List.reverseRecOn with
    | nil => exact fun _ => ⟨State.Paced.refl w l, by simp⟩
    | append_singleton js j ih =>
      intro hlt
      obtain ⟨hp, hs⟩ := ih fun n hn => hlt n (by simp [hn])
      have hj : j < 4 := hlt j (by simp)
      rw [List.foldl_append]
      have hstep := State.showPace_paced hp.form l paces hj
      refine ⟨hp.trans hstep, fun n hn => ?_⟩
      rcases List.mem_append.mp hn with h | h
      · exact hstep.paces n (hlt n hn) (hs n h)
      · rw [List.mem_singleton.mp h]; exact State.showPace_shows hp.form paces hj
  obtain ⟨hp, hs⟩ := key (List.range 4) fun n hn => List.mem_range.mp hn
  exact ⟨hp, fun n hn => hs n (List.mem_range.mpr hn)⟩

/-- The voltage a step leads to, from mv with a free value d. -/
def State.nextVoltage (s : State) (slow fast input current d : Nat) : Nat :=
  let mv := s.fget F.PWR_PACE.CORE_MV
  if (s.paceMove slow fast input current).1 then min 850 (mv + d)
  else if (s.paceMove slow fast input current).2 then max 550 (mv - d) else mv

omit w in
theorem State.nextVoltage_step {s : State} {slow fast input current d : Nat} (hd : d ≤ 10) (hlo : 550 ≤ s.fget F.PWR_PACE.CORE_MV)
    (hhi : s.fget F.PWR_PACE.CORE_MV ≤ 850) :
    550 ≤ s.nextVoltage slow fast input current d ∧ s.nextVoltage slow fast input current d ≤ 850 ∧
      s.nextVoltage slow fast input current d ≤ s.fget F.PWR_PACE.CORE_MV + 10 ∧
      s.fget F.PWR_PACE.CORE_MV ≤ s.nextVoltage slow fast input current d + 10 := by
  unfold State.nextVoltage
  dsimp only
  repeat' split
  all_goals omega

theorem State.stepVoltage_paced (hl : F.PWR_PACE.CORE_MV ∈ l) (slow fast input current : Nat) :
    s.Paced (s.stepVoltage slow fast input current) l ∧
    (550 ≤ s.fget F.PWR_PACE.CORE_MV → s.fget F.PWR_PACE.CORE_MV ≤ 850 →
      ∃ d, d ≤ 10 ∧ (s.stepVoltage slow fast input current).fget F.PWR_PACE.CORE_MV = s.nextVoltage slow fast input current d) := by
  have hr := State.Paced.refl w l
  unfold State.stepVoltage
  dsimp only
  split
  · next h0 => exact ⟨(hr.draw 301).shown hl (by decide) (by decide) _, fun h => by omega⟩
  · refine ⟨(hr.draw 11).shown hl (by decide) (by decide) _, fun hlo hhi => ⟨(s.draw 11).1, ?_, ?_⟩⟩
    · have hlt : (s.draw 11).1 < 11 := Nat.mod_lt _ (by decide)
      omega
    · have hd : (s.draw 11).1 ≤ 10 := Nat.le_of_lt_succ (Nat.mod_lt _ (by decide))
      have hself := State.fget_fset_self (s.draw 11).2 F.PWR_PACE.CORE_MV (s.nextVoltage slow fast input current (s.draw 11).1) (by decide)
        (hr.draw 11).form
      refine hself.trans (Nat.mod_eq_of_lt ?_)
      have hv := (State.nextVoltage_step (slow := slow) (fast := fast) (input := input) (current := current) hd hlo hhi).2.1
      have hwidth : 2 ^ F.PWR_PACE.CORE_MV.width = 1024 := rfl
      omega

/-! ## The throttle and the counters (R300, R351) -/

/-- The throttle acts: the floor or the core current holds the voltage while the input exceeds the cap. -/
def State.throttles (s : State) (slow input current : Nat) : Bool :=
  ((s.paceBound slow input current).floor || (s.paceBound slow input current).phase) && decide (s.capNow ≠ 0) && decide (s.capNow < input)

omit w in
theorem State.throttles_iff (s : State) (slow input current : Nat) : s.throttles slow input current = true ↔
    ((s.paceBound slow input current).floor = true ∨ (s.paceBound slow input current).phase = true) ∧ s.capNow ≠ 0 ∧ s.capNow < input := by
  simp [State.throttles, and_assoc]

theorem State.throttle_paced (hl : F.PWR_PACE.THROTTLED ∈ l) (slow input current : Nat) :
    s.Paced (s.throttle slow input current) l ∧
    (s.throttle slow input current).fget F.PWR_PACE.THROTTLED = (s.throttles slow input current).toNat := by
  have hset := (State.Paced.refl w l).shown hl (by decide) (by decide) (s.throttles slow input current).toNat
  refine ⟨hset.step rfl rfl rfl rfl rfl, ?_⟩
  refine (State.fget_fset_self s F.PWR_PACE.THROTTLED _ (by decide) w).trans (Nat.mod_eq_of_lt ?_)
  exact Bool.toNat_lt _

theorem State.powerCounts_paced (cap throttled : Bool) (input : Nat) : s.Paced (s.powerCounts cap throttled input) l :=
  (State.Paced.refl w l).step rfl rfl rfl rfl rfl

omit w in
/-- What bounds the voltage hangs on the rung, the phases and the cap. -/
theorem State.bounds_congr {t : State} (hrung : t.rung = s.rung) (hphases : t.power.phases = s.power.phases)
    (hcap : t.fget F.PWR_CAP.CAP = s.fget F.PWR_CAP.CAP) (slow input current : Nat) :
    t.paceBound slow input current = s.paceBound slow input current ∧ t.throttles slow input current = s.throttles slow input current := by
  have hb : t.paceBound slow input current = s.paceBound slow input current := by
    unfold State.paceBound State.paceFloor State.coreLimit State.capNow
    rw [hrung, hphases, hcap]
  have hc : t.capNow = s.capNow := by rw [State.capNow, State.capNow, hcap]
  exact ⟨hb, by rw [State.throttles, State.throttles, hb, hc]⟩

end

/-- The fields a step of the power manager shows its readings and its judgement in. -/
def pacedFields : List Fld :=
  [F.PWR_PACE.ACHIEVED, F.PWR_CAP.INPUT, F.PWR_PACE.CORE_MV, F.PWR_PACE.FLOOR, F.PWR_PACE.PHASE_LIMITED, F.PWR_PACE.CAP_LIMITED,
   F.PWR_PACE.THROTTLED]

/-- The machine with the readings of a step shown. -/
def State.showStep (s : State) (paces : List Nat) (slow input : Nat) : State :=
  ((s.showPaces paces).fset F.PWR_PACE.ACHIEVED (min 255 slow)).fset F.PWR_CAP.INPUT (min 65535 input)

/-- The machine with what bounds the voltage shown. -/
def State.showBound (s : State) (b : PaceBound) : State :=
  ((s.fset F.PWR_PACE.FLOOR b.floor.toNat).fset F.PWR_PACE.PHASE_LIMITED b.phase.toNat).fset F.PWR_PACE.CAP_LIMITED b.cap.toNat

/-- The machine after a step's readings, voltage, bounds, halts and throttle. -/
def State.paceStep (s : State) (paces : List Nat) (slow fast input current : Nat) : State :=
  ((((s.showStep paces slow input).stepVoltage slow fast input current).showBound ((s.showStep paces slow input).paceBound slow input current)).currentHalts
    slow current).throttle slow input current

theorem exec_powerManagerStep {s : State} (hr : s.rung ≤ 2) (hrails : s.power.railsOff = false) (hlow : s.boot.resetLow = false)
    (paces : List Nat) (slow fast input current : Nat) : exec (.powerManagerStep paces slow fast input current) s =
      .next (((s.paceStep paces slow fast input current).powerCounts ((s.showStep paces slow input).paceBound slow input current).cap
        ((s.paceStep paces slow fast input current).bit F.PWR_PACE.THROTTLED) input).capDone) := by
  show execPowerManagerStep paces slow fast input current s = _
  rw [execPowerManagerStep, if_neg (by simp [hrails, hlow]; omega)]
  rfl

/-- What a step of the power manager shows. -/
structure State.PaceStep (s t : State) (slow fast input current : Nat) : Prop where
  paced : s.Paced t pacedFields
  shown : ∀ n, n < 4 → t.PaceShown n
  achieved : t.fget F.PWR_PACE.ACHIEVED = min 255 slow
  read : t.fget F.PWR_CAP.INPUT = min 65535 input
  floor : t.fget F.PWR_PACE.FLOOR = (s.paceBound slow input current).floor.toNat
  phase : t.fget F.PWR_PACE.PHASE_LIMITED = (s.paceBound slow input current).phase.toNat
  cap : t.fget F.PWR_PACE.CAP_LIMITED = (s.paceBound slow input current).cap.toNat
  throttled : t.fget F.PWR_PACE.THROTTLED = (s.throttles slow input current).toNat
  voltage : 550 ≤ s.fget F.PWR_PACE.CORE_MV → s.fget F.PWR_PACE.CORE_MV ≤ 850 → 550 ≤ t.fget F.PWR_PACE.CORE_MV ∧
    t.fget F.PWR_PACE.CORE_MV ≤ 850 ∧ t.fget F.PWR_PACE.CORE_MV ≤ s.fget F.PWR_PACE.CORE_MV + 10 ∧
    s.fget F.PWR_PACE.CORE_MV ≤ t.fget F.PWR_PACE.CORE_MV + 10

theorem State.Paced.bounds {s t : State} (h : s.Paced t pacedFields) (slow input current : Nat) :
    t.paceBound slow input current = s.paceBound slow input current ∧ t.throttles slow input current = s.throttles slow input current :=
  State.bounds_congr (h.kept _ (.inl (by decide)) (apart_of_test (by decide))) h.phases
    (h.kept _ (.inl (by decide)) (apart_of_test (by decide))) slow input current

section
variable {s : State} (w : wordsWf 0 s.regs = true)
include w

theorem State.showStep_spec (paces : List Nat) (slow input : Nat) :
    s.Paced (s.showStep paces slow input) [F.PWR_PACE.ACHIEVED, F.PWR_CAP.INPUT] ∧ (∀ n, n < 4 → (s.showStep paces slow input).PaceShown n) ∧
    (s.showStep paces slow input).fget F.PWR_PACE.ACHIEVED = min 255 slow ∧ (s.showStep paces slow input).fget F.PWR_CAP.INPUT = min 65535 input := by
  obtain ⟨hp, hs⟩ := State.showPaces_paced w [F.PWR_PACE.ACHIEVED, F.PWR_CAP.INPUT] paces
  unfold State.showStep
  generalize s.showPaces paces = u at hp hs ⊢
  have ha := (State.Paced.refl hp.form [F.PWR_PACE.ACHIEVED, F.PWR_CAP.INPUT]).shown (f := F.PWR_PACE.ACHIEVED) (by simp) (by decide) (by decide)
    (min 255 slow)
  have hone : (u.fset F.PWR_PACE.ACHIEVED (min 255 slow)).fget F.PWR_PACE.ACHIEVED = min 255 slow :=
    (State.fget_fset_self u _ _ (by decide) hp.form).trans (Nat.mod_eq_of_lt (by
      have hwidth : 2 ^ F.PWR_PACE.ACHIEVED.width = 256 := rfl
      omega))
  generalize u.fset F.PWR_PACE.ACHIEVED (min 255 slow) = v at ha hone ⊢
  have hb := ha.shown (f := F.PWR_CAP.INPUT) (by simp) (by decide) (by decide) (min 65535 input)
  refine ⟨hp.trans hb, fun n hn => hb.paces n hn (hs n hn), ?_, ?_⟩
  · exact (State.fget_fset_apart v _ _ _ (by decide) ha.form (Fld.apart_of_test (by decide))).trans hone
  · refine (State.fget_fset_self v _ _ (by decide) ha.form).trans (Nat.mod_eq_of_lt ?_)
    have hwidth : 2 ^ F.PWR_CAP.INPUT.width = 65536 := rfl
    omega

theorem State.showBound_spec (b : PaceBound) :
    s.Paced (s.showBound b) [F.PWR_PACE.FLOOR, F.PWR_PACE.PHASE_LIMITED, F.PWR_PACE.CAP_LIMITED] ∧
    (s.showBound b).fget F.PWR_PACE.FLOOR = b.floor.toNat ∧ (s.showBound b).fget F.PWR_PACE.PHASE_LIMITED = b.phase.toNat ∧
    (s.showBound b).fget F.PWR_PACE.CAP_LIMITED = b.cap.toNat := by
  have hr := State.Paced.refl w [F.PWR_PACE.FLOOR, F.PWR_PACE.PHASE_LIMITED, F.PWR_PACE.CAP_LIMITED]
  have hf := hr.shown (f := F.PWR_PACE.FLOOR) (by simp) (by decide) (by decide) b.floor.toNat
  have hfloor : (s.fset F.PWR_PACE.FLOOR b.floor.toNat).fget F.PWR_PACE.FLOOR = b.floor.toNat :=
    (State.fget_fset_self s _ _ (by decide) w).trans (Nat.mod_eq_of_lt (Bool.toNat_lt _))
  unfold State.showBound
  generalize s.fset F.PWR_PACE.FLOOR b.floor.toNat = u at hf hfloor ⊢
  have hp := hf.shown (f := F.PWR_PACE.PHASE_LIMITED) (by simp) (by decide) (by decide) b.phase.toNat
  have hphase : (u.fset F.PWR_PACE.PHASE_LIMITED b.phase.toNat).fget F.PWR_PACE.PHASE_LIMITED = b.phase.toNat :=
    (State.fget_fset_self u _ _ (by decide) hf.form).trans (Nat.mod_eq_of_lt (Bool.toNat_lt _))
  have hfloor' : (u.fset F.PWR_PACE.PHASE_LIMITED b.phase.toNat).fget F.PWR_PACE.FLOOR = b.floor.toNat :=
    (State.fget_fset_apart u _ _ _ (by decide) hf.form (Fld.apart_of_test (by decide))).trans hfloor
  generalize u.fset F.PWR_PACE.PHASE_LIMITED b.phase.toNat = v at hp hphase hfloor' ⊢
  have hkeep : ∀ g : Fld, Fld.apart F.PWR_PACE.CAP_LIMITED g → (v.fset F.PWR_PACE.CAP_LIMITED b.cap.toNat).fget g = v.fget g := fun g hg =>
    State.fget_fset_apart v _ g _ (by decide) hp.form hg
  exact ⟨hp.shown (by simp) (by decide) (by decide) _, (hkeep _ (Fld.apart_of_test (by decide))).trans hfloor',
    (hkeep _ (Fld.apart_of_test (by decide))).trans hphase,
    (State.fget_fset_self v _ _ (by decide) hp.form).trans (Nat.mod_eq_of_lt (Bool.toNat_lt _))⟩

theorem State.paceStep_spec (paces : List Nat) (slow fast input current : Nat) :
    s.PaceStep (s.paceStep paces slow fast input current) slow fast input current := by
  obtain ⟨ha, hshown, hachieved, hinput⟩ := State.showStep_spec w paces slow input
  unfold State.paceStep
  generalize s.showStep paces slow input = a at ha hshown hachieved hinput ⊢
  have hsa : s.Paced a pacedFields := ha.mono (by decide)
  obtain ⟨hbound, hthr⟩ := hsa.bounds slow input current
  have hmv : a.fget F.PWR_PACE.CORE_MV = s.fget F.PWR_PACE.CORE_MV := ha.kept _ (.inl (by decide)) (apart_of_test (by decide))
  obtain ⟨hv, hvolt⟩ := State.stepVoltage_paced ha.form [F.PWR_PACE.CORE_MV] (by simp) slow fast input current
  rw [hbound]
  have hrange : ∀ d, d ≤ 10 → 550 ≤ a.fget F.PWR_PACE.CORE_MV → a.fget F.PWR_PACE.CORE_MV ≤ 850 →
      _ := fun d hd hlo hhi => State.nextVoltage_step (s := a) (slow := slow) (fast := fast) (input := input) (current := current) (d := d) hd hlo hhi
  generalize a.stepVoltage slow fast input current = b at hv hvolt ⊢
  obtain ⟨hbnd, hfloor, hphase, hcap⟩ := State.showBound_spec hv.form (s.paceBound slow input current)
  generalize b.showBound (s.paceBound slow input current) = c at hbnd hfloor hphase hcap ⊢
  have hh := State.currentHalts_paced hbnd.form [] slow current
  generalize c.currentHalts slow current = d at hh ⊢
  obtain ⟨ht, hthrottled⟩ := State.throttle_paced hh.form [F.PWR_PACE.THROTTLED] (by simp) slow input current
  have hsd : s.Paced d pacedFields := ((hsa.trans (hv.mono (by decide))).trans (hbnd.mono (by decide))).trans (hh.mono (by decide))
  rw [(hsd.bounds slow input current).2] at hthrottled
  generalize d.throttle slow input current = t at ht hthrottled ⊢
  have hst : s.Paced t pacedFields := hsd.trans (ht.mono (by decide))
  have hlast : ∀ g : Fld, g.aside → Fld.apart F.PWR_PACE.THROTTLED g → t.fget g = c.fget g := fun g hg hx =>
    (ht.kept g hg (by simpa using hx)).trans (hh.kept g hg (by simp))
  have hlast' : ∀ g : Fld, g.aside → Fld.apart F.PWR_PACE.THROTTLED g →
      (∀ f ∈ [F.PWR_PACE.FLOOR, F.PWR_PACE.PHASE_LIMITED, F.PWR_PACE.CAP_LIMITED], Fld.apart f g) → t.fget g = b.fget g := fun g hg hx hy =>
    (hlast g hg hx).trans (hbnd.kept g hg hy)
  refine ⟨hst, fun n hn => ?_, ?_, ?_, ?_, ?_, ?_, hthrottled, fun hlo hhi => ?_⟩
  · exact ht.paces n hn (hh.paces n hn (hbnd.paces n hn (hv.paces n hn (hshown n hn))))
  · rw [hlast' _ (.inl (by decide)) (Fld.apart_of_test (by decide)) (apart_of_test (by decide)),
      hv.kept _ (.inl (by decide)) (apart_of_test (by decide)), hachieved]
  · rw [hlast' _ (.inl (by decide)) (Fld.apart_of_test (by decide)) (apart_of_test (by decide)),
      hv.kept _ (.inl (by decide)) (apart_of_test (by decide)), hinput]
  · rw [hlast _ (.inl (by decide)) (Fld.apart_of_test (by decide)), hfloor]
  · rw [hlast _ (.inl (by decide)) (Fld.apart_of_test (by decide)), hphase]
  · rw [hlast _ (.inl (by decide)) (Fld.apart_of_test (by decide)), hcap]
  · rw [← hmv] at hlo hhi ⊢
    obtain ⟨d, hd, hb⟩ := hvolt hlo hhi
    rw [hlast' _ (.inl (by decide)) (Fld.apart_of_test (by decide)) (apart_of_test (by decide)), hb]
    exact hrange d hd hlo hhi

end

/-! ## POWER_CAP (R299) -/

/-- What POWER_CAP commands that are due leave alone. -/
theorem State.capDone_keeps (s : State) : s.capDone.regs = s.regs ∧ s.capDone.steer = s.steer ∧ s.capDone.mem = s.mem ∧
    s.capDone.lock = s.lock := by
  unfold State.capDone
  dsimp only
  refine List.foldlRecOn (motive := fun u : State => u.regs = s.regs ∧ u.steer = s.steer ∧ u.mem = s.mem ∧ u.lock = s.lock) _ _
    ⟨rfl, rfl, rfl, rfl⟩ fun u hu p _ => ?_
  obtain ⟨hregs, hsteer, hmem, hlock⟩ := hu
  exact ⟨(State.complete_done_regs ..).trans hregs, (State.complete_steer ..).trans hsteer, (State.complete_mem ..).trans hmem,
    (State.complete_lock ..).trans hlock⟩

/-- The one command that waits is answered with the pace achieved. -/
theorem State.capDone_one {s : State} {src : Src} {w : Nat} (hq : spWf {} 0 s.link.queues = true) (hwaits : s.power.capWaits = [(src, w)])
    (hdue : w + 500000 ≤ s.time.tb3) (ha : s.Answers src) :
    s.capDone.power.capWaits = [] ∧ answered s s.capDone 0x61 src .done 0 0 (le 2 (s.fget F.PWR_PACE.ACHIEVED)) [] := by
  have hdone : s.capDone = (s.withPower { s.power with capWaits := [] }).complete 0x61 src .done 0 0
      (le 2 ((s.withPower { s.power with capWaits := [] }).fget F.PWR_PACE.ACHIEVED)) := by
    unfold State.capDone
    rw [hwaits]
    simp only [List.filter_cons, decide_eq_true hdue, if_true, List.filter_nil, Bool.not_true, Bool.false_eq_true, if_false, List.foldl_cons,
      List.foldl_nil]
    rfl
  have hopen : s.Open (s.withPower { s.power with capWaits := [] }) src := State.Open.of_keeps src rfl rfl rfl
  have hnone : (s.withPower { s.power with capWaits := [] }).power.capWaits = [] := rfl
  have hread : (s.withPower { s.power with capWaits := [] }).fget F.PWR_PACE.ACHIEVED = s.fget F.PWR_PACE.ACHIEVED := rfl
  rw [hdone, hread]
  generalize s.withPower { s.power with capWaits := [] } = u at hopen hnone
  refine ⟨by rw [State.complete_power]; exact hnone, ?_⟩
  have hans : u.Answers src := ha.of_open hopen
  exact answered_of_open hopen (State.complete_answered (by rw [hopen.queues]; exact hq) hans ..)

/-- The machine with CAP and REQ, each where it is not 0, and a POWER_CAP that waits. -/
def State.capped (s : State) (cap pace : Nat) : State :=
  let s := if cap = 0 then s else s.fset F.PWR_CAP.CAP cap
  if pace = 0 then s else s.fset F.PWR_PACE.REQ pace

theorem State.capped_spec {s : State} (w : wordsWf 0 s.regs = true) {cap pace : Nat} (hcap : cap ≤ 1023) (hpace : pace ≤ 255) :
    s.Writes (s.capped cap pace) [F.PWR_CAP.CAP, F.PWR_PACE.REQ] ∧
    (s.capped cap pace).fget F.PWR_CAP.CAP = (if cap = 0 then s.fget F.PWR_CAP.CAP else cap) ∧
    (s.capped cap pace).fget F.PWR_PACE.REQ = (if pace = 0 then s.fget F.PWR_PACE.REQ else pace) := by
  have hfirst : s.Writes (if cap = 0 then s else s.fset F.PWR_CAP.CAP cap) [F.PWR_CAP.CAP] ∧
      (if cap = 0 then s else s.fset F.PWR_CAP.CAP cap).fget F.PWR_CAP.CAP = (if cap = 0 then s.fget F.PWR_CAP.CAP else cap) := by
    split
    · exact ⟨State.Writes.refl w _, rfl⟩
    · refine ⟨(State.Writes.refl w _).fset (by simp) (by decide) cap, (State.fget_fset_self s _ cap (by decide) w).trans (Nat.mod_eq_of_lt ?_)⟩
      have hwidth : 2 ^ F.PWR_CAP.CAP.width = 1024 := rfl
      omega
  unfold State.capped
  generalize (if cap = 0 then s else s.fset F.PWR_CAP.CAP cap) = u at hfirst ⊢
  obtain ⟨hu, hone⟩ := hfirst
  have hreq : u.fget F.PWR_PACE.REQ = s.fget F.PWR_PACE.REQ := hu.fget (apart_of_test (by decide))
  dsimp only
  split
  · exact ⟨hu.mono (by simp), hone, hreq⟩
  · refine ⟨(hu.mono (by simp)).fset (by simp) (by decide) pace, ?_, (State.fget_fset_self u _ pace (by decide) hu.form).trans (Nat.mod_eq_of_lt ?_)⟩
    · exact (State.fget_fset_apart u _ _ _ (by decide) hu.form (Fld.apart_of_test (by decide))).trans hone
    · have hwidth : 2 ^ F.PWR_PACE.REQ.width = 256 := rfl
      omega

theorem powerCap_spec {s : State} (hwf : s.allWf = true) {src : Src} (hacc : s.accepts 0x61 src) {cap pace : Nat} (hcap : cap ≤ 1023)
    (hpace : pace ≤ 255) :
    ∃ t, exec (.powerCap src cap pace) s = .next t ∧ t.fget F.PWR_CAP.CAP = (if cap = 0 then s.fget F.PWR_CAP.CAP else cap) ∧
      t.fget F.PWR_PACE.REQ = (if pace = 0 then s.fget F.PWR_PACE.REQ else pace) ∧
      t = { s.without src with regs := t.regs, counters := t.counters,
                               power := { s.power with capWaits := s.power.capWaits ++ [(src, s.time.tb3)] } } ∧
      fieldsKept s t [F.PWR_CAP.CAP, F.PWR_PACE.REQ] := by
  have w : wordsWf 0 (s.taking src).regs = true := State.regsWf_of_allWf (s := s) hwf
  obtain ⟨hw, hc, hp⟩ := State.capped_spec w hcap hpace
  have hexec : exec (.powerCap src cap pace) s = .next (((s.taking src).capped cap pace).withPower
      { ((s.taking src).capped cap pace).power with
        capWaits := ((s.taking src).capped cap pace).power.capWaits ++ [(src, ((s.taking src).capped cap pace).time.tb3)] }) := by
    show Host.Outcome.next (s.handle 0x61 src _) = _
    rw [State.handle_accepted hacc, if_neg (by omega)]
    rfl
  refine ⟨_, hexec, hc, hp, ?_, hw.kept⟩
  have hf := hw.frame
  generalize (s.taking src).capped cap pace = u at hf ⊢
  have hpower : u.power = s.power := (congrArg State.power hf :)
  have htime : u.time = s.time := (congrArg State.time hf :)
  rw [State.withPower, hpower, htime, hf]
  rfl

/-! ## CAP_MISS and the loss of a phase (R297, R300) -/

theorem capMiss_spec {s : State} (hwf : s.allWf = true) {w : Nat} (hover : s.power.overSince = some w) (hdue : w + 5000000 ≤ s.time.tb3) :
    ∃ t, exec .capMiss s = .next t ∧ t.fget F.PWR_CAP.CAP_MISS = 1 ∧
      reports { s with power := { s.power with overSince := some s.time.tb3 } } t [F.PWR_CAP.CAP_MISS] := by
  have wr : wordsWf 0 ({ s with power := { s.power with overSince := some s.time.tb3 } } : State).regs = true := State.regsWf_of_allWf hwf
  have hexec : exec .capMiss s = .next (((State.sticky { s with power := { s.power with overSince := some s.time.tb3 } } F.PWR_CAP.CAP_MISS
      (some 5)).logEntry 4 1 .environment .rail 1 0).count 13 3) := by
    show execCapMiss s = _
    rw [execCapMiss, hover]
    dsimp only
    rw [if_pos hdue]
  generalize ({ s with power := { s.power with overSince := some s.time.tb3 } } : State) = u at wr hexec ⊢
  have hset := State.fget_sticky_self wr (f := F.PWR_CAP.CAP_MISS) (by decide) rfl (some 5)
  have hrep := (State.Reported.refl wr [F.PWR_CAP.CAP_MISS]).sticky (f := F.PWR_CAP.CAP_MISS) (by simp) (by decide) (some 5)
  generalize u.sticky F.PWR_CAP.CAP_MISS (some 5) = v at hset hrep hexec
  have hlog := ((State.Reported.refl hrep.form []).logEntry (sev := 4) (by decide) 1 .environment .rail 1 0 0).count 13 3 1
  exact ⟨_, hexec, (hlog.fget (apart_of_test (by decide))).trans hset, (hrep.trans (hlog.mono (by simp))).reports⟩

/-- The machine that counts phase p among those it has lost. -/
def State.withoutPhase (s : State) (p : Nat) : State := s.withPower { s.power with phases := s.power.phases ++ [p] }

/-- The machine with the words of a lost phase. -/
def State.phaseWords (s : State) : State :=
  (((s.fset F.PWR_RAILS.CORE_PHASES (26 - s.power.phases.length)).fset F.PWR_RAILS.SPARES_USED s.phaseSpares.2).fset F.PWR_RAILS.PHASE_FAIL 1).fset
    F.RAS_SPARES.PHASES (s.phaseSpares.1 - s.phaseSpares.2)

/-- The machine after a lost phase is told: a spare that takes its place, or a limit that falls. -/
def State.phaseTold (s : State) (spare : Bool) (p : Nat) (last : Bool) : State :=
  if spare then (s.count 13 0).spareIn 1 .rail p 7 last else (s.count 13 0).logEntry 4 1 .component .rail 0 p

theorem State.phaseWords_spec {s : State} (w : wordsWf 0 s.regs = true) (hlen : s.power.phases.length ≤ 23) :
    s.Writes s.phaseWords [F.PWR_RAILS.CORE_PHASES, F.PWR_RAILS.SPARES_USED, F.PWR_RAILS.PHASE_FAIL, F.RAS_SPARES.PHASES] ∧
    s.phaseWords.fget F.PWR_RAILS.CORE_PHASES = 26 - s.power.phases.length ∧ s.phaseWords.fget F.PWR_RAILS.PHASE_FAIL = 1 := by
  have ha := (State.Writes.refl w [F.PWR_RAILS.CORE_PHASES, F.PWR_RAILS.SPARES_USED, F.PWR_RAILS.PHASE_FAIL, F.RAS_SPARES.PHASES]).fset
    (f := F.PWR_RAILS.CORE_PHASES) (by simp) (by decide) (26 - s.power.phases.length)
  have hphases : (s.fset F.PWR_RAILS.CORE_PHASES (26 - s.power.phases.length)).fget F.PWR_RAILS.CORE_PHASES = 26 - s.power.phases.length :=
    (State.fget_fset_self s _ _ (by decide) w).trans (Nat.mod_eq_of_lt (by
      have hwidth : 2 ^ F.PWR_RAILS.CORE_PHASES.width = 32 := rfl
      omega))
  unfold State.phaseWords
  generalize s.fset F.PWR_RAILS.CORE_PHASES (26 - s.power.phases.length) = a at ha hphases ⊢
  have hb := ha.fset (f := F.PWR_RAILS.SPARES_USED) (by simp) (by decide) s.phaseSpares.2
  have hphases' := (State.fget_fset_apart a F.PWR_RAILS.SPARES_USED F.PWR_RAILS.CORE_PHASES s.phaseSpares.2 (by decide) ha.form
    (Fld.apart_of_test (by decide))).trans hphases
  generalize a.fset F.PWR_RAILS.SPARES_USED s.phaseSpares.2 = b at hb hphases' ⊢
  have hc := hb.fset (f := F.PWR_RAILS.PHASE_FAIL) (by simp) (by decide) 1
  have hrest := ((State.Writes.refl hc.form [F.RAS_SPARES.PHASES]).fset (f := F.RAS_SPARES.PHASES) (by simp) (by decide)
    (s.phaseSpares.1 - s.phaseSpares.2))
  refine ⟨hc.fset (by simp) (by decide) _, ?_, ?_⟩
  · rw [hrest.fget (apart_of_test (by decide)), State.fget_fset_apart b _ _ 1 (by decide) hb.form (Fld.apart_of_test (by decide)), hphases']
  · rw [hrest.fget (apart_of_test (by decide))]
    exact State.fget_fset_self b _ 1 (by decide) hb.form

theorem State.phaseTold_leaves {s : State} (w : wordsWf 0 s.regs = true) (spare : Bool) (p : Nat) (last : Bool) :
    State.Leaves blankRas s (s.phaseTold spare p last) spareFields := by
  have hr := (State.Leaves.refl blankRas w spareFields).count 13 0 1
  unfold State.phaseTold
  split
  · exact hr.trans (State.spareIn_leaves hr.form 1 .rail p 7 last).1
  · exact hr.logEntry (by decide) 1 .component .rail 0 p 0

theorem phaseIsolation_spec {s : State} (hwf : s.allWf = true) {p : Nat} (hp : p < 26) (hnew : p ∉ s.power.phases) (hheld : s.held = false)
    (hr : s.rung ≤ 2) (hlen : s.power.phases.length ≤ 22) :
    ∃ t, exec (.phaseIsolation p) s = .next t ∧ t.power = { s.power with phases := s.power.phases ++ [p] } ∧
      t.fget F.PWR_RAILS.CORE_PHASES = 25 - s.power.phases.length ∧ t.fget F.PWR_RAILS.PHASE_FAIL = 1 ∧ t.steer = s.steer ∧
      t.mem = s.mem ∧ t.lock = s.lock ∧ t.tows = s.tows := by
  have hlength : (s.withoutPhase p).power.phases.length = s.power.phases.length + 1 := List.length_append
  have w : wordsWf 0 (s.withoutPhase p).regs = true := State.regsWf_of_allWf hwf
  have hpower : (s.withoutPhase p).power = { s.power with phases := s.power.phases ++ [p] } := rfl
  have hsame : (s.withoutPhase p).steer = s.steer ∧ (s.withoutPhase p).mem = s.mem ∧ (s.withoutPhase p).lock = s.lock ∧
      (s.withoutPhase p).tows = s.tows := ⟨rfl, rfl, rfl, rfl⟩
  obtain ⟨spare, last, mv, hexec⟩ : ∃ spare last, ∃ mv : State → Nat, exec (.phaseIsolation p) s =
      .next (let u := (s.withoutPhase p).phaseWords.phaseTold spare p last
             if 26 < u.power.phases.length + 3 then (((u.draw 31).2).fset F.PWR_PACE.CORE_MV (mv u)).fatal 0x0B p false
             else ((u.draw 31).2).fset F.PWR_PACE.CORE_MV (mv u)) := by
    refine ⟨decide (s.phaseSpares.2 < (s.withoutPhase p).phaseSpares.2 ∨ (s.withoutPhase p).phaseSpares.1 < s.phaseSpares.1),
      decide ((s.withoutPhase p).phaseSpares.1 = (s.withoutPhase p).phaseSpares.2),
      fun u => min 850 (max 550 (u.fget F.PWR_PACE.CORE_MV + (u.draw 31).1 - 15)), ?_⟩
    show ifOk (Instr.wf (.phaseIsolation p)) _ = _
    rw [if_neg (by simp [hnew, hheld]; omega)]
    refine (if_pos (decide_eq_true hp)).trans ?_
    unfold State.phaseTold
    simp only [decide_eq_true_eq]
    rfl
  rw [hexec]
  clear hexec
  generalize s.withoutPhase p = x at hlength w hpower hsame ⊢
  obtain ⟨hw, hcore, hfail⟩ := State.phaseWords_spec w (by omega)
  have hframe := hw.frame
  have hform := hw.form
  generalize x.phaseWords = y at hframe hform hcore hfail ⊢
  have htold := State.phaseTold_leaves hform spare p last
  generalize y.phaseTold spare p last = z at htold ⊢
  obtain ⟨hsteer, hmem, hlock, htows⟩ := hsame
  have hz : z.power = y.power ∧ z.steer = y.steer ∧ z.mem = y.mem ∧ z.lock = y.lock ∧ z.tows = y.tows :=
    ⟨(htold.get State.power :), (htold.get State.steer :), (htold.get State.mem :), (htold.get State.lock :), (htold.get State.tows :)⟩
  rw [hframe] at hz
  obtain ⟨hzpower, hzsteer, hzmem, hzlock, hztows⟩ := hz
  have hfew : ¬26 < z.power.phases.length + 3 := by rw [hzpower]; show ¬26 < x.power.phases.length + 3; omega
  have hkeep : ∀ g : Fld, Fld.apart F.PWR_PACE.CORE_MV g → ((z.draw 31).2.fset F.PWR_PACE.CORE_MV (mv z)).fget g = z.fget g := fun g hg =>
    (z.draw 31).2.fget_fset_apart _ g _ (by decide) htold.form hg
  rw [hlength, Nat.sub_add_eq, Nat.sub_right_comm] at hcore
  refine ⟨_, congrArg Host.Outcome.next (if_neg hfew), hzpower.trans hpower, ?_, ?_, hzsteer.trans hsteer, hzmem.trans hmem, hzlock.trans hlock,
    hztows.trans htows⟩
  · rw [hkeep _ (Fld.apart_of_test (by decide)), htold.fget (apart_of_test (by decide))]; exact hcore
  · rw [hkeep _ (Fld.apart_of_test (by decide)), htold.fget (apart_of_test (by decide))]; exact hfail

/-- Settles O51: a step shows its readings and what bounds the voltage, the voltage moves by no more than 10 mV, and CAP, CAP_MISS and a
lost phase act as the manual says. -/
theorem powerManager : Obligations.PowerManager := by
  unfold Obligations.PowerManager
  refine ⟨fun s paces slow fast input current hwf hr hrails hlow => ?_,
    fun s slow fast input current w src hwf hr hrails hlow hwaits hdue hen hdir hsound hkept => ?_,
    fun s w hwf hover hdue => capMiss_spec hwf hover hdue, fun s src cap pace hwf hacc hcap hpace => powerCap_spec hwf hacc hcap hpace,
    fun s p hwf hp hnew hheld hr hlen => phaseIsolation_spec hwf hp hnew hheld hr hlen⟩
  · have h := State.paceStep_spec (State.regsWf_of_allWf hwf) paces slow fast input current
    rw [exec_powerManagerStep hr hrails hlow]
    generalize s.paceStep paces slow fast input current = u at h ⊢
    have hcount := State.powerCounts_paced h.paced.form [] ((s.showStep paces slow input).paceBound slow input current).cap
      (u.bit F.PWR_PACE.THROTTLED) input
    have hregs : (u.powerCounts ((s.showStep paces slow input).paceBound slow input current).cap (u.bit F.PWR_PACE.THROTTLED) input).regs =
        u.regs := rfl
    generalize u.powerCounts ((s.showStep paces slow input).paceBound slow input current).cap (u.bit F.PWR_PACE.THROTTLED) input = v at hcount hregs ⊢
    have hall := h.paced.trans (hcount.mono (by simp))
    obtain ⟨hdone, hsteer, hmem, hlock⟩ := v.capDone_keeps
    have hread : ∀ g, v.capDone.fget g = u.fget g := State.fget_of_regs (hdone.trans hregs)
    have hframe := hall.frame
    refine ⟨_, rfl, (hread _).trans h.achieved, (hread _).trans h.read, (hread _).trans h.floor, (hread _).trans h.phase, (hread _).trans h.cap,
      fun n hn hoff => (hread _).trans ((h.shown n hn).resolve_left (by rw [State.arrayState, hread] at hoff; exact hoff)), ?_, ?_,
      hsteer.trans (congrArg State.steer hframe :), hmem.trans (congrArg State.mem hframe :), hlock.trans (congrArg State.lock hframe :)⟩
    · rw [hread, h.throttled, ← State.throttles_iff]
      cases s.throttles slow input current <;> simp
    · rw [hread]; exact h.voltage
  · have h := State.paceStep_spec (State.regsWf_of_allWf hwf) [] slow fast input current
    rw [exec_powerManagerStep hr hrails hlow]
    generalize s.paceStep [] slow fast input current = u at h ⊢
    have hcount := State.powerCounts_paced h.paced.form [] ((s.showStep [] slow input).paceBound slow input current).cap
      (u.bit F.PWR_PACE.THROTTLED) input
    have hregs : (u.powerCounts ((s.showStep [] slow input).paceBound slow input current).cap (u.bit F.PWR_PACE.THROTTLED) input).regs =
        u.regs := rfl
    generalize u.powerCounts ((s.showStep [] slow input).paceBound slow input current).cap (u.bit F.PWR_PACE.THROTTLED) input = v at hcount hregs ⊢
    have hall := h.paced.trans (hcount.mono (by simp))
    have hlink : v.link = s.link := (congrArg State.link hall.frame :)
    have htime : v.time = s.time := (congrArg State.time hall.frame :)
    have hopen : s.Open v src := ⟨by rw [hlink], by rw [hlink], State.cqOf_congr src (by rw [hlink]) hall.spaces
      (hall.kept _ (.inr (by decide)) (apart_of_test (by decide)))⟩
    have hans : v.Answers src := State.Answers.of_open ⟨hen, hdir, hsound, hkept⟩ hopen
    have hread : v.fget F.PWR_PACE.ACHIEVED = min 255 slow := (State.fget_of_regs hregs _).trans h.achieved
    obtain ⟨hnone, hanswer⟩ := State.capDone_one (by rw [hlink]; exact State.queuesWf_of_allWf hwf) (hall.waits.trans hwaits)
      (by rw [htime]; exact hdue) hans
    rw [hread] at hanswer
    exact ⟨_, rfl, hnone, answered_of_open hopen hanswer⟩

end Sys2Proof.Machine
end

section
/-!
PROOFS. Light that moves (R198, R222–R231): what a ring that retunes, a lane that goes dark, the ports shown and a new allocation leave
alone.
-/

namespace Sys2Proof.Machine

/-- A field in none of the words that rings and tether lanes write, nor among those that show the lanes of a service port. -/
def Fld.lampSide (g : Fld) : Prop := g.off < 0x600100 ∧ g.off ≠ 0x30000c ∧ (g.off < 0x600040 ∨ 9 ≤ g.lo)

/-- All but the DAC tables, the pair, the spares and the free values. -/
def blankRings (s : State) : State := { s with light := { s.light with dac := [] }, pair := {}, ras := {}, free := 0 }

/-- What rings, tether lanes and what shows of them may do. -/
structure State.Glows (s t : State) : Prop where
  form : wordsWf 0 t.regs = true
  rest : blankRings t.wipe = blankRings s.wipe
  kept : ∀ g : Fld, g.lampSide → t.fget g = s.fget g

namespace State.Glows

variable {s t u : State}

theorem refl (w : wordsWf 0 s.regs = true) : s.Glows s := ⟨w, rfl, fun _ _ => rfl⟩

theorem trans (h : s.Glows t) (k : t.Glows u) : s.Glows u :=
  ⟨k.form, k.rest.trans h.rest, fun g hg => (k.kept g hg).trans (h.kept g hg)⟩

/-- A step outside the registers. -/
theorem step (h : s.Glows t) (hregs : u.regs = t.regs) (hrest : blankRings u.wipe = blankRings t.wipe) : s.Glows u :=
  h.trans ⟨by rw [hregs]; exact h.form, hrest, fun g _ => State.fget_of_regs hregs g⟩

theorem fset (h : s.Glows t) {f : Fld} (fits : f.lo + f.width ≤ 32) (hf : ∀ g : Fld, g.lampSide → Fld.apart f g) (v : Nat) : s.Glows (t.fset f v) :=
  h.trans ⟨t.fset_wf f v h.form, rfl, fun g hg => t.fget_fset_apart f g v fits h.form (hf g hg)⟩

theorem leaves (h : s.Glows t) {k : State → State} {l : List Fld} (hl : State.Leaves k t u l) (hk : ∀ x, blankRings (k x) = blankRings x)
    (hoff : ∀ f ∈ l ++ logFields, 0x600100 ≤ f.off ∨ f.off = 0x30000c) : s.Glows u :=
  h.trans ⟨hl.form, by rw [← hk, hl.rest, hk], fun g hg => hl.fget fun f hf => .inl (by
    obtain ⟨hlow, hne, -⟩ := hg
    rcases hoff f hf with h | h <;> omega)⟩

theorem told (h : s.Glows t) (k : t.Told u []) : s.Glows u := h.leaves (State.Leaves.of_told id k) (fun _ => rfl) (by decide)

theorem count (h : s.Glows t) (g i n : Nat) : s.Glows (t.count g i n) := h.step rfl rfl

theorem foldl {α : Type} {f : State → α → State} {is : List α} (h : s.Glows t)
    (step : ∀ u : State, wordsWf 0 u.regs = true → ∀ i ∈ is, u.Glows (f u i)) : s.Glows (is.foldl f t) :=
  List.foldlRecOn (motive := fun u => s.Glows u) is f h fun _ hu i hi => hu.trans (step _ hu.form i hi)

/-- What the blanked state shows is as before. -/
theorem get (h : s.Glows t) {α : Type} (p : State → α) : p (blankRings t.wipe) = p (blankRings s.wipe) := congrArg p h.rest

theorem carts (h : s.Glows t) : t.light.carts = s.light.carts := h.get fun x => x.light.carts
theorem lanes (h : s.Glows t) : t.light.lanes = s.light.lanes := h.get fun x => x.light.lanes
theorem buses (h : s.Glows t) : t.light.buses = s.light.buses := h.get fun x => x.light.buses
theorem insertion (h : s.Glows t) : t.light.insertion = s.light.insertion := h.get fun x => x.light.insertion
theorem move (h : s.Glows t) : t.light.move = s.light.move := h.get fun x => x.light.move
theorem steer (h : s.Glows t) : t.steer = s.steer := h.get State.steer
theorem mem (h : s.Glows t) : t.mem = s.mem := h.get State.mem
theorem lock (h : s.Glows t) : t.lock = s.lock := h.get State.lock
theorem tows (h : s.Glows t) : t.tows = s.tows := h.get State.tows

end State.Glows

theorem Fld.ring_apart {f g : Fld} (hf : 0x600100 ≤ f.off) (hg : g.lampSide) : Fld.apart f g := .inl (by have := hg.1; omega)

section
variable {s : State} (w : wordsWf 0 s.regs = true)
include w

/-! ## Rings and lanes (R198, R226, R227) -/

theorem State.calibrate_glows (r : Nat) : s.Glows (s.calibrate r) := by
  unfold State.calibrate
  split
  · exact State.Glows.refl w
  · exact (State.Glows.refl w).step rfl rfl

theorem State.lockRing_glows (r code : Nat) : s.Glows (s.lockRing r code) := by
  have hset := (((State.Glows.refl w).fset (f := F.RING_STATE.STATE r) (by simp [F.RING_STATE.STATE])
    (fun g hg => Fld.ring_apart (Nat.le_add_right _ _) hg) 2).fset (f := F.RING_STATE.HEATER r) (by simp [F.RING_STATE.HEATER])
    (fun g hg => Fld.ring_apart (Nat.le_add_right _ _) hg) code)
  have hcal := hset.trans (State.calibrate_glows hset.form r)
  unfold State.lockRing
  dsimp only
  split
  · exact (hcal.fset (by simp [F.RING_STATE.LINE]) (fun g hg => Fld.ring_apart (Nat.le_add_right _ _) hg) _).fset (by simp [F.RING_STATE.BAY])
      (fun g hg => Fld.ring_apart (Nat.le_add_right _ _) hg) _
  · exact hcal

theorem State.retuneRing_glows (r : Nat) : s.Glows (s.retuneRing r) := by
  unfold State.retuneRing
  dsimp only
  split
  · have hdraw : s.Glows (s.draw 4096).2 := (State.Glows.refl w).step rfl rfl
    exact hdraw.trans (State.lockRing_glows hdraw.form _ _)
  · exact State.Glows.refl w

omit w in
theorem State.Glows.lanesStep {s t u : State} (h : s.Glows t) (k : t.Lanes u) : s.Glows u := State.Glows.leaves h k (fun _ => rfl) (by decide)

theorem State.laneDark_glows {n : Nat} (hn : n < 5) : s.Glows (s.laneDark n) := by
  have hp := (State.Glows.refl w).lanesStep (State.Lanes.peer (State.Leaves.refl _ w _) (s.pair.peerLanes.filter (fun m => decide (m ≠ n))))
  exact hp.lanesStep (State.laneDown_downed hp.form hn).lanes

theorem State.useLane_glows (n : Nat) (on : Bool) : s.Glows (s.useLane n on) :=
  (State.Glows.refl w).lanesStep (State.Lanes.use (State.Leaves.refl _ w _) n on)

theorem State.spareTakes_glows : s.Glows s.spareTakes := (State.Glows.refl w).lanesStep (State.spareTakes_took w).lanes

/-! ## Ports and events (R225, R237, R240) -/

theorem State.showPorts_glows : s.Glows s.showPorts :=
  (State.Glows.refl w).foldl fun u wu p _ => by
    have hport : ∀ f : Fld, f.off = 0x600040 + p * 4 → f.lo + f.width ≤ 9 → ∀ g : Fld, g.lampSide → Fld.apart f g := fun f ho hw g hg => by
      obtain ⟨-, -, hg⟩ := hg
      simp only [Fld.apart]
      omega
    exact ((State.Glows.refl wu).fset (by simp [F.SVC_PORT_CTRL.LANES]) (hport _ rfl (Nat.le_of_ble_eq_true rfl)) _).fset
      (by simp [F.SVC_PORT_CTRL.DEGRADED]) (hport _ rfl (Nat.le_of_ble_eq_true rfl)) _

theorem State.lightEvent_told (bay kind new line loss predict : Nat) : s.Told (s.lightEvent bay kind new line loss predict) [] :=
  (State.Told.refl w []).event 6 _

theorem State.lanesReduced_glows (bay tether bus : Nat) : s.Glows (s.lanesReduced bay tether bus) := by
  unfold State.lanesReduced
  split
  · have h := (State.Glows.refl w).told (State.lightEvent_told w bay 4 bay 0xFF 0 0)
    exact (h.told (((State.Notes.refl h.form []).logEntry (by decide) 6 .component .bay 4 bay 0).told)).count 12 9 1
  · exact State.Glows.refl w

theorem State.retuneBus_glows (j : Nat) (p : Nat → Bool) : s.Glows (s.retuneBus j p) :=
  (State.Glows.refl w).foldl fun u wu q _ => by
    split
    · exact (State.Glows.refl wu).foldl fun v wv k _ => State.retuneRing_glows wv _
    · exact State.Glows.refl wu

end

/-! ## New sources (R222, R225) -/

/-- The machine with these tether lanes. -/
def State.withLanes (s : State) (m : Sparse (Nat × Nat)) : State := { s with light := { s.light with lanes := m } }

/-- The machine with these bus lanes. -/
def State.withBuses (s : State) (m : Sparse (Nat × Nat)) : State := { s with light := { s.light with buses := m } }

/-- Where lane n of a store takes its light. -/
def laneSource (m : Sparse (Nat × Nat)) (n : Nat) : Option (Nat × Nat) := (m.find? (fun p => p.1 = n)).map (·.2)

/-- Tether lanes after lane n takes a source, or none. -/
def lanesWith (m : Sparse (Nat × Nat)) (n : Nat) (src : Option (Nat × Nat)) : Sparse (Nat × Nat) :=
  match src with
  | some x => spSet (99, 99) (m.filter (fun p => decide (p.1 ≠ n))) n x
  | none => m.filter (fun p => decide (p.1 ≠ n))

theorem spSet_find {α : Type} [DecidableEq α] {d x : α} (hx : x ≠ d) (m : Sparse α) {n : Nat} (hn : ∀ p ∈ m, p.1 ≠ n) (k : Nat) :
    (spSet d m n x).find? (fun p => p.1 = k) = if k = n then some (n, x) else m.find? (fun p => p.1 = k) := by
  induction m with
  | nil => 
    rw [spSet, if_neg hx]
    by_cases e : k = n
    · simp [e]
    · simp [e, Ne.symm e]
  | cons p m ih =>
    obtain ⟨k', v'⟩ := p
    have hk' : k' ≠ n := hn (k', v') List.mem_cons_self
    have ih := ih fun p hp => hn p (List.mem_cons_of_mem _ hp)
    rw [spSet]
    split
    · by_cases e : k' = k
      · subst e; simp [hk']
      · simp [e, ih]
    · by_cases e : k = n
      · simp [e]
      · simp [e, Ne.symm e]

theorem laneSource_lanesWith (m : Sparse (Nat × Nat)) (n k : Nat) {src : Option (Nat × Nat)} (hsrc : src ≠ some (99, 99)) :
    laneSource (lanesWith m n src) k = if k = n then src else laneSource m k := by
  have hfree : ∀ p ∈ m.filter (fun p => decide (p.1 ≠ n)), p.1 ≠ n := fun p hp => by simpa using (List.mem_filter.mp hp).2
  have hfilter : k ≠ n → (m.filter (fun p => decide (p.1 ≠ n))).find? (fun p => p.1 = k) = m.find? (fun p => p.1 = k) := fun hk => by
    rw [List.find?_filter]
    refine congrArg (m.find? ·) (funext fun p => ?_)
    by_cases e : p.1 = k
    · simp [e, hk]
    · simp [e]
  unfold laneSource lanesWith
  cases src with
  | none =>
    by_cases e : k = n
    · subst e
      rw [if_pos rfl, List.find?_eq_none.mpr fun p hp => by simpa using hfree p hp]; rfl
    · rw [if_neg e, ← hfilter e]
  | some x =>
    dsimp only
    rw [spSet_find (fun h => hsrc (by rw [h])) _ hfree]
    split
    · rfl
    · next e => rw [hfilter e]

section
variable {s : State} (w : wordsWf 0 s.regs = true)
include w

theorem State.setLane_glows {n : Nat} (hn : n < 5) (src : Option (Nat × Nat)) : (s.withLanes (lanesWith s.light.lanes n src)).Glows (s.setLane n src) := by
  have hdark := State.laneDark_glows (s := s.withLanes (lanesWith s.light.lanes n src)) w hn
  have hstep : s.setLane n src = ((s.withLanes (lanesWith s.light.lanes n src)).laneDark n).retuneRing (tetherRing n) := by
    unfold State.setLane lanesWith
    cases src <;> rfl
  rw [hstep]
  exact hdark.trans (State.retuneRing_glows hdark.form _)

end

/-! ## A bay that others leave alone (R218, R225, R231) -/

theorem State.complete_failed_regs (s : State) (op : Nat) (src : Src) (reason detail : Nat) (result cells : List Byte) :
    (s.complete op src .failed reason detail result cells).regs = s.regs := by
  unfold State.complete
  simp only [reduceCtorEq, or_self, if_false]
  repeat' split
  all_goals simp

/-- What the light does elsewhere leaves bay b: its cartridge, its state, the record of trips and, where it is dark, its beacons. -/
structure State.Tends (b : Nat) (dark : Prop) (s t : State) : Prop where
  form : wordsWf 0 t.regs = true
  cart : t.cart b = s.cart b
  carts : spWf {} 0 s.light.carts = true → spWf {} 0 t.light.carts = true
  state : t.bayState b = s.bayState b
  trip : t.fget F.PWR_RAILS.CART_TRIP = s.fget F.PWR_RAILS.CART_TRIP
  dim : dark → s.fget (F.CART_STATUS.BEACONS b) = 0 → t.fget (F.CART_STATUS.BEACONS b) = 0
  steer : t.steer = s.steer
  mem : t.mem = s.mem
  lock : t.lock = s.lock
  tows : t.tows = s.tows

namespace State.Tends

variable {b : Nat} {dark : Prop} {s t u : State}

theorem refl (w : wordsWf 0 s.regs = true) : State.Tends b dark s s := ⟨w, rfl, id, rfl, rfl, fun _ => id, rfl, rfl, rfl, rfl⟩

theorem trans (h : State.Tends b dark s t) (k : State.Tends b dark t u) : State.Tends b dark s u :=
  ⟨k.form, k.cart.trans h.cart, fun hc => k.carts (h.carts hc), k.state.trans h.state, k.trip.trans h.trip, fun hd h0 => k.dim hd (h.dim hd h0), k.steer.trans h.steer,
    k.mem.trans h.mem, k.lock.trans h.lock, k.tows.trans h.tows⟩

/-- A step outside the registers and bay b. -/
theorem step (h : State.Tends b dark s t) (hregs : u.regs = t.regs) (hcarts : u.light.carts = t.light.carts) (hsteer : u.steer = t.steer)
    (hmem : u.mem = t.mem) (hlock : u.lock = t.lock) (htows : u.tows = t.tows) : State.Tends b dark s u :=
  h.trans ⟨by rw [hregs]; exact h.form, by rw [State.cart, hcarts]; rfl, by rw [hcarts]; exact id, State.fget_of_regs hregs _, State.fget_of_regs hregs _,
    fun _ h0 => (State.fget_of_regs hregs _).trans h0, hsteer, hmem, hlock, htows⟩

theorem fset (h : State.Tends b dark s t) {f : Fld} (fits : f.lo + f.width ≤ 32) (hstate : Fld.apart f (F.CART_STATUS.STATE b))
    (htrip : Fld.apart f F.PWR_RAILS.CART_TRIP) (hbeacons : Fld.apart f (F.CART_STATUS.BEACONS b)) (v : Nat) : State.Tends b dark s (t.fset f v) :=
  h.trans ⟨t.fset_wf f v h.form, rfl, id, t.fget_fset_apart f _ v fits h.form hstate, t.fget_fset_apart f _ v fits h.form htrip,
    fun _ h0 => (t.fget_fset_apart f _ v fits h.form hbeacons).trans h0, rfl, rfl, rfl, rfl⟩

theorem glows (h : State.Tends b dark s t) (hb : b < 3) (k : t.Glows u) : State.Tends b dark s u := by
  have hlow : (F.CART_STATUS.STATE b).lampSide ∧ (F.CART_STATUS.BEACONS b).lampSide := by
    simp only [Fld.lampSide, F.CART_STATUS.STATE, F.CART_STATUS.BEACONS]; omega
  exact h.trans ⟨k.form, by rw [State.cart, k.carts]; rfl, by rw [k.carts]; exact id, k.kept _ hlow.1, k.kept _ ⟨by decide, by decide, .inl (by decide)⟩, fun _ h0 => (k.kept _ hlow.2).trans h0,
    k.steer, k.mem, k.lock, k.tows⟩

theorem told (h : State.Tends b dark s t) (hb : b < 3) (k : t.Told u []) : State.Tends b dark s u :=
  h.glows hb ((State.Glows.refl h.form).told k)

theorem logEntry (h : State.Tends b dark s t) (hb : b < 3) {sev : Nat} (hsev : sev < 8) (source : Nat) (cls : Cls) (kind : Obj) (reason a0 a1 : Nat) :
    State.Tends b dark s (t.logEntry sev source cls kind reason a0 a1) :=
  h.told hb ((State.Notes.refl h.form []).logEntry hsev source cls kind reason a0 a1).told

theorem count (h : State.Tends b dark s t) (g i n : Nat) : State.Tends b dark s (t.count g i n) := h.step rfl rfl rfl rfl rfl rfl

theorem foldl {α : Type} {f : State → α → State} {is : List α} (h : State.Tends b dark s t)
    (step : ∀ u : State, wordsWf 0 u.regs = true → ∀ i ∈ is, State.Tends b dark u (f u i)) : State.Tends b dark s (is.foldl f t) :=
  List.foldlRecOn (motive := fun u => State.Tends b dark s u) is f h fun _ hu i hi => hu.trans (step _ hu.form i hi)

end State.Tends

/-- Another bay's field of CART_STATUS. -/
theorem Fld.bay_apart {b x : Nat} (h : x ≠ b) {f g : Fld} (hf : f.off = 0x600000 + x * 4) (hg : g.off = 0x600000 + b * 4) : Fld.apart f g :=
  .inl (by omega)

section
variable {b : Nat} {dark : Prop} {s : State} (w : wordsWf 0 s.regs = true)
include w

theorem State.bayField_tends {x : Nat} (hx : x ≠ b) {f : Fld} (hf : f.off = 0x600000 + x * 4) (fits : f.lo + f.width ≤ 32) (v : Nat) :
    State.Tends b dark s (s.fset f v) :=
  (State.Tends.refl w).fset fits (Fld.bay_apart hx hf rfl) (.inl (by rw [hf]; simp only [F.PWR_RAILS.CART_TRIP]; omega)) (Fld.bay_apart hx hf rfl) v

/-- A field of bay b above its state and its beacons. -/
theorem State.ownField_tends {f : Fld} (hf : f.off = 0x600000 + b * 4) (hlo : 6 ≤ f.lo) (fits : f.lo + f.width ≤ 32) (v : Nat) :
    State.Tends b dark s (s.fset f v) :=
  (State.Tends.refl w).fset fits (.inr (.inr (by simp only [F.CART_STATUS.STATE]; omega)))
    (.inl (by rw [hf]; simp only [F.PWR_RAILS.CART_TRIP]; omega)) (.inr (.inr (by simp only [F.CART_STATUS.BEACONS]; omega))) v

theorem State.lightBeacon_tends (hb : b < 3) (x h : Nat) (on : Bool) (hx : dark → x = b → on = false) : State.Tends b dark s (s.lightBeacon x h on) := by
  unfold State.lightBeacon
  split
  · by_cases e : x = b
    · subst e
      refine ⟨s.fset_wf _ _ w, rfl, id, s.fget_fset_apart _ _ _ (by simp [F.CART_STATUS.BEACONS]) w (.inr (.inr (by simp [F.CART_STATUS.BEACONS, F.CART_STATUS.STATE]))),
        s.fget_fset_apart _ _ _ (by simp [F.CART_STATUS.BEACONS]) w (.inl (by simp only [F.CART_STATUS.BEACONS, F.PWR_RAILS.CART_TRIP]; omega)),
        fun hd h0 => ?_, rfl, rfl, rfl, rfl⟩
      rw [State.fget_fset_self _ _ _ (by simp [F.CART_STATUS.BEACONS]) w, hx hd rfl, h0]
      simp [withBit]
    · exact State.bayField_tends w e rfl (by simp [F.CART_STATUS.BEACONS]) _
  · exact State.Tends.refl w

theorem srcFld_tends (h v : Nat) : State.Tends b dark s (s.fset (srcFld h) v) := by
  have hoff : (srcFld h).off = 0x60000c ∧ 17 ≤ (srcFld h).lo ∧ (srcFld h).lo + (srcFld h).width ≤ 32 := by
    unfold srcFld; split <;> decide
  obtain ⟨hoff, hlo, hfits⟩ := hoff
  exact (State.Tends.refl w).fset hfits (.inr (.inr (by simp only [F.CART_STATUS.STATE]; omega))) (.inl (by rw [hoff]; decide))
    (.inr (.inr (by simp only [F.CART_STATUS.BEACONS]; omega))) v

theorem State.setBeacon_tends (hb : b < 3) (h x : Nat) (hx : dark → x ≠ b) : State.Tends b dark s (s.setBeacon h x) := by
  have h1 := State.lightBeacon_tends (dark := dark) w hb (s.fget (srcFld h)) h false fun _ _ => rfl
  have h2 := h1.trans (srcFld_tends h1.form h x)
  exact h2.trans (State.lightBeacon_tends h2.form hb x h _ fun hd he => absurd he (hx hd))

omit w in
theorem State.cart_modCart_ne (s : State) {x b : Nat} (h : b ≠ x) (f : Cart → Cart) : (s.modCart x f).cart b = s.cart b :=
  spGet_spSet_ne _ _ x b _ h

theorem State.modCart_tends {x : Nat} (hx : x ≠ b) (f : Cart → Cart) : State.Tends b dark s (s.modCart x f) :=
  ⟨w, State.cart_modCart_ne s (Ne.symm hx) f, fun hc => spSet_wf _ _ x _ 0 (Nat.zero_le x) hc, rfl, rfl, fun _ => id, rfl, rfl, rfl, rfl⟩

theorem State.powerBay_tends {x : Nat} (hx : x ≠ b) (on : Bool) : State.Tends b dark s (s.powerBay x on) := by
  unfold State.powerBay
  dsimp only
  have hset := (State.Tends.refl (b := b) (dark := dark) w).fset (f := F.PWR_RAILS.CART_ON) (by decide)
    (.inl (by simp only [F.PWR_RAILS.CART_ON, F.CART_STATUS.STATE]; omega)) (Fld.apart_of_test (by decide))
    (.inl (by simp only [F.PWR_RAILS.CART_ON, F.CART_STATUS.BEACONS]; omega))
    (s.fget F.PWR_RAILS.CART_ON - s.fget F.PWR_RAILS.CART_ON / 2 ^ x % 2 * 2 ^ x + (if on then 2 ^ x else 0))
  generalize s.fset F.PWR_RAILS.CART_ON _ = u at hset ⊢
  have hdark : State.Tends b dark s (if on = true then u else u.fset (F.CART_STATUS.BEACONS x) 0) := by
    split
    · exact hset
    · exact hset.trans (State.bayField_tends hset.form hx rfl (by simp [F.CART_STATUS.BEACONS]) 0)
  exact hdark.trans (State.modCart_tends hdark.form hx _)

theorem State.warm_tends {x : Nat} (hx : x ≠ b) : State.Tends b dark s (s.warm x) := by
  have h1 := State.bayField_tends (dark := dark) w hx (f := F.CART_STATUS.STATE x) rfl (by simp [F.CART_STATUS.STATE]) 3
  have h2 := h1.trans (State.powerBay_tends h1.form hx true)
  exact h2.trans (State.modCart_tends h2.form hx _)

omit w in
theorem State.mem_baysIn {s : State} {v b : Nat} : b ∈ s.baysIn v ↔ b < 3 ∧ s.bayState b = v := by
  simp [State.baysIn, bays]
  omega

/-- Bays are warmed only from SPARE. -/
theorem State.ensureTwo_tends (hb : s.bayState b ≠ 2) : State.Tends b dark s s.ensureTwo := by
  have key : State.Tends b dark s s.ensureTwo ∧ s.ensureTwo.bayState b ≠ 2 :=
    List.foldlRecOn (motive := fun u : State => State.Tends b dark s u ∧ u.bayState b ≠ 2) _ _ ⟨State.Tends.refl w, hb⟩ fun u hu _ _ => by
      obtain ⟨hu, hub⟩ := hu
      split
      · split
        · next x _ hx =>
          have hne : x ≠ b := fun e => hub (State.mem_baysIn.mp (e ▸ hx ▸ List.mem_cons_self)).2
          have hw := State.warm_tends (dark := dark) hu.form hne
          exact ⟨hu.trans hw, by rw [hw.state]; exact hub⟩
        · exact ⟨hu, hub⟩
      · exact ⟨hu, hub⟩
  exact key.1

omit w in
theorem State.ensureTwo_lanes (s : State) : s.ensureTwo.light.lanes = s.light.lanes :=
  List.foldlRecOn (motive := fun u : State => u.light.lanes = s.light.lanes) _ _ rfl fun u hu _ _ => by
    split
    · split
      · exact hu
      · exact hu
    · exact hu

theorem State.setLane_tends (hb : b < 3) {n : Nat} (hn : n < 5) (src : Option (Nat × Nat)) : State.Tends b dark s (s.setLane n src) :=
  ((State.Tends.refl w).step (u := s.withLanes (lanesWith s.light.lanes n src)) rfl rfl rfl rfl rfl rfl).glows hb (State.setLane_glows w hn src)

end

/-! ## An allocation taken (R222, R225) -/

/-- The sources of an allocation are in the bays it is made over. -/
theorem State.chooseLine_bay {s : State} {bs : List Nat} {sets : List (List Nat)} {taken prefer : List (Nat × Nat)} {bus : List Nat} {x : Nat × Nat}
    (h : s.chooseLine bs sets taken bus prefer = some x) : x.1 ∈ bs := by
  have hok := List.find?_some h
  simp only [Bool.and_eq_true] at hok
  exact List.contains_iff_mem.mp hok.1.1.1

theorem spSet_mem {α : Type} [DecidableEq α] {d v : α} {k : Nat} {m : Sparse α} {p : Nat × α} (h : p ∈ spSet d m k v) : p = (k, v) ∨ p ∈ m := by
  induction m with
  | nil =>
    rw [spSet] at h
    split at h
    · cases h
    · exact .inl (List.mem_singleton.mp h)
  | cons q m ih =>
    obtain ⟨k', v'⟩ := q
    rw [spSet] at h
    split at h
    · rcases List.mem_cons.mp h with h | h
      · exact .inr (h ▸ List.mem_cons_self)
      · exact (ih h).imp_right (List.mem_cons_of_mem _)
    · split at h <;> split at h
      · exact .inr (List.mem_cons_of_mem _ h)
      · exact (List.mem_cons.mp h).imp_right (List.mem_cons_of_mem _)
      · exact .inr h
      · exact List.mem_cons.mp h

theorem State.fillLines_bay {s : State} {bs avoid : List Nat} {sets : List (List Nat)} {taken : List (Nat × Nat)} {now : Sparse (Nat × Nat)}
    {want : List (Nat × List (Nat × Nat))} : ∀ p ∈ s.fillLines bs avoid sets taken now want, p.2.1 ∈ bs := by
  unfold State.fillLines
  dsimp only
  refine List.foldlRecOn (motive := fun m : Sparse (Nat × Nat) => ∀ p ∈ m, p.2.1 ∈ bs) _ _ (fun p hp => ?_) fun m hm w _ => ?_
  · have hok := (List.mem_filter.mp hp).2
    simp only [Bool.and_eq_true] at hok
    exact List.contains_iff_mem.mp hok.1.1.1.2
  · split
    · exact hm
    · split
      · next x hx =>
        intro p hp
        rcases spSet_mem hp with rfl | hp
        · exact State.chooseLine_bay hx
        · exact hm p hp
      · exact hm

theorem laneSource_mem {m : Sparse (Nat × Nat)} {n : Nat} {x : Nat × Nat} (h : laneSource m n = some x) : (n, x) ∈ m := by
  obtain ⟨p, hp, rfl⟩ := Option.map_eq_some_iff.mp h
  have hn : p.1 = n := by simpa using List.find?_some hp
  exact hn ▸ List.mem_of_find?_eq_some hp

/-- Lane n takes its source in an allocation, where that is another. -/
def State.relane (a : Sparse (Nat × Nat)) (s : State) (n : Nat) : State :=
  if laneSource s.light.lanes n = laneSource a n then s else s.setLane n (laneSource a n)

/-- The buses of an allocation, and their rings. -/
def State.rebus (s : State) (a : Sparse (Nat × Nat)) : State :=
  [0, 1].foldl
    (fun (t : State) (j : Nat) => if s.light.buses.filter (fun p => decide (p.1 / 4 = j)) = a.filter (fun p => decide (p.1 / 4 = j)) then t
      else t.retuneBus j (fun _ => true)) (s.withBuses a)

theorem State.applyAllocation_eq (s : State) (bay : Nat) (a : Sparse (Nat × Nat) × Sparse (Nat × Nat)) : s.applyAllocation bay a =
    ((((List.range 5).foldl (State.relane a.1) s).rebus a.2).showPorts).lanesReduced bay s.light.lanes.length s.light.buses.length := rfl

theorem State.rebus_glows {s : State} (w : wordsWf 0 s.regs = true) (a : Sparse (Nat × Nat)) : (s.withBuses a).Glows (s.rebus a) :=
  (State.Glows.refl (s := s.withBuses a) w).foldl fun u wu j _ => by
    split
    · exact State.Glows.refl wu
    · exact State.retuneBus_glows wu j _

section
variable {b : Nat} {dark : Prop} {s : State} (w : wordsWf 0 s.regs = true)
include w

/-- The lanes that have come to an allocation's sources, the others being as they were. -/
theorem State.relane_lanes (a : Sparse (Nat × Nat)) (ha : ∀ n, laneSource a n ≠ some (99, 99)) {n : Nat} (hn : n < 5) (k : Nat) :
    laneSource (s.relane a n).light.lanes k = if k = n then laneSource a n else laneSource s.light.lanes k := by
  unfold State.relane
  split
  · next h =>
    split
    · next e => rw [e, h]
    · rfl
  · rw [(State.setLane_glows w hn _).lanes]
    exact laneSource_lanesWith _ _ _ (ha n)

theorem State.relane_tends (hb : b < 3) (a : Sparse (Nat × Nat)) {n : Nat} (hn : n < 5) : State.Tends b dark s (s.relane a n) := by
  unfold State.relane
  split
  · exact State.Tends.refl w
  · exact State.setLane_tends w hb hn _

theorem State.relanes_spec (hb : b < 3) (a : Sparse (Nat × Nat)) (ha : ∀ n, laneSource a n ≠ some (99, 99)) :
    State.Tends b dark s ((List.range 5).foldl (State.relane a) s) ∧
    ∀ k, k < 5 → laneSource ((List.range 5).foldl (State.relane a) s).light.lanes k = laneSource a k := by
  have key : ∀ m, m ≤ 5 → State.Tends b dark s ((List.range m).foldl (State.relane a) s) ∧
      ∀ k, k < m → laneSource ((List.range m).foldl (State.relane a) s).light.lanes k = laneSource a k := by
    intro m
    induction m with
    | zero => exact fun _ => ⟨State.Tends.refl w, fun k hk => by omega⟩
    | succ m ih =>
      intro hm
      obtain ⟨ht, hs⟩ := ih (by omega)
      rw [List.range_succ, List.foldl_append]
      refine ⟨ht.trans (State.relane_tends ht.form hb a (by omega)), fun k hk => ?_⟩
      refine (State.relane_lanes ht.form a ha (by omega) k).trans ?_
      split
      · next e => rw [e]
      · exact hs k (by omega)
  exact key 5 le_rfl

theorem State.applyAllocation_spec (hb : b < 3) (bay : Nat) (a : Sparse (Nat × Nat) × Sparse (Nat × Nat)) (ha : ∀ n, laneSource a.1 n ≠ some (99, 99)) :
    State.Tends b dark s (s.applyAllocation bay a) ∧ ∀ k, k < 5 → laneSource (s.applyAllocation bay a).light.lanes k = laneSource a.1 k := by
  obtain ⟨ht, hs⟩ := State.relanes_spec (dark := dark) w hb a.1 ha
  rw [State.applyAllocation_eq]
  generalize (List.range 5).foldl (State.relane a.1) s = u at ht hs ⊢
  have hbus := State.rebus_glows ht.form a.2
  have hports := hbus.trans (State.showPorts_glows hbus.form)
  have hall := hports.trans (State.lanesReduced_glows hports.form bay s.light.lanes.length s.light.buses.length)
  have hset : State.Tends b dark s (u.withBuses a.2) := ht.step rfl rfl rfl rfl rfl rfl
  exact ⟨hset.glows hb hall, fun k hk => by rw [hall.lanes]; exact hs k hk⟩

omit w in
theorem State.mem_litBays {s : State} {b : Nat} (h : b ∈ s.litBays) : b < 3 ∧ (s.bayState b = 4 ∨ s.bayState b = 5) := by
  simp only [State.litBays, bays, List.mem_filter, List.mem_cons, List.not_mem_nil, or_false, Bool.or_eq_true, decide_eq_true_eq] at h
  omega

/-- An allocation over the lit bays taken: no lane is fed by a bay that is dark. -/
theorem State.applyLit_spec (hb : b < 3) (bay : Nat) (avoid : List Nat) :
    State.Tends b dark s (s.applyAllocation bay (s.allocation s.litBays avoid)) ∧
    ∀ k x, k < 5 → laneSource (s.applyAllocation bay (s.allocation s.litBays avoid)).light.lanes k = some x → x.1 ∈ s.litBays := by
  have hbay : ∀ n x, laneSource (s.allocation s.litBays avoid).1 n = some x → x.1 ∈ s.litBays := fun n x h =>
    State.fillLines_bay _ (laneSource_mem h)
  obtain ⟨ht, hs⟩ := State.applyAllocation_spec (dark := dark) w hb bay (s.allocation s.litBays avoid) fun n h => by
    have := (State.mem_litBays (hbay n _ h)).1
    omega
  exact ⟨ht, fun k x hk hx => hbay k x ((hs k hk).symm.trans hx)⟩

end

end Sys2Proof.Machine
end

section
/-!
PROOFS. Cartridge bays (R218–R221, R234, R235, R239): a cartridge inserted, proved, not proved in time, tripped and removed, and the
statement.
-/

namespace Sys2Proof.Machine

/-! ## What a bay's loss does elsewhere (R231, R238, R239) -/

section
variable {b : Nat} {dark : Prop} {s : State} (w : wordsWf 0 s.regs = true)
include w

theorem State.lightEvent_tends (hb : b < 3) (bay kind new line loss predict : Nat) :
    State.Tends b dark s (s.lightEvent bay kind new line loss predict) := (State.Tends.refl w).told hb (State.lightEvent_told w ..)

theorem State.abandonInsertion_tends : State.Tends b dark s s.abandonInsertion := by
  unfold State.abandonInsertion
  split
  · dsimp only
    have hset : State.Tends b dark s (bays.foldl (fun s b => s.fset (F.CART_STATUS.MIGRATING b) 0) s) :=
      (State.Tends.refl w).foldl fun u wu x _ => by
        by_cases e : x = b
        · exact e ▸ State.ownField_tends wu rfl (Nat.le_of_ble_eq_true rfl) (by simp [F.CART_STATUS.MIGRATING]) 0
        · exact State.bayField_tends wu e rfl (by simp [F.CART_STATUS.MIGRATING]) 0
    generalize bays.foldl (fun s b => s.fset (F.CART_STATUS.MIGRATING b) 0) s = u at hset ⊢
    have hend := (hset.step (u := { u with light := { u.light with insertion := none, move := none } }) rfl rfl rfl rfl rfl rfl).count 12 5 1
    split
    · exact hend.step (State.complete_failed_regs ..) (by rw [State.complete_light]) (State.complete_steer ..)
        (State.complete_mem ..) (State.complete_lock ..) (State.complete_tows ..)
    · exact hend
  · exact State.Tends.refl w

/-- A beacon that bay b fed goes to another bay. -/
theorem State.beaconLost_tends (hb : b < 3) {h : Nat} (hsrc : s.fget (srcFld h) = b) : State.Tends b dark s (s.beaconLost h) := by
  unfold State.beaconLost
  dsimp only
  rw [hsrc]
  have hne : ((s.baysIn 4 ++ s.baysIn 2).filter (fun x => decide (x ≠ b))).headD 3 ≠ b := by
    cases hl : (s.baysIn 4 ++ s.baysIn 2).filter (fun x => decide (x ≠ b)) with
    | nil => rw [List.headD_nil]; omega
    | cons x l =>
      have hx : x ∈ (s.baysIn 4 ++ s.baysIn 2).filter (fun x => decide (x ≠ b)) := hl ▸ List.mem_cons_self
      simpa using (List.mem_filter.mp hx).2
  generalize ((s.baysIn 4 ++ s.baysIn 2).filter (fun x => decide (x ≠ b))).headD 3 = x at hne ⊢
  have h1 := State.setBeacon_tends (dark := dark) w hb h x fun _ => hne
  generalize s.setBeacon h x = u at h1 ⊢
  have h2 : State.Tends b dark s (if x < 3 ∧ u.bayState x = 2 then u.powerBay x true else u) := by
    split
    · exact h1.trans (State.powerBay_tends h1.form hne true)
    · exact h1
  generalize (if x < 3 ∧ u.bayState x = 2 then u.powerBay x true else u) = v at h2 ⊢
  have h3 : State.Tends b dark s (if x < 3 ∧ v.light.mated.contains h = true then v.lightBeacon x h true else v) := by
    split
    · exact h2.trans (State.lightBeacon_tends h2.form hb x h true fun _ e => absurd e hne)
    · exact h2
  generalize (if x < 3 ∧ v.light.mated.contains h = true then v.lightBeacon x h true else v) = y at h3 ⊢
  have h4 : State.Tends b dark s (if x < 3 then (y.lightEvent b 5 x 0xFF 0 0).count 12 6 else y) := by
    split
    · exact (h3.trans (State.lightEvent_tends h3.form hb b 5 x 0xFF 0 0)).count 12 6 1
    · exact h3
  exact (h4.logEntry hb (by decide) 6 .component .bay 5 b 0).count 12 7 1

end

/-! ## A bay without 12 V (R239) -/

/-- CART_ON without the bit of bay b. -/
def State.railsWithout (s : State) (b : Nat) : Nat := s.fget F.PWR_RAILS.CART_ON - s.fget F.PWR_RAILS.CART_ON / 2 ^ b % 2 * 2 ^ b + 0

/-- The machine with bay b empty and dark. -/
def State.emptied (s : State) (b : Nat) : State := ((s.setBay b 0).powerBay b false).fset (F.CART_STATUS.MIGRATING b) 0

/-- The insertion that a lost bay took part in ends. -/
def State.lostInsertion (s : State) (b : Nat) : State :=
  match s.light.insertion with
  | some i =>
    if i.new = b then s.abandonInsertion
    else if i.old = b then
      let s := { s with light := { s.light with insertion := none, move := none } }
      let s := s.fset (F.CART_STATUS.MIGRATING i.new) 0
      match i.cmd with | some src => s.complete 0x71 src .done | none => s
    else s
  | none => s

/-- What a lost bay fed is replaced. -/
def State.lostLight (s : State) (b was : Nat) : State :=
  if was = 4 ∨ was = 5 then
    let s := s.lightEvent b 6 b 0xFF 0 0
    let s := [0, 1].foldl (fun s h => if s.fget (srcFld h) = b then s.beaconLost h else s) s
    (s.applyAllocation b (s.allocation s.litBays [])).ensureTwo
  else if s.rung ≤ 2 ∧ !s.held then s.ensureTwo else s

/-- The machine without the roles of bay b. -/
def State.unroled (s : State) (b : Nat) : State :=
  { s with light := { s.light with first := if s.light.first = some b then none else s.light.first
                                   second := if s.light.second = some b then none else s.light.second } }

theorem State.loseBay_eq (s : State) (b : Nat) : s.loseBay b =
    (((if s.bayState b = 3 then (s.emptied b).logEntry 5 6 .component .bay 3 b else s.emptied b).lostInsertion b).unroled b).lostLight b (s.bayState b) := rfl

section
variable {s : State} (w : wordsWf 0 s.regs = true) {b : Nat}
include w

/-- A bay in a state v without 12 V: its cartridge and its beacons. -/
structure State.Dark (b v : Nat) (s t : State) : Prop where
  form : wordsWf 0 t.regs = true
  state : t.bayState b = v
  powered : (t.cart b).powered = false
  beacons : t.fget (F.CART_STATUS.BEACONS b) = 0
  trip : t.fget F.PWR_RAILS.CART_TRIP = s.fget F.PWR_RAILS.CART_TRIP
  steer : t.steer = s.steer
  mem : t.mem = s.mem
  lock : t.lock = s.lock
  tows : t.tows = s.tows

omit w in
theorem State.Dark.tends {s t u : State} {b v : Nat} (h : State.Dark b v s t) (k : State.Tends b True t u) : State.Dark b v s u :=
  ⟨k.form, k.state.trans h.state, by rw [k.cart]; exact h.powered, k.dim trivial h.beacons, k.trip.trans h.trip, k.steer.trans h.steer,
    k.mem.trans h.mem, k.lock.trans h.lock, k.tows.trans h.tows⟩

omit w in
theorem State.cart_modCart_self {s : State} (wc : spWf {} 0 s.light.carts = true) (b : Nat) (f : Cart → Cart) : (s.modCart b f).cart b = f (s.cart b) :=
  spGet_spSet_self _ _ b _ 0 wc

omit w in
/-- A bay dark in its words is dark once its cartridge has no power. -/
theorem State.Dark.cut {s y : State} {b n : Nat} (h : wordsWf 0 y.regs = true ∧ y.bayState b = n ∧ y.fget (F.CART_STATUS.BEACONS b) = 0 ∧
    y.fget F.PWR_RAILS.CART_TRIP = s.fget F.PWR_RAILS.CART_TRIP ∧ y.light = s.light ∧ y.steer = s.steer ∧ y.mem = s.mem ∧ y.lock = s.lock ∧
    y.tows = s.tows) (wc : spWf {} 0 s.light.carts = true) :
    State.Dark b n s (y.modCart b fun c => { c with powered := false }) ∧
      spWf {} 0 (y.modCart b fun c => { c with powered := false }).light.carts = true := by
  obtain ⟨hform, hstate, hbeacons, htrip, hlight, hsteer, hmem, hlock, htows⟩ := h
  have wy : spWf {} 0 y.light.carts = true := by rw [hlight]; exact wc
  have hcart := State.cart_modCart_self wy b fun c => { c with powered := false }
  exact ⟨⟨hform, hstate, congrArg Cart.powered hcart, hbeacons, htrip, hsteer, hmem, hlock, htows⟩, spSet_wf _ _ b _ 0 (Nat.zero_le b) wy⟩

omit w in
theorem State.powerBay_off (s : State) (b : Nat) : s.powerBay b false =
    ((s.fset F.PWR_RAILS.CART_ON (s.railsWithout b)).fset (F.CART_STATUS.BEACONS b) 0).modCart b (fun c => { c with powered := false }) := rfl

theorem State.shutBay_dark (wc : spWf {} 0 s.light.carts = true) {n : Nat} (hn : n < 8) :
    State.Dark b n s ((s.setBay b n).powerBay b false) ∧ spWf {} 0 ((s.setBay b n).powerBay b false).light.carts = true := by
  have hstate : (s.setBay b n).bayState b = n :=
    (State.fget_fset_self s _ n (by simp [F.CART_STATUS.STATE]) w).trans (Nat.mod_eq_of_lt hn)
  have htrip : (s.setBay b n).fget F.PWR_RAILS.CART_TRIP = s.fget F.PWR_RAILS.CART_TRIP :=
    s.fget_fset_apart _ _ n (by simp [F.CART_STATUS.STATE]) w (.inl (by simp only [F.CART_STATUS.STATE, F.PWR_RAILS.CART_TRIP]; omega))
  have hrest : (s.setBay b n).light = s.light ∧ (s.setBay b n).steer = s.steer ∧ (s.setBay b n).mem = s.mem ∧ (s.setBay b n).lock = s.lock ∧
      (s.setBay b n).tows = s.tows := ⟨rfl, rfl, rfl, rfl, rfl⟩
  have wu : wordsWf 0 (s.setBay b n).regs = true := s.fset_wf _ _ w
  generalize s.setBay b n = u at hstate htrip hrest wu ⊢
  obtain ⟨hlight, hsteer, hmem, hlock, htows⟩ := hrest
  have hv : State.Tends b False u (u.fset F.PWR_RAILS.CART_ON (u.railsWithout b)) :=
    (State.Tends.refl wu).fset (by decide) (.inl (by simp only [F.PWR_RAILS.CART_ON, F.CART_STATUS.STATE]; omega))
      (Fld.apart_of_test (by decide)) (.inl (by simp only [F.PWR_RAILS.CART_ON, F.CART_STATUS.BEACONS]; omega)) _
  rw [State.powerBay_off]
  have hlight' : (u.fset F.PWR_RAILS.CART_ON (u.railsWithout b)).light = s.light := hlight
  generalize u.fset F.PWR_RAILS.CART_ON (u.railsWithout b) = x at hv hlight' ⊢
  have hbeacons : (x.fset (F.CART_STATUS.BEACONS b) 0).fget (F.CART_STATUS.BEACONS b) = 0 :=
    State.fget_fset_self x _ 0 (by simp [F.CART_STATUS.BEACONS]) hv.form
  have hstate' : (x.fset (F.CART_STATUS.BEACONS b) 0).bayState b = n :=
    (x.fget_fset_apart _ _ 0 (by simp [F.CART_STATUS.BEACONS]) hv.form (.inr (.inr (by simp [F.CART_STATUS.BEACONS, F.CART_STATUS.STATE])))).trans
      (hv.state.trans hstate)
  have htrip' : (x.fset (F.CART_STATUS.BEACONS b) 0).fget F.PWR_RAILS.CART_TRIP = s.fget F.PWR_RAILS.CART_TRIP :=
    (x.fget_fset_apart _ _ 0 (by simp [F.CART_STATUS.BEACONS]) hv.form
      (.inl (by simp only [F.CART_STATUS.BEACONS, F.PWR_RAILS.CART_TRIP]; omega))).trans (hv.trip.trans htrip)
  have hform : wordsWf 0 (x.fset (F.CART_STATUS.BEACONS b) 0).regs = true := x.fset_wf _ _ hv.form
  have hrest : (x.fset (F.CART_STATUS.BEACONS b) 0).light = s.light ∧ (x.fset (F.CART_STATUS.BEACONS b) 0).steer = s.steer ∧
      (x.fset (F.CART_STATUS.BEACONS b) 0).mem = s.mem ∧ (x.fset (F.CART_STATUS.BEACONS b) 0).lock = s.lock ∧
      (x.fset (F.CART_STATUS.BEACONS b) 0).tows = s.tows :=
    ⟨(State.fset_light ..).trans hlight', (State.fset_steer ..).trans (hv.steer.trans hsteer), (State.fset_mem ..).trans (hv.mem.trans hmem),
      (State.fset_lock ..).trans (hv.lock.trans hlock), (State.fset_tows ..).trans (hv.tows.trans htows)⟩
  exact State.Dark.cut ⟨hform, hstate', hbeacons, htrip', hrest⟩ wc

theorem State.emptied_dark (wc : spWf {} 0 s.light.carts = true) :
    State.Dark b 0 s (s.emptied b) ∧ spWf {} 0 (s.emptied b).light.carts = true := by
  obtain ⟨hdark, hcarts⟩ := State.shutBay_dark (b := b) w wc (n := 0) (by decide)
  have hlast := State.ownField_tends (b := b) (dark := True) hdark.form (f := F.CART_STATUS.MIGRATING b) rfl (Nat.le_of_ble_eq_true rfl)
    (by simp [F.CART_STATUS.MIGRATING]) 0
  exact ⟨hdark.tends hlast, hlast.carts hcarts⟩

theorem State.lostInsertion_tends {dark : Prop} : State.Tends b dark s (s.lostInsertion b) := by
  unfold State.lostInsertion
  split
  · next i _ =>
    split
    · exact State.abandonInsertion_tends w
    · split
      · next hne _ =>
        dsimp only
        have hend := (State.Tends.refl (b := b) (dark := dark) w).step (u := { s with light := { s.light with insertion := none, move := none } })
          rfl rfl rfl rfl rfl rfl
        have hset := hend.trans (State.bayField_tends hend.form hne (f := F.CART_STATUS.MIGRATING i.new) rfl (by simp [F.CART_STATUS.MIGRATING]) 0)
        generalize State.fset _ (F.CART_STATUS.MIGRATING i.new) 0 = u at hset ⊢
        split
        · exact hset.step (State.complete_done_regs ..) (by rw [State.complete_light]) (State.complete_steer ..) (State.complete_mem ..)
            (State.complete_lock ..) (State.complete_tows ..)
        · exact hset
      · exact State.Tends.refl w
  · exact State.Tends.refl w

/-- Bay b is empty: what it fed is replaced, and no lane keeps a line of it. -/
theorem State.lostLight_spec {dark : Prop} (hb : b < 3) (hstate : s.bayState b = 0) (was : Nat) :
    State.Tends b dark s (s.lostLight b was) ∧
    (was = 4 ∨ was = 5 → ∀ k x, k < 5 → laneSource (s.lostLight b was).light.lanes k = some x → x.1 ≠ b) := by
  unfold State.lostLight
  split
  · dsimp only
    have hev := State.lightEvent_tends (b := b) (dark := dark) w hb b 6 b 0xFF 0 0
    have hbeacons := hev.foldl (f := fun (s : State) h => if s.fget (srcFld h) = b then s.beaconLost h else s) (is := [0, 1]) fun u wu h _ => by
      split
      · next hsrc => exact State.beaconLost_tends wu hb hsrc
      · exact State.Tends.refl wu
    generalize [0, 1].foldl (fun (s : State) h => if s.fget (srcFld h) = b then s.beaconLost h else s) (s.lightEvent b 6 b 0xFF 0 0) = u at hbeacons ⊢
    obtain ⟨ht, hlit⟩ := State.applyLit_spec (dark := dark) hbeacons.form hb b []
    have hub : u.bayState b = 0 := hbeacons.state.trans hstate
    generalize u.applyAllocation b (u.allocation u.litBays []) = v at ht hlit ⊢
    have hvb : v.bayState b ≠ 2 := by rw [ht.state, hub]; decide
    refine ⟨(hbeacons.trans ht).trans (State.ensureTwo_tends ht.form hvb), fun _ k x hk hx hxb => ?_⟩
    rw [State.ensureTwo_lanes] at hx
    have hmem := (State.mem_litBays (hlit k x hk hx)).2
    rw [hxb, hub] at hmem
    omega
  · next hno =>
    refine ⟨?_, fun h => absurd h hno⟩
    split
    · exact State.ensureTwo_tends w (by rw [hstate]; decide)
    · exact State.Tends.refl w

theorem State.loseBay_spec (wc : spWf {} 0 s.light.carts = true) (hb : b < 3) :
    State.Dark b 0 s (s.loseBay b) ∧ spWf {} 0 (s.loseBay b).light.carts = true ∧
    (s.bayState b = 4 ∨ s.bayState b = 5 → ∀ k x, k < 5 → laneSource (s.loseBay b).light.lanes k = some x → x.1 ≠ b) := by
  obtain ⟨hdark, hcarts⟩ := State.emptied_dark (b := b) w wc
  rw [State.loseBay_eq]
  generalize s.emptied b = u at hdark hcarts ⊢
  have hlog : State.Tends b True u (if s.bayState b = 3 then u.logEntry 5 6 .component .bay 3 b else u) := by
    split
    · exact (State.Tends.refl hdark.form).logEntry hb (by decide) ..
    · exact State.Tends.refl hdark.form
  generalize (if s.bayState b = 3 then u.logEntry 5 6 .component .bay 3 b else u) = v at hlog ⊢
  have hins := hlog.trans (State.lostInsertion_tends (b := b) (dark := True) hlog.form)
  generalize v.lostInsertion b = x at hins ⊢
  have hrole : State.Tends b True u (x.unroled b) := hins.step rfl rfl rfl rfl rfl rfl
  generalize x.unroled b = y at hrole ⊢
  obtain ⟨hlight, hlanes⟩ := State.lostLight_spec (b := b) (dark := True) hrole.form hb (hrole.state.trans hdark.state) (s.bayState b)
  have hall := hrole.trans hlight
  exact ⟨hdark.tends hall, hall.carts hcarts, hlanes⟩

end

/-! ## Removal, the time-out and a trip (R218, R239, R297) -/

/-- The fields a removed cartridge leaves 0. -/
def removedFields (b : Nat) : List Fld :=
  [F.CART_STATUS.PRESENT b, F.CART_STATUS.HOURS b, F.CART_STATUS.END_OF_LIFE b, F.CART_POWER.LOSS b, F.CART_POWER.PREDICT b]

/-- The machine with these fields 0. -/
def State.zeroed (s : State) (l : List Fld) : State := l.foldl (fun s f => s.fset f 0) s

theorem State.zeroed_spec {l : List Fld} (fits : ∀ f ∈ l, f.lo + f.width ≤ 32) : ∀ {s : State}, wordsWf 0 s.regs = true →
    s.Writes (s.zeroed l) l ∧ ∀ g, g ∈ l ∨ s.fget g = 0 → (∀ f ∈ l, f = g ∨ Fld.apart f g) → (s.zeroed l).fget g = 0 := by
  induction l with
  | nil => exact fun w => ⟨State.Writes.refl w _, fun g hg _ => hg.resolve_left List.not_mem_nil⟩
  | cons f l ih =>
    intro s w
    have hf := fits f List.mem_cons_self
    obtain ⟨hw, hz⟩ := ih (fun x hx => fits x (List.mem_cons_of_mem _ hx)) (s.fset_wf f 0 w)
    refine ⟨((State.Writes.refl w _).fset List.mem_cons_self hf 0).trans (hw.mono fun _ => List.mem_cons_of_mem _), fun g hg hapart => ?_⟩
    refine hz g ?_ fun x hx => hapart x (List.mem_cons_of_mem _ hx)
    rcases hapart f List.mem_cons_self with rfl | ha
    · exact .inr ((State.fget_fset_self s f 0 hf w).trans (Nat.zero_mod _))
    · rcases hg with hg | hg
      · rcases List.mem_cons.mp hg with rfl | hg
        · exact .inr ((State.fget_fset_self s _ 0 hf w).trans (Nat.zero_mod _))
        · exact .inl hg
      · exact .inr ((s.fget_fset_apart f g 0 hf w ha).trans hg)

theorem removedFields_apart {b : Nat} {f g : Fld} (hf : f ∈ removedFields b)
    (hg : g ∈ removedFields b ∨ g = F.CART_STATUS.STATE b ∨ g = F.CART_STATUS.BEACONS b) : f = g ∨ Fld.apart f g := by
  simp only [removedFields, List.mem_cons, List.not_mem_nil, or_false] at hf hg
  rcases hf with rfl | rfl | rfl | rfl | rfl <;> rcases hg with (rfl | rfl | rfl | rfl | rfl) | rfl | rfl <;>
    simp [Fld.apart, F.CART_STATUS.PRESENT, F.CART_STATUS.HOURS, F.CART_STATUS.END_OF_LIFE, F.CART_STATUS.STATE, F.CART_STATUS.BEACONS,
      F.CART_POWER.LOSS, F.CART_POWER.PREDICT]

theorem removedFields_fit {b : Nat} : ∀ f ∈ removedFields b, f.lo + f.width ≤ 32 := by
  intro f hf
  simp only [removedFields, List.mem_cons, List.not_mem_nil, or_false] at hf
  rcases hf with rfl | rfl | rfl | rfl | rfl <;> exact Nat.le_of_ble_eq_true rfl

theorem cartsWf_of_allWf {s : State} (h : s.allWf = true) : spWf {} 0 s.light.carts = true := by
  simp only [State.allWf, State.serviceWf, Bool.and_eq_true] at h
  tauto

section
variable {s : State} (hwf : s.allWf = true) {b : Nat} (hb : b < 3)
include hwf hb

theorem cartridgeRemoved_spec :
    ∃ t, exec (.cartridgeRemoved b) s = .next t ∧ t.bayState b = 0 ∧ t.cart b = {} ∧ t.fget (F.CART_STATUS.PRESENT b) = 0 ∧
      t.fget (F.CART_STATUS.BEACONS b) = 0 ∧ t.fget (F.CART_STATUS.HOURS b) = 0 ∧ t.fget (F.CART_POWER.LOSS b) = 0 ∧
      (s.bayState b = 4 ∨ s.bayState b = 5 → ∀ n x, n < 5 → t.light.lanes.find? (fun p => p.1 = n) = some x → x.2.1 ≠ b) ∧
      t.steer = s.steer ∧ t.mem = s.mem ∧ t.lock = s.lock ∧ t.tows = s.tows := by
  obtain ⟨hdark, hcarts, hlanes⟩ := State.loseBay_spec (State.regsWf_of_allWf hwf) (cartsWf_of_allWf hwf) hb
  have hexec : exec (.cartridgeRemoved b) s = .next (((s.loseBay b).modCart b (fun _ => {})).zeroed (removedFields b)) := by
    show ifOk (Instr.wf (.cartridgeRemoved b)) _ = _
    exact if_pos (by simpa [Instr.wf, okBay] using hb)
  rw [hexec]
  generalize s.loseBay b = u at hdark hcarts hlanes ⊢
  have hcart := State.cart_modCart_self hcarts b fun _ => {}
  have hu : ((u.modCart b fun _ => {}).regs = u.regs) ∧ (u.modCart b fun _ => {}).light.lanes = u.light.lanes ∧ (u.modCart b fun _ => {}).steer = u.steer ∧
      (u.modCart b fun _ => {}).mem = u.mem ∧ (u.modCart b fun _ => {}).lock = u.lock ∧ (u.modCart b fun _ => {}).tows = u.tows :=
    ⟨rfl, rfl, rfl, rfl, rfl, rfl⟩
  generalize (u.modCart b fun _ => {}) = x at hcart hu ⊢
  obtain ⟨hregs, hl, hsteer, hmem, hlock, htows⟩ := hu
  obtain ⟨hw, hz⟩ := State.zeroed_spec (removedFields_fit (b := b)) (s := x) (by rw [hregs]; exact hdark.form)
  have hf := hw.frame
  refine ⟨_, rfl, hz _ (.inr ((State.fget_of_regs hregs _).trans hdark.state)) (fun f hf => removedFields_apart hf (.inr (.inl rfl))), ?_,
    hz _ (.inl (by simp [removedFields])) (fun f hf => removedFields_apart hf (.inl (by simp [removedFields]))),
    hz _ (.inr ((State.fget_of_regs hregs _).trans hdark.beacons)) (fun f hf => removedFields_apart hf (.inr (.inr rfl))),
    hz _ (.inl (by simp [removedFields])) (fun f hf => removedFields_apart hf (.inl (by simp [removedFields]))),
    hz _ (.inl (by simp [removedFields])) (fun f hf => removedFields_apart hf (.inl (by simp [removedFields]))),
    fun hlit n y hn hy => hlanes hlit n y.2 hn ?_, ?_, ?_, ?_, ?_⟩
  · rw [hf]; exact hcart
  · rw [hf] at hy
    rw [laneSource, ← hl]
    exact congrArg (Option.map (·.2)) hy
  · rw [hf]; exact hsteer.trans hdark.steer
  · rw [hf]; exact hmem.trans hdark.mem
  · rw [hf]; exact hlock.trans hdark.lock
  · rw [hf]; exact htows.trans hdark.tows

theorem warmingTimeout_spec (hstate : s.bayState b = 3) (hdue : (s.cart b).warmSince + 2500000000 ≤ s.time.tb3) :
    ∃ t, exec (.warmingTimeout b) s = .next t ∧ t.bayState b = 7 ∧ (t.cart b).powered = false ∧ t.steer = s.steer ∧ t.mem = s.mem ∧
      t.lock = s.lock ∧ t.tows = s.tows := by
  obtain ⟨hdark, -⟩ := State.shutBay_dark (b := b) (State.regsWf_of_allWf hwf) (cartsWf_of_allWf hwf) (n := 7) (by decide)
  have hexec : exec (.warmingTimeout b) s = .next
      (let s := ((s.setBay b 7).powerBay b false).logEntry 5 6 .component .bay 2 b
       let s := match s.light.insertion with | some i => if i.new = b then s.abandonInsertion else s | none => s
       s.ensureTwo) := by
    show ifOk (Instr.wf (.warmingTimeout b)) _ = _
    rw [if_pos ⟨hstate, hdue⟩]
    exact if_pos (by simpa [Instr.wf, okBay] using hb)
  rw [hexec]
  dsimp only
  generalize (s.setBay b 7).powerBay b false = u at hdark ⊢
  have hlog : State.Tends b True u (u.logEntry 5 6 .component .bay 2 b) := (State.Tends.refl hdark.form).logEntry hb (by decide) ..
  generalize u.logEntry 5 6 .component .bay 2 b = v at hlog ⊢
  have hins : State.Tends b True u (match v.light.insertion with | some i => if i.new = b then v.abandonInsertion else v | none => v) := by
    split
    · split
      · exact hlog.trans (State.abandonInsertion_tends hlog.form)
      · exact hlog
    · exact hlog
  generalize (match v.light.insertion with | some i => if i.new = b then v.abandonInsertion else v | none => v) = x at hins ⊢
  have h := (hdark.tends hins).tends (State.ensureTwo_tends hins.form (by rw [hins.state, hdark.state]; decide))
  exact ⟨_, rfl, h.state, h.powered, h.steer, h.mem, h.lock, h.tows⟩

theorem cartTrip_spec (hon : (s.cart b).powered = true) :
    ∃ t, exec (.cartTrip b) s = .next t ∧ t.bayState b = 0 ∧ (t.cart b).powered = false ∧
      t.fget F.PWR_RAILS.CART_TRIP / 2 ^ b % 2 = 1 ∧ t.steer = s.steer ∧ t.mem = s.mem ∧ t.lock = s.lock ∧ t.tows = s.tows := by
  have w := State.regsWf_of_allWf hwf
  have htrip : (s.fset F.PWR_RAILS.CART_TRIP (s.fget F.PWR_RAILS.CART_TRIP ||| 2 ^ b)).fget F.PWR_RAILS.CART_TRIP / 2 ^ b % 2 = 1 := by
    rw [State.fget_fset_self _ _ _ (by decide) w]
    have hbit : (((s.fget F.PWR_RAILS.CART_TRIP ||| 2 ^ b) % 2 ^ F.PWR_RAILS.CART_TRIP.width).testBit b) = true := by
      have hwidth : F.PWR_RAILS.CART_TRIP.width = 3 := rfl
      rw [Nat.testBit_mod_two_pow, Nat.testBit_or, hwidth]
      simp [hb, Nat.testBit_two_pow_self]
    rw [Nat.testBit_eq_decide_div_mod_eq] at hbit
    exact of_decide_eq_true hbit
  have hexec : exec (.cartTrip b) s = .next ((((s.fset F.PWR_RAILS.CART_TRIP (s.fget F.PWR_RAILS.CART_TRIP ||| 2 ^ b)).logEntry 5 1 .environment
      .bay 0 b).count 13 11).loseBay b) := by
    show ifOk (Instr.wf (.cartTrip b)) _ = _
    rw [if_pos hon]
    exact if_pos (by simpa [Instr.wf, okBay] using hb)
  rw [hexec]
  have hw : wordsWf 0 (s.fset F.PWR_RAILS.CART_TRIP (s.fget F.PWR_RAILS.CART_TRIP ||| 2 ^ b)).regs = true := s.fset_wf _ _ w
  have hsame : (s.fset F.PWR_RAILS.CART_TRIP (s.fget F.PWR_RAILS.CART_TRIP ||| 2 ^ b)).light.carts = s.light.carts ∧
      (s.fset F.PWR_RAILS.CART_TRIP (s.fget F.PWR_RAILS.CART_TRIP ||| 2 ^ b)).steer = s.steer ∧
      (s.fset F.PWR_RAILS.CART_TRIP (s.fget F.PWR_RAILS.CART_TRIP ||| 2 ^ b)).mem = s.mem ∧
      (s.fset F.PWR_RAILS.CART_TRIP (s.fget F.PWR_RAILS.CART_TRIP ||| 2 ^ b)).lock = s.lock ∧
      (s.fset F.PWR_RAILS.CART_TRIP (s.fget F.PWR_RAILS.CART_TRIP ||| 2 ^ b)).tows = s.tows := ⟨rfl, rfl, rfl, rfl, rfl⟩
  generalize s.fset F.PWR_RAILS.CART_TRIP (s.fget F.PWR_RAILS.CART_TRIP ||| 2 ^ b) = u at htrip hw hsame ⊢
  obtain ⟨hc, hsteer, hmem, hlock, htows⟩ := hsame
  have hlog := ((State.Tends.refl (b := b) (dark := True) hw).logEntry hb (sev := 5) (by decide) 1 .environment .bay 0 b 0).count 13 11 1
  generalize (u.logEntry 5 1 .environment .bay 0 b).count 13 11 = v at hlog ⊢
  obtain ⟨hdark, -, -⟩ := State.loseBay_spec hlog.form (hlog.carts (by rw [hc]; exact cartsWf_of_allWf hwf)) hb
  exact ⟨_, rfl, hdark.state, hdark.powered, by rw [hdark.trip, hlog.trip]; exact htrip, (hdark.steer.trans hlog.steer).trans hsteer,
    (hdark.mem.trans hlog.mem).trans hmem, (hdark.lock.trans hlog.lock).trans hlock, (hdark.tows.trans hlog.tows).trans htows⟩

end

/-! ## A cartridge inserted (R218) -/

theorem reports_withCarts {s t : State} {l : List Fld} (h : reports s t l) (m : Sparse Cart) : reports (s.withCarts m) (t.withCarts m) l := by
  obtain ⟨hframe, hlink, hpair, hkept⟩ := h
  refine ⟨?_, hlink, hpair, hkept⟩
  show t.withCarts m = _
  conv_lhs => rw [hframe]
  rfl

/-- Reports, and the cartridges. -/
def State.Carted (s t : State) (l : List Fld) : Prop := (s.withCarts t.light.carts).Reported t l

namespace State.Carted

variable {s t u : State} {l m : List Fld}

theorem of_reported (h : s.Reported t l) : s.Carted t l := by
  have hl : s.withCarts t.light.carts = s := by rw [h.light]; rfl
  rw [State.Carted, hl]
  exact h

theorem trans (h : s.Carted t l) (k : t.Carted u l) : s.Carted u l :=
  ⟨k.form, reports_trans (reports_withCarts h.reports u.light.carts) k.reports⟩

theorem mono (h : s.Carted t l) (hl : ∀ f ∈ l, f ∈ m) : s.Carted t m := State.Reported.mono h hl

theorem reported (h : s.Carted t l) (k : t.Reported u l) : s.Carted u l := h.trans (of_reported k)

theorem fset (h : s.Carted t l) {f : Fld} (hf : f ∈ l ++ logFields) (fits : f.lo + f.width ≤ 32) (v : Nat) : s.Carted (t.fset f v) l :=
  h.reported ((State.Reported.refl h.form l).fset hf fits v)

theorem modCart (h : s.Carted t l) (x : Nat) (f : Cart → Cart) : s.Carted (t.modCart x f) l :=
  h.trans ⟨h.form, reports_refl _ l⟩

theorem fget (h : s.Carted t l) {g : Fld} (hg : ∀ f ∈ l ++ logFields, Fld.apart f g) : t.fget g = s.fget g := State.Reported.fget h hg

end State.Carted

/-- The fields that identify a bay's cartridge. -/
def identFields (b : Nat) : List Fld := [F.CART_STATUS.STATE b, F.CART_STATUS.PRESENT b, F.CART_STATUS.HOURS b, F.CART_STATUS.END_OF_LIFE b]

theorem identFields_fit {b : Nat} : ∀ f ∈ identFields b, f.lo + f.width ≤ 32 := by
  intro f hf
  simp only [identFields, List.mem_cons, List.not_mem_nil, or_false] at hf
  rcases hf with rfl | rfl | rfl | rfl <;> exact Nat.le_of_ble_eq_true rfl

/-- The fields of a bay's word share no bit with the records of reports, nor with another bay's. -/
theorem logFields_apart_low {g : Fld} (hg : g.off < 0x700000) : ∀ f ∈ logFields, Fld.apart f g := fun f hf => .inl (by
  have hlow : ∀ f ∈ logFields, 0x700000 ≤ f.off := by decide
  have := hlow f hf
  omega)

/-- The state IDENT leaves a bay in (R218). -/
def Cart.identState (c : Cart) : Nat := if c.valid = false then 7 else if c.flagBit 1 || c.worn then 6 else 2

section
variable {s : State} (w : wordsWf 0 s.regs = true) {b : Nat}
include w

theorem State.setBay_state {n : Nat} (hn : n < 8) : (s.setBay b n).bayState b = n :=
  (State.fget_fset_self s _ n (by simp [F.CART_STATUS.STATE]) w).trans (Nat.mod_eq_of_lt hn)

/-- A bay takes a state, told with a logbook entry or not. -/
theorem State.setBay_logged {n : Nat} (hn : n < 8) (hb : b < 3) {sev : Nat} (hsev : sev < 8) (code : Nat) :
    s.Reported ((s.setBay b n).logEntry sev 6 .component .bay code b) (identFields b) ∧
    ((s.setBay b n).logEntry sev 6 .component .bay code b).bayState b = n ∧
    ((s.setBay b n).logEntry sev 6 .component .bay code b).fget (F.CART_STATUS.PRESENT b) = s.fget (F.CART_STATUS.PRESENT b) := by
  have hset : s.Reported (s.setBay b n) (identFields b) :=
    (State.Reported.refl w _).fset (by simp [identFields]) (by simp [F.CART_STATUS.STATE]) n
  have hlog := (State.Reported.refl hset.form []).logEntry hsev 6 .component .bay code b 0
  refine ⟨hset.trans (hlog.mono (by simp)), ?_, ?_⟩
  · exact (hlog.fget (logFields_apart_low (by simp only [F.CART_STATUS.STATE]; omega))).trans (State.setBay_state w hn)
  · exact (hlog.fget (logFields_apart_low (by simp only [F.CART_STATUS.PRESENT]; omega))).trans
      (s.fget_fset_apart _ _ n (by simp [F.CART_STATUS.STATE]) w (.inr (.inl (by simp [F.CART_STATUS.STATE, F.CART_STATUS.PRESENT]))))

theorem State.identify_spec (hb : b < 3) : s.Reported (s.identify b) (identFields b) ∧ (s.identify b).bayState b = (s.cart b).identState ∧
    (s.identify b).fget (F.CART_STATUS.PRESENT b) = 1 := by
  have hpres := (State.Reported.refl w (identFields b)).fset (f := F.CART_STATUS.PRESENT b) (by simp [identFields]) (by simp [F.CART_STATUS.PRESENT]) 1
  have hone : (s.fset (F.CART_STATUS.PRESENT b) 1).fget (F.CART_STATUS.PRESENT b) = 1 :=
    State.fget_fset_self s _ 1 (by simp [F.CART_STATUS.PRESENT]) w
  unfold State.identify
  dsimp only
  generalize s.fset (F.CART_STATUS.PRESENT b) 1 = u at hpres hone ⊢
  have hident := hpres.fset (f := F.CART_STATUS.STATE b) (by simp [identFields]) (by simp [F.CART_STATUS.STATE]) 1
  have hone' : (u.setBay b 1).fget (F.CART_STATUS.PRESENT b) = 1 :=
    (u.fget_fset_apart _ _ 1 (by simp [F.CART_STATUS.STATE]) hpres.form
      (.inr (.inl (by simp [F.CART_STATUS.STATE, F.CART_STATUS.PRESENT])))).trans hone
  rw [show u.fset (F.CART_STATUS.STATE b) 1 = u.setBay b 1 from rfl] at hident
  generalize u.setBay b 1 = v at hident hone' ⊢
  by_cases hv : (s.cart b).valid = true
  · have hhours := hident.fset (f := F.CART_STATUS.HOURS b) (by simp [identFields]) (by simp [F.CART_STATUS.HOURS]) (min 65535 ((s.cart b).field 0x100 4))
    have hone1 := (v.fget_fset_apart (F.CART_STATUS.HOURS b) (F.CART_STATUS.PRESENT b) (min 65535 ((s.cart b).field 0x100 4))
      (by simp [F.CART_STATUS.HOURS]) hident.form (.inr (.inr (by simp [F.CART_STATUS.HOURS, F.CART_STATUS.PRESENT])))).trans hone'
    generalize v.fset (F.CART_STATUS.HOURS b) (min 65535 ((s.cart b).field 0x100 4)) = x at hhours hone1 ⊢
    have hend := hhours.fset (f := F.CART_STATUS.END_OF_LIFE b) (by simp [identFields]) (by simp [F.CART_STATUS.END_OF_LIFE]) (s.cart b).worn.toNat
    have hone2 := (x.fget_fset_apart (F.CART_STATUS.END_OF_LIFE b) (F.CART_STATUS.PRESENT b) (s.cart b).worn.toNat
      (by simp [F.CART_STATUS.END_OF_LIFE]) hhours.form (.inr (.inr (by simp [F.CART_STATUS.END_OF_LIFE, F.CART_STATUS.PRESENT])))).trans hone1
    generalize x.fset (F.CART_STATUS.END_OF_LIFE b) (s.cart b).worn.toNat = y at hend hone2 ⊢
    simp only [hv, Bool.not_true, Bool.false_eq_true, if_false, Cart.identState, Bool.true_eq_false]
    split
    · obtain ⟨hr, hs, hp⟩ := State.setBay_logged (b := b) hend.form (n := 6) (by decide) hb (sev := 4) (by decide) 1
      exact ⟨hend.trans hr, hs, hp.trans hone2⟩
    · refine ⟨hend.fset (f := F.CART_STATUS.STATE b) (by simp [identFields]) (by simp [F.CART_STATUS.STATE]) 2, State.setBay_state hend.form (by decide), ?_⟩
      exact (y.fget_fset_apart _ _ 2 (by simp [F.CART_STATUS.STATE]) hend.form
        (.inr (.inl (by simp [F.CART_STATUS.STATE, F.CART_STATUS.PRESENT])))).trans hone2
  · obtain ⟨hr, hs, hp⟩ := State.setBay_logged (b := b) hident.form (n := 7) (by decide) hb (sev := 5) (by decide) 0
    rw [Bool.not_eq_true] at hv
    simp only [hv, Bool.not_false, if_true, Cart.identState]
    exact ⟨hident.trans hr, hs, hp.trans hone'⟩

/-- The fields that a bay's warming writes. -/
theorem State.warm_carted (x : Nat) : s.Carted (s.warm x) [F.CART_STATUS.STATE x, F.PWR_RAILS.CART_ON] := by
  have hset := (State.Carted.of_reported (State.Reported.refl w [F.CART_STATUS.STATE x, F.PWR_RAILS.CART_ON])).fset
    (f := F.CART_STATUS.STATE x) (by simp) (by simp [F.CART_STATUS.STATE]) 3
  exact ((hset.fset (f := F.PWR_RAILS.CART_ON) (by simp) (by decide) _).modCart x _).modCart x _

omit w in
theorem State.warm_store (wc : spWf {} 0 s.light.carts = true) (x b : Nat) :
    spWf {} 0 (s.warm x).light.carts = true ∧ ((s.warm x).cart b).store = (s.cart b).store := by
  have hkeep : ∀ (u : State), spWf {} 0 u.light.carts = true → ∀ f : Cart → Cart, (∀ c, (f c).store = c.store) →
      spWf {} 0 (u.modCart x f).light.carts = true ∧ ((u.modCart x f).cart b).store = (u.cart b).store := fun u wu f hf => by
    refine ⟨spSet_wf _ _ x _ 0 (Nat.zero_le x) wu, ?_⟩
    by_cases e : b = x
    · rw [e, State.cart_modCart_self wu, hf]
    · rw [State.cart_modCart_ne u e]
  obtain ⟨h1, hs1⟩ := hkeep ((s.setBay x 3).fset F.PWR_RAILS.CART_ON ((s.setBay x 3).fget F.PWR_RAILS.CART_ON -
    (s.setBay x 3).fget F.PWR_RAILS.CART_ON / 2 ^ x % 2 * 2 ^ x + 2 ^ x)) wc (fun c => { c with powered := true }) fun _ => rfl
  obtain ⟨h2, hs2⟩ := hkeep ((s.setBay x 3).powerBay x true) h1 (fun c => { c with warmSince := s.time.tb3 }) fun _ => rfl
  exact ⟨h2, hs2.trans hs1⟩

end

section
variable {s : State} (w : wordsWf 0 s.regs = true) (wc : spWf {} 0 s.light.carts = true) {b : Nat} (hb : b < 3)

/-- The fields written while two bays are brought to service. -/
def broughtFields : List Fld := [F.CART_STATUS.STATE 0, F.CART_STATUS.STATE 1, F.CART_STATUS.STATE 2, F.PWR_RAILS.CART_ON]

theorem warm_brought {x : Nat} (hx : x < 3) : ∀ f ∈ [F.CART_STATUS.STATE x, F.PWR_RAILS.CART_ON], f ∈ broughtFields := by
  have h : x = 0 ∨ x = 1 ∨ x = 2 := by omega
  rcases h with rfl | rfl | rfl <;> simp [broughtFields]

include w wc in
theorem State.ensureTwo_carted (b : Nat) :
    s.Carted s.ensureTwo broughtFields ∧ (s.ensureTwo.cart b).store = (s.cart b).store := by
  have key : s.Carted s.ensureTwo broughtFields ∧ spWf {} 0 s.ensureTwo.light.carts = true ∧ (s.ensureTwo.cart b).store = (s.cart b).store :=
    List.foldlRecOn (motive := fun u : State => s.Carted u broughtFields ∧ spWf {} 0 u.light.carts = true ∧ (u.cart b).store = (s.cart b).store) _ _
      ⟨State.Carted.of_reported (State.Reported.refl w _), wc, rfl⟩ fun u hu _ _ => by
        obtain ⟨hc, hwf, hs⟩ := hu
        split
        · split
          · next x _ hx =>
            have hlt : x < 3 := (State.mem_baysIn.mp (hx ▸ List.mem_cons_self)).1
            obtain ⟨hwf', hs'⟩ := State.warm_store hwf x b
            exact ⟨hc.trans ((State.warm_carted hc.form x).mono (warm_brought hlt)), hwf', hs'.trans hs⟩
          · exact ⟨hc, hwf, hs⟩
        · exact ⟨hc, hwf, hs⟩
  exact ⟨key.1, key.2.2⟩

theorem State.ensureTwo_enough (h : 2 ≤ s.serviceComing) : s.ensureTwo = s := by
  have step : ∀ u ∈ List.range 2, ∀ t : State, t = s → (if t.serviceComing < 2 then (match t.baysIn 2 with | b :: _ => t.warm b | [] => t) else t) = s := by
    rintro _ - t rfl
    rw [if_neg (by omega)]
  exact List.foldlRecOn (motive := fun t : State => t = s) (List.range 2) _ rfl fun t ht u hu => step u hu t ht

include w wc in
theorem State.warm_self : (s.warm b).bayState b = 3 ∧ ((s.warm b).cart b).powered = true ∧ ((s.warm b).cart b).warmSince = s.time.tb3 := by
  have hset : (s.setBay b 3).bayState b = 3 := State.setBay_state w (by decide)
  have hw : wordsWf 0 (s.setBay b 3).regs = true := s.fset_wf _ _ w
  have hpower : ((s.setBay b 3).powerBay b true).bayState b = (s.setBay b 3).bayState b :=
    (s.setBay b 3).fget_fset_apart _ _ _ (by decide) hw (.inl (by simp only [F.PWR_RAILS.CART_ON, F.CART_STATUS.STATE]; omega))
  have hcarts : spWf {} 0 ((s.setBay b 3).powerBay b true).light.carts = true := spSet_wf _ _ b _ 0 (Nat.zero_le b) wc
  have hcart : (s.warm b).cart b = { ((s.setBay b 3).powerBay b true).cart b with warmSince := s.time.tb3 } := State.cart_modCart_self hcarts b _
  have hon : (((s.setBay b 3).powerBay b true).cart b).powered = true :=
    (congrArg Cart.powered (State.cart_modCart_self (s := (s.setBay b 3).fset F.PWR_RAILS.CART_ON _) wc b _) :)
  exact ⟨hpower.trans hset, by rw [hcart]; exact hon, by rw [hcart]⟩

include w wc in
/-- The one spare there is, is warmed. -/
theorem State.ensureTwo_one (hfew : s.serviceComing < 2) (hone : s.baysIn 2 = [b]) : s.ensureTwo = s.warm b := by
  obtain ⟨hstate, -, -⟩ := State.warm_self (b := b) w wc
  have hnone : (s.warm b).baysIn 2 = [] := by
    refine List.eq_nil_iff_forall_not_mem.mpr fun x hx => ?_
    obtain ⟨hx3, hx2⟩ := State.mem_baysIn.mp hx
    by_cases e : x = b
    · rw [e, hstate] at hx2; cases hx2
    · rw [(State.warm_tends (b := x) (dark := False) w (Ne.symm e)).state] at hx2
      have hin : x ∈ s.baysIn 2 := State.mem_baysIn.mpr ⟨hx3, hx2⟩
      rw [hone] at hin
      exact e (List.mem_singleton.mp hin)
  unfold State.ensureTwo
  simp only [List.range_succ, List.range_zero, List.nil_append, List.cons_append, List.foldl_cons, List.foldl_nil, if_pos hfew, hone, hnone,
    ite_self]

/-- Bays on their way to service, in another state that has the same. -/
theorem State.serviceComing_congr {t : State} (hins : t.light.insertion = s.light.insertion)
    (h : ∀ v, v = 3 ∨ v = 4 → ∀ x, x < 3 → (t.bayState x = v ↔ s.bayState x = v)) : t.serviceComing = s.serviceComing := by
  have hin : ∀ v, v = 3 ∨ v = 4 → t.baysIn v = s.baysIn v := fun v hv => List.filter_congr fun x hx => by
    have hlt : x < 3 := by simp [bays] at hx; omega
    rw [decide_eq_decide]
    exact h v hv x hlt
  rw [State.serviceComing, State.serviceComing, hin 4 (.inr rfl), hin 3 (.inl rfl), hins]

theorem Cart.identState_cases (c : Cart) : c.identState = 7 ∨ c.identState = 6 ∨ c.identState = 2 := by
  unfold Cart.identState
  split
  · exact .inl rfl
  · split
    · exact .inr (.inl rfl)
    · exact .inr (.inr rfl)

end

section
variable {s : State} (hwf : s.allWf = true) {b : Nat} (hb : b < 3) {st : List Byte} (hlen : st.length = 4096) (hempty : s.bayState b = 0)
  (hbare : (s.cart b).store = [])
include hwf hb hlen hempty hbare

/-- The machine in whose bay b a cartridge with this store stands. -/
def State.holding (s : State) (b : Nat) (st : List Byte) : State := s.modCart b (fun _ => { store := st })

omit hwf in
theorem exec_cartridgeInserted : exec (.cartridgeInserted b st) s = .next (
    if s.rung ≤ 2 ∧ !s.held then ((s.holding b st).identify b).ensureTwo else ((s.holding b st).fset (F.CART_STATUS.PRESENT b) 1).setBay b 1) := by
  show ifOk (Instr.wf (.cartridgeInserted b st)) _ = _
  rw [if_pos ⟨hempty, hbare⟩]
  exact if_pos (by simp [Instr.wf, okBay, hb, hlen])

theorem cartridgeInserted_identified (hr : s.rung ≤ 2) (hheld : s.held = false) :
    let c : Cart := { store := st }
    ∃ t, exec (.cartridgeInserted b st) s = .next t ∧ t.fget (F.CART_STATUS.PRESENT b) = 1 ∧ (t.cart b).store = st ∧
      (c.valid = false → t.bayState b = 7) ∧
      (c.valid = true → c.flagBit 1 = true ∨ c.worn = true → t.bayState b = 6) ∧
      (c.valid = true → c.flagBit 1 = false → c.worn = false → 2 ≤ s.serviceComing → t.bayState b = 2) ∧
      (c.valid = true → c.flagBit 1 = false → c.worn = false → s.serviceComing < 2 → s.baysIn 2 = [] →
        t.bayState b = 3 ∧ (t.cart b).powered = true ∧ (t.cart b).warmSince = s.time.tb3) ∧
      reports { s with light := { s.light with carts := t.light.carts } } t
        [F.CART_STATUS.STATE 0, F.CART_STATUS.STATE 1, F.CART_STATUS.STATE 2, F.CART_STATUS.PRESENT b, F.CART_STATUS.HOURS b,
         F.CART_STATUS.END_OF_LIFE b, F.PWR_RAILS.CART_ON] := by
  intro c
  have w : wordsWf 0 (s.holding b st).regs = true := State.regsWf_of_allWf (s := s) hwf
  have hcart : (s.holding b st).cart b = c := State.cart_modCart_self (cartsWf_of_allWf hwf) b _
  have hcarts : spWf {} 0 (s.holding b st).light.carts = true := spSet_wf _ _ b _ 0 (Nat.zero_le b) (cartsWf_of_allWf hwf)
  have hstart : s.Carted (s.holding b st) [] := (State.Carted.of_reported (State.Reported.refl (State.regsWf_of_allWf hwf) [])).modCart b _
  have hsame : (s.holding b st).light.insertion = s.light.insertion ∧ (s.holding b st).time = s.time ∧ ∀ x, (s.holding b st).bayState x = s.bayState x :=
    ⟨rfl, rfl, fun _ => rfl⟩
  rw [exec_cartridgeInserted hb hlen hempty hbare, if_pos ⟨hr, by rw [hheld]; rfl⟩]
  generalize s.holding b st = u at w hcart hcarts hstart hsame ⊢
  obtain ⟨hins, htime, hbay⟩ := hsame
  obtain ⟨hrep, hident, hpres⟩ := State.identify_spec w hb
  rw [hcart] at hident
  generalize u.identify b = v at hrep hident hpres ⊢
  have hcv : v.cart b = c := by rw [State.cart, hrep.light]; exact hcart
  have hvcarts : spWf {} 0 v.light.carts = true := by rw [hrep.light]; exact hcarts
  have hothers : ∀ x, x < 3 → x ≠ b → v.bayState x = s.bayState x := fun x hx hne => by
    rw [← hbay x]
    refine hrep.fget fun f hf => ?_
    rcases List.mem_append.mp hf with hf | hf
    · refine .inl ?_
      simp only [identFields, List.mem_cons, List.not_mem_nil, or_false] at hf
      rcases hf with rfl | rfl | rfl | rfl <;>
        simp only [F.CART_STATUS.STATE, F.CART_STATUS.PRESENT, F.CART_STATUS.HOURS, F.CART_STATUS.END_OF_LIFE] <;> omega
    · exact logFields_apart_low (by simp only [F.CART_STATUS.STATE]; omega) f hf
  have hcoming : v.serviceComing = s.serviceComing := State.serviceComing_congr (by rw [hrep.light, hins]) fun n hn x hx => by
    by_cases e : x = b
    · rw [e, hident, hempty]
      have := Cart.identState_cases c
      omega
    · rw [hothers x hx e]
  obtain ⟨htwo, hstore⟩ := State.ensureTwo_carted hrep.form hvcarts b
  have hall : s.Carted v.ensureTwo [F.CART_STATUS.STATE 0, F.CART_STATUS.STATE 1, F.CART_STATUS.STATE 2, F.CART_STATUS.PRESENT b,
      F.CART_STATUS.HOURS b, F.CART_STATUS.END_OF_LIFE b, F.PWR_RAILS.CART_ON] := by
    have hbs : F.CART_STATUS.STATE b ∈ [F.CART_STATUS.STATE 0, F.CART_STATUS.STATE 1, F.CART_STATUS.STATE 2] := by
      have h : b = 0 ∨ b = 1 ∨ b = 2 := by omega
      rcases h with rfl | rfl | rfl <;> simp
    refine ((hstart.mono (by simp)).reported (hrep.mono fun f hf => ?_)).trans (htwo.mono fun f hf => ?_)
    · simp only [identFields, List.mem_cons, List.not_mem_nil, or_false] at hf hbs ⊢
      rcases hf with rfl | hf
      · rcases hbs with h | h | h <;> simp [h]
      · rcases hf with rfl | rfl | rfl <;> simp
    · simp only [broughtFields, List.mem_cons, List.not_mem_nil, or_false] at hf ⊢
      rcases hf with rfl | rfl | rfl | rfl <;> simp
  have hkeep : c.identState ≠ 2 → v.ensureTwo.bayState b = c.identState := fun hne => by
    rw [(State.ensureTwo_tends (dark := False) hrep.form (by rw [hident]; exact hne)).state, hident]
  have hpresent : v.ensureTwo.fget (F.CART_STATUS.PRESENT b) = 1 := by
    refine (htwo.fget fun f hf => ?_).trans hpres
    rcases List.mem_append.mp hf with hf | hf
    · simp only [broughtFields, List.mem_cons, List.not_mem_nil, or_false] at hf
      rcases hf with rfl | rfl | rfl | rfl <;>
        simp only [Fld.apart, F.CART_STATUS.STATE, F.CART_STATUS.PRESENT, F.PWR_RAILS.CART_ON] <;> omega
    · exact logFields_apart_low (by simp only [F.CART_STATUS.PRESENT]; omega) f hf
  refine ⟨_, rfl, hpresent, by rw [hstore, hcv], fun hbad => ?_, fun hgood hold => ?_, fun hgood hnew hfresh hmany => ?_,
    fun hgood hnew hfresh hfew hnone => ?_, hall.reports⟩
  · have hi : c.identState = 7 := by rw [Cart.identState, if_pos hbad]
    rw [hkeep (by rw [hi]; decide), hi]
  · have hi : c.identState = 6 := by rw [Cart.identState, if_neg (by simp [hgood]), if_pos (by simpa using hold)]
    rw [hkeep (by rw [hi]; decide), hi]
  · have hi : c.identState = 2 := by rw [Cart.identState, if_neg (by simp [hgood]), if_neg (by simp [hnew, hfresh])]
    rw [State.ensureTwo_enough (by omega), hident, hi]
  · have hi : c.identState = 2 := by rw [Cart.identState, if_neg (by simp [hgood]), if_neg (by simp [hnew, hfresh])]
    have hone : v.baysIn 2 = [b] := by
      have hfilter : v.baysIn 2 = bays.filter (fun x => decide (x = b)) := List.filter_congr fun x hx => by
        have hlt : x < 3 := by simp [bays] at hx; omega
        rw [decide_eq_decide]
        refine ⟨fun h2 => by_contra fun e => ?_, fun e => by rw [e, hident, hi]⟩
        rw [hothers x hlt e] at h2
        exact List.not_mem_nil (hnone ▸ State.mem_baysIn.mpr ⟨hlt, h2⟩)
      rw [hfilter]
      have h : b = 0 ∨ b = 1 ∨ b = 2 := by omega
      rcases h with rfl | rfl | rfl <;> decide
    rw [State.ensureTwo_one hrep.form hvcarts (by omega) hone]
    obtain ⟨hstate, hpower, hsince⟩ := State.warm_self hrep.form hvcarts (b := b)
    exact ⟨hstate, hpower, hsince.trans (by rw [hrep.time, htime])⟩

end

/-! ## The identity store (R219, R220) -/

theorem le_length (n v : Nat) : (le n v).length = n := by
  induction n generalizing v with
  | zero => rfl
  | succ n ih => rw [le, List.length_cons, ih]

/-- The number that the bytes of a number spell. -/
theorem ofLe_le (n v : Nat) : ofLe (le n v) = v % 256 ^ n := by
  induction n generalizing v with
  | zero => simp [le, ofLe, Nat.mod_one]
  | succ n ih =>
    rw [le, ofLe, ih, Nat.pow_succ', Nat.mod_mul]
    simp

theorem putAt_length {off : Nat} {data bs : List Byte} (h : off + data.length ≤ bs.length) : (putAt off data bs).length = bs.length := by
  simp [putAt]; omega

/-- What a put leaves of a store apart from its bytes. -/
theorem leAt_putAt_apart {off : Nat} {data bs : List Byte} (h : off + data.length ≤ bs.length) {o n : Nat}
    (ha : o + n ≤ off ∨ off + data.length ≤ o) : leAt (putAt off data bs) o n = leAt bs o n := by
  unfold leAt putAt
  congr 1
  refine List.ext_getElem? fun i => ?_
  simp only [List.getElem?_take, List.getElem?_drop]
  split
  · rcases ha with ha | ha
    · rw [List.append_assoc, List.getElem?_append_left (by simp; omega), List.getElem?_take_of_lt (by omega)]
    · rw [List.getElem?_append_right (by simp; omega), List.getElem?_drop]
      congr 1
      simp; omega
  · rfl

theorem leAt_putAt_self {off : Nat} {data bs : List Byte} (h : off ≤ bs.length) : leAt (putAt off data bs) off data.length = ofLe data := by
  unfold leAt putAt
  congr 1
  have hoff : (bs.take off).length = off := by simp [h]
  rw [List.append_assoc, List.drop_append_of_le_length (by omega), List.drop_of_length_le (by omega), List.nil_append, List.take_left]


/-- What a put leaves of a store but for UCHECK, which it makes anew. -/
theorem leAt_storeWith {off : Nat} {data bs : List Byte} (hlen : bs.length = 4096) (hfit : off + data.length ≤ 0x13E) {o n : Nat} (ho : o + n ≤ 0x13E) :
    leAt (storeWith off data bs) o n = leAt (putAt off data bs) o n ∧ (storeWith off data bs).length = 4096 := by
  have hput : (putAt off data bs).length = 4096 := by rw [putAt_length (by omega), hlen]
  have hcheck : ∀ v, 0x13E + (le 2 v).length ≤ (putAt off data bs).length := fun v => by rw [le_length, hput]; decide
  unfold storeWith
  rw [if_pos (by omega)]
  exact ⟨leAt_putAt_apart (hcheck _) (.inl ho), by rw [putAt_length (hcheck _), hput]⟩

/-- A cartridge after the module writes bytes to its store. -/
def Cart.put (off : Nat) (data : List Byte) (c : Cart) : Cart := { c with store := storeWith off data c.store }

theorem Cart.put_field {c : Cart} (hlen : c.store.length = 4096) {off : Nat} {data : List Byte} (hfit : off + data.length ≤ 0x13E) :
    (c.put off data).store.length = 4096 ∧ (c.put off data).field off data.length = ofLe data ∧
    ∀ o n, o + n ≤ 0x13E → o + n ≤ off ∨ off + data.length ≤ o → (c.put off data).field o n = c.field o n := by
  refine ⟨(leAt_storeWith hlen hfit (o := 0) (n := 0) (by decide)).2, ?_, fun o n ho ha => ?_⟩
  · exact (leAt_storeWith hlen hfit hfit).1.trans (leAt_putAt_self (by omega))
  · exact (leAt_storeWith hlen hfit ho).1.trans (leAt_putAt_apart (by omega) ha)

/-- A cartridge after its entry to service: SWAPS, and COMMISSION at the first entry in any module. -/
def Cart.entered (means : List Int) (c : Cart) : Cart :=
  let d := c.put 0x104 (le 2 (c.field 0x104 2 + 1))
  if c.flagBit 0 then d
  else (d.put 0x108 ((List.range 18).flatMap (fun i => le 2 (ofSigned 16 (means.getD i 0))))).put 0x106 (le 2 (c.field 0x106 2 + 1))

theorem Cart.entered_field {c : Cart} (hlen : c.store.length = 4096) (means : List Int) :
    (c.entered means).field 0x104 2 = (c.field 0x104 2 + 1) % 65536 ∧ (c.entered means).flagBit 0 = true := by
  have hswap := Cart.put_field hlen (off := 0x104) (data := le 2 (c.field 0x104 2 + 1)) (by rw [le_length]; decide)
  simp only [le_length, ofLe_le] at hswap
  obtain ⟨hlen1, hswaps, hrest1⟩ := hswap
  unfold Cart.entered
  dsimp only
  generalize c.put 0x104 (le 2 (c.field 0x104 2 + 1)) = d at hlen1 hswaps hrest1 ⊢
  split
  · next hflag =>
    refine ⟨hswaps, ?_⟩
    rw [Cart.flagBit, hrest1 0x106 2 (by decide) (.inr (by decide))]
    exact hflag
  · next hflag =>
    have hlines : ((List.range 18).flatMap (fun i => le 2 (ofSigned 16 (means.getD i 0)))).length = 36 := by
      simp [List.length_flatMap, le_length]
    obtain ⟨hlen2, -, hrest2⟩ := Cart.put_field hlen1 (off := 0x108) (data := (List.range 18).flatMap (fun i => le 2 (ofSigned 16 (means.getD i 0))))
      (by rw [hlines]; decide)
    rw [hlines] at hrest2
    generalize d.put 0x108 ((List.range 18).flatMap (fun i => le 2 (ofSigned 16 (means.getD i 0)))) = e at hlen2 hrest2 ⊢
    have hput := Cart.put_field hlen2 (off := 0x106) (data := le 2 (c.field 0x106 2 + 1)) (by rw [le_length]; decide)
    simp only [le_length, ofLe_le] at hput
    obtain ⟨-, hflags, hrest3⟩ := hput
    have heven : c.field 0x106 2 % 2 = 0 := by
      have hodd : ¬c.field 0x106 2 / 2 ^ 0 % 2 = 1 := fun h => hflag (decide_eq_true h)
      rw [Nat.pow_zero, Nat.div_one] at hodd
      omega
    refine ⟨?_, ?_⟩
    · rw [hrest3 0x104 2 (by decide) (.inl (by decide)), hrest2 0x104 2 (by decide) (.inl (by decide)), hswaps]
      rfl
    · rw [Cart.flagBit, hflags]
      refine decide_eq_true ?_
      have hpow : (256 : Nat) ^ 2 = 65536 := rfl
      rw [hpow, Nat.pow_zero, Nat.div_one]
      omega

/-! ## A cartridge proved (R234) -/

/-- Cartridges and what is sent, and nothing else. -/
structure State.Stores (s t : State) : Prop where
  frame : t = { s with light := { s.light with carts := t.light.carts }, out := t.out }
  carts : spWf {} 0 s.light.carts = true → spWf {} 0 t.light.carts = true

theorem State.Stores.trans {s t u : State} (h : s.Stores t) (k : t.Stores u) : s.Stores u :=
  ⟨by rw [k.frame, h.frame], fun hc => k.carts (h.carts hc)⟩

theorem State.modCart_stores (s : State) (b : Nat) (f : Cart → Cart) : s.Stores (s.modCart b f) :=
  ⟨rfl, fun hc => spSet_wf _ _ b _ 0 (Nat.zero_le b) hc⟩

theorem State.emits_frame {α : Type} (s : State) (is : List α) (f : State → α → Sent) :
    is.foldl (fun (s : State) i => s.emit (f s i)) s = { s with out := (is.foldl (fun (s : State) i => s.emit (f s i)) s).out } := by
  induction is using List.reverseRecOn with
  | nil => rfl
  | append_singleton is i ih =>
    rw [List.foldl_append]
    generalize is.foldl (fun (s : State) i => s.emit (f s i)) s = u at ih ⊢
    rw [ih]
    rfl

theorem State.storePut_spec (s : State) (b off : Nat) (data : List Byte) :
    s.Stores (s.storePut b off data) ∧ (spWf {} 0 s.light.carts = true → (s.storePut b off data).cart b = (s.cart b).put off data) := by
  have hframe := State.emits_frame (s.modCart b (Cart.put off data)) (storePages off data.length)
    (fun s p => .storeWrite b (32 * p) (((s.cart b).store.drop (32 * p)).take 32))
  have hput : s.storePut b off data = (storePages off data.length).foldl
      (fun (s : State) p => s.emit (.storeWrite b (32 * p) (((s.cart b).store.drop (32 * p)).take 32))) (s.modCart b (Cart.put off data)) := rfl
  rw [hput]
  have hs := State.modCart_stores s b (Cart.put off data)
  refine ⟨hs.trans ⟨?_, ?_⟩, fun wc => ?_⟩
  · have hl := (congrArg (fun x : State => x.light.carts) hframe :)
    dsimp only at hl
    rw [hl]
    exact hframe
  · rw [hframe]; exact id
  · rw [hframe]
    exact State.cart_modCart_self wc b (Cart.put off data)

theorem State.enterService_spec {s : State} (wc : spWf {} 0 s.light.carts = true) (b : Nat) (means : List Int) :
    (s.setBay b 4).Stores (s.enterService b means) ∧ (s.enterService b means).cart b =
      { (s.cart b).entered means with means := means, recent := [], before := [], failed := [], hourSum := [], hourCount := 0 } := by
  have hcart : (s.setBay b 4).cart b = s.cart b := rfl
  have wc' : spWf {} 0 (s.setBay b 4).light.carts = true := wc
  unfold State.enterService
  dsimp only
  generalize s.setBay b 4 = u at hcart wc' ⊢
  rw [hcart]
  obtain ⟨h1, hc1⟩ := u.storePut_spec b 0x104 (le 2 ((s.cart b).field 0x104 2 + 1))
  have hc1 := hc1 wc'
  have hw1 := h1.carts wc'
  rw [hcart] at hc1
  generalize u.storePut b 0x104 (le 2 ((s.cart b).field 0x104 2 + 1)) = v at h1 hc1 hw1 ⊢
  have hboth : u.Stores (if (s.cart b).flagBit 0 = true then v else
      (v.storePut b 0x108 ((List.range 18).flatMap (fun i => le 2 (ofSigned 16 (means.getD i 0))))).storePut b 0x106
        (le 2 ((s.cart b).field 0x106 2 + 1))) ∧
      (if (s.cart b).flagBit 0 = true then v else
      (v.storePut b 0x108 ((List.range 18).flatMap (fun i => le 2 (ofSigned 16 (means.getD i 0))))).storePut b 0x106
        (le 2 ((s.cart b).field 0x106 2 + 1))).cart b = (s.cart b).entered means := by
    unfold Cart.entered
    dsimp only
    split
    · exact ⟨h1, hc1⟩
    · obtain ⟨h2, hc2⟩ := v.storePut_spec b 0x108 ((List.range 18).flatMap (fun i => le 2 (ofSigned 16 (means.getD i 0))))
      have hc2 := hc2 hw1
      have hw2 := h2.carts hw1
      generalize v.storePut b 0x108 ((List.range 18).flatMap (fun i => le 2 (ofSigned 16 (means.getD i 0)))) = x at h2 hc2 hw2 ⊢
      obtain ⟨h3, hc3⟩ := x.storePut_spec b 0x106 (le 2 ((s.cart b).field 0x106 2 + 1))
      exact ⟨(h1.trans h2).trans h3, by rw [hc3 hw2, hc2, hc1]⟩
  generalize (if (s.cart b).flagBit 0 = true then v else
      (v.storePut b 0x108 ((List.range 18).flatMap (fun i => le 2 (ofSigned 16 (means.getD i 0))))).storePut b 0x106
        (le 2 ((s.cart b).field 0x106 2 + 1))) = x at hboth ⊢
  obtain ⟨hx, hcx⟩ := hboth
  exact ⟨hx.trans (x.modCart_stores b _), by rw [State.cart_modCart_self (hx.carts wc'), hcx]⟩

section
variable {s : State} (w : wordsWf 0 s.regs = true) {b : Nat} (hb : b < 3)
include w hb

omit hb in
theorem State.takeRole_tends (x : Nat) : State.Tends b False s (s.takeRole x) := by
  have hlight : ∀ l : Light, l.carts = s.light.carts → State.Tends b False s { s with light := l } := fun l hl =>
    (State.Tends.refl w).step rfl hl rfl rfl rfl rfl
  unfold State.takeRole
  dsimp only
  split
  · exact hlight _ rfl
  · split
    · exact State.Tends.refl w
    · split
      · exact hlight _ rfl
      · exact hlight _ rfl
  · exact hlight _ rfl
  · exact State.Tends.refl w

theorem State.planLight_tends (x : Nat) : State.Tends b False s (s.planLight x) := by
  unfold State.planLight
  dsimp only
  have hbeacons := (State.Tends.refl (b := b) (dark := False) w).foldl (is := [0, 1])
    (f := fun (u : State) h => if (!s.bit F.RING_STATUS.SEARCH_DONE || decide (u.fget (srcFld h) = 3)) = true then u.setBeacon h (u.beaconBay h) else u)
    fun u wu h _ => by
      split
      · exact State.setBeacon_tends wu hb h _ fun hd => hd.elim
      · exact State.Tends.refl wu
  generalize List.foldl (fun (u : State) h => if (!s.bit F.RING_STATUS.SEARCH_DONE || decide (u.fget (srcFld h) = 3)) = true then
    u.setBeacon h (u.beaconBay h) else u) s [0, 1] = u at hbeacons ⊢
  have hclear : State.Tends b False s (if (!s.bit F.RING_STATUS.SEARCH_DONE) = true then
      { u with light := { u.light with lanes := [], buses := [] } } else u) := by
    split
    · exact hbeacons.step rfl rfl rfl rfl rfl rfl
    · exact hbeacons
  generalize (if (!s.bit F.RING_STATUS.SEARCH_DONE) = true then { u with light := { u.light with lanes := [], buses := [] } } else u) = v at hclear ⊢
  exact hclear.trans (State.applyLit_spec hclear.form hb x []).1

theorem State.spareIn_tends (source : Nat) (kind : Obj) (number code : Nat) (last : Bool) :
    State.Tends b False s (s.spareIn source kind number code last) :=
  (State.Tends.refl w).glows hb ((State.Glows.refl w).leaves (State.spareIn_leaves w source kind number code last).1 (fun _ => rfl) (by decide))

/-- A bay proved in an insertion does its step 1; any other takes a role and the consumers that lack light. -/
theorem State.proved_tends (ins : Bool) : State.Tends b False s (if ins then s.spareIn 6 .bay b 10 (decide (s.baysIn 2 = []))
    else
      let late := s.bit F.RING_STATUS.SEARCH_DONE
      let other := (s.baysIn 4).find? (fun x => decide (x ≠ b))
      let s := (s.takeRole b).planLight b
      match other with
      | some o =>
        if late && s.light.insertion.isNone then { s with light := { s.light with insertion := some { old := o, new := b, step := 2 } } } else s
      | none => s) := by
  split
  · exact State.spareIn_tends w hb ..
  · dsimp only
    have hrole := State.takeRole_tends (b := b) w b
    have hplan := hrole.trans (State.planLight_tends hrole.form hb b)
    generalize (s.takeRole b).planLight b = u at hplan ⊢
    split
    · split
      · exact hplan.step rfl rfl rfl rfl rfl rfl
      · exact hplan
    · exact hplan

end

section
variable {s : State} (hwf : s.allWf = true) {b : Nat} (hb : b < 3)
include hwf hb

theorem warmingProof_spec {powers : List Int} {spread : List Nat} (hstate : s.bayState b = 3) (hlen : (s.cart b).store.length = 4096)
    (hproved : (s.cart b).proved powers spread = true) :
    ∃ t, exec (.warmingProof b powers spread) s = .next t ∧ t.bayState b = 4 ∧ (t.cart b).means = powers ∧
      (t.cart b).field 0x104 2 = ((s.cart b).field 0x104 2 + 1) % 65536 ∧ (t.cart b).flagBit 0 = true ∧
      t.steer = s.steer ∧ t.mem = s.mem ∧ t.lock = s.lock ∧ t.tows = s.tows := by
  have w : wordsWf 0 (s.setBay b 4).regs = true := s.fset_wf _ _ (State.regsWf_of_allWf hwf)
  have hfour : (s.setBay b 4).bayState b = 4 := State.setBay_state (State.regsWf_of_allWf hwf) (by decide)
  obtain ⟨hstores, hcart⟩ := State.enterService_spec (cartsWf_of_allWf hwf) b powers
  obtain ⟨hswaps, hflag⟩ := Cart.entered_field hlen powers
  have hexec : exec (.warmingProof b powers spread) s = .next (
      let ins := match s.light.insertion with | some i => decide (i.new = b) | none => false
      let s := s.enterService b powers
      if ins then s.spareIn 6 .bay b 10 (decide (s.baysIn 2 = []))
      else
        let late := s.bit F.RING_STATUS.SEARCH_DONE
        let other := (s.baysIn 4).find? (fun x => decide (x ≠ b))
        let s := (s.takeRole b).planLight b
        match other with
        | some o =>
          if late && s.light.insertion.isNone then { s with light := { s.light with insertion := some { old := o, new := b, step := 2 } } } else s
        | none => s) := by
    show ifOk (Instr.wf (.warmingProof b powers spread)) _ = _
    rw [if_pos (by simp [hstate, hproved])]
    exact if_pos (by simpa [Instr.wf, okBay] using hb)
  rw [hexec]
  have hsame : (s.setBay b 4).steer = s.steer ∧ (s.setBay b 4).mem = s.mem ∧ (s.setBay b 4).lock = s.lock ∧ (s.setBay b 4).tows = s.tows :=
    ⟨rfl, rfl, rfl, rfl⟩
  have hframe := hstores.frame
  generalize s.setBay b 4 = x at w hfour hframe hsame
  dsimp only
  generalize s.enterService b powers = u at hframe hcart ⊢
  have hregs : u.regs = x.regs := (congrArg State.regs hframe :)
  have h := State.proved_tends (s := u) (by rw [hregs]; exact w) hb (match s.light.insertion with | some i => decide (i.new = b) | none => false)
  refine ⟨_, rfl, h.state.trans ((State.fget_of_regs hregs _).trans hfour), ?_, ?_, ?_, ?_, ?_, ?_, ?_⟩
  · rw [h.cart, hcart]
  · rw [h.cart, hcart]; exact hswaps
  · rw [h.cart, hcart]; exact hflag
  · exact (h.steer.trans (congrArg State.steer hframe :)).trans hsame.1
  · exact (h.mem.trans (congrArg State.mem hframe :)).trans hsame.2.1
  · exact (h.lock.trans (congrArg State.lock hframe :)).trans hsame.2.2.1
  · exact (h.tows.trans (congrArg State.tows hframe :)).trans hsame.2.2.2

theorem cartridgeInserted_waits {st : List Byte} (hlen : st.length = 4096) (hempty : s.bayState b = 0) (hbare : (s.cart b).store = [])
    (hoff : 3 ≤ s.rung ∨ s.held = true) :
    ∃ t, exec (.cartridgeInserted b st) s = .next t ∧ t.bayState b = 1 ∧ t.fget (F.CART_STATUS.PRESENT b) = 1 ∧ (t.cart b).store = st ∧
      t = { s with regs := t.regs, light := { s.light with carts := t.light.carts } } ∧
      fieldsKept s t [F.CART_STATUS.STATE b, F.CART_STATUS.PRESENT b] := by
  have w : wordsWf 0 (s.holding b st).regs = true := State.regsWf_of_allWf (s := s) hwf
  have hpres : ((s.holding b st).fset (F.CART_STATUS.PRESENT b) 1).fget (F.CART_STATUS.PRESENT b) = 1 :=
    State.fget_fset_self _ _ 1 (by simp [F.CART_STATUS.PRESENT]) w
  have hw := ((State.Writes.refl w [F.CART_STATUS.STATE b, F.CART_STATUS.PRESENT b]).fset (f := F.CART_STATUS.PRESENT b) (by simp)
    (by simp [F.CART_STATUS.PRESENT]) 1)
  have hw2 := hw.fset (f := F.CART_STATUS.STATE b) (by simp) (by simp [F.CART_STATUS.STATE]) 1
  have hcart : ((s.holding b st).cart b).store = st := congrArg Cart.store (State.cart_modCart_self (cartsWf_of_allWf hwf) b _)
  refine ⟨((s.holding b st).fset (F.CART_STATUS.PRESENT b) 1).setBay b 1, ?_, State.setBay_state hw.form (by decide), ?_, hcart, rfl, ?_⟩
  · rw [exec_cartridgeInserted hb hlen hempty hbare, if_neg (by rcases hoff with h | h <;> simp [h] ; omega)]
  · exact (State.fget_fset_apart _ _ _ 1 (by simp [F.CART_STATUS.STATE]) hw.form
      (.inr (.inl (by simp [F.CART_STATUS.STATE, F.CART_STATUS.PRESENT])))).trans hpres
  · exact fun g hg => (hw2.kept g hg).trans rfl

end

/-- Settles O46: a bay's state is written by what happens to its own cartridge; what it fed is found in other bays. -/
theorem cartridgeBays : Obligations.CartridgeBays := by
  unfold Obligations.CartridgeBays
  exact ⟨fun s b st hwf hb hlen hempty hbare hr hheld => cartridgeInserted_identified hwf hb hlen hempty hbare hr hheld,
    fun s b st hwf hb hlen hempty hbare hoff => cartridgeInserted_waits hwf hb hlen hempty hbare hoff,
    fun s b hwf hb => cartridgeRemoved_spec hwf hb,
    fun s b powers spread hwf hb hstate hlen hproved => warmingProof_spec hwf hb hstate hlen hproved,
    fun s b hwf hb hstate hdue => warmingTimeout_spec hwf hb hstate hdue, fun s b hwf hb hon => cartTrip_spec hwf hb hon⟩

end Sys2Proof.Machine
end

section
/-!
PROOFS. Insertions and moves (R235–R238): the steps of an insertion, of the move of a tether lane and of a service bus, and the statement.
-/

namespace Sys2Proof.Machine

/-! ## The steps of an insertion (R235) -/

theorem lightHeld_off {s : State} (h : s.poundState 14 ≠ 3) : s.lightHeld = false := decide_eq_false h

theorem exec_insertion {s : State} {i : Insertion} (hi : s.light.insertion = some i) (hrings : s.ringsIn 3 = 0) (hpound : s.poundState 14 ≠ 3)
    (hmove : s.light.move = none) : exec .insertion s = .next
      (if i.step = 1 then (if s.bayState i.new = 4 then s.drainOld i else s)
       else if i.step = 2 then (if s.bayState i.new = 4 then s.moveBeacons i else s)
       else if i.step = 3 then s.insStep i 4
       else if i.step = 4 then (if s.lanesToMove i = [] then s.insStep i 5 else s)
       else if s.busToMove i 0 || s.busToMove i 1 || s.portsMoving then s
       else s.endInsertion i) := by
  show execInsertion s = _
  rw [execInsertion, hi]
  dsimp only
  rw [if_neg]
  rw [hrings, lightHeld_off hpound, hmove]
  simp

section
variable {s : State} (w : wordsWf 0 s.regs = true) {i : Insertion} (hnew : i.new < 3) (hold : i.old < 3) (hne : i.old ≠ i.new)
include w

/-- The words of the bays of an insertion that begins to move. -/
def State.drainWords (s : State) (i : Insertion) : State :=
  ((s.setBay i.old 5).fset (F.CART_STATUS.MIGRATING i.old) 1).fset (F.CART_STATUS.MIGRATING i.new) 1

include hne in
theorem State.drainWords_spec : s.drainWords i = { s with regs := (s.drainWords i).regs } ∧ (s.drainWords i).bayState i.old = 5 ∧
    (s.drainWords i).fget (F.CART_STATUS.MIGRATING i.old) = 1 ∧ (s.drainWords i).fget (F.CART_STATUS.MIGRATING i.new) = 1 := by
  have hfive : (s.setBay i.old 5).bayState i.old = 5 := State.setBay_state w (by decide)
  have w1 : wordsWf 0 (s.setBay i.old 5).regs = true := s.fset_wf _ _ w
  refine ⟨rfl, ?_⟩
  unfold State.drainWords
  generalize s.setBay i.old 5 = u at hfive w1 ⊢
  have hone := State.fget_fset_self u (F.CART_STATUS.MIGRATING i.old) 1 (by simp [F.CART_STATUS.MIGRATING]) w1
  have hfive' := (State.ownField_tends (b := i.old) (dark := False) w1 (f := F.CART_STATUS.MIGRATING i.old) rfl (Nat.le_of_ble_eq_true rfl)
    (by simp [F.CART_STATUS.MIGRATING]) 1)
  have hstate := hfive'.state.trans hfive
  have w2 := hfive'.form
  generalize u.fset (F.CART_STATUS.MIGRATING i.old) 1 = v at hone hstate w2
  have happ : ∀ g : Fld, g.off = 0x600000 + i.old * 4 → (v.fset (F.CART_STATUS.MIGRATING i.new) 1).fget g = v.fget g := fun g hg =>
    v.fget_fset_apart _ g 1 (by simp [F.CART_STATUS.MIGRATING]) w2 (Fld.bay_apart (Ne.symm hne) rfl hg)
  exact ⟨(happ _ rfl).trans hstate, (happ _ rfl).trans hone, State.fget_fset_self v _ 1 (by simp [F.CART_STATUS.MIGRATING]) w2⟩

/-! ### Step 2: beacons (R231, R235) -/

/-- A beacon the old cartridge feeds goes to the new one. -/
def State.moveBeacon (i : Insertion) (s : State) (h : Nat) : State :=
  if s.fget (srcFld h) = i.old && (s.draining i || s.relieved i || decide (s.beaconBay h = i.new)) then
    ((s.setBeacon h i.new).lightEvent i.old 5 i.new 0xFF 0 0).count 12 6
  else s

omit w in
theorem State.moveBeacons_eq (s : State) (i : Insertion) : s.moveBeacons i = ([0, 1].foldl (State.moveBeacon i) s).insStep i 3 := rfl

omit w in
theorem srcFld_shape (h : Nat) : (srcFld h).off = 0x60000c ∧ (srcFld h).lo + (srcFld h).width ≤ 32 ∧ (srcFld h).width = 2 := by
  unfold srcFld; split <;> decide

omit w in
theorem srcFld_apart {h k : Nat} (hh : h < 2) (hk : k < 2) (hne : h ≠ k) : Fld.apart (srcFld h) (srcFld k) := by
  have : (h = 0 ∧ k = 1) ∨ (h = 1 ∧ k = 0) := by omega
  rcases this with ⟨rfl, rfl⟩ | ⟨rfl, rfl⟩ <;> exact Fld.apart_of_test (by decide)

theorem State.lightBeacon_src (b h : Nat) (on : Bool) (k : Nat) : wordsWf 0 (s.lightBeacon b h on).regs = true ∧
    (s.lightBeacon b h on).fget (srcFld k) = s.fget (srcFld k) := by
  unfold State.lightBeacon
  split
  · exact ⟨s.fset_wf _ _ w, s.fget_fset_apart _ _ _ (by simp [F.CART_STATUS.BEACONS]) w
      (.inl (by rw [(srcFld_shape k).1]; simp only [F.CART_STATUS.BEACONS]; omega))⟩
  · exact ⟨w, rfl⟩

theorem State.setBeacon_src {h b : Nat} (hh : h < 2) (hb : b < 4) :
    (s.setBeacon h b).fget (srcFld h) = b ∧ ∀ k, k < 2 → k ≠ h → (s.setBeacon h b).fget (srcFld k) = s.fget (srcFld k) := by
  obtain ⟨-, hfits, hwidth⟩ := srcFld_shape h
  obtain ⟨w1, h1⟩ := State.lightBeacon_src w (s.fget (srcFld h)) h false h
  have h1' := fun k => (State.lightBeacon_src w (s.fget (srcFld h)) h false k).2
  unfold State.setBeacon
  dsimp only
  generalize s.lightBeacon (s.fget (srcFld h)) h false = u at w1 h1 h1' ⊢
  have w2 := u.fset_wf (srcFld h) b w1
  have hset : (u.fset (srcFld h) b).fget (srcFld h) = b :=
    (State.fget_fset_self u _ b hfits w1).trans (Nat.mod_eq_of_lt (by rw [hwidth]; exact hb))
  refine ⟨((State.lightBeacon_src w2 b h _ h).2).trans hset, fun k hk hne => ?_⟩
  rw [(State.lightBeacon_src w2 b h _ k).2, u.fget_fset_apart _ _ b hfits w1 (srcFld_apart hh hk (Ne.symm hne)), h1' k]

include hnew hold in
theorem State.moveBeacon_spec {h : Nat} (hh : h < 2) (hdrain : s.bayState i.old = 5) :
    State.Tends i.old False s (s.moveBeacon i h) ∧
    (s.moveBeacon i h).fget (srcFld h) = (if s.fget (srcFld h) = i.old then i.new else s.fget (srcFld h)) ∧
    ∀ k, k < 2 → k ≠ h → (s.moveBeacon i h).fget (srcFld k) = s.fget (srcFld k) := by
  have hd : s.draining i = true := decide_eq_true hdrain
  unfold State.moveBeacon
  simp only [hd, Bool.true_or, Bool.and_true, decide_eq_true_eq]
  split
  · have htends := State.setBeacon_tends (b := i.old) (dark := False) w hold h i.new fun f => f.elim
    obtain ⟨hself, hothers⟩ := State.setBeacon_src w hh (b := i.new) (by omega)
    generalize s.setBeacon h i.new = u at htends hself hothers ⊢
    have htold := State.lightEvent_told htends.form i.old 5 i.new 0xFF 0 0
    have hread : ∀ k, ((u.lightEvent i.old 5 i.new 0xFF 0 0).count 12 6).fget (srcFld k) = u.fget (srcFld k) := fun k =>
      htold.kept _ (logFields_apart_low (by rw [(srcFld_shape k).1]; decide))
    exact ⟨(htends.told hold htold).count 12 6 1, (hread h).trans hself, fun k hk hne => (hread k).trans (hothers k hk hne)⟩
  · exact ⟨State.Tends.refl w, rfl, fun _ _ _ => rfl⟩

include hnew hold in
theorem State.moveBeacons_spec (hdrain : s.bayState i.old = 5) :
    (∀ h, h < 2 → (s.moveBeacons i).fget (srcFld h) = if s.fget (srcFld h) = i.old then i.new else s.fget (srcFld h)) ∧
    (s.moveBeacons i).light.insertion = some { i with step := 3 } ∧ (s.moveBeacons i).steer = s.steer ∧ (s.moveBeacons i).mem = s.mem ∧
    (s.moveBeacons i).lock = s.lock := by
  obtain ⟨h0, hs0, hk0⟩ := State.moveBeacon_spec w hnew hold (h := 0) (by decide) hdrain
  obtain ⟨h1, hs1, hk1⟩ := State.moveBeacon_spec h0.form hnew hold (h := 1) (by decide) (h0.state.trans hdrain)
  rw [State.moveBeacons_eq]
  rw [List.foldl_cons, List.foldl_cons, List.foldl_nil]
  generalize s.moveBeacon i 0 = u at h0 hs0 hk0 h1 hs1 hk1 ⊢
  generalize u.moveBeacon i 1 = v at h1 hs1 hk1 ⊢
  refine ⟨fun h hh => ?_, rfl, h1.steer.trans h0.steer, h1.mem.trans h0.mem, h1.lock.trans h0.lock⟩
  show v.fget (srcFld h) = _
  have : h = 0 ∨ h = 1 := by omega
  rcases this with rfl | rfl
  · rw [hk1 0 (by decide) (by decide), hs0]
  · rw [hs1, hk0 1 (by decide) (by decide)]

end

/-! ### Step 6: the end (R221, R235, R237) -/

/-- The machine in which the bays of an insertion no longer migrate, and it is over. -/
def State.insertionOver (s : State) (i : Insertion) : State :=
  let s := (s.fset (F.CART_STATUS.MIGRATING i.old) 0).fset (F.CART_STATUS.MIGRATING i.new) 0
  { s with light := { s.light with insertion := none, move := none } }

/-- The old cartridge marked, its bay out of DRAINING and without power. -/
def State.oldLeaves (s : State) (i : Insertion) (retire : Bool) : State :=
  let s := if retire then s.retireStore i.old else s
  (s.setBay i.old (if retire then 6 else 2)).powerBay i.old false

/-- The end of an insertion told. -/
def State.insertionTold (s : State) (i : Insertion) : State :=
  ((s.lightEvent i.old 3 i.new 0xFF 0 0).logEntry 3 6 .component .bay 3 i.old).count 12 4

theorem State.endInsertion_eq {s : State} {i : Insertion} (hdrain : s.bayState i.old = 5) : s.endInsertion i =
    (let u := ((s.insertionOver i).oldLeaves i (s.cart i.old).retire).insertionTold i
     let u := match i.cmd with | some src => u.complete 0x71 src .done | none => u
     match u.light.queued with
     | (b, _, _) :: rest =>
       let u := { u with light := { u.light with queued := rest } }
       if u.bayState b = 4 then u.replaceBay b 0 else u
     | [] => u) := by
  have hd : s.draining i = true := decide_eq_true hdrain
  unfold State.endInsertion
  simp only [hd, Bool.true_or, if_true]
  rfl

/-- Cartridges, what is sent, and the words of one bay's loss of power. -/
structure State.Shuts (b : Nat) (s t : State) : Prop where
  frame : t = { s with regs := t.regs, light := { s.light with carts := t.light.carts }, out := t.out }
  kept : ∀ g : Fld, Fld.apart (F.CART_STATUS.STATE b) g → Fld.apart F.PWR_RAILS.CART_ON g → Fld.apart (F.CART_STATUS.BEACONS b) g → t.fget g = s.fget g

theorem State.modCart_shuts (s : State) (b : Nat) (f : Cart → Cart) : State.Shuts b s (s.modCart b f) := ⟨rfl, fun _ _ _ _ => State.fget_of_regs rfl _⟩

theorem State.fset_shuts {s : State} (w : wordsWf 0 s.regs = true) {b : Nat} {f : Fld} (fits : f.lo + f.width ≤ 32)
    (hf : f = F.CART_STATUS.STATE b ∨ f = F.PWR_RAILS.CART_ON ∨ f = F.CART_STATUS.BEACONS b) (v : Nat) : State.Shuts b s (s.fset f v) :=
  ⟨rfl, fun g hs hc hb => s.fget_fset_apart f g v fits w (by rcases hf with rfl | rfl | rfl <;> assumption)⟩

theorem State.Shuts.trans {b : Nat} {s t u : State} (h : State.Shuts b s t) (k : State.Shuts b t u) : State.Shuts b s u := by
  refine ⟨?_, fun g hs hc hb => (k.kept g hs hc hb).trans (h.kept g hs hc hb)⟩
  have hu := k.frame
  rw [h.frame] at hu
  exact hu

theorem State.shutBay_shuts {s : State} (w : wordsWf 0 s.regs = true) (b n : Nat) : State.Shuts b s ((s.setBay b n).powerBay b false) := by
  have h1 : State.Shuts b s (s.setBay b n) := State.fset_shuts w (by simp [F.CART_STATUS.STATE]) (.inl rfl) n
  have w1 : wordsWf 0 (s.setBay b n).regs = true := s.fset_wf _ _ w
  rw [State.powerBay_off]
  generalize s.setBay b n = u at h1 w1 ⊢
  have h2 := h1.trans (State.fset_shuts w1 (by decide) (.inr (.inl rfl)) (u.railsWithout b))
  have w2 : wordsWf 0 (u.fset F.PWR_RAILS.CART_ON (u.railsWithout b)).regs = true := u.fset_wf _ _ w1
  generalize u.fset F.PWR_RAILS.CART_ON (u.railsWithout b) = x at h2 w2 ⊢
  exact (h2.trans (State.fset_shuts w2 (by simp [F.CART_STATUS.BEACONS]) (.inr (.inr rfl)) 0)).trans (State.modCart_shuts ..)

/-- Two bays' marks of a migration are the same or apart. -/
theorem migrating_apart (x y : Nat) : F.CART_STATUS.MIGRATING x = F.CART_STATUS.MIGRATING y ∨
    Fld.apart (F.CART_STATUS.MIGRATING x) (F.CART_STATUS.MIGRATING y) := by
  by_cases e : x = y
  · exact .inl (by rw [e])
  · exact .inr (Fld.bay_apart e rfl rfl)

theorem State.zeroed_pair (s : State) (f g : Fld) : s.zeroed [f, g] = (s.fset f 0).fset g 0 := rfl

/-- The machine whose insertion is over. -/
def State.noInsertion (s : State) : State := { s with light := { s.light with insertion := none, move := none } }

theorem State.noInsertion_regs (s : State) : s.noInsertion.regs = s.regs := rfl

theorem State.insertionOver_eq (s : State) (i : Insertion) :
    s.insertionOver i = (s.zeroed [F.CART_STATUS.MIGRATING i.old, F.CART_STATUS.MIGRATING i.new]).noInsertion := by
  rw [State.zeroed_pair]
  rfl

section
variable {s : State} (w : wordsWf 0 s.regs = true) {i : Insertion} (hold : i.old < 3) (hnew : i.new < 3)
include w

theorem State.insertionOver_spec :
    (s.insertionOver i).regs = (s.zeroed [F.CART_STATUS.MIGRATING i.old, F.CART_STATUS.MIGRATING i.new]).regs ∧
    s.Writes (s.zeroed [F.CART_STATUS.MIGRATING i.old, F.CART_STATUS.MIGRATING i.new]) [F.CART_STATUS.MIGRATING i.old, F.CART_STATUS.MIGRATING i.new] ∧
    (s.insertionOver i).fget (F.CART_STATUS.MIGRATING i.old) = 0 ∧ (s.insertionOver i).fget (F.CART_STATUS.MIGRATING i.new) = 0 := by
  have fits : ∀ f ∈ [F.CART_STATUS.MIGRATING i.old, F.CART_STATUS.MIGRATING i.new], f.lo + f.width ≤ 32 := fun f hf => by
    simp only [List.mem_cons, List.not_mem_nil, or_false] at hf
    rcases hf with rfl | rfl <;> simp [F.CART_STATUS.MIGRATING]
  obtain ⟨hw, hz⟩ := State.zeroed_spec fits w
  have happ : ∀ y, ∀ f ∈ [F.CART_STATUS.MIGRATING i.old, F.CART_STATUS.MIGRATING i.new], f = F.CART_STATUS.MIGRATING y ∨
      Fld.apart f (F.CART_STATUS.MIGRATING y) := fun y f hf => by
    simp only [List.mem_cons, List.not_mem_nil, or_false] at hf
    rcases hf with rfl | rfl <;> exact migrating_apart _ y
  have hold := hz (F.CART_STATUS.MIGRATING i.old) (.inl (by simp)) (happ _)
  have hnew := hz (F.CART_STATUS.MIGRATING i.new) (.inl (by simp)) (happ _)
  rw [State.insertionOver_eq]
  exact ⟨State.noInsertion_regs _, hw, (State.fget_of_regs (State.noInsertion_regs _) _).trans hold,
    (State.fget_of_regs (State.noInsertion_regs _) _).trans hnew⟩

/-- What the end of an insertion leaves before it is told: the old bay's cartridge, words and power. -/
structure State.OldLeft (i : Insertion) (retire : Bool) (s t : State) : Prop where
  form : wordsWf 0 t.regs = true
  state : t.bayState i.old = if retire then 6 else 2
  powered : (t.cart i.old).powered = false
  mig : t.fget (F.CART_STATUS.MIGRATING i.old) = 0 ∧ t.fget (F.CART_STATUS.MIGRATING i.new) = 0
  rest : t = { s with regs := t.regs, out := t.out, light := { s.light with insertion := none, move := none, carts := t.light.carts } }
  policy : t.fget F.AUC_CTRL.POLICY_SPACE = s.fget F.AUC_CTRL.POLICY_SPACE

include hold hnew in
theorem State.oldLeaves_spec (wc : spWf {} 0 s.light.carts = true) (retire : Bool) :
    State.OldLeft i retire s ((s.insertionOver i).oldLeaves i retire) := by
  obtain ⟨hregs, hw, hmold, hmnew⟩ := State.insertionOver_spec w (i := i)
  have hrest : s.insertionOver i = { s with regs := (s.insertionOver i).regs, light := { s.light with insertion := none, move := none } } := rfl
  have wform : wordsWf 0 (s.insertionOver i).regs = true := by rw [hregs]; exact hw.form
  have hpol : (s.insertionOver i).fget F.AUC_CTRL.POLICY_SPACE = s.fget F.AUC_CTRL.POLICY_SPACE :=
    (State.fget_of_regs hregs _).trans (hw.fget fun f hf => .inl (by
      simp only [List.mem_cons, List.not_mem_nil, or_false] at hf
      rcases hf with rfl | rfl <;> simp only [F.CART_STATUS.MIGRATING, F.AUC_CTRL.POLICY_SPACE] <;> omega))
  have wcarts : spWf {} 0 (s.insertionOver i).light.carts = true := wc
  generalize s.insertionOver i = u at hmold hmnew hrest wform hpol wcarts ⊢
  have hstore : u.Stores (if retire = true then u.retireStore i.old else u) := by
    split
    · exact (u.storePut_spec i.old 0x106 _).1
    · exact ⟨rfl, id⟩
  unfold State.oldLeaves
  dsimp only
  generalize (if retire = true then u.retireStore i.old else u) = v at hstore ⊢
  have hv := hstore.frame
  have hvregs : v.regs = u.regs := (congrArg State.regs hv :)
  have wv : wordsWf 0 v.regs = true := by rw [hvregs]; exact wform
  obtain ⟨hdark, -⟩ := State.shutBay_dark (b := i.old) wv (hstore.carts wcarts) (n := if retire = true then 6 else 2) (by split <;> decide)
  have hshut := State.shutBay_shuts wv i.old (if retire = true then 6 else 2)
  generalize (v.setBay i.old (if retire = true then 6 else 2)).powerBay i.old false = t at hdark hshut ⊢
  have hread : ∀ g, t.fget g = v.fget g → t.fget g = u.fget g := fun g hg => hg.trans (State.fget_of_regs hvregs g)
  have hmig : ∀ x, t.fget (F.CART_STATUS.MIGRATING x) = u.fget (F.CART_STATUS.MIGRATING x) := fun x => hread _ (hshut.kept _
    (by simp only [Fld.apart, F.CART_STATUS.STATE, F.CART_STATUS.MIGRATING]; omega)
    (.inl (by simp only [F.PWR_RAILS.CART_ON, F.CART_STATUS.MIGRATING]; omega))
    (by simp only [Fld.apart, F.CART_STATUS.BEACONS, F.CART_STATUS.MIGRATING]; omega))
  refine ⟨hdark.form, hdark.state, hdark.powered, ⟨(hmig _).trans hmold, (hmig _).trans hmnew⟩, ?_, (hread _ (hshut.kept _ ?_ ?_ ?_)).trans hpol⟩
  · have ht := hshut.frame
    rw [hv, hrest] at ht
    exact ht
  · exact .inl (by simp only [F.CART_STATUS.STATE, F.AUC_CTRL.POLICY_SPACE]; omega)
  · exact Fld.apart_of_test (by decide)
  · exact .inl (by simp only [F.CART_STATUS.BEACONS, F.AUC_CTRL.POLICY_SPACE]; omega)

end

theorem endInsertion_spec {s : State} (hwf : s.allWf = true) {i : Insertion} (hold : i.old < 3) (hnew : i.new < 3) (hdrain : s.bayState i.old = 5)
    (hqueued : s.light.queued = []) :
    (s.endInsertion i).light.insertion = none ∧ (s.endInsertion i).bayState i.old = (if (s.cart i.old).retire then 6 else 2) ∧
    ((s.endInsertion i).cart i.old).powered = false ∧
    (s.endInsertion i).fget (F.CART_STATUS.MIGRATING i.old) = 0 ∧ (s.endInsertion i).fget (F.CART_STATUS.MIGRATING i.new) = 0 ∧
    (∀ src, i.cmd = some src → (s.queue (s.cqOf src)).en = true → (s.queue (s.cqOf src)).dir = true →
      (s.queue (s.cqOf src)).broken = false → s.link.flrDiscard.contains src = false → answered s (s.endInsertion i) 0x71 src .done 0 0 [] []) ∧
    (s.endInsertion i).steer = s.steer ∧ (s.endInsertion i).mem = s.mem ∧ (s.endInsertion i).lock = s.lock := by
  have h := State.oldLeaves_spec (State.regsWf_of_allWf hwf) hold hnew (cartsWf_of_allWf hwf) (s.cart i.old).retire
  rw [State.endInsertion_eq hdrain]
  generalize (s.insertionOver i).oldLeaves i (s.cart i.old).retire = u at h ⊢
  have hrest := h.rest
  have hserves : s.Serves u := (State.Serves.refl (State.queuesWf_of_allWf hwf)).link (congrArg State.link hrest :)
  have htold : u.Told (u.insertionTold i) [] :=
    ((State.lightEvent_told h.form i.old 3 i.new 0xFF 0 0).logEntry (by decide) 6 .component .bay 3 i.old 0).count 12 4 1
  have hserves' : s.Serves (u.insertionTold i) := ((hserves.event 6 _).logEntry 3 6 .component .bay 3 i.old 0).count 12 4 1
  generalize u.insertionTold i = v at htold hserves' ⊢
  have hlow : ∀ g : Fld, g.off < 0x700000 → v.fget g = u.fget g := fun g hg => htold.kept g (logFields_apart_low hg)
  have hcq : ∀ src, v.cqOf src = s.cqOf src := fun src => hserves'.cqOf src
    (by rw [htold.tows]; exact (congrArg (fun x : State => x.tows.spaces) hrest :))
    ((htold.kept _ (apart_of_test (by decide))).trans h.policy)
  have hfirst : v.light.insertion = none ∧ v.light.queued = [] ∧ v.light.carts = u.light.carts ∧ v.steer = s.steer ∧ v.mem = s.mem ∧ v.lock = s.lock := by
    rw [htold.light, htold.steer, htold.mem, htold.lock]
    exact ⟨(congrArg (fun x : State => x.light.insertion) hrest :), ((congrArg (fun x : State => x.light.queued) hrest :)).trans hqueued, rfl,
      (congrArg State.steer hrest :), (congrArg State.mem hrest :), (congrArg State.lock hrest :)⟩
  obtain ⟨hins, hq, hcarts, hsteer, hmem, hlock⟩ := hfirst
  have hlast : ∀ t : State, t.regs = v.regs → t.light = v.light → t.steer = v.steer → t.mem = v.mem → t.lock = v.lock →
      t.light.insertion = none ∧ t.bayState i.old = (if (s.cart i.old).retire then 6 else 2) ∧ (t.cart i.old).powered = false ∧
      t.fget (F.CART_STATUS.MIGRATING i.old) = 0 ∧ t.fget (F.CART_STATUS.MIGRATING i.new) = 0 ∧ t.steer = s.steer ∧ t.mem = s.mem ∧ t.lock = s.lock :=
    fun t hr hl hst hme hlo => by
      have hread : ∀ g : Fld, g.off < 0x700000 → t.fget g = u.fget g := fun g hg => (State.fget_of_regs hr g).trans (hlow g hg)
      refine ⟨by rw [hl, hins], (hread _ ?_).trans h.state, ?_, (hread _ ?_).trans h.mig.1, (hread _ ?_).trans h.mig.2, hst.trans hsteer,
        hme.trans hmem, hlo.trans hlock⟩
      · simp only [F.CART_STATUS.STATE]; omega
      · rw [State.cart, hl, hcarts]; exact h.powered
      · simp only [F.CART_STATUS.MIGRATING]; omega
      · simp only [F.CART_STATUS.MIGRATING]; omega
  dsimp only
  cases hcmd : i.cmd with
  | none =>
    dsimp only
    rw [hq]
    obtain ⟨h1, h2, h3, h4, h5, h6, h7, h8⟩ := hlast v rfl rfl rfl rfl rfl
    exact ⟨h1, h2, h3, h4, h5, fun src hsrc => absurd hsrc (by simp), h6, h7, h8⟩
  | some src =>
    dsimp only
    rw [State.complete_light, hq]
    obtain ⟨h1, h2, h3, h4, h5, h6, h7, h8⟩ := hlast (v.complete 0x71 src .done) (State.complete_done_regs ..) (State.complete_light ..)
      (State.complete_steer ..) (State.complete_mem ..) (State.complete_lock ..)
    refine ⟨h1, h2, h3, h4, h5, fun src' hsrc hen hdir hsound hkept => ?_, h6, h7, h8⟩
    obtain rfl : src = src' := Option.some.inj hsrc
    rw [answered, ← hcq src]
    exact State.complete_answered hserves'.form (hserves'.answers (hcq src) ⟨hen, hdir, hsound, hkept⟩) ..

/-! ## The move of a tether lane (R236) -/

theorem ofLe_lt (bs : List Byte) : ofLe bs < 256 ^ bs.length := by
  induction bs with
  | nil => simp [ofLe]
  | cons b bs ih =>
    have hb : b.toNat < 256 := b.isLt
    rw [ofLe, List.length_cons, Nat.pow_succ]
    omega

/-- A line that may be used is one of the sixteen. -/
theorem State.usable_lt {s : State} {b l : Nat} (h : s.usable b l = true) : l < 16 := by
  by_contra hge
  have hfield : (s.cart b).field 0x1E 2 < 2 ^ 16 :=
    lt_of_lt_of_le (ofLe_lt _) (Nat.pow_le_pow_right (n := 256) (by decide) (List.length_take_le 2 _))
  have hzero : (s.cart b).field 0x1E 2 / 2 ^ l = 0 :=
    Nat.div_eq_of_lt (lt_of_lt_of_le hfield (Nat.pow_le_pow_right (by decide) (by omega)))
  simp [State.usable, hzero] at h

theorem State.tetherLine_ne {s : State} {new : Nat} {x : Nat × Nat} (h : s.tetherLine new = some x) : x ≠ (99, 99) := by
  have hok := List.find?_some h
  simp only [Bool.and_eq_true] at hok
  have := State.usable_lt hok.1.1.2
  rintro rfl
  omega

/-- The machine at this step of a move. -/
def State.withMove (s : State) (m : Option (Nat × Nat)) : State := { s with light := { s.light with move := m } }

theorem exec_tetherLaneMove {s : State} {i : Insertion} {n : Nat} (hi : s.light.insertion = some i) (hstep : i.step = 4) (hn : n < 4)
    (hrings : s.ringsIn 3 = 0) (hpound : s.poundState 14 ≠ 3) (hmay : s.light.move.isSome = true ∨ (s.lanesToMove i).head? = some n) :
    exec (.tetherLaneMove n) s = .next (s.laneStep n i.new) := by
  show ifOk (Instr.wf (.tetherLaneMove n)) _ = _
  rw [hi]
  dsimp only
  rw [if_pos ⟨hstep, hrings, lightHeld_off hpound, hmay⟩]
  exact if_pos (by simp [Instr.wf, okLane]; omega)

section
variable {s : State} (w : wordsWf 0 s.regs = true) {n : Nat} (hn : n < 4) (new : Nat)
include w hn

omit w in
theorem State.laneStep_begin (hmove : s.light.move = none) (hused : s.laneUsed n = true) (hfree : s.laneUsed 4 = false)
    (hspare : s.light.lanes.any (fun p => p.1 = 4 && p.2.1 = new) = true) : s.laneStep n new = s.withMove (some (n, 1)) := by
  unfold State.laneStep
  rw [hmove]
  dsimp only
  rw [if_neg (by simp [hused]; omega), if_neg (by simp [hfree]), if_pos hspare]
  rfl

theorem State.laneStep_swap (hmove : s.light.move = some (n, 1)) (hpeer : s.pair.peerLanes.contains 4 = true) :
    (s.laneStep n new).light.move = some (n, 2) ∧ (s.laneStep n new).laneUsed n = false ∧ (s.laneStep n new).laneUsed 4 = true ∧
    s.laneStep n new = { s with regs := (s.laneStep n new).regs, light := { s.light with move := (s.laneStep n new).light.move } } ∧
    fieldsKept s (s.laneStep n new) [F.TETHER_LANES.IN_USE] := by
  have hstep : s.laneStep n new = ((s.useLane n false).useLane 4 true).withMove (some (n, 2)) := by
    simp only [State.laneStep, hmove, hpeer, decide_true, Bool.and_self, ↓reduceIte]
    rfl
  have h1 := (State.Writes.refl w [F.TETHER_LANES.IN_USE]).fset (f := F.TETHER_LANES.IN_USE) (by simp) (by decide)
    (withBit (s.fget F.TETHER_LANES.IN_USE) n false)
  have h2 := h1.fset (f := F.TETHER_LANES.IN_USE) (by simp) (by decide) (withBit ((s.useLane n false).fget F.TETHER_LANES.IN_USE) 4 true)
  rw [hstep]
  refine ⟨rfl, ?_, ?_, rfl, h2.kept⟩
  · have hself := State.laneUsed_useLane w n false (m := n) (by omega)
    have hother := State.laneUsed_useLane h1.form 4 true (m := n) (by omega)
    rw [if_pos rfl] at hself
    rw [if_neg (by omega)] at hother
    exact hother.trans hself
  · have hself := State.laneUsed_useLane h1.form 4 true (m := 4) (by omega)
    rw [if_pos rfl] at hself
    exact hself

theorem State.laneStep_line {x : Nat × Nat} (hmove : s.light.move = some (n, 2)) (hline : s.tetherLine new = some x) :
    (s.laneStep n new).light.move = some (n, 3) ∧ laneSource (s.laneStep n new).light.lanes n = some x ∧
    (s.laneStep n new).steer = s.steer ∧ (s.laneStep n new).mem = s.mem ∧ (s.laneStep n new).lock = s.lock := by
  have hstep : s.laneStep n new = (s.setLane n (some x)).withMove (some (n, 3)) := by
    simp only [State.laneStep, hmove, hline, ↓reduceIte]
    rfl
  have h := State.setLane_glows w (n := n) (by omega) (some x)
  have hsource := laneSource_lanesWith s.light.lanes n n (src := some x) (fun e => State.tetherLine_ne hline (Option.some.inj e))
  rw [if_pos rfl] at hsource
  rw [hstep]
  generalize s.setLane n (some x) = u at h ⊢
  refine ⟨rfl, ?_, h.steer, h.mem, h.lock⟩
  show laneSource u.light.lanes n = some x
  rw [h.lanes]
  exact hsource

theorem State.laneStep_end (hmove : s.light.move = some (n, 3)) (hpeer : s.pair.peerLanes.contains n = true) :
    (s.laneStep n new).light.move = none ∧ (s.laneStep n new).laneUsed n = true ∧
    (s.laneStep n new).steer = s.steer ∧ (s.laneStep n new).mem = s.mem ∧ (s.laneStep n new).lock = s.lock := by
  have hstep : s.laneStep n new = (((s.useLane n true).useLane 4 false).withMove none).spareTakes := by
    simp only [State.laneStep, hmove, hpeer, decide_true, Bool.and_self, ↓reduceIte]
    rfl
  have h1 := State.useLane_glows w n true
  have h2 := h1.trans (State.useLane_glows h1.form 4 false)
  have hused : ((s.useLane n true).useLane 4 false).laneUsed n = true := by
    rw [State.laneUsed_useLane h1.form 4 false (m := n) (by omega), if_neg (by omega), State.laneUsed_useLane w n true (m := n) (by omega), if_pos rfl]
  rw [hstep]
  generalize (s.useLane n true).useLane 4 false = u at h2 hused ⊢
  have hform : wordsWf 0 (u.withMove none).regs = true := h2.form
  have htook := State.spareTakes_took hform
  have hglow := State.spareTakes_glows hform
  generalize (u.withMove none).spareTakes = v at htook hglow ⊢
  exact ⟨hglow.move, (htook.others n hn).trans hused, hglow.steer.trans h2.steer, hglow.mem.trans h2.mem, hglow.lock.trans h2.lock⟩

end

/-! ## The move of a service bus (R236, R237) -/

/-- Steps outside all but the registers, the DAC tables, the pair, the spares and the free values. -/
structure State.Shimmers (s t : State) : Prop where
  form : wordsWf 0 t.regs = true
  rest : blankRings t.wipe = blankRings s.wipe

namespace State.Shimmers

variable {s t u : State}

theorem refl (w : wordsWf 0 s.regs = true) : s.Shimmers s := ⟨w, rfl⟩

theorem glows (h : s.Shimmers t) (k : t.Glows u) : s.Shimmers u := ⟨k.form, k.rest.trans h.rest⟩

theorem fset (h : s.Shimmers t) (f : Fld) (v : Nat) : s.Shimmers (t.fset f v) := ⟨t.fset_wf f v h.form, h.rest⟩

theorem trans (h : s.Shimmers t) (k : t.Shimmers u) : s.Shimmers u := ⟨k.form, k.rest.trans h.rest⟩

theorem get (h : s.Shimmers t) {α : Type} (p : State → α) : p (blankRings t.wipe) = p (blankRings s.wipe) := congrArg p h.rest

end State.Shimmers

/-- A port of a bus takes the bus's new lines, or shows that it has. -/
def State.movePort (s : State) (p : Nat) : State :=
  if s.bit (F.SVC_PORT_CTRL.MOVING p) then s.fset (F.SVC_PORT_CTRL.MOVING p) 0
  else if s.portBehind p && !s.bit (F.SVC_PORT_CTRL.BUSY p) then
    ((List.range 4).foldl (fun s k => s.retuneRing (svcRing p k)) s).fset (F.SVC_PORT_CTRL.MOVING p) 1
  else s

theorem State.movePorts_eq (s : State) (j : Nat) : s.movePorts j = (busPorts j).foldl State.movePort s := rfl

theorem moving_fits (p : Nat) : (F.SVC_PORT_CTRL.MOVING p).lo + (F.SVC_PORT_CTRL.MOVING p).width ≤ 32 := by simp [F.SVC_PORT_CTRL.MOVING]

theorem moving_apart {p q : Nat} (h : p ≠ q) : Fld.apart (F.SVC_PORT_CTRL.MOVING p) (F.SVC_PORT_CTRL.MOVING q) :=
  .inl (by simp only [F.SVC_PORT_CTRL.MOVING]; omega)

section
variable {s : State} (w : wordsWf 0 s.regs = true)
include w

theorem State.retunes_glows (p : Nat) : s.Glows ((List.range 4).foldl (fun s k => s.retuneRing (svcRing p k)) s) :=
  (State.Glows.refl w).foldl fun _ wu _ _ => State.retuneRing_glows wu _

theorem State.movePort_shimmers (p : Nat) : s.Shimmers (s.movePort p) := by
  unfold State.movePort
  split
  · exact (State.Shimmers.refl w).fset _ 0
  · split
    · exact ((State.Shimmers.refl w).glows (State.retunes_glows w p)).fset _ 1
    · exact State.Shimmers.refl w

theorem State.movePorts_shimmers (j : Nat) : s.Shimmers (s.movePorts j) :=
  List.foldlRecOn (motive := fun u : State => s.Shimmers u) _ _ (State.Shimmers.refl w) fun _ hu p _ => hu.trans (State.movePort_shimmers hu.form p)

theorem State.movePort_self {p : Nat} (h : s.bit (F.SVC_PORT_CTRL.MOVING p) = true) : (s.movePort p).fget (F.SVC_PORT_CTRL.MOVING p) = 0 := by
  rw [State.movePort, if_pos h]
  exact State.fget_fset_self s _ 0 (moving_fits p) w

theorem State.movePort_other {p q : Nat} (hne : p ≠ q) (hq : q < 16) : (s.movePort p).fget (F.SVC_PORT_CTRL.MOVING q) = s.fget (F.SVC_PORT_CTRL.MOVING q) := by
  unfold State.movePort
  split
  · exact s.fget_fset_apart _ _ 0 (moving_fits p) w (moving_apart hne)
  · split
    · have h := State.retunes_glows w p
      refine ((State.fget_fset_apart _ _ _ 1 (moving_fits p) h.form (moving_apart hne)).trans (h.kept _ ?_))
      simp only [Fld.lampSide, F.SVC_PORT_CTRL.MOVING]
      omega
    · rfl

end

/-- A port that was moving has moved once the fold has come to it. -/
theorem movePorts_done {p : Nat} (hp : p < 16) : ∀ (l : List Nat), l.Nodup → ∀ s : State, wordsWf 0 s.regs = true →
    (p ∈ l ∧ s.bit (F.SVC_PORT_CTRL.MOVING p) = true) ∨ (p ∉ l ∧ s.fget (F.SVC_PORT_CTRL.MOVING p) = 0) →
    (l.foldl State.movePort s).fget (F.SVC_PORT_CTRL.MOVING p) = 0 := by
  intro l
  induction l with
  | nil => exact fun _ s _ h => (h.resolve_left fun ⟨hm, _⟩ => List.not_mem_nil hm).2
  | cons q l ih =>
    intro hnd s w h
    obtain ⟨hq, hnd⟩ := List.nodup_cons.mp hnd
    refine ih hnd _ (State.movePort_shimmers w q).form ?_
    by_cases e : q = p
    · subst e
      refine .inr ⟨hq, State.movePort_self w ?_⟩
      exact (h.resolve_right fun ⟨hm, _⟩ => hm List.mem_cons_self).2
    · have hsame := State.movePort_other w e hp
      rcases h with ⟨hm, hb⟩ | ⟨hm, h0⟩
      · exact .inl ⟨(List.mem_cons.mp hm).resolve_left (Ne.symm e), by rw [State.bit, hsame]; exact hb⟩
      · exact .inr ⟨fun hin => hm (List.mem_cons_of_mem q hin), hsame.trans h0⟩

theorem busPorts_nodup (j : Nat) : (busPorts j).Nodup :=
  List.nodup_range.map fun a b h => by simpa using h

theorem busPorts_lt {j p : Nat} (hj : j < 2) (hp : p ∈ busPorts j) : p < 16 := by
  simp only [busPorts, List.mem_map, List.mem_range] at hp
  omega

theorem exec_serviceBusMove {s : State} {i : Insertion} {j : Nat} (hi : s.light.insertion = some i) (hstep : i.step = 5) (hj : j < 2)
    (hrings : s.ringsIn 3 = 0) (hpound : s.poundState 14 ≠ 3) : exec (.serviceBusMove j) s = .next
      (if s.busToMove i j then
         ((((s.withBuses (s.busAfter i j)).movePorts j).showPorts).lanesReduced i.old s.light.lanes.length s.light.buses.length)
       else s.movePorts j) := by
  show ifOk (Instr.wf (.serviceBusMove j)) _ = _
  rw [hi]
  dsimp only
  rw [if_pos ⟨hstep, hrings, lightHeld_off hpound⟩]
  exact if_pos (show okHead j = true from decide_eq_true hj)


theorem State.lightBus_shimmers {s : State} (w : wordsWf 0 s.regs = true) (m : Sparse (Nat × Nat)) (j bay tether bus : Nat) :
    (s.withBuses m).Shimmers ((((s.withBuses m).movePorts j).showPorts).lanesReduced bay tether bus) := by
  have h1 := State.movePorts_shimmers (s := s.withBuses m) w j
  have h2 := State.showPorts_glows h1.form
  exact (h1.glows h2).glows (State.lanesReduced_glows h2.form bay tether bus)

/-- O48, a service bus moved (R236, R237). -/
theorem serviceBusMove_moves {s : State} (w : wordsWf 0 s.regs = true) {i : Insertion} {j : Nat} (hi : s.light.insertion = some i)
    (hstep : i.step = 5) (hj : j < 2) (hrings : s.ringsIn 3 = 0) (hpound : s.poundState 14 ≠ 3) :
    (s.busToMove i j = true → ∃ t, exec (.serviceBusMove j) s = .next t ∧ t.light.buses = s.busAfter i j ∧
      t.light.insertion = some i ∧ t.light.lanes = s.light.lanes ∧ t.steer = s.steer ∧ t.mem = s.mem ∧ t.lock = s.lock) ∧
    (s.busToMove i j = false → ∃ t, exec (.serviceBusMove j) s = .next t ∧ t.light.buses = s.light.buses ∧
      (∀ p ∈ busPorts j, s.bit (F.SVC_PORT_CTRL.MOVING p) = true → t.fget (F.SVC_PORT_CTRL.MOVING p) = 0) ∧ t.steer = s.steer ∧
      t.mem = s.mem ∧ t.lock = s.lock) := by
  rw [exec_serviceBusMove hi hstep hj hrings hpound]
  refine ⟨fun hbus => ?_, fun hbus => ?_⟩
  · rw [if_pos hbus]
    refine ⟨_, rfl, ?_⟩
    have h := State.lightBus_shimmers w (s.busAfter i j) j i.old s.light.lanes.length s.light.buses.length
    have hlight := h.get State.light
    exact ⟨(congrArg Light.buses hlight :), ((congrArg Light.insertion hlight :)).trans hi, (congrArg Light.lanes hlight :), h.get State.steer,
      h.get State.mem, h.get State.lock⟩
  · rw [if_neg (by rw [hbus]; decide)]
    have h := State.movePorts_shimmers w j
    exact ⟨_, rfl, (congrArg Light.buses (h.get State.light) :), fun p hp hmoving =>
      movePorts_done (busPorts_lt hj hp) _ (busPorts_nodup j) s w (.inl ⟨hp, hmoving⟩), h.get State.steer, h.get State.mem, h.get State.lock⟩

/-- O48, the steps of an insertion (R235). -/
theorem insertion_steps {s : State} (hwf : s.allWf = true) {i : Insertion} (hi : s.light.insertion = some i) (hold : i.old < 3)
    (hnew : i.new < 3) (hne : i.old ≠ i.new) (hrings : s.ringsIn 3 = 0) (hpound : s.poundState 14 ≠ 3) (hmove : s.light.move = none) :
    (i.step = 1 → s.bayState i.new = 4 → ∃ t, exec .insertion s = .next t ∧ t.bayState i.old = 5 ∧
      t.fget (F.CART_STATUS.MIGRATING i.old) = 1 ∧ t.fget (F.CART_STATUS.MIGRATING i.new) = 1 ∧
      t.light.insertion = some { i with step := 2 } ∧
      t = { s with regs := t.regs, light := { s.light with insertion := t.light.insertion, first := t.light.first
                                                           second := t.light.second } }) ∧
    (i.step = 2 → s.bayState i.new = 4 → s.bayState i.old = 5 → ∃ t, exec .insertion s = .next t ∧
      (∀ h, h < 2 → t.fget (srcFld h) = if s.fget (srcFld h) = i.old then i.new else s.fget (srcFld h)) ∧
      t.light.insertion = some { i with step := 3 } ∧ t.steer = s.steer ∧ t.mem = s.mem ∧ t.lock = s.lock) ∧
    (i.step = 3 → ∃ t, exec .insertion s = .next t ∧ t = { s with light := { s.light with insertion := some { i with step := 4 } } }) ∧
    (i.step = 4 → s.lanesToMove i = [] → ∃ t, exec .insertion s = .next t ∧
      t = { s with light := { s.light with insertion := some { i with step := 5 } } }) ∧
    (i.step = 5 → s.busToMove i 0 = false → s.busToMove i 1 = false → s.portsMoving = false → s.light.queued = [] →
      s.bayState i.old = 5 → ∃ t, exec .insertion s = .next t ∧ t.light.insertion = none ∧
        t.bayState i.old = (if (s.cart i.old).retire then 6 else 2) ∧ (t.cart i.old).powered = false ∧
        t.fget (F.CART_STATUS.MIGRATING i.old) = 0 ∧ t.fget (F.CART_STATUS.MIGRATING i.new) = 0 ∧
        (∀ src, i.cmd = some src → (s.queue (s.cqOf src)).en = true → (s.queue (s.cqOf src)).dir = true →
          (s.queue (s.cqOf src)).broken = false → s.link.flrDiscard.contains src = false → answered s t 0x71 src .done 0 0 [] []) ∧
        t.steer = s.steer ∧ t.mem = s.mem ∧ t.lock = s.lock) := by
  have w := State.regsWf_of_allWf hwf
  have hexec := exec_insertion hi hrings hpound hmove
  refine ⟨fun hs hlit => ⟨s.drainOld i, ?_, ?_⟩, fun hs hlit hdrain => ⟨s.moveBeacons i, ?_, State.moveBeacons_spec w hnew hold hdrain⟩,
    fun hs => ⟨s.insStep i 4, ?_, rfl⟩, fun hs hno => ⟨s.insStep i 5, ?_, rfl⟩,
    fun hs h0 h1 hports hqueued hdrain => ⟨s.endInsertion i, ?_, endInsertion_spec hwf hold hnew hdrain hqueued⟩⟩
  · rw [hexec, if_pos hs, if_pos hlit]
  · obtain ⟨-, hfive, hmold, hmnew⟩ := State.drainWords_spec w hne
    exact ⟨hfive, hmold, hmnew, rfl, rfl⟩
  · rw [hexec, if_neg (by omega), if_pos hs, if_pos hlit]
  · rw [hexec, if_neg (by omega), if_neg (by omega), if_pos hs]
  · rw [hexec, if_neg (by omega), if_neg (by omega), if_neg (by omega), if_pos hs, if_pos hno]
  · rw [hexec, if_neg (by omega), if_neg (by omega), if_neg (by omega), if_neg (by omega), if_neg (by rw [h0, h1, hports]; decide)]

/-- Settles O48: an insertion goes from step to step, each moving what the old cartridge fed, and its end shuts the old bay. -/
theorem insertions : Obligations.Insertions := by
  unfold Obligations.Insertions
  refine ⟨fun s i hwf hi hold hnew hne hrings hpound hmove => insertion_steps hwf hi hold hnew hne hrings hpound hmove,
    fun s i n hwf hi hstep hn hrings hpound => ?_,
    fun s i j hwf hi hstep hj hrings hpound => serviceBusMove_moves (State.regsWf_of_allWf hwf) hi hstep hj hrings hpound,
    fun s b o hwf hb hlit hretire hnone hins hother => ?_⟩
  · have w := State.regsWf_of_allWf hwf
    have hexec := exec_tetherLaneMove hi hstep hn hrings hpound
    have hmoves : ∀ k, s.light.move = some (n, k) → s.light.move.isSome = true := fun k h => by rw [h]; rfl
    exact ⟨fun hmove hhead hused hfree hspare => ⟨_, hexec (.inr hhead), State.laneStep_begin hn i.new hmove hused hfree hspare⟩,
      fun hmove hpeer => ⟨_, hexec (.inl (hmoves 1 hmove)), State.laneStep_swap w hn i.new hmove hpeer⟩,
      fun x hmove hline => ⟨_, hexec (.inl (hmoves 2 hmove)), State.laneStep_line w hn i.new hmove hline⟩,
      fun hmove hpeer => ⟨_, hexec (.inl (hmoves 3 hmove)), State.laneStep_end w hn i.new hmove hpeer⟩⟩
  · refine ⟨{ s with light := { s.light with insertion := some { old := b, new := o, step := 2, cmd := none } } }, ?_, rfl⟩
    show ifOk (okBay b) _ = _
    rw [if_pos ⟨hlit, hretire, hnone, hins⟩, hother]
    exact if_pos (decide_eq_true hb)

end Sys2Proof.Machine
end

section
/-!
PROOFS. The rise from L3 to L2 (R304) of a module whose interrupted insertion names a bay that the machine does not have. The word that
would show that bay's state is POUND_STATUS of pound 0, so putting the bay back in DRAINING puts the pound out of RUN.
-/

namespace Sys2Proof.Machine

/-- A module on L3 that rises to L2, with an empty mooring record and an insertion that moves off bay 0x240010. -/
def strayBayState : State :=
  { State.reset.fset F.PWR_RUNG_STATE.RUNG 3 with
    power := { State.reset.power with moving := true, goal := 2, mooring := some { axes := [], peer := [], settle := 0, epoch := 0 } }
    light := { State.reset.light with insertion := some { old := 0x240010, new := 1, step := 2, cmd := none } } }

/-- The machine after the rise. -/
def strayBayRisen : State := strayBayState.riseL2.arrive

theorem strayBayState_rung : strayBayState.rung = 3 := by decide +kernel

theorem exec_strayBayState : exec .rungRise strayBayState = .next strayBayRisen := by
  have hrise : strayBayState.riseOne = strayBayState.riseL2 := by
    rw [State.riseOne, strayBayState_rung]
    rfl
  refine congrArg Host.Outcome.next ((if_pos ?_).trans (congrArg State.arrive hrise))
  rw [strayBayState_rung]
  exact ⟨rfl, by decide, by decide +kernel⟩

/-- Pound 0 does not run after the rise. -/
theorem strayBayRisen_pound : strayBayRisen.poundState 0 = 5 := by decide +kernel

/-- Refutes O54: the form allows an interrupted insertion off bay 0x240010, and when the rise puts that bay back in DRAINING, pound 0
leaves RUN. -/
theorem not_rungMoves : ¬ Obligations.RungMoves := by
  intro h
  obtain ⟨t, hexec, -, -, -, hlast⟩ := h.2.1 strayBayState (by decide +kernel) rfl (by rw [strayBayState_rung]; decide) (by decide +kernel)
  rw [exec_strayBayState] at hexec
  obtain rfl : strayBayRisen = t := by simpa using hexec
  obtain ⟨-, hpounds, -⟩ := hlast _ strayBayState_rung rfl
  have hrun := hpounds 0 (by decide)
  rw [strayBayRisen_pound] at hrun
  exact absurd hrun (by decide)

end Sys2Proof.Machine
end

section
/-!
PROOFS. LOG_THAW (R347) on a full logbook (R346): an annex entry of a severity that the manual does not have, below all that the logbook
holds, is dropped, and the word that counts the drop is none of the logbook's.
-/

namespace Sys2Proof.Machine

/-- An entry of this severity. -/
def entryOfSev (sev : Nat) : Entry := { index := 0, t3 := 0, sev := sev, source := 0, cls := 0, kind := 0, reason := 0, arg0 := 0 }

/-- A frozen logbook, full of entries of severity 9, whose annex holds one of severity 8. -/
def fullLogState : State :=
  { State.reset.fset F.KEEL_STATUS.READY 1 with
    boot := { State.reset.boot with coresUp := true }
    link := { State.reset.link with queues := [(5, { en := true, dir := true, cq := 5 })] }
    log := { State.reset.log with frozen := true, book := List.replicate bookCap (entryOfSev 9), annex := [entryOfSev 8] } }

/-- The host's LOG_THAW. -/
def thawSrc : Src := ⟨5, 1, 0⟩

theorem victim_replicate (n : Nat) : victim 8 (List.replicate n (entryOfSev 9)) = none := by
  induction n with
  | zero => rfl
  | succ n ih => rw [List.replicate_succ, victim, ih]; rfl

theorem record_full : record bookCap (entryOfSev 8) (List.replicate bookCap (entryOfSev 9)) = (List.replicate bookCap (entryOfSev 9), none, false) := by
  rw [record, if_neg (by rw [List.length_replicate]; exact Nat.lt_irrefl _)]
  rw [show (entryOfSev 8).sev = 8 from rfl, victim_replicate]

/-- A full logbook drops the entry and counts it. -/
theorem State.annexEntry_dropped {s : State} (h : s.log.book = List.replicate bookCap (entryOfSev 9)) :
    s.annexEntry (entryOfSev 8) = s.fadd (F.LOG_DROPS.DROPS 8) 1 := by
  rw [State.annexEntry, h, record_full, ← h]
  rfl

theorem State.thawLog_regs {s : State} {e : Entry} (h : s.log.annex = [e]) : s.thawLog.regs = (s.annexEntry e).regs := by
  rw [State.thawLog, h]
  rfl

theorem State.taking_log (s : State) (src : Src) : (s.taking src).log = s.log := rfl

theorem State.taking_fadd (s : State) (src : Src) (f : Fld) (n : Nat) : ((s.taking src).fadd f n).regs = (s.fadd f n).regs := rfl

theorem fullLogState_accepts : fullLogState.accepts 0xA1 thawSrc := by
  unfold State.accepts
  decide +kernel

/-- Refutes O57: the form allows an annex entry of severity 8, and a full logbook that drops it counts it in the word 0xB00040. -/
theorem not_logAndCounters : ¬ Obligations.LogAndCounters := by
  intro h
  obtain ⟨t, hexec, -, -, -, -, -, hreports⟩ :=
    (h.1 fullLogState thawSrc (by decide +kernel)).2.2.1 fullLogState_accepts rfl
  obtain rfl : logThaw thawSrc (fullLogState.taking thawSrc) = t := by
    have hnext : exec (.logThaw thawSrc) fullLogState = .next (logThaw thawSrc (fullLogState.taking thawSrc)) :=
      congrArg Host.Outcome.next (State.handle_accepted fullLogState_accepts _)
    rw [hnext] at hexec
    simpa using hexec
  have hdrop : (logThaw thawSrc (fullLogState.taking thawSrc)).fget (F.LOG_DROPS.DROPS 8) =
      (fullLogState.fadd (F.LOG_DROPS.DROPS 8) 1).fget (F.LOG_DROPS.DROPS 8) := by
    refine State.fget_of_regs ?_ _
    have hbook : (fullLogState.taking thawSrc).log.book = List.replicate bookCap (entryOfSev 9) := by rw [State.taking_log, fullLogState]
    have hannex : (fullLogState.taking thawSrc).log.annex = [entryOfSev 8] := by rw [State.taking_log, fullLogState]
    have hfrozen : (fullLogState.taking thawSrc).log.frozen = true := by rw [State.taking_log, fullLogState]
    rw [logThaw, hfrozen, if_neg (by decide), State.complete_done_regs, State.thawLog_regs hannex, State.annexEntry_dropped hbook,
      State.taking_fadd]
  have hkept := reports_fieldsKept hreports (F.LOG_DROPS.DROPS 8) (apart_of_test (by decide))
  rw [hdrop] at hkept
  exact absurd hkept (by decide +kernel)

end Sys2Proof.Machine
end

section
/-!
PROOFS. POUND_RELOAD (R334) of an array's pound while the relief reach is said to serve that pound's number: the reload takes the array
for a relieved reach and begins a return.
-/

namespace Sys2Proof.Machine

/-- A READY module whose relief reach serves pound 9, an array's. -/
def strayReliefState : State :=
  { State.reset.fset F.KEEL_STATUS.READY 1 with
    boot := { State.reset.boot with coresUp := true }
    link := { State.reset.link with queues := [(5, { en := true, dir := true, cq := 5 })] }
    steer := { State.reset.steer with
      relief := some { source := 9, trigger := .software, tr := 0, shadow := false, agree := 0, copied := true, committed := true
                       returning := false, cmd := none } } }

/-- The host's POUND_RELOAD. -/
def reloadSrc : Src := ⟨5, 1, 0⟩

/-- The machine after the command. -/
def strayReliefNext : State := reloadCheck reloadSrc 9 true (strayReliefState.taking reloadSrc)

theorem strayReliefState_accepts : strayReliefState.accepts 0x50 reloadSrc := by
  unfold State.accepts
  decide +kernel

theorem exec_strayReliefState : exec (.poundReload reloadSrc 9 true) strayReliefState = .next strayReliefNext := by
  have hown : strayReliefState.reloadOwn 9 reloadSrc = false := by decide +kernel
  refine congrArg Host.Outcome.next ?_
  rw [hown, if_neg (by decide), if_neg (by decide +kernel)]
  exact State.handle_accepted strayReliefState_accepts _

/-- The return has begun. -/
theorem strayReliefNext_returning : strayReliefNext.steer.relief.map Relief.returning = some true := by decide +kernel

/-- Refutes O56: the form allows a relief whose source is 9, and the reload of array 0 begins its return, so the steering does not stay
as it was. -/
theorem not_imagesAndPounds : ¬ Obligations.ImagesAndPounds := by
  intro h
  obtain ⟨-, -, -, harray, -⟩ := (h.2.2.1 strayReliefState reloadSrc 9 (by decide +kernel)).1 strayReliefState_accepts rfl
  obtain ⟨t, hexec, -, -, hsteer, -⟩ := harray (by decide) (by decide) rfl
  rw [exec_strayReliefState] at hexec
  obtain rfl : strayReliefNext = t := by simpa using hexec
  have hreturn := strayReliefNext_returning
  rw [hsteer] at hreturn
  exact absurd hreturn (by decide)

end Sys2Proof.Machine
end

section
/-!
PROOFS. The pulse connectors and the TIME registers (R191, R192, R195, R196): the statement.
-/

namespace Sys2Proof.Machine

/-! ## PPS_IN (R191, R192) -/

/-- The machine with an edge of PPS_IN counted and stamped. -/
def State.stampPps (s : State) : State :=
  { s.count 4 8 with time := { s.time with ppsStamp := some (s.time.tb0.fine, s.time.tb3) } }

section
variable {s : State} {falling : Bool} {width : Nat} (hen : s.bit F.PPS_CTRL.IN_EN = true) (hpol : s.bit F.PPS_CTRL.IN_POL = falling)
  (hwidth : 100 ≤ width)
include hen hpol hwidth

theorem exec_ppsInEdge : exec (.ppsInEdge falling width) s = .next (
    if s.fget (F.TB_CTRL.MODE 0) = 2 then
      match s.time.gm with
      | some g => if s.rung ≤ 2 ∧ s.bit (F.TB_CTRL.EN 0) then s.stampPps.gmEdge g else s.stampPps
      | none => s.stampPps
    else s.stampPps.fset F.PPS_CTRL.PPS_ERR (ofSigned 16 s.ppsErr)) := by
  show execPpsInEdge falling width s = _
  rw [execPpsInEdge, if_pos (by simp [hen, hpol, hwidth])]
  rfl

theorem ppsInEdge_measured (w : wordsWf 0 s.regs = true) (hmode : s.fget (F.TB_CTRL.MODE 0) ≠ 2) :
    ∃ t, exec (.ppsInEdge falling width) s = .next t ∧ t.fget F.PPS_CTRL.PPS_ERR = ofSigned 16 s.ppsErr ∧
      t = { s with regs := t.regs, counters := t.counters
                   time := { s.time with ppsStamp := some (s.time.tb0.fine, s.time.tb3) } } ∧ fieldsKept s t [F.PPS_CTRL.PPS_ERR] := by
  have wp : wordsWf 0 s.stampPps.regs = true := w
  have hkeep : fieldsKept s s.stampPps [F.PPS_CTRL.PPS_ERR] := fieldsKept_of_regs rfl _
  have hset := (State.Writes.refl wp [F.PPS_CTRL.PPS_ERR]).fset (f := F.PPS_CTRL.PPS_ERR) (by simp) (by decide) (ofSigned 16 s.ppsErr)
  refine ⟨_, by rw [exec_ppsInEdge hen hpol hwidth, if_neg hmode], ?_, rfl, fun f hf => (hset.kept f hf).trans (hkeep f hf)⟩
  rw [State.fget_fset_self _ _ _ (by decide) wp]
  exact Nat.mod_eq_of_lt (ofSigned_lt _ _)

end


/-- A base that has stepped for the first time (R188): STEPPED and its new state shown. -/
theorem State.firstState_spec {u : State} (w : wordsWf 0 u.regs = true) (h0 : u.fget (stateFld 0) = 0) :
    (u.modBase 0 (TimeBase.entered 1 u.time.tb3)).Reported ((u.fset (steppedFld 0) 1).setTbState 0 1) [stateFld 0, steppedFld 0] ∧
      ((u.fset (steppedFld 0) 1).setTbState 0 1).fget (stateFld 0) = 1 ∧
      ((u.fset (steppedFld 0) 1).setTbState 0 1).fget (steppedFld 0) = 1 := by
  have hstep := State.fset_wf u (steppedFld 0) 1 w
  have hst : (u.fset (steppedFld 0) 1).fget (stateFld 0) ≠ 1 := by
    rw [State.fget_fset_apart _ _ _ _ (steppedFld_fits 0) w (servoFields_apart 0).2.2.2.2.2.2, h0]
    decide
  obtain ⟨hr, hf⟩ := State.setTbState_spec (n := 0) (st := 1) hstep (by decide) hst
  have hone : (u.fset (steppedFld 0) 1).fget (steppedFld 0) = 1 := State.fget_fset_self _ _ _ (steppedFld_fits 0) w
  have hset : u.Reported (u.fset (steppedFld 0) 1) [stateFld 0, steppedFld 0] :=
    (State.Reported.refl w _).fset (by simp) (steppedFld_fits 0) 1
  exact ⟨(hset.modBase 0 (TimeBase.entered 1 u.time.tb3)).trans (hr.mono (by simp)), hf,
    (hr.fget (servoFields_kept 0).2.2).trans ((State.fget_modBase ..).trans hone)⟩

/-- The time after the edge that marks a second (R191): TB0 at that second. -/
def Time.marked (x : Time) (g : GmParams) : Time :=
  { x with gm := some { g with seconds := g.seconds + 1 }, lastPps := x.tb3, tb0 := { x.tb0 with t := g.seconds * 10 ^ 9 * fineNs } }

theorem Time.marked_eq (x : Time) (g : GmParams) : x.marked g =
    { x with gm := some { g with seconds := g.seconds + 1 }, lastPps := x.tb3, tb0 := { x.tb0 with t := g.seconds * 10 ^ 9 * fineNs } } := rfl

/-- The machine with another time. -/
def State.withTime (s : State) (x : Time) : State := { s with time := x }

theorem State.gmEdge_free {s : State} (hfree : s.tb0Free = true) (g : GmParams) :
    s.gmEdge g = ((s.withTime (s.time.marked g)).fset (steppedFld 0) 1).setTbState 0 1 := by
  rw [State.gmEdge]
  exact if_pos hfree


section
variable {s : State} (w : wordsWf 0 s.regs = true) (h0 : s.fget (stateFld 0) = 0) (x : Time)
include w h0

/-- The first step of TB0 on an edge that was counted: x the time with TB0 at the second the edge marks. -/
theorem State.firstEdge_spec : ∃ t, (((s.count 4 8).withTime x).fset (steppedFld 0) 1).setTbState 0 1 = t ∧
    t.time = { x with tb0 := x.tb0.entered 1 x.tb3 } ∧ t.fget F.TB_FLAGS.STATE0 = 1 ∧ t.fget F.TB_FLAGS.STEPPED0 = 1 ∧
    reports (s.withTime t.time) t [F.TB_FLAGS.STATE0, F.TB_FLAGS.STEPPED0] := by
  have hregs : ((s.count 4 8).withTime x).regs = s.regs := rfl
  have hwait := (State.fget_of_regs hregs (stateFld 0)).trans h0
  obtain ⟨hrep, hst, hone⟩ := State.firstState_spec (u := (s.count 4 8).withTime x) w hwait
  have htime := hrep.time
  have hframe : ((s.count 4 8).withTime x).modBase 0 (TimeBase.entered 1 ((s.count 4 8).withTime x).time.tb3) =
      (s.withTime { x with tb0 := x.tb0.entered 1 x.tb3 }).count 4 8 := rfl
  rw [hframe] at hrep htime
  refine ⟨_, rfl, htime, hst, hone, ?_⟩
  have hall := (State.Reported.refl (s := s.withTime { x with tb0 := x.tb0.entered 1 x.tb3 }) w
    [F.TB_FLAGS.STATE0, F.TB_FLAGS.STEPPED0]).count 4 8 1
  have hrep' := (hall.trans hrep).reports
  rw [htime]
  exact hrep'

end

theorem exec_ppsInEdge_first {s : State} {falling : Bool} {width : Nat} (hen : s.bit F.PPS_CTRL.IN_EN = true)
    (hpol : s.bit F.PPS_CTRL.IN_POL = falling) (hwidth : 100 ≤ width) (g : GmParams)
    (hmode : s.fget (F.TB_CTRL.MODE 0) = 2) (hgm : s.time.gm = some g) (hr : s.rung ≤ 2) (hon : s.bit (F.TB_CTRL.EN 0) = true)
    (hfree : s.tb0Free = true) : exec (.ppsInEdge falling width) s =
      .next ((((s.count 4 8).withTime (s.stampPps.time.marked g)).fset (steppedFld 0) 1).setTbState 0 1) := by
  have h0 : s.fget (stateFld 0) = 0 := of_decide_eq_true hfree
  have hregs : s.stampPps.regs = s.regs := rfl
  have hfree' : s.stampPps.tb0Free = true := decide_eq_true ((State.fget_of_regs hregs _).trans h0)
  rw [exec_ppsInEdge hen hpol hwidth, if_pos hmode, hgm]
  simp only [hr, hon, and_self, if_true]
  rw [State.gmEdge_free hfree' g]
  rfl

theorem ppsInEdge_first {s : State} {falling : Bool} {width : Nat} (hen : s.bit F.PPS_CTRL.IN_EN = true)
    (hpol : s.bit F.PPS_CTRL.IN_POL = falling) (hwidth : 100 ≤ width) (w : wordsWf 0 s.regs = true) (g : GmParams)
    (hmode : s.fget (F.TB_CTRL.MODE 0) = 2) (hgm : s.time.gm = some g) (hr : s.rung ≤ 2) (hon : s.bit (F.TB_CTRL.EN 0) = true)
    (hfree : s.tb0Free = true) :
    ∃ t, exec (.ppsInEdge falling width) s = .next t ∧ t.time.tb0.t = g.seconds * 10 ^ 9 * fineNs ∧ t.fget F.TB_FLAGS.STATE0 = 1 ∧
      t.fget F.TB_FLAGS.STEPPED0 = 1 ∧ t.time.gm = some { g with seconds := g.seconds + 1 } ∧ t.time.lastPps = s.time.tb3 ∧
      reports { s with time := t.time } t [F.TB_FLAGS.STATE0, F.TB_FLAGS.STEPPED0] ∧ t.time.tb1 = s.time.tb1 ∧
      t.time.tb2 = s.time.tb2 ∧ t.time.tb3 = s.time.tb3 ∧ t.time.ppsStamp = some (s.time.tb0.fine, s.time.tb3) := by
  have h0 : s.fget (stateFld 0) = 0 := of_decide_eq_true hfree
  obtain ⟨t, ht, htime, hst, hone, hrep⟩ := State.firstEdge_spec w h0 (s.stampPps.time.marked g)
  refine ⟨t, (exec_ppsInEdge_first hen hpol hwidth g hmode hgm hr hon hfree).trans (congrArg _ ht), ?_⟩
  have hmark := Time.marked_eq s.stampPps.time g
  generalize g.seconds * 10 ^ 9 * fineNs = n at hmark ⊢
  rw [hmark] at htime
  clear hmark ht
  refine ⟨?_, hst, hone, ?_, ?_, hrep, ?_, ?_, ?_, ?_⟩ <;> rw [htime] <;> rfl

/-! ## The loss of PPS_IN (R191) -/

theorem State.holdBase_entered {s : State} (w : wordsWf 0 s.regs = true) (n : Nat) :
    (s.modBase n (fun _ => (s.holdBase n).base n)).Reported (s.holdBase n) [stateFld n] ∧
      (s.holdBase n).fget (stateFld n) = (if s.fget (stateFld n) = 0 then 0 else 3) ∧ ((s.holdBase n).base n).rate = (s.base n).rate := by
  by_cases h : s.fget (stateFld n) = 1 ∨ s.fget (stateFld n) = 2
  · have heq : s.holdBase n = s.setTbState n 3 := if_pos h
    obtain ⟨hr, hf, -, hrate, -⟩ := State.setTbState_entered w n (st := 3) (by decide)
    rw [heq, if_neg (by omega)]
    exact ⟨hr, hf, hrate⟩
  · have heq : s.holdBase n = s := if_neg h
    have hlt : s.fget (stateFld n) < 2 ^ 2 := stateFld_width n ▸ fldOf_lt (s.word (stateFld n).off) (stateFld n)
    rw [heq, State.modBase_id]
    refine ⟨State.Reported.refl w _, ?_, rfl⟩
    split <;> omega

theorem ppsLost_spec {s : State} (w : wordsWf 0 s.regs = true) (hmode : s.fget (F.TB_CTRL.MODE 0) = 2) (hgm : s.time.gm.isSome = true)
    (hlate : s.time.lastPps + 1250000000 ≤ s.time.tb3) :
    ∃ t, exec .ppsLost s = .next t ∧ t.fget F.TB_FLAGS.PPS_LOST = 1 ∧
      t.fget F.TB_FLAGS.STATE0 = (if s.fget F.TB_FLAGS.STATE0 = 0 then 0 else 3) ∧ t.time.tb0.rate = s.time.tb0.rate ∧
      reports { s with time := { s.time with tb0 := t.time.tb0 } } t [F.TB_FLAGS.STATE0, F.TB_FLAGS.PPS_LOST] := by
  have hexec : exec .ppsLost s = .next ((((s.count 4 9).holdBase 0).sticky F.TB_FLAGS.PPS_LOST (some 1)).timeEvent 0 3) := by
    show execPpsLost s = _
    rw [execPpsLost, if_pos ⟨hmode, hgm, by omega⟩]
  obtain ⟨hr, hf, hrate⟩ := State.holdBase_entered (s := s.count 4 9) w 0
  refine ⟨_, hexec, ?_⟩
  generalize (s.count 4 9).holdBase 0 = u at *
  have hall := ((State.Reported.refl hr.form [F.TB_FLAGS.PPS_LOST]).sticky (f := F.TB_FLAGS.PPS_LOST) (by simp) (by decide) (some 1)).timeEvent 0 3
  have hone : ((u.sticky F.TB_FLAGS.PPS_LOST (some 1)).timeEvent 0 3).fget F.TB_FLAGS.PPS_LOST = 1 :=
    (State.fget_of_regs (State.timeEvent_regs ..) _).trans (State.fget_sticky_self hr.form (by decide) rfl _)
  generalize (u.sticky F.TB_FLAGS.PPS_LOST (some 1)).timeEvent 0 3 = t at *
  have hst : t.fget F.TB_FLAGS.STATE0 = u.fget F.TB_FLAGS.STATE0 := hall.fget (apart_of_test (by decide))
  have hbase : t.time.tb0 = u.time.tb0 := by rw [hall.time]
  refine ⟨hone, hst.trans hf, by rw [hbase]; exact hrate, ?_⟩
  rw [hbase]
  have hcount := (State.Reported.refl (s := { s with time := { s.time with tb0 := u.time.tb0 } }) w [F.TB_FLAGS.STATE0, F.TB_FLAGS.PPS_LOST]).count 4 9 1
  exact ((hcount.trans (hr.mono (by simp [stateFld]))).trans (hall.mono (by simp))).reports

/-! ## PPS_OUT (R192) -/

theorem ppsOutPulse_spec {s : State} (hen : s.bit F.PPS_CTRL.OUT_EN = true) (hns : s.nsOf (s.fget F.PPS_CTRL.OUT_SRC) % 10 ^ 9 < 3)
    (hfree : s.fget F.PPS_CTRL.OUT_SRC ≤ 1 → s.fget (stateFld (s.fget F.PPS_CTRL.OUT_SRC)) ≠ 0)
    (hfree2 : s.fget F.PPS_CTRL.OUT_SRC = 2 → s.time.tb2Free = false) :
    exec .ppsOutPulse s = .next (s.emit (.pps (max 1 (s.fget F.PPS_CTRL.WIDTH)))) := by
  show execPpsOutPulse s = _
  rw [execPpsOutPulse, if_pos]
  rw [hen, decide_eq_true hns]
  split
  · next h => simpa using hfree h
  · by_cases h2 : s.fget F.PPS_CTRL.OUT_SRC = 2
    · simp [hfree2 h2]
    · simp [h2]

/-! ## TIME_SET_GM (R191) -/

theorem timeSetGm_spec {s : State} (hwf : s.allWf = true) {src : Src} (hacc : s.accepts 0x81 src) (sec utc flags cls acc p1 p2 : Nat) :
    (s.fget (F.TB_CTRL.MODE 0) = 2 →
      ∃ t, exec (.timeSetGm src sec utc flags cls acc p1 p2) s = .next t ∧ t.time.gm = some ⟨sec, utc, flags, cls, acc, p1, p2⟩ ∧
        answered s t 0x81 src .done 0 0 [] [] ∧
        reports { s.without src with time := { s.time with gm := t.time.gm, lastPps := t.time.lastPps } } t []) ∧
    (s.fget (F.TB_CTRL.MODE 0) ≠ 2 →
      ∃ t, exec (.timeSetGm src sec utc flags cls acc p1 p2) s = .next t ∧
        answered s t 0x81 src .refused Reason.state.code 0 [] [] ∧ reports (s.without src) t []) := by
  have hexec : exec (.timeSetGm src sec utc flags cls acc p1 p2) s = execTimeSetGm src sec utc flags cls acc p1 p2 s := rfl
  rw [hexec, execTimeSetGm, State.handle_accepted hacc]
  have hmode : (s.taking src).fget (F.TB_CTRL.MODE 0) = s.fget (F.TB_CTRL.MODE 0) := State.fget_of_regs rfl _
  rw [hmode]
  refine ⟨fun h => ?_, fun h => ?_⟩
  · rw [if_neg (by simp [h])]
    refine ⟨_, rfl, ?_⟩
    dsimp only
    obtain ⟨x, hx⟩ : ∃ x : Time, x = { (s.taking src).time with
      gm := some ⟨sec, utc, flags, cls, acc, p1, p2⟩
      lastPps := if (s.taking src).time.gm.isSome then (s.taking src).time.lastPps else (s.taking src).time.tb3 } := ⟨_, rfl⟩
    rw [← hx]
    have hopen : s.Open { s.taking src with time := x } src := ⟨rfl, rfl, rfl⟩
    have hframe : ({ s.without src with time := { s.time with gm := x.gm, lastPps := x.lastPps } } : State).count 11 7 =
        { s.taking src with time := x } := by rw [hx]; rfl
    have hrep := hacc.completion_reports hwf hopen (State.regsWf_of_allWf (s := s) hwf) 0x81 .done 0 0 [] [] []
    have htime : (({ s.taking src with time := x } : State).complete 0x81 src .done).time = x := State.complete_time ..
    refine ⟨by rw [htime, hx], hacc.completed hwf hopen .., ?_⟩
    rw [htime]
    refine reports_trans ?_ hrep
    rw [← hframe]
    exact State.count_reports _ 11 7 1 []
  · rw [if_pos h]
    exact ⟨_, rfl, hacc.refused hwf .state 0⟩

/-! ## TB_TICK.PERIOD and TB_NOW (R195, R196) -/

section
variable {s : State} (hreach : s.reaches 0x200018 = true) (v : Nat)
include hreach

theorem exec_periodWrite : exec (.periodWrite v) s = .next (s.mirrorWrite (decide (v % 65536 ≠ s.fget F.TB_TICK.PERIOD)) (fun s =>
    if (periodWrite v s).word 0x200018 = s.word 0x200018 then periodWrite v s
    else (periodWrite v s).sendJournal (.setting 0x200018 ((periodWrite v s).word 0x200018)))) := by
  have hnone : s.reloading 0x200018 = none := by
    rw [State.reloading, show ownerOf 0x200018 = 15 by decide]
    rfl
  show execPeriodWrite v s = _
  rw [execPeriodWrite, State.hostWrite, if_pos hreach, hnone]

/-- A write of TB_TICK on the active module, journalled where it changes the word. -/
theorem periodWrite_reported (w : wordsWf 0 s.regs = true) (hact : s.active = true) {f : Fld} (fits : f.lo + f.width ≤ 32) {x : Nat}
    (h : periodWrite v s = s.fset f x) :
    ∃ t, exec (.periodWrite v) s = .next t ∧ t.fget f = x % 2 ^ f.width ∧ s.Reported t [f] ∧ t.steer = s.steer := by
  have hset := (State.Reported.refl w [f]).fset (by simp) fits x
  have hself := State.fget_fset_self s f x fits w
  rw [exec_periodWrite hreach, State.mirrorWrite, if_pos hact, h]
  split
  · exact ⟨_, rfl, hself, hset, rfl⟩
  · exact ⟨_, rfl, (State.fget_of_regs (State.sendJournal_regs ..) f).trans hself, hset.sendJournal _, (hset.sendJournal _).steer⟩

end

theorem periodWrite_spec {s : State} (v : Nat) (hwf : s.allWf = true) (hreach : s.reaches 0x200018 = true) :
    (s.active = true → 15625 ≤ v → v ≤ 50000 → (∀ c ∈ s.lock.cycles, c.berth = true) → s.takeover = false →
      ∃ t, exec (.periodWrite v) s = .next t ∧ t.fget F.TB_TICK.PERIOD = v ∧ t.steer.period = s.steer.period ∧
        reports s t [F.TB_TICK.PERIOD]) ∧
    (s.active = true → v < 15625 ∨ 50000 < v ∨ (∃ c ∈ s.lock.cycles, c.berth = false) ∨ s.takeover = true →
      ∃ t, exec (.periodWrite v) s = .next t ∧ t.fget F.TB_TICK.ERR = 1 ∧ t.fget F.TB_TICK.PERIOD = s.fget F.TB_TICK.PERIOD ∧
        reports s t [F.TB_TICK.ERR]) ∧
    (s.active = false → v % 65536 ≠ s.fget F.TB_TICK.PERIOD →
      ∃ t, exec (.periodWrite v) s = .next t ∧ t.fget F.PAIR_STATUS.WRITE_IGN = 1 ∧ t = { s with regs := t.regs } ∧
        fieldsKept s t [F.PAIR_STATUS.WRITE_IGN]) := by
  have w := State.regsWf_of_allWf hwf
  refine ⟨fun hact hlo hhi hcyc htake => ?_, fun hact hbad => ?_, fun hact hne => ?_⟩
  · have hset : periodWrite v s = s.fset F.TB_TICK.PERIOD v := by
      rw [periodWrite, if_neg]
      simp only [Bool.or_eq_true, List.any_eq_true, htake, Bool.false_eq_true, or_false, not_or, not_exists, not_and]
      exact ⟨by omega, by omega, fun c hc => by simp [hcyc c hc]⟩
    obtain ⟨t, hexec, hv, hr, hsteer⟩ := periodWrite_reported hreach v w hact (by decide) hset
    exact ⟨t, hexec, hv.trans (Nat.mod_eq_of_lt (show v < 2 ^ 16 by omega)), by rw [hsteer], hr.reports⟩
  · have hset : periodWrite v s = s.fset F.TB_TICK.ERR 1 := by
      rw [periodWrite, if_pos]
      simp only [Bool.or_eq_true, List.any_eq_true, Bool.not_eq_true']
      tauto
    obtain ⟨t, hexec, hv, hr, -⟩ := periodWrite_reported hreach v w hact (by decide) hset
    exact ⟨t, hexec, hv, hr.fget (apart_of_test (by decide)), hr.reports⟩
  · have hw := (State.Writes.refl w [F.PAIR_STATUS.WRITE_IGN]).fset (f := F.PAIR_STATUS.WRITE_IGN) (by simp) (by decide) 1
    refine ⟨s.fset F.PAIR_STATUS.WRITE_IGN 1, ?_, State.fget_fset_self s _ 1 (by decide) w, hw.frame, hw.kept⟩
    rw [exec_periodWrite hreach, State.mirrorWrite, if_neg (by simp [hact]), if_pos (decide_eq_true hne)]

theorem tbNowRead_spec (s : State) {b : Nat} (hb : b < 4) :
    ∃ t, exec (.tbNowRead b) s = .next t ∧ t = { s with time := { s.time with latched := s.times }, out := t.out } ∧
      ∃ x, s.times[b]? = some x ∧ t.out = s.out ++ [.readData (le 4 (x / 65536 / 10 ^ 9 % 2 ^ 32)) false] := by
  have hwf : Instr.wf (.tbNowRead b) = true := decide_eq_true hb
  have hlen : b < s.times.length := hb
  refine ⟨({ s with time := { s.time with latched := s.times } } : State).emit (.readData (le 4 (nowWord (s.times.getD b 0) 0)) false), ?_, rfl,
    s.times[b], List.getElem?_eq_getElem hlen, ?_⟩
  · show execTbNowRead b s = _
    rw [execTbNowRead, hwf]
    rfl
  · rw [List.getD_eq_getElem _ _ hlen]
    rfl

/-- Settles O41: each edge, loss, pulse, write and read is one change of the time or of a register, found by its condition. -/
theorem pulsesAndTimeRegisters : Obligations.PulsesAndTimeRegisters := by
  unfold Obligations.PulsesAndTimeRegisters
  refine ⟨fun s falling width hwf hen hpol hw => ⟨ppsInEdge_measured hen hpol hw (State.regsWf_of_allWf hwf),
      fun g hmode hgm hr hon hfree => ppsInEdge_first hen hpol hw (State.regsWf_of_allWf hwf) g hmode hgm hr hon hfree⟩,
    fun s hwf => ppsLost_spec (State.regsWf_of_allWf hwf), fun s n hen hn hns hst h2 => ?_,
    fun s src sec utc flags cls acc p1 p2 hwf hacc => timeSetGm_spec hwf hacc sec utc flags cls acc p1 p2,
    fun s v hwf hreach => periodWrite_spec v hwf hreach, fun s b hb => tbNowRead_spec s hb⟩
  subst hn
  exact ⟨_, ppsOutPulse_spec hen hns hst h2, rfl⟩

end Sys2Proof.Machine
end

section
/-!
PROOFS. PTP messages and the Ethernet ports (R184–R187, R195): the statement.
-/

namespace Sys2Proof.Machine

/-! ## Messages ignored and counted (R184) -/

theorem baseOfDomain_lt {s : State} {p dom n : Nat} (h : s.baseOfDomain p dom = some n) : n < 2 := by
  have hm := List.mem_of_find?_eq_some h
  simp only [List.mem_cons, List.not_mem_nil, or_false] at hm
  omega

section
variable {s : State} {p : Nat} (hp : p < 2) (hon : s.ptpOn p = true)
include hp hon

theorem exec_ptpMessage (k : PtpKind) (dom tr : Nat) (bad : Bool) : exec (.ptpMessage p k dom tr bad) s = .next (
    if bad then ((s.count 15 (8 * p + 6)).count 4 11).logEntry 1 14 .request .module 0 p
    else if !ptpSupported k || decide (tr ≠ s.transport p) || s.otherMechanism p k then (s.count 15 (8 * p + 6)).count 4 10
    else match s.baseOfDomain p dom with
      | none => (s.count 15 (8 * p + 6)).count 4 10
      | some n =>
        match k with
        | .announce =>
          if n = 0 ∧ s.fget (F.TB_CTRL.MODE 0) = 2 then s.count 15 (8 * p + 6)
          else
            let d := (s.count 15 (8 * p + 6)).draw (if n = 0 then 6 else 3)
            d.2.ptpRole p n (if n = 0 then 4 + d.1 else (if d.1 = 0 then 4 else 7 + d.1))
        | k =>
          if ptpEvent k then
            let r := (s.count 15 (8 * p + 6)).ptpStamp n
            { r.2 with time := { r.2.time with rx := spSet none r.2.time.rx (rxKey p n k) (some r.1) } }
          else s.count 15 (8 * p + 6)) := by
  have hwf : Instr.wf (.ptpMessage p k dom tr bad) = true := decide_eq_true hp
  show execPtpMessage p k dom tr bad s = _
  rw [execPtpMessage, hwf, if_neg (by simp [hon])]
  rfl

theorem ptpMessage_malformed (w : wordsWf 0 s.regs = true) (k : PtpKind) (dom tr : Nat) :
    ∃ t, exec (.ptpMessage p k dom tr true) s = .next t ∧ reports s t [] :=
  ⟨_, exec_ptpMessage hp hon k dom tr true,
    ((((State.Reported.refl w []).count 15 (8 * p + 6) 1).count 4 11 1).logEntry (sev := 1) (by decide) 14 .request .module 0 p 0).reports⟩

theorem ptpMessage_ignored {k : PtpKind} {dom tr : Nat}
    (h : ptpSupported k = false ∨ tr ≠ s.transport p ∨ s.otherMechanism p k = true ∨ s.baseOfDomain p dom = none) :
    exec (.ptpMessage p k dom tr false) s = .next ((s.count 15 (8 * p + 6)).count 4 10) := by
  rw [exec_ptpMessage hp hon, if_neg Bool.false_ne_true]
  split
  · rfl
  · next hno =>
    have hnone : s.baseOfDomain p dom = none := by
      simp only [Bool.or_eq_true, decide_eq_true_eq, not_or] at hno
      rcases h with h | h | h | h
      · exact absurd (by simp [h]) hno.1.1
      · exact absurd h hno.1.2
      · exact absurd h hno.2
      · exact h
    rw [hnone]

end

/-! ## The states of a port (R185) -/

theorem portStateFld_fits (p n : Nat) : (portStateFld p n).lo + (portStateFld p n).width ≤ 32 := by
  unfold portStateFld; split <;> decide

theorem portStateFld_width (p n : Nat) : (portStateFld p n).width = 4 := by unfold portStateFld; split <;> rfl

theorem portStateFld_apart {p n : Nat} (hp : p < 2) (hn : n < 2) : Fld.apart (portStateFld p n) (portStateFld (1 - p) n) ∧
    Fld.apart (portStateFld (1 - p) n) (portStateFld p n) := by
  rcases Nat.lt_succ_iff_lt_or_eq.mp hp with h | rfl
  · obtain rfl : p = 0 := by omega
    rcases Nat.lt_succ_iff_lt_or_eq.mp hn with h | rfl
    · obtain rfl : n = 0 := by omega
      exact ⟨Fld.apart_of_test (by decide), Fld.apart_of_test (by decide)⟩
    · exact ⟨Fld.apart_of_test (by decide), Fld.apart_of_test (by decide)⟩
  · rcases Nat.lt_succ_iff_lt_or_eq.mp hn with h | rfl
    · obtain rfl : n = 0 := by omega
      exact ⟨Fld.apart_of_test (by decide), Fld.apart_of_test (by decide)⟩
    · exact ⟨Fld.apart_of_test (by decide), Fld.apart_of_test (by decide)⟩

/-- t is s but for counters and the register fields of a list. -/
structure State.Shows (s t : State) (l : List Fld) : Prop where
  form : wordsWf 0 t.regs = true
  frame : t = { s with regs := t.regs, counters := t.counters }
  kept : fieldsKept s t l

namespace State.Shows

variable {s t : State} {l : List Fld}

theorem refl (w : wordsWf 0 s.regs = true) (l : List Fld) : s.Shows s l := ⟨w, rfl, fun _ _ => rfl⟩

theorem count (h : s.Shows t l) (g i : Nat) : s.Shows (t.count g i) l := by
  obtain ⟨w, frame, kept⟩ := h
  refine ⟨w, ?_, fun f hf => (State.fget_of_regs (s := t) (by rfl) f).trans (kept f hf)⟩
  rw [State.count, frame]

theorem fset (h : s.Shows t l) {f : Fld} (hf : f ∈ l) (fits : f.lo + f.width ≤ 32) (v : Nat) : s.Shows (t.fset f v) l := by
  obtain ⟨w, frame, kept⟩ := h
  have hw := (State.Writes.refl w l).fset hf fits v
  refine ⟨hw.form, ?_, fun g hg => (hw.kept g hg).trans (kept g hg)⟩
  have hframe := hw.frame
  generalize t.fset f v = u at hframe ⊢
  rw [hframe, frame]

theorem ite {u : State} {c : Prop} [Decidable c] (ht : s.Shows t l) (hu : s.Shows u l) : s.Shows (if c then t else u) l := by
  split
  · exact ht
  · exact hu

end State.Shows

/-- A port's state in a domain shown and its change counted. -/
def State.showRole (s : State) (p n st : Nat) : State :=
  if s.fget (portStateFld p n) = st then s else (s.fset (portStateFld p n) st).count 4 7

theorem State.ptpRole_eq (s : State) (p n st : Nat) : s.ptpRole p n st =
    if st < 8 ∨ (s.showRole p n st).fget (portStateFld (1 - p) n) = 0 ∨ (s.showRole p n st).fget (portStateFld (1 - p) n) = 2 then s.showRole p n st
    else if n = 0 ∧ (s.showRole p n st).fget (F.TB_CTRL.MODE 0) = 1 then (s.showRole p n st).fset (portStateFld (1 - p) n) 6
    else if 8 ≤ (s.showRole p n st).fget (portStateFld (1 - p) n) then (s.showRole p n st).fset (portStateFld (1 - p) n) 7
    else s.showRole p n st := rfl

section
variable {s : State} (w : wordsWf 0 s.regs = true) {p n st : Nat}
include w

theorem State.showRole_shows : s.Shows (s.showRole p n st) [portStateFld p n, portStateFld (1 - p) n] :=
  (State.Shows.refl w _).ite (((State.Shows.refl w _).fset (by simp) (portStateFld_fits p n) st).count 4 7)

theorem State.fget_showRole (hst : st < 16) : (s.showRole p n st).fget (portStateFld p n) = st := by
  unfold State.showRole
  split
  · assumption
  · refine (State.fget_of_regs (s := s.fset (portStateFld p n) st) (by rfl) _).trans ?_
    rw [State.fget_fset_self _ _ _ (portStateFld_fits p n) w, portStateFld_width]
    exact Nat.mod_eq_of_lt hst

theorem State.fget_showRole_apart {f : Fld} (hf : Fld.apart (portStateFld p n) f) : (s.showRole p n st).fget f = s.fget f := by
  unfold State.showRole
  split
  · rfl
  · exact (State.fget_of_regs (s := s.fset (portStateFld p n) st) (by rfl) _).trans
      (State.fget_fset_apart _ _ _ _ (portStateFld_fits p n) w hf)

theorem State.ptpRole_spec (hp : p < 2) (hn : n < 2) (hst : st < 16) :
    s.Shows (s.ptpRole p n st) [portStateFld p n, portStateFld (1 - p) n] ∧ (s.ptpRole p n st).fget (portStateFld p n) = st ∧
      (n = 0 → s.fget (F.TB_CTRL.MODE 0) = 1 → 8 ≤ st → s.fget (portStateFld (1 - p) 0) ≠ 0 → s.fget (portStateFld (1 - p) 0) ≠ 2 →
        (s.ptpRole p n st).fget (portStateFld (1 - p) 0) = 6) := by
  have hshow := State.showRole_shows (s := s) w (p := p) (n := n) (st := st)
  have hself := State.fget_showRole (s := s) w (p := p) (n := n) hst
  have hother : (s.showRole p n st).fget (portStateFld (1 - p) n) = s.fget (portStateFld (1 - p) n) :=
    State.fget_showRole_apart w (portStateFld_apart hp hn).1
  have hmode : (s.showRole p n st).fget (F.TB_CTRL.MODE 0) = s.fget (F.TB_CTRL.MODE 0) :=
    State.fget_showRole_apart w (by unfold portStateFld; split <;> exact Fld.apart_of_test (by decide))
  have hput : ∀ v, s.Shows ((s.showRole p n st).fset (portStateFld (1 - p) n) v) [portStateFld p n, portStateFld (1 - p) n] ∧
      ((s.showRole p n st).fset (portStateFld (1 - p) n) v).fget (portStateFld p n) = st := fun v =>
    ⟨hshow.fset (by simp) (portStateFld_fits _ n) v,
     (State.fget_fset_apart _ _ _ _ (portStateFld_fits _ n) hshow.form (portStateFld_apart hp hn).2).trans hself⟩
  rw [State.ptpRole_eq, hother, hmode]
  split
  · next h => exact ⟨hshow, hself, fun h0 _ h8 hne0 hne2 => by subst h0; omega⟩
  · split
    · refine ⟨(hput 6).1, (hput 6).2, fun h0 _ _ _ _ => ?_⟩
      subst h0
      rw [State.fget_fset_self _ _ _ (portStateFld_fits _ 0) hshow.form, portStateFld_width]
      rfl
    · next hno =>
      have hno' : n = 0 → s.fget (F.TB_CTRL.MODE 0) = 1 → False := fun h0 h1 => hno ⟨h0, h1⟩
      split
      · exact ⟨(hput 7).1, (hput 7).2, fun h0 h1 => (hno' h0 h1).elim⟩
      · exact ⟨hshow, hself, fun h0 h1 => (hno' h0 h1).elim⟩

end

/-! ## An Announce and an event message (R184–R186) -/

theorem ptpSupported_of_event (k : PtpKind) : ptpEvent k = true → ptpSupported k = true := by cases k <;> decide

/-- What is stored at a key, other than the default, is read there. -/
theorem spGet_spSet_some {α : Type} [DecidableEq α] (m : Sparse (Option α)) (k : Nat) (v : α) :
    spGet none (spSet none m k (some v)) k = some v := by
  induction m with
  | nil => simp [spSet, spGet]
  | cons x m ih =>
    obtain ⟨k', v'⟩ := x
    by_cases hlt : k' < k
    · simp [spSet, hlt, spGet, Nat.ne_of_lt hlt, ih]
    · by_cases heq : k' = k <;> simp [spSet, hlt, heq, spGet]

theorem State.draw_lt (s : State) {m : Nat} (h : 0 < m) : (s.draw m).1 < m := Nat.mod_lt _ h

/-- A receive stamp noted. -/
def State.putStamp (s : State) (k v : Nat) : State := { s with time := { s.time with rx := spSet none s.time.rx k (some v) } }

/-- A stamp is resolved to 0.25 ns and lies within 4 ns of the instant. -/
theorem State.ptpStamp_near (s : State) (n : Nat) : ∃ v, s.ptpStamp n = (v, { s with free := s.free + 1 }) ∧ v % 2 ^ 14 = 0 ∧
    v ≤ (s.base n).fine + 2 ^ 18 ∧ (s.base n).fine ≤ v + 2 ^ 18 + 2 ^ 14 := by
  have hd := s.draw_lt (m := 33) (by decide)
  refine ⟨_, rfl, Nat.mul_mod_left _ _, ?_⟩
  generalize (s.base n).fine = x
  generalize (s.draw 33).1 = d at hd ⊢
  omega

section
variable {s : State} {p dom n : Nat} (hp : p < 2) (hon : s.ptpOn p = true) (hdom : s.baseOfDomain p dom = some n)
include hp hon hdom

theorem ptpMessage_announce (w : wordsWf 0 s.regs = true) (hgm : n = 0 → s.fget (F.TB_CTRL.MODE 0) ≠ 2) :
    ∃ t, exec (.ptpMessage p .announce dom (s.transport p) false) s = .next t ∧ 4 ≤ t.fget (portStateFld p n) ∧
      t.fget (portStateFld p n) ≤ 9 ∧
      (n = 1 → t.fget (portStateFld p n) ≠ 5 ∧ t.fget (portStateFld p n) ≠ 6 ∧ t.fget (portStateFld p n) ≠ 7) ∧
      (n = 0 → s.fget (F.TB_CTRL.MODE 0) = 1 → 8 ≤ t.fget (portStateFld p 0) → s.fget (portStateFld (1 - p) 0) ≠ 0 →
        s.fget (portStateFld (1 - p) 0) ≠ 2 → t.fget (portStateFld (1 - p) 0) = 6) ∧
      t = { s with regs := t.regs, counters := t.counters, free := s.free + 1 } ∧
      fieldsKept s t [portStateFld p n, portStateFld (1 - p) n] := by
  have hn := baseOfDomain_lt hdom
  have hexec := exec_ptpMessage hp hon .announce dom (s.transport p) false
  rw [if_neg Bool.false_ne_true, if_neg (by simp [ptpSupported, State.otherMechanism]), hdom] at hexec
  dsimp only at hexec
  rw [if_neg (fun h => hgm h.1 h.2)] at hexec
  have hd := State.draw_lt (s.count 15 (8 * p + 6)) (m := if n = 0 then 6 else 3) (by split <;> decide)
  obtain ⟨d, u, hu⟩ : ∃ d u, (s.count 15 (8 * p + 6)).draw (if n = 0 then 6 else 3) = (d, u) := ⟨_, _, rfl⟩
  have hfree : u = { s.count 15 (8 * p + 6) with free := s.free + 1 } := (congrArg Prod.snd hu).symm
  rw [hu] at hexec hd
  dsimp only at hexec hd
  have hregs : u.regs = s.regs := by rw [hfree]; rfl
  obtain ⟨st, hst⟩ : ∃ st, st = if n = 0 then 4 + d else (if d = 0 then 4 else 7 + d) := ⟨_, rfl⟩
  have hlo : 4 ≤ st ∧ st ≤ 9 ∧ (n = 1 → st ≠ 5 ∧ st ≠ 6 ∧ st ≠ 7) := by
    by_cases h0 : n = 0
    · rw [if_pos h0] at hst hd; omega
    · rw [if_neg h0] at hst hd
      split at hst <;> omega
  rw [← hst] at hexec
  obtain ⟨hshow, hself, hother⟩ := State.ptpRole_spec (s := u) (by rw [hregs]; exact w) hp hn (st := st) (by omega)
  have hfld : ∀ f, u.fget f = s.fget f := fun f => State.fget_of_regs hregs f
  have hframe := hshow.frame
  have hkept := hshow.kept
  refine ⟨_, hexec, ?_⟩
  generalize u.ptpRole p n st = t at *
  refine ⟨by omega, by omega, by rw [hself]; exact hlo.2.2, fun h0 h1 h8 hne0 hne2 => ?_, ?_, fun f hf => (hkept f hf).trans (hfld f)⟩
  · subst h0
    exact hother rfl (by rw [hfld]; exact h1) (by omega) (by rw [hfld]; exact hne0) (by rw [hfld]; exact hne2)
  · rw [hfree] at hframe
    exact hframe

theorem ptpMessage_event {k : PtpKind} (hk : ptpEvent k = true) (hmech : s.otherMechanism p k = false) :
    ∃ t v, exec (.ptpMessage p k dom (s.transport p) false) s = .next t ∧ t.rxStamp p n k = some v ∧ v % 2 ^ 14 = 0 ∧
      v ≤ (s.base n).fine + 2 ^ 18 ∧ (s.base n).fine ≤ v + 2 ^ 18 + 2 ^ 14 ∧
      t = { s with time := { s.time with rx := t.time.rx }, counters := t.counters, free := s.free + 1 } := by
  have hexec := exec_ptpMessage hp hon k dom (s.transport p) false
  rw [if_neg Bool.false_ne_true, if_neg (by simp [ptpSupported_of_event k hk, hmech]), hdom] at hexec
  have hne : k ≠ .announce := by rintro rfl; cases hk
  have hstamp : exec (.ptpMessage p k dom (s.transport p) false) s = .next (((s.count 15 (8 * p + 6)).ptpStamp n).2.putStamp
      (rxKey p n k) ((s.count 15 (8 * p + 6)).ptpStamp n).1) := by
    rw [hexec]
    cases k with
    | announce => exact absurd rfl hne
    | _ => exact congrArg Host.Outcome.next (if_pos hk)
  obtain ⟨v, hv, h0, hle, hge⟩ := State.ptpStamp_near (s.count 15 (8 * p + 6)) n
  refine ⟨_, v, hstamp, ?_, h0, hle, hge, ?_⟩
  · rw [hv]
    exact spGet_spSet_some ..
  · rw [hv]
    rfl

end

/-! ## Messages sent (R185, R187, R191) -/

/-- t is s after some messages have left, and counts. -/
def State.Sends (s t : State) (l : List Sent) : Prop := t.out = s.out ++ l ∧ t = { s with out := t.out, counters := t.counters }

theorem State.Sends.trans {s t u : State} {l m : List Sent} (h : s.Sends t l) (k : t.Sends u m) : s.Sends u (l ++ m) := by
  obtain ⟨hout, hframe⟩ := h
  obtain ⟨kout, kframe⟩ := k
  exact ⟨by rw [kout, hout, List.append_assoc], by rw [kframe, hframe]⟩

theorem State.sendPtp_sends (u : State) (m : PtpOut) : u.Sends (u.sendPtp m) [.ptp m] := ⟨rfl, rfl⟩

theorem State.Sends.count {s t : State} {l : List Sent} (h : s.Sends t l) (g i : Nat) : s.Sends (t.count g i) l := by
  have hcount : t.Sends (t.count g i) [] := ⟨(List.append_nil _).symm, rfl⟩
  have hall := h.trans hcount
  rwa [List.append_nil] at hall

theorem State.sendEvent_eq {s : State} {m : PtpOut} {v : Nat} (hv : s.ptpStamp m.base = (v, { s with free := s.free + 1 })) (hk : m.kind = .sync)
    (hc : m.correction = 0) :
    s.sendEvent m = if s.bit (F.TB_CTRL.TWO_STEP m.base)
      then (({ s with free := s.free + 1 } : State).sendPtp { m with stamp := some v, oneStep := false }).sendPtp
        { m with stamp := some v, oneStep := false, kind := .followUp } |>.count 4 13
      else (({ s with free := s.free + 1 } : State).sendPtp { m with stamp := some v, oneStep := true }).count 4 12 := by
  obtain ⟨port, base, domain, kind, oneStep, stamp, received, correction, interval, transport, vlan, pcp, announce⟩ := m
  subst hk hc
  unfold State.sendEvent
  rw [hv]
  dsimp only
  cases htwo : s.bit (F.TB_CTRL.TWO_STEP base) with
  | true =>
    have htwo' : ({ s with free := s.free + 1 } : State).bit (F.TB_CTRL.TWO_STEP base) = true := htwo
    simp [htwo']
  | false =>
    have htwo' : ({ s with free := s.free + 1 } : State).bit (F.TB_CTRL.TWO_STEP base) = false := htwo
    simp [htwo']

section
variable {s : State} {p : Nat} (hp : p < 2) (hon : s.ptpOn p = true) (hport : s.fget (portStateFld p 0) = 6)
include hp hport

theorem ptpTransmit_unset (hmode : s.fget (F.TB_CTRL.MODE 0) = 2) (hgm : s.time.gm = none) : exec (.ptpTransmit p 0 .sync) s = .next s := by
  have hwf : Instr.wf (.ptpTransmit p 0 .sync) = true := by simp [Instr.wf, okHead, okBase, hp]
  show execPtpTransmit p 0 .sync s = _
  rw [execPtpTransmit, hwf]
  dsimp only
  rw [if_pos (by simp [ptpFromMaster, hport, hmode, hgm])]
  rfl

include hon

theorem exec_ptpTransmit_sync (hused : s.fget (F.TB_CTRL.PORTS 0) / 2 ^ p % 2 = 1) (hgm : s.fget (F.TB_CTRL.MODE 0) ≠ 2 ∨ s.time.gm.isSome = true) :
    exec (.ptpTransmit p 0 .sync) s = .next (s.sendEvent (s.ptpOut p 0 .sync)) := by
  have hwf : Instr.wf (.ptpTransmit p 0 .sync) = true := by simp [Instr.wf, okHead, okBase, hp]
  show execPtpTransmit p 0 .sync s = _
  rw [execPtpTransmit, hwf]
  dsimp only
  rw [if_neg]
  · rfl
  · have hmaster : (decide (s.fget (F.TB_CTRL.MODE 0) ≠ 2) || s.time.gm.isSome) = true := by simpa using hgm
    rw [hmaster]
    simp [ptpSupported, State.otherMechanism, ptpFromMaster, hon, hport, hused]

theorem ptpTransmit_sync (hused : s.fget (F.TB_CTRL.PORTS 0) / 2 ^ p % 2 = 1) (hgm : s.fget (F.TB_CTRL.MODE 0) ≠ 2 ∨ s.time.gm.isSome = true) :
    (s.bit (F.TB_CTRL.TWO_STEP 0) = false → ∃ t v, exec (.ptpTransmit p 0 .sync) s = .next t ∧
      t.out = s.out ++ [.ptp { s.ptpOut p 0 .sync with stamp := some v, oneStep := true }] ∧
      t = { s with out := t.out, counters := t.counters, free := s.free + 1 }) ∧
    (s.bit (F.TB_CTRL.TWO_STEP 0) = true → ∃ t v, exec (.ptpTransmit p 0 .sync) s = .next t ∧
      t.out = s.out ++ [.ptp { s.ptpOut p 0 .sync with stamp := some v },
                        .ptp { s.ptpOut p 0 .sync with stamp := some v, kind := .followUp }] ∧
      t = { s with out := t.out, counters := t.counters, free := s.free + 1 }) := by
  obtain ⟨v, hv, -⟩ := State.ptpStamp_near s 0
  have hexec := exec_ptpTransmit_sync hp hon hport hused hgm
  rw [State.sendEvent_eq (m := s.ptpOut p 0 .sync) hv rfl rfl] at hexec
  refine ⟨fun htwo => ?_, fun htwo => ?_⟩
  · have hno : ¬ s.bit (F.TB_CTRL.TWO_STEP (s.ptpOut p 0 .sync).base) = true := by
      show ¬ s.bit (F.TB_CTRL.TWO_STEP 0) = true
      rw [htwo]; exact Bool.false_ne_true
    rw [if_neg hno] at hexec
    exact ⟨_, v, hexec, (State.sendPtp_sends ..).count 4 12⟩
  · have hyes : s.bit (F.TB_CTRL.TWO_STEP (s.ptpOut p 0 .sync).base) = true := htwo
    rw [if_pos hyes] at hexec
    exact ⟨_, v, hexec, ((State.sendPtp_sends ..).trans (State.sendPtp_sends ..)).count 4 13⟩

end

/-! ## The Ethernet links (R195) -/

def linkFld (p : Nat) : Fld := if p = 0 then F.ETH_STATUS.LINK0 else F.ETH_STATUS.LINK1
def fecFld (p : Nat) : Fld := if p = 0 then F.ETH_STATUS.FEC_LOCK0 else F.ETH_STATUS.FEC_LOCK1

theorem linkFld_one (p : Nat) : (linkFld p).width = 1 ∧ (linkFld p).lo + (linkFld p).width ≤ 32 := by
  unfold linkFld; split <;> decide

theorem fecFld_one (p : Nat) : (fecFld p).width = 1 ∧ (fecFld p).lo + (fecFld p).width ≤ 32 := by
  unfold fecFld; split <;> decide

theorem ethFields_apart {p : Nat} (hp : p < 2) :
    (∀ f ∈ [fecFld p, portStateFld p 0, portStateFld p 1], Fld.apart f (linkFld p)) ∧
    (∀ f ∈ [portStateFld p 0, portStateFld p 1], Fld.apart f (fecFld p)) ∧
    (∀ g ∈ [F.ETH_CTRL.EN p, F.PTP_PORT_CTRL.EN p, F.TB_CTRL.PORTS 1], ∀ f ∈ [linkFld p, fecFld p], Fld.apart f g) := by
  rcases Nat.lt_succ_iff_lt_or_eq.mp hp with h | rfl
  · obtain rfl : p = 0 := by omega
    refine ⟨apart_of_test (by decide), apart_of_test (by decide), fun g hg => ?_⟩
    simp only [List.mem_cons, List.not_mem_nil, or_false] at hg
    rcases hg with rfl | rfl | rfl <;> exact apart_of_test (by decide)
  · refine ⟨apart_of_test (by decide), apart_of_test (by decide), fun g hg => ?_⟩
    simp only [List.mem_cons, List.not_mem_nil, or_false] at hg
    rcases hg with rfl | rfl | rfl <;> exact apart_of_test (by decide)

theorem State.bit_fset_one {s : State} (w : wordsWf 0 s.regs = true) {f : Fld} (hf : f.width = 1 ∧ f.lo + f.width ≤ 32) (b : Bool) :
    (s.fset f (if b then 1 else 0)).bit f = b := by
  rw [State.bit, State.fget_fset_self _ _ _ hf.2 w, hf.1]
  cases b <;> rfl

theorem State.bit_of_fget {s t : State} {f : Fld} (h : t.fget f = s.fget f) : t.bit f = s.bit f := by rw [State.bit, State.bit, h]

theorem State.Shows.trans {s t u : State} {l : List Fld} (h : s.Shows t l) (k : t.Shows u l) : s.Shows u l := by
  obtain ⟨-, hframe, hkept⟩ := h
  obtain ⟨w, kframe, kkept⟩ := k
  exact ⟨w, by rw [kframe, hframe], fun f hf => (kkept f hf).trans (hkept f hf)⟩

theorem State.Shows.mono {s t : State} {l m : List Fld} (h : s.Shows t l) (hl : ∀ f ∈ l, f ∈ m) : s.Shows t m :=
  ⟨h.form, h.frame, fun g hg => h.kept g fun f hf => hg f (hl f hf)⟩

/-- A port's link and its FEC lock shown, and a link that is lost counted. -/
def State.showLink (s : State) (p : Nat) (on lock lost : Bool) : State :=
  let u := (s.fset (linkFld p) (if on then 1 else 0)).fset (fecFld p) (if lock then 1 else 0)
  if lost then u.count 15 (8 * p + 7) else u

theorem State.showLink_spec {s : State} (w : wordsWf 0 s.regs = true) {p : Nat} (hp : p < 2) (on lock lost : Bool) :
    s.Shows (s.showLink p on lock lost) [linkFld p, fecFld p] ∧ (s.showLink p on lock lost).bit (linkFld p) = on ∧
      (s.showLink p on lock lost).bit (fecFld p) = lock := by
  obtain ⟨hapart, -, -⟩ := ethFields_apart hp
  have wl := State.fset_wf s (linkFld p) (if on then 1 else 0) w
  have hregs : (s.showLink p on lock lost).regs = ((s.fset (linkFld p) (if on then 1 else 0)).fset (fecFld p) (if lock then 1 else 0)).regs := by
    unfold State.showLink; dsimp only; split <;> rfl
  have hset := ((State.Shows.refl w [linkFld p, fecFld p]).fset (by simp) (linkFld_one p).2 (if on then 1 else 0)).fset (f := fecFld p) (by simp)
    (fecFld_one p).2 (if lock then 1 else 0)
  refine ⟨(hset.count 15 (8 * p + 7)).ite hset, ?_, ?_⟩
  · rw [State.bit_of_fget (State.fget_of_regs hregs _), State.bit_of_fget (State.fget_fset_apart _ _ _ _ (fecFld_one p).2 wl (hapart _ (by simp)))]
    exact State.bit_fset_one w (linkFld_one p) on
  · rw [State.bit_of_fget (State.fget_of_regs hregs _)]
    exact State.bit_fset_one wl (fecFld_one p) lock

theorem State.portStates_spec {u : State} (w : wordsWf 0 u.regs = true) (p : Nat) :
    u.Shows (u.portStates p) [portStateFld p 0, portStateFld p 1] ∧
      (u.bit (F.ETH_CTRL.EN p) = true → u.bit (F.PTP_PORT_CTRL.EN p) = true → u.fget (F.TB_CTRL.PORTS 1) / 2 ^ p % 2 = 1 →
        (u.portStates p).fget (portStateFld p 1) = if u.bit (linkFld p) then 4 else 2) := by
  refine ⟨((State.Shows.refl w _).fset (by simp) (portStateFld_fits p 0) _).fset (by simp) (portStateFld_fits p 1) _, fun hen hptp hports => ?_⟩
  unfold State.portStates
  dsimp only
  rw [State.fget_fset_self _ _ _ (portStateFld_fits p 1) (State.fset_wf _ _ _ w), portStateFld_width, hen, hptp,
    if_neg (by simp [hports])]
  show (if !u.bit (linkFld p) then 2 else 4) % 2 ^ 4 = _
  cases u.bit (linkFld p) <;> rfl

theorem exec_ethernetLinkChange {s : State} {p : Nat} (hp : p < 2) (link fec : Bool) : exec (.ethernetLinkChange p link fec) s =
    .next ((s.showLink p (link && s.bit (F.ETH_CTRL.EN p) && decide (s.rung ≤ 2))
      (link && s.bit (F.ETH_CTRL.EN p) && decide (s.rung ≤ 2) && fec && s.bit (F.ETH_CTRL.FEC p)) (s.bit (linkFld p) && !link)).portStates p) := by
  have hwf : Instr.wf (.ethernetLinkChange p link fec) = true := decide_eq_true hp
  show execEthernetLinkChange p link fec s = _
  rw [execEthernetLinkChange, hwf]
  rfl

theorem ethernetLinkChange_spec {s : State} (w : wordsWf 0 s.regs = true) {p : Nat} (hp : p < 2) (link fec : Bool) :
    ∃ t, exec (.ethernetLinkChange p link fec) s = .next t ∧
      let lf := if p = 0 then F.ETH_STATUS.LINK0 else F.ETH_STATUS.LINK1
      let ff := if p = 0 then F.ETH_STATUS.FEC_LOCK0 else F.ETH_STATUS.FEC_LOCK1
      t.bit lf = (link && s.bit (F.ETH_CTRL.EN p) && decide (s.rung ≤ 2)) ∧ (t.bit ff = true → t.bit lf = true ∧ fec = true) ∧
      (s.bit (F.ETH_CTRL.EN p) = true → s.bit (F.PTP_PORT_CTRL.EN p) = true → s.fget (F.TB_CTRL.PORTS 1) / 2 ^ p % 2 = 1 →
        t.fget (portStateFld p 1) = if t.bit lf then 4 else 2) ∧
      t = { s with regs := t.regs, counters := t.counters } ∧ fieldsKept s t [lf, ff, portStateFld p 0, portStateFld p 1] := by
  obtain ⟨hshow, hlink, hfec⟩ := State.showLink_spec w hp (link && s.bit (F.ETH_CTRL.EN p) && decide (s.rung ≤ 2))
    (link && s.bit (F.ETH_CTRL.EN p) && decide (s.rung ≤ 2) && fec && s.bit (F.ETH_CTRL.FEC p)) (s.bit (linkFld p) && !link)
  refine ⟨_, exec_ethernetLinkChange hp link fec, ?_⟩
  generalize s.showLink p _ _ _ = u at hshow hlink hfec ⊢
  obtain ⟨hstates, hstate⟩ := State.portStates_spec hshow.form p
  generalize u.portStates p = t at hstates hstate ⊢
  obtain ⟨hl, hf, hset⟩ := ethFields_apart hp
  have htl : t.bit (linkFld p) = u.bit (linkFld p) := State.bit_of_fget (hstates.kept _ fun f hm => hl f (List.mem_cons_of_mem _ hm))
  have htf : t.bit (fecFld p) = u.bit (fecFld p) := State.bit_of_fget (hstates.kept _ hf)
  have hall := (hshow.mono (m := [linkFld p, fecFld p, portStateFld p 0, portStateFld p 1]) (by simp)).trans (hstates.mono (by simp))
  show t.bit (linkFld p) = _ ∧ (t.bit (fecFld p) = true → t.bit (linkFld p) = true ∧ fec = true) ∧
    (_ → _ → _ → t.fget (portStateFld p 1) = if t.bit (linkFld p) then 4 else 2) ∧ _ ∧ fieldsKept s t [linkFld p, fecFld p, _, _]
  rw [htl, htf, hlink, hfec]
  refine ⟨rfl, fun h => ?_, fun hen hptp hports => ?_, hall.frame, hall.kept⟩
  · simp only [Bool.and_eq_true] at h ⊢
    exact ⟨h.1.1, h.1.2⟩
  · rw [hlink] at hstate
    refine hstate ?_ ?_ ?_
    · rw [State.bit_of_fget (hshow.kept _ (hset _ (by simp)))]; exact hen
    · rw [State.bit_of_fget (hshow.kept _ (hset _ (by simp)))]; exact hptp
    · rw [hshow.kept _ (hset _ (by simp))]; exact hports

/-- Settles O40: a message is ignored and counted, leads to a port's state, or is stamped; a Sync leaves with its stamp; and a link's
change shows in the port's states. -/
theorem ptpPorts : Obligations.PtpPorts := by
  unfold Obligations.PtpPorts
  intro s p hwf hp
  have w := State.regsWf_of_allWf hwf
  refine ⟨fun hon => ⟨ptpMessage_malformed hp hon w, fun k dom tr h => ⟨_, ptpMessage_ignored hp hon h, rfl⟩,
    fun dom n hdom hgm => ptpMessage_announce hp hon hdom w hgm, fun k dom n hk hm hdom => ptpMessage_event hp hon hdom hk hm,
    fun hport hused => ⟨fun hgm => ptpTransmit_sync hp hon hport hused hgm, fun hmode hgm => ptpTransmit_unset hp hport hmode hgm⟩⟩,
    fun link fec => ethernetLinkChange_spec w hp link fec⟩

end Sys2Proof.Machine
end

section
/-!
PROOFS. Completions that wait for the partner (R204, R209): a completion is a report whatever queue it goes to, and so are those that end
together.
-/

namespace Sys2Proof.Machine

/-- Of the link, the queues and what is reserved in them changed. -/
def Link.Served (x y : Link) : Prop := y = { x with queues := y.queues, resv := y.resv, endResv := y.endResv, flrDiscard := y.flrDiscard }

theorem Link.Served.trans {x y z : Link} (h : Link.Served x y) (k : Link.Served y z) : Link.Served x z := by
  unfold Link.Served at *
  rw [k, h]

theorem State.unreserve_served (s : State) (src : Src) : Link.Served s.link (s.unreserve src).link := by
  have hfold : ∀ l : List (Src × Nat), Link.Served s.link (l.foldl (fun s p => s.modQueue p.2 (fun q => { q with reserved := q.reserved - 1 })) s).link :=
    fun l => List.foldlRecOn (motive := fun t : State => Link.Served s.link t.link) _ _ rfl fun t ht p _ => ht.trans rfl
  unfold State.unreserve
  dsimp only
  split <;> exact (hfold _).trans rfl

/-- A completion is a report, whether its queue takes it or not. -/
theorem State.Reported.complete {s t : State} {l : List Fld} (h : s.Reported t l) (op : Nat) (src : Src) (detail : Nat) (result : List Byte) :
    s.Reported (t.complete op src .done 0 detail result) l := by
  have hlink : Link.Served t.link (t.complete op src .done 0 detail result).link := by
    have hu := t.unreserve_served src
    unfold State.complete
    simp only [reduceCtorEq, or_self, if_false]
    split
    · exact hu.trans rfl
    · split
      · exact hu.trans rfl
      · exact hu
  refine h.trans ⟨by rw [State.complete_done_regs]; exact h.form, reports_of_wipe (State.complete_wipe ..) (State.complete_done_regs ..) ?_ _⟩
  generalize (t.complete op src .done 0 detail result).link = x at hlink
  rw [show x = _ from hlink]

/-- The machine with some completions no longer waiting for the partner. -/
def State.unwait (s : State) (p : Wait → Bool) : State := { s with pair := { s.pair with waits := s.pair.waits.filter (fun w => !p w) } }

theorem State.finishWaits_eq (s : State) (p : Wait → Bool) : s.finishWaits p = (s.pair.waits.filter p).foldl
    (fun s w => s.complete w.op w.src .done 0 w.detail w.result)
    (if (s.pair.waits.filter p).any (fun w => decide (w.op = 0x12)) then (s.unwait p).fset F.MAP_STATUS.COMMIT_BUSY 0 else s.unwait p) := rfl

/-- What waits for an acknowledgement and completes changes the list of those that wait, and reports. -/
theorem State.finishWaits_reported {s : State} (w : wordsWf 0 s.regs = true) (p : Wait → Bool) :
    (s.unwait p).Reported (s.finishWaits p) [F.MAP_STATUS.COMMIT_BUSY] := by
  have wu : wordsWf 0 (s.unwait p).regs = true := w
  rw [State.finishWaits_eq]
  refine State.Reported.foldl ?_ fun u hu i _ => (State.Reported.refl hu _).complete ..
  exact ((State.Reported.refl wu _).fset (by simp) (by decide) 0).ite (State.Reported.refl wu _)

theorem State.finishWaits_waits {s : State} (w : wordsWf 0 s.regs = true) (p : Wait → Bool) :
    (s.finishWaits p).pair.waits = s.pair.waits.filter (fun w => !p w) := by
  have h := (State.finishWaits_reported w p).reports.2.2.1
  generalize (s.finishWaits p).pair = x at h ⊢
  rw [h]
  rfl

end Sys2Proof.Machine
end

section
/-!
PROOFS. The pair's journal (R204–R206): messages in turn, early and again, messages sent again, repairs and their time-out, and the
statement.
-/

namespace Sys2Proof.Machine

/-! ## A message received (R204, R205) -/

section
variable {s : State} (hr : s.rung ≤ 2) (hf : s.follows = true) (hsnap : s.pair.snapshot = false) {seq : Nat} {it : JItem}
include hr hf hsnap

/-- A message in its turn takes effect. -/
theorem exec_journal_turn (hearly : s.pair.early = []) (hseq : seq = (s.pair.applied + 1) % 2 ^ 32) :
    exec (.journal seq it) s = .next ((s.takeItem it).appliedUpTo seq) := by
  show execJournal seq it s = _
  rw [execJournal, if_pos hr, takeJournal, if_neg (by simp [hf]), if_neg (by simp [hsnap]), if_pos hseq, hearly]
  rfl

/-- A message out of turn has been applied, or waits. -/
theorem exec_journal_early (hseq : seq ≠ (s.pair.applied + 1) % 2 ^ 32) : exec (.journal seq it) s = .next (
    if seqLe seq s.pair.applied then s
    else { s with pair := { s.pair with early := s.pair.early.filter (fun m => decide (m.1 ≠ seq)) ++ [(seq, it)] } }) := by
  show execJournal seq it s = _
  rw [execJournal, if_pos hr, takeJournal, if_neg (by simp [hf]), if_neg (by simp [hsnap]), if_neg hseq]

end

theorem State.appliedUpTo_spec (s : State) (n : Nat) : (∀ m ∈ (s.appliedUpTo n).pair.owed, seqLe m.1 n = false) ∧
    s.appliedUpTo n =
      { s with counters := (s.appliedUpTo n).counters, pair := { s.pair with applied := n, owed := (s.appliedUpTo n).pair.owed } } :=
  ⟨fun m hm => by simpa using (List.mem_filter.mp hm).2, rfl⟩

/-- A setting received, none waiting before it. -/
theorem State.takeItem_setting {s : State} (hdue : s.pair.due = []) (off : Nat) (v : Word) :
    s.takeItem (.setting off v) = (s.brought (.setting off v)).takeSetting off v := by
  show (s.brought (.setting off v)).queueSetting (.setting off v) = _
  have hno : ¬ (false || decide ((s.brought (.setting off v)).pair.due ≠ [])) = true := by
    show ¬ (false || decide (s.pair.due ≠ [])) = true
    simp [hdue]
  exact if_neg hno

theorem State.takeSetting_word {s : State} {off : Nat} {v : Word} (hm : mirrored off = true) (hx : isAxisFlags off = false)
    (hbits : 0x400000 ≤ off → off < 0x490000 →
      (off % 0x10000 = 0x10 → v.toNat / 4 % 2 = 0) ∧ (off % 0x10000 = 0x14 → v.toNat / 2 ^ 14 % 2 = 0)) :
    s.takeSetting off v = s.setWord off v := by
  rw [State.takeSetting, if_neg (by simp [hm, hx])]
  dsimp only
  rw [if_neg, if_neg]
  · simp only [Bool.and_eq_true, decide_eq_true_eq]
    rintro ⟨⟨⟨hlo, hhi⟩, ho⟩, hb⟩
    have := (hbits hlo hhi).2 ho
    omega
  · simp only [Bool.and_eq_true, decide_eq_true_eq]
    rintro ⟨⟨⟨hlo, hhi⟩, ho⟩, hb⟩
    have := (hbits hlo hhi).1 ho
    omega

theorem State.takeSetting_clear {s : State} {r : Nat} {v : Word} (hr : r < 8) (hm : mirrored (0x400010 + r * 0x10000) = true)
    (hb : v.toNat / 4 % 2 = 1) : s.takeSetting (0x400010 + r * 0x10000) v = s.pendClear r := by
  have hx : isAxisFlags (0x400010 + r * 0x10000) = false := by
    have hlow : (0x400010 + r * 0x10000) % 0x10000 = 0x10 := by omega
    rw [isAxisFlags, hlow]
    simp
  rw [State.takeSetting, if_neg (by simp [hm, hx])]
  dsimp only
  rw [if_pos, show (0x400010 + r * 0x10000 - 0x400000) / 0x10000 = r by omega]
  simp only [Bool.and_eq_true, decide_eq_true_eq]
  omega

theorem State.mem_pendClear (s : State) {r : Nat} (hr : r < 8) : r ∈ (s.pendClear r).steer.clearPend := by
  have h8 : r ≠ 8 := by omega
  have hlow : ¬ 8 ≤ r := by omega
  by_cases h : r ∈ s.steer.clearPend <;> simp [State.pendClear, h8, hlow, h]

theorem State.repWf_of_allWf {s : State} (h : s.allWf = true) : spWf 0 0 s.steer.rep = true := by
  simp only [State.allWf, State.controlWf, Bool.and_eq_true] at h
  tauto

section
variable {s : State} (hwf : s.allWf = true) (hr : s.rung ≤ 2) (hf : s.follows = true) (hsnap : s.pair.snapshot = false) {seq : Nat} (it : JItem)
include hwf hr hf hsnap

theorem journal_turn (hearly : s.pair.early = []) (hseq : seq = (s.pair.applied + 1) % 2 ^ 32) :
    (∃ t, exec (.journal seq it) s = .next t ∧ (∀ m ∈ t.pair.owed, seqLe m.1 seq = false) ∧
      t = { s.takeItem it with counters := t.counters, pair := { (s.takeItem it).pair with applied := seq, owed := t.pair.owed } }) ∧
    (∀ i e, it = .mapEntry i e → ∃ t, exec (.journal seq it) s = .next t ∧ spGet 0 t.map.work i = e ∧
      (∀ j, j ≠ i → spGet 0 t.map.work j = spGet 0 s.map.work j) ∧ i ∈ t.map.dirty ∧ t.steer = s.steer ∧ t.lock = s.lock) ∧
    (∀ off v, it = .setting off v → mirrored off = true → isAxisFlags off = false → s.pair.due = [] →
      (0x400000 ≤ off → off < 0x490000 →
        (off % 0x10000 = 0x10 → v.toNat / 4 % 2 = 0) ∧ (off % 0x10000 = 0x14 → v.toNat / 2 ^ 14 % 2 = 0)) →
      ∃ t, exec (.journal seq it) s = .next t ∧ t.word off = v ∧ wordsKept s t [off]) ∧
    (∀ r v, it = .setting (0x400010 + r * 0x10000) v → r < 8 → v.toNat / 4 % 2 = 1 → mirrored (0x400010 + r * 0x10000) = true →
      s.pair.due = [] →
      ∃ t, exec (.journal seq it) s = .next t ∧ r ∈ t.steer.clearPend ∧ t.regs = s.regs) ∧
    (∀ off v, it = .reloaded off v → ∃ t, exec (.journal seq it) s = .next t ∧ t.pair.due = s.pair.due ++ [it] ∧ t.regs = s.regs ∧
      t.steer = s.steer) ∧
    (∀ a k v, it = .rep a k v → ∃ t, exec (.journal seq it) s = .next t ∧ spGet 0 t.steer.rep (2048 * a + k) = v ∧
      (∀ j, j ≠ 2048 * a + k → spGet 0 t.steer.rep j = spGet 0 s.steer.rep j) ∧ t.steer.axes = s.steer.axes) := by
  have hexec := exec_journal_turn hr hf hsnap (it := it) hearly hseq
  obtain ⟨howed, hframe⟩ := (s.takeItem it).appliedUpTo_spec seq
  refine ⟨⟨_, hexec, howed, hframe⟩, ?_, ?_, ?_, ?_, ?_⟩
  · rintro i e rfl
    refine ⟨_, hexec, spGet_spSet_self 0 s.map.work i e 0 (State.mapWf_of_allWf hwf), fun j hj => spGet_spSet_ne 0 s.map.work i j e hj, ?_, rfl, rfl⟩
    show i ∈ if s.map.dirty.contains i then s.map.dirty else s.map.dirty ++ [i]
    split
    · next h => exact List.contains_iff_mem.mp h
    · simp
  · rintro off v rfl hm hx hdue hbits
    have hreg : ((s.takeItem (.setting off v)).appliedUpTo seq).regs = (s.setWord off v).regs := by
      rw [State.takeItem_setting hdue, State.takeSetting_word hm hx hbits]
      rfl
    have hsame : ∀ x, ((s.takeItem (.setting off v)).appliedUpTo seq).word x = (s.setWord off v).word x := fun x => by
      rw [State.word, State.word, hreg]
    exact ⟨_, hexec, (hsame off).trans (State.word_setWord_self s off v (State.regsWf_of_allWf hwf)),
      fun x hx' => (hsame x).trans (State.word_setWord_ne s off x v (by simpa using hx'))⟩
  · rintro r v rfl hr8 hb hm hdue
    refine ⟨_, hexec, ?_, ?_⟩
    · show r ∈ (s.takeItem (.setting (0x400010 + r * 0x10000) v)).steer.clearPend
      rw [State.takeItem_setting hdue, State.takeSetting_clear hr8 hm hb]
      exact State.mem_pendClear _ hr8
    · show (s.takeItem (.setting (0x400010 + r * 0x10000) v)).regs = s.regs
      rw [State.takeItem_setting hdue, State.takeSetting_clear hr8 hm hb]
      rfl
  · rintro off v rfl
    exact ⟨_, hexec, rfl, rfl, rfl⟩
  · rintro a k v rfl
    refine ⟨_, hexec, ?_, ?_, rfl⟩
    · exact spGet_spSet_self 0 s.steer.rep _ v 0 (State.repWf_of_allWf hwf)
    · exact fun j hj => spGet_spSet_ne 0 s.steer.rep _ j v hj

end

/-! ## Messages sent (R204, R206) -/

theorem State.active_of_regs {s t : State} (h : t.regs = s.regs) : t.active = s.active := by
  rw [State.active, State.active, State.fget_of_regs h]

/-- The active module, its partner attached, puts an item at the end of its journal. -/
theorem State.sendJournal_last {s : State} (hact : s.active = true) (hatt : s.attached = true) (it : JItem) :
    (s.sendJournal it).pair.journal.getLast?.map (fun m => m.item) = some it := by
  rw [State.sendJournal, if_pos (by simp [hact, hatt])]
  show (s.pair.journal ++ [_]).getLast?.map _ = _
  rw [List.getLast?_concat]
  rfl

/-- A journal of items ends in the last of them. -/
theorem State.sendJournals_last {s : State} (hact : s.active = true) (hatt : s.attached = true) (l : List JItem) (it : JItem) :
    (((l.foldl State.sendJournal s).sendJournal it).pair.journal.getLast?).map (fun m => m.item) = some it := by
  obtain ⟨hregs, hold⟩ : (l.foldl State.sendJournal s).regs = s.regs ∧ (l.foldl State.sendJournal s).pair.enOld = s.pair.enOld :=
    List.foldlRecOn (motive := fun t : State => t.regs = s.regs ∧ t.pair.enOld = s.pair.enOld) l _ ⟨rfl, rfl⟩ fun t ht x _ =>
      ⟨(State.sendJournal_regs t x).trans ht.1, (State.sendJournal_enOld t x).trans ht.2⟩
  exact State.sendJournal_last ((State.active_of_regs hregs).trans hact) ((State.attached_congr (State.fget_of_regs hregs _) (State.fget_of_regs hregs _) hold).trans hatt) it

theorem State.Reported.sendJournals {s t : State} {l : List Fld} (h : s.Reported t l) (items : List JItem) :
    s.Reported (items.foldl State.sendJournal t) l :=
  h.foldl fun _ w it _ => (State.Reported.refl w _).sendJournal it

theorem State.Reported.answerRepair {s t : State} {l : List Fld} (h : s.Reported t l) (seq mask : Nat) : s.Reported (t.answerRepair seq mask) l :=
  (h.sendJournals _).sendJournal _

/-- Messages leave one after another, each with what the state at the start says of the sender. -/
theorem State.foldl_emit {α : Type} (f : State → α → Sent) (l : List α) (s : State)
    (hf : ∀ (o : List Sent) (a : α), f { s with out := o } a = f s a) :
    l.foldl (fun s a => s.emit (f s a)) s = { s with out := s.out ++ l.map (f s) } := by
  suffices h : ∀ o, l.foldl (fun s a => s.emit (f s a)) { s with out := o } = { s with out := o ++ l.map (f s) } from h s.out
  induction l with
  | nil => intro o; simp
  | cons a l ih =>
    intro o
    rw [List.foldl_cons, hf]
    show List.foldl _ { s with out := o ++ [f s a] } l = _
    rw [ih, List.map_cons, List.append_assoc]
    rfl

/-- A message of the journal not acknowledged within 8 ticks. -/
def State.lateMsg (s : State) (m : JMsg) : Bool := decide (8 ≤ (s.steer.tick + 2 ^ 32 - m.sentTick) % 2 ^ 32)

/-- The module with its late messages sent again. -/
def State.resent (s : State) : State :=
  { s with
    pair := { s.pair with journal := s.pair.journal.map (fun m => if s.lateMsg m then { m with sentTick := s.steer.tick } else m) }
    out := s.out ++ (s.pair.journal.filter s.lateMsg).map (fun m =>
      .journal { s.frameHead with tTx := s.time.tb2.ns } { m with sentTick := s.steer.tick }) }

section
variable {s : State} (hact : s.active = true) (hatt : s.attached = true)
include hact hatt

theorem exec_journalResend : exec .journalResend s = .next (
    if s.pair.waits.any (fun w => decide (8 < (s.steer.tick + 2 ^ 32 - w.tick) % 2 ^ 32))
    then (s.resent.fset F.PAIR_STATUS.PARTNER 4).finishWaits (fun _ => true) else s.resent) := by
  have hemit := State.foldl_emit (fun (u : State) (m : JMsg) =>
      Sent.journal { u.frameHead with tTx := u.time.tb2.ns } { m with sentTick := u.steer.tick }) (s.pair.journal.filter s.lateMsg)
    { s with pair := { s.pair with journal := s.pair.journal.map (fun m => if s.lateMsg m then { m with sentTick := s.steer.tick } else m) } }
    (fun o a => rfl)
  show execJournalResend s = _
  rw [execJournalResend, if_pos (by simp [hact, hatt])]
  exact congrArg (fun u : State => Host.Outcome.next (
    if u.pair.waits.any (fun w => decide (8 < (u.steer.tick + 2 ^ 32 - w.tick) % 2 ^ 32))
    then (u.fset F.PAIR_STATUS.PARTNER 4).finishWaits (fun _ => true) else u)) hemit

theorem journalResend_kept (hsoon : ∀ w ∈ s.pair.waits, (s.steer.tick + 2 ^ 32 - w.tick) % 2 ^ 32 ≤ 8) : exec .journalResend s = .next s.resent := by
  rw [exec_journalResend hact hatt, if_neg]
  simp only [List.any_eq_true, decide_eq_true_eq, not_exists, not_and, Nat.not_lt]
  exact hsoon

theorem journalResend_gone (w : wordsWf 0 s.regs = true) (hlate : ∃ w ∈ s.pair.waits, 8 < (s.steer.tick + 2 ^ 32 - w.tick) % 2 ^ 32) :
    ∃ t, exec .journalResend s = .next t ∧ t.fget F.PAIR_STATUS.PARTNER = 4 ∧ t.pair.waits = [] ∧ t.steer = s.steer ∧ t.mem = s.mem := by
  have hexec : exec .journalResend s = .next ((s.resent.fset F.PAIR_STATUS.PARTNER 4).finishWaits (fun _ => true)) := by
    rw [exec_journalResend hact hatt, if_pos]
    simpa only [List.any_eq_true, decide_eq_true_eq] using hlate
  have wr : wordsWf 0 s.resent.regs = true := w
  have wset := State.fset_wf s.resent F.PAIR_STATUS.PARTNER 4 wr
  have hself : (s.resent.fset F.PAIR_STATUS.PARTNER 4).fget F.PAIR_STATUS.PARTNER = 4 := State.fget_fset_self _ _ _ (by decide) wr
  have hst : (s.resent.fset F.PAIR_STATUS.PARTNER 4).steer = s.steer := rfl
  have hme : (s.resent.fset F.PAIR_STATUS.PARTNER 4).mem = s.mem := rfl
  refine ⟨_, hexec, ?_⟩
  generalize s.resent.fset F.PAIR_STATUS.PARTNER 4 = u at wset hself hst hme ⊢
  have hfin := State.finishWaits_reported wset (fun _ => true)
  have hwaits := State.finishWaits_waits wset (fun _ => true)
  generalize u.finishWaits (fun _ => true) = t at hfin hwaits ⊢
  refine ⟨?_, ?_, hfin.steer.trans hst, hfin.mem.trans hme⟩
  · rw [hfin.fget (apart_of_test (by decide))]
    exact (State.fget_of_regs (s := u) (by rfl) _).trans hself
  · rw [hwaits]
    simp

end

theorem repairRequest_spec {s : State} (w : wordsWf 0 s.regs = true) {seq mask : Nat} (hseq : seq < 2 ^ 32) (h0 : 0 < mask) (h256 : mask < 256) :
    (s.standby = true → s.pair.gap = none → ∃ t, exec (.repairRequest seq mask) s = .next t ∧
      t = { s with pair := { s.pair with gap := some (seq, mask, s.steer.tick) } }) ∧
    (s.active = true → s.attached = true → ∃ t, exec (.repairRequest seq mask) s = .next t ∧
      t.pair.journal.getLast?.map (fun m => m.item) = some (.repaired seq mask) ∧ reports s t []) := by
  have hexec : exec (.repairRequest seq mask) s = execRepairRequest seq mask s := rfl
  have hm : mask % 256 = mask := Nat.mod_eq_of_lt h256
  have hs : seq % 2 ^ 32 = seq := Nat.mod_eq_of_lt hseq
  have hne : mask ≠ 0 := by omega
  rw [hexec, execRepairRequest, hm, hs]
  refine ⟨fun hst hgap => ⟨_, ?_, rfl⟩, fun hact hatt => ?_⟩
  · have hno : s.active = false := by
      rw [State.active, of_decide_eq_true hst]
      rfl
    rw [if_neg (by simp [hno]), if_pos (by simp [hst, hgap, hne])]
  · rw [if_pos hact, if_neg hne]
    exact ⟨_, rfl, State.sendJournals_last hact hatt _ _, ((State.Reported.refl w []).answerRepair seq mask).reports⟩

/-- Settles O43: a message in turn takes effect as its item says, one out of turn waits or is nothing new, and what the module sends again
or gives up follows the ticks that have passed. -/
theorem pairJournal : Obligations.PairJournal := by
  unfold Obligations.PairJournal
  refine ⟨fun s seq it hwf hr hf hsnap => ⟨fun hearly hseq => journal_turn hwf hr hf hsnap it hearly hseq, fun hseq => ?_⟩,
    fun s hwf hact hatt => ⟨fun hsoon => ⟨_, journalResend_kept hact hatt hsoon, rfl⟩,
      fun hlate => journalResend_gone hact hatt (State.regsWf_of_allWf hwf) hlate⟩,
    fun s hwf hst howes => ?_, fun s seq mask hwf hseq h0 h256 => repairRequest_spec (State.regsWf_of_allWf hwf) hseq h0 h256,
    fun s q m t0 hwf hst hgap h8 => ?_⟩
  · have hexec := exec_journal_early hr hf hsnap (it := it) hseq
    refine ⟨fun hle => ⟨s, by rw [hexec, if_pos hle], rfl⟩, fun hle => ⟨_, ?_, rfl⟩⟩
    rw [hexec, if_neg (by simp [hle])]
  · have hstate : s.fget F.PAIR_STATUS.STATE = 2 := of_decide_eq_true hst
    have hset := State.becomeIneligible_set (State.regsWf_of_allWf hwf) (by rw [hstate]; decide) (r := 6) (by decide)
    refine ⟨_, ?_, hset.state, hset.reason, hset.reported.reports⟩
    have hno : s.active = false := by rw [State.active, hstate]; rfl
    show execJournalResend s = _
    rw [execJournalResend, if_neg (by simp [hno]), if_pos (by simp [hst, howes])]
  · have hstate : ({ s with pair := { s.pair with gap := none } } : State).fget F.PAIR_STATUS.STATE = 2 := of_decide_eq_true hst
    have hset := State.becomeIneligible_set (s := { s with pair := { s.pair with gap := none } }) (State.regsWf_of_allWf hwf)
      (by rw [hstate]; decide) (r := 6) (by decide)
    refine ⟨_, ?_, hset.state, hset.reason, hset.reported.reports⟩
    show execRepairTimeout s = _
    rw [execRepairTimeout, hgap]
    exact congrArg Host.Outcome.next (if_pos ⟨hst, h8⟩)

end Sys2Proof.Machine
end

section
/-!
PROOFS. Heartbeats of the pair (R199–R203, R206, R209): copy and RETURN frames, a heartbeat missed and three in a row, and the statement.
-/

namespace Sys2Proof.Machine

/-! ## What a frame says of the partner (R199, R200) -/

/-- What the pair notes of a frame's header. -/
def Pair.heard (x : Pair) (f : FrameHeader) (at_ : Nat) : Pair := { x with partnerHash := f.imageHash, partnerFw := f.fw, rxAt := at_, rxSeq := f.seq }

theorem State.takeHeader_eq (s : State) (f : FrameHeader) (at_ : Nat) :
    s.takeHeader f at_ = { s.fset F.PAIR_STATUS.PARTNER f.state with pair := s.pair.heard f at_ } := rfl

section
variable {s : State} (w : wordsWf 0 s.regs = true) (f : FrameHeader) (at_ : Nat)
include w

theorem State.takeHeader_spec (hst : f.state < 8) : wordsWf 0 (s.takeHeader f at_).regs = true ∧
    (s.takeHeader f at_).fget F.PAIR_STATUS.PARTNER = f.state ∧ fieldsKept s (s.takeHeader f at_) [F.PAIR_STATUS.PARTNER] ∧
    s.takeHeader f at_ = { s with regs := (s.takeHeader f at_).regs, pair := s.pair.heard f at_ } := by
  have hw := (State.Writes.refl w [F.PAIR_STATUS.PARTNER]).fset (f := F.PAIR_STATUS.PARTNER) (by simp) (by decide) f.state
  have hself := State.fget_fset_self s F.PAIR_STATUS.PARTNER f.state (by decide) w
  have hregs : (s.takeHeader f at_).regs = (s.fset F.PAIR_STATUS.PARTNER f.state).regs := rfl
  refine ⟨hw.form, ?_, fun g hg => (State.fget_of_regs hregs g).trans (hw.kept g hg), rfl⟩
  rw [State.fget_of_regs hregs, hself]
  exact Nat.mod_eq_of_lt hst

end

/-! ## A copy frame (R199, R201, R203, R204) -/

theorem State.noteOwed_spec (s : State) (n : Nat) : ∃ o, s.noteOwed n = { s with pair := { s.pair with owed := o } } ∧
    (s.standby = true → seqLe n s.pair.applied = false → ∃ k, (n, k) ∈ o) := by
  unfold State.noteOwed
  split
  · exact ⟨_, rfl, fun _ _ => ⟨s.steer.tick, by simp⟩⟩
  · next h =>
    refine ⟨s.pair.owed, rfl, fun hst hle => ?_⟩
    have hany : s.pair.owed.any (fun m => decide (m.1 = n)) = true := by simpa [hst, hle] using h
    obtain ⟨m, hm, he⟩ := List.any_eq_true.mp hany
    exact ⟨m.2, by rw [← of_decide_eq_true he]; exact hm⟩

theorem State.followRung_same {s : State} (h : s.rung ≤ 2) : s.followRung s.rung = s := by
  rw [State.followRung, if_neg (by omega), if_neg (by simp)]

/-- What the pair notes where the module takes an offered handover: it claims. -/
def Pair.offered (x : Pair) : Pair :=
  { x with claiming := true, takeover := true, planned := true, grantA := false, grantB := false, continueDue := true }

theorem State.follows_state {s : State} (h : s.follows = true) (h1 : s.fget F.PAIR_STATUS.STATE ≠ 1) :
    s.fget F.PAIR_STATUS.STATE = 2 ∨ s.fget F.PAIR_STATUS.STATE = 4 := by
  have hm := List.contains_iff_mem.mp h
  simp only [List.mem_cons, List.not_mem_nil, or_false] at hm
  omega

/-- A handover that is offered is claimed, but while RESYNCING. -/
theorem State.takeOffer_spec {s : State} (hfol : s.follows = true) (req : Bool) : ∃ x c, s.takeOffer req = { s with pair := x, counters := c } ∧
    (x = s.pair ∧ (req = true → s.fget F.PAIR_STATUS.STATE = 1) ∨ x = s.pair.offered ∧ req = true) := by
  unfold State.takeOffer
  split
  · next h => exact ⟨s.pair.offered, _, rfl, .inr ⟨rfl, (Bool.and_eq_true_iff.mp h).1⟩⟩
  · next h =>
    refine ⟨s.pair, s.counters, rfl, .inl ⟨rfl, fun hreq => ?_⟩⟩
    by_contra h1
    refine h ?_
    rcases State.follows_state hfol h1 with he | he <;> simp [hreq, he]

theorem State.tb2Sample_spec (s : State) (o : Int) : s.tb2Sample o = { s with time := { s.time with tb2 := (s.tb2Sample o).time.tb2 } } ∧
    (s.tb2Sample o).time.tb2.offset = o ∧ (s.standby = false → (s.tb2Sample o).time.tb2.rate = s.time.tb2.rate) := by
  refine ⟨rfl, ?_, fun h => ?_⟩
  · unfold State.tb2Sample
    dsimp only
    split <;> rfl
  · rw [State.tb2Sample]
    dsimp only
    rw [h, Bool.false_and, if_neg Bool.false_ne_true]

/-- What the pair notes of a copy frame that is the heartbeat of its tick. -/
def Pair.copied (x : Pair) (f : CopyFrame) (at_ : Nat) (tick : Option Nat) : Pair :=
  { x.heard f.toFrameHeader at_ with beat := true, copy := some f, tickAt := tick }

/-- v is s after a copy frame that is the heartbeat of its tick, before what the frame asks of the module. -/
structure State.Copied (s v : State) (f : CopyFrame) (at_ : Nat) : Prop where
  form : wordsWf 0 v.regs = true
  partner : v.fget F.PAIR_STATUS.PARTNER = f.state
  missed : v.fget F.PAIR_STATUS.MISSED = 0
  kept : fieldsKept s v [F.PAIR_STATUS.PARTNER, F.PAIR_STATUS.MISSED]
  offset : v.time.tb2.offset = s.twoWay f.toFrameHeader at_
  rate : s.standby = false → v.time.tb2.rate = s.time.tb2.rate
  pair : ∃ k, v.pair = s.pair.copied f at_ k
  follows : v.follows = true
  frame : v = { s with regs := v.regs, time := { s.time with tb2 := v.time.tb2 }, pair := v.pair }

/-- The copy held for the next tick boundary. -/
def State.holdCopy (s : State) (f : CopyFrame) : State :=
  { s with pair := { s.pair with copy := some f, tickAt := some (s.activeTick f.toFrameHeader) } }

section
variable {s : State} (w : wordsWf 0 s.regs = true) {f : CopyFrame} {since : Nat} (hok : f.ok = true) (hact : s.active = false)
  (hst : f.state < 8) (hrung : s.rung ≤ 2)
include w hok hact hst hrung

theorem copyFrame_other (htick : s.ofTick f.seq = false) : ∃ t, exec (.copyFrame f since) s = .next t ∧ t.fget F.PAIR_STATUS.PARTNER = f.state ∧
    t = { s with regs := t.regs, pair := s.pair.heard f.toFrameHeader (s.time.tb2.ns - 2 * since) } ∧ fieldsKept s t [F.PAIR_STATUS.PARTNER] := by
  obtain ⟨-, hpart, hkept, hframe⟩ := State.takeHeader_spec w f.toFrameHeader (s.time.tb2.ns - 2 * since) hst
  refine ⟨_, ?_, hpart, hframe, hkept⟩
  show execCopyFrame f since s = _
  rw [execCopyFrame, if_neg (by simp [hok, hact]; omega)]
  dsimp only
  rw [htick]
  rfl

theorem exec_copyFrame (htick : s.ofTick f.seq = true) (hfol : s.follows = true) :
    ∃ v, s.Copied v f (s.time.tb2.ns - 2 * since) ∧
      exec (.copyFrame f since) s = .next (((v.noteOwed f.journalSeq).followRung f.rung).takeOffer f.handoverReq) := by
  obtain ⟨wu, hpart, hkept, hframe⟩ := State.takeHeader_spec w f.toFrameHeader (s.time.tb2.ns - 2 * since) hst
  have hexec : exec (.copyFrame f since) s = .next (
      let v := ((s.takeHeader f.toFrameHeader (s.time.tb2.ns - 2 * since)).heartbeat).tb2Sample (s.twoWay f.toFrameHeader (s.time.tb2.ns - 2 * since))
      if v.follows then
        (((v.holdCopy f).noteOwed f.journalSeq).followRung f.rung).takeOffer f.handoverReq
      else v) := by
    show execCopyFrame f since s = _
    rw [execCopyFrame, if_neg (by simp [hok, hact]; omega)]
    dsimp only
    rw [htick]
    rfl
  have hpair : (s.takeHeader f.toFrameHeader (s.time.tb2.ns - 2 * since)).pair = s.pair.heard f.toFrameHeader (s.time.tb2.ns - 2 * since) := rfl
  generalize s.takeHeader f.toFrameHeader (s.time.tb2.ns - 2 * since) = u at *
  have hset := (State.Writes.refl wu [F.PAIR_STATUS.MISSED]).fset (f := F.PAIR_STATUS.MISSED) (by simp) (by decide) 0
  have hself := State.fget_fset_self u F.PAIR_STATUS.MISSED 0 (by decide) wu
  have hregs : u.heartbeat.regs = (u.fset F.PAIR_STATUS.MISSED 0).regs := rfl
  have hbeat : u.heartbeat = { u with regs := u.heartbeat.regs, pair := { u.pair with beat := true } } := rfl
  have hfld : fieldsKept s u.heartbeat [F.PAIR_STATUS.PARTNER, F.PAIR_STATUS.MISSED] := fun g hg =>
    (State.fget_of_regs hregs g).trans ((hset.kept g fun x hx => hg x (List.mem_cons_of_mem _ hx)).trans
      (hkept g fun x hx => hg x (List.mem_cons.mpr (.inl (List.mem_singleton.mp hx)))))
  have hpart' : u.heartbeat.fget F.PAIR_STATUS.PARTNER = f.state :=
    (State.fget_of_regs hregs _).trans ((hset.kept _ (apart_of_test (by decide))).trans hpart)
  have hmiss : u.heartbeat.fget F.PAIR_STATUS.MISSED = 0 := (State.fget_of_regs hregs _).trans hself
  have wb : wordsWf 0 u.heartbeat.regs = true := hset.form
  generalize u.heartbeat = b at *
  obtain ⟨htb, hoff, hrate⟩ := b.tb2Sample_spec (s.twoWay f.toFrameHeader (s.time.tb2.ns - 2 * since))
  generalize b.tb2Sample (s.twoWay f.toFrameHeader (s.time.tb2.ns - 2 * since)) = v at *
  have hvregs : v.regs = b.regs := by rw [htb]
  have hstate : v.fget F.PAIR_STATUS.STATE = s.fget F.PAIR_STATUS.STATE :=
    (State.fget_of_regs hvregs _).trans (hfld _ (apart_of_test (by decide)))
  have hvfol : v.follows = true := by rw [State.follows, hstate]; exact hfol
  dsimp only at hexec
  rw [if_pos hvfol] at hexec
  have hbtime : b.time = s.time := by rw [hbeat, hframe]
  have hbst : b.standby = s.standby := by rw [State.standby, State.standby, hfld _ (apart_of_test (by decide))]
  refine ⟨v.holdCopy f, ⟨?_, ?_, ?_, ?_, hoff, fun h => ?_, ⟨some (v.activeTick f.toFrameHeader), ?_⟩, hvfol, ?_⟩, hexec⟩
  · show wordsWf 0 v.regs = true
    rw [hvregs]; exact wb
  · exact (State.fget_of_regs (s := b) hvregs _).trans hpart'
  · exact (State.fget_of_regs (s := b) hvregs _).trans hmiss
  · exact fun g hg => (State.fget_of_regs (s := b) hvregs _).trans (hfld g hg)
  · exact (hrate (hbst.trans h)).trans (by rw [hbtime])
  · have hvp : v.pair = { s.pair.heard f.toFrameHeader (s.time.tb2.ns - 2 * since) with beat := true } := by rw [htb, hbeat, hpair]
    show { v.pair with copy := some f, tickAt := some (v.activeTick f.toFrameHeader) } = _
    rw [hvp]
    rfl
  · rw [State.holdCopy, htb, hbeat, hframe]

theorem copyFrame_heartbeat (htick : s.ofTick f.seq = true) (hfol : s.follows = true) (hsame : f.rung = s.rung) :
    ∃ t, exec (.copyFrame f since) s = .next t ∧ t.fget F.PAIR_STATUS.PARTNER = f.state ∧ t.fget F.PAIR_STATUS.MISSED = 0 ∧
      t.pair.copy = some f ∧ t.pair.beat = true ∧ t.pair.partnerHash = f.imageHash ∧ t.pair.partnerFw = f.fw ∧
      t.pair.rxAt = s.time.tb2.ns - 2 * since ∧ t.pair.rxSeq = f.seq ∧
      t.time.tb2.offset = s.twoWay f.toFrameHeader (s.time.tb2.ns - 2 * since) ∧ (s.standby = false → t.time.tb2.rate = s.time.tb2.rate) ∧
      (s.standby = true → seqLe f.journalSeq s.pair.applied = false → ∃ k, (f.journalSeq, k) ∈ t.pair.owed) ∧
      (f.handoverReq = true → s.fget F.PAIR_STATUS.STATE ≠ 1 → t.pair.claiming = true ∧ t.pair.takeover = true ∧ t.pair.planned = true) ∧
      (f.handoverReq = false → t.pair.claiming = s.pair.claiming) ∧
      t = { s with regs := t.regs, counters := t.counters, time := { s.time with tb2 := t.time.tb2 }, pair := t.pair } ∧
      fieldsKept s t [F.PAIR_STATUS.PARTNER, F.PAIR_STATUS.MISSED] := by
  obtain ⟨v, ⟨-, hpart, hmiss, hkept, hoff, hrate, ⟨k, hpair⟩, hvfol, hframe⟩, hexec⟩ :=
    exec_copyFrame (since := since) w hok hact hst hrung htick hfol
  obtain ⟨o, howed, hin⟩ := v.noteOwed_spec f.journalSeq
  have hregs : (v.noteOwed f.journalSeq).regs = v.regs := by rw [howed]
  have hrung' : f.rung = (v.noteOwed f.journalSeq).rung := by
    rw [hsame, State.rung, State.rung, State.fget_of_regs hregs, hkept _ (apart_of_test (by decide))]
  rw [hrung', State.followRung_same (by rw [← hrung', hsame]; exact hrung)] at hexec
  have hstate : (v.noteOwed f.journalSeq).fget F.PAIR_STATUS.STATE = s.fget F.PAIR_STATUS.STATE := by
    rw [State.fget_of_regs hregs, hkept _ (apart_of_test (by decide))]
  have hstand : v.standby = s.standby := by rw [State.standby, State.standby, hkept _ (apart_of_test (by decide))]
  have hfol' : (v.noteOwed f.journalSeq).follows = true := by rw [State.follows, State.fget_of_regs hregs]; exact hvfol
  obtain ⟨x, c, htake, hx⟩ := State.takeOffer_spec hfol' f.handoverReq
  rw [hstand, hpair] at hin
  rw [htake, howed] at hexec
  rw [hstate, howed, hpair] at hx
  refine ⟨_, hexec, hpart, hmiss, ?_⟩
  dsimp only
  have hall : { v with pair := x, counters := c } =
      { s with regs := v.regs, counters := c, time := { s.time with tb2 := v.time.tb2 }, pair := x } := by rw [hframe]
  rcases hx with ⟨rfl, h1⟩ | ⟨rfl, hreq⟩
  · exact ⟨rfl, rfl, rfl, rfl, rfl, rfl, hoff, hrate, hin, fun hreq hne => absurd (h1 hreq) hne, fun _ => rfl, hall, hkept⟩
  · exact ⟨rfl, rfl, rfl, rfl, rfl, rfl, hoff, hrate, hin, fun _ _ => ⟨rfl, rfl, rfl⟩, fun h => absurd (hreq.symm.trans h) (by decide), hall, hkept⟩

end

/-! ## A RETURN frame (R200, R204, R206, R215) -/

/-- The journal without what the partner has applied. -/
def State.acknowledged (s : State) (n : Nat) : State := { s with pair := { s.pair with journal := s.pair.journal.filter (fun m => !seqLe m.seq n) } }

/-- The module with a RETURN frame heard and its journal acknowledged, before what waits is finished. -/
def State.answeredBy (s : State) (f : ReturnFrame) : State :=
  (if f.seq = s.steer.tick then (s.takeHeader f.toFrameHeader s.time.tb2.ns).heartbeat
    else s.takeHeader f.toFrameHeader s.time.tb2.ns).acknowledged f.journalSeq

/-- The module with a RETURN frame heard, its journal acknowledged and what waits for it finished. -/
def State.heardReturn (s : State) (f : ReturnFrame) : State :=
  (s.answeredBy f).finishWaits (fun w => decide (f.state ≠ 2) || seqLe w.seq f.journalSeq)

/-- What the pair notes of a RETURN frame. -/
def Pair.returned (x : Pair) (f : ReturnFrame) (tick at_ : Nat) : Pair :=
  { x with beat := x.beat || decide (f.seq = tick), partnerHash := f.imageHash, partnerFw := f.fw, rxAt := at_, rxSeq := f.seq
           journal := x.journal.filter (fun m => !seqLe m.seq f.journalSeq) }

theorem State.acknowledged_regs (s : State) (n : Nat) : (s.acknowledged n).regs = s.regs := rfl

theorem State.heartbeat_regs (s : State) : s.heartbeat.regs = (s.fset F.PAIR_STATUS.MISSED 0).regs := rfl

theorem State.acknowledged_frame (s : State) (n : Nat) : s.acknowledged n =
    { s with regs := (s.acknowledged n).regs, pair := { s.pair with journal := s.pair.journal.filter (fun m => !seqLe m.seq n) } } := rfl

theorem State.heartbeat_frame (s : State) : s.heartbeat = { s with regs := s.heartbeat.regs, pair := { s.pair with beat := true } } := rfl

theorem State.pair_trans {s u v : State} {x y : Pair} (h : u = { s with regs := u.regs, pair := x })
    (k : v = { u with regs := v.regs, pair := y }) : v = { s with regs := v.regs, pair := y } := by rw [k, h]

section
variable {s : State} (w : wordsWf 0 s.regs = true) {f : ReturnFrame} (hok : f.ok = true) (hact : s.active = true) (hst : f.state < 8)
  (hrung : s.rung ≤ 2)

omit w hst in
include hok hact hrung in
theorem exec_returnFrame : exec (.returnFrame f) s = .next (
    let u := if f.repairMask = 0 then s.heardReturn f else (s.heardReturn f).answerRepair f.repairSeq f.repairMask
    if f.state = 1 ∧ s.fget F.PAIR_STATUS.PARTNER ≠ 1 then u.sendSnapshot else u) := by
  show execReturnFrame f s = _
  rw [execReturnFrame, if_neg (by rw [hok, hact]; simpa using Nat.lt_succ_of_le hrung)]
  rfl

include w hst

theorem State.answeredBy_spec : wordsWf 0 (s.answeredBy f).regs = true ∧ (s.answeredBy f).fget F.PAIR_STATUS.PARTNER = f.state ∧
    (s.answeredBy f).fget F.PAIR_STATUS.MISSED = (if f.seq = s.steer.tick then 0 else s.fget F.PAIR_STATUS.MISSED) ∧
    fieldsKept s (s.answeredBy f) [F.PAIR_STATUS.PARTNER, F.PAIR_STATUS.MISSED] ∧
    s.answeredBy f = { s with regs := (s.answeredBy f).regs, pair := s.pair.returned f s.steer.tick s.time.tb2.ns } := by
  obtain ⟨wu, hpart, hkept, hframe⟩ := State.takeHeader_spec w f.toFrameHeader s.time.tb2.ns hst
  have hpair : (s.takeHeader f.toFrameHeader s.time.tb2.ns).pair = s.pair.heard f.toFrameHeader s.time.tb2.ns := rfl
  unfold State.answeredBy
  generalize s.takeHeader f.toFrameHeader s.time.tb2.ns = u at *
  have hkept' : fieldsKept s u [F.PAIR_STATUS.PARTNER, F.PAIR_STATUS.MISSED] := fun g hg =>
    hkept g fun x hx => hg x (List.mem_cons.mpr (.inl (List.mem_singleton.mp hx)))
  by_cases htick : f.seq = s.steer.tick
  · rw [if_pos htick, if_pos htick]
    have hset := (State.Writes.refl wu [F.PAIR_STATUS.MISSED]).fset (f := F.PAIR_STATUS.MISSED) (by simp) (by decide) 0
    have hself := State.fget_fset_self u F.PAIR_STATUS.MISSED 0 (by decide) wu
    have hregs : (u.heartbeat.acknowledged f.journalSeq).regs = (u.fset F.PAIR_STATUS.MISSED 0).regs :=
      (State.acknowledged_regs ..).trans (State.heartbeat_regs u)
    refine ⟨by rw [hregs]; exact hset.form, (State.fget_of_regs hregs _).trans ((hset.kept _ (apart_of_test (by decide))).trans hpart),
      (State.fget_of_regs hregs _).trans hself, fun g hg => (State.fget_of_regs hregs g).trans
        ((hset.kept g fun x hx => hg x (List.mem_cons_of_mem _ hx)).trans (hkept' g hg)), ?_⟩
    have hback := State.pair_trans (State.heartbeat_frame u) (State.acknowledged_frame u.heartbeat f.journalSeq)
    have hbp : u.heartbeat.pair = { u.pair with beat := true } := by rw [State.heartbeat_frame]
    have hy : ({ u.heartbeat.pair with journal := u.heartbeat.pair.journal.filter (fun m => !seqLe m.seq f.journalSeq) } : Pair) =
        s.pair.returned f s.steer.tick s.time.tb2.ns := by
      rw [hbp, hpair]
      simp only [Pair.returned, Pair.heard, htick, decide_true, Bool.or_true]
    rw [hy] at hback
    exact State.pair_trans hframe hback
  · rw [if_neg htick, if_neg htick]
    have hregs := State.acknowledged_regs u f.journalSeq
    refine ⟨by rw [hregs]; exact wu, (State.fget_of_regs hregs _).trans hpart, (State.fget_of_regs hregs _).trans (hkept _ (apart_of_test (by decide))),
      fun g hg => (State.fget_of_regs hregs g).trans (hkept' g hg), ?_⟩
    have hback := State.acknowledged_frame u f.journalSeq
    have hy : ({ u.pair with journal := u.pair.journal.filter (fun m => !seqLe m.seq f.journalSeq) } : Pair) =
        s.pair.returned f s.steer.tick s.time.tb2.ns := by
      rw [hpair]
      simp only [Pair.returned, Pair.heard, htick, decide_false, Bool.or_false]
    rw [hy] at hback
    exact State.pair_trans hframe hback

end

theorem State.finishWaits_none {s : State} (h : s.pair.waits = []) (p : Wait → Bool) : s.finishWaits p = s := by
  rw [State.finishWaits_eq, h]
  show s.unwait p = s
  rw [State.unwait, h, List.filter_nil, ← h]

theorem State.finishWaits_one {s : State} {x : Wait} (h : s.pair.waits = [x]) {p : Wait → Bool} (hp : p x = true) : s.finishWaits p =
    (if x.op = 0x12 then (s.unwait p).fset F.MAP_STATUS.COMMIT_BUSY 0 else s.unwait p).complete x.op x.src .done 0 x.detail x.result := by
  have hfil : s.pair.waits.filter p = [x] := by rw [h, List.filter_cons_of_pos hp, List.filter_nil]
  rw [State.finishWaits_eq, hfil]
  simp only [List.any_cons, List.any_nil, Bool.or_false, decide_eq_true_eq, List.foldl_cons, List.foldl_nil]

/-- The items of a snapshot end with its end. -/
theorem State.snapshotItems_end (s : State) : ∃ l, s.snapshotItems = l ++ [.snapshotEnd] := by
  unfold State.snapshotItems
  simp only [List.flatten_cons, List.flatten_nil, List.append_nil, ← List.append_assoc]
  exact ⟨_, rfl⟩

theorem State.sendSnapshot_last {s : State} (hact : s.active = true) (hatt : s.attached = true) :
    s.sendSnapshot.pair.journal.getLast?.map (fun m => m.item) = some .snapshotEnd := by
  obtain ⟨l, hl⟩ := s.snapshotItems_end
  rw [State.sendSnapshot, hl, List.foldl_append]
  exact State.sendJournals_last hact hatt l .snapshotEnd

section
variable {s : State} (hwf : s.allWf = true) {f : ReturnFrame} (hok : f.ok = true) (hact : s.active = true) (hst : f.state < 8)
  (hrung : s.rung ≤ 2)
include hwf hok hact hst hrung

theorem returnFrame_heard (hwaits : s.pair.waits = []) (hmask : f.repairMask = 0) (hre : f.state = 1 → s.fget F.PAIR_STATUS.PARTNER = 1) :
    ∃ t, exec (.returnFrame f) s = .next t ∧ t.fget F.PAIR_STATUS.PARTNER = f.state ∧
      t.fget F.PAIR_STATUS.MISSED = (if f.seq = s.steer.tick then 0 else s.fget F.PAIR_STATUS.MISSED) ∧
      t = { s with regs := t.regs, pair := s.pair.returned f s.steer.tick s.time.tb2.ns } ∧
      fieldsKept s t [F.PAIR_STATUS.PARTNER, F.PAIR_STATUS.MISSED] := by
  obtain ⟨-, hpart, hmiss, hkept, hframe⟩ := State.answeredBy_spec (State.regsWf_of_allWf hwf) (f := f) hst
  have hw : (s.answeredBy f).pair.waits = [] := by rw [hframe]; exact hwaits
  refine ⟨_, ?_, hpart, hmiss, hframe, hkept⟩
  rw [exec_returnFrame hok hact hrung]
  dsimp only
  rw [if_pos hmask, if_neg (fun h => h.2 (hre h.1)), State.heardReturn, State.finishWaits_none hw]

theorem returnFrame_finished {x : Wait} (hwaits : s.pair.waits = [x]) (hmask : f.repairMask = 0) (hstand : f.state = 2)
    (hseq : seqLe x.seq f.journalSeq = true) (hen : (s.queue (s.cqOf x.src)).en = true) (hdir : (s.queue (s.cqOf x.src)).dir = true)
    (hsound : (s.queue (s.cqOf x.src)).broken = false) (hfree : s.link.flrDiscard.contains x.src = false) :
    ∃ t, exec (.returnFrame f) s = .next t ∧ t.pair.waits = [] ∧ answered s t x.op x.src .done 0 x.detail x.result [] := by
  obtain ⟨wu, -, -, hkept, hframe⟩ := State.answeredBy_spec (State.regsWf_of_allWf hwf) (f := f) hst
  have hw : (s.answeredBy f).pair.waits = [x] := by rw [hframe]; exact hwaits
  have hexec : exec (.returnFrame f) s = .next (s.heardReturn f) := by
    rw [exec_returnFrame hok hact hrung]
    dsimp only
    rw [if_pos hmask, if_neg (fun h => by omega)]
  have hlink : (s.answeredBy f).link = s.link := by rw [hframe]
  have htows : (s.answeredBy f).tows = s.tows := by rw [hframe]
  have hpol : (s.answeredBy f).fget F.AUC_CTRL.POLICY_SPACE = s.fget F.AUC_CTRL.POLICY_SPACE := hkept _ (apart_of_test (by decide))
  have hdue : (fun w : Wait => decide (f.state ≠ 2) || seqLe w.seq f.journalSeq) x = true := by simp [hseq]
  refine ⟨_, hexec, ?_, ?_⟩
  · rw [State.heardReturn, State.finishWaits_waits wu, hw, List.filter_cons_of_neg (by simp [hseq]), List.filter_nil]
  · rw [State.heardReturn, State.finishWaits_one hw hdue]
    generalize s.answeredBy f = u at *
    have hset := (State.Writes.refl (s := u.unwait (fun w => decide (f.state ≠ 2) || seqLe w.seq f.journalSeq)) wu
      [F.MAP_STATUS.COMMIT_BUSY]).fset (f := F.MAP_STATUS.COMMIT_BUSY) (by simp) (by decide) 0
    have hopen : s.Open (if x.op = 0x12 then (u.unwait (fun w => decide (f.state ≠ 2) || seqLe w.seq f.journalSeq)).fset F.MAP_STATUS.COMMIT_BUSY 0
        else u.unwait (fun w => decide (f.state ≠ 2) || seqLe w.seq f.journalSeq)) x.src := by
      have hu : s.Open (u.unwait (fun w => decide (f.state ≠ 2) || seqLe w.seq f.journalSeq)) x.src :=
        ⟨congrArg Link.queues hlink, congrArg Link.flrDiscard hlink,
          State.cqOf_congr x.src (congrArg Link.queues hlink) (congrArg TowSys.spaces htows) hpol⟩
      split
      · exact hu.trans ⟨rfl, rfl, State.cqOf_congr x.src rfl rfl (hset.kept _ (apart_of_test (by decide)))⟩
      · exact hu
    exact answered_of_open hopen (State.complete_answered (by rw [hopen.queues]; exact State.queuesWf_of_allWf hwf)
      (State.Answers.of_open ⟨hen, hdir, hsound, hfree⟩ hopen) ..)

theorem returnFrame_snapshot (hen : s.pairEn = true) (hone : f.state = 1) (hpart : s.fget F.PAIR_STATUS.PARTNER ≠ 1) :
    ∃ t, exec (.returnFrame f) s = .next t ∧ t.pair.journal.getLast?.map (fun m => m.item) = some .snapshotEnd ∧
      t.steer = s.steer ∧ t.map = s.map ∧ t.lock = s.lock ∧ t.mem = s.mem := by
  obtain ⟨wu, hp, -, hkept, hframe⟩ := State.answeredBy_spec (State.regsWf_of_allWf hwf) (f := f) hst
  have hfin := State.finishWaits_reported wu (fun x => decide (f.state ≠ 2) || seqLe x.seq f.journalSeq)
  have hexec := exec_returnFrame hok hact hrung
  dsimp only at hexec
  rw [if_pos ⟨hone, hpart⟩] at hexec
  rw [State.heardReturn] at hexec
  have hrep : ((s.answeredBy f).unwait (fun x => decide (f.state ≠ 2) || seqLe x.seq f.journalSeq)).Reported
      (if f.repairMask = 0 then (s.answeredBy f).finishWaits (fun x => decide (f.state ≠ 2) || seqLe x.seq f.journalSeq)
        else ((s.answeredBy f).finishWaits (fun x => decide (f.state ≠ 2) || seqLe x.seq f.journalSeq)).answerRepair f.repairSeq f.repairMask)
      [F.MAP_STATUS.COMMIT_BUSY] := hfin.ite (hfin.answerRepair _ _)
  generalize (if f.repairMask = 0 then (s.answeredBy f).finishWaits (fun x => decide (f.state ≠ 2) || seqLe x.seq f.journalSeq)
    else ((s.answeredBy f).finishWaits (fun x => decide (f.state ≠ 2) || seqLe x.seq f.journalSeq)).answerRepair f.repairSeq f.repairMask) = v
    at hexec hrep
  have hfld : ∀ g, (∀ x ∈ [F.PAIR_STATUS.PARTNER, F.PAIR_STATUS.MISSED], Fld.apart x g) → (∀ x ∈ F.MAP_STATUS.COMMIT_BUSY :: logFields, Fld.apart x g) →
      v.fget g = s.fget g := fun g h1 h2 => (hrep.fget h2).trans (hkept g h1)
  have hvact : v.active = true := by
    rw [State.active, hfld _ (apart_of_test (by decide)) (apart_of_test (by decide))]; exact hact
  have hvold : v.pair.enOld = s.pair.enOld := by
    have h := hrep.reports.2.2.1
    rw [h]
    show (s.answeredBy f).pair.enOld = _
    rw [hframe]
    rfl
  have hvpart : v.fget F.PAIR_STATUS.PARTNER = 1 := (hrep.fget (apart_of_test (by decide))).trans (hp.trans hone)
  have hven : v.pairEn = true := by
    rw [State.pairEn, hvold, State.bit, hfld _ (apart_of_test (by decide)) (apart_of_test (by decide))]; exact hen
  have hvatt : v.attached = true := by rw [State.attached, hven, hvpart]; rfl
  have hsnap := hrep.sendJournals v.snapshotItems
  refine ⟨_, hexec, State.sendSnapshot_last hvact hvatt, ?_⟩
  rw [State.sendSnapshot]
  generalize v.snapshotItems.foldl State.sendJournal v = t at hsnap ⊢
  refine ⟨hsnap.steer.trans ?_, hsnap.map.trans ?_, hsnap.lock.trans ?_, hsnap.mem.trans ?_⟩
  · show (s.answeredBy f).steer = _; rw [hframe]
  · show (s.answeredBy f).map = _; rw [hframe]
  · show (s.answeredBy f).lock = _; rw [hframe]
  · show (s.answeredBy f).mem = _; rw [hframe]

end

theorem State.finishWaits_pair (s : State) (p : Wait → Bool) : (s.finishWaits p).pair = (s.unwait p).pair := by
  rw [State.finishWaits_eq]
  refine List.foldlRecOn (motive := fun u : State => u.pair = (s.unwait p).pair) _ _ ?_ fun u hu x _ => (State.complete_pair ..).trans hu
  split <;> rfl

/-! ## A heartbeat missed, and three in a row (R201, R206, R209, R212) -/

theorem State.noteGap_spec (s : State) : ∃ x, s.noteGap = { s with pair := { s.pair with gap := x } } ∧
    (s.pair.gap = none → ∃ n, x = some (n, 1, s.steer.tick)) := by
  unfold State.noteGap
  dsimp only
  split
  · exact ⟨_, rfl, fun _ => ⟨_, rfl⟩⟩
  · next q m t hgap =>
    have hno : s.pair.gap = none → ∀ y : Option (Nat × Nat × Nat), ∃ n, y = some (n, 1, s.steer.tick) := fun h => by rw [hgap] at h; cases h
    split
    · exact ⟨_, rfl, fun h => hno h _⟩
    · exact ⟨s.pair.gap, rfl, fun h => hno h _⟩

theorem heartbeatMissed_spec {s : State} (w : wordsWf 0 s.regs = true) (hbeat : s.pair.beat = false) (hrung : s.rung ≤ 2)
    (hrole : s.follows = true ∨ s.active = true) :
    ∃ t, exec .heartbeatMissed s = .next t ∧ t.fget F.PAIR_STATUS.MISSED = min 255 (s.fget F.PAIR_STATUS.MISSED + 1) ∧
      t.pair.copyRun = 0 ∧ (s.standby = false → t.pair = { s.pair with copyRun := 0 }) ∧
      (s.standby = true → s.pair.gap = none → ∃ n, t.pair.gap = some (n, 1, s.steer.tick)) ∧
      t = { s with regs := t.regs, counters := t.counters, pair := { s.pair with copyRun := 0, gap := t.pair.gap } } ∧
      fieldsKept s t [F.PAIR_STATUS.MISSED] := by
  obtain ⟨u, hu⟩ : ∃ u, u = s.fadd F.PAIR_STATUS.MISSED 1 := ⟨_, rfl⟩
  have hw := (State.Writes.refl w [F.PAIR_STATUS.MISSED]).fadd (f := F.PAIR_STATUS.MISSED) (by simp) (by decide) 1
  have hself : u.fget F.PAIR_STATUS.MISSED = min 255 (s.fget F.PAIR_STATUS.MISSED + 1) := by
    rw [hu, State.fadd, State.fget_fset_self _ _ _ (by decide) w]
    exact Nat.mod_eq_of_lt (Nat.lt_of_le_of_lt (Nat.min_le_left ..) (by decide))
  rw [← hu] at hw
  have hstand : u.standby = s.standby := by rw [State.standby, State.standby, hw.kept _ (apart_of_test (by decide))]
  have hframe := hw.frame
  obtain ⟨v, hv⟩ : ∃ v : State, v = { u.count 3 2 with pair := { u.pair with copyRun := 0 } } := ⟨_, rfl⟩
  have hexec : exec .heartbeatMissed s = .next (if v.standby then v.noteGap else v) := by
    show execHeartbeatMissed s = _
    rw [execHeartbeatMissed, if_neg (by rw [hbeat]; simpa using Nat.lt_succ_of_le hrung), if_pos (by simpa using hrole), hv, hu]
    rfl
  have hregs : v.regs = u.regs := by rw [hv]; rfl
  have hkept : fieldsKept s v [F.PAIR_STATUS.MISSED] := fun g hg => (State.fget_of_regs hregs g).trans (hw.kept g hg)
  have hvself : v.fget F.PAIR_STATUS.MISSED = min 255 (s.fget F.PAIR_STATUS.MISSED + 1) := (State.fget_of_regs hregs _).trans hself
  have hvstand : v.standby = s.standby := by rw [State.standby, State.standby, hkept _ (apart_of_test (by decide))]
  have hvframe : v = { s with regs := v.regs, counters := v.counters, pair := { s.pair with copyRun := 0 } } := by
    rw [hv, State.count, hframe]
  rw [hvstand] at hexec
  obtain ⟨x, hgap, hnone⟩ := v.noteGap_spec
  have hpair : v.pair = { s.pair with copyRun := 0 } := by rw [hvframe]
  have hsteer : v.steer = s.steer := by rw [hvframe]
  clear hv hstand
  refine ⟨_, hexec, ?_⟩
  by_cases hst : s.standby = true
  · rw [if_pos hst, hgap]
    refine ⟨hvself, by rw [hpair], fun h => absurd (hst.symm.trans h) (by decide), fun _ h0 => ?_, ?_, hkept⟩
    · obtain ⟨n, hn⟩ := hnone (by rw [hpair]; exact h0)
      exact ⟨n, by rw [hn, hsteer]⟩
    · rw [hvframe]
  · rw [if_neg hst]
    refine ⟨hvself, by rw [hpair], fun _ => hpair, fun h => absurd h hst, ?_, hkept⟩
    have hg : v.pair.gap = s.pair.gap := by rw [hpair]
    rw [hg]
    exact hvframe

section
variable {s : State} (w : wordsWf 0 s.regs = true) (hmiss : 3 ≤ s.fget F.PAIR_STATUS.MISSED)
include w hmiss

theorem heartbeatLoss_standby (hst : s.standby = true) (hclaim : s.pair.claiming = false) :
    ∃ t, exec .heartbeatLoss s = .next t ∧
      reports { s with pair := { s.pair with claiming := true, takeover := true, planned := false, grantA := false, grantB := false
                                             gap := none, continueDue := true } } t [] := by
  have hstate : s.fget F.PAIR_STATUS.STATE = 2 := of_decide_eq_true hst
  refine ⟨_, ?_, (((State.Reported.refl (s := { s with pair := { s.pair with
    claiming := true, takeover := true, planned := false, grantA := false, grantB := false, gap := none, continueDue := true } }) w []).logEntry
      (sev := 5) (by decide) 3 .link .module 0 0 0).count 3 6 1).reports⟩
  show execHeartbeatLoss s = _
  rw [execHeartbeatLoss, if_neg (by omega), hstate]
  dsimp only
  rw [if_neg (by simp [hclaim])]
  rfl

theorem heartbeatLoss_detached (hst : s.fget F.PAIR_STATUS.STATE = 1 ∨ s.fget F.PAIR_STATUS.STATE = 4) :
    ∃ t, exec .heartbeatLoss s = .next t ∧ t.fget F.PAIR_STATUS.STATE = 0 ∧ t.fget F.PAIR_STATUS.REASON = 7 ∧
      reports s t [F.PAIR_STATUS.STATE, F.PAIR_STATUS.REASON] := by
  have hlog := (State.Reported.refl w []).logEntry (sev := 5) (by decide) 3 .link .module 1 0 0
  have hexec : exec .heartbeatLoss s = .next ((s.logEntry 5 3 .link .module 1 0).setPair 0 7) := by
    show execHeartbeatLoss s = _
    rw [execHeartbeatLoss, if_neg (by omega)]
    rcases hst with h | h <;> rw [h] <;> rfl
  have hstate : (s.logEntry 5 3 .link .module 1 0).fget F.PAIR_STATUS.STATE = s.fget F.PAIR_STATUS.STATE := hlog.fget (apart_of_test (by decide))
  have hset := State.setPair_set hlog.form (new := 0) (reason := 7) (by rw [hstate]; omega) (by decide) (by decide) (by decide)
  exact ⟨_, hexec, hset.state, hset.reason, ((hlog.mono (by simp)).trans hset.reported).reports⟩

theorem heartbeatLoss_active (hact : s.active = true) (hpart : s.fget F.PAIR_STATUS.PARTNER ≠ 7) :
    ∃ t, exec .heartbeatLoss s = .next t ∧ t.fget F.PAIR_STATUS.PARTNER = 7 ∧ t.active = true ∧ t.pair.waits = [] ∧
      t.pair.journal = [] ∧ reports { s with pair := { s.pair with waits := [] } } t [F.PAIR_STATUS.PARTNER, F.MAP_STATUS.COMMIT_BUSY] := by
  have hstate : s.fget F.PAIR_STATUS.STATE = 3 := of_decide_eq_true hact
  have hset := (State.Reported.refl w [F.PAIR_STATUS.PARTNER]).fset (f := F.PAIR_STATUS.PARTNER) (by simp) (by decide) 7
  have hself := State.fget_fset_self s F.PAIR_STATUS.PARTNER 7 (by decide) w
  have hev : s.Reported ((s.fset F.PAIR_STATUS.PARTNER 7).pairEvent 3) [F.PAIR_STATUS.PARTNER] := hset.event ..
  have hregs : ((s.fset F.PAIR_STATUS.PARTNER 7).pairEvent 3).regs = (s.fset F.PAIR_STATUS.PARTNER 7).regs := by simp [State.pairEvent]
  have hexec : exec .heartbeatLoss s = .next (({ (s.fset F.PAIR_STATUS.PARTNER 7).pairEvent 3 with
      pair := { ((s.fset F.PAIR_STATUS.PARTNER 7).pairEvent 3).pair with journal := [] } } : State).finishWaits (fun _ => true)) := by
    show execHeartbeatLoss s = _
    rw [execHeartbeatLoss, if_neg (by omega), hstate]
    dsimp only
    rw [if_neg hpart]
    rfl
  refine ⟨_, hexec, ?_⟩
  have hp7 : ((s.fset F.PAIR_STATUS.PARTNER 7).pairEvent 3).fget F.PAIR_STATUS.PARTNER = 7 := (State.fget_of_regs hregs _).trans hself
  have hs3 : ((s.fset F.PAIR_STATUS.PARTNER 7).pairEvent 3).fget F.PAIR_STATUS.STATE = 3 := (hev.fget (apart_of_test (by decide))).trans hstate
  generalize (s.fset F.PAIR_STATUS.PARTNER 7).pairEvent 3 = u at *
  obtain ⟨wu, uframe, ulink, upair, ukept⟩ := hev
  have hfin := State.finishWaits_reported (s := { u with pair := { u.pair with journal := [] } }) wu (fun _ => true)
  have hpair := State.finishWaits_pair { u with pair := { u.pair with journal := [] } } (fun _ => true)
  generalize ({ u with pair := { u.pair with journal := [] } } : State).finishWaits (fun _ => true) = t at hfin hpair ⊢
  obtain ⟨-, frame, link, -, kept⟩ := hfin
  have hp : t.pair = { s.pair with waits := [], journal := [], journalSeq := u.pair.journalSeq } := by
    rw [hpair]
    show { u.pair with journal := [], waits := u.pair.waits.filter (fun _ => false) } = _
    rw [List.filter_false, upair]
  have hfld : ∀ g, (∀ x ∈ F.MAP_STATUS.COMMIT_BUSY :: logFields, Fld.apart x g) → t.fget g = u.fget g := fun g hg => kept g hg
  refine ⟨(hfld _ (apart_of_test (by decide))).trans hp7, ?_, by rw [hp], by rw [hp], ?_, ?_, by rw [hp], fun g hg => ?_⟩
  · rw [State.active, hfld _ (apart_of_test (by decide)), hs3]
    rfl
  · rw [frame]
    show _ = { s with regs := _, log := _, counters := _, out := _, link := _, pair := _ }
    rw [State.unwait, uframe]
  · have hl : t.link = { u.link with
        queues := t.link.queues, msixPend := t.link.msixPend, resv := t.link.resv, endResv := t.link.endResv
        flrDiscard := t.link.flrDiscard } := link
    generalize t.link = x at hl ⊢
    generalize u.link = y at ulink hl
    rw [hl, ulink]
  · refine (hfld g fun x hx => hg x ?_).trans (ukept g fun x hx => hg x ?_)
    · simp only [List.mem_cons, List.cons_append, List.nil_append] at hx ⊢; tauto
    · simp only [List.mem_cons, List.cons_append, List.nil_append] at hx ⊢; tauto

end

/-- Settles O42: each frame is what it says of the partner, noted, with the heartbeat of its tick, what it acknowledges and what it asks for;
a missed one is counted, and three in a row end as the pair's state has it. -/
theorem heartbeats : Obligations.Heartbeats := by
  unfold Obligations.Heartbeats
  refine ⟨fun s f since hwf hok hact hfol hst hsame hrung => ⟨fun htick =>
      copyFrame_heartbeat (State.regsWf_of_allWf hwf) hok hact hst hrung htick hfol hsame,
      fun htick => copyFrame_other (State.regsWf_of_allWf hwf) hok hact hst hrung htick⟩,
    fun s f hwf hok hen hact hrung hst => ⟨fun hw hm hre => returnFrame_heard hwf hok hact hst hrung hw hm hre,
      fun x hw hm h2 hseq he hd hb hf => returnFrame_finished hwf hok hact hst hrung hw hm h2 hseq he hd hb hf,
      fun hone hpart => returnFrame_snapshot hwf hok hact hst hrung hen hone hpart⟩,
    fun s hwf hbeat hrung hrole => heartbeatMissed_spec (State.regsWf_of_allWf hwf) hbeat hrung hrole,
    fun s hwf hmiss => ⟨fun hst hc => heartbeatLoss_standby (State.regsWf_of_allWf hwf) hmiss hst hc,
      fun hst => heartbeatLoss_detached (State.regsWf_of_allWf hwf) hmiss hst,
      fun hact hpart => heartbeatLoss_active (State.regsWf_of_allWf hwf) hmiss hact hpart⟩⟩

end Sys2Proof.Machine
end

section
/-!
PROOFS. The pointing map's commands (R60–R64, R289): entries written and read, the journal committed, module flash and the reload, and
the statement.
-/

namespace Sys2Proof.Machine

/-! ## Stores written entry by entry -/

theorem writeIndices_cons (first : Nat) (e : MapEntry) (es : List MapEntry) :
    writeIndices first (e :: es) = (first, e) :: writeIndices (first + 1) es := by
  simp only [writeIndices, List.length_cons, List.range_succ_eq_map, List.zip_cons_cons, List.map_cons, Nat.add_zero, List.cons.injEq, true_and]
  rw [List.zip_map_left, List.map_map]
  refine List.map_congr_left fun p _ => ?_
  simp [Nat.add_comm, Nat.add_left_comm]

/-- The journal after entries first, first + 1, … are written (R62). -/
theorem spGet_writeIndices (es : List MapEntry) (first : Nat) {j : Sparse MapEntry} (w : spWf 0 0 j = true) (k : Nat) :
    spGet 0 ((writeIndices first es).foldl (fun j p => spSet 0 j p.1 p.2) j) k =
      if first ≤ k ∧ k < first + es.length then es.getD (k - first) 0 else spGet 0 j k := by
  induction es generalizing first j with
  | nil => rw [if_neg (by simp)]; rfl
  | cons e es ih =>
    rw [writeIndices_cons, List.foldl_cons, ih (first + 1) (spSet_wf 0 j first e 0 (Nat.zero_le _) w)]
    by_cases hk : k = first
    · subst hk
      rw [if_neg (by omega), if_pos (by simp), spGet_spSet_self 0 j k e 0 w]
      simp
    · rw [spGet_spSet_ne 0 j first k e hk]
      by_cases hin : first + 1 ≤ k ∧ k < first + 1 + es.length
      · rw [if_pos hin, if_pos (by rw [List.length_cons]; omega), show k - first = (k - (first + 1)) + 1 by omega]
        rfl
      · rw [if_neg hin, if_neg (by rw [List.length_cons]; omega)]

/-- A store after the entries of another are written over it. -/
theorem spGet_foldl_store {α : Type} [DecidableEq α] (d : α) {j : Sparse α} {lo : Nat} (wj : spWf d lo j = true) {w : Sparse α}
    (ww : spWf d 0 w = true) (k : Nat) :
    spGet d (j.foldl (fun w p => spSet d w p.1 p.2) w) k = if spGet d j k = d then spGet d w k else spGet d j k := by
  induction j generalizing lo w with
  | nil => simp [spGet]
  | cons p j ih =>
    obtain ⟨k', v⟩ := p
    simp only [spWf, Bool.and_eq_true, decide_eq_true_eq] at wj
    obtain ⟨⟨-, hv⟩, wj⟩ := wj
    rw [List.foldl_cons, ih wj (spSet_wf d w k' v 0 (Nat.zero_le _) ww)]
    by_cases hk : k' = k
    · subst hk
      have hnone : spGet d j k' = d := spGet_spSet_self.spGet_below d j (k' + 1) k' wj (Nat.lt_succ_self _)
      simp [spGet, hnone, hv, spGet_spSet_self d w k' v 0 ww]
    · simp only [spGet, hk, if_false]
      rw [spGet_spSet_ne d w k' k v (Ne.symm hk)]

theorem wf_foldl_store {α : Type} [DecidableEq α] (d : α) (j : Sparse α) {w : Sparse α} (ww : spWf d 0 w = true) :
    spWf d 0 (j.foldl (fun w p => spSet d w p.1 p.2) w) = true :=
  List.foldlRecOn (motive := fun w => spWf d 0 w = true) j _ ww fun w h p _ => spSet_wf d w p.1 p.2 0 (Nat.zero_le _) h

/-- The keys noted with those of a store. -/
theorem mem_foldl_keys (j : Sparse MapEntry) (d : List Nat) (i : Nat) :
    i ∈ j.foldl (fun d p => if d.contains p.1 then d else d ++ [p.1]) d ↔ i ∈ d ∨ ∃ e, (i, e) ∈ j := by
  induction j generalizing d with
  | nil => simp
  | cons p j ih =>
    obtain ⟨k, v⟩ := p
    rw [List.foldl_cons, ih]
    have hmem : i ∈ (if d.contains k then d else d ++ [k]) ↔ i ∈ d ∨ i = k := by
      split
      · next h =>
        have hk : k ∈ d := List.contains_iff_mem.mp h
        exact ⟨.inl, fun hi => hi.elim id fun e => e ▸ hk⟩
      · simp
    rw [hmem]
    simp only [List.mem_cons, Prod.mk.injEq]
    constructor
    · rintro ((h | rfl) | ⟨e, h⟩)
      · exact .inl h
      · exact .inr ⟨v, .inl ⟨rfl, rfl⟩⟩
      · exact .inr ⟨e, .inr h⟩
    · rintro (h | ⟨e, ⟨rfl, -⟩ | h⟩)
      · exact .inl (.inl h)
      · exact .inl (.inr rfl)
      · exact .inr ⟨e, h⟩

/-- Values of a function written at the keys of a list. -/
theorem spGet_foldl_keys {α : Type} [DecidableEq α] (d : α) (f : Nat → α) (l : List Nat) {m : Sparse α} (w : spWf d 0 m = true) (k : Nat) :
    spGet d (l.foldl (fun m i => spSet d m i (f i)) m) k = if k ∈ l then f k else spGet d m k := by
  induction l generalizing m with
  | nil => simp
  | cons i l ih =>
    rw [List.foldl_cons, ih (spSet_wf d m i (f i) 0 (Nat.zero_le _) w)]
    by_cases hk : k = i
    · subst hk
      simp [spGet_spSet_self d m k (f k) 0 w]
    · simp [hk, spGet_spSet_ne d m i k (f i) hk]

/-! ## Readings (R64) -/

theorem readEntries_succ (first n : Nat) (s : State) : readEntries false first (n + 1) s =
    (entryBytes (s.mapRead first).1 ++ (readEntries false (first + 1) n (s.mapRead first).2.2).1,
      (readEntries false (first + 1) n (s.mapRead first).2.2).2) := rfl

/-- Entries read while their checks hold leave the machine as it is. -/
theorem readEntries_good (s : State) (n first : Nat) (h : ∀ i, first ≤ i → i < first + n → entryCheck (s.mapWork i) = true) :
    readEntries false first n s = ((List.range n).flatMap (fun i => entryBytes (s.mapWork (first + i))), s) := by
  induction n generalizing first with
  | zero => rfl
  | succ n ih =>
    have hread : s.mapRead first = (s.mapWork first, entryValid (s.mapWork first), s) := if_pos (h first (Nat.le_refl _) (by omega))
    have hrest := ih (first + 1) fun i hi hj => h i (by omega) (by omega)
    rw [readEntries_succ, hread]
    dsimp only
    rw [hrest, List.range_succ_eq_map, List.flatMap_cons, List.flatMap_map]
    simp only [Nat.add_zero, Nat.add_assoc, Nat.add_comm 1]

/-- What a reading that repairs does to the machine before the repair: the flag, the entry and the count (R64). -/
def State.noteRepair (s : State) (i : Nat) : State := ((s.sticky F.MAP_STATUS.CHECK_ERR none).logEntry 5 5 .data .memory 0 i).count 2 14

theorem State.mapRead_repair {s : State} {i : Nat} (hbad : entryCheck (s.mapWork i) = false) (hgood : entryCheck (spGet 0 s.map.master i) = true) :
    s.mapRead i = (spGet 0 s.map.master i, entryValid (spGet 0 s.map.master i),
      { s.noteRepair i with map := { (s.noteRepair i).map with work := spSet 0 (s.noteRepair i).map.work i (spGet 0 s.map.master i) } }) := by
  have hno : ¬ entryCheck (s.mapWork i) = true := by simp [hbad]
  exact (if_neg hno).trans (if_pos hgood)

/-- An entry whose check holds is left by a reading of any other. -/
theorem State.mapRead_kept {s : State} (i : Nat) {j : Nat} (h : entryCheck (s.mapWork j) = true) : (s.mapRead i).2.2.mapWork j = s.mapWork j := by
  rw [State.mapWork, State.mapRead_map]
  split
  · next hbad =>
    refine spGet_spSet_ne 0 s.map.work i j _ fun e => ?_
    rw [e, hbad.1] at h
    cases h
  · rfl

theorem State.mapRead_linkRest (s : State) (i : Nat) : (s.mapRead i).2.2.linkRest = s.linkRest := by
  have hnote : (s.noteRepair i).linkRest = s.linkRest := by simp [State.noteRepair]
  unfold State.mapRead
  dsimp only
  split
  · rfl
  · split
    · exact hnote
    · exact hnote

/-- What reading the map again for open-loop axes leaves: the map but for repairs, and all else but the axes. -/
structure State.Rereads (s t : State) : Prop where
  leaves : State.Leaves blankMapSteer s t [F.MAP_STATUS.CHECK_ERR]
  link : t.linkRest = s.linkRest
  good : ∀ j, entryCheck (s.mapWork j) = true → t.mapWork j = s.mapWork j

theorem State.Rereads.trans {s t u : State} (h : s.Rereads t) (k : t.Rereads u) : s.Rereads u :=
  ⟨h.leaves.trans k.leaves, k.link.trans h.link, fun j hj => (k.good j (by rw [h.good j hj]; exact hj)).trans (h.good j hj)⟩

theorem State.mapRead_rereads {s : State} (w : wordsWf 0 s.regs = true) (i : Nat) : s.Rereads (s.mapRead i).2.2 :=
  ⟨State.mapRead_leaves w i, s.mapRead_linkRest i, fun _ hj => State.mapRead_kept i hj⟩

/-- An axis that reads its entry again reads one entry of the map, and may change its own drive. -/
theorem State.rereadAxis_cases (s : State) (a : Nat) : s.rereadAxis a = s ∨
    ∃ i, s.rereadAxis a = (s.mapRead i).2.2 ∨ ∃ f, s.rereadAxis a = (s.mapRead i).2.2.modAll a f := by
  unfold State.rereadAxis
  dsimp only
  split
  · split
    · split
      · exact .inr ⟨_, .inr ⟨_, rfl⟩⟩
      · exact .inr ⟨_, .inl rfl⟩
    · exact .inl rfl
  · exact .inl rfl

theorem State.rereadAxis_rereads {s : State} (w : wordsWf 0 s.regs = true) (a : Nat) : s.Rereads (s.rereadAxis a) := by
  have hl := State.rereadAxis_leaves w a
  rcases s.rereadAxis_cases a with h | ⟨i, h | ⟨f, h⟩⟩
  · rw [h]
    exact ⟨.refl _ w _, rfl, fun _ _ => rfl⟩
  · rw [h]
    exact State.mapRead_rereads w i
  · rw [h] at hl ⊢
    exact ⟨hl, s.mapRead_linkRest i, fun _ hj => State.mapRead_kept i hj⟩

theorem State.rereadOpenLoop_rereads {s : State} (w : wordsWf 0 s.regs = true) : s.Rereads s.rereadOpenLoop :=
  List.foldlRecOn (motive := fun u : State => s.Rereads u) s.steer.axes _ ⟨.refl _ w _, rfl, fun _ _ => rfl⟩
    fun _ hu p _ => hu.trans (State.rereadAxis_rereads hu.leaves.form p.1)

/-! ## MAP_WRITE (R62) -/

theorem journalWf_of_allWf {s : State} (h : s.allWf = true) : spWf 0 0 s.map.journal = true := by
  simp only [State.allWf, State.controlWf, Bool.and_eq_true] at h
  tauto

theorem masterWf_of_allWf {s : State} (h : s.allWf = true) : spWf 0 0 s.map.master = true := by
  simp only [State.allWf, State.controlWf, Bool.and_eq_true] at h
  tauto

theorem mem_writeIndices {first : Nat} {es : List MapEntry} {p : Nat × MapEntry} (h : p ∈ writeIndices first es) : p.2 ∈ es := by
  rw [writeIndices, List.mem_map] at h
  obtain ⟨q, hq, rfl⟩ := h
  exact (List.of_mem_zip hq).2

theorem badEntry_none {first : Nat} {es : List MapEntry} (h : ∀ e ∈ es, entryCheck e = true) : badEntry (writeIndices first es) = none := by
  rw [badEntry, List.find?_eq_none.mpr fun p hp => by simp [h p.2 (mem_writeIndices hp)]]
  rfl

section
variable {s : State} (hwf : s.allWf = true) {src : Src}
include hwf

theorem mapWrite_done (hacc : s.accepts 0x10 src) {first : Nat} {es : List MapEntry} (hne : es ≠ []) (hlen : es.length ≤ 16380)
    (hlim : first + es.length ≤ mapLimit) (hgood : ∀ e ∈ es, entryCheck e = true)
    (hroom : ((writeIndices first es).foldl (fun j p => spSet 0 j p.1 p.2) s.map.journal).length ≤ 65536) :
    ∃ t, exec (.mapWrite src first es) s = .next t ∧ (∀ i, i < es.length → spGet 0 t.map.journal (first + i) = es.getD i 0) ∧
      (∀ j, j < first ∨ first + es.length ≤ j → spGet 0 t.map.journal j = spGet 0 s.map.journal j) ∧
      answered s t 0x10 src .done 0 t.map.journal.length [] [] ∧
      reports { s.without src with map := { s.map with journal := t.map.journal } } t [] := by
  have hexec : exec (.mapWrite src first es) s = .next (mapWriteBody src first es (s.taking src)) := congrArg Host.Outcome.next (State.handle_accepted hacc _)
  have hget := spGet_writeIndices es first (journalWf_of_allWf hwf)
  obtain ⟨j, hj⟩ : ∃ j, j = (writeIndices first es).foldl (fun j p => spSet 0 j p.1 p.2) s.map.journal := ⟨_, rfl⟩
  have hbody : mapWriteBody src first es (s.taking src) =
      ({ s.taking src with map := { (s.taking src).map with journal := j } } : State).complete 0x10 src .done 0 j.length := by
    rw [mapWriteBody, badEntry_none hgood]
    dsimp only
    rw [if_neg (by rintro (h | h | h); · omega
                   · exact hne h
                   · omega)]
    have hroom' : ¬ 65536 < ((writeIndices first es).foldl (fun j p => spSet 0 j p.1 p.2) (s.taking src).map.journal).length := by
      show ¬ 65536 < ((writeIndices first es).foldl (fun j p => spSet 0 j p.1 p.2) s.map.journal).length
      omega
    rw [if_neg hroom', hj]
    rfl
  rw [← hj] at hget
  obtain ⟨u, hu⟩ : ∃ u : State, u = { s.taking src with map := { (s.taking src).map with journal := j } } := ⟨_, rfl⟩
  have hopen : s.Open u src := by rw [hu]; exact ⟨rfl, rfl, rfl⟩
  have hform : wordsWf 0 u.regs = true := by rw [hu]; exact State.regsWf_of_allWf (s := s) hwf
  have hmap : (u.complete 0x10 src .done 0 j.length).map = { s.map with journal := j } := by
    rw [State.complete_map, hu]; rfl
  have hcount : u = ({ s.without src with map := { s.map with journal := j } } : State).count 11 7 := by rw [hu]; rfl
  rw [hbody, ← hu] at hexec
  refine ⟨_, hexec, ?_⟩
  rw [hmap]
  refine ⟨fun i hi => ?_, fun k hk => ?_, hacc.completed hwf hopen .., ?_⟩
  · rw [hget, if_pos (by omega), Nat.add_sub_cancel_left]
  · rw [hget, if_neg (by omega)]
  · refine reports_trans ?_ (hacc.completion_reports hwf hopen hform ..)
    rw [hcount]
    exact State.count_reports _ 11 7 1 []

theorem mapWrite_bad (hacc : s.accepts 0x10 src) {first : Nat} {es : List MapEntry} {i : Nat} (hne : es ≠ []) (hlen : es.length ≤ 16380)
    (hlim : first + es.length ≤ mapLimit) (hbad : badEntry (writeIndices first es) = some i) :
    ∃ t, exec (.mapWrite src first es) s = .next t ∧ answered s t 0x10 src .refused Reason.range.code i [] [] ∧ reports (s.without src) t [] := by
  obtain ⟨hans, hrep⟩ := hacc.refused hwf .range i
  refine ⟨_, ?_, hans, hrep⟩
  show Host.Outcome.next (s.handle 0x10 src (mapWriteBody src first es)) = _
  rw [State.handle_accepted hacc, mapWriteBody, hbad]
  dsimp only
  rw [if_neg (by rintro (h | h | h); · omega
                 · exact hne h
                 · omega)]

/-! ## MAP_READ (R62, R64) -/

theorem mapRead_done (hacc : s.accepts 0x11 src) {first count : Nat} (h0 : 0 < count) (hlen : count ≤ 1024) (hlim : first + count ≤ mapLimit)
    (hgood : ∀ i, first ≤ i → i < first + count → entryCheck (s.mapWork i) = true) :
    ∃ t, exec (.mapRead src first count false) s = .next t ∧
      answered s t 0x11 src .done 0 0 [] ((List.range count).flatMap (fun i => entryBytes (s.mapWork (first + i)))) ∧
      reports (s.without src) t [] := by
  obtain ⟨hans, hrep⟩ := hacc.settled hwf 0x11 .done 0 0 [] ((List.range count).flatMap (fun i => entryBytes (s.mapWork (first + i))))
  refine ⟨_, ?_, hans, hrep⟩
  show Host.Outcome.next (s.handle 0x11 src (mapReadBody src first count false)) = _
  rw [State.handle_accepted hacc, mapReadBody, if_neg (by omega), readEntries_good (s.taking src) count first hgood]
  rfl

theorem mapRead_journal (hacc : s.accepts 0x11 src) {i : Nat} (hi : i < mapLimit) (hj : spGet 0 s.map.journal i ≠ 0) :
    ∃ t, exec (.mapRead src i 1 true) s = .next t ∧
      answered s t 0x11 src .done 0 0 [] (entryBytes (spGet 0 s.map.journal i)) ∧ reports (s.without src) t [] := by
  obtain ⟨hans, hrep⟩ := hacc.settled hwf 0x11 .done 0 0 [] (entryBytes (spGet 0 s.map.journal i))
  have hread : readEntries true i 1 (s.taking src) = (entryBytes (spGet 0 s.map.journal i), s.taking src) := by
    have hj' : (true && decide (spGet 0 (s.taking src).map.journal i ≠ 0)) = true := decide_eq_true (p := spGet 0 s.map.journal i ≠ 0) hj
    unfold readEntries
    dsimp only
    rw [if_pos hj']
    exact congrArg (fun b => (b, s.taking src)) (List.append_nil _)
  refine ⟨_, ?_, hans, hrep⟩
  show Host.Outcome.next (s.handle 0x11 src (mapReadBody src i 1 true)) = _
  rw [State.handle_accepted hacc, mapReadBody, if_neg (by omega), hread]

end

/-- Reports about a state are reports about it with another map. -/
theorem State.Reported.withMap {s t : State} {l : List Fld} (h : s.Reported t l) (m : MapState) :
    ({ s with map := m } : State).Reported { t with map := m } l := by
  obtain ⟨form, frame, link, pair, kept⟩ := h
  exact ⟨form, by rw [frame], link, pair, kept⟩

section
variable {s : State} (w : wordsWf 0 s.regs = true) (i : Nat)
include w

theorem State.noteRepair_reported : s.Reported (s.noteRepair i) [F.MAP_STATUS.CHECK_ERR] ∧ (s.noteRepair i).fget F.MAP_STATUS.CHECK_ERR = 1 ∧
    (s.noteRepair i).linkRest = s.linkRest := by
  have hset := (State.Reported.refl w [F.MAP_STATUS.CHECK_ERR]).sticky (f := F.MAP_STATUS.CHECK_ERR) (by simp) (by decide) none
  have hself := State.fget_sticky_self w (f := F.MAP_STATUS.CHECK_ERR) (by decide) rfl none
  have hlog := ((State.Reported.refl hset.form []).logEntry (sev := 5) (by decide) 5 .data .memory 0 i 0).count 2 14 1
  exact ⟨(hset.logEntry (by decide) 5 .data .memory 0 i 0).count 2 14 1, (hlog.fget (apart_of_test (by decide))).trans hself,
    by simp [State.noteRepair]⟩

end

theorem mapRead_repaired {s : State} (hwf : s.allWf = true) {src : Src} (hacc : s.accepts 0x11 src) {i : Nat} (hi : i < mapLimit)
    (hbad : entryCheck (s.mapWork i) = false) (hgood : entryCheck (spGet 0 s.map.master i) = true) :
    ∃ t, exec (.mapRead src i 1 false) s = .next t ∧ t.mapWork i = spGet 0 s.map.master i ∧ (∀ j, j ≠ i → t.mapWork j = s.mapWork j) ∧
      answered s t 0x11 src .done 0 0 [] (entryBytes (spGet 0 s.map.master i)) ∧ t.fget F.MAP_STATUS.CHECK_ERR = 1 ∧
      reports { s.without src with map := { s.map with work := t.map.work } } t [F.MAP_STATUS.CHECK_ERR] := by
  have w := State.regsWf_of_allWf hwf
  obtain ⟨hrep, hone, hlink⟩ := State.noteRepair_reported (s := s.taking src) w i
  have hmapn : ((s.taking src).noteRepair i).map = s.map := hrep.map
  have hread := State.mapRead_repair (s := s.taking src) hbad hgood
  rw [hmapn] at hread
  obtain ⟨m, hm⟩ : ∃ m : MapState, m = { s.map with work := spSet 0 s.map.work i (spGet 0 s.map.master i) } := ⟨_, rfl⟩
  have hmaster : (s.taking src).map.master = s.map.master := rfl
  rw [hmaster, ← hm] at hread
  have hexec : exec (.mapRead src i 1 false) s = .next (({ (s.taking src).noteRepair i with map := m } : State).complete 0x11 src .done 0 0 []
      (entryBytes (spGet 0 s.map.master i))) := by
    show Host.Outcome.next (s.handle 0x11 src (mapReadBody src i 1 false)) = _
    rw [State.handle_accepted hacc, mapReadBody, if_neg (by omega), readEntries_succ, hread]
    show Host.Outcome.next (State.complete _ 0x11 src .done 0 0 [] (entryBytes (spGet 0 s.map.master i) ++ [])) = _
    rw [List.append_nil]
    rfl
  refine ⟨_, hexec, ?_⟩
  have hcount := ((State.Reported.refl (s := s.without src) w [F.MAP_STATUS.CHECK_ERR]).count 11 7 1).trans hrep
  have hall := hcount.withMap m
  have hopen : s.Open { (s.taking src).noteRepair i with map := m } src :=
    ⟨queues_of_linkRest hlink, flrDiscard_of_linkRest hlink, State.cqOf_congr src (queues_of_linkRest hlink) (congrArg TowSys.spaces hcount.tows)
      (hcount.fget (apart_of_test (by decide)))⟩
  have hmap : (({ (s.taking src).noteRepair i with map := m } : State).complete 0x11 src .done 0 0 [] (entryBytes (spGet 0 s.map.master i))).map = m :=
    State.complete_map ..
  have hfld := State.fget_of_regs (State.complete_done_regs { (s.taking src).noteRepair i with map := m } 0x11 src 0 0 []
    (entryBytes (spGet 0 s.map.master i))) F.MAP_STATUS.CHECK_ERR
  refine ⟨?_, fun j hj => ?_, hacc.completed hwf hopen .., hfld.trans hone, ?_⟩
  · rw [State.mapWork, hmap, hm]
    exact spGet_spSet_self 0 s.map.work i _ 0 (State.mapWf_of_allWf hwf)
  · rw [State.mapWork, hmap, hm]
    exact spGet_spSet_ne 0 s.map.work i j _ hj
  · rw [hmap]
    have hself : { s.map with work := m.work } = m := by rw [hm]
    rw [hself]
    exact reports_trans hall.reports (hacc.completion_reports hwf hopen hall.form ..)

/-! ## MAP_COMMIT (R62, R63, R204) -/

theorem entryCheck_zero : entryCheck 0 = false := by decide +kernel

/-- The map with its journal committed. -/
def MapState.committed (m : MapState) : MapState :=
  { m with work := m.journal.foldl (fun w p => spSet 0 w p.1 p.2) m.work, journal := []
           dirty := m.journal.foldl (fun d p => if d.contains p.1 then d else d ++ [p.1]) m.dirty }

/-- The machine with its journal committed and sent, and the open-loop axes on the new entries. -/
def State.commitMap (s : State) : State :=
  (s.map.journal.foldl (fun (s : State) p => s.sendJournal (.mapEntry p.1 p.2)) { s with map := s.map.committed }).rereadOpenLoop

theorem mapCommitBody_eq {s : State} (h : s.bit F.MAP_STATUS.COMMIT_BUSY = false) (src : Src) : mapCommitBody src s =
    (s.commitMap.completeCopied 0x12 src s.map.journal.length).fset F.MAP_STATUS.COMMIT_BUSY
      ((s.commitMap.completeCopied 0x12 src s.map.journal.length).pair.waits.any (fun w => decide (w.op = 0x12))).toNat := by
  rw [mapCommitBody, if_neg (by simp [h])]
  rfl

/-- t is s after a commit of the map's journal: the map as committed but for repairs, and all else but the axes. -/
structure State.Commits (s t : State) : Prop where
  kept : fieldsKept s t (F.MAP_STATUS.CHECK_ERR :: logFields)
  link : t.linkRest = s.linkRest
  enOld : t.pair.enOld = s.pair.enOld
  good : ∀ j, entryCheck (spGet 0 s.map.committed.work j) = true → t.mapWork j = spGet 0 s.map.committed.work j
  journal : t.map.journal = []
  master : t.map.master = s.map.master
  dirty : t.map.dirty = s.map.committed.dirty
  rest : t.mem = s.mem ∧ t.lock = s.lock ∧ t.tows = s.tows ∧ t.time = s.time ∧ t.fabric = s.fabric

theorem State.commitMap_commits {s : State} (w : wordsWf 0 s.regs = true) : s.Commits s.commitMap := by
  obtain ⟨u, hu⟩ : ∃ u, u = s.map.journal.foldl (fun (s : State) p => s.sendJournal (.mapEntry p.1 p.2)) { s with map := s.map.committed } := ⟨_, rfl⟩
  have hrep : ({ s with map := s.map.committed } : State).Reported u [] := by
    rw [hu]
    exact (State.Reported.refl (s := { s with map := s.map.committed }) w []).foldl fun v hv p _ => (State.Reported.refl hv _).sendJournal _
  obtain ⟨hregs, hlink, hold⟩ : u.regs = s.regs ∧ u.link = s.link ∧ u.pair.enOld = s.pair.enOld := by
    rw [hu]
    exact List.foldlRecOn (motive := fun v : State => v.regs = s.regs ∧ v.link = s.link ∧ v.pair.enOld = s.pair.enOld) _ _ ⟨rfl, rfl, rfl⟩
      fun v hv p _ => ⟨(State.sendJournal_regs ..).trans hv.1, (State.sendJournal_link ..).trans hv.2.1, (State.sendJournal_enOld ..).trans hv.2.2⟩
  have hread := State.rereadOpenLoop_rereads hrep.form
  have hcommit : s.commitMap = u.rereadOpenLoop := by rw [hu]; rfl
  have humap : u.map = s.map.committed := hrep.map
  rw [hcommit]
  generalize u.rereadOpenLoop = t at hread ⊢
  obtain ⟨hleaves, hrest, hgood⟩ := hread
  have hmap : ({ t.map with work := [] } : MapState) = { u.map with work := [] } := hleaves.get State.map
  rw [humap] at hmap
  have hpair : t.pair = u.pair := hleaves.get State.pair
  have hrest' : u.linkRest = s.linkRest := by rw [State.linkRest, State.linkRest, hlink]
  refine ⟨fun g hg => (hleaves.kept g hg).trans (State.fget_of_regs hregs g), hrest.trans hrest', by rw [hpair, hold], fun j hj => ?_,
    (congrArg MapState.journal hmap :), (congrArg MapState.master hmap :), (congrArg MapState.dirty hmap :),
    (hleaves.get State.mem).trans hrep.mem, (hleaves.get State.lock).trans hrep.lock, (hleaves.get State.tows).trans hrep.tows,
    (hleaves.get State.time).trans hrep.time, (hleaves.get State.fabric).trans hrep.fabric⟩
  rw [hgood j (by rw [State.mapWork, humap]; exact hj), State.mapWork, humap]

section
variable {s : State} (hwf : s.allWf = true) {src : Src} (hacc : s.accepts 0x12 src)
include hwf hacc

theorem mapCommit_busy (hbusy : s.fget F.MAP_STATUS.COMMIT_BUSY = 1) :
    ∃ t, exec (.mapCommit src) s = .next t ∧ answered s t 0x12 src .refused Reason.inProgress.code 0 [] [] ∧ reports (s.without src) t [] := by
  obtain ⟨hans, hrep⟩ := hacc.refused hwf .inProgress 0
  refine ⟨_, ?_, hans, hrep⟩
  have hb : (s.taking src).bit F.MAP_STATUS.COMMIT_BUSY = true := by
    show decide (s.fget F.MAP_STATUS.COMMIT_BUSY ≠ 0) = true
    rw [hbusy]
    rfl
  show Host.Outcome.next (s.handle 0x12 src (mapCommitBody src)) = _
  rw [State.handle_accepted hacc, mapCommitBody, if_pos hb]

theorem mapCommit_done (hfree : s.fget F.MAP_STATUS.COMMIT_BUSY = 0) :
    ∃ t, exec (.mapCommit src) s = .next t ∧ t.map.journal = [] ∧ t.map.master = s.map.master ∧
      (∀ i, entryCheck (spGet 0 s.map.journal i) = true → t.mapWork i = spGet 0 s.map.journal i) ∧
      (∀ i, spGet 0 s.map.journal i = 0 → entryCheck (s.mapWork i) = true → t.mapWork i = s.mapWork i) ∧
      (∀ i, i ∈ t.map.dirty ↔ i ∈ s.map.dirty ∨ ∃ e, (i, e) ∈ s.map.journal) ∧ t.mem = s.mem ∧ t.lock = s.lock ∧ t.tows = s.tows ∧
      t.time = s.time ∧ t.fabric = s.fabric ∧
      fieldsKept s t (F.MAP_STATUS.COMMIT_BUSY :: F.MAP_STATUS.CHECK_ERR :: logFields) ∧
      (s.attached = false → answered s t 0x12 src .done 0 s.map.journal.length [] []) := by
  have w := State.regsWf_of_allWf hwf
  have hb : (s.taking src).bit F.MAP_STATUS.COMMIT_BUSY = false := by
    show decide (s.fget F.MAP_STATUS.COMMIT_BUSY ≠ 0) = false
    rw [hfree]
    rfl
  have hexec : exec (.mapCommit src) s = .next (mapCommitBody src (s.taking src)) := congrArg Host.Outcome.next (State.handle_accepted hacc _)
  rw [mapCommitBody_eq hb] at hexec
  obtain ⟨hkept, hlink, hold, hgood, hjournal, hmaster, hdirty, hmem, hlock, htows, htime, hfabric⟩ :=
    State.commitMap_commits (s := s.taking src) w
  have hwork : ∀ i, spGet 0 (s.taking src).map.committed.work i = if spGet 0 s.map.journal i = 0 then s.mapWork i else spGet 0 s.map.journal i :=
    fun i => spGet_foldl_store 0 (journalWf_of_allWf hwf) (State.mapWf_of_allWf hwf) i
  have hkeys : ∀ i, i ∈ (s.taking src).map.committed.dirty ↔ i ∈ s.map.dirty ∨ ∃ e, (i, e) ∈ s.map.journal := fun i => mem_foldl_keys _ _ i
  have hregw : wordsWf 0 (s.taking src).commitMap.regs = true := (State.rereadOpenLoop_rereads (by
    exact ((State.Reported.refl (s := { s.taking src with map := (s.taking src).map.committed }) w []).foldl fun v hv p _ =>
      (State.Reported.refl hv _).sendJournal _).form)).leaves.form
  generalize (s.taking src).commitMap = u at *
  have hset := (State.Writes.refl (s := u.completeCopied 0x12 src s.map.journal.length) (by simpa using hregw)
    [F.MAP_STATUS.COMMIT_BUSY]).fset (f := F.MAP_STATUS.COMMIT_BUSY) (by simp) (by decide)
      ((u.completeCopied 0x12 src s.map.journal.length).pair.waits.any (fun w => decide (w.op = 0x12))).toNat
  refine ⟨_, hexec, ?_, ?_, fun i hi => ?_, fun i h0 hi => ?_, fun i => ?_, ?_, ?_, ?_, ?_, ?_, fun g hg => ?_, fun hoff => ?_⟩
  · exact (congrArg MapState.journal (State.completeCopied_map ..)).trans hjournal
  · exact (congrArg MapState.master (State.completeCopied_map ..)).trans hmaster
  · have hne : spGet 0 s.map.journal i ≠ 0 := fun e => by rw [e, entryCheck_zero] at hi; cases hi
    have hi' := hwork i
    rw [if_neg hne] at hi'
    have hu : u.mapWork i = spGet 0 s.map.journal i := (hgood i (by rw [hi']; exact hi)).trans hi'
    exact (congrArg (fun m : MapState => spGet 0 m.work i) (State.completeCopied_map ..)).trans hu
  · have hi' := hwork i
    rw [if_pos h0] at hi'
    have hu : u.mapWork i = s.mapWork i := (hgood i (by rw [hi']; exact hi)).trans hi'
    exact (congrArg (fun m : MapState => spGet 0 m.work i) (State.completeCopied_map ..)).trans hu
  · have hd : ((u.completeCopied 0x12 src s.map.journal.length).fset F.MAP_STATUS.COMMIT_BUSY
        ((u.completeCopied 0x12 src s.map.journal.length).pair.waits.any (fun w => decide (w.op = 0x12))).toNat).map.dirty =
        (s.taking src).map.committed.dirty := (congrArg MapState.dirty (State.completeCopied_map ..)).trans hdirty
    exact (iff_of_eq (congrArg (fun l => i ∈ l) hd)).trans (hkeys i)
  · exact (State.completeCopied_mem ..).trans hmem
  · exact (State.completeCopied_lock ..).trans hlock
  · exact (State.completeCopied_tows ..).trans htows
  · exact (State.completeCopied_time ..).trans htime
  · exact (State.completeCopied_fabric ..).trans hfabric
  · refine (hset.kept g fun x hx => hg x ?_).trans ((State.fget_of_regs (State.completeCopied_regs ..) g).trans ((hkept g fun x hx => hg x ?_).trans rfl))
    · exact List.mem_cons.mpr (.inl (List.mem_singleton.mp hx))
    · exact List.mem_cons_of_mem _ hx
  · have hatt : u.attached = false := by
      rw [State.attached_congr (hkept _ (apart_of_test (by decide))) (hkept _ (apart_of_test (by decide))) hold]
      exact hoff
    have hopen : s.Open u src := ⟨queues_of_linkRest hlink, flrDiscard_of_linkRest hlink,
      State.cqOf_congr src (queues_of_linkRest hlink) (congrArg TowSys.spaces htows) (hkept _ (apart_of_test (by decide)))⟩
    obtain ⟨n, hn⟩ := hacc.completed hwf hopen 0x12 .done 0 s.map.journal.length [] []
    refine ⟨n, ?_⟩
    rw [← State.completeCopied_eq hatt] at hn
    exact hn

end

/-- Settles O20: each command is one change of the journal or of the working copy, and a reading repairs an entry whose check fails from the
master copy. -/
theorem pointingMap : Obligations.PointingMap := by
  unfold Obligations.PointingMap
  refine ⟨fun s src first es hwf hacc hne hlen hlim hgood hroom => mapWrite_done hwf hacc hne hlen hlim hgood hroom,
    fun s src first es i hwf hacc hne hlen hlim hbad => mapWrite_bad hwf hacc hne hlen hlim hbad,
    fun s src first count hwf hacc h0 hlen hlim hgood => mapRead_done hwf hacc h0 hlen hlim hgood,
    fun s src i hwf hacc hi => ⟨fun hj => mapRead_journal hwf hacc hi hj, fun hbad hgood => mapRead_repaired hwf hacc hi hbad hgood⟩,
    fun s src hwf hacc hfree => mapCommit_done hwf hacc hfree, fun s src hwf hacc hbusy => mapCommit_busy hwf hacc hbusy,
    fun s hwf => ⟨mapFlash s, rfl, fun i hi => ?_, fun i hi => ?_, rfl⟩, fun s => ⟨mapReload s, rfl, fun i => rfl, rfl, rfl⟩⟩
  · exact (spGet_foldl_keys 0 s.mapWork s.map.dirty (masterWf_of_allWf hwf) i).trans (if_pos hi)
  · exact (spGet_foldl_keys 0 s.mapWork s.map.dirty (masterWf_of_allWf hwf) i).trans (if_neg hi)

end Sys2Proof.Machine
end

section
/-!
PROOFS. Host writes in the block of a reach (R36–R39, R56–R58, R205, R334, R384), and the statement.
-/

namespace Sys2Proof.Machine

/-! ## The block of a reach (R314, R334, R385) -/

theorem ownerOf_reach {r o : Nat} (hr : r < 9) (ho : o < 0x10000) : ownerOf (0x400000 + r * 0x10000 + o) = r := by
  rw [ownerOf, if_pos (by omega)]
  omega

section
variable {s : State} {r o : Nat} (hr : r < 8) (ho : o < 0x10000) (hcores : s.boot.coresUp = true) (hrung : s.rung ≤ 2)
include ho hcores hrung

omit ho in
theorem State.reaches_reach : s.reaches (0x400000 + r * 0x10000 + o) = true := by
  rw [State.reaches]
  simp [hcores, hrung]

include hr

theorem State.hostWrite_reach (hup : s.poundState r ≠ 3) (k : State → State) : s.hostWrite (0x400000 + r * 0x10000 + o) k = k s := by
  have hnone : s.reloading (0x400000 + r * 0x10000 + o) = none := by
    rw [State.reloading, ownerOf_reach (by omega) ho]
    exact if_neg fun h => hup h.2
  rw [State.hostWrite, if_pos (State.reaches_reach hcores hrung), hnone]

theorem State.hostWrite_lost (hdown : s.poundState r = 3) (k : State → State) :
    s.hostWrite (0x400000 + r * 0x10000 + o) k = s.sticky (F.POUND_STATUS.WRITE_LOST r) (some 6) := by
  have hsome : s.reloading (0x400000 + r * 0x10000 + o) = some r := by
    rw [State.reloading, ownerOf_reach (by omega) ho]
    exact if_pos ⟨by omega, hdown⟩
  rw [State.hostWrite, if_pos (State.reaches_reach hcores hrung), hsome]

end

/-! ## RECAL (R57) -/

/-- An entry of a store in canonical form is what its key reads. -/
theorem spGet_of_mem {α : Type} [DecidableEq α] {d : α} {m : Sparse α} {lo : Nat} (w : spWf d lo m = true) {p : Nat × α} (h : p ∈ m) :
    spGet d m p.1 = p.2 := by
  induction m generalizing lo with
  | nil => cases h
  | cons q m ih =>
    obtain ⟨k, v⟩ := q
    simp only [spWf, Bool.and_eq_true, decide_eq_true_eq] at w
    rcases List.mem_cons.mp h with rfl | h
    · simp [spGet]
    · have hv := ih w.2 h
      have hne : k ≠ p.1 := fun e => by
        have hd := mem_ne_default w.2 h
        rw [← e, spGet_spSet_self.spGet_below d m (k + 1) k w.2 (Nat.lt_succ_self _)] at hv
        exact hd hv.symm
      simpa [spGet, hne] using hv
where
  mem_ne_default {m : Sparse α} {lo : Nat} (w : spWf d lo m = true) {p : Nat × α} (h : p ∈ m) : p.2 ≠ d := by
    induction m generalizing lo with
    | nil => cases h
    | cons q m ih =>
      obtain ⟨k, v⟩ := q
      simp only [spWf, Bool.and_eq_true, decide_eq_true_eq] at w
      rcases List.mem_cons.mp h with rfl | h
      · exact w.1.2
      · exact ih w.2 h

/-- Every axis of a list of them asked for its recalibration. -/
theorem State.recalAll_spec (l : Sparse Axis) {s : State} (wX : spWf {} 0 s.steer.axes = true) (a : Nat) :
    (a ∈ l.map (fun p => p.1) → ((l.foldl (fun s p => s.modAll p.1 (fun x => { x with recal := 1 })) s).axis a).recal = 1) ∧
    (a ∉ l.map (fun p => p.1) → (l.foldl (fun s p => s.modAll p.1 (fun x => { x with recal := 1 })) s).axis a = s.axis a) := by
  have hkeep : ∀ (l : Sparse Axis) (u : State), spWf {} 0 u.steer.axes = true → (u.axis a).recal = 1 →
      ((l.foldl (fun s p => s.modAll p.1 (fun x => { x with recal := 1 })) u).axis a).recal = 1 := fun l u wu hu =>
    (List.foldlRecOn (motive := fun u : State => spWf {} 0 u.steer.axes = true ∧ (u.axis a).recal = 1) l _ ⟨wu, hu⟩ fun u hu p _ => by
      refine ⟨State.modAll_axesWf hu.1 _ _, ?_⟩
      by_cases h : a = p.1
      · rw [h, State.axis_modAll_self hu.1]
      · rw [State.axis_modAll_ne _ h]; exact hu.2).2
  induction l generalizing s with
  | nil => exact ⟨fun h => (by cases h), fun _ => rfl⟩
  | cons p l ih =>
    obtain ⟨hin, hout⟩ := ih (State.modAll_axesWf wX p.1 (fun x => { x with recal := 1 }))
    rw [List.map_cons, List.foldl_cons]
    refine ⟨fun h => ?_, fun h => ?_⟩
    · rcases List.mem_cons.mp h with rfl | h
      · exact hkeep l _ (State.modAll_axesWf wX _ _) (by rw [State.axis_modAll_self wX])
      · exact hin h
    · rw [hout fun hm => h (List.mem_cons_of_mem _ hm)]
      exact State.axis_modAll_ne _ (fun e => h (by rw [e]; exact List.mem_cons_self)) _

theorem State.pendRecal_spec {s : State} (wX : spWf {} 0 s.steer.axes = true) {r : Nat} (hr : r ≠ 8) :
    (∀ a, s.reachOf a = r → a ∈ s.steer.axes.map (fun p => p.1) → (s.axis a).mode = 0 → ((s.pendRecal r).axis a).recal = 1) ∧
    (∀ a, s.reachOf a ≠ r ∨ (s.axis a).mode ≠ 0 → (s.pendRecal r).axis a = s.axis a) ∧
    s.pendRecal r = { s with steer := (s.pendRecal r).steer } := by
  have hval : ∀ p ∈ s.steer.axes, s.axis p.1 = p.2 := fun p hp => spGet_of_mem wX hp
  unfold State.pendRecal
  rw [if_neg hr]
  dsimp only
  refine ⟨fun a hreach hin hmode => ?_, fun a hout => ?_, ?_⟩
  · refine (State.recalAll_spec _ wX a).1 ?_
    obtain ⟨p, hp, rfl⟩ := List.mem_map.mp hin
    refine List.mem_map.mpr ⟨p, List.mem_filter.mpr ⟨hp, ?_⟩, rfl⟩
    rw [hval p hp] at hmode
    simp [hreach, hmode]
  · refine (State.recalAll_spec _ wX a).2 fun hin => ?_
    obtain ⟨p, hp, rfl⟩ := List.mem_map.mp hin
    obtain ⟨hp, hok⟩ := List.mem_filter.mp hp
    simp only [Bool.and_eq_true, decide_eq_true_eq] at hok
    rw [hval p hp] at hout
    omega
  · exact List.foldlRecOn (motive := fun u : State => u = { s with steer := u.steer }) _ _ rfl fun u hu p _ => by
      have h := State.modAll_frame u p.1 (fun x => { x with recal := 1 })
      generalize u.modAll p.1 (fun x => { x with recal := 1 }) = v at h ⊢
      rw [h, hu]

/-! ## Mirrored settings (R205) -/

theorem State.mirrorWrite_ignored {s : State} (w : wordsWf 0 s.regs = true) (h : s.active = false) (k : State → State) :
    ∃ t, s.mirrorWrite true k = t ∧ t.fget F.PAIR_STATUS.WRITE_IGN = 1 ∧ t = { s with regs := t.regs } ∧ fieldsKept s t [F.PAIR_STATUS.WRITE_IGN] := by
  have hw := (State.Writes.refl w [F.PAIR_STATUS.WRITE_IGN]).fset (f := F.PAIR_STATUS.WRITE_IGN) (by simp) (by decide) 1
  exact ⟨_, by rw [State.mirrorWrite, if_neg (by simp [h]), if_pos rfl], State.fget_fset_self s _ 1 (by decide) w, hw.frame, hw.kept⟩

theorem State.mirrorWrite_same {s : State} (h : s.active = false) (k : State → State) : s.mirrorWrite false k = s := by
  rw [State.mirrorWrite, if_neg (by simp [h]), if_neg Bool.false_ne_true]

/-- One register field written. -/
theorem State.fset_spec {s : State} (w : wordsWf 0 s.regs = true) {f : Fld} (fits : f.lo + f.width ≤ 32) (v : Nat) :
    (s.fset f v).fget f = v % 2 ^ f.width ∧ s.fset f v = { s with regs := (s.fset f v).regs } ∧ fieldsKept s (s.fset f v) [f] :=
  have hw := (State.Writes.refl w [f]).fset (by simp) fits v
  ⟨State.fget_fset_self s f v fits w, hw.frame, hw.kept⟩

section
variable {s : State} {r : Nat} (hr : r < 8) (hcores : s.boot.coresUp = true) (hrung : s.rung ≤ 2)
include hr hcores hrung

/-! ## Writes lost in a reload (R334) -/

theorem reach_writeLost (w : wordsWf 0 s.regs = true) (hdown : s.poundState r = 3) {c : Instr}
    (hc : c = .clear r ∨ c = .recal r ∨ c = .relieve r ∨ c = .returnReach r ∨ (∃ en, c = .reachEnWrite r en) ∨ (∃ v, c = .swap r v) ∨
      (∃ g, g < 4 ∧ c = .gangChange r g) ∨ (∃ j v, j < 580 ∧ c = .axisFlagsWrite r j v)) :
    ∃ t, exec c s = .next t ∧ t.fget (F.POUND_STATUS.WRITE_LOST r) = 1 ∧ reports s t [F.POUND_STATUS.WRITE_LOST r] := by
  refine ⟨s.sticky (F.POUND_STATUS.WRITE_LOST r) (some 6), ?_, State.fget_sticky_self w (Nat.le_of_ble_eq_true rfl) rfl _,
    ((State.Reported.refl w _).sticky (by simp) (Nat.le_of_ble_eq_true rfl) _).reports⟩
  have hok : okReach r = true := decide_eq_true (by omega)
  have hlost : ∀ (o : Nat), o < 0x10000 → ∀ k : State → State, ifOk (okReach r) (s.hostWrite (0x400000 + r * 0x10000 + o) k) =
      .next (s.sticky (F.POUND_STATUS.WRITE_LOST r) (some 6)) := fun o ho k => by
    rw [hok, State.hostWrite_lost hr ho hcores hrung hdown]
    rfl
  rcases hc with rfl | rfl | rfl | rfl | ⟨en, rfl⟩ | ⟨v, rfl⟩ | ⟨g, hg, rfl⟩ | ⟨j, v, hj, rfl⟩
  · exact hlost 0x10 (by decide) _
  · exact hlost 0x14 (by decide) _
  · exact hlost 0 (by decide) _
  · exact hlost 0 (by decide) _
  · exact hlost 0 (by decide) _
  · exact hlost 8 (by decide) _
  · show execGangChange r g s = _
    rw [execGangChange, decide_eq_true hg, Bool.and_true]
    exact hlost 0x18 (by decide) _
  · show execAxisFlagsWrite r j v s = _
    rw [execAxisFlagsWrite, decide_eq_true hj, Bool.and_true, flagsOff, show 0x402000 + r * 0x10000 + 4 * j = 0x400000 + r * 0x10000 + (0x2000 + 4 * j) by omega]
    exact hlost _ (by omega) _

/-! ## Writes on a module that is not ACTIVE (R205) -/

variable (hup : s.poundState r ≠ 3)
include hup

theorem exec_swap (v : BitVec 16) : exec (.swap r v) s = .next (s.mirrorWrite (decide (v ≠ 0)) (requestSwap r v.toNat)) := by
  have hok : okReach r = true := decide_eq_true (by omega)
  show ifOk (okReach r) (s.hostWrite (0x400000 + r * 0x10000 + 8) _) = _
  rw [hok, State.hostWrite_reach hr (by decide) hcores hrung hup]
  rfl

theorem exec_clear : exec (.clear r) s = .next (s.mirrorWrite false (clearReq r)) := by
  have hok : okReach r = true := decide_eq_true (by omega)
  show ifOk (okReach r) (s.hostWrite (0x400000 + r * 0x10000 + 0x10) _) = _
  rw [hok, State.hostWrite_reach hr (by decide) hcores hrung hup]
  rfl

theorem exec_recal : exec (.recal r) s = .next (s.mirrorWrite false (recalReq r)) := by
  have hok : okReach r = true := decide_eq_true (by omega)
  show ifOk (okReach r) (s.hostWrite (0x400000 + r * 0x10000 + 0x14) _) = _
  rw [hok, State.hostWrite_reach hr (by decide) hcores hrung hup]
  rfl

theorem exec_reachEnWrite (en : Bool) : exec (.reachEnWrite r en) s = .next (reachEnWrite r en s) := by
  have hok : okReach r = true := decide_eq_true (by omega)
  show ifOk (okReach r) (s.hostWrite (0x400000 + r * 0x10000 + 0) _) = _
  rw [hok, State.hostWrite_reach hr (by decide) hcores hrung hup]
  rfl

theorem exec_gangChange {g : Nat} (hg : g < 4) : exec (.gangChange r g) s = .next (s.mirrorWrite (decide (s.gangShown r ≠ g)) (gangChange r g)) := by
  have hok : (okReach r && decide (g < 4)) = true := by rw [decide_eq_true hg, Bool.and_true]; exact decide_eq_true (by omega)
  show ifOk (okReach r && decide (g < 4)) (s.hostWrite (0x400000 + r * 0x10000 + 0x18) _) = _
  rw [hok, State.hostWrite_reach hr (by decide) hcores hrung hup]
  rfl

theorem exec_axisFlagsWrite {j : Nat} (hj : j < 580) (v : Word) : exec (.axisFlagsWrite r j v) s = .next (
    match s.axisAt r j with
    | none => s
    | some a => s.mirrorWrite (flagsChange (s.axis a) v) (flagsWrite r a v)) := by
  have hok : (okReach r && decide (j < 580)) = true := by rw [decide_eq_true hj, Bool.and_true]; exact decide_eq_true (by omega)
  have hslot : s.slotAxis r j = s.axisAt r j := by rw [State.slotAxis, if_neg (by omega)]
  show ifOk (okReach r && decide (j < 580)) (s.hostWrite (0x402000 + r * 0x10000 + 4 * j) (axisFlagsWrite r j v)) = _
  rw [hok, show 0x402000 + r * 0x10000 + 4 * j = 0x400000 + r * 0x10000 + (0x2000 + 4 * j) by omega,
    State.hostWrite_reach hr (by omega) hcores hrung hup, axisFlagsWrite, hslot]
  rfl

theorem reach_ignored (w : wordsWf 0 s.regs = true) (hact : s.active = false) :
    exec (.clear r) s = .next s ∧ exec (.recal r) s = .next s ∧
    (∀ classes : BitVec 16, classes ≠ 0 → ∃ t, exec (.swap r classes) s = .next t ∧ t.fget F.PAIR_STATUS.WRITE_IGN = 1 ∧
      t = { s with regs := t.regs } ∧ fieldsKept s t [F.PAIR_STATUS.WRITE_IGN]) ∧
    (∀ g, g < 4 → g ≠ s.gangShown r → ∃ t, exec (.gangChange r g) s = .next t ∧ t.fget F.PAIR_STATUS.WRITE_IGN = 1 ∧
      t = { s with regs := t.regs } ∧ fieldsKept s t [F.PAIR_STATUS.WRITE_IGN]) ∧
    (∀ (j a : Nat) (v : Word), j < 580 → s.axisAt r j = some a → flagsChange (s.axis a) v = true →
      ∃ t, exec (.axisFlagsWrite r j v) s = .next t ∧ t.fget F.PAIR_STATUS.WRITE_IGN = 1 ∧
        t = { s with regs := t.regs } ∧ fieldsKept s t [F.PAIR_STATUS.WRITE_IGN]) := by
  refine ⟨?_, ?_, fun v hv => ?_, fun g hg hne => ?_, fun j a v hj ha hch => ?_⟩
  · rw [exec_clear hr hcores hrung hup, State.mirrorWrite_same hact]
  · rw [exec_recal hr hcores hrung hup, State.mirrorWrite_same hact]
  · obtain ⟨t, ht, h⟩ := State.mirrorWrite_ignored w hact (requestSwap r v.toNat)
    refine ⟨t, ?_, h⟩
    rw [exec_swap hr hcores hrung hup, decide_eq_true hv, ht]
  · obtain ⟨t, ht, h⟩ := State.mirrorWrite_ignored w hact (gangChange r g)
    refine ⟨t, ?_, h⟩
    rw [exec_gangChange hr hcores hrung hup hg, decide_eq_true (Ne.symm hne), ht]
  · obtain ⟨t, ht, h⟩ := State.mirrorWrite_ignored w hact (flagsWrite r a v)
    refine ⟨t, ?_, h⟩
    rw [exec_axisFlagsWrite hr hcores hrung hup hj, ha]
    dsimp only
    rw [hch, ht]

/-! ## Writes on an ACTIVE module (R38, R56–R58, R384) -/

section
variable (w : wordsWf 0 s.regs = true) (hact : s.active = true)
include w hact

theorem reach_swap {c : Nat} (hc : c < 16) : ∃ t, exec (.swap r (BitVec.ofNat 16 (2 ^ c))) s = .next t ∧
    (∀ k ∈ s.gangOf r, t.fget (F.LAW_BANK_SEL.SWAP k) / 2 ^ c % 2 = 1) ∧ t = { s with regs := t.regs } ∧
    (∀ k, k < 9 → t.fget (F.LAW_BANK_SEL.ACTIVE k) = s.fget (F.LAW_BANK_SEL.ACTIVE k)) := by
  have hfit : ∀ k, (F.LAW_BANK_SEL.SWAP k).lo + (F.LAW_BANK_SEL.SWAP k).width ≤ 32 := fun _ => Nat.le_refl _
  have hpow : (BitVec.ofNat 16 (2 ^ c)).toNat = 2 ^ c := by
    rw [BitVec.toNat_ofNat]
    exact Nat.mod_eq_of_lt (Nat.pow_lt_pow_right (by decide) hc)
  have hbit : ∀ n, ((n ||| 2 ^ c) % 2 ^ 16) / 2 ^ c % 2 = 1 := fun n => by
    have h : ((n ||| 2 ^ c) % 2 ^ 16).testBit c = true := by rw [Nat.testBit_mod_two_pow]; simp [hc]
    rw [Nat.testBit_eq_decide_div_mod_eq] at h
    exact of_decide_eq_true h
  have hstep : ∀ (u : State) (k : Nat), wordsWf 0 u.regs = true → u.Writes (u.fset (F.LAW_BANK_SEL.SWAP k)
      (u.fget (F.LAW_BANK_SEL.SWAP k) ||| 2 ^ c)) [F.LAW_BANK_SEL.SWAP k] := fun u k hu => (State.Writes.refl hu _).fset (by simp) (hfit k) _
  refine ⟨requestSwap r (2 ^ c) s, ?_, fun k hk => ?_, ?_, fun k _ => ?_⟩
  · rw [exec_swap hr hcores hrung hup, State.mirrorWrite_active hact, hpow]
  · refine (foldl_reaches _ (fun u : State => wordsWf 0 u.regs = true)
      (fun u : State => wordsWf 0 u.regs = true ∧ u.fget (F.LAW_BANK_SEL.SWAP k) / 2 ^ c % 2 = 1) k (fun u j _ hu => (hstep u j hu).form)
      (fun u hu => ⟨(hstep u k hu).form, ?_⟩) (fun u j hj hu => ⟨(hstep u j hu.1).form, ?_⟩) (s.gangOf r)
      (List.nodup_range.filter _) hk s w).2
    · rw [State.fget_fset_self _ _ _ (hfit k) hu]
      exact hbit _
    · rw [State.fget_fset_apart _ _ _ _ (hfit j) hu.1 (.inl (by simp only [F.LAW_BANK_SEL.SWAP]; omega))]
      exact hu.2
  · exact List.foldlRecOn (motive := fun u : State => u = { s with regs := u.regs }) (s.gangOf r) _ rfl fun u hu j _ => by
      have h : ∀ v, u.fset (F.LAW_BANK_SEL.SWAP j) v = { u with regs := (u.fset (F.LAW_BANK_SEL.SWAP j) v).regs } := fun _ => rfl
      rw [h, hu]
  · refine (List.foldlRecOn (motive := fun u : State => wordsWf 0 u.regs = true ∧
      u.fget (F.LAW_BANK_SEL.ACTIVE k) = s.fget (F.LAW_BANK_SEL.ACTIVE k)) (s.gangOf r) _ ⟨w, rfl⟩ fun u hu j _ => ⟨(hstep u j hu.1).form, ?_⟩).2
    rw [State.fget_fset_apart _ _ _ _ (hfit j) hu.1
      (show Fld.apart (F.LAW_BANK_SEL.SWAP j) (F.LAW_BANK_SEL.ACTIVE k) from .inr (.inr (Nat.le_refl 16)))]
    exact hu.2

theorem reach_gangErr {g : Nat} (hg : g < 4) (hne : g ≠ s.gangShown r) (hcyc : s.reachInCycle r = true) :
    ∃ t, exec (.gangChange r g) s = .next t ∧ t.fget (F.REACH_STATUS.GANG_ERR r) = 1 ∧ t.gangShown r = s.gangShown r ∧
      t = { s with regs := t.regs } ∧ fieldsKept s t [F.REACH_STATUS.GANG_ERR r] := by
  obtain ⟨hself, hframe, hkept⟩ := State.fset_spec w (f := F.REACH_STATUS.GANG_ERR r) (Nat.le_of_ble_eq_true rfl) 1
  refine ⟨_, ?_, hself, ?_, hframe, hkept⟩
  · rw [exec_gangChange hr hcores hrung hup hg, State.mirrorWrite_active hact, gangChange, if_neg (Ne.symm hne), if_pos hcyc]
  · have hfld : (s.fset (F.REACH_STATUS.GANG_ERR r) 1).fget (F.GANG_CTRL.GANG r) = s.fget (F.GANG_CTRL.GANG r) :=
      hkept _ fun f hf => by
        rw [List.mem_singleton.mp hf]
        exact .inl (by simp only [F.REACH_STATUS.GANG_ERR, F.GANG_CTRL.GANG]; omega)
    rw [State.gangShown, State.gangShown, hfld]
    rfl

omit w in
theorem reach_gang {g : Nat} (hg : g < 4) (hcyc : s.reachInCycle r = false) :
    ∃ t, exec (.gangChange r g) s = .next t ∧ t.gangShown r = g ∧ t = { s with steer := { s.steer with gangPend := t.steer.gangPend } } := by
  rw [exec_gangChange hr hcores hrung hup hg, State.mirrorWrite_active hact, gangChange]
  by_cases hsame : s.gangShown r = g
  · exact ⟨s, by rw [if_pos hsame], hsame, rfl⟩
  · rw [if_neg hsame, if_neg (by simp [hcyc])]
    have hnone : (s.steer.gangPend.filter (fun p => p.1 ≠ r)).find? (fun p => p.1 = r) = none := by
      rw [List.find?_eq_none]
      intro p hp
      have := (List.mem_filter.mp hp).2
      simpa using this
    refine ⟨_, rfl, ?_, rfl⟩
    unfold State.gangShown
    dsimp only
    by_cases hnow : s.fget (F.GANG_CTRL.GANG r) = g
    · rw [if_pos hnow, hnone]
      exact hnow
    · rw [if_neg hnow, List.find?_append, hnone]
      simp

theorem reach_flags (wX : spWf {} 0 s.steer.axes = true) {j a : Nat} (v : Word) (hj : j < 580) (ha : s.axisAt r j = some a) :
    ∃ t, exec (.axisFlagsWrite r j v) s = .next t ∧ (t.axis a).flags = (s.axis a).flags &&& ~~~(v &&& 0x7F) ∧
      (t.axis a).modeReq = (if v.toNat / 2 ^ 26 % 4 = 0 ∨ v.toNat / 2 ^ 26 % 4 = 2 then some (v.toNat / 2 ^ 26 % 4) else (s.axis a).modeReq) ∧
      (t.axis a).classReq = (if s.unlocked r then some (v.toNat / 2 ^ 28) else (s.axis a).classReq) ∧
      (∀ b, b ≠ a → t.axis b = s.axis b) ∧ reports { s with steer := t.steer } t [] := by
  obtain ⟨u, hu⟩ : ∃ u, u = (s.clearSticky a v).modAll a (fun x => { x with
      modeReq := if v.toNat / 2 ^ 26 % 4 = 0 ∨ v.toNat / 2 ^ 26 % 4 = 2 then some (v.toNat / 2 ^ 26 % 4) else x.modeReq
      classReq := if s.unlocked r then some (v.toNat / 2 ^ 28) else x.classReq }) := ⟨_, rfl⟩
  have hself : u.axis a = { s.axis a with
      flags := (s.axis a).flags &&& ~~~(v &&& 0x7F)
      modeReq := if v.toNat / 2 ^ 26 % 4 = 0 ∨ v.toNat / 2 ^ 26 % 4 = 2 then some (v.toNat / 2 ^ 26 % 4) else (s.axis a).modeReq
      classReq := if s.unlocked r then some (v.toNat / 2 ^ 28) else (s.axis a).classReq } := by
    have hclear : (s.clearSticky a v).axis a = { s.axis a with flags := (s.axis a).flags &&& ~~~(v &&& 0x7F) } :=
      spGet_spSet_self _ s.steer.axes a _ 0 wX
    rw [hu, State.axis_modAll_self (spSet_wf _ s.steer.axes a _ 0 (Nat.zero_le _) wX), hclear]
  have hother : ∀ b, b ≠ a → u.axis b = s.axis b := fun b hb => by
    rw [hu, State.axis_modAll_ne _ hb]
    exact spGet_spSet_ne _ s.steer.axes a b _ hb
  have hframe : u = { s with steer := u.steer } := by rw [hu]; rfl
  have hregs : u.regs = s.regs := by rw [hframe]
  have hexec : exec (.axisFlagsWrite r j v) s = .next (if s.unlocked r then u.sendJournal (.axisClass a (v.toNat / 2 ^ 28)) else u) := by
    rw [exec_axisFlagsWrite hr hcores hrung hup hj, ha]
    dsimp only
    rw [State.mirrorWrite_active hact, hu]
    rfl
  have hrep : ({ s with steer := u.steer } : State).Reported u [] := by
    rw [← hframe]
    exact State.Reported.refl (by rw [hregs]; exact w) []
  refine ⟨_, hexec, ?_⟩
  have hsteer : (if s.unlocked r then u.sendJournal (.axisClass a (v.toNat / 2 ^ 28)) else u).steer = u.steer := by
    split
    · exact ((State.Reported.refl (s := u) (by rw [hregs]; exact w) []).sendJournal _).steer
    · rfl
  have hall := (State.Reported.ite (c := s.unlocked r = true) (hrep.sendJournal (.axisClass a (v.toNat / 2 ^ 28))) hrep).reports
  generalize (if s.unlocked r then u.sendJournal (.axisClass a (v.toNat / 2 ^ 28)) else u) = t at hsteer hall ⊢
  have haxis : ∀ b, t.axis b = u.axis b := State.axis_congr hsteer
  rw [haxis, hself, hsteer]
  exact ⟨rfl, rfl, rfl, fun b hb => (haxis b).trans (hother b hb), hall⟩

theorem reach_clear : ∃ t, exec (.clear r) s = .next t ∧ r ∈ t.steer.clearPend ∧
    reports { s with steer := { s.steer with clearPend := t.steer.clearPend } } t [] := by
  have hframe : s.pendClear r = { s with steer := { s.steer with clearPend := (s.pendClear r).steer.clearPend } } := rfl
  have hmem := s.mem_pendClear hr
  have hregs : (s.pendClear r).regs = s.regs := rfl
  have hexec : exec (.clear r) s = .next ((s.pendClear r).sendJournal (.setting (reachReg r 0x10) 4)) := by
    rw [exec_clear hr hcores hrung hup, State.mirrorWrite_active hact, clearReq]
  generalize s.pendClear r = u at *
  have hrep := (State.Reported.refl (s := u) (by rw [hregs]; exact w) []).sendJournal (.setting (reachReg r 0x10) 4)
  refine ⟨_, hexec, by rw [hrep.steer]; exact hmem, ?_⟩
  have hsteer := hrep.steer
  generalize u.sendJournal (.setting (reachReg r 0x10) 4) = t at hrep hsteer ⊢
  rw [hsteer, ← hframe]
  exact hrep.reports

theorem reach_recal (wX : spWf {} 0 s.steer.axes = true) : ∃ t, exec (.recal r) s = .next t ∧
    (∀ a, s.reachOf a = r → a ∈ s.steer.axes.map (fun p => p.1) → (s.axis a).mode = 0 → (t.axis a).recal = 1) ∧
    (∀ a, s.reachOf a ≠ r ∨ (s.axis a).mode ≠ 0 → t.axis a = s.axis a) ∧ reports { s with steer := t.steer } t [] := by
  obtain ⟨hset, hkeep, hframe⟩ := State.pendRecal_spec wX (r := r) (by omega)
  have hregs : (s.pendRecal r).regs = s.regs := by rw [hframe]
  have hexec : exec (.recal r) s = .next ((s.pendRecal r).sendJournal (.setting (reachReg r 0x14) 0x4000)) := by
    rw [exec_recal hr hcores hrung hup, State.mirrorWrite_active hact, recalReq]
  generalize s.pendRecal r = u at *
  have hrep := (State.Reported.refl (s := u) (by rw [hregs]; exact w) []).sendJournal (.setting (reachReg r 0x14) 0x4000)
  have haxis := State.axis_congr hrep.steer
  refine ⟨_, hexec, fun a h1 h2 h3 => by rw [haxis]; exact hset a h1 h2 h3, fun a h => by rw [haxis]; exact hkeep a h, ?_⟩
  rw [hrep.steer, ← hframe]
  exact hrep.reports

omit hact in
theorem reach_en :
    (s.unlocked r = false → ∀ en, exec (.reachEnWrite r en) s = .next s) ∧
    (s.unlocked r = true → ∃ t, exec (.reachEnWrite r true) s = .next t ∧ t.fget (F.REACH_CTRL.EN r) = 1 ∧ t = { s with regs := t.regs } ∧
      fieldsKept s t [F.REACH_CTRL.EN r]) ∧
    (s.unlocked r = true → s.duty r ≤ 1 → ∃ t, exec (.reachEnWrite r false) s = .next t ∧ t.fget (F.REACH_STATUS.BANK_ERR r) = 1 ∧
      t = { s with regs := t.regs } ∧ fieldsKept s t [F.REACH_STATUS.BANK_ERR r]) ∧
    (s.unlocked r = true → 2 ≤ s.duty r → ∃ t, exec (.reachEnWrite r false) s = .next t ∧ t.fget (F.REACH_CTRL.EN r) = 0 ∧
      t = { s with regs := t.regs } ∧ fieldsKept s t [F.REACH_CTRL.EN r]) := by
  have hen : ∀ v, (s.fset (F.REACH_CTRL.EN r) v).fget (F.REACH_CTRL.EN r) = v % 2 ∧ _ := fun v => State.fset_spec w (Nat.le_of_ble_eq_true rfl) v
  refine ⟨fun h en => ?_, fun h => ⟨_, ?_, hen 1⟩, fun h hd => ⟨_, ?_, State.fset_spec w (Nat.le_of_ble_eq_true rfl) 1⟩, fun h hd => ⟨_, ?_, hen 0⟩⟩
  · rw [exec_reachEnWrite hr hcores hrung hup, reachEnWrite, if_pos (by simp [h])]
  · rw [exec_reachEnWrite hr hcores hrung hup, reachEnWrite, if_neg (by simp [h]), if_pos rfl]
  · rw [exec_reachEnWrite hr hcores hrung hup, reachEnWrite, if_neg (by simp [h]), if_neg Bool.false_ne_true, if_pos hd]
  · rw [exec_reachEnWrite hr hcores hrung hup, reachEnWrite, if_neg (by simp [h]), if_neg Bool.false_ne_true, if_neg (by omega)]

end

end

/-! ## The commit of swaps (R36, R38, R39, R56) -/

theorem swapClass_bankErr {s : State} (w : s.swapWf) (k c j : Nat) (h : s.fget (F.REACH_STATUS.BANK_ERR j) = 1) :
    (swapClass k c s).fget (F.REACH_STATUS.BANK_ERR j) = 1 := by
  have hflip : (s.flipBank k c).fget (F.REACH_STATUS.BANK_ERR j) = 1 := by
    rw [State.flipBank, State.fget_fset_apart _ _ _ _ (Nat.le_of_ble_eq_true rfl) w.1
      (.inl (by simp only [F.LAW_BANK_SEL.ACTIVE, F.REACH_STATUS.BANK_ERR]; omega))]
    exact h
  rw [swapClass_eq]
  split
  · split
    · exact hflip
    · exact hflip
  · by_cases hj : j = k
    · rw [hj]
      exact State.fget_fset_self _ _ _ (Nat.le_of_ble_eq_true rfl) w.1
    · rw [State.fget_fset_apart _ _ _ _ (Nat.le_of_ble_eq_true rfl) w.1 (.inl (by simp only [F.REACH_STATUS.BANK_ERR]; omega))]
      exact h

theorem swapBlock_bankErr {s : State} (w : s.swapWf) (k j : Nat) (h : s.fget (F.REACH_STATUS.BANK_ERR j) = 1) :
    (swapBlock k s).fget (F.REACH_STATUS.BANK_ERR j) = 1 := by
  rw [swapBlock_eq]
  have hall := List.foldlRecOn (motive := fun t : State => t.swapWf ∧ t.fget (F.REACH_STATUS.BANK_ERR j) = 1) (s.swapsPending k)
    (fun s c => swapClass k c s) ⟨w, h⟩ fun t ht c _ => ⟨(swapClass_frame ht.1 k c).form, swapClass_bankErr ht.1 k c j ht.2⟩
  rw [State.fget_fset_apart _ _ _ _ (Nat.le_refl _) hall.1.1 (.inl (by simp only [F.LAW_BANK_SEL.SWAP, F.REACH_STATUS.BANK_ERR]; omega))]
  exact hall.2

theorem swapBlock_none {s : State} (w : s.swapWf) (k : Nat) : (swapBlock k s).fget (F.LAW_BANK_SEL.SWAP k) = 0 := by
  have hall := List.foldlRecOn (motive := fun t : State => t.swapWf) (s.swapsPending k) (fun s c => swapClass k c s) w
    fun t ht c _ => (swapClass_frame ht k c).form
  rw [swapBlock_eq, State.fget_fset_self _ _ _ (Nat.le_refl _) hall.1]
  rfl

/-- A class without a swap pending keeps its bank while the others of its block commit. -/
theorem swapBlock_keeps {s : State} (w : s.swapWf) {k c : Nat} (hc : c < 16) (hp : s.fget (F.LAW_BANK_SEL.SWAP k) / 2 ^ c % 2 = 0) :
    (swapBlock k s).activeBank k c = s.activeBank k c := by
  have hself : ¬ otherClasses k c k c := fun h => h.2 rfl
  have hclasses : SwapFrame (otherClasses k c) s ((s.swapsPending k).foldl (fun s c => swapClass k c s) s) :=
    List.foldlRecOn (motive := fun t => SwapFrame (otherClasses k c) s t) _ _ (SwapFrame.refl w) fun t ht x hx =>
      ht.trans ((swapClass_frame ht.form k x).mono fun j d h => ⟨h.1, fun e => by
        have := (List.mem_filter.mp hx).2
        rw [← h.2, e] at this
        simp [hp] at this⟩)
  rw [swapBlock_eq]
  exact (hclasses.trans (SwapFrame.of_swapDone hclasses.form ⟨c + 1, rfl, by omega⟩)).active k c hc hself

/-- A swap to an invalid record leaves the bank and sets BANK_ERR (R36). -/
theorem swapBlock_refuses {s : State} (w : s.swapWf) {k c : Nat} (hc : c < 16) (hp : s.fget (F.LAW_BANK_SEL.SWAP k) / 2 ^ c % 2 = 1)
    (hv : (s.bank k c (1 - s.activeBank k c)).valid = false) :
    (swapBlock k s).activeBank k c = s.activeBank k c ∧ (swapBlock k s).fget (F.REACH_STATUS.BANK_ERR k) = 1 := by
  have hself : ¬ otherClasses k c k c := fun h => h.2 rfl
  have hother : ∀ t x, x ≠ c → State.swapWf t → SwapFrame (otherClasses k c) t (swapClass k x t) := fun t x hx wt =>
    (swapClass_frame wt k x).mono fun j d h => ⟨h.1, h.2 ▸ hx⟩
  have hclasses : (fun t : State => t.swapWf ∧ t.activeBank k c = s.activeBank k c ∧ t.fget (F.REACH_STATUS.BANK_ERR k) = 1)
      ((s.swapsPending k).foldl (fun s c => swapClass k c s) s) := by
    refine foldl_reaches _ (SwapFrame (otherClasses k c) s)
      (fun t : State => t.swapWf ∧ t.activeBank k c = s.activeBank k c ∧ t.fget (F.REACH_STATUS.BANK_ERR k) = 1) c ?_ ?_ ?_ (s.swapsPending k)
      (List.nodup_range.filter _) (List.mem_filter.mpr ⟨List.mem_range.mpr hc, decide_eq_true hp⟩) s (SwapFrame.refl w)
    · exact fun t x hx ht => ht.trans (hother t x hx ht.form)
    · intro t ht
      have hact := ht.active k c hc hself
      have hvt : ¬ (t.bank k c (1 - t.activeBank k c)).valid = true := by
        rw [hact, ht.bank k hc (by omega), hv]; decide
      have heq : swapClass k c t = t.fset (F.REACH_STATUS.BANK_ERR k) 1 := (swapClass_eq k c t).trans (if_neg hvt)
      refine ⟨(swapClass_frame ht.form k c).form, ?_, ?_⟩
      · rw [heq, State.activeBank_fset_apart ht.form.1 _ 1 k c (Nat.le_of_ble_eq_true rfl)
          (.inl (by simp only [F.REACH_STATUS.BANK_ERR, F.LAW_BANK_SEL.ACTIVE]; omega)), hact]
      · rw [heq]
        exact State.fget_fset_self _ _ _ (Nat.le_of_ble_eq_true rfl) ht.form.1
    · intro t x hx ht
      exact ⟨(hother t x hx ht.1).form, ((hother t x hx ht.1).active k c hc hself).trans ht.2.1, swapClass_bankErr ht.1 k x k ht.2.2⟩
  obtain ⟨wt, hact, herr⟩ := hclasses
  rw [swapBlock_eq]
  refine ⟨((SwapFrame.of_swapDone wt ⟨c + 1, rfl, by omega⟩ : SwapFrame (otherClasses k c) _ _).active k c hc hself).trans hact, ?_⟩
  rw [State.fget_fset_apart _ _ _ _ (Nat.le_refl _) wt.1 (.inl (by simp only [F.LAW_BANK_SEL.SWAP, F.REACH_STATUS.BANK_ERR]; omega))]
  exact herr

theorem State.swapped_rest (s : State) (r : Nat) : s.swapped r = { s with regs := (s.swapped r).regs, steer := (s.swapped r).steer } := by
  have hclass : ∀ k c (t : State), swapClass k c t = { t with regs := (swapClass k c t).regs, steer := (swapClass k c t).steer } := fun k c t => by
    rw [swapClass_eq]
    split
    · split <;> rfl
    · rfl
  have hblock : ∀ k (t : State), swapBlock k t = { t with regs := (swapBlock k t).regs, steer := (swapBlock k t).steer } := fun k t => by
    have hall := List.foldlRecOn (motive := fun u : State => u = { t with regs := u.regs, steer := u.steer }) (t.swapsPending k)
      (fun s c => swapClass k c s) (show t = { t with regs := t.regs, steer := t.steer } from rfl) fun u hu c _ => by
        have h := hclass k c u
        generalize swapClass k c u = v at h ⊢
        rw [h, hu]
    have hset : ∀ u : State, u.fset (F.LAW_BANK_SEL.SWAP k) 0 = { u with regs := (u.fset (F.LAW_BANK_SEL.SWAP k) 0).regs } := fun _ => rfl
    rw [swapBlock_eq]
    generalize (t.swapsPending k).foldl (fun s c => swapClass k c s) t = u at hall ⊢
    have h := hset u
    generalize u.fset (F.LAW_BANK_SEL.SWAP k) 0 = v at h ⊢
    rw [h, hall]
  exact List.foldlRecOn (motive := fun u : State => u = { s with regs := u.regs, steer := u.steer }) (s.gangOf r)
    (fun s k => swapBlock k s) (show s = { s with regs := s.regs, steer := s.steer } from rfl) fun u hu k _ => by
      have h := hblock k u
      generalize swapBlock k u = v at h ⊢
      rw [h, hu]

/-- What the commit of a block does for itself stands after the whole gang has committed. -/
theorem State.swapped_block {s : State} (w : s.swapWf) {r k : Nat} (hk : k ∈ s.gangOf r) {Q : State → Prop}
    (turn : ∀ t, SwapFrame (otherBlocks k) s t → Q (swapBlock k t))
    (keep : ∀ t x, x ≠ k → t.swapWf → Q t → Q (swapBlock x t)) : Q (s.swapped r) := by
  refine (foldl_reaches _ (SwapFrame (otherBlocks k) s) (fun t => t.swapWf ∧ Q t) k (fun t x hx ht => ?_) (fun t ht => ?_) (fun t x hx ht => ?_) _
    (List.nodup_range.filter _) hk s (SwapFrame.refl w)).2
  · exact ht.trans ((swapBlock_frame ht.form x).mono fun j _ h => h ▸ hx)
  · exact ⟨(swapBlock_frame ht.form k).form, turn t ht⟩
  · exact ⟨(swapBlock_frame ht.1 x).form, keep t x hx ht.1 ht.2⟩

theorem swapCommit_spec {s : State} (w : s.swapWf) {r : Nat} (hr : r < 8) :
    ∃ t, exec (.swapCommit r) s = .next t ∧ t.steer.axes = s.steer.axes ∧ t.mem = s.mem ∧ t.lock = s.lock ∧ ∀ k ∈ s.gangOf r,
      t.fget (F.LAW_BANK_SEL.SWAP k) = 0 ∧ ∀ c, c < 16 →
        (s.fget (F.LAW_BANK_SEL.SWAP k) / 2 ^ c % 2 = 0 → t.activeBank k c = s.activeBank k c) ∧
        (s.fget (F.LAW_BANK_SEL.SWAP k) / 2 ^ c % 2 = 1 → (s.bank k c (1 - s.activeBank k c)).valid = true →
          t.activeBank k c = 1 - s.activeBank k c) ∧
        (s.fget (F.LAW_BANK_SEL.SWAP k) / 2 ^ c % 2 = 1 → (s.bank k c (1 - s.activeBank k c)).valid = false →
          t.activeBank k c = s.activeBank k c ∧ t.fget (F.REACH_STATUS.BANK_ERR k) = 1) := by
  have hrest := s.swapped_rest r
  refine ⟨_, exec_swapCommit (by omega) s, (State.swapped_frame w r).axes, by rw [hrest], by rw [hrest], fun k hk => ⟨?_, fun c hc => ⟨fun hp => ?_,
    fun hp hv => (State.swapped_swaps w hk hc hp hv).active, fun hp hv => ?_⟩⟩⟩
  · refine State.swapped_block w hk (Q := fun t => t.fget (F.LAW_BANK_SEL.SWAP k) = 0) (fun t ht => swapBlock_none ht.form k) fun t x hx wt ht => ?_
    rw [(swapBlock_frame wt x).pending fun _ h => hx h.symm]
    exact ht
  · refine State.swapped_block w hk (Q := fun t => t.activeBank k c = s.activeBank k c) (fun t ht => ?_) fun t x hx wt ht => ?_
    · rw [swapBlock_keeps ht.form hc (by rw [ht.pending fun _ h => h rfl]; exact hp)]
      exact ht.active k c hc fun h => h rfl
    · exact ((swapBlock_frame wt x).active k c hc fun h => hx h.symm).trans ht
  · refine State.swapped_block w hk (Q := fun t => t.activeBank k c = s.activeBank k c ∧ t.fget (F.REACH_STATUS.BANK_ERR k) = 1) (fun t ht => ?_)
      fun t x hx wt ht => ?_
    · have hact := ht.active k c hc fun h => h rfl
      obtain ⟨h1, h2⟩ := swapBlock_refuses ht.form hc (by rw [ht.pending fun _ h => h rfl]; exact hp)
        (by rw [hact, ht.bank k hc (by omega)]; exact hv)
      exact ⟨h1.trans hact, h2⟩
    · exact ⟨((swapBlock_frame wt x).active k c hc fun h => hx h.symm).trans ht.1, swapBlock_bankErr wt x k ht.2⟩

/-- Settles O18: a write of the block of a reach takes effect where the module is ACTIVE, is ignored where it is not, and is lost while the
reach's pound reloads; a commit turns each block by itself. -/
theorem steerWrites : Obligations.SteerWrites := by
  unfold Obligations.SteerWrites
  refine ⟨fun s r hwf hr hact hcores hrung hup => ?_, fun s r hwf hr => swapCommit_spec (State.swapWf_of_allWf hwf) hr,
    fun s r hwf hr hact hcores hrung hup => reach_ignored hr hcores hrung hup (State.regsWf_of_allWf hwf) hact,
    fun s r c hwf hr hcores hrung hdown hc => reach_writeLost hr hcores hrung (State.regsWf_of_allWf hwf) hdown hc⟩
  have w := State.regsWf_of_allWf hwf
  have wX := State.axesWf_of_allWf hwf
  exact ⟨fun c hc => reach_swap hr hcores hrung hup w hact hc, fun g hg hne hcyc => reach_gangErr hr hcores hrung hup w hact hg hne hcyc,
    fun g hg hcyc => reach_gang hr hcores hrung hup hact hg hcyc, fun j a v hj ha => reach_flags hr hcores hrung hup w hact wX v hj ha,
    fun j v hj ha => by rw [exec_axisFlagsWrite hr hcores hrung hup hj, ha], reach_clear hr hcores hrung hup w hact,
    reach_recal hr hcores hrung hup w hact wX, reach_en hr hcores hrung hup w⟩

end Sys2Proof.Machine
end

section
/-!
PROOFS. Commands taken (R177, R286–R289): what a reservation changes, a command taken from a host queue and from the policy ring, and the
two commands that read the module.
-/

namespace Sys2Proof.Machine

/-! ## Reservations -/

theorem State.reserveCells_items (s : State) {w : spWf {} 0 s.link.queues = true} (p n q : Nat) :
    ((s.reserveCells p n).queue q).items = (s.queue q).items := by
  by_cases h : q = p
  · subst h
    rw [State.reserveCells, State.queue_modQueue_self w]
  · rw [State.reserveCells, State.queue_modQueue_ne _ h]

/-- What the reservations of a command leave: its completion queue serves, cells are reserved, and the queues hold what they held. -/
structure State.Reserves (s : State) (src : Src) (n : Nat) (u : State) : Prop where
  en : (s.queue (s.cqOf src)).en = true
  dir : (s.queue (s.cqOf src)).dir = true
  serves : s.Serves u
  items : ∀ q, (u.queue q).items = (s.queue q).items
  held : (src, n) ∈ u.link.resv
  frame : u = { s with link := u.link }

theorem State.reserveFor_reserves {s u : State} (w : spWf {} 0 s.link.queues = true) {src : Src} {i : Item}
    (h : s.reserveFor src i = some u) :
    s.Reserves src (if commandFault i = none then completionCells i.code i.body else 1) u := by
  unfold State.reserveFor at h
  generalize (if commandFault i = none then completionCells i.code i.body else 1) = n at h ⊢
  dsimp only at h
  split at h
  · cases h
  next hcan =>
  have hopen : (s.queue (s.cqOf src)).en = true ∧ (s.queue (s.cqOf src)).dir = true := by
    simp only [Bool.not_eq_true, Bool.not_eq_false', State.canReserve, Bool.and_eq_true] at hcan
    exact hcan.1
  have hcells : s.Serves (s.reserveCells (s.cqOf src) n) := (State.Serves.refl w).modQueue _ fun _ => rfl
  have hitems := s.reserveCells_items (w := w) (s.cqOf src) n
  have hframe : s.reserveCells (s.cqOf src) n = { s with link := (s.reserveCells (s.cqOf src) n).link } := rfl
  generalize s.reserveCells (s.cqOf src) n = v at h hcells hitems hframe
  have hnoted : s.Serves { v with link := { v.link with resv := v.link.resv ++ [(src, n)] } } := hcells.keep rfl rfl
  split at h
  · cases h
    exact ⟨hopen.1, hopen.2, hnoted, hitems, List.mem_append_right _ List.mem_cons_self, by rw [hframe]⟩
  next e _ =>
    split at h
    · cases h
      refine ⟨hopen.1, hopen.2, (hnoted.modQueue e (f := fun d => { d with reserved := d.reserved + 1 }) fun _ => rfl).keep rfl rfl, fun q => ?_, List.mem_append_right _ List.mem_cons_self,
        by rw [hframe]; rfl⟩
      exact (State.reserveCells_items (w := hnoted.form) _ _ _ q).trans (hitems q)
    · cases h

/-! ## A command taken -/

theorem State.complete_def (s : State) (op : Nat) (src : Src) (st : Status) (reason detail : Nat) (result cells : List Byte) :
    s.complete op src st reason detail result cells =
      let v := (s.unreserve src).noteStatus src st reason detail
      if v.link.flrDiscard.contains src then { v with link := { v.link with flrDiscard := v.link.flrDiscard.erase src } }
      else if (v.queue (s.cqOf src)).en && (v.queue (s.cqOf src)).dir && !(v.queue (s.cqOf src)).broken then
        (v.modQueue (s.cqOf src) (fun d => d.link (completionItem op src st reason detail result cells))).count 11 0
      else v := rfl

/-- A completion of any status tells only. -/
theorem State.Told.complete {s t : State} {l : List Fld} (h : s.Told t l) (op : Nat) (src : Src) (st : Status) (reason detail : Nat)
    (result cells : List Byte) : s.Told (t.complete op src st reason detail result cells) l := by
  have hnote : t.Told ((t.unreserve src).noteStatus src st reason detail) l := by
    have hu : t.Told (t.unreserve src) l :=
      ⟨by rw [State.unreserve_regs]; exact h.form, fieldsKept_of_regs (t.unreserve_regs src) _, t.unreserve_wipe src⟩
    unfold State.noteStatus
    exact ((hu.count 11 8 1).ite hu |>.logEntry (by decide) ..).ite ((hu.count 11 8 1).ite hu)
  refine h.trans ?_
  have hregs : (t.complete op src st reason detail result cells).regs = ((t.unreserve src).noteStatus src st reason detail).regs := by
    rw [State.complete_def]
    generalize (t.unreserve src).noteStatus src st reason detail = v
    dsimp only
    split
    · rfl
    · split <;> rfl
  exact ⟨by rw [hregs]; exact hnote.form, fun g hg => (State.fget_of_regs hregs g).trans (hnote.kept g hg), State.complete_wipe ..⟩

theorem State.notePoison_told {s : State} (w : wordsWf 0 s.regs = true) (i : Item) : s.Told (s.notePoison i) [F.QP_CTRL.POISON] :=
  ((State.Told.refl w _).fset (by simp) (by decide) 1).ite (State.Told.refl w _)

theorem State.notePoison_frame (s : State) (i : Item) : s.notePoison i = { s with regs := (s.notePoison i).regs } := by
  unfold State.notePoison
  split <;> rfl

/-- A well-formed command is held for its own handling. -/
theorem State.takeCommand_held (s : State) {src : Src} {i : Item} {c : Instr} (hok : commandFault i = none)
    (hc : commandOf src i.code i.body = some c) :
    s.takeCommand src i = { s.notePoison i with taken := s.taken ++ [c] } := by
  unfold State.takeCommand
  dsimp only
  rw [hok]
  dsimp only
  rw [hc]
  dsimp only
  rw [s.notePoison_frame]

/-- The count of a malformed command, when it is one, and of a command ended. -/
def State.countFault (s : State) (st : Status) : State := (if st = .malformed then s.count 11 9 else s).count 11 7

theorem State.takeCommand_faulty (s : State) {src : Src} {i : Item} {st : Status} {r : Reason} (hbad : commandFault i = some (st, r)) :
    s.takeCommand src i = ((s.notePoison i).countFault st).complete i.code src st r.code := by
  unfold State.takeCommand
  dsimp only
  rw [hbad]
  rfl

/-- Whatever becomes of it, a command taken changes the commands that are held and tells. -/
theorem State.takeCommand_leaves {s : State} (w : wordsWf 0 s.regs = true) (src : Src) (i : Item) :
    State.Leaves (fun s => { s with taken := [] }) s (s.takeCommand src i) [F.QP_CTRL.POISON] := by
  have hnote := State.notePoison_told w i
  unfold State.takeCommand
  dsimp only
  generalize s.notePoison i = u at hnote
  split
  next st r _ => exact .of_told _ ((((hnote.count 11 9 1).ite hnote).count 11 7 1).complete ..)
  · split
    · exact (State.Leaves.of_told _ hnote).step rfl rfl
    · exact .of_told _ ((hnote.count 11 7 1).complete ..)

/-- A command whose reservations are made leaves its queue. -/
theorem takeFirst_head {s u : State} {q : Nat} {i : Item} (hsound : (u.queue q).broken = false) (hitems : (u.queue q).items = (s.queue q).items)
    (hhead : (s.queue q).head? = some i) (hkind : i.kind ≠ 6) (hu : s.reserveFor (srcFrom q i) i = some u) (qs : List Nat) :
    takeFirst s (q :: qs) = State.takeCommand (let t := (u.modQueue q fun _ => (u.queue q).popped i).count 11 1
      { t with link := { t.link with served := q } }) (srcFrom q i) i := by
  have hhead' : (u.queue q).head? = some i := by
    rw [← hhead, Queue.head?, Queue.head?, hitems]
  unfold takeFirst
  rw [hhead]
  dsimp only
  rw [hu]
  dsimp only
  rw [State.pop_item hsound hhead' hkind]

/-- The queues that hold a command are enabled host queues that work. -/
theorem State.commandQueues_spec {s : State} (w : spWf {} 0 s.link.queues = true) {q : Nat} (h : q ∈ s.commandQueues) :
    (s.queue q).dir = false ∧ (s.queue q).broken = false := by
  have hdue : q ∈ (s.link.queues.filter (fun p => p.2.en && !p.2.dir && !p.2.broken && decide (p.2.items ≠ []))).map (fun p => p.1) := by
    rcases List.mem_append.mp h with h | h <;> exact List.mem_of_mem_filter h
  obtain ⟨p, hp, rfl⟩ := List.mem_map.mp hdue
  obtain ⟨hmem, htest⟩ := List.mem_filter.mp hp
  simp only [Bool.and_eq_true, Bool.not_eq_true'] at htest
  rw [State.queue, spGet_of_mem w hmem]
  exact ⟨htest.1.1.2, htest.1.2⟩

/-- The machine after a command has left queue q with its reservations made. -/
def State.leftQueue (u : State) (q : Nat) (i : Item) : State :=
  let t := (u.modQueue q fun _ => (u.queue q).popped i).count 11 1
  { t with link := { t.link with served := q } }

theorem State.leftQueue_frame (u : State) (q : Nat) (i : Item) : u.leftQueue q i = { u with link := (u.leftQueue q i).link, counters := (u.leftQueue q i).counters } := rfl

theorem State.leftQueue_items {u : State} (w : spWf {} 0 u.link.queues = true) (q : Nat) (i : Item) :
    ((u.leftQueue q i).queue q).items = removeFirst i.prio (u.queue q).items := by
  have h := State.queue_modQueue_self w q fun _ => (u.queue q).popped i
  exact (congrArg Queue.items h : _)

theorem State.leftQueue_serves {s u : State} (h : s.Serves u) (q : Nat) (i : Item) : s.Serves (u.leftQueue q i) := by
  refine h.trans ⟨spSet_wf _ _ q _ 0 (Nat.zero_le q) h.form, fun p => ?_, rfl⟩
  show ((u.modQueue q _).queue p).service = _
  by_cases hp : p = q
  · rw [hp, State.queue_modQueue_self h.form]
    rfl
  · rw [State.queue_modQueue_ne _ hp]

theorem exec_commandTake {s u : State} {q : Nat} {i : Item} (hwf : s.allWf = true) (hcores : s.cores = true)
    (hq : s.commandQueues.head? = some q) (hhead : (s.queue q).head? = some i) (hkind : i.kind ≠ 6)
    (hu : s.reserveFor (srcFrom q i) i = some u) :
    exec .commandTake s = .next ((u.leftQueue q i).takeCommand (srcFrom q i) i) := by
  have w := State.queuesWf_of_allWf hwf
  have hres := State.reserveFor_reserves w hu
  obtain ⟨qs, hqs⟩ := List.head?_eq_some_iff.mp hq
  have hsound : (u.queue q).broken = false := by
    rw [(hres.serves.queue q).2.2.1]
    exact (State.commandQueues_spec w (q := q) (by rw [hqs]; exact List.mem_cons_self)).2
  show Host.Outcome.next (if s.cores then takeFirst s s.commandQueues else s) = _
  rw [if_pos hcores, hqs, takeFirst_head hsound (hres.items q) hhead hkind hu]
  rfl

/-- A completion leaves the items of every queue but its own. -/
theorem State.complete_items {s : State} {src : Src} (w : spWf {} 0 s.link.queues = true) (ha : s.Answers src) {q : Nat}
    (h : q ≠ s.cqOf src) (op : Nat) (st : Status) (reason detail : Nat) (result cells : List Byte) :
    ((s.complete op src st reason detail result cells).queue q).items = (s.queue q).items := by
  obtain ⟨-, hqueue, -⟩ := State.unreserve_unreserved w src
  obtain ⟨n, hn⟩ := hqueue q
  have hrest := (s.unreserve src).noteStatus_linkRest src st reason detail
  have hkept := (State.queue_eq_of_queues (queues_of_linkRest hrest) q).trans hn
  rw [State.complete_eq w ha]
  generalize (s.unreserve src).noteStatus src st reason detail = v at hkept ⊢
  exact (congrArg Queue.items ((v.queue_modQueue_ne h _).trans hkept) :)

theorem commandTake_held {s u : State} {q : Nat} {i : Item} {c : Instr} (hwf : s.allWf = true)
    (hu : s.reserveFor (srcFrom q i) i = some u) (hok : commandFault i = none) (hc : commandOf (srcFrom q i) i.code i.body = some c) :
    let t := (u.leftQueue q i).takeCommand (srcFrom q i) i
    t.taken = s.taken ++ [c] ∧ (t.queue q).items = removeFirst i.prio (s.queue q).items ∧ t.link.served = q ∧
      (srcFrom q i, completionCells i.code i.body) ∈ t.link.resv ∧ t.steer = s.steer ∧ t.mem = s.mem ∧ t.lock = s.lock ∧ t.tows = s.tows := by
  have hres := State.reserveFor_reserves (State.queuesWf_of_allWf hwf) hu
  rw [if_pos hok] at hres
  have hitems := (State.leftQueue_items hres.serves.form q i).trans (congrArg _ (hres.items q))
  have hheld : (srcFrom q i, completionCells i.code i.body) ∈ (u.leftQueue q i).link.resv := hres.held
  have hserved : (u.leftQueue q i).link.served = q := rfl
  have hframe : u.leftQueue q i = { s with link := (u.leftQueue q i).link, counters := (u.leftQueue q i).counters } := by
    rw [State.leftQueue_frame, hres.frame]
  generalize u.leftQueue q i = v at hitems hheld hserved hframe ⊢
  rw [State.takeCommand_held v hok hc, v.notePoison_frame]
  refine ⟨?_, hitems, hserved, hheld, ?_⟩
  · rw [hframe]
  · rw [hframe]
    exact ⟨rfl, rfl, rfl, rfl⟩

theorem commandTake_faulty {s u : State} {q : Nat} {i : Item} {st : Status} {r : Reason} (hwf : s.allWf = true)
    (hq : q ∈ s.commandQueues) (hu : s.reserveFor (srcFrom q i) i = some u) (hbad : commandFault i = some (st, r))
    (hhost : q ≠ 0xFFFF) (hsound : (s.queue (s.cqOf (srcFrom q i))).broken = false)
    (hkept : s.link.flrDiscard.contains (srcFrom q i) = false) :
    let t := (u.leftQueue q i).takeCommand (srcFrom q i) i
    t.taken = s.taken ∧ (t.queue q).items = removeFirst i.prio (s.queue q).items ∧
      answered s t i.code (srcFrom q i) st r.code 0 [] [] ∧ t.steer = s.steer ∧ t.mem = s.mem ∧ t.lock = s.lock := by
  have w := State.queuesWf_of_allWf hwf
  have hres := State.reserveFor_reserves w hu
  have hans : s.Answers (srcFrom q i) := ⟨hres.en, hres.dir, hsound, hkept⟩
  have hother : q ≠ s.cqOf (srcFrom q i) := fun e => by
    have hdir := hres.dir
    rw [← e, (State.commandQueues_spec w hq).1] at hdir
    cases hdir
  have hitems := (State.leftQueue_items hres.serves.form q i).trans (congrArg _ (hres.items q))
  have hserves := State.leftQueue_serves hres.serves q i
  have hframe : u.leftQueue q i = { s with link := (u.leftQueue q i).link, counters := (u.leftQueue q i).counters } := by
    rw [State.leftQueue_frame, hres.frame]
  generalize u.leftQueue q i = v at hitems hserves hframe ⊢
  have hfault : (v.notePoison i).countFault st = { v with regs := ((v.notePoison i).countFault st).regs, counters := ((v.notePoison i).countFault st).counters } := by
    have hnote := v.notePoison_frame i
    generalize v.notePoison i = x at hnote ⊢
    unfold State.countFault
    split <;> (rw [hnote]; rfl)
  rw [State.takeCommand_faulty v hbad]
  generalize (v.notePoison i).countFault st = x at hfault ⊢
  have hx : s.Serves x := hserves.link (by rw [hfault])
  have hcq : x.cqOf (srcFrom q i) = s.cqOf (srcFrom q i) := hx.cqOf_host hhost
  have hansx := hx.answers hcq hans
  refine ⟨?_, ?_, ?_, ?_, ?_, ?_⟩
  · rw [State.complete_taken, hfault, hframe]
  · rw [State.complete_items hx.form hansx (by rw [hcq]; exact hother), ← hitems, hfault]
    rfl
  · rw [answered, ← hcq]
    exact State.complete_answered hx.form hansx ..
  · rw [State.complete_steer, hfault, hframe]
  · rw [State.complete_mem, hfault, hframe]
  · rw [State.complete_lock, hfault, hframe]

/-! ## The policy ring -/

theorem memBytes_memPut_self (bs : List Byte) : ∀ (m : List Host.Cell) (a : Nat), Memory.wf m = true →
    memBytes (memPut m a bs) a bs.length = bs := by
  induction bs with
  | nil => exact fun _ _ _ => rfl
  | cons b bs ih =>
    intro m a w
    have hset : Memory.wf (spSet (0 : Byte) m a b) = true := memPut_wf [b] m a w
    rw [List.length_cons, memPut, memBytes, ih _ _ hset, memPut_outside _ _ _ _ (.inl (Nat.lt_succ_self a))]
    exact congrArg (· :: bs) (by simpa [memPut] using memPut_inside [b] m a 0 w (by simp))

theorem memBytes_length (m : List Host.Cell) (a n : Nat) : (memBytes m a n).length = n := by
  induction n generalizing a with
  | zero => rfl
  | succ n ih => rw [memBytes, List.length_cons, ih]

/-- The time of a LOCK_SCHEDULE of the policy ring stands from now on where it names no second (R177). -/
def stampPolicy (s : State) (src : Src) (c : Instr) : Instr :=
  match c with
  | .lockSchedule src' p a b i tf =>
    if src' = src ∧ tf.sec = 0 then
      .lockSchedule src' p a b i ⟨(s.time.tb0.ns + tf.ns) / 10 ^ 9, (s.time.tb0.ns + tf.ns) % 10 ^ 9, 0⟩
    else c
  | _ => c

/-- The machine with READ of the policy ring moved on to next. -/
def State.policyRead (u : State) (sp : Space) (wr next : Nat) : State :=
  ({ u with mem := { u.mem with basin := memPut u.mem.basin (u.policyBase sp + 8) (le 4 next) }
            auction := { u.auction with policyDue := decide (next ≠ wr) } }).count 8 9

theorem State.takePolicy_one {s u : State} {sp : Space} {size wr rd : Nat} (hsize : 1 ≤ size) (hw : wr < 2 ^ 32) (hr : rd < 2 ^ 32)
    (hne : rd ≠ wr) (hone : leAt (s.policyCells sp size rd 1) 4 2 = 1) {it : Item}
    (hit : it = { fetchedItem { en := true, ring := 0 } [s.policyCells sp size rd 1] (s.policyPoison sp size rd 1) with
      len := 1, badLen := false }) (hu : s.reserveFor (srcFrom 0xFFFF it) it = some u) :
    s.takePolicy sp size wr rd = { (u.policyRead sp wr ((rd + 1) % 2 ^ 32)).takeCommand (srcFrom 0xFFFF it) it with
      taken := ((u.policyRead sp wr ((rd + 1) % 2 ^ 32)).takeCommand (srcFrom 0xFFFF it) it).taken.map (stampPolicy s (srcFrom 0xFFFF it)) } := by
  have hfits : (decide (leAt (s.policyCells sp size rd 1) 4 2 = 0) || decide (size < leAt (s.policyCells sp size rd 1) 4 2) ||
      decide ((wr + 2 ^ 32 - rd) % 2 ^ 32 < leAt (s.policyCells sp size rd 1) 4 2)) = false := by
    rw [hone]
    simp only [Bool.or_eq_false_iff, decide_eq_false_iff_not]
    omega
  unfold State.takePolicy
  dsimp only
  rw [hfits, hone]
  simp only [Bool.false_eq_true, if_false]
  rw [← hit, hu]
  rfl

theorem State.basinWf_of_allWf {s : State} (h : s.allWf = true) : Memory.wf s.mem.basin = true := by
  simp only [State.allWf, State.storesWf, Bool.and_eq_true] at h
  obtain ⟨⟨⟨⟨-, hbasin⟩, -⟩, -⟩, -⟩ := h
  exact hbasin

theorem takePolicy_spec {s u : State} {sp : Space} {size wr rd : Nat} (hwf : s.allWf = true) (hsize : 1 ≤ size) (hw : wr < 2 ^ 32)
    (hr : rd < 2 ^ 32) (hne : rd ≠ wr) (hone : leAt (s.policyCells sp size rd 1) 4 2 = 1) {it : Item}
    (hit : it = { fetchedItem { en := true, ring := 0 } [s.policyCells sp size rd 1] (s.policyPoison sp size rd 1) with
      len := 1, badLen := false }) (hu : s.reserveFor (srcFrom 0xFFFF it) it = some u) :
    let t := s.takePolicy sp size wr rd
    t.policyWord sp 8 = (rd + 1) % 2 ^ 32 ∧ (t.auction.policyDue = true ↔ (rd + 1) % 2 ^ 32 ≠ wr) ∧
      (∀ a, a < s.policyBase sp + 8 ∨ s.policyBase sp + 12 ≤ a → spGet (0 : Byte) t.mem.basin a = spGet (0 : Byte) s.mem.basin a) ∧
      (∀ c, commandFault it = none → commandOf (srcFrom 0xFFFF it) it.code it.body = some c → t.taken.length = s.taken.length + 1) ∧
      t.mem.stack = s.mem.stack ∧ t.steer = s.steer ∧ t.lock = s.lock := by
  have hframe := (State.reserveFor_reserves (State.queuesWf_of_allWf hwf) hu).frame
  have hword : u.word = s.word := by rw [hframe]; rfl
  have hbase : u.policyBase sp = s.policyBase sp := by unfold State.policyBase State.fget; rw [hword]
  have hnext : (rd + 1) % 2 ^ 32 < 2 ^ 32 := Nat.mod_lt _ (by decide)
  have wu : wordsWf 0 (u.policyRead sp wr ((rd + 1) % 2 ^ 32)).regs = true := by
    show wordsWf 0 u.regs = true
    rw [hframe]
    exact State.regsWf_of_allWf (s := s) hwf
  have hwritten : ofLe (memBytes (memPut s.mem.basin (s.policyBase sp + 8) (le 4 ((rd + 1) % 2 ^ 32))) (s.policyBase sp + 8) 4) =
      (rd + 1) % 2 ^ 32 := by
    generalize (rd + 1) % 2 ^ 32 = n at hnext ⊢
    have h := memBytes_memPut_self (le 4 n) s.mem.basin (s.policyBase sp + 8) (State.basinWf_of_allWf hwf)
    rw [le_length] at h
    rw [h, ofLe_le]
    exact Nat.mod_eq_of_lt hnext
  have houtside : ∀ a, a < s.policyBase sp + 8 ∨ s.policyBase sp + 12 ≤ a →
      spGet (0 : Byte) (memPut s.mem.basin (s.policyBase sp + 8) (le 4 ((rd + 1) % 2 ^ 32))) a = spGet (0 : Byte) s.mem.basin a :=
    fun a ha => memPut_outside _ _ _ _ (by rw [le_length]; exact ha)
  have hlength : ∀ c, commandFault it = none → commandOf (srcFrom 0xFFFF it) it.code it.body = some c →
      ((u.policyRead sp wr ((rd + 1) % 2 ^ 32)).takeCommand (srcFrom 0xFFFF it) it).taken.length = s.taken.length + 1 := fun c hok hc => by
    rw [State.takeCommand_held _ hok hc]
    show (u.taken ++ [c]).length = _
    rw [List.length_append, hframe]
    rfl
  have hreads : (u.policyRead sp wr ((rd + 1) % 2 ^ 32)).mem =
        { s.mem with basin := memPut s.mem.basin (s.policyBase sp + 8) (le 4 ((rd + 1) % 2 ^ 32)) } ∧
      (u.policyRead sp wr ((rd + 1) % 2 ^ 32)).auction.policyDue = decide ((rd + 1) % 2 ^ 32 ≠ wr) ∧
      (u.policyRead sp wr ((rd + 1) % 2 ^ 32)).steer = s.steer ∧ (u.policyRead sp wr ((rd + 1) % 2 ^ 32)).lock = s.lock ∧
      (u.policyRead sp wr ((rd + 1) % 2 ^ 32)).word = s.word := by
    unfold State.policyRead
    rw [hbase]
    rw [hframe]
    exact ⟨rfl, rfl, rfl, rfl, rfl⟩
  have htake := State.takePolicy_one hsize hw hr hne hone hit hu
  have hleaves := State.takeCommand_leaves wu (srcFrom 0xFFFF it) it
  generalize s.takePolicy sp size wr rd = t at htake
  generalize u.policyRead sp wr ((rd + 1) % 2 ^ 32) = v at hleaves hreads hlength htake
  obtain ⟨hmem, hdue, hsteer, hlock, hvword⟩ := hreads
  have hxmem := (hleaves.get (fun s => s.mem)).trans hmem
  have hxdue := (hleaves.get (fun s => s.auction.policyDue)).trans hdue
  have hxsteer := (hleaves.get (fun s => s.steer)).trans hsteer
  have hxlock := (hleaves.get (fun s => s.lock)).trans hlock
  have hxfield := hleaves.fget (f := F.POLICY_RING.OFFSET) (apart_of_test (by decide))
  generalize v.takeCommand (srcFrom 0xFFFF it) it = x at hxmem hxdue hxsteer hxlock hxfield hlength htake
  have htmem : t.mem = { s.mem with basin := memPut s.mem.basin (s.policyBase sp + 8) (le 4 ((rd + 1) % 2 ^ 32)) } := by
    rw [htake]
    exact hxmem
  have htbase : t.policyBase sp = s.policyBase sp := by
    unfold State.policyBase
    have : t.fget F.POLICY_RING.OFFSET = s.fget F.POLICY_RING.OFFSET := by
      rw [htake]
      refine (show _ = x.fget F.POLICY_RING.OFFSET from rfl).trans (hxfield.trans ?_)
      rw [State.fget, hvword]
      rfl
    rw [this]
  refine ⟨?_, ?_, ?_, fun c hok hc => ?_, ?_, ?_, ?_⟩
  · rw [State.policyWord, htbase, htmem]
    exact hwritten
  · have : t.auction.policyDue = decide ((rd + 1) % 2 ^ 32 ≠ wr) := by rw [htake]; exact hxdue
    rw [this, decide_eq_true_iff]
  · rw [htmem]
    exact houtside
  · rw [htake]
    exact (List.length_map _).trans (hlength c hok hc)
  · rw [htmem]
  · rw [htake]
    exact hxsteer
  · rw [htake]
    exact hxlock

theorem policyCell_eq {s : State} {sp : Space} (hcores : s.cores = true) (hdue : s.auction.policyDue = true)
    (hen : s.bit F.AUC_CTRL.POLICY_EN = true) (hsp : s.space (s.fget F.AUC_CTRL.POLICY_SPACE) = some sp) :
    policyCell s = if !policySize (s.policyWord sp 0) || decide (s.policyWord sp 8 = s.policyWord sp 4) then
      { s with auction := { s.auction with policyDue := false } }
    else s.takePolicy sp (s.policyWord sp 0) (s.policyWord sp 4) (s.policyWord sp 8) := by
  unfold policyCell
  rw [if_neg (by simp [hcores, hdue, hen]), hsp]

theorem policySize_pos {n : Nat} (h : policySize n = true) : 1 ≤ n := by
  obtain ⟨k, -, hk⟩ := List.any_eq_true.mp h
  rw [of_decide_eq_true hk]
  exact Nat.one_le_two_pow

theorem State.policyWord_lt (s : State) (sp : Space) (o : Nat) : s.policyWord sp o < 2 ^ 32 :=
  Nat.lt_of_lt_of_eq (ofLe_lt (memBytes s.mem.basin (s.policyBase sp + o) 4)) (by rw [memBytes_length]; norm_num)

/-! ## IDENTIFY and STATUS_SNAPSHOT -/

theorem snapshot_length (s : State) : (snapshotRegisters.flatMap (fun o => le 4 (s.readWord o).toNat)).length = 64 := by
  rw [List.length_flatMap]
  simp only [le_length]
  rfl

/-- Settles O59: a command taken leaves its queue with its reservations made and is held, or completed where it is at fault; the policy
ring moves READ on; and the two commands that read the module complete. -/
theorem commandsTaken : Obligations.CommandsTaken := by
  unfold Obligations.CommandsTaken
  refine ⟨?_, ?_, ?_, ?_⟩
  · intro s q i u hwf hcores hq hlt hhead hkind hu
    have hexec := exec_commandTake hwf hcores hq hhead hkind hu
    have hmem : q ∈ s.commandQueues := List.mem_of_head? hq
    exact ⟨fun c hok hc => ⟨_, hexec, commandTake_held hwf hu hok hc⟩,
      fun st r hbad hsound hkept => ⟨_, hexec, commandTake_faulty hwf hmem hu hbad (by omega) hsound hkept⟩⟩
  · intro s hcores hnone
    exact ⟨s, congrArg Host.Outcome.next ((if_pos hcores).trans (by rw [hnone]; rfl)), rfl⟩
  · intro s sp hwf hcores hdue hen hsp size wr rd cell it
    have heq := policyCell_eq hcores hdue hen hsp
    refine ⟨fun h => ⟨_, congrArg Host.Outcome.next (heq.trans (if_pos ?_)), rfl⟩, fun u hsize hne hone hu => ?_⟩
    · rcases h with h | h
      · rw [show policySize (s.policyWord sp 0) = false from h]
        rfl
      · rw [decide_eq_true (show s.policyWord sp 8 = s.policyWord sp 4 from h), Bool.or_true]
    · refine ⟨_, congrArg Host.Outcome.next (heq.trans (if_neg ?_)),
        takePolicy_spec hwf (policySize_pos hsize) (s.policyWord_lt sp 4) (s.policyWord_lt sp 8) hne hone rfl hu⟩
      rw [show policySize (s.policyWord sp 0) = true from hsize, decide_eq_false (show ¬ s.policyWord sp 8 = s.policyWord sp 4 from hne)]
      decide
  · intro s src hwf
    refine ⟨fun h => ?_, fun h => ?_⟩
    · refine ⟨_, congrArg Host.Outcome.next (State.handle_accepted h _), ?_⟩
      exact ((h.settled hwf 0x01 .done 0 0 _ []).symm : _)
    · have hdone := h.settled hwf 0x02 .done 0 0 (le 8 (2 * s.time.lastTick))
        (snapshotRegisters.flatMap (fun o => le 4 ((s.taking src).readWord o).toNat))
      exact ⟨_, _, congrArg Host.Outcome.next (State.handle_accepted h _), hdone.2, snapshot_length _, hdone.1⟩

end Sys2Proof.Machine
end

section
/-!
PROOFS. Work on the customer ports (R245–R254): what changes of a port's state, ends of checks and verdicts leave of the machine, and that
the commands' completions are still taken after them.
-/

namespace Sys2Proof.Machine

/-! ## Queues that keep serving through completions -/

/-- The queues of t serve as those of s do, and t discards no completion that s takes. -/
structure State.Serving (s t : State) : Prop where
  form : spWf {} 0 t.link.queues = true
  service : ∀ q, (t.queue q).service = (s.queue q).service
  takes : ∀ src, s.link.flrDiscard.contains src = false → t.link.flrDiscard.contains src = false

namespace State.Serving

variable {s t u : State}

theorem of_serves (h : s.Serves t) : s.Serving t := ⟨h.form, h.service, fun _ hs => by rw [h.discard]; exact hs⟩

theorem refl (w : spWf {} 0 s.link.queues = true) : s.Serving s := of_serves (.refl w)

theorem trans (h : s.Serving t) (k : t.Serving u) : s.Serving u :=
  ⟨k.form, fun q => (k.service q).trans (h.service q), fun src hs => k.takes src (h.takes src hs)⟩

theorem link (h : s.Serving t) (hl : u.link = t.link) : s.Serving u := h.trans (of_serves ((State.Serves.refl h.form).link hl))

theorem unreserve (h : s.Serving t) (src : Src) : s.Serving (t.unreserve src) := by
  obtain ⟨form, queue, link⟩ := State.unreserve_unreserved h.form src
  refine h.trans ⟨form, fun q => ?_, fun x hx => by rw [link]; exact hx⟩
  obtain ⟨n, hn⟩ := queue q
  rw [hn]
  rfl

/-- A completion leaves the queues serving, whether its own takes it or not. -/
theorem complete (h : s.Serving t) (op : Nat) (src : Src) (detail : Nat) (result : List Byte) :
    s.Serving (t.complete op src .done 0 detail result) := by
  have hu := h.unreserve src
  have heq : t.complete op src .done 0 detail result =
      if (t.unreserve src).link.flrDiscard.contains src then
        { t.unreserve src with link := { (t.unreserve src).link with flrDiscard := (t.unreserve src).link.flrDiscard.erase src } }
      else if ((t.unreserve src).queue (t.cqOf src)).en && ((t.unreserve src).queue (t.cqOf src)).dir &&
          !((t.unreserve src).queue (t.cqOf src)).broken then
        ((t.unreserve src).modQueue (t.cqOf src) (fun d => d.link (completionItem op src .done 0 detail result []))).count 11 0
      else t.unreserve src := rfl
  rw [heq]
  generalize t.unreserve src = v at hu
  split
  · refine hu.trans ⟨hu.form, fun _ => rfl, fun x hx => ?_⟩
    have hnot : x ∉ v.link.flrDiscard := by simpa using hx
    simpa using fun hm => hnot (List.mem_of_mem_erase hm)
  · split
    · exact hu.trans (of_serves (((State.Serves.refl hu.form).modQueue _
        (f := fun d => d.link (completionItem op src .done 0 detail result [])) fun _ => rfl).count 11 0 1))
    · exact hu

theorem cqOf (h : s.Serving t) (src : Src) (hs : t.tows.spaces = s.tows.spaces)
    (hp : t.fget F.AUC_CTRL.POLICY_SPACE = s.fget F.AUC_CTRL.POLICY_SPACE) : t.cqOf src = s.cqOf src := by
  have hq := h.service src.queue
  simp only [Queue.service, Prod.mk.injEq] at hq
  obtain ⟨-, -, -, hcq⟩ := hq
  simp only [State.cqOf, State.space, hs, hp, hcq]

theorem answers (h : s.Serving t) {src : Src} (hcq : t.cqOf src = s.cqOf src) (ha : s.Answers src) : t.Answers src := by
  have hq := h.service (s.cqOf src)
  simp only [Queue.service, Prod.mk.injEq] at hq
  obtain ⟨hen, hdir, hsound, -⟩ := hq
  exact ⟨by rw [hcq, hen, ha.en], by rw [hcq, hdir, ha.dir], by rw [hcq, hsound, ha.sound], h.takes src ha.kept⟩

end State.Serving

/-! ## Work on the ports -/

/-- The machine with another store of ports. -/
def State.withPorts (s : State) (m : Sparse Port) : State := { s with fabric := { s.fabric with ports := m } }

theorem State.Reported.withPorts {s t : State} {l : List Fld} (h : s.Reported t l) (m : Sparse Port) :
    (s.withPorts m).Reported (t.withPorts m) l := by
  have hfabric := h.fabric
  obtain ⟨form, frame, link, pair, kept⟩ := h
  refine ⟨form, ?_, link, pair, kept⟩
  generalize t.regs = r, t.log = g, t.counters = c, t.out = o, t.link = n, t.pair = p at frame
  rw [frame]
  rfl

/-- t is s after work on the ports: their states and the checks', reports, and completions that queues which serve on have taken. -/
structure State.Ported (s t : State) : Prop where
  ports : spWf {} 0 t.fabric.ports = true
  reported : (s.withPorts t.fabric.ports).Reported t [F.PORT_GEN.GEN]
  serving : s.Serving t

namespace State.Ported

variable {s t u : State}

theorem start (wp : spWf {} 0 s.fabric.ports = true) (wr : wordsWf 0 s.regs = true) (wq : spWf {} 0 s.link.queues = true) : s.Ported s :=
  ⟨wp, .refl wr _, .refl wq⟩

theorem refl (hwf : s.allWf = true) : s.Ported s :=
  start (State.portsWf_of_allWf hwf) (State.regsWf_of_allWf hwf) (State.queuesWf_of_allWf hwf)

theorem taking (hwf : s.allWf = true) (src : Src) : (s.taking src).Ported (s.taking src) :=
  start (State.portsWf_of_allWf (s := s) hwf) (State.regsWf_of_allWf (s := s) hwf) (State.queuesWf_of_allWf (s := s) hwf)

theorem trans (h : s.Ported t) (k : t.Ported u) : s.Ported u :=
  ⟨k.ports, (h.reported.withPorts u.fabric.ports).trans k.reported, h.serving.trans k.serving⟩

theorem of_reported (h : s.Ported t) (k : t.Reported u [F.PORT_GEN.GEN]) (hs : t.Serving u) : s.Ported u := by
  refine h.trans ⟨by rw [k.fabric]; exact h.ports, ?_, hs⟩
  rw [k.fabric]
  exact k

theorem modPort (h : s.Ported t) (p : Nat) (f : Port → Port) : s.Ported (t.modPort p f) :=
  have heq : t.withPorts (t.modPort p f).fabric.ports = t.modPort p f := rfl
  h.trans ⟨(State.modPort_change h.ports p f).form, by rw [heq]; exact .refl (s := t.modPort p f) h.reported.form _, (State.Serving.refl h.serving.form).link rfl⟩

theorem count (h : s.Ported t) (g i n : Nat) : s.Ported (t.count g i n) :=
  h.of_reported ((State.Reported.refl h.reported.form _).count g i n) ((State.Serving.refl h.serving.form).link rfl)

theorem complete (h : s.Ported t) (op : Nat) (src : Src) (detail : Nat) (result : List Byte) :
    s.Ported (t.complete op src .done 0 detail result) :=
  h.of_reported ((State.Reported.refl h.reported.form _).complete ..) ((State.Serving.refl h.serving.form).complete ..)

theorem foldl {α : Type} {f : State → α → State} {is : List α} (h : s.Ported t) (hstep : ∀ u, s.Ported u → ∀ i ∈ is, s.Ported (f u i)) :
    s.Ported (is.foldl f t) := List.foldlRecOn is f h hstep

theorem ite {c : Prop} [Decidable c] (ht : s.Ported t) (hu : s.Ported u) : s.Ported (if c then t else u) := by
  split
  · exact ht
  · exact hu

end State.Ported

/-- The reports of a change of a port's state, from the new PORT_GEN on. -/
def State.tellPort (s : State) (p old st reason g : Nat) : State :=
  (((s.sendJournal (.portState p st reason)).sendJournal (.portGen g)).event 4
    (le 2 (portCode p) ++ le 1 old ++ le 1 st ++ le 1 reason ++ le 1 0 ++
      le 2 ((((s.sendJournal (.portState p st reason)).sendJournal (.portGen g))).portFlags p) ++ le 4 g)).logEntry
    (if decide (old ≠ st) && (decide (st = 0) || decide (st = 4) || decide (st = 5)) then 4 else 3) 5 .environment .port reason p

theorem State.setPort_eq {s : State} {p st reason : Nat} (h : ¬ ((s.port p).state = st ∧ (s.port p).reason = reason)) :
    s.setPort p st reason = ((s.modPort p (fun x => { x with state := st, reason := reason })).fset F.PORT_GEN.GEN
      ((s.fget F.PORT_GEN.GEN + 1) % 2 ^ 32)).tellPort p (s.port p).state st reason ((s.fget F.PORT_GEN.GEN + 1) % 2 ^ 32) :=
  if_neg h

theorem State.tellPort_reported {s : State} (w : wordsWf 0 s.regs = true) (p old st reason g : Nat) (l : List Fld) :
    s.Reported (s.tellPort p old st reason g) l :=
  State.Reported.logEntry (State.Reported.event (((State.Reported.refl w l).sendJournal _).sendJournal _) _ _)
    (by split <;> decide) ..

theorem State.tellPort_serves {s : State} (w : spWf {} 0 s.link.queues = true) (p old st reason g : Nat) :
    s.Serves (s.tellPort p old st reason g) :=
  State.Serves.logEntry (State.Serves.event (((State.Serves.refl w).sendJournal _).sendJournal _) _ _) ..

theorem State.Ported.setPort {s t : State} (h : s.Ported t) (p st reason : Nat) : s.Ported (t.setPort p st reason) := by
  by_cases hsame : (t.port p).state = st ∧ (t.port p).reason = reason
  · rw [show t.setPort p st reason = t from if_pos hsame]
    exact h
  · rw [State.setPort_eq hsame]
    have hmod := h.modPort p (fun x => { x with state := st, reason := reason })
    generalize (t.modPort p (fun x => { x with state := st, reason := reason })) = u at hmod ⊢
    generalize (t.fget F.PORT_GEN.GEN + 1) % 2 ^ 32 = g
    have hset : u.Reported (u.fset F.PORT_GEN.GEN g) [F.PORT_GEN.GEN] :=
      (State.Reported.refl hmod.reported.form _).fset (by simp) (by decide) g
    have hserves : u.Serving (u.fset F.PORT_GEN.GEN g) := (State.Serving.refl hmod.serving.form).link rfl
    generalize u.fset F.PORT_GEN.GEN g = v at hset hserves ⊢
    exact hmod.of_reported (hset.trans (State.tellPort_reported hset.form ..))
      (hserves.trans (.of_serves (State.tellPort_serves hserves.form ..)))

/-- A port that changes its state raises PORT_GEN (R245). -/
theorem State.setPort_gen {s : State} (w : wordsWf 0 s.regs = true) {p st reason : Nat}
    (h : ¬ ((s.port p).state = st ∧ (s.port p).reason = reason)) :
    (s.setPort p st reason).fget F.PORT_GEN.GEN = (s.fget F.PORT_GEN.GEN + 1) % 2 ^ 32 := by
  have wu : wordsWf 0 (s.modPort p (fun x => { x with state := st, reason := reason })).regs = true := w
  have hlt : (s.fget F.PORT_GEN.GEN + 1) % 2 ^ 32 < 2 ^ 32 := Nat.mod_lt _ (by decide)
  rw [State.setPort_eq h]
  generalize (s.modPort p (fun x => { x with state := st, reason := reason })) = u at wu ⊢
  generalize (s.fget F.PORT_GEN.GEN + 1) % 2 ^ 32 = g at hlt ⊢
  have hset := u.fset_wf F.PORT_GEN.GEN g wu
  rw [(State.tellPort_reported hset p _ st reason g []).fget (apart_of_test (by decide)), State.fget_fset_self _ _ _ (by decide) wu]
  exact Nat.mod_eq_of_lt hlt

theorem State.Ported.berthDone {s t : State} (h : s.Ported t) (p : Nat) : s.Ported (t.berthDone p) :=
  (h.modPort p _).foldl fun _ hu _ _ => hu.complete ..

theorem State.Ported.endCheck {s t : State} (h : s.Ported t) (p : Nat) (again : Bool) : s.Ported (t.endCheck p again) := by
  have hmod := h.modPort p (fun x => { x with checking := false, hellos := 0, queued := again })
  unfold State.endCheck
  dsimp only
  split
  · exact hmod
  · exact hmod.berthDone p

theorem State.Ported.mirrorFails {s t : State} (h : s.Ported t) (p : Nat) : s.Ported (t.mirrorFails p) :=
  ((h.modPort p _).setPort p 5 6).berthDone p

/-- Whatever a check finds, its verdict is work on the ports (R251). -/
theorem State.Ported.applyVerdict {s t : State} (h : s.Ported t) (p : Nat) : s.Ported (t.applyVerdict p) := by
  unfold State.applyVerdict
  dsimp only
  split
  · split
    · exact (h.modPort p _).setPort p 2 0
    · exact h.setPort p 4 1
  · split
    · exact (h.setPort p 4 3).foldl fun u hu y _ => (hu.setPort y 4 3).ite hu
    · split
      · split
        · exact h.setPort p 3 0
        · exact (h.modPort p _).setPort p 2 0
      · split
        · exact (h.setPort p 4 2).foldl fun u hu y _ => (hu.setPort y 4 2).ite hu
        · exact h.setPort p 4 1

theorem State.Ported.verdict {s t : State} (h : s.Ported t) (p : Nat) : s.Ported (t.verdict p) :=
  ((h.modPort p _).applyVerdict p).berthDone p

theorem State.Ported.rejudge {s t : State} (h : s.Ported t) (p : Nat) : s.Ported (t.rejudge p) :=
  (h.setPort p 1 0).ite ((h.applyVerdict p).ite h)

/-- A check that ends is over, and is repeated only where told (R253). -/
theorem State.endCheck_change {s : State} (w : spWf {} 0 s.fabric.ports = true) (p : Nat) :
    PortChange p (fun x => { x with checking := false, hellos := 0, queued := false, waiting := [] }) s (s.endCheck p false) :=
  let hmod := State.modPort_change w p fun x => { x with checking := false, hellos := 0, queued := false }
  hmod.trans (State.berthDone_change hmod.form p)

namespace State.Ported

variable {s t : State} (h : s.Ported t)
include h

theorem reports : reports { s with fabric := { s.fabric with ports := t.fabric.ports } } t [F.PORT_GEN.GEN] := h.reported.reports

theorem plan : t.fabric.plan = s.fabric.plan := (congrArg Fabric.plan h.reported.fabric : _)

theorem cqOf (src : Src) : t.cqOf src = s.cqOf src :=
  h.serving.cqOf src (congrArg TowSys.spaces h.reported.tows) (h.reported.fget (apart_of_test (by decide)))

/-- A command is answered after work on the ports as it would have been before. -/
theorem answered {src : Src} (ha : s.Answers src) (op : Nat) (st : Status) (reason detail : Nat) (result cells : List Byte) :
    answered s (t.complete op src st reason detail result cells) op src st reason detail result cells := by
  rw [Machine.answered, ← h.cqOf src]
  exact State.complete_answered h.serving.form (h.serving.answers (h.cqOf src) ha) ..

theorem active : t.active = s.active := by
  simp only [State.active, h.reported.fget (g := F.PAIR_STATUS.STATE) (apart_of_test (by decide))]
  rfl

theorem attached : t.attached = s.attached :=
  State.attached_congr (h.reported.fget (apart_of_test (by decide))) (h.reported.fget (apart_of_test (by decide)))
    (by rw [h.reported.reports.2.2.1]; rfl)

end State.Ported

end Sys2Proof.Machine
end

section
/-!
PROOFS. Customer ports (R204, R244–R246, R252–R254, R289): light gained and lost, mirror faults, and the port commands.
-/

namespace Sys2Proof.Machine

/-! ## Light (R246) -/

section
variable {s : State} {p : Nat} (hp : p < 2304)
include hp

/-- A port that has gained light: queued for a check, its far end not known yet. -/
def Port.lit (x : Port) : Port := { x with light := true, known := false, queued := true }

/-- A port that has lost its light. -/
def Port.unlit (x : Port) : Port := { x with light := false, known := false, queued := false }

theorem exec_lightGained (hwf : s.allWf = true) (hdark : (s.port p).light = false) :
    exec (.lightGained p) s = .next (if s.active && s.circuit p && !(s.port p).fixed then
      ((s.modPort p Port.lit).modPort p (fun x => { x with unverified := s.planned p })).setPort p 2 0
    else s.modPort p Port.lit) := by
  have hlit := (State.modPort_change (State.portsWf_of_allWf hwf) p Port.lit).self
  have hfixed : ((s.modPort p Port.lit).port p).fixed = (s.port p).fixed := by rw [hlit]; rfl
  show execLightGained p s = _
  rw [execLightGained, show Instr.wf (.lightGained p) = true from decide_eq_true hp, ← hfixed]
  exact congrArg Host.Outcome.next (if_neg (by simp [hdark]))

theorem lightGained_admits (hwf : s.allWf = true) (hdark : (s.port p).light = false) (hgo : s.active && s.circuit p && !(s.port p).fixed) :
    ∃ t, exec (.lightGained p) s = .next t ∧
      t.port p = { s.port p with light := true, known := false, queued := true, unverified := s.planned p, state := 2, reason := 0 } ∧
      (∀ q, q ≠ p → t.port q = s.port q) ∧
      reports { s with fabric := { s.fabric with ports := t.fabric.ports } } t [F.PORT_GEN.GEN] := by
  have hlit := State.modPort_change (State.portsWf_of_allWf hwf) p Port.lit
  have hseen := hlit.trans (State.modPort_change hlit.form p (fun x => { x with unverified := s.planned p }))
  have hset := hseen.trans (State.setPort_change hseen.form p 2 0)
  have hdone := (((State.Ported.refl hwf).modPort p Port.lit).modPort p (fun x => { x with unverified := s.planned p })).setPort p 2 0
  exact ⟨_, (exec_lightGained hp hwf hdark).trans (congrArg Host.Outcome.next (if_pos hgo)), hset.self, fun q hq => hset.other hq, hdone.reports⟩

omit hp in
/-- The machine once port p has lost its light and a check of it has ended. -/
def State.lightOut (s : State) (p : Nat) : State :=
  if ((s.modPort p Port.unlit).port p).checking then (s.modPort p Port.unlit).endCheck p false else s.modPort p Port.unlit

omit hp in
theorem State.Ported.lightOut (hwf : s.allWf = true) (p : Nat) : s.Ported (s.lightOut p) :=
  have h := (State.Ported.refl hwf).modPort p Port.unlit
  (h.endCheck p false).ite h

omit hp in
theorem State.lightOut_change (hwf : s.allWf = true) (p : Nat) : ∃ f : Port → Port, PortChange p f s (s.lightOut p) ∧
    (f (s.port p)).light = false ∧ (f (s.port p)).checking = false ∧ (f (s.port p)).queued = false ∧
    (f (s.port p)).fixed = (s.port p).fixed := by
  have hlost := State.modPort_change (State.portsWf_of_allWf hwf) p Port.unlit
  unfold State.lightOut
  split
  · exact ⟨_, hlost.trans (State.endCheck_change hlost.form p), rfl, rfl, rfl, rfl⟩
  next hidle =>
    rw [hlost.self] at hidle
    exact ⟨_, hlost, rfl, Bool.eq_false_iff.mpr hidle, rfl, rfl⟩

theorem exec_lightLost (hlight : (s.port p).light = true) : exec (.lightLost p) s = .next
    (if (s.lightOut p).active && !((s.lightOut p).port p).fixed then (s.lightOut p).setPort p (if (s.lightOut p).planned p then 0 else 1) 0
     else s.lightOut p) := by
  show execLightLost p s = _
  rw [execLightLost, show Instr.wf (.lightLost p) = true from decide_eq_true hp]
  exact congrArg Host.Outcome.next (if_neg (by simp [hlight]))

theorem lightLost_spec (hwf : s.allWf = true) (hlight : (s.port p).light = true) (hactive : s.active = true) (hfree : (s.port p).fixed = false) :
    ∃ t, exec (.lightLost p) s = .next t ∧ (t.port p).light = false ∧ (t.port p).checking = false ∧ (t.port p).queued = false ∧
      (t.port p).state = (if s.planned p then 0 else 1) ∧ (t.port p).reason = 0 ∧ (∀ q, q ≠ p → t.port q = s.port q) ∧
      reports { s with fabric := { s.fabric with ports := t.fabric.ports } } t [F.PORT_GEN.GEN] := by
  have hworked := State.Ported.lightOut hwf p
  obtain ⟨f, hchange, hl, hc, hq, hf⟩ := State.lightOut_change hwf p
  rw [exec_lightLost hp hlight]
  generalize s.lightOut p = u at hchange hworked ⊢
  have hactive' : u.active = true := by rw [hworked.active]; exact hactive
  have hplanned : u.planned p = s.planned p := by rw [State.planned, State.planOf, hworked.plan]; rfl
  have hset := hchange.trans (State.setPort_change hchange.form p (if s.planned p then 0 else 1) 0)
  refine ⟨_, congrArg Host.Outcome.next (if_pos (by rw [hchange.self, hf, hactive', hfree]; rfl)), ?_⟩
  rw [hplanned]
  refine ⟨?_, ?_, ?_, ?_, ?_, fun q hq => hset.other hq, (hworked.setPort p _ 0).reports⟩ <;> rw [hset.self]
  · exact hl
  · exact hc
  · exact hq

theorem absentTimeout_spec (hwf : s.allWf = true) (hactive : s.active = true) (hplanned : s.planned p = true)
    (hstate : (s.port p).state = 1) (hdark : (s.port p).light = false) :
    ∃ t, exec (.absentTimeout p) s = .next t ∧ t.port p = { s.port p with state := 0, reason := 0 } ∧
      t.fget F.PORT_GEN.GEN = (s.fget F.PORT_GEN.GEN + 1) % 2 ^ 32 ∧ (∀ q, q ≠ p → t.port q = s.port q) ∧
      reports { s with fabric := { s.fabric with ports := t.fabric.ports } } t [F.PORT_GEN.GEN] := by
  have hset := State.setPort_change (State.portsWf_of_allWf hwf) p 0 0
  refine ⟨s.setPort p 0 0, ?_, hset.self, State.setPort_gen (State.regsWf_of_allWf hwf) (by rw [hstate]; simp), fun q hq => hset.other hq,
    ((State.Ported.refl hwf).setPort p 0 0).reports⟩
  show execAbsentTimeout p s = _
  rw [execAbsentTimeout, show Instr.wf (.absentTimeout p) = true from decide_eq_true hp]
  exact congrArg Host.Outcome.next (if_pos (by simp [hactive, hplanned, hstate, hdark]))

/-! ## Mirror faults (R254) -/

omit hp in
/-- A BERTH_CHECK that waits alone for a port is answered with the port's state and reason. -/
theorem State.Ported.berthDone_answered {t : State} (h : s.Ported t) {src : Src} (ha : s.Answers src) (hw : (t.port p).waiting = [src]) :
    Machine.answered s (t.berthDone p) 0x33 src .done 0 0 (le 1 (t.port p).state ++ le 1 (t.port p).reason) [] := by
  have hone : t.berthDone p = (t.modPort p (fun x => { x with waiting := [] })).complete 0x33 src .done 0 0
      (le 1 (t.port p).state ++ le 1 (t.port p).reason) := by
    unfold State.berthDone
    dsimp only
    rw [hw]
    rfl
  rw [hone]
  exact (h.modPort p _).answered ha ..

theorem mirrorFault_spec (hwf : s.allWf = true) (hactive : s.active = true) :
    ∃ t, exec (.mirrorFault p true) s = .next t ∧ (t.port p).state = 5 ∧ (t.port p).reason = 6 ∧ (t.port p).mirrorFault = true ∧
      (t.port p).waiting = [] ∧ (∀ q, q ≠ p → t.port q = s.port q) ∧
      reports { s with fabric := { s.fabric with ports := t.fabric.ports } } t [F.PORT_GEN.GEN] ∧
      (∀ src, (s.port p).waiting = [src] → (s.queue (s.cqOf src)).en = true → (s.queue (s.cqOf src)).dir = true →
        (s.queue (s.cqOf src)).broken = false → s.link.flrDiscard.contains src = false →
        answered s t 0x33 src .done 0 0 (le 1 5 ++ le 1 6) []) := by
  have hdown := State.mirrorFails_change (State.portsWf_of_allWf hwf) p
  have hwork := (State.Ported.refl hwf).mirrorFails p
  refine ⟨_, exec_mirrorFault hp hactive, ?_, ?_, ?_, ?_, fun q hq => hdown.other hq, hwork.reports, fun src hw hen hdir hsound hkept => ?_⟩
  iterate 4 (rw [hdown.self]; rfl)
  have hmod := State.modPort_change (State.portsWf_of_allWf hwf) p fun x => { x with mirrorFault := true, checking := false, queued := false }
  have hset := hmod.trans (State.setPort_change hmod.form p 5 6)
  have hbefore := ((State.Ported.refl hwf).modPort p fun x => { x with mirrorFault := true, checking := false, queued := false }).setPort p 5 6
  have h := State.Ported.berthDone_answered hbefore ⟨hen, hdir, hsound, hkept⟩ (by rw [hset.self]; exact hw)
  rw [hset.self] at h
  exact h

end

/-! ## The port commands (R252, R289) -/

section
variable {s : State} {src : Src} (hwf : s.allWf = true)
include hwf

omit hwf in
/-- A command answered after work on the ports is answered for the state that took it. -/
theorem State.accepts.worked {op : Nat} (hacc : s.accepts op src) {u : State} (h : (s.taking src).Ported u) (op' : Nat) (st : Status)
    (reason detail : Nat) (result cells : List Byte) :
    answered s (u.complete op' src st reason detail result cells) op' src st reason detail result cells :=
  answered_of_open (State.Open.taking s src) (h.answered (State.taking_answers hacc) ..)

theorem portStateGet_spec (hacc : s.accepts 0x30 src) (first count : Nat) :
    (1 ≤ count → count ≤ 512 → first + count ≤ 2304 →
      ∃ t, exec (.portStateGet src first count) s = .next t ∧ reports (s.without src) t [] ∧
        answered s t 0x30 src .done 0 0 [] ((List.range count).flatMap (fun k => s.portRecord (first + k)))) ∧
    (count = 0 ∨ 512 < count ∨ 2304 < first + count →
      ∃ t, exec (.portStateGet src first count) s = .next t ∧ reports (s.without src) t [] ∧
        answered s t 0x30 src .refused Reason.range.code 0 [] []) := by
  have hexec : exec (.portStateGet src first count) s = .next (if count = 0 ∨ 512 < count ∨ 2304 < first + count then
      (s.taking src).refuse 0x30 src .range
    else (s.taking src).complete 0x30 src .done 0 0 [] ((List.range count).flatMap (fun k => s.portRecord (first + k)))) :=
    congrArg Host.Outcome.next (State.handle_accepted hacc _)
  refine ⟨fun h1 h2 h3 => ?_, fun h => ?_⟩
  · have hdone := hacc.settled hwf 0x30 .done 0 0 [] ((List.range count).flatMap (fun k => s.portRecord (first + k)))
    exact ⟨_, hexec.trans (congrArg Host.Outcome.next (if_neg (by omega))), hdone.2, hdone.1⟩
  · have hdone := hacc.refused hwf .range 0
    exact ⟨_, hexec.trans (congrArg Host.Outcome.next (if_pos h)), hdone.2, hdone.1⟩

omit hwf in
theorem exec_portQuarantine (hacc : s.accepts 0x31 src) {p : Nat} (hp : p < 2304) (clear : Bool) :
    exec (.portQuarantine src p clear) s = .next (if clear then
      if (s.port p).state = 4 ∧ (s.port p).reason = 4 then
        ((((s.taking src).setPort p 1 0).modPort p (fun x => { x with queued := true })).completeCopied 0x31 src)
      else (s.taking src).refuse 0x31 src .state
    else (((s.taking src).setPort p 4 4).endCheck p false).completeCopied 0x31 src) :=
  congrArg Host.Outcome.next ((State.handle_accepted hacc _).trans (if_neg (by omega)))

theorem portQuarantine_sets (hacc : s.accepts 0x31 src) {p : Nat} (hp : p < 2304) (hsolo : s.attached = false) :
    ∃ t, exec (.portQuarantine src p false) s = .next t ∧ (t.port p).state = 4 ∧ (t.port p).reason = 4 ∧
      (t.port p).checking = false ∧ (∀ q, q ≠ p → t.port q = s.port q) ∧ answered s t 0x31 src .done 0 0 [] [] ∧
      t.steer = s.steer ∧ t.mem = s.mem ∧ t.lock = s.lock := by
  have hwork := ((State.Ported.taking hwf src).setPort p 4 4).endCheck p false
  have hset := State.setPort_change (s := s.taking src) (State.portsWf_of_allWf (s := s) hwf) p 4 4
  have hend := hset.trans (State.endCheck_change hset.form p)
  have hexec := exec_portQuarantine hacc hp false
  rw [if_neg (by decide)] at hexec
  generalize ((s.taking src).setPort p 4 4).endCheck p false = u at hwork hend hexec
  rw [State.completeCopied_eq (hwork.attached.trans hsolo)] at hexec
  have hdone := hend.of_fabric (State.complete_fabric u 0x31 src .done 0 0 [] [])
  refine ⟨_, hexec, ?_, ?_, ?_, fun q hq => hdone.other hq, hacc.worked hwork .., ?_, ?_, ?_⟩
  iterate 3 (rw [hdone.self])
  · rw [State.complete_steer]
    exact hwork.reported.steer
  · rw [State.complete_mem]
    exact hwork.reported.mem
  · rw [State.complete_lock]
    exact hwork.reported.lock

end

theorem State.modPort_pair (s : State) (p : Nat) (f : Port → Port) : (s.modPort p f).pair = s.pair := rfl

theorem State.endCheck_pair (s : State) (p : Nat) (again : Bool) : (s.endCheck p again).pair = s.pair := by
  have hdone : ∀ u : State, (u.berthDone p).pair = u.pair := fun u =>
    List.foldlRecOn (motive := fun t : State => t.pair = u.pair) (u.port p).waiting _ (State.modPort_pair u p _) fun t ht x _ =>
      (State.complete_pair ..).trans ht
  unfold State.endCheck
  dsimp only
  split
  · rfl
  · exact (hdone _).trans rfl

/-- A port whose state changes on the active is journalled (R204). -/
theorem State.setPort_journal {s : State} {p st reason : Nat} (w : wordsWf 0 s.regs = true) (hactive : s.active = true) (hatt : s.attached = true)
    (h : ¬ ((s.port p).state = st ∧ (s.port p).reason = reason)) : (s.setPort p st reason).pair.journal ≠ [] := by
  rw [State.setPort_eq h]
  have hmod : (s.modPort p (fun x => { x with state := st, reason := reason })).regs = s.regs := rfl
  have hold : (s.modPort p (fun x => { x with state := st, reason := reason })).pair = s.pair := rfl
  generalize (s.modPort p (fun x => { x with state := st, reason := reason })) = u at hmod hold ⊢
  generalize (s.fget F.PORT_GEN.GEN + 1) % 2 ^ 32 = g
  have wu : wordsWf 0 u.regs = true := by rw [hmod]; exact w
  have hset : u.Reported (u.fset F.PORT_GEN.GEN g) [F.PORT_GEN.GEN] := (State.Reported.refl wu _).fset (by simp) (by decide) g
  have hpair : (u.fset F.PORT_GEN.GEN g).pair = s.pair := hold
  generalize u.fset F.PORT_GEN.GEN g = v at hset hpair ⊢
  have hget : ∀ f : Fld, (∀ x ∈ [F.PORT_GEN.GEN] ++ logFields, Fld.apart x f) → v.fget f = s.fget f := fun f hf =>
    (hset.fget hf).trans (State.fget_of_regs hmod f)
  have hva : v.active = true := by
    rw [← hactive, State.active, State.active, hget _ (apart_of_test (by decide))]
  have hvt : v.attached = true :=
    (State.attached_congr (hget _ (apart_of_test (by decide))) (hget _ (apart_of_test (by decide))) (by rw [hpair])).trans hatt
  have hlast := State.sendJournals_last hva hvt [.portState p st reason] (.portGen g)
  have htell : (v.tellPort p (s.port p).state st reason g).pair = ((v.sendJournal (.portState p st reason)).sendJournal (.portGen g)).pair := by
    rw [State.tellPort, State.logEntry_pair, State.event_pair]
  rw [htell]
  intro hnil
  rw [show ([JItem.portState p st reason].foldl State.sendJournal v).sendJournal (.portGen g) = (v.sendJournal (.portState p st reason)).sendJournal (.portGen g)
    from rfl, hnil] at hlast
  cases hlast

section
variable {s : State} {src : Src} (hwf : s.allWf = true)
include hwf

omit hwf in
theorem State.accepts.active {op : Nat} (hacc : s.accepts op src) (hop : op ∈ activeOps) : s.active = true := by
  have hgate : s.gate op src = none := hacc.2.2.1
  by_contra hn
  have hfalse : s.active = false := Bool.eq_false_iff.mpr hn
  have hin : activeOps.contains op = true := List.contains_iff_mem.mpr hop
  simp only [State.gate, hin, hfalse, Bool.not_false, Bool.and_self, if_true] at hgate
  split at hgate <;> cases hgate

/-- On an active with a STANDBY partner the completion of PORT_QUARANTINE waits for the journal (R204). -/
theorem portQuarantine_waits (hacc : s.accepts 0x31 src) {p : Nat} (hp : p < 2304) (hatt : s.attached = true)
    (hstandby : s.fget F.PAIR_STATUS.PARTNER = 2) (hstate : (s.port p).state ≠ 4) :
    ∃ t w, exec (.portQuarantine src p false) s = .next t ∧ (t.port p).state = 4 ∧ (t.port p).reason = 4 ∧
      t.pair.waits = s.pair.waits ++ [w] ∧ w.src = src ∧ w.op = 0x31 ∧ w.seq = t.pair.journalSeq := by
  have hwork := ((State.Ported.taking hwf src).setPort p 4 4).endCheck p false
  have hset := State.setPort_change (s := s.taking src) (State.portsWf_of_allWf (s := s) hwf) p 4 4
  have hend := hset.trans (State.endCheck_change hset.form p)
  have hexec := exec_portQuarantine hacc hp false
  rw [if_neg (by decide)] at hexec
  have hactive := hacc.active (by decide)
  have hjournal : (((s.taking src).setPort p 4 4).endCheck p false).pair.journal ≠ [] := by
    rw [State.endCheck_pair]
    exact State.setPort_journal (s := s.taking src) (State.regsWf_of_allWf (s := s) hwf) hactive hatt fun h => hstate h.1
  generalize ((s.taking src).setPort p 4 4).endCheck p false = u at hwork hend hexec hjournal
  have hwaits : u.pair.waits = s.pair.waits := by rw [hwork.reported.reports.2.2.1]; rfl
  have hpartner : u.fget F.PAIR_STATUS.PARTNER = 2 := (hwork.reported.fget (apart_of_test (by decide))).trans hstandby
  have hcopied : u.completeCopied 0x31 src = { u with pair := { u.pair with
      waits := u.pair.waits ++ [⟨u.pair.journalSeq, u.steer.tick, src, 0x31, 0, []⟩] } } :=
    if_pos (by simp [hwork.active.trans hactive, hwork.attached.trans hatt, hpartner, hjournal])
  rw [hcopied] at hexec
  have hport : (u.port p).state = 4 ∧ (u.port p).reason = 4 := by rw [hend.self]; exact ⟨rfl, rfl⟩
  exact ⟨_, _, hexec, hport.1, hport.2, congrArg (· ++ _) hwaits, rfl, rfl, rfl⟩

theorem portQuarantine_clears (hacc : s.accepts 0x31 src) {p : Nat} (hp : p < 2304) (hsolo : s.attached = false)
    (hstate : (s.port p).state = 4) (hreason : (s.port p).reason = 4) :
    ∃ t, exec (.portQuarantine src p true) s = .next t ∧ t.port p = { s.port p with state := 1, reason := 0, queued := true } ∧
      (∀ q, q ≠ p → t.port q = s.port q) ∧ answered s t 0x31 src .done 0 0 [] [] := by
  have hset := State.setPort_change (s := s.taking src) (State.portsWf_of_allWf (s := s) hwf) p 1 0
  have hend := hset.trans (State.modPort_change hset.form p fun x => { x with queued := true })
  have hwork := ((State.Ported.taking hwf src).setPort p 1 0).modPort p fun x => { x with queued := true }
  have hexec := exec_portQuarantine hacc hp true
  rw [if_pos rfl, if_pos ⟨hstate, hreason⟩] at hexec
  generalize (((s.taking src).setPort p 1 0).modPort p fun x => { x with queued := true }) = u at hwork hend hexec
  rw [State.completeCopied_eq (hwork.attached.trans hsolo)] at hexec
  have hdone := hend.of_fabric (State.complete_fabric u 0x31 src .done 0 0 [] [])
  exact ⟨_, hexec, hdone.self, fun q hq => hdone.other hq, hacc.worked hwork ..⟩

theorem portQuarantine_refused (hacc : s.accepts 0x31 src) {p : Nat} (hp : p < 2304) (h : (s.port p).state ≠ 4 ∨ (s.port p).reason ≠ 4) :
    ∃ t, exec (.portQuarantine src p true) s = .next t ∧ answered s t 0x31 src .refused Reason.state.code 0 [] [] ∧
      reports (s.without src) t [] := by
  have hexec := exec_portQuarantine hacc hp true
  rw [if_pos rfl, if_neg (by omega)] at hexec
  exact ⟨_, hexec, hacc.refused hwf .state 0⟩

end

/-! ## Plans accepted as found (R252) -/

theorem State.planWf_of_allWf {s : State} (h : s.allWf = true) : spWf 0 0 s.fabric.plan = true := by
  simp only [State.allWf, State.controlWf, Bool.and_eq_true] at h
  tauto

/-- t is s with another live plan, told to the partner. -/
structure State.Replans (s t : State) : Prop where
  frame : t = { s with fabric := { s.fabric with plan := t.fabric.plan }, pair := t.pair, out := t.out, counters := t.counters }
  enOld : t.pair.enOld = s.pair.enOld

theorem State.Replans.refl (s : State) : s.Replans s := ⟨rfl, rfl⟩

theorem State.Replans.setPlan {s t : State} (h : s.Replans t) (p v : Nat) : s.Replans (t.setPlan p v) := by
  have hset : t.setPlan p v = { t with fabric := { t.fabric with plan := spSet 0 t.fabric.plan p v }, pair := (t.setPlan p v).pair
                                       out := (t.setPlan p v).out, counters := (t.setPlan p v).counters } := by
    unfold State.setPlan State.sendJournal
    split <;> rfl
  have hold : (t.setPlan p v).pair.enOld = t.pair.enOld := State.sendJournal_enOld ..
  obtain ⟨frame, enOld⟩ := h
  refine ⟨?_, hold.trans enOld⟩
  generalize t.setPlan p v = u at hset ⊢
  rw [hset, frame]

theorem State.setPlan_plan (s : State) (p v : Nat) : (s.setPlan p v).fabric.plan = spSet 0 s.fabric.plan p v := by
  unfold State.setPlan
  rw [State.sendJournal_fabric]

/-- The entries of the live plan that plan identity f for another port. -/
def State.owners (s : State) (p f : Nat) : List Nat := (s.fabric.plan.filter (fun q => decide (q.1 ≠ p) && s.plans q.1 f)).map (·.1)

theorem mem_of_spGet {α : Type} [DecidableEq α] {d : α} {m : Sparse α} {k : Nat} (h : spGet d m k ≠ d) : ∃ v, (k, v) ∈ m := by
  induction m with
  | nil => exact absurd rfl h
  | cons e m ih =>
    obtain ⟨i, v⟩ := e
    by_cases hk : i = k
    · exact ⟨v, hk ▸ List.mem_cons_self⟩
    · have hrest : spGet d ((i, v) :: m) k = spGet d m k := by simp [spGet, hk]
      rw [hrest] at h
      obtain ⟨x, hx⟩ := ih h
      exact ⟨x, List.mem_cons_of_mem _ hx⟩

theorem State.mem_owners (s : State) (p f q : Nat) : q ∈ s.owners p f ↔ q ≠ p ∧ s.plans q f = true := by
  unfold State.owners
  simp only [List.mem_map, List.mem_filter, Bool.and_eq_true, decide_eq_true_eq]
  refine ⟨fun ⟨e, ⟨_, hne, hplans⟩, he⟩ => he ▸ ⟨hne, hplans⟩, fun ⟨hne, hplans⟩ => ?_⟩
  have hset : s.planOf q ≠ 0 := fun hzero => by
    rw [State.plans, State.planned, hzero] at hplans
    simp at hplans
  obtain ⟨v, hv⟩ := mem_of_spGet hset
  exact ⟨(q, v), ⟨hv, hne, hplans⟩, rfl⟩

/-- The machine with identity f planned for port p and for no other. -/
def State.replanned (s : State) (p f : Nat) : State := ((s.owners p f).foldl (fun s y => s.setPlan y 0) s).setPlan p (f + 2 ^ 24)

theorem State.replanned_replans (s : State) (p f : Nat) : s.Replans (s.replanned p f) :=
  State.Replans.setPlan (List.foldlRecOn (motive := fun t => s.Replans t) _ _ (.refl s) fun _ ht _ _ => ht.setPlan ..) ..

theorem State.replanned_plan {s : State} (w : spWf 0 0 s.fabric.plan = true) (p f q : Nat) :
    (s.replanned p f).planOf q = if q = p then f + 2 ^ 24 else if s.plans q f then 0 else s.planOf q := by
  have hfold : ∀ l : List Nat, (l.foldl (fun s y => s.setPlan y 0) s).fabric.plan = l.foldl (fun m y => spSet 0 m y 0) s.fabric.plan := fun l => by
    induction l generalizing s with
    | nil => rfl
    | cons y l ih =>
      rw [List.foldl_cons, List.foldl_cons, ih (s := s.setPlan y 0) (by rw [State.setPlan_plan]; exact spSet_wf _ _ _ _ 0 (Nat.zero_le _) w),
        State.setPlan_plan]
  have hwf : ∀ l : List Nat, spWf 0 0 (l.foldl (fun m y => spSet 0 m y 0) s.fabric.plan) = true := fun l =>
    List.foldlRecOn (motive := fun m : Sparse Nat => spWf 0 0 m = true) l _ w fun m hm y _ => spSet_wf _ _ _ _ 0 (Nat.zero_le _) hm
  rw [State.planOf, State.replanned, State.setPlan_plan, hfold]
  by_cases hq : q = p
  · rw [if_pos hq, hq, spGet_spSet_self _ _ _ _ 0 (hwf _)]
  · rw [if_neg hq, spGet_spSet_ne _ _ _ _ _ hq, spGet_foldl_keys 0 (fun _ => 0) _ w]
    have hmem : q ∈ s.owners p f ↔ s.plans q f = true := by rw [State.mem_owners]; exact and_iff_right hq
    simp only [hmem]
    rfl

section
variable {s : State} {src : Src} {p : Nat} (hp : p < 2304) (hacc : s.accepts 0x32 src)
include hp hacc

/-- The state and its port as PORT_ACCEPT_AS_FOUND judges them, with the plan changed. -/
theorem exec_portAccept {f : Nat} (hfound : (s.port p).found = some f) (hstate : (s.port p).state = 4)
    (hreason : (s.port p).reason = 1 ∨ (s.port p).reason = 2) :
    exec (.portAcceptAsFound src p) s = .next
      (let u := ((s.taking src).owners p f).foldl State.rejudge
        ((((s.taking src).replanned p f).modPort p (fun x => { x with unverified := false })).setPort p
          (if (s.port p).farVer / 16 ≠ 1 then 3 else 2) 0)
      u.completeCopied 0x32 src 0 (le 1 (u.port p).state)) := by
  refine congrArg Host.Outcome.next ((State.handle_accepted hacc _).trans ?_)
  have hfound' : ((s.taking src).port p).found = some f := hfound
  unfold portAccept
  rw [if_neg (by omega)]
  dsimp only
  rw [hfound']
  exact if_pos ⟨hstate, hreason⟩

theorem portAccept_spec (hwf : s.allWf = true) {f : Nat} (hfound : (s.port p).found = some f) (hstate : (s.port p).state = 4)
    (hreason : (s.port p).reason = 1 ∨ (s.port p).reason = 2) :
    ∃ t, exec (.portAcceptAsFound src p) s = .next t ∧ t.planOf p = f + 2 ^ 24 ∧
      (∀ q, q ≠ p → t.planOf q = if s.plans q f then 0 else s.planOf q) ∧
      ((∀ q, q ≠ p → s.plans q f = false) → s.attached = false →
        (t.port p).state = (if (s.port p).farVer / 16 ≠ 1 then 3 else 2) ∧ (t.port p).reason = 0 ∧
        (∀ q, q ≠ p → t.port q = s.port q) ∧ answered s t 0x32 src .done 0 0 (le 1 (t.port p).state) []) ∧
      t.steer = s.steer ∧ t.mem = s.mem ∧ t.lock = s.lock := by
  have hplan := State.replanned_plan (s := s.taking src) (State.planWf_of_allWf (s := s) hwf) p f
  have hre := (s.taking src).replanned_replans p f
  have hexec := exec_portAccept hp hacc hfound hstate hreason
  have hnone : (∀ q, q ≠ p → s.plans q f = false) → (s.taking src).owners p f = [] := fun h =>
    List.eq_nil_iff_forall_not_mem.mpr fun q hq => by
      obtain ⟨hne, hplans⟩ := ((s.taking src).mem_owners p f q).mp hq
      exact absurd (hplans.symm.trans (h q hne)) (by decide)
  generalize (s.taking src).replanned p f = v at hplan hre hexec
  have hports : v.fabric.ports = s.fabric.ports := by rw [hre.frame]; rfl
  have hregs : v.regs = s.regs := by rw [hre.frame]; rfl
  have hlink : v.link = s.link := by rw [hre.frame]; rfl
  have hkept : v.steer = s.steer ∧ v.mem = s.mem ∧ v.lock = s.lock ∧ v.tows = s.tows := by rw [hre.frame]; exact ⟨rfl, rfl, rfl, rfl⟩
  have hatt : v.attached = s.attached :=
    State.attached_congr (State.fget_of_regs hregs _) (State.fget_of_regs hregs _) hre.enOld
  have hans : v.Answers src ∧ v.cqOf src = s.cqOf src := by
    have hopen : s.Open v src := State.Open.of_keeps src hlink (congrArg TowSys.spaces hkept.2.2.2) hregs
    exact ⟨State.Answers.of_open (s := s) hacc.answers hopen, hopen.cq⟩
  have wp : spWf {} 0 v.fabric.ports = true := by rw [hports]; exact State.portsWf_of_allWf hwf
  have hstart : v.Ported v := State.Ported.start wp (by rw [hregs]; exact State.regsWf_of_allWf hwf) (by rw [hlink]; exact State.queuesWf_of_allWf hwf)
  have hset := (hstart.modPort p (fun x => { x with unverified := false })).setPort p (if (s.port p).farVer / 16 ≠ 1 then 3 else 2) 0
  have hmod := State.modPort_change wp p (fun x => { x with unverified := false })
  have hchange := hmod.trans (State.setPort_change hmod.form p (if (s.port p).farVer / 16 ≠ 1 then 3 else 2) 0)
  generalize (v.modPort p (fun x => { x with unverified := false })).setPort p (if (s.port p).farVer / 16 ≠ 1 then 3 else 2) 0 = x at hset hchange hexec
  have hfold := hset.foldl (f := State.rejudge) (is := (s.taking src).owners p f) fun _ hu y _ => hu.rejudge y
  have halone : (∀ q, q ≠ p → s.plans q f = false) → ((s.taking src).owners p f).foldl State.rejudge x = x := fun h => by
    rw [hnone h]
    rfl
  generalize ((s.taking src).owners p f).foldl State.rejudge x = y at hfold halone hexec
  have hplanned : ∀ q, (y.completeCopied 0x32 src 0 (le 1 (y.port p).state)).planOf q = v.planOf q := fun q => by
    rw [State.planOf, State.completeCopied_fabric, hfold.plan]
    rfl
  refine ⟨_, hexec, ?_, fun q hq => ?_, fun hothers hsolo => ?_, ?_, ?_, ?_⟩
  · exact ((hplanned p).trans (hplan p)).trans (if_pos rfl)
  · exact ((hplanned q).trans (hplan q)).trans (if_neg hq)
  · have hy := halone hothers
    subst hy
    rw [show y.completeCopied 0x32 src 0 (le 1 (y.port p).state) = y.complete 0x32 src .done 0 0 (le 1 (y.port p).state) from
      State.completeCopied_eq (hfold.attached.trans (hatt.trans hsolo)) ..]
    have hdone := hchange.of_fabric (State.complete_fabric y 0x32 src .done 0 0 (le 1 (y.port p).state) [])
    have hport : ∀ q, v.port q = s.port q := fun q => by rw [State.port, hports]; rfl
    refine ⟨by rw [hdone.self], by rw [hdone.self], fun q hq => (hdone.other hq).trans (hport q), ?_⟩
    rw [hdone.self, ← hchange.self, answered, ← hans.2]
    exact hfold.answered hans.1 ..
  · rw [State.completeCopied_steer]
    exact hfold.reported.steer.trans hkept.1
  · rw [State.completeCopied_mem]
    exact hfold.reported.mem.trans hkept.2.1
  · rw [State.completeCopied_lock]
    exact hfold.reported.lock.trans hkept.2.2.1

theorem portAccept_refused (hwf : s.allWf = true) (hfound : (s.port p).found = none) :
    ∃ t, exec (.portAcceptAsFound src p) s = .next t ∧ answered s t 0x32 src .refused Reason.state.code 0 [] [] ∧
      reports (s.without src) t [] := by
  refine ⟨_, congrArg Host.Outcome.next ((State.handle_accepted hacc _).trans ?_), hacc.refused hwf .state 0⟩
  have hfound' : ((s.taking src).port p).found = none := hfound
  unfold portAccept
  rw [if_neg (by omega)]
  dsimp only
  rw [hfound']

end

/-! ## Checks asked for (R252) -/

theorem exec_berthCheck {s : State} {src : Src} {p : Nat} (hp : p < 2304) (hacc : s.accepts 0x33 src) :
    exec (.berthCheck src p) s = .next (if (s.port p).state = 6 then (s.taking src).refuse 0x33 src .state
      else if (s.port p).mirrorFault then (s.taking src).complete 0x33 src .done 0 0 (le 1 (s.port p).state ++ le 1 (s.port p).reason)
      else (s.taking src).modPort p (fun x => { x with queued := true, waiting := x.waiting ++ [src] })) :=
  congrArg Host.Outcome.next ((State.handle_accepted hacc _).trans (if_neg (by omega)))

/-- Settles O27: each operation's port is followed through its changes of state, the rest of the machine through their reports, and a
completion through the queues that keep serving. -/
theorem portStates : Obligations.PortStates := by
  unfold Obligations.PortStates
  refine ⟨fun s p hwf hp => ⟨fun hdark h => ?_, fun hdark hactive hcircuit hfree => ?_, fun h1 h2 h3 => lightLost_spec hp hwf h1 h2 h3,
      fun h1 h2 h3 h4 => absentTimeout_spec hp hwf h1 h2 h3 h4, fun h => mirrorFault_spec hp hwf h, ?_⟩,
    fun s src first count hwf hacc => portStateGet_spec hwf hacc first count,
    fun s src p hwf hacc hp => ⟨fun h => portQuarantine_sets hwf hacc hp h, fun h1 h2 h3 => portQuarantine_waits hwf hacc hp h1 h2 h3,
      fun h1 h2 h3 => portQuarantine_clears hwf hacc hp h1 h2 h3, fun h => portQuarantine_refused hwf hacc hp h⟩,
    fun s src p hwf hacc hp => ⟨fun f h1 h2 h3 => portAccept_spec hp hacc hwf h1 h2 h3, fun h => portAccept_refused hp hacc hwf h⟩,
    fun s src p hwf hacc hp => ⟨fun hst hok => ?_, fun hst hfault => ?_, fun hst => ?_⟩⟩
  · refine ⟨_, (exec_lightGained hp hwf hdark).trans (congrArg Host.Outcome.next (if_neg ?_)), rfl⟩
    rcases h with h | h | h <;> simp [h]
  · exact lightGained_admits hp hwf hdark (by simp [hactive, hcircuit, hfree])
  · refine ⟨_, ?_, rfl⟩
    show execMirrorFault p false s = _
    rw [execMirrorFault, show Instr.wf (.mirrorFault p false) = true from decide_eq_true hp]
    rfl
  · have hmod := State.modPort_change (s := s.taking src) (State.portsWf_of_allWf (s := s) hwf) p
      (fun x => { x with queued := true, waiting := x.waiting ++ [src] })
    refine ⟨_, (exec_berthCheck hp hacc).trans (congrArg Host.Outcome.next ((if_neg hst).trans (if_neg (by simp [hok])))), hmod.self,
      fun q hq => hmod.other hq, rfl⟩
  · exact ⟨_, (exec_berthCheck hp hacc).trans (congrArg Host.Outcome.next ((if_neg hst).trans (if_pos hfault))), hacc.settled hwf ..⟩
  · exact ⟨_, (exec_berthCheck hp hacc).trans (congrArg Host.Outcome.next (if_pos hst)), hacc.refused hwf .state 0⟩

end Sys2Proof.Machine
end

section
/-!
PROOFS. Berth checks (R246–R252): the passes and their berth cycles, the identity exchange, and the verdict a check ends with.
-/

namespace Sys2Proof.Machine

/-! ## Ports listed by a test -/

theorem State.mem_portsWhere {s : State} (w : spWf {} 0 s.fabric.ports = true) {c : Nat → Port → Bool} (hc : ∀ p, c p {} = false) (p : Nat) :
    p ∈ (s.fabric.ports.filter (fun q => c q.1 q.2)).map (·.1) ↔ c p (s.port p) = true := by
  simp only [List.mem_map, List.mem_filter]
  refine ⟨fun ⟨e, ⟨hmem, htest⟩, he⟩ => ?_, fun htest => ?_⟩
  · rw [← he, State.port, spGet_of_mem w hmem]
    exact htest
  · have hset : s.port p ≠ {} := fun e => by
      rw [e, hc] at htest
      cases htest
    obtain ⟨v, hv⟩ := mem_of_spGet hset
    have hport : s.port p = v := spGet_of_mem w hv
    exact ⟨(p, v), ⟨hv, hport ▸ htest⟩, rfl⟩

/-- One change of every port of a list, made twice where the list names a port twice, is one change where it can be repeated. -/
theorem State.foldl_modPort {s : State} (w : spWf {} 0 s.fabric.ports = true) (f : Port → Port) (hf : ∀ x, f (f x) = f x) (l : List Nat) :
    (∀ p, (l.foldl (fun s p => s.modPort p f) s).port p = if p ∈ l then f (s.port p) else s.port p) ∧
      l.foldl (fun s p => s.modPort p f) s = s.withPorts (l.foldl (fun s p => s.modPort p f) s).fabric.ports := by
  induction l generalizing s with
  | nil => exact ⟨fun p => by simp, rfl⟩
  | cons q l ih =>
    have hmod := State.modPort_change w q f
    obtain ⟨hport, hframe⟩ := ih hmod.form
    rw [List.foldl_cons]
    refine ⟨fun p => ?_, ?_⟩
    · rw [hport, hmod.port]
      by_cases hp : p = q
      · subst hp
        simp [hf]
      · simp [hp]
    · generalize l.foldl (fun s p => s.modPort p f) (s.modPort q f) = t at hframe ⊢
      rw [hframe]
      rfl

/-! ## Passes (R248) -/

theorem berthPassStart_spec {s : State} (hwf : s.allWf = true) (hgo : s.passAllowed = true) (hnone : s.fabric.pass = none) :
    ∃ t, exec .berthPassStart s = .next t ∧ t.fabric.pass = some 0 ∧
      (∀ p, (t.port p).queued = ((s.port p).queued || (decide ((s.port p).state = 2) && (s.port p).unverified && (s.port p).light))) ∧
      t = { s with fabric := { s.fabric with ports := t.fabric.ports, pass := some 0 } } := by
  have w := State.portsWf_of_allWf hwf
  have hdue := fun p => State.mem_portsWhere w (c := fun _ x => decide (x.state = 2) && x.unverified && x.light) (fun _ => rfl) p
  have hexec : exec .berthPassStart s = .next
      (let u := ((s.fabric.ports.filter (fun p => decide (p.2.state = 2) && p.2.unverified && p.2.light)).map (·.1)).foldl
        (fun s p => s.modPort p (fun x => { x with queued := true })) s
       { u with fabric := { u.fabric with pass := some 0 } }) :=
    congrArg Host.Outcome.next (if_pos (by rw [hgo, hnone]; rfl))
  rw [hexec]
  generalize (s.fabric.ports.filter (fun p => decide (p.2.state = 2) && p.2.unverified && p.2.light)).map (·.1) = l at hdue ⊢
  obtain ⟨hport, hframe⟩ := State.foldl_modPort w (fun x => { x with queued := true }) (fun _ => rfl) l
  generalize l.foldl (fun s p => s.modPort p (fun x => { x with queued := true })) s = u at hport hframe ⊢
  refine ⟨_, rfl, rfl, fun p => ?_, ?_⟩
  · refine (congrArg Port.queued (hport p)).trans ?_
    by_cases hp : p ∈ l
    · rw [if_pos hp, (hdue p).mp hp, Bool.or_true]
    · rw [if_neg hp, Bool.eq_false_iff.mpr fun h => hp ((hdue p).mpr h), Bool.or_false]
  · rw [hframe]
    rfl

/-- The cycle that a berth cycle of these paths adds (R247). -/
def State.berthOf (s : State) (pairs : List (Nat × Nat)) : Cycle :=
  let c : Cycle := { id := 0, planId := 0, tOpen := 0, berth := true
                     paths := pairs.map (fun (p : Nat × Nat) => ({ a := p.1, b := p.2 } : CPath)) }
  { c with tOpen := nextGap s.windows (s.windowOf c) 16 ((s.time.tb0.ns + 500000) % 2 ^ 64) }

theorem State.placeBerth_frame (s : State) (pairs : List (Nat × Nat)) :
    s.placeBerth pairs = { s with lock := { s.lock with cycles := s.lock.cycles ++ [s.berthOf pairs] }, tows := (s.placeBerth pairs).tows } := rfl

theorem State.berthOf_paths (s : State) (pairs : List (Nat × Nat)) : (s.berthOf pairs).paths.map (fun x => (x.a, x.b)) = pairs := by
  show (pairs.map _).map _ = pairs
  rw [List.map_map]
  exact List.map_id pairs

section
variable {s : State} {r : Nat} (hpass : s.fabric.pass = some r) (hgo : s.passAllowed = true) (hidle : s.berthBusy = false)
include hpass hgo hidle

/-- A pass in work takes its next round with a port to check. -/
theorem exec_berthCycle_some {q : Nat} (hround : ((List.range 144).drop r).find? (fun q => decide (s.roundDue q ≠ [])) = some q)
    (hfree : (s.roundDue q).any (fun p => s.svcHeld (checkPort p)) = false) :
    exec .berthCycle s = .next
      (let ps := (s.roundDue q).filter (fun p => decide (0 < s.fget (F.SVC_PORT_CTRL.LANES (checkPort p))))
       let s := { s with fabric := { s.fabric with pass := some (q + 1) } }
       if ps = [] then s else s.placeBerth (ps.map berthPath)) := by
  show execBerthCycle s = _
  unfold execBerthCycle
  rw [hpass]
  dsimp only
  rw [if_neg (by rw [hgo, hidle]; decide), hround]
  exact congrArg Host.Outcome.next (if_neg (by rw [hfree]; decide))

/-- After its last round a pass releases the berth mirrors, or ends. -/
theorem exec_berthCycle_none (hlast : ((List.range 144).drop r).find? (fun q => decide (s.roundDue q ≠ [])) = none) :
    exec .berthCycle s = .next (if s.fabric.berths = [] then s.endPass
      else ({ s with fabric := { s.fabric with pass := some 144 } } : State).placeBerth []) := by
  show execBerthCycle s = _
  unfold execBerthCycle
  rw [hpass]
  dsimp only
  rw [if_neg (by rw [hgo, hidle]; decide), hlast]

theorem berthCycle_round {q : Nat} (hround : ((List.range 144).drop r).find? (fun q => decide (s.roundDue q ≠ [])) = some q)
    (hready : ∀ p ∈ s.roundDue q, s.svcHeld (checkPort p) = false ∧ 0 < s.fget (F.SVC_PORT_CTRL.LANES (checkPort p))) :
    ∃ t c, exec .berthCycle s = .next t ∧ t.lock.cycles = s.lock.cycles ++ [c] ∧ c.berth = true ∧
      c.paths.map (fun x => (x.a, x.b)) = (s.roundDue q).map berthPath ∧ t.fabric.pass = some (q + 1) ∧
      t = { s with fabric := { s.fabric with pass := some (q + 1) }, lock := { s.lock with cycles := t.lock.cycles }
                   tows := t.tows } := by
  have hdue : s.roundDue q ≠ [] := by simpa using List.find?_some hround
  have hfree : (s.roundDue q).any (fun p => s.svcHeld (checkPort p)) = false :=
    List.any_eq_false.mpr fun p hp => by rw [(hready p hp).1]; decide
  have hlit : (s.roundDue q).filter (fun p => decide (0 < s.fget (F.SVC_PORT_CTRL.LANES (checkPort p)))) = s.roundDue q :=
    List.filter_eq_self.mpr fun p hp => decide_eq_true (hready p hp).2
  have hexec := exec_berthCycle_some hpass hgo hidle hround hfree
  rw [hlit] at hexec
  dsimp only at hexec
  rw [if_neg hdue] at hexec
  exact ⟨_, _, hexec, rfl, rfl, State.berthOf_paths _ _, rfl, rfl⟩

theorem berthCycle_release (hlast : ((List.range 144).drop r).find? (fun q => decide (s.roundDue q ≠ [])) = none)
    (hberths : s.fabric.berths ≠ []) :
    ∃ t c, exec .berthCycle s = .next t ∧ t.lock.cycles = s.lock.cycles ++ [c] ∧ c.berth = true ∧ c.paths = [] ∧
      t.fabric.pass = some 144 := by
  have hexec := exec_berthCycle_none hpass hgo hidle hlast
  rw [if_neg hberths] at hexec
  exact ⟨_, _, hexec, rfl, rfl, rfl, rfl⟩

theorem berthCycle_end (hwf : s.allWf = true) (hlast : ((List.range 144).drop r).find? (fun q => decide (s.roundDue q ≠ [])) = none)
    (hberths : s.fabric.berths = []) :
    ∃ t, exec .berthCycle s = .next t ∧ t.fabric.pass = none ∧ t.lock = s.lock ∧ t.steer = s.steer ∧ t.mem = s.mem := by
  have hexec := exec_berthCycle_none hpass hgo hidle hlast
  rw [if_pos hberths] at hexec
  have hstart : ({ s with fabric := { s.fabric with pass := none } } : State).Ported { s with fabric := { s.fabric with pass := none } } :=
    State.Ported.start (State.portsWf_of_allWf (s := s) hwf) (State.regsWf_of_allWf (s := s) hwf) (State.queuesWf_of_allWf (s := s) hwf)
  have hend : ({ s with fabric := { s.fabric with pass := none } } : State).Ported s.endPass :=
    hstart.foldl fun _ hu p _ => (hu.modPort p _).berthDone p
  exact ⟨_, hexec, (congrArg Fabric.pass hend.reported.fabric : _), hend.reported.lock, hend.reported.steer, hend.reported.mem⟩

end

/-! ## The identity exchange (R249, R250) -/

section
variable {s : State} (hwf : s.allWf = true) {p : Nat} (hp : p < 2304)
include hwf hp

omit hwf in
theorem identityRefresh_spec (hactive : s.active = true) (hstate : (s.port p).state = 2) (hlight : (s.port p).light = true)
    (hfree : s.circuit p = false) (hnone : s.fabric.pass = none) (hon : s.fabric.refresh ≠ 0)
    (hdue : (s.port p).checkedAt + s.fabric.refresh * 500000000 ≤ s.time.tb3) :
    exec (.identityRefresh p) s = .next (s.modPort p (fun x => { x with queued := true, checkedAt := s.time.tb3 })) := by
  show execIdentityRefresh p s = _
  rw [execIdentityRefresh, show Instr.wf (.identityRefresh p) = true from decide_eq_true hp]
  refine congrArg Host.Outcome.next (if_pos ?_)
  simp only [hactive, hstate, hlight, hfree, hnone, Option.isNone_none, Bool.and_eq_true, decide_eq_true_eq, Bool.not_false, and_true, true_and]
  exact ⟨hon, hdue⟩

omit hwf in
/-- No check goes on while pound V is reloaded (R253). -/
theorem checks_held (hheld : s.lightHeld = true) (fr : IdentFrame) :
    exec (.hello p) s = .next s ∧ exec (.identTimeout p) s = .next s ∧ exec (.ident p fr) s = .next s := by
  refine ⟨?_, ?_, ?_⟩
  · show execHello p s = _
    rw [execHello, show Instr.wf (.hello p) = true from decide_eq_true hp, hheld]
    exact congrArg Host.Outcome.next (if_neg (by simp))
  · show execIdentTimeout p s = _
    rw [execIdentTimeout, show Instr.wf (.identTimeout p) = true from decide_eq_true hp, hheld]
    exact congrArg Host.Outcome.next (if_neg (by simp))
  · show execIdent p fr s = _
    rw [execIdent, show Instr.wf (.ident p fr) = true from decide_eq_true hp, hheld]
    exact congrArg Host.Outcome.next (if_neg (by simp))

omit hp in
/-- A HELLO takes a nonce of the module's choice and leaves through the port's service port. -/
theorem State.sendHello_spec (p : Nat) : ∃ n, n < 65536 ∧
    (s.sendHello p).port p = { s.port p with hellos := (s.port p).hellos + 1, nonce := n } ∧
    (s.sendHello p).out = s.out ++ [.identFrame p (s.identBytes 1 n p)] ∧ (∀ q, q ≠ p → (s.sendHello p).port q = s.port q) ∧
    s.sendHello p = { s with out := (s.sendHello p).out, free := s.free + 1
                             fabric := { s.fabric with ports := (s.sendHello p).fabric.ports, nonce := n } } := by
  have hlt := s.draw_lt (m := 65536) (by decide)
  have hmod := State.modPort_change (State.portsWf_of_allWf hwf) p fun x => { x with hellos := x.hellos + 1, nonce := (s.draw 65536).1 }
  exact ⟨(s.draw 65536).1, hlt, hmod.self, rfl, fun q hq => hmod.other hq, rfl⟩

theorem hello_spec (hactive : s.active = true) (hchecking : (s.port p).checking = true) (hfirst : (s.port p).hellos = 0)
    (hfree : s.lightHeld = false) :
    ∃ t n, exec (.hello p) s = .next t ∧ t.port p = { s.port p with hellos := 1, nonce := n } ∧ n < 65536 ∧
      t.out = s.out ++ [.identFrame p (s.identBytes 1 n p)] ∧ (∀ q, q ≠ p → t.port q = s.port q) ∧
      t = { s with counters := t.counters, out := t.out, free := s.free + 1
                   fabric := { s.fabric with ports := t.fabric.ports, nonce := n } } := by
  obtain ⟨n, hlt, hport, hout, hother, hframe⟩ := State.sendHello_spec hwf p
  have hexec : exec (.hello p) s = .next ((s.sendHello p).count 12 11) := by
    show execHello p s = _
    rw [execHello, show Instr.wf (.hello p) = true from decide_eq_true hp]
    exact congrArg Host.Outcome.next (if_pos (by simp [hactive, hfree, hchecking, hfirst]))
  rw [hfirst] at hport
  generalize s.sendHello p = u at *
  refine ⟨_, n, hexec, hport, hlt, hout, hother, ?_⟩
  rw [hframe]
  rfl

omit hwf in
theorem exec_identTimeout (hactive : s.active = true) (hchecking : (s.port p).checking = true) (hsent : 1 ≤ (s.port p).hellos)
    (hfree : s.lightHeld = false) : exec (.identTimeout p) s = .next (if (s.port p).hellos < 3 then s.sendHello p
      else ((s.modPort p (fun x => { x with known := false })).count 12 13).verdict p) := by
  show execIdentTimeout p s = _
  rw [execIdentTimeout, show Instr.wf (.identTimeout p) = true from decide_eq_true hp]
  exact congrArg Host.Outcome.next (if_pos (by simp [hactive, hfree, hchecking, hsent]))

end

/-! ## Verdicts (R251) -/

/-- As far as the ports go, a verdict on port p changes its state, reason and UNVERIFIED. -/
structure State.Judges (p st reason : Nat) (s t : State) : Prop where
  form : spWf {} 0 t.fabric.ports = true
  port : t.port p = { s.port p with state := st, reason := reason, unverified := (t.port p).unverified }

theorem State.Judges.setPort {s : State} (w : spWf {} 0 s.fabric.ports = true) (p st reason : Nat) : s.Judges p st reason (s.setPort p st reason) := by
  have h := State.setPort_change w p st reason
  refine ⟨h.form, ?_⟩
  rw [h.self]

/-- A verdict that moves other ports too leaves that of its own port. -/
theorem State.Judges.foldl {s t : State} {p st reason : Nat} (h : s.Judges p st reason t) {l : List Nat} (hl : p ∉ l) (c : State → Nat → Bool)
    (st' reason' : Nat) : s.Judges p st reason (l.foldl (fun s y => if c s y then s.setPort y st' reason' else s) t) := by
  refine List.foldlRecOn (motive := fun u => s.Judges p st reason u) l _ h fun u hu y hy => ?_
  split
  · have hset := State.setPort_change hu.form y st' reason'
    have hother := hset.other (q := p) fun e => hl (e ▸ hy)
    exact ⟨hset.form, by rw [hother]; exact hu.port⟩
  · exact hu

section
variable {s : State} (w : spWf {} 0 s.fabric.ports = true) {p f : Nat}
include w

/-- The other ports whose far ends have given identity f. -/
def State.twins (s : State) (p f : Nat) : List Nat := (s.fabric.ports.filter (fun q => decide (q.1 ≠ p) && q.2.found = some f)).map (·.1)

theorem State.mem_twins (q : Nat) : q ∈ s.twins p f ↔ q ≠ p ∧ (s.port q).found = some f := by
  have h := State.mem_portsWhere w (c := fun q x => decide (q ≠ p) && decide (x.found = some f)) (fun q => by simp [Port.found]) q
  rw [State.twins, h, Bool.and_eq_true, decide_eq_true_iff, decide_eq_true_iff]

omit w in
theorem State.applyVerdict_unknown (hfound : (s.port p).found = none) : s.applyVerdict p =
    if s.planned p then (s.modPort p (fun x => { x with unverified := true })).setPort p 2 0 else s.setPort p 4 1 := by
  unfold State.applyVerdict
  dsimp only
  rw [hfound]

omit w in
theorem State.applyVerdict_known (hfound : (s.port p).found = some f) : s.applyVerdict p =
    if s.twins p f ≠ [] then
      (s.twins p f).foldl (fun s y => if (s.port y).judged then s.setPort y 4 3 else s) (s.setPort p 4 3)
    else if s.plans p f then
      if (s.port p).farVer / 16 ≠ 1 then s.setPort p 3 0
      else (s.modPort p (fun x => { x with unverified := false })).setPort p 2 0
    else
      if s.owners p f ≠ [] then
        (s.owners p f).foldl (fun s y => if (s.port y).judged && (s.port y).light then s.setPort y 4 2 else s) (s.setPort p 4 2)
      else s.setPort p 4 1 := by
  unfold State.applyVerdict
  dsimp only
  rw [hfound]
  rfl

/-- An identity that another port has too. -/
theorem State.applyVerdict_twin (hfound : (s.port p).found = some f) (htwin : s.twins p f ≠ []) : s.Judges p 4 3 (s.applyVerdict p) := by
  rw [State.applyVerdict_known hfound, if_pos htwin]
  exact (State.Judges.setPort w p 4 3).foldl (fun h => ((State.mem_twins w p).mp h).1 rfl) (fun s y => (s.port y).judged) 4 3

/-- The identity planned for the port. -/
theorem State.applyVerdict_planned (hfound : (s.port p).found = some f) (hno : s.twins p f = []) (hplans : s.plans p f = true) :
    s.Judges p (if (s.port p).farVer / 16 = 1 then 2 else 3) 0 (s.applyVerdict p) := by
  rw [State.applyVerdict_known hfound, if_neg (not_not.mpr hno), if_pos hplans]
  by_cases hver : (s.port p).farVer / 16 = 1
  · rw [if_neg (not_not.mpr hver), if_pos hver]
    have hmod := State.modPort_change w p fun x => { x with unverified := false }
    have hset := hmod.trans (State.setPort_change hmod.form p 2 0)
    refine ⟨hset.form, ?_⟩
    rw [hset.self]
  · rw [if_pos hver, if_neg hver]
    exact State.Judges.setPort w p 3 0

/-- An identity planned for another port. -/
theorem State.applyVerdict_owned (hfound : (s.port p).found = some f) (hno : s.twins p f = []) (hplans : s.plans p f = false)
    (howned : s.owners p f ≠ []) : s.Judges p 4 2 (s.applyVerdict p) := by
  rw [State.applyVerdict_known hfound, if_neg (not_not.mpr hno), if_neg (Bool.eq_false_iff.mp hplans), if_pos howned]
  exact (State.Judges.setPort w p 4 2).foldl (fun h => ((s.mem_owners p f p).mp h).1 rfl) (fun s y => (s.port y).judged && (s.port y).light) 4 2

/-- An identity planned for no port. -/
theorem State.applyVerdict_stray (hfound : (s.port p).found = some f) (hno : s.twins p f = []) (hplans : s.plans p f = false)
    (hfree : s.owners p f = []) : s.Judges p 4 1 (s.applyVerdict p) := by
  rw [State.applyVerdict_known hfound, if_neg (not_not.mpr hno), if_neg (Bool.eq_false_iff.mp hplans), if_neg (not_not.mpr hfree)]
  exact State.Judges.setPort w p 4 1

end

/-- A port whose check has just ended (R251). -/
def Port.checked (now : Nat) (x : Port) : Port := { x with checking := false, hellos := 0, queued := false, failures := 0, checkedAt := now }

/-- The port a verdict leaves: over with its check, with the state and reason of the judgement. -/
theorem State.verdict_judged {s t : State} (w : spWf {} 0 s.fabric.ports = true) {p st reason : Nat}
    (h : (s.modPort p (Port.checked s.time.tb3)).Judges p st reason ((s.modPort p (Port.checked s.time.tb3)).applyVerdict p))
    (ht : t = s.verdict p) : (t.port p).state = st ∧ (t.port p).reason = reason ∧ (t.port p).checking = false ∧ (t.port p).waiting = [] ∧
      (t.port p).foundPod = (s.port p).foundPod ∧ (t.port p).foundUplink = (s.port p).foundUplink := by
  have hdone := (State.berthDone_change h.form p).self
  have hport := h.port
  rw [(State.modPort_change w p _).self] at hport
  have hself : t.port p = { ((s.modPort p (Port.checked s.time.tb3)).applyVerdict p).port p with waiting := [] } := by
    rw [ht]
    exact hdone
  rw [hself, hport]
  exact ⟨rfl, rfl, rfl, rfl, rfl, rfl⟩

section
variable {s : State} (hwf : s.allWf = true) {p : Nat} (hp : p < 2304) (hactive : s.active = true) (hlit : s.lightHeld = false)
include hwf hp hactive hlit

theorem identTimeout_again (hchecking : (s.port p).checking = true) (hsent : 1 ≤ (s.port p).hellos) (hmore : (s.port p).hellos < 3) :
    ∃ t n, exec (.identTimeout p) s = .next t ∧ t.port p = { s.port p with hellos := (s.port p).hellos + 1, nonce := n } ∧
      t.out = s.out ++ [.identFrame p (s.identBytes 1 n p)] ∧ (∀ q, q ≠ p → t.port q = s.port q) := by
  obtain ⟨n, -, hport, hout, hother, -⟩ := State.sendHello_spec hwf p
  exact ⟨_, n, (exec_identTimeout hp hactive hchecking hsent hlit).trans (congrArg Host.Outcome.next (if_pos hmore)), hport, hout, hother⟩

/-- The far end has not answered three HELLOs (R251). -/
theorem identTimeout_silent (hchecking : (s.port p).checking = true) (hsent : 3 ≤ (s.port p).hellos) :
    ∃ t, exec (.identTimeout p) s = .next t ∧ (t.port p).checking = false ∧ (t.port p).waiting = [] ∧
      (s.planned p = true → (t.port p).state = 2 ∧ (t.port p).reason = 0 ∧ (t.port p).unverified = true) ∧
      (s.planned p = false → (t.port p).state = 4 ∧ (t.port p).reason = 1) ∧ (∀ q, q ≠ p → t.port q = s.port q) ∧
      reports { s with fabric := { s.fabric with ports := t.fabric.ports } } t [F.PORT_GEN.GEN] := by
  have hexec := (exec_identTimeout hp hactive hchecking (by omega) hlit).trans (congrArg Host.Outcome.next (if_neg (by omega)))
  have hwork := (((State.Ported.refl hwf).modPort p (fun x => { x with known := false })).count 12 13 1).verdict p
  have hlost := State.modPort_change (State.portsWf_of_allWf hwf) p (fun x => { x with known := false })
  have hcount : PortChange p _ s ((s.modPort p (fun x => { x with known := false })).count 12 13) := hlost.of_fabric rfl
  have hplan : ((s.modPort p (fun x => { x with known := false })).count 12 13).planned p = s.planned p := rfl
  generalize (s.modPort p (fun x => { x with known := false })).count 12 13 = u at hexec hwork hcount hplan
  have hcheck := hcount.trans (State.modPort_change hcount.form p (Port.checked u.time.tb3))
  have hunknown : ((u.modPort p (Port.checked u.time.tb3)).port p).found = none := by
    rw [hcheck.self]
    rfl
  have hplan' : (u.modPort p (Port.checked u.time.tb3)).planned p = s.planned p := hplan
  have hverdict : u.verdict p = ((u.modPort p (Port.checked u.time.tb3)).applyVerdict p).berthDone p := rfl
  rw [State.applyVerdict_unknown hunknown, hplan'] at hverdict
  generalize u.modPort p (Port.checked u.time.tb3) = v at hcheck hverdict
  rw [hverdict] at hexec hwork
  by_cases hplanned : s.planned p = true
  · rw [if_pos hplanned] at hexec hwork
    have hseen := hcheck.trans (State.modPort_change hcheck.form p (fun x => { x with unverified := true }))
    have hset := hseen.trans (State.setPort_change hseen.form p 2 0)
    have hdone := hset.trans (State.berthDone_change hset.form p)
    refine ⟨_, hexec, ?_, ?_, fun _ => ?_, fun h => ?_, fun q hq => hdone.other hq, hwork.reports⟩
    · rw [hdone.self]; rfl
    · rw [hdone.self]
    · rw [hdone.self]; exact ⟨rfl, rfl, rfl⟩
    · rw [hplanned] at h; cases h
  · rw [if_neg hplanned] at hexec hwork
    have hset := hcheck.trans (State.setPort_change hcheck.form p 4 1)
    have hdone := hset.trans (State.berthDone_change hset.form p)
    refine ⟨_, hexec, ?_, ?_, fun h => absurd h hplanned, fun _ => ?_, fun q hq => hdone.other hq, hwork.reports⟩
    · rw [hdone.self]; rfl
    · rw [hdone.self]
    · rw [hdone.self]; exact ⟨rfl, rfl⟩

/-- A port whose far end has answered. -/
def Port.answeredBy (f : IdentFrame) (x : Port) : Port :=
  { x with foundPod := f.pod % 65536, foundUplink := f.uplink % 256, nodeId := f.nodeId % 2 ^ 64, loopCap := f.loopCap
           farVer := f.verMajor % 16 * 16 + f.verMinor % 16, known := true }

omit hwf in
theorem exec_ident {fr : IdentFrame} (hok : s.identOk p fr = true) :
    exec (.ident p fr) s = .next (((s.modPort p (Port.answeredBy fr)).count 12 12).verdict p) := by
  show execIdent p fr s = _
  rw [execIdent, show Instr.wf (.ident p fr) = true from decide_eq_true hp]
  exact congrArg Host.Outcome.next (if_pos (by simp [hactive, hlit, hok]))

/-- A matching IDENT ends the check with the first verdict that applies (R251). -/
theorem ident_spec {fr : IdentFrame} (hok : s.identOk p fr = true) (hlight : (s.port p).light = true) {f : Nat}
    (hf : f = fr.pod % 65536 + 2 ^ 16 * (fr.uplink % 256)) :
    ∃ t, exec (.ident p fr) s = .next t ∧ (t.port p).checking = false ∧ (t.port p).waiting = [] ∧
      (t.port p).foundPod = fr.pod % 65536 ∧ (t.port p).foundUplink = fr.uplink % 256 ∧
      ((∀ q, q ≠ p → (s.port q).found ≠ some f) →
        (s.plans p f = true → (t.port p).state = (if fr.verMajor % 16 = 1 then 2 else 3) ∧ (t.port p).reason = 0) ∧
        (s.plans p f = false → (∀ q, q ≠ p → s.plans q f = false) → (t.port p).state = 4 ∧ (t.port p).reason = 1) ∧
        (∀ q, s.plans p f = false → q ≠ p → s.plans q f = true → (t.port p).state = 4 ∧ (t.port p).reason = 2)) ∧
      (∀ q, q ≠ p → (s.port q).found = some f → (t.port p).state = 4 ∧ (t.port p).reason = 3) ∧
      reports { s with fabric := { s.fabric with ports := t.fabric.ports } } t [F.PORT_GEN.GEN] := by
  have hexec := exec_ident hp hactive hlit hok
  have hwork := (((State.Ported.refl hwf).modPort p (Port.answeredBy fr)).count 12 12 1).verdict p
  have hanswered := State.modPort_change (State.portsWf_of_allWf hwf) p (Port.answeredBy fr)
  have hcount : PortChange p _ s ((s.modPort p (Port.answeredBy fr)).count 12 12) := hanswered.of_fabric rfl
  have hplans : ∀ q, ((s.modPort p (Port.answeredBy fr)).count 12 12).plans q f = s.plans q f := fun _ => rfl
  generalize (s.modPort p (Port.answeredBy fr)).count 12 12 = u at hexec hwork hcount hplans
  have hcheck := hcount.trans (State.modPort_change hcount.form p (Port.checked u.time.tb3))
  have hself := hcheck.self
  have hfound : ((u.modPort p (Port.checked u.time.tb3)).port p).found = some f := by
    rw [hself, hf]
    exact if_pos (by rw [Port.checked, Port.answeredBy]; exact hlight)
  have hver : ((u.modPort p (Port.checked u.time.tb3)).port p).farVer / 16 = fr.verMajor % 16 := by
    rw [hself]
    show (fr.verMajor % 16 * 16 + fr.verMinor % 16) / 16 = _
    omega
  have hplans' : ∀ q, (u.modPort p (Port.checked u.time.tb3)).plans q f = s.plans q f := hplans
  have hwu := hcount.form
  have hended : ∀ st reason, (u.modPort p (Port.checked u.time.tb3)).Judges p st reason ((u.modPort p (Port.checked u.time.tb3)).applyVerdict p) →
      ((u.verdict p).port p).state = st ∧ ((u.verdict p).port p).reason = reason ∧ ((u.verdict p).port p).checking = false ∧
        ((u.verdict p).port p).waiting = [] ∧ ((u.verdict p).port p).foundPod = fr.pod % 65536 ∧
        ((u.verdict p).port p).foundUplink = fr.uplink % 256 := fun st reason h => by
    have hend := State.verdict_judged hwu h rfl
    rw [hcount.self] at hend
    exact hend
  generalize u.modPort p (Port.checked u.time.tb3) = v at hcheck hfound hver hplans' hended
  have htwins : ∀ q, q ∈ v.twins p f ↔ q ≠ p ∧ (s.port q).found = some f := fun q => by
    rw [State.mem_twins hcheck.form]
    refine and_congr_right fun hq => ?_
    rw [hcheck.other hq]
  have howners : ∀ q, q ∈ v.owners p f ↔ q ≠ p ∧ s.plans q f = true := fun q => by rw [State.mem_owners, hplans']
  refine ⟨_, hexec, ?_⟩
  by_cases htwin : v.twins p f = []
  · have hno : ∀ q, q ≠ p → (s.port q).found ≠ some f := fun q hq h => by
      have := (htwins q).mpr ⟨hq, h⟩
      rw [htwin] at this
      cases this
    by_cases hplanned : s.plans p f = true
    · obtain ⟨hst, hre, hch, hwa, hpod, hup⟩ := hended _ _ (State.applyVerdict_planned hcheck.form hfound htwin ((hplans' p).trans hplanned))
      rw [hver] at hst
      exact ⟨hch, hwa, hpod, hup, fun _ => ⟨fun _ => ⟨hst, hre⟩, fun h => absurd (hplanned.symm.trans h) (by decide),
        fun _ h => absurd (hplanned.symm.trans h) (by decide)⟩, fun q hq h => absurd h (hno q hq), hwork.reports⟩
    · have hunplanned : s.plans p f = false := Bool.eq_false_iff.mpr hplanned
      by_cases hown : v.owners p f = []
      · have hfree : ∀ q, q ≠ p → s.plans q f = true → False := fun q hq h => by
          have := (howners q).mpr ⟨hq, h⟩
          rw [hown] at this
          cases this
        obtain ⟨hst, hre, hch, hwa, hpod, hup⟩ := hended _ _
          (State.applyVerdict_stray hcheck.form hfound htwin ((hplans' p).trans hunplanned) hown)
        exact ⟨hch, hwa, hpod, hup, fun _ => ⟨fun h => absurd h hplanned, fun _ _ => ⟨hst, hre⟩, fun q _ hq h => (hfree q hq h).elim⟩,
          fun q hq h => absurd h (hno q hq), hwork.reports⟩
      · obtain ⟨q, hq⟩ := List.exists_mem_of_ne_nil _ hown
        obtain ⟨hqp, hqf⟩ := (howners q).mp hq
        obtain ⟨hst, hre, hch, hwa, hpod, hup⟩ := hended _ _
          (State.applyVerdict_owned hcheck.form hfound htwin ((hplans' p).trans hunplanned) hown)
        exact ⟨hch, hwa, hpod, hup, fun _ => ⟨fun h => absurd h hplanned, fun _ h => absurd ((h q hqp).symm.trans hqf) (by decide),
          fun _ _ _ _ => ⟨hst, hre⟩⟩, fun q hq h => absurd h (hno q hq), hwork.reports⟩
  · obtain ⟨q, hq⟩ := List.exists_mem_of_ne_nil _ htwin
    obtain ⟨hqp, hqf⟩ := (htwins q).mp hq
    obtain ⟨hst, hre, hch, hwa, hpod, hup⟩ := hended _ _ (State.applyVerdict_twin hcheck.form hfound htwin)
    exact ⟨hch, hwa, hpod, hup, fun h => absurd hqf (h q hqp), fun _ _ _ => ⟨hst, hre⟩, hwork.reports⟩

end

/-- Settles O28: a pass is followed round by round, and a check's port through the exchange to the verdict that applies. -/
theorem berthChecks : Obligations.BerthChecks := by
  unfold Obligations.BerthChecks
  refine ⟨fun s hwf hgo hnone => berthPassStart_spec hwf hgo hnone, fun s r hwf hpass hgo hidle =>
      ⟨fun q hround hready => berthCycle_round hpass hgo hidle hround hready, fun hlast hb => berthCycle_release hpass hgo hidle hlast hb,
        fun hlast hb => berthCycle_end hpass hgo hidle hwf hlast hb⟩,
    fun s p hwf hp hactive => ⟨fun h1 h2 h3 h4 h5 h6 => ⟨_, identityRefresh_spec hp hactive h1 h2 h3 h4 h5 h6, rfl⟩,
      fun hheld fr => checks_held hp hheld fr, fun h1 h2 h3 => hello_spec hwf hp hactive h1 h2 h3,
      fun h1 h2 h3 h4 => identTimeout_again hwf hp hactive h4 h1 h2 h3, fun h1 h2 h3 => identTimeout_silent hwf hp hactive h3 h1 h2,
      fun fr hok hlight hlit => ident_spec hwf hp hactive hlit hok hlight rfl⟩⟩

end Sys2Proof.Machine
end

section
/-!
PROOFS. Translation faults (R262–R272): the tow that a name finds, a fault recorded and resumed, a faulted tow's stop, and what an
invalidation takes from the cache and the stages.
-/

namespace Sys2Proof.Machine

/-! ## Tows by name -/

theorem find?_map_named {p tag : Nat} {w : Tow} {f : Tow → Tow} (hs : (f w).space = p) (ht : (f w).tag = tag) : ∀ l : List Tow,
    l.find? (fun t => decide (t.space = p ∧ t.tag = tag)) = some w →
    (l.map (fun t => if t.space = p ∧ t.tag = tag then f t else t)).find? (fun t => decide (t.space = p ∧ t.tag = tag)) = some (f w) := by
  intro l h
  induction l with
  | nil => cases h
  | cons x l ih =>
    by_cases hx : x.space = p ∧ x.tag = tag
    · have hw : x = w := by simpa [List.find?_cons, hx] using h
      subst hw
      rw [List.map_cons, if_pos hx, List.find?_cons_of_pos (by simp [hs, ht])]
    · rw [List.map_cons, if_neg hx, List.find?_cons_of_neg (by simpa using hx)]
      exact ih (by rwa [List.find?_cons_of_neg (by simpa using hx)] at h)

section
variable {s : State} {p tag : Nat} {w : Tow} (h : s.tow p tag = some w)
include h

theorem State.tow_named : w.space = p ∧ w.tag = tag := of_decide_eq_true (List.find?_some h :)

theorem State.tow_mem : w ∈ s.tows.tows := List.mem_of_find?_eq_some h

/-- A change of a tow is found under its name. -/
theorem State.tow_modTow {f : Tow → Tow} (hs : (f w).space = w.space) (ht : (f w).tag = w.tag) :
    (s.modTow p tag f).tow p tag = some (f w) :=
  find?_map_named (hs.trans (State.tow_named h).1) (ht.trans (State.tow_named h).2) _ h

end

theorem State.tow_of_tows {s t : State} (h : t.tows.tows = s.tows.tows) (p tag : Nat) : t.tow p tag = s.tow p tag := by rw [State.tow, h]; rfl

/-! ## Faults of tows (R267–R270) -/

/-- What a fault of an access changes of its tow: its record is added, and a faulted write holds the host writes that wait. -/
def Tow.faulted (f : Fault267) (write : Bool) (t : Tow) : Tow :=
  if write then { t with faults := t.faults ++ [f], heldWrites := t.heldWrites ++ t.drain, drain := [] }
  else { t with faults := t.faults ++ [f] }

/-- The record of a tow's fault (R267). -/
def State.faultOf (t : Tow) (sp : Space) (kind level addr : Nat) (write : Bool) (barge : Nat) : Fault267 :=
  ⟨nextFaultId sp.lastFault, kind, level, write, !write && (decide (t.next < barge) || (decide (t.next = barge) && !t.inBarge)), addr, barge⟩

/-- The machine with a fault of tow t recorded, before it is reported. -/
def State.withFault (s : State) (t : Tow) (sp : Space) (kind level addr : Nat) (write : Bool) (barge : Nat) : State :=
  (s.modSpace t.space (fun sp' => { sp' with lastFault := nextFaultId sp.lastFault })).modTow t.space t.tag
    (Tow.faulted (State.faultOf t sp kind level addr write barge) write)

theorem State.takeFault_eq {s : State} {t : Tow} {sp : Space} (hsp : s.space t.space = some sp) {addr : Nat}
    (hnew : t.faults.any (fun f => decide (f.addr / 4096 = addr / 4096)) = false) (kind level : Nat) (write : Bool) (barge : Nat) :
    s.takeFault t kind level addr write barge =
      (((s.withFault t sp kind level addr write barge).count 7 5).countSpace t.space 7).push sp.fq
        ((((s.withFault t sp kind level addr write barge).count 7 5).countSpace t.space 7).eventItem 0 5 6
          (faultRecord t.space t.tag (State.faultOf t sp kind level addr write barge))) := by
  unfold State.takeFault
  rw [hsp]
  exact if_neg (by rw [hnew]; decide)

theorem State.Reported.countSpace {s t : State} {l : List Fld} (h : s.Reported t l) (p i n : Nat) : s.Reported (t.countSpace p i n) l := by
  refine h.trans ⟨by rw [State.countSpace_frame]; exact h.form, ?_⟩
  have hframe := t.countSpace_frame p i n
  generalize t.countSpace p i n = u at hframe ⊢
  rw [hframe]
  exact ⟨rfl, rfl, rfl, fun _ _ => rfl⟩

theorem State.withFault_tow {s : State} {t : Tow} {p tag : Nat} (h : s.tow p tag = some t) (sp : Space) (kind level addr : Nat) (write : Bool)
    (barge : Nat) : (s.withFault t sp kind level addr write barge).tow p tag =
      some (Tow.faulted (State.faultOf t sp kind level addr write barge) write t) := by
  obtain ⟨hs, ht⟩ := State.tow_named h
  have hmod : (s.modSpace t.space (fun sp' => { sp' with lastFault := nextFaultId sp.lastFault })).tow p tag = some t := h
  rw [State.withFault, hs, ht]
  rw [hs] at hmod
  exact State.tow_modTow hmod (by unfold Tow.faulted; split <;> rfl) (by unfold Tow.faulted; split <;> rfl)

theorem exec_translationFault {s : State} {p tag : Nat} (hp : p < 64) {w : Tow} {sp : Space} (hw : s.tow p tag = some w)
    (hsp : s.space p = some sp) (hend : w.phase.isEnded = false) (hen : sp.hostEn = true) (addr barge : Nat) (wr : Bool) (walk : WalkReads) :
    exec (.translationFault p tag addr wr barge walk) s = .next (match s.translate p addr wr walk with
      | .fault kind level => s.takeFault w kind level addr wr barge
      | .leaf c => s.cacheWalk addr walk c
      | .pending => s) := by
  show execTranslationFault p tag addr wr barge walk s = _
  rw [execTranslationFault, show Instr.wf (.translationFault p tag addr wr barge walk) = true from decide_eq_true hp, hw, hsp]
  exact congrArg Host.Outcome.next (if_neg (by simp [hend, hen]))

theorem translationFault_recorded {s : State} (hwf : s.allWf = true) {p tag : Nat} (hp : p < 64) {w : Tow} {sp : Space}
    (hw : s.tow p tag = some w) (hsp : s.space p = some sp) (hend : w.phase.isEnded = false) (hen : sp.hostEn = true) {addr barge : Nat}
    {wr : Bool} {walk : WalkReads} {kind level : Nat} (hfault : s.translate p addr wr walk = .fault kind level)
    (hnew : w.faults.any (fun f => decide (f.addr / 4096 = addr / 4096)) = false) :
    ∃ t x f, exec (.translationFault p tag addr wr barge walk) s = .next t ∧ t.tow p tag = some x ∧ x.faults = w.faults ++ [f] ∧
      f.id = nextFaultId sp.lastFault ∧ f.kind = kind ∧ f.level = level ∧ f.write = wr ∧ f.addr = addr ∧ f.barge = barge ∧
      t.space p = some { sp with lastFault := f.id } ∧ (wr = true → x.drain = [] ∧ x.heldWrites = w.heldWrites ++ w.drain) ∧
      reports { s with tows := { s.tows with tows := t.tows.tows, spaces := t.tows.spaces } } t [] := by
  obtain ⟨hs, ht⟩ := State.tow_named hw
  have hexec := exec_translationFault hp hw hsp hend hen addr barge wr walk
  rw [hfault] at hexec
  dsimp only at hexec
  have hspw : s.space w.space = some sp := by rw [hs]; exact hsp
  have htake := State.takeFault_eq hspw hnew kind level wr barge
  have htow := State.withFault_tow hw sp kind level addr wr barge
  have hspace : (s.withFault w sp kind level addr wr barge).space p = some { sp with lastFault := nextFaultId sp.lastFault } := by
    have hself : (s.modSpace w.space (fun sp' => { sp' with lastFault := nextFaultId sp.lastFault })).space w.space =
        (s.space w.space).map (fun sp' => { sp' with lastFault := nextFaultId sp.lastFault }) :=
      spGet_spSet_self none s.tows.spaces w.space _ 0 (State.spacesWf_of_allWf hwf)
    rw [hspw] at hself
    rw [← hs]
    exact hself
  have hframe : s.withFault w sp kind level addr wr barge = { s with tows := { s.tows with
      tows := (s.withFault w sp kind level addr wr barge).tows.tows, spaces := (s.withFault w sp kind level addr wr barge).tows.spaces } } := rfl
  have wr' : wordsWf 0 (s.withFault w sp kind level addr wr barge).regs = true := State.regsWf_of_allWf (s := s) hwf
  generalize s.withFault w sp kind level addr wr barge = u at htake htow hspace hframe wr'
  have hrep : u.Reported (s.takeFault w kind level addr wr barge) [] := by
    rw [htake]
    exact (((State.Reported.refl wr' []).count 7 5 1).countSpace w.space 7 1).push ..
  generalize s.takeFault w kind level addr wr barge = t at hexec hrep
  have htows := hrep.tows
  refine ⟨t, _, State.faultOf w sp kind level addr wr barge, hexec, (State.tow_of_tows (congrArg TowSys.tows htows) p tag).trans htow, ?_, rfl,
    rfl, rfl, rfl, rfl, rfl, ?_, fun hwr => ?_, ?_⟩
  · unfold Tow.faulted
    split <;> rfl
  · rw [State.space, htows]
    exact hspace
  · unfold Tow.faulted
    rw [if_pos hwr]
    exact ⟨rfl, rfl⟩
  · rw [htows, ← hframe]
    exact hrep.reports

theorem translationFault_cached {s : State} {p tag : Nat} (hp : p < 64) {w : Tow} {sp : Space}
    (hw : s.tow p tag = some w) (hsp : s.space p = some sp) (hend : w.phase.isEnded = false) (hen : sp.hostEn = true) {addr barge : Nat}
    {wr : Bool} {walk : WalkReads} {c : Cached} (hleaf : s.translate p addr wr walk = .leaf c) :
    ∃ t, exec (.translationFault p tag addr wr barge walk) s = .next t ∧ c ∈ t.link.cache ∧
      t = { s with link := { s.link with cache := t.link.cache, tables := t.link.tables } } := by
  have hexec := exec_translationFault hp hw hsp hend hen addr barge wr walk
  rw [hleaf] at hexec
  dsimp only at hexec
  refine ⟨_, hexec, ?_⟩
  show c ∈ (s.cacheWalk addr walk c).link.cache ∧ s.cacheWalk addr walk c = _
  unfold State.cacheWalk
  split
  next hin => exact ⟨List.contains_iff_mem.mp hin, rfl⟩
  · exact ⟨List.mem_append_right _ List.mem_cons_self, rfl⟩

/-- A faulted tow at a boundary leaves its unit (R268). -/
theorem towStop_spec {s : State} (hwf : s.allWf = true) {p tag u : Nat} (hp : p < 64) {w : Tow} (hw : s.tow p tag = some w)
    (hrun : w.phase = .running u) (hrest : w.inBarge = false)
    (hfaulted : w.held = true ∨ w.faults.any (fun f => decide (f.barge = w.next)) = true) :
    ∃ t x, exec (.towStop p tag) s = .next t ∧ t.tow p tag = some x ∧ x.phase = .stopped ∧ x.heldWrites = w.heldWrites ++ w.drain ∧
      x.next = w.next ∧ t = { s with regs := t.regs, tows := { s.tows with tows := t.tows.tows, reqs := t.tows.reqs,
                                                                           waits := t.tows.waits } } := by
  have hexec : exec (.towStop p tag) s = .next ((s.leaveUnit u).modTow p tag (fun t =>
      { t.unstage with phase := .stopped, heldWrites := t.heldWrites ++ t.drain, drain := [] })) := by
    show execTowStop p tag s = _
    rw [execTowStop, show Instr.wf (.towStop p tag) = true from decide_eq_true hp, hw]
    have hgo : (w.phase.isRunning && !w.inBarge && (w.held || w.faults.any (fun f => decide (f.barge = w.next)))) = true := by
      rw [hrun, hrest]
      rcases hfaulted with h | h <;> rw [h] <;> simp [TowPhase.isRunning]
    refine congrArg Host.Outcome.next ((if_pos hgo).trans ?_)
    rw [hrun]
  have hframe := State.leaveUnit_frame (State.regsWf_of_allWf hwf) u
  generalize s.leaveUnit u = v at hexec hframe
  have hv : v.tow p tag = some w := (State.tow_of_tows (by rw [hframe]) p tag).trans hw
  refine ⟨_, _, hexec, State.tow_modTow hv rfl rfl, rfl, rfl, rfl, ?_⟩
  rw [hframe]
  rfl

/-! ## Faults resumed (R270) -/

/-- The outstanding faults that a FAULT_RESUME with ALL resumes, each with its tow. -/
def State.faultsOf (s : State) (p : Nat) : List (Tow × Fault267) :=
  (s.tows.tows.filter (fun t => decide (t.space = p))).flatMap (fun t => (t.faults.filter (fun f => true || decide (f.id = 0))).map (fun f => (t, f)))

theorem State.faultsOf_length (s : State) (p : Nat) :
    (s.faultsOf p).length = ((s.tows.tows.filter (fun w => w.space = p)).flatMap (fun w => w.faults)).length := by
  unfold State.faultsOf
  rw [List.length_flatMap, List.length_flatMap]
  congr 1
  refine List.map_congr_left fun t _ => ?_
  simp

theorem State.mem_faultsOf {s : State} {p : Nat} {t : Tow} {f : Fault267} (ht : t ∈ s.tows.tows) (hp : t.space = p) (hf : f ∈ t.faults) :
    (t, f) ∈ s.faultsOf p :=
  List.mem_flatMap.mpr ⟨t, List.mem_filter.mpr ⟨ht, decide_eq_true hp⟩, List.mem_map.mpr ⟨f, List.mem_filter.mpr ⟨hf, rfl⟩, rfl⟩⟩

/-- A tow with those of its faults that are still to be resumed, and no other. -/
def State.FaultsIn (s : State) (p : Nat) (rest : List (Tow × Fault267)) : Prop :=
  ∀ x ∈ s.tows.tows, x.space = p → ∀ f ∈ x.faults, ∃ y, (y, f) ∈ rest ∧ y.space = x.space ∧ y.tag = x.tag

theorem State.FaultsIn.resume {s : State} {p : Nat} {e : Tow × Fault267} {rest : List (Tow × Fault267)} (h : s.FaultsIn p (e :: rest)) :
    (s.resumeFault e.1 e.2).FaultsIn p rest := by
  intro x hx hp f hf
  have hx' : x ∈ s.tows.tows.map (fun t => if t.space = e.1.space ∧ t.tag = e.1.tag then
      { t with faults := t.faults.filter (fun g => decide (g.id ≠ e.2.id))
               phase := if t.phase = .stopped ∧ t.faults.filter (fun g => decide (g.id ≠ e.2.id)) = [] then t.afterFault else t.phase
               unmet := if t.phase = .stopped ∧ t.faults.filter (fun g => decide (g.id ≠ e.2.id)) = [] then none else t.unmet
               resumed := t.resumed || decide (t.phase = .stopped ∧ t.faults.filter (fun g => decide (g.id ≠ e.2.id)) = []) }
      else t) := hx
  obtain ⟨y, hy, rfl⟩ := List.mem_map.mp hx'
  by_cases hmatch : y.space = e.1.space ∧ y.tag = e.1.tag
  · rw [if_pos hmatch] at hp hf ⊢
    obtain ⟨hfy, hid⟩ := List.mem_filter.mp hf
    obtain ⟨z, hz, hs, ht⟩ := h y hy hp f hfy
    rcases List.mem_cons.mp hz with he | hz
    · have : f = e.2 := congrArg Prod.snd he
      simp [this] at hid
    · exact ⟨z, hz, hs, ht⟩
  · rw [if_neg hmatch] at hp hf ⊢
    obtain ⟨z, hz, hs, ht⟩ := h y hy hp f hf
    rcases List.mem_cons.mp hz with he | hz
    · have hz' : z = e.1 := congrArg Prod.fst he
      exact absurd ⟨hz' ▸ hs.symm, hz' ▸ ht.symm⟩ hmatch
    · exact ⟨z, hz, hs, ht⟩

theorem State.resumeFault_frame (s : State) (t : Tow) (f : Fault267) : s.resumeFault t f =
    { s with link := { s.link with cache := (s.resumeFault t f).link.cache, tables := (s.resumeFault t f).link.tables }
             counters := (s.resumeFault t f).counters, tows := { s.tows with tows := (s.resumeFault t f).tows.tows } } := rfl

theorem State.resumeFaults_spec (p : Nat) (l : List (Tow × Fault267)) : ∀ s : State, s.FaultsIn p l →
    (l.foldl (fun s e => s.resumeFault e.1 e.2) s).FaultsIn p [] ∧
    (l.foldl (fun s e => s.resumeFault e.1 e.2) s) = { s with
      link := { s.link with cache := (l.foldl (fun s e => s.resumeFault e.1 e.2) s).link.cache
                            tables := (l.foldl (fun s e => s.resumeFault e.1 e.2) s).link.tables }
      counters := (l.foldl (fun s e => s.resumeFault e.1 e.2) s).counters
      tows := { s.tows with tows := (l.foldl (fun s e => s.resumeFault e.1 e.2) s).tows.tows } } := by
  induction l with
  | nil => exact fun s h => ⟨h, rfl⟩
  | cons e l ih =>
    intro s h
    obtain ⟨hin, hframe⟩ := ih _ h.resume
    rw [List.foldl_cons]
    refine ⟨hin, ?_⟩
    have hone := s.resumeFault_frame e.1 e.2
    generalize s.resumeFault e.1 e.2 = u at hframe hone ⊢
    generalize l.foldl (fun s e => s.resumeFault e.1 e.2) u = v at hframe ⊢
    rw [hframe, hone]

theorem faultResume_spec {s : State} {src : Src} {p : Nat} (hwf : s.allWf = true) (hacc : s.accepts 0x44 src) (hp : s.space p ≠ none) :
    ∃ t, exec (.faultResume src p true 0) s = .next t ∧ (∀ x ∈ t.tows.tows, x.space = p → x.faults = []) ∧
      answered s t 0x44 src .done 0 ((s.tows.tows.filter (fun w => w.space = p)).flatMap (fun w => w.faults)).length [] [] ∧
      t.mem = s.mem ∧ t.steer = s.steer ∧ t.tows.spaces = s.tows.spaces := by
  obtain ⟨sp, hsp⟩ := Option.ne_none_iff_exists'.mp hp
  have hsp' : (s.taking src).space p = some sp := hsp
  have hexec : exec (.faultResume src p true 0) s = .next (((s.faultsOf p).foldl (fun s e => s.resumeFault e.1 e.2) (s.taking src)).complete
      0x44 src .done 0 (s.faultsOf p).length) := by
    refine congrArg Host.Outcome.next ((State.handle_accepted hacc _).trans ?_)
    dsimp only
    rw [hsp']
    exact if_neg (by simp)
  obtain ⟨hin, hframe⟩ := State.resumeFaults_spec p (s.faultsOf p) (s.taking src)
    fun x hx hxp f hf => ⟨x, State.mem_faultsOf (s := s) hx hxp hf, rfl, rfl⟩
  generalize (s.faultsOf p).foldl (fun s e => s.resumeFault e.1 e.2) (s.taking src) = u at hexec hin hframe
  have hopen : s.Open u src := State.Open.of_queues (hacc.hostQueue (by decide)) (by rw [hframe]; rfl) (by rw [hframe]; rfl)
  rw [← s.faultsOf_length p]
  refine ⟨_, hexec, fun x hx hxp => ?_, hacc.completed hwf hopen .., ?_, ?_, ?_⟩
  · rw [State.complete_tows] at hx
    exact List.eq_nil_iff_forall_not_mem.mpr fun f hf => by
      obtain ⟨_, hnil, -⟩ := hin x hx hxp f hf
      cases hnil
  · rw [State.complete_mem, hframe]
    rfl
  · rw [State.complete_steer, hframe]
    rfl
  · rw [State.complete_tows, hframe]
    rfl

/-! ## Faults of the queue engine (R271) -/

section
variable {s : State} (hwf : s.allWf = true) {q addr kind level : Nat} {wr : Bool} {walk : WalkReads} (hq : q < 4096)
  (hen : (s.queue q).en = true) (hgo : (s.queue q).stopped = false) (hmay : s.mayRequest = true)
  (hfault : s.translate queueCtx addr wr walk = .fault kind level)
include hwf hq hen hgo hmay hfault

omit hwf in
theorem exec_queueFault : exec (.queueFault q addr wr walk) s = .next (s.queueFault q addr wr kind level) := by
  show execQueueFault q addr wr walk s = _
  rw [execQueueFault, show Instr.wf (.queueFault q addr wr walk) = true from decide_eq_true hq]
  refine congrArg Host.Outcome.next ((if_pos (by simp [hen, hgo, hmay])).trans ?_)
  rw [hfault]

end

theorem State.word_sticky_ne (s : State) {f : Fld} {off : Nat} (h : off ≠ f.off) (v : Option Nat) : (s.sticky f v).word off = s.word off := by
  have hset : (s.fset f 1).word off = s.word off := State.word_setWord_ne _ _ _ _ h
  unfold State.sticky
  split
  · rfl
  · cases v with
    | none => exact hset
    | some v =>
      rw [State.word, State.msix_regs]
      exact hset

/-- The first fault of the queue engine as XL_FAULT and XL_FAULT_ADDR record it, before QFAULT is set (R271). -/
def State.recordQueueFault (s : State) (q addr : Nat) (write : Bool) (kind level : Nat) : State :=
  (((((s.fset F.XL_FAULT.KIND kind).fset F.XL_FAULT.LEVEL level).fset F.XL_FAULT.WRITE (if write then 1 else 0)).fset
    F.XL_FAULT.QUEUE q).setWord 0xA00008 (BitVec.ofNat 32 addr)).setWord 0xA0000C (BitVec.ofNat 32 (addr / 2 ^ 32))

theorem State.recordQueueFault_frame (s : State) (q addr : Nat) (write : Bool) (kind level : Nat) :
    s.recordQueueFault q addr write kind level = { s with regs := (s.recordQueueFault q addr write kind level).regs } := rfl

theorem State.recordQueueFault_spec {s : State} (w : wordsWf 0 s.regs = true) (q addr : Nat) (write : Bool) (kind level : Nat) :
    wordsWf 0 (s.recordQueueFault q addr write kind level).regs = true ∧
    (s.recordQueueFault q addr write kind level).fget F.XL_FAULT.KIND = kind % 2 ^ F.XL_FAULT.KIND.width ∧
    (s.recordQueueFault q addr write kind level).fget F.XL_FAULT.QUEUE = q % 2 ^ F.XL_FAULT.QUEUE.width ∧
    (s.recordQueueFault q addr write kind level).word 0xA00008 = BitVec.ofNat 32 addr := by
  have hkind := s.fset_wf F.XL_FAULT.KIND kind w
  have hk := State.fget_fset_self s F.XL_FAULT.KIND kind (by decide) w
  have htold := ((State.Writes.refl hkind [F.XL_FAULT.LEVEL, F.XL_FAULT.WRITE, F.XL_FAULT.QUEUE]).fset (f := F.XL_FAULT.LEVEL) (by simp) (by decide) level).fset
    (f := F.XL_FAULT.WRITE) (by simp) (by decide) (if write then 1 else 0)
  have hqueue := htold.fset (f := F.XL_FAULT.QUEUE) (by simp) (by decide) q
  have hq := State.fget_fset_self _ F.XL_FAULT.QUEUE q (by decide) htold.form
  have hk' := (hqueue.fget (g := F.XL_FAULT.KIND) (apart_of_test (by decide))).trans hk
  unfold State.recordQueueFault
  generalize (((s.fset F.XL_FAULT.KIND kind).fset F.XL_FAULT.LEVEL level).fset F.XL_FAULT.WRITE (if write then 1 else 0)).fset F.XL_FAULT.QUEUE q = u
    at hqueue hq hk' ⊢
  have hlo := u.setWord_wf 0xA00008 (BitVec.ofNat 32 addr) hqueue.form
  have hkeep : ∀ f : Fld, f.off = 0xA00004 →
      ((u.setWord 0xA00008 (BitVec.ofNat 32 addr)).setWord 0xA0000C (BitVec.ofNat 32 (addr / 2 ^ 32))).fget f = u.fget f := fun f hf => by
    rw [State.fget, State.word_setWord_ne _ _ _ _ (by rw [hf]; decide), State.word_setWord_ne _ _ _ _ (by rw [hf]; decide)]
    rfl
  refine ⟨State.setWord_wf _ _ _ hlo, (hkeep _ rfl).trans hk', (hkeep _ rfl).trans hq, ?_⟩
  rw [State.word_setWord_ne _ _ _ _ (by decide), State.word_setWord_self _ _ _ hqueue.form]

/-- The machine with the transfers of queue q stopped and counted. -/
theorem State.stopQueue_spec {s : State} (w : spWf {} 0 s.link.queues = true) (q addr : Nat) :
    (((s.stopQueue q addr).count 11 10).queue q).stopped = true ∧ (q, addr / 4096) ∈ ((s.stopQueue q addr).count 11 10).link.faulted ∧
    (∀ j, j ≠ q → ((s.stopQueue q addr).count 11 10).queue j = s.queue j) := by
  refine ⟨?_, List.mem_append_right _ List.mem_cons_self, fun j hj => State.queue_modQueue_ne s hj (fun d => { d with stopped := true })⟩
  have h := State.queue_modQueue_self w q fun d => { d with stopped := true }
  exact (congrArg Queue.stopped h : _)

section
variable {s : State} (hwf : s.allWf = true) {q addr kind level : Nat} {wr : Bool}
include hwf

theorem queueFault_first (hq : q < 4096) (hnone : s.fget F.XL_FAULT.QFAULT = 0) :
    let t := s.queueFault q addr wr kind level
    (t.queue q).stopped = true ∧ t.fget F.XL_FAULT.QFAULT = 1 ∧
      t.fget F.XL_FAULT.KIND = kind % 2 ^ F.XL_FAULT.KIND.width ∧ t.fget F.XL_FAULT.QUEUE = q ∧
      t.word 0xA00008 = BitVec.ofNat 32 addr ∧ (q, addr / 4096) ∈ t.link.faulted ∧ t.tows = s.tows ∧ t.mem = s.mem ∧
      (∀ j, j ≠ q → t.queue j = s.queue j) := by
  obtain ⟨hstop, hin, hothers⟩ := State.stopQueue_spec (State.queuesWf_of_allWf hwf) q addr
  have hregs : ((s.stopQueue q addr).count 11 10).regs = s.regs := rfl
  have hkept : ((s.stopQueue q addr).count 11 10).tows = s.tows ∧ ((s.stopQueue q addr).count 11 10).mem = s.mem := ⟨rfl, rfl⟩
  have heq : s.queueFault q addr wr kind level = (if ((s.stopQueue q addr).count 11 10).bit F.XL_FAULT.QFAULT then
      ((s.stopQueue q addr).count 11 10).fset F.XL_FAULT.MORE 1
    else (((s.stopQueue q addr).count 11 10).recordQueueFault q addr wr kind level).sticky F.XL_FAULT.QFAULT (some 4)) := rfl
  generalize (s.stopQueue q addr).count 11 10 = u at *
  have hbit : u.bit F.XL_FAULT.QFAULT = false := by simp [State.bit, State.fget_of_regs hregs, hnone]
  obtain ⟨hform, hkind, hqueue, haddr⟩ := State.recordQueueFault_spec (s := u) (by rw [hregs]; exact State.regsWf_of_allWf hwf) q addr wr kind level
  have hframe := u.recordQueueFault_frame q addr wr kind level
  rw [heq, if_neg (by rw [hbit]; decide)]
  generalize u.recordQueueFault q addr wr kind level = v at hform hkind hqueue haddr hframe ⊢
  have hone := State.fget_sticky_self hform (f := F.XL_FAULT.QFAULT) (by decide) rfl (some 4)
  have hnotes := (State.Notes.refl hform [F.XL_FAULT.QFAULT]).sticky (f := F.XL_FAULT.QFAULT) (by simp) (by decide) (some 4)
  have hword := v.word_sticky_ne (f := F.XL_FAULT.QFAULT) (off := 0xA00008) (by decide) (some 4)
  have hqueues : ∀ j, (v.sticky F.XL_FAULT.QFAULT (some 4)).queue j = u.queue j := fun j => by
    rw [State.queue_eq_of_queues hnotes.queues, hframe]
    rfl
  refine ⟨by rw [hqueues]; exact hstop, hone, ?_, ?_, hword.trans haddr, ?_, ?_, ?_, fun j hj => (hqueues j).trans (hothers j hj)⟩
  · exact (hnotes.fget (apart_of_test (by decide))).trans hkind
  · exact ((hnotes.fget (apart_of_test (by decide))).trans hqueue).trans (Nat.mod_eq_of_lt hq)
  · rw [hnotes.link_eq, hframe]
    exact hin
  · rw [hnotes.tows, hframe]
    exact hkept.1
  · rw [hnotes.mem, hframe]
    exact hkept.2

theorem queueFault_more (hset : s.fget F.XL_FAULT.QFAULT = 1) :
    let t := s.queueFault q addr wr kind level
    (t.queue q).stopped = true ∧ t.fget F.XL_FAULT.MORE = 1 ∧
      t.fget F.XL_FAULT.QUEUE = s.fget F.XL_FAULT.QUEUE ∧ t.word 0xA00008 = s.word 0xA00008 ∧ t.tows = s.tows ∧ t.mem = s.mem := by
  obtain ⟨hstop, -, -⟩ := State.stopQueue_spec (State.queuesWf_of_allWf hwf) q addr
  have hregs : ((s.stopQueue q addr).count 11 10).regs = s.regs := rfl
  have hkept : ((s.stopQueue q addr).count 11 10).tows = s.tows ∧ ((s.stopQueue q addr).count 11 10).mem = s.mem := ⟨rfl, rfl⟩
  have heq : s.queueFault q addr wr kind level = (if ((s.stopQueue q addr).count 11 10).bit F.XL_FAULT.QFAULT then
      ((s.stopQueue q addr).count 11 10).fset F.XL_FAULT.MORE 1
    else (((s.stopQueue q addr).count 11 10).recordQueueFault q addr wr kind level).sticky F.XL_FAULT.QFAULT (some 4)) := rfl
  generalize (s.stopQueue q addr).count 11 10 = u at *
  have hbit : u.bit F.XL_FAULT.QFAULT = true := by simp [State.bit, State.fget_of_regs hregs, hset]
  have w : wordsWf 0 u.regs = true := by rw [hregs]; exact State.regsWf_of_allWf hwf
  rw [heq, if_pos hbit]
  refine ⟨hstop, State.fget_fset_self _ _ _ (by decide) w, ?_, ?_, hkept.1, hkept.2⟩
  · rw [State.fget_fset_apart _ _ _ _ (by decide) w (Fld.apart_of_test (by decide)), State.fget_of_regs hregs]
  · exact (State.word_setWord_ne u _ _ _ (by decide)).trans (by rw [State.word, hregs]; rfl)

end

/-- The machine with the transfers of these queues going on. -/
def State.runQueues (s : State) (l : List (Nat × Nat)) : State := l.foldl (fun s p => s.modQueue p.1 (fun d => { d with stopped := false })) s

theorem State.runQueues_frame (s : State) (l : List (Nat × Nat)) :
    s.runQueues l = { s with link := { s.link with queues := (s.runQueues l).link.queues } } :=
  List.foldlRecOn (motive := fun t : State => t = { s with link := { s.link with queues := t.link.queues } }) l _
    (show s = { s with link := { s.link with queues := s.link.queues } } from rfl) fun t ht p _ => by
      have hone : t.modQueue p.1 (fun d => { d with stopped := false }) = { t with link := { t.link with
        queues := (t.modQueue p.1 (fun d => { d with stopped := false })).link.queues } } := rfl
      generalize t.modQueue p.1 (fun d => { d with stopped := false }) = v at hone ⊢
      rw [hone, ht]

theorem State.runQueues_queue {s : State} (w : spWf {} 0 s.link.queues = true) (l : List (Nat × Nat)) (q : Nat) :
    (s.runQueues l).queue q = if q ∈ l.map (fun p => p.1) then { s.queue q with stopped := false } else s.queue q := by
  induction l generalizing s with
  | nil => rfl
  | cons e l ih =>
    rw [State.runQueues, List.foldl_cons, ← State.runQueues, ih (spSet_wf _ _ _ _ 0 (Nat.zero_le _) w)]
    by_cases h : q = e.1
    · rw [h, State.queue_modQueue_self w]
      simp
    · have hmem : q ∈ (e :: l).map (fun p => p.1) ↔ q ∈ l.map (fun p => p.1) := by
        rw [List.map_cons, List.mem_cons]
        exact or_iff_right h
      rw [State.queue_modQueue_ne _ h]
      simp only [hmem]

/-- The machine without the translations of these faults' pages. -/
def State.uncacheFaults (s : State) (l : List (Nat × Nat)) : State := l.foldl (fun s p => s.uncachePage queueCtx (p.2 * 4096)) s

theorem State.uncacheFaults_frame (s : State) (l : List (Nat × Nat)) : s.uncacheFaults l = { s with link := { s.link with
    cache := (s.uncacheFaults l).link.cache, tables := (s.uncacheFaults l).link.tables } } :=
  List.foldlRecOn (motive := fun t : State => t = { s with link := { s.link with cache := t.link.cache, tables := t.link.tables } }) l _
    (show s = { s with link := { s.link with cache := s.link.cache, tables := s.link.tables } } from rfl) fun t ht p _ => by
      have hone : t.uncachePage queueCtx (p.2 * 4096) = { t with link := { t.link with
        cache := (t.uncachePage queueCtx (p.2 * 4096)).link.cache, tables := (t.uncachePage queueCtx (p.2 * 4096)).link.tables } } := rfl
      generalize t.uncachePage queueCtx (p.2 * 4096) = v at hone ⊢
      rw [hone, ht]

/-- The transfers of the stopped queues go on, with the translations of their faults gone (R271). -/
theorem resumeQueues_spec {s : State} (hwf : s.allWf = true) :
    s.resumeQueues.link.faulted = [] ∧ (∀ p ∈ s.link.faulted, (s.resumeQueues.queue p.1).stopped = false) ∧
      (∀ q, (∀ p ∈ s.link.faulted, p.1 ≠ q) → s.resumeQueues.queue q = s.queue q) ∧
      s.resumeQueues = { s with link := { s.link with
        cache := s.resumeQueues.link.cache, tables := s.resumeQueues.link.tables, queues := s.resumeQueues.link.queues, faulted := [] } } := by
  have hu := s.uncacheFaults_frame s.link.faulted
  have heq : s.resumeQueues = { (s.uncacheFaults s.link.faulted).runQueues (s.uncacheFaults s.link.faulted).link.faulted with
    link := { ((s.uncacheFaults s.link.faulted).runQueues (s.uncacheFaults s.link.faulted).link.faulted).link with faulted := [] } } := rfl
  generalize s.uncacheFaults s.link.faulted = u at hu heq
  have hqueues : u.link.queues = s.link.queues := by rw [hu]
  have hfaulted : u.link.faulted = s.link.faulted := by rw [hu]
  rw [hfaulted] at heq
  have hqueue := State.runQueues_queue (s := u) (by rw [hqueues]; exact State.queuesWf_of_allWf hwf) s.link.faulted
  have hframe := u.runQueues_frame s.link.faulted
  generalize u.runQueues s.link.faulted = v at hqueue hframe heq
  have hself : ∀ q, s.resumeQueues.queue q = v.queue q := fun q => by rw [heq]; rfl
  refine ⟨by rw [heq], fun p hp => ?_, fun q hq => ?_, ?_⟩
  · rw [hself, hqueue, if_pos (List.mem_map_of_mem hp)]
  · have hnot : q ∉ s.link.faulted.map (fun p => p.1) := fun h => by
      obtain ⟨p, hp, he⟩ := List.mem_map.mp h
      exact hq p hp he
    rw [hself, hqueue, if_neg hnot, State.queue_eq_of_queues hqueues]
  · rw [heq, hframe, hu]

/-! ## Invalidation (R265) -/

theorem reaches_translate {s : State} {off : Nat} (hoff : off = 0xA00004 ∨ off = 0xA00010) (hreach : s.reaches off = true) (k : State → State) :
    s.hostWrite off k = k s := by
  have hnot : s.reloading off = none := by
    rcases hoff with rfl | rfl
    · rw [State.reloading, show ownerOf 0xA00004 = 16 by decide]
      rfl
    · rw [State.reloading, show ownerOf 0xA00010 = 16 by decide]
      rfl
  rw [State.hostWrite, if_pos hreach, hnot]

theorem invalidate_spec {s : State} (p size : Nat) :
    let t := s.invalidate p false true size
    (∀ c ∈ t.link.cache, c.ctx ≠ p) ∧ (∀ c ∈ s.link.cache, c.ctx ≠ p → c ∈ t.link.cache) ∧ (∀ e ∈ t.link.tables, e.ctx ≠ p) ∧
      (∀ x ∈ t.tows.tows, x.space = p → x.inBarge = false →
        (∀ r ∈ x.ranges, spaceRegion r.1 ≠ 2) ∧ (∀ c ∈ x.staged, spaceRegion c.1 ≠ 2)) ∧
      t.mem = s.mem ∧ t.steer = s.steer := by
  intro t
  refine ⟨fun c hc => ?_, fun c hc hne => ?_, fun e he => ?_, fun x hx hxp hrest => ?_, rfl, rfl⟩
  · have hmem : c ∈ s.link.cache.filter (fun c => decide (c.ctx ≠ p) || _) := hc
    simpa using (List.mem_filter.mp hmem).2
  · exact List.mem_filter.mpr ⟨hc, by simp [hne]⟩
  · have hmem : e ∈ s.link.tables.filter (fun c => decide (c.ctx ≠ p) || _) := he
    simpa using (List.mem_filter.mp hmem).2
  · obtain ⟨y, -, rfl⟩ := List.mem_map.mp hx
    by_cases hy : y.space = p
    · simp only [hy, if_true] at hrest ⊢
      have hown : ∀ u : State, u.consuming y = [] := fun u => by
        unfold State.consuming
        split
        · rw [hrest]
          rfl
        · rfl
      refine ⟨fun r hr => ?_, fun c hc => ?_⟩
      · have := (List.mem_filter.mp hr).2
        rw [hown] at this
        simpa [touchesAny] using this
      · have := (List.mem_filter.mp hc).2
        rw [hown] at this
        simpa [touchesAny] using this
    · rw [if_neg hy] at hxp
      exact absurd hxp hy

/-- Settles O35: a fault is recorded under its tow's name and taken from it when resumed, the queue engine's first fault is recorded and the
later ones counted in MORE, and an invalidation takes what the context has cached and staged. -/
theorem translationFaults : Obligations.TranslationFaults := by
  unfold Obligations.TranslationFaults
  refine ⟨fun s p tag addr barge wr walk w sp hwf hp hw hsp hend hen =>
      ⟨fun kind level hfault hnew => translationFault_recorded hwf hp hw hsp hend hen hfault hnew,
        fun c hleaf => translationFault_cached hp hw hsp hend hen hleaf⟩,
    fun s p tag u w hwf hp hw hrun hrest hf => towStop_spec hwf hp hw hrun hrest hf,
    fun s src p hwf hacc hp => faultResume_spec hwf hacc hp,
    fun s q addr kind level wr walk hwf hq hen hgo hmay hfault => ⟨fun hnone => ⟨_, exec_queueFault hq hen hgo hmay hfault, queueFault_first hwf hq hnone⟩,
      fun hset => ⟨_, exec_queueFault hq hen hgo hmay hfault, queueFault_more hwf hset⟩⟩,
    fun s hwf hreach => ⟨_, congrArg Host.Outcome.next (reaches_translate (.inl rfl) hreach _), resumeQueues_spec hwf⟩,
    fun s p size _ hp hreach => ⟨s.invalidate p false true size, ?_, invalidate_spec p size⟩⟩
  show execGo p false true size s = _
  rw [execGo, show Instr.wf (.go p false true size) = true from decide_eq_true hp]
  exact congrArg Host.Outcome.next (reaches_translate (.inr rfl) hreach _)

end Sys2Proof.Machine
end

section
/-!
PROOFS. Tows on their units (R108, R113, R126, R127): what leaving a unit, a save, an end and the steps at a barge boundary leave of the
machine and of its tows.
-/

namespace Sys2Proof.Machine

/-! ## What a tow carries on -/

/-- What a tow keeps whatever its unit comes to at a boundary: its name and progress, and nothing staged or waiting that it had not. -/
structure Tow.Carries (x y : Tow) : Prop where
  space : y.space = x.space
  tag : y.tag = x.tag
  next : y.next = x.next
  barges : y.barges = x.barges
  fetched : x.fetched = [] → y.fetched = []
  staged : x.staged = [] → y.staged = []
  ranges : x.ranges = [] → y.ranges = []
  writes : x.heldWrites = [] → x.drain = [] → y.heldWrites = [] ∧ y.drain = []

theorem Tow.Carries.refl (x : Tow) : x.Carries x := ⟨rfl, rfl, rfl, rfl, id, id, id, fun h k => ⟨h, k⟩⟩

theorem Tow.Carries.trans {x y z : Tow} (h : x.Carries y) (k : y.Carries z) : x.Carries z where
  space := k.space.trans h.space
  tag := k.tag.trans h.tag
  next := k.next.trans h.next
  barges := k.barges.trans h.barges
  fetched e := k.fetched (h.fetched e)
  staged e := k.staged (h.staged e)
  ranges e := k.ranges (h.ranges e)
  writes e1 e2 := k.writes (h.writes e1 e2).1 (h.writes e1 e2).2

/-- t is s after steps of tows at boundaries: registers, counts and tows changed, each tow carried on, and no request came. -/
structure State.Runs (s t : State) : Prop where
  frame : t = { s with regs := t.regs, tows := { s.tows with tows := t.tows.tows, reqs := t.tows.reqs, waits := t.tows.waits }
                       counters := t.counters }
  tows : ∀ x ∈ s.tows.tows, ∃ y ∈ t.tows.tows, x.Carries y
  reqs : ∀ r ∈ t.tows.reqs, r ∈ s.tows.reqs

/-- The image of one tow of a space under a change of the tows of its name. -/
theorem State.mem_modTow {s : State} {w : Tow} (h : w ∈ s.tows.tows) (f : Tow → Tow) : f w ∈ (s.modTow w.space w.tag f).tows.tows :=
  List.mem_map.mpr ⟨w, h, if_pos ⟨rfl, rfl⟩⟩

namespace State.Runs

variable {s t u : State}

theorem refl (s : State) : s.Runs s := ⟨rfl, fun x hx => ⟨x, hx, .refl x⟩, fun _ h => h⟩

theorem trans (h : s.Runs t) (k : t.Runs u) : s.Runs u where
  frame := by
    have h' := h.frame
    rw [k.frame]
    generalize t.regs = a, t.tows.tows = b, t.tows.reqs = c, t.tows.waits = d, t.counters = e at h'
    rw [h']
  tows x hx := by
    obtain ⟨y, hy, hxy⟩ := h.tows x hx
    obtain ⟨z, hz, hyz⟩ := k.tows y hy
    exact ⟨z, hz, hxy.trans hyz⟩
  reqs r hr := h.reqs r (k.reqs r hr)

/-- A write of registers or counters alone. -/
theorem keeps (h : s.Runs t) (e : u = { t with regs := u.regs, counters := u.counters }) : s.Runs u := by
  have htows : u.tows = t.tows := by rw [e]
  refine h.trans ⟨?_, fun x hx => ⟨x, by rw [htows]; exact hx, .refl x⟩, fun r hr => by rw [← htows]; exact hr⟩
  rw [htows]
  exact e

theorem count (h : s.Runs t) (g i n : Nat) : s.Runs (t.count g i n) := h.keeps rfl

theorem countSpace (h : s.Runs t) (p i n : Nat) : s.Runs (t.countSpace p i n) := by
  have hf := t.countSpace_frame p i n
  refine h.keeps ?_
  generalize t.countSpace p i n = v at hf ⊢
  rw [hf]

theorem fset (h : s.Runs t) (f : Fld) (v : Nat) : s.Runs (t.fset f v) := h.keeps rfl

theorem ite {c : Prop} [Decidable c] (ht : s.Runs t) (hu : s.Runs u) : s.Runs (if c then t else u) := by
  split
  · exact ht
  · exact hu

theorem foldl {α : Type} {f : State → α → State} {is : List α} (h : s.Runs t) (hstep : ∀ u, s.Runs u → ∀ i ∈ is, s.Runs (f u i)) :
    s.Runs (is.foldl f t) := List.foldlRecOn is f h hstep

theorem modTow (h : s.Runs t) (p tag : Nat) {f : Tow → Tow} (hf : ∀ x : Tow, x.Carries (f x)) : s.Runs (t.modTow p tag f) := by
  refine h.trans ⟨rfl, fun x hx => ⟨_, List.mem_map.mpr ⟨x, hx, rfl⟩, ?_⟩, fun _ hr => hr⟩
  split
  · exact hf x
  · exact .refl x

theorem leaveUnit (h : s.Runs t) (n : Nat) : s.Runs (t.leaveUnit n) := by
  have hhide := h.keeps (u := t.hideUnit n) (by
    have e := t.hideUnit_keeps n
    generalize t.hideUnit n = v at e ⊢
    rw [e])
  refine hhide.trans ⟨rfl, fun x hx => ⟨x, hx, .refl x⟩, fun r hr => ?_⟩
  exact (List.mem_filter.mp hr).1

theorem offUnit (h : s.Runs t) (w : Tow) : s.Runs (t.offUnit w) := by
  unfold State.offUnit
  split
  · exact h.leaveUnit _
  · exact h

theorem endTow (h : s.Runs t) (w : Tow) (reason : Nat) : s.Runs (t.endTow w reason) :=
  (h.offUnit w).modTow _ _ fun _ => ⟨rfl, rfl, rfl, rfl, fun _ => rfl, fun _ => rfl, fun _ => rfl, fun _ _ => ⟨rfl, rfl⟩⟩

theorem endAfter (h : s.Runs t) (w : Tow) (reason : Nat) : s.Runs (t.endAfter w reason) :=
  (h.modTow w.space w.tag (f := fun t => { t with ending := some reason, inBarge := false })
    fun _ => ⟨rfl, rfl, rfl, rfl, id, id, id, fun h k => ⟨h, k⟩⟩).ite (h.endTow w reason)

theorem saveTow (h : s.Runs t) (w : Tow) (phase : TowPhase) : s.Runs (t.saveTow w phase) := by
  refine State.Runs.modTow (t := t.offUnit w) (h.offUnit w) w.space w.tag fun x => ?_
  split
  · exact ⟨rfl, rfl, rfl, rfl, fun _ => rfl, fun _ => rfl, fun _ => rfl, fun h k => ⟨by simp [h, k], rfl⟩⟩
  · exact ⟨rfl, rfl, rfl, rfl, fun _ => rfl, fun _ => rfl, fun _ => rfl, fun h k => ⟨h, k⟩⟩

theorem haltUnit (h : s.Runs t) (n : Nat) : s.Runs (t.haltUnit n) := by
  unfold State.haltUnit
  split
  · exact h.ite ((h.saveTow _ _).count ..)
  · exact h

theorem setArray (h : s.Runs t) (n st : Nat) : s.Runs (t.setArray n st) := (h.fset _ _).ite ((h.fset _ _).fset _ _)

theorem gateArrays (h : s.Runs t) : s.Runs t.gateArrays := by
  refine h.foldl fun u hu n _ => hu.ite ?_
  split
  · exact hu.ite (hu.setArray n 0)
  · exact hu.setArray n 0

theorem haltArrays (h : s.Runs t) (n : Nat) : s.Runs (t.haltArrays n) := by
  unfold State.haltArrays
  dsimp only
  refine h.ite (State.Runs.foldl (h.haltUnit n) fun u hu k _ => ?_)
  exact (((hu.setArray k 4).fset _ _).count ..).ite (hu.setArray k 4)

theorem atBoundary (h : s.Runs t) (n : Nat) : s.Runs (t.atBoundary n) := by
  unfold State.atBoundary
  split
  · exact h
  next w _ =>
    exact h.ite ((h.endTow w 1).ite ((h.endAfter w 5).ite ((h.ite (h.endTow w _)).ite ((h.endTow w 0).ite
      ((((h.saveTow w .halted).count 7 12 1).gateArrays).ite ((h.haltUnit n).ite (h.haltArrays n)))))))

end State.Runs

namespace State.Runs

variable {s t : State} (h : s.Runs t)
include h

theorem mem : t.mem = s.mem := by rw [h.frame]
theorem steer : t.steer = s.steer := by rw [h.frame]
theorem auction : t.auction = s.auction := by rw [h.frame]
theorem out : t.out = s.out := by rw [h.frame]

end State.Runs

/-! ## The end of a barge (R113) -/

/-- A tow whose barge has ended, without what the barge used of its stage. -/
def Tow.past (used : Ranges) (t : Tow) : Tow :=
  let rs := t.ranges.filter (fun r => !touchesAny (r.1, r.2.1) used)
  { t with inBarge := false, next := t.next + 1, barges := t.barges + 1, fetched := t.fetched.drop 1, ranges := rs
           staged := t.staged.filter (fun c => rs.any (fun r => decide (r.1 ≤ c.1) && decide (c.1 < r.1 + r.2.1))) }

/-- The unit of a running tow shows no ESC (R147). -/
def State.hideEsc (s : State) (w : Tow) : State :=
  match w.phase with
  | .running u => (s.unitArrays u).foldl (fun s n => s.fset (F.ARRAY_STATUS.ESC n) 0) s
  | _ => s

theorem State.hideEsc_frame (s : State) (w : Tow) : s.hideEsc w = { s with regs := (s.hideEsc w).regs } := by
  unfold State.hideEsc
  split
  · refine List.foldlRecOn (motive := fun u : State => u = { s with regs := u.regs }) _ _ rfl fun u hu n _ => ?_
    rw [hu]
    rfl
  · rfl

theorem State.endBarge_eq (s : State) (w : Tow) (used : Ranges) : s.endBarge w used =
    (((s.count 7 9).countSpace w.space 2).hideEsc w).modTow w.space w.tag (Tow.past ((w.addr + 64 * w.next, 64) :: used)) := rfl

theorem State.endBarge_spec (s : State) {w : Tow} (hw : w ∈ s.tows.tows) (used : Ranges) :
    w.past ((w.addr + 64 * w.next, 64) :: used) ∈ (s.endBarge w used).tows.tows ∧
    s.endBarge w used = { s with regs := (s.endBarge w used).regs, counters := (s.endBarge w used).counters
                                 tows := { s.tows with tows := (s.endBarge w used).tows.tows } } := by
  have hframe : ((s.count 7 9).countSpace w.space 2).hideEsc w = { s with
      regs := (((s.count 7 9).countSpace w.space 2).hideEsc w).regs
      counters := (((s.count 7 9).countSpace w.space 2).hideEsc w).counters } := by
    have hsame := (s.count 7 9).countSpace_frame w.space 2 1
    generalize (s.count 7 9).countSpace w.space 2 = x at hsame
    have hesc := x.hideEsc_frame w
    generalize x.hideEsc w = v at hesc ⊢
    rw [hesc, hsame]
    rfl
  rw [State.endBarge_eq]
  generalize ((s.count 7 9).countSpace w.space 2).hideEsc w = v at hframe ⊢
  have hin : w ∈ v.tows.tows := by rw [hframe]; exact hw
  refine ⟨State.mem_modTow hin _, ?_⟩
  rw [hframe]
  rfl

/-! ## The end of a tow (R108, R128) -/

theorem State.endTow_image (s : State) {w : Tow} (hw : w ∈ s.tows.tows) (reason : Nat) :
    ∃ x ∈ (s.endTow w reason).tows.tows, x.space = w.space ∧ x.tag = w.tag ∧ x.phase = .ended reason := by
  have hin : w ∈ (s.offUnit w).tows.tows := by rw [(s.offUnit_towOnly w).2]; exact hw
  exact ⟨_, State.mem_modTow hin _, rfl, rfl, rfl⟩

/-- A tow that is to end does so, or waits for its host writes to leave. -/
theorem State.endAfter_image (s : State) {w : Tow} (hw : w ∈ s.tows.tows) (reason : Nat) :
    ∃ x ∈ (s.endAfter w reason).tows.tows, x.space = w.space ∧ x.tag = w.tag ∧ (w.drains = false → x.phase = .ended reason) ∧
      (w.drains = true → x.ending = some reason ∧ x.phase = w.phase ∧ x.drain = w.drain ∧ x.heldWrites = w.heldWrites) := by
  unfold State.endAfter
  by_cases hd : w.drains = true
  · rw [if_pos hd]
    exact ⟨_, State.mem_modTow hw _, rfl, rfl, fun h => absurd (hd.symm.trans h) (by decide), fun _ => ⟨rfl, rfl, rfl, rfl⟩⟩
  · rw [if_neg hd]
    obtain ⟨x, hx, hs, ht, hp⟩ := s.endTow_image hw reason
    exact ⟨x, hx, hs, ht, fun _ => hp, fun h => absurd h hd⟩

/-- A tow without a held write is saved in the phase it is given. -/
theorem State.saveTow_image (s : State) {w : Tow} (hw : w ∈ s.tows.tows) (hfree : w.held = false) (phase : TowPhase) :
    ∃ x ∈ (s.saveTow w phase).tows.tows, x.space = w.space ∧ x.tag = w.tag ∧ x.phase = phase ∧ x.next = w.next := by
  have hin : w ∈ (s.offUnit w).tows.tows := by rw [(s.offUnit_towOnly w).2]; exact hw
  refine ⟨_, State.mem_modTow hin _, ?_⟩
  rw [if_neg (by rw [hfree]; decide)]
  exact ⟨rfl, rfl, rfl, rfl⟩

end Sys2Proof.Machine
end

section
/-!
PROOFS. Barges (R107, R108, R113–R115, R128, R269): what a unit makes of the next barge when it fetches it, starts it, finds it bad, and of
WAIT and FENCE.
-/

namespace Sys2Proof.Machine

/-! ## Fetching (R108) -/

section
variable {s : State} {u : Nat} (hu : u < 4) {w : Tow} (hw : s.runner u = some w) {sp : Space} (hsp : s.spaceOf w.space = some sp)
include hu hw hsp

/-- A barge is fetched where there is room ahead, with what its unit will find on reaching it. -/
theorem exec_bargeFetch (hmore : w.next + w.fetched.length < w.count) (hroom : w.fetched.length ≤ sp.ahead) (hfree : w.heldWrites = [])
    (hgo : w.ending = none) (hmet : w.fetched.any (fun f => s.unmetWait w f) = false) :
    exec (.bargeFetch u) s = .next
      (let idx := w.next + w.fetched.length
       let a := w.addr + 64 * idx
       if !sp.inBounds (a, 64) || decide (spaceRegion a = 1) then
         s.modTow w.space w.tag (fun t => { t with fetched := t.fetched ++ [⟨idx, [], 3⟩] })
       else if decide (spaceRegion a = 2) && !w.isStaged (a, 64) then s
       else
         let bytes := (List.range 64).map (fun k => s.towByte w sp (a + k))
         let bad := if s.rangePoisoned w sp (a, 64) then 4 else if bargeOk bytes (s.unitWidth u) then 0 else 2
         s.modTow w.space w.tag (fun t => { t with fetched := t.fetched ++ [⟨idx, bytes, bad⟩] })) := by
  show execBargeFetch u s = _
  rw [execBargeFetch, show Instr.wf (.bargeFetch u) = true from decide_eq_true hu, hw]
  dsimp only
  rw [hsp]
  refine congrArg Host.Outcome.next (if_neg ?_)
  rintro (h | h | h | h | h)
  · omega
  · omega
  · exact h hfree
  · rw [hgo] at h; cases h
  · rw [hmet] at h; cases h

omit hu hsp in
/-- The barge fetched stands with its tow. -/
theorem fetched_barge (f : Fetched) : ∃ x ∈ (s.modTow w.space w.tag (fun t => { t with fetched := t.fetched ++ [f] })).tows.tows,
    x.space = w.space ∧ x.tag = w.tag ∧ x.fetched = w.fetched ++ [f] :=
  ⟨_, State.mem_modTow (State.runner_mem hw) _, rfl, rfl, rfl⟩

end

/-! ## Starting (R102, R108) -/

theorem unitFields_word {n : Nat} {f : Fld} (h : f ∈ unitFields n) : f.off = 0x700000 + n * 4 := by
  simp only [unitFields, List.mem_cons, List.not_mem_nil, or_false] at h
  rcases h with rfl | rfl | rfl | rfl | rfl | rfl <;> rfl

/-- What arrays show of their tows shares no bit with a field outside their words. -/
theorem State.unitFields_apart_of_off (s : State) {u : Nat} (hu : u < 4) {g : Fld} (hg : g.off < 0x700000 ∨ 0x700010 ≤ g.off) :
    ∀ f ∈ (s.unitArrays u).flatMap unitFields, Fld.apart f g := fun f hf => by
  obtain ⟨n, hn, hfn⟩ := List.mem_flatMap.mp hf
  have hlt := s.unitArrays_lt hu hn
  have hoff := unitFields_word hfn
  exact .inl (by omega)

/-- The arrays of a unit show the barge in execution (R129). -/
def State.showBarge (s : State) (u b : Nat) : State := (s.unitArrays u).foldl (fun s n =>
  ((s.fset (F.ARRAY_STATUS.BARGE n) b).fset (F.ARRAY_STATUS.ESC n) 0).fset (F.ARRAY_STATUS.STARVED n) 0) s

theorem State.showBarge_writes {s : State} (wf : wordsWf 0 s.regs = true) (u b : Nat) :
    s.Writes (s.showBarge u b) ((s.unitArrays u).flatMap unitFields) :=
  (State.Writes.refl wf _).foldl fun t ht n hn => by
    have hone : t.Writes (((t.fset (F.ARRAY_STATUS.BARGE n) b).fset (F.ARRAY_STATUS.ESC n) 0).fset (F.ARRAY_STATUS.STARVED n) 0) (unitFields n) :=
      (((State.Writes.refl ht _).unitField (by simp [unitFields]) b).unitField (by simp [unitFields]) 0).unitField (by simp [unitFields]) 0
    exact hone.mono fun f hf => List.mem_flatMap.mpr ⟨n, hn, hf⟩

theorem State.beginBarge_spec {s : State} (wf : wordsWf 0 s.regs = true) {u : Nat} (hu : u < 4) {w : Tow} (hw : w ∈ s.tows.tows) :
    ∃ x ∈ (s.beginBarge u w).tows.tows, x.space = w.space ∧ x.tag = w.tag ∧ x.inBarge = true ∧ x.next = w.next ∧
      x.escEn = decide (s.fget F.ESCALATE_CTRL.EN ≠ 0) ∧ x.escBudget = min 8 (s.fget F.ESCALATE_CTRL.BUDGET) ∧
      s.beginBarge u w = { s with regs := (s.beginBarge u w).regs, tows := { s.tows with tows := (s.beginBarge u w).tows.tows } } := by
  have hwrites := State.showBarge_writes wf u w.next
  have heq : s.beginBarge u w = (s.showBarge u w.next).modTow w.space w.tag (fun t => { t with
      inBarge := true, escEn := (s.showBarge u w.next).bit F.ESCALATE_CTRL.EN
      escBudget := min 8 ((s.showBarge u w.next).fget F.ESCALATE_CTRL.BUDGET) }) := rfl
  rw [heq]
  generalize s.showBarge u w.next = v at hwrites ⊢
  have hen := hwrites.fget (s.unitFields_apart_of_off hu (g := F.ESCALATE_CTRL.EN) (.inr (by decide)))
  have hbudget := hwrites.fget (s.unitFields_apart_of_off hu (g := F.ESCALATE_CTRL.BUDGET) (.inr (by decide)))
  have hframe := hwrites.frame
  rw [hbudget, State.bit, hen]
  have hin : w ∈ v.tows.tows := by rw [hframe]; exact hw
  refine ⟨_, State.mem_modTow hin _, rfl, rfl, rfl, rfl, rfl, rfl, ?_⟩
  rw [hframe]
  rfl

section
variable {s : State} (hwf : s.allWf = true) {u : Nat} (hu : u < 4) {w : Tow} (hw : s.runner u = some w) {sp : Space}
  (hsp : s.spaceOf w.space = some sp) {f : Fetched} (hf : w.head = some f)
include hwf hu hw hsp hf

omit hwf in
/-- A barge that is not in execution, at a boundary that nothing holds. -/
theorem exec_bargeStart (hrest : w.inBarge = false) (hgo : s.boundaryHeld u w = false) :
    exec (.bargeStart u) s = .next
      (let b := bargeOf f.bytes
       if f.bad = 3 ∨ f.bad = 4 then s.endAfter w f.bad
       else if f.bad ≠ 0 then s
       else if !(b.readsFixed ++ (if b.op = 9 then [] else b.writes)).all (fun r => sp.inBounds r) then s.endAfter w 3
       else if b.badIndex (s.towByte w sp) && (hostRanges b.readsFixed).all (fun r => w.isStaged r) then s.endAfter w 3
       else if !(hostRanges (b.reads (s.towByte w sp))).all (fun r => w.isStaged r) then
         (s.unitArrays u).foldl (fun s n => s.fset (F.ARRAY_STATUS.STARVED n) 1) s
       else if decide (hostRanges b.writes ≠ []) && decide (w.drain ≠ []) then s
       else s.beginBarge u w) := by
  show execBargeStart u s = _
  rw [execBargeStart, show Instr.wf (.bargeStart u) = true from decide_eq_true hu, hw]
  dsimp only
  rw [hf, hsp]
  exact congrArg Host.Outcome.next ((if_neg (by rw [hrest]; decide)).trans (if_neg (by rw [hgo]; decide)))

theorem bargeStart_begins (hrest : w.inBarge = false) (hgo : s.boundaryHeld u w = false) (hgood : f.bad = 0)
    (hin : ((bargeOf f.bytes).readsFixed ++ (if (bargeOf f.bytes).op = 9 then [] else (bargeOf f.bytes).writes)).all
      (fun r => sp.inBounds r) = true)
    (hindex : (bargeOf f.bytes).badIndex (s.towByte w sp) = false)
    (hstaged : (hostRanges ((bargeOf f.bytes).reads (s.towByte w sp))).all (fun r => w.isStaged r) = true)
    (hdrained : hostRanges (bargeOf f.bytes).writes = [] ∨ w.drain = []) :
    ∃ t x, exec (.bargeStart u) s = .next t ∧ x ∈ t.tows.tows ∧ x.space = w.space ∧ x.tag = w.tag ∧ x.inBarge = true ∧
      x.next = w.next ∧ x.escEn = decide (s.fget F.ESCALATE_CTRL.EN ≠ 0) ∧ x.escBudget = min 8 (s.fget F.ESCALATE_CTRL.BUDGET) ∧
      t = { s with regs := t.regs, tows := { s.tows with tows := t.tows.tows } } := by
  obtain ⟨x, hx, hrest'⟩ := State.beginBarge_spec (State.regsWf_of_allWf hwf) hu (State.runner_mem hw)
  have hexec := exec_bargeStart hu hw hsp hf hrest hgo
  dsimp only at hexec
  rw [if_neg (by omega), if_neg (by omega), if_neg (by rw [hin]; decide), if_neg (by rw [hindex]; simp), if_neg (by rw [hstaged]; decide),
    if_neg (by rcases hdrained with h | h <;> simp [h])] at hexec
  exact ⟨_, x, hexec, hx, hrest'⟩

omit hwf in
theorem bargeStart_bad (hrest : w.inBarge = false) (hgo : s.boundaryHeld u w = false) (hbad : f.bad = 3 ∨ f.bad = 4) :
    ∃ t x, exec (.bargeStart u) s = .next t ∧ x ∈ t.tows.tows ∧ x.space = w.space ∧ x.tag = w.tag ∧
      (w.drains = false → x.phase = .ended f.bad) ∧
      (w.drains = true → x.ending = some f.bad ∧ x.phase = w.phase ∧ x.drain = w.drain ∧ x.heldWrites = w.heldWrites) ∧
      t.mem = s.mem := by
  obtain ⟨x, hx, hs, ht, hend, hwait⟩ := s.endAfter_image (State.runner_mem hw) f.bad
  exact ⟨_, x, (exec_bargeStart hu hw hsp hf hrest hgo).trans (congrArg Host.Outcome.next (if_pos hbad)), hx, hs, ht, hend, hwait,
    ((State.Runs.refl s).endAfter w f.bad).mem⟩

omit hwf hsp in
/-- A barge that failed its checks ends its tow when the unit reaches it (R108). -/
theorem badBarge_spec (hrest : w.inBarge = false) (hbad : f.bad = 2) (hgo : w.ending = none) :
    ∃ t x, exec (.badBarge u) s = .next t ∧ x ∈ t.tows.tows ∧ x.space = w.space ∧ x.tag = w.tag ∧
      (w.drains = false → x.phase = .ended 2) ∧
      (w.drains = true → x.ending = some 2 ∧ x.phase = w.phase ∧ x.drain = w.drain ∧ x.heldWrites = w.heldWrites) ∧
      t.mem = s.mem ∧ t.steer = s.steer := by
  obtain ⟨x, hx, hs, ht, hend, hwait⟩ := s.endAfter_image (State.runner_mem hw) 2
  have hruns := (State.Runs.refl s).endAfter w 2
  have hexec : exec (.badBarge u) s = .next ((s.endAfter w 2).logEntry 1 7 .request .space 2 w.space w.next) := by
    show execBadBarge u s = _
    rw [execBadBarge, show Instr.wf (.badBarge u) = true from decide_eq_true hu, hw]
    dsimp only
    rw [hf]
    exact congrArg Host.Outcome.next (if_pos (by simp [hbad, hrest, hgo]))
  exact ⟨_, x, hexec, by rw [State.logEntry_tows]; exact hx, hs, ht, hend, hwait, (State.logEntry_mem ..).trans hruns.mem,
    (State.logEntry_steer ..).trans hruns.steer⟩

/-! ## WAIT and FENCE (R114, R115) -/

omit hwf hsp in
theorem exec_wait (hin : w.inBarge = true) (hgood : f.bad = 0) (hwait : (bargeOf f.bytes).isWait = true) :
    exec (.wait u) s = .next (if (bargeOf f.bytes).n ≤ s.sync w.space ((bargeOf f.bytes).aux % 64) then (s.endBarge w []).atBoundary u
      else ((s.count 7 7).countSpace w.space 14).saveTow w
        (.waiting ((bargeOf f.bytes).aux % 64) (bargeOf f.bytes).n ((s.count 7 7).countSpace w.space 14).t3ns)) := by
  show execWait u s = _
  rw [execWait, show Instr.wf (.wait u) = true from decide_eq_true hu, hw]
  dsimp only
  rw [hf]
  exact congrArg Host.Outcome.next ((if_neg (by simp [hgood, hwait])).trans (if_neg (by simp [hin])))

omit hwf hsp in
theorem wait_met (hin : w.inBarge = true) (hgood : f.bad = 0) (hwait : (bargeOf f.bytes).isWait = true)
    (hmet : (bargeOf f.bytes).n ≤ s.sync w.space ((bargeOf f.bytes).aux % 64)) :
    ∃ t x, exec (.wait u) s = .next t ∧ x ∈ t.tows.tows ∧ x.space = w.space ∧ x.tag = w.tag ∧ x.next = w.next + 1 ∧
      x.barges = w.barges + 1 ∧ t.mem = s.mem ∧ t.steer = s.steer := by
  obtain ⟨hpast, hframe⟩ := s.endBarge_spec (State.runner_mem hw) []
  have hexec := (exec_wait hu hw hf hin hgood hwait).trans (congrArg Host.Outcome.next (if_pos hmet))
  generalize s.endBarge w [] = v at hpast hframe hexec
  have hruns := (State.Runs.refl v).atBoundary u
  obtain ⟨x, hx, hcarries⟩ := hruns.tows _ hpast
  refine ⟨_, x, hexec, hx, hcarries.space, hcarries.tag, hcarries.next, hcarries.barges, hruns.mem.trans ?_, hruns.steer.trans ?_⟩
  · rw [hframe]
  · rw [hframe]

omit hwf hsp in
theorem wait_unmet (hin : w.inBarge = true) (hgood : f.bad = 0) (hwait : (bargeOf f.bytes).isWait = true)
    (hunmet : s.sync w.space ((bargeOf f.bytes).aux % 64) < (bargeOf f.bytes).n) (hfree : w.held = false) :
    ∃ t x, exec (.wait u) s = .next t ∧ x ∈ t.tows.tows ∧ x.space = w.space ∧ x.tag = w.tag ∧
      x.phase = .waiting ((bargeOf f.bytes).aux % 64) (bargeOf f.bytes).n s.t3ns ∧ x.next = w.next ∧ t.mem = s.mem ∧
      t.steer = s.steer := by
  have hexec := (exec_wait hu hw hf hin hgood hwait).trans (congrArg Host.Outcome.next (if_neg (by omega)))
  have hruns := ((State.Runs.refl s).count 7 7 1).countSpace w.space 14 1
  have hsame := (s.count 7 7).countSpace_frame w.space 14 1
  generalize (s.count 7 7).countSpace w.space 14 = v at hexec hruns hsame
  have hmem : w ∈ v.tows.tows := by rw [hsame]; exact State.runner_mem hw
  have htime : v.t3ns = s.t3ns := by rw [hsame]; rfl
  rw [htime] at hexec
  obtain ⟨x, hx, hs, ht, hphase, hnext⟩ := v.saveTow_image hmem hfree (.waiting ((bargeOf f.bytes).aux % 64) (bargeOf f.bytes).n s.t3ns)
  have hall := hruns.saveTow w (.waiting ((bargeOf f.bytes).aux % 64) (bargeOf f.bytes).n s.t3ns)
  exact ⟨_, x, hexec, hx, hs, ht, hphase, hnext, hall.mem, hall.steer⟩

/-- A tow with nothing fetched or staged. -/
def Tow.cleared (t : Tow) : Tow := { t with fetched := [], staged := [], ranges := [] }

omit hwf hsp in
/-- A FENCE drops what run-ahead has issued for later barges (R115). -/
theorem fence_spec (hin : w.inBarge = true) (hgood : f.bad = 0) (hop : (bargeOf f.bytes).op = 0x0B) (hdrain : w.drain = [])
    (hheld : w.heldWrites = []) :
    ∃ t x, exec (.fence u) s = .next t ∧ x ∈ t.tows.tows ∧ x.space = w.space ∧ x.tag = w.tag ∧ x.next = w.next + 1 ∧ x.fetched = [] ∧
      x.staged = [] ∧ x.ranges = [] ∧ (∀ r ∈ t.tows.reqs, r.unit ≠ u) ∧ t.mem = s.mem ∧ t.steer = s.steer := by
  have hexec : exec (.fence u) s = .next
      (let gone := w.ranges.length + (s.tows.reqs.filter (fun r => decide (r.unit = u))).length
       let v := ((s.count 6 11 gone).endBarge w []).modTow w.space w.tag Tow.cleared
       { v with tows := { v.tows with reqs := v.tows.reqs.filter (fun r => decide (r.unit ≠ u)) } }.atBoundary u) := by
    show execFence u s = _
    rw [execFence, show Instr.wf (.fence u) = true from decide_eq_true hu, hw]
    dsimp only
    rw [hf]
    exact congrArg Host.Outcome.next ((if_neg (by simp [hgood, hop, hdrain, hheld])).trans (if_neg (by simp [hin])))
  dsimp only at hexec
  generalize w.ranges.length + (s.tows.reqs.filter (fun r => decide (r.unit = u))).length = gone at hexec
  have hmem : w ∈ (s.count 6 11 gone).tows.tows := State.runner_mem hw
  obtain ⟨hpast, hframe⟩ := (s.count 6 11 gone).endBarge_spec hmem []
  generalize (s.count 6 11 gone).endBarge w [] = v at hpast hframe hexec
  have hclear : Tow.cleared (w.past [(w.addr + 64 * w.next, 64)]) ∈ (v.modTow w.space w.tag Tow.cleared).tows.tows := State.mem_modTow hpast _
  have hkept : (v.modTow w.space w.tag Tow.cleared).mem = s.mem ∧ (v.modTow w.space w.tag Tow.cleared).steer = s.steer := by
    rw [hframe]
    exact ⟨rfl, rfl⟩
  generalize v.modTow w.space w.tag Tow.cleared = y at hclear hkept hexec
  have hruns := (State.Runs.refl { y with tows := { y.tows with reqs := y.tows.reqs.filter (fun r => decide (r.unit ≠ u)) } }).atBoundary u
  obtain ⟨x, hx, hcarries⟩ := hruns.tows _ hclear
  refine ⟨_, x, hexec, hx, hcarries.space, hcarries.tag, hcarries.next, hcarries.fetched rfl, hcarries.staged rfl, hcarries.ranges rfl,
    fun r hr => ?_, hruns.mem.trans hkept.1, hruns.steer.trans hkept.2⟩
  exact of_decide_eq_true (List.mem_filter.mp (hruns.reqs r hr)).2

end

/-- Settles O32: a fetch, a start and a fault of the next barge change its own tow, and a barge that ends carries its tow's progress through
whatever the boundary brings. -/
theorem bargeSteps : Obligations.BargeSteps := by
  unfold Obligations.BargeSteps
  intro s u w sp hwf hu hw hsp
  refine ⟨fun hmore hroom hfree hgo hmet => ?_, fun f hf hrest =>
      ⟨fun h1 h2 h3 h4 h5 h6 => bargeStart_begins hwf hu hw hsp hf hrest h1 h2 h3 h4 h5 h6, fun h1 h2 => bargeStart_bad hu hw hsp hf hrest h1 h2,
        fun h1 h2 => badBarge_spec hu hw hf hrest h1 h2⟩,
    fun f hf hin hgood hwait => ⟨fun h => wait_met hu hw hf hin hgood hwait h, fun h1 h2 => wait_unmet hu hw hf hin hgood hwait h1 h2⟩,
    fun f hf hin hgood hop hdrain hheld => fence_spec hu hw hf hin hgood hop hdrain hheld⟩
  have hexec := exec_bargeFetch hu hw hsp hmore hroom hfree hgo hmet
  dsimp only at hexec
  refine ⟨fun hbad => ?_, fun h1 hin h2 hnot => ?_, fun h1 hin hready => ?_⟩
  · obtain ⟨x, hx, hs, ht, hfetched⟩ := fetched_barge hw ⟨w.next + w.fetched.length, [], 3⟩
    refine ⟨_, x, hexec.trans (congrArg Host.Outcome.next (if_pos ?_)), hx, hs, ht, hfetched, rfl⟩
    rcases hbad with h | h <;> simp [h]
  · exact hexec.trans (congrArg Host.Outcome.next ((if_neg (by simp [hin, h1])).trans (if_pos (by simp [h2, hnot]))))
  · obtain ⟨x, hx, hs, ht, hfetched⟩ := fetched_barge hw _
    refine ⟨_, x, hexec.trans (congrArg Host.Outcome.next ((if_neg (by simp [hin, h1])).trans (if_neg ?_))), hx, hs, ht, hfetched, rfl⟩
    rcases hready with h | h <;> simp [h]

end Sys2Proof.Machine
end

section
/-!
PROOFS. Memory requests of tows (R117–R119, R262, R269): a request goes out or waits, its data are staged, and host writes leave in order.
-/

namespace Sys2Proof.Machine

/-! ## Requests (R117, R118) -/

/-- The arrays of a unit show that their barge lacks data (R129). -/
def State.showStarved (s : State) (u v : Nat) : State := (s.unitArrays u).foldl (fun s n => s.fset (F.ARRAY_STATUS.STARVED n) v) s

theorem State.showStarved_writes {s : State} (wf : wordsWf 0 s.regs = true) (u v : Nat) :
    s.Writes (s.showStarved u v) ((s.unitArrays u).map F.ARRAY_STATUS.STARVED) :=
  (State.Writes.refl wf _).foldl fun _ ht _ hn =>
    (State.Writes.refl ht _).fset (List.mem_map_of_mem hn) (Nat.le_of_ble_eq_true rfl) v

/-- The wait for the stacks is no part of which arrays a unit holds. -/
theorem State.Writes.unitArrays_stackWait {s t : State} (h : s.Writes t [F.TUG_STATUS.STACK_WAIT]) (u : Nat) :
    t.unitArrays u = s.unitArrays u := by
  unfold State.unitArrays
  rw [h.fget (g := F.ARRAY_STATUS.GANG u) (by simp [Fld.apart, F.TUG_STATUS.STACK_WAIT, F.ARRAY_STATUS.GANG])]

/-- What becomes of a request that no limit and no interlock holds. -/
def State.sendRequest (s : State) (u : Nat) (t : Tow) (sp : Space) (addr len : Nat) (walk : WalkReads) (busy : Bool) : State :=
  let host := decide (spaceRegion addr = 2)
  let target := sp.target addr
  let starves := t.inBarge && decide (s.neededBy t sp (addr, len) = some t.next)
  if spaceRegion addr = 1 ∧ (!s.bit F.KEEL_STATUS.STACK_READY || s.power.stackHeld) then
    let s := (s.fset F.TUG_STATUS.STACK_WAIT 1).count 6 8
    if starves then s.showStarved u 1 else s
  else if busy then s.tugWaits u target starves
  else if s.yieldsTo u target then (if target = 0 then s else s.count 6 (3 + target))
  else if host then
    if !s.mayRequest then s.tugWaits u target starves
    else match s.translate t.space (offsetOf addr) false walk with
      | .leaf c =>
        let s := s.cacheWalk (offsetOf addr) walk c
        let s := s.emit (.hostRead t.space (offsetOf addr) len (s.bit F.XL_CTRL.RELAXED_EN) (s.noSnoop t.space (offsetOf addr)))
        s.issueRequest u sp addr len
      | .fault kind level =>
        s.takeFault t kind level (offsetOf addr) false ((s.neededBy t sp (addr, len)).getD (t.next + t.fetched.length))
      | .pending => s
  else ((if spaceRegion addr = 1 then s.fset F.TUG_STATUS.STACK_WAIT 0 else s).injectWord sp addr).issueRequest u sp addr len

/-- Unit u stands in the line of a target, with the wait counted. -/
def State.waitFor (s : State) (u target i : Nat) : State :=
  { s.count 6 i with tows := { s.tows with
      waits := if s.tows.waits.contains (u, target) then s.tows.waits else s.tows.waits ++ [(u, target)] } }

theorem State.waitFor_mem (s : State) (u target i : Nat) : (u, target) ∈ (s.waitFor u target i).tows.waits := by
  show _ ∈ if _ then _ else _
  split
  next h => exact List.contains_iff_mem.mp h
  · exact List.mem_append_right _ List.mem_cons_self

/-- The request that goes out for an address (R117). -/
def State.requestFor (s : State) (u addr len : Nat) (host : Bool) : Req :=
  { unit := u, tug := s.tugOf u addr, addr := addr, len := len, host := host }

theorem State.tugOf_of_regs {s t : State} (h : t.regs = s.regs) (u addr : Nat) : t.tugOf u addr = s.tugOf u addr := by
  have harrays : ∀ u, t.unitArrays u = s.unitArrays u := fun u => by
    unfold State.unitArrays
    rw [State.fget_of_regs h]
  unfold State.tugOf State.unitWidth
  rw [harrays]

theorem State.issueRequest_frame (s : State) (u : Nat) (sp : Space) (addr len : Nat) : s.issueRequest u sp addr len =
    { s with counters := (s.issueRequest u sp addr len).counters
             tows := { s.tows with reqs := s.tows.reqs ++ [s.requestFor u addr len (decide (spaceRegion addr = 2))]
                                   waits := s.tows.waits.filter (fun w => decide (w ≠ (u, sp.target addr))) } } := by
  unfold State.issueRequest
  dsimp only
  split <;> rfl

theorem entryEnd_leaf {ctx addr : Nat} {write : Bool} {level : Nat} {e : BitVec 64} {c : Cached}
    (h : entryEnd ctx addr write level e = some (.leaf c)) : c.ctx = ctx ∧ c.page = addr / 2 ^ c.bits := by
  unfold entryEnd at h
  dsimp only at h
  split_ifs at h
  all_goals
    simp only [Option.some.injEq, WalkEnd.leaf.injEq, reduceCtorEq] at h
  subst h
  exact ⟨rfl, rfl⟩

/-- A walk to a leaf leaves the translation of the page asked for. -/
theorem walkLevels_leaf {ctx addr : Nat} {write : Bool} {c : Cached} : ∀ {level : Nat} {reads : WalkReads},
    walkLevels ctx addr write level reads = .leaf c → c.ctx = ctx ∧ c.page = addr / 2 ^ c.bits
  | 0, _, h => by cases h
  | _ + 1, [], h => by cases h
  | _ + 1, none :: _, h => by cases h
  | level + 1, some e :: es, h => by
    cases hentry : entryEnd ctx addr write (level + 1) e with
    | none =>
      rw [walkLevels, hentry] at h
      exact walkLevels_leaf h
    | some x =>
      rw [walkLevels, hentry] at h
      subst h
      exact entryEnd_leaf hentry

theorem State.translate_cached {s : State} {ctx addr : Nat} {write : Bool} {reads : WalkReads} {c d : Cached}
    (h : s.translate ctx addr write reads = .leaf c) (hd : s.cached ctx addr = some d) : d = c := by
  rw [State.translate, hd] at h
  dsimp only at h
  split at h
  · cases h
  split at h
  · cases h
  · cases h
    rfl

theorem State.translate_walked {s : State} {ctx addr : Nat} {write : Bool} {reads : WalkReads} {c : Cached}
    (h : s.translate ctx addr write reads = .leaf c) (hd : s.cached ctx addr = none) : c.ctx = ctx ∧ c.page = addr / 2 ^ c.bits := by
  rw [State.translate, hd] at h
  dsimp only at h
  split at h
  · exact walkLevels_leaf h
  · cases h

/-- What a walk leads to is the cached translation after it. -/
theorem State.cacheWalk_cached {s : State} {ctx addr : Nat} {write : Bool} {walk : WalkReads} {c : Cached}
    (h : s.translate ctx addr write walk = .leaf c) : (s.cacheWalk addr walk c).cached ctx addr = some c ∧
      c ∈ (s.cacheWalk addr walk c).link.cache ∧
      s.cacheWalk addr walk c = { s with link := { s.link with cache := (s.cacheWalk addr walk c).link.cache
                                                               tables := (s.cacheWalk addr walk c).link.tables } } := by
  cases hd : s.cached ctx addr with
  | some d =>
    obtain rfl := State.translate_cached h hd
    have hin := List.mem_of_find?_eq_some hd
    have heq : s.cacheWalk addr walk d = s := if_pos (List.contains_iff_mem.mpr hin)
    rw [heq]
    exact ⟨hd, hin, rfl⟩
  | none =>
    have hhit := State.translate_walked h hd
    have hout : ¬ s.link.cache.contains c := fun hin => by
      have := List.find?_eq_none.mp hd c (List.contains_iff_mem.mp hin)
      exact this (decide_eq_true hhit)
    rw [show s.cacheWalk addr walk c = _ from if_neg hout]
    refine ⟨?_, List.mem_append_right _ List.mem_cons_self, rfl⟩
    refine List.find?_append.trans ?_
    rw [show s.link.cache.find? _ = none from hd]
    exact List.find?_cons_of_pos (l := []) (p := fun c : Cached => decide (c.ctx = ctx ∧ c.page = addr / 2 ^ c.bits)) (decide_eq_true hhit)

section
variable {s : State} {u addr len : Nat} {walk : WalkReads} {w : Tow} {sp : Space} (hwf : s.allWf = true) (hu : u < 4)
  (hw : s.runner u = some w) (hsp : s.spaceOf w.space = some sp)
include hwf hu hw hsp

omit hwf in
theorem exec_memoryRequest (hpos : 0 < len) (hlen : len ≤ 512) (hheld : w.heldWrites = []) (hgo : w.ending = none)
    (hin : sp.inBounds (addr, len) = true) (hroom : s.requestRoom w u addr (decide (spaceRegion addr = 2)) len = true)
    (hread : s.readHeld w sp (addr, len) = false) (busy : Bool) :
    exec (.memoryRequest u addr len walk busy) s = .next (s.sendRequest u w sp addr len walk busy) := by
  show execMemoryRequest u addr len walk busy s = _
  rw [execMemoryRequest, show Instr.wf (.memoryRequest u addr len walk busy) = true from decide_eq_true hu, hw]
  dsimp only
  rw [hsp]
  refine congrArg Host.Outcome.next ((if_neg ?_).trans ((if_neg (by rw [hin]; decide)).trans (if_neg (by rw [hroom, hread]; decide))))
  rintro (h | h | h | h)
  · omega
  · omega
  · exact h hheld
  · rw [hgo] at h; cases h

/-- The stacks may be read. -/
def State.stackUp (s : State) : Prop := s.fget F.KEEL_STATUS.STACK_READY = 1 ∧ s.power.stackHeld = false

omit hwf hu hw hsp in
theorem State.stackUp_iff (s : State) : s.stackUp ↔ (!s.bit F.KEEL_STATUS.STACK_READY || s.power.stackHeld) = false := by
  have hlt : s.fget F.KEEL_STATUS.STACK_READY < 2 := fldOf_lt (s.word _) F.KEEL_STATUS.STACK_READY
  unfold State.stackUp State.bit
  rw [Bool.or_eq_false_iff, Bool.not_eq_false', decide_eq_true_eq]
  constructor
  · exact fun ⟨h, k⟩ => ⟨by omega, k⟩
  · exact fun ⟨h, k⟩ => ⟨by omega, k⟩

omit hu hw hsp in
theorem State.sendRequest_out (hregion : spaceRegion addr ≠ 2) (hup : spaceRegion addr = 1 → s.stackUp)
    (hyield : s.yieldsTo u (sp.target addr) = false) (hinject : s.ras.inject = none) :
    (s.sendRequest u w sp addr len walk false).tows = { s.tows with
        reqs := s.tows.reqs ++ [{ unit := u, tug := s.tugOf u addr, addr := addr, len := len, host := false }]
        waits := s.tows.waits.filter (fun x => decide (x ≠ (u, sp.target addr))) } ∧
      s.sendRequest u w sp addr len walk false = { s with regs := (s.sendRequest u w sp addr len walk false).regs
                                                          tows := (s.sendRequest u w sp addr len walk false).tows
                                                          counters := (s.sendRequest u w sp addr len walk false).counters } ∧
      fieldsKept s (s.sendRequest u w sp addr len walk false) [F.TUG_STATUS.STACK_WAIT] := by
  have hwait : s.Writes (if spaceRegion addr = 1 then s.fset F.TUG_STATUS.STACK_WAIT 0 else s) [F.TUG_STATUS.STACK_WAIT] := by
    have hrefl := State.Writes.refl (State.regsWf_of_allWf hwf) [F.TUG_STATUS.STACK_WAIT]
    split
    · exact hrefl.fset (by simp) (by decide) 0
    · exact hrefl
  have htug : (if spaceRegion addr = 1 then s.fset F.TUG_STATUS.STACK_WAIT 0 else s).tugOf u addr = s.tugOf u addr := by
    unfold State.tugOf State.unitWidth
    rw [hwait.unitArrays_stackWait]
  have hinj : (if spaceRegion addr = 1 then s.fset F.TUG_STATUS.STACK_WAIT 0 else s).ras.inject = none := by
    rw [hwait.frame]
    exact hinject
  have heq : s.sendRequest u w sp addr len walk false =
      ((if spaceRegion addr = 1 then s.fset F.TUG_STATUS.STACK_WAIT 0 else s).injectWord sp addr).issueRequest u sp addr len := by
    refine (if_neg ?_).trans ((if_neg (by decide)).trans ((if_neg (by rw [hyield]; decide)).trans (if_neg (by simpa using hregion))))
    rintro ⟨h1, h⟩
    rw [(State.stackUp_iff s).mp (hup h1)] at h
    cases h
  rw [heq]
  generalize (if spaceRegion addr = 1 then s.fset F.TUG_STATUS.STACK_WAIT 0 else s) = v at hwait htug hinj ⊢
  rw [show v.injectWord sp addr = v by unfold State.injectWord; rw [hinj]]
  have hissue := v.issueRequest_frame u sp addr len
  have hreq : v.requestFor u addr len (decide (spaceRegion addr = 2)) = ⟨u, s.tugOf u addr, addr, len, false⟩ := by
    rw [State.requestFor, htug, decide_eq_false hregion]
  have hframe := hwait.frame
  have hkept := hwait.kept
  rw [hreq] at hissue
  generalize v.issueRequest u sp addr len = t at hissue ⊢
  have hregs : t.regs = v.regs := by rw [hissue]
  refine ⟨?_, ?_, fun g hg => (State.fget_of_regs hregs g).trans (hkept g hg)⟩
  · rw [hissue, hframe]
  · rw [hissue, hframe]

omit hwf hu hw hsp in
/-- A change of counters, and of registers where the unit's arrays show that they starve. -/
theorem State.starve_writes {v : State} (wf : wordsWf 0 v.regs = true) (harrays : v.unitArrays u = s.unitArrays u) (starves : Bool) :
    v.Writes (if starves then v.showStarved u 1 else v) ((s.unitArrays u).map F.ARRAY_STATUS.STARVED) := by
  split
  · rw [← harrays]
    exact State.showStarved_writes wf u 1
  · exact .refl wf _

omit hw hsp in
/-- A request of a stack that is not up waits (R117). -/
theorem State.sendRequest_stackDown (hregion : spaceRegion addr = 1) (hdown : ¬ s.stackUp) (busy : Bool) :
    (s.sendRequest u w sp addr len walk busy).fget F.TUG_STATUS.STACK_WAIT = 1 ∧
      s.sendRequest u w sp addr len walk busy = { s with regs := (s.sendRequest u w sp addr len walk busy).regs
                                                         counters := (s.sendRequest u w sp addr len walk busy).counters } ∧
      fieldsKept s (s.sendRequest u w sp addr len walk busy)
        (F.TUG_STATUS.STACK_WAIT :: (s.unitArrays u).map F.ARRAY_STATUS.STARVED) := by
  have hset : s.Writes (s.fset F.TUG_STATUS.STACK_WAIT 1) [F.TUG_STATUS.STACK_WAIT] :=
    (State.Writes.refl (State.regsWf_of_allWf hwf) _).fset (by simp) (by decide) 1
  have hone : (s.fset F.TUG_STATUS.STACK_WAIT 1).fget F.TUG_STATUS.STACK_WAIT = 1 :=
    s.fget_fset_self _ 1 (by decide) (State.regsWf_of_allWf hwf)
  have harrays := hset.unitArrays_stackWait u
  have heq : ∃ starves : Bool, s.sendRequest u w sp addr len walk busy =
      (if starves then ((s.fset F.TUG_STATUS.STACK_WAIT 1).count 6 8).showStarved u 1 else (s.fset F.TUG_STATUS.STACK_WAIT 1).count 6 8) :=
    ⟨_, if_pos ⟨hregion, by
      cases h : (!s.bit F.KEEL_STATUS.STACK_READY || s.power.stackHeld)
      · exact absurd ((State.stackUp_iff s).mpr h) hdown
      · rfl⟩⟩
  obtain ⟨starves, heq⟩ := heq
  rw [heq]
  generalize s.fset F.TUG_STATUS.STACK_WAIT 1 = v at hset hone harrays ⊢
  have hcount : (v.count 6 8).regs = v.regs := rfl
  have hframe : v.count 6 8 = { s with regs := v.regs, counters := (v.count 6 8).counters } := by
    rw [hset.frame]
    rfl
  generalize v.count 6 8 = c at hcount hframe ⊢
  have hstarve := State.starve_writes (u := u) (s := s) (v := c) (by rw [hcount]; exact hset.form)
    (by rw [← harrays, State.unitArrays, State.unitArrays, State.fget_of_regs hcount]) starves
  generalize (if starves = true then c.showStarved u 1 else c) = t at hstarve ⊢
  have hkept : ∀ g, t.fget g = c.fget g → t.fget g = v.fget g := fun g hg => hg.trans (State.fget_of_regs hcount g)
  refine ⟨?_, ?_, fun g hg => ?_⟩
  · rw [hkept _ (hstarve.fget fun f hf => ?_), hone]
    obtain ⟨n, hn, rfl⟩ := List.mem_map.mp hf
    have hlt := s.unitArrays_lt hu hn
    refine .inl ?_
    simp only [F.ARRAY_STATUS.STARVED, F.TUG_STATUS.STACK_WAIT]
    omega
  · have h := hstarve.frame
    generalize t.regs = rs at h ⊢
    rw [h, hframe]
  · exact (hkept g (hstarve.kept g fun f hf => hg f (List.mem_cons_of_mem _ hf))).trans (hset.kept g fun f hf => hg f (by rw [List.mem_singleton.mp hf]; exact List.mem_cons_self))

omit hu hw hsp in
/-- A request to a busy target waits in its line (R118). -/
theorem State.sendRequest_busy (hup : spaceRegion addr = 1 → s.stackUp) :
    (u, sp.target addr) ∈ (s.sendRequest u w sp addr len walk true).tows.waits ∧
      (s.sendRequest u w sp addr len walk true).tows.reqs = s.tows.reqs ∧
      s.sendRequest u w sp addr len walk true = { s with
        regs := (s.sendRequest u w sp addr len walk true).regs
        tows := { s.tows with waits := (s.sendRequest u w sp addr len walk true).tows.waits }
        counters := (s.sendRequest u w sp addr len walk true).counters } ∧
      fieldsKept s (s.sendRequest u w sp addr len walk true)
        (F.TUG_STATUS.STACK_WAIT :: (s.unitArrays u).map F.ARRAY_STATUS.STARVED) := by
  have heq : ∃ starves : Bool, ∃ i : Nat, s.sendRequest u w sp addr len walk true =
      (if starves then (s.waitFor u (sp.target addr) i).showStarved u 1 else s.waitFor u (sp.target addr) i) := by
    refine ⟨_, _, (if_neg ?_).trans (if_pos rfl)⟩
    rintro ⟨h1, h⟩
    rw [(State.stackUp_iff s).mp (hup h1)] at h
    cases h
  obtain ⟨starves, i, heq⟩ := heq
  rw [heq]
  have hregs : (s.waitFor u (sp.target addr) i).regs = s.regs := rfl
  have hwaits := s.waitFor_mem u (sp.target addr) i
  have hframe : s.waitFor u (sp.target addr) i = { s with
      tows := { s.tows with waits := (s.waitFor u (sp.target addr) i).tows.waits }
      counters := (s.waitFor u (sp.target addr) i).counters } := rfl
  generalize s.waitFor u (sp.target addr) i = c at hregs hwaits hframe ⊢
  have hstarve := State.starve_writes (u := u) (s := s) (v := c) (by rw [hregs]; exact State.regsWf_of_allWf hwf)
    (by rw [State.unitArrays, State.unitArrays, State.fget_of_regs hregs]) starves
  generalize (if starves = true then c.showStarved u 1 else c) = t at hstarve ⊢
  have htows : t.tows = c.tows := by rw [hstarve.frame]
  refine ⟨by rw [htows]; exact hwaits, by rw [htows, hframe], ?_, fun g hg => ?_⟩
  · have h := hstarve.frame
    rw [htows]
    generalize t.regs = rs at h ⊢
    rw [h, hframe]
  · exact (hstarve.kept g fun f hf => hg f (List.mem_cons_of_mem _ hf)).trans (State.fget_of_regs hregs g)

omit hu hwf hw hsp in
/-- A host request goes out under its cached translation (R117, R264). -/
theorem State.sendRequest_host (hregion : spaceRegion addr = 2) (hmay : s.mayRequest = true) {c : Cached}
    (hleaf : s.translate w.space (offsetOf addr) false walk = .leaf c) :
    c ∈ (s.sendRequest u w sp addr len walk false).link.cache ∧
      (s.sendRequest u w sp addr len walk false).tows = { s.tows with
        reqs := s.tows.reqs ++ [{ unit := u, tug := s.tugOf u addr, addr := addr, len := len, host := true }]
        waits := s.tows.waits.filter (fun x => decide (x ≠ (u, sp.target addr))) } ∧
      (s.sendRequest u w sp addr len walk false).out = s.out ++
        [.hostRead w.space (offsetOf addr) len (s.bit F.XL_CTRL.RELAXED_EN) (s.bit F.XL_CTRL.NOSNOOP_EN && c.ns)] ∧
      s.sendRequest u w sp addr len walk false = { s with
        tows := (s.sendRequest u w sp addr len walk false).tows
        counters := (s.sendRequest u w sp addr len walk false).counters
        out := (s.sendRequest u w sp addr len walk false).out
        link := { s.link with cache := (s.sendRequest u w sp addr len walk false).link.cache
                              tables := (s.sendRequest u w sp addr len walk false).link.tables } } := by
  have hyield : s.yieldsTo u (sp.target addr) = false := by
    rw [State.yieldsTo, Space.target, hregion]
    rfl
  have heq : s.sendRequest u w sp addr len walk false = State.issueRequest ((s.cacheWalk (offsetOf addr) walk c).emit
      (.hostRead w.space (offsetOf addr) len ((s.cacheWalk (offsetOf addr) walk c).bit F.XL_CTRL.RELAXED_EN)
        ((s.cacheWalk (offsetOf addr) walk c).noSnoop w.space (offsetOf addr)))) u sp addr len := by
    unfold State.sendRequest
    refine (if_neg (by rw [hregion]; rintro ⟨h, -⟩; cases h)).trans ((if_neg (by decide)).trans
      ((if_neg (by rw [hyield]; decide)).trans ((if_pos (by rw [hregion]; rfl)).trans ((if_neg (by rw [hmay]; decide)).trans ?_))))
    rw [hleaf]
  obtain ⟨hcached, hmem, hframe⟩ := State.cacheWalk_cached hleaf
  have hregs : (s.cacheWalk (offsetOf addr) walk c).regs = s.regs := by rw [hframe]
  rw [heq]
  generalize s.cacheWalk (offsetOf addr) walk c = v at hcached hmem hframe hregs ⊢
  have hsnoop : v.noSnoop w.space (offsetOf addr) = (s.bit F.XL_CTRL.NOSNOOP_EN && c.ns) := by
    rw [State.noSnoop, hcached, State.bit, State.fget_of_regs hregs]
    rfl
  rw [hsnoop, State.bit, State.fget_of_regs hregs]
  generalize hread : Sent.hostRead _ _ _ _ _ = x
  have hissue := (v.emit x).issueRequest_frame u sp addr len
  have hreq : (v.emit x).requestFor u addr len (decide (spaceRegion addr = 2)) = ⟨u, s.tugOf u addr, addr, len, true⟩ := by
    rw [State.requestFor, State.tugOf_of_regs (s := s) (t := v.emit x) hregs, decide_eq_true hregion]
  rw [hreq] at hissue
  have hx : v.emit x = { v with out := v.out ++ [x] } := rfl
  have htows : v.tows = s.tows := by rw [hframe]
  have hout : v.out = s.out := by rw [hframe]
  generalize (v.emit x).issueRequest u sp addr len = t at hissue ⊢
  rw [hx, htows, hout] at hissue
  refine ⟨?_, ?_, ?_, ?_⟩
  · rw [hissue]; exact hmem
  · rw [hissue]
  · rw [hissue]; subst hread; rfl
  · rw [hissue, hframe]

end

/-! ## Data that return (R119, R139) -/

/-- A tow with the data of one request staged. -/
def Tow.stage (addr : Nat) (data : List Byte) (bad : Bool) (t : Tow) : Tow :=
  { t with staged := memPut t.staged addr data, ranges := t.ranges ++ [(addr, data.length, bad)] }

/-- The request has gone, and data that are poisoned are noted. -/
def State.noteReturn (s : State) (t : Tow) (r : Req) (poisoned bad : Bool) : State :=
  let s : State := { s with tows := { s.tows with reqs := s.tows.reqs.erase r } }
  let s := if bad then s.count 6 13 else s
  let s := if poisoned then s.logEntry 5 3 .data .space (if r.host then 1 else 0) t.space r.addr else s
  let s := if poisoned then s.fset F.RAS_STATUS.UE 1 else s
  if poisoned && r.host then s.count 10 7 else s

/-- The arrays of the unit no longer starve, and the data stand in the stage of the tow. -/
def State.stageReturn (s : State) (t : Tow) (r : Req) (data : List Byte) (bad : Bool) : State :=
  let s := s.showStarved r.unit 0
  let s := if r.host then s.countSpace t.space 8 data.length else s
  s.modTow t.space t.tag (Tow.stage r.addr data bad)

theorem State.takeReturn_eq (s : State) (t : Tow) (sp : Space) (r : Req) (data : List Byte) (poisoned : Bool) :
    s.takeReturn t sp r data poisoned = (s.noteReturn t r poisoned (poisoned || (!r.host && s.memoryPoisoned sp (r.addr, r.len)))).stageReturn
      t r (if r.host then data else (List.range r.len).map (fun k => s.memoryByte sp (r.addr + k)))
      (poisoned || (!r.host && s.memoryPoisoned sp (r.addr, r.len))) := rfl

theorem State.stageReturn_spec {s : State} (wf : wordsWf 0 s.regs = true) {w : Tow} (hw : w ∈ s.tows.tows) (r : Req) (data : List Byte)
    (bad : Bool) : w.stage r.addr data bad ∈ (s.stageReturn w r data bad).tows.tows ∧
      s.stageReturn w r data bad = { s with regs := (s.stageReturn w r data bad).regs
                                            tows := { s.tows with tows := (s.stageReturn w r data bad).tows.tows }
                                            counters := (s.stageReturn w r data bad).counters } ∧
      fieldsKept s (s.stageReturn w r data bad) ((s.unitArrays r.unit).map F.ARRAY_STATUS.STARVED) := by
  unfold State.stageReturn
  have hshow := State.showStarved_writes wf r.unit 0
  generalize s.showStarved r.unit 0 = v at hshow ⊢
  have hcount : (if r.host then v.countSpace w.space 8 data.length else v) =
      { v with counters := (if r.host then v.countSpace w.space 8 data.length else v).counters } := by
    split
    · exact v.countSpace_frame w.space 8 data.length
    · rfl
  dsimp only
  generalize (if r.host then v.countSpace w.space 8 data.length else v) = c at hcount ⊢
  have hregs : c.regs = v.regs := by rw [hcount]
  have hframe : c = { s with regs := v.regs, counters := c.counters } := by
    rw [hcount, hshow.frame]
  have hin : w ∈ c.tows.tows := by rw [hframe]; exact hw
  refine ⟨State.mem_modTow hin _, ?_, fun g hg => (State.fget_of_regs (t := c.modTow _ _ _) hregs g).trans (hshow.kept g hg)⟩
  rw [hframe]
  rfl

theorem State.noteReturn_poisoned {s : State} (wf : wordsWf 0 s.regs = true) (t : Tow) (r : Req) :
    wordsWf 0 (s.noteReturn t r true true).regs = true ∧ (s.noteReturn t r true true).fget F.RAS_STATUS.UE = 1 ∧
      (s.noteReturn t r true true).mem = s.mem ∧ (s.noteReturn t r true true).steer = s.steer ∧
      (s.noteReturn t r true true).tows = { s.tows with reqs := s.tows.reqs.erase r } := by
  have hlog := ((State.Told.refl (s := { s with tows := { s.tows with reqs := s.tows.reqs.erase r } }) wf []).count 6 13 1).logEntry
    (by decide : 5 < 8) 3 .data .space (if r.host then 1 else 0) t.space r.addr
  unfold State.noteReturn
  dsimp only [Bool.true_and]
  rw [if_pos rfl, if_pos rfl, if_pos rfl]
  generalize State.logEntry _ _ _ _ _ _ _ _ = v at hlog ⊢
  have hue := v.fget_fset_self F.RAS_STATUS.UE 1 (by decide) hlog.form
  have hform := v.fset_wf F.RAS_STATUS.UE 1 hlog.form
  have hmem := hlog.mem
  have hsteer := hlog.steer
  have htows := hlog.tows
  split
  · exact ⟨hform, hue, hmem, hsteer, htows⟩
  · exact ⟨hform, hue, hmem, hsteer, htows⟩

section
variable {s : State} {u addr : Nat} {data : List Byte} {w : Tow} {sp : Space} {r : Req} (hwf : s.allWf = true) (hu : u < 4)
  (hw : s.runner u = some w) (hsp : s.spaceOf w.space = some sp)
  (hr : s.tows.reqs.find? (fun q => decide (q.unit = u ∧ q.addr = addr ∧ q.len = data.length)) = some r)

include hr in
theorem find_request : r.unit = u ∧ r.addr = addr ∧ r.len = data.length := of_decide_eq_true (List.find?_some hr :)

include hu hw hsp hr in
theorem exec_memoryDataReturn (poisoned : Bool) :
    exec (.memoryDataReturn u addr data poisoned) s = .next ((s.noteReturn w r poisoned
      (poisoned || (!r.host && s.memoryPoisoned sp (addr, data.length)))).stageReturn w r
        (if r.host then data else (List.range data.length).map (fun k => s.memoryByte sp (addr + k)))
        (poisoned || (!r.host && s.memoryPoisoned sp (addr, data.length)))) := by
  obtain ⟨-, haddr, hlen⟩ := find_request hr
  show execMemoryDataReturn u addr data poisoned s = _
  rw [execMemoryDataReturn, show Instr.wf (.memoryDataReturn u addr data poisoned) = true from decide_eq_true hu, hw, hr]
  rw [Option.bind_some, hsp]
  refine congrArg Host.Outcome.next ?_
  show s.takeReturn w sp r data poisoned = _
  rw [State.takeReturn_eq, haddr, hlen]

include hwf hu hw hsp hr in
theorem memoryDataReturn_good : ∃ t x, exec (.memoryDataReturn u addr data false) s = .next t ∧ t.tows.reqs = s.tows.reqs.erase r ∧
    x ∈ t.tows.tows ∧ x.space = w.space ∧ x.tag = w.tag ∧
    x.staged = memPut w.staged addr (if r.host then data else (List.range data.length).map (fun k => s.memoryByte sp (addr + k))) ∧
    x.ranges = w.ranges ++ [(addr, data.length, !r.host && s.memoryPoisoned sp (addr, data.length))] ∧
    t = { s with regs := t.regs, tows := { s.tows with tows := t.tows.tows, reqs := t.tows.reqs }, counters := t.counters } ∧
    fieldsKept s t ((s.unitArrays u).map F.ARRAY_STATUS.STARVED) := by
  obtain ⟨hunit, haddr, -⟩ := find_request hr
  have hexec := exec_memoryDataReturn hu hw hsp hr false
  rw [Bool.false_or] at hexec
  generalize hbad : (!r.host && s.memoryPoisoned sp (addr, data.length)) = bad at hexec ⊢
  generalize hbytes : (if r.host then data else (List.range data.length).map (fun k => s.memoryByte sp (addr + k))) = bytes at hexec ⊢
  have hlength : bytes.length = data.length := by
    subst hbytes
    split <;> simp
  have hnote : s.noteReturn w r false bad = { s with tows := { s.tows with reqs := s.tows.reqs.erase r }
                                                     counters := (s.noteReturn w r false bad).counters } := by
    cases bad <;> rfl
  generalize s.noteReturn w r false bad = v at hnote hexec
  have hregs : v.regs = s.regs := by rw [hnote]
  have harrays : v.unitArrays u = s.unitArrays u := by rw [State.unitArrays, State.unitArrays, State.fget_of_regs hregs]
  obtain ⟨hin, hframe, hkept⟩ := State.stageReturn_spec (s := v) (by rw [hregs]; exact State.regsWf_of_allWf hwf) (w := w)
    (by rw [hnote]; exact State.runner_mem hw) r bytes bad
  rw [hunit, harrays] at hkept
  generalize v.stageReturn w r bytes bad = t at hin hframe hkept hexec
  refine ⟨_, _, hexec, by rw [hframe, hnote], hin, rfl, rfl, ?_, ?_, by rw [hframe, hnote], fun g hg => (hkept g hg).trans (State.fget_of_regs hregs g)⟩
  · rw [← haddr]; rfl
  · rw [← haddr, ← hlength]; rfl

include hwf hu hw hsp hr in
theorem memoryDataReturn_poisoned : ∃ t x, exec (.memoryDataReturn u addr data true) s = .next t ∧ t.tows.reqs = s.tows.reqs.erase r ∧
    x ∈ t.tows.tows ∧ x.space = w.space ∧ x.tag = w.tag ∧
    x.staged = memPut w.staged addr (if r.host then data else (List.range data.length).map (fun k => s.memoryByte sp (addr + k))) ∧
    x.ranges = w.ranges ++ [(addr, data.length, true)] ∧ t.fget F.RAS_STATUS.UE = 1 ∧ t.mem = s.mem ∧ t.steer = s.steer := by
  obtain ⟨hunit, haddr, -⟩ := find_request hr
  have hexec := exec_memoryDataReturn hu hw hsp hr true
  rw [Bool.true_or] at hexec
  generalize hbytes : (if r.host then data else (List.range data.length).map (fun k => s.memoryByte sp (addr + k))) = bytes at hexec ⊢
  have hlength : bytes.length = data.length := by
    subst hbytes
    split <;> simp
  obtain ⟨hform, hue, hmem, hsteer, htows⟩ := s.noteReturn_poisoned (State.regsWf_of_allWf hwf) w r
  generalize s.noteReturn w r true true = v at hform hue hmem hsteer htows hexec
  obtain ⟨hin, hframe, hkept⟩ := State.stageReturn_spec hform (w := w) (by rw [htows]; exact State.runner_mem hw) r bytes true
  rw [hunit] at hkept
  generalize v.stageReturn w r bytes true = t at hin hframe hkept hexec
  refine ⟨_, _, hexec, by rw [hframe, htows], hin, rfl, rfl, ?_, ?_, (hkept _ fun f hf => ?_).trans hue, by rw [hframe, hmem], by rw [hframe, hsteer]⟩
  · rw [← haddr]; rfl
  · rw [← haddr, ← hlength]; rfl
  · obtain ⟨n, hn, rfl⟩ := List.mem_map.mp hf
    have hlt := v.unitArrays_lt hu hn
    refine .inl ?_
    simp only [F.ARRAY_STATUS.STARVED, F.RAS_STATUS.UE]
    omega

end

/-! ## Host writes that leave (R119) -/

/-- One host write of a tow leaves. -/
def State.sendWrite (t : Tow) (s : State) (d : Nat × List Byte) : State :=
  (s.emit (.hostWrite t.space d.1 d.2 (s.noSnoop t.space d.1))).countSpace t.space 9 d.2.length

theorem State.sendWrites_frame (t : Tow) (all : List (Nat × List Byte)) : ∀ s : State, all.foldl (State.sendWrite t) s =
    { s with out := s.out ++ all.map (fun d => .hostWrite t.space d.1 d.2 (s.noSnoop t.space d.1))
             counters := (all.foldl (State.sendWrite t) s).counters } := by
  induction all with
  | nil => intro s; rw [List.map_nil, List.append_nil]; rfl
  | cons d all ih =>
    intro s
    have hsend : State.sendWrite t s d = { s with out := s.out ++ [.hostWrite t.space d.1 d.2 (s.noSnoop t.space d.1)]
                                                  counters := (State.sendWrite t s d).counters } :=
      (s.emit (.hostWrite t.space d.1 d.2 (s.noSnoop t.space d.1))).countSpace_frame t.space 9 d.2.length
    have hsnoop : ∀ a, (State.sendWrite t s d).noSnoop t.space a = s.noSnoop t.space a := fun a => by
      rw [hsend]
      rfl
    have hrest := ih (State.sendWrite t s d)
    simp only [hsnoop] at hrest
    rw [List.foldl_cons]
    generalize State.sendWrite t s d = v at hsend hrest ⊢
    rw [hrest, hsend, List.map_cons, List.append_assoc]
    rfl

/-- A tow whose host writes have left. -/
def Tow.drained (t : Tow) : Tow := { t with heldWrites := [], drain := [] }

theorem hostWriteDrain_spec {s : State} {u : Nat} {w : Tow} (hu : u < 4) (hw : s.runner u = some w)
    (hall : w.heldWrites ++ w.drain ≠ []) (hheld : w.held = false) (hmay : s.mayRequest = true) :
    ∃ t x, exec (.hostWriteDrain u) s = .next t ∧
      t.out = s.out ++ (w.heldWrites ++ w.drain).map (fun d => .hostWrite w.space d.1 d.2 (s.noSnoop w.space d.1)) ∧
      x ∈ t.tows.tows ∧ x.space = w.space ∧ x.tag = w.tag ∧ x.heldWrites = [] ∧ x.drain = [] ∧ t.mem = s.mem ∧ t.steer = s.steer := by
  have hexec : exec (.hostWriteDrain u) s = .next ((State.modTow ((w.heldWrites ++ w.drain).foldl (State.sendWrite w) s) w.space w.tag
      Tow.drained).atBoundary u) := by
    show execHostWriteDrain u s = _
    rw [execHostWriteDrain, show Instr.wf (.hostWriteDrain u) = true from decide_eq_true hu, hw]
    refine congrArg Host.Outcome.next (if_neg ?_)
    rintro (h | h | h)
    · exact hall h
    · rw [hheld] at h; cases h
    · rw [hmay] at h; cases h
  have hsent := State.sendWrites_frame w (w.heldWrites ++ w.drain) s
  generalize (w.heldWrites ++ w.drain).foldl (State.sendWrite w) s = v at hexec hsent
  have hin : w.drained ∈ (v.modTow w.space w.tag Tow.drained).tows.tows := by
    refine State.mem_modTow ?_ Tow.drained
    rw [hsent]
    exact State.runner_mem hw
  have hmod : v.modTow w.space w.tag Tow.drained = { v with tows := (v.modTow w.space w.tag Tow.drained).tows } := rfl
  generalize v.modTow w.space w.tag Tow.drained = d at hexec hin hmod
  have hruns := (State.Runs.refl d).atBoundary u
  generalize d.atBoundary u = t at hexec hruns
  obtain ⟨y, hy, hcarry⟩ := hruns.tows _ hin
  obtain ⟨hheldw, hdrain⟩ := hcarry.writes rfl rfl
  exact ⟨t, y, hexec, by rw [hruns.out, hmod, hsent], hy, hcarry.space, hcarry.tag, hheldw, hdrain, by rw [hruns.mem, hmod, hsent],
    by rw [hruns.steer, hmod, hsent]⟩

/-- Settles O34: a request goes out for memory that is up and free, waits for stacks and busy targets, or leaves for the host under its
translation; data that return stand in the tow's stage, poisoned ones noted; and host writes leave in order. -/
theorem towMemory : Obligations.TowMemory := by
  unfold Obligations.TowMemory
  refine ⟨fun s u addr len walk w sp hwf hu hw hsp hpos hlen hheld hgo hin hroom hread hinject => ?_,
    fun s u addr data w sp r hwf hu hw hsp _ hr => ⟨memoryDataReturn_good hwf hu hw hsp hr, memoryDataReturn_poisoned hwf hu hw hsp hr⟩,
    fun s u w _ hu hw hall hheld hmay => hostWriteDrain_spec hu hw hall hheld hmay⟩
  have hexec := exec_memoryRequest (walk := walk) hu hw hsp hpos hlen hheld hgo hin hroom hread
  exact ⟨fun hregion hup hyield => ⟨_, hexec false, State.sendRequest_out hwf hregion hup hyield hinject⟩,
    fun busy hregion hdown => ⟨_, hexec busy, State.sendRequest_stackDown hwf hu hregion hdown busy⟩,
    fun hup => ⟨_, hexec true, State.sendRequest_busy hwf hup⟩,
    fun c hregion hmay hleaf => ⟨_, hexec false, State.sendRequest_host hregion hmay hleaf⟩⟩

end Sys2Proof.Machine
end

section
/-!
PROOFS. The auction units (R162–R166): what a unit's solve comes to under a reservation, a matrix, a phase, the limit and the check of its
certificate.
-/

namespace Sys2Proof.Machine

/-! ## The solve on a unit -/

theorem State.solvesWf_of_allWf {s : State} (h : s.allWf = true) : spWf none 0 s.auction.solves = true := by
  simp only [State.allWf, State.serviceWf, Bool.and_eq_true] at h
  tauto

/-- BUSY of the units once unit u has a solve or none. -/
def busyWith (busy u : Nat) (v : Option Solve) : Nat :=
  let without := busy - busy / 2 ^ u % 2 * 2 ^ u
  if v.isSome then without + 2 ^ u else without

theorem State.setSolve_frame (s : State) (u : Nat) (v : Option Solve) : s.setSolve u v = { s with
    regs := (s.fset F.AUC_STATUS.BUSY (busyWith (s.fget F.AUC_STATUS.BUSY) u v)).regs
    auction := { s.auction with solves := spSet none s.auction.solves u v } } := rfl

theorem State.setSolve_kept {s : State} (wf : wordsWf 0 s.regs = true) (u : Nat) (v : Option Solve) :
    fieldsKept s (s.setSolve u v) [F.AUC_STATUS.BUSY] := fun g hg =>
  (State.fget_of_regs (s := s.fset F.AUC_STATUS.BUSY (busyWith (s.fget F.AUC_STATUS.BUSY) u v)) (t := s.setSolve u v) rfl g).trans
    (s.fget_fset_apart F.AUC_STATUS.BUSY g _ (by decide) wf (hg _ List.mem_cons_self))

theorem State.solve_setSolve_self {s : State} (wf : spWf none 0 s.auction.solves = true) (u : Nat) (v : Option Solve) :
    (s.setSolve u v).solve u = v := spGet_spSet_self _ _ u v 0 wf

theorem State.solve_setSolve_ne (s : State) {u j : Nat} (h : j ≠ u) (v : Option Solve) : (s.setSolve u v).solve j = s.solve j :=
  spGet_spSet_ne _ _ u j v h

theorem State.solve_of_auction {s t : State} (h : t.auction.solves = s.auction.solves) (u : Nat) : t.solve u = s.solve u := by
  rw [State.solve, State.solve, h]

theorem busyWith_some {busy u : Nat} (hb : busy < 32) (hu : u < 5) (v : Solve) : busyWith busy u (some v) % 32 / 2 ^ u % 2 = 1 := by
  unfold busyWith
  have : ∀ b < 32, ∀ n < 5, (b - b / 2 ^ n % 2 * 2 ^ n + 2 ^ n) % 32 / 2 ^ n % 2 = 1 := by decide
  exact this busy hb u hu

/-- A unit with a solve is BUSY (R179). -/
theorem State.busy_setSolve {s : State} (wf : wordsWf 0 s.regs = true) {u : Nat} (hu : u < 5) (v : Solve) :
    (s.setSolve u (some v)).fget F.AUC_STATUS.BUSY / 2 ^ u % 2 = 1 := by
  have hset : (s.setSolve u (some v)).fget F.AUC_STATUS.BUSY = busyWith (s.fget F.AUC_STATUS.BUSY) u (some v) % 32 :=
    s.fget_fset_self F.AUC_STATUS.BUSY _ (by decide) wf
  rw [hset]
  exact busyWith_some (fldOf_lt (s.word _) F.AUC_STATUS.BUSY) hu v

/-! ## The feed queue (R163) -/

theorem State.fillQueue_feeds (s : State) : s.fillQueue.auction.feeds ++ s.fillQueue.auction.outside = s.auction.feeds ++ s.auction.outside := by
  show (s.auction.feeds ++ s.auction.outside.take _) ++ s.auction.outside.drop _ = _
  rw [List.append_assoc, List.take_append_drop]

theorem State.fillQueue_full (s : State) (h : s.fillQueue.auction.outside ≠ []) : 64 ≤ s.fillQueue.auction.feeds.length := by
  have hdrop : s.auction.outside.drop (64 - s.auction.feeds.length) ≠ [] := h
  have hlen := List.length_pos_iff.mpr hdrop
  rw [List.length_drop] at hlen
  show 64 ≤ (s.auction.feeds ++ s.auction.outside.take (64 - s.auction.feeds.length)).length
  rw [List.length_append, List.length_take]
  omega

theorem State.fillQueue_frame (s : State) : s.fillQueue = { s with auction := { s.auction with
    feeds := s.fillQueue.auction.feeds, outside := s.fillQueue.auction.outside } } := rfl

theorem State.unitFor_lt {s : State} {cls u : Nat} {but : Option Nat} (h : s.unitFor cls but = some u) : u < 5 :=
  List.mem_range.mp (List.mem_filter.mp (List.mem_of_find?_eq_some h)).1

/-- A tow whose feed has its unit is ready for it. -/
def Tow.ready (t : Tow) : Tow := if t.phase = .feeding then { t with phase := .ready, resumed := true } else t

/-- The head of the queue has its unit. -/
def State.reserve (s : State) (f : Feed) (u : Nat) : State :=
  ((({ s with auction := { s.auction with feeds := s.auction.feeds.erase f } } : State).fillQueue).setSolve u (some { feed := f })).modTow
    f.space f.tag Tow.ready

section
variable {s : State} {f : Feed} {u : Nat} (hheld : s.feedsHeld = false) (horphans : s.auction.orphans = [])
  (hhead : s.fillQueue.headFeed = some f) (hunit : s.unitFor f.cls none = some u)
include hheld horphans hhead hunit

theorem exec_unitReserved : exec .unitReserved s = .next (s.fillQueue.reserve f u) := by
  refine congrArg Host.Outcome.next ?_
  have hplace : s.fillQueue.placeOrphans = s.fillQueue := by
    rw [State.placeOrphans, show s.fillQueue.auction.orphans = [] from horphans]
    rfl
  unfold State.reserveHead
  rw [if_neg (by rw [show s.fillQueue.feedsHeld = s.feedsHeld from rfl, hheld]; decide)]
  dsimp only
  rw [hplace, if_neg (not_not_intro (show s.fillQueue.auction.orphans = [] from horphans)), hhead]
  dsimp only
  rw [show s.fillQueue.unitFor f.cls none = some u from hunit]
  rfl

theorem unitReserved_spec (hwf : s.allWf = true) : ∃ t, exec .unitReserved s = .next t ∧ t.solve u = some { feed := f } ∧
    (∀ v, v ≠ u → t.solve v = s.solve v) ∧
    t.auction.feeds ++ t.auction.outside = s.fillQueue.auction.feeds.erase f ++ s.fillQueue.auction.outside ∧
    (t.auction.outside ≠ [] → 64 ≤ t.auction.feeds.length) ∧ t.fget F.AUC_STATUS.BUSY / 2 ^ u % 2 = 1 ∧
    (∀ x ∈ t.tows.tows, x.space = f.space → x.tag = f.tag → x.phase ≠ .feeding) ∧
    t = { s with regs := t.regs, auction := t.auction, tows := { s.tows with tows := t.tows.tows } } := by
  refine ⟨_, exec_unitReserved hheld horphans hhead hunit, ?_⟩
  unfold State.reserve
  have hsum := State.fillQueue_feeds { s.fillQueue with auction := { s.fillQueue.auction with feeds := s.fillQueue.auction.feeds.erase f } }
  have hfull := State.fillQueue_full { s.fillQueue with auction := { s.fillQueue.auction with feeds := s.fillQueue.auction.feeds.erase f } }
  generalize hv : State.fillQueue { s.fillQueue with auction := { s.fillQueue.auction with feeds := s.fillQueue.auction.feeds.erase f } } = v at hsum hfull
  have hframe : v = { s with auction := v.auction } := by rw [← hv]; rfl
  have hsolves : v.auction.solves = s.auction.solves := by rw [← hv]; rfl
  have hregs : v.regs = s.regs := by rw [hframe]
  have hwords : wordsWf 0 v.regs = true := by rw [hregs]; exact State.regsWf_of_allWf hwf
  have hself := State.solve_setSolve_self (s := v) (by rw [hsolves]; exact State.solvesWf_of_allWf hwf) u (some { feed := f })
  have hne := fun j (hj : j ≠ u) => (v.solve_setSolve_ne hj (some { feed := f })).trans (State.solve_of_auction hsolves j)
  have hbusy := State.busy_setSolve hwords (State.unitFor_lt hunit) { feed := f }
  have hset := v.setSolve_frame u (some { feed := f })
  generalize v.setSolve u (some { feed := f }) = y at hself hne hbusy hset ⊢
  refine ⟨hself, hne, ?_, ?_, hbusy, fun x hx hs ht hp => ?_, ?_⟩
  · rw [← hsum]
    show y.auction.feeds ++ y.auction.outside = _
    rw [hset]
  · show y.auction.outside ≠ [] → 64 ≤ y.auction.feeds.length
    rw [hset]
    exact hfull
  · obtain ⟨z, -, rfl⟩ := List.mem_map.mp hx
    split at hp
    · unfold Tow.ready at hp
      split at hp
      · cases hp
      next h => exact h hp
    next h =>
      rw [if_neg h] at hs ht
      exact h ⟨hs, ht⟩
  · show { y with tows := _ } = _
    rw [hset, hframe]
    rfl

end

/-! ## Feeds (R162, R163) -/

section
variable {s : State} {u : Nat} {w : Tow} {sp : Space} {f : Fetched} (hwf : s.allWf = true) (hu : u < 4)
  (hw : s.runner u = some w) (hsp : s.spaceOf w.space = some sp) (hf : w.head = some f) (hbad : f.bad = 0)
  (hop : (bargeOf f.bytes).op = 0x0C) (hin : w.inBarge = true)

include hu hw hsp hf hbad hop hin in
theorem exec_aucFeed_reserved {a : Nat} {v : Solve} (hfeed : s.feedUnit w = some (a, v)) :
    exec (.aucFeed u) s = .next (s.streamFeed u w sp (bargeOf f.bytes) a v) := by
  show execAucFeed u s = _
  rw [execAucFeed, show Instr.wf (.aucFeed u) = true from decide_eq_true hu, hw]
  dsimp only
  rw [hf, hsp]
  refine congrArg Host.Outcome.next ((if_neg ?_).trans ?_)
  · rintro (h | h | h)
    · exact h hbad
    · exact h hop
    · rw [hin] at h; cases h
  · rw [hfeed]

theorem State.noteSaturated_frame (s : State) (n : Nat) : (if 0 < n then s.fset F.AUC_STATUS.SATURATED 1 else s) =
    { s with regs := (if 0 < n then s.fset F.AUC_STATUS.SATURATED 1 else s).regs } := by
  split <;> rfl

/-- The matrix of a feed stands in its solve, with what it counted. -/
theorem State.takeMatrix_spec (s : State) (a : Nat) (v : Solve) (t : Tow) (sp : Space) (b : Barge) : ∃ y : State, ∃ v' : Solve,
    s.takeMatrix a v t sp b = y.setSolve a (some v') ∧ y = { s with regs := y.regs, counters := y.counters } ∧ v'.feed = v.feed ∧
      v'.taken = true ∧ v'.since = s.time.tb3 ∧ v'.score.length = b.n ∧ v'.forbid.length = b.n := by
  unfold State.takeMatrix
  refine ⟨_, _, rfl, ?_, rfl, rfl, ?_, by simp, by simp⟩
  · rw [s.noteSaturated_frame]
    rfl
  · rw [s.noteSaturated_frame]
    rfl

include hwf hu hw hsp hf hbad hop hin in
theorem aucFeed_taken {a : Nat} {v : Solve} (hfeed : s.feedUnit w = some (a, v))
    (hgood : (bargeOf f.bytes).readsFixed.any (fun r => s.rangePoisoned w sp r) = false) :
    ∃ t v' x, exec (.aucFeed u) s = .next t ∧ t.solve a = some v' ∧ v'.feed = v.feed ∧ v'.taken = true ∧ v'.since = s.time.tb3 ∧
      v'.score.length = (bargeOf f.bytes).n ∧ v'.forbid.length = (bargeOf f.bytes).n ∧ x ∈ t.tows.tows ∧ x.space = w.space ∧
      x.tag = w.tag ∧ x.next = w.next + 1 ∧ t.mem = s.mem ∧ t.steer = s.steer := by
  have hexec := exec_aucFeed_reserved hu hw hsp hf hbad hop hin hfeed
  unfold State.streamFeed at hexec
  rw [if_neg (by rw [hgood]; decide)] at hexec
  dsimp only at hexec
  obtain ⟨y, v', htake, hy, hv⟩ := s.takeMatrix_spec a v w sp (bargeOf f.bytes)
  rw [htake] at hexec
  have hsolves : y.auction.solves = s.auction.solves := by rw [hy]
  have hself := State.solve_setSolve_self (s := y) (by rw [hsolves]; exact State.solvesWf_of_allWf hwf) a (some v')
  have hset := y.setSolve_frame a (some v')
  generalize y.setSolve a (some v') = z at hexec hself hset
  have htraffic : (((z.count 8 0).countSpace w.space 12).countTraffic w.space (bargeOf f.bytes).readsFixed) = { z with
      counters := (((z.count 8 0).countSpace w.space 12).countTraffic w.space (bargeOf f.bytes).readsFixed).counters } := by
    unfold State.countTraffic
    have h1 := (z.count 8 0).countSpace_frame w.space 12 1
    generalize (z.count 8 0).countSpace w.space 12 = c1 at h1 ⊢
    have h2 := c1.countSpace_frame w.space 10 (rangeBytes (fun x => decide (x = 0)) (bargeOf f.bytes).readsFixed)
    generalize c1.countSpace w.space 10 (rangeBytes (fun x => decide (x = 0)) (bargeOf f.bytes).readsFixed) = c2 at h2 ⊢
    have h3 := c2.countSpace_frame w.space 11 (rangeBytes (fun x => decide (x = 1)) (bargeOf f.bytes).readsFixed)
    rw [h3, h2, h1]
    rfl
  generalize ((z.count 8 0).countSpace w.space 12).countTraffic w.space (bargeOf f.bytes).readsFixed = c at hexec htraffic
  have hwc : w ∈ c.tows.tows := by
    rw [htraffic, hset, hy]
    exact State.runner_mem hw
  obtain ⟨hpast, hend⟩ := c.endBarge_spec hwc (bargeOf f.bytes).readsFixed
  generalize c.endBarge w (bargeOf f.bytes).readsFixed = e at hexec hpast hend
  have hruns := (State.Runs.refl e).atBoundary u
  generalize e.atBoundary u = t at hexec hruns
  obtain ⟨x, hx, hcarry⟩ := hruns.tows _ hpast
  refine ⟨t, v', x, hexec, ?_, hv.1, hv.2.1, hv.2.2.1, hv.2.2.2.1, hv.2.2.2.2, hx, hcarry.space, hcarry.tag, hcarry.next, ?_, ?_⟩
  · rw [← hself]
    exact State.solve_of_auction (by rw [hruns.auction, hend, htraffic]) a
  · rw [hruns.mem, hend, htraffic, hset, hy]
  · rw [hruns.steer, hend, htraffic, hset, hy]

include hwf hu hw hsp hf hbad hop hin in
theorem aucFeed_poisoned {a : Nat} {v : Solve} (hfeed : s.feedUnit w = some (a, v))
    (hpoison : (bargeOf f.bytes).readsFixed.any (fun r => s.rangePoisoned w sp r) = true) :
    ∃ t x, exec (.aucFeed u) s = .next t ∧ t.solve a = none ∧ x ∈ t.tows.tows ∧ x.space = w.space ∧ x.tag = w.tag ∧
      (w.drains = false → x.phase = .ended 4) ∧ (w.drains = true → x.ending = some 4) ∧ t.mem = s.mem ∧ t.steer = s.steer := by
  have hexec := exec_aucFeed_reserved hu hw hsp hf hbad hop hin hfeed
  unfold State.streamFeed at hexec
  rw [if_pos hpoison] at hexec
  have hself := State.solve_setSolve_self (State.solvesWf_of_allWf hwf) a none
  have hset := s.setSolve_frame a none
  generalize s.setSolve a none = y at hexec hself hset
  obtain ⟨x, hx, hspace, htag, hended, hdrains⟩ := y.endAfter_image (w := w) (by rw [hset]; exact State.runner_mem hw) 4
  have hruns := (State.Runs.refl y).endAfter w 4
  generalize y.endAfter w 4 = t at hexec hruns hx
  exact ⟨t, x, hexec, (State.solve_of_auction (by rw [hruns.auction]) a).trans hself, hx, hspace, htag, hended,
    fun h => (hdrains h).1, by rw [hruns.mem, hset], by rw [hruns.steer, hset]⟩

/-- The feed of a tow that runs an AUC_FEED. -/
def State.feedOf (s : State) (w : Tow) (b : Barge) : Feed := ⟨w.space, w.tag, w.cls, s.auction.orders, w.next, b.n, b.addrC, b.aux⟩

theorem State.queueFeed_feeds (s : State) (g : Feed) :
    (s.queueFeed g).auction.feeds ++ (s.queueFeed g).auction.outside = s.auction.feeds ++ s.auction.outside ++ [g] :=
  (State.fillQueue_feeds { s with auction := { s.auction with outside := s.auction.outside ++ [g], orders := s.auction.orders + 1 } }).trans
    (List.append_assoc ..).symm

include hu hw hsp hf hbad hop hin in
theorem exec_aucFeed_waits (hfeed : s.feedUnit w = none) (hheld : s.feedsHeld = true)
    (hnew : (s.auction.feeds ++ s.auction.outside).any w.owns = false) :
    exec (.aucFeed u) s = .next ((s.queueFeed (s.feedOf w (bargeOf f.bytes))).fillQueue.saveTow w .feeding) := by
  have hreserve : (s.queueFeed (s.feedOf w (bargeOf f.bytes))).reserveHead = (s.queueFeed (s.feedOf w (bargeOf f.bytes))).fillQueue :=
    if_pos hheld
  have hnone : (s.queueFeed (s.feedOf w (bargeOf f.bytes))).fillQueue.feedUnit w = none := hfeed
  show execAucFeed u s = _
  rw [execAucFeed, show Instr.wf (.aucFeed u) = true from decide_eq_true hu, hw]
  dsimp only
  rw [hf, hsp]
  refine congrArg Host.Outcome.next ((if_neg ?_).trans ?_)
  · rintro (h | h | h)
    · exact h hbad
    · exact h hop
    · rw [hin] at h; cases h
  · rw [hfeed]
    dsimp only
    rw [if_neg (by rw [hnew]; decide)]
    unfold State.feedOf at hreserve hnone ⊢
    rw [hreserve, hnone]

include hu hw hsp hf hbad hop hin in
theorem aucFeed_queued (hfeed : s.feedUnit w = none) (hheld : s.feedsHeld = true) (hfree : w.held = false)
    (hnew : (s.auction.feeds ++ s.auction.outside).any w.owns = false) :
    ∃ t x g, exec (.aucFeed u) s = .next t ∧
      t.auction.feeds ++ t.auction.outside = s.auction.feeds ++ s.auction.outside ++ [g] ∧ g.space = w.space ∧ g.tag = w.tag ∧
      g.cls = w.cls ∧ g.n = (bargeOf f.bytes).n ∧ x ∈ t.tows.tows ∧ x.space = w.space ∧ x.tag = w.tag ∧ x.phase = .feeding ∧
      t.mem = s.mem ∧ t.steer = s.steer := by
  have hexec := exec_aucFeed_waits hu hw hsp hf hbad hop hin hfeed hheld hnew
  have hsum := ((s.queueFeed (s.feedOf w (bargeOf f.bytes))).fillQueue_feeds).trans (s.queueFeed_feeds _)
  have hframe : (s.queueFeed (s.feedOf w (bargeOf f.bytes))).fillQueue = { s with
      auction := (s.queueFeed (s.feedOf w (bargeOf f.bytes))).fillQueue.auction } := rfl
  generalize (s.queueFeed (s.feedOf w (bargeOf f.bytes))).fillQueue = y at hexec hsum hframe
  obtain ⟨x, hx, hspace, htag, hphase, -⟩ := y.saveTow_image (w := w) (by rw [hframe]; exact State.runner_mem hw) hfree .feeding
  have hruns := (State.Runs.refl y).saveTow w .feeding
  generalize y.saveTow w .feeding = t at hexec hruns hx
  exact ⟨t, x, _, hexec, by rw [hruns.auction, hsum], rfl, rfl, rfl, rfl, hx, hspace, htag, hphase, by rw [hruns.mem, hframe],
    by rw [hruns.steer, hframe]⟩

end

/-! ## Phases, the limit and the certificate (R164–R166) -/

/-- A solve after a phase whose rounds came to r: owners of the columns, and prices. -/
def Solve.afterPhase (v : Solve) (now : Nat) (r : List (Option Nat) × List Int) : Solve :=
  { v with prices := r.2, assign := assignOf v.feed.n r.1, eps := v.nextEps, phases := v.phases + 1
           best := some (v.nextEps, assignOf v.feed.n r.1, r.2), ended := now, status := if v.nextEps = 1 then some 0 else none }

section
variable {s : State} {u : Nat} {v : Solve} (hwf : s.allWf = true) (hu : u < 5) (hv : s.solve u = some v)

theorem setSolve_keeps (s : State) (u : Nat) (v : Option Solve) : s.setSolve u v =
    { s with regs := (s.setSolve u v).regs, auction := { s.auction with solves := (s.setSolve u v).auction.solves } } := rfl

include hu hv in
theorem exec_auctionPhaseEnd (htaken : v.taken = true) (hrun : v.status = none) :
    ∃ r, exec (.auctionPhaseEnd u) s = .next (s.setSolve u (some (v.afterPhase s.time.tb3 r))) := by
  have hexec : exec (.auctionPhaseEnd u) s = execAuctionPhaseEnd u s := rfl
  rw [hexec, execAuctionPhaseEnd, show Instr.wf (.auctionPhaseEnd u) = true from decide_eq_true hu, hv]
  dsimp only
  rw [if_neg (by rw [htaken, hrun]; decide)]
  generalize phaseRounds _ _ _ _ _ _ = r
  exact ⟨r, rfl⟩

include hwf hu hv in
theorem auctionPhaseEnd_spec (htaken : v.taken = true) (hrun : v.status = none) :
    ∃ t v', exec (.auctionPhaseEnd u) s = .next t ∧ t.solve u = some v' ∧ v'.phases = v.phases + 1 ∧ v'.eps = v.nextEps ∧
      v'.status = (if v.nextEps = 1 then some 0 else none) ∧ v'.best = some (v'.eps, v'.assign, v'.prices) ∧ v'.score = v.score ∧
      (∀ j, j ≠ u → t.solve j = s.solve j) ∧
      t = { s with regs := t.regs, auction := { s.auction with solves := t.auction.solves } } ∧ fieldsKept s t [F.AUC_STATUS.BUSY] := by
  obtain ⟨r, hexec⟩ := exec_auctionPhaseEnd hu hv htaken hrun
  exact ⟨_, _, hexec, State.solve_setSolve_self (State.solvesWf_of_allWf hwf) u _, rfl, rfl, rfl, rfl, rfl,
    fun j hj => s.solve_setSolve_ne hj _, setSolve_keeps s u _, State.setSolve_kept (State.regsWf_of_allWf hwf) u _⟩

include hwf hu hv in
theorem solveLimitExpiry_spec (htaken : v.taken = true) (hrun : v.status = none) (hlimit : s.solveLimit ≤ s.time.tb3 - v.since) :
    ∃ t, exec (.solveLimitExpiry u) s = .next t ∧
      t.solve u = some { v with status := some (if v.best.isSome then 1 else 2), ended := s.time.tb3 } ∧
      (∀ j, j ≠ u → t.solve j = s.solve j) ∧
      t = { s with regs := t.regs, auction := { s.auction with solves := t.auction.solves } } ∧ fieldsKept s t [F.AUC_STATUS.BUSY] := by
  have hexec : exec (.solveLimitExpiry u) s =
      .next (s.setSolve u (some { v with status := some (if v.best.isSome then 1 else 2), ended := s.time.tb3 })) := by
    show execSolveLimitExpiry u s = _
    rw [execSolveLimitExpiry, show Instr.wf (.solveLimitExpiry u) = true from decide_eq_true hu, hv]
    refine congrArg Host.Outcome.next (if_pos ?_)
    rw [htaken, hrun, decide_eq_true hlimit]
    rfl
  exact ⟨_, hexec, State.solve_setSolve_self (State.solvesWf_of_allWf hwf) u _, fun j hj => s.solve_setSolve_ne hj _,
    setSolve_keeps s u _, State.setSolve_kept (State.regsWf_of_allWf hwf) u _⟩

include hu hv in
theorem exec_certificateCheck (hdue : v.due = true) (harmed : s.armed 9 u = false) (fault : Bool) :
    exec (.certificateCheck u fault) s = .next (certificateCheck u fault v s) := by
  show execCertificateCheck u fault s = _
  rw [execCertificateCheck, show Instr.wf (.certificateCheck u fault) = true from decide_eq_true hu, hv]
  exact congrArg Host.Outcome.next ((if_neg (by rw [hdue]; decide)).trans (if_neg (by rw [harmed]; decide)))

omit hwf hu hv in
theorem not_certified {fault : Bool} (h : v.certificate = false ∨ fault = true) : ¬ (v.certificate && !fault) = true := by
  rcases h with h | h <;> simp [h]

include hwf hu hv in
theorem certificate_holds (hdue : v.due = true) (harmed : s.armed 9 u = false) (hcert : v.certificate = true) :
    ∃ t, exec (.certificateCheck u false) s = .next t ∧ t.solve u = some { v with certified := true } ∧ t.mem = s.mem ∧
      (∀ j, j ≠ u → t.solve j = s.solve j) ∧ fieldsKept s t [F.AUC_STATUS.BUSY] := by
  refine ⟨_, exec_certificateCheck hu hv hdue harmed false, ?_⟩
  have hself := State.solve_setSolve_self (State.solvesWf_of_allWf hwf) u (some { v with certified := true })
  have hne := fun j (hj : j ≠ u) => s.solve_setSolve_ne hj (some { v with certified := true })
  have hkept := State.setSolve_kept (State.regsWf_of_allWf hwf) u (some { v with certified := true })
  unfold certificateCheck
  rw [if_pos (by rw [hcert]; rfl)]
  dsimp only
  have hmem : (s.setSolve u (some { v with certified := true })).mem = s.mem := rfl
  generalize s.setSolve u (some { v with certified := true }) = y at hself hne hkept hmem ⊢
  split
  · exact ⟨hself, hmem, hne, hkept⟩
  · exact ⟨hself, hmem, hne, hkept⟩

omit hwf hu hv in
theorem State.solveAgain_held (h : (s.setSolve u none).feedsHeld = true) (v : Solve) : s.solveAgain u v = { s.setSolve u none with
    auction := { (s.setSolve u none).auction with
      orphans := (s.setSolve u none).auction.orphans ++ [{ v.anew with repeated := true, firstUnit := some u }] } } := if_pos h

include hwf hu hv in
/-- A feed whose certificate fails waits for another unit. -/
theorem certificate_again (hdue : v.due = true) (harmed : s.armed 9 u = false) {fault : Bool}
    (hfail : v.certificate = false ∨ fault = true) (hfirst : v.repeated = false) (hheld : s.feedsHeld = true) :
    ∃ t, exec (.certificateCheck u fault) s = .next t ∧ t.solve u = none ∧
      t.auction.orphans = s.auction.orphans ++ [{ v.anew with repeated := true, firstUnit := some u }] ∧ t.mem = s.mem := by
  have hheld' : (s.setSolve u none).feedsHeld = true := by
    have hkept := State.setSolve_kept (State.regsWf_of_allWf hwf) u none
    rw [← hheld, State.feedsHeld, State.feedsHeld, State.bit, State.bit, hkept _ (apart_of_test (by decide)),
      hkept _ (apart_of_test (by decide))]
    rfl
  have hself := State.solve_setSolve_self (State.solvesWf_of_allWf hwf) u none
  refine ⟨_, exec_certificateCheck hu hv hdue harmed fault, ?_⟩
  unfold certificateCheck
  rw [if_neg (not_certified hfail), if_neg (by rw [hfirst]; decide)]
  rw [State.solveAgain_held hheld' v]
  have hframe := setSolve_keeps s u none
  generalize s.setSolve u none = y at hself hframe ⊢
  have horphans : y.auction.orphans = s.auction.orphans := by rw [hframe]
  exact ⟨hself, congrArg (· ++ _) horphans, by rw [hframe]⟩

include hwf hu hv in
/-- A second failure ends the solve with ERROR. -/
theorem certificate_error (hdue : v.due = true) (harmed : s.armed 9 u = false) {fault : Bool}
    (hfail : v.certificate = false ∨ fault = true) (hsecond : v.repeated = true) :
    ∃ t, exec (.certificateCheck u fault) s = .next t ∧ t.solve u = some { v with status := some 3, certified := true } ∧
      t.fget F.AUC_STATUS.CERT_FAIL = 1 ∧ t.mem = s.mem := by
  refine ⟨_, exec_certificateCheck hu hv hdue harmed fault, ?_⟩
  unfold certificateCheck
  rw [if_neg (not_certified hfail), if_pos hsecond]
  dsimp only
  have hself := State.solve_setSolve_self (State.solvesWf_of_allWf hwf) u (some { v with status := some 3, certified := true })
  have hform : wordsWf 0 (s.setSolve u (some { v with status := some 3, certified := true })).regs = true := by
    rw [State.setSolve_frame]
    exact s.fset_wf F.AUC_STATUS.BUSY _ (State.regsWf_of_allWf hwf)
  have hmem : (s.setSolve u (some { v with status := some 3, certified := true })).mem = s.mem := rfl
  generalize s.setSolve u (some { v with status := some 3, certified := true }) = y at hself hform hmem ⊢
  have hfail := y.fget_fset_self F.AUC_STATUS.CERT_FAIL 1 (by decide) hform
  have hlog := (State.Notes.refl (y.fset_wf F.AUC_STATUS.CERT_FAIL 1 hform) []).logEntry (by decide : 5 < 8) 8 .compute .auction 1 u 0
  have hsolves : (y.fset F.AUC_STATUS.CERT_FAIL 1).auction.solves = y.auction.solves := congrArg Auction.solves (y.fset_auction _ 1)
  exact ⟨(State.solve_of_auction ((congrArg Auction.solves hlog.auction).trans hsolves) u).trans hself,
    (hlog.fget (apart_of_test (by decide))).trans hfail, hlog.mem.trans hmem⟩

end

/-- Settles O36: a reservation, the matrix of a feed taken or its poisoned end or its wait in the queue, a phase, the limit, and the three
ends of a certificate check. -/
theorem auctionSolve : Obligations.AuctionSolve := by
  unfold Obligations.AuctionSolve
  refine ⟨fun s f u hwf hheld horphans hhead hunit => unitReserved_spec hheld horphans hhead hunit hwf,
    fun s u w sp f hwf hu hw hsp hf hbad hop hin => ⟨fun a v => aucFeed_taken hwf hu hw hsp hf hbad hop hin,
      fun a v => aucFeed_poisoned hwf hu hw hsp hf hbad hop hin, aucFeed_queued hu hw hsp hf hbad hop hin⟩,
    fun s u v hwf hu hv => ⟨auctionPhaseEnd_spec hwf hu hv, solveLimitExpiry_spec hwf hu hv, fun fault hdue harmed => ⟨?_, ?_, ?_⟩⟩⟩
  · rintro hcert rfl
    exact certificate_holds hwf hu hv hdue harmed hcert
  · exact certificate_again hwf hu hv hdue harmed
  · exact certificate_error hwf hu hv hdue harmed

end Sys2Proof.Machine
end

section
/-!
PROOFS. Asks for lock cycles (R80, R81, R86, R90, R93): the reading of the entries an ask needs, which leaves what refuses it, a new cycle,
a supersede before OPEN, and a refusal.
-/

namespace Sys2Proof.Machine

/-! ## What refuses an ask (R81) -/

/-- Two machines that refuse the same asks: with the same sequencer, ports, period and clock, and the same usable entries of the map. -/
structure State.SameAsks (s t : State) : Prop where
  lock : t.lock = s.lock
  fabric : t.fabric = s.fabric
  period : t.steer.period = s.steer.period
  time : t.time = s.time
  reloading : t.map.reloading = s.map.reloading
  usable : ∀ a b, t.pairUsable a b = s.pairUsable a b
  fields : ∀ f ∈ [F.TB_FLAGS.STATE0, F.TB_FLAGS.JUMP0, F.LOCK_EPOCH.EPOCH], t.fget f = s.fget f

namespace State.SameAsks

variable {s t : State} (h : s.SameAsks t)
include h

theorem planIndex (id : Nat) : t.planIndex id = s.planIndex id := by rw [State.planIndex, State.planIndex, h.lock]

theorem askedPlan (q : Ask) : t.askedPlan q = s.askedPlan q := by
  simp only [State.askedPlan, h.planIndex, State.plan, h.lock]

theorem namedCycle (q : Ask) : t.namedCycle q = s.namedCycle q := by rw [State.namedCycle, State.namedCycle, h.lock]

theorem standing : t.standing = s.standing := by rw [State.standing, State.standing, h.lock, h.fabric]

theorem askedChange (q : Ask) : t.askedChange q = s.askedChange q := by
  simp only [State.askedChange, State.standingAt, h.askedPlan, h.namedCycle, h.standing, h.lock]

theorem windowOf (c : Cycle) : t.windowOf c = s.windowOf c := by rw [State.windowOf, State.windowOf, h.period]

theorem tb0Locked : t.tb0Locked = s.tb0Locked := by
  simp only [State.tb0Locked, State.bit, h.fields F.TB_FLAGS.STATE0 (by simp), h.fields F.TB_FLAGS.JUMP0 (by simp), h.time]

theorem jointTime : t.jointTime = s.jointTime := by rw [State.jointTime, State.jointTime, h.tb0Locked, h.time]

theorem portCheck (l : List (Nat × Nat)) : t.portCheck l = s.portCheck l := by
  simp only [State.portCheck, State.portRefuses, State.port, h.fabric]

theorem busyCheck (l : List Nat) (but : Nat) : t.busyCheck l but = s.busyCheck l but := by rw [State.busyCheck, State.busyCheck, h.lock]

theorem overlapCheck (a b c : Nat) : t.overlapCheck a b c = s.overlapCheck a b c := by
  simp only [State.overlapCheck, h.windowOf, h.lock]

theorem refusalOf (q : Ask) : t.refusalOf q = s.refusalOf q := by
  have husable : ∀ l : List (Nat × Nat), l.any (fun p => !t.pairUsable p.1 p.2) = l.any (fun p => !s.pairUsable p.1 p.2) := fun l => by
    simp only [h.usable]
  unfold State.refusalOf
  rw [h.namedCycle, h.askedChange]
  obtain ⟨new, rel⟩ := s.askedChange q
  dsimp only
  rw [h.tb0Locked, h.jointTime, h.planIndex, h.portCheck, h.reloading, husable, h.busyCheck, h.period, h.overlapCheck, h.askedPlan, h.standing,
    h.fields F.LOCK_EPOCH.EPOCH (by simp), h.lock, h.time]

end State.SameAsks

theorem ite_lt_of_lt {c : Prop} [Decidable c] {a b n : Nat} (ha : a < n) (hb : b < n) : (if c then a else b) < n := by
  split
  · exact ha
  · exact hb

/-- Every reason that refuses an ask fits its field. -/
theorem State.refusalOf_lt (s : State) (q : Ask) : s.refusalOf q < 256 := by
  unfold State.refusalOf
  obtain ⟨new, rel⟩ := s.askedChange q
  dsimp only
  repeat' apply ite_lt_of_lt
  all_goals decide

/-! ## Entries read for an ask (R64) -/

theorem State.Notes.withWork {s t : State} {l : List Fld} (h : s.Notes t l) (m : Sparse MapEntry) : (s.withWork m).Notes (t.withWork m) l :=
  ⟨h.form, fun g hg => h.kept g hg, (congrArg (fun x : State => x.withWork m) h.rest :), h.link⟩

/-- A reading of the map changes its working copy, and is noted. -/
theorem State.mapRead_notes {s : State} (w : wordsWf 0 s.regs = true) (i : Nat) :
    (s.withWork (s.mapRead i).2.2.map.work).Notes (s.mapRead i).2.2 [F.MAP_STATUS.CHECK_ERR] := by
  have hnote : s.Notes (((s.sticky F.MAP_STATUS.CHECK_ERR none).logEntry 5 5 .data .memory 0 i 0).count 2 14 1) [F.MAP_STATUS.CHECK_ERR] :=
    (((State.Notes.refl w _).sticky (f := F.MAP_STATUS.CHECK_ERR) (by simp) (by decide) none).logEntry (by decide : 5 < 8) 5 .data .memory 0 i 0).count 2 14 1
  unfold State.mapRead
  dsimp only
  split
  · exact State.Notes.refl (s := s) w _
  · generalize ((s.sticky F.MAP_STATUS.CHECK_ERR none).logEntry 5 5 .data .memory 0 i).count 2 14 = u at hnote ⊢
    split
    · exact hnote.withWork _
    · have hmap : u.map = s.map := hnote.map
      show (s.withWork u.map.work).Notes u _
      rw [hmap]
      exact hnote

theorem State.readPairs_notes {s : State} (w : wordsWf 0 s.regs = true) (l : List (Nat × Nat)) :
    (s.withWork (s.readPairs l).map.work).Notes (s.readPairs l) [F.MAP_STATUS.CHECK_ERR] :=
  have hthen : ∀ t : State, (s.withWork t.map.work).Notes t [F.MAP_STATUS.CHECK_ERR] → ∀ i,
      (s.withWork (t.mapRead i).2.2.map.work).Notes (t.mapRead i).2.2 [F.MAP_STATUS.CHECK_ERR] := fun t ht i =>
    (show (s.withWork (t.mapRead i).2.2.map.work).Notes (t.withWork (t.mapRead i).2.2.map.work) _ from ht.withWork _).trans
      (State.mapRead_notes ht.form i)
  List.foldlRecOn (motive := fun u : State => (s.withWork u.map.work).Notes u [F.MAP_STATUS.CHECK_ERR]) l _ (State.Notes.refl (s := s) w _)
    fun u hu p _ => by
      have h1 := hthen u hu (u.pairIndex 0 p.1 p.2)
      exact hthen _ h1 (u.pairIndex 1 p.1 p.2)

/-- The machine once the entries that an ask needs are read. -/
def State.readAsk (s : State) (q : Ask) : State := if (s.planIndex q.planId).isSome then s.readPairs (s.askedChange q).1 else s

theorem State.readAsk_notes {s : State} (w : wordsWf 0 s.regs = true) (q : Ask) :
    (s.withWork (s.readAsk q).map.work).Notes (s.readAsk q) [F.MAP_STATUS.CHECK_ERR] := by
  unfold State.readAsk
  split
  · exact State.readPairs_notes w _
  · exact State.Notes.refl (s := s) w _

theorem State.readAsk_sameAsks {s : State} (w : wordsWf 0 s.regs = true) (wM : spWf 0 0 s.map.work = true) (q : Ask) : s.SameAsks (s.readAsk q) := by
  have h := State.readAsk_notes w q
  have husable : ∀ a b, (s.readAsk q).pairUsable a b = s.pairUsable a b := fun a b => by
    unfold State.readAsk
    split
    · exact (State.readPairs_reads w wM _).pairUsable a b
    · rfl
  generalize s.readAsk q = t at h husable ⊢
  exact ⟨h.lock, h.fabric, congrArg Steer.period h.steer, h.time, congrArg (fun m => m.reloading) h.map, husable, fun f hf => h.fget (by
    have hap : ∀ g ∈ [F.TB_FLAGS.STATE0, F.TB_FLAGS.JUMP0, F.LOCK_EPOCH.EPOCH], ∀ x ∈ readFields, x.off ≠ g.off := by decide
    exact fun x hx => .inl (hap f hf x hx))⟩

theorem State.SameAsks.taking (s : State) (src : Src) : s.SameAsks (s.taking src) := ⟨rfl, rfl, rfl, rfl, rfl, fun _ _ => rfl, fun _ _ => rfl⟩

theorem State.SameAsks.trans {s t u : State} (h : s.SameAsks t) (k : t.SameAsks u) : s.SameAsks u :=
  ⟨k.lock.trans h.lock, k.fabric.trans h.fabric, k.period.trans h.period, k.time.trans h.time, k.reloading.trans h.reloading,
    fun a b => (k.usable a b).trans (h.usable a b), fun f hf => (k.fields f hf).trans (h.fields f hf)⟩

/-- A module that has taken an ask and read what it needs. -/
structure State.TakesAsk (s t : State) (src : Src) : Prop where
  form : wordsWf 0 t.regs = true
  same : s.SameAsks t
  steer : t.steer = s.steer
  mem : t.mem = s.mem
  tows : t.tows = s.tows
  enOld : t.pair.enOld = s.pair.enOld
  open_ : s.Open t src
  shown : ∀ f ∈ [F.PAIR_STATUS.STATE, F.PAIR_STATUS.PARTNER, F.PAIR_CFG.EN], t.fget f = s.fget f

theorem State.takesAsk {s : State} (hwf : s.allWf = true) (src : Src) (q : Ask) : s.TakesAsk ((s.taking src).readAsk q) src := by
  have w : wordsWf 0 (s.taking src).regs = true := State.regsWf_of_allWf (s := s) hwf
  have hsame := State.readAsk_sameAsks w (State.mapWf_of_allWf (s := s) hwf) q
  have h := State.readAsk_notes w q
  generalize (s.taking src).readAsk q = t at hsame h ⊢
  have hkept : ∀ f ∈ [F.PAIR_STATUS.STATE, F.PAIR_STATUS.PARTNER, F.PAIR_CFG.EN, F.AUC_CTRL.POLICY_SPACE], t.fget f = s.fget f :=
    fun f hf => h.fget (by
      have hap : ∀ g ∈ [F.PAIR_STATUS.STATE, F.PAIR_STATUS.PARTNER, F.PAIR_CFG.EN, F.AUC_CTRL.POLICY_SPACE],
        ∀ x ∈ readFields, x.off ≠ g.off := by decide
      exact fun x hx => .inl (hap f hf x hx))
  have htows := h.tows
  exact ⟨h.form, (State.SameAsks.taking s src).trans hsame, h.steer, h.mem, htows, congrArg Pair.enOld h.pair,
    ⟨h.queues, h.flrDiscard, State.cqOf_congr src h.queues (by rw [htows]; rfl) (hkept _ (by simp))⟩,
    fun f hf => hkept f (by simp only [List.mem_cons, List.not_mem_nil, or_false] at hf ⊢; tauto)⟩

section
variable {s t : State} {src : Src} (h : s.TakesAsk t src)
include h

theorem State.TakesAsk.active (hact : s.active = true) : t.active = true := by
  rw [State.active, h.shown F.PAIR_STATUS.STATE (by simp)]
  exact hact

theorem State.TakesAsk.attached : t.attached = s.attached :=
  State.attached_congr (h.shown _ (by simp)) (h.shown _ (by simp)) h.enOld

end

/-- T_OPEN of an ask as a lead. -/
def State.leadOf (s : State) (q : Ask) : Nat := (q.tOpen + 2 ^ 64 - s.time.tb0.ns) % 2 ^ 64

section
variable {s : State} (hwf : s.allWf = true) (src : Src) (op : Nat) (q : Ask)
include hwf

theorem ask_refused (hr : s.refusalOf q ≠ 0) :
    (s.taking src).ask op src q = ((s.taking src).readAsk q).refusedAsk op src q (s.refusalOf q) := by
  have h := (State.takesAsk hwf src q).same.refusalOf q
  unfold State.ask
  rw [← State.readAsk]
  dsimp only
  rw [h, if_pos hr]

theorem ask_new (hr : s.refusalOf q = 0) (hnamed : s.namedCycle q = none) :
    (s.taking src).ask op src q = ((s.taking src).readAsk q).newCycle op src q (s.leadOf q) := by
  have h := (State.takesAsk hwf src q).same
  unfold State.ask
  rw [← State.readAsk]
  dsimp only
  rw [h.refusalOf, if_neg (not_not_intro hr), h.namedCycle, hnamed, h.time]
  rfl

theorem ask_supersedes (hr : s.refusalOf q = 0) {c : Cycle} (hnamed : s.namedCycle q = some c) (hopen : c.opened = none) :
    (s.taking src).ask op src q = ((s.taking src).readAsk q).superseded op src q c (s.leadOf q) := by
  have h := (State.takesAsk hwf src q).same
  unfold State.ask
  rw [← State.readAsk]
  dsimp only
  rw [h.refusalOf, if_neg (not_not_intro hr), h.namedCycle, hnamed, h.time]
  dsimp only
  rw [if_neg (by rw [hopen]; decide)]
  rfl

end

/-! ## A refusal (R81, R89) -/

/-- LOCK_LAST shows a refusal. -/
theorem State.showRefused_spec {s : State} (w : wordsWf 0 s.regs = true) {reason : Nat} (hr : reason < 256) :
    s.Writes (((s.fset F.LOCK_LAST.OUTCOME 4).fset F.LOCK_LAST.REASON reason).fset F.LOCK_LAST.FAILED 0) outcomeFields ∧
      (((s.fset F.LOCK_LAST.OUTCOME 4).fset F.LOCK_LAST.REASON reason).fset F.LOCK_LAST.FAILED 0).fget F.LOCK_LAST.OUTCOME = 4 ∧
      (((s.fset F.LOCK_LAST.OUTCOME 4).fset F.LOCK_LAST.REASON reason).fset F.LOCK_LAST.FAILED 0).fget F.LOCK_LAST.REASON = reason := by
  have w1 := s.fset_wf F.LOCK_LAST.OUTCOME 4 w
  have w2 := State.fset_wf _ F.LOCK_LAST.REASON reason w1
  refine ⟨(((State.Writes.refl w outcomeFields).fset (by simp [outcomeFields]) (by decide) 4).fset (by simp [outcomeFields])
      (by decide) reason).fset (by simp [outcomeFields]) (by decide) 0, ?_, ?_⟩
  · rw [State.fget_fset_apart _ _ _ _ (by decide) w2 (Fld.apart_of_test (by decide)),
      State.fget_fset_apart _ _ _ _ (by decide) w1 (Fld.apart_of_test (by decide)), State.fget_fset_self _ _ _ (by decide) w]
    rfl
  · rw [State.fget_fset_apart _ _ _ _ (by decide) w2 (Fld.apart_of_test (by decide)), State.fget_fset_self _ _ _ (by decide) w1]
    exact Nat.mod_eq_of_lt hr

theorem State.refusedAsk_eq (s : State) (op : Nat) (src : Src) {q : Ask} (hjoint : q.joint = false) (reason : Nat) : s.refusedAsk op src q reason =
    ((((s.fset F.LOCK_LAST.OUTCOME 4).fset F.LOCK_LAST.REASON reason).fset F.LOCK_LAST.FAILED 0).count 2 5).complete op src .refused reason :=
  congrArg (fun x : State => x.complete op src .refused reason) (if_neg (by rw [hjoint]; decide))

theorem refused_spec {s : State} {src : Src} (hwf : s.allWf = true) (hacc : s.accepts 0x22 src) (q : Ask) (hjoint : q.joint = false)
    (hr : s.refusalOf q ≠ 0) :
    ((s.taking src).ask 0x22 src q).fget F.LOCK_LAST.OUTCOME = 4 ∧
      ((s.taking src).ask 0x22 src q).fget F.LOCK_LAST.REASON = s.refusalOf q ∧
      answered s ((s.taking src).ask 0x22 src q) 0x22 src .refused (s.refusalOf q) 0 [] [] ∧
      ((s.taking src).ask 0x22 src q).lock = s.lock ∧ ((s.taking src).ask 0x22 src q).steer = s.steer ∧
      ((s.taking src).ask 0x22 src q).mem = s.mem := by
  have htakes := State.takesAsk hwf src q
  rw [ask_refused hwf src 0x22 q hr]
  generalize (s.taking src).readAsk q = v at htakes ⊢
  have hlt := s.refusalOf_lt q
  generalize s.refusalOf q = reason at hlt ⊢
  obtain ⟨hwrites, hout, hreason⟩ := State.showRefused_spec htakes.form hlt
  rw [State.refusedAsk_eq v 0x22 src hjoint reason]
  generalize ((v.fset F.LOCK_LAST.OUTCOME 4).fset F.LOCK_LAST.REASON reason).fset F.LOCK_LAST.FAILED 0 = u at hwrites hout hreason ⊢
  have hframe := hwrites.frame
  have hcount : (u.count 2 5).lock = v.lock ∧ (u.count 2 5).steer = v.steer ∧ (u.count 2 5).mem = v.mem := by
    rw [State.count_lock, State.count_steer, State.count_mem, hframe]
    exact ⟨rfl, rfl, rfl⟩
  have hlink : (u.count 2 5).link = v.link := by rw [State.count_link, hframe]
  have htows : (u.count 2 5).tows = v.tows := by rw [State.count_tows, hframe]
  have hregs : (u.count 2 5).regs = u.regs := State.count_regs ..
  generalize u.count 2 5 = y at hcount hlink htows hregs ⊢
  have hpolicy : y.fget F.AUC_CTRL.POLICY_SPACE = v.fget F.AUC_CTRL.POLICY_SPACE :=
    (State.fget_of_regs hregs _).trans (hwrites.fget (apart_of_test (by decide)))
  have hopen : s.Open y src := htakes.open_.trans ⟨congrArg Link.queues hlink, congrArg Link.flrDiscard hlink,
    State.cqOf_congr src (congrArg Link.queues hlink) (congrArg TowSys.spaces htows) hpolicy⟩
  have hrep := hacc.completion_reports hwf hopen (by rw [hregs]; exact hwrites.form) 0x22 .refused reason 0 [] [] []
  have hans := hacc.completed hwf hopen 0x22 .refused reason 0 [] []
  refine ⟨?_, ?_, hans, ?_, ?_, ?_⟩
  · rw [reports_fieldsKept hrep _ (apart_of_test (by decide)), State.fget_of_regs hregs, hout]
  · rw [reports_fieldsKept hrep _ (apart_of_test (by decide)), State.fget_of_regs hregs, hreason]
  · rw [State.complete_lock, hcount.1, htakes.same.lock]
  · rw [State.complete_steer, hcount.2.1, htakes.steer]
  · rw [State.complete_mem, hcount.2.2, htakes.mem]

/-! ## An accepted ask (R80, R85, R90, R93) -/

/-- t is s after steps of the sequencer that leave the axes, the memories and the standing paths, and the state of the pair's wiring. -/
structure State.Sequences (s t : State) : Prop where
  form : wordsWf 0 t.regs = true
  steer : t.steer = s.steer
  mem : t.mem = s.mem
  paths : t.lock.paths = s.lock.paths
  lastId : t.lock.lastId = s.lock.lastId
  enOld : t.pair.enOld = s.pair.enOld

namespace State.Sequences

variable {s t u : State}

theorem refl (w : wordsWf 0 s.regs = true) : s.Sequences s := ⟨w, rfl, rfl, rfl, rfl, rfl⟩

theorem trans (h : s.Sequences t) (k : t.Sequences u) : s.Sequences u :=
  ⟨k.form, k.steer.trans h.steer, k.mem.trans h.mem, k.paths.trans h.paths, k.lastId.trans h.lastId, k.enOld.trans h.enOld⟩

end State.Sequences

section
variable (s : State) (op : Nat) (src : Src) (c : Cycle) (lead type : Nat)

/-- An ask's way into the journal. -/
def State.journalAsk : State :=
  (s.sendJournal (.schedule c.id c.rev c.planId c.tOpen c.single c.lateProof c.joint c.jointId c.epoch)).sendJournal
    (.counters s.lock.lastId s.lock.lastPlan)

/-- The notice of an accepted ask. -/
def State.askNotice : Notice := (s.journalAsk c).noticeOf c type 0xFF 0 (s.journalAsk c).time.tb0.fine c.mirrors

/-- An accepted ask with its notice, before its completion. -/
def State.announce : State := ((s.journalAsk c).sendNotice (s.askNotice c type)).recordBoot

theorem State.accepted_eq : s.accepted op src c lead type =
    (s.announce c type).completeCopied op src 0 (le 4 c.id ++ le 4 c.rev ++ le 8 lead) := by
  unfold State.accepted State.announce State.askNotice State.journalAsk
  dsimp only
  rw [State.sendJournal_lock]

theorem State.journalAsk_frame : s.journalAsk c = { s with pair := (s.journalAsk c).pair, out := (s.journalAsk c).out
                                                           counters := (s.journalAsk c).counters } := by
  have hone : ∀ (x : State) (it : JItem), x.sendJournal it = { x with pair := (x.sendJournal it).pair, out := (x.sendJournal it).out
                                                                      counters := (x.sendJournal it).counters } := fun x it => by
    unfold State.sendJournal
    split <;> rfl
  unfold State.journalAsk
  have h1 := hone s (.schedule c.id c.rev c.planId c.tOpen c.single c.lateProof c.joint c.jointId c.epoch)
  generalize s.sendJournal (.schedule c.id c.rev c.planId c.tOpen c.single c.lateProof c.joint c.jointId c.epoch) = x at h1 ⊢
  have h2 := hone x (.counters s.lock.lastId s.lock.lastPlan)
  generalize x.sendJournal (.counters s.lock.lastId s.lock.lastPlan) = y at h2 ⊢
  rw [h2, h1]

theorem State.announce_frame : s.announce c type = { s with
    lock := { s.lock with seq := (s.announce c type).lock.seq, repeats := (s.announce c type).lock.repeats }
    pair := (s.announce c type).pair, boot := (s.announce c type).boot
    out := (s.announce c type).out, counters := (s.announce c type).counters } := by
  unfold State.announce
  have h1 := s.journalAsk_frame c
  generalize s.askNotice c type = n
  generalize s.journalAsk c = x at h1 ⊢
  have h2 := x.sendNotice_frame n
  generalize x.sendNotice n = y at h2 ⊢
  rw [h2, h1]
  rfl

theorem State.announce_repeats (hact : s.active = true) :
    (s.announce c type).lock.repeats = s.lock.repeats ++ [(s.askNotice c type, 1)] := by
  have h1 := s.journalAsk_frame c
  have hact' : (s.journalAsk c).active = true := by
    rw [State.active_of_regs (s := s) (by rw [h1])]
    exact hact
  have hsent := State.sendNotice_repeats hact' (s.askNotice c type)
  have hlock : (s.journalAsk c).lock = s.lock := by rw [h1]
  rw [hlock] at hsent
  exact hsent

theorem State.askNotice_eq : (s.askNotice c type).type = type ∧ (s.askNotice c type).cycleId = c.id ∧
    (s.askNotice c type).seq = (s.lock.seq + 1) % 65536 := by
  have hlock : (s.journalAsk c).lock = s.lock := by rw [s.journalAsk_frame c]
  refine ⟨rfl, rfl, ?_⟩
  show ((s.journalAsk c).lock.seq + 1) % 65536 = _
  rw [hlock]

theorem State.announce_enOld : (s.announce c type).pair.enOld = s.pair.enOld := by
  show ((s.journalAsk c).sendNotice (s.askNotice c type)).pair.enOld = _
  rw [State.sendNotice_enOld, State.journalAsk, State.sendJournal_enOld, State.sendJournal_enOld]

theorem State.announce_sequences (w : wordsWf 0 s.regs = true) : s.Sequences (s.announce c type) := by
  have h := s.announce_frame c type
  have he := s.announce_enOld c type
  generalize s.announce c type = t at h he ⊢
  exact ⟨by rw [h]; exact w, by rw [h], by rw [h], by rw [h], by rw [h], he⟩

theorem State.completeCopied_sequences (w : wordsWf 0 s.regs = true) (result : List Byte) : s.Sequences (s.completeCopied op src 0 result) :=
  ⟨by rw [State.completeCopied_regs]; exact w, State.completeCopied_steer .., State.completeCopied_mem ..,
    congrArg Lock.paths (State.completeCopied_lock ..), congrArg Lock.lastId (State.completeCopied_lock ..), by
      unfold State.completeCopied
      split
      · rfl
      · rw [State.complete_pair]⟩

end

/-! ## A new cycle (R80, R93) -/

/-- The cycle that an ask makes. -/
def State.askedCycle (s : State) (q : Ask) : Cycle :=
  { id := nextId s.lock.lastId, planId := q.planId, tOpen := q.tOpen, paths := (s.askedChange q).1.map (fun p => { a := p.1, b := p.2 })
    released := (s.askedChange q).2, single := isSingle (s.askedChange q).1 (s.askedChange q).2, joint := q.joint, jointId := q.jointId
    epoch := q.epoch, lateProof := q.lateProof }

theorem map_paths_pairs (l : List (Nat × Nat)) : (l.map (fun p => ({ a := p.1, b := p.2 } : CPath))).map (fun p => (p.a, p.b)) = l := by
  rw [List.map_map]
  exact List.map_id l

theorem State.askedCycle_pairs (s : State) (q : Ask) : (s.askedCycle q).pairs = (s.askedChange q).1 := map_paths_pairs _

/-- The settle-model tow of a cycle (R72). -/
def State.settleTow (s : State) (id : Nat) : Tow :=
  { space := sequencerSpace, tag := id, cls := 0, addr := 0, count := 1, order := s.tows.submitted, settle := some id }

/-- A joint ask moves LOCK_EPOCH (R93). -/
def State.moveEpoch (s : State) (q : Ask) : State := if q.joint then (s.fset F.LOCK_EPOCH.EPOCH q.epoch).sendJournal (.epoch q.epoch) else s

/-- A cycle stands in the list, with its plan IN_USE and its settle-model tow submitted. -/
def State.enlist (s : State) (c : Cycle) : State :=
  (State.usePlan { s with lock := { s.lock with cycles := s.lock.cycles ++ [c], lastId := c.id } } c.planId).submitSettle c.id

theorem State.newCycle_eq (s : State) (op : Nat) (src : Src) (q : Ask) (lead : Nat) : s.newCycle op src q lead =
    ((((s.enlist (s.askedCycle q)).moveEpoch q).moveBerths).count 2 0).accepted op src (s.askedCycle q) lead 1 := rfl

theorem State.usePlan_frame (s : State) (id : Nat) : s.usePlan id = { s with
    lock := { s.lock with lib := (s.usePlan id).lock.lib }, pair := (s.usePlan id).pair, out := (s.usePlan id).out
    counters := (s.usePlan id).counters } := by
  unfold State.usePlan
  split
  · rw [State.putPlan_frame]
  · rfl

theorem State.usePlan_enOld (s : State) (id : Nat) : (s.usePlan id).pair.enOld = s.pair.enOld := by
  unfold State.usePlan
  split
  · rw [State.putPlan_enOld]
  · rfl

theorem State.usePlan_state {s : State} (w : spWf {} 0 s.lock.lib = true) {id i : Nat} (h : s.planIndex id = some i) :
    ((s.usePlan id).plan i).state = 2 := by
  unfold State.usePlan
  rw [h]
  exact congrArg PlanEntry.state (State.plan_putPlan_self w i _)

theorem State.enlist_spec (s : State) (c : Cycle) : (s.enlist c).lock = { s.lock with
      cycles := s.lock.cycles ++ [c], lastId := c.id, lib := (s.enlist c).lock.lib } ∧
    (s.enlist c).tows = { s.tows with tows := s.tows.tows ++ [s.settleTow c.id], submitted := s.tows.submitted + 1 } ∧
    (s.enlist c) = { s with lock := (s.enlist c).lock, tows := (s.enlist c).tows, pair := (s.enlist c).pair, out := (s.enlist c).out
                            counters := (s.enlist c).counters } ∧
    (s.enlist c).pair.enOld = s.pair.enOld := by
  unfold State.enlist
  generalize ha : ({ s with lock := { s.lock with cycles := s.lock.cycles ++ [c], lastId := c.id } } : State) = a
  have hframe := a.usePlan_frame c.planId
  have hold := a.usePlan_enOld c.planId
  generalize a.usePlan c.planId = b at hframe hold ⊢
  have htows : b.tows = s.tows := by rw [hframe, ← ha]
  refine ⟨?_, ?_, ?_, ?_⟩
  · rw [show (b.submitSettle c.id).lock = b.lock from rfl, hframe, ← ha]
  · unfold State.submitSettle State.settleTow
    rw [htows]
  · unfold State.submitSettle
    rw [hframe, ← ha]
  · exact hold.trans (by rw [← ha])

theorem State.enlist_plan {s : State} (w : spWf {} 0 s.lock.lib = true) {c : Cycle} {i : Nat} (h : s.planIndex c.planId = some i) :
    ((s.enlist c).plan i).state = 2 :=
  State.usePlan_state (s := { s with lock := { s.lock with cycles := s.lock.cycles ++ [c], lastId := c.id } }) w h

theorem State.moveEpoch_spec {s : State} (w : wordsWf 0 s.regs = true) (q : Ask) : (s.moveEpoch q) = { s with
      regs := (s.moveEpoch q).regs, pair := (s.moveEpoch q).pair, out := (s.moveEpoch q).out, counters := (s.moveEpoch q).counters } ∧
    (s.moveEpoch q).pair.enOld = s.pair.enOld ∧ wordsWf 0 (s.moveEpoch q).regs = true ∧ fieldsKept s (s.moveEpoch q) [F.LOCK_EPOCH.EPOCH] ∧
    (q.joint = true → (s.moveEpoch q).fget F.LOCK_EPOCH.EPOCH = q.epoch % 2 ^ F.LOCK_EPOCH.EPOCH.width) := by
  unfold State.moveEpoch
  split
  · have hself := s.fget_fset_self F.LOCK_EPOCH.EPOCH q.epoch (by decide) w
    have hwrites := (State.Writes.refl w [F.LOCK_EPOCH.EPOCH]).fset (f := F.LOCK_EPOCH.EPOCH) (by simp) (by decide) q.epoch
    generalize s.fset F.LOCK_EPOCH.EPOCH q.epoch = x at hself hwrites ⊢
    have hframe : x.sendJournal (.epoch q.epoch) = { x with
        pair := (x.sendJournal (.epoch q.epoch)).pair
        out := (x.sendJournal (.epoch q.epoch)).out, counters := (x.sendJournal (.epoch q.epoch)).counters } := by
      unfold State.sendJournal
      split <;> rfl
    have hold : (x.sendJournal (.epoch q.epoch)).pair.enOld = s.pair.enOld := by rw [State.sendJournal_enOld, hwrites.frame]
    generalize x.sendJournal (.epoch q.epoch) = y at hframe hold ⊢
    have hregs : y.regs = x.regs := by rw [hframe]
    refine ⟨?_, hold, by rw [hregs]; exact hwrites.form, fun g hg => (State.fget_of_regs hregs g).trans (hwrites.kept g hg),
      fun _ => (State.fget_of_regs hregs _).trans hself⟩
    have hx := hwrites.frame
    generalize x.regs = rs at hx hregs
    rw [hframe, hx]
  next h => exact ⟨rfl, rfl, w, fun _ _ => rfl, fun hj => absurd hj h⟩

/-- Where a berth cycle that waits moves to (R247). -/
def State.berthMoved (s : State) (c : Cycle) : Cycle :=
  if c.id = 0 then (if c.berth && c.opened.isNone then { c with tOpen := nextGap s.windows (s.windowOf c) 16 c.tOpen } else c) else c

theorem State.moveBerths_eq (s : State) : s.moveBerths = { s with lock := { s.lock with cycles := s.lock.cycles.map s.berthMoved } } := rfl

theorem State.berthMoved_lock (s : State) {c : Cycle} (h : c.berth = false) : s.berthMoved c = c := by
  unfold State.berthMoved
  simp [h]

/-- A cycle of the sequencer stays in its list when berth cycles move. -/
theorem State.mem_moveBerths {s : State} {c : Cycle} (h : c ∈ s.lock.cycles) (hb : c.berth = false) : c ∈ s.moveBerths.lock.cycles :=
  List.mem_map.mpr ⟨c, h, s.berthMoved_lock hb⟩

section
variable {s v : State} {src : Src} (hwf : s.allWf = true) (h : s.TakesAsk v src) (q : Ask)

/-- A machine that has made the cycle of an ask, before the ask is announced. -/
def State.made (s : State) (q : Ask) : State := ((s.enlist (s.askedCycle q)).moveEpoch q).moveBerths.count 2 0

include h in
/-- What the making of a cycle leaves. -/
theorem State.TakesAsk.made_spec : (v.made q).steer = s.steer ∧ (v.made q).mem = s.mem ∧ (v.made q).lock.paths = s.lock.paths ∧
    (v.made q).lock.lastId = nextId s.lock.lastId ∧ (v.made q).lock.seq = s.lock.seq ∧ (v.made q).lock.repeats = s.lock.repeats ∧
    (v.made q).tows.tows = s.tows.tows ++ [v.settleTow (nextId s.lock.lastId)] ∧ (v.made q).pair.enOld = s.pair.enOld ∧
    wordsWf 0 (v.made q).regs = true ∧ fieldsKept v (v.made q) [F.LOCK_EPOCH.EPOCH] ∧ s.Open (v.made q) src ∧
    (∀ c ∈ s.lock.cycles ++ [v.askedCycle q], c.berth = false → c ∈ (v.made q).lock.cycles) ∧
    (q.joint = true → (v.made q).fget F.LOCK_EPOCH.EPOCH = q.epoch % 2 ^ F.LOCK_EPOCH.EPOCH.width) ∧
    (v.made q).lock.lib = (v.enlist (v.askedCycle q)).lock.lib := by
  have hid : (v.askedCycle q).id = nextId s.lock.lastId := congrArg (fun l : Lock => nextId l.lastId) h.same.lock
  unfold State.made
  obtain ⟨hlock, htows, hframe, hold⟩ := v.enlist_spec (v.askedCycle q)
  rw [hid] at hlock htows
  rw [h.same.lock] at hlock
  generalize v.enlist (v.askedCycle q) = e at hlock htows hframe hold ⊢
  have hregs : e.regs = v.regs := by rw [hframe]
  have hlink : e.link = v.link := by rw [hframe]
  have hsteer : e.steer = s.steer := by rw [hframe, ← h.steer]
  have hmem : e.mem = s.mem := by rw [hframe, ← h.mem]
  obtain ⟨hmove, hold2, hform, hkept, hepoch⟩ := State.moveEpoch_spec (s := e) (by rw [hregs]; exact h.form) q
  generalize e.moveEpoch q = m at hmove hold2 hform hkept hepoch ⊢
  have hmlock : m.lock = e.lock := by rw [hmove]
  have hmtows : m.tows = e.tows := by rw [hmove]
  have hmlink : m.link = v.link := by rw [hmove, ← hlink]
  have hmsteer : m.steer = s.steer := by rw [hmove, ← hsteer]
  have hmmem : m.mem = s.mem := by rw [hmove, ← hmem]
  have hfields : fieldsKept v m [F.LOCK_EPOCH.EPOCH] := fun g hg => (hkept g hg).trans (State.fget_of_regs hregs g)
  have hcycles : ∀ c ∈ s.lock.cycles ++ [v.askedCycle q], c.berth = false → c ∈ m.moveBerths.lock.cycles := fun c hc hb =>
    State.mem_moveBerths (by rw [hmlock, hlock]; exact hc) hb
  refine ⟨hmsteer, hmmem, ?_, ?_, ?_, ?_, ?_, hold2.trans (hold.trans h.enOld), hform, hfields, h.open_.trans ⟨?_, ?_, ?_⟩, hcycles, hepoch, ?_⟩
  · show m.lock.paths = _
    rw [hmlock, hlock]
  · show m.lock.lastId = _
    rw [hmlock, hlock]
  · show m.lock.seq = _
    rw [hmlock, hlock]
  · show m.lock.repeats = _
    rw [hmlock, hlock]
  · show m.tows.tows = _
    rw [hmtows, htows, h.tows]
  · show m.link.queues = _
    rw [hmlink]
  · show m.link.flrDiscard = _
    rw [hmlink]
  · refine State.cqOf_congr (t := m) src (by rw [hmlink]) (by rw [hmtows, htows]) (hfields _ (apart_of_test (by decide)))
  · show m.lock.lib = _
    rw [hmlock]

end

/-- What an accepted ask that makes a cycle comes to. -/
theorem State.TakesAsk.newCycle_spec {s v : State} {src : Src} (h : s.TakesAsk v src) (hact : s.active = true) (op : Nat) (q : Ask) (lead : Nat) :
    let t := v.newCycle op src q lead
    let c := v.askedCycle q
    let n := (v.made q).askNotice c 1
    t.lock.lastId = c.id ∧ (∀ d ∈ s.lock.cycles ++ [c], d.berth = false → d ∈ t.lock.cycles) ∧
      t.lock.lib = (v.enlist c).lock.lib ∧ t.lock.repeats = s.lock.repeats ++ [(n, 1)] ∧ n.type = 1 ∧ n.cycleId = c.id ∧
      n.seq = (s.lock.seq + 1) % 65536 ∧ t.tows.tows = s.tows.tows ++ [v.settleTow c.id] ∧ t.steer = s.steer ∧ t.mem = s.mem ∧
      t.lock.paths = s.lock.paths ∧
      (q.joint = true → t.fget F.LOCK_EPOCH.EPOCH = q.epoch % 2 ^ F.LOCK_EPOCH.EPOCH.width) ∧
      (s.attached = false → ∃ y : State, s.Open y src ∧ t = y.complete op src .done 0 0 (le 4 c.id ++ le 4 c.rev ++ le 8 lead)) := by
  intro t c n
  have hid : c.id = nextId s.lock.lastId := congrArg (fun l : Lock => nextId l.lastId) h.same.lock
  obtain ⟨hsteer, hmem, hpaths, hlast, hseq, hrepeats, htows, hold, hform, hkept, hopen, hcycles, hepoch, hlib⟩ := h.made_spec q
  have ht : t = ((v.made q).announce c 1).completeCopied op src 0 (le 4 c.id ++ le 4 c.rev ++ le 8 lead) :=
    (v.newCycle_eq op src q lead).trans ((v.made q).accepted_eq op src c lead 1)
  clear_value t
  obtain ⟨htype, hcycle, hnseq⟩ := (v.made q).askNotice_eq c 1
  have hmact : (v.made q).active = true := by
    rw [State.active, hkept _ (apart_of_test (by decide))]
    exact h.active hact
  have hmatt : (v.made q).attached = s.attached := (State.attached_congr (hkept _ (apart_of_test (by decide)))
    (hkept _ (apart_of_test (by decide))) (hold.trans h.enOld.symm)).trans h.attached
  have hrep := (v.made q).announce_repeats c 1 hmact
  have hframe := (v.made q).announce_frame c 1
  have haold := (v.made q).announce_enOld c 1
  change (v.made q).announce c 1 = _ at hframe
  generalize hn : (v.made q).askNotice c 1 = n' at htype hcycle hnseq hrep
  rw [show n = n' from hn]
  generalize (v.made q).announce c 1 = a at ht hrep hframe haold
  generalize v.made q = m at hsteer hmem hpaths hlast hseq hrepeats htows hform hkept hopen hcycles hepoch hlib htype hcycle hnseq hmatt hrep hframe haold
  have hregs : a.regs = m.regs := by rw [hframe]
  have hatt : a.attached = s.attached := (State.attached_of_keeps hregs haold).trans hmatt
  have htlock : t.lock = a.lock := by rw [ht, State.completeCopied_lock]
  refine ⟨?_, ?_, ?_, ?_, htype, hcycle, hnseq.trans (by rw [hseq]), ?_, ?_, ?_, ?_, ?_, fun hoff => ⟨a, hopen.trans ?_, ?_⟩⟩
  · rw [htlock, hframe]
    exact hlast.trans hid.symm
  · rw [htlock, hframe]
    exact hcycles
  · rw [htlock, hframe]
    exact hlib
  · rw [htlock, hrep, hrepeats]
  · rw [ht, State.completeCopied_tows, hframe, hid]
    exact htows
  · rw [ht, State.completeCopied_steer, hframe]
    exact hsteer
  · rw [ht, State.completeCopied_mem, hframe]
    exact hmem
  · rw [htlock, hframe]
    exact hpaths
  · intro hj
    rw [State.fget_of_regs (s := m) (t := t) (by rw [ht, State.completeCopied_regs, hregs])]
    exact hepoch hj
  · exact State.Open.of_keeps src (by rw [hframe]) (by rw [hframe]) hregs
  · rw [ht]
    exact State.completeCopied_eq (hatt.trans hoff) ..

theorem exec_lockSchedule {s : State} {src : Src} (hacc : s.accepts 0x22 src) (plan : Nat) (super late : Bool) (superId : Nat) (at_ : TimeField) :
    exec (.lockSchedule src plan super late superId at_) s = .next ((s.taking src).ask 0x22 src
      { planId := plan, tOpen := s.openOf src at_, supersede := super, superId := superId, lateProof := late }) :=
  congrArg Host.Outcome.next (State.handle_accepted hacc _)

theorem exec_lockJoint {s : State} {src : Src} (hacc : s.accepts 0x24 src) (plan : Nat) (late : Bool) (joint epoch : Nat) (at_ : TimeField)
    (hash : Nat) : exec (.lockJoint src plan late joint epoch at_ hash) s = .next ((s.taking src).ask 0x24 src
      { planId := plan, tOpen := (at_.sec * 10 ^ 9 + at_.ns) % 2 ^ 64, lateProof := late, joint := true, jointId := joint, epoch := epoch,
        hash := hash }) :=
  congrArg Host.Outcome.next (State.handle_accepted hacc _)

/-- A new ask names no cycle. -/
theorem State.namedCycle_none (s : State) {q : Ask} (h : q.supersede = false) : s.namedCycle q = none := by
  rw [State.namedCycle, h]
  rfl

/-! ## A supersede before OPEN (R86) -/

/-- A cycle with a new plan and T_open, its trajectory to be computed again. -/
def State.replannedCycle (s : State) (q : Ask) (c : Cycle) : Cycle :=
  { c with
    planId := q.planId, tOpen := q.tOpen, rev := (c.rev + 1) % 65536, superseded := true, lateProof := q.lateProof
    paths := (s.askedChange q).1.map (fun p => { a := p.1, b := p.2 }), released := (s.askedChange q).2, lost := []
    single := isSingle (s.askedChange q).1 (s.askedChange q).2
    computed := false, armed := false, twoWaves := false, wave2Tick := 0, fallback := false, limited := false
    bins := none, waves := [], planEnd := 0, t3Open := 0 }

/-- Another cycle stands in the place of c, and its plan instead of c's. -/
def State.replace (s : State) (c d : Cycle) : State :=
  (((((s.dropBufs c.axes).dropSettle c.id).modCycle c.id (fun _ => d)).releasePlan c.planId).usePlan d.planId).submitSettle c.id

theorem State.superseded_eq (s : State) (op : Nat) (src : Src) (q : Ask) (c : Cycle) (lead : Nat) : s.superseded op src q c lead =
    ((s.replace c (s.replannedCycle q c)).moveBerths).accepted op src (s.replannedCycle q c) lead 2 := rfl

theorem State.replace_spec {s : State} (w : wordsWf 0 s.regs = true) {c : Cycle} (hc : c ∈ s.lock.cycles) (d : Cycle) :
    s.Sequences (s.replace c d) ∧ d ∈ (s.replace c d).lock.cycles := by
  unfold State.replace
  have hsettle := State.dropSettle_unsettled (s := s.dropBufs c.axes) w c.id
  generalize (s.dropBufs c.axes).dropSettle c.id = x at hsettle ⊢
  have hxlock : x.lock = (s.dropBufs c.axes).lock := by rw [hsettle.frame]
  have hx : s.Sequences x := ⟨hsettle.form, by rw [hsettle.frame]; rfl, by rw [hsettle.frame]; rfl, (congrArg Lock.paths hxlock :),
    (congrArg Lock.lastId hxlock :), by rw [hsettle.frame]; rfl⟩
  have hin : d ∈ (x.modCycle c.id (fun _ => d)).lock.cycles := List.mem_map.mpr ⟨c, by rw [hxlock]; exact hc, if_pos rfl⟩
  have hy : x.Sequences (x.modCycle c.id (fun _ => d)) := ⟨hsettle.form, rfl, rfl, rfl, rfl, rfl⟩
  generalize x.modCycle c.id (fun _ => d) = y at hin hy ⊢
  have hrelease := y.releasePlan_frame c.planId
  have hrold := y.releasePlan_enOld c.planId
  generalize y.releasePlan c.planId = r at hrelease hrold ⊢
  have huse := r.usePlan_frame d.planId
  have huold := r.usePlan_enOld d.planId
  generalize r.usePlan d.planId = z at huse huold ⊢
  have hzlock : z.lock.cycles = y.lock.cycles ∧ z.lock.paths = y.lock.paths ∧ z.lock.lastId = y.lock.lastId := by
    rw [huse, hrelease]
    exact ⟨rfl, rfl, rfl⟩
  have hz : y.Sequences z := ⟨by rw [huse, hrelease]; exact hy.form, by rw [huse, hrelease], by rw [huse, hrelease], hzlock.2.1, hzlock.2.2,
    huold.trans hrold⟩
  refine ⟨(hx.trans hy).trans (hz.trans ⟨hz.form, rfl, rfl, rfl, rfl, rfl⟩), ?_⟩
  show d ∈ z.lock.cycles
  rw [hzlock.1]
  exact hin

theorem superseded_spec {s : State} {src : Src} (hwf : s.allWf = true) (op : Nat) {q : Ask} (hr : s.refusalOf q = 0) {c : Cycle}
    (hnamed : s.namedCycle q = some c) (hopen : c.opened = none) :
    ∃ d ∈ ((s.taking src).ask op src q).lock.cycles, d.id = c.id ∧ d.rev = (c.rev + 1) % 65536 ∧ d.planId = q.planId ∧ d.tOpen = q.tOpen ∧
      d.superseded = true ∧ d.computed = false ∧ s.Sequences ((s.taking src).ask op src q) := by
  rw [ask_supersedes hwf src op q hr hnamed hopen, State.superseded_eq, State.accepted_eq]
  have h := State.takesAsk hwf src q
  generalize (s.taking src).readAsk q = v at h ⊢
  have hv : s.Sequences v := ⟨h.form, h.steer, h.mem, congrArg Lock.paths h.same.lock, congrArg Lock.lastId h.same.lock, h.enOld⟩
  obtain ⟨hc, hberth⟩ : c ∈ v.lock.cycles ∧ c.berth = false := by
    rw [h.same.lock]
    unfold State.namedCycle at hnamed
    split at hnamed
    · exact ⟨List.mem_of_find?_eq_some hnamed, by simpa using (Bool.and_eq_true _ _ ▸ List.find?_some hnamed :).2⟩
    · cases hnamed
  obtain ⟨hseq, hin⟩ := State.replace_spec h.form hc (v.replannedCycle q c)
  generalize hd : v.replannedCycle q c = d at hseq hin ⊢
  have hmoved := State.mem_moveBerths hin (by rw [← hd]; exact hberth)
  have hberths : (v.replace c d).Sequences (v.replace c d).moveBerths := ⟨hseq.form, rfl, rfl, rfl, rfl, rfl⟩
  generalize (v.replace c d).moveBerths = y at hmoved hberths ⊢
  have hannounce := y.announce_sequences d 2 hberths.form
  have hframe := y.announce_frame d 2
  generalize y.announce d 2 = a at hannounce hframe ⊢
  have hdone := a.completeCopied_sequences op src hannounce.form (le 4 d.id ++ le 4 d.rev ++ le 8 (s.leadOf q))
  refine ⟨d, ?_, by rw [← hd]; rfl, by rw [← hd]; rfl, by rw [← hd]; rfl, by rw [← hd]; rfl, by rw [← hd]; rfl, by rw [← hd]; rfl,
    hv.trans (hseq.trans (hberths.trans (hannounce.trans hdone)))⟩
  rw [State.completeCopied_lock, hframe]
  exact hmoved

/-- Settles O22: an ask that is not refused makes a cycle, or before OPEN gives the named cycle its new plan, and is announced; a refused
one shows its reason alone. -/
theorem lockAsks : Obligations.LockAsks := by
  unfold Obligations.LockAsks
  refine ⟨fun s src plan superId i late at_ hwf hacc => ?_, fun s src plan superId late at_ c hwf hacc => ?_,
    fun s src plan superId super late at_ hwf hacc => ?_, fun s src plan joint epoch hash late at_ hwf hacc => ?_⟩
  · intro q hr hplan
    have hask := ask_new hwf src 0x22 q hr (s.namedCycle_none rfl)
    have h := State.takesAsk hwf src q
    generalize (s.taking src).readAsk q = v at hask h
    have hid : (v.askedCycle q).id = nextId s.lock.lastId := congrArg (fun l : Lock => nextId l.lastId) h.same.lock
    have hchange := h.same.askedChange q
    have hnew := h.newCycle_spec (State.active_of_accepts hacc (by decide)) 0x22 q (s.leadOf q)
    have hexec := (exec_lockSchedule hacc plan false late superId at_).trans (congrArg Host.Outcome.next hask)
    dsimp only at hnew
    generalize v.newCycle 0x22 src q (s.leadOf q) = t at hnew hexec
    obtain ⟨hlast, hcycles, hlib, hrepeats, htype, hcycle, hseq, htows, hsteer, hmem, hpaths, -, hans⟩ := hnew
    refine ⟨t, v.askedCycle q, _, _, hexec, hlast.trans hid, hcycles _ (by simp) rfl, hid, rfl, rfl, rfl, rfl, ?_, ?_,
      fun d hd hb => hcycles d (List.mem_append_left _ hd) hb, ?_, hrepeats, htype, hcycle, hseq, htows, rfl, hsteer, hmem, hpaths, fun hoff => ?_⟩
    · rw [State.askedCycle_pairs, hchange]
    · exact congrArg Prod.snd hchange
    · rw [State.plan, hlib]
      exact State.enlist_plan (by rw [h.same.lock]; exact State.libWf_of_allWf hwf) ((h.same.planIndex plan).trans hplan)
    · obtain ⟨y, hopen, rfl⟩ := hans hoff
      exact hacc.completed hwf hopen ..
  · intro q hr hnamed hopen
    obtain ⟨d, hd, h1, h2, h3, h4, h5, h6, hseq⟩ := superseded_spec (src := src) hwf 0x22 hr hnamed hopen
    exact ⟨_, d, exec_lockSchedule hacc plan true late superId at_, hd, h1, h2, h3, h4, h5, h6, hseq.lastId, hseq.steer, hseq.mem, hseq.paths⟩
  · intro q hr
    exact ⟨_, exec_lockSchedule hacc plan super late superId at_, refused_spec hwf hacc q rfl hr⟩
  · intro q hr
    have hask := ask_new hwf src 0x24 q hr (s.namedCycle_none rfl)
    have h := State.takesAsk hwf src q
    generalize (s.taking src).readAsk q = v at hask h
    have hid : (v.askedCycle q).id = nextId s.lock.lastId := congrArg (fun l : Lock => nextId l.lastId) h.same.lock
    have hnew := h.newCycle_spec (State.active_of_accepts hacc (by decide)) 0x24 q (s.leadOf q)
    have hexec := (exec_lockJoint hacc plan late joint epoch at_ hash).trans (congrArg Host.Outcome.next hask)
    dsimp only at hnew
    generalize v.newCycle 0x24 src q (s.leadOf q) = t at hnew hexec
    obtain ⟨-, hcycles, -, -, -, -, -, -, hsteer, hmem, hpaths, hepoch, -⟩ := hnew
    exact ⟨t, v.askedCycle q, hexec, hcycles _ (by simp) rfl, hid, rfl, rfl, rfl, rfl, rfl, hepoch rfl, hsteer, hmem, hpaths⟩

end Sys2Proof.Machine
end

section
/-!
PROOFS. The sample tick and its frames (R29, R31, R45, R52, R181, R203): what the end of a tick, its boundary and its compute leave of the
machine's clockwork, said once for each operation.
-/

namespace Sys2Proof.Machine

/-! ## The clockwork of a tick -/

/-- The words that show the pair's state and the rung. -/
def clockWords : List Nat := [F.PAIR_STATUS.STATE.off, F.PWR_RUNG_STATE.RUNG.off]

theorem clockWords_low : ∀ o ∈ clockWords, o < 0x400000 := by decide

/-- Of a machine, the parts that no slot of a tick touches, with these register words. -/
def clockworkOf (ws : List (Nat × Word)) (s : State) : State :=
  { regs := ws, mem := s.mem, auction := s.auction, tows := s.tows, time := s.time, power := s.power
    pair := { copy := s.pair.copy, tickAt := s.pair.tickAt, parting := s.pair.parting }
    steer := { tick := s.steer.tick, period := s.steer.period, quads := s.steer.quads, undo := s.steer.undo, clearPend := s.steer.clearPend
               gangPend := s.steer.gangPend } }

/-- What the end of a tick and its compute leave alone: the pair's state and the rung, the memories and tows, the clocks, and what the
boundary set. -/
def State.clockwork (s : State) : State := clockworkOf (clockWords.map (fun o => (o, s.word o))) s

theorem State.clockwork_of_wipe {s t : State} (h : t.wipe = s.wipe) (hw : ∀ o ∈ clockWords, t.word o = s.word o) : t.clockwork = s.clockwork :=
  have hwords : clockWords.map (fun o => (o, t.word o)) = clockWords.map (fun o => (o, s.word o)) :=
    List.map_congr_left fun o ho => by rw [hw o ho]
  (congrArg₂ clockworkOf hwords h :)

theorem State.word_of_regs {s t : State} (h : t.regs = s.regs) (off : Nat) : t.word off = s.word off := by rw [State.word, State.word, h]

@[simp] theorem foldl_clockwork {α : Type} (f : State → α → State) (l : List α) (s : State) (h : ∀ t a, (f t a).clockwork = t.clockwork) :
    (l.foldl f s).clockwork = s.clockwork := foldl_keeps State.clockwork f l h s

theorem State.fset_clockwork (s : State) {f : Fld} (h : ∀ o ∈ clockWords, o ≠ f.off) (v : Nat) : (s.fset f v).clockwork = s.clockwork :=
  State.clockwork_of_wipe (State.fset_wipe ..) fun o ho => State.word_setWord_ne _ _ _ _ (h o ho)

@[simp] theorem State.count_clockwork (s : State) (g i n : Nat) : (s.count g i n).clockwork = s.clockwork := rfl
@[simp] theorem State.emit_clockwork (s : State) (x : Sent) : (s.emit x).clockwork = s.clockwork := rfl
@[simp] theorem State.modAxis_clockwork (s : State) (a : Nat) (f : Axis → Axis) : (s.modAxis a f).clockwork = s.clockwork := rfl
@[simp] theorem State.setRelief_clockwork (s : State) (q : Option Relief) : (s.setRelief q).clockwork = s.clockwork := rfl
@[simp] theorem State.setClassK_clockwork (s : State) (r c k : Nat) : (s.setClassK r c k).clockwork = s.clockwork := rfl
@[simp] theorem State.dropBufs_clockwork (s : State) (l : List Nat) : (s.dropBufs l).clockwork = s.clockwork := rfl
@[simp] theorem State.push_clockwork (s : State) (q : Nat) (it : Item) : (s.push q it).clockwork = s.clockwork :=
  State.clockwork_of_wipe (State.push_wipe ..) fun _ _ => State.word_of_regs (by simp) _
@[simp] theorem State.sendJournal_clockwork (s : State) (it : JItem) : (s.sendJournal it).clockwork = s.clockwork := by
  unfold State.sendJournal; split <;> rfl

theorem State.sticky_clockwork (s : State) {f : Fld} (h : ∀ o ∈ clockWords, o ≠ f.off) (v : Option Nat) :
    (s.sticky f v).clockwork = s.clockwork := State.clockwork_of_wipe (State.sticky_wipe ..) fun o ho => State.word_sticky_ne _ (h o ho) _

theorem State.word_fset_ne (s : State) {f : Fld} {off : Nat} (h : off ≠ f.off) (v : Nat) : (s.fset f v).word off = s.word off :=
  State.word_setWord_ne _ _ _ _ h

theorem State.word_ite {c : Prop} [Decidable c] {t u : State} {off : Nat} {w : Word} (ht : t.word off = w) (hu : u.word off = w) :
    (if c then t else u).word off = w := by
  split
  · exact ht
  · exact hu

theorem State.word_overwritten (s : State) (e : Option Entry) {o : Nat} (ho : o ∈ clockWords) : (s.overwritten e).word o = s.word o := by
  cases e with
  | none => rfl
  | some v =>
    unfold State.overwritten
    dsimp only
    generalize hs : List.foldl (fun (s : State) i =>
        { s with log := { s.log with marks := spMod {} s.log.marks i (fun m => m.overtake v.index) } }) s _ = u
    have hregs : u.regs = s.regs := by rw [← hs]; refine foldl_keeps State.regs _ _ ?_ s; intro t k; rfl
    exact (State.word_fset_ne u (f := F.LOG_FLAGS.MARK_LOST) ((by decide : ∀ o ∈ clockWords, o ≠ F.LOG_FLAGS.MARK_LOST.off) o ho) _).trans (State.word_of_regs hregs _)

/-- A logbook entry writes no such word. -/
theorem State.word_logEntry (s : State) (sev source : Nat) (cls : Cls) (kind : Obj) (reason a0 a1 : Nat) {o : Nat}
    (ho : o ∈ clockWords) : (s.logEntry sev source cls kind reason a0 a1).word o = s.word o := by
  have hdrops : o ≠ (F.LOG_DROPS.DROPS sev).off := by
    have hlow := clockWords_low o ho
    simp only [F.LOG_DROPS.DROPS]
    omega
  have hoff : ∀ f ∈ logFields, o ≠ f.off := (by decide : ∀ o ∈ clockWords, ∀ f ∈ logFields, o ≠ f.off) o ho
  have hset : ∀ {u : State} {f : Fld} (v : Nat), o ≠ f.off → u.word o = s.word o → (u.fset f v).word o = s.word o :=
    fun v hf hu => (State.word_fset_ne _ hf v).trans hu
  unfold State.logEntry
  extract_lets e frozen up inBookTry rb inAnnex keelTry rk held log s1 s2 s3 s4 s5 s6 s7 s8 s9
  have h2 : s2.word o = s.word o := State.word_overwritten s1 rb.2.1 ho
  have h3 : s3.word o = s.word o := State.word_ite (hset _ hdrops h2) h2
  have h4 : s4.word o = s.word o := State.word_ite (hset _ (hoff _ (by simp [logFields])) h3) h3
  have h5 : s5.word o = s.word o := State.word_ite (hset _ (hoff _ (by simp [logFields])) (hset _ hdrops h4)) h4
  have h6 : s6.word o = s.word o := State.word_ite (hset _ (hoff _ (by simp [logFields])) (hset _ (hoff _ (by simp [logFields])) h5)) h5
  have h7 : s7.word o = s.word o := State.word_ite h6 h6
  have h8 : s8.word o = s.word o := State.word_ite (hset _ (hoff _ (by simp [logFields])) (hset _ (hoff _ (by simp [logFields])) h7)) h7
  have h9 : s9.word o = s.word o := State.word_ite ((State.word_sticky_ne _ (hoff _ (by simp [logFields])) _).trans h8) h8
  exact State.word_ite (hset _ (hoff _ (by simp [logFields])) h9) h9

@[simp] theorem State.logEntry_clockwork (s : State) (sev source : Nat) (cls : Cls) (kind : Obj) (reason a0 a1 : Nat) :
    (s.logEntry sev source cls kind reason a0 a1).clockwork = s.clockwork :=
  State.clockwork_of_wipe (State.logEntry_wipe ..) fun _ ho => State.word_logEntry _ _ _ _ _ _ _ _ ho

/-! ## The tick that ends -/

@[simp] theorem State.mapRead_clockwork (s : State) (i : Nat) : (s.mapRead i).2.2.clockwork = s.clockwork := by
  have hnote : (((s.sticky F.MAP_STATUS.CHECK_ERR none).logEntry 5 5 .data .memory 0 i).count 2 14).clockwork = s.clockwork := by
    rw [State.count_clockwork, State.logEntry_clockwork]
    exact State.sticky_clockwork s (by decide) none
  unfold State.mapRead
  dsimp only
  split
  · rfl
  · split
    · exact hnote
    · exact hnote

@[simp] theorem State.pairRead_clockwork (s : State) (a b : Nat) : (s.pairRead a b).clockwork = s.clockwork := by simp [State.pairRead]
@[simp] theorem State.cycleRead_clockwork (s : State) (c : Cycle) (l : List (Nat × Nat)) : (s.cycleRead c l).clockwork = s.clockwork := by
  simp [State.cycleRead]
@[simp] theorem State.readProofs_clockwork (s : State) : s.readProofs.clockwork = s.clockwork := by unfold State.readProofs; split <;> simp
@[simp] theorem State.readPaths_clockwork (s : State) : s.readPaths.clockwork = s.clockwork := by simp [State.readPaths]
@[simp] theorem State.modRunning_clockwork (s : State) (f : Cycle → Cycle) : (s.modRunning f).clockwork = s.clockwork := by
  unfold State.modRunning; split <;> rfl
@[simp] theorem State.settleCounts_clockwork (s : State) : s.settleCounts.clockwork = s.clockwork := by
  rw [State.settleCounts]
  exact (State.modRunning_clockwork _ _).trans s.readProofs_clockwork
@[simp] theorem State.shadowFrame_clockwork (s : State) (h : Nat) (good : Bool) : (s.shadowFrame h good).clockwork = s.clockwork := by
  unfold State.shadowFrame; split <;> rfl
@[simp] theorem State.sendCodes_clockwork (s : State) (h : Nat) : (s.sendCodes h).clockwork = s.clockwork := by
  unfold State.sendCodes; split <;> rfl
@[simp] theorem State.noteWritten_clockwork (s : State) : s.noteWritten.clockwork = s.clockwork := rfl
@[simp] theorem State.sendCopy_clockwork (s : State) : s.sendCopy.clockwork = s.clockwork := by
  unfold State.sendCopy
  split
  · exact State.fset_clockwork (s.emit (.copy s.copyFrameNow)) (f := F.PAIR_SEQ.SEQ) (by decide) _
  · rfl

/-- What a lost frame leaves of the head's results and counts, before its axes go on. -/
def State.discard (s : State) (h n : Nat) : State :=
  { s with steer := { s.steer with held := s.steer.held.filter (fun r => axisSide r.axis ≠ h)
                                   lostA := if h = 0 then n else s.steer.lostA
                                   lostB := if h = 1 then n else s.steer.lostB
                                   judged := merge s.steer.judged [h] } }

/-- The slots whose results are discarded keep what they held, but for their trajectory indices (R31). -/
def State.keepTrajs (s : State) (rs : List HeldResult) : State := rs.foldl (fun s r => s.modAxis r.axis (fun x => x.keepTraj r.new)) s

/-- From the fourth loss in a row on, every slot of the head takes a sample of zero (R31). -/
def State.zeroSamples (s : State) (h n : Nat) : State :=
  if 4 ≤ n then
    (s.steer.axes.filter (fun p => axisSide p.1 = h && decide (p.2.st ≠ 6))).foldl
      (fun s p => s.modAxis p.1 (fun x => if s.inMove p.1 then x else x.zeroSample)) s
  else s

/-- The counts of a lost frame. -/
def State.countLost (s : State) (h n : Nat) (bad : Bool) : State :=
  let s := s.count 1 (8 * h)
  let s := if bad then s.count 1 (8 * h + 1) else s
  if n = 3 then s.count 1 (8 * h + 2) else s

/-- The losses in a row of a head's frames. -/
def State.losses (s : State) (h : Nat) : Nat := if h = 0 then s.steer.lostA else s.steer.lostB

theorem State.frameLost_eq (s : State) (h : Nat) (bad : Bool) : s.frameLost h bad =
    ((((((s.discard h (s.losses h + 1)).keepTrajs (s.heldOf h)).shadowFrame h false).zeroSamples h (s.losses h + 1)).countLost h
      (s.losses h + 1) bad).sendCodes h) := rfl

@[simp] theorem State.discard_clockwork (s : State) (h n : Nat) : (s.discard h n).clockwork = s.clockwork := rfl
@[simp] theorem State.keepTrajs_clockwork (s : State) (rs : List HeldResult) : (s.keepTrajs rs).clockwork = s.clockwork :=
  foldl_clockwork _ _ _ fun _ _ => rfl
@[simp] theorem State.zeroSamples_clockwork (s : State) (h n : Nat) : (s.zeroSamples h n).clockwork = s.clockwork := by
  unfold State.zeroSamples
  split
  · exact foldl_clockwork _ _ _ fun _ _ => rfl
  · rfl
@[simp] theorem State.countLost_clockwork (s : State) (h n : Nat) (bad : Bool) : (s.countLost h n bad).clockwork = s.clockwork := by
  simp [State.countLost, apply_ite State.clockwork]
@[simp] theorem State.frameLost_clockwork (s : State) (h : Nat) (bad : Bool) : (s.frameLost h bad).clockwork = s.clockwork := by
  rw [State.frameLost_eq]; simp

@[simp] theorem State.lateFrame_clockwork (s : State) (h : Nat) : (s.lateFrame h).clockwork = s.clockwork := by
  simp [State.lateFrame, apply_ite State.clockwork]

/-- A module without a planned release under way ends its tick with nothing of the clockwork changed. -/
theorem State.endTick_clockwork {s : State} (h : s.pair.parting = false) : s.endTick.clockwork = s.clockwork := by
  have hends : (((s.lateFrames).settleCounts).noteWritten).sendCopy.clockwork = s.clockwork := by simp [State.lateFrames]
  have hparting : (((s.lateFrames).settleCounts).noteWritten).sendCopy.pair.parting = false :=
    (congrArg (fun t : State => t.pair.parting) hends :).trans h
  unfold State.endTick State.releaseDone
  rw [hparting]
  exact hends

/-! ## The time of the tick (R181, R202) -/

/-- What the writes of the boundary leave alone: the memories and tows, the clocks, and the copy frame that waits. -/
def State.machinery (s : State) : State :=
  { mem := s.mem, auction := s.auction, tows := s.tows, time := s.time, pair := { copy := s.pair.copy } }

theorem State.machinery_of_clockwork {s t : State} (h : t.clockwork = s.clockwork) : t.machinery = s.machinery := (congrArg State.machinery h :)

theorem State.active_of_clockwork {s t : State} (h : t.clockwork = s.clockwork) : t.active = s.active :=
  (congrArg (fun t : State => decide (fldOf (spGet 0 t.regs 0x300000) F.PAIR_STATUS.STATE = 3)) h :)

theorem State.countStarved_tows (s : State) (n : Nat) : (s.countStarved n).tows = { s.tows with starved := (s.countStarved n).tows.starved } := by
  refine List.foldlRecOn (motive := fun t : State => t.tows = { s.tows with starved := t.tows.starved }) _ _ rfl fun t ht a _ => ?_
  split
  · dsimp only
    split
    · rw [State.countSpace_tows, State.count_tows]
      rw [ht]
    · rw [State.count_tows]
      rw [ht]
  · exact ht

theorem State.advance_tows_starved (s : State) (n : Nat) : (s.advance n).tows = { s.tows with starved := (s.advance n).tows.starved } :=
  (s.markOpenings n).countStarved_tows n

/-- A tick placed one period after the last. -/
theorem State.toTick_spec {s : State} {last : Nat} (hlast : (if s.active then s.time.lastTick else s.pair.tickAt.getD s.time.lastTick) = last)
    (hdue : s.time.tb3 ≤ last + s.tickLen) : s.toTick.time.tb3 = last + s.tickLen ∧ s.toTick.time.lastTick = last + s.tickLen ∧
      s.toTick.mem = s.mem ∧ s.toTick.auction = s.auction ∧ s.toTick.tows = { s.tows with starved := s.toTick.tows.starved } ∧
      s.toTick.pair.copy = s.pair.copy ∧ s.toTick.steer = s.steer ∧ s.toTick.active = s.active := by
  have htb3 : (s.advance (last + s.tickLen - s.time.tb3)).time.tb3 = last + s.tickLen := by
    rw [State.advance_tb3]
    omega
  have hadv := s.advance_tows_starved (last + s.tickLen - s.time.tb3)
  have hpair := s.advance_pair (last + s.tickLen - s.time.tb3)
  have hregs := s.advance_regs (last + s.tickLen - s.time.tb3)
  have hsteer := s.advance_steer (last + s.tickLen - s.time.tb3)
  have hmem := s.advance_mem (last + s.tickLen - s.time.tb3)
  have hauction := s.advance_auction (last + s.tickLen - s.time.tb3)
  unfold State.toTick
  rw [hlast]
  dsimp only
  generalize s.advance (last + s.tickLen - s.time.tb3) = t at htb3 hadv hpair hregs hsteer hmem hauction ⊢
  exact ⟨htb3, htb3, hmem, hauction, hadv, congrArg Pair.copy hpair, hsteer, State.active_of_regs (s := s) hregs⟩

/-! ## The boundary (R56, R57, R203) -/

@[simp] theorem foldl_machinery {α : Type} (f : State → α → State) (l : List α) (s : State) (h : ∀ t a, (f t a).machinery = t.machinery) :
    (l.foldl f s).machinery = s.machinery := foldl_keeps State.machinery f l h s

@[simp] theorem State.setWord_machinery (s : State) (o : Nat) (v : Word) : (s.setWord o v).machinery = s.machinery := rfl
@[simp] theorem State.fset_machinery (s : State) (f : Fld) (v : Nat) : (s.fset f v).machinery = s.machinery := rfl
@[simp] theorem State.fadd_machinery (s : State) (f : Fld) (n : Nat) : (s.fadd f n).machinery = s.machinery := rfl
@[simp] theorem State.count_machinery (s : State) (g i n : Nat) : (s.count g i n).machinery = s.machinery := rfl
@[simp] theorem State.modAxis_machinery (s : State) (a : Nat) (f : Axis → Axis) : (s.modAxis a f).machinery = s.machinery := rfl
@[simp] theorem State.modAll_machinery (s : State) (a : Nat) (f : Axis → Axis) : (s.modAll a f).machinery = s.machinery := rfl
@[simp] theorem State.setClassK_machinery (s : State) (r c k : Nat) : (s.setClassK r c k).machinery = s.machinery := rfl
@[simp] theorem State.clearReachRep_machinery (s : State) (r : Nat) (p : Axis → Bool) : (s.clearReachRep r p).machinery = s.machinery := rfl
@[simp] theorem State.sendJournal_machinery (s : State) (it : JItem) : (s.sendJournal it).machinery = s.machinery :=
  State.machinery_of_clockwork (s.sendJournal_clockwork it)
@[simp] theorem State.clearReach_machinery (s : State) (r : Nat) : (s.clearReach r).machinery = s.machinery := by
  unfold State.clearReach
  dsimp only
  rw [foldl_machinery]
  · rfl
  · exact fun _ _ => foldl_machinery _ _ _ fun _ _ => rfl
@[simp] theorem State.joinGang_machinery (s : State) (r : Nat) : (s.joinGang r).machinery = s.machinery := by
  unfold State.joinGang
  split
  · rfl
  · exact foldl_machinery _ _ _ fun t c => by split <;> rfl
@[simp] theorem State.commitGang_machinery (s : State) (r g : Nat) : (s.commitGang r g).machinery = s.machinery := by
  unfold State.commitGang; split <;> simp
@[simp] theorem State.pendClear_machinery (s : State) (r : Nat) : (s.pendClear r).machinery = s.machinery := rfl
@[simp] theorem State.pendRecal_machinery (s : State) (r : Nat) : (s.pendRecal r).machinery = s.machinery :=
  foldl_machinery _ _ _ fun _ _ => rfl
@[simp] theorem State.takeSetting_machinery (s : State) (off : Nat) (v : Word) : (s.takeSetting off v).machinery = s.machinery := by
  simp [State.takeSetting, apply_ite State.machinery]
@[simp] theorem State.applySetting_machinery (s : State) (it : JItem) : (s.applySetting it).machinery = s.machinery := by
  unfold State.applySetting
  split
  · exact State.takeSetting_machinery ..
  · exact State.takeSetting_machinery ..
  · rfl
  · rfl
  · rfl
@[simp] theorem State.applyDue_machinery (s : State) : s.applyDue.machinery = s.machinery :=
  (foldl_machinery _ _ _ fun t it => t.applySetting_machinery it).trans rfl
@[simp] theorem State.tickCommits_machinery (s : State) : s.tickCommits.machinery = s.machinery := by
  unfold State.tickCommits
  have h1 := foldl_machinery (fun (s : State) (p : Nat × Nat) => s.commitGang p.1 p.2) s.steer.gangPend s fun t p => t.commitGang_machinery p.1 p.2
  generalize s.steer.gangPend.foldl (fun s p => s.commitGang p.1 p.2) s = t at h1 ⊢
  have h2 := foldl_machinery State.clearReach t.steer.clearPend t State.clearReach_machinery
  dsimp only
  generalize t.steer.clearPend.foldl State.clearReach t = u at h2 ⊢
  exact (foldl_machinery (fun (s : State) (p : Nat × Axis) => s.modAxis p.1 (fun x => x.commitClass.commitMode)) _ u fun _ _ => rfl).trans (h2.trans h1)
@[simp] theorem State.copyBanks_machinery (s : State) (r act : Nat) : (s.copyBanks r act).machinery = s.machinery := by
  simp [State.copyBanks, apply_ite State.machinery]
@[simp] theorem State.copyAxis_machinery (s : State) (a : Nat) (r : AxisRec) : (s.copyAxis a r).machinery = s.machinery := by
  unfold State.copyAxis; dsimp only; split <;> rfl
/-- A copy frame is applied and taken. -/
theorem State.applyCopy_machinery (s : State) (f : CopyFrame) : (s.applyCopy f).machinery = { s.machinery with pair := {} } := by
  unfold State.applyCopy
  extract_lets s1 ks st s2 rest s3 s4 run p s5
  have h1 : s1.machinery = s.machinery := foldl_machinery _ _ _ fun t p => t.copyBanks_machinery p.1 p.2
  have h2 : s2.machinery = s.machinery := h1
  have h3 : s3.machinery = s.machinery :=
    (foldl_machinery (fun (s : State) (p : Nat × Axis) => s.modAxis p.1 (loadAxis { place := 0 })) rest s2 fun _ _ => rfl).trans h2
  have h4 : s4.machinery = s.machinery := (foldl_machinery _ _ _ fun t r => by
    split
    · exact State.copyAxis_machinery ..
    · rfl).trans h3
  exact (congrArg (fun t : State => { t with pair := {} }) h4 :)
@[simp] theorem State.unlockRings_machinery (s : State) (p : Nat → Bool) : (s.unlockRings p).machinery = s.machinery := by
  unfold State.unlockRings
  generalize List.range 176 = l
  exact foldl_machinery _ l s fun t r => by split <;> rfl
@[simp] theorem State.enFollows_machinery (s : State) : s.enFollows.machinery = s.machinery := by
  unfold State.enFollows
  dsimp only
  split
  · exact State.unlockRings_machinery ..
  · rfl
@[simp] theorem State.beginRelease_machinery (s : State) : s.beginRelease.machinery = s.machinery := by
  unfold State.beginRelease; split <;> rfl

/-- What the copy frame, or its absence, makes of the module at the boundary. -/
def State.boundaryCopy (s : State) : State :=
  if s.active then { s.fset F.PAIR_STATUS.COPY_AGE 0 with pair := { s.pair with copy := none } }
  else match s.pair.copy with
    | some f => s.applyCopy f
    | none => s.fadd F.PAIR_STATUS.COPY_AGE 1

theorem State.boundaryCopy_machinery (s : State) : s.boundaryCopy.machinery = { s.machinery with pair := {} } := by
  unfold State.boundaryCopy
  split
  · rfl
  · split
    · exact State.applyCopy_machinery ..
    next h =>
      show s.machinery = _
      rw [State.machinery, h]

/-- A machine at the boundary of a tick of this number. -/
def State.renumber (s : State) (tick : Nat) : State :=
  { s with steer := { s.steer with tick := tick, undo := [], held := [], judged := [] }, lock := { s.lock with closedNow := false }
           pair := { s.pair with beat := false } }

theorem State.boundary_eq (s : State) :
    s.boundary = (((s.boundaryCopy.applyDue.tickCommits).renumber s.nextTick).enFollows).beginRelease := by
  unfold State.boundary State.boundaryCopy State.renumber
  rfl

theorem State.enFollows_steer (s : State) : s.enFollows.steer = s.steer := by
  unfold State.enFollows
  dsimp only
  split
  · unfold State.unlockRings
    generalize List.range 176 = l
    exact foldl_keeps State.steer _ l (fun t r => by split <;> rfl) _
  · rfl

theorem State.beginRelease_steer (s : State) : s.beginRelease.steer = s.steer := by unfold State.beginRelease; split <;> rfl

/-- What the boundary sets of the steering. -/
theorem State.boundary_spec (s : State) : s.boundary.machinery = { s.machinery with pair := {} } ∧ s.boundary.steer.tick = s.nextTick ∧
    s.boundary.steer.undo = [] ∧ s.boundary.steer.clearPend = [] ∧ s.boundary.steer.gangPend = [] := by
  rw [State.boundary_eq]
  have hmach : (s.boundaryCopy.applyDue.tickCommits).machinery = { s.machinery with pair := {} } := by
    rw [State.tickCommits_machinery, State.applyDue_machinery, State.boundaryCopy_machinery]
  have hpend : (s.boundaryCopy.applyDue.tickCommits).steer.clearPend = [] ∧ (s.boundaryCopy.applyDue.tickCommits).steer.gangPend = [] :=
    ⟨rfl, rfl⟩
  generalize s.boundaryCopy.applyDue.tickCommits = t at hmach hpend ⊢
  have hsteer : ((t.renumber s.nextTick).enFollows).beginRelease.steer = (t.renumber s.nextTick).steer := by
    rw [State.beginRelease_steer, State.enFollows_steer]
  refine ⟨by rw [State.beginRelease_machinery, State.enFollows_machinery]; exact hmach, ?_, ?_, ?_, ?_⟩
  · rw [hsteer]; rfl
  · rw [hsteer]; rfl
  · rw [hsteer]; exact hpend.1
  · rw [hsteer]; exact hpend.2

/-! ## The compute of the tick (R33, R54, R213, R339) -/

@[simp] theorem State.coldAxes_clockwork (s : State) (quads : List Quad) : (s.coldAxes quads).clockwork = s.clockwork := by
  unfold State.coldAxes
  generalize List.range 4640 = l
  rfl
@[simp] theorem State.coldTick_clockwork (s : State) (quads : List Quad) : (s.coldTick quads).clockwork = s.clockwork := by
  unfold State.coldTick
  split
  · split
    · exact (State.count_clockwork ..).trans ((State.coldAxes_clockwork ..).trans rfl)
    · rfl
  · split
    · exact State.coldAxes_clockwork ..
    · rfl
@[simp] theorem State.staleHeader_clockwork (s : State) (a : Nat) : (s.staleHeader a).clockwork = s.clockwork := rfl
@[simp] theorem State.computeShadow_clockwork (s : State) (quads : List Quad) (setpt : List Int) (errs : List CtrlErr) :
    (s.computeShadow quads setpt errs).clockwork = s.clockwork := by
  unfold State.computeShadow
  split
  · dsimp only
    split <;> rfl
  · rfl
@[simp] theorem State.ctrlErr_clockwork (s : State) (e : CtrlErr) : (s.ctrlErr e).clockwork = s.clockwork := by
  cases e with
  | loopState a => exact (State.logEntry_clockwork ..).trans rfl
  | record off => exact State.logEntry_clockwork ..
  | trajSample a => exact State.logEntry_clockwork ..
  | trajHeader a => exact State.logEntry_clockwork ..
@[simp] theorem State.reliefTick_clockwork (s : State) : s.reliefTick.clockwork = s.clockwork := by
  unfold State.reliefTick
  split
  · split <;> rfl
  · rfl
@[simp] theorem State.advanceK_clockwork (s : State) : s.advanceK.clockwork = s.clockwork :=
  foldl_clockwork _ _ _ fun _ _ => foldl_clockwork _ _ _ fun _ _ => rfl
@[simp] theorem State.workTimes_clockwork (s : State) : s.workTimes.clockwork = s.clockwork :=
  foldl_clockwork _ _ _ fun t k => State.fset_clockwork (t.draw 65536).2 (f := F.REACH_STATUS.WORK_TIME k)
    (fun o ho => by
      have hlow := clockWords_low o ho
      simp only [F.REACH_STATUS.WORK_TIME]
      omega) _
@[simp] theorem State.traces_clockwork (s : State) (quads : List Quad) : (s.traces quads).clockwork = s.clockwork :=
  foldl_clockwork _ _ _ fun _ _ => State.push_clockwork ..
@[simp] theorem State.sendMarker_clockwork (s : State) (h : Nat) : (s.sendMarker h).clockwork = s.clockwork := rfl
@[simp] theorem State.sendMarkers_clockwork (s : State) : s.sendMarkers.clockwork = s.clockwork := by
  have h : ((s.sendMarker 0).sendMarker 1).clockwork = s.clockwork := by simp
  unfold State.sendMarkers
  generalize (s.sendMarker 0).sendMarker 1 = t at h ⊢
  dsimp only
  split
  · exact h
  · exact h
@[simp] theorem State.sendReturn_clockwork (s : State) : s.sendReturn.clockwork = s.clockwork := by
  unfold State.sendReturn
  dsimp only
  split <;> rfl

/-- The part of a tick from its boundary to the compute. -/
def State.prepare (s : State) (quads : List Quad) (errs : List CtrlErr) : State :=
  (errs.foldl (fun s e => match e with | .trajHeader a => s.staleHeader a | _ => s) (s.coldTick quads)).readPaths

theorem State.prepare_clockwork (s : State) (quads : List Quad) (errs : List CtrlErr) : (s.prepare quads errs).clockwork = s.clockwork := by
  unfold State.prepare
  rw [State.readPaths_clockwork, foldl_clockwork, State.coldTick_clockwork]
  intro t e
  split <;> rfl

/-- The part of a tick after the compute. -/
def State.finish (s : State) (quads : List Quad) (setpt : List Int) (errs : List CtrlErr) : State :=
  (((((errs.foldl State.ctrlErr (s.computeShadow quads setpt errs)).reliefTick).advanceK).workTimes).traces quads).sendMarkers.sendReturn

theorem State.finish_clockwork (s : State) (quads : List Quad) (setpt : List Int) (errs : List CtrlErr) :
    (s.finish quads setpt errs).clockwork = s.clockwork := by
  unfold State.finish
  rw [State.sendReturn_clockwork, State.sendMarkers_clockwork, State.traces_clockwork, State.workTimes_clockwork, State.advanceK_clockwork,
    State.reliefTick_clockwork, foldl_clockwork _ _ _ State.ctrlErr_clockwork, State.computeShadow_clockwork]

theorem tickBody_eq (quads : List Quad) (setpt : List Int) (errs : List CtrlErr) (s : State) : tickBody quads setpt errs s =
    (((s.endTick.toTick.boundary).prepare quads errs).compute quads setpt errs).finish quads setpt errs := by
  unfold tickBody State.prepare State.finish
  rfl

/-- What a sample tick comes to. -/
theorem sampleTick_spec {s : State} (hrung : s.rung ≤ 2) (hpart : s.pair.parting = false) {last : Nat}
    (hlast : (if s.active then s.time.lastTick else s.pair.tickAt.getD s.time.lastTick) = last) (hdue : s.time.tb3 ≤ last + s.tickLen)
    (quads : List Quad) (setpt : List Int) (errs : List CtrlErr) :
    ∃ t, exec (.sampleTick quads setpt errs) s = .next t ∧ t.steer.tick = s.nextTick ∧ t.time.tb3 = last + s.tickLen ∧
      t.time.lastTick = last + s.tickLen ∧ t.pair.copy = none ∧ t.steer.quads = quads ∧ t.steer.undo = [] ∧ t.steer.clearPend = [] ∧
      t.steer.gangPend = [] ∧ t.mem = s.mem ∧ t.tows = { s.tows with starved := t.tows.starved } ∧ t.auction = s.auction := by
  have hexec : exec (.sampleTick quads setpt errs) s = .next (tickBody quads setpt errs s) := congrArg Host.Outcome.next (if_pos hrung)
  rw [tickBody_eq] at hexec
  have hend := State.endTick_clockwork hpart
  generalize s.endTick = e at hexec hend
  have hact := State.active_of_clockwork hend
  have hetime : e.time = s.time := (congrArg State.time hend :)
  have hrungE : e.rung = s.rung := (congrArg (fun t : State => fldOf (spGet 0 t.regs F.PWR_RUNG_STATE.RUNG.off) F.PWR_RUNG_STATE.RUNG) hend :)
  have hetick : e.tickLen = s.tickLen := by rw [State.tickLen, State.tickLen, hrungE]; rw [show e.steer.period = s.steer.period from (congrArg (fun t : State => t.steer.period) hend :)]
  have heat : e.pair.tickAt = s.pair.tickAt := (congrArg (fun t : State => t.pair.tickAt) hend :)
  have hecopy : e.pair.copy = s.pair.copy := (congrArg (fun t : State => t.pair.copy) hend :)
  have hesteer : e.steer.tick = s.steer.tick := (congrArg (fun t : State => t.steer.tick) hend :)
  have hemem : e.mem = s.mem := (congrArg State.mem hend :)
  have hetows : e.tows = s.tows := (congrArg State.tows hend :)
  have heauction : e.auction = s.auction := (congrArg State.auction hend :)
  obtain ⟨htb3, hlastTick, hmem, hauction, htows, hcopy, hsteer, hactive⟩ := State.toTick_spec (s := e) (last := last)
    (by rw [hact, hetime, heat]; exact hlast) (by rw [hetime, hetick]; exact hdue)
  rw [hetick] at htb3 hlastTick
  generalize e.toTick = k at hexec htb3 hlastTick hmem hauction htows hcopy hsteer hactive
  have hnext : k.nextTick = s.nextTick := by
    simp only [State.nextTick, hcopy, hecopy, hactive, hact, hsteer, hesteer]
  obtain ⟨hmach, htick, hundo, hclear, hgang⟩ := k.boundary_spec
  generalize k.boundary = b at hexec hmach htick hundo hclear hgang
  have hprep := b.prepare_clockwork quads errs
  generalize b.prepare quads errs = p at hexec hprep
  have hfinish := (p.compute quads setpt errs).finish_clockwork quads setpt errs
  generalize (p.compute quads setpt errs).finish quads setpt errs = t at hexec hfinish
  have hcompute : (p.compute quads setpt errs).clockwork = { p.clockwork with steer := { p.clockwork.steer with quads := quads } } := rfl
  have hall : t.clockwork = { b.clockwork with steer := { b.clockwork.steer with quads := quads } } := by rw [hfinish, hcompute, hprep]
  have htime : t.time = k.time := (congrArg State.time hall :).trans (congrArg State.time hmach :)
  have htmem : t.mem = k.mem := (congrArg State.mem hall :).trans (congrArg State.mem hmach :)
  have httows : t.tows = k.tows := (congrArg State.tows hall :).trans (congrArg State.tows hmach :)
  have htauction : t.auction = k.auction := (congrArg State.auction hall :).trans (congrArg State.auction hmach :)
  refine ⟨t, hexec, ?_, by rw [htime, htb3], by rw [htime, hlastTick], ?_, (congrArg (fun t : State => t.steer.quads) hall :), ?_, ?_, ?_,
    by rw [htmem, hmem, hemem], ?_, by rw [htauction, hauction, heauction]⟩
  · exact (congrArg (fun t : State => t.steer.tick) hall :).trans (htick.trans hnext)
  · exact (congrArg (fun t : State => t.pair.copy) hall :).trans (congrArg (fun t : State => t.pair.copy) hmach :)
  · exact (congrArg (fun t : State => t.steer.undo) hall :).trans hundo
  · exact (congrArg (fun t : State => t.steer.clearPend) hall :).trans hclear
  · exact (congrArg (fun t : State => t.steer.gangPend) hall :).trans hgang
  · rw [httows]
    rw [htows, hetows]

end Sys2Proof.Machine
end

section
/-!
PROOFS. Uplink frames judged (R31, R52): what a frame that passes, and one that is lost, make of the axes of its head.
-/

namespace Sys2Proof.Machine

/-! ## Axes and the relief's shadow changed -/

/-- t is s with axes and the relief's shadow changed, counts made and messages sent. -/
def State.Slots (s t : State) : Prop :=
  t = { s with steer := { s.steer with axes := t.steer.axes, relief := t.steer.relief }, counters := t.counters, out := t.out }

namespace State.Slots

variable {s t u : State}

theorem refl (s : State) : s.Slots s := rfl

theorem trans (h : s.Slots t) (k : t.Slots u) : s.Slots u := by
  rw [State.Slots] at h k ⊢
  rw [k, h]

theorem foldl {α : Type} {f : State → α → State} (step : ∀ u a, State.Slots u (f u a)) (l : List α) (s : State) : s.Slots (l.foldl f s) :=
  List.foldlRecOn (motive := fun u => s.Slots u) l f (.refl s) fun u hu a _ => hu.trans (step u a)

theorem modAxis (s : State) (a : Nat) (f : Axis → Axis) : s.Slots (s.modAxis a f) := rfl

theorem count (s : State) (g i n : Nat) : s.Slots (s.count g i n) := rfl

theorem shadowFrame (s : State) (h : Nat) (good : Bool) : s.Slots (s.shadowFrame h good) := by
  unfold State.shadowFrame
  split <;> rfl

theorem sendCodes (s : State) (h : Nat) : s.Slots (s.sendCodes h) := by
  unfold State.sendCodes
  split <;> rfl

theorem held (h : s.Slots t) : t.steer.held = s.steer.held := by rw [h]
theorem rep (h : s.Slots t) : t.steer.rep = s.steer.rep := by rw [h]
theorem lostA (h : s.Slots t) : t.steer.lostA = s.steer.lostA := by rw [h]
theorem lostB (h : s.Slots t) : t.steer.lostB = s.steer.lostB := by rw [h]

theorem reports (h : s.Slots t) (l : List Fld) : reports { s with steer := t.steer } t l := by
  refine ⟨?_, ?_, ?_, fun g _ => ?_⟩
  · rw [h]
  · rw [h]
  · rw [h]
  · rw [h]; rfl

end State.Slots

theorem State.shadowFrame_axes (s : State) (h : Nat) (good : Bool) : (s.shadowFrame h good).steer.axes = s.steer.axes := by
  unfold State.shadowFrame
  split <;> rfl

theorem State.sendCodes_steer (s : State) (h : Nat) : (s.sendCodes h).steer = s.steer := by
  unfold State.sendCodes
  split <;> rfl

theorem State.axis_of_axes {s t : State} (h : t.steer.axes = s.steer.axes) (a : Nat) : t.axis a = s.axis a := by rw [State.axis, State.axis, h]

/-! ## A frame that is lost -/

/-- Every axis of t shows what it shows in s, and the axes of t are in canonical form. -/
structure State.AxesShow {α : Type} (p : Axis → α) (s t : State) : Prop where
  form : spWf {} 0 t.steer.axes = true
  same : ∀ a, p (t.axis a) = p (s.axis a)

namespace State.AxesShow

variable {α β : Type} {p : Axis → α} {s t : State}

theorem refl (w : spWf {} 0 s.steer.axes = true) : State.AxesShow p s s := ⟨w, fun _ => rfl⟩

theorem modAxis (h : State.AxesShow p s t) (a : Nat) {f : Axis → Axis} (hf : ∀ x, p (f x) = p x) : State.AxesShow p s (t.modAxis a f) := by
  refine ⟨State.modAxis_axesWf h.form a f, fun b => ?_⟩
  by_cases hb : b = a
  · subst hb
    rw [State.axis_modAxis_self h.form, hf, h.same]
  · rw [State.axis_modAxis_ne t hb, h.same]

theorem foldl (h : State.AxesShow p s t) {f : State → β → State} (step : ∀ u b, State.AxesShow p s u → State.AxesShow p s (f u b)) (l : List β) :
    State.AxesShow p s (l.foldl f t) :=
  List.foldlRecOn (motive := fun u => State.AxesShow p s u) l f h fun u hu b _ => step u b hu

theorem of_axes (h : State.AxesShow p s t) {u : State} (hu : u.steer.axes = t.steer.axes) : State.AxesShow p s u :=
  ⟨by rw [hu]; exact h.form, fun a => by rw [State.axis_of_axes hu, h.same]⟩

end State.AxesShow

/-- What a slot keeps through a lost frame: drive, integrator, filter, last error and flags. -/
def Axis.drive (x : Axis) : Half × BitVec 40 × BitVec 32 × Half × Word := (x.u, x.i, x.d, x.ePrev, x.flags)

theorem State.discard_frameLost (s : State) (h : Nat) (bad : Bool) : (s.discard h (s.losses h + 1)).Slots (s.frameLost h bad) := by
  rw [State.frameLost_eq]
  have hkeep : ∀ (t : State) rs, t.Slots (t.keepTrajs rs) := fun t rs => .foldl (fun u r => .modAxis u _ _) rs t
  have hzero : ∀ (t : State) n, t.Slots (t.zeroSamples h n) := fun t n => by
    unfold State.zeroSamples
    split
    · exact .foldl (fun u r => .modAxis u _ _) _ t
    · exact .refl t
  have hcount : ∀ (t : State) n, t.Slots (t.countLost h n bad) := fun t n => by
    unfold State.countLost
    dsimp only
    split <;> split <;> rfl
  exact ((((hkeep _ _).trans (.shadowFrame ..)).trans (hzero ..)).trans (hcount ..)).trans (.sendCodes ..)

theorem State.frameLost_shows {s : State} (w : spWf {} 0 s.steer.axes = true) (h : Nat) (bad : Bool) :
    State.AxesShow Axis.drive s (s.frameLost h bad) := by
  rw [State.frameLost_eq]
  generalize hn : s.losses h + 1 = n
  have hdisc : State.AxesShow Axis.drive s (s.discard h n) := (State.AxesShow.refl w).of_axes rfl
  have hkeep : State.AxesShow Axis.drive s ((s.discard h n).keepTrajs (s.heldOf h)) := hdisc.foldl (fun _ r hu => hu.modAxis r.axis (f := fun x => x.keepTraj r.new) fun _ => rfl) _
  have hshadow := hkeep.of_axes (State.shadowFrame_axes _ h false)
  generalize ((s.discard h n).keepTrajs (s.heldOf h)).shadowFrame h false = u at hshadow ⊢
  have hzero : State.AxesShow Axis.drive s (u.zeroSamples h n) := by
    unfold State.zeroSamples
    split
    · exact hshadow.foldl (fun _ _ hu => hu.modAxis _ fun _ => by split <;> rfl) _
    · exact hshadow
  generalize u.zeroSamples h n = v at hzero ⊢
  refine hzero.of_axes ?_
  rw [State.sendCodes_steer]
  unfold State.countLost
  dsimp only
  split <;> split <;> rfl

theorem frameLost_spec {s : State} (hwf : s.allWf = true) {h : Nat} (hh : h < 2) (hrung : s.rung ≤ 2) (bad : Bool) :
    ∃ t, exec (.uplinkFrameLost h bad) s = .next t ∧
      (if h = 0 then t.steer.lostA = s.steer.lostA + 1 else t.steer.lostB = s.steer.lostB + 1) ∧
      t.steer.held = s.steer.held.filter (fun r => axisSide r.axis ≠ h) ∧ t.steer.rep = s.steer.rep ∧
      (∀ a, (t.axis a).u = (s.axis a).u ∧ (t.axis a).i = (s.axis a).i ∧ (t.axis a).d = (s.axis a).d ∧
        (t.axis a).ePrev = (s.axis a).ePrev ∧ (t.axis a).flags = (s.axis a).flags) ∧
      reports { s with steer := t.steer } t [] := by
  have hslots := s.discard_frameLost h bad
  have hshows := State.frameLost_shows (State.axesWf_of_allWf hwf) h bad
  have hexec : exec (.uplinkFrameLost h bad) s = .next (s.frameLost h bad) := by
    show execUplinkFrameLost h bad s = _
    rw [execUplinkFrameLost, if_pos hrung]
    exact if_pos (by simp [okHead, hh])
  refine ⟨_, hexec, ?_, hslots.held, hslots.rep, fun a => ?_, hslots.reports []⟩
  · split
    · next h0 => rw [hslots.lostA]; simp [State.discard, State.losses, h0]
    · next h0 =>
      have h1 : h = 1 := by omega
      rw [hslots.lostB]; simp [State.discard, State.losses, h1]
  · have := hshows.same a
    simpa only [Axis.drive, Prod.mk.injEq] using this

/-! ## A frame that passes -/

/-- The machine with a head's frame passed, before its held results are taken. -/
def State.passed (s : State) (h : Nat) : State :=
  { s with steer := { s.steer with held := s.steer.held.filter (fun r => axisSide r.axis ≠ h)
                                   lostA := if h = 0 then 0 else s.steer.lostA
                                   lostB := if h = 1 then 0 else s.steer.lostB
                                   judged := merge s.steer.judged [h] } }

theorem State.frameGood_eq (s : State) (h : Nat) : s.frameGood h =
    ((((s.heldOf h).foldl State.takeResult (s.passed h)).shadowFrame h true).count 0 15
      ((s.heldOf h).filter (fun r => r.new.outNow)).length).sendCodes h := rfl

/-- The machine with one result's axis, memory and undo. -/
theorem State.takeResult_spec (s : State) (r : HeldResult) : s.takeResult r =
      { s with steer := { s.steer with axes := (s.takeResult r).steer.axes, rep := (s.takeResult r).steer.rep, undo := (s.takeResult r).steer.undo } } ∧
    (s.takeResult r).steer.axes = (s.modAxis r.axis (fun x => r.new.addSticky x)).steer.axes := by
  unfold State.takeResult
  dsimp only
  split
  · exact ⟨rfl, rfl⟩
  · exact ⟨rfl, rfl⟩

/-- What an axis shows where these results stand over its stored state. -/
def resultOver (rs : List HeldResult) (a : Nat) (x : Axis) : Axis :=
  match rs.find? (fun r => decide (r.axis = a)) with
  | some r => r.new.addSticky x
  | none => x

theorem State.axisNow_eq (s : State) (a : Nat) : s.axisNow a = resultOver s.steer.held a (s.axis a) := by
  unfold resultOver
  cases h : s.heldFor a with
  | some r =>
    have hfind : s.steer.held.find? (fun r => decide (r.axis = a)) = some r := h
    simp only [State.axisNow_some h, hfind]
  | none =>
    have hfind : s.steer.held.find? (fun r => decide (r.axis = a)) = none := h
    simp only [State.axisNow_none h, hfind]

theorem resultOver_of_not_mem {rs : List HeldResult} {a : Nat} (h : a ∉ rs.map (fun r => r.axis)) (x : Axis) : resultOver rs a x = x := by
  have hnone : rs.find? (fun r => decide (r.axis = a)) = none := by
    rw [List.find?_eq_none]
    intro r hr e
    exact h (List.mem_map.mpr ⟨r, hr, by simpa using e⟩)
  rw [resultOver, hnone]

/-- The results taken are those of their axes, each of which has one at most. -/
theorem State.takeResults_axis (rs : List HeldResult) : ∀ {s : State}, spWf {} 0 s.steer.axes = true → (rs.map (fun r => r.axis)).Nodup → ∀ a,
    (rs.foldl State.takeResult s).axis a = resultOver rs a (s.axis a) := by
  induction rs with
  | nil => intro s _ _ a; rfl
  | cons r rs ih =>
    intro s w hnd a
    obtain ⟨hnot, hnd⟩ := List.nodup_cons.mp hnd
    obtain ⟨-, haxes⟩ := s.takeResult_spec r
    have w1 : spWf {} 0 (s.takeResult r).steer.axes = true := by rw [haxes]; exact State.modAxis_axesWf w ..
    rw [List.foldl_cons, ih w1 hnd, State.axis_of_axes haxes]
    by_cases h : r.axis = a
    · subst h
      rw [State.axis_modAxis_self w, resultOver_of_not_mem hnot, resultOver, List.find?_cons_of_pos (by simp)]
    · rw [State.axis_modAxis_ne s (Ne.symm h), resultOver, resultOver, List.find?_cons_of_neg (by simpa using h)]

theorem State.takeResults_frame (rs : List HeldResult) (s : State) :
    rs.foldl State.takeResult s = { s with steer := { s.steer with axes := (rs.foldl State.takeResult s).steer.axes
                                                                   rep := (rs.foldl State.takeResult s).steer.rep
                                                                   undo := (rs.foldl State.takeResult s).steer.undo } } :=
  List.foldlRecOn (motive := fun u : State => u = { s with steer := { s.steer with axes := u.steer.axes, rep := u.steer.rep, undo := u.steer.undo } })
    rs _ rfl fun u hu r _ => by rw [(u.takeResult_spec r).1, hu]

/-- A head's frame passes: the held results of its side stand, and no other axis changes. -/
structure State.Passed (s t : State) (h : Nat) : Prop where
  frame : t = { s with steer := t.steer, counters := t.counters, out := t.out }
  held : t.steer.held = s.steer.held.filter (fun r => axisSide r.axis ≠ h)
  lostA : t.steer.lostA = if h = 0 then 0 else s.steer.lostA
  lostB : t.steer.lostB = if h = 1 then 0 else s.steer.lostB
  mine : ∀ a, axisSide a = h → t.axis a = s.axisNow a
  other : ∀ a, axisSide a ≠ h → t.axis a = s.axis a

theorem resultOver_heldOf_mine (s : State) {h a : Nat} (ha : axisSide a = h) (x : Axis) : resultOver (s.heldOf h) a x = resultOver s.steer.held a x := by
  have hfind : (s.heldOf h).find? (fun r => decide (r.axis = a)) = s.steer.held.find? (fun r => decide (r.axis = a)) := by
    rw [State.heldOf, List.find?_filter]
    congr 1
    funext r
    by_cases hr : r.axis = a
    · simp [hr, ha]
    · simp [hr]
  rw [resultOver, resultOver, hfind]

theorem State.frameGood_passed {s : State} (w : spWf {} 0 s.steer.axes = true) (hnd : (s.steer.held.map (fun r => r.axis)).Nodup) (h : Nat) :
    s.Passed (s.frameGood h) h := by
  have hnd' : ((s.heldOf h).map (fun r => r.axis)).Nodup := (List.filter_sublist.map _).nodup hnd
  have haxis := State.takeResults_axis (s.heldOf h) (s := s.passed h) w hnd'
  have hframe := State.takeResults_frame (s.heldOf h) (s.passed h)
  rw [State.frameGood_eq]
  generalize hv : (s.heldOf h).foldl State.takeResult (s.passed h) = v at haxis hframe ⊢
  have hslots : v.Slots (((v.shadowFrame h true).count 0 15 ((s.heldOf h).filter (fun r => r.new.outNow)).length).sendCodes h) :=
    ((State.Slots.shadowFrame v h true).trans (.count ..)).trans (.sendCodes _ h)
  have haxes : (((v.shadowFrame h true).count 0 15 ((s.heldOf h).filter (fun r => r.new.outNow)).length).sendCodes h).steer.axes = v.steer.axes := by
    rw [State.sendCodes_steer, State.count_steer, State.shadowFrame_axes]
  generalize ((v.shadowFrame h true).count 0 15 ((s.heldOf h).filter (fun r => r.new.outNow)).length).sendCodes h = t at hslots haxes ⊢
  refine ⟨?_, ?_, ?_, ?_, fun a ha => ?_, fun a ha => ?_⟩
  · rw [hslots, hframe]; rfl
  · rw [hslots.held, hframe]; rfl
  · rw [hslots.lostA, hframe]; rfl
  · rw [hslots.lostB, hframe]; rfl
  · rw [State.axis_of_axes haxes, haxis a, resultOver_heldOf_mine s ha, State.axisNow_eq]; rfl
  · rw [State.axis_of_axes haxes, haxis a, resultOver_of_not_mem]
    · rfl
    · intro hm
      obtain ⟨r, hr, rfl⟩ := List.mem_map.mp hm
      have := (List.mem_filter.mp hr).2
      exact ha (by simpa using this)

/-! ## Items waiting in a queue stay there -/

/-- Every item of a queue of s is one of the queue of t; the queues of t are in canonical form. -/
structure State.Queued (s t : State) : Prop where
  form : spWf {} 0 t.link.queues = true
  items : ∀ q, ∀ it ∈ (s.queue q).items, it ∈ (t.queue q).items

namespace State.Queued

variable {s t u : State}

theorem refl (w : spWf {} 0 s.link.queues = true) : s.Queued s := ⟨w, fun _ _ h => h⟩

theorem trans (h : s.Queued t) (k : t.Queued u) : s.Queued u := ⟨k.form, fun q it hit => k.items q it (h.items q it hit)⟩

theorem of_queues (h : s.Queued t) (hu : u.link.queues = t.link.queues) : s.Queued u :=
  ⟨by rw [hu]; exact h.form, fun q it hit => by rw [State.queue_eq_of_queues hu]; exact h.items q it hit⟩

theorem modQueue (h : s.Queued t) (q : Nat) {f : Queue → Queue} (hf : ∀ d : Queue, ∀ it ∈ d.items, it ∈ (f d).items) : s.Queued (t.modQueue q f) := by
  refine ⟨spSet_wf _ _ q _ 0 (Nat.zero_le q) h.form, fun p it hit => ?_⟩
  by_cases hp : p = q
  · subst hp
    rw [State.queue_modQueue_self h.form]
    exact hf _ it (h.items p it hit)
  · rw [State.queue_modQueue_ne _ hp]
    exact h.items p it hit

theorem count (h : s.Queued t) (g i n : Nat) : s.Queued (t.count g i n) := h.of_queues rfl

theorem push (h : s.Queued t) (q : Nat) (it : Item) : s.Queued (t.push q it) := by
  have hdrop : ∀ n, ∀ d : Queue, ∀ x ∈ d.items, x ∈ (d.drop it n).items := fun n d x hx => by
    unfold Queue.drop
    dsimp only
    split
    · exact hx
    · exact List.mem_append_left _ hx
  unfold State.push
  dsimp only
  split
  · exact h
  · split
    · refine .count (.modQueue h q fun _ _ hx => ?_) ..
      exact hx
    · split
      · split
        · exact (h.modQueue q (hdrop _)).of_queues rfl
        · exact (h.modQueue q (hdrop _)).of_queues rfl
      · exact (h.modQueue q fun _ _ hx => List.mem_append_left _ hx).of_queues rfl

theorem event (h : s.Queued t) (e : Nat) (b : List Byte) : s.Queued (t.event e b) := by
  unfold State.event
  split
  · exact h.push _ _
  · exact h

theorem notes (h : s.Queued t) {l : List Fld} (k : t.Notes u l) : s.Queued u := h.of_queues k.queues

end State.Queued

/-! ## A head's trailer -/

/-- v is s with what a head's trailer says of it. -/
structure State.HeadTaken (s v : State) (h : Nat) (tr : Trailer) : Prop where
  form : wordsWf 0 v.regs = true
  kept : fieldsKept s v [F.KEEL_STATUS.WINDLASS_A, F.KEEL_STATUS.WINDLASS_B, F.PAIR_EPOCH.EPOCH]
  epoch : h = 0 → v.fget F.PAIR_EPOCH.EPOCH = tr.epoch % 2 ^ 32
  frame : v = { s with
    regs := v.regs
    pair := { s.pair with headA := v.pair.headA, headB := v.pair.headB, wlLast := v.pair.wlLast, heldCodes := v.pair.heldCodes
                          heldFrom := v.pair.heldFrom } }
  heard : (v.head h).heard = true
  holder : (v.head h).holder = tr.holder

/-- The pair of a machine that has read a trailer of a head, before the holder is shown. -/
def State.readTrailer (s : State) (h : Nat) (tr : Trailer) : State :=
  let s := s.modHead h (fun x =>
    { x with holder := tr.holder, epoch := tr.epoch, last := tr.last, heard := true
             moved := if x.heard && decide (x.last = tr.last) && decide (x.epoch = tr.epoch) then x.moved else s.steer.tick })
  let mine := decide (tr.holder = s.role)
  let before := !mine || (decide (h = 0) && decide (tr.result = 1))
  let wl := if !before then s.pair.wlLast else if h = 0 then (tr.last, s.pair.wlLast.2) else (s.pair.wlLast.1, tr.last)
  let s := { s with pair := { s.pair with wlLast := wl } }
  if s.pair.coldStep = 2 then
    { s with pair := { s.pair with heldCodes := s.pair.heldCodes ++ tr.held, heldFrom := merge s.pair.heldFrom [h] } }
  else s

theorem State.takeHead_eq (s : State) (h : Nat) (tr : Trailer) : s.takeHead h tr =
    if h = 0 then ((s.readTrailer h tr).fset F.KEEL_STATUS.WINDLASS_A (decide (tr.holder = s.role)).toNat).fset F.PAIR_EPOCH.EPOCH tr.epoch
    else (s.readTrailer h tr).fset F.KEEL_STATUS.WINDLASS_B (decide (tr.holder = s.role)).toNat := by
  have hrole : ∀ f, (s.modHead h f).role = s.role := fun f => by unfold State.modHead; split <;> rfl
  unfold State.takeHead State.readTrailer
  simp only [hrole]

theorem State.readTrailer_spec (s : State) (h : Nat) (tr : Trailer) :
    s.readTrailer h tr = { s with
      pair := { s.pair with headA := (s.readTrailer h tr).pair.headA, headB := (s.readTrailer h tr).pair.headB
                            wlLast := (s.readTrailer h tr).pair.wlLast, heldCodes := (s.readTrailer h tr).pair.heldCodes
                            heldFrom := (s.readTrailer h tr).pair.heldFrom } } ∧
    ((s.readTrailer h tr).head h).heard = true ∧ ((s.readTrailer h tr).head h).holder = tr.holder := by
  unfold State.readTrailer State.modHead State.head
  dsimp only
  by_cases h0 : h = 0
  · simp only [h0, if_true]
    split
    · exact ⟨rfl, rfl, rfl⟩
    · exact ⟨rfl, rfl, rfl⟩
  · simp only [h0, if_false]
    split
    · exact ⟨rfl, rfl, rfl⟩
    · exact ⟨rfl, rfl, rfl⟩

theorem State.takeHead_taken {s : State} (w : wordsWf 0 s.regs = true) (h : Nat) (tr : Trailer) : s.HeadTaken (s.takeHead h tr) h tr := by
  obtain ⟨hframe, hheard, hholder⟩ := s.readTrailer_spec h tr
  rw [State.takeHead_eq]
  generalize s.readTrailer h tr = u at hframe hheard hholder ⊢
  have hregs : u.regs = s.regs := by rw [hframe]
  have wu : wordsWf 0 u.regs = true := by rw [hregs]; exact w
  have hkept : ∀ {v : State}, u.Writes v [F.KEEL_STATUS.WINDLASS_A, F.KEEL_STATUS.WINDLASS_B, F.PAIR_EPOCH.EPOCH] →
      fieldsKept s v [F.KEEL_STATUS.WINDLASS_A, F.KEEL_STATUS.WINDLASS_B, F.PAIR_EPOCH.EPOCH] :=
    fun hv g hg => (hv.kept g hg).trans (State.fget_of_regs hregs g)
  split
  · have hA := (State.Writes.refl wu [F.KEEL_STATUS.WINDLASS_A, F.KEEL_STATUS.WINDLASS_B, F.PAIR_EPOCH.EPOCH]).fset
      (f := F.KEEL_STATUS.WINDLASS_A) (by simp) (by decide) (decide (tr.holder = s.role)).toNat
    have hE := hA.fset (f := F.PAIR_EPOCH.EPOCH) (by simp) (by decide) tr.epoch
    exact ⟨hE.form, hkept hE, fun _ => State.fget_fset_self _ _ _ (by decide) hA.form, by rw [hE.frame]; rw [hframe], hheard, hholder⟩
  · next h0 =>
    have hB := (State.Writes.refl wu [F.KEEL_STATUS.WINDLASS_A, F.KEEL_STATUS.WINDLASS_B, F.PAIR_EPOCH.EPOCH]).fset
      (f := F.KEEL_STATUS.WINDLASS_B) (by simp) (by decide) (decide (tr.holder = s.role)).toNat
    exact ⟨hB.form, hkept hB, fun e => absurd e h0, by rw [hB.frame]; rw [hframe], hheard, hholder⟩

/-! ## What follows a trailer's windlass fields -/

/-- After the trailer's windlass fields the module is judged an orphan or not, and shown ready or not. -/
def State.judged (s : State) : State := ((s.judgeOrphan).releaseSeen).readyCheck

/-- t is s judged after a trailer. -/
structure State.Judged (s t : State) : Prop where
  reported : s.Reported t [F.PAIR_STATUS.ORPHANED, F.KEEL_STATUS.READY]
  pair : t.pair = s.pair
  queued : spWf {} 0 s.link.queues = true → s.Queued t

theorem State.judgeOrphan_judged {s : State} (w : wordsWf 0 s.regs = true) : s.Judged s.judgeOrphan := by
  unfold State.judgeOrphan
  dsimp only
  split
  · exact ⟨.refl w _, rfl, .refl⟩
  · split
    · have hset := (State.Notes.refl w [F.PAIR_STATUS.ORPHANED, F.KEEL_STATUS.READY]).fset (f := F.PAIR_STATUS.ORPHANED) (by simp) (by decide) 1
      have hlog := hset.logEntry (sev := 6) (by decide) 3 .control .module 4 0 0
      generalize (s.fset F.PAIR_STATUS.ORPHANED 1).logEntry 6 3 .control .module 4 0 0 = u at hlog ⊢
      have hev := (⟨hlog.form, hlog.reports⟩ : s.Reported u _).event 5 (le 1 (s.fget F.PAIR_STATUS.STATE) ++ le 1 (u.fget F.PAIR_STATUS.STATE) ++
        le 1 (u.fget F.PAIR_STATUS.REASON) ++ le 1 (u.fget F.PAIR_STATUS.PARTNER) ++ le 4 (u.fget F.PAIR_EPOCH.EPOCH) ++
        le 4 (u.fget F.PAIR_SEQ.SEQ) ++ le 1 u.pairFlags)
      have hmsix := (State.Notes.refl hev.form [F.PAIR_STATUS.ORPHANED, F.KEEL_STATUS.READY]).msix 2
      refine ⟨hev.notes hmsix, ?_, fun wq => (((State.Queued.refl wq).notes hlog).event 5 _).notes hmsix⟩
      exact hmsix.pair.trans ((State.event_pair ..).trans hlog.pair)
    · have hset := (State.Notes.refl w [F.PAIR_STATUS.ORPHANED, F.KEEL_STATUS.READY]).fset (f := F.PAIR_STATUS.ORPHANED) (by simp) (by decide) 0
      exact ⟨⟨hset.form, hset.reports⟩, hset.pair, fun wq => (State.Queued.refl wq).notes hset⟩

theorem State.readyCheck_judged {s : State} (w : wordsWf 0 s.regs = true) : s.Judged s.readyCheck := by
  unfold State.readyCheck
  dsimp only
  split
  · have hset := (State.Notes.refl w [F.PAIR_STATUS.ORPHANED, F.KEEL_STATUS.READY]).fset (f := F.KEEL_STATUS.READY) (by simp) (by decide) 1
    exact ⟨⟨hset.form, hset.reports⟩, hset.pair, fun wq => (State.Queued.refl wq).notes hset⟩
  · exact ⟨.refl w _, rfl, .refl⟩

theorem State.judged_judged {s : State} (w : wordsWf 0 s.regs = true) (hrel : s.pair.releasing = none) : s.Judged s.judged := by
  have hj := State.judgeOrphan_judged w
  have hseen : s.judgeOrphan.releaseSeen = s.judgeOrphan := by
    unfold State.releaseSeen
    rw [if_neg (by simp [hj.pair, hrel])]
  rw [State.judged, hseen]
  have hr := State.readyCheck_judged hj.reported.form
  exact ⟨hj.reported.trans hr.reported, hr.pair.trans hj.pair, fun wq => (hj.queued wq).trans (hr.queued (hj.queued wq).form)⟩

end Sys2Proof.Machine
end

section
/-!
PROOFS. The control deadline (R52, R53), the frames of an ACTIVE module (R31), and the statement on the sample tick.
-/

namespace Sys2Proof.Machine

/-! ## The frame of an ACTIVE module -/

theorem exec_uplinkFrame {s : State} {h : Nat} {tr : Trailer} (hh : h < 2) (hrung : s.rung ≤ 2) (hreset : s.boot.resetLow = false)
    (hrails : s.power.railsOff = false) (harmed : s.armed 10 h = false) : exec (.uplinkFrame h tr) s = .next ((s.takeTrailer h tr).frameGood h) := by
  have hdead : ¬(3 ≤ s.rung ∨ s.boot.resetLow ∨ s.power.railsOff) := by simp [hreset, hrails]; omega
  show execUplinkFrame h tr s = _
  rw [execUplinkFrame, if_neg hdead, if_neg (by simp [harmed])]
  exact if_pos (by simp [Instr.wf, okHead, hh])

theorem State.HeadTaken.role {s v : State} {h : Nat} {tr : Trailer} (hv : s.HeadTaken v h tr) : v.role = s.role :=
  hv.kept F.KEEL_STRAPS.ROLE (apart_of_test (by decide))

theorem State.HeadTaken.state {s v : State} {h : Nat} {tr : Trailer} (hv : s.HeadTaken v h tr) :
    v.fget F.PAIR_STATUS.STATE = s.fget F.PAIR_STATUS.STATE := hv.kept _ (apart_of_test (by decide))

/-- A head that names this module, on a module that claims nothing, changes only what the trailer says. -/
theorem State.takeTrailer_mine {s : State} (w : wordsWf 0 s.regs = true) {h : Nat} {tr : Trailer} (hclaim : s.pair.claiming = false)
    (hgrant : s.pair.grantA = false) (hholder : tr.holder = s.role) : s.takeTrailer h tr = (s.takeHead h tr).judged := by
  have hv := State.takeHead_taken w h tr
  unfold State.takeTrailer
  generalize s.takeHead h tr = v at hv ⊢
  have hc : v.pair.claiming = false := by rw [hv.frame]; exact hclaim
  have hg : v.pair.grantA = false := by rw [hv.frame]; exact hgrant
  have hother : v.otherHolder (v.head h) = false := by simp [State.otherHolder, hv.holder, hv.role, hholder]
  dsimp only
  rw [if_neg (by simp [hc]), if_neg (by simp [hg]), if_neg (by simp [hother])]
  rfl

theorem uplinkFrame_good {s : State} (hwf : s.allWf = true) {h : Nat} {tr : Trailer} (hh : h < 2) (hrung : s.rung ≤ 2)
    (hreset : s.boot.resetLow = false) (hrails : s.power.railsOff = false) (harmed : s.armed 10 h = false) (hclaim : s.pair.claiming = false)
    (hgrant : s.pair.grantA = false) (hrel : s.pair.releasing = none) (hholder : tr.holder = s.role)
    (hnd : (s.steer.held.map (fun r => r.axis)).Nodup) :
    ∃ t, exec (.uplinkFrame h tr) s = .next t ∧ (if h = 0 then t.steer.lostA else t.steer.lostB) = 0 ∧
      (∀ a, axisSide a = h → t.axis a = s.axisNow a) ∧ (∀ a, axisSide a ≠ h → t.axis a = s.axis a) ∧
      t.steer.held = s.steer.held.filter (fun r => axisSide r.axis ≠ h) ∧
      (if h = 0 then t.steer.lostB = s.steer.lostB else t.steer.lostA = s.steer.lostA) ∧ t.mem = s.mem ∧ t.tows = s.tows := by
  have w := State.regsWf_of_allWf hwf
  have hexec := exec_uplinkFrame (tr := tr) hh hrung hreset hrails harmed
  have hv := State.takeHead_taken w h tr
  rw [State.takeTrailer_mine w hclaim hgrant hholder] at hexec
  generalize s.takeHead h tr = v at hexec hv
  have hj := State.judged_judged hv.form (by rw [hv.frame]; exact hrel)
  generalize v.judged = j at hexec hj
  have hsteer : j.steer = s.steer := by rw [hj.reported.steer, hv.frame]
  have hp := State.frameGood_passed (s := j) (by rw [hsteer]; exact State.axesWf_of_allWf hwf) (by rw [hsteer]; exact hnd) h
  generalize j.frameGood h = t at hexec hp
  refine ⟨t, hexec, ?_, fun a ha => ?_, fun a ha => ?_, ?_, ?_, ?_, ?_⟩
  · split
    · next h0 => rw [hp.lostA, if_pos h0]
    · next h0 => rw [hp.lostB, if_pos (by omega)]
  · rw [hp.mine a ha, State.axisNow_congr hsteer]
  · rw [hp.other a ha, State.axis_congr hsteer]
  · rw [hp.held, hsteer]
  · split
    · next h0 => rw [hp.lostB, if_neg (by omega), hsteer]
    · next h0 => rw [hp.lostA, if_neg h0, hsteer]
  · rw [hp.frame]; rw [hj.reported.mem, hv.frame]
  · rw [hp.frame]; rw [hj.reported.tows, hv.frame]

/-! ## Misses in a row -/

/-- The fields that the control deadline writes. -/
def missFields : List Fld := (List.range 9).map F.REACH_STATUS.MISS_RUN ++ (List.range 9).map F.REACH_MISS.COUNT

/-- The misses in a row after a tick with, or without, a late slot. -/
def runAfter (late : Bool) (run : Nat) : Nat := if late then min 3 (run + 1) else 0

theorem missRun_fits (k : Nat) : (F.REACH_STATUS.MISS_RUN k).lo + (F.REACH_STATUS.MISS_RUN k).width ≤ 32 := by
  simp only [F.REACH_STATUS.MISS_RUN]
  omega

theorem missCount_fits (k : Nat) : (F.REACH_MISS.COUNT k).lo + (F.REACH_MISS.COUNT k).width ≤ 32 := by
  simp only [F.REACH_MISS.COUNT]
  omega

theorem missRun_apart : ∀ k < 9, ∀ j < 9, j ≠ k → Fld.isApart (F.REACH_STATUS.MISS_RUN j) (F.REACH_STATUS.MISS_RUN k) = true ∧
    Fld.isApart (F.REACH_MISS.COUNT j) (F.REACH_STATUS.MISS_RUN k) = true := by decide

theorem missCount_apart : ∀ k < 9, (F.REACH_MISS.COUNT k :: logFields).all (fun f => f.isApart (F.REACH_STATUS.MISS_RUN k)) = true := by decide

theorem duty_apart : ∀ k < 9, (missFields ++ logFields).all (fun f => f.isApart (F.REACH_CTRL.EN k)) = true := by decide

theorem State.reachDeadline_false {s : State} (w : wordsWf 0 s.regs = true) (k : Nat) :
    s.Writes (s.reachDeadline k false) [F.REACH_STATUS.MISS_RUN k] ∧ (s.reachDeadline k false).fget (F.REACH_STATUS.MISS_RUN k) = 0 := by
  unfold State.reachDeadline
  dsimp only
  rw [if_neg (by decide)]
  split
  · next h => exact ⟨.refl w _, h⟩
  · exact ⟨(State.Writes.refl w _).fset (by simp) (missRun_fits k) 0,
      (State.fget_fset_self _ _ _ (missRun_fits k) w).trans (Nat.zero_mod _)⟩

theorem State.reachDeadline_true {s : State} (w : wordsWf 0 s.regs = true) {k : Nat} (hk : k < 9) :
    s.Notes (s.reachDeadline k true) [F.REACH_STATUS.MISS_RUN k, F.REACH_MISS.COUNT k] ∧
      (s.reachDeadline k true).fget (F.REACH_STATUS.MISS_RUN k) = min 3 (s.fget (F.REACH_STATUS.MISS_RUN k) + 1) := by
  unfold State.reachDeadline
  dsimp only
  rw [if_pos rfl]
  generalize hrun : s.fget (F.REACH_STATUS.MISS_RUN k) = run
  have hcount := ((State.Notes.refl w [F.REACH_STATUS.MISS_RUN k, F.REACH_MISS.COUNT k]).fset (f := F.REACH_MISS.COUNT k) (by simp) (missCount_fits k)
    (s.fget (F.REACH_MISS.COUNT k) + 1)).count 0 k 1
  generalize (s.fset (F.REACH_MISS.COUNT k) (s.fget (F.REACH_MISS.COUNT k) + 1)).count 0 k 1 = u at hcount ⊢
  have hset := hcount.fset (f := F.REACH_STATUS.MISS_RUN k) (by simp) (missRun_fits k) (min 3 (run + 1))
  have hval : (u.fset (F.REACH_STATUS.MISS_RUN k) (min 3 (run + 1))).fget (F.REACH_STATUS.MISS_RUN k) = min 3 (run + 1) := by
    rw [State.fget_fset_self _ _ _ (missRun_fits k) hcount.form]
    exact Nat.mod_eq_of_lt (by simp only [F.REACH_STATUS.MISS_RUN]; omega)
  generalize u.fset (F.REACH_STATUS.MISS_RUN k) (min 3 (run + 1)) = v at hset hval ⊢
  have hlogs : ∀ {a b : State}, a.Notes b [] → b.fget (F.REACH_STATUS.MISS_RUN k) = a.fget (F.REACH_STATUS.MISS_RUN k) := fun hab =>
    hab.fget fun f hf => apart_of_test (missCount_apart k hk) f (List.mem_cons_of_mem _ hf)
  have hfirst : v.Notes (if run = 0 then v.logEntry 5 4 .control .reach 0 k else v) [] :=
    ((State.Notes.refl hset.form []).logEntry (by decide) ..).ite (.refl hset.form _)
  generalize (if run = 0 then v.logEntry 5 4 .control .reach 0 k else v) = x at hfirst ⊢
  have hthird : x.Notes (if k = 8 ∧ run = 2 then x.logEntry 6 4 .control .reach 0 k else x) [] :=
    ((State.Notes.refl hfirst.form []).logEntry (by decide) ..).ite (.refl hfirst.form _)
  exact ⟨(hset.trans (hfirst.mono (by simp))).trans (hthird.mono (by simp)), (hlogs hthird).trans ((hlogs hfirst).trans hval)⟩

/-- Each reach on duty counts its misses once, in a range of reaches that keeps their duty. -/
theorem State.deadlines_fold {s : State} (late : State → Nat → Bool) {R : State → Prop}
    (hduty : ∀ u, R u → ∀ k < 9, u.duty k = s.duty k ∧ late u k = late s k)
    (hstep : ∀ u, R u → ∀ k < 9, R (u.reachDeadline k (late s k)) ∧
      ∀ j < 9, (u.reachDeadline k (late s k)).fget (F.REACH_STATUS.MISS_RUN j) =
        if j = k then runAfter (late s k) (u.fget (F.REACH_STATUS.MISS_RUN j)) else u.fget (F.REACH_STATUS.MISS_RUN j)) :
    ∀ ks : List Nat, ks.Nodup → (∀ k ∈ ks, k < 9) → ∀ u, R u →
      R (ks.foldl (fun u k => if u.duty k = 0 then u.reachDeadline k (late u k) else u) u) ∧
      ∀ j < 9, (ks.foldl (fun u k => if u.duty k = 0 then u.reachDeadline k (late u k) else u) u).fget (F.REACH_STATUS.MISS_RUN j) =
        if j ∈ ks ∧ s.duty j = 0 then runAfter (late s j) (u.fget (F.REACH_STATUS.MISS_RUN j)) else u.fget (F.REACH_STATUS.MISS_RUN j) := by
  intro ks
  induction ks with
  | nil => exact fun _ _ u hu => ⟨hu, fun j _ => by rw [if_neg (by simp)]; rfl⟩
  | cons k ks ih =>
    intro hnd hlt u hu
    obtain ⟨hnot, hnd⟩ := List.nodup_cons.mp hnd
    have hk := hlt k (by simp)
    obtain ⟨hd, hl⟩ := hduty u hu k hk
    rw [List.foldl_cons, hd, hl]
    have hv : ∃ v, (if s.duty k = 0 then u.reachDeadline k (late s k) else u) = v ∧ R v ∧ ∀ j < 9, v.fget (F.REACH_STATUS.MISS_RUN j) =
        if j = k ∧ s.duty k = 0 then runAfter (late s k) (u.fget (F.REACH_STATUS.MISS_RUN j)) else u.fget (F.REACH_STATUS.MISS_RUN j) := by
      by_cases h0 : s.duty k = 0
      · obtain ⟨h1, h2⟩ := hstep u hu k hk
        exact ⟨_, if_pos h0, h1, fun j hj => by simp only [h2 j hj, h0, and_true]⟩
      · exact ⟨_, if_neg h0, hu, fun j _ => by simp only [h0, and_false, if_false]⟩
    obtain ⟨v, hev, hRv, hval⟩ := hv
    rw [hev]
    obtain ⟨hR, hruns⟩ := ih hnd (fun j hj => hlt j (by simp [hj])) v hRv
    refine ⟨hR, fun j hj => ?_⟩
    rw [hruns j hj, hval j hj]
    by_cases hjk : j = k
    · subst hjk
      simp [hnot]
    · simp [hjk]

/-! ## The deadline of a tick without late slots -/

theorem State.duty_of_writes {s u : State} (h : s.Notes u missFields) {k : Nat} (hk : k < 9) : u.duty k = s.duty k := by
  have hen : u.fget (F.REACH_CTRL.EN k) = s.fget (F.REACH_CTRL.EN k) := h.fget (apart_of_test (duty_apart k hk))
  have hstate : u.fget F.PAIR_STATUS.STATE = s.fget F.PAIR_STATUS.STATE := h.fget (apart_of_test (by decide))
  have hrung : u.rung = s.rung := h.fget (apart_of_test (by decide))
  have hcomp : u.computing = s.computing := by rw [State.computing, State.computing, State.active, State.active, hstate, hrung, h.pair]
  rw [State.duty, State.duty, hcomp, State.bit, State.bit, hen, h.steer]

theorem State.driverOf_of_steer {s u : State} (h : u.steer = s.steer) (a : Nat) : u.driverOf a = s.driverOf a := by
  unfold State.driverOf State.reachOf State.placeOf State.lawReach
  rw [h]

theorem State.Writes.notes {s t : State} {l : List Fld} (h : s.Writes t l) : s.Notes t l := by
  refine ⟨h.form, fun g hg => h.kept g fun f hf => hg f (List.mem_append_left _ hf), ?_, ?_⟩
  · rw [h.frame]; rfl
  · rw [h.frame]; rfl

/-- What the deadline of a reach makes of the misses in a row of every reach. -/
theorem State.reachDeadline_runs {u : State} (w : wordsWf 0 u.regs = true) {k : Nat} (hk : k < 9) (late : Bool) {j : Nat} (hj : j < 9) :
    (u.reachDeadline k late).fget (F.REACH_STATUS.MISS_RUN j) =
      if j = k then runAfter late (u.fget (F.REACH_STATUS.MISS_RUN j)) else u.fget (F.REACH_STATUS.MISS_RUN j) := by
  have hlog := fun f hf => apart_of_test (missCount_apart j hj) f (List.mem_cons_of_mem _ hf)
  split
  · next h =>
    subst h
    cases late with
    | true => exact (State.reachDeadline_true w hk).2
    | false => exact (State.reachDeadline_false w j).2
  · next h =>
    obtain ⟨h1, h2⟩ := missRun_apart j hj k hk (Ne.symm h)
    cases late with
    | true =>
      refine (State.reachDeadline_true w hk).1.fget fun f hf => ?_
      rcases List.mem_append.mp hf with hf | hf
      · simp only [List.mem_cons, List.not_mem_nil, or_false] at hf
        rcases hf with rfl | rfl
        · exact Fld.apart_of_test h1
        · exact Fld.apart_of_test h2
      · exact hlog f hf
    | false =>
      refine (State.reachDeadline_false w k).1.fget fun f hf => ?_
      rw [List.mem_singleton.mp hf]
      exact Fld.apart_of_test h1

theorem missRun_mem {k : Nat} (hk : k < 9) : F.REACH_STATUS.MISS_RUN k ∈ (List.range 9).map F.REACH_STATUS.MISS_RUN :=
  List.mem_map_of_mem (List.mem_range.mpr hk)

theorem missFields_mem {k : Nat} (hk : k < 9) : ∀ f ∈ [F.REACH_STATUS.MISS_RUN k, F.REACH_MISS.COUNT k], f ∈ missFields := by
  intro f hf
  simp only [List.mem_cons, List.not_mem_nil, or_false] at hf
  rcases hf with rfl | rfl
  · exact List.mem_append_left _ (missRun_mem hk)
  · exact List.mem_append_right _ (List.mem_map_of_mem (List.mem_range.mpr hk))

theorem State.shadowLate_nil (s : State) : s.shadowLate [] = s := by
  unfold State.shadowLate
  split
  · rw [if_neg (by simp)]
  · rfl

theorem deadline_none {s : State} (hwf : s.allWf = true) (hrung : s.rung ≤ 2) :
    ∃ t, exec (.controlDeadline []) s = .next t ∧ t = { s with regs := t.regs } ∧
      fieldsKept s t ((List.range 9).map F.REACH_STATUS.MISS_RUN) ∧
      (∀ k, k < 9 → s.duty k = 0 → t.fget (F.REACH_STATUS.MISS_RUN k) = 0) := by
  have w := State.regsWf_of_allWf hwf
  have hexec : exec (.controlDeadline []) s = .next ((List.range 9).foldl (fun u k => if u.duty k = 0 then u.reachDeadline k false else u) s) := by
    show execControlDeadline [] s = _
    rw [execControlDeadline, if_pos hrung, deadline]
    simp only [List.filter_nil, List.foldl_nil, State.shadowLate_nil, if_true, List.any_nil]
    rfl
  have hsome : ∀ {u : State}, s.Writes u ((List.range 9).map F.REACH_STATUS.MISS_RUN) → s.Notes u missFields := fun hu =>
    hu.notes.mono fun _ hf => List.mem_append_left _ hf
  obtain ⟨hR, hruns⟩ := State.deadlines_fold (s := s) (fun _ _ => false) (R := fun u => s.Writes u ((List.range 9).map F.REACH_STATUS.MISS_RUN))
    (fun u hu k hk => ⟨State.duty_of_writes (hsome hu) hk, rfl⟩)
    (fun u hu k hk => ⟨hu.trans ((State.reachDeadline_false hu.form k).1.mono fun f hf => by rw [List.mem_singleton.mp hf]; exact missRun_mem hk),
      fun j hj => State.reachDeadline_runs hu.form hk false hj⟩)
    (List.range 9) List.nodup_range (fun k hk => List.mem_range.mp hk) s (.refl w _)
  refine ⟨_, hexec, hR.frame, hR.kept, fun k hk h0 => ?_⟩
  rw [hruns k hk, if_pos ⟨List.mem_range.mpr hk, h0⟩]
  rfl

/-! ## A late slot -/

/-- Of a slot: drive, integrator and filter. -/
def Axis.slot (x : Axis) : Half × BitVec 40 × BitVec 32 := (x.u, x.i, x.d)

theorem Axis.fget_miss (x : Axis) : (x.fset (F.AXIS_FLAGS.MISS 0 0) 1).fget (F.AXIS_FLAGS.MISS 0 0) = 1 :=
  (x.fget_fset_self (by decide) 1).trans (by decide)

/-- t is s with axes, held results and what they replaced changed, and the repetitive memory. -/
def State.SlotMoved (s t : State) : Prop :=
  t = { s with steer := { s.steer with axes := t.steer.axes, held := t.steer.held, undo := t.steer.undo, rep := t.steer.rep } }

namespace State.SlotMoved

variable {s t u : State}

theorem trans (h : s.SlotMoved t) (k : t.SlotMoved u) : s.SlotMoved u := by
  rw [State.SlotMoved] at h k ⊢
  rw [k, h]

theorem modAxis (s : State) (a : Nat) (f : Axis → Axis) : s.SlotMoved (s.modAxis a f) := rfl

end State.SlotMoved

theorem State.dropRep_spec (s : State) (a : Nat) : s.SlotMoved (s.dropRep a) ∧ (s.dropRep a).steer.axes = s.steer.axes := by
  unfold State.dropRep
  dsimp only
  split
  · exact ⟨rfl, rfl⟩
  · exact ⟨rfl, rfl⟩

/-- The machine without what an axis's taken result replaced. -/
def State.dropUndo (s : State) (a : Nat) : State := { s with steer := { s.steer with undo := s.steer.undo.filter (fun r => r.axis ≠ a) } }

/-- The machine without an axis's held result. -/
def State.dropHeld (s : State) (a : Nat) : State := { s with steer := { s.steer with held := s.steer.held.filter (fun r => r.axis ≠ a) } }

/-- A slot whose result is held goes on along its trajectory (R52). -/
def State.goOn (s : State) (a : Nat) : State :=
  match s.steer.held.find? (fun h => h.axis = a) with
  | some h => s.modAxis a (fun x => x.keepTraj h.new)
  | none => s

theorem State.missSlot_taken {s : State} {a : Nat} {h : HeldResult} (hu : s.steer.undo.find? (fun h => decide (h.axis = a)) = some h) :
    s.missSlot a = ((s.dropRep a).dropUndo a).modAxis a (fun _ => (h.new.keepTraj (s.axis a)).fset (F.AXIS_FLAGS.MISS 0 0) 1) := by
  unfold State.missSlot
  rw [hu]
  rfl

theorem State.missSlot_held {s : State} {a : Nat} (hu : s.steer.undo.find? (fun h => decide (h.axis = a)) = none) :
    s.missSlot a = ((s.goOn a).dropHeld a).modAxis a (fun x => x.fset (F.AXIS_FLAGS.MISS 0 0) 1) := by
  unfold State.missSlot
  rw [hu]
  rfl

theorem State.goOn_spec {s : State} (w : spWf {} 0 s.steer.axes = true) (a : Nat) : s.SlotMoved (s.goOn a) ∧
    spWf {} 0 (s.goOn a).steer.axes = true ∧ ((s.goOn a).axis a).slot = (s.axis a).slot ∧ ∀ b, b ≠ a → (s.goOn a).axis b = s.axis b := by
  unfold State.goOn
  split
  · refine ⟨rfl, State.modAxis_axesWf w .., ?_, fun b hb => State.axis_modAxis_ne s hb _⟩
    rw [State.axis_modAxis_self w]
    rfl
  · exact ⟨rfl, w, rfl, fun _ _ => rfl⟩

/-- A late slot keeps what it held before the tick and shows MISS; no other axis changes. -/
theorem State.missSlot_spec {s : State} (w : spWf {} 0 s.steer.axes = true) (a : Nat) : s.SlotMoved (s.missSlot a) ∧
    ((s.missSlot a).axis a).fget (F.AXIS_FLAGS.MISS 0 0) = 1 ∧ ((s.missSlot a).axis a).slot = (s.axisBefore a).slot ∧
    ∀ b, b ≠ a → (s.missSlot a).axis b = s.axis b := by
  cases hu : s.steer.undo.find? (fun h => decide (h.axis = a)) with
  | some h =>
    have hbefore : s.axisBefore a = h.new := by rw [State.axisBefore, hu]
    rw [State.missSlot_taken hu, hbefore]
    obtain ⟨hmoved, haxes⟩ := s.dropRep_spec a
    have hundo : (s.dropRep a).SlotMoved ((s.dropRep a).dropUndo a) := rfl
    have haxes' : ((s.dropRep a).dropUndo a).steer.axes = s.steer.axes := haxes
    generalize (s.dropRep a).dropUndo a = u at hundo haxes' ⊢
    have wu : spWf {} 0 u.steer.axes = true := by rw [haxes']; exact w
    refine ⟨(hmoved.trans hundo).trans (.modAxis ..), ?_, ?_, fun b hb => ?_⟩
    · rw [State.axis_modAxis_self wu]
      exact Axis.fget_miss _
    · rw [State.axis_modAxis_self wu]
      rfl
    · rw [State.axis_modAxis_ne u hb, State.axis_of_axes haxes']
  | none =>
    have hbefore : s.axisBefore a = s.axis a := by rw [State.axisBefore, hu]
    rw [State.missSlot_held hu, hbefore]
    obtain ⟨hmoved, wg, hslot, hother⟩ := State.goOn_spec w a
    have hheld : (s.goOn a).SlotMoved ((s.goOn a).dropHeld a) := rfl
    have haxes : ((s.goOn a).dropHeld a).steer.axes = (s.goOn a).steer.axes := rfl
    generalize (s.goOn a).dropHeld a = u at hheld haxes ⊢
    have wu : spWf {} 0 u.steer.axes = true := by rw [haxes]; exact wg
    refine ⟨(hmoved.trans hheld).trans (.modAxis ..), ?_, ?_, fun b hb => ?_⟩
    · rw [State.axis_modAxis_self wu]
      exact Axis.fget_miss _
    · rw [State.axis_modAxis_self wu, ← hslot, ← State.axis_of_axes haxes]
      rfl
    · rw [State.axis_modAxis_ne u hb, State.axis_of_axes haxes, hother b hb]

theorem State.shadowLate_spec (s : State) (l : List Nat) : s.shadowLate l = { s with steer := { s.steer with relief := (s.shadowLate l).steer.relief } } ∧
    (∀ r, (s.shadowLate l).duty r = s.duty r) ∧ ∀ a, (s.shadowLate l).driverOf a = s.driverOf a := by
  unfold State.shadowLate
  split
  · next q hq =>
    split
    · refine ⟨rfl, fun r => ?_, fun a => ?_⟩
      · show State.duty (s.setRelief _) r = _
        unfold State.duty
        rw [hq]
        rfl
      · unfold State.driverOf State.lawReach
        rw [hq]
        rfl
    · exact ⟨rfl, fun _ => rfl, fun _ => rfl⟩
  · exact ⟨rfl, fun _ => rfl, fun _ => rfl⟩

/-- The codes of the late slots go out again (R52). -/
def State.sendLate (s : State) (slots : List Nat) : State :=
  [0, 1].foldl (fun s h =>
    let cs := (slots.filter (fun a => axisSide a = h)).map (fun a => (a, (s.axis a).u))
    if cs = [] then s else s.emit (.codes h cs 0 0)) s

theorem State.sendLate_spec (s : State) (slots : List Nat) : s.sendLate slots = { s with out := (s.sendLate slots).out } :=
  List.foldlRecOn (motive := fun u : State => u = { s with out := u.out }) [0, 1] _ rfl fun u hu h _ => by
    dsimp only
    split
    · exact hu
    · rw [hu]; rfl

theorem deadline_late {s : State} (hwf : s.allWf = true) (hrung : s.rung ≤ 2) {a : Nat} (ha : a < 4640) (hst : (s.axis a).st ≠ 6)
    (hruns : s.reachRuns (s.reachOf a) = true) (hk : s.driverOf a < 9) (hduty : s.duty (s.driverOf a) = 0) :
    ∃ t, exec (.controlDeadline [a]) s = .next t ∧ (t.axis a).fget (F.AXIS_FLAGS.MISS 0 0) = 1 ∧
      (t.axis a).u = (s.axisBefore a).u ∧ (t.axis a).i = (s.axisBefore a).i ∧ (t.axis a).d = (s.axisBefore a).d ∧
      (∀ b, b ≠ a → t.axis b = s.axis b) ∧
      t.fget (F.REACH_STATUS.MISS_RUN (s.driverOf a)) = min 3 (s.fget (F.REACH_STATUS.MISS_RUN (s.driverOf a)) + 1) ∧ t.mem = s.mem := by
  obtain ⟨hmoved, hmiss, hslot, hother⟩ := State.missSlot_spec (State.axesWf_of_allWf hwf) a
  have hexec : exec (.controlDeadline [a]) s = .next ((List.range 9).foldl
      (fun u k => if u.duty k = 0 then u.reachDeadline k ([a].any (fun a => decide (u.driverOf a = k))) else u)
      (((s.missSlot a).shadowLate [a]).sendLate [a])) := by
    show execControlDeadline [a] s = _
    rw [execControlDeadline, if_pos hrung, deadline]
    have hslots : [a].filter (fun a => decide ((s.axis a).st ≠ 6) && s.reachRuns (s.reachOf a)) = [a] := by simp [hst, hruns]
    rw [hslots]
    simp only [List.foldl_cons, List.foldl_nil, List.cons_ne_nil, if_false]
    exact if_pos (by simp [okAxis, ha])
  generalize s.missSlot a = m at *
  obtain ⟨hframe, hdutyM, hdriverM⟩ := m.shadowLate_spec [a]
  generalize m.shadowLate [a] = n at *
  have hout := n.sendLate_spec [a]
  generalize n.sendLate [a] = o at *
  have hdutyO : ∀ r, o.duty r = s.duty r := fun r => by
    have h1 : o.duty r = n.duty r := by rw [hout]; rfl
    have h2 : m.duty r = s.duty r := by rw [hmoved]; rfl
    rw [h1, hdutyM, h2]
  have hdriverO : ∀ b, o.driverOf b = s.driverOf b := fun b => by
    have h1 : o.driverOf b = n.driverOf b := by rw [hout]; rfl
    have h2 : m.driverOf b = s.driverOf b := by rw [hmoved]; rfl
    rw [h1, hdriverM, h2]
  have hregs : o.regs = s.regs := by rw [hout, hframe, hmoved]
  have hmem : o.mem = s.mem := by rw [hout, hframe, hmoved]
  have haxes : o.steer.axes = m.steer.axes := by rw [hout, hframe]
  have w : wordsWf 0 o.regs = true := by rw [hregs]; exact State.regsWf_of_allWf hwf
  clear hout hframe hmoved
  obtain ⟨hR, hruns⟩ := State.deadlines_fold (s := o) (fun u k => [a].any (fun a => decide (u.driverOf a = k))) (R := fun u => o.Notes u missFields)
    (fun u hu k hk => ⟨State.duty_of_writes hu hk, by simp only [State.driverOf_of_steer hu.steer]⟩)
    (fun u hu k hk => ⟨hu.trans (by
        cases [a].any (fun a => decide (o.driverOf a = k)) with
        | true => exact (State.reachDeadline_true hu.form hk).1.mono (missFields_mem hk)
        | false => exact (State.reachDeadline_false hu.form k).1.notes.mono fun f hf => missFields_mem hk f (by simp [List.mem_singleton.mp hf])),
      fun j hj => State.reachDeadline_runs hu.form hk _ hj⟩)
    (List.range 9) List.nodup_range (fun k hk => List.mem_range.mp hk) o (.refl w _)
  have haxis : ∀ b, ((List.range 9).foldl (fun u k => if u.duty k = 0 then u.reachDeadline k ([a].any (fun a => decide (u.driverOf a = k))) else u) o).axis b =
      m.axis b := fun b => by rw [State.axis_congr hR.steer, State.axis_of_axes haxes]
  have hparts := hslot
  simp only [Axis.slot, Prod.mk.injEq] at hparts
  obtain ⟨hu, hi, hd⟩ := hparts
  refine ⟨_, hexec, by rw [haxis]; exact hmiss, by rw [haxis]; exact hu, by rw [haxis]; exact hi, by rw [haxis]; exact hd, fun b hb => ?_, ?_, ?_⟩
  · rw [haxis, hother b hb]
  · rw [hruns _ hk, if_pos ⟨List.mem_range.mpr hk, by rw [hdutyO, hduty]⟩, State.fget_of_regs hregs]
    simp [runAfter, hdriverO]
  · rw [hR.mem, hmem]

/-! ## The statement -/

/-- Settles O16: a tick is its end, its boundary, its compute and what is sent after; each leaves the clockwork; and a frame or a deadline
changes the axes of its slots. -/
theorem ticksAndFrames : Obligations.TicksAndFrames := by
  unfold Obligations.TicksAndFrames
  refine ⟨fun s quads setpt errs hrung hpart => ?_, fun s h tr hwf hh hrung hreset hrails harmed _ _ hclaim hgrant hrel hholder hnd =>
    uplinkFrame_good hwf hh hrung hreset hrails harmed hclaim hgrant hrel hholder hnd,
    fun s h bad hwf hh hrung => frameLost_spec hwf hh hrung bad, fun s hwf hrung => deadline_none hwf hrung,
    fun s a hwf hrung ha hst hruns hk hduty => deadline_late hwf hrung ha hst hruns hk hduty⟩
  intro last hdue
  obtain ⟨t, hexec, htick, hrest⟩ := sampleTick_spec hrung hpart (last := last) rfl hdue quads setpt errs
  refine ⟨t, hexec, fun hown => ?_, fun f hf hact => ?_, hrest⟩
  · rw [htick, State.nextTick]
    cases hc : s.pair.copy with
    | none => rfl
    | some f =>
      have hact : s.active = true := hown.resolve_right (by simp [hc])
      simp [hact]
  · rw [htick, State.nextTick, hf]
    simp [hact]

end Sys2Proof.Machine
end

section
/-!
PROOFS. The windlass (R209, R211–R213): what a change of the pair state, a grant, a refusal and a deposition leave of the machine.
-/

namespace Sys2Proof.Machine

/-! ## A change of the pair state -/

/-- The machine but for its ports, clocks and boot record, which a change of the pair state works on. -/
def State.seat (s : State) : State := { s with fabric := {}, time := {}, boot := {} }

/-- t is s after a change of seat: ports, clocks, the boot record, register fields of l, completions and reports. -/
structure State.Seated (s t : State) (l : List Fld) : Prop where
  leaves : State.Leaves State.seat s t l
  serving : s.Serving t

namespace State.Seated

variable {s t u : State} {l m : List Fld}

theorem refl (wr : wordsWf 0 s.regs = true) (wq : spWf {} 0 s.link.queues = true) (l : List Fld) : s.Seated s l := ⟨.refl _ wr l, .refl wq⟩

theorem trans (h : s.Seated t l) (k : t.Seated u l) : s.Seated u l := ⟨h.leaves.trans k.leaves, h.serving.trans k.serving⟩

theorem mono (h : s.Seated t l) (hl : ∀ f ∈ l, f ∈ m) : s.Seated t m := ⟨h.leaves.mono hl, h.serving⟩

theorem step (h : s.Seated t l) (hregs : u.regs = t.regs) (hrest : u.wipe.seat = t.wipe.seat) (hlink : u.link = t.link) : s.Seated u l :=
  ⟨h.leaves.step hregs hrest, h.serving.link hlink⟩

theorem fset (h : s.Seated t l) {f : Fld} (hf : f ∈ l ++ logFields) (fits : f.lo + f.width ≤ 32) (v : Nat) : s.Seated (t.fset f v) l :=
  ⟨h.leaves.fset hf fits v, h.serving.link rfl⟩

theorem count (h : s.Seated t l) (g i n : Nat) : s.Seated (t.count g i n) l := ⟨h.leaves.count g i n, h.serving.link rfl⟩

theorem notes (h : s.Seated t l) (k : t.Notes u l) : s.Seated u l :=
  ⟨h.leaves.notes k, h.serving.trans (.of_serves ((State.Serves.refl h.serving.form).notes k))⟩

theorem logEntry (h : s.Seated t l) {sev : Nat} (hsev : sev < 8) (source : Nat) (cls : Cls) (kind : Obj) (reason a0 a1 : Nat) :
    s.Seated (t.logEntry sev source cls kind reason a0 a1) l :=
  h.notes ((State.Notes.refl h.leaves.form l).logEntry hsev source cls kind reason a0 a1)

theorem msix (h : s.Seated t l) (v : Nat) : s.Seated (t.msix v) l := h.notes ((State.Notes.refl h.leaves.form l).msix v)

theorem event (h : s.Seated t l) (e : Nat) (b : List Byte) : s.Seated (t.event e b) l :=
  ⟨h.leaves.event e b, h.serving.trans (.of_serves ((State.Serves.refl h.serving.form).event e b))⟩

theorem complete (h : s.Seated t l) (op : Nat) (src : Src) (detail : Nat) (result : List Byte) :
    s.Seated (t.complete op src .done 0 detail result) l :=
  ⟨h.leaves.step (State.complete_done_regs ..) (congrArg State.seat (State.complete_wipe ..)), h.serving.complete op src detail result⟩

theorem foldl {α : Type} {f : State → α → State} {is : List α} (h : s.Seated t l) (hstep : ∀ u, s.Seated u l → ∀ i ∈ is, s.Seated (f u i) l) :
    s.Seated (is.foldl f t) l := List.foldlRecOn is f h hstep

theorem ite {c : Prop} [Decidable c] (ht : s.Seated t l) (hu : s.Seated u l) : s.Seated (if c then t else u) l := by
  split
  · exact ht
  · exact hu

theorem modPort (h : s.Seated t l) (p : Nat) (f : Port → Port) : s.Seated (t.modPort p f) l := h.step rfl rfl rfl

theorem berthDone (h : s.Seated t l) (p : Nat) : s.Seated (t.berthDone p) l := (h.modPort p _).foldl fun _ hu _ _ => hu.complete ..

theorem dropChecks (h : s.Seated t l) : s.Seated t.dropChecks l :=
  State.Seated.foldl (h.step (u := { t with fabric := { t.fabric with pass := none } }) rfl rfl rfl) fun _ hu p _ => (hu.modPort p _).berthDone p

theorem endCheck (h : s.Seated t l) (p : Nat) : s.Seated (t.endCheck p true) l := h.modPort p _

theorem recordBoot (h : s.Seated t l) : s.Seated t.recordBoot l := h.step rfl rfl rfl

theorem fget (h : s.Seated t l) {f : Fld} (hf : ∀ x ∈ l ++ logFields, Fld.apart x f) : t.fget f = s.fget f := h.leaves.fget hf

theorem steer (h : s.Seated t l) : t.steer = s.steer := (congrArg State.steer h.leaves.rest :)
theorem map (h : s.Seated t l) : t.map = s.map := (congrArg State.map h.leaves.rest :)
theorem lock (h : s.Seated t l) : t.lock = s.lock := (congrArg State.lock h.leaves.rest :)
theorem tows (h : s.Seated t l) : t.tows = s.tows := (congrArg State.tows h.leaves.rest :)
theorem mem (h : s.Seated t l) : t.mem = s.mem := (congrArg State.mem h.leaves.rest :)
theorem pair (h : s.Seated t l) : t.pair = s.pair := (congrArg State.pair h.leaves.rest :)

end State.Seated

/-- What a change of the pair state does once the state and its reason are set. -/
def State.moved (s : State) (old new : Nat) : State :=
  let s : State := if new = 3 then { s with time := { s.time with tb2Free := false } } else s
  let s := if old = 3 ∧ new ≠ 3 then s.dropChecks else s
  if new = old then s else (s.pairEvent old).msix 2

theorem State.setPair_eq (s : State) (new reason : Nat) : s.setPair new reason =
    ((s.fset F.PAIR_STATUS.STATE new).fset F.PAIR_STATUS.REASON reason).moved (s.fget F.PAIR_STATUS.STATE) new := rfl

theorem State.Seated.moved {s t : State} {l : List Fld} (h : s.Seated t l) (old new : Nat) : s.Seated (t.moved old new) l := by
  have hfree : s.Seated (if new = 3 then { t with time := { t.time with tb2Free := false } } else t) l := by
    refine .ite ?_ h
    exact h.step rfl rfl rfl
  unfold State.moved
  dsimp only
  generalize (if new = 3 then { t with time := { t.time with tb2Free := false } } else t) = u at hfree ⊢
  have hdrop : s.Seated (if old = 3 ∧ new ≠ 3 then u.dropChecks else u) l := hfree.dropChecks.ite hfree
  generalize (if old = 3 ∧ new ≠ 3 then u.dropChecks else u) = v at hdrop ⊢
  split
  · exact hdrop
  · exact (hdrop.event 5 _).msix 2

/-- The pair state and its reason are set; the rest is a change of seat. -/
theorem State.setPair_seated {s : State} (wr : wordsWf 0 s.regs = true) (wq : spWf {} 0 s.link.queues = true) {new reason : Nat}
    (hnew : new < 8) (hreason : reason < 16) : s.Seated (s.setPair new reason) pairFields ∧
      (s.setPair new reason).fget F.PAIR_STATUS.STATE = new ∧ (s.setPair new reason).fget F.PAIR_STATUS.REASON = reason := by
  have hset : s.Seated ((s.fset F.PAIR_STATUS.STATE new).fset F.PAIR_STATUS.REASON reason) pairFields :=
    ((State.Seated.refl wr wq _).fset (by simp [pairFields]) (by decide) new).fset (by simp [pairFields]) (by decide) reason
  have hstate := s.fset_wf F.PAIR_STATUS.STATE new wr
  have hst : ((s.fset F.PAIR_STATUS.STATE new).fset F.PAIR_STATUS.REASON reason).fget F.PAIR_STATUS.STATE = new := by
    rw [State.fget_fset_apart _ _ _ _ (by decide) hstate (Fld.apart_of_test (by decide)), State.fget_fset_self _ _ _ (by decide) wr]
    exact Nat.mod_eq_of_lt hnew
  have hre : ((s.fset F.PAIR_STATUS.STATE new).fset F.PAIR_STATUS.REASON reason).fget F.PAIR_STATUS.REASON = reason := by
    rw [State.fget_fset_self _ _ _ (by decide) hstate]
    exact Nat.mod_eq_of_lt hreason
  rw [State.setPair_eq]
  generalize (s.fset F.PAIR_STATUS.STATE new).fset F.PAIR_STATUS.REASON reason = u at hset hst hre ⊢
  have hmoved := (State.Seated.refl hset.leaves.form hset.serving.form []).moved (s.fget F.PAIR_STATUS.STATE) new
  exact ⟨hset.moved _ _, (hmoved.fget (apart_of_test (by decide))).trans hst, (hmoved.fget (apart_of_test (by decide))).trans hre⟩

/-! ## A grant -/

/-- The machine by head A's grant: what the pair notes, and its cycles carry HANDOVER where it takes over. -/
def State.crowned (s : State) (takeover : Bool) : State :=
  { s with
    pair := { s.pair with grantA := true, copy := none, tickAt := none, gap := none, snapshot := false, owed := []
                          continueDue := s.pair.continueDue && takeover }
    lock := if takeover then { s.lock with cycles := s.lock.cycles.map (fun c => { c with handover := true }) } else s.lock }

/-- TOOK_OVER is shown and counted where the module takes over. -/
def State.showTakeover (s : State) (takeover : Bool) : State := if takeover then (s.fset F.PAIR_STATUS.TOOK_OVER 1).count 3 8 else s

/-- Every port under check is to be checked again. -/
def State.recheckPorts (s : State) : State := (s.fabric.ports.filter (fun p => p.2.checking)).foldl (fun s p => s.endCheck p.1 true) s

theorem State.becomeActive_eq (s : State) (takeover : Bool) : s.becomeActive takeover =
    ((((((s.crowned takeover).showTakeover takeover).recheckPorts).setPair 3 0).fset F.PAIR_STATUS.COPY_AGE 0).fset F.PAIR_STATUS.ORPHANED 0).recordBoot := by
  cases takeover with
  | true => rfl
  | false => rfl

/-- The fields that a grant writes. -/
def grantFields : List Fld :=
  [F.PAIR_STATUS.STATE, F.PAIR_STATUS.REASON, F.PAIR_STATUS.COPY_AGE, F.PAIR_STATUS.ORPHANED, F.PAIR_STATUS.TOOK_OVER]

theorem State.recordBoot_fget (s : State) (f : Fld) : s.recordBoot.fget f = s.fget f := rfl

theorem State.becomeActive_seated {s : State} (wr : wordsWf 0 s.regs = true) (wq : spWf {} 0 s.link.queues = true) (takeover : Bool) :
    (s.crowned takeover).Seated (s.becomeActive takeover) grantFields ∧ (s.becomeActive takeover).fget F.PAIR_STATUS.STATE = 3 ∧
      (s.becomeActive takeover).fget F.PAIR_STATUS.REASON = 0 ∧ (s.becomeActive takeover).fget F.PAIR_STATUS.ORPHANED = 0 ∧
      (takeover = true → (s.becomeActive takeover).fget F.PAIR_STATUS.TOOK_OVER = 1) := by
  have h0 : (s.crowned takeover).Seated (s.crowned takeover) grantFields := .refl (s := s.crowned takeover) wr wq _
  rw [State.becomeActive_eq]
  generalize s.crowned takeover = c at h0 ⊢
  have hshow : c.Seated (c.showTakeover takeover) grantFields ∧ (takeover = true → (c.showTakeover takeover).fget F.PAIR_STATUS.TOOK_OVER = 1) := by
    unfold State.showTakeover
    split
    · exact ⟨(h0.fset (by simp [grantFields]) (by decide) 1).count 3 8 1, fun _ =>
        (State.fget_of_regs (State.count_regs ..) _).trans (State.fget_fset_self c _ 1 (by decide) h0.leaves.form)⟩
    · next hf => exact ⟨h0, fun ht => absurd ht hf⟩
  obtain ⟨hseat, htook⟩ := hshow
  generalize c.showTakeover takeover = d at hseat htook ⊢
  have hports : d.Seated d.recheckPorts [] := (State.Seated.refl hseat.leaves.form hseat.serving.form _).foldl fun _ hu p _ => hu.endCheck p.1
  generalize d.recheckPorts = e at hports ⊢
  obtain ⟨hset, hst, hre⟩ := State.setPair_seated hports.leaves.form hports.serving.form (new := 3) (reason := 0) (by decide) (by decide)
  generalize e.setPair 3 0 = f at hset hst hre ⊢
  have hage := f.fset_wf F.PAIR_STATUS.COPY_AGE 0 hset.leaves.form
  have hlast : f.Seated (((f.fset F.PAIR_STATUS.COPY_AGE 0).fset F.PAIR_STATUS.ORPHANED 0).recordBoot) [F.PAIR_STATUS.COPY_AGE, F.PAIR_STATUS.ORPHANED] :=
    (((State.Seated.refl hset.leaves.form hset.serving.form _).fset (by simp) (by decide) 0).fset (by simp) (by decide) 0).recordBoot
  have horphan : (((f.fset F.PAIR_STATUS.COPY_AGE 0).fset F.PAIR_STATUS.ORPHANED 0).recordBoot).fget F.PAIR_STATUS.ORPHANED = 0 :=
    (State.recordBoot_fget ..).trans (State.fget_fset_self _ _ 0 (by decide) hage)
  generalize ((f.fset F.PAIR_STATUS.COPY_AGE 0).fset F.PAIR_STATUS.ORPHANED 0).recordBoot = g at hlast horphan ⊢
  refine ⟨((hseat.trans (hports.mono (by simp))).trans (hset.mono ?_)).trans (hlast.mono ?_), ?_, ?_, horphan, fun ht => ?_⟩
  · simp [pairFields, grantFields]
  · simp [grantFields]
  · rw [hlast.fget (apart_of_test (by decide)), hst]
  · rw [hlast.fget (apart_of_test (by decide)), hre]
  · rw [hlast.fget (apart_of_test (by decide)), hset.fget (apart_of_test (by decide)), hports.fget (apart_of_test (by decide)), htook ht]

/-! ## A handover that ends -/

/-- The machine with no handover asked for. -/
def State.handedOver (s : State) : State :=
  { s with pair := { s.pair with releasing := none, parting := false, cold := none, coldStep := 0, heldCodes := [], heldFrom := [] } }

theorem State.handoverDone_none {s : State} (hrel : s.pair.releasing = none) (hcold : s.pair.cold = none) (ok : Bool) :
    s.handoverDone ok = s.handedOver := by
  unfold State.handoverDone
  rw [hrel, hcold]
  rfl

theorem State.handoverDone_cold {s : State} {src : Src} (hrel : s.pair.releasing = none) (hcold : s.pair.cold = some src) (ok : Bool) :
    s.handoverDone ok = if ok then s.handedOver.complete 0x91 src .done else s.handedOver.complete 0x91 src .failed Reason.grant.code := by
  unfold State.handoverDone
  rw [hrel, hcold]
  rfl

end Sys2Proof.Machine
end

section
/-!
PROOFS. A head's frame on a module that claims, holds a grant or is deposed (R209, R211–R213).
-/

namespace Sys2Proof.Machine

/-! ## The end of a frame -/

/-- t is s at the end of a head's frame: an orphan or not, ready or not, and with the head's results taken. -/
structure State.FrameEnd (s t : State) : Prop where
  pair : t.pair = s.pair
  lock : t.lock = s.lock
  mem : t.mem = s.mem
  tows : t.tows = s.tows
  map : t.map = s.map
  kept : fieldsKept s t ([F.PAIR_STATUS.ORPHANED, F.KEEL_STATUS.READY] ++ logFields)
  orphan : s.fget F.PAIR_STATUS.STATE = 3 → s.fget F.PAIR_STATUS.ORPHANED = 0 → t.fget F.PAIR_STATUS.ORPHANED = 0
  held : s.steer.held = [] → t.steer.held = [] ∧ t.steer.axes = s.steer.axes
  queued : spWf {} 0 s.link.queues = true → s.Queued t

theorem State.frameGood_frame (s : State) (h : Nat) : s.frameGood h =
    { s with steer := (s.frameGood h).steer, counters := (s.frameGood h).counters, out := (s.frameGood h).out } := by
  rw [State.frameGood_eq]
  have hframe := State.takeResults_frame (s.heldOf h) (s.passed h)
  generalize (s.heldOf h).foldl State.takeResult (s.passed h) = v at hframe ⊢
  have hslots : v.Slots (((v.shadowFrame h true).count 0 15 ((s.heldOf h).filter (fun r => r.new.outNow)).length).sendCodes h) :=
    ((State.Slots.shadowFrame v h true).trans (.count ..)).trans (.sendCodes _ h)
  generalize ((v.shadowFrame h true).count 0 15 ((s.heldOf h).filter (fun r => r.new.outNow)).length).sendCodes h = t at hslots ⊢
  rw [hslots, hframe]
  rfl

theorem State.frameGood_empty {s : State} (hheld : s.steer.held = []) (h : Nat) :
    (s.frameGood h).steer.held = [] ∧ (s.frameGood h).steer.axes = s.steer.axes := by
  have hof : s.heldOf h = [] := by rw [State.heldOf, hheld]; rfl
  have hpassed : (s.passed h).steer.held = [] := by
    show s.steer.held.filter _ = []
    rw [hheld]
    rfl
  have haxes : (s.passed h).steer.axes = s.steer.axes := rfl
  rw [State.frameGood_eq, hof, List.foldl_nil]
  generalize s.passed h = v at hpassed haxes ⊢
  refine ⟨?_, ?_⟩
  · rw [State.sendCodes_steer, State.count_steer, (State.Slots.shadowFrame v h true).held, hpassed]
  · rw [State.sendCodes_steer, State.count_steer, State.shadowFrame_axes, haxes]

theorem State.judgeOrphan_active {s : State} (hst : s.fget F.PAIR_STATUS.STATE = 3) (ho : s.fget F.PAIR_STATUS.ORPHANED = 0) :
    s.judgeOrphan = s := by
  unfold State.judgeOrphan
  dsimp only
  rw [if_pos (by simp [hst, State.bit, ho])]

theorem State.judged_frameEnd {s : State} (w : wordsWf 0 s.regs = true) (hrel : s.pair.releasing = none) (h : Nat) :
    s.FrameEnd (s.judged.frameGood h) := by
  have hj := State.judged_judged w hrel
  have horphan : s.fget F.PAIR_STATUS.STATE = 3 → s.fget F.PAIR_STATUS.ORPHANED = 0 → s.judged.fget F.PAIR_STATUS.ORPHANED = 0 := by
    intro hst ho
    have hseen : s.releaseSeen = s := by unfold State.releaseSeen; rw [if_neg (by simp [hrel])]
    rw [State.judged, State.judgeOrphan_active hst ho, hseen]
    unfold State.readyCheck
    dsimp only
    split
    · rw [State.fget_fset_apart _ _ _ _ (by decide) w (Fld.apart_of_test (by decide)), ho]
    · exact ho
  generalize s.judged = j at hj horphan ⊢
  have hframe := j.frameGood_frame h
  have hempty := fun hheld => State.frameGood_empty (s := j) hheld h
  generalize j.frameGood h = t at hframe hempty ⊢
  have hregs : t.regs = j.regs := by rw [hframe]
  refine ⟨by rw [hframe]; exact hj.pair, by rw [hframe]; exact hj.reported.lock, by rw [hframe]; exact hj.reported.mem,
    by rw [hframe]; exact hj.reported.tows, by rw [hframe]; exact hj.reported.map, fun g hg => ?_, fun hst ho => ?_, fun hheld => ?_, fun wq => ?_⟩
  · rw [State.fget_of_regs hregs]
    exact hj.reported.fget hg
  · rw [State.fget_of_regs hregs]
    exact horphan hst ho
  · rw [hj.reported.steer] at hempty
    exact hempty hheld
  · exact (hj.queued wq).of_queues (by rw [hframe])

/-! ## What a trailer leads to -/

section
variable {s : State} (w : wordsWf 0 s.regs = true) (tr : Trailer)
include w

theorem State.takeTrailer_claim (hclaim : s.pair.claiming = true) (hgrant : s.pair.grantA = false) :
    s.takeTrailer 0 tr = ((s.takeHead 0 tr).answerA tr).judged := by
  have hv := State.takeHead_taken w 0 tr
  unfold State.takeTrailer
  generalize s.takeHead 0 tr = v at hv ⊢
  have hc : v.pair.claiming = true := by rw [hv.frame]; exact hclaim
  have hg : v.pair.grantA = false := by rw [hv.frame]; exact hgrant
  dsimp only
  rw [if_pos (by simp [hc, hg])]
  rfl

theorem State.takeTrailer_token (hgrantA : s.pair.grantA = true) (hgrantB : s.pair.grantB = false) :
    s.takeTrailer 1 tr = ((s.takeHead 1 tr).answerB tr).judged := by
  have hv := State.takeHead_taken w 1 tr
  unfold State.takeTrailer
  generalize s.takeHead 1 tr = v at hv ⊢
  have ha : v.pair.grantA = true := by rw [hv.frame]; exact hgrantA
  have hb : v.pair.grantB = false := by rw [hv.frame]; exact hgrantB
  dsimp only
  rw [if_neg (by simp), if_pos (by simp [ha, hb])]
  rfl

theorem State.takeTrailer_deposed (hact : s.active = true) (hclaim : s.pair.claiming = false) (hrel : s.pair.releasing = none)
    (hheld : tr.holder ≠ 3) (hother : tr.holder ≠ s.role) : s.takeTrailer 0 tr = (s.takeHead 0 tr).deposed.judged := by
  have hv := State.takeHead_taken w 0 tr
  unfold State.takeTrailer
  generalize s.takeHead 0 tr = v at hv ⊢
  have hc : v.pair.claiming = false := by rw [hv.frame]; exact hclaim
  have hr : v.pair.releasing = none := by rw [hv.frame]; exact hrel
  have ha : v.active = true := by rw [State.active, hv.state]; exact hact
  have ho : v.otherHolder (v.head 0) = true := by simp [State.otherHolder, hv.heard, hv.holder, hv.role, hheld, hother]
  dsimp only
  rw [if_neg (by simp [hc]), if_neg (by simp), if_pos (by simp [ha, ho, hr])]
  rfl

end

namespace State.HeadTaken

variable {s v : State} {h : Nat} {tr : Trailer} (hv : s.HeadTaken v h tr)
include hv

theorem releasing : v.pair.releasing = s.pair.releasing := by rw [hv.frame]
theorem cold : v.pair.cold = s.pair.cold := by rw [hv.frame]
theorem steer : v.steer = s.steer := by rw [hv.frame]
theorem lock : v.lock = s.lock := by rw [hv.frame]
theorem mem : v.mem = s.mem := by rw [hv.frame]
theorem tows : v.tows = s.tows := by rw [hv.frame]
theorem map : v.map = s.map := by rw [hv.frame]
theorem link : v.link = s.link := by rw [hv.frame]

theorem serving (wq : spWf {} 0 s.link.queues = true) : s.Serving v := (State.Serving.refl wq).link hv.link

end State.HeadTaken

/-! ## A cold claim's command completes -/

/-- t is s with no handover asked for, the command of its cold claim completed. -/
structure State.Concluded (s t : State) (src : Src) (st : Status) (reason : Nat) : Prop where
  form : wordsWf 0 t.regs = true
  queues : spWf {} 0 t.link.queues = true
  kept : t.regs = s.regs
  pair : t.pair = s.handedOver.pair
  lock : t.lock = s.lock
  mem : t.mem = s.mem
  item : ∃ q, { completionItem 0x91 src st reason 0 [] [] with seq := q } ∈ (t.queue (s.cqOf src)).items

theorem State.complete_concluded {s : State} (wr : wordsWf 0 s.regs = true) (wq : spWf {} 0 s.link.queues = true) {src : Src}
    (ha : s.Answers src) {st : Status} (hst : st = .done ∨ st = .failed) (reason : Nat) :
    s.Concluded (s.handedOver.complete 0x91 src st reason) src st reason := by
  have ha' : s.handedOver.Answers src := ⟨ha.en, ha.dir, ha.sound, ha.kept⟩
  have hquiet : ∀ u : State, u.noteStatus src st reason 0 = u := fun u => by
    rcases hst with rfl | rfl
    · simp [State.noteStatus]
    · simp [State.noteStatus]
  have heq := State.complete_eq (s := s.handedOver) wq ha' 0x91 st reason 0 [] []
  rw [hquiet] at heq
  have hunres := (State.unreserve_unreserved (s := s.handedOver) wq src).form
  have hregs : (s.handedOver.unreserve src).regs = s.regs := State.unreserve_regs ..
  obtain ⟨q, hq⟩ := State.complete_answered (s := s.handedOver) wq ha' 0x91 st reason 0 [] []
  refine ⟨?_, ?_, ?_, State.complete_pair .., State.complete_lock .., State.complete_mem .., q, List.mem_of_getLast? hq⟩
  · rw [heq]
    show wordsWf 0 (s.handedOver.unreserve src).regs = true
    rw [hregs]
    exact wr
  · rw [heq]
    exact spSet_wf _ _ _ _ 0 (Nat.zero_le _) hunres
  · rw [heq]
    exact hregs

/-! ## Deposed -/

/-- The machine without grants, its codes dropped. -/
def State.stripped (s : State) : State :=
  ({ s with pair := { s.pair with claiming := false, grantA := false, grantB := false, token := none } }).dropCodes

/-- The machine with its journal dropped. -/
def State.dropJournal (s : State) : State := { s with pair := { s.pair with journal := [] } }

theorem State.deposed_eq (s : State) : s.deposed =
    ((((s.stripped.logEntry 6 3 .control .module 3 0).setPair 0 8).handoverDone false).dropJournal).finishWaits (fun _ => true) := rfl

/-- t is s deposed. -/
structure State.Deposed (s t : State) : Prop where
  form : wordsWf 0 t.regs = true
  state : t.fget F.PAIR_STATUS.STATE = 0
  reason : t.fget F.PAIR_STATUS.REASON = 8
  steer : t.steer = { s.steer with held := [] }
  releasing : t.pair.releasing = none
  grantA : t.pair.grantA = false
  grantB : t.pair.grantB = false
  waits : t.pair.waits = []
  lock : t.lock = s.lock
  mem : t.mem = s.mem

theorem State.deposed_deposed {s : State} (wr : wordsWf 0 s.regs = true) (wq : spWf {} 0 s.link.queues = true) (hrel : s.pair.releasing = none)
    (hcold : s.pair.cold = none) : s.Deposed s.deposed := by
  have hlog : s.stripped.Seated (s.stripped.logEntry 6 3 .control .module 3 0) [] :=
    (State.Seated.refl (s := s.stripped) wr wq []).logEntry (by decide) ..
  have hsteer : s.stripped.steer = { s.steer with held := [] } := rfl
  have hlock : s.stripped.lock = s.lock := rfl
  have hmem : s.stripped.mem = s.mem := rfl
  have hpair : s.stripped.pair = { s.pair with claiming := false, grantA := false, grantB := false, token := none } := rfl
  rw [State.deposed_eq]
  generalize s.stripped = u at hlog hsteer hlock hmem hpair ⊢
  generalize u.logEntry 6 3 .control .module 3 0 = v at hlog ⊢
  obtain ⟨hset, hst, hre⟩ := State.setPair_seated hlog.leaves.form hlog.serving.form (new := 0) (reason := 8) (by decide) (by decide)
  generalize v.setPair 0 8 = x at hset hst hre ⊢
  have hxpair : x.pair = u.pair := hset.pair.trans hlog.pair
  rw [State.handoverDone_none (by rw [hxpair, hpair]; exact hrel) (by rw [hxpair, hpair]; exact hcold)]
  have hyregs : x.handedOver.dropJournal.regs = x.regs := rfl
  have hysteer : x.handedOver.dropJournal.steer = x.steer := rfl
  have hylock : x.handedOver.dropJournal.lock = x.lock := rfl
  have hymem : x.handedOver.dropJournal.mem = x.mem := rfl
  have hygrants : x.handedOver.dropJournal.pair.grantA = x.pair.grantA ∧ x.handedOver.dropJournal.pair.grantB = x.pair.grantB ∧
    x.handedOver.dropJournal.pair.releasing = none := ⟨rfl, rfl, rfl⟩
  generalize x.handedOver.dropJournal = y at hyregs hysteer hylock hymem hygrants ⊢
  obtain ⟨hgA, hgB, hyrel⟩ := hygrants
  have wy : wordsWf 0 y.regs = true := by rw [hyregs]; exact hset.leaves.form
  have hfin := State.finishWaits_reported wy (fun _ => true)
  have hwaits := State.finishWaits_waits wy (fun _ => true)
  have hfpair := y.finishWaits_pair (fun _ => true)
  have hun : (y.unwait (fun _ => true)).regs = y.regs := rfl
  have hfields : ∀ f, (∀ g ∈ [F.MAP_STATUS.COMMIT_BUSY] ++ logFields, Fld.apart g f) → (y.finishWaits (fun _ => true)).fget f = x.fget f :=
    fun f hf => (hfin.fget hf).trans (State.fget_of_regs (hun.trans hyregs) f)
  refine ⟨hfin.form, ?_, ?_, ?_, ?_, ?_, ?_, ?_, ?_, ?_⟩
  · rw [hfields _ (apart_of_test (by decide)), hst]
  · rw [hfields _ (apart_of_test (by decide)), hre]
  · rw [hfin.steer]
    exact hysteer.trans ((hset.steer.trans hlog.steer).trans hsteer)
  · rw [hfpair]; exact hyrel
  · rw [hfpair]; exact hgA.trans (by rw [hxpair, hpair])
  · rw [hfpair]; exact hgB.trans (by rw [hxpair, hpair])
  · rw [hwaits]; simp
  · rw [hfin.lock]
    exact hylock.trans ((hset.lock.trans hlog.lock).trans hlock)
  · rw [hfin.mem]
    exact hymem.trans ((hset.mem.trans hlog.mem).trans hmem)

theorem uplinkFrame_deposed {s : State} (hwf : s.allWf = true) {tr : Trailer} (hrung : s.rung ≤ 2) (hreset : s.boot.resetLow = false)
    (hrails : s.power.railsOff = false) (hrel : s.pair.releasing = none) (hcold : s.pair.cold = none) (harmed : s.armed 10 0 = false)
    (hact : s.active = true) (hclaim : s.pair.claiming = false) (hheld : tr.holder ≠ 3) (hother : tr.holder ≠ s.role) :
    ∃ t, exec (.uplinkFrame 0 tr) s = .next t ∧ t.fget F.PAIR_STATUS.STATE = 0 ∧ t.fget F.PAIR_STATUS.REASON = 8 ∧
        t.steer.held = [] ∧ t.steer.axes = s.steer.axes ∧ t.pair.grantA = false ∧ t.pair.grantB = false ∧ t.pair.waits = [] ∧
        t.lock = s.lock ∧ t.mem = s.mem := by
  have w := State.regsWf_of_allWf hwf
  have wq := State.queuesWf_of_allWf hwf
  have hexec := exec_uplinkFrame (tr := tr) (by decide) hrung hreset hrails harmed
  have hv := State.takeHead_taken w 0 tr
  rw [State.takeTrailer_deposed w tr hact hclaim hrel hheld hother] at hexec
  generalize s.takeHead 0 tr = v at hexec hv
  have hd := State.deposed_deposed hv.form (by rw [hv.frame]; exact wq) (by rw [hv.frame]; exact hrel) (by rw [hv.frame]; exact hcold)
  generalize v.deposed = d at hexec hd
  have hend := State.judged_frameEnd hd.form hd.releasing 0
  generalize d.judged.frameGood 0 = t at hexec hend
  obtain ⟨hheld', haxes⟩ := hend.held (by rw [hd.steer])
  refine ⟨t, hexec, ?_, ?_, hheld', ?_, ?_, ?_, ?_, ?_, ?_⟩
  · rw [hend.kept _ (apart_of_test (by decide)), hd.state]
  · rw [hend.kept _ (apart_of_test (by decide)), hd.reason]
  · rw [haxes, hd.steer, hv.frame]
  · rw [hend.pair, hd.grantA]
  · rw [hend.pair, hd.grantB]
  · rw [hend.pair, hd.waits]
  · rw [hend.lock, hd.lock, hv.frame]
  · rw [hend.mem, hd.mem, hv.frame]

/-! ## Refused -/

/-- The machine with its claim given up, its codes dropped. -/
def State.gaveUp (s : State) : State :=
  ({ s with pair := { s.pair with claiming := false, takeover := false, planned := false, continueDue := false, token := none
                                  grantA := false, grantB := false } }).dropCodes

/-- A refusal after heartbeat loss makes an entry (R209). -/
def State.logRefusal (s : State) (loss : Bool) : State := if loss then s.logEntry 5 3 .link .module 2 0 else s

theorem State.claimRefused_eq (s : State) : s.claimRefused =
    (((s.gaveUp.logRefusal (s.pair.takeover && s.standby)).setPair 0 2).count 3 7).handoverDone false := rfl

/-- t is s with its claim refused, before the commands that wait for grants complete. -/
structure State.Refused (s t : State) : Prop where
  seated : s.gaveUp.Seated t pairFields
  state : t.fget F.PAIR_STATUS.STATE = 0
  reason : t.fget F.PAIR_STATUS.REASON = 2

theorem State.claimRefused_refused {s : State} (wr : wordsWf 0 s.regs = true) (wq : spWf {} 0 s.link.queues = true) :
    ∃ u, s.claimRefused = u.handoverDone false ∧ s.Refused u := by
  refine ⟨_, s.claimRefused_eq, ?_⟩
  have h0 : s.gaveUp.Seated s.gaveUp [] := .refl (s := s.gaveUp) wr wq _
  have hgave : s.gaveUp.Seated s.gaveUp pairFields := .refl (s := s.gaveUp) wr wq _
  generalize (s.pair.takeover && s.standby) = loss
  suffices h : s.gaveUp.Seated (((s.gaveUp.logRefusal loss).setPair 0 2).count 3 7) pairFields ∧
      (((s.gaveUp.logRefusal loss).setPair 0 2).count 3 7).fget F.PAIR_STATUS.STATE = 0 ∧
      (((s.gaveUp.logRefusal loss).setPair 0 2).count 3 7).fget F.PAIR_STATUS.REASON = 2 from ⟨h.1, h.2.1, h.2.2⟩
  generalize s.gaveUp = u at h0 hgave ⊢
  have hlog : u.Seated (u.logRefusal loss) [] := (h0.logEntry (by decide) ..).ite h0
  generalize u.logRefusal loss = v at hlog ⊢
  obtain ⟨hset, hst, hre⟩ := State.setPair_seated hlog.leaves.form hlog.serving.form (new := 0) (reason := 2) (by decide) (by decide)
  exact ⟨((hlog.mono (by simp)).trans hset).count 3 7 1, (State.fget_of_regs (State.count_regs ..) _).trans hst,
    (State.fget_of_regs (State.count_regs ..) _).trans hre⟩

section
variable {s : State} (hwf : s.allWf = true) {tr : Trailer} (hrung : s.rung ≤ 2) (hreset : s.boot.resetLow = false)
  (hrails : s.power.railsOff = false) (harmed : s.armed 10 0 = false) (hclaim : s.pair.claiming = true) (hgrant : s.pair.grantA = false)
include hwf hrung hreset hrails harmed hclaim hgrant

/-- Head A refuses a claim. -/
theorem exec_refused (hresult : tr.result = 2 ∨ tr.result = 3) : ∃ v u, s.HeadTaken v 0 tr ∧ v.Refused u ∧
    exec (.uplinkFrame 0 tr) s = .next ((u.handoverDone false).judged.frameGood 0) := by
  have w := State.regsWf_of_allWf hwf
  have hexec := exec_uplinkFrame (tr := tr) (by decide) hrung hreset hrails harmed
  have hv := State.takeHead_taken w 0 tr
  rw [State.takeTrailer_claim w tr hclaim hgrant] at hexec
  generalize s.takeHead 0 tr = v at hexec hv
  obtain ⟨u, hu, hr⟩ := State.claimRefused_refused hv.form (hv.serving (State.queuesWf_of_allWf hwf)).form
  refine ⟨v, u, hv, hr, ?_⟩
  rw [hexec, State.answerA, if_neg (by omega), if_pos hresult, hu]

theorem uplinkFrame_refused (hrel : s.pair.releasing = none) (hcold : s.pair.cold = none) (hresult : tr.result = 2 ∨ tr.result = 3) :
    ∃ t, exec (.uplinkFrame 0 tr) s = .next t ∧ t.fget F.PAIR_STATUS.STATE = 0 ∧ t.fget F.PAIR_STATUS.REASON = 2 ∧
        t.pair.claiming = false ∧ t.steer.held = [] ∧ t.steer.axes = s.steer.axes ∧ t.lock = s.lock ∧ t.mem = s.mem := by
  obtain ⟨v, u, hv, hr, hexec⟩ := exec_refused hwf hrung hreset hrails harmed hclaim hgrant hresult
  have hpair : u.pair = v.gaveUp.pair := hr.seated.pair
  have hvrel : v.pair.releasing = none := by rw [hv.frame]; exact hrel
  have hvcold : v.pair.cold = none := by rw [hv.frame]; exact hcold
  rw [State.handoverDone_none (by rw [hpair]; exact hvrel) (by rw [hpair]; exact hvcold)] at hexec
  have hregs : u.handedOver.regs = u.regs := rfl
  have hsteer : u.handedOver.steer = u.steer := rfl
  have hlock : u.handedOver.lock = u.lock := rfl
  have hmem : u.handedOver.mem = u.mem := rfl
  have hclaiming : u.handedOver.pair.claiming = u.pair.claiming := rfl
  have hend := State.judged_frameEnd (s := u.handedOver) hr.seated.leaves.form rfl 0
  generalize u.handedOver = x at hexec hregs hsteer hlock hmem hclaiming hend
  generalize x.judged.frameGood 0 = t at hexec hend
  have hxsteer : x.steer = { v.steer with held := [] } := hsteer.trans hr.seated.steer
  obtain ⟨hheld, haxes⟩ := hend.held (by rw [hxsteer])
  refine ⟨t, hexec, ?_, ?_, ?_, hheld, ?_, ?_, ?_⟩
  · rw [hend.kept _ (apart_of_test (by decide)), State.fget_of_regs hregs, hr.state]
  · rw [hend.kept _ (apart_of_test (by decide)), State.fget_of_regs hregs, hr.reason]
  · rw [hend.pair, hclaiming, hpair]; rfl
  · rw [haxes, hxsteer, hv.frame]
  · rw [hend.lock, hlock, hr.seated.lock]
    show v.lock = _
    rw [hv.frame]
  · rw [hend.mem, hmem, hr.seated.mem]
    show v.mem = _
    rw [hv.frame]

/-- A refused cold claim completes its command with FAILED. -/
theorem uplinkFrame_coldRefused {src : Src} (hrel : s.pair.releasing = none) (hcold : s.pair.cold = some src) (ha : s.Answers src) (hresult : tr.result = 2 ∨ tr.result = 3) :
    ∃ t q, exec (.uplinkFrame 0 tr) s = .next t ∧ t.fget F.PAIR_STATUS.STATE = 0 ∧ t.fget F.PAIR_STATUS.REASON = 2 ∧
        t.pair.cold = none ∧ { completionItem 0x91 src .failed Reason.grant.code 0 [] [] with seq := q } ∈ (t.queue (s.cqOf src)).items ∧
        t.lock = s.lock ∧ t.mem = s.mem := by
  obtain ⟨v, u, hv, hr, hexec⟩ := exec_refused hwf hrung hreset hrails harmed hclaim hgrant hresult
  have wq := State.queuesWf_of_allWf hwf
  have hpair : u.pair = v.gaveUp.pair := hr.seated.pair
  rw [State.handoverDone_cold (by rw [hpair]; exact hv.releasing.trans hrel) (by rw [hpair]; exact hv.cold.trans hcold), if_neg (by decide)] at hexec
  have hserving : s.Serving u := ((hv.serving wq).link (u := v.gaveUp) rfl).trans hr.seated.serving
  have hcq : u.cqOf src = s.cqOf src := by
    refine hserving.cqOf src ?_ ?_
    · rw [hr.seated.tows]
      exact congrArg _ hv.tows
    · rw [hr.seated.fget (apart_of_test (by decide))]
      exact hv.kept F.AUC_CTRL.POLICY_SPACE (apart_of_test (by decide))
  have hcon := State.complete_concluded hr.seated.leaves.form hserving.form (hserving.answers hcq ha) (.inr rfl) Reason.grant.code
  generalize u.handedOver.complete 0x91 src .failed Reason.grant.code = x at hexec hcon
  have hend := State.judged_frameEnd hcon.form (by rw [hcon.pair]; rfl) 0
  generalize x.judged.frameGood 0 = t at hexec hend
  obtain ⟨q, hitem⟩ := hcon.item
  refine ⟨t, q, hexec, ?_, ?_, ?_, ?_, ?_, ?_⟩
  · rw [hend.kept _ (apart_of_test (by decide)), State.fget_of_regs hcon.kept, hr.state]
  · rw [hend.kept _ (apart_of_test (by decide)), State.fget_of_regs hcon.kept, hr.reason]
  · rw [hend.pair, hcon.pair]; rfl
  · rw [← hcq]
    exact (hend.queued hcon.queues).items _ _ hitem
  · rw [hend.lock, hcon.lock, hr.seated.lock]
    exact hv.lock
  · rw [hend.mem, hcon.mem, hr.seated.mem]
    exact hv.mem
end

/-! ## Granted by head B -/

/-- The machine with head B's grant: the claim is over. -/
def State.enthroned (s : State) : State :=
  { s with pair := { s.pair with grantB := true, claiming := false, takeover := false, planned := false, token := none } }

theorem State.answerB_warm {s : State} {tr : Trailer} (hresult : tr.result = 1) (hcold : s.pair.cold = none) :
    s.answerB tr = s.enthroned.count 1 15 := by
  unfold State.answerB
  rw [if_pos hresult]
  dsimp only
  split
  · next src hc => exact absurd (hcold.symm.trans hc) (by simp)
  · rfl

theorem State.answerB_cold {s : State} {tr : Trailer} {src : Src} (hresult : tr.result = 1) (hcold : s.pair.cold = some src) :
    s.answerB tr = (s.enthroned.count 1 15).handoverDone true := by
  unfold State.answerB
  rw [if_pos hresult]
  dsimp only
  split
  · rfl
  · next hc => exact absurd (hcold.symm.trans hc) (by simp)

section
variable {s : State} (hwf : s.allWf = true) {tr : Trailer} (hrung : s.rung ≤ 2) (hreset : s.boot.resetLow = false)
  (hrails : s.power.railsOff = false) (hrel : s.pair.releasing = none) (harmed : s.armed 10 1 = false) (hgrantA : s.pair.grantA = true)
  (hgrantB : s.pair.grantB = false) (hresult : tr.result = 1)
include hwf hrung hreset hrails hrel harmed hgrantA hgrantB hresult

theorem uplinkFrame_enthroned (hcold : s.pair.cold = none) :
    ∃ t, exec (.uplinkFrame 1 tr) s = .next t ∧ t.pair.grantB = true ∧ t.pair.claiming = false ∧ t.pair.token = none ∧
        t.fget F.PAIR_STATUS.STATE = s.fget F.PAIR_STATUS.STATE ∧ t.lock = s.lock ∧ t.mem = s.mem := by
  have w := State.regsWf_of_allWf hwf
  have hexec := exec_uplinkFrame (tr := tr) (by decide) hrung hreset hrails harmed
  have hv := State.takeHead_taken w 1 tr
  rw [State.takeTrailer_token w tr hgrantA hgrantB] at hexec
  generalize s.takeHead 1 tr = v at hexec hv
  rw [State.answerB_warm hresult (hv.cold.trans hcold)] at hexec
  have hregs : (v.enthroned.count 1 15).regs = v.regs := rfl
  have hpair : (v.enthroned.count 1 15).pair = v.enthroned.pair := rfl
  have hlock : (v.enthroned.count 1 15).lock = v.lock := rfl
  have hmem : (v.enthroned.count 1 15).mem = v.mem := rfl
  generalize v.enthroned.count 1 15 = x at hexec hregs hpair hlock hmem
  have hend := State.judged_frameEnd (s := x) (by rw [hregs]; exact hv.form) (by rw [hpair]; exact hv.releasing.trans hrel) 1
  generalize x.judged.frameGood 1 = t at hexec hend
  refine ⟨t, hexec, ?_, ?_, ?_, ?_, ?_, ?_⟩
  · rw [hend.pair, hpair]; rfl
  · rw [hend.pair, hpair]; rfl
  · rw [hend.pair, hpair]; rfl
  · rw [hend.kept _ (apart_of_test (by decide)), State.fget_of_regs hregs, hv.state]
  · rw [hend.lock, hlock, hv.lock]
  · rw [hend.mem, hmem, hv.mem]

/-- Head B's grant of a cold claim completes its command. -/
theorem uplinkFrame_coldEnthroned {src : Src} (hcold : s.pair.cold = some src) (ha : s.Answers src) :
    ∃ t q, exec (.uplinkFrame 1 tr) s = .next t ∧ t.pair.grantB = true ∧ t.pair.cold = none ∧
        { completionItem 0x91 src .done 0 0 [] [] with seq := q } ∈ (t.queue (s.cqOf src)).items ∧ t.lock = s.lock ∧ t.mem = s.mem := by
  have w := State.regsWf_of_allWf hwf
  have wq := State.queuesWf_of_allWf hwf
  have hexec := exec_uplinkFrame (tr := tr) (by decide) hrung hreset hrails harmed
  have hv := State.takeHead_taken w 1 tr
  rw [State.takeTrailer_token w tr hgrantA hgrantB] at hexec
  generalize s.takeHead 1 tr = v at hexec hv
  rw [State.answerB_cold hresult (hv.cold.trans hcold)] at hexec
  have hregs : (v.enthroned.count 1 15).regs = v.regs := rfl
  have hpair : (v.enthroned.count 1 15).pair = v.enthroned.pair := rfl
  have hlock : (v.enthroned.count 1 15).lock = v.lock := rfl
  have hmem : (v.enthroned.count 1 15).mem = v.mem := rfl
  have htows : (v.enthroned.count 1 15).tows = v.tows := rfl
  have hlink : (v.enthroned.count 1 15).link = v.link := rfl
  generalize v.enthroned.count 1 15 = x at hexec hregs hpair hlock hmem htows hlink
  rw [State.handoverDone_cold (by rw [hpair]; exact hv.releasing.trans hrel) (by rw [hpair]; exact hv.cold.trans hcold), if_pos rfl] at hexec
  have wx : wordsWf 0 x.regs = true := by rw [hregs]; exact hv.form
  have hserving : s.Serving x := (hv.serving wq).link hlink
  have hcq : x.cqOf src = s.cqOf src := hserving.cqOf src (by rw [htows, hv.tows])
    ((State.fget_of_regs hregs _).trans (hv.kept F.AUC_CTRL.POLICY_SPACE (apart_of_test (by decide))))
  have hcon := State.complete_concluded wx hserving.form (hserving.answers hcq ha) (.inl rfl) 0
  generalize x.handedOver.complete 0x91 src .done 0 = y at hexec hcon
  have hend := State.judged_frameEnd hcon.form (by rw [hcon.pair]; rfl) 1
  generalize y.judged.frameGood 1 = t at hexec hend
  obtain ⟨q, hitem⟩ := hcon.item
  refine ⟨t, q, hexec, ?_, ?_, ?_, ?_, ?_⟩
  · rw [hend.pair, hcon.pair]
    exact congrArg Pair.grantB hpair
  · rw [hend.pair, hcon.pair]; rfl
  · rw [← hcq]
    exact (hend.queued hcon.queues).items _ _ hitem
  · rw [hend.lock, hcon.lock, hlock, hv.lock]
  · rw [hend.mem, hcon.mem, hmem, hv.mem]

end

/-! ## Granted by head A -/

/-- The machine with head A's token. -/
def State.tokened (s : State) (tok : Nat) : State := { s with pair := { s.pair with token := some tok } }

theorem State.answerA_warm {s : State} {tr : Trailer} (hresult : tr.result = 1) (hrel : s.pair.releasing = none) (hcold : s.pair.cold = none) :
    s.answerA tr = ((s.tokened tr.token).becomeActive s.pair.takeover).count 1 7 := by
  unfold State.answerA
  rw [if_pos hresult]
  dsimp only
  rw [if_neg (by simp [hrel]), if_neg (by simp [hcold])]
  rfl

theorem State.answerA_cold {s : State} {tr : Trailer} {src : Src} (hresult : tr.result = 1) (hrel : s.pair.releasing = none)
    (hcold : s.pair.cold = some src) : s.answerA tr = (s.tokened tr.token).coldGranted.count 1 7 := by
  unfold State.answerA
  rw [if_pos hresult]
  dsimp only
  rw [if_neg (by simp [hrel]), if_pos (by simp [hcold])]
  rfl

section
variable {s : State} (hwf : s.allWf = true) {tr : Trailer} (hrung : s.rung ≤ 2) (hreset : s.boot.resetLow = false)
  (hrails : s.power.railsOff = false) (hrel : s.pair.releasing = none) (harmed : s.armed 10 0 = false) (hclaim : s.pair.claiming = true)
  (hgrant : s.pair.grantA = false) (hresult : tr.result = 1)
include hwf hrung hreset hrails hrel harmed hclaim hgrant hresult

theorem uplinkFrame_granted (hepoch : tr.epoch < 2 ^ 32) (hcold : s.pair.cold = none) :
    ∃ t, exec (.uplinkFrame 0 tr) s = .next t ∧ t.active = true ∧ t.fget F.PAIR_STATUS.REASON = 0 ∧ t.pair.grantA = true ∧
        t.pair.token = some tr.token ∧ t.fget F.PAIR_EPOCH.EPOCH = tr.epoch ∧ t.fget F.PAIR_STATUS.ORPHANED = 0 ∧
        t.pair.continueDue = (s.pair.continueDue && s.pair.takeover) ∧
        (s.pair.takeover = true → t.fget F.PAIR_STATUS.TOOK_OVER = 1 ∧
          t.lock.cycles = s.lock.cycles.map (fun c => { c with handover := true })) ∧ t.mem = s.mem ∧ t.tows = s.tows ∧ t.map = s.map := by
  have w := State.regsWf_of_allWf hwf
  have hexec := exec_uplinkFrame (tr := tr) (by decide) hrung hreset hrails harmed
  have hv := State.takeHead_taken w 0 tr
  rw [State.takeTrailer_claim w tr hclaim hgrant] at hexec
  generalize s.takeHead 0 tr = v at hexec hv
  have htake : v.pair.takeover = s.pair.takeover := by rw [hv.frame]
  have hcont : v.pair.continueDue = s.pair.continueDue := by rw [hv.frame]
  rw [State.answerA_warm hresult (hv.releasing.trans hrel) (hv.cold.trans hcold), htake] at hexec
  obtain ⟨hseat, hst, hre, horphan, htook⟩ := State.becomeActive_seated (s := v.tokened tr.token) hv.form
    (hv.serving (State.queuesWf_of_allWf hwf)).form s.pair.takeover
  have hlock : s.pair.takeover = true → ((v.tokened tr.token).crowned s.pair.takeover).lock.cycles =
      v.lock.cycles.map (fun c => { c with handover := true }) := fun h => by rw [h]; rfl
  have hpair : ((v.tokened tr.token).crowned s.pair.takeover).pair = { v.pair with
      token := some tr.token, grantA := true, copy := none, tickAt := none, gap := none, snapshot := false, owed := []
      continueDue := v.pair.continueDue && s.pair.takeover } := rfl
  have hmem : ((v.tokened tr.token).crowned s.pair.takeover).mem = v.mem := rfl
  have htows : ((v.tokened tr.token).crowned s.pair.takeover).tows = v.tows := rfl
  have hmap : ((v.tokened tr.token).crowned s.pair.takeover).map = v.map := rfl
  have hregs : ((v.tokened tr.token).crowned s.pair.takeover).regs = v.regs := rfl
  generalize (v.tokened tr.token).crowned s.pair.takeover = c at hseat hlock hpair hmem htows hmap hregs
  generalize (v.tokened tr.token).becomeActive s.pair.takeover = b at hexec hseat hst hre horphan htook
  have hx := hseat.count 1 7 1
  have hxregs : (b.count 1 7).regs = b.regs := rfl
  generalize b.count 1 7 = x at hexec hx hxregs
  have hend := State.judged_frameEnd hx.leaves.form (by rw [hx.pair, hpair]; exact hv.releasing.trans hrel) 0
  generalize x.judged.frameGood 0 = t at hexec hend
  have hxst : x.fget F.PAIR_STATUS.STATE = 3 := (State.fget_of_regs hxregs _).trans hst
  have hxor : x.fget F.PAIR_STATUS.ORPHANED = 0 := (State.fget_of_regs hxregs _).trans horphan
  have hxpair : x.pair = c.pair := hx.pair
  refine ⟨t, hexec, ?_, ?_, ?_, ?_, ?_, hend.orphan hxst hxor, ?_, fun h => ⟨?_, ?_⟩, ?_, ?_, ?_⟩
  · rw [State.active, hend.kept _ (apart_of_test (by decide)), hxst]; rfl
  · rw [hend.kept _ (apart_of_test (by decide)), State.fget_of_regs hxregs, hre]
  · rw [hend.pair, hxpair, hpair]
  · rw [hend.pair, hxpair, hpair]
  · rw [hend.kept _ (apart_of_test (by decide)), hx.fget (apart_of_test (by decide)), State.fget_of_regs hregs, hv.epoch rfl]
    exact Nat.mod_eq_of_lt hepoch
  · rw [hend.pair, hxpair, hpair, hcont]
  · rw [hend.kept _ (apart_of_test (by decide)), State.fget_of_regs hxregs, htook h]
  · rw [hend.lock, hx.lock, hlock h, hv.lock]
  · rw [hend.mem, hx.mem, hmem, hv.mem]
  · rw [hend.tows, hx.tows, htows, hv.tows]
  · rw [hend.map, hx.map, hmap, hv.map]

end

/-! ## A cold claim granted -/

/-- t is s with plans of the library written and sent to the journal. -/
structure State.Planned (s t : State) : Prop where
  regs : t.regs = s.regs
  link : t.link = s.link
  mem : t.mem = s.mem
  lock : t.lock = { s.lock with lib := t.lock.lib }
  pair : t.pair = { s.pair with journal := t.pair.journal, journalSeq := t.pair.journalSeq }

namespace State.Planned

variable {s t u : State}

theorem refl (s : State) : s.Planned s := ⟨rfl, rfl, rfl, rfl, rfl⟩

theorem trans (h : s.Planned t) (k : t.Planned u) : s.Planned u :=
  ⟨k.regs.trans h.regs, k.link.trans h.link, k.mem.trans h.mem, by rw [k.lock, h.lock], by rw [k.pair, h.pair]⟩

theorem putPlan (s : State) (i : Nat) (e : PlanEntry) : s.Planned (s.putPlan i e) := by
  refine ⟨State.putPlan_regs .., State.putPlan_link .., State.putPlan_mem .., ?_, ?_⟩
  · rw [State.putPlan_lock]
  · have h := State.sendJournal_reports { s with lock := { s.lock with lib := spSet {} s.lock.lib i e } } (e.item i) []
    exact h.2.2.1

theorem releasePlan (s : State) (id : Nat) : s.Planned (s.releasePlan id) := by
  unfold State.releasePlan
  split
  · exact .refl s
  · split
    · split
      · exact .putPlan ..
      · exact .refl s
    · exact .refl s

theorem releasePlans (ids : List Nat) (s : State) : s.Planned (ids.foldl State.releasePlan s) :=
  List.foldlRecOn (motive := fun u => s.Planned u) ids _ (.refl s) fun _ hu id _ => hu.trans (.releasePlan _ id)

end State.Planned

/-- The machine with its cycles discarded. -/
def State.cycleless (s : State) : State := { s with lock := { s.lock with cycles := [], bufs := [], parking := [] } }

theorem State.coldGranted_eq (s : State) : s.coldGranted = ((((((s.lock.cycles.map (fun c => c.planId)).foldl State.releasePlan
    s.cycleless).becomeActive true).fset F.PAIR_STATUS.COLD 1).pairEvent 3).msix 2).writeStanding.recordBoot := rfl

/-- t is s granted a cold claim. -/
structure State.ColdGranted (s t : State) : Prop where
  form : wordsWf 0 t.regs = true
  state : t.fget F.PAIR_STATUS.STATE = 3
  cold : t.fget F.PAIR_STATUS.COLD = 1
  cycles : t.lock.cycles = []
  bufs : t.lock.bufs = []
  paths : t.lock.paths = s.lock.paths
  token : t.pair.token = s.pair.token
  claim : t.pair.cold = s.pair.cold
  releasing : t.pair.releasing = s.pair.releasing
  mem : t.mem = s.mem

theorem State.coldGranted_granted {s : State} (wr : wordsWf 0 s.regs = true) (wq : spWf {} 0 s.link.queues = true) :
    s.ColdGranted s.coldGranted := by
  have hplans := State.Planned.releasePlans (s.lock.cycles.map (fun c => c.planId)) s.cycleless
  rw [State.coldGranted_eq]
  generalize (s.lock.cycles.map (fun c => c.planId)).foldl State.releasePlan s.cycleless = u at hplans ⊢
  have wu : wordsWf 0 u.regs = true := by rw [hplans.regs]; exact wr
  have hulock : u.lock = { s.lock with cycles := [], bufs := [], parking := [], lib := u.lock.lib } := hplans.lock
  have hupair : u.pair = { s.pair with journal := u.pair.journal, journalSeq := u.pair.journalSeq } := hplans.pair
  have humem : u.mem = s.mem := hplans.mem
  obtain ⟨hseat, hst, -, -, -⟩ := State.becomeActive_seated wu (by rw [hplans.link]; exact wq) true
  have hclock : (u.crowned true).lock = { u.lock with cycles := u.lock.cycles.map (fun c => { c with handover := true }) } := rfl
  have hcpair : (u.crowned true).pair.token = u.pair.token ∧ (u.crowned true).pair.cold = u.pair.cold ∧
    (u.crowned true).pair.releasing = u.pair.releasing := ⟨rfl, rfl, rfl⟩
  have hcmem : (u.crowned true).mem = u.mem := rfl
  generalize u.crowned true = c at hseat hclock hcpair hcmem
  generalize u.becomeActive true = b at hseat hst ⊢
  have hset := (State.Seated.refl hseat.leaves.form hseat.serving.form [F.PAIR_STATUS.COLD]).fset (f := F.PAIR_STATUS.COLD) (by simp) (by decide) 1
  have hcold : (b.fset F.PAIR_STATUS.COLD 1).fget F.PAIR_STATUS.COLD = 1 := State.fget_fset_self b _ 1 (by decide) hseat.leaves.form
  generalize b.fset F.PAIR_STATUS.COLD 1 = d at hset hcold ⊢
  have htold : d.Seated ((d.pairEvent 3).msix 2) [] := ((State.Seated.refl hset.leaves.form hset.serving.form []).event 5 _).msix 2
  generalize (d.pairEvent 3).msix 2 = e at htold ⊢
  have hwrite : e.Planned e.writeStanding := .putPlan ..
  generalize e.writeStanding = f at hwrite ⊢
  have hrregs : f.recordBoot.regs = f.regs := rfl
  have hrlock : f.recordBoot.lock = f.lock := rfl
  have hrpair : f.recordBoot.pair = f.pair := rfl
  have hrmem : f.recordBoot.mem = f.mem := rfl
  generalize f.recordBoot = g at hrregs hrlock hrpair hrmem ⊢
  have hregs : g.regs = e.regs := hrregs.trans hwrite.regs
  have helock : e.lock = c.lock := htold.lock.trans (hset.lock.trans hseat.lock)
  have hlock : g.lock = { e.lock with lib := f.lock.lib } := hrlock.trans hwrite.lock
  have hpair : g.pair = { e.pair with journal := f.pair.journal, journalSeq := f.pair.journalSeq } := hrpair.trans hwrite.pair
  have hepair : e.pair = c.pair := htold.pair.trans (hset.pair.trans hseat.pair)
  obtain ⟨htoken, hclaim, hrel⟩ := hcpair
  refine ⟨by rw [hregs]; exact htold.leaves.form, ?_, ?_, ?_, ?_, ?_, ?_, ?_, ?_, ?_⟩
  · rw [State.fget_of_regs hregs, htold.fget (apart_of_test (by decide)), hset.fget (apart_of_test (by decide)), hst]
  · rw [State.fget_of_regs hregs, htold.fget (apart_of_test (by decide)), hcold]
  · rw [hlock, helock, hclock, hulock]; rfl
  · rw [hlock, helock, hclock, hulock]
  · rw [hlock, helock, hclock, hulock]
  · rw [hpair, hepair]; exact htoken.trans (by rw [hupair])
  · rw [hpair, hepair]; exact hclaim.trans (by rw [hupair])
  · rw [hpair, hepair]; exact hrel.trans (by rw [hupair])
  · rw [hrmem, hwrite.mem, htold.mem, hset.mem, hseat.mem, hcmem, humem]

theorem uplinkFrame_coldGranted {s : State} (hwf : s.allWf = true) {tr : Trailer} {src : Src} (hrung : s.rung ≤ 2) (hreset : s.boot.resetLow = false)
    (hrails : s.power.railsOff = false) (hrel : s.pair.releasing = none) (hcold : s.pair.cold = some src) (harmed : s.armed 10 0 = false)
    (hclaim : s.pair.claiming = true) (hgrant : s.pair.grantA = false) (hresult : tr.result = 1) :
    ∃ t, exec (.uplinkFrame 0 tr) s = .next t ∧ t.active = true ∧ t.fget F.PAIR_STATUS.COLD = 1 ∧ t.lock.cycles = [] ∧
        t.lock.bufs = [] ∧ t.lock.paths = s.lock.paths ∧ t.pair.token = some tr.token ∧ t.pair.cold = some src ∧ t.mem = s.mem := by
  have w := State.regsWf_of_allWf hwf
  have hexec := exec_uplinkFrame (tr := tr) (by decide) hrung hreset hrails harmed
  have hv := State.takeHead_taken w 0 tr
  rw [State.takeTrailer_claim w tr hclaim hgrant] at hexec
  generalize s.takeHead 0 tr = v at hexec hv
  rw [State.answerA_cold hresult (hv.releasing.trans hrel) (hv.cold.trans hcold)] at hexec
  have hg := State.coldGranted_granted (s := v.tokened tr.token) hv.form (hv.serving (State.queuesWf_of_allWf hwf)).form
  generalize (v.tokened tr.token).coldGranted = g at hexec hg
  have hxregs : (g.count 1 7).regs = g.regs := rfl
  have hxlock : (g.count 1 7).lock = g.lock := rfl
  have hxpair : (g.count 1 7).pair = g.pair := rfl
  have hxmem : (g.count 1 7).mem = g.mem := rfl
  generalize g.count 1 7 = x at hexec hxregs hxlock hxpair hxmem
  have hend := State.judged_frameEnd (s := x) (by rw [hxregs]; exact hg.form)
    (by rw [hxpair]; exact hg.releasing.trans (hv.releasing.trans hrel)) 0
  generalize x.judged.frameGood 0 = t at hexec hend
  refine ⟨t, hexec, ?_, ?_, ?_, ?_, ?_, ?_, ?_, ?_⟩
  · rw [State.active, hend.kept _ (apart_of_test (by decide)), State.fget_of_regs hxregs, hg.state]; rfl
  · rw [hend.kept _ (apart_of_test (by decide)), State.fget_of_regs hxregs, hg.cold]
  · rw [hend.lock, hxlock, hg.cycles]
  · rw [hend.lock, hxlock, hg.bufs]
  · rw [hend.lock, hxlock, hg.paths]
    exact congrArg Lock.paths hv.lock
  · rw [hend.pair, hxpair, hg.token]; rfl
  · rw [hend.pair, hxpair, hg.claim]
    exact hv.cold.trans hcold
  · rw [hend.mem, hxmem, hg.mem]
    exact hv.mem

end Sys2Proof.Machine
end

section
/-!
PROOFS. Claims, the commands PAIR_HANDOVER and PAIR_STATUS, the cycle that a new active continues (R209, R212–R214, R289), and the statement
on the windlass.
-/

namespace Sys2Proof.Machine

/-! ## A lock cycle continued -/

theorem State.running_modCycle_any {s : State} {c : Cycle} (h : s.running = some c) (id : Nat) {f : Cycle → Cycle} (hf : ∀ d, (f d).opened = d.opened) :
    (s.modCycle id f).running = some (if c.id = id then f c else c) := by
  have hopen : ((fun c : Cycle => c.opened.isSome) ∘ fun d => if d.id = id then f d else d) = fun c : Cycle => c.opened.isSome := by
    funext d
    simp only [Function.comp_apply]
    split
    · rw [hf]
    · rfl
  show (s.lock.cycles.map (fun d => if d.id = id then f d else d)).find? (fun c => c.opened.isSome) = _
  rw [List.find?_map, hopen, show s.lock.cycles.find? (fun c => c.opened.isSome) = some c from h]
  rfl

/-- t is s with axes, buffers, tows and cycles changed, as a handover changes them. -/
structure State.CarriesOn (s t : State) : Prop where
  form : wordsWf 0 t.regs = true
  pair : t.pair = s.pair
  mem : t.mem = s.mem
  map : t.map = s.map

namespace State.CarriesOn

variable {s t u : State}

theorem refl (w : wordsWf 0 s.regs = true) : s.CarriesOn s := ⟨w, rfl, rfl, rfl⟩

theorem trans (h : s.CarriesOn t) (k : t.CarriesOn u) : s.CarriesOn u :=
  ⟨k.form, k.pair.trans h.pair, k.mem.trans h.mem, k.map.trans h.map⟩

theorem modAxis (h : s.CarriesOn t) (a : Nat) (f : Axis → Axis) : s.CarriesOn (t.modAxis a f) := ⟨h.form, h.pair, h.mem, h.map⟩

theorem dropBufs (h : s.CarriesOn t) (l : List Nat) : s.CarriesOn (t.dropBufs l) := ⟨h.form, h.pair, h.mem, h.map⟩

theorem modCycle (h : s.CarriesOn t) (id : Nat) (f : Cycle → Cycle) : s.CarriesOn (t.modCycle id f) := ⟨h.form, h.pair, h.mem, h.map⟩

theorem submitSettle (h : s.CarriesOn t) (id : Nat) : s.CarriesOn (t.submitSettle id) := ⟨h.form, h.pair, h.mem, h.map⟩

theorem dropSettle (h : s.CarriesOn t) (id : Nat) : s.CarriesOn (t.dropSettle id) := by
  have hu := State.dropSettle_unsettled h.form id
  refine h.trans ⟨hu.form, ?_, ?_, ?_⟩
  · rw [hu.frame]
  · rw [hu.frame]
  · rw [hu.frame]

theorem recompute (h : s.CarriesOn t) (c : Cycle) : s.CarriesOn (t.recompute c) := (((h.dropSettle _).dropBufs _).modCycle _ _).submitSettle _

end State.CarriesOn

/-- An axis that goes on keeps the cycles. -/
theorem State.continueAxis_spec {s t : State} (h : s.CarriesOn t) (c : Cycle) (a : Nat) :
    s.CarriesOn (t.continueAxis c a).1 ∧ (t.continueAxis c a).1.lock.cycles = t.lock.cycles := by
  unfold State.continueAxis
  dsimp only
  split
  · split
    · exact ⟨h.modAxis _ _, rfl⟩
    · exact ⟨(h.dropBufs _).modAxis _ _, rfl⟩
  · exact ⟨h.modAxis _ _, rfl⟩

/-- A cycle that goes on: extended where an axis needed it, its paths counting again. -/
def Cycle.goesOn (tick : Nat) (late : Bool) (c : Cycle) : Cycle :=
  { c with extended := c.extended || late, paths := c.paths.map (fun p => p.again tick) }

theorem State.continueRunning_spec {s : State} (w : wordsWf 0 s.regs = true) {c : Cycle} (hrun : s.running = some c) :
    s.CarriesOn (s.continueRunning c) ∧ ∃ late, (s.continueRunning c).running = some (c.goesOn s.steer.tick late) := by
  unfold State.continueRunning
  extract_lets axes r
  have hfold : s.CarriesOn r.1 ∧ r.1.lock.cycles = s.lock.cycles :=
    List.foldlRecOn (motive := fun q : State × Bool => s.CarriesOn q.1 ∧ q.1.lock.cycles = s.lock.cycles) axes _ ⟨.refl w, rfl⟩
      fun q hq a _ => by
        obtain ⟨h1, h2⟩ := State.continueAxis_spec hq.1 c a
        exact ⟨h1, h2.trans hq.2⟩
  generalize r = q at hfold
  obtain ⟨hcarry, hcycles⟩ := hfold
  exact ⟨hcarry.modCycle _ _, q.2, State.running_modCycle (f := Cycle.goesOn s.steer.tick q.2) ((State.running_congr hcycles).trans hrun) fun _ => rfl⟩

/-- The running cycle d carries on cycle c. -/
def Cycle.Continues (tick : Nat) (c d : Cycle) : Prop :=
  d.id = c.id ∧ d.paths = c.paths.map (fun p => p.again tick) ∧ (c.extended = true → d.extended = true)

theorem State.recompute_running {s : State} (w : wordsWf 0 s.regs = true) {tick : Nat} {c d : Cycle} (hrun : s.running = some d)
    (hd : c.Continues tick d) (e : Cycle) : ∃ d', (s.recompute e).running = some d' ∧ c.Continues tick d' := by
  have hu := State.dropSettle_unsettled w e.id
  have hdrop : ((s.dropSettle e.id).dropBufs e.axes).lock.cycles = s.lock.cycles := by
    show (s.dropSettle e.id).lock.cycles = _
    rw [hu.frame]
  have hrun' := (State.running_congr hdrop).trans hrun
  unfold State.recompute
  generalize (s.dropSettle e.id).dropBufs e.axes = u at hrun' ⊢
  have hmod := State.running_modCycle_any hrun' e.id (f := fun c =>
    { c with computed := false, fallback := false, twoWaves := false, wave2Tick := 0, planEnd := 0, armed := false }) fun _ => rfl
  refine ⟨_, hmod, ?_⟩
  split
  · exact hd
  · exact hd

theorem State.parkStrays_spec (s : State) : s.parkStrays = { s with steer := { s.steer with axes := s.parkStrays.steer.axes } } :=
  List.foldlRecOn (motive := fun u : State => u = { s with steer := { s.steer with axes := u.steer.axes } }) _ _ rfl fun u hu p _ => by
    show u.modAxis _ _ = { s with steer := { s.steer with axes := (u.modAxis _ _).steer.axes } }
    generalize hm : (fun x : Axis => (parkAxis (u.park (axisSide p.1)) x).setSrc 0) = f
    have : u.modAxis p.1 f = { u with steer := { u.steer with axes := (u.modAxis p.1 f).steer.axes } } := rfl
    rw [this, hu]

/-- The cycles that a new active computes again. -/
def State.recomputes (s : State) : List Cycle := s.lock.cycles.filter (fun c => c.opened.isNone && !s.within 110000 c.tOpen)

/-- The machine with its running cycle, if it has one, carried on. -/
def State.carryOn (s : State) : State := match s.running with | some c => s.continueRunning c | none => s

/-- The machine that no longer has a cycle to continue. -/
def State.continued (s : State) : State := { s with pair := { s.pair with continueDue := false } }

theorem exec_handoverContinue {s : State} (hact : s.active = true ∨ (s.pair.claiming = true ∧ s.pair.takeover = true))
    (hdue : s.pair.continueDue = true) :
    exec .handoverContinue s = .next ((s.continued.carryOn.recomputes.foldl State.recompute s.continued.carryOn).parkStrays) := by
  refine congrArg Host.Outcome.next (if_pos ?_)
  rcases hact with h | ⟨h1, h2⟩
  · simp [h, hdue]
  · simp [h1, h2, hdue]

theorem handoverContinue_spec {s : State} (hwf : s.allWf = true) (hact : s.active = true ∨ (s.pair.claiming = true ∧ s.pair.takeover = true))
    (hdue : s.pair.continueDue = true) :
    ∃ t, exec .handoverContinue s = .next t ∧ t.pair = { s.pair with continueDue := false } ∧ t.mem = s.mem ∧ t.map = s.map ∧
      (s.lock.cycles = [] → t = { s with pair := t.pair, steer := { s.steer with axes := t.steer.axes } }) ∧
      (∀ c, s.running = some c → ∃ d, t.running = some d ∧ d.id = c.id ∧ d.paths = c.paths.map (fun p => p.again s.steer.tick) ∧
        (c.extended = true → d.extended = true)) := by
  have hexec := exec_handoverContinue hact hdue
  have w : wordsWf 0 s.continued.regs = true := State.regsWf_of_allWf (s := s) hwf
  have hu : ∃ u, s.continued.carryOn = u ∧ s.continued.CarriesOn u ∧ (s.lock.cycles = [] → u = s.continued) ∧
      ∀ c, s.running = some c → ∃ d, u.running = some d ∧ c.Continues s.steer.tick d := by
    cases hrun : s.running with
    | none =>
      have heq : s.continued.carryOn = s.continued := by
        unfold State.carryOn
        split
        · next c hc => exact absurd (hrun.symm.trans hc) (by simp)
        · rfl
      exact ⟨_, heq, .refl w, fun _ => rfl, fun c hc => by cases hc⟩
    | some c =>
      have heq : s.continued.carryOn = s.continued.continueRunning c := by
        unfold State.carryOn
        split
        · next d hd => rw [Option.some.inj (hrun.symm.trans hd)]
        · next hc => exact absurd (hrun.symm.trans hc) (by simp)
      obtain ⟨hcarry, late, hlate⟩ := State.continueRunning_spec (s := s.continued) w hrun
      refine ⟨_, heq, hcarry, fun hnone => ?_, fun d hd => ?_⟩
      · rw [State.running, hnone] at hrun
        cases hrun
      · obtain rfl := Option.some.inj hd
        exact ⟨_, hlate, rfl, rfl, fun he => by simp [Cycle.goesOn, he]⟩
  obtain ⟨u, heq, hcarry, hempty, hruns⟩ := hu
  rw [heq] at hexec
  have hfold : u.CarriesOn (u.recomputes.foldl State.recompute u) ∧ ∀ c, s.running = some c →
      ∃ d, (u.recomputes.foldl State.recompute u).running = some d ∧ c.Continues s.steer.tick d :=
    List.foldlRecOn (motive := fun v : State => u.CarriesOn v ∧ ∀ c, s.running = some c → ∃ d, v.running = some d ∧ c.Continues s.steer.tick d)
      u.recomputes _ ⟨.refl hcarry.form, hruns⟩ fun v hv e _ => by
        refine ⟨hv.1.recompute e, fun c hc => ?_⟩
        obtain ⟨d, hd, hcont⟩ := hv.2 c hc
        exact State.recompute_running hv.1.form hd hcont e
  have hnone : s.lock.cycles = [] → u.recomputes.foldl State.recompute u = s.continued := fun h => by
    have hlist : u.recomputes = [] := by
      rw [hempty h, State.recomputes]
      show s.lock.cycles.filter _ = []
      rw [h]
      rfl
    rw [hlist, List.foldl_nil, hempty h]
  generalize u.recomputes.foldl State.recompute u = v at hexec hfold hnone
  obtain ⟨hv, hvruns⟩ := hfold
  have hpark := v.parkStrays_spec
  generalize v.parkStrays = t at hexec hpark
  have hall := hcarry.trans hv
  refine ⟨t, hexec, ?_, ?_, ?_, fun h => ?_, fun c hc => ?_⟩
  · rw [hpark]
    exact hall.pair
  · rw [hpark]
    exact hall.mem
  · rw [hpark]
    exact hall.map
  · rw [hpark, hnone h]
    rfl
  · obtain ⟨d, hd, hcont⟩ := hvruns c hc
    refine ⟨d, ?_, hcont⟩
    rw [State.running_congr (t := t) (s := v) (by rw [hpark])]
    exact hd

/-! ## Claims -/

/-- What the pair notes of a claim. -/
def Pair.claims (x : Pair) : Pair := { x with claiming := true, takeover := false, planned := false, grantA := false, grantB := false }

theorem exec_claim {s : State} (hrung : s.rung ≤ 2) (hheld : s.held = false) (hclaim : s.pair.claiming = false)
    (hmay : (s.fget F.PAIR_STATUS.STATE = 0 ∧ s.ready = true ∧ s.bit F.PAIR_STATUS.ORPHANED = false ∧ s.mayClaimAt s.pair.headA = true) ∨
      (s.fget F.PAIR_STATUS.STATE = 2 ∧ s.pair.releasing.isSome = true ∧ (s.otherHolder s.pair.headA && s.otherHolder s.pair.headB) = false ∧
        2 ≤ (s.steer.tick + 2 ^ 32 - s.pair.partTick) % 2 ^ 32)) :
    ∃ t, exec .claim s = .next t ∧ t = { s with pair := s.pair.claims, counters := t.counters } := by
  have hlive : ¬(s.pair.claiming || decide (3 ≤ s.rung) || s.held) = true := by simp [hclaim, hheld]; omega
  refine ⟨_, congrArg Host.Outcome.next ((if_neg hlive).trans (if_pos ?_)), rfl⟩
  rcases hmay with ⟨hst, hready, horphan, hhead⟩ | ⟨hst, hrel, hgone, hticks⟩
  · simp [hst, hready, horphan, hhead]
  · rw [Bool.or_eq_true]
    refine .inr ?_
    simp only [hst, hrel, hgone, hticks, decide_true, Bool.not_false, Bool.and_self]

/-! ## The commands -/

theorem exec_pairHandover {s : State} {src : Src} (hacc : s.accepts 0x91 src) (force take : Bool) :
    exec (.pairHandover src force take) s = .next (pairHandover src force take (s.taking src)) := by
  show Host.Outcome.next (s.handle 0x91 src (pairHandover src force take)) = _
  rw [State.handle_accepted hacc]

/-- A planned release begins at the next tick. -/
theorem pairHandover_releases {s : State} {src : Src} (force : Bool) (hact : s.active = true) (hrel : s.pair.releasing = none)
    (hpart : s.fget F.PAIR_STATUS.PARTNER = 2 ∨ (s.fget F.PAIR_STATUS.PARTNER = 4 ∧ force = true)) :
    pairHandover src force false s = { s with pair := { s.pair with releasing := some (force, src) } } := by
  unfold pairHandover
  dsimp only
  rw [if_pos hact, if_neg (by decide), if_neg (by simp [hrel]), if_pos hpart]

/-- A cold claim begins with QUERY_HELD. -/
theorem pairHandover_asks {s : State} {src : Src} (force : Bool) (hst : s.fget F.PAIR_STATUS.STATE = 0 ∨ s.fget F.PAIR_STATUS.STATE = 4)
    (horphan : s.bit F.PAIR_STATUS.ORPHANED = true) (hen : s.pairEn = true) (hcold : s.pair.cold = none) :
    pairHandover src force true s = { s with pair := { s.pair with cold := some src, coldStep := 1 } } := by
  have hnot : ¬s.active = true := by
    rw [State.active, decide_eq_true_eq]
    omega
  unfold pairHandover
  dsimp only
  rw [if_neg hnot, if_pos (by rcases hst with h | h <;> simp [h, horphan, hen]), if_neg (by simp [hcold])]

/-- A cold claim is refused on an ACTIVE module, on one that is no orphan, and without a pair. -/
theorem pairHandover_refuses {s : State} {src : Src} (force : Bool)
    (h : s.active = true ∨ s.bit F.PAIR_STATUS.ORPHANED = false ∨ s.pairEn = false) :
    pairHandover src force true s = s.refuse 0x91 src .state := by
  unfold pairHandover
  dsimp only
  by_cases hact : s.active = true
  · rw [if_pos hact, if_pos rfl]
  · rw [if_neg hact, if_neg]
    rcases h.resolve_left hact with h | h
    · simp [h]
    · simp [h]

/-! ## The statement -/

/-- Settles O45: a trailer's answer grants, refuses or deposes, and what is judged after it leaves the seat; a cycle that goes on keeps its
paths; and a command begins a handover or is refused. -/
theorem windlass : Obligations.Windlass := by
  unfold Obligations.Windlass
  refine ⟨fun s _ hst hready horphan hclaim hrung hheld hhead => ?_, fun s _ hst hrel hclaim hrung hheld hgone hticks => ?_,
    fun s src tr hwf hrung hreset hrails hepoch hrel hcold hen hdir hsound hfree => ⟨?_, ?_, ?_⟩,
    fun s tr hwf hrung hreset hrails hepoch hrel hcold => ⟨?_, ?_, ?_, ?_⟩, fun s src force hwf hacc => ⟨?_, ?_, ?_⟩, fun s src hwf hacc => ?_,
    fun s hwf hact hdue => handoverContinue_spec hwf hact hdue⟩
  · exact exec_claim hrung hheld hclaim (.inl ⟨hst, hready, horphan, hhead⟩)
  · exact exec_claim hrung hheld hclaim (.inr ⟨of_decide_eq_true hst, hrel, hgone, hticks⟩)
  · exact fun harmed hclaim hgrant hresult => uplinkFrame_coldGranted hwf hrung hreset hrails hrel hcold harmed hclaim hgrant hresult
  · exact fun harmed hclaim hgrant hresult =>
      uplinkFrame_coldRefused hwf hrung hreset hrails harmed hclaim hgrant hrel hcold ⟨hen, hdir, hsound, hfree⟩ hresult
  · exact fun harmed hgrantA hgrantB hresult =>
      uplinkFrame_coldEnthroned hwf hrung hreset hrails hrel harmed hgrantA hgrantB hresult hcold ⟨hen, hdir, hsound, hfree⟩
  · exact fun harmed hclaim hgrant hresult => uplinkFrame_granted hwf hrung hreset hrails hrel harmed hclaim hgrant hresult hepoch hcold
  · exact fun harmed hclaim hgrant hresult => uplinkFrame_refused hwf hrung hreset hrails harmed hclaim hgrant hrel hcold hresult
  · exact fun harmed hgrantA hgrantB hresult => uplinkFrame_enthroned hwf hrung hreset hrails hrel harmed hgrantA hgrantB hresult hcold
  · exact fun harmed hact hclaim hheld hother => uplinkFrame_deposed hwf hrung hreset hrails hrel hcold harmed hact hclaim hheld hother
  · intro hact hrel hpart
    refine ⟨_, exec_pairHandover hacc force false, ?_⟩
    rw [pairHandover_releases (s := s.taking src) force hact hrel hpart]
    rfl
  · intro hcase
    refine ⟨_, exec_pairHandover hacc force true, ?_⟩
    rw [pairHandover_refuses (s := s.taking src) force hcase]
    exact hacc.refused hwf .state 0
  · intro hst horphan hen hcold
    refine ⟨_, exec_pairHandover hacc force true, ?_⟩
    rw [pairHandover_asks (s := s.taking src) force hst horphan hen hcold]
    rfl
  · obtain ⟨hanswer, hreports⟩ := hacc.settled hwf 0x90 .done 0 0 (le 4 (s.word 0x300000).toNat ++ le 4 (s.word 0x300004).toNat ++
      le 4 (s.word 0x300010).toNat ++ le 4 0 ++ le 8 s.pair.partnerHash ++ le 4 s.pair.partnerFw) []
    refine ⟨_, ?_, hreports, hanswer⟩
    show Host.Outcome.next (s.handle 0x90 src _) = _
    rw [State.handle_accepted hacc]
    rfl

end Sys2Proof.Machine
end
